-- ==== Sys2Proof/Word.lean ====
section
/-! DEFINITION. The word types and the plain shapes shared by every part of the model: register words, bytes, the
access codes and retention classes of the register tables (R9, R11), clock domains (R24, R25), one field and one
register of the register map (R412), and the sparse maps that hold numbered state. -/

namespace Sys2Proof

/-- A register word (R6). -/
abbrev Word := BitVec 32

/-- A byte. -/
abbrev Byte := BitVec 8

/-- Numbered state held sparsely: key and value pairs, keys strictly rising, no entry equal to the map's default. The
operations stand in Machine/SMap.lean. -/
abbrev SMap (α : Type) := List (Nat × α)

namespace Machine

/-- The access codes of Table 00-2 (R9). -/
inductive Access where
  | ro | rw | w1c | wo | live
  deriving DecidableEq, Repr

/-- The retention classes of Table 00-3 (R11). -/
inductive Cls where
  | P | V | I | W | L
  deriving DecidableEq, Repr

/-- The clock domains that registers belong to (R24, R25). -/
inductive Dom where
  | aclk | fclk | hclk | sclk | pclk
  deriving DecidableEq, Repr

/-- One field of a register: its number in the model's list of fields, its lowest bit, its length in bits, its reset
value, access code and retention class. -/
structure Fld where
  id    : Nat
  lo    : Nat
  len   : Nat
  reset : Nat
  acc   : Access
  cls   : Cls
  deriving DecidableEq, Repr

/-- One register or array of registers: its number in the model's list, base address, stride, count, clock domain and
its fields from high bits to low bits (reserved bits have no field: R8). -/
structure RegRow where
  rid    : Nat
  base   : Nat
  stride : Nat
  count  : Nat
  dom    : Dom
  fields : List Fld
  deriving DecidableEq, Repr

end Machine
end Sys2Proof
end

