-- ==== Sys2Proof/Syntax.lean ====
section
/-! DEFINITION. The commands of the block: one constructor of `Instr` per row of spec/opcode_table.json, with the
operands the row's rule names, and the types of those operands. A measured quantity (a sample, a mean, a bit pattern, a
received frame) enters as an operand at the point where the spec's own formulas begin; everything the spec computes from
it is computed by the meanings. Object numbers have the bounded types of their ranges (R5). -/

namespace Sys2Proof

/-- A channel stream, 0 to 143 (Table 00-1). -/
abbrev Chan := Fin 144
/-- A stream of a channel or a spare, 0 to 169 (Table 00-1). -/
abbrev Strm := Fin 170
/-- An analog channel: its stream number, 0 to 111. -/
abbrev AChan := Fin 112
/-- A bitstream channel B00 to B31. -/
abbrev BChan := Fin 32
/-- A spare modulator, in the order of their streams: k.s0 and k.s1 for banks A to L, then U.s0 and W.s0 (R5). -/
abbrev Spare := Fin 26
/-- A meter M00 to M47. -/
abbrev Meter := Fin 48
/-- A grid group GG0 to GG3. -/
abbrev Grp := Fin 4
/-- A pulse output CF00 to CF15. -/
abbrev Out := Fin 16

/-- A write frame as it crosses the wire (R400, R405): the eight header bytes, the data words, the data CRC, and whether
QCS_N stayed low to the last bit of the data CRC. -/
structure WriteFrame where
  hdr      : List Byte
  words    : List Word
  dcrc     : BitVec 16
  complete : Bool
  deriving DecidableEq, Repr

/-- What makes a channel overload (R56): a main-tap sample beyond 112.5 % of range, or a run of 24 identical modulator bits, which
may persist despite the integrator resets (R57). `mag` is the largest main-tap magnitude before clipping, as a fraction of range.
-/
inductive OvlCause where
  | sample (mag : Rat)
  | run (ones persists : Bool) (mag : Rat)
  deriving DecidableEq, Repr

/-- Statistics of an estimation window of 192,000 main-tap samples (R81): the means of the incumbent x and the incoming
y, the variances of both and their covariance, as fractions of range. -/
structure EstStats where
  mx   : Rat
  my   : Rat
  varx : Rat
  vary : Rat
  cov  : Rat
  deriving DecidableEq, Repr

/-- A run of samples of one channel as they reach the metering core at a meter's preset rate (R107, R121). Sample i has index
`first` + i and describes its group's sampling instant after the group A instant `first` + i output periods of site time. A local
stream's samples are in engine units, after remount correction, response slots and DC removal; a remote stream's, and a twin's of
an adopted channel, are in volts or amperes. `ref` is a channel reference of R118 with VIRT at 0. -/
structure ChanRun where
  ref   : BitVec 16
  first : Nat
  xs    : List Rat
  deriving DecidableEq, Repr

/-- A run of engine results of one channel stream at a fixed rate: the CANTER tap or the high-band tap. Sample i has index `first`
+ i, counted in sample periods of site time. In units of 2⁻²⁸ (R95). -/
structure StreamRun where
  n     : Chan
  first : Nat
  xs    : List Int
  deriving DecidableEq, Repr

/-- What an interval of a meter brings: the site times of its start and end, the runs of samples of the channels the meter uses,
as far before and after as interpolation and filters reach (R122 to R125), the largest main-tap magnitude of each of its streams
as a fraction of range, and the streams of which a precision-path result saturated (R99). -/
structure Interval where
  startT  : Nat
  endT    : Nat
  runs    : List ChanRun
  peaks   : List (Strm × Rat)
  sats    : List Strm
  deriving DecidableEq, Repr

/-- A remote sample that has not arrived in time (R133): its channel reference and its index. -/
structure MissedSample where
  ref : BitVec 16
  k   : Nat
  deriving DecidableEq, Repr

/-- A channel item of a compare record (Table 11-5). -/
structure ChanItem where
  stream : Nat
  cflags : Nat
  wflags : Nat
  tend   : Nat
  rms    : Nat
  mean   : Nat
  phase  : Nat
  wrms   : Nat
  deriving DecidableEq, Repr

/-- A meter item of a compare record (Table 11-6): 16 increments for each set in `sets`. -/
structure MeterItem where
  meter : Nat
  sets  : Nat
  qual  : Nat
  tend  : Nat
  inc   : List Int
  deriving DecidableEq, Repr

/-- A compare record (Table 11-4); `pulse` holds a residue and a count for each output. -/
structure CmpRec where
  flags  : Nat
  seq    : Nat
  digest : Nat
  time   : Nat
  pulse  : List (Int × Nat)
  chans  : List ChanItem
  mtrs   : List MeterItem
  deriving DecidableEq, Repr

/-- A training set (R223). `good`: it was received without error; `acked`: it acknowledges this device's own sets. -/
structure TrainSet where
  side     : BitVec 1
  leadSide : BitVec 1
  uid      : BitVec 64
  version  : Byte
  metering : Bool
  good     : Bool
  acked    : Bool
  deriving DecidableEq, Repr

/-- A state-transfer message: the checkpoint exchange of R227 (the TIME of the restored slot and the registered values by key, and
the pulse residues and counts of R153), or the accumulators, deficits, residues and counts of R228 as of an exchange instant. -/
inductive Transfer where
  | checkpoint (time : Nat) (vals : List (Nat × Nat)) (pulse : List (Int × Nat))
  | running (time : Nat) (accs : List (Nat × Nat × Nat)) (pulse : List (Int × Nat))
  deriving DecidableEq, Repr

/-- Control messages of Tether (R225). `commit` names the site time from which both devices take the new values (R215). -/
inductive TwnMsg where
  | swap
  | detach
  | commit (sel pass : List Nat) (t : Nat)
  | commitAck (ok : Bool)
  | failed
  | digest (r : Fin 11) (bytes : List Nat)
  | arbitrate (n : Nat)
  deriving DecidableEq, Repr


/-- The kinds of harmonic-engine bursts (Table 08-2), those of a group with the group. -/
inductive BurstKind where
  | resampler
  | phasors (g : Grp)
  | windows (g : Grp)
  | lowBand
  | highBand
  | arc
  deriving DecidableEq, Repr

/-- A read of a calibration set whose copy A, or B, failed its CRC. `again`: copy A failed at its second read too (R200). -/
structure SetFail where
  set   : Fin 8
  copyB : Bool
  again : Bool
  deriving DecidableEq, Repr

/-- A read of the Vault at start-up that failed its CRC: a checkpoint slot, whose second read (`again`) may fail too (R137); a
modulator's stored corrections, whose copy A (`a`), at its second read, and copy B (`b`) may fail too (R76, R200); or a
calibration set. -/
inductive LoadFail where
  | slot (pos : Fin 64) (again : Bool)
  | corr (md : Fin 138) (a b : Bool)
  | set (f : SetFail)
  deriving DecidableEq, Repr

/-! ### Fault supervision (R247 to R261) -/

/-- What a word of SRAM holds (Table 12-3): a retained sample of a meter, a posted result, a word of a frame in the queue of a link port
(`sent`: this device's own, else one received), of a capture buffer, or of the controller's program and data. -/
inductive SramData where
  | retained (m : Fin 48)
  | results
  | queue (port : Fin 4) (lseq : BitVec 16) (sent : Bool)
  | capture
  | program
  deriving DecidableEq, Repr

/-- A record of the Vault by what it is (Table 22-8): a block of a checkpoint slot, a ledger position, a block of a copy of a
calibration set, a copy of a strongbox slot, or another block of the main array. -/
inductive VaultRec where
  | ckpt (pos : Fin 64) (blk : Fin 16)
  | ledger (pos : Fin 2048)
  | calSet (set : Fin 8) (copyB : Bool) (blk : Fin 37)
  | slot (i : Fin 256) (copyB : Bool)
  | other (blk : Fin 217)
  deriving DecidableEq, Repr

/-- A step of a scrubbing path (Table 12-6). `err`: the first read or answer is wrong, and whether the retry passes. `last`: the
step ends a full pass. -/
inductive ScrubPath where
  | sram (bank : Fin 48) (row : Fin 514) (data : SramData) (err : Option Bool) (last : Bool)
  | vault (x : VaultRec) (err : Option Bool) (last : Bool)
  | rom (same : Bool)
  | fuses (same : Bool)
  | fltLane (lane : Fin 11) (err : Option Bool)
  | hrmLane (lane : Fin 17) (err : Option Bool)
  deriving DecidableEq, Repr
/-- The link ports (R264), with the numbers of R259: 0 T, 1 U, 2 D, 3 S. -/
abbrev Port := Fin 4
/-- A caravan port with its register index: 0 U, 1 D, 2 S (Table 13-6). -/
abbrev CPort := Fin 3
/-- A position in a caravan (R262). -/
abbrev Pos := Fin 64

/-- A training set as received on port T (R223), or on a caravan port (R266): there the neighbour's CARID, position and
identity, whether it holds ring time (R267), whether the set passed its CRC, and whether it acknowledges this device's
sets. -/
inductive TrainRecv where
  | tether (ts : TrainSet)
  | port (p : CPort) (carid : BitVec 16) (pos : Pos) (uid : BitVec 64) (ringTime good acked : Bool)
  deriving DecidableEq, Repr

/-- A channel block of a caravan-sample frame (R273): the site time of its first sample, the preset, the flags, and the samples,
as many as the block's count, scaled, corrected and aligned to group A's instants. -/
structure SampleBlock where
  stream : Chan
  time   : Nat
  preset : Fin 8
  ovr    : Bool
  opened : Bool
  settle : Bool
  nosync : Bool
  xs     : List Rat
  deriving DecidableEq, Repr

/-- What a timing mark carries (R268, R278): the head's site time and its count of MCLK periods then, the mark's sequence number and
hop count, CORR in picoseconds, the count of steps of site time made, and a step to come: its whole second and its offset. -/
structure MarkBody where
  site  : Nat
  mclk  : Nat
  seq   : BitVec 16
  hops  : Nat
  corr  : Nat
  steps : Nat
  step  : Option (Nat × Int)
  deriving DecidableEq, Repr

/-- What a link frame carries (Table 13-2). Timing marks and delay exchanges have commands of their own, and so have
training sets and Tether messages; here they only use the link. `training`: a port training set with CARID, position, identity and
whether the sender holds ring time. `discover`: a discovery frame passing, with the ring state the head has set, and the members that it
has passed, each with the link delays of its ports. `broken`: a break frame, naming the two positions of the broken link. `ask`: the
head's request for missing sample frames by ESEQ. `summary`: SEQ and COUNT, and the keys and values of the slot. `capture`: a capture
burst: stream, site time of its first sample, loss flag and samples. -/
inductive LinkBody where
  | idle
  | tether (type : Fin 4)
  | training (carid : BitVec 16) (pos : Pos) (uid : BitVec 64) (ringTime acked : Bool)
  | mark (m : MarkBody)
  | delay
  | discover (ring : Fin 4) (path : List (Pos × List (BitVec 32)))
  | broken (a b : Pos)
  | subscribe (xs : List (Chan × Fin 8))
  | ask (eseqs : List (BitVec 16))
  | samples (bs : List SampleBlock)
  | coverage (stream : Chan) (start tend : Nat) (covered : Bool)
  | summary (seq count : Nat) (keys vals : List Nat)
  | capture (stream : Chan) (time : Nat) (lost : Bool) (xs : List Rat)
  | other (type : Byte)
  deriving DecidableEq, Repr

/-- A link frame as it arrives (Table 13-1), but for its TYPE, which its body names: the header's fields, the payload's bytes, the CRC,
and what the payload says. -/
structure LinkFrame where
  flags   : Byte
  src     : Byte
  dst     : Byte
  lseq    : BitVec 16
  eseq    : BitVec 16
  len     : BitVec 16
  payload : List Byte
  crc     : BitVec 32
  body    : LinkBody
  deriving DecidableEq, Repr

/-- A timing mark as it reaches a port (R268): what it carries, this device's residence time until it is forwarded, in picoseconds, and
this device's MCLK phase less the head's at the mark, in 0.1 ns, with the path delays taken out. -/
structure TimingMark where
  body      : MarkBody
  residence : Nat
  phase     : Int
  deriving DecidableEq, Repr

/-- What the body of a Wayline frame says, where the spec gives its contents and no layout (R294 to R296). `beacon`: the
site time at which its first preamble sample left, and this node's site time at which that sample arrived; level, MCAR,
SITEID, TERR, step count, and the slot. `sound`: the SNR measured on each carrier from 93 on, in 0.25 dB. `tmap`: the tone
map's number and its information bits per symbol. -/
inductive WayInfo where
  | nothing
  | beacon (sent arrived : Nat) (level : Fin 16) (mcar : Byte) (siteid terr : BitVec 16) (steps : Nat) (bslot : Fin 16)
  | discovery (uid : BitVec 64) (level bslot : Fin 16)
  | sound (snrs : List Nat)
  | tmap (tmi : Fin 16) (bits : Nat)
  deriving DecidableEq, Repr

/-- A Wayline frame as the receiver decodes it (Tables 14-5, R290): the side it came from (true: DC), whether its frame-control
CRC is right, the fields of frame control, the payload bytes and the mean SNR in 0.25 dB. `rx`: of each payload symbol the samples
of its transform on each receive path in use, as fractions of the receive converter's full scale (R288). -/
structure WayFrame where
  dcSide  : Bool
  fcOk    : Bool
  netid   : BitVec 16
  ta      : BitVec 16
  ra      : BitVec 16
  ftype   : Fin 16
  nsym    : Nat
  seq     : Byte
  kidx    : Fin 4
  payload : List Byte
  snr     : Nat
  info    : WayInfo
  rx      : List (List (List Rat))
  deriving DecidableEq, Repr

/-! ### Itinerary (R304 to R323) -/

/-- STATE of a region copy (Table 15-3). -/
inductive CopyState where
  | incomplete | written | committed
  deriving DecidableEq, Repr

/-- A region copy in the flash (Table 15-3). `formatOk`: FORMAT is 1 and the reserved fields are zero. `crcOk`: its CRC
matches. -/
structure RegionCopy where
  state    : CopyState
  region   : Nat
  formatOk : Bool
  gen      : Nat
  len      : Nat
  digest   : List Byte
  crcOk    : Bool
  body     : List Word
  deriving DecidableEq, Repr

/-- A slot of the directory: ADDRA, ADDRB and MAXLEN (Table 15-1). -/
structure DirSlot where
  a      : Nat
  b      : Nat
  maxlen : Nat
  deriving DecidableEq, Repr

/-- A copy of the directory (Table 15-1). `crcOk`: its CRC matches. -/
structure Directory where
  magic  : Nat
  format : Nat
  nreg   : Nat
  slots  : List DirSlot
  crcOk  : Bool
  deriving DecidableEq, Repr

/-- What the flash's SFDP gives (R304): density as log2 of bytes, 4-byte addressing, a 4 KiB erase, opcode and dummy clocks of
the 1-4-4 and of the 1-1-4 fast read, and operation in SPI mode 0 at 24.576 MHz. -/
structure Sfdp where
  size    : Nat
  addr4   : Bool
  erase4k : Bool
  q144    : Option (Nat × Nat)
  q114    : Option (Nat × Nat)
  speedOk : Bool
  deriving DecidableEq, Repr

/-- The contents of the flash. `sfdp`: none where no SFDP can be read. `copies`: copies A and B of regions 0 to 10, as the
directory in use addresses them. -/
structure FlashImage where
  sfdp   : Option Sfdp
  dir1   : Directory
  dir2   : Directory
  copies : List (RegionCopy × RegionCopy)
  deriving DecidableEq, Repr
/-! ### Porter domain (R341 to R362) -/

/-- A sample of a porter detector: the level of TAMPn; what the receiver of loop j reads when its pulse drives 0 and when it drives
1; the flux density at the Hall plate in mT; the level of FLDIN; whether CMPB stands above its reference. -/
inductive PrtSample where
  | static (n : Fin 8) (level : Bool)
  | loop (j : Fin 4) (rx0 rx1 : Bool)
  | hall (flux : Rat)
  | fldin (level : Bool)
  | cmpb (above : Bool)
  deriving DecidableEq, Repr

/-- A power-fail report (R416): the site time, and the samples of the intervals that it closes, by meter. -/
structure PowerFailure where
  t    : Nat
  runs : List (Meter × List ChanRun)
  deriving DecidableEq, Repr

/-- What the twin sends in CHECK (R224): the digests of INPUTS, FILTERS, METERS, PULSES and GRID, and whether it holds the driver role. -/
structure DigestMsg where
  digests : List Byte
  role    : Bool
  deriving DecidableEq, Repr

/-- A Tether message that is incomplete at its deadline (R226): this device's or the twin's, its type less 1, and its MSEQ. -/
structure LateMsg where
  sent : Bool
  type : Fin 4
  mseq : BitVec 16
  deriving DecidableEq, Repr

/-- The commands: one constructor per row of spec/opcode_table.json. -/
inductive Instr where
  /-- R7: A host read of the lower word of a 64-bit quantity returns it and captures the upper word for the next upper-word read. -/
  | read64LowerWord (addr : Nat)
  /-- R404: An accepted read frame captures and shifts out LEN register words, then the status word and response CRC. -/
  | hostReadFrame (hdr : List Byte)
  /-- R405: An accepted write frame executes its words in order once its data CRC passes; this covers writes to registers that
  have no row of their own. -/
  | hostWriteFrame (f : WriteFrame)
  /-- R407: A frame with LEN 0 and no reserved bit set executes nothing and returns the status word. -/
  | statusPoll (hdr : List Byte)
  /-- R25: An accepted write to a stopped clock domain takes effect before its unit's first operation after the clock restarts. -/
  | postedWriteTakesEffect (d : Machine.Dom)
  /-- R419: All main supplies become good, the main reset is held for 200 us, and the device moves from BACKUP to STANDBY. -/
  | mainPowerGood
  /-- R419: A main supply falls below its threshold, the main reset is held, and the device enters BACKUP. -/
  | mainPowerGoodFalls
  /-- R422: nRST held low for at least 1 us starts a main reset of cause 3. -/
  | nrstAsserted
  /-- R422: The main reset is released 200 us after its last source ends; CAUSE is set and PUPS incremented. -/
  | mainResetRelease
  /-- R37: 10 us after the release of main reset the straps are sampled; a high WSEL3 marks the board faulty under R38. -/
  | strapSample (wsel : BitVec 4)
  /-- R37: 20 us after the release of main reset WSEL0-WSEL3 are driven low. -/
  | strapPinsDriven
  /-- R421: PLL-M locks at start-up; the SRAM and Vault maps are applied and DSTATE is evaluated from the stored retirements. -/
  | pllMLocked
  /-- R311: The hardware loader reads SFDP, the directory and every region, choosing and checking the copies. -/
  | itineraryRead (board : Option FlashImage) (noise : List (Fin 22))
  /-- R421: The itinerary load completes: LOAD reads 2, Tether SEEK and port training begin, and the porter profile is compared. -/
  | itineraryLoaded (fs : List LoadFail)
  /-- R370: The ledger index of the 2048 positions is complete and LDG_ST.READY is set. -/
  | ledgerIndexBuilt (bad : List (Fin 2048 × List Word)) (once : List (Fin 2048))
  /-- R18: The supervisory controller first runs and writes the queued events, the loss summary and the porter slots to the
  ledger. -/
  | controllerFirstRun (corrupt : List (Fin 16))
  /-- R419: The device passes from STANDBY to RUN: MCLK, FCLK and ACLK start, the modulators are powered, and the remount
  corrections are put in force. -/
  | enterRun
  /-- R421: The internal reference has settled within 20 ppm and the start-up trim run begins. -/
  | referenceSettled
  /-- R421: Metering starts at the first exchange instant after the passing trim run, and the session word is set. -/
  | meteringStart (t : Nat)
  /-- R422: A write of PWR_CTL.RST performs the steps of R420 and then a main reset of cause 4. -/
  | pwrRst
  /-- R420: A write of PWR_CTL.STBY detaches, writes a final checkpoint, releases the CF pins, and stops the RUN clocks. -/
  | pwrStby
  /-- R419: A write of PWR_CTL.RUN in STANDBY restarts metering from the RUN row of start-up. -/
  | pwrRun
  /-- R416: CMPA below its reference for 10 us: PFAIL is set, intervals are closed, and the final checkpoint is started. -/
  | powerFailReport (x : PowerFailure)
  /-- R136: The final checkpoint is written; the session word is cleared and the queued ledger records are flushed. -/
  | finalCheckpointComplete (t : Nat)
  /-- R417: CMPA stays above 1.225 V for RECWAIT ms and the device resumes in full in RUN. -/
  | powerFailRecovery
  /-- R254: A lockstep mismatch stops both controller cores and starts a warm restart from the FIRMWARE region. -/
  | warmRestart
  /-- R17: The controller runs again after a warm restart, writes the hardware event queue to the ledger, and resumes its firmware
  functions. -/
  | warmRestartComplete
  /-- R26: XCLK stops or strays for 100 us and is switched to the RC fallback; accumulators become UNVERIFIED. -/
  | xclkFallback
  /-- R26: Every 10 ms the RC fallback is trimmed against PCLK. -/
  | rcTrim
  /-- R26: After 1 s of good crystal the device returns to the crystal at the next 20 ms site-time boundary. -/
  | xclkReturn (t : Nat)
  /-- R21: Site time reaches a multiple of 20 ms, a boundary for channels in no grid group. -/
  | dcGridBoundary (t : Nat)
  /-- R56: A main-tap sample beyond 112.5 % of range or a run of 24 identical modulator bits sets OVR. -/
  | inputOverload (n : AChan) (cause : OvlCause)
  /-- R56: 192 consecutive main-tap samples below 100 % of range clear OVR. -/
  | ovrClear (n : AChan) (mag : Rat)
  /-- R57: The integrators of the feeding modulator are reset within 4 MCLK periods of a run of 24 identical bits. -/
  | modulatorIntegratorReset (n : AChan)
  /-- R62: Every 1 ms each analog pin's window comparator is sampled, and OPEN clears when both pins lie inside the window. -/
  | openWindowSample (n : AChan) (pOut nOut : Bool)
  /-- R62: A pin stays outside the window for OSDT x 10 ms and OPEN is set. -/
  | openQualified (n : AChan)
  /-- R70: A bitstream input shows no transition for 64 clock periods and STUCK is set. -/
  | stuckDetect (b : BChan)
  /-- R70: The first transition on a stuck bitstream input clears STUCK. -/
  | stuckClear (b : BChan)
  /-- R70: The ones-density over the latest 256 bits exceeds DENSLIM and DENS is set. -/
  | densSet (b : BChan) (ones : Fin 257)
  /-- R70: The density stays within the limit for 1 ms and DENS clears. -/
  | densClear (b : BChan)
  /-- R71: At a grid-cycle boundary a newly enabled channel's stream starts. -/
  | channelEnableApply (n : Chan)
  /-- R71: At a grid-cycle boundary a disabled channel's stream carries zeros and its status flags clear. -/
  | channelDisableApply (n : Chan)
  /-- R71: A new BURN value takes effect on both pins at a grid-cycle boundary. -/
  | burnChangeApply (n : AChan)
  /-- R71: New SDLY, LAT or INV take effect at a decimator frame boundary that coincides with a grid-cycle boundary. -/
  | bitstreamTimingApply (b : BChan)
  /-- R205: A bitstream SENSOR change takes effect with its trace values at the first frame and grid boundary after its trim run
  passes. -/
  | bitstreamSensorApply (b : BChan)
  /-- R79: At a spare's slot start the free spares are assigned rotation entries and self-check begins. -/
  | remountSlotStart (sp : Spare) (k : Nat)
  /-- R83: Self-check ends: its limits are tested and the spare connects to the channel's pins, or it repeats, or it is retired. -/
  | selfCheckComplete (sp : Spare) (off gain : Rat)
  /-- R77: Settling on the pins ends and overlap estimation starts. -/
  | settlingEnd (sp : Spare)
  /-- R81: Overlap estimation completes; the match is tested and the crossfade starts, or the estimation restarts, or disagreement
  resolution begins. -/
  | handoverMatch (sp : Spare) (e : EstStats)
  /-- R82: A crossfade held back for 100 ms after its window ends makes the estimation restart. -/
  | crossfadeHoldTimeout (sp : Spare)
  /-- R81: 64 crossfade samples end and the incoming modulator alone feeds the channel; FEED changes. -/
  | spliceInstant (sp : Spare)
  /-- R77: The channel's modulator leaves the pins for the dummy load and connects to the internal reference. -/
  | modulatorOffline (sp : Spare)
  /-- R83: The off-line measurement ends; offset, gain and INL are tested and the modulator reconnects, or the measurement
  repeats, or the modulator is retired. -/
  | offlineMeasurementComplete (sp : Spare) (short : Rat) (pts : List Rat)
  /-- R77: Settling of the returned modulator ends and cross-check estimation starts. -/
  | returnSettlingEnd (sp : Spare)
  /-- R81: Return estimation completes; the cross-check is tested and the return crossfade starts, or disagreement resolution
  begins. -/
  | crossCheck (sp : Spare) (e : EstStats)
  /-- R77: After the return splice the spare leaves the pins and the dummy load returns. -/
  | spareLeavesPins (sp : Spare)
  /-- R84: B's estimation completes and the outlier is retired or substituted. -/
  | disagreementEstimate (sp : Spare) (e : EstStats)
  /-- R87: At the next grid-cycle boundary a substitute's match is removed by a 64-sample crossfade. -/
  | matchRemoval (n : AChan)
  /-- R88: A live RANGE or SENSOR change crossfades at the first grid-cycle boundary after its match passes, and the new settings
  take effect at the splice. -/
  | liveChangeCrossfade (sp : Spare)
  /-- R90: A write of RMT_FORCE.GO requests a slot for a channel, or is refused with REJ. -/
  | forceSlot (n : Fin 256)
  /-- R100: A filter lane result fails its mod-15 residue and the section is recomputed within 1 us. -/
  | filterResidueMismatch (lane : Fin 11)
  /-- R248: The failed section is retried in the next period's reserve, counting a transient or retiring the lane. -/
  | filterLaneRetry (lane : Fin 11) (pass : Bool)
  /-- R101: At the next period start the engine rebuilds its schedule over the lanes in service. -/
  | scheduleRebuild
  /-- R110: |FAST| reaches the threshold at two consecutive samples and OVC is set. `fs`, here and below: the fast-path results that
  have come since, oldest first. -/
  | ovcSet (n : Strm) (fs : List (BitVec 16))
  /-- R110: L consecutive samples below 7/8 of the threshold clear OVC. -/
  | ovcClear (n : Strm) (fs : List (BitVec 16))
  /-- R110: |FAST[k] - FAST[k-L]| reaches the threshold and STEP is set. -/
  | stepSet (n : Strm) (fs : List (BitVec 16))
  /-- R110: STEP clears 24 samples after the last sample that reached the threshold. -/
  | stepClear (n : Strm) (fs : List (BitVec 16))
  /-- R111: 24 samples after an FPR change, OVC and STEP are evaluated again. -/
  | fastPathHoldoffEnd (n : Chan)
  /-- R112: The lent slot's warm-up of the new responses ends. -/
  | responseWarmUpEnd (n : AChan)
  /-- R112: At the grid-cycle boundary the old and new chains crossfade, the channel takes the new chain, and the spare is
  released. -/
  | responseCrossfade (n : AChan)
  /-- R113: At the grid-cycle boundary the new chain replaces the old with preset states, and SETTLE is set. -/
  | presetStateSwitch (n : Chan)
  /-- R113: The longest settle time of the new responses passes and SETTLE clears. -/
  | settleEnd (n : Chan)
  /-- R111: A meter's new PACE takes effect at the next grid-cycle boundary. -/
  | paceChangeApply (m : Meter)
  /-- R126: A meter's interval ends, its quantities are computed, and its energies are directed to accumulators. -/
  | intervalEnd (m : Meter) (iv : Interval)
  /-- R125: All results of an interval are posted together to MTR_RES and the accumulators, with their qualities. -/
  | intervalPosting (m : Meter)
  /-- R133: A caravan meter's remote sample has not arrived 1 ms late; it is substituted and RLOSS is set. -/
  | remoteSampleDeadline (m : Meter) (missing : List MissedSample)
  /-- R132: A write of MTR_HOLD starts, continues or ends a result hold of a meter. -/
  | mtrHoldWrite (hold : Bool) (meter : Fin 64)
  /-- R132: A meter hold ends 1 s after it began and EXP is set. -/
  | mtrHoldExpire
  /-- R131: A write of ACC_QUAL.QCLR sets QWORST to QNOW. -/
  | accQclr (a : Fin 3072)
  /-- R134: A METERS update or K change takes effect at each meter's first interval boundary after the apply instant. -/
  | metersApply (m : Meter)
  /-- R136: At each whole second the next checkpoint slot is written. -/
  | periodicCheckpoint (t : Nat)
  /-- R144: At each pulse tick the residue receives its share and a pulse may start; the net is read and PINERR tested. -/
  | pulseTick (net : BitVec 16)
  /-- R144: WIDTH ticks after its start a pulse ends and the driver releases the pin. -/
  | pulseEnd (c : Out)
  /-- R147: 96 consecutive agreeing ticks clear PINERR. -/
  | pinerrClear (c : Out)
  /-- R149: Every 10 ms each paired device records its residues and counts and sends its compare record. -/
  | exchangeInstant (t : Nat) (runs : List ChanRun)
  /-- R151: At exchange instant H the Lead role and the driver role pass to the other device. -/
  | orderlyRoleChange
  /-- R154: A PULSES update takes effect at the first interval end of the source meter. -/
  | pulsesApply (c : Out)
  /-- R177: At each half-cycle mark Urms(1/2) is formed and the dip, swell, interruption and RVC states are tested. -/
  | halfCycleMark (g : Grp) (t : Nat) (mid : Option Rat) (us : List StreamRun)
  /-- R160: The NCO passes zero; the boundary is stamped and the tracker, frequency and excursion tests are applied. -/
  | cycleBoundary (g : Grp) (t : Nat) (rms e nco : Rat) (measured : Option Rat)
  /-- R161: In ACQ the aligning boundary is placed at an upward zero crossing and the window in progress is abandoned. -/
  | aligningBoundary (g : Grp) (t : Nat) (rms measured : Rat)
  /-- R159: HOLDT boundaries pass in HOLD and the tracker enters SEEK. -/
  | trackerHoldExpire (g : Grp)
  /-- R162: At each whole 10 s of site time GRD_F10S is posted. -/
  | f10sPost (t : Nat)
  /-- R164: The per-cycle phasors and DC of each member are posted within 3 ms of the boundary. -/
  | cyclePhasorsPost (g : Grp) (ps : List StreamRun)
  /-- R165: A window of N cycles ends; DC injection and RoCoF are computed and pending membership or SMOOTH changes take effect. -/
  | windowEnd (g : Grp)
  /-- R167: A window's harmonic groups and distortion figures are posted within 6 ms. -/
  | windowResultsPost (g : Grp) (ws : List StreamRun)
  /-- R170: The next burst of a kind falls due before the previous one completes; its results are discarded and MISS increments. -/
  | harmonicBurstOverrun (k : BurstKind)
  /-- R171: A harmonic lane result fails its residue and is recomputed in the burst. -/
  | harmonicResidueMismatch (lane : Fin 17) (pass : Bool)
  /-- R172: A write of HRM_HOLD starts, continues or ends a hold of a stream's harmonic results. -/
  | hrmHoldWrite (hold : Bool) (stream : Fin 256)
  /-- R172: A harmonic hold ends after 1 s and EXP is set. -/
  | hrmHoldExpire
  /-- R173: A newly enabled group's tracker enters SEEK at the next boundary for channels in no group. -/
  | gridEnableApply (g : Grp) (t : Nat)
  /-- R173: At its next boundary a disabled group's tracker enters OFF and any event in progress ends with CUT. -/
  | gridDisableApply (g : Grp) (t : Nat)
  /-- R173: At the next boundary an FNOM or REF change puts the tracker in HOLD or SEEK and abandons the window. -/
  | gridReferenceChange (g : Grp) (t : Nat)
  /-- R180: An ended dip, swell, interruption, RVC or excursion record is posted once the previous record's snapshot is taken. -/
  | disturbanceRecordPost (g : Grp)
  /-- R186: Each 200 ms period ends, and the low bands, high-band AVG and MAX, and summaries are posted. -/
  | lowBandPeriod (t : Nat) (ls : List StreamRun)
  /-- R187: Every 2.5 ms a 1920-sample block is transformed and the arc statistic updated. -/
  | highBandBlock (bs : List StreamRun)
  /-- R189: A write of DST_HBSEL selects the paged stream and starts or ends a hold. -/
  | hbPageSelect (hold : Bool) (stream : Fin 256)
  /-- R189: A page hold ends after 1 s and EXP is set. -/
  | hbPageHoldExpire
  /-- R202: A trigger starts a trim run, or queues one further run if a run is in progress. -/
  | trimRunStart
  /-- R203: A trim run ends; it passes, repeats, or keeps the values in force with event 123. -/
  | trimRunComplete (bad : Bool) (fs : List SetFail)
  /-- R205: A passing run's values take effect at each channel's next grid-cycle boundary. -/
  | trimResultsApply (n : Chan)
  /-- R202: A write of CAL_CTL.TRIG starts a trim run. -/
  | calTrig
  /-- R208: A write of CAL_CTL.START starts a reference session in CHECK, or is refused with REJ. -/
  | calStart
  /-- R207: CHECK ends and the session enters ZERO_WAIT or APPLY_WAIT. -/
  | calCheckComplete
  /-- R207: A write of CAL_CTL.STEP starts the zero or applied measurement. -/
  | calStep
  /-- R207: 2 s of settling in MEAS end and the windows begin. -/
  | calSettlingEnd
  /-- R210: A measurement window ends and its values are formed, or it is repeated. -/
  | calWindowEnd (runs : List ChanRun)
  /-- R211: A spare completes its REFIN measurement and the new REFK is formed. -/
  | refinMeasureComplete (vm spread : Rat)
  /-- R212: At RESULT the candidates are computed and tested, and the session enters PASSED or FAILED. -/
  | calResult (fs : List SetFail)
  /-- R214: A write of CAL_CTL.COMMIT writes the passing entries into a temperature set. -/
  | calCommit
  /-- R214: The set is written, event 121 is raised, and a trim run starts. -/
  | calCommitComplete (fs : List SetFail)
  /-- R207: A write of CAL_CTL.ABORT returns the session to IDLE and discards its results. -/
  | calAbort
  /-- R216: A write of CAL_CTL.ERASE erases a set and starts a trim run. -/
  | calErase (set : Fin 8)
  /-- R207: 600 s without progress ends a waiting or finished session. -/
  | calSessionTimeout
  /-- R223: A Tether or port training set is received; training completes or fails on a strap conflict. -/
  | trainingSetReceive (x : TrainRecv)
  /-- R222: 100 ms in SEEK and TRAIN pass and the Tether goes to SOLO. -/
  | tetherTrainTimeout
  /-- R222: In SOLO training sets are sent every 1 s. -/
  | soloRetrain
  /-- R224: In CHECK the region digests are exchanged and compared, and the Tether enters SYNC or SOLO. -/
  | digestCompare (x : DigestMsg)
  /-- R224: A timestamped Tether mark steers the Escort's MCLK; the eighth mark in bound sets PHLOCK. -/
  | tetherMark (phase : Int) (site : Nat)
  /-- R228: A state-transfer message is loaded and both devices enter PAIRED. -/
  | tetherStateTransfer (x : Transfer)
  /-- R227: ATTWAIT expires without PAIRED and the device starts metering unpaired. -/
  | attachWaitExpire
  /-- R228: A joiner's channel finishes warming and its meters register their own increments. -/
  | channelWarmingEnd (n : Chan)
  /-- R225: Loss of signal, loss of lock, or 500 us without a valid frame declares the Tether lost. -/
  | tetherLost
  /-- R226: A control, transfer or adopted-sample message is incomplete at 5 ms and is repeated, or the Tether is declared lost. -/
  | tetherMessageTimeout (x : LateMsg)
  /-- R225: A control message (swap, detach, commit, FAILED notice, digest announcement) is received and acted on. -/
  | tetherControlReceive (m : TwnMsg)
  /-- R230: A write of TWN_CTL.SWAP requests an orderly role change, or is refused. -/
  | twnSwap
  /-- R229: A write of TWN_CTL.DETACH detaches the pair at the next exchange instant. -/
  | twnDetach
  /-- R222: A write of TWN_CTL.ATTACH retries attach from SOLO, including CHECK. -/
  | twnAttach
  /-- R221: A write of TWN_CTL.TAKE gives an unpaired device the driver role. -/
  | twnTake
  /-- R233: The twin's compare record is reassembled and kept. -/
  | compareRecordReceive (r : CmpRec)
  /-- R237: At t + 2 ms matched items are evaluated, disputes declared, and witness results turned into verdicts. -/
  | compareEvaluation (t : Nat)
  /-- R238: The witness reaches the pins and the two-cycle witness comparison begins. -/
  | witnessConnected (n : Chan)
  /-- R240: Once all healthy increments of the span are at hand, the faulty side applies delta as deficit or increment. -/
  | twinCorrectionApply (n : Chan)
  /-- R241: The twin's samples of an adopted channel arrive and the held meters are computed. -/
  | adoptedSamplesReceive (m : Meter) (n : Chan) (run : ChanRun)
  /-- R242: Every 10 s an unresolved dispute is arbitrated again. -/
  | disputeRearbitrate (n : Chan)
  /-- R234: DIGEST fields have differed for 10 s and event 36 is raised. -/
  | digestMismatchTimeout
  /-- R250: A parity failure on read restores and rereads the word, remapping or fencing the row on a second failure. -/
  | sramParityError (bank : Fin 48) (row : Fin 514) (data : SramData) (pass : Bool)
  /-- R251: A Vault write's read-back fails twice; the block is remapped or fenced. -/
  | vaultWriteReadback (x : VaultRec) (pass : Bool)
  /-- R252: A metering-core residue fails; the operation is re-executed, and a second failure makes the device FAILED. -/
  | meteringCoreMismatch (pass : Bool)
  /-- R253: PLL-M reports loss of lock and enters holdover. -/
  | pllLockLoss
  /-- R253: PLL-M locks again within 2 ms and the fault is a transient. -/
  | pllRelock
  /-- R253: No relock within 2 ms: the fault is permanent and the device FAILED. -/
  | pllRelockTimeout
  /-- R256: 150 ms after a permanent fault its recovery window closes. -/
  | recoveryWindowClose
  /-- R258: Scrubbing reads a path and handles any error by its unit's retry rule. -/
  | scrubStep (p : ScrubPath)
  /-- R258: Every 10 s each checker is given a wrong code; a checker that fails twice is lost. -/
  | checkerSelfTest (chk : Fin 256) (guards : Fin 16) (first again : Bool)
  /-- R259: A write of FLTS_INJ.GO corrupts the check code of the next operation of the named unit. -/
  | faultInject (tgt : Fin 16) (unit : Fin 256)
  /-- R264: A link frame arrives, is checked, acknowledged, forwarded or consumed. -/
  | linkFrameReceive (p : Port) (f : LinkFrame)
  /-- R264: An ACK or NAK arrives; a NAKed frame is retransmitted once. -/
  | linkAckReceive (p : Port) (lseq : BitVec 16) (ack : Bool)
  /-- R264: A frame not acknowledged within 4 us is retransmitted once. -/
  | frameAckTimeout (p : Port) (lseq : BitVec 16)
  /-- R264: A port that has sent nothing for its idle interval sends an idle frame. -/
  | idleFrameSend (p : Port)
  /-- R264: A port loses signal, lock or frames for 30 us and declares its link out. -/
  | linkOut (p : CPort)
  /-- R264: Every 1 s a port whose link is out is retrained. -/
  | portRetrain (p : CPort)
  /-- R266: The head sends discovery frames every 1 s and after a link change, and builds the present map from their return. -/
  | ringDiscovery (present : BitVec 64) (chainUp closure reached ringTime : Bool)
  /-- R270: A break frame brings the closure link into service and members recompute their paths. -/
  | ringBreak (a b : Pos)
  /-- R268: The head sends a timing mark at each whole millisecond. -/
  | timingMarkOriginate (t : Nat)
  /-- R268: A member timestamps, applies and forwards a timing mark, stepping in JOIN and slewing otherwise. -/
  | timingMarkReceive (p : CPort) (m : TimingMark)
  /-- R268: Every 1 ms a port measures its link delay by request and response. -/
  | linkDelayMeasure (p : CPort) (rtt turnaround : Nat)
  /-- R267: No mark for 3 ms puts a member in HOLD; SYNC clears at 100 ms. -/
  | memberMarkTimeout (sync : Bool)
  /-- R272: No mark for 5 ms with a port up raises event 53. -/
  | headMarksLost
  /-- R268: JOINWAIT expires and a member starts metering. -/
  | joinWaitExpire
  /-- R273: At each whole 125 us a member sends its subscribed samples to the head. -/
  | caravanSampleSend (t : Nat) (runs : List ChanRun)
  /-- R276: A write of CVN_MSEL selects the summary page and starts or ends a hold. -/
  | cvnMselWrite (hold : Bool) (member : Pos)
  /-- R276: A summary page hold ends after 1 s. -/
  | cvnMselHoldExpire
  /-- R278: A write of CVN_ADJCTL.GO on the master slews or schedules a step of site time. -/
  | cvnAdjGo
  /-- R278: At the whole second a site-time step is applied, intervals are closed and instants realigned. -/
  | siteTimeStep
  /-- R279: 5 s without valid site time puts the head in site holdover. -/
  | siteHoldover
  /-- R291: A 40 ms beacon period starts and the node sends its beacon in its slot. -/
  | beaconPeriodStart (t : Nat)
  /-- R289: A Wayline frame is received, blanked, decoded, authenticated and acted on. -/
  | waylineFrameReceive (f : WayFrame)
  /-- R292: A node's backoff count reaches zero at a slot boundary and it sends its frame. -/
  | contentionSend
  /-- R293: A unicast frame fails on NAK or no ACK within 202.4 us and is retried, dropped in mode, or discarded. -/
  | waylineAckTimeout
  /-- R295: Every DISC seconds, with random offset, a node broadcasts a discovery frame. -/
  | discoverySend
  /-- R295: An entry not heard for AGE x 10 s is removed. -/
  | neighbourAgeOut (ix : Fin 512)
  /-- R294: A tone map unused for 30 s expires. -/
  | toneMapExpire (ix : Fin 512)
  /-- R296: Every 1 s a head exchanges DREQ and DRSP with its parent to measure path delay. -/
  | parentDelayExchange (rtt turnaround : Nat)
  /-- R296: The parent's beacons are absent for 1 s, or a lower level is announced for 10 s, and a new parent is chosen. -/
  | parentChange
  /-- R300: A write of WAY_TXCTL.GO sends a host datagram or refuses it. -/
  | wayTxGo (pri : Fin 4) (len : Fin 2048) (dst : BitVec 16)
  /-- R300: A write of WAY_RXST.NEXT releases the shown datagram. -/
  | wayRxNext
  /-- R172: A write of WAY_NSEL selects the neighbour page and starts or ends a hold. -/
  | wayNselWrite (hold : Bool) (index : Fin 512)
  /-- R172: A neighbour page hold ends after 1 s. -/
  | wayNselHoldExpire
  /-- R314: ITN_PKCTL.OP BEGIN starts a package delivery of PKLEN bytes. -/
  | packageBegin
  /-- R314: ITN_PKCTL.OP APPEND takes CHUNK bytes from ITN_PKWIN. -/
  | packageAppend (chunk : Fin 2048)
  /-- R314: ITN_PKCTL.OP SUBMIT checks the package and accepts, queues or refuses it. -/
  | packageSubmit
  /-- R315: VALIDATE ends; the region enters WRITE or fails. -/
  | updateValidateComplete (r : Fin 11)
  /-- R315: Copy B is programmed and the region enters CHECK. -/
  | updateFlashWriteComplete (r : Fin 11)
  /-- R315: Copy B is read back and the region enters WAIT, rewrites, or fails. -/
  | updateReadbackCheck (r : Fin 11) (same : Bool)
  /-- R317: At the apply instant the new fields are loaded, copy B committed and the GEN floor raised. -/
  | updateApplyInstant (r : Fin 11) (t : Nat)
  /-- R317: TWINWAIT expires and the device applies the region alone. -/
  | twinUpdateWaitExpire (r : Fin 11)
  /-- R319: New firmware not ready within 50 ms: restart from copy A and fail with code 13. -/
  | firmwareReadyTimeout
  /-- R316: Copy A is written and checked; the region returns to IDLE and a queued package becomes running. -/
  | updateMirrorComplete (r : Fin 11) (same : Bool)
  /-- R328: A write of SBX_MCTL.SUBMIT checks a key message and accepts or refuses it. -/
  | keyMessageSubmit (mlen : Fin 512)
  /-- R329: An accepted KEY or BUNDLE message completes its Vault writes. -/
  | keyMessageApplied
  /-- R336: A write of SBX_PRIV.OPEN checks the tag and opens a privileged session or counts a failure. -/
  | privOpen
  /-- R336: A write of SBX_PRIV.DROP ends the privileged session. -/
  | privDrop
  /-- R336: The 60 s lock after three failures ends and FAILS returns to 0. -/
  | privLockExpire
  /-- R336: 300 s after the last host frame privilege ends. -/
  | privTimeout
  /-- R337: SBX_OPCTL.WRITE writes or empties an Open slot, or is refused. -/
  | openKeyWrite (erase : Bool) (slot : Fin 256) (peer : BitVec 16)
  /-- R337: SBX_OPCTL.PROMOTE moves slot 9 into slot 8 at the next beacon period, or is refused. -/
  | openKeyPromote
  /-- R338: A write of SBX_PCTL.GO increments PCNT and posts a passport response, held to one per second. -/
  | passportRequest
  /-- R341: VDDA crosses a switch threshold and VPH changes source make-before-break. -/
  | porterSupplySwitch (main : Bool)
  /-- R342: VPH below 1.6 V resets porter state and wipes the strongbox. -/
  | porterBrownOut
  /-- R344: A second ends; the calendar advances and the alarm is tested. -/
  | calendarSecond
  /-- R346: A write of PRT_COMMIT.GO loads the holding set into the calendar or refuses it. -/
  | calendarCommit
  /-- R347: Every 64 s the porter measures its temperature and updates the correction accumulator. -/
  | crystalCompensation (tp : Rat)
  /-- R348: No PCLK edge for 4 ms sets OSF and fires source 15. -/
  | pclkStopDetect
  /-- R349: Every 64 s each porter configuration latch is compared with its shadow. -/
  | porterShadowCheck (bad : List (Fin 22)) (cal kb : Bool)
  /-- R355: Every 64 s VBAT is compared with 2.20 V and BATLOW updated. -/
  | batteryCheck (vbat : Rat)
  /-- R349: A privileged write updates a porter latch and then its Vault profile. -/
  | porterConfigWrite (reg : Fin 22) (w : Word)
  /-- R356: A tamper, loop, field or CMPB sample passes its filter and may fire its source's response set. -/
  | porterSourceSample (xs : List PrtSample)
  /-- R359: A write of PRT_SLTCLR releases event slots. -/
  | porterSlotClear (mask : BitVec 16)
  /-- R361: A write of PRT_PWR.PWRCLR releases PWRON. -/
  | pwronClear
  /-- R361: PWRTO seconds pass and PWRON is released. -/
  | pwronTimeout
  /-- R368: A queued record is written to a ledger position when the bucket allows. -/
  | ledgerRecordWrite
  /-- R367: A code's RWIN window closes and a summary of suppressed raises is written. -/
  | rateWindowClose (e : Fin 128)
  /-- R411: A W1C write to EVT_PEND clears pending bits and may pulse an IRQ line. -/
  | evtPendClear (k : Fin 4) (mask : Word)
  /-- R411: 500 ns after its release an IRQ line is asserted again. -/
  | irqReassert (line : Fin 2)
  /-- R371: A write of LDG_SEL looks up a record and shows it within 50 us. -/
  | ledgerLookup (rseq : Word)
  /-- R369: A write of LDG_ACK acknowledges records, clamped to LAST. -/
  | ledgerAckWrite (ack : Word)
  /-- R376: 250 us after entry to RUN the reference buffer is ready. -/
  | sarReferenceReady
  /-- R377: Every TPER us the sequencer is triggered, or an overrun is counted. -/
  | sarTimerTrigger
  /-- R377: The selected PWMSYNC edge starts the DLY delay, or is an overrun. -/
  | pwmsyncEdge (rising : Bool)
  /-- R377: The DLY delay ends and the first sequencer entry begins sampling. -/
  | sarDelayExpire
  /-- R382: A conversion ends and is checked, reconverted, or marks the input faulty. -/
  | sarConversionComplete (code : Fin 4096) (eoc : Bool)
  /-- R379: A write of SAR_INJ.GO queues an injected conversion or refuses it. -/
  | sarInject (smp : Fin 64) (input : Fin 16)
  /-- R380: Once per second a housekeeping burst falls due. -/
  | housekeepingDue
  /-- R381: The 68-conversion burst ends; the temperatures go to calibration and the supplies are tested. -/
  | housekeepingBurstComplete
  /-- R383: A new shunt factor differing by more than 10 ppm takes effect at the next grid-cycle boundary. -/
  | shuntFactorApply (k : Fin 8)
  /-- R388: Once per second VLCD steps toward its temperature-compensated value. -/
  | vlcdUpdate
  /-- R391: A bistable update starts its PRE phase after writing the shadow with INPROG. -/
  | displayUpdateStart
  /-- R391: TPRE or TDRV expires and the update passes to the next phase, clearing INPROG at COMMON. -/
  | displayPhaseEnd
  /-- R390: PUMPOK not set in 20 ms or falling during an update abandons the update. -/
  | displayPumpTimeout
  /-- R392: A write of DSP_CTL.SHOW makes DSP_IMG the target image. -/
  | dspShow
  /-- R392: A write of DSP_CTL.NEXT advances to the next page. -/
  | dspNext
  /-- R392: DWELL seconds pass and the next page is shown. -/
  | pageDwellExpire
  /-- R394: VHOLD below 2.20 V drives nCOM low and abandons the update. -/
  | vholdLow
  /-- R396: At power-up in bistable mode a full refresh to the shadow image is made. -/
  | displayPowerUpRefresh
  /-- R222: The receiver of port T (or a caravan port) gains signal and comma lock, and the Tether passes from SEEK or SOLO into
  TRAIN. -/
  | commaLock (p : Port)
  /-- R342: VPH rises above 1.6 V again (or for the first time), the brown-out detector releases, and the porter restarts its
  calendar from 2000-01-01 and seeds its loop LFSR. -/
  | porterBrownOutRelease
  /-- R278: A site-time offset of at most 10 ms being slewed at 10 ppm has been spent, and CVN_ADJCTL.SLEW clears. -/
  | siteTimeSlewComplete
  /-- R338: A passport GO held because it came less than 1 s after the previous response is released once that second has passed,
  and the response is computed and posted. -/
  | passportHoldExpire
  deriving DecidableEq, Repr

end Sys2Proof
end

