-- ==== Sys2Proof/Decode.lean ====
section
/-! DEFINITION. The decoder of table words. The rows of spec/opcode_table.json give their commands no bits, so no word spells
one; a host's frames, which are words on a wire, are operands of commands and are taken apart in Machine/HostPort.lean. -/

namespace Sys2Proof

/-- The command that a word of the table spells: none, because no row has bits. -/
def decodeTableWord (_nbits _w : Nat) : Option Instr := none

end Sys2Proof
end

