-- ==== Sys2Proof/Machine/Codes.lean ====
section
/-! DEFINITION. Check codes, digests and ciphers over lists of bytes, from the standards the spec names (R13): CRC-16 (R402),
CRC-32 (Table 06-6), SHA-256 and HMAC-SHA-256 (R310, R336, R338), AES, AES key wrap (R327) and AES-CCM (R288), and the
little-endian and big-endian byte forms of numbers. Bytes and words are naturals here, so that exact integer arithmetic serves. -/

namespace Sys2Proof.Machine

/-- The n bytes of v, least significant first. -/
def leBytes : Nat → Nat → List Nat
  | 0, _ => []
  | n + 1, v => v % 256 :: leBytes n (v / 256)

/-- The n bytes of v, most significant first. -/
def beBytes (n v : Nat) : List Nat := (leBytes n v).reverse

/-- The number a list of bytes spells, least significant first. -/
def ofLe : List Nat → Nat
  | [] => 0
  | b :: r => b % 256 + 256 * ofLe r

/-- The number a list of bytes spells, most significant first. -/
def ofBe (l : List Nat) : Nat := ofLe l.reverse

/-- The bytes of a list of 32-bit words, each least significant byte first. -/
def wordsToLe (l : List Nat) : List Nat := l.flatMap (leBytes 4)

/-- Groups a list of bytes into 32-bit words, least significant byte first; a short last group fills with zeros. -/
def leToWords : Nat → List Nat → List Nat
  | 0, _ => []
  | n + 1, l => ofLe (l.take 4) :: leToWords n (l.drop 4)

/-- One bit step of CRC-16, polynomial 0x1021, not reflected. -/
def crc16Bit (c : Nat) : Nat := if c / 32768 % 2 = 1 then ((c * 2) ^^^ 0x1021) % 65536 else c * 2 % 65536

/-- CRC-16 with polynomial 0x1021 and initial value 0xFFFF, without reflection and without final XOR (R402). -/
def crc16 (l : List Nat) : Nat :=
  l.foldl (fun c b => Nat.iterate crc16Bit 8 (c ^^^ (b % 256 * 256))) 0xFFFF

/-- One bit step of the reflected CRC-32. -/
def crc32Bit (c : Nat) : Nat := if c % 2 = 1 then (c / 2) ^^^ 0xEDB88320 else c / 2

/-- CRC-32, IEEE 802.3 polynomial, reflected, initial value and final XOR 0xFFFF_FFFF (Table 06-6). -/
def crc32 (l : List Nat) : Nat :=
  (l.foldl (fun c b => Nat.iterate crc32Bit 8 (c ^^^ (b % 256))) 0xFFFFFFFF) ^^^ 0xFFFFFFFF

/-! ### SHA-256 and HMAC -/

/-- The largest x below 2ᵏ, from x on, whose e-th power is at most n, found bit by bit. -/
def rootBits (e n : Nat) : Nat → Nat → Nat
  | 0, x => x
  | k + 1, x => rootBits e n k (if (x + 2 ^ k) ^ e ≤ n then x + 2 ^ k else x)

/-- The first 64 primes. -/
def primes64 : List Nat :=
  (List.range 312).filter fun n =>
    decide (2 ≤ n) && (List.range 18).all fun d => decide (d < 2) || decide (n ≤ d) || n % d != 0

/-- The 64 round constants of SHA-256: the first 32 bits of the fractional parts of the cube roots of the first 64 primes. -/
def shaK : List Nat := primes64.map fun p => rootBits 3 (p * 2 ^ 96) 35 0 % 2 ^ 32

/-- The initial hash value of SHA-256: the same of the square roots of the first eight primes. -/
def shaH : List Nat := (primes64.take 8).map fun p => rootBits 2 (p * 2 ^ 64) 35 0 % 2 ^ 32

/-- Rotate right within 32 bits. -/
def rotr (n x : Nat) : Nat := (x / 2 ^ n) ||| (x * 2 ^ (32 - n) % 2 ^ 32)

/-- One schedule step: the window of the latest 16 words, oldest first, yields the next word. -/
def shaSched : Nat → List Nat → List Nat
  | 0, _ => []
  | n + 1, win =>
    let w1 := win.getD 1 0
    let w14 := win.getD 14 0
    let s0 := (rotr 7 w1 ^^^ rotr 18 w1) ^^^ (w1 / 2 ^ 3)
    let s1 := (rotr 17 w14 ^^^ rotr 19 w14) ^^^ (w14 / 2 ^ 10)
    let w := (win.getD 0 0 + s0 + win.getD 9 0 + s1) % 2 ^ 32
    w :: shaSched n (win.drop 1 ++ [w])

/-- One round on the eight working words. -/
def shaRound (v : List Nat) (kw : Nat × Nat) : List Nat :=
  let a := v.getD 0 0
  let b := v.getD 1 0
  let c := v.getD 2 0
  let e := v.getD 4 0
  let f := v.getD 5 0
  let g := v.getD 6 0
  let s1 := (rotr 6 e ^^^ rotr 11 e) ^^^ rotr 25 e
  let ch := (e &&& f) ^^^ ((0xFFFFFFFF ^^^ e) &&& g)
  let t1 := v.getD 7 0 + s1 + ch + kw.1 + kw.2
  let s0 := (rotr 2 a ^^^ rotr 13 a) ^^^ rotr 22 a
  let mj := ((a &&& b) ^^^ (a &&& c)) ^^^ (b &&& c)
  [(t1 + s0 + mj) % 2 ^ 32, a, b, c, (v.getD 3 0 + t1) % 2 ^ 32, e, f, g]

/-- Compression of one 64-byte block into the hash value. -/
def shaBlock (h : List Nat) (block : List Nat) : List Nat :=
  let w := (List.range 16).map fun i => ofBe ((block.drop (4 * i)).take 4)
  let ws := w ++ shaSched 48 w
  let v := (shaK.zip ws).foldl shaRound h
  (h.zip v).map fun p => (p.1 + p.2) % 2 ^ 32

/-- The blocks of a padded message. -/
def shaBlocks : Nat → List Nat → List Nat → List Nat
  | 0, h, _ => h
  | n + 1, h, m => shaBlocks n (shaBlock h (m.take 64)) (m.drop 64)

/-- SHA-256 of a list of bytes: 32 bytes. -/
def sha256 (m : List Nat) : List Nat :=
  let n := m.length
  let z := (119 - n % 64) % 64
  let p := m.map (· % 256) ++ 0x80 :: List.replicate z 0 ++ beBytes 8 (8 * n)
  (shaBlocks (p.length / 64) shaH p).flatMap (beBytes 4)

/-- HMAC-SHA-256 of message m under key k. -/
def hmac256 (k m : List Nat) : List Nat :=
  let k0 := if k.length > 64 then sha256 k else k
  let kp := k0 ++ List.replicate (64 - k0.length) 0
  sha256 (kp.map (· ^^^ 0x5C) ++ sha256 (kp.map (· ^^^ 0x36) ++ m))

/-! ### AES -/

/-- Multiplication by x in the AES field. -/
def aesX (b : Nat) : Nat := if b % 256 / 128 = 1 then ((b * 2) ^^^ 0x1B) % 256 else b * 2 % 256

/-- Multiplication of b by c in the AES field: the powers of x that c names, over its n low bits. -/
def gfMul : Nat → Nat → Nat → Nat
  | 0, _, _ => 0
  | n + 1, c, b => (if c % 2 = 1 then b else 0) ^^^ gfMul n (c / 2) (aesX b)

/-- Multiplication of b by a constant c below 16 in the AES field. -/
def aesMul (c b : Nat) : Nat := gfMul 4 c b

/-- The inverse in the AES field, b²⁵⁴; 0 has 0. -/
def gfInv (b : Nat) : Nat :=
  let m := fun x y => gfMul 8 x y
  let b2 := m b b
  let b3 := m b2 b
  let b6 := m b3 b3
  let b12 := m b6 b6
  let b15 := m b12 b3
  let b60 := m (m b15 b15) (m b15 b15)
  let b120 := m b60 b60
  m (m (m b120 b120) b12) b2

/-- Rotate left within a byte. -/
def rotl8 (n x : Nat) : Nat := (x * 2 ^ n % 256) ||| (x / 2 ^ (8 - n))

/-- The AES substitution box: the inverse in the field, and an affine map over its bits. -/
def aesSub (b : Nat) : Nat :=
  let y := gfInv (b % 256)
  [1, 2, 3, 4].foldl (fun a n => a ^^^ rotl8 n y) y ^^^ 0x63

/-- The inverse substitution box. -/
def aesSubInv (b : Nat) : Nat :=
  let y := b % 256
  gfInv ([1, 3, 6].foldl (fun a n => a ^^^ rotl8 n y) 0 ^^^ 0x05)

/-- The key schedule: `nk` key words (each four bytes), extended one word at a time. -/
def aesExpand (nk : Nat) : Nat → Nat → Nat → List (List Nat) → List (List Nat)
  | 0, _, _, ws => ws
  | n + 1, i, rcon, ws =>
    let prev := ws.getLastD []
    let old := ws.getD (i - nk) []
    let t :=
      if i % nk = 0 then
        ((prev.drop 1 ++ prev.take 1).map aesSub).zipWith (· ^^^ ·) [rcon, 0, 0, 0]
      else if nk > 6 ∧ i % nk = 4 then prev.map aesSub else prev
    aesExpand nk n (i + 1) (if i % nk = 0 then aesX rcon else rcon) (ws ++ [old.zipWith (· ^^^ ·) t])

/-- The round keys of a key of 16 or 32 bytes, each 16 bytes. -/
def aesRoundKeys (key : List Nat) : List (List Nat) :=
  let nk := key.length / 4
  let w0 := (List.range nk).map fun i => (key.drop (4 * i)).take 4
  let ws := aesExpand nk (4 * (nk + 7) - nk) nk 1 w0
  (List.range (nk + 7)).map fun r => ((ws.drop (4 * r)).take 4).flatten

def aesXor (a b : List Nat) : List Nat := a.zipWith (· ^^^ ·) b
def aesShift (s : List Nat) : List Nat := (List.range 16).map fun i => s.getD ((i + 4 * (i % 4)) % 16) 0
def aesShiftInv (s : List Nat) : List Nat := (List.range 16).map fun i => s.getD ((i + 12 * (i % 4)) % 16) 0
/-- MixColumns with the given first row of its matrix. -/
def aesMix (row : List Nat) (s : List Nat) : List Nat :=
  (List.range 16).map fun i =>
    (List.range 4).foldl (fun a j => a ^^^ aesMul (row.getD ((j + 4 - i % 4) % 4) 0) (s.getD (i / 4 * 4 + j) 0)) 0

def aesRounds : List (List Nat) → List Nat → List Nat
  | [], s => s
  | [k], s => aesXor (aesShift (s.map aesSub)) k
  | k :: r, s => aesRounds r (aesXor (aesMix [2, 3, 1, 1] (aesShift (s.map aesSub))) k)

/-- AES encryption of one 16-byte block. -/
def aesEnc (key blk : List Nat) : List Nat :=
  match aesRoundKeys key with
  | [] => blk
  | k0 :: r => aesRounds r (aesXor blk k0)

def aesRoundsInv : List (List Nat) → List Nat → List Nat
  | [], s => s
  | [k], s => aesXor s k
  | k :: r, s => aesRoundsInv r ((aesShiftInv (aesMix [14, 11, 13, 9] (aesXor s k))).map aesSubInv)

/-- AES decryption of one 16-byte block. -/
def aesDec (key blk : List Nat) : List Nat :=
  match (aesRoundKeys key).reverse with
  | [] => blk
  | k :: r => aesRoundsInv r ((aesShiftInv (aesXor blk k)).map aesSubInv)

/-! ### AES key wrap (RFC 3394) -/

/-- The initial value of the key wrap. -/
def kwIv : List Nat := List.replicate 8 0xA6

/-- One pass of wrapping over the 8-byte registers, from counter t. -/
def kwPass (key : List Nat) : Nat → List Nat → List (List Nat) → List Nat × List (List Nat)
  | _, a, [] => (a, [])
  | t, a, r :: rs =>
    let b := aesEnc key (a ++ r)
    let p := kwPass key (t + 1) (aesXor (b.take 8) (beBytes 8 t)) rs
    (p.1, b.drop 8 :: p.2)

def kwPasses (key : List Nat) (n : Nat) : Nat → Nat → List Nat → List (List Nat) → List Nat
  | 0, _, a, rs => a ++ rs.flatten
  | k + 1, t, a, rs => let p := kwPass key t a rs; kwPasses key n k (t + n) p.1 p.2

/-- AES key wrap of a key whose length is a multiple of 8 bytes. -/
def kwWrap (kek plain : List Nat) : List Nat :=
  let n := plain.length / 8
  kwPasses kek n 6 1 kwIv ((List.range n).map fun i => (plain.drop (8 * i)).take 8)

/-- One pass of unwrapping, over the registers from the last, with counter t falling. -/
def kwUnpass (key : List Nat) : Nat → List Nat → List (List Nat) → List Nat × List (List Nat)
  | _, a, [] => (a, [])
  | t, a, r :: rs =>
    let b := aesDec key (aesXor a (beBytes 8 t) ++ r)
    let p := kwUnpass key (t - 1) (b.take 8) rs
    (p.1, b.drop 8 :: p.2)

def kwUnpasses (key : List Nat) (n : Nat) : Nat → Nat → List Nat → List (List Nat) → List Nat × List Nat
  | 0, _, a, rs => (a, rs.reverse.flatten)
  | k + 1, t, a, rs => let p := kwUnpass key t a rs; kwUnpasses key n k (t - n) p.1 p.2

/-- AES key unwrap; none where the integrity check fails. -/
def kwUnwrap (kek c : List Nat) : Option (List Nat) :=
  let n := c.length / 8 - 1
  let rs := ((List.range n).map fun i => (c.drop (8 * (i + 1))).take 8).reverse
  let p := kwUnpasses kek n 6 (6 * n) (c.take 8) rs
  if p.1 = kwIv then some p.2 else none

/-! ### AES-CCM (RFC 3610), length field of 2 bytes -/

/-- CBC-MAC over 16-byte blocks. -/
def cbcMac (key : List Nat) : Nat → List Nat → List Nat → List Nat
  | 0, x, _ => x
  | n + 1, x, m => cbcMac key n (aesEnc key (aesXor x (m.take 16))) (m.drop 16)

/-- Zero padding to a whole number of 16-byte blocks. -/
def pad16 (m : List Nat) : List Nat := m ++ List.replicate ((16 - m.length % 16) % 16) 0

/-- The key stream blocks of the counter mode. -/
def ctrStream (key nonce : List Nat) (i n : Nat) : List Nat :=
  (List.range n).flatMap fun k => aesEnc key ((1 : Nat) :: nonce ++ beBytes 2 (i + k))

/-- The tag of t bytes over associated data a and message m, with a 13-byte nonce. -/
def ccmTag (key nonce a m : List Nat) (t : Nat) : List Nat :=
  let b0 := ((if a = [] then 0 else 64) + 8 * ((t - 2) / 2) + 1) :: nonce ++ beBytes 2 m.length
  let body := b0 ++ (if a = [] then [] else pad16 (beBytes 2 a.length ++ a)) ++ pad16 m
  let mac := cbcMac key (body.length / 16) (List.replicate 16 0) body
  (aesXor mac (ctrStream key nonce 0 1)).take t

/-- The enciphering (and deciphering) of a message. -/
def ccmCrypt (key nonce m : List Nat) : List Nat :=
  aesXor m (ctrStream key nonce 1 ((m.length + 15) / 16))

end Sys2Proof.Machine
end

