-- ==== Sys2Proof/Config.lean ====
section
/-! DEFINITION. What one device fixes and what the spec leaves open: constants without a body, so that nothing can be
proved that depends on their values. Those applied to a plain counter of the state give a fresh free value each time. -/

namespace Sys2Proof.Config

/-- The 64-bit device identity from factory fuses (R28). -/
opaque uid : BitVec 64

/-- Which way a value exactly half way between n and n + 1 is rounded, where the spec says "rounded to nearest" and no
more. -/
opaque tieUp : Int → Bool

/-- The quotient the device forms where a formula of the spec divides by zero, by dividend: no value is stated. -/
opaque quotZero : Rat → Rat

/-- The decimal logarithm the device forms of a number that is not positive: no value is stated. -/
opaque logZero : Rat → Rat

/-- Factory trim of a modulator at a RANGE, read from fuses (R76): its offset as a fraction of range, and its gain. -/
opaque factoryOff : Nat → Nat → Rat
opaque factoryGain : Nat → Nat → Rat

/-- What a binary32 word with all exponent bits set (an infinity or not a number) counts as, where the spec states no
value for it. -/
opaque notFinite : Nat → Rat

/-- What a 32-bit result register holds where the value falls outside its format (R139 states no result there). -/
opaque resOverflow : Int → BitVec 32

/-- The value of a sample that has not come where no earlier sample exists to stand for it (R133), by channel reference and sample
index. -/
opaque noSample : Nat → Nat → Rat

/-- The values that the on-chip random source draws, by the count of draws (R292, R325, R336, R351, R356). -/
opaque random : Nat → BitVec 128

/-- The 128-bit fuse value KF (R325), and the permutation of the record positions that full mode computes from KEK (R326). -/
opaque fuseKey : BitVec 128
opaque slotPerm : Nat → Fin 256 → Fin 256

/-- The 256-bit factory root in fuses, from which the transport key is derived (R324). -/
opaque factoryRoot : BitVec 256

/-- The error bound that a head shows in TERR, in 10 ns, by its level and the TERR of its parent's beacon: the spec states no
formula (Table 13-9). -/
opaque siteError : Nat → Nat → BitVec 16

/-- Which of the empty ledger positions a record goes to, by its RSEQ: R369 names none of them. -/
opaque ledgerPick : Nat → Nat

/-- The segments a to g, from bit 0, that show a decimal digit: R392 gives their places and no shapes. -/
opaque glyph : Nat → BitVec 7

/-- The bit that a modulator gives at each edge of MCLK, by modulator (112 and up: the spares) and by count of edges from
site time 0: what it measures is outside the block (R15, R93). -/
opaque modBit : Nat → Nat → Bool

/-- The level of ball Bn at an instant of site time in ns (R67). -/
opaque pinLevel : Nat → Rat → Bool

/-- The coefficients of the response ROM (R103, R450): for a response and a section, b0, b1, b2, a1 and a2 in 32 bits. The spec
names the image and does not print it. -/
opaque romCoef : Nat → Nat → Nat → BitVec 32

/-- Fraction bits of the 32-bit coefficients of a response. -/
opaque romShift : Nat → Nat

/-- The taps of the decimation stages TB3 and HB1 to HB6, ROM indices 55 to 61, newest sample first (R103, R106). -/
opaque firTaps : Nat → List (BitVec 32)

/-- The self-test vectors CHK_A and CHK_B, ROM indices 62 and 63 (R103). -/
opaque checkVector : Nat → List (BitVec 32)

/-- The delay equaliser of a preset as taps over its results, newest first (Table 05-2, R107). -/
opaque eqTaps : Nat → List (BitVec 32)

/-- A reading of an off-line measurement that a pre-emption cut short, by modulator, RANGE, step and the instant the measurement
began: the shorted inputs, then the nine points (R86). -/
opaque offlineRead : Nat → Nat → Nat → Nat → Rat

/-- The 48-tap kernel of the grid resampler: for a cycle frequency in Hz and a fraction of a CANTER period, by tap (R163). -/
opaque gridKernel : Rat → Rat → Nat → Rat

/-- The fractional-delay interpolator that takes out group skew: its taps, from the sample two output periods later on back, for a
skew as a fraction of an output period (R122). -/
opaque delayKernel : Rat → List Rat

/-- The quadrature filter of a preset: its taps, newest sample first, and the number of samples by which the direct path is
delayed to match it (R125). -/
opaque quadTaps : Nat → List Rat
opaque quadDelay : Nat → Nat

/-- The bytes of the payloads that the spec describes by their contents and gives no layout: of a caravan frame (R264 to R276), of a
Wayline frame (R294 to R296), of a Tether control message, of a state transfer and of adopted samples (R225 to R228, R241). -/
opaque linkBytes : LinkBody → List Byte
opaque wayBytes : WayInfo → List Byte
opaque controlBytes : TwnMsg → List Byte
opaque transferBytes : Transfer → List Byte
opaque adoptedBytes : ChanRun → List Byte

/-- The image that an abandoned display update leaves on the driven segments, by the image before and the target (R394). -/
opaque panelMix : Nat → Nat → Nat

/-- What the words of a ledger record read as once its block has failed at both reads, by position and word (R371). -/
opaque lostWords : Nat → Nat → BitVec 32

/-- The angle of a phasor of no magnitude, in degrees: no value is stated (R164). -/
opaque argZero : Rat

/-- DETAIL of an event whose row of Table 18-1 names an object that the raise does not have: 0 the directory fallback, 1 the
response ROM, 2 the fuses. -/
opaque openDetail : Nat → BitVec 16

end Sys2Proof.Config
end

