-- ==== Sys2Proof/Machine/RegTable.lean ====
section
/-! DEFINITION. The register map: one definition per field of the spec's field tables and one per register, in the
order of the register index (R412). Written from the field tables of the chapters that own the blocks (R4). -/

namespace Sys2Proof.Machine

/-! ### IDENT -/

def F.IDENT_PART_VENDOR : Fld := ⟨0, 16, 16, 0xA71, .ro, .L⟩
def F.IDENT_PART_PART : Fld := ⟨1, 0, 16, 0x144, .ro, .L⟩
/-- IDENT_PART: R28. -/
def R.IDENT_PART : RegRow := ⟨0, 0x000000, 0x4, 1, .sclk, [F.IDENT_PART_VENDOR, F.IDENT_PART_PART]⟩
def F.IDENT_STEP_LETTER : Fld := ⟨2, 4, 4, 0x2, .ro, .L⟩
def F.IDENT_STEP_NUMBER : Fld := ⟨3, 0, 4, 0x0, .ro, .L⟩
/-- IDENT_STEP: R28. -/
def R.IDENT_STEP : RegRow := ⟨1, 0x000004, 0x4, 1, .sclk, [F.IDENT_STEP_LETTER, F.IDENT_STEP_NUMBER]⟩
def F.IDENT_CAP_METERS : Fld := ⟨4, 24, 8, 0x30, .ro, .L⟩
def F.IDENT_CAP_ICH : Fld := ⟨5, 16, 8, 0x60, .ro, .L⟩
def F.IDENT_CAP_BCH : Fld := ⟨6, 8, 8, 0x20, .ro, .L⟩
def F.IDENT_CAP_VCH : Fld := ⟨7, 0, 8, 0x10, .ro, .L⟩
/-- IDENT_CAP: R28. -/
def R.IDENT_CAP : RegRow := ⟨2, 0x000008, 0x4, 1, .sclk, [F.IDENT_CAP_METERS, F.IDENT_CAP_ICH, F.IDENT_CAP_BCH, F.IDENT_CAP_VCH]⟩
def F.IDENT_UNITS_MODS : Fld := ⟨8, 24, 8, 0x8A, .ro, .L⟩
def F.IDENT_UNITS_SPARES : Fld := ⟨9, 16, 8, 0x1A, .ro, .L⟩
def F.IDENT_UNITS_FLANES : Fld := ⟨10, 8, 8, 0xA, .ro, .L⟩
def F.IDENT_UNITS_HLANES : Fld := ⟨11, 0, 8, 0x10, .ro, .L⟩
/-- IDENT_UNITS: R28. -/
def R.IDENT_UNITS : RegRow := ⟨3, 0x00000C, 0x4, 1, .sclk, [F.IDENT_UNITS_MODS, F.IDENT_UNITS_SPARES, F.IDENT_UNITS_FLANES, F.IDENT_UNITS_HLANES]⟩
def F.IDENT_UID_LO_UID_LO : Fld := ⟨12, 0, 32, 0x0, .ro, .L⟩
/-- IDENT_UID_LO: R28. -/
def R.IDENT_UID_LO : RegRow := ⟨4, 0x000010, 0x4, 1, .sclk, [F.IDENT_UID_LO_UID_LO]⟩
def F.IDENT_UID_HI_UID_HI : Fld := ⟨13, 0, 32, 0x0, .ro, .L⟩
/-- IDENT_UID_HI: R28. -/
def R.IDENT_UID_HI : RegRow := ⟨5, 0x000014, 0x4, 1, .sclk, [F.IDENT_UID_HI_UID_HI]⟩

/-! ### INP -/

def F.INP_CFG_EN : Fld := ⟨14, 31, 1, 0x0, .live, .I⟩
def F.INP_CFG_SENSOR : Fld := ⟨15, 28, 3, 0x0, .live, .I⟩
def F.INP_CFG_RANGE : Fld := ⟨16, 25, 3, 0x0, .live, .I⟩
def F.INP_CFG_BURN : Fld := ⟨17, 23, 2, 0x0, .live, .I⟩
def F.INP_CFG_OSDT : Fld := ⟨18, 16, 7, 0x0, .live, .I⟩
def F.INP_CFG_SDLY : Fld := ⟨19, 24, 4, 0x0, .live, .I⟩
def F.INP_CFG_LAT : Fld := ⟨20, 22, 2, 0x0, .live, .I⟩
def F.INP_CFG_INV : Fld := ⟨21, 21, 1, 0x0, .live, .I⟩
/-- INP_CFG: R74. -/
def R.INP_CFG : RegRow := ⟨6, 0x010000, 0x10, 144, .aclk, [F.INP_CFG_EN, F.INP_CFG_SENSOR, F.INP_CFG_RANGE, F.INP_CFG_BURN, F.INP_CFG_OSDT, F.INP_CFG_SDLY, F.INP_CFG_LAT, F.INP_CFG_INV]⟩
def F.INP_ST_OPEN : Fld := ⟨22, 31, 1, 0x0, .ro, .L⟩
def F.INP_ST_OVR : Fld := ⟨23, 30, 1, 0x0, .ro, .L⟩
def F.INP_ST_OPENPIN : Fld := ⟨24, 28, 2, 0x0, .ro, .L⟩
def F.INP_ST_STUCK : Fld := ⟨25, 27, 1, 0x0, .ro, .L⟩
def F.INP_ST_DENS : Fld := ⟨26, 26, 1, 0x0, .ro, .L⟩
def F.INP_ST_FEED : Fld := ⟨27, 24, 2, 0x0, .ro, .L⟩
def F.INP_ST_STUCKL : Fld := ⟨28, 2, 1, 0x0, .w1c, .L⟩
def F.INP_ST_OPENL : Fld := ⟨29, 1, 1, 0x0, .w1c, .L⟩
def F.INP_ST_OVRL : Fld := ⟨30, 0, 1, 0x0, .w1c, .L⟩
/-- INP_ST: R74. -/
def R.INP_ST : RegRow := ⟨7, 0x010004, 0x10, 144, .aclk, [F.INP_ST_OPEN, F.INP_ST_OVR, F.INP_ST_OPENPIN, F.INP_ST_STUCK, F.INP_ST_DENS, F.INP_ST_FEED, F.INP_ST_STUCKL, F.INP_ST_OPENL, F.INP_ST_OVRL]⟩
def F.INP_OVCNT_EPISODES : Fld := ⟨31, 0, 32, 0x0, .ro, .L⟩
/-- INP_OVCNT: R74. -/
def R.INP_OVCNT : RegRow := ⟨8, 0x010008, 0x10, 144, .aclk, [F.INP_OVCNT_EPISODES]⟩
def F.INP_PEAK_PEAK : Fld := ⟨32, 16, 16, 0x0, .rw, .L⟩
/-- INP_PEAK: R74. -/
def R.INP_PEAK : RegRow := ⟨9, 0x01000C, 0x10, 144, .aclk, [F.INP_PEAK_PEAK]⟩
def F.INP_BSG_EN : Fld := ⟨33, 31, 1, 0x0, .live, .I⟩
def F.INP_BSG_RATE : Fld := ⟨34, 30, 1, 0x0, .live, .I⟩
def F.INP_BSG_DENSLIM : Fld := ⟨35, 16, 8, 0x0, .live, .I⟩
def F.INP_BSG_DRIVE : Fld := ⟨36, 8, 2, 0x1, .live, .I⟩
/-- INP_BSG: R74. -/
def R.INP_BSG : RegRow := ⟨10, 0x011000, 0x4, 2, .aclk, [F.INP_BSG_EN, F.INP_BSG_RATE, F.INP_BSG_DENSLIM, F.INP_BSG_DRIVE]⟩
def F.INP_OPENMAP_OPEN : Fld := ⟨37, 0, 32, 0x0, .ro, .L⟩
/-- INP_OPENMAP: R74. -/
def R.INP_OPENMAP : RegRow := ⟨11, 0x011100, 0x4, 5, .aclk, [F.INP_OPENMAP_OPEN]⟩
def F.INP_OVRMAP_OVR : Fld := ⟨38, 0, 32, 0x0, .ro, .L⟩
/-- INP_OVRMAP: R74. -/
def R.INP_OVRMAP : RegRow := ⟨12, 0x011120, 0x4, 5, .aclk, [F.INP_OVRMAP_OVR]⟩

/-! ### RMT -/

def F.RMT_CFG_EN : Fld := ⟨39, 31, 1, 0x0, .live, .I⟩
def F.RMT_CFG_MATCHLIM : Fld := ⟨40, 20, 8, 0x14, .live, .I⟩
def F.RMT_CFG_CHKTOL : Fld := ⟨41, 12, 8, 0x14, .live, .I⟩
def F.RMT_CFG_DRIFTLIM : Fld := ⟨42, 4, 8, 0x32, .live, .I⟩
/-- RMT_CFG: R91. -/
def R.RMT_CFG : RegRow := ⟨13, 0x020000, 0x4, 1, .fclk, [F.RMT_CFG_EN, F.RMT_CFG_MATCHLIM, F.RMT_CFG_CHKTOL, F.RMT_CFG_DRIFTLIM]⟩
def F.RMT_FORCE_GO : Fld := ⟨43, 31, 1, 0x0, .live, .L⟩
def F.RMT_FORCE_REJ : Fld := ⟨44, 30, 1, 0x0, .ro, .L⟩
def F.RMT_FORCE_STREAM : Fld := ⟨45, 0, 8, 0x0, .live, .L⟩
/-- RMT_FORCE: R91. -/
def R.RMT_FORCE : RegRow := ⟨14, 0x020004, 0x4, 1, .fclk, [F.RMT_FORCE_GO, F.RMT_FORCE_REJ, F.RMT_FORCE_STREAM]⟩
def F.RMT_BCTL_BDIS : Fld := ⟨46, 31, 1, 0x0, .live, .I⟩
def F.RMT_BCTL_S0OFF : Fld := ⟨47, 30, 1, 0x0, .live, .I⟩
def F.RMT_BCTL_S1OFF : Fld := ⟨48, 29, 1, 0x0, .live, .I⟩
def F.RMT_BCTL_EXCL : Fld := ⟨49, 0, 8, 0x0, .live, .I⟩
/-- RMT_BCTL: R91. -/
def R.RMT_BCTL : RegRow := ⟨15, 0x020100, 0x10, 14, .fclk, [F.RMT_BCTL_BDIS, F.RMT_BCTL_S0OFF, F.RMT_BCTL_S1OFF, F.RMT_BCTL_EXCL]⟩
def F.RMT_BST_S0STATE : Fld := ⟨50, 28, 4, 0x0, .ro, .L⟩
def F.RMT_BST_S0POS : Fld := ⟨51, 25, 3, 0x0, .ro, .L⟩
def F.RMT_BST_S0ACT : Fld := ⟨52, 24, 1, 0x0, .ro, .L⟩
def F.RMT_BST_S1STATE : Fld := ⟨53, 20, 4, 0x0, .ro, .L⟩
def F.RMT_BST_S1POS : Fld := ⟨54, 17, 3, 0x0, .ro, .L⟩
def F.RMT_BST_S1ACT : Fld := ⟨55, 16, 1, 0x0, .ro, .L⟩
def F.RMT_BST_FREE : Fld := ⟨56, 14, 2, 0x0, .ro, .L⟩
def F.RMT_BST_PERIOD : Fld := ⟨57, 0, 12, 0x0, .ro, .L⟩
/-- RMT_BST: R91. -/
def R.RMT_BST : RegRow := ⟨16, 0x020104, 0x10, 14, .fclk, [F.RMT_BST_S0STATE, F.RMT_BST_S0POS, F.RMT_BST_S0ACT, F.RMT_BST_S1STATE, F.RMT_BST_S1POS, F.RMT_BST_S1ACT, F.RMT_BST_FREE, F.RMT_BST_PERIOD]⟩
def F.RMT_BCNT_SLOTS : Fld := ⟨58, 16, 16, 0x0, .ro, .L⟩
def F.RMT_BCNT_SKIPS : Fld := ⟨59, 8, 8, 0x0, .ro, .L⟩
def F.RMT_BCNT_RETRIES : Fld := ⟨60, 0, 8, 0x0, .ro, .L⟩
/-- RMT_BCNT: R91. -/
def R.RMT_BCNT : RegRow := ⟨17, 0x020108, 0x10, 14, .fclk, [F.RMT_BCNT_SLOTS, F.RMT_BCNT_SKIPS, F.RMT_BCNT_RETRIES]⟩
def F.RMT_MST_RET : Fld := ⟨61, 31, 1, 0x0, .ro, .V⟩
def F.RMT_MST_SUB : Fld := ⟨62, 29, 2, 0x0, .ro, .V⟩
def F.RMT_MST_UNCHK : Fld := ⟨63, 28, 1, 0x0, .ro, .L⟩
def F.RMT_MST_AGE : Fld := ⟨64, 0, 16, 0xFFFF, .ro, .L⟩
/-- RMT_MST: R91. -/
def R.RMT_MST : RegRow := ⟨18, 0x021000, 0x10, 112, .fclk, [F.RMT_MST_RET, F.RMT_MST_SUB, F.RMT_MST_UNCHK, F.RMT_MST_AGE]⟩
def F.RMT_MDRIFT_GSTEP : Fld := ⟨65, 16, 16, 0x0, .ro, .V⟩
def F.RMT_MDRIFT_OSTEP : Fld := ⟨66, 0, 16, 0x0, .ro, .V⟩
/-- RMT_MDRIFT: R91. -/
def R.RMT_MDRIFT : RegRow := ⟨19, 0x021004, 0x10, 112, .fclk, [F.RMT_MDRIFT_GSTEP, F.RMT_MDRIFT_OSTEP]⟩
def F.RMT_MLIN_INL : Fld := ⟨67, 0, 16, 0x0, .ro, .V⟩
/-- RMT_MLIN: R91. -/
def R.RMT_MLIN : RegRow := ⟨20, 0x021008, 0x10, 112, .fclk, [F.RMT_MLIN_INL]⟩
def F.RMT_SST_RET : Fld := ⟨68, 31, 1, 0x0, .ro, .V⟩
def F.RMT_SST_SUBST : Fld := ⟨69, 30, 1, 0x0, .ro, .V⟩
def F.RMT_SST_STATE : Fld := ⟨70, 26, 4, 0x0, .ro, .L⟩
def F.RMT_SST_TARGET : Fld := ⟨71, 16, 8, 0xFF, .ro, .L⟩
def F.RMT_SST_AGE : Fld := ⟨72, 0, 16, 0xFFFF, .ro, .L⟩
/-- RMT_SST: R91. -/
def R.RMT_SST : RegRow := ⟨21, 0x022000, 0x10, 26, .fclk, [F.RMT_SST_RET, F.RMT_SST_SUBST, F.RMT_SST_STATE, F.RMT_SST_TARGET, F.RMT_SST_AGE]⟩

/-! ### FLT -/

def F.FLT_ENG_SHED : Fld := ⟨73, 31, 1, 0x0, .ro, .L⟩
def F.FLT_ENG_FPOFF : Fld := ⟨74, 30, 1, 0x0, .ro, .L⟩
def F.FLT_ENG_LANERET : Fld := ⟨75, 16, 11, 0x0, .ro, .V⟩
def F.FLT_ENG_SPAREFOR : Fld := ⟨76, 12, 4, 0xF, .ro, .V⟩
def F.FLT_ENG_RECOMP : Fld := ⟨77, 0, 12, 0x0, .ro, .L⟩
/-- FLT_ENG: R115. -/
def R.FLT_ENG : RegRow := ⟨22, 0x030000, 0x4, 1, .fclk, [F.FLT_ENG_SHED, F.FLT_ENG_FPOFF, F.FLT_ENG_LANERET, F.FLT_ENG_SPAREFOR, F.FLT_ENG_RECOMP]⟩
def F.FLT_ROMID_ROMVER : Fld := ⟨78, 16, 16, 0x1, .ro, .L⟩
def F.FLT_ROMID_ROMCRC : Fld := ⟨79, 0, 16, 0x9E4B, .ro, .L⟩
/-- FLT_ROMID: R115. -/
def R.FLT_ROMID : RegRow := ⟨23, 0x030004, 0x4, 1, .fclk, [F.FLT_ROMID_ROMVER, F.FLT_ROMID_ROMCRC]⟩
def F.FLT_CFG_RESP0 : Fld := ⟨80, 26, 6, 0x0, .live, .I⟩
def F.FLT_CFG_RESP1 : Fld := ⟨81, 20, 6, 0x0, .live, .I⟩
def F.FLT_CFG_RESP2 : Fld := ⟨82, 14, 6, 0x0, .live, .I⟩
def F.FLT_CFG_RESP3 : Fld := ⟨83, 8, 6, 0x0, .live, .I⟩
def F.FLT_CFG_FPR : Fld := ⟨84, 2, 6, 0x0, .live, .I⟩
/-- FLT_CFG: R115. -/
def R.FLT_CFG : RegRow := ⟨24, 0x031000, 0x10, 144, .fclk, [F.FLT_CFG_RESP0, F.FLT_CFG_RESP1, F.FLT_CFG_RESP2, F.FLT_CFG_RESP3, F.FLT_CFG_FPR]⟩
def F.FLT_THR_FTHR : Fld := ⟨85, 16, 15, 0x0, .live, .I⟩
def F.FLT_THR_STEPTH : Fld := ⟨86, 0, 16, 0x0, .live, .I⟩
/-- FLT_THR: R115. -/
def R.FLT_THR : RegRow := ⟨25, 0x031004, 0x10, 144, .fclk, [F.FLT_THR_FTHR, F.FLT_THR_STEPTH]⟩
def F.FLT_ST_OVC : Fld := ⟨87, 31, 1, 0x0, .ro, .L⟩
def F.FLT_ST_STEP : Fld := ⟨88, 30, 1, 0x0, .ro, .L⟩
def F.FLT_ST_SETTLE : Fld := ⟨89, 29, 1, 0x0, .ro, .L⟩
def F.FLT_ST_SATL : Fld := ⟨90, 18, 1, 0x0, .w1c, .L⟩
def F.FLT_ST_OVCL : Fld := ⟨91, 17, 1, 0x0, .w1c, .L⟩
def F.FLT_ST_STEPL : Fld := ⟨92, 16, 1, 0x0, .w1c, .L⟩
def F.FLT_ST_FAST : Fld := ⟨93, 0, 16, 0x0, .ro, .L⟩
/-- FLT_ST: R115. -/
def R.FLT_ST : RegRow := ⟨26, 0x031008, 0x10, 170, .fclk, [F.FLT_ST_OVC, F.FLT_ST_STEP, F.FLT_ST_SETTLE, F.FLT_ST_SATL, F.FLT_ST_OVCL, F.FLT_ST_STEPL, F.FLT_ST_FAST]⟩
def F.FLT_OVCMAP_OVC : Fld := ⟨94, 0, 32, 0x0, .ro, .L⟩
/-- FLT_OVCMAP: R115. -/
def R.FLT_OVCMAP : RegRow := ⟨27, 0x032000, 0x4, 5, .fclk, [F.FLT_OVCMAP_OVC]⟩

/-! ### MTR -/

def F.MTR_CFG_EN : Fld := ⟨95, 31, 1, 0x0, .live, .I⟩
def F.MTR_CFG_TYPE : Fld := ⟨96, 28, 3, 0x0, .live, .I⟩
def F.MTR_CFG_PACE : Fld := ⟨97, 25, 3, 0x2, .live, .I⟩
def F.MTR_CFG_GG : Fld := ⟨98, 23, 2, 0x0, .live, .I⟩
def F.MTR_CFG_AH : Fld := ⟨99, 22, 1, 0x0, .live, .I⟩
def F.MTR_CFG_STARTI : Fld := ⟨100, 12, 8, 0x0, .live, .I⟩
/-- MTR_CFG: R138. -/
def R.MTR_CFG : RegRow := ⟨28, 0x040000, 0x40, 48, .aclk, [F.MTR_CFG_EN, F.MTR_CFG_TYPE, F.MTR_CFG_PACE, F.MTR_CFG_GG, F.MTR_CFG_AH, F.MTR_CFG_STARTI]⟩
def F.MTR_INOM_INOM : Fld := ⟨101, 0, 32, 0x0, .live, .I⟩
/-- MTR_INOM: R138. -/
def R.MTR_INOM : RegRow := ⟨29, 0x040004, 0x40, 48, .aclk, [F.MTR_INOM_INOM]⟩
def F.MTR_CHA_UREF : Fld := ⟨102, 16, 16, 0xFF, .live, .I⟩
def F.MTR_CHA_IREF : Fld := ⟨103, 0, 16, 0xFF, .live, .I⟩
/-- MTR_CHA: R138. -/
def R.MTR_CHA : RegRow := ⟨30, 0x040008, 0x40, 48, .aclk, [F.MTR_CHA_UREF, F.MTR_CHA_IREF]⟩
def F.MTR_CHB_UREF : Fld := ⟨104, 16, 16, 0xFF, .live, .I⟩
def F.MTR_CHB_IREF : Fld := ⟨105, 0, 16, 0xFF, .live, .I⟩
/-- MTR_CHB: R138. -/
def R.MTR_CHB : RegRow := ⟨31, 0x04000C, 0x40, 48, .aclk, [F.MTR_CHB_UREF, F.MTR_CHB_IREF]⟩
def F.MTR_CHC_UREF : Fld := ⟨106, 16, 16, 0xFF, .live, .I⟩
def F.MTR_CHC_IREF : Fld := ⟨107, 0, 16, 0xFF, .live, .I⟩
/-- MTR_CHC: R138. -/
def R.MTR_CHC : RegRow := ⟨32, 0x040010, 0x40, 48, .aclk, [F.MTR_CHC_UREF, F.MTR_CHC_IREF]⟩
def F.MTR_IDCLIM_IDCLIM : Fld := ⟨108, 0, 16, 0x0, .live, .I⟩
/-- MTR_IDCLIM: R138. -/
def R.MTR_IDCLIM : RegRow := ⟨33, 0x040014, 0x40, 48, .aclk, [F.MTR_IDCLIM_IDCLIM]⟩
def F.MTR_ST_ACTIVE : Fld := ⟨109, 31, 1, 0x0, .ro, .L⟩
def F.MTR_ST_NLC : Fld := ⟨110, 30, 1, 0x0, .ro, .L⟩
def F.MTR_ST_NLB : Fld := ⟨111, 29, 1, 0x0, .ro, .L⟩
def F.MTR_ST_NLA : Fld := ⟨112, 28, 1, 0x0, .ro, .L⟩
def F.MTR_ST_OVR : Fld := ⟨113, 27, 1, 0x0, .ro, .L⟩
def F.MTR_ST_OPEN : Fld := ⟨114, 26, 1, 0x0, .ro, .L⟩
def F.MTR_ST_SETTLE : Fld := ⟨115, 25, 1, 0x0, .ro, .L⟩
def F.MTR_ST_UNLOCK : Fld := ⟨116, 24, 1, 0x0, .ro, .L⟩
def F.MTR_ST_RLOSS : Fld := ⟨117, 23, 1, 0x0, .ro, .L⟩
def F.MTR_ST_DEFICIT : Fld := ⟨118, 22, 1, 0x0, .ro, .L⟩
def F.MTR_ST_QNOW : Fld := ⟨119, 20, 2, 0x1, .ro, .L⟩
def F.MTR_ST_IDCX : Fld := ⟨120, 4, 1, 0x0, .ro, .L⟩
def F.MTR_ST_OVRL : Fld := ⟨121, 3, 1, 0x0, .w1c, .L⟩
def F.MTR_ST_OPENL : Fld := ⟨122, 2, 1, 0x0, .w1c, .L⟩
def F.MTR_ST_RLOSSL : Fld := ⟨123, 1, 1, 0x0, .w1c, .L⟩
def F.MTR_ST_IDCXL : Fld := ⟨124, 0, 1, 0x0, .w1c, .L⟩
/-- MTR_ST: R138. -/
def R.MTR_ST : RegRow := ⟨34, 0x040018, 0x40, 48, .aclk, [F.MTR_ST_ACTIVE, F.MTR_ST_NLC, F.MTR_ST_NLB, F.MTR_ST_NLA, F.MTR_ST_OVR, F.MTR_ST_OPEN, F.MTR_ST_SETTLE, F.MTR_ST_UNLOCK, F.MTR_ST_RLOSS, F.MTR_ST_DEFICIT, F.MTR_ST_QNOW, F.MTR_ST_IDCX, F.MTR_ST_OVRL, F.MTR_ST_OPENL, F.MTR_ST_RLOSSL, F.MTR_ST_IDCXL]⟩
def F.MTR_SCALE_K : Fld := ⟨125, 0, 32, 0x3F800000, .live, .I⟩
/-- MTR_SCALE: R138. -/
def R.MTR_SCALE : RegRow := ⟨35, 0x041000, 0x4, 144, .aclk, [F.MTR_SCALE_K]⟩
def F.MTR_VS_EN : Fld := ⟨126, 31, 1, 0x0, .live, .I⟩
def F.MTR_VS_NEG : Fld := ⟨127, 30, 1, 0x0, .live, .I⟩
def F.MTR_VS_REF : Fld := ⟨128, 0, 16, 0xFF, .live, .I⟩
/-- MTR_VS: R138. -/
def R.MTR_VS : RegRow := ⟨36, 0x042000, 0x4, 128, .aclk, [F.MTR_VS_EN, F.MTR_VS_NEG, F.MTR_VS_REF]⟩
def F.MTR_REG_EN : Fld := ⟨129, 31, 1, 0x0, .live, .I⟩
def F.MTR_REG_METER : Fld := ⟨130, 10, 6, 0x0, .live, .I⟩
def F.MTR_REG_SET : Fld := ⟨131, 8, 2, 0x0, .live, .I⟩
def F.MTR_REG_QTY : Fld := ⟨132, 0, 4, 0x0, .live, .I⟩
/-- MTR_REG: R138. -/
def R.MTR_REG : RegRow := ⟨37, 0x043000, 0x4, 100, .aclk, [F.MTR_REG_EN, F.MTR_REG_METER, F.MTR_REG_SET, F.MTR_REG_QTY]⟩
def F.MTR_RES_RES : Fld := ⟨133, 0, 32, 0x0, .ro, .L⟩
/-- MTR_RES: R138. -/
def R.MTR_RES : RegRow := ⟨38, 0x044000, 0x4, 1536, .aclk, [F.MTR_RES_RES]⟩
def F.MTR_HOLD_HOLD : Fld := ⟨134, 31, 1, 0x0, .rw, .L⟩
def F.MTR_HOLD_EXP : Fld := ⟨135, 30, 1, 0x0, .ro, .L⟩
def F.MTR_HOLD_METER : Fld := ⟨136, 0, 6, 0x0, .rw, .L⟩
/-- MTR_HOLD: R138. -/
def R.MTR_HOLD : RegRow := ⟨39, 0x046000, 0x4, 1, .aclk, [F.MTR_HOLD_HOLD, F.MTR_HOLD_EXP, F.MTR_HOLD_METER]⟩
def F.MTR_CKST_SRC : Fld := ⟨137, 30, 2, 0x0, .ro, .L⟩
def F.MTR_CKST_SLOT : Fld := ⟨138, 24, 6, 0x0, .ro, .L⟩
def F.MTR_CKST_DROPPED : Fld := ⟨139, 16, 8, 0x0, .ro, .L⟩
def F.MTR_CKST_NEWREG : Fld := ⟨140, 8, 8, 0x0, .ro, .L⟩
/-- MTR_CKST: R138. -/
def R.MTR_CKST : RegRow := ⟨40, 0x046004, 0x4, 1, .aclk, [F.MTR_CKST_SRC, F.MTR_CKST_SLOT, F.MTR_CKST_DROPPED, F.MTR_CKST_NEWREG]⟩

/-! ### ACC -/

def F.ACC_LO_VIEW_LO : Fld := ⟨141, 0, 32, 0x0, .ro, .V⟩
/-- ACC_LO: R138. -/
def R.ACC_LO : RegRow := ⟨41, 0x060000, 0x10, 3072, .aclk, [F.ACC_LO_VIEW_LO]⟩
def F.ACC_HI_VIEW_HI : Fld := ⟨142, 0, 32, 0x0, .ro, .V⟩
/-- ACC_HI: R138. -/
def R.ACC_HI : RegRow := ⟨42, 0x060004, 0x10, 3072, .aclk, [F.ACC_HI_VIEW_HI]⟩
def F.ACC_QUAL_QNOW : Fld := ⟨143, 30, 2, 0x1, .ro, .L⟩
def F.ACC_QUAL_QWORST : Fld := ⟨144, 28, 2, 0x1, .ro, .L⟩
def F.ACC_QUAL_QCLR : Fld := ⟨145, 27, 1, 0x0, .wo, .L⟩
def F.ACC_QUAL_REG : Fld := ⟨146, 26, 1, 0x0, .ro, .I⟩
def F.ACC_QUAL_DEFICIT : Fld := ⟨147, 0, 24, 0x0, .ro, .L⟩
/-- ACC_QUAL: R138. -/
def R.ACC_QUAL : RegRow := ⟨43, 0x060008, 0x10, 3072, .aclk, [F.ACC_QUAL_QNOW, F.ACC_QUAL_QWORST, F.ACC_QUAL_QCLR, F.ACC_QUAL_REG, F.ACC_QUAL_DEFICIT]⟩

/-! ### PLS -/

def F.PLS_CFG_EN : Fld := ⟨148, 31, 1, 0x0, .live, .I⟩
def F.PLS_CFG_SRC : Fld := ⟨149, 16, 12, 0x0, .live, .I⟩
def F.PLS_CFG_WIDTH : Fld := ⟨150, 0, 13, 0x0, .live, .I⟩
/-- PLS_CFG: R155. -/
def R.PLS_CFG : RegRow := ⟨44, 0x070000, 0x10, 16, .aclk, [F.PLS_CFG_EN, F.PLS_CFG_SRC, F.PLS_CFG_WIDTH]⟩
def F.PLS_CONST_PCONST : Fld := ⟨151, 0, 32, 0x0, .live, .I⟩
/-- PLS_CONST: R155. -/
def R.PLS_CONST : RegRow := ⟨45, 0x070004, 0x10, 16, .aclk, [F.PLS_CONST_PCONST]⟩
def F.PLS_ST_DRIVER : Fld := ⟨152, 31, 1, 0x0, .ro, .L⟩
def F.PLS_ST_LOW : Fld := ⟨153, 30, 1, 0x0, .ro, .L⟩
def F.PLS_ST_RATEX : Fld := ⟨154, 29, 1, 0x0, .ro, .L⟩
def F.PLS_ST_PINERR : Fld := ⟨155, 28, 1, 0x0, .ro, .L⟩
def F.PLS_ST_TRUNC : Fld := ⟨156, 4, 1, 0x0, .w1c, .L⟩
def F.PLS_ST_MISL : Fld := ⟨157, 3, 1, 0x0, .w1c, .L⟩
def F.PLS_ST_RATEXL : Fld := ⟨158, 2, 1, 0x0, .w1c, .L⟩
def F.PLS_ST_PINERRL : Fld := ⟨159, 1, 1, 0x0, .w1c, .L⟩
/-- PLS_ST: R155. -/
def R.PLS_ST : RegRow := ⟨46, 0x070008, 0x10, 16, .aclk, [F.PLS_ST_DRIVER, F.PLS_ST_LOW, F.PLS_ST_RATEX, F.PLS_ST_PINERR, F.PLS_ST_TRUNC, F.PLS_ST_MISL, F.PLS_ST_RATEXL, F.PLS_ST_PINERRL]⟩
def F.PLS_CNT_CNT : Fld := ⟨160, 0, 32, 0x0, .ro, .L⟩
/-- PLS_CNT: R155. -/
def R.PLS_CNT : RegRow := ⟨47, 0x07000C, 0x10, 16, .aclk, [F.PLS_CNT_CNT]⟩
def F.PLS_RES_RES : Fld := ⟨161, 0, 32, 0x0, .ro, .L⟩
/-- PLS_RES: R155. -/
def R.PLS_RES : RegRow := ⟨48, 0x070100, 0x4, 16, .aclk, [F.PLS_RES_RES]⟩

/-! ### GRD -/

def F.GRD_CFG_EN : Fld := ⟨162, 31, 1, 0x0, .live, .I⟩
def F.GRD_CFG_FNOM : Fld := ⟨163, 30, 1, 0x0, .live, .I⟩
def F.GRD_CFG_SMOOTH : Fld := ⟨164, 29, 1, 0x0, .live, .I⟩
def F.GRD_CFG_REF : Fld := ⟨165, 0, 16, 0xFF, .live, .I⟩
/-- GRD_CFG: R174/R175. -/
def R.GRD_CFG : RegRow := ⟨49, 0x080000, 0x20, 4, .aclk, [F.GRD_CFG_EN, F.GRD_CFG_FNOM, F.GRD_CFG_SMOOTH, F.GRD_CFG_REF]⟩
def F.GRD_UNOM_UNOM : Fld := ⟨166, 0, 32, 0x0, .live, .I⟩
/-- GRD_UNOM: R174/R175. -/
def R.GRD_UNOM : RegRow := ⟨50, 0x080004, 0x20, 4, .aclk, [F.GRD_UNOM_UNOM]⟩
def F.GRD_LIM_ULOCK : Fld := ⟨167, 24, 8, 0x0, .live, .I⟩
def F.GRD_LIM_UDROP : Fld := ⟨168, 16, 8, 0x0, .live, .I⟩
def F.GRD_LIM_HOLDT : Fld := ⟨169, 0, 16, 0x0, .live, .I⟩
/-- GRD_LIM: R174/R175. -/
def R.GRD_LIM : RegRow := ⟨51, 0x080008, 0x20, 4, .aclk, [F.GRD_LIM_ULOCK, F.GRD_LIM_UDROP, F.GRD_LIM_HOLDT]⟩
def F.GRD_ST_STATE : Fld := ⟨170, 29, 3, 0x0, .ro, .L⟩
def F.GRD_ST_LOSSL : Fld := ⟨171, 19, 1, 0x0, .w1c, .L⟩
def F.GRD_ST_SEEKL : Fld := ⟨172, 18, 1, 0x0, .w1c, .L⟩
def F.GRD_ST_CSEQ : Fld := ⟨173, 0, 16, 0x0, .ro, .L⟩
/-- GRD_ST: R174/R175. -/
def R.GRD_ST : RegRow := ⟨52, 0x08000C, 0x20, 4, .aclk, [F.GRD_ST_STATE, F.GRD_ST_LOSSL, F.GRD_ST_SEEKL, F.GRD_ST_CSEQ]⟩
def F.GRD_FREQ_FREQ : Fld := ⟨174, 0, 32, 0x0, .ro, .L⟩
/-- GRD_FREQ: R174/R175. -/
def R.GRD_FREQ : RegRow := ⟨53, 0x080010, 0x20, 4, .aclk, [F.GRD_FREQ_FREQ]⟩
def F.GRD_F10S_F10S : Fld := ⟨175, 0, 32, 0x0, .ro, .L⟩
/-- GRD_F10S: R174/R175. -/
def R.GRD_F10S : RegRow := ⟨54, 0x080014, 0x20, 4, .aclk, [F.GRD_F10S_F10S]⟩
def F.GRD_TB_LO_TB_LO : Fld := ⟨176, 0, 32, 0x0, .ro, .L⟩
/-- GRD_TB_LO: R174/R175. -/
def R.GRD_TB_LO : RegRow := ⟨55, 0x080018, 0x20, 4, .aclk, [F.GRD_TB_LO_TB_LO]⟩
def F.GRD_TB_HI_TB_HI : Fld := ⟨177, 0, 32, 0x0, .ro, .L⟩
/-- GRD_TB_HI: R174/R175. -/
def R.GRD_TB_HI : RegRow := ⟨56, 0x08001C, 0x20, 4, .aclk, [F.GRD_TB_HI_TB_HI]⟩
def F.GRD_CHAN_EN : Fld := ⟨178, 31, 1, 0x0, .live, .I⟩
def F.GRD_CHAN_GG : Fld := ⟨179, 29, 2, 0x0, .live, .I⟩
def F.GRD_CHAN_KIND : Fld := ⟨180, 28, 1, 0x0, .live, .I⟩
/-- GRD_CHAN: R174/R175. -/
def R.GRD_CHAN : RegRow := ⟨57, 0x081000, 0x4, 144, .aclk, [F.GRD_CHAN_EN, F.GRD_CHAN_GG, F.GRD_CHAN_KIND]⟩
def F.GRD_IDMD_IDMD : Fld := ⟨181, 0, 32, 0x0, .live, .I⟩
/-- GRD_IDMD: R174/R175. -/
def R.GRD_IDMD : RegRow := ⟨58, 0x081400, 0x4, 144, .aclk, [F.GRD_IDMD_IDMD]⟩

/-! ### HRM -/

def F.HRM_ENG_HOFF : Fld := ⟨182, 31, 1, 0x0, .ro, .L⟩
def F.HRM_ENG_HBOFF : Fld := ⟨183, 30, 1, 0x0, .ro, .L⟩
def F.HRM_ENG_LANERET : Fld := ⟨184, 12, 17, 0x0, .ro, .V⟩
def F.HRM_ENG_SPAREFOR : Fld := ⟨185, 7, 5, 0x1F, .ro, .V⟩
/-- HRM_ENG: R174/R175. -/
def R.HRM_ENG : RegRow := ⟨59, 0x090000, 0x4, 1, .hclk, [F.HRM_ENG_HOFF, F.HRM_ENG_HBOFF, F.HRM_ENG_LANERET, F.HRM_ENG_SPAREFOR]⟩
def F.HRM_CNT_RECOMP : Fld := ⟨186, 16, 16, 0x0, .ro, .L⟩
def F.HRM_CNT_MISS : Fld := ⟨187, 0, 16, 0x0, .ro, .L⟩
/-- HRM_CNT: R174/R175. -/
def R.HRM_CNT : RegRow := ⟨60, 0x090004, 0x4, 1, .hclk, [F.HRM_CNT_RECOMP, F.HRM_CNT_MISS]⟩
def F.HRM_HOLD_HOLD : Fld := ⟨188, 31, 1, 0x0, .rw, .L⟩
def F.HRM_HOLD_EXP : Fld := ⟨189, 30, 1, 0x0, .ro, .L⟩
def F.HRM_HOLD_STREAM : Fld := ⟨190, 0, 8, 0x0, .rw, .L⟩
/-- HRM_HOLD: R174/R175. -/
def R.HRM_HOLD : RegRow := ⟨61, 0x090008, 0x4, 1, .hclk, [F.HRM_HOLD_HOLD, F.HRM_HOLD_EXP, F.HRM_HOLD_STREAM]⟩
def F.HRM_CYC_CSEQ : Fld := ⟨191, 16, 16, 0x0, .ro, .L⟩
def F.HRM_CYC_UNLK : Fld := ⟨192, 15, 1, 0x0, .ro, .L⟩
def F.HRM_CYC_OVR : Fld := ⟨193, 14, 1, 0x0, .ro, .L⟩
def F.HRM_CYC_OPEN : Fld := ⟨194, 13, 1, 0x0, .ro, .L⟩
/-- HRM_CYC: R174/R175. -/
def R.HRM_CYC : RegRow := ⟨62, 0x091000, 0x100, 144, .hclk, [F.HRM_CYC_CSEQ, F.HRM_CYC_UNLK, F.HRM_CYC_OVR, F.HRM_CYC_OPEN]⟩
def F.HRM_DC_DC : Fld := ⟨195, 0, 32, 0x0, .ro, .L⟩
/-- HRM_DC: R174/R175. -/
def R.HRM_DC : RegRow := ⟨63, 0x091004, 0x100, 144, .hclk, [F.HRM_DC_DC]⟩
def F.HRM_PHM_MAG : Fld := ⟨196, 0, 32, 0x0, .ro, .L⟩
/-- HRM_PHM: R174/R175. -/
def R.HRM_PHM : RegRow := ⟨64, 0x091000, 0x8, 4608, .hclk, [F.HRM_PHM_MAG]⟩
def F.HRM_PHA_PHASE : Fld := ⟨197, 0, 32, 0x0, .ro, .L⟩
/-- HRM_PHA: R174/R175. -/
def R.HRM_PHA : RegRow := ⟨65, 0x091004, 0x8, 4608, .hclk, [F.HRM_PHA_PHASE]⟩
def F.HRM_W_WORD : Fld := ⟨198, 0, 32, 0x0, .ro, .L⟩
/-- HRM_W: R174/R175. -/
def R.HRM_W : RegRow := ⟨66, 0x0A0000, 0x4, 27648, .hclk, [F.HRM_W_WORD]⟩

/-! ### DST -/

def F.DST_GCFG_EN : Fld := ⟨199, 31, 1, 0x0, .live, .I⟩
def F.DST_GCFG_INTTH : Fld := ⟨200, 12, 12, 0x0, .live, .I⟩
def F.DST_GCFG_HYST : Fld := ⟨201, 0, 12, 0x0, .live, .I⟩
/-- DST_GCFG: R194. -/
def R.DST_GCFG : RegRow := ⟨67, 0x0C0000, 0x40, 4, .aclk, [F.DST_GCFG_EN, F.DST_GCFG_INTTH, F.DST_GCFG_HYST]⟩
def F.DST_GTHR_SWLTH : Fld := ⟨202, 16, 12, 0x0, .live, .I⟩
def F.DST_GTHR_DIPTH : Fld := ⟨203, 0, 12, 0x0, .live, .I⟩
/-- DST_GTHR: R194. -/
def R.DST_GTHR : RegRow := ⟨68, 0x0C0004, 0x40, 4, .aclk, [F.DST_GTHR_SWLTH, F.DST_GTHR_DIPTH]⟩
def F.DST_GRVC_RVCTH : Fld := ⟨204, 12, 12, 0x0, .live, .I⟩
def F.DST_GRVC_RVCHY : Fld := ⟨205, 0, 12, 0x0, .live, .I⟩
/-- DST_GRVC: R194. -/
def R.DST_GRVC : RegRow := ⟨69, 0x0C0008, 0x40, 4, .aclk, [F.DST_GRVC_RVCTH, F.DST_GRVC_RVCHY]⟩
def F.DST_GFRQ_FDEV : Fld := ⟨206, 16, 16, 0x0, .live, .I⟩
def F.DST_GFRQ_FHYST : Fld := ⟨207, 8, 8, 0x0, .live, .I⟩
def F.DST_GFRQ_FQUAL : Fld := ⟨208, 0, 8, 0x0, .live, .I⟩
/-- DST_GFRQ: R194. -/
def R.DST_GFRQ : RegRow := ⟨70, 0x0C000C, 0x40, 4, .aclk, [F.DST_GFRQ_FDEV, F.DST_GFRQ_FHYST, F.DST_GFRQ_FQUAL]⟩
def F.DST_GROC_ROCTH : Fld := ⟨209, 16, 16, 0x0, .live, .I⟩
/-- DST_GROC: R194. -/
def R.DST_GROC : RegRow := ⟨71, 0x0C0010, 0x40, 4, .aclk, [F.DST_GROC_ROCTH]⟩
def F.DST_ROCOF_ROCOF : Fld := ⟨210, 0, 32, 0x0, .ro, .L⟩
/-- DST_ROCOF: R194. -/
def R.DST_ROCOF : RegRow := ⟨72, 0x0C0014, 0x40, 4, .aclk, [F.DST_ROCOF_ROCOF]⟩
def F.DST_GST_DIP : Fld := ⟨211, 31, 1, 0x0, .ro, .L⟩
def F.DST_GST_SWL : Fld := ⟨212, 30, 1, 0x0, .ro, .L⟩
def F.DST_GST_INT : Fld := ⟨213, 29, 1, 0x0, .ro, .L⟩
def F.DST_GST_RVC : Fld := ⟨214, 28, 1, 0x0, .ro, .L⟩
def F.DST_GST_FEX : Fld := ⟨215, 27, 1, 0x0, .ro, .L⟩
def F.DST_GST_ROC : Fld := ⟨216, 26, 1, 0x0, .ro, .L⟩
def F.DST_GST_FLAG : Fld := ⟨217, 25, 1, 0x0, .ro, .L⟩
def F.DST_GST_DIPL : Fld := ⟨218, 13, 1, 0x0, .w1c, .L⟩
def F.DST_GST_SWLL : Fld := ⟨219, 12, 1, 0x0, .w1c, .L⟩
def F.DST_GST_INTL : Fld := ⟨220, 11, 1, 0x0, .w1c, .L⟩
def F.DST_GST_RVCL : Fld := ⟨221, 10, 1, 0x0, .w1c, .L⟩
def F.DST_GST_FEXL : Fld := ⟨222, 9, 1, 0x0, .w1c, .L⟩
def F.DST_GST_ROCL : Fld := ⟨223, 8, 1, 0x0, .w1c, .L⟩
/-- DST_GST: R194. -/
def R.DST_GST : RegRow := ⟨73, 0x0C0018, 0x40, 4, .aclk, [F.DST_GST_DIP, F.DST_GST_SWL, F.DST_GST_INT, F.DST_GST_RVC, F.DST_GST_FEX, F.DST_GST_ROC, F.DST_GST_FLAG, F.DST_GST_DIPL, F.DST_GST_SWLL, F.DST_GST_INTL, F.DST_GST_RVCL, F.DST_GST_FEXL, F.DST_GST_ROCL]⟩
def F.DST_LREC_TYPE : Fld := ⟨224, 29, 3, 0x0, .ro, .L⟩
def F.DST_LREC_INTR : Fld := ⟨225, 28, 1, 0x0, .ro, .L⟩
def F.DST_LREC_UNLK : Fld := ⟨226, 27, 1, 0x0, .ro, .L⟩
def F.DST_LREC_OVR : Fld := ⟨227, 26, 1, 0x0, .ro, .L⟩
def F.DST_LREC_OPEN : Fld := ⟨228, 25, 1, 0x0, .ro, .L⟩
def F.DST_LREC_CUT : Fld := ⟨229, 24, 1, 0x0, .ro, .L⟩
def F.DST_LREC_STREAM : Fld := ⟨230, 0, 8, 0xFF, .ro, .L⟩
/-- DST_LREC: R194. -/
def R.DST_LREC : RegRow := ⟨74, 0x0C001C, 0x40, 4, .aclk, [F.DST_LREC_TYPE, F.DST_LREC_INTR, F.DST_LREC_UNLK, F.DST_LREC_OVR, F.DST_LREC_OPEN, F.DST_LREC_CUT, F.DST_LREC_STREAM]⟩
def F.DST_LSTART_LO_START_LO : Fld := ⟨231, 0, 32, 0x0, .ro, .L⟩
/-- DST_LSTART_LO: R194. -/
def R.DST_LSTART_LO : RegRow := ⟨75, 0x0C0020, 0x40, 4, .aclk, [F.DST_LSTART_LO_START_LO]⟩
def F.DST_LSTART_HI_START_HI : Fld := ⟨232, 0, 32, 0x0, .ro, .L⟩
/-- DST_LSTART_HI: R194. -/
def R.DST_LSTART_HI : RegRow := ⟨76, 0x0C0024, 0x40, 4, .aclk, [F.DST_LSTART_HI_START_HI]⟩
def F.DST_LDUR_DUR : Fld := ⟨233, 0, 32, 0x0, .ro, .L⟩
/-- DST_LDUR: R194. -/
def R.DST_LDUR : RegRow := ⟨77, 0x0C0028, 0x40, 4, .aclk, [F.DST_LDUR_DUR]⟩
def F.DST_LVAL_VAL1 : Fld := ⟨234, 16, 16, 0x0, .ro, .L⟩
def F.DST_LVAL_VAL2 : Fld := ⟨235, 0, 16, 0x0, .ro, .L⟩
/-- DST_LVAL: R194. -/
def R.DST_LVAL : RegRow := ⟨78, 0x0C002C, 0x40, 4, .aclk, [F.DST_LVAL_VAL1, F.DST_LVAL_VAL2]⟩
def F.DST_CST_DIP : Fld := ⟨236, 31, 1, 0x0, .ro, .L⟩
def F.DST_CST_SWL : Fld := ⟨237, 30, 1, 0x0, .ro, .L⟩
def F.DST_CST_INT : Fld := ⟨238, 29, 1, 0x0, .ro, .L⟩
def F.DST_CST_RVC : Fld := ⟨239, 28, 1, 0x0, .ro, .L⟩
def F.DST_CST_URMS : Fld := ⟨240, 0, 16, 0x0, .ro, .L⟩
/-- DST_CST: R194. -/
def R.DST_CST : RegRow := ⟨79, 0x0C1000, 0x4, 144, .aclk, [F.DST_CST_DIP, F.DST_CST_SWL, F.DST_CST_INT, F.DST_CST_RVC, F.DST_CST_URMS]⟩
def F.DST_HBSUM_TOTAL : Fld := ⟨241, 16, 16, 0x8000, .ro, .L⟩
def F.DST_HBSUM_GAP : Fld := ⟨242, 15, 1, 0x0, .ro, .L⟩
def F.DST_HBSUM_HBX : Fld := ⟨243, 14, 1, 0x0, .ro, .L⟩
def F.DST_HBSUM_HBXL : Fld := ⟨244, 13, 1, 0x0, .w1c, .L⟩
def F.DST_HBSUM_PEAK : Fld := ⟨245, 0, 10, 0x0, .ro, .L⟩
/-- DST_HBSUM: R194. -/
def R.DST_HBSUM : RegRow := ⟨80, 0x0C2000, 0x8, 144, .hclk, [F.DST_HBSUM_TOTAL, F.DST_HBSUM_GAP, F.DST_HBSUM_HBX, F.DST_HBSUM_HBXL, F.DST_HBSUM_PEAK]⟩
def F.DST_HBLIM_HBLIM : Fld := ⟨246, 16, 16, 0x8000, .live, .I⟩
/-- DST_HBLIM: R194. -/
def R.DST_HBLIM : RegRow := ⟨81, 0x0C2004, 0x8, 144, .aclk, [F.DST_HBLIM_HBLIM]⟩
def F.DST_ARC_EN : Fld := ⟨247, 31, 1, 0x0, .live, .I⟩
def F.DST_ARC_ARCTH : Fld := ⟨248, 16, 8, 0x0, .live, .I⟩
def F.DST_ARC_ARCN : Fld := ⟨249, 0, 9, 0x0, .live, .I⟩
/-- DST_ARC: R194. -/
def R.DST_ARC : RegRow := ⟨82, 0x0C3000, 0x8, 144, .aclk, [F.DST_ARC_EN, F.DST_ARC_ARCTH, F.DST_ARC_ARCN]⟩
def F.DST_ARCST_ARCIND : Fld := ⟨250, 31, 1, 0x0, .ro, .L⟩
def F.DST_ARCST_ARCL : Fld := ⟨251, 30, 1, 0x0, .w1c, .L⟩
def F.DST_ARCST_WARM : Fld := ⟨252, 29, 1, 0x0, .ro, .L⟩
def F.DST_ARCST_CNT : Fld := ⟨253, 16, 9, 0x0, .ro, .L⟩
def F.DST_ARCST_STAT : Fld := ⟨254, 0, 16, 0x0, .ro, .L⟩
/-- DST_ARCST: R194. -/
def R.DST_ARCST : RegRow := ⟨83, 0x0C3004, 0x8, 144, .hclk, [F.DST_ARCST_ARCIND, F.DST_ARCST_ARCL, F.DST_ARCST_WARM, F.DST_ARCST_CNT, F.DST_ARCST_STAT]⟩
def F.DST_LBH_PSEQ : Fld := ⟨255, 16, 16, 0x0, .ro, .L⟩
def F.DST_LBH_GAP : Fld := ⟨256, 15, 1, 0x0, .ro, .L⟩
def F.DST_LBH_OVR : Fld := ⟨257, 14, 1, 0x0, .ro, .L⟩
def F.DST_LBH_OPEN : Fld := ⟨258, 13, 1, 0x0, .ro, .L⟩
/-- DST_LBH: R194. -/
def R.DST_LBH : RegRow := ⟨84, 0x0C408C, 0x90, 144, .hclk, [F.DST_LBH_PSEQ, F.DST_LBH_GAP, F.DST_LBH_OVR, F.DST_LBH_OPEN]⟩
def F.DST_LB_BAND : Fld := ⟨259, 0, 32, 0x0, .ro, .L⟩
/-- DST_LB: R194. -/
def R.DST_LB : RegRow := ⟨85, 0x0C4000, 0x4, 5184, .hclk, [F.DST_LB_BAND]⟩
def F.DST_HBSEL_HOLD : Fld := ⟨260, 31, 1, 0x0, .rw, .L⟩
def F.DST_HBSEL_EXP : Fld := ⟨261, 30, 1, 0x0, .ro, .L⟩
def F.DST_HBSEL_STREAM : Fld := ⟨262, 0, 8, 0x0, .rw, .L⟩
/-- DST_HBSEL: R194. -/
def R.DST_HBSEL : RegRow := ⟨86, 0x0CA000, 0x4, 1, .hclk, [F.DST_HBSEL_HOLD, F.DST_HBSEL_EXP, F.DST_HBSEL_STREAM]⟩
def F.DST_HBHDR_PSEQ : Fld := ⟨263, 16, 16, 0x0, .ro, .L⟩
def F.DST_HBHDR_GAP : Fld := ⟨264, 15, 1, 0x0, .ro, .L⟩
def F.DST_HBHDR_NBLK : Fld := ⟨265, 0, 7, 0x0, .ro, .L⟩
/-- DST_HBHDR: R194. -/
def R.DST_HBHDR : RegRow := ⟨87, 0x0CA004, 0x4, 1, .hclk, [F.DST_HBHDR_PSEQ, F.DST_HBHDR_GAP, F.DST_HBHDR_NBLK]⟩
def F.DST_HBPAGE_MAX : Fld := ⟨266, 16, 16, 0x8000, .ro, .L⟩
def F.DST_HBPAGE_AVG : Fld := ⟨267, 0, 16, 0x8000, .ro, .L⟩
/-- DST_HBPAGE: R194. -/
def R.DST_HBPAGE : RegRow := ⟨88, 0x0CA010, 0x4, 706, .hclk, [F.DST_HBPAGE_MAX, F.DST_HBPAGE_AVG]⟩

/-! ### CAL -/

def F.CAL_CTL_START : Fld := ⟨268, 31, 1, 0x0, .live, .L⟩
def F.CAL_CTL_STEP : Fld := ⟨269, 30, 1, 0x0, .live, .L⟩
def F.CAL_CTL_COMMIT : Fld := ⟨270, 29, 1, 0x0, .live, .L⟩
def F.CAL_CTL_ABORT : Fld := ⟨271, 28, 1, 0x0, .live, .L⟩
def F.CAL_CTL_TRIG : Fld := ⟨272, 27, 1, 0x0, .live, .L⟩
def F.CAL_CTL_ERASE : Fld := ⟨273, 26, 1, 0x0, .live, .L⟩
def F.CAL_CTL_ESET : Fld := ⟨274, 0, 3, 0x0, .live, .L⟩
/-- CAL_CTL: R217. -/
def R.CAL_CTL : RegRow := ⟨89, 0x0D0000, 0x4, 1, .sclk, [F.CAL_CTL_START, F.CAL_CTL_STEP, F.CAL_CTL_COMMIT, F.CAL_CTL_ABORT, F.CAL_CTL_TRIG, F.CAL_CTL_ERASE, F.CAL_CTL_ESET]⟩
def F.CAL_SESS_MODE : Fld := ⟨275, 31, 1, 0x0, .live, .L⟩
def F.CAL_SESS_REFEN : Fld := ⟨276, 30, 1, 0x0, .live, .L⟩
def F.CAL_SESS_FRESH : Fld := ⟨277, 29, 1, 0x0, .live, .L⟩
def F.CAL_SESS_SET : Fld := ⟨278, 24, 4, 0xF, .live, .L⟩
def F.CAL_SESS_RPT : Fld := ⟨279, 20, 4, 0x5, .live, .L⟩
def F.CAL_SESS_GG : Fld := ⟨280, 18, 2, 0x0, .live, .L⟩
def F.CAL_SESS_NCYC : Fld := ⟨281, 0, 8, 0x32, .live, .L⟩
/-- CAL_SESS: R217. -/
def R.CAL_SESS : RegRow := ⟨90, 0x0D0004, 0x4, 1, .sclk, [F.CAL_SESS_MODE, F.CAL_SESS_REFEN, F.CAL_SESS_FRESH, F.CAL_SESS_SET, F.CAL_SESS_RPT, F.CAL_SESS_GG, F.CAL_SESS_NCYC]⟩
def F.CAL_UREF_UREF : Fld := ⟨282, 0, 32, 0x0, .live, .L⟩
/-- CAL_UREF: R217. -/
def R.CAL_UREF : RegRow := ⟨91, 0x0D0008, 0x4, 1, .sclk, [F.CAL_UREF_UREF]⟩
def F.CAL_IREF_IREF : Fld := ⟨283, 0, 32, 0x0, .live, .L⟩
/-- CAL_IREF: R217. -/
def R.CAL_IREF : RegRow := ⟨92, 0x0D000C, 0x4, 1, .sclk, [F.CAL_IREF_IREF]⟩
def F.CAL_PHI_PHI : Fld := ⟨284, 0, 32, 0x0, .live, .L⟩
/-- CAL_PHI: R217. -/
def R.CAL_PHI : RegRow := ⟨93, 0x0D0010, 0x4, 1, .sclk, [F.CAL_PHI_PHI]⟩
def F.CAL_REFV_REFV : Fld := ⟨285, 0, 32, 0x0, .live, .L⟩
/-- CAL_REFV: R217. -/
def R.CAL_REFV : RegRow := ⟨94, 0x0D0014, 0x4, 1, .sclk, [F.CAL_REFV_REFV]⟩
def F.CAL_SEL_SEL : Fld := ⟨286, 0, 32, 0x0, .live, .L⟩
/-- CAL_SEL: R217. -/
def R.CAL_SEL : RegRow := ⟨95, 0x0D0020, 0x4, 5, .sclk, [F.CAL_SEL_SEL]⟩
def F.CAL_ST_STATE : Fld := ⟨287, 28, 4, 0x0, .ro, .L⟩
def F.CAL_ST_REJ : Fld := ⟨288, 27, 1, 0x0, .ro, .L⟩
def F.CAL_ST_CONFLICT : Fld := ⟨289, 26, 1, 0x0, .ro, .L⟩
def F.CAL_ST_REFOK : Fld := ⟨290, 25, 1, 0x0, .ro, .L⟩
def F.CAL_ST_TRIMOK : Fld := ⟨291, 23, 1, 0x0, .ro, .L⟩
def F.CAL_ST_TRIMRUN : Fld := ⟨292, 22, 1, 0x0, .ro, .L⟩
def F.CAL_ST_TBAD : Fld := ⟨293, 21, 1, 0x0, .ro, .L⟩
def F.CAL_ST_UNCAL : Fld := ⟨294, 20, 1, 0x0, .ro, .L⟩
def F.CAL_ST_RUNS : Fld := ⟨295, 0, 16, 0x0, .ro, .L⟩
/-- CAL_ST: R217. -/
def R.CAL_ST : RegRow := ⟨96, 0x0D0040, 0x4, 1, .sclk, [F.CAL_ST_STATE, F.CAL_ST_REJ, F.CAL_ST_CONFLICT, F.CAL_ST_REFOK, F.CAL_ST_TRIMOK, F.CAL_ST_TRIMRUN, F.CAL_ST_TBAD, F.CAL_ST_UNCAL, F.CAL_ST_RUNS]⟩
def F.CAL_TEMP_TDIE : Fld := ⟨296, 16, 16, 0x0, .ro, .L⟩
def F.CAL_TEMP_TTRIM : Fld := ⟨297, 0, 16, 0x0, .ro, .L⟩
/-- CAL_TEMP: R217. -/
def R.CAL_TEMP : RegRow := ⟨97, 0x0D0044, 0x4, 1, .sclk, [F.CAL_TEMP_TDIE, F.CAL_TEMP_TTRIM]⟩
def F.CAL_TCFG_TRIGDT : Fld := ⟨298, 24, 8, 0x10, .live, .I⟩
def F.CAL_TCFG_TSPREAD : Fld := ⟨299, 16, 8, 0xC, .live, .I⟩
/-- CAL_TCFG: R217. -/
def R.CAL_TCFG : RegRow := ⟨98, 0x0D0048, 0x4, 1, .sclk, [F.CAL_TCFG_TRIGDT, F.CAL_TCFG_TSPREAD]⟩
def F.CAL_RES_PASS : Fld := ⟨300, 0, 32, 0x0, .ro, .L⟩
/-- CAL_RES: R217. -/
def R.CAL_RES : RegRow := ⟨99, 0x0D0060, 0x4, 5, .sclk, [F.CAL_RES_PASS]⟩
def F.CAL_SETINFO_VALID : Fld := ⟨301, 31, 1, 0x0, .ro, .L⟩
def F.CAL_SETINFO_REFKV : Fld := ⟨302, 30, 1, 0x0, .ro, .L⟩
def F.CAL_SETINFO_NENT : Fld := ⟨303, 16, 8, 0x0, .ro, .L⟩
def F.CAL_SETINFO_TSET : Fld := ⟨304, 0, 16, 0x0, .ro, .L⟩
/-- CAL_SETINFO: R217. -/
def R.CAL_SETINFO : RegRow := ⟨100, 0x0D0100, 0x4, 8, .sclk, [F.CAL_SETINFO_VALID, F.CAL_SETINFO_REFKV, F.CAL_SETINFO_NENT, F.CAL_SETINFO_TSET]⟩
def F.CAL_CTAP_NOCAL : Fld := ⟨305, 31, 1, 0x0, .ro, .L⟩
def F.CAL_CTAP_TOUT : Fld := ⟨306, 30, 1, 0x0, .ro, .L⟩
def F.CAL_CTAP_DTAP : Fld := ⟨307, 8, 8, 0x80, .ro, .L⟩
def F.CAL_CTAP_THTAP : Fld := ⟨308, 0, 8, 0x0, .ro, .L⟩
/-- CAL_CTAP: R217. -/
def R.CAL_CTAP : RegRow := ⟨101, 0x0D1000, 0x4, 144, .sclk, [F.CAL_CTAP_NOCAL, F.CAL_CTAP_TOUT, F.CAL_CTAP_DTAP, F.CAL_CTAP_THTAP]⟩

/-! ### TWN -/

def F.TWN_CFG_EN : Fld := ⟨309, 31, 1, 0x0, .live, .I⟩
def F.TWN_CFG_LEADSIDE : Fld := ⟨310, 30, 1, 0x0, .live, .I⟩
def F.TWN_CFG_HOMING : Fld := ⟨311, 29, 1, 0x0, .live, .I⟩
def F.TWN_CFG_ATTWAIT : Fld := ⟨312, 16, 8, 0x28, .live, .I⟩
/-- TWN_CFG: R245. -/
def R.TWN_CFG : RegRow := ⟨102, 0x0E0000, 0x4, 1, .sclk, [F.TWN_CFG_EN, F.TWN_CFG_LEADSIDE, F.TWN_CFG_HOMING, F.TWN_CFG_ATTWAIT]⟩
def F.TWN_CMP_CREL : Fld := ⟨313, 24, 8, 0xF, .live, .I⟩
def F.TWN_CMP_CZ : Fld := ⟨314, 20, 4, 0x6, .live, .I⟩
def F.TWN_CMP_CPERS : Fld := ⟨315, 16, 4, 0x2, .live, .I⟩
def F.TWN_CMP_PTOL : Fld := ⟨316, 0, 16, 0x14, .live, .I⟩
/-- TWN_CMP: R245. -/
def R.TWN_CMP : RegRow := ⟨103, 0x0E0004, 0x4, 1, .sclk, [F.TWN_CMP_CREL, F.TWN_CMP_CZ, F.TWN_CMP_CPERS, F.TWN_CMP_PTOL]⟩
def F.TWN_BSN_BSNOISE : Fld := ⟨317, 0, 16, 0x40, .live, .I⟩
/-- TWN_BSN: R245. -/
def R.TWN_BSN : RegRow := ⟨104, 0x0E0008, 0x4, 1, .sclk, [F.TWN_BSN_BSNOISE]⟩
def F.TWN_CTL_SWAP : Fld := ⟨318, 31, 1, 0x0, .live, .L⟩
def F.TWN_CTL_DETACH : Fld := ⟨319, 30, 1, 0x0, .live, .L⟩
def F.TWN_CTL_ATTACH : Fld := ⟨320, 29, 1, 0x0, .live, .L⟩
def F.TWN_CTL_TAKE : Fld := ⟨321, 28, 1, 0x0, .live, .L⟩
def F.TWN_CTL_REJ : Fld := ⟨322, 27, 1, 0x0, .ro, .L⟩
/-- TWN_CTL: R245. -/
def R.TWN_CTL : RegRow := ⟨105, 0x0E000C, 0x4, 1, .sclk, [F.TWN_CTL_SWAP, F.TWN_CTL_DETACH, F.TWN_CTL_ATTACH, F.TWN_CTL_TAKE, F.TWN_CTL_REJ]⟩
def F.TWN_ST_STATE : Fld := ⟨323, 28, 4, 0x0, .ro, .L⟩
def F.TWN_ST_ROLE : Fld := ⟨324, 26, 2, 0x0, .ro, .L⟩
def F.TWN_ST_PEERFAIL : Fld := ⟨325, 25, 1, 0x0, .ro, .L⟩
def F.TWN_ST_DIGOK : Fld := ⟨326, 24, 1, 0x0, .ro, .L⟩
def F.TWN_ST_PHLOCK : Fld := ⟨327, 23, 1, 0x0, .ro, .L⟩
def F.TWN_ST_ATTL : Fld := ⟨328, 8, 1, 0x0, .w1c, .L⟩
def F.TWN_ST_DETL : Fld := ⟨329, 7, 1, 0x0, .w1c, .L⟩
def F.TWN_ST_LOSSL : Fld := ⟨330, 6, 1, 0x0, .w1c, .L⟩
def F.TWN_ST_TRAINL : Fld := ⟨331, 5, 1, 0x0, .w1c, .L⟩
def F.TWN_ST_DIGL : Fld := ⟨332, 4, 1, 0x0, .w1c, .L⟩
def F.TWN_ST_ROLEL : Fld := ⟨333, 3, 1, 0x0, .w1c, .L⟩
def F.TWN_ST_DISPL : Fld := ⟨334, 2, 1, 0x0, .w1c, .L⟩
def F.TWN_ST_UNRESL : Fld := ⟨335, 1, 1, 0x0, .w1c, .L⟩
/-- TWN_ST: R245. -/
def R.TWN_ST : RegRow := ⟨106, 0x0E0010, 0x4, 1, .sclk, [F.TWN_ST_STATE, F.TWN_ST_ROLE, F.TWN_ST_PEERFAIL, F.TWN_ST_DIGOK, F.TWN_ST_PHLOCK, F.TWN_ST_ATTL, F.TWN_ST_DETL, F.TWN_ST_LOSSL, F.TWN_ST_TRAINL, F.TWN_ST_DIGL, F.TWN_ST_ROLEL, F.TWN_ST_DISPL, F.TWN_ST_UNRESL]⟩
def F.TWN_CNT_RETX : Fld := ⟨336, 16, 16, 0x0, .ro, .L⟩
def F.TWN_CNT_LOSTREC : Fld := ⟨337, 8, 8, 0x0, .ro, .L⟩
def F.TWN_CNT_DISPUTES : Fld := ⟨338, 0, 8, 0x0, .ro, .L⟩
/-- TWN_CNT: R245. -/
def R.TWN_CNT : RegRow := ⟨107, 0x0E0014, 0x4, 1, .sclk, [F.TWN_CNT_RETX, F.TWN_CNT_LOSTREC, F.TWN_CNT_DISPUTES]⟩
def F.TWN_PEER_LO_PEER_LO : Fld := ⟨339, 0, 32, 0x0, .ro, .L⟩
/-- TWN_PEER_LO: R245. -/
def R.TWN_PEER_LO : RegRow := ⟨108, 0x0E0018, 0x4, 1, .sclk, [F.TWN_PEER_LO_PEER_LO]⟩
def F.TWN_PEER_HI_PEER_HI : Fld := ⟨340, 0, 32, 0x0, .ro, .L⟩
/-- TWN_PEER_HI: R245. -/
def R.TWN_PEER_HI : RegRow := ⟨109, 0x0E001C, 0x4, 1, .sclk, [F.TWN_PEER_HI_PEER_HI]⟩
def F.TWN_PHASE_PHERR : Fld := ⟨341, 0, 16, 0x0, .ro, .L⟩
/-- TWN_PHASE: R245. -/
def R.TWN_PHASE : RegRow := ⟨110, 0x0E0020, 0x4, 1, .sclk, [F.TWN_PHASE_PHERR]⟩
def F.TWN_LASTV_STREAM : Fld := ⟨342, 24, 8, 0xFF, .ro, .L⟩
def F.TWN_LASTV_VERDICT : Fld := ⟨343, 20, 4, 0x0, .ro, .L⟩
def F.TWN_LASTV_SIDE : Fld := ⟨344, 18, 2, 0x0, .ro, .L⟩
/-- TWN_LASTV: R245. -/
def R.TWN_LASTV : RegRow := ⟨111, 0x0E0024, 0x4, 1, .sclk, [F.TWN_LASTV_STREAM, F.TWN_LASTV_VERDICT, F.TWN_LASTV_SIDE]⟩
def F.TWN_DISPMAP_DISP : Fld := ⟨345, 0, 32, 0x0, .ro, .L⟩
/-- TWN_DISPMAP: R245. -/
def R.TWN_DISPMAP : RegRow := ⟨112, 0x0E0040, 0x4, 5, .sclk, [F.TWN_DISPMAP_DISP]⟩
def F.TWN_ADOPTMAP_ADOPT : Fld := ⟨346, 0, 32, 0x0, .ro, .L⟩
/-- TWN_ADOPTMAP: R245. -/
def R.TWN_ADOPTMAP : RegRow := ⟨113, 0x0E0060, 0x4, 5, .sclk, [F.TWN_ADOPTMAP_ADOPT]⟩
def F.TWN_CHST_CSTATE : Fld := ⟨347, 28, 4, 0x0, .ro, .L⟩
def F.TWN_CHST_FAILS : Fld := ⟨348, 24, 4, 0x0, .ro, .L⟩
def F.TWN_CHST_DCNT : Fld := ⟨349, 0, 16, 0x0, .ro, .L⟩
/-- TWN_CHST: R245. -/
def R.TWN_CHST : RegRow := ⟨114, 0x0E1000, 0x4, 144, .sclk, [F.TWN_CHST_CSTATE, F.TWN_CHST_FAILS, F.TWN_CHST_DCNT]⟩

/-! ### FLTS -/

def F.FLTS_ST_DSTATE : Fld := ⟨350, 30, 2, 0x0, .ro, .L⟩
def F.FLTS_ST_WINDOW : Fld := ⟨351, 29, 1, 0x0, .ro, .L⟩
def F.FLTS_ST_DOUBLE : Fld := ⟨352, 28, 1, 0x0, .ro, .L⟩
def F.FLTS_ST_CTRLHALT : Fld := ⟨353, 27, 1, 0x0, .ro, .L⟩
def F.FLTS_ST_CHKLOST : Fld := ⟨354, 26, 1, 0x0, .ro, .V⟩
def F.FLTS_ST_PLLHOLD : Fld := ⟨355, 25, 1, 0x0, .ro, .L⟩
def F.FLTS_ST_XFB : Fld := ⟨356, 24, 1, 0x0, .ro, .L⟩
def F.FLTS_ST_TRANSL : Fld := ⟨357, 15, 1, 0x0, .w1c, .L⟩
def F.FLTS_ST_PERML : Fld := ⟨358, 14, 1, 0x0, .w1c, .L⟩
def F.FLTS_ST_DOUBLEL : Fld := ⟨359, 13, 1, 0x0, .w1c, .L⟩
def F.FLTS_ST_FAILL : Fld := ⟨360, 12, 1, 0x0, .w1c, .L⟩
def F.FLTS_ST_CLKL : Fld := ⟨361, 11, 1, 0x0, .w1c, .L⟩
def F.FLTS_ST_RESTL : Fld := ⟨362, 10, 1, 0x0, .w1c, .L⟩
def F.FLTS_ST_LATL : Fld := ⟨363, 9, 1, 0x0, .w1c, .L⟩
/-- FLTS_ST: R260. -/
def R.FLTS_ST : RegRow := ⟨115, 0x0F0000, 0x4, 1, .sclk, [F.FLTS_ST_DSTATE, F.FLTS_ST_WINDOW, F.FLTS_ST_DOUBLE, F.FLTS_ST_CTRLHALT, F.FLTS_ST_CHKLOST, F.FLTS_ST_PLLHOLD, F.FLTS_ST_XFB, F.FLTS_ST_TRANSL, F.FLTS_ST_PERML, F.FLTS_ST_DOUBLEL, F.FLTS_ST_FAILL, F.FLTS_ST_CLKL, F.FLTS_ST_RESTL, F.FLTS_ST_LATL]⟩
def F.FLTS_INJ_GO : Fld := ⟨364, 31, 1, 0x0, .live, .L⟩
def F.FLTS_INJ_REJ : Fld := ⟨365, 30, 1, 0x0, .ro, .L⟩
def F.FLTS_INJ_TGT : Fld := ⟨366, 24, 4, 0x0, .live, .L⟩
def F.FLTS_INJ_UNIT : Fld := ⟨367, 16, 8, 0x0, .live, .L⟩
/-- FLTS_INJ: R260. -/
def R.FLTS_INJ : RegRow := ⟨116, 0x0F0004, 0x4, 1, .sclk, [F.FLTS_INJ_GO, F.FLTS_INJ_REJ, F.FLTS_INJ_TGT, F.FLTS_INJ_UNIT]⟩
def F.FLTS_LAST_CLASS : Fld := ⟨368, 28, 4, 0x0, .ro, .L⟩
def F.FLTS_LAST_KIND : Fld := ⟨369, 26, 2, 0x0, .ro, .L⟩
def F.FLTS_LAST_INJ : Fld := ⟨370, 25, 1, 0x0, .ro, .L⟩
def F.FLTS_LAST_SCRUB : Fld := ⟨371, 24, 1, 0x0, .ro, .L⟩
def F.FLTS_LAST_UNIT : Fld := ⟨372, 16, 8, 0x0, .ro, .L⟩
def F.FLTS_LAST_DETAIL : Fld := ⟨373, 0, 16, 0x0, .ro, .L⟩
/-- FLTS_LAST: R260. -/
def R.FLTS_LAST : RegRow := ⟨117, 0x0F0008, 0x4, 1, .sclk, [F.FLTS_LAST_CLASS, F.FLTS_LAST_KIND, F.FLTS_LAST_INJ, F.FLTS_LAST_SCRUB, F.FLTS_LAST_UNIT, F.FLTS_LAST_DETAIL]⟩
def F.FLTS_LTIME_LO_LTIME_LO : Fld := ⟨374, 0, 32, 0x0, .ro, .L⟩
/-- FLTS_LTIME_LO: R260. -/
def R.FLTS_LTIME_LO : RegRow := ⟨118, 0x0F000C, 0x4, 1, .sclk, [F.FLTS_LTIME_LO_LTIME_LO]⟩
def F.FLTS_LTIME_HI_LTIME_HI : Fld := ⟨375, 0, 32, 0x0, .ro, .L⟩
/-- FLTS_LTIME_HI: R260. -/
def R.FLTS_LTIME_HI : RegRow := ⟨119, 0x0F0010, 0x4, 1, .sclk, [F.FLTS_LTIME_HI_LTIME_HI]⟩
def F.FLTS_WIN_CLASS1 : Fld := ⟨376, 28, 4, 0x0, .ro, .L⟩
def F.FLTS_WIN_UNIT1 : Fld := ⟨377, 20, 8, 0x0, .ro, .L⟩
def F.FLTS_WIN_REMAIN : Fld := ⟨378, 0, 20, 0x0, .ro, .L⟩
/-- FLTS_WIN: R260. -/
def R.FLTS_WIN : RegRow := ⟨120, 0x0F0014, 0x4, 1, .sclk, [F.FLTS_WIN_CLASS1, F.FLTS_WIN_UNIT1, F.FLTS_WIN_REMAIN]⟩
def F.FLTS_SPARES_SRAMUSED : Fld := ⟨379, 24, 8, 0x0, .ro, .V⟩
def F.FLTS_SPARES_VLTUSED : Fld := ⟨380, 16, 8, 0x0, .ro, .V⟩
/-- FLTS_SPARES: R260. -/
def R.FLTS_SPARES : RegRow := ⟨121, 0x0F0018, 0x4, 1, .sclk, [F.FLTS_SPARES_SRAMUSED, F.FLTS_SPARES_VLTUSED]⟩
def F.FLTS_SCRUB_SRAMPASS : Fld := ⟨381, 16, 16, 0x0, .ro, .L⟩
def F.FLTS_SCRUB_VLTPASS : Fld := ⟨382, 8, 8, 0x0, .ro, .L⟩
/-- FLTS_SCRUB: R260. -/
def R.FLTS_SCRUB : RegRow := ⟨122, 0x0F001C, 0x4, 1, .sclk, [F.FLTS_SCRUB_SRAMPASS, F.FLTS_SCRUB_VLTPASS]⟩
def F.FLTS_CNT_TRANS : Fld := ⟨383, 16, 16, 0x0, .ro, .L⟩
def F.FLTS_CNT_PERM : Fld := ⟨384, 0, 16, 0x0, .ro, .V⟩
/-- FLTS_CNT: R260. -/
def R.FLTS_CNT : RegRow := ⟨123, 0x0F0100, 0x4, 16, .sclk, [F.FLTS_CNT_TRANS, F.FLTS_CNT_PERM]⟩

/-! ### CVN -/

def F.CVN_CFG_EN : Fld := ⟨385, 31, 1, 0x0, .live, .I⟩
def F.CVN_CFG_PAIR : Fld := ⟨386, 26, 5, 0x0, .live, .I⟩
def F.CVN_CFG_JOINWAIT : Fld := ⟨387, 16, 8, 0x14, .live, .I⟩
def F.CVN_CFG_CARID : Fld := ⟨388, 0, 16, 0x0, .live, .I⟩
/-- CVN_CFG: R280. -/
def R.CVN_CFG : RegRow := ⟨124, 0x100000, 0x4, 1, .sclk, [F.CVN_CFG_EN, F.CVN_CFG_PAIR, F.CVN_CFG_JOINWAIT, F.CVN_CFG_CARID]⟩
def F.CVN_EXP_LO_EXP_LO : Fld := ⟨389, 0, 32, 0x0, .live, .I⟩
/-- CVN_EXP_LO: R280. -/
def R.CVN_EXP_LO : RegRow := ⟨125, 0x100004, 0x4, 1, .sclk, [F.CVN_EXP_LO_EXP_LO]⟩
def F.CVN_EXP_HI_EXP_HI : Fld := ⟨390, 0, 32, 0x0, .live, .I⟩
/-- CVN_EXP_HI: R280. -/
def R.CVN_EXP_HI : RegRow := ⟨126, 0x100008, 0x4, 1, .sclk, [F.CVN_EXP_HI_EXP_HI]⟩
def F.CVN_SCFG_SITEEN : Fld := ⟨391, 31, 1, 0x0, .live, .I⟩
def F.CVN_SCFG_MASTER : Fld := ⟨392, 30, 1, 0x0, .live, .I⟩
def F.CVN_SCFG_CARNUM : Fld := ⟨393, 20, 8, 0x0, .live, .I⟩
def F.CVN_SCFG_MAXLVL : Fld := ⟨394, 16, 4, 0x3, .live, .I⟩
def F.CVN_SCFG_SITEID : Fld := ⟨395, 0, 16, 0x0, .live, .I⟩
/-- CVN_SCFG: R280. -/
def R.CVN_SCFG : RegRow := ⟨127, 0x10000C, 0x4, 1, .sclk, [F.CVN_SCFG_SITEEN, F.CVN_SCFG_MASTER, F.CVN_SCFG_CARNUM, F.CVN_SCFG_MAXLVL, F.CVN_SCFG_SITEID]⟩
def F.CVN_ST_STATE : Fld := ⟨396, 29, 3, 0x0, .ro, .L⟩
def F.CVN_ST_HEAD : Fld := ⟨397, 28, 1, 0x0, .ro, .L⟩
def F.CVN_ST_POS : Fld := ⟨398, 22, 6, 0x0, .ro, .L⟩
def F.CVN_ST_RING : Fld := ⟨399, 20, 2, 0x0, .ro, .L⟩
def F.CVN_ST_SYNC : Fld := ⟨400, 19, 1, 0x0, .ro, .L⟩
def F.CVN_ST_FORML : Fld := ⟨401, 15, 1, 0x0, .w1c, .L⟩
def F.CVN_ST_LINKL : Fld := ⟨402, 14, 1, 0x0, .w1c, .L⟩
def F.CVN_ST_SPLITL : Fld := ⟨403, 13, 1, 0x0, .w1c, .L⟩
def F.CVN_ST_MISSL : Fld := ⟨404, 12, 1, 0x0, .w1c, .L⟩
def F.CVN_ST_SYNCL : Fld := ⟨405, 11, 1, 0x0, .w1c, .L⟩
def F.CVN_ST_HEADL : Fld := ⟨406, 10, 1, 0x0, .w1c, .L⟩
def F.CVN_ST_STEPL : Fld := ⟨407, 9, 1, 0x0, .w1c, .L⟩
/-- CVN_ST: R280. -/
def R.CVN_ST : RegRow := ⟨128, 0x100010, 0x4, 1, .sclk, [F.CVN_ST_STATE, F.CVN_ST_HEAD, F.CVN_ST_POS, F.CVN_ST_RING, F.CVN_ST_SYNC, F.CVN_ST_FORML, F.CVN_ST_LINKL, F.CVN_ST_SPLITL, F.CVN_ST_MISSL, F.CVN_ST_SYNCL, F.CVN_ST_HEADL, F.CVN_ST_STEPL]⟩
def F.CVN_PRES_LO_PRES_LO : Fld := ⟨408, 0, 32, 0x0, .ro, .L⟩
/-- CVN_PRES_LO: R280. -/
def R.CVN_PRES_LO : RegRow := ⟨129, 0x100014, 0x4, 1, .sclk, [F.CVN_PRES_LO_PRES_LO]⟩
def F.CVN_PRES_HI_PRES_HI : Fld := ⟨409, 0, 32, 0x0, .ro, .L⟩
/-- CVN_PRES_HI: R280. -/
def R.CVN_PRES_HI : RegRow := ⟨130, 0x100018, 0x4, 1, .sclk, [F.CVN_PRES_HI_PRES_HI]⟩
def F.CVN_SYNC_PHERR : Fld := ⟨410, 16, 16, 0x0, .ro, .L⟩
def F.CVN_SYNC_HOPS : Fld := ⟨411, 0, 8, 0x0, .ro, .L⟩
/-- CVN_SYNC: R280. -/
def R.CVN_SYNC : RegRow := ⟨131, 0x10001C, 0x4, 1, .sclk, [F.CVN_SYNC_PHERR, F.CVN_SYNC_HOPS]⟩
def F.CVN_STIME_LO_STIME_LO : Fld := ⟨412, 0, 32, 0x0, .ro, .L⟩
/-- CVN_STIME_LO: R280. -/
def R.CVN_STIME_LO : RegRow := ⟨132, 0x100020, 0x4, 1, .sclk, [F.CVN_STIME_LO_STIME_LO]⟩
def F.CVN_STIME_HI_STIME_HI : Fld := ⟨413, 0, 32, 0x0, .ro, .L⟩
/-- CVN_STIME_HI: R280. -/
def R.CVN_STIME_HI : RegRow := ⟨133, 0x100024, 0x4, 1, .sclk, [F.CVN_STIME_HI_STIME_HI]⟩
def F.CVN_SITE_SITESYNC : Fld := ⟨414, 31, 1, 0x0, .ro, .L⟩
def F.CVN_SITE_HOLD : Fld := ⟨415, 30, 1, 0x0, .ro, .L⟩
def F.CVN_SITE_LEVEL : Fld := ⟨416, 24, 4, 0xF, .ro, .L⟩
def F.CVN_SITE_MCAR : Fld := ⟨417, 16, 8, 0x0, .ro, .L⟩
def F.CVN_SITE_TERR : Fld := ⟨418, 0, 16, 0x0, .ro, .L⟩
/-- CVN_SITE: R280. -/
def R.CVN_SITE : RegRow := ⟨134, 0x100028, 0x4, 1, .sclk, [F.CVN_SITE_SITESYNC, F.CVN_SITE_HOLD, F.CVN_SITE_LEVEL, F.CVN_SITE_MCAR, F.CVN_SITE_TERR]⟩
def F.CVN_ADJ_LO_ADJ_LO : Fld := ⟨419, 0, 32, 0x0, .live, .L⟩
/-- CVN_ADJ_LO: R280. -/
def R.CVN_ADJ_LO : RegRow := ⟨135, 0x10002C, 0x4, 1, .sclk, [F.CVN_ADJ_LO_ADJ_LO]⟩
def F.CVN_ADJ_HI_ADJ_HI : Fld := ⟨420, 0, 32, 0x0, .live, .L⟩
/-- CVN_ADJ_HI: R280. -/
def R.CVN_ADJ_HI : RegRow := ⟨136, 0x100030, 0x4, 1, .sclk, [F.CVN_ADJ_HI_ADJ_HI]⟩
def F.CVN_ADJCTL_GO : Fld := ⟨421, 31, 1, 0x0, .live, .L⟩
def F.CVN_ADJCTL_REJ : Fld := ⟨422, 30, 1, 0x0, .ro, .L⟩
def F.CVN_ADJCTL_SLEW : Fld := ⟨423, 29, 1, 0x0, .ro, .L⟩
/-- CVN_ADJCTL: R280. -/
def R.CVN_ADJCTL : RegRow := ⟨137, 0x100034, 0x4, 1, .sclk, [F.CVN_ADJCTL_GO, F.CVN_ADJCTL_REJ, F.CVN_ADJCTL_SLEW]⟩
def F.CVN_PST_LSTATE : Fld := ⟨424, 29, 3, 0x0, .ro, .L⟩
def F.CVN_PST_NPOS : Fld := ⟨425, 23, 6, 0x0, .ro, .L⟩
/-- CVN_PST: R280. -/
def R.CVN_PST : RegRow := ⟨138, 0x100040, 0x10, 3, .sclk, [F.CVN_PST_LSTATE, F.CVN_PST_NPOS]⟩
def F.CVN_PDLY_DELAY : Fld := ⟨426, 0, 32, 0x0, .ro, .L⟩
/-- CVN_PDLY: R280. -/
def R.CVN_PDLY : RegRow := ⟨139, 0x100044, 0x10, 3, .sclk, [F.CVN_PDLY_DELAY]⟩
def F.CVN_PCNT_RETX : Fld := ⟨427, 16, 16, 0x0, .ro, .L⟩
def F.CVN_PCNT_CRCERR : Fld := ⟨428, 0, 16, 0x0, .ro, .L⟩
/-- CVN_PCNT: R280. -/
def R.CVN_PCNT : RegRow := ⟨140, 0x100048, 0x10, 3, .sclk, [F.CVN_PCNT_RETX, F.CVN_PCNT_CRCERR]⟩
def F.CVN_MSEL_HOLD : Fld := ⟨429, 31, 1, 0x0, .rw, .L⟩
def F.CVN_MSEL_EXP : Fld := ⟨430, 30, 1, 0x0, .ro, .L⟩
def F.CVN_MSEL_MEMBER : Fld := ⟨431, 0, 6, 0x0, .rw, .L⟩
/-- CVN_MSEL: R280. -/
def R.CVN_MSEL : RegRow := ⟨141, 0x100100, 0x4, 1, .sclk, [F.CVN_MSEL_HOLD, F.CVN_MSEL_EXP, F.CVN_MSEL_MEMBER]⟩
def F.CVN_MHDR_SEQ : Fld := ⟨432, 16, 16, 0x0, .ro, .L⟩
def F.CVN_MHDR_VALID : Fld := ⟨433, 15, 1, 0x0, .ro, .L⟩
def F.CVN_MHDR_COUNT : Fld := ⟨434, 8, 7, 0x0, .ro, .L⟩
/-- CVN_MHDR: R280. -/
def R.CVN_MHDR : RegRow := ⟨142, 0x100104, 0x4, 1, .sclk, [F.CVN_MHDR_SEQ, F.CVN_MHDR_VALID, F.CVN_MHDR_COUNT]⟩
def F.CVN_MACC_VIEW : Fld := ⟨435, 0, 32, 0x0, .ro, .L⟩
/-- CVN_MACC: R280. -/
def R.CVN_MACC : RegRow := ⟨143, 0x100200, 0x4, 200, .sclk, [F.CVN_MACC_VIEW]⟩

/-! ### WAY -/

def F.WAY_CFG_EN : Fld := ⟨436, 31, 1, 0x0, .live, .I⟩
def F.WAY_CFG_CPL : Fld := ⟨437, 28, 3, 0x0, .live, .I⟩
def F.WAY_CFG_BSLOT : Fld := ⟨438, 24, 4, 0x0, .live, .I⟩
def F.WAY_CFG_DISC : Fld := ⟨439, 16, 8, 0xA, .live, .I⟩
def F.WAY_CFG_NADDR : Fld := ⟨440, 0, 16, 0x0, .live, .I⟩
/-- WAY_CFG: R302. -/
def R.WAY_CFG : RegRow := ⟨144, 0x110000, 0x4, 1, .sclk, [F.WAY_CFG_EN, F.WAY_CFG_CPL, F.WAY_CFG_BSLOT, F.WAY_CFG_DISC, F.WAY_CFG_NADDR]⟩
def F.WAY_NET_NETID : Fld := ⟨441, 16, 16, 0x0, .live, .I⟩
def F.WAY_NET_AGE : Fld := ⟨442, 8, 8, 0x1E, .live, .I⟩
/-- WAY_NET: R302. -/
def R.WAY_NET : RegRow := ⟨145, 0x110004, 0x4, 1, .sclk, [F.WAY_NET_NETID, F.WAY_NET_AGE]⟩
def F.WAY_PHY_TXATT : Fld := ⟨443, 27, 5, 0x0, .live, .I⟩
def F.WAY_PHY_BLANKTH : Fld := ⟨444, 16, 8, 0xC0, .live, .I⟩
def F.WAY_PHY_TMMARGIN : Fld := ⟨445, 8, 8, 0xC, .live, .I⟩
def F.WAY_PHY_RXDIV : Fld := ⟨446, 0, 1, 0x0, .live, .I⟩
/-- WAY_PHY: R302. -/
def R.WAY_PHY : RegRow := ⟨146, 0x110008, 0x4, 1, .sclk, [F.WAY_PHY_TXATT, F.WAY_PHY_BLANKTH, F.WAY_PHY_TMMARGIN, F.WAY_PHY_RXDIV]⟩
def F.WAY_ST_UP : Fld := ⟨447, 31, 1, 0x0, .ro, .L⟩
def F.WAY_ST_PVALID : Fld := ⟨448, 30, 1, 0x0, .ro, .L⟩
def F.WAY_ST_PLEVEL : Fld := ⟨449, 26, 4, 0xF, .ro, .L⟩
def F.WAY_ST_BSLOTNOW : Fld := ⟨450, 22, 4, 0x0, .ro, .L⟩
def F.WAY_ST_CLASH : Fld := ⟨451, 21, 1, 0x0, .ro, .L⟩
def F.WAY_ST_NCOUNT : Fld := ⟨452, 10, 11, 0x0, .ro, .L⟩
def F.WAY_ST_DROPL : Fld := ⟨453, 3, 1, 0x0, .w1c, .L⟩
def F.WAY_ST_AUTHL : Fld := ⟨454, 2, 1, 0x0, .w1c, .L⟩
def F.WAY_ST_FULLL : Fld := ⟨455, 1, 1, 0x0, .w1c, .L⟩
def F.WAY_ST_RXOVL : Fld := ⟨456, 0, 1, 0x0, .w1c, .L⟩
/-- WAY_ST: R302. -/
def R.WAY_ST : RegRow := ⟨147, 0x11000C, 0x4, 1, .sclk, [F.WAY_ST_UP, F.WAY_ST_PVALID, F.WAY_ST_PLEVEL, F.WAY_ST_BSLOTNOW, F.WAY_ST_CLASH, F.WAY_ST_NCOUNT, F.WAY_ST_DROPL, F.WAY_ST_AUTHL, F.WAY_ST_FULLL, F.WAY_ST_RXOVL]⟩
def F.WAY_CNT_TXFR : Fld := ⟨457, 16, 16, 0x0, .ro, .L⟩
def F.WAY_CNT_RXFR : Fld := ⟨458, 0, 16, 0x0, .ro, .L⟩
/-- WAY_CNT: R302. -/
def R.WAY_CNT : RegRow := ⟨148, 0x110010, 0x4, 1, .sclk, [F.WAY_CNT_TXFR, F.WAY_CNT_RXFR]⟩
def F.WAY_CNT2_TRANS : Fld := ⟨459, 24, 8, 0x0, .ro, .L⟩
def F.WAY_CNT2_DROPS : Fld := ⟨460, 16, 8, 0x0, .ro, .L⟩
def F.WAY_CNT2_LOST : Fld := ⟨461, 8, 8, 0x0, .ro, .L⟩
def F.WAY_CNT2_AUTHF : Fld := ⟨462, 0, 8, 0x0, .ro, .L⟩
/-- WAY_CNT2: R302. -/
def R.WAY_CNT2 : RegRow := ⟨149, 0x110014, 0x4, 1, .sclk, [F.WAY_CNT2_TRANS, F.WAY_CNT2_DROPS, F.WAY_CNT2_LOST, F.WAY_CNT2_AUTHF]⟩
def F.WAY_NSEL_HOLD : Fld := ⟨463, 31, 1, 0x0, .rw, .L⟩
def F.WAY_NSEL_EXP : Fld := ⟨464, 30, 1, 0x0, .ro, .L⟩
def F.WAY_NSEL_INDEX : Fld := ⟨465, 0, 9, 0x0, .rw, .L⟩
/-- WAY_NSEL: R302. -/
def R.WAY_NSEL : RegRow := ⟨150, 0x110020, 0x4, 1, .sclk, [F.WAY_NSEL_HOLD, F.WAY_NSEL_EXP, F.WAY_NSEL_INDEX]⟩
def F.WAY_NID_LO_NID_LO : Fld := ⟨466, 0, 32, 0x0, .ro, .L⟩
/-- WAY_NID_LO: R302. -/
def R.WAY_NID_LO : RegRow := ⟨151, 0x110024, 0x4, 1, .sclk, [F.WAY_NID_LO_NID_LO]⟩
def F.WAY_NID_HI_NID_HI : Fld := ⟨467, 0, 32, 0x0, .ro, .L⟩
/-- WAY_NID_HI: R302. -/
def R.WAY_NID_HI : RegRow := ⟨152, 0x110028, 0x4, 1, .sclk, [F.WAY_NID_HI_NID_HI]⟩
def F.WAY_NINFO_VALID : Fld := ⟨468, 31, 1, 0x0, .ro, .L⟩
def F.WAY_NINFO_SIDE : Fld := ⟨469, 30, 1, 0x0, .ro, .L⟩
def F.WAY_NINFO_LEVEL : Fld := ⟨470, 26, 4, 0xF, .ro, .L⟩
def F.WAY_NINFO_BSLOT : Fld := ⟨471, 22, 4, 0x0, .ro, .L⟩
def F.WAY_NINFO_PARENT : Fld := ⟨472, 21, 1, 0x0, .ro, .L⟩
def F.WAY_NINFO_NADDR : Fld := ⟨473, 0, 16, 0x0, .ro, .L⟩
/-- WAY_NINFO: R302. -/
def R.WAY_NINFO : RegRow := ⟨153, 0x11002C, 0x4, 1, .sclk, [F.WAY_NINFO_VALID, F.WAY_NINFO_SIDE, F.WAY_NINFO_LEVEL, F.WAY_NINFO_BSLOT, F.WAY_NINFO_PARENT, F.WAY_NINFO_NADDR]⟩
def F.WAY_NLINK_MODE : Fld := ⟨474, 30, 2, 0x3, .ro, .L⟩
def F.WAY_NLINK_TMI : Fld := ⟨475, 26, 4, 0x0, .ro, .L⟩
def F.WAY_NLINK_HEARD : Fld := ⟨476, 16, 10, 0x0, .ro, .L⟩
def F.WAY_NLINK_SNR : Fld := ⟨477, 8, 8, 0x0, .ro, .L⟩
def F.WAY_NLINK_RATE : Fld := ⟨478, 0, 8, 0x0, .ro, .L⟩
/-- WAY_NLINK: R302. -/
def R.WAY_NLINK : RegRow := ⟨154, 0x110030, 0x4, 1, .sclk, [F.WAY_NLINK_MODE, F.WAY_NLINK_TMI, F.WAY_NLINK_HEARD, F.WAY_NLINK_SNR, F.WAY_NLINK_RATE]⟩
def F.WAY_TXCTL_GO : Fld := ⟨479, 31, 1, 0x0, .rw, .W⟩
def F.WAY_TXCTL_RESULT : Fld := ⟨480, 29, 2, 0x0, .ro, .W⟩
def F.WAY_TXCTL_PRI : Fld := ⟨481, 27, 2, 0x0, .rw, .W⟩
def F.WAY_TXCTL_LEN : Fld := ⟨482, 16, 11, 0x0, .rw, .W⟩
def F.WAY_TXCTL_DST : Fld := ⟨483, 0, 16, 0x0, .rw, .W⟩
/-- WAY_TXCTL: R302. -/
def R.WAY_TXCTL : RegRow := ⟨155, 0x110040, 0x4, 1, .sclk, [F.WAY_TXCTL_GO, F.WAY_TXCTL_RESULT, F.WAY_TXCTL_PRI, F.WAY_TXCTL_LEN, F.WAY_TXCTL_DST]⟩
def F.WAY_RXST_AVAIL : Fld := ⟨484, 31, 1, 0x0, .ro, .W⟩
def F.WAY_RXST_NEXT : Fld := ⟨485, 30, 1, 0x0, .wo, .W⟩
def F.WAY_RXST_DEPTH : Fld := ⟨486, 27, 3, 0x0, .ro, .W⟩
def F.WAY_RXST_LEN : Fld := ⟨487, 16, 11, 0x0, .ro, .W⟩
def F.WAY_RXST_SRC : Fld := ⟨488, 0, 16, 0x0, .ro, .W⟩
/-- WAY_RXST: R302. -/
def R.WAY_RXST : RegRow := ⟨156, 0x110044, 0x4, 1, .sclk, [F.WAY_RXST_AVAIL, F.WAY_RXST_NEXT, F.WAY_RXST_DEPTH, F.WAY_RXST_LEN, F.WAY_RXST_SRC]⟩
def F.WAY_NOTCH_NOTCH : Fld := ⟨489, 0, 32, 0x0, .live, .I⟩
/-- WAY_NOTCH: R302. -/
def R.WAY_NOTCH : RegRow := ⟨157, 0x110100, 0x4, 46, .sclk, [F.WAY_NOTCH_NOTCH]⟩
def F.WAY_TXBUF_DATA : Fld := ⟨490, 0, 32, 0x0, .rw, .W⟩
/-- WAY_TXBUF: R302. -/
def R.WAY_TXBUF : RegRow := ⟨158, 0x110400, 0x4, 256, .sclk, [F.WAY_TXBUF_DATA]⟩
def F.WAY_RXBUF_DATA : Fld := ⟨491, 0, 32, 0x0, .ro, .W⟩
/-- WAY_RXBUF: R302. -/
def R.WAY_RXBUF : RegRow := ⟨159, 0x110800, 0x4, 256, .sclk, [F.WAY_RXBUF_DATA]⟩

/-! ### ITN -/

def F.ITN_ST_LOAD : Fld := ⟨492, 30, 2, 0x0, .ro, .L⟩
def F.ITN_ST_COPYB : Fld := ⟨493, 29, 1, 0x0, .ro, .L⟩
def F.ITN_ST_DEFREG : Fld := ⟨494, 28, 1, 0x0, .ro, .L⟩
def F.ITN_ST_RESTART : Fld := ⟨495, 27, 1, 0x0, .ro, .L⟩
def F.ITN_ST_POOLFREE : Fld := ⟨496, 16, 11, 0x600, .ro, .L⟩
def F.ITN_ST_REFL : Fld := ⟨497, 3, 1, 0x0, .w1c, .L⟩
def F.ITN_ST_FAILL : Fld := ⟨498, 2, 1, 0x0, .w1c, .L⟩
def F.ITN_ST_REPL : Fld := ⟨499, 1, 1, 0x0, .w1c, .L⟩
def F.ITN_ST_APPL : Fld := ⟨500, 0, 1, 0x0, .w1c, .L⟩
/-- ITN_ST: R322. -/
def R.ITN_ST : RegRow := ⟨160, 0x120000, 0x4, 1, .sclk, [F.ITN_ST_LOAD, F.ITN_ST_COPYB, F.ITN_ST_DEFREG, F.ITN_ST_RESTART, F.ITN_ST_POOLFREE, F.ITN_ST_REFL, F.ITN_ST_FAILL, F.ITN_ST_REPL, F.ITN_ST_APPL]⟩
def F.ITN_CFG_NVMDIV : Fld := ⟨501, 30, 2, 0x0, .live, .I⟩
def F.ITN_CFG_TWINWAIT : Fld := ⟨502, 0, 16, 0x3C, .live, .I⟩
/-- ITN_CFG: R322. -/
def R.ITN_CFG : RegRow := ⟨161, 0x120004, 0x4, 1, .sclk, [F.ITN_CFG_NVMDIV, F.ITN_CFG_TWINWAIT]⟩
def F.ITN_FLASH_SIZE : Fld := ⟨503, 24, 8, 0x0, .ro, .L⟩
def F.ITN_FLASH_ADDR4 : Fld := ⟨504, 23, 1, 0x0, .ro, .L⟩
def F.ITN_FLASH_QIO : Fld := ⟨505, 22, 1, 0x0, .ro, .L⟩
def F.ITN_FLASH_RDOP : Fld := ⟨506, 8, 8, 0x0, .ro, .L⟩
def F.ITN_FLASH_DUMMY : Fld := ⟨507, 0, 8, 0x0, .ro, .L⟩
/-- ITN_FLASH: R322. -/
def R.ITN_FLASH : RegRow := ⟨162, 0x120008, 0x4, 1, .sclk, [F.ITN_FLASH_SIZE, F.ITN_FLASH_ADDR4, F.ITN_FLASH_QIO, F.ITN_FLASH_RDOP, F.ITN_FLASH_DUMMY]⟩
def F.ITN_PKCTL_OP : Fld := ⟨508, 30, 2, 0x0, .wo, .L⟩
def F.ITN_PKCTL_BUSY : Fld := ⟨509, 29, 1, 0x0, .ro, .L⟩
def F.ITN_PKCTL_RESULT : Fld := ⟨510, 24, 5, 0x0, .ro, .L⟩
def F.ITN_PKCTL_CHUNK : Fld := ⟨511, 0, 11, 0x0, .rw, .L⟩
/-- ITN_PKCTL: R322. -/
def R.ITN_PKCTL : RegRow := ⟨163, 0x12000C, 0x4, 1, .sclk, [F.ITN_PKCTL_OP, F.ITN_PKCTL_BUSY, F.ITN_PKCTL_RESULT, F.ITN_PKCTL_CHUNK]⟩
def F.ITN_PKLEN_PKLEN : Fld := ⟨512, 0, 32, 0x0, .rw, .L⟩
/-- ITN_PKLEN: R322. -/
def R.ITN_PKLEN : RegRow := ⟨164, 0x120010, 0x4, 1, .sclk, [F.ITN_PKLEN_PKLEN]⟩
def F.ITN_RST_STATE : Fld := ⟨513, 28, 4, 0x0, .ro, .L⟩
def F.ITN_RST_QUEUED : Fld := ⟨514, 27, 1, 0x0, .ro, .L⟩
def F.ITN_RST_SRC : Fld := ⟨515, 26, 1, 0x0, .ro, .L⟩
def F.ITN_RST_DEF : Fld := ⟨516, 25, 1, 0x0, .ro, .L⟩
def F.ITN_RST_DIRTY : Fld := ⟨517, 24, 1, 0x0, .ro, .L⟩
def F.ITN_RST_MIRRFAIL : Fld := ⟨518, 23, 1, 0x0, .ro, .L⟩
def F.ITN_RST_REASON : Fld := ⟨519, 16, 5, 0x0, .ro, .L⟩
def F.ITN_RST_UPDATES : Fld := ⟨520, 0, 16, 0x0, .ro, .L⟩
/-- ITN_RST: R322. -/
def R.ITN_RST : RegRow := ⟨165, 0x120100, 0x10, 11, .sclk, [F.ITN_RST_STATE, F.ITN_RST_QUEUED, F.ITN_RST_SRC, F.ITN_RST_DEF, F.ITN_RST_DIRTY, F.ITN_RST_MIRRFAIL, F.ITN_RST_REASON, F.ITN_RST_UPDATES]⟩
def F.ITN_RGEN_GEN : Fld := ⟨521, 0, 32, 0x0, .ro, .I⟩
/-- ITN_RGEN: R322. -/
def R.ITN_RGEN : RegRow := ⟨166, 0x120104, 0x10, 11, .sclk, [F.ITN_RGEN_GEN]⟩
def F.ITN_RPEND_PGEN : Fld := ⟨522, 0, 32, 0x0, .ro, .L⟩
/-- ITN_RPEND: R322. -/
def R.ITN_RPEND : RegRow := ⟨167, 0x120108, 0x10, 11, .sclk, [F.ITN_RPEND_PGEN]⟩
def F.ITN_RQUE_QGEN : Fld := ⟨523, 0, 32, 0x0, .ro, .L⟩
/-- ITN_RQUE: R322. -/
def R.ITN_RQUE : RegRow := ⟨168, 0x12010C, 0x10, 11, .sclk, [F.ITN_RQUE_QGEN]⟩
def F.ITN_RDIG_DIG : Fld := ⟨524, 0, 32, 0x0, .ro, .I⟩
/-- ITN_RDIG: R322. -/
def R.ITN_RDIG : RegRow := ⟨169, 0x120200, 0x4, 11, .sclk, [F.ITN_RDIG_DIG]⟩
def F.ITN_PKWIN_DATA : Fld := ⟨525, 0, 32, 0x0, .rw, .L⟩
/-- ITN_PKWIN: R322. -/
def R.ITN_PKWIN : RegRow := ⟨170, 0x121000, 0x4, 256, .sclk, [F.ITN_PKWIN_DATA]⟩

/-! ### SBX -/

def F.SBX_ST_LCS : Fld := ⟨526, 29, 3, 0x0, .ro, .V⟩
def F.SBX_ST_MODE : Fld := ⟨527, 28, 1, 0x0, .ro, .V⟩
def F.SBX_ST_WIPED : Fld := ⟨528, 27, 1, 0x0, .ro, .L⟩
def F.SBX_ST_WCAUSE : Fld := ⟨529, 24, 3, 0x0, .ro, .L⟩
def F.SBX_ST_ULOCK : Fld := ⟨530, 23, 1, 0x0, .ro, .P⟩
def F.SBX_ST_WIPEL : Fld := ⟨531, 3, 1, 0x0, .w1c, .L⟩
def F.SBX_ST_LCL : Fld := ⟨532, 2, 1, 0x0, .w1c, .L⟩
def F.SBX_ST_BADL : Fld := ⟨533, 1, 1, 0x0, .w1c, .L⟩
def F.SBX_ST_REFL : Fld := ⟨534, 0, 1, 0x0, .w1c, .L⟩
/-- SBX_ST: R339. -/
def R.SBX_ST : RegRow := ⟨171, 0x130000, 0x4, 1, .sclk, [F.SBX_ST_LCS, F.SBX_ST_MODE, F.SBX_ST_WIPED, F.SBX_ST_WCAUSE, F.SBX_ST_ULOCK, F.SBX_ST_WIPEL, F.SBX_ST_LCL, F.SBX_ST_BADL, F.SBX_ST_REFL]⟩
def F.SBX_SCNT_DATA : Fld := ⟨535, 0, 32, 0x0, .ro, .V⟩
/-- SBX_SCNT: R339. -/
def R.SBX_SCNT : RegRow := ⟨172, 0x130004, 0x4, 1, .sclk, [F.SBX_SCNT_DATA]⟩
def F.SBX_PCNT_DATA : Fld := ⟨536, 0, 32, 0x0, .ro, .V⟩
/-- SBX_PCNT: R339. -/
def R.SBX_PCNT : RegRow := ⟨173, 0x130008, 0x4, 1, .sclk, [F.SBX_PCNT_DATA]⟩
def F.SBX_MCTL_SUBMIT : Fld := ⟨537, 31, 1, 0x0, .wo, .L⟩
def F.SBX_MCTL_BUSY : Fld := ⟨538, 30, 1, 0x0, .ro, .L⟩
def F.SBX_MCTL_RESULT : Fld := ⟨539, 16, 5, 0x0, .ro, .L⟩
def F.SBX_MCTL_MLEN : Fld := ⟨540, 0, 9, 0x0, .rw, .L⟩
/-- SBX_MCTL: R339. -/
def R.SBX_MCTL : RegRow := ⟨174, 0x13000C, 0x4, 1, .sclk, [F.SBX_MCTL_SUBMIT, F.SBX_MCTL_BUSY, F.SBX_MCTL_RESULT, F.SBX_MCTL_MLEN]⟩
def F.SBX_PRIV_OPEN : Fld := ⟨541, 31, 1, 0x0, .wo, .W⟩
def F.SBX_PRIV_DROP : Fld := ⟨542, 30, 1, 0x0, .wo, .W⟩
def F.SBX_PRIV_PRIV : Fld := ⟨543, 29, 1, 0x0, .ro, .W⟩
def F.SBX_PRIV_LOCK : Fld := ⟨544, 28, 1, 0x0, .ro, .W⟩
def F.SBX_PRIV_FAILS : Fld := ⟨545, 26, 2, 0x0, .ro, .W⟩
/-- SBX_PRIV: R339. -/
def R.SBX_PRIV : RegRow := ⟨175, 0x130010, 0x4, 1, .sclk, [F.SBX_PRIV_OPEN, F.SBX_PRIV_DROP, F.SBX_PRIV_PRIV, F.SBX_PRIV_LOCK, F.SBX_PRIV_FAILS]⟩
def F.SBX_PCTL_GO : Fld := ⟨546, 31, 1, 0x0, .wo, .L⟩
def F.SBX_PCTL_PEND : Fld := ⟨547, 30, 1, 0x0, .ro, .L⟩
def F.SBX_PCTL_PRES : Fld := ⟨548, 28, 2, 0x0, .ro, .L⟩
/-- SBX_PCTL: R339. -/
def R.SBX_PCTL : RegRow := ⟨176, 0x130014, 0x4, 1, .sclk, [F.SBX_PCTL_GO, F.SBX_PCTL_PEND, F.SBX_PCTL_PRES]⟩
def F.SBX_OPCTL_WRITE : Fld := ⟨549, 31, 1, 0x0, .live, .L⟩
def F.SBX_OPCTL_PROMOTE : Fld := ⟨550, 30, 1, 0x0, .live, .L⟩
def F.SBX_OPCTL_REJ : Fld := ⟨551, 29, 1, 0x0, .ro, .L⟩
def F.SBX_OPCTL_ERASE : Fld := ⟨552, 28, 1, 0x0, .live, .L⟩
def F.SBX_OPCTL_SLOT : Fld := ⟨553, 16, 8, 0x0, .live, .L⟩
def F.SBX_OPCTL_PEER : Fld := ⟨554, 0, 16, 0x0, .live, .L⟩
/-- SBX_OPCTL: R339. -/
def R.SBX_OPCTL : RegRow := ⟨177, 0x130018, 0x4, 1, .sclk, [F.SBX_OPCTL_WRITE, F.SBX_OPCTL_PROMOTE, F.SBX_OPCTL_REJ, F.SBX_OPCTL_ERASE, F.SBX_OPCTL_SLOT, F.SBX_OPCTL_PEER]⟩
def F.SBX_SLOT_CLASS : Fld := ⟨555, 30, 2, 0x0, .ro, .L⟩
def F.SBX_SLOT_BAD : Fld := ⟨556, 29, 1, 0x0, .ro, .L⟩
def F.SBX_SLOT_COPYB : Fld := ⟨557, 28, 1, 0x0, .ro, .L⟩
def F.SBX_SLOT_KLEN : Fld := ⟨558, 26, 2, 0x0, .ro, .L⟩
def F.SBX_SLOT_PEER : Fld := ⟨559, 0, 16, 0x0, .ro, .L⟩
/-- SBX_SLOT: R339. -/
def R.SBX_SLOT : RegRow := ⟨178, 0x130100, 0x4, 256, .sclk, [F.SBX_SLOT_CLASS, F.SBX_SLOT_BAD, F.SBX_SLOT_COPYB, F.SBX_SLOT_KLEN, F.SBX_SLOT_PEER]⟩
def F.SBX_NONCE_DATA : Fld := ⟨560, 0, 32, 0x0, .ro, .L⟩
/-- SBX_NONCE: R339. -/
def R.SBX_NONCE : RegRow := ⟨179, 0x130500, 0x4, 4, .sclk, [F.SBX_NONCE_DATA]⟩
def F.SBX_AUTH_DATA : Fld := ⟨561, 0, 32, 0x0, .rw, .L⟩
/-- SBX_AUTH: R339. -/
def R.SBX_AUTH : RegRow := ⟨180, 0x130510, 0x4, 8, .sclk, [F.SBX_AUTH_DATA]⟩
def F.SBX_PCH_DATA : Fld := ⟨562, 0, 32, 0x0, .rw, .L⟩
/-- SBX_PCH: R339. -/
def R.SBX_PCH : RegRow := ⟨181, 0x130530, 0x4, 4, .sclk, [F.SBX_PCH_DATA]⟩
def F.SBX_PRESP_DATA : Fld := ⟨563, 0, 32, 0x0, .ro, .L⟩
/-- SBX_PRESP: R339. -/
def R.SBX_PRESP : RegRow := ⟨182, 0x130540, 0x4, 8, .sclk, [F.SBX_PRESP_DATA]⟩
def F.SBX_KWIN_DATA : Fld := ⟨564, 0, 32, 0x0, .wo, .L⟩
/-- SBX_KWIN: R339. -/
def R.SBX_KWIN : RegRow := ⟨183, 0x130560, 0x4, 4, .sclk, [F.SBX_KWIN_DATA]⟩
def F.SBX_MWIN_DATA : Fld := ⟨565, 0, 32, 0x0, .rw, .L⟩
/-- SBX_MWIN: R339. -/
def R.SBX_MWIN : RegRow := ⟨184, 0x131000, 0x4, 64, .sclk, [F.SBX_MWIN_DATA]⟩

/-! ### PRT -/

def F.PRT_TIME_HOUR : Fld := ⟨566, 16, 6, 0x0, .ro, .P⟩
def F.PRT_TIME_MIN : Fld := ⟨567, 8, 7, 0x0, .ro, .P⟩
def F.PRT_TIME_SEC : Fld := ⟨568, 0, 7, 0x0, .ro, .P⟩
/-- PRT_TIME: R362. -/
def R.PRT_TIME : RegRow := ⟨185, 0x140000, 0x4, 1, .pclk, [F.PRT_TIME_HOUR, F.PRT_TIME_MIN, F.PRT_TIME_SEC]⟩
def F.PRT_DATE_CENT : Fld := ⟨569, 31, 1, 0x0, .ro, .P⟩
def F.PRT_DATE_DOW : Fld := ⟨570, 24, 3, 0x6, .ro, .P⟩
def F.PRT_DATE_YEAR : Fld := ⟨571, 16, 8, 0x0, .ro, .P⟩
def F.PRT_DATE_MONTH : Fld := ⟨572, 8, 5, 0x1, .ro, .P⟩
def F.PRT_DATE_DAY : Fld := ⟨573, 0, 6, 0x1, .ro, .P⟩
/-- PRT_DATE: R362. -/
def R.PRT_DATE : RegRow := ⟨186, 0x140004, 0x4, 1, .pclk, [F.PRT_DATE_CENT, F.PRT_DATE_DOW, F.PRT_DATE_YEAR, F.PRT_DATE_MONTH, F.PRT_DATE_DAY]⟩
def F.PRT_SUB_SUBSEC : Fld := ⟨574, 0, 16, 0x0, .ro, .P⟩
/-- PRT_SUB: R362. -/
def R.PRT_SUB : RegRow := ⟨187, 0x140008, 0x4, 1, .pclk, [F.PRT_SUB_SUBSEC]⟩
def F.PRT_HTIME_HOUR : Fld := ⟨575, 16, 6, 0x0, .live, .L⟩
def F.PRT_HTIME_MIN : Fld := ⟨576, 8, 7, 0x0, .live, .L⟩
def F.PRT_HTIME_SEC : Fld := ⟨577, 0, 7, 0x0, .live, .L⟩
/-- PRT_HTIME: R362. -/
def R.PRT_HTIME : RegRow := ⟨188, 0x14000C, 0x4, 1, .pclk, [F.PRT_HTIME_HOUR, F.PRT_HTIME_MIN, F.PRT_HTIME_SEC]⟩
def F.PRT_HDATE_CENT : Fld := ⟨578, 31, 1, 0x0, .live, .L⟩
def F.PRT_HDATE_DOW : Fld := ⟨579, 24, 3, 0x0, .live, .L⟩
def F.PRT_HDATE_YEAR : Fld := ⟨580, 16, 8, 0x0, .live, .L⟩
def F.PRT_HDATE_MONTH : Fld := ⟨581, 8, 5, 0x0, .live, .L⟩
def F.PRT_HDATE_DAY : Fld := ⟨582, 0, 6, 0x0, .live, .L⟩
/-- PRT_HDATE: R362. -/
def R.PRT_HDATE : RegRow := ⟨189, 0x140010, 0x4, 1, .pclk, [F.PRT_HDATE_CENT, F.PRT_HDATE_DOW, F.PRT_HDATE_YEAR, F.PRT_HDATE_MONTH, F.PRT_HDATE_DAY]⟩
def F.PRT_COMMIT_GO : Fld := ⟨583, 31, 1, 0x0, .live, .L⟩
def F.PRT_COMMIT_REJ : Fld := ⟨584, 30, 1, 0x0, .ro, .L⟩
/-- PRT_COMMIT: R362. -/
def R.PRT_COMMIT : RegRow := ⟨190, 0x140014, 0x4, 1, .pclk, [F.PRT_COMMIT_GO, F.PRT_COMMIT_REJ]⟩
def F.PRT_ALMT_HEN : Fld := ⟨585, 23, 1, 0x0, .live, .V⟩
def F.PRT_ALMT_HOUR : Fld := ⟨586, 16, 6, 0x0, .live, .V⟩
def F.PRT_ALMT_MEN : Fld := ⟨587, 15, 1, 0x0, .live, .V⟩
def F.PRT_ALMT_MIN : Fld := ⟨588, 8, 7, 0x0, .live, .V⟩
def F.PRT_ALMT_SEN : Fld := ⟨589, 7, 1, 0x0, .live, .V⟩
def F.PRT_ALMT_SEC : Fld := ⟨590, 0, 7, 0x0, .live, .V⟩
/-- PRT_ALMT: R362. -/
def R.PRT_ALMT : RegRow := ⟨191, 0x140018, 0x4, 1, .pclk, [F.PRT_ALMT_HEN, F.PRT_ALMT_HOUR, F.PRT_ALMT_MEN, F.PRT_ALMT_MIN, F.PRT_ALMT_SEN, F.PRT_ALMT_SEC]⟩
def F.PRT_ALMD_AEN : Fld := ⟨591, 31, 1, 0x0, .live, .V⟩
def F.PRT_ALMD_DEN : Fld := ⟨592, 7, 1, 0x0, .live, .V⟩
def F.PRT_ALMD_DAY : Fld := ⟨593, 0, 6, 0x0, .live, .V⟩
/-- PRT_ALMD: R362. -/
def R.PRT_ALMD : RegRow := ⟨192, 0x14001C, 0x4, 1, .pclk, [F.PRT_ALMD_AEN, F.PRT_ALMD_DEN, F.PRT_ALMD_DAY]⟩
def F.PRT_ST_OSF : Fld := ⟨594, 31, 1, 0x1, .w1c, .P⟩
def F.PRT_ST_BATLOW : Fld := ⟨595, 30, 1, 0x0, .ro, .P⟩
def F.PRT_ST_PWRON : Fld := ⟨596, 29, 1, 0x0, .ro, .P⟩
def F.PRT_ST_OSCL : Fld := ⟨597, 28, 1, 0x0, .w1c, .P⟩
def F.PRT_ST_SHADL : Fld := ⟨598, 27, 1, 0x0, .w1c, .P⟩
def F.PRT_ST_BATL : Fld := ⟨599, 26, 1, 0x0, .w1c, .P⟩
def F.PRT_ST_WRAPL : Fld := ⟨600, 25, 1, 0x0, .w1c, .P⟩
def F.PRT_ST_WLINE : Fld := ⟨601, 24, 1, 0x0, .ro, .P⟩
def F.PRT_ST_ACTIVE : Fld := ⟨602, 0, 16, 0x0, .ro, .P⟩
/-- PRT_ST: R362. -/
def R.PRT_ST : RegRow := ⟨193, 0x140020, 0x4, 1, .pclk, [F.PRT_ST_OSF, F.PRT_ST_BATLOW, F.PRT_ST_PWRON, F.PRT_ST_OSCL, F.PRT_ST_SHADL, F.PRT_ST_BATL, F.PRT_ST_WRAPL, F.PRT_ST_WLINE, F.PRT_ST_ACTIVE]⟩
def F.PRT_XTAL_K : Fld := ⟨603, 20, 12, 0x154, .live, .V⟩
def F.PRT_XTAL_T0 : Fld := ⟨604, 10, 10, 0x64, .live, .V⟩
def F.PRT_XTAL_AGE : Fld := ⟨605, 0, 10, 0x0, .live, .V⟩
/-- PRT_XTAL: R362. -/
def R.PRT_XTAL : RegRow := ⟨194, 0x140024, 0x4, 1, .pclk, [F.PRT_XTAL_K, F.PRT_XTAL_T0, F.PRT_XTAL_AGE]⟩
def F.PRT_PWR_PWRCLR : Fld := ⟨606, 31, 1, 0x0, .live, .V⟩
def F.PRT_PWR_PWRTO : Fld := ⟨607, 0, 16, 0x0, .live, .V⟩
/-- PRT_PWR: R362. -/
def R.PRT_PWR : RegRow := ⟨195, 0x140028, 0x4, 1, .pclk, [F.PRT_PWR_PWRCLR, F.PRT_PWR_PWRTO]⟩
def F.PRT_TCFG_SPER : Fld := ⟨608, 30, 2, 0x2, .live, .V⟩
def F.PRT_TCFG_LOOP : Fld := ⟨609, 26, 4, 0x0, .live, .V⟩
def F.PRT_TCFG_FSEL : Fld := ⟨610, 24, 2, 0x0, .live, .V⟩
def F.PRT_TCFG_FLDPOL : Fld := ⟨611, 23, 1, 0x0, .live, .V⟩
def F.PRT_TCFG_CMPBPOL : Fld := ⟨612, 22, 1, 0x0, .live, .V⟩
def F.PRT_TCFG_HALLTH : Fld := ⟨613, 8, 8, 0x0, .live, .V⟩
/-- PRT_TCFG: R362. -/
def R.PRT_TCFG : RegRow := ⟨196, 0x14002C, 0x4, 1, .pclk, [F.PRT_TCFG_SPER, F.PRT_TCFG_LOOP, F.PRT_TCFG_FSEL, F.PRT_TCFG_FLDPOL, F.PRT_TCFG_CMPBPOL, F.PRT_TCFG_HALLTH]⟩
def F.PRT_PINS_INV : Fld := ⟨614, 8, 8, 0x0, .live, .V⟩
def F.PRT_PINS_PULL : Fld := ⟨615, 0, 8, 0x0, .live, .V⟩
/-- PRT_PINS: R362. -/
def R.PRT_PINS : RegRow := ⟨197, 0x140030, 0x4, 1, .pclk, [F.PRT_PINS_INV, F.PRT_PINS_PULL]⟩
def F.PRT_SLTCLR_CLR : Fld := ⟨616, 0, 16, 0x0, .live, .L⟩
/-- PRT_SLTCLR: R362. -/
def R.PRT_SLTCLR : RegRow := ⟨198, 0x140034, 0x4, 1, .pclk, [F.PRT_SLTCLR_CLR]⟩
def F.PRT_SRC_CAP : Fld := ⟨617, 31, 1, 0x0, .live, .V⟩
def F.PRT_SRC_REC : Fld := ⟨618, 30, 1, 0x0, .live, .V⟩
def F.PRT_SRC_ALERT : Fld := ⟨619, 29, 1, 0x0, .live, .V⟩
def F.PRT_SRC_LOCK : Fld := ⟨620, 28, 1, 0x0, .live, .V⟩
def F.PRT_SRC_WIPE : Fld := ⟨621, 27, 1, 0x0, .live, .V⟩
def F.PRT_SRC_PWR : Fld := ⟨622, 26, 1, 0x0, .live, .V⟩
def F.PRT_SRC_FWIN : Fld := ⟨623, 8, 5, 0x0, .live, .V⟩
def F.PRT_SRC_FCNT : Fld := ⟨624, 0, 5, 0x0, .live, .V⟩
/-- PRT_SRC: R362. -/
def R.PRT_SRC : RegRow := ⟨199, 0x140100, 0x4, 16, .pclk, [F.PRT_SRC_CAP, F.PRT_SRC_REC, F.PRT_SRC_ALERT, F.PRT_SRC_LOCK, F.PRT_SRC_WIPE, F.PRT_SRC_PWR, F.PRT_SRC_FWIN, F.PRT_SRC_FCNT]⟩
def F.PRT_SLT_TIME_TIME : Fld := ⟨625, 0, 32, 0x0, .ro, .P⟩
/-- PRT_SLT_TIME: R362. -/
def R.PRT_SLT_TIME : RegRow := ⟨200, 0x140200, 0x10, 16, .pclk, [F.PRT_SLT_TIME_TIME]⟩
def F.PRT_SLT_DATE_DATE : Fld := ⟨626, 0, 32, 0x0, .ro, .P⟩
/-- PRT_SLT_DATE: R362. -/
def R.PRT_SLT_DATE : RegRow := ⟨201, 0x140204, 0x10, 16, .pclk, [F.PRT_SLT_DATE_DATE]⟩
def F.PRT_SLT_INFO_FULL : Fld := ⟨627, 31, 1, 0x0, .ro, .P⟩
def F.PRT_SLT_INFO_LOST : Fld := ⟨628, 30, 1, 0x1, .ro, .P⟩
def F.PRT_SLT_INFO_CORRUPT : Fld := ⟨629, 29, 1, 0x0, .ro, .P⟩
def F.PRT_SLT_INFO_ONCELL : Fld := ⟨630, 28, 1, 0x0, .ro, .P⟩
def F.PRT_SLT_INFO_COUNT : Fld := ⟨631, 16, 8, 0x0, .ro, .P⟩
def F.PRT_SLT_INFO_SUBSEC : Fld := ⟨632, 0, 16, 0x0, .ro, .P⟩
/-- PRT_SLT_INFO: R362. -/
def R.PRT_SLT_INFO : RegRow := ⟨202, 0x140208, 0x10, 16, .pclk, [F.PRT_SLT_INFO_FULL, F.PRT_SLT_INFO_LOST, F.PRT_SLT_INFO_CORRUPT, F.PRT_SLT_INFO_ONCELL, F.PRT_SLT_INFO_COUNT, F.PRT_SLT_INFO_SUBSEC]⟩

/-! ### EVT -/

def F.EVT_CFG_LDG : Fld := ⟨633, 31, 1, 0x0, .live, .I⟩
def F.EVT_CFG_STAT : Fld := ⟨634, 30, 1, 0x0, .live, .I⟩
def F.EVT_CFG_IRQ1 : Fld := ⟨635, 29, 1, 0x0, .live, .I⟩
def F.EVT_CFG_IRQ0 : Fld := ⟨636, 28, 1, 0x0, .live, .I⟩
def F.EVT_CFG_SEV : Fld := ⟨637, 24, 3, 0x0, .live, .I⟩
def F.EVT_CFG_NSNAP : Fld := ⟨638, 20, 4, 0x0, .live, .I⟩
def F.EVT_CFG_RLIM : Fld := ⟨639, 12, 8, 0x0, .live, .I⟩
def F.EVT_CFG_RWIN : Fld := ⟨640, 0, 12, 0x0, .live, .I⟩
/-- EVT_CFG: R372/R373. -/
def R.EVT_CFG : RegRow := ⟨203, 0x160000, 0x4, 128, .sclk, [F.EVT_CFG_LDG, F.EVT_CFG_STAT, F.EVT_CFG_IRQ1, F.EVT_CFG_IRQ0, F.EVT_CFG_SEV, F.EVT_CFG_NSNAP, F.EVT_CFG_RLIM, F.EVT_CFG_RWIN]⟩
def F.EVT_SNAP_ADDR : Fld := ⟨641, 0, 24, 0x0, .live, .I⟩
/-- EVT_SNAP: R372/R373. -/
def R.EVT_SNAP : RegRow := ⟨204, 0x160400, 0x4, 1024, .sclk, [F.EVT_SNAP_ADDR]⟩
def F.EVT_PEND_PEND : Fld := ⟨642, 0, 32, 0x0, .w1c, .L⟩
/-- EVT_PEND: R372/R373. -/
def R.EVT_PEND : RegRow := ⟨205, 0x162000, 0x4, 4, .sclk, [F.EVT_PEND_PEND]⟩
def F.EVT_STAT_SEVMAX : Fld := ⟨643, 8, 3, 0x0, .ro, .L⟩
def F.EVT_STAT_BLK : Fld := ⟨644, 0, 8, 0x0, .ro, .L⟩
/-- EVT_STAT: R372/R373. -/
def R.EVT_STAT : RegRow := ⟨206, 0x162010, 0x4, 1, .sclk, [F.EVT_STAT_SEVMAX, F.EVT_STAT_BLK]⟩

/-! ### LDG -/

def F.LDG_ST_READY : Fld := ⟨645, 31, 1, 0x0, .ro, .L⟩
def F.LDG_ST_FULL : Fld := ⟨646, 30, 1, 0x0, .ro, .L⟩
def F.LDG_ST_QDEPTH : Fld := ⟨647, 21, 9, 0x0, .ro, .L⟩
def F.LDG_ST_DROPL : Fld := ⟨648, 18, 1, 0x0, .w1c, .L⟩
def F.LDG_ST_OVWL : Fld := ⟨649, 17, 1, 0x0, .w1c, .L⟩
def F.LDG_ST_SUPPL : Fld := ⟨650, 16, 1, 0x0, .w1c, .L⟩
def F.LDG_ST_FENCED : Fld := ⟨651, 0, 12, 0x0, .ro, .V⟩
/-- LDG_ST: R372/R373. -/
def R.LDG_ST : RegRow := ⟨207, 0x150000, 0x4, 1, .sclk, [F.LDG_ST_READY, F.LDG_ST_FULL, F.LDG_ST_QDEPTH, F.LDG_ST_DROPL, F.LDG_ST_OVWL, F.LDG_ST_SUPPL, F.LDG_ST_FENCED]⟩
def F.LDG_FIRST_FIRST : Fld := ⟨652, 0, 32, 0x0, .ro, .L⟩
/-- LDG_FIRST: R372/R373. -/
def R.LDG_FIRST : RegRow := ⟨208, 0x150004, 0x4, 1, .sclk, [F.LDG_FIRST_FIRST]⟩
def F.LDG_LAST_LAST : Fld := ⟨653, 0, 32, 0x0, .ro, .L⟩
/-- LDG_LAST: R372/R373. -/
def R.LDG_LAST : RegRow := ⟨209, 0x150008, 0x4, 1, .sclk, [F.LDG_LAST_LAST]⟩
def F.LDG_ACK_ACK : Fld := ⟨654, 0, 32, 0x0, .live, .V⟩
/-- LDG_ACK: R372/R373. -/
def R.LDG_ACK : RegRow := ⟨210, 0x15000C, 0x4, 1, .sclk, [F.LDG_ACK_ACK]⟩
def F.LDG_CNT_DROPPED : Fld := ⟨655, 16, 16, 0x0, .ro, .L⟩
def F.LDG_CNT_SUPPR : Fld := ⟨656, 0, 16, 0x0, .ro, .L⟩
/-- LDG_CNT: R372/R373. -/
def R.LDG_CNT : RegRow := ⟨211, 0x150010, 0x4, 1, .sclk, [F.LDG_CNT_DROPPED, F.LDG_CNT_SUPPR]⟩
def F.LDG_SEL_RSEQ : Fld := ⟨657, 0, 32, 0x0, .rw, .L⟩
/-- LDG_SEL: R372/R373. -/
def R.LDG_SEL : RegRow := ⟨212, 0x150014, 0x4, 1, .sclk, [F.LDG_SEL_RSEQ]⟩
def F.LDG_RINFO_FOUND : Fld := ⟨658, 31, 1, 0x0, .ro, .L⟩
def F.LDG_RINFO_BAD : Fld := ⟨659, 30, 1, 0x0, .ro, .L⟩
def F.LDG_RINFO_BUSY : Fld := ⟨660, 29, 1, 0x0, .ro, .L⟩
def F.LDG_RINFO_POS : Fld := ⟨661, 0, 11, 0x0, .ro, .L⟩
/-- LDG_RINFO: R372/R373. -/
def R.LDG_RINFO : RegRow := ⟨213, 0x150018, 0x4, 1, .sclk, [F.LDG_RINFO_FOUND, F.LDG_RINFO_BAD, F.LDG_RINFO_BUSY, F.LDG_RINFO_POS]⟩
def F.LDG_REC_DATA : Fld := ⟨662, 0, 32, 0x0, .ro, .L⟩
/-- LDG_REC: R372/R373. -/
def R.LDG_REC : RegRow := ⟨214, 0x150040, 0x4, 16, .sclk, [F.LDG_REC_DATA]⟩

/-! ### SAR -/

def F.SAR_CFG_TRIG : Fld := ⟨663, 31, 1, 0x0, .live, .I⟩
def F.SAR_CFG_EDGE : Fld := ⟨664, 30, 1, 0x0, .live, .I⟩
def F.SAR_CFG_LEN : Fld := ⟨665, 16, 6, 0x0, .live, .I⟩
def F.SAR_CFG_DLY : Fld := ⟨666, 0, 16, 0x0, .live, .I⟩
/-- SAR_CFG: R384. -/
def R.SAR_CFG : RegRow := ⟨215, 0x170000, 0x4, 1, .sclk, [F.SAR_CFG_TRIG, F.SAR_CFG_EDGE, F.SAR_CFG_LEN, F.SAR_CFG_DLY]⟩
def F.SAR_TMR_TPER : Fld := ⟨667, 0, 16, 0x0, .live, .I⟩
/-- SAR_TMR: R384. -/
def R.SAR_TMR : RegRow := ⟨216, 0x170004, 0x4, 1, .sclk, [F.SAR_TMR_TPER]⟩
def F.SAR_ST_READY : Fld := ⟨668, 31, 1, 0x0, .ro, .L⟩
def F.SAR_ST_BUSY : Fld := ⟨669, 30, 1, 0x0, .ro, .L⟩
def F.SAR_ST_ENTRY : Fld := ⟨670, 25, 5, 0x0, .ro, .L⟩
def F.SAR_ST_IDEPTH : Fld := ⟨671, 22, 3, 0x0, .ro, .L⟩
def F.SAR_ST_SUPX : Fld := ⟨672, 21, 1, 0x0, .ro, .L⟩
def F.SAR_ST_OVRL : Fld := ⟨673, 18, 1, 0x0, .w1c, .L⟩
def F.SAR_ST_INJRL : Fld := ⟨674, 17, 1, 0x0, .w1c, .L⟩
def F.SAR_ST_NRDYL : Fld := ⟨675, 16, 1, 0x0, .w1c, .L⟩
def F.SAR_ST_FLT : Fld := ⟨676, 0, 16, 0x0, .ro, .L⟩
/-- SAR_ST: R384. -/
def R.SAR_ST : RegRow := ⟨217, 0x170008, 0x4, 1, .sclk, [F.SAR_ST_READY, F.SAR_ST_BUSY, F.SAR_ST_ENTRY, F.SAR_ST_IDEPTH, F.SAR_ST_SUPX, F.SAR_ST_OVRL, F.SAR_ST_INJRL, F.SAR_ST_NRDYL, F.SAR_ST_FLT]⟩
def F.SAR_INJ_GO : Fld := ⟨677, 31, 1, 0x0, .wo, .L⟩
def F.SAR_INJ_SMP : Fld := ⟨678, 8, 6, 0x0, .rw, .L⟩
def F.SAR_INJ_INPUT : Fld := ⟨679, 0, 4, 0x0, .rw, .L⟩
/-- SAR_INJ: R384. -/
def R.SAR_INJ : RegRow := ⟨218, 0x17000C, 0x4, 1, .sclk, [F.SAR_INJ_GO, F.SAR_INJ_SMP, F.SAR_INJ_INPUT]⟩
def F.SAR_SEQ_SMP : Fld := ⟨680, 8, 6, 0x0, .live, .I⟩
def F.SAR_SEQ_INPUT : Fld := ⟨681, 0, 4, 0x0, .live, .I⟩
/-- SAR_SEQ: R384. -/
def R.SAR_SEQ : RegRow := ⟨219, 0x170100, 0x4, 32, .sclk, [F.SAR_SEQ_SMP, F.SAR_SEQ_INPUT]⟩
def F.SAR_RES_FAULT : Fld := ⟨682, 31, 1, 0x0, .ro, .L⟩
def F.SAR_RES_CNT : Fld := ⟨683, 16, 14, 0x0, .ro, .L⟩
def F.SAR_RES_CODE : Fld := ⟨684, 0, 12, 0x0, .ro, .L⟩
/-- SAR_RES: R384. -/
def R.SAR_RES : RegRow := ⟨220, 0x170200, 0x4, 16, .sclk, [F.SAR_RES_FAULT, F.SAR_RES_CNT, F.SAR_RES_CODE]⟩
def F.SAR_WIN_HI : Fld := ⟨685, 16, 12, 0xFFF, .live, .I⟩
def F.SAR_WIN_LO : Fld := ⟨686, 0, 12, 0x0, .live, .I⟩
/-- SAR_WIN: R384. -/
def R.SAR_WIN : RegRow := ⟨221, 0x170300, 0x4, 8, .sclk, [F.SAR_WIN_HI, F.SAR_WIN_LO]⟩
def F.SAR_SHC_EN : Fld := ⟨687, 31, 1, 0x0, .live, .I⟩
def F.SAR_SHC_AUX : Fld := ⟨688, 28, 3, 0x0, .live, .I⟩
def F.SAR_SHC_STREAM : Fld := ⟨689, 20, 8, 0x0, .live, .I⟩
def F.SAR_SHC_ALPHA : Fld := ⟨690, 8, 12, 0x0, .live, .I⟩
/-- SAR_SHC: R384. -/
def R.SAR_SHC : RegRow := ⟨222, 0x170400, 0x10, 8, .sclk, [F.SAR_SHC_EN, F.SAR_SHC_AUX, F.SAR_SHC_STREAM, F.SAR_SHC_ALPHA]⟩
def F.SAR_SHT_TGAIN : Fld := ⟨691, 16, 16, 0x0, .live, .I⟩
def F.SAR_SHT_TOFS : Fld := ⟨692, 0, 16, 0x0, .live, .I⟩
/-- SAR_SHT: R384. -/
def R.SAR_SHT : RegRow := ⟨223, 0x170404, 0x10, 8, .sclk, [F.SAR_SHT_TGAIN, F.SAR_SHT_TOFS]⟩
def F.SAR_SHR_T0 : Fld := ⟨693, 16, 16, 0x0, .live, .I⟩
def F.SAR_SHR_FPPM : Fld := ⟨694, 0, 16, 0x0, .ro, .L⟩
/-- SAR_SHR: R384. -/
def R.SAR_SHR : RegRow := ⟨224, 0x170408, 0x10, 8, .sclk, [F.SAR_SHR_T0, F.SAR_SHR_FPPM]⟩

/-! ### DSP -/

def F.DSP_CFG_EN : Fld := ⟨695, 31, 1, 0x0, .live, .I⟩
def F.DSP_CFG_MODE : Fld := ⟨696, 30, 1, 0x0, .live, .I⟩
def F.DSP_CFG_INV : Fld := ⟨697, 28, 2, 0x0, .live, .I⟩
def F.DSP_CFG_DCLKSEL : Fld := ⟨698, 25, 3, 0x0, .live, .I⟩
def F.DSP_CFG_SRC : Fld := ⟨699, 24, 1, 0x0, .live, .I⟩
def F.DSP_CFG_NSEG : Fld := ⟨700, 17, 7, 0x0, .live, .I⟩
def F.DSP_CFG_FDIV : Fld := ⟨701, 0, 16, 0x0, .live, .I⟩
/-- DSP_CFG: R397. -/
def R.DSP_CFG : RegRow := ⟨225, 0x180000, 0x4, 1, .sclk, [F.DSP_CFG_EN, F.DSP_CFG_MODE, F.DSP_CFG_INV, F.DSP_CFG_DCLKSEL, F.DSP_CFG_SRC, F.DSP_CFG_NSEG, F.DSP_CFG_FDIV]⟩
def F.DSP_LCD_V25 : Fld := ⟨702, 20, 12, 0x0, .live, .I⟩
def F.DSP_LCD_TCV : Fld := ⟨703, 12, 8, 0x0, .live, .I⟩
def F.DSP_LCD_UPMIN : Fld := ⟨704, 8, 4, 0x1, .live, .I⟩
/-- DSP_LCD: R397. -/
def R.DSP_LCD : RegRow := ⟨226, 0x180004, 0x4, 1, .sclk, [F.DSP_LCD_V25, F.DSP_LCD_TCV, F.DSP_LCD_UPMIN]⟩
def F.DSP_ST_STATE : Fld := ⟨705, 29, 3, 0x0, .ro, .L⟩
def F.DSP_ST_PUMPOK : Fld := ⟨706, 28, 1, 0x0, .ro, .L⟩
def F.DSP_ST_QUEUED : Fld := ⟨707, 27, 1, 0x0, .ro, .L⟩
def F.DSP_ST_BAND : Fld := ⟨708, 24, 3, 0x0, .ro, .L⟩
def F.DSP_ST_PAGE : Fld := ⟨709, 16, 8, 0x0, .ro, .L⟩
def F.DSP_ST_VLCD : Fld := ⟨710, 0, 12, 0x0, .ro, .L⟩
/-- DSP_ST: R397. -/
def R.DSP_ST : RegRow := ⟨227, 0x180008, 0x4, 1, .sclk, [F.DSP_ST_STATE, F.DSP_ST_PUMPOK, F.DSP_ST_QUEUED, F.DSP_ST_BAND, F.DSP_ST_PAGE, F.DSP_ST_VLCD]⟩
def F.DSP_CTL_SHOW : Fld := ⟨711, 31, 1, 0x0, .live, .L⟩
def F.DSP_CTL_NEXT : Fld := ⟨712, 30, 1, 0x0, .live, .L⟩
/-- DSP_CTL: R397. -/
def R.DSP_CTL : RegRow := ⟨228, 0x18000C, 0x4, 1, .sclk, [F.DSP_CTL_SHOW, F.DSP_CTL_NEXT]⟩
def F.DSP_ETIME_TPRE : Fld := ⟨713, 8, 8, 0x0, .live, .I⟩
def F.DSP_ETIME_TDRV : Fld := ⟨714, 0, 8, 0x0, .live, .I⟩
/-- DSP_ETIME: R397. -/
def R.DSP_ETIME : RegRow := ⟨229, 0x180010, 0x4, 8, .sclk, [F.DSP_ETIME_TPRE, F.DSP_ETIME_TDRV]⟩
def F.DSP_PAGE_EN : Fld := ⟨715, 31, 1, 0x0, .live, .I⟩
def F.DSP_PAGE_KIND : Fld := ⟨716, 30, 1, 0x0, .live, .I⟩
def F.DSP_PAGE_SRC : Fld := ⟨717, 18, 12, 0x0, .live, .I⟩
def F.DSP_PAGE_DIGITS : Fld := ⟨718, 14, 4, 0x0, .live, .I⟩
def F.DSP_PAGE_SHIFT : Fld := ⟨719, 10, 4, 0x0, .live, .I⟩
def F.DSP_PAGE_DPPOS : Fld := ⟨720, 6, 4, 0x0, .live, .I⟩
def F.DSP_PAGE_DWELL : Fld := ⟨721, 0, 6, 0x0, .live, .I⟩
/-- DSP_PAGE: R397. -/
def R.DSP_PAGE : RegRow := ⟨230, 0x180100, 0x10, 16, .sclk, [F.DSP_PAGE_EN, F.DSP_PAGE_KIND, F.DSP_PAGE_SRC, F.DSP_PAGE_DIGITS, F.DSP_PAGE_SHIFT, F.DSP_PAGE_DPPOS, F.DSP_PAGE_DWELL]⟩
def F.DSP_SYM_SYM : Fld := ⟨722, 0, 32, 0x0, .live, .I⟩
/-- DSP_SYM: R397. -/
def R.DSP_SYM : RegRow := ⟨231, 0x180104, 0x10, 16, .sclk, [F.DSP_SYM_SYM]⟩
def F.DSP_IMG_IMG : Fld := ⟨723, 0, 32, 0x0, .live, .L⟩
/-- DSP_IMG: R397. -/
def R.DSP_IMG : RegRow := ⟨232, 0x180400, 0x4, 6, .sclk, [F.DSP_IMG_IMG]⟩
def F.DSP_SHD_SHD : Fld := ⟨724, 0, 32, 0x0, .ro, .V⟩
/-- DSP_SHD: R397. -/
def R.DSP_SHD : RegRow := ⟨233, 0x180420, 0x4, 6, .sclk, [F.DSP_SHD_SHD]⟩

/-! ### PWR -/

def F.PWR_ST_MSTATE : Fld := ⟨725, 30, 2, 0x0, .ro, .L⟩
def F.PWR_ST_CAUSE : Fld := ⟨726, 27, 3, 0x0, .ro, .L⟩
def F.PWR_ST_PFAIL : Fld := ⟨727, 26, 1, 0x0, .ro, .L⟩
def F.PWR_ST_STRAP3 : Fld := ⟨728, 19, 1, 0x0, .ro, .L⟩
def F.PWR_ST_NVMSLOW : Fld := ⟨729, 18, 1, 0x0, .ro, .L⟩
def F.PWR_ST_XBYP : Fld := ⟨730, 17, 1, 0x0, .ro, .L⟩
def F.PWR_ST_PAIRSIDE : Fld := ⟨731, 16, 1, 0x0, .ro, .L⟩
def F.PWR_ST_PFL : Fld := ⟨732, 3, 1, 0x0, .w1c, .L⟩
def F.PWR_ST_RECL : Fld := ⟨733, 2, 1, 0x0, .w1c, .L⟩
def F.PWR_ST_STBYL : Fld := ⟨734, 1, 1, 0x0, .w1c, .L⟩
/-- PWR_ST: R427. -/
def R.PWR_ST : RegRow := ⟨234, 0x190000, 0x4, 1, .sclk, [F.PWR_ST_MSTATE, F.PWR_ST_CAUSE, F.PWR_ST_PFAIL, F.PWR_ST_STRAP3, F.PWR_ST_NVMSLOW, F.PWR_ST_XBYP, F.PWR_ST_PAIRSIDE, F.PWR_ST_PFL, F.PWR_ST_RECL, F.PWR_ST_STBYL]⟩
def F.PWR_CFG_AUTORUN : Fld := ⟨735, 31, 1, 0x1, .live, .I⟩
def F.PWR_CFG_RECWAIT : Fld := ⟨736, 16, 8, 0xA, .live, .I⟩
/-- PWR_CFG: R427. -/
def R.PWR_CFG : RegRow := ⟨235, 0x190004, 0x4, 1, .sclk, [F.PWR_CFG_AUTORUN, F.PWR_CFG_RECWAIT]⟩
def F.PWR_CTL_RST : Fld := ⟨737, 31, 1, 0x0, .live, .L⟩
def F.PWR_CTL_STBY : Fld := ⟨738, 30, 1, 0x0, .live, .L⟩
def F.PWR_CTL_RUN : Fld := ⟨739, 29, 1, 0x0, .live, .L⟩
def F.PWR_CTL_REJ : Fld := ⟨740, 28, 1, 0x0, .ro, .L⟩
/-- PWR_CTL: R427. -/
def R.PWR_CTL : RegRow := ⟨236, 0x190008, 0x4, 1, .sclk, [F.PWR_CTL_RST, F.PWR_CTL_STBY, F.PWR_CTL_RUN, F.PWR_CTL_REJ]⟩
def F.PWR_PF_TCKPT : Fld := ⟨741, 16, 16, 0x0, .ro, .V⟩
def F.PWR_PF_NREC : Fld := ⟨742, 0, 16, 0x0, .ro, .V⟩
/-- PWR_PF: R427. -/
def R.PWR_PF : RegRow := ⟨237, 0x19000C, 0x4, 1, .sclk, [F.PWR_PF_TCKPT, F.PWR_PF_NREC]⟩
def F.PWR_CNT_PUPS : Fld := ⟨743, 16, 16, 0x0, .ro, .V⟩
def F.PWR_CNT_PFAILS : Fld := ⟨744, 0, 16, 0x0, .ro, .V⟩
/-- PWR_CNT: R427. -/
def R.PWR_CNT : RegRow := ⟨238, 0x190010, 0x4, 1, .sclk, [F.PWR_CNT_PUPS, F.PWR_CNT_PFAILS]⟩

/-- The registers of block IDENT (R27, R412). -/
def regsIDENT : List RegRow :=
  [R.IDENT_PART, R.IDENT_STEP, R.IDENT_CAP, R.IDENT_UNITS, R.IDENT_UID_LO, R.IDENT_UID_HI]

/-- The registers of block INP (R27, R412). -/
def regsINP : List RegRow :=
  [R.INP_CFG, R.INP_ST, R.INP_OVCNT, R.INP_PEAK, R.INP_BSG, R.INP_OPENMAP, R.INP_OVRMAP]

/-- The registers of block RMT (R27, R412). -/
def regsRMT : List RegRow :=
  [R.RMT_CFG, R.RMT_FORCE, R.RMT_BCTL, R.RMT_BST, R.RMT_BCNT, R.RMT_MST, R.RMT_MDRIFT, R.RMT_MLIN, R.RMT_SST]

/-- The registers of block FLT (R27, R412). -/
def regsFLT : List RegRow :=
  [R.FLT_ENG, R.FLT_ROMID, R.FLT_CFG, R.FLT_THR, R.FLT_ST, R.FLT_OVCMAP]

/-- The registers of block MTR (R27, R412). -/
def regsMTR : List RegRow :=
  [R.MTR_CFG, R.MTR_INOM, R.MTR_CHA, R.MTR_CHB, R.MTR_CHC, R.MTR_IDCLIM, R.MTR_ST, R.MTR_SCALE, R.MTR_VS, R.MTR_REG, R.MTR_RES, R.MTR_HOLD, R.MTR_CKST]

/-- The registers of block ACC (R27, R412). -/
def regsACC : List RegRow :=
  [R.ACC_LO, R.ACC_HI, R.ACC_QUAL]

/-- The registers of block PLS (R27, R412). -/
def regsPLS : List RegRow :=
  [R.PLS_CFG, R.PLS_CONST, R.PLS_ST, R.PLS_CNT, R.PLS_RES]

/-- The registers of block GRD (R27, R412). -/
def regsGRD : List RegRow :=
  [R.GRD_CFG, R.GRD_UNOM, R.GRD_LIM, R.GRD_ST, R.GRD_FREQ, R.GRD_F10S, R.GRD_TB_LO, R.GRD_TB_HI, R.GRD_CHAN, R.GRD_IDMD]

/-- The registers of block HRM (R27, R412). -/
def regsHRM : List RegRow :=
  [R.HRM_ENG, R.HRM_CNT, R.HRM_HOLD, R.HRM_CYC, R.HRM_DC, R.HRM_PHM, R.HRM_PHA, R.HRM_W]

/-- The registers of block DST (R27, R412). -/
def regsDST : List RegRow :=
  [R.DST_GCFG, R.DST_GTHR, R.DST_GRVC, R.DST_GFRQ, R.DST_GROC, R.DST_ROCOF, R.DST_GST, R.DST_LREC, R.DST_LSTART_LO, R.DST_LSTART_HI, R.DST_LDUR, R.DST_LVAL, R.DST_CST, R.DST_HBSUM, R.DST_HBLIM, R.DST_ARC, R.DST_ARCST, R.DST_LBH, R.DST_LB, R.DST_HBSEL, R.DST_HBHDR, R.DST_HBPAGE]

/-- The registers of block CAL (R27, R412). -/
def regsCAL : List RegRow :=
  [R.CAL_CTL, R.CAL_SESS, R.CAL_UREF, R.CAL_IREF, R.CAL_PHI, R.CAL_REFV, R.CAL_SEL, R.CAL_ST, R.CAL_TEMP, R.CAL_TCFG, R.CAL_RES, R.CAL_SETINFO, R.CAL_CTAP]

/-- The registers of block TWN (R27, R412). -/
def regsTWN : List RegRow :=
  [R.TWN_CFG, R.TWN_CMP, R.TWN_BSN, R.TWN_CTL, R.TWN_ST, R.TWN_CNT, R.TWN_PEER_LO, R.TWN_PEER_HI, R.TWN_PHASE, R.TWN_LASTV, R.TWN_DISPMAP, R.TWN_ADOPTMAP, R.TWN_CHST]

/-- The registers of block FLTS (R27, R412). -/
def regsFLTS : List RegRow :=
  [R.FLTS_ST, R.FLTS_INJ, R.FLTS_LAST, R.FLTS_LTIME_LO, R.FLTS_LTIME_HI, R.FLTS_WIN, R.FLTS_SPARES, R.FLTS_SCRUB, R.FLTS_CNT]

/-- The registers of block CVN (R27, R412). -/
def regsCVN : List RegRow :=
  [R.CVN_CFG, R.CVN_EXP_LO, R.CVN_EXP_HI, R.CVN_SCFG, R.CVN_ST, R.CVN_PRES_LO, R.CVN_PRES_HI, R.CVN_SYNC, R.CVN_STIME_LO, R.CVN_STIME_HI, R.CVN_SITE, R.CVN_ADJ_LO, R.CVN_ADJ_HI, R.CVN_ADJCTL, R.CVN_PST, R.CVN_PDLY, R.CVN_PCNT, R.CVN_MSEL, R.CVN_MHDR, R.CVN_MACC]

/-- The registers of block WAY (R27, R412). -/
def regsWAY : List RegRow :=
  [R.WAY_CFG, R.WAY_NET, R.WAY_PHY, R.WAY_ST, R.WAY_CNT, R.WAY_CNT2, R.WAY_NSEL, R.WAY_NID_LO, R.WAY_NID_HI, R.WAY_NINFO, R.WAY_NLINK, R.WAY_TXCTL, R.WAY_RXST, R.WAY_NOTCH, R.WAY_TXBUF, R.WAY_RXBUF]

/-- The registers of block ITN (R27, R412). -/
def regsITN : List RegRow :=
  [R.ITN_ST, R.ITN_CFG, R.ITN_FLASH, R.ITN_PKCTL, R.ITN_PKLEN, R.ITN_RST, R.ITN_RGEN, R.ITN_RPEND, R.ITN_RQUE, R.ITN_RDIG, R.ITN_PKWIN]

/-- The registers of block SBX (R27, R412). -/
def regsSBX : List RegRow :=
  [R.SBX_ST, R.SBX_SCNT, R.SBX_PCNT, R.SBX_MCTL, R.SBX_PRIV, R.SBX_PCTL, R.SBX_OPCTL, R.SBX_SLOT, R.SBX_NONCE, R.SBX_AUTH, R.SBX_PCH, R.SBX_PRESP, R.SBX_KWIN, R.SBX_MWIN]

/-- The registers of block PRT (R27, R412). -/
def regsPRT : List RegRow :=
  [R.PRT_TIME, R.PRT_DATE, R.PRT_SUB, R.PRT_HTIME, R.PRT_HDATE, R.PRT_COMMIT, R.PRT_ALMT, R.PRT_ALMD, R.PRT_ST, R.PRT_XTAL, R.PRT_PWR, R.PRT_TCFG, R.PRT_PINS, R.PRT_SLTCLR, R.PRT_SRC, R.PRT_SLT_TIME, R.PRT_SLT_DATE, R.PRT_SLT_INFO]

/-- The registers of block EVT (R27, R412). -/
def regsEVT : List RegRow :=
  [R.EVT_CFG, R.EVT_SNAP, R.EVT_PEND, R.EVT_STAT]

/-- The registers of block LDG (R27, R412). -/
def regsLDG : List RegRow :=
  [R.LDG_ST, R.LDG_FIRST, R.LDG_LAST, R.LDG_ACK, R.LDG_CNT, R.LDG_SEL, R.LDG_RINFO, R.LDG_REC]

/-- The registers of block SAR (R27, R412). -/
def regsSAR : List RegRow :=
  [R.SAR_CFG, R.SAR_TMR, R.SAR_ST, R.SAR_INJ, R.SAR_SEQ, R.SAR_RES, R.SAR_WIN, R.SAR_SHC, R.SAR_SHT, R.SAR_SHR]

/-- The registers of block DSP (R27, R412). -/
def regsDSP : List RegRow :=
  [R.DSP_CFG, R.DSP_LCD, R.DSP_ST, R.DSP_CTL, R.DSP_ETIME, R.DSP_PAGE, R.DSP_SYM, R.DSP_IMG, R.DSP_SHD]

/-- The registers of block PWR (R27, R412). -/
def regsPWR : List RegRow :=
  [R.PWR_ST, R.PWR_CFG, R.PWR_CTL, R.PWR_PF, R.PWR_CNT]

/-- Every register of the device (Table 21-4). -/
def regTable : List RegRow :=
  regsIDENT ++ regsINP ++ regsRMT ++ regsFLT ++ regsMTR ++ regsACC ++ regsPLS ++ regsGRD ++ regsHRM ++ regsDST ++ regsCAL ++ regsTWN ++ regsFLTS ++ regsCVN ++ regsWAY ++ regsITN ++ regsSBX ++ regsPRT ++ regsEVT ++ regsLDG ++ regsSAR ++ regsDSP ++ regsPWR

end Sys2Proof.Machine
end

