-- ==== Sys2Proof/Machine/SMap.lean ====
section
/-! DEFINITION. The operations over sparse maps (`SMap`): read with a default, write in canonical form (keys strictly
rising, no entry equal to the default), and the predicate that states the form. -/

namespace Sys2Proof.Machine

/-- The value at key k; `d` where the key is not listed. -/
def mget {α : Type} (d : α) : SMap α → Nat → α
  | [], _ => d
  | (j, v) :: r, k => if j = k then v else mget d r k

/-- Removes every entry at key k. -/
def mdel {α : Type} : SMap α → Nat → SMap α
  | [], _ => []
  | (j, v) :: r, k => if j = k then mdel r k else (j, v) :: mdel r k

/-- Lists v at key k, replacing what was there. -/
def mins {α : Type} : SMap α → Nat → α → SMap α
  | [], k, v => [(k, v)]
  | (j, w) :: r, k, v =>
    if j = k then (k, v) :: r else if k < j then (k, v) :: (j, w) :: r else (j, w) :: mins r k v

/-- Writes v at key k: the entry is removed where v is the default. -/
def mput {α : Type} [DecidableEq α] (d : α) (m : SMap α) (k : Nat) (v : α) : SMap α :=
  if v = d then mdel m k else mins m k v

/-- Writes the image under `g` of the value at key k. -/
def mmod {α : Type} [DecidableEq α] (d : α) (m : SMap α) (k : Nat) (g : α → α) : SMap α :=
  mput d m k (g (mget d m k))

/-- Every key listed is above `b`, keys rise strictly, and no value is the default. -/
def canonFrom {α : Type} [DecidableEq α] (d : α) (b : Option Nat) : SMap α → Bool
  | [] => true
  | (j, v) :: r => (match b with | none => true | some x => decide (x < j)) && decide (v ≠ d) && canonFrom d (some j) r

/-- The canonical form of a sparse map with default d. -/
def canonical {α : Type} [DecidableEq α] (d : α) (m : SMap α) : Bool := canonFrom d none m

end Sys2Proof.Machine
end

