-- ==== Sys2Proof/Machine/Parts.lean ====
section
/-! DEFINITION. The parts of the state that no register field holds: for each unit of the device, what it remembers
between one command and the next. Register fields stand in `State.flds`. -/

namespace Sys2Proof.Machine

/-! ### Time and clocks (R21, R24, R26) -/

/-- Where XCLK comes from (R26). -/
inductive XSrc where
  | crystal | rc
  deriving DecidableEq, Repr

/-! ### The sample path (R93 to R108) -/

/-- One stream's decimator: four integrators, two sets of four combs, and the place in the frame. Registers are 26 bits
wide and wrap (R93). -/
structure Decimator where
  int1 : BitVec 26
  int2 : BitVec 26
  int3 : BitVec 26
  int4 : BitVec 26
  main : Vector (BitVec 26) 4
  high : Vector (BitVec 26) 4
  /-- Modulator bits since the first frame began. -/
  bits : Nat
  deriving DecidableEq, Repr

/-- A decimator as an enabled stream starts it: cleared (R93). -/
def Decimator.cleared : Decimator where
  int1 := 0
  int2 := 0
  int3 := 0
  int4 := 0
  main := Vector.replicate 4 0
  high := Vector.replicate 4 0
  bits := 0

/-- The two states of a second-order section (R99), in units of 2⁻⁴⁴. -/
structure SecSt where
  z1 : Int
  z2 : Int
  deriving DecidableEq, Repr

def SecSt.zero : SecSt := ⟨0, 0⟩

/-- The old chain of a stream while the new one fades in: the sample of the crossfade, its responses and its section
states (R112). -/
structure OldChain where
  k    : Nat
  resp : List Nat
  z    : List SecSt
  deriving DecidableEq, Repr

/-- A hand-over of a channel's stream that no slot's crossfade makes (R85, R87): main-tap samples of its 64 so far, the stream
that fed the channel before, and the match that stream was under. -/
structure FeedFade where
  k   : Nat
  src : Nat
  a   : Rat
  b   : Rat
  deriving DecidableEq, Repr

/-- One stream's place in the sample path: what its hardware holds between two main-tap frames. Samples are in units of 2⁻²⁸
(R95). -/
structure StreamPath where
  /-- The delay line ahead of the decimator, newest bit first (R94). -/
  line  : List Bool
  dec   : Decimator
  /-- Frames of the main tap and of the high-band tap since the stream was enabled, up to 4 (R96). -/
  frames : Nat
  highs : Nat
  /-- The latest main-tap sample and the two high-band samples of its frame under the modulator's correction, before the
  remount switch (R95). -/
  raw   : Int
  rawHi : List Int
  /-- Samples of a remount crossfade out, or back, since it began (R81); and a channel's hand-over without one. -/
  xf    : Nat
  fade  : Option FeedFade
  /-- The latest 192 main-tap samples after the switch, newest first (R113); the two high-band samples after the switch. -/
  mains : List Int
  hi    : List Int
  /-- Section states of the response slots and of the FPR response, in their order (R98, R99). -/
  z     : List SecSt
  fz    : List SecSt
  old   : Option OldChain
  /-- The histories of TB3 and HB1 to HB6, newest first, those of the five equalisers, and the latest preset outputs, AMBLE
  first (R106). -/
  fir   : List (List Int)
  eq    : List (List Int)
  out   : List Int
  /-- Preset outputs by code, each with the index of the instant that it describes, counted from site time 0 (R107), and the high-band
  samples after the switch likewise; newest first, no further back than any unit looks. -/
  kept  : List (List (Nat × Int))
  his   : List (Nat × Int)
  /-- A precision-path result has saturated since SATL was cleared last (R99). -/
  sat   : Bool
  /-- The latest fast-path results, newest first (R108, R110). -/
  fast  : List (BitVec 16)
  deriving DecidableEq, Repr

/-- A stream that carries nothing. -/
def StreamPath.cleared : StreamPath where
  line := []
  dec := Decimator.cleared
  frames := 0
  highs := 0
  raw := 0
  rawHi := []
  xf := 0
  fade := none
  mains := []
  hi := []
  z := []
  fz := []
  old := none
  fir := []
  eq := []
  out := []
  kept := []
  his := []
  sat := false
  fast := []

/-- Time and the main clock. `now` is the model's own count of nanoseconds elapsed; `site` is the site time count, or the
local count where there is no site time (R21), kept to 64 bits. -/
structure ClockSt where
  now      : Nat
  site     : Nat
  /-- The instant the RUN clocks stopped, while they are stopped (R24, R25). -/
  stopped  : Option Nat
  xsrc     : XSrc
  /-- While XCLK is on the RC fallback: corrections made of the RC against PCLK (R26). -/
  rcTrims  : Nat
  /-- What a slew of the site time has still to add, in ns, its rate in ppm, and how far it has come towards the next ns, in 10⁻⁶ ns
  (R224, R268, R277, R278). -/
  slew     : Int
  ppm      : Nat
  slewT    : Nat
  /-- What the clock edges drive: the 170 streams of the sample path (R93 to R108). -/
  path     : SMap StreamPath
  deriving DecidableEq, Repr

/-! ### The supervisory controller (R17, R18, R254, R312) -/

/-- What the supervisory controller is doing (R18). -/
inductive CtlRun where
  | held        -- in main reset, or not yet run after it
  | running
  | restarting  -- in a warm restart
  | halted      -- halted under R254 or R312
  deriving DecidableEq, Repr

/-! ### Events and the ledger (R363 to R371) -/

/-- A ledger record (Table 18-2). `summary`, `oncell`, `queued`, `corrupt` and `nosite` are bits 3 to 7 of FLAGS. -/
structure LdgRec where
  rseq    : Nat
  code    : Nat
  sev     : Nat
  summary : Bool
  oncell  : Bool
  queued  : Bool
  corrupt : Bool
  nosite  : Bool
  time    : Nat
  date    : Nat
  subsec  : Nat
  detail  : Nat
  stime   : Nat
  snap    : List Nat
  nsnap   : Nat
  deriving DecidableEq, Repr

/-- A ledger position (R369, R370). -/
inductive LdgPos where
  | empty
  | held (r : LdgRec)
  | bad (words : List Nat) -- its record failed its CRC twice; its 16 words as read
  | fenced               -- its block failed with no spare
  deriving DecidableEq, Repr

/-- The rate window of one event code (R367). -/
structure RateWin where
  opened     : Bool
  recorded   : Nat
  suppressed : Nat
  firstT     : Nat
  lastT      : Nat
  lastDetail : Nat
  deriving DecidableEq, Repr

/-- A rate window that is not open. -/
def RateWin.closed : RateWin := ⟨false, 0, 0, 0, 0, 0⟩

/-- Events beyond the 64 of the hardware queue: their count and the site times of the first and the last (R18). -/
structure HwExcess where
  count  : Nat
  firstT : Nat
  lastT  : Nat
  deriving DecidableEq, Repr

structure LdgSt where
  /-- The write queue in SRAM, in order of occurrence (R368). -/
  queue   : List LdgRec
  /-- The hardware event queue of 64 entries, used while the controller is not running (R18). -/
  hwq     : List LdgRec
  excess  : HwExcess
  /-- The bucket, in nanoseconds of refill: one record is 250,000,000 (R368). -/
  bucket  : Nat
  bucketT : Nat
  windows : SMap RateWin
  /-- The 2048 positions in the Vault (R369). -/
  pos     : SMap LdgPos
  /-- RSEQ of the record written last (R365, R370). -/
  lastSeq : Nat
  /-- The ledger's loss word in the Vault (R370). -/
  loss    : Nat
  /-- After a final checkpoint of a power-fail the queue is flushed without the bucket (R368, R370). -/
  flush   : Bool
  deriving DecidableEq, Repr

/-- The IRQ lines released for 500 ns by R411, until they are asserted again. -/
structure EvtSt where
  gap0 : Bool
  gap1 : Bool
  deriving DecidableEq, Repr

/-! ### Host port (R399 to R411) -/

/-- The record of the last write frame executed (R408). -/
structure DupRec where
  tag    : Nat
  addr   : Nat
  inc    : Bool
  len    : Nat
  crc    : Nat
  status : Nat
  deriving DecidableEq, Repr

/-- What the device put on QIO for the latest frame: driven weakly high for a frame that is not accepted (R403), or the
read data words, the status word and the response CRC (R400). -/
inductive HostResp where
  | weak
  | words (data : List Nat) (status crc : Nat)
  deriving DecidableEq, Repr

/-- A request of the host to a function that runs in firmware (Table 01-2). -/
inductive FwOp where
  | keySubmit (n : Nat)
  | openWrite (erase : Bool) (slot peer : Nat)
  | openPromote
  | promote
  | passport
  | txGo (pri len dst : Nat)
  | calStart
  | calStep
  | calCommit
  | calAbort
  | calTrig
  | calErase (set : Nat)
  | dspShow
  | dspNext
  /-- Work of firmware that falls due by itself: the decisions after a housekeeping burst, on its four temperatures; the end of a
  page's dwell; the aging of a neighbour and of a tone map; an acknowledgement that did not come; the choice of a parent; the end
  of TWINWAIT; the timeout of a session; and a trigger of a trim run. -/
  | housekeeping (ts : List Int)
  | pageDwell
  | nbrAge (i : Nat)
  | toneAge (i : Nat)
  | ackTimeout
  | parent
  | twinWait (r : Nat)
  | sessTimeout
  | trimStart
  /-- The porter profile takes a configuration latch (R349): hardware, so it waits for the Vault's write port alone. -/
  | profile (i : Nat)
  deriving DecidableEq, Repr

structure HostSt where
  /-- Upper words captured by R7, by upper address, each for the next read of that address. -/
  capt   : SMap (Option Nat)
  dup    : Option DupRec
  /-- Writes posted to stopped domains, oldest first: domain, address, value (R25). -/
  posted : List (Dom × Nat × Nat)
  resp   : Option HostResp
  /-- The instant of the last host frame (R410). -/
  lastT  : Nat
  /-- Requests to firmware that wait until the controller runs, oldest first (R17). -/
  waiting : List FwOp
  deriving DecidableEq, Repr

/-! ### Power, reset and straps (R413 to R424) -/

/-- The states of the main domain (R23). -/
inductive MState where
  | backup | standby | run
  deriving DecidableEq, Repr

/-- The sources of a main reset (Table 22-5). -/
inductive RstSrc where
  | power | nrst | host
  deriving DecidableEq, Repr

/-- A request of PWR_CTL that is being carried out (R420, R422). -/
inductive PwrReq where
  | stby | rst | run
  deriving DecidableEq, Repr

/-- WSEL pins: inputs before R37 drives them low. -/
inductive WselPins where
  | input | driven
  deriving DecidableEq, Repr

structure PwrSt where
  mstate   : MState
  /-- The main reset is held, by this source (R422). -/
  reset    : Option RstSrc
  /-- The session word in the Vault (R423). -/
  session  : Bool
  wsel     : WselPins
  sampled  : Bool
  /-- STBY or RST under way: waiting for the detach of a pair, or for the final checkpoint (R420). RUN: waiting for the
  itinerary. -/
  req      : Option PwrReq
  pllLocked : Bool
  /-- The instant of the latest power-fail report. -/
  pfT      : Nat
  /-- A final checkpoint is being written (R136, R416). -/
  finalCk  : Bool
  /-- CMPA recovered while a final checkpoint or a flush was in progress (R417). -/
  recover  : Bool
  metering : Bool
  /-- The site time at which metering started (R159, R421). -/
  meterT   : Nat
  /-- RUN has been entered since main reset. -/
  ran      : Bool
  deriving DecidableEq, Repr

/-! ### Measurement inputs (R49 to R75) -/

/-- Settings in force, and what the comparators remember. Fields of INP_CFG hold the settings as loaded or written;
these hold them as applied (R71), by stream. -/
structure InpSt where
  en      : SMap Bool
  range   : SMap Nat
  sensor  : SMap Nat
  burn    : SMap Nat
  sdly    : SMap Nat
  lat     : SMap Nat
  inv     : SMap Nat
  /-- Bitstream groups as they run: EN and RATE (a change waits for the next main power-up, R71). -/
  bsgEn   : SMap Bool
  bsgRate : SMap Nat
  /-- Consecutive 1 ms samples at which the P pin, and the N pin, was outside the window (R62). -/
  outP    : SMap Nat
  outN    : SMap Nat
  /-- Modulators (channel streams) whose integrators are due a reset after a run of 24 identical bits (R57). -/
  intDue  : SMap Bool
  /-- The level a persistent run of identical bits holds the stream at (R57): 1 for ones, 2 for zeros, 0 for none. -/
  clip    : SMap Nat
  deriving DecidableEq, Repr

/-! ### Remount (R76 to R92, R451) -/

/-- A remount correction: the offset of a modulator, as a fraction of range, and its gain against the internal
reference (R76). -/
structure Corr where
  off  : Rat
  gain : Rat
  deriving DecidableEq, Repr

/-- The states of a spare that stand in a slot (Table 04-14); ARBIT, SUBST, RETIRED and WITHHELD are told apart by other
parts of the state. -/
inductive SpState where
  | selfchk | ovlOut | xfOut | standin | ovlRet | xfRet | leaving
  deriving DecidableEq, Repr

/-- What a slot is for. `live`: a change of RANGE or SENSOR (R88). `third`: this spare is B of a disagreement whose
spare A is named; `out` tells the handover case from the return case (R84). -/
inductive SlotKind where
  | routine
  | forced
  | live (range sensor : Nat)
  | third (a : Nat) (out : Bool)
  deriving DecidableEq, Repr

/-- Where an overlap estimation stands (R77, R82). -/
inductive EstPh where
  | settling
  | window
  | restarted   -- begun again under R82, after OVR or a step
  | held        -- passed; its crossfade waits for OVR to clear, for a step to pass, or for a boundary
  | third       -- set aside while B is brought in (R84)
  | verdict     -- no B can serve and a twin is asked for a verdict (R84)
  deriving DecidableEq, Repr

/-- A slot in progress on a spare. -/
structure Slot where
  kind     : SlotKind
  chan     : Nat
  range    : Nat
  st       : SpState
  est      : EstPh
  /-- The present step has failed its test once (Table 04-4). -/
  failed   : Bool
  /-- The match: its gain, and its offset in units of 2⁻²⁸. -/
  mtch     : Option (Rat × Rat)
  /-- The channel modulator's correction before the slot, and the one measured in it. -/
  oldCorr  : Corr
  newCorr  : Option Corr
  /-- The cross-check has passed, and the new correction is in force. -/
  checked  : Bool
  selfOnly : Bool
  offline  : Bool
  handback : Bool
  /-- The instant its self-check passed. -/
  checkT   : Nat
  /-- The instant the off-line measurement began, or went on; and its readings completed before that, of the shorted inputs and
  the nine points (R86). -/
  offT     : Nat
  pts      : List Rat
  deriving DecidableEq, Repr

/-- A spare's part in a REFIN measurement: its self-check at RANGE 0, which may have failed once, then its shorted inputs and REFIN
(R211). -/
inductive RefinPh where
  | check (failed : Bool)
  | measure
  deriving DecidableEq, Repr

/-- One spare modulator. -/
structure SpareSt where
  slot   : Option Slot
  /-- Held by twin arbitration for this channel (R85). -/
  arbit  : Option Nat
  /-- The slot that arbitration or disagreement resolution pre-empted (R86). -/
  kept   : Option Slot
  /-- A slot start that fell due while the spare was still busy (R78). -/
  late   : Option Nat
  /-- The spare's next slot start passed while its slot stood pre-empted (R86). -/
  missed : Bool
  /-- Its engine slot is lent to a response change of this channel (R112). -/
  lent   : Option Nat
  /-- A match without a slot: a substitute's, until it is removed at a grid-cycle boundary, or that under which a spare that
  arbitration holds still feeds its channel (R85, R87). -/
  mtch   : Option (Rat × Rat)
  /-- It makes the REFIN measurement of a session (R211). -/
  refin  : Option RefinPh
  deriving DecidableEq, Repr

/-- A spare with nothing in progress. -/
def SpareSt.idle : SpareSt := ⟨none, none, none, none, false, none, none, none⟩

/-- Where the trim run that a change of RANGE or SENSOR starts stands (R205, R451). -/
inductive ReqTrim where
  | waiting | running | over
  deriving DecidableEq, Repr

/-- A change of RANGE or SENSOR waiting for its spare, or, without a spare, for its trim run and boundary (R88, R451). -/
structure LiveReq where
  chan   : Nat
  range  : Nat
  sensor : Nat
  trim   : ReqTrim
  deriving DecidableEq, Repr

/-! ### Filter chain (R93 to R116) -/

/-- Where a change of RESP0 to RESP3 stands: waiting for a free spare's slot, warming up in it, waiting for its grid-cycle
boundary, or in its crossfade (R112); or the preset-state method, waiting for its boundary (R113). -/
inductive RespPh where
  | waitSpare | warming | warmed | fading | preset
  deriving DecidableEq, Repr

structure RespChange where
  resp : List Nat
  ph   : RespPh
  deriving DecidableEq, Repr

structure FltSt where
  /-- RESP0 to RESP3 and FPR in force, by channel stream. -/
  resp    : SMap (List Nat)
  fpr     : SMap Nat
  change  : SMap (Option RespChange)
  /-- Streams whose comparators are held off after an FPR change (R111). -/
  holdoff : SMap Bool
  /-- Lanes whose failed section is due a retry; whether the failure was injected (R248, R259). -/
  retry   : List (Nat × Bool)
  /-- The schedule is to be rebuilt at the next period start (R101). -/
  rebuild : Bool
  /-- Streams that have been enabled in this RUN: their taps discarded their first four frames (R96). -/
  fresh   : SMap Bool
  /-- The lane on which the latest recomputation ran: lane 10, or none for the shared reserve (R100). -/
  recompOn : Option Nat
  /-- When a channel's warm-up or settling ends, by elapsed time (R112, R113, R451). -/
  doneT   : SMap Nat
  deriving DecidableEq, Repr

/-- Modulators are numbered 0 to 111 for the channels' own and 112 + s for spare s. -/
structure RmtSt where
  spares   : SMap SpareSt
  /-- Stored corrections in the Vault, by modulator * 8 + RANGE; none where both copies fail (R76). -/
  stored   : SMap (Option Corr)
  /-- Corrections in force; none: the factory trim. -/
  force    : SMap (Option Corr)
  /-- Gain of a spare's latest passing self-check since main reset, by spare * 8 + RANGE (R83). -/
  selfGain : SMap (Option Rat)
  /-- When a spare last passed its self-check, and when a modulator last passed an off-line measurement or a
  cross-check, since main reset. -/
  selfT    : SMap (Option Nat)
  /-- The same by RANGE: spare * 8 + RANGE (R211). -/
  selfAt   : SMap (Option Nat)
  passT    : SMap (Option Nat)
  /-- Banks whose rotation is halted (R84). -/
  halted   : SMap Bool
  live     : List LiveReq
  bare     : List LiveReq
  /-- Channels for which arbitration is asked of the twin (R84). -/
  arbReq   : List Nat
  /-- The fast path of a channel reported a step less than 1 ms ago (R82). -/
  stepNow  : SMap Bool
  deriving DecidableEq, Repr

/-! ### Meters (R117 to R140) -/

/-- An input of an element as resolved when its meter's settings took effect: one channel, or the entries of a virtual
sum; for each, whether it is subtracted, its reference and its scale factor K (R118, R120, R121). -/
structure MtrPart where
  neg : Bool
  ref : Nat
  k   : Nat
  deriving DecidableEq, Repr

/-- A meter's settings in force (R134). `els`: elements A, B, C with their voltage and current inputs. -/
structure MtrCfg where
  type   : Nat
  pace   : Nat
  gg     : Nat
  ah     : Bool
  starti : Nat
  inom   : Nat
  idclim : Nat
  els    : List (Option (List MtrPart × List MtrPart))
  deriving DecidableEq, Repr

/-- An interval that has ended and is not yet posted (R125): its span, its results by the codes of Table 06-12, its
increments by set and quantity in units of 2⁻³², and its status. `idc`: the results of a DC-injection window that ended
with it. -/
structure MtrPost where
  /-- The settings under which it was computed (R134). -/
  cfg    : MtrCfg
  startT : Nat
  endT   : Nat
  dur    : Rat
  res    : List Int
  idc    : Option (List Rat)
  inc    : List (List Nat)
  nl     : List Bool
  ovr    : Bool
  opened : Bool
  settle : Bool
  unlock : Bool
  rloss  : Bool
  unver  : Bool
  subst  : Bool
  deriving DecidableEq, Repr

/-- The DC-injection window of a meter in progress (R127): the settings it rests on, the start of its first interval and the end of
its latest one, the sum of weights, and the weighted current sums of elements A, B, C. -/
structure IdcWin where
  basis : Option MtrCfg
  since : Nat
  upTo  : Nat
  n     : Rat
  sums  : List Rat
  deriving DecidableEq, Repr

def IdcWin.start : IdcWin := ⟨none, 0, 0, 0, [0, 0, 0]⟩

/-- The hold of a meter's results and views (R132): what they showed at the posting before it. -/
structure MtrHold where
  m   : Nat
  res : List Nat
  acc : List Nat
  deriving DecidableEq, Repr

/-- A checkpoint slot as written (Table 06-6). -/
structure Ckpt where
  seq   : Nat
  flags : Nat
  count : Nat
  time  : Nat
  keys  : List Nat
  vals  : List Nat
  deriving DecidableEq, Repr

/-- A position of the checkpoint ring (R135, R137): all zero, holding a slot, or holding one whose CRC fails. -/
inductive CkPos where
  | empty
  | held (c : Ckpt)
  | bad
  deriving DecidableEq, Repr

/-- What a remote channel's blocks have said (R273): the spans of site time whose samples came under OVR, OPEN, SETTLE and NOSYNC,
newest first, and the preset of the latest. -/
structure RemFlags where
  ovr    : List (Nat × Nat)
  opened : List (Nat × Nat)
  settle : List (Nat × Nat)
  nosync : List (Nat × Nat)
  preset : Nat
  deriving DecidableEq, Repr

def RemFlags.none_ : RemFlags := ⟨[], [], [], [], 0⟩

/-- An ended interval of a meter that waits for a twin's samples (R241): its settings, the channels that were adopted then, and the runs
that have come. -/
structure HeldInt where
  cfg     : MtrCfg
  iv      : Interval
  adopted : List Nat
  got     : List ChanRun
  deriving DecidableEq, Repr

/-- One evaluated cycle of a channel: its span, whether the channel was covered in it (R244, R274), and the site time at which that was
known. -/
structure CovSpan where
  start : Nat
  tend  : Nat
  ok    : Bool
  at_   : Nat
  deriving DecidableEq, Repr

structure MtrSt where
  /-- Accumulators, 96 bits, in units of 2⁻³², by index a = 64m + 16s + q (R129). -/
  acc     : SMap Nat
  /-- Deficits, and positive corrections that wait for the next interval end (R130), by the same index. -/
  deficit : SMap Nat
  plus    : SMap Nat
  /-- Whether an accumulator's latest correction still awaits an interval that shows it (R240). -/
  corr    : List Nat
  cfg     : SMap (Option MtrCfg)
  due     : SMap (List MtrPost)
  idc     : SMap IdcWin
  hold    : Option MtrHold
  /-- Intervals held until the twin's adopted samples arrive (R241). -/
  held    : SMap (Option HeldInt)
  /-- Remote samples found missing in the interval in progress (R133), by meter. -/
  miss    : SMap (List MissedSample)
  /-- Latest samples of remote and adopted channels, by 65536 * meter + reference, then by index, with the substitutes of R133. -/
  hist    : SMap (SMap (Option Rat))
  /-- The times that a status flag which qualifies intervals was set and has been lowered since, newest first: rise and fall, each plus
  1, by field and index. For a field that takes new values, the instants at which it did. -/
  fell    : SMap (List (Nat × Nat))
  /-- The instant at which it was last set, plus 1. -/
  rose    : SMap Nat
  rem     : SMap RemFlags
  /-- Evaluated cycles of local streams (R244) and of remote ones (R274), by 512 * reference kind and number. -/
  cov     : SMap (List CovSpan)
  /-- The site time, plus 1, at which a meter's latest interval ended: where the one in progress began (R126, R136). -/
  lastIv  : SMap Nat
  /-- Postings whose increments wait for the twin's item, which stands for them: by meter (R228, R232, R242, R253). -/
  wait    : List (Nat × MtrPost)
  /-- The site time of the latest interval end posted (Table 06-6). -/
  lastEnd : Nat
  ring    : SMap CkPos
  nextSeq : Nat
  /-- TIME of the slot restored from; and a value was taken from the twin at the last restore. -/
  ckTime  : Nat
  fromTwin : Bool
  deriving DecidableEq, Repr

/-! ### Pulse outputs (R141 to R156) -/

/-- One output. `en` to `pconst` are the settings in force (R154); `width` is WIDTH, `pw` that of the pulse in progress. The residue has
no bound here: what its 96 bits do past their width the spec does not say (DESIGN CHOICE). -/
structure PlsOut where
  en      : Bool
  src     : Nat
  width   : Nat
  pconst  : Nat
  /-- The residue, in units of 2⁻³² (R143). -/
  res     : Int
  /-- The increment being spread: what is left of it, each tick's share, and the ticks left. -/
  left    : Nat
  share   : Nat
  ticks   : Nat
  /-- An increment posted since the last tick, with its number of ticks. -/
  fresh   : Option (Nat × Nat)
  /-- A pulse in progress: ticks since it began. `driving`: this device holds the pin low for it. -/
  busy    : Option Nat
  pw      : Nat
  driving : Bool
  /-- Consecutive ticks at which the net read high, and low; and agreeing ticks (R147). -/
  high    : Nat
  low     : Nat
  agree   : Nat
  /-- Residue, count and net starts recorded at the latest exchange instant (R149, R150). -/
  exRes   : Int
  exCnt   : Nat
  exNet   : Nat
  net     : Nat
  /-- The Lead's count, and the net starts, at the previous exchange compared. -/
  prev    : Option (Nat × Nat)
  deriving DecidableEq, Repr

def PlsOut.blank : PlsOut :=
  ⟨false, 0, 0, 0, 0, 0, 0, 0, none, none, 0, false, 0, 0, 0, 0, 0, 0, 0, none⟩

structure PlsSt where
  outs : SMap PlsOut
  /-- The driver role of R221. -/
  role : Bool
  /-- Residues and counts adopted from the twin before the outputs took their settings: they are loaded when metering starts (R153). -/
  load : List (Int × Nat)
  deriving DecidableEq, Repr

/-! ### Grid groups and the harmonic engine (R157 to R176) -/

/-- A cycle of a group (R162): the site times of its boundaries, its frequency, and whether it ended LOCKED. -/
structure CycRec where
  start : Nat
  tend  : Nat
  freq  : Rat
  lock  : Bool
  deriving DecidableEq, Repr

/-- A member of a group at a window's end: its stream, its membership code and IDMD. -/
structure WinMem where
  n    : Nat
  code : Nat
  idmd : Nat
  deriving DecidableEq, Repr

/-- A window that has ended (R165): its boundaries, oldest first, UNLK, and SMOOTH and the members as they were in it. -/
structure WinDone where
  bounds : List Nat
  unlk   : Bool
  smooth : Bool
  mem    : List WinMem
  deriving DecidableEq, Repr

/-- Its cycles, start and end. -/
def WinDone.cyc (w : WinDone) : Nat := w.bounds.length - 1
def WinDone.start (w : WinDone) : Nat := w.bounds.headD 0
def WinDone.tend (w : WinDone) : Nat := w.bounds.getLastD 0

/-- A tracker. Its state stands in GRD_ST. -/
structure GrdTrk where
  /-- FNOM and REF in force, and SMOOTH (Table 08-4). -/
  f60      : Bool
  ref      : Nat
  smooth   : Bool
  /-- The frequency of the NCO, in Hz, and the instant of site time, in ns, at which its phase next passes zero (R160). -/
  nco      : Rat
  next     : Rat
  /-- Site time of the latest boundary. -/
  lastT    : Nat
  /-- Consecutive marks at or above ULOCK; consecutive boundaries within 1°, and beyond 10°. -/
  above    : Nat
  small    : Nat
  big      : Nat
  /-- In ACQ: the instant of entry, the frequency measured over one cycle, and whether the aligning boundary has passed (R161). -/
  acqT     : Nat
  measured : Option Rat
  aligned  : Bool
  /-- Boundaries passed in HOLD. -/
  holdN    : Nat
  /-- Frequencies of the latest LOCKED cycles, newest first, at most 10. -/
  freqs    : List Rat
  /-- The window in progress: its boundaries so far, newest first, and whether one of its cycles did not end LOCKED. -/
  bounds   : List Nat
  winUnlk  : Bool
  /-- A window that has ended, waiting for its end to be served, and for its results. -/
  done     : Option WinDone
  ended    : Bool
  /-- Ends of windows and aligning boundaries, newest first: the instant, and whether a whole window ended there. -/
  marks    : List (Nat × Bool)
  /-- The latest cycles, newest first; the phasors of the newest are still to be posted (R164). -/
  cycs     : List CycRec
  phasDue  : Bool
  /-- A resampler burst was discarded: the cycle, and the window, in progress lack samples (R170). -/
  cycGap   : Bool
  winGap   : Bool
  /-- LOCKED cycles within the 10 s in progress, their duration in nanoseconds, and the start of the 10 s. -/
  n10      : Nat
  d10      : Nat
  t10      : Nat
  /-- The previous window: its mean frequency, its duration in seconds and UNLK (R182). -/
  prevWin  : Option (Rat × Rat × Bool)
  deriving DecidableEq, Repr

def GrdTrk.blank : GrdTrk where
  f60 := false
  ref := 0xFF
  smooth := false
  nco := 0
  next := 0
  lastT := 0
  above := 0
  small := 0
  big := 0
  acqT := 0
  measured := none
  aligned := false
  holdN := 0
  freqs := []
  bounds := []
  winUnlk := false
  done := none
  ended := false
  marks := []
  cycs := []
  phasDue := false
  cycGap := false
  winGap := false
  n10 := 0
  d10 := 0
  t10 := 0
  prevWin := none

structure GrdSt where
  trk : SMap GrdTrk
  /-- Membership in force by stream: 0 none, else 1 + 2 * group + KIND; and IDMD in force. -/
  mem  : SMap Nat
  idmd : SMap Nat
  /-- The site time, plus 1, from which a stream has been a member (Table 08-4). -/
  joinT : SMap Nat
  deriving DecidableEq, Repr

/-- A hold of a stream's harmonic results (R172): header, DC, magnitudes, phases and window words. -/
structure HrmHold where
  n   : Nat
  cyc : List Nat
  dc  : Nat
  mag : List Nat
  pha : List Nat
  win : List Nat
  deriving DecidableEq, Repr

structure HrmSt where
  hold : Option HrmHold
  /-- Smoothed squares of G_h, SG_h and IG_h (R168), by 192 * stream + w. -/
  y    : SMap (Option Rat)
  /-- The start, plus 1, of the window that a stream's filter saw last; and the instants at which its smoothing restarted, newest
  first (R168). -/
  yW   : SMap Nat
  yT   : SMap (List Nat)
  /-- The hold's 1 s has passed while HCLK stood still (R25, R172). -/
  expired : Bool
  deriving DecidableEq, Repr

/-! ### Disturbances and high band (R177 to R195) -/

/-- The thresholds of a group in force (R183). -/
structure DstThr where
  en    : Bool
  intth : Nat
  hyst  : Nat
  swlth : Nat
  dipth : Nat
  rvcth : Nat
  rvchy : Nat
  fdev  : Nat
  fhyst : Nat
  fqual : Nat
  rocth : Nat
  deriving DecidableEq, Repr

def DstThr.zero : DstThr := ⟨false, 0, 0, 0, 0, 0, 0, 0, 0, 0, 0⟩

/-- A dip, swell, interruption or frequency excursion in progress: its start, its extreme (0.01 % of UNOM, or mHz) and the
member that held it, and its flags. -/
structure DstEv where
  start  : Nat
  ext    : Rat
  chan   : Nat
  intr   : Bool
  unlk   : Bool
  ovr    : Bool
  opened : Bool
  deriving DecidableEq, Repr

/-- A rapid voltage change in progress: the means before it by member, and the largest change so far with its member. -/
structure RvcEv where
  start  : Nat
  uold   : List (Nat × Rat)
  dmax   : Rat
  chan   : Nat
  unlk   : Bool
  ovr    : Bool
  opened : Bool
  deriving DecidableEq, Repr

/-- A record waiting to be posted (R180): its TYPE, its times, and its values as DST_LVAL shows them. -/
structure DstRec where
  type : Nat
  ev   : DstEv
  endT : Nat
  val1 : Nat
  val2 : Nat
  cut  : Bool
  deriving DecidableEq, Repr

structure DstGrp where
  thr    : DstThr
  /-- Site times of the latest marks, newest first, as many as the RVC method needs. -/
  marks  : List Nat
  /-- The latest values of each member in 0.01 % of UNOM, newest first (R181). -/
  hist   : SMap (List Rat)
  steady : Bool
  dip    : Option DstEv
  swl    : Option DstEv
  int    : Option DstEv
  rvc    : Option RvcEv
  fex    : Option DstEv
  /-- Consecutive LOCKED cycles outside, and inside again, with the start of the first and the largest deviation. -/
  outN   : Nat
  outT   : Nat
  outExt : Rat
  inN    : Nat
  queue  : List DstRec
  deriving DecidableEq, Repr

def DstGrp.blank : DstGrp := ⟨DstThr.zero, [], [], false, none, none, none, none, none, 0, 0, 0, 0, []⟩

/-- High-band blocks of the period in progress of one stream: how many, the sums of the bands' mean squares and their
largest values; and whether a block was discarded. -/
structure HbAcc where
  n   : Nat
  sum : List Rat
  max : List Rat
  gap : Bool
  deriving DecidableEq, Repr

def HbAcc.blank : HbAcc := ⟨0, [], [], false⟩

/-- The latest posting of a stream's high band: PSEQ, GAP, NBLK and the bands' MAX and AVG. -/
structure HbPost where
  pseq : Nat
  gap  : Bool
  nblk : Nat
  page : List (Nat × Nat)
  deriving DecidableEq, Repr

def HbPost.blank : HbPost := ⟨0, false, 0, []⟩

/-- A hold of the page (R189): the stream, its posting and its DST_HBSUM. -/
structure HbHold where
  n     : Nat
  post  : HbPost
  total : Nat
  gap   : Nat
  hbx   : Nat
  hbxl  : Nat
  peak  : Nat
  deriving DecidableEq, Repr

/-- The arc statistic of one stream (R190): base, blocks of warm-up so far, and whether each of the last 400 blocks
qualified, newest first. -/
structure ArcSt where
  base : Rat
  warm : Nat
  last : List Bool
  deriving DecidableEq, Repr

structure DstSt where
  grp  : SMap DstGrp
  hb   : SMap HbAcc
  post : SMap HbPost
  hold : Option HbHold
  arc  : SMap (Option ArcSt)
  perT : Nat
  /-- A low-band window of the period in progress was discarded (R193). -/
  lowGap : Bool
  /-- The 1 s of the page's hold has passed while HCLK stood still (R25, R189). -/
  expired : Bool
  deriving DecidableEq, Repr

/-! ### Calibration (R196 to R218) -/

/-- An entry of a temperature set (Table 10-2): G in units of 2⁻³⁰, O in engine-format units, DLY in 1/16 tap, TENT in
0.01 °C. -/
structure CalEnt where
  g      : Int
  o      : Int
  dly    : Nat
  range  : Nat
  sensor : Nat
  ofsv   : Bool
  tent   : Int
  deriving DecidableEq, Repr

/-- A set copy (Table 10-1); SEQ 0 is an empty set. Only VALID entries are listed. -/
structure CalSet where
  seq   : Nat
  tset  : Int
  refkv : Bool
  refk  : Int
  time  : Nat
  ents  : SMap (Option CalEnt)
  deriving DecidableEq, Repr

/-- An empty set. -/
def CalSet.empty : CalSet := ⟨0, 0, false, 0, 0, []⟩

/-- A set as the Vault holds it: copies A and B, and whether each fails its CRC (R200). -/
structure CalCopies where
  a    : CalSet
  b    : CalSet
  aBad : Bool
  bBad : Bool
  deriving DecidableEq, Repr

/-- Both copies empty. -/
def CalCopies.blank : CalCopies := ⟨CalSet.empty, CalSet.empty, false, false⟩

/-- Trace values of a channel, and the RANGE and SENSOR for which they were formed: ratio, offset in engine-format units, delay in 1/16 tap, the reference factor in force
with them, and whether the offset came from a measured one, no usable entry exists, and T lies outside the entries
(R196, R197, R201). -/
structure Trace where
  g     : Rat
  o     : Rat
  dly   : Rat
  refk  : Rat
  ofsv  : Bool
  nocal : Bool
  tout  : Bool
  /-- REFK comes from a set with REFKV, and is not the 1 of R197. -/
  refkv : Bool
  range  : Nat
  sensor : Nat
  deriving DecidableEq, Repr

/-- The values of R197, for a RANGE and a SENSOR. -/
def Trace.none_ (range sensor : Nat) : Trace := ⟨1, 0, 2048, 1, false, true, false, false, range, sensor⟩

/-- What a window of a reference session formed on one channel (R210): its RMS value, or its mean in DC mode, scaled with
K and the REFK in force and without G; its fundamental phase relative to the group's REF channel, in degrees; its peak,
or its DC value, as a fraction of the channel's range; and its mean in engine-format units. -/
structure CalWindow where
  n    : Nat
  v    : Rat
  ph   : Rat
  frac : Rat
  eng  : Rat
  deriving DecidableEq, Repr

/-- The values of one window of one channel, and the REFK in force while it was formed (R212). -/
structure WinVal where
  v    : Rat
  ph   : Rat
  frac : Rat
  refk : Rat
  deriving DecidableEq, Repr

/-- What a session has measured on one channel. `again`: its window is being repeated because of its status (R210). -/
structure SessChan where
  zero  : List WinVal
  eng   : List Rat
  meas  : List WinVal
  again : Bool
  fail  : Bool
  deriving DecidableEq, Repr

def SessChan.blank : SessChan := ⟨[], [], [], false, false⟩

/-- The REFIN measurement of a session (R211). -/
inductive RefinSt where
  | off
  | waiting
  | measured (vm spread : Rat)
  | failed
  deriving DecidableEq, Repr

/-- Candidate values that a passing channel commits (R212). -/
structure Cand where
  g    : Rat
  o    : Rat
  dly  : Rat
  ofsv : Bool
  deriving DecidableEq, Repr

/-- A reference session, with the settings it was started with (R207 to R214). -/
structure Sess where
  dc      : Bool
  refen   : Bool
  fresh   : Bool
  set     : Nat
  rpt     : Nat
  gg      : Nat
  ncyc    : Nat
  uref    : Rat
  iref    : Rat
  phi     : Rat
  refv    : Rat
  temp    : Int
  chans   : SMap SessChan
  freqs   : List Rat
  /-- The settling of MEAS is over and windows run (R207); the start of the window in progress, its cycles so far, and whether one
  of them did not end LOCKED or an aligning boundary fell in it (R210). -/
  windows : Bool
  winT    : Option Nat
  cyc     : Nat
  unlk    : Bool
  /-- The window is being repeated for every channel; and it failed so twice (R210). -/
  again   : Bool
  lost    : Bool
  refin   : RefinSt
  refkNew : Option Rat
  cands   : SMap (Option Cand)
  deriving DecidableEq, Repr

structure CalSt where
  sets    : SMap CalCopies
  /-- Trace values in force, by channel stream; none: those of R197. -/
  trace   : SMap (Option Trace)
  /-- Results of a passing trim run that wait for a channel's grid-cycle boundary (R205), and results for settings that
  a live change is still to put in force. -/
  pend    : SMap (Option Trace)
  pendNew : SMap (Option Trace)
  /-- The boundaries at which trim results took effect last, by channel: the instant plus 1 (R22). -/
  applied : SMap Nat
  /-- A trim run: whether its first attempt failed, whether it is the one at main power-up, and whether a further run is
  queued (R202, R203). -/
  failed1 : Bool
  powerUp : Bool
  again   : Bool
  /-- A run has completed, and one has passed, since main reset (R202); and that of main power-up has been started (R204). -/
  anyRun  : Bool
  anyPass : Bool
  upRun   : Bool
  /-- The channels selected by the session in progress (R208). -/
  sel     : List Nat
  /-- Channels on which a splice fell in the present window (R209). -/
  spoiled : List Nat
  sess    : Option Sess
  /-- The set that COMMITTING is to write (R214). -/
  commit  : Option Nat
  /-- The site time from which the values of a commit made by both devices of a pair take effect (R215). -/
  jointT  : Nat
  deriving DecidableEq, Repr

/-! ### Twin (R219 to R246) -/

/-- An open dispute (R237 to R243). -/
structure Dispute where
  /-- Site time of the declaration; and the start of the cycle before the first failing or one-sided pair (R240). -/
  t       : Nat
  from_   : Nat
  /-- The side that alone carries OPEN or STUCK: this device, where true. -/
  branch  : Option Bool
  /-- The site time at which the witness was on the pins; and what each of its two cycles found, agreeing or not (R238). -/
  wit     : Option Nat
  cycles  : List Bool
  /-- Results sent and received: 0 none, 1 cleared, 2 convicted, 3 open. -/
  mine    : Nat
  theirs  : Nat
  unres   : Bool
  okRun   : Nat
  deriving DecidableEq, Repr

/-- An adoption of one channel (R241): whether this device lends its samples, and the cycles passed in a row. -/
structure Adoption where
  lending : Bool
  okRun   : Nat
  deriving DecidableEq, Repr

/-- A verdict against one side (R243): its channel, the site times of the declaration and of the verdict, the start of its disputed span,
and whether this device was at fault. -/
structure VerdictRec where
  n     : Nat
  t     : Nat
  at_   : Nat
  from_ : Nat
  me    : Bool
  deriving DecidableEq, Repr

/-- A disputed span waiting for its correction (R240): this device is the faulty side. -/
structure Span where
  n      : Nat
  start  : Nat
  splice : Nat
  deriving DecidableEq, Repr

/-- A meter item of this device with the start and the end of its interval. -/
structure OwnItem where
  start : Nat
  endT  : Nat
  item  : MeterItem
  deriving DecidableEq, Repr

/-- What the metering core forms of a channel's cycle for the compare record (R234): the site times of the cycle's start
and end, RMS, mean and witness RMS as binary32, the phase relative to the REF channel, the sum of the weights, and
whether the cycle ended LOCKED. -/
structure CycleMeas where
  n      : Nat
  start  : Nat
  tend   : Nat
  rms    : Nat
  mean   : Nat
  phase  : Nat
  wrms   : Nat
  nc     : Rat
  locked : Bool
  deriving DecidableEq, Repr

/-- A channel item of this device with its cycle's start and its sum of weights. `late`: it had no match in the records of its own
instant, and waits for the twin's next (R234). -/
structure OwnChan where
  start : Nat
  nc    : Rat
  item  : ChanItem
  late  : Bool
  deriving DecidableEq, Repr

/-- A Tether message sent (R226): its type, MSEQ and bytes, and whether it has been sent again. -/
structure TwnSent where
  type  : Nat
  mseq  : Nat
  bytes : List Nat
  again : Bool
  deriving DecidableEq, Repr

/-- A segment of a Tether message that is not yet whole (R226). -/
structure TwnSeg where
  type : Nat
  mseq : Nat
  seg  : Nat
  data : List Nat
  deriving DecidableEq, Repr

structure TwnSt where
  /-- Control messages sent and not yet acknowledged. -/
  out      : List TwnMsg
  /-- This device is, or is to be, Lead of the pair. -/
  lead     : Bool
  /-- Training sets sent in SOLO (R222). -/
  sent     : Nat
  /-- The training set that this device sends (R223). -/
  tx       : Option TrainSet
  /-- Messages by type (1 to 4): the next MSEQ; the latest sent, to be repeated where they are lost; the segments and the whole messages
  received; and messages of the twin that were lost once (R226). -/
  mseq     : SMap Nat
  msgs     : List TwnSent
  segs     : List TwnSeg
  inbox    : List (Nat × Nat × List Nat)
  repeated : List (Nat × Nat)
  /-- Channels for which arbitration has been asked of the twin with the latest record (R237). -/
  arbSent  : List Nat
  /-- The twin has asked to detach, or for arbitration on these channels; the digests it has announced, and when (R317). -/
  peerDet  : Bool
  peerArb  : List Nat
  peerDig  : SMap (List Nat)
  peerDigT : SMap Nat
  /-- Training: error-free sets received in a row, and whether this device's sets are acknowledged (R223). -/
  sets     : Nat
  acked    : Bool
  peerMet  : Bool
  /-- After a digest failure CHECK is not entered until a digest changes or ATTACH is written (R222). -/
  noCheck  : Bool
  /-- The digests compared last. -/
  digests  : List Nat
  /-- Marks in bound, in a row (R224). -/
  marks    : Nat
  /-- The transfer of R227 or R228 is done; metering starts at the next exchange instant. -/
  loaded   : Bool
  waited   : Bool
  hot      : Bool
  /-- Requests that wait for an exchange instant (R229, R230). -/
  swapReq  : Bool
  detReq   : Bool
  homing   : Bool
  warm     : SMap Bool
  seq      : Nat
  own      : List CmpRec
  ownCh    : List OwnChan
  ownMtr   : List OwnItem
  /-- Items posted since the latest exchange instant. -/
  newMtr   : List OwnItem
  peer     : List CmpRec
  /-- The exchange instant whose record is to be evaluated. -/
  evalT    : Nat
  disputes : SMap (Option Dispute)
  adopts   : SMap (Option Adoption)
  /-- The exchange instant of the latest role change, plus 1 (R151). -/
  roleT    : Nat
  spans    : List Span
  /-- The first failing or one-sided cycle's predecessor's start, by channel (R240). -/
  first    : SMap Nat
  /-- Verdicts lately reached (R243). -/
  verdicts : List VerdictRec
  deriving DecidableEq, Repr

/-! ### Fault supervision (R247 to R261) -/

/-- A permanent device fault in a recovery window: its class and unit, when it was found, and the channel whose
modulator it convicts, if any (R256). -/
structure FaultRec where
  cls  : Nat
  unit : Nat
  t    : Nat
  chan : Option Nat
  deriving DecidableEq, Repr

/-- The rows of Table 12-4: both faults in one device whose twin carries every meter; one fault in each device; both in one device whose
twin is FAILED or ruled on too, so that every meter is concerned; a solo device. -/
inductive RuleKind where
  | masked | solo | each | all
  deriving DecidableEq, Repr

/-- A ruling of Table 12-4: its row, the faults ruled on together, when the first was found, and when the last
window closes. -/
structure Ruling where
  kind   : RuleKind
  faults : List FaultRec
  startT : Nat
  endT   : Nat
  deriving DecidableEq, Repr

structure FltsSt where
  /-- Permanent faults whose recovery windows are open, oldest first. -/
  wins     : List FaultRec
  ruling   : Option Ruling
  /-- FAILED is latched until a main reset (R255). -/
  failed   : Bool
  /-- Rows remapped and rows fenced, as bank * 514 + row; blocks remapped and fenced. All are held in the Vault. -/
  rowsMap  : List Nat
  rowsFen  : List Nat
  blksMap  : List Nat
  blksFen  : List Nat
  /-- Checkers lost (R258), in the Vault. -/
  chkLost  : List Nat
  /-- The end of the last warm restart that followed a lockstep mismatch (R254). -/
  restartT : Option Nat
  /-- A pending injection: TGT and UNIT (R259). -/
  inj      : Option (Nat × Nat)
  /-- Until this instant every interval is UNVERIFIED after a PLL-M holdover (R253). -/
  pllUntil : Nat
  /-- Blocks of the key array that its own reserve replaces (R426). -/
  keyMap   : List Nat
  /-- No relock came in time: holdover continues (R253). -/
  pllLost  : Bool
  /-- The warm restart under way follows a lockstep mismatch (R254). -/
  lockstep : Bool
  /-- Retained samples lost: the meter, and the site time of the sample (Table 12-3). -/
  lost : List (Nat × Nat)
  /-- A word of a capture buffer was lost: the next capture burst carries its loss flag (Table 12-3). -/
  capLost : Bool
  /-- By how many bytes a store has shrunk, for rows fenced (R250): 0 retained samples, 1 results, 2 queues, 3 capture buffers, 4 the
  controller's program and data. -/
  shrunk : SMap Nat
  deriving DecidableEq, Repr
/-! ### Caravan and site time (R262 to R281) -/

/-- Settings of CVN_CFG, CVN_EXP and CVN_SCFG as read at main power-up, when they take effect (Table 15-3). -/
structure CvnCfg where
  en       : Bool
  pair     : Nat
  joinwait : Nat
  carid    : Nat
  exp      : Nat
  siteEn   : Bool
  master   : Bool
  carnum   : Nat
  maxlvl   : Nat
  siteid   : Nat
  deriving DecidableEq, Repr

def CvnCfg.off : CvnCfg := ⟨false, 0, 0, 0, 0, false, false, 0, 0, 0⟩

/-- An accumulator summary (R276): SEQ, COUNT, and the values by registration. -/
structure Summary where
  seq   : Nat
  count : Nat
  vals  : List Nat
  deriving DecidableEq, Repr

/-- A caravan-sample frame that this member has sent (R273): its ESEQ, its instant and its channel blocks. -/
structure KeptFrame where
  eseq   : Nat
  t      : Nat
  blocks : List SampleBlock
  deriving DecidableEq, Repr

/-- A frame that waits on a link port, or has left it and is not yet acknowledged (Table 13-1). `lseq`: none until it leaves.
`corrupt`: it came so, and is passed on so (R265). -/
structure OutFrame where
  type    : Nat
  flags   : Nat
  src     : Nat
  dst     : Nat
  eseq    : Nat
  payload : List Nat
  lseq    : Option Nat
  corrupt : Bool
  deriving DecidableEq, Repr

/-- A link port (R264, R265): its next LSEQ, the frames that wait, the elapsed time at which the frame in progress ends, the frames not
yet acknowledged, oldest first, until when it drives electrical idle, and the acknowledgement that it sent last. -/
structure LinkPort where
  lseq   : Nat
  wait   : List OutFrame
  busy   : Nat
  air    : List OutFrame
  quiet  : Nat
  answer : Option (Nat × Bool)
  deriving DecidableEq, Repr

def LinkPort.still : LinkPort := ⟨0, [], 0, [], 0, none⟩

structure CvnSt where
  cfg    : CvnCfg
  /-- The link ports (0 T, 1 U, 2 D, 3 S), and the next ESEQ by frame type (R264). -/
  ports  : SMap LinkPort
  eseq   : SMap Nat
  /-- Frames retransmitted and not yet acknowledged: port, LSEQ, and whether the corruption was injected (R259). -/
  retried : List (Nat × Nat × Bool)
  /-- Training of ports U, D, S: error-free sets in a row, and acknowledgement (R223, R266). -/
  sets   : SMap Nat
  acked  : SMap Bool
  /-- Sequence number, port and site time of the latest mark; marks originated; marks in a row within ±10 ns (R267). -/
  lastSeq : Option Nat
  src    : Option Nat
  marks  : Nat
  good   : Nat
  /-- JOINWAIT has passed (R268). -/
  waited : Bool
  /-- It has been LOCKED since its ports trained: as head it takes no time from a member any more (R267, R272). -/
  locked : Bool
  /-- Links declared broken, by the positions they join (R270); and by port the positions from the head to here, as the latest discovery
  frame of that port gives them (R266). -/
  broken : List (Nat × Nat)
  reach  : SMap (List Nat)
  /-- At the head, by member: the ESEQ of the sample frame that is to come next, and those asked for (R273); and the elapsed time, plus 1,
  of the latest reroute. -/
  due    : SMap (Option Nat)
  gaps   : List (Nat × Nat)
  routeT : Nat
  /-- The head's subscription of this member's samples, as streams with their presets; the frames of the last 1 ms; and the index
  of the next sample to send, by 8 * stream + preset (R273). -/
  sub    : List (Nat × Nat)
  kept   : List KeptFrame
  sentK  : SMap Nat
  /-- Discoveries in a row at which an expected position was absent (R266). -/
  absent : SMap Nat
  /-- Latest summaries by position, and the held page (R276). -/
  sums   : SMap (Option Summary)
  hold   : Option (Nat × Option Summary)
  /-- A step of site time to come: the whole second and the offset; and steps made (R278). -/
  step   : Option (Nat × Int)
  steps  : Nat
  deriving DecidableEq, Repr

/-! ### Wayline (R282 to R303) -/

/-- An entry of the neighbour table (R295): what the neighbour has announced, when it was heard, and the link to it. `mode`:
0 tone map, 1 ROBUST4, 2 ROBUST6. -/
structure Nbr where
  naddr   : Nat
  uid     : Nat
  dcSide  : Bool
  level   : Nat
  bslot   : Nat
  siteid  : Nat
  mcar    : Nat
  steps   : Nat
  snr     : Nat
  heardT  : Nat
  beaconT : Nat
  /-- Since when it has announced its level (R296). -/
  levelT  : Nat
  mode    : Nat
  tmi     : Nat
  bits    : Nat
  /-- A SOUND is due (R294); the number and bits of the tone map issued to the neighbour last (R286). -/
  sound   : Bool
  issued  : Nat
  deriving DecidableEq, Repr

/-- A frame waiting to be sent or to be acknowledged (R292, R293): FTYPE, receiver, priority, attempts made, contention
window and backoff count; whether it is the host's datagram, or is forwarded by a bridge (R297), and the side then; the body in clear,
by its bytes or by what it says, or the whole payload of a forwarded frame; and the SEQ it was sent under last. -/
structure WayTx where
  ftype : Nat
  dst   : Nat
  pri   : Nat
  tries : Nat
  cw    : Nat
  count : Nat
  host  : Bool
  fwd   : Bool
  kidx  : Nat
  dc    : Bool
  data  : List Nat
  info  : WayInfo
  seq   : Nat
  deriving DecidableEq, Repr

/-- A frame as this node sends it (R289, R290): its side, the attenuation of WAY_PHY.TXATT, the twelve bytes of frame control, most
significant first, and the payload. -/
structure WaySent where
  dcSide  : Bool
  att     : Nat
  control : List Nat
  payload : List Nat
  deriving DecidableEq, Repr

/-- A received datagram: OSA and bytes. -/
structure Dgram where
  src  : Nat
  data : List Nat
  deriving DecidableEq, Repr

/-- What the decoder is given of a symbol on a receive path: an erasure, with every soft value zero, or soft values scaled by the
fraction of samples kept (R288). -/
inductive SymSoft where
  | erased
  | kept (frac : Rat)
  deriving DecidableEq, Repr

structure WaySt where
  nbr    : SMap (Option Nbr)
  /-- The parent, by NADDR (R296). -/
  parent : Option Nat
  /-- FCNT[31:16], in the Vault, and FCNT[15:0] (R299); the FCNT accepted last by OSA. -/
  fcntHi : Nat
  fcntLo : Nat
  last   : SMap (Option Nat)
  txq    : List WayTx
  air    : Option WayTx
  rxq    : List Dgram
  /-- The last 64 broadcasts forwarded, by OSA and FCNT (R297). -/
  bcast  : List (Nat × Nat)
  /-- SEQ by receiver. -/
  seqs   : SMap Nat
  /-- The slot to move to at the next period, and beaconing in even periods alone (R295). -/
  move   : Option Nat
  even   : Bool
  hold   : Option (Nat × Option Nbr)
  /-- Path delays of the last eight exchanges with the parent, in nanoseconds (R296). -/
  delays : List Nat
  /-- What the decoder was given of the latest frame, by payload symbol and receive path (R288). -/
  soft   : List (List SymSoft)
  /-- The last four frames sent, the latest first. -/
  sent   : List WaySent
  deriving DecidableEq, Repr

/-! ### Itinerary (R304 to R323) -/

/-- An erased region copy: it holds no GEN. -/
def RegionCopy.erased : RegionCopy := ⟨.incomplete, 255, false, 0, 0, [], false, []⟩

/-- A flash that cannot be read. -/
def FlashImage.absent : FlashImage := ⟨none, ⟨0, 0, 0, [], false⟩, ⟨0, 0, 0, [], false⟩, []⟩

/-- A package in the staging pool: its GEN, DIGEST and body (R314). -/
structure Update where
  gen    : Nat
  digest : List Nat
  body   : List Nat
  deriving DecidableEq, Repr

/-- The updates of one region (R315, R318). `tries`: read-backs that have failed in the flash operation in progress. `pre`: the
mirror of copy B that R316 asks for before the package may leave VALIDATE. `alone`: TWINWAIT has expired. `annT`: when the digest was announced to
the twin (R317). -/
structure ItnRgn where
  run   : Option Update
  que   : Option Update
  tries : Nat
  pre   : Bool
  alone : Bool
  annT  : Nat
  deriving DecidableEq, Repr

/-- A region with no update. -/
def ItnRgn.idle : ItnRgn := ⟨none, none, 0, false, false, 0⟩

structure ItnSt where
  /-- The digest of each region in force, 32 bytes (R310). -/
  dig   : SMap (List Nat)
  flash : FlashImage
  /-- The directory in use. -/
  dir   : Option Directory
  /-- The GEN floors, in the Vault (R311). -/
  floor : SMap Nat
  rgn   : SMap ItnRgn
  /-- Regions whose flash operation runs or waits, in order (R315). -/
  jobs  : List Nat
  /-- The package being delivered: its total length, and the bytes so far (R314). -/
  buf   : Option (Nat × List Nat)
  /-- An operation of ITN_PKCTL that waits for the controller. -/
  op    : Option Nat
  /-- The region read has been done and FIRMWARE found usable (R312). -/
  fwOk  : Bool
  /-- The regions read at start-up with the words of each: their fields take these values when the load is complete (R11, R311). -/
  read  : List (Nat × List (Nat × Nat))
  /-- Their numbers, GEN and DIGEST, which are in force from then on (R11, R310). -/
  force : List (Nat × Nat × List Nat)
  deriving DecidableEq, Repr
/-! ### Strongbox (R324 to R340) -/

/-- A stored key slot (Table 16-2): the key's bytes, PEER, VER, and whether copies A and B fail their checks (R326). -/
structure KeySlot where
  key  : List Nat
  peer : Nat
  ver  : Nat
  aBad : Bool
  bBad : Bool
  deriving DecidableEq, Repr

/-- An entry of a key message with its key unwrapped; none empties the slot (Table 16-4). -/
structure KeyEntry where
  slot : Nat
  key  : Option (List Nat)
  deriving DecidableEq, Repr

/-- An accepted key message that is being applied (R329): a BUNDLE with its target state and MODE, or a KEY message. -/
structure KeyMsg where
  bundle  : Option (Nat × Nat)
  entries : List KeyEntry
  deriving DecidableEq, Repr

structure SbxSt where
  /-- Stored slots by number; one that is not listed is empty. The Vault holds them under the KEK (R326). -/
  slots    : SMap (Option KeySlot)
  /-- KB in the porter latches; none while it is absent or disagrees with its shadow (R325). -/
  kb       : Option Nat
  /-- The cause of a wipe not yet ended by a bundle, 0 for none; and whether event 72 has been raised for it (R333). -/
  wipe     : Nat
  reported : Bool
  /-- The PENDING record of a bundle in the Vault: target state and MODE (R329, R330). -/
  pending  : Option (Nat × Nat)
  /-- The retirement fuse (R331). -/
  fuse     : Bool
  msg      : Option KeyMsg
  /-- The instant of the latest passport response (R338). -/
  respT    : Option Nat
  deriving DecidableEq, Repr

/-! ### Porter domain (R341 to R362) -/

structure PrtSt where
  /-- The brown-out detector stands tripped (R342). -/
  brown  : Bool
  /-- The porter runs from the backup cell (R341). -/
  cell   : Bool
  /-- A loss of the porter's state is still to be reported at a main power-up. -/
  lost   : Bool
  /-- When the present second began, and when PCLK stopped, by elapsed time (R343, R348). -/
  secT   : Nat
  stopT  : Option Nat
  /-- The correction accumulator in 1/256 cycle, and the cycles taken from or added to each second (R347). -/
  corr   : Int
  step   : Nat
  /-- The LFSR of the pulsed loops (R352). -/
  lfsr   : Nat
  /-- Latest samples of each source, newest first, and the sources that have fired and not re-armed (R356). -/
  hist   : SMap (List Bool)
  fired  : List Nat
  /-- Firings whose steps 2 to 4 are still to run: source, and cause for source 15 (R358). -/
  todo   : List (Nat × Nat)
  /-- The porter profile in the Vault, by the keys of the fields (R349). -/
  prof   : SMap Nat
  deriving DecidableEq, Repr
/-! ### Auxiliary converter (R374 to R385) -/

/-- The auxiliary converter. Conversions are given as (input, SMP). -/
structure SarSt where
  /-- The sequence that the DLY delay is to start (R377). -/
  delay    : Option (List (Nat × Nat))
  /-- The sequence in progress, its entries as they were at the trigger, and the entry in progress (R378). -/
  run      : Option (List (Nat × Nat) × Nat)
  /-- TRIG and EDGE as the trigger found them (R378). -/
  src      : Bool × Bool
  /-- Injections pending, the first of them in progress (R379). -/
  inj      : List (Nat × Nat)
  /-- Conversions done of the housekeeping burst in progress (R380). -/
  burst    : Option Nat
  /-- A burst is due since this instant. -/
  due      : Option Nat
  /-- The injected conversion, and the other one in progress, is a reconversion (R382). -/
  injAgain : Bool
  again    : Bool
  /-- The last good code by input; the codes that the burst has collected, by input. -/
  last     : SMap Nat
  got      : SMap (List Nat)
  /-- Passing conversions in a row of an input marked faulty. -/
  good     : SMap Nat
  /-- The shunt factor F of each SAR_SHC entry in force, and the one that waits for its boundary (R383). -/
  f        : SMap Rat
  fNew     : SMap (Option Rat)
  deriving DecidableEq, Repr
/-! ### Register display (R386 to R398) -/

/-- The phases of a bistable update (R391). -/
inductive DspPhase where
  | pre | drive | common
  deriving DecidableEq, Repr

/-- Why an update runs: new content, the refresh of a main power-up (R396), or the refresh after a power-fail (R417). -/
inductive DspWhy where
  | content | powerUp | recovery
  deriving DecidableEq, Repr

/-- A bistable update in progress: its target, the segments it drives, and its phase. Images are sets of segments, bit by bit. -/
structure DspUpd where
  target : Nat
  driven : Nat
  phase  : DspPhase
  why    : DspWhy
  deriving DecidableEq, Repr

structure DspSt where
  /-- The image on the panel: the LCD's, or the state in force of the bistable segments. -/
  img    : Nat
  /-- The target that waits (R392). -/
  queued : Option Nat
  upd    : Option DspUpd
  /-- When the latest update began. -/
  start  : Option Nat
  /-- INPROG of the Vault shadow (R393). -/
  inprog : Bool
  /-- nCOM is high. -/
  ncom   : Bool
  /-- The block is on VHOLD and PCLK (R394). -/
  hold   : Bool
  /-- The full refresh of this main power-up has begun, or was not due (R396). -/
  fresh  : Bool
  deriving DecidableEq, Repr

end Sys2Proof.Machine
end

