-- ==== Sys2Proof/Machine/State.lean ====
section
/-! DEFINITION. The state of the block: every register field, everything the units remember, and the queue of waiting
commands; the reasons a step can stop; and the state after reset. -/

namespace Sys2Proof.Machine

/-- The state of the device, as plain data. -/
structure State where
  /-- Commands waiting, first in first out. -/
  pending : List Instr
  /-- Register fields: key `65536 * Fld.id + index`; a field that is not listed holds its reset value. -/
  flds : SMap Nat
  /-- Time and the main clock. -/
  clk : ClockSt
  /-- The supervisory controller. -/
  ctl : CtlRun
  /-- The host port. -/
  host : HostSt
  /-- Power, reset and straps. -/
  pwr : PwrSt
  /-- The ledger. -/
  ldg : LdgSt
  /-- The interrupt lines. -/
  evt : EvtSt
  /-- Measurement inputs. -/
  inp : InpSt
  /-- Remount. -/
  rmt : RmtSt
  /-- Filter chain. -/
  flt : FltSt
  /-- Fault supervision. -/
  flts : FltsSt
  /-- Calibration. -/
  cal : CalSt
  /-- Twin. -/
  twn : TwnSt
  /-- Meters. -/
  mtr : MtrSt
  /-- Itinerary. -/
  itn : ItnSt
  /-- Grid groups. -/
  grd : GrdSt
  /-- Harmonic engine. -/
  hrm : HrmSt
  /-- Disturbances and high band. -/
  dst : DstSt
  /-- Pulse outputs. -/
  pls : PlsSt
  /-- Wayline. -/
  way : WaySt
  /-- The model's own count of random values drawn: the next one is `Config.random` of it. -/
  rng : Nat
  /-- Strongbox. -/
  sbx : SbxSt
  /-- Caravan and site time. -/
  cvn : CvnSt
  /-- Auxiliary converter. -/
  sar : SarSt
  /-- Register display. -/
  dsp : DspSt
  /-- Porter domain. -/
  prt : PrtSt
  deriving DecidableEq, Repr

/-- The reasons a command could stop the block. The spec gives every command an effect, so no meaning raises one. -/
inductive Fault where
  /-- Raised by nothing: kept so that the type has a value. Safe. -/
  | none
  deriving DecidableEq, Repr

/-- The reasons a command could be turned away without a meaning. -/
inductive Refusal where
  /-- Raised by `exec` for a command that has no meaning yet, named by its mnemonic. Safe. -/
  | notModelled (mnemonic : String)
  deriving DecidableEq, Repr

/-- The state after reset: the device as it comes, with no main supply (BACKUP), the porter brown-out still held, the
Vault blank, every register field at its reset value (PRT_SRC[15] has
one of its own, Table 17-7), and no command waiting (R11, R23, R342). -/
def State.reset : State where
  pending := []
  flds := [(65536 * F.PRT_SRC_CAP.id + 15, 1), (65536 * F.PRT_SRC_REC.id + 15, 1), (65536 * F.PRT_SRC_ALERT.id + 15, 1)]
  clk := { now := 0, site := 0, stopped := some 0, xsrc := .crystal, rcTrims := 0, slew := 0, ppm := 0, slewT := 0, path := [] }
  ctl := .held
  host := { capt := [], dup := none, posted := [], resp := none, lastT := 0, waiting := [] }
  pwr := { mstate := .backup, reset := some .power, session := false, wsel := .input, sampled := false, req := none
           pllLocked := false, pfT := 0, finalCk := false, recover := false, metering := false, meterT := 0, ran := false }
  ldg := { queue := [], hwq := [], excess := { count := 0, firstT := 0, lastT := 0 }, bucket := 64 * 250000000
           bucketT := 0, windows := [], pos := [], lastSeq := 0, loss := 0, flush := false }
  evt := { gap0 := false, gap1 := false }
  inp := { en := [], range := [], sensor := [], burn := [], sdly := [], lat := [], inv := [], bsgEn := [], bsgRate := []
           outP := [], outN := [], intDue := [], clip := [] }
  rmt := { spares := [], stored := [], force := [], selfGain := [], selfT := [], selfAt := [], passT := [], halted := [], live := []
           bare := [], arbReq := [], stepNow := [] }
  flt := { resp := [], fpr := [], change := [], holdoff := [], retry := [], rebuild := false, fresh := []
           recompOn := none, doneT := [] }
  flts := { wins := [], ruling := none, failed := false, rowsMap := [], rowsFen := [], blksMap := [], blksFen := []
            chkLost := [], restartT := none, inj := none, pllUntil := 0, lost := [], keyMap := []
            pllLost := false, lockstep := false, capLost := false, shrunk := [] }
  cal := { sets := [], trace := [], pend := [], pendNew := [], applied := [], failed1 := false, powerUp := false
           again := false, anyRun := false, anyPass := false, upRun := false, sel := [], spoiled := [], sess := none, commit := none, jointT := 0 }
  twn := { out := [], sets := 0, acked := false, peerMet := false, noCheck := false, digests := [], marks := 0, loaded := false
           waited := false, hot := false, swapReq := false, detReq := false, homing := false, warm := [], seq := 0, own := []
           ownCh := [], ownMtr := [], peer := [], evalT := 0, disputes := [], adopts := [], roleT := 0, newMtr := []
           lead := false, sent := 0, tx := none, mseq := [], msgs := [], segs := [], inbox := [], repeated := [], arbSent := [], peerDet := false, peerArb := [], peerDig := [], peerDigT := [], spans := []
           first := [], verdicts := [] }
  mtr := { acc := [], deficit := [], plus := [], corr := [], cfg := [], due := [], idc := [], hold := none, held := []
           miss := [], hist := [], fell := [], rose := [], rem := [], cov := [], lastIv := [], wait := [], lastEnd := 0, ring := [], nextSeq := 0, ckTime := 0
           fromTwin := false }
  itn := { dig := [], flash := FlashImage.absent, dir := none, floor := [], rgn := [], jobs := [], buf := none, op := none
           fwOk := false, read := [], force := [] }
  grd := { trk := [], mem := [], idmd := [], joinT := [] }
  hrm := { hold := none, y := [], yW := [], yT := [], expired := false }
  dst := { grp := [], hb := [], post := [], hold := none, arc := [], perT := 0, lowGap := false, expired := false }
  pls := { outs := [], role := false, load := [] }
  way := { nbr := [], parent := none, fcntHi := 0, fcntLo := 0, last := [], txq := [], air := none, rxq := [], soft := [], sent := [], bcast := []
           seqs := [], move := none, even := false, hold := none, delays := [] }
  rng := 0
  sbx := { slots := [], kb := none, wipe := 0, reported := false, pending := none, fuse := false, msg := none, respT := none }
  cvn := { cfg := CvnCfg.off, ports := [], eseq := [], retried := [], sets := [], acked := [], lastSeq := none, src := none
           marks := 0, good := 0, waited := false, locked := false, broken := [], reach := [], due := [], gaps := [], routeT := 0, sub := [], kept := [], sentK := [], absent := [], sums := []
           hold := none, step := none, steps := 0 }
  sar := { delay := none, run := none, src := (false, false), inj := [], burst := none, due := none, injAgain := false, again := false, last := [], got := []
           good := [], f := [], fNew := [] }
  dsp := { img := 0, queued := none, upd := none, start := none, inprog := false, ncom := false, hold := false, fresh := false }
  prt := { brown := true, cell := true, lost := true, secT := 0, stopT := none, corr := 0, step := 0, lfsr := 0, hist := [], fired := []
           todo := [], prof := [] }

end Sys2Proof.Machine
end

