-- ==== Sys2Proof/Machine/Regs.lean ====
section
/-! DEFINITION. Register fields in the state: reading, writing, counting, signed values, rounding, the search of the
register map, and what a main reset leaves of the fields (R6 to R11, R424). -/

namespace Sys2Proof.Machine

/-- Where `State.flds` keeps element i of a field. -/
def fkey (f : Fld) (i : Nat) : Nat := f.id * 65536 + i % 65536

/-- The value of element i of field f in a store of fields: as many bits as the field has. -/
def fget (m : SMap Nat) (f : Fld) (i : Nat) : Nat := mget f.reset m (fkey f i) % 2 ^ f.len

/-- Stores the low bits of v, as many as the field has, in element i of field f. -/
def fput (m : SMap Nat) (f : Fld) (i v : Nat) : SMap Nat := mput f.reset m (fkey f i) (v % 2 ^ f.len)

/-- The stored value of element i of field f. -/
def State.fld (s : State) (f : Fld) (i : Nat := 0) : Nat := fget s.flds f i

/-- Writes element i of field f. -/
def State.put (s : State) (f : Fld) (i v : Nat) : State := { s with flds := fput s.flds f i v }

/-- Is element i of a one-bit field set? -/
def State.bit (s : State) (f : Fld) (i : Nat := 0) : Bool := s.fld f i != 0

/-- Writes element i of a one-bit field. -/
def State.setBit (s : State) (f : Fld) (i : Nat) (b : Bool) : State := s.put f i (if b then 1 else 0)

/-- The largest value of a field. -/
def Fld.top (f : Fld) : Nat := 2 ^ f.len - 1

/-- Adds k to element i of a counter field that saturates. -/
def State.addSat (s : State) (f : Fld) (i k : Nat) : State := s.put f i (min f.top (s.fld f i + k))

/-- Counts one in element i of a counter field that saturates. -/
def State.inc (s : State) (f : Fld) (i : Nat := 0) : State := s.addSat f i 1

/-- Notes the present instant against element i of a field, as that of a fall or of a new value, beside the noted rise before it.
Notes are kept 60 s, longer than any interval, window or period lasts. -/
def State.stamp (s : State) (f : Fld) (i : Nat) : State :=
  let k := fkey f i
  let old := (mget [] s.mtr.fell k).filter fun x => decide (s.clk.site < x.2 + 60000000000)
  { s with mtr := { s.mtr with fell := mput [] s.mtr.fell k ((mget 0 s.mtr.rose k, s.clk.site + 1) :: old) } }

/-- Is a noted instant of element i of a field later than, or at, this instant? -/
def State.stampedSince (s : State) (f : Fld) (i t : Nat) : Bool := (mget [] s.mtr.fell (fkey f i)).any fun x => decide (t < x.2)

/-- Clears element i of a status flag that qualifies intervals, noting when it fell. -/
def State.lower (s : State) (f : Fld) (i : Nat) : State := if s.bit f i then (s.put f i 0).stamp f i else s

/-- Is a noted instant of element i of a field at or after t0 and before t1? -/
def State.stampedIn (s : State) (f : Fld) (i t0 t1 : Nat) : Bool :=
  (mget [] s.mtr.fell (fkey f i)).any fun x => decide (t0 < x.2) && decide (x.2 ≤ t1)

/-- Sets element i of a status flag that qualifies intervals, noting when it rose. -/
def State.lift (s : State) (f : Fld) (i : Nat) : State :=
  if s.bit f i then s
  else { s.put f i 1 with mtr := { s.mtr with rose := mput 0 s.mtr.rose (fkey f i) (s.clk.site + 1) } }

/-- Did a condition whose rises and falls are noted under element i of a field hold at any time at or after t0 and before t1? It
counts from its rise up to its fall, or, while it stands (`up`), from its rise on. -/
def State.upIn (s : State) (up : Bool) (f : Fld) (i t0 t1 : Nat) : Bool :=
  (up && decide (mget 0 s.mtr.rose (fkey f i) ≤ t1))
    || (mget [] s.mtr.fell (fkey f i)).any fun x => decide (x.1 ≤ t1) && decide (t0 < x.2)

/-- Was a status flag set at any time at or after t0 and before t1? -/
def State.duringIn (s : State) (f : Fld) (i t0 t1 : Nat) : Bool := s.upIn (s.bit f i) f i t0 t1

/-- Was a status flag set at any time since this instant? -/
def State.during (s : State) (f : Fld) (i t : Nat) : Bool := s.bit f i || s.stampedSince f i t

/-- Writes an integer, in two's complement, in element i of field f. -/
def State.putI (s : State) (f : Fld) (i : Nat) (z : Int) : State := s.put f i (z % 2 ^ f.len).toNat

/-- The integer that the low n bits of v spell in two's complement. -/
def signed (n v : Nat) : Int :=
  let w := v % 2 ^ n
  if 2 * w < 2 ^ n then (w : Int) else (w : Int) - 2 ^ n

/-- The signed value of element i of field f. -/
def State.sfld (s : State) (f : Fld) (i : Nat := 0) : Int := signed f.len (s.fld f i)

/-- An integer held within the bounds of an n-bit signed field. -/
def clampS (n : Nat) (z : Int) : Int := max (-(2 ^ (n - 1))) (min (2 ^ (n - 1) - 1) z)

/-- A natural held within the bounds of an n-bit field; negative values read 0. -/
def clampU (n : Nat) (z : Int) : Nat := min (2 ^ n - 1) z.toNat

/-- The nearest integer; which way an exact half goes is open (`Config.tieUp`). -/
def nearest (q : Rat) : Int :=
  let n := q.floor
  let d := q - n
  if d < 1 / 2 then n else if d > 1 / 2 then n + 1 else if Config.tieUp n then n + 1 else n

/-- Division; where the divisor is zero the spec states no result and the value is open (`Config.quotZero`). -/
def rdiv (a b : Rat) : Rat := if b = 0 then Config.quotZero a else a / b

/-- The rational that a binary32 word spells; infinities and not-a-number have no stated value (`Config.notFinite`). -/
def b32 (w : Nat) : Rat :=
  let e : Nat := w / 2 ^ 23 % 256
  let m : Nat := w % 2 ^ 23
  let f : Nat := 2 ^ 23 + m
  let mag : Rat :=
    if e = 0 then (m : Rat) / 2 ^ 149
    else if e < 150 then (f : Rat) / 2 ^ (150 - e) else (f : Rat) * 2 ^ (e - 150)
  if e = 255 then Config.notFinite w else if w / 2 ^ 31 % 2 = 1 then -mag else mag

/-- Is a binary32 word a finite number? -/
def b32Fin (w : Nat) : Bool := w / 2 ^ 23 % 256 != 255

/-- The absolute value of a rational. -/
def rabs (q : Rat) : Rat := if q < 0 then -q else q

/-- The larger of two rationals. -/
def rmax (a b : Rat) : Rat := if a < b then b else a

/-- The smaller of two rationals. -/
def rmin (a b : Rat) : Rat := if a < b then a else b

/-- Every field of the register map. -/
def allFields : List Fld := regTable.flatMap (·.fields)

/-- The retention class of the field with this number (R11). -/
def clsOf (id : Nat) : Cls := ((allFields.find? (·.id == id)).map (·.cls)).getD .L

/-- The stored fields that a happening keeps, by class. -/
def keepCls (keep : Cls → Bool) (m : SMap Nat) : SMap Nat := m.filter fun e => keep (clsOf (e.1 / 65536))

/-- The register and index at a byte address; none where the address is unmapped (R27). -/
def regAt (addr : Nat) : Option (RegRow × Nat) :=
  (regTable.find? fun r =>
    decide (r.base ≤ addr) && (addr - r.base) % r.stride == 0 && decide ((addr - r.base) / r.stride < r.count)).map
    fun r => (r, (addr - r.base) / r.stride)

/-- The fields of element i of a register. INP_CFG has one layout for analog channels (n = 0 to 111) and another for bitstream
channels (R74). The last elements of CAL_SEL and WAY_NOTCH have reserved high bits, banks U and W have no second spare to withhold,
and sources 14 and 15 have no filter (Tables 04-9, 10-7, 14-12, 17-7). -/
def fieldsAt (r : RegRow) (i : Nat) : List Fld :=
  if r.rid = R.INP_CFG.rid then
    if i < 112 then r.fields.filter fun f => ¬ (f = F.INP_CFG_SDLY ∨ f = F.INP_CFG_LAT ∨ f = F.INP_CFG_INV)
    else r.fields.filter fun f => ¬ (f = F.INP_CFG_RANGE ∨ f = F.INP_CFG_BURN ∨ f = F.INP_CFG_OSDT)
  else if r.rid = R.CAL_SEL.rid ∧ i = 4 then [{ F.CAL_SEL_SEL with len := 16 }]
  else if r.rid = R.WAY_NOTCH.rid ∧ i = 45 then [{ F.WAY_NOTCH_NOTCH with len := 3 }]
  else if r.rid = R.RMT_BCTL.rid ∧ 12 ≤ i then r.fields.filter fun f => f ≠ F.RMT_BCTL_S1OFF
  else if r.rid = R.PRT_SRC.rid ∧ 14 ≤ i then r.fields.filter fun f => ¬ (f = F.PRT_SRC_FWIN ∨ f = F.PRT_SRC_FCNT)
  else r.fields

/-- The bits of a register word that belong to field f. -/
def Fld.slice (f : Fld) (w : Nat) : Nat := w / 2 ^ f.lo % 2 ^ f.len

end Sys2Proof.Machine
end

