-- ==== Sys2Proof/Machine/Status.lean ====
section
/-! DEFINITION. What the state says about time, about the states of the main domain and about the units, as other units
and the register views see it: nothing here changes the state but the passing of time (R21, R23, R25). -/

namespace Sys2Proof.Machine

/-! ### Time -/

/-- Is the device in RUN? -/
def running (s : State) : Bool := s.pwr.mstate == .run

/-- Does the main domain have power and no reset, so that its logic works? -/
def mainOn (s : State) : Bool := s.pwr.mstate != .backup && s.pwr.reset.isNone

/-- Is the supervisory controller running (R18)? -/
def ctlOn (s : State) : Bool := mainOn s && s.ctl == .running

/-- A request to firmware: carried out where the controller runs, and kept until it does otherwise (R17). -/
def onCtl (op : FwOp) (f : State → State) (s : State) : State :=
  if ctlOn s then f s
  else if mainOn s then { s with host := { s.host with waiting := s.host.waiting ++ [op] } } else s

/-- Are two requests the same piece of firmware work? Of the decisions after housekeeping bursts only the latest is worth keeping.
-/
def FwOp.same : FwOp → FwOp → Bool
  | .housekeeping _, .housekeeping _ => true
  | a, b => a == b

/-- Is it work of hardware, which does not wait for the controller (R349)? -/
def FwOp.hardware : FwOp → Bool
  | .profile _ => true
  | _ => false

/-- Work of firmware that falls due: as `onCtl`, and kept once (R17). -/
def onCtlOnce (op : FwOp) (f : State → State) (s : State) : State :=
  if ctlOn s then f s
  else if mainOn s then { s with host := { s.host with waiting := (s.host.waiting.filter fun o => !op.same o) ++ [op] } } else s

/-- Is the Vault write port free for a claim of this rank of Table 01-4: 3 strongbox and counter writes, 4 calibration sets, 5
ledger records? Higher claims in progress go first; the periodic checkpoint is written whole at its second (R20). -/
def vaultFree (s : State) (rank : Nat) : Bool :=
  !s.pwr.finalCk && (decide (rank ≤ 3) || s.sbx.msg.isNone) && (decide (rank ≤ 4) || s.cal.commit.isNone)

/-- A request to firmware that writes the Vault: it waits while a higher claim holds the write port (R20). -/
def onVault (rank : Nat) (op : FwOp) (f : State → State) (s : State) : State :=
  if vaultFree s rank then f s else { s with host := { s.host with waiting := s.host.waiting ++ [op] } }

/-- The instant that units on the RUN clocks count to: now, or when those clocks stopped (R25). -/
def runNow (s : State) : Nat := s.clk.stopped.getD s.clk.now

/-- Whole seconds since an instant, saturating as a 16-bit field does; 0xFFFF where there was no such instant. -/
def ageSec (now : Nat) : Option Nat → Nat
  | none => 0xFFFF
  | some t => min 0xFFFF ((now - t) / 1000000000)

/-- Brings the site time count up to t, where it is behind, and the elapsed time with it. A command that falls at a
named instant of site time carries that instant. -/
def reachTime (t : Nat) (s : State) : State :=
  { s with clk := { s.clk with site := max s.clk.site (t % 2 ^ 64), now := s.clk.now + (t % 2 ^ 64 - s.clk.site) } }

/-- Lets d nanoseconds pass. A slew of site time in progress adds to them, or takes from them, at its rate, until it is spent (R268,
R278). -/
def passTime (d : Nat) (s : State) : State :=
  let c := s.clk
  let q := c.slewT + d * c.ppm
  let k := min (q / 1000000) c.slew.natAbs
  let left := c.slew - c.slew.sign * k
  { s with clk := { c with
      site := (c.site + d - (if c.slew < 0 then k else 0) + (if 0 < c.slew then k else 0)) % 2 ^ 64, now := c.now + d
      slew := left, slewT := if left = 0 then 0 else q - 1000000 * k } }

/-- Site time is to be slewed by an offset, in ns, at a rate in ppm, in place of what was being slewed (R224, R268, R277, R278). -/
def steer (off : Int) (ppm : Nat) (s : State) : State :=
  { s with clk := { s.clk with slew := off, ppm := ppm, slewT := 0 } }

/-- Site time is set, and steps: nothing is left to slew (R224, R268). -/
def setSite (t : Nat) (s : State) : State := steer 0 0 { s with clk := { s.clk with site := t % 2 ^ 64 } }

/-! ### The twin as other units see it -/

/-- Is the Tether in PAIRED? -/
def paired (s : State) : Bool := s.fld F.TWN_ST_STATE == 6

/-- Is a twin attached that is not FAILED? -/
def twinSound (s : State) : Bool := paired s && !s.bit F.TWN_ST_PEERFAIL

/-! ### Maps by stream -/

/-- Word k of a map by stream: bit b is that of stream 32k + b, for the channel streams. -/
def mapWord (k : Nat) (f : Nat → Bool) : Nat :=
  (List.range 32).foldl (fun a b => if 32 * k + b < 144 ∧ f (32 * k + b) then a + 2 ^ b else a) 0

/-! ### Fault supervision -/

/-- FLTS_WIN.REMAIN: microseconds until the window closes (Table 12-10). -/
def winRemain (s : State) : Nat :=
  match s.flts.wins with
  | [] => 0
  | f :: _ => (f.t + 150000000 - s.clk.site) / 1000

/-- Is a block of copy A, or B, of calibration set i fenced (R251, Table 22-8)? -/
def copyFenced (s : State) (i : Nat) (b : Bool) : Bool :=
  let k := 3072 + 74 * i + if b then 37 else 0
  s.flts.blksFen.any fun x => decide (k ≤ x) && decide (x < k + 37)

/-- Is the block of copy A, or B, of key slot i fenced? The blocks of the key array are counted from 4096. -/
def slotFenced (s : State) (i : Nat) (b : Bool) : Bool := s.flts.blksFen.contains (4096 + 2 * i + if b then 1 else 0)

/-! ### Banks, spares and modulators (R5, R79) -/

/-- The bank (group index 0 to 13) of an analog channel. -/
def bankOf (n : Nat) : Nat := n / 8

/-- The bank of a spare. -/
def spBank (sp : Nat) : Nat := if sp < 24 then sp / 2 else sp - 12

/-- 0 for s0 and 1 for s1. -/
def spIdx (sp : Nat) : Nat := if sp < 24 then sp % 2 else 0

/-- The spares of a bank, in the order s0, s1. -/
def sparesOf (b : Nat) : List Nat := if b < 12 then [2 * b, 2 * b + 1] else [b + 12]

/-- The spare of bank b with index i. -/
def spareAt (b i : Nat) : Nat := if b < 12 then 2 * b + i else b + 12

/-- The channels of a bank. -/
def chansOf (b : Nat) : List Nat := (List.range 8).map (8 * b + ·)

def getSp (s : State) (sp : Nat) : SpareSt := mget SpareSt.idle s.rmt.spares sp

def spRet (s : State) (sp : Nat) : Bool := s.bit F.RMT_SST_RET sp
def spSubst (s : State) (sp : Nat) : Bool := s.bit F.RMT_SST_SUBST sp

/-- Is the spare withheld by S0OFF or S1OFF (R89)? -/
def withheld (s : State) (sp : Nat) : Bool :=
  if spIdx sp = 0 then s.bit F.RMT_BCTL_S0OFF (spBank sp) else s.bit F.RMT_BCTL_S1OFF (spBank sp)

/-- Is channel n running: enabled, in force (R71), and for a bitstream channel its group too (R74)? -/
def chanOn (s : State) (n : Nat) : Bool :=
  mget false s.inp.en n && (decide (n < 112) || mget false s.inp.bsgEn ((n - 112) / 16))

/-- The modulator that feeds a channel of its own right: its own, or its permanent substitute (R76). Modulators 112 and
up are the spares. -/
def ownMod (s : State) (n : Nat) : Nat :=
  let k := s.fld F.RMT_MST_SUB n
  if k = 0 then n else 112 + spareAt (bankOf n) (k - 1)

/-- The correction of a modulator at a RANGE in force: the factory trim where none is (R76). -/
def corrOf (s : State) (md range : Nat) : Corr :=
  (mget none s.rmt.force (8 * md + range)).getD ⟨Config.factoryOff md range, Config.factoryGain md range⟩

/-- The correction stored for a modulator at a RANGE: none where none was stored, or both copies have failed (R76, R200). -/
def storedCorr (s : State) (md range : Nat) : Option Corr :=
  mget none s.rmt.stored (8 * md + range)

/-- Are the spare-stream slots of the filter engine withdrawn (Table 05-3, R451)? -/
def withdrawn (s : State) : Bool := s.bit F.FLT_ENG_SHED

/-- Is a spare held by a claim of R20 above routine rotation? -/
def heldHigher (s : State) (sp : Nat) : Bool :=
  let x := getSp s sp
  x.arbit.isSome || x.lent.isSome || (match x.slot with
    | some sl => (match sl.kind with
      | .live _ _ => true
      | .third _ _ => true
      | .routine => false
      | .forced => false)
    | none => false)

/-- Is a spare free (R79)? -/
def spFree (s : State) (sp : Nat) : Bool :=
  !spRet s sp && !spSubst s sp && !withheld s sp && !heldHigher s sp

def freeSpares (s : State) (b : Nat) : List Nat := (sparesOf b).filter (spFree s)

/-- The rotation list of a bank: its enabled channels that EXCL does not exclude, ascending (R79). -/
def rotation (s : State) (b : Nat) : List Nat :=
  (chansOf b).filter fun n => chanOn s n && !(s.fld F.RMT_BCTL_EXCL b).testBit (n % 8)

/-- RMT_BST.PERIOD (R80). -/
def rotPeriod (s : State) (b : Nat) : Nat :=
  let e := (rotation s b).length
  let f := (freeSpares s b).length
  if e = 0 ∨ f = 0 then 0 else (e + f - 1) / f * 30

/-- The code of Table 04-14. A spare that makes a REFIN measurement reads SELFCHK: the table has no code of its own for it (DESIGN
CHOICE). -/
def spCode (s : State) (sp : Nat) : Nat :=
  if spRet s sp then 9
  else if spSubst s sp then 8
  else
    let x := getSp s sp
    if x.arbit.isSome then 7
    else if x.lent.isSome then 0xA
    else match x.slot with
      | none => if x.refin.isSome then 1 else if withheld s sp then 0xA else 0
      | some sl => match sl.st with
        | .selfchk => 1
        | .ovlOut => 2
        | .xfOut => 3
        | .standin => 4
        | .ovlRet => 5
        | .xfRet => 6
        | .leaving => if withheld s sp then 0xA else 0

/-- The channel a spare serves: the disputed one, the slot's, or the one it substitutes. -/
def spTarget (s : State) (sp : Nat) : Option Nat :=
  if spSubst s sp then (chansOf (spBank sp)).find? fun n => s.fld F.RMT_MST_SUB n == spIdx sp + 1
  else if spRet s sp then none
  else (getSp s sp).arbit.orElse fun _ => (getSp s sp).slot.bind fun sl =>
    if sl.st = .leaving then none else some sl.chan


/-! ### Meters and pulse outputs -/

/-- Was a retained sample of meter m lost between these instants (Table 12-3)? -/
def lostIn (s : State) (m t0 t1 : Nat) : Bool := s.flts.lost.any fun x => x.1 == m && decide (t0 ≤ x.2) && decide (x.2 < t1)

def getOut (s : State) (c : Nat) : PlsOut := mget PlsOut.blank s.pls.outs c

/-- The elements that a type uses (Table 06-1). -/
def usesEl (type i : Nat) : Bool :=
  match type with
  | 0 => i == 0
  | 1 => i == 0 || i == 2
  | 2 => decide (i < 3)
  | 3 => i == 0
  | 4 => decide (i < 2)
  | _ => false

def dcType (type : Nat) : Bool := type == 3 || type == 4

/-- The sets that a type uses: its elements' and the total. -/
def usesSet (type k : Nat) : Bool := k == 3 || usesEl type k

/-- Does Table 06-4 give quantity q to a type? -/
def usesQty (type : Nat) (ah : Bool) (q : Nat) : Bool :=
  if dcType type then q == 0 || q == 1 || q == 12 || q == 13 || (ah && (q == 14 || q == 15)) else decide (q < 12)

/-- Does an accumulator belong to its meter's type? One of a meter that is not enabled keeps its value; any other reads zero (R117,
R127, R134). -/
def accUsed (s : State) (a : Nat) : Bool :=
  match mget none s.mtr.cfg (a / 64) with
  | some c => usesSet c.type (a / 16 % 4) && usesQty c.type c.ah (a % 16)
  | none => true

/-- The 64-bit view of an accumulator, without a hold (R129). -/
def viewAcc (s : State) (a : Nat) : Nat := if accUsed s a then mget 0 s.mtr.acc a / 2 ^ 32 % 2 ^ 64 else 0

/-- The meter whose results and views are held (R132). -/
def heldMeter (s : State) (m : Nat) : Option MtrHold :=
  match s.mtr.hold with
  | some h => if h.m = m then some h else none
  | none => none

/-- The view that ACC_LO and ACC_HI show. -/
def shownAcc (s : State) (a : Nat) : Nat :=
  match heldMeter s (a / 64) with
  | some h => h.acc.getD (a % 64) 0
  | none => viewAcc s a

/-- Is accumulator a registered (Table 06-15)? -/
def registered (m : SMap Nat) (a : Nat) : Bool :=
  (List.range 100).any fun r => fget m F.MTR_REG_EN r == 1
    && 64 * fget m F.MTR_REG_METER r + 16 * fget m F.MTR_REG_SET r + fget m F.MTR_REG_QTY r == a

/-- The 32 results of a meter, as its latest posting left them. -/
def resOf (s : State) (m : Nat) : List Nat := (List.range 32).map fun c => s.fld F.MTR_RES_RES (32 * m + c)

/-- MTR_RES as read: held, or the latest posting (R132). -/
def shownRes (s : State) (i : Nat) : Nat :=
  match heldMeter s (i / 32) with
  | some h => h.res.getD (i % 32) 0
  | none => s.fld F.MTR_RES_RES i

/-- The deficit of an accumulator in whole units, saturating (Table 06-15). -/
def deficitUnits (s : State) (a : Nat) : Nat := min 0xFFFFFF (mget 0 s.mtr.deficit a / 2 ^ 32)

/-- The residue of an output in whole units, saturating (Table 07-5), as the 32 bits of its register. -/
def residueUnits (s : State) (c : Nat) : Nat :=
  ((max (-(2 ^ 31)) (min (2 ^ 31 - 1) ((mget PlsOut.blank s.pls.outs c).res / 2 ^ 32)) : Int) % 2 ^ 32).toNat

/-! ### Harmonic results and high-band page -/

/-- Membership in force: the group of a stream. -/
def groupOf (s : State) (n : Nat) : Option Nat :=
  let c := mget 0 s.grd.mem n
  if c = 0 then none else some ((c - 1) / 2)

/-- Is this instant a boundary of R21 for channel n: a boundary of the grid group that holds it, or, in no group or in one that is
OFF and has no boundaries, a whole multiple of 20 ms of site time (of the local count where there is no site time)? -/
def boundaryAt (s : State) (n : Nat) : Bool :=
  match groupOf s n with
  | some g =>
    if s.fld F.GRD_ST_STATE g = 0 then s.clk.site % 20000000 == 0 else (mget GrdTrk.blank s.grd.trk g).lastT == s.clk.site
  | none => s.clk.site % 20000000 == 0

/-- Does every HRM result of stream n read zero: not a member (R175), or the engine is off (Table 08-3)? -/
def hrmZero (s : State) (n : Nat) : Bool := s.bit F.HRM_ENG_HOFF || (groupOf s n).isNone

/-- The hold of stream n's harmonic results (R172). -/
def hrmHeld (s : State) (n : Nat) : Option HrmHold :=
  match s.hrm.hold with
  | some h => if h.n = n then some h else none
  | none => none

/-- A harmonic result of stream n as read: zero, held, or the latest posting. -/
def hrmShown (s : State) (n : Nat) (g : HrmHold → Nat) (now : Nat) : Nat :=
  if hrmZero s n then 0 else match hrmHeld s n with
    | some h => g h
    | none => now

/-- The posting that the page shows (R189). -/
def pagePost (s : State) : HbPost :=
  match s.dst.hold with
  | some h => h.post
  | none => mget HbPost.blank s.dst.post (s.fld F.DST_HBSEL_STREAM)

/-- A value of DST_HBSUM of stream n as read: held, or the latest. -/
def hbSumShown (s : State) (n : Nat) (g : HbHold → Nat) (now : Nat) : Nat :=
  match s.dst.hold with
  | some h => if h.n = n then g h else now
  | none => now

/-- Is the high band withdrawn (R193)? -/
def hbOff (s : State) : Bool := s.bit F.HRM_ENG_HBOFF

/-- Is the arc statistic asked of a stream (R190)? -/
def arcOn (s : State) (n : Nat) : Bool := s.bit F.DST_ARC_EN n && chanOn s n

/-- Is the arc statistic of a stream warming up (R190)? It begins with 400 blocks of it, on enable and after every gap or
withdrawal. -/
def arcWarm (s : State) (n : Nat) : Bool :=
  arcOn s n && !hbOff s && (match mget none s.dst.arc n with
    | some a => decide (a.warm < 400)
    | none => running s)

/-! ### Driver role (R148, R221) -/

/-- Does this device drive the CF outputs: as holder of the driver role, or without a twin (EN 0), unless it has no usable
FIRMWARE region (R313)? -/
def drives (s : State) : Bool := s.pls.role || (!s.bit F.TWN_CFG_EN && s.itn.fwOk)

/-! ### Caravan -/

/-- A device's position in its caravan (R262). -/
def position (s : State) : Nat := 2 * s.cvn.cfg.pair + s.fld F.PWR_ST_PAIRSIDE

/-- Is this device the head of its caravan: of pair 0, with the driver role (R262)? -/
def isHead (s : State) : Bool := s.cvn.cfg.en && s.cvn.cfg.pair == 0 && drives s

/-- Is this device the site master (R277)? -/
def isMaster (s : State) : Bool := isHead s && s.cvn.cfg.siteEn && s.cvn.cfg.master

/-- The summary that the page of CVN_MSEL shows (R276). -/
def shownSum (s : State) : Option Summary :=
  match s.cvn.hold with
  | some h => h.2
  | none => mget none s.cvn.sums (s.fld F.CVN_MSEL_MEMBER)

/-- Is a privileged session open (R336)? -/
def privileged (s : State) : Bool := s.bit F.SBX_PRIV_PRIV

/-! ### Strongbox (R324, R326, R333) -/

/-- LCS, and whether the state is one of these. -/
def lcs (s : State) : Nat := s.fld F.SBX_ST_LCS

/-- Is the strongbox wiped (R325, R333)? -/
def wiped (s : State) : Bool := s.sbx.wipe != 0

/-- Is a stored slot shown by SBX_SLOT: in use, not wiped, and within the slots of the mode (Table 16-10)? -/
def slotShown (s : State) (i : Nat) : Bool :=
  !wiped s && (decide (i < 16) || s.bit F.SBX_ST_MODE) && (mget none s.sbx.slots i).isSome

/-- Have both copies of a slot failed (R326)? -/
def slotBad (s : State) (i : Nat) : Bool := (mget none s.sbx.slots i).elim false fun k => k.aBad && k.bBad

/-- Is a slot read from copy B? -/
def slotFromB (s : State) (i : Nat) : Bool := (mget none s.sbx.slots i).elim false fun k => k.aBad && !k.bBad

/-- CLASS of SBX_SLOT: slot 3 is derived (R324). -/
def slotClass (s : State) (i : Nat) : Nat :=
  if i = 3 then 3 else if slotShown s i then (if i < 8 then 1 else 2) else 0

/-- KLEN of SBX_SLOT. -/
def slotKlen (s : State) (i : Nat) : Nat :=
  if i = 3 then 2 else if slotShown s i then (if i < 8 then 2 else 1) else 0

/-! ### Wayline (R295, R296) -/

/-- The entry that the neighbour page shows. -/
def shownNbr (s : State) : Option Nbr :=
  match s.way.hold with
  | some h => h.2
  | none => mget none s.way.nbr (s.fld F.WAY_NSEL_INDEX)

/-- The neighbour entry of an address, with its index. -/
def findNbr (s : State) (a : Nat) : Option (Nat × Nbr) :=
  s.way.nbr.findSome? fun e => e.2.bind fun x => if x.naddr = a then some (e.1, x) else none

/-- PLEVEL: the level the parent announces. -/
def parentLevel (s : State) : Nat :=
  match s.way.parent.bind (findNbr s) with
  | some e => e.2.level
  | none => 0xF

end Sys2Proof.Machine
end

