-- ==== Sys2Proof/Machine/PathOps.lean ====
section
/-! DEFINITION. The parts of the sample path that work on one stream: decimator, engine format, sections of the response
ROM, the preset cascade and the fast-path word (R93 to R99, R103, R106 to R108, R113). What joins the streams, and the clock that
drives them, stands in SamplePath. -/

namespace Sys2Proof.Machine

/-! ### Decimators -/

/-- Four cascaded combs take one value: what they give, and what they hold for the next frame. -/
def combs (c : Vector (BitVec 26) 4) (x : BitVec 26) : BitVec 26 × Vector (BitVec 26) 4 :=
  let y1 := x - c.get 0
  let y2 := y1 - c.get 1
  let y3 := y2 - c.get 2
  (y3 - c.get 3, #v[x, y1, y2, y3])

/-- One modulator bit, a one as +1 and a zero as −1, so that a constant one gives 1.0 (R58, R93, R95). -/
def Decimator.integrate (d : Decimator) (bit : Bool) : Decimator :=
  let i1 := d.int1 + (if bit then 1 else -1)
  let i2 := d.int2 + i1
  let i3 := d.int3 + i2
  { d with int1 := i1, int2 := i2, int3 := i3, int4 := d.int4 + i3, bits := d.bits + 1 }

/-- What one bit brings out of a decimator: nothing, or raw combs of the high-band tap and of the main tap. -/
structure Taps where
  main : Option (BitVec 26)
  high : Option (BitVec 26)
  deriving DecidableEq, Repr

/-- One modulator clock of a decimator whose main tap decimates by r and whose high-band tap by r ÷ 2 (R93). -/
def Decimator.clock (r : Nat) (bit : Bool) (d : Decimator) : Taps × Decimator :=
  let d1 := d.integrate bit
  let h := combs d1.high d1.int4
  let m := combs d1.main d1.int4
  let atHigh := d1.bits % (r / 2) = 0
  let atMain := d1.bits % r = 0
  (⟨if atMain then some m.1 else none, if atHigh then some h.1 else none⟩,
   { d1 with high := if atHigh then h.2 else d1.high, main := if atMain then m.2 else d1.main })

/-- A run of modulator bits, oldest first, through a decimator: the raw main-tap and high-band-tap frames, oldest first. -/
def Decimator.run (r : Nat) : List Bool → Decimator → List (BitVec 26) × List (BitVec 26) × Decimator
  | [], d => ([], [], d)
  | b :: bs, d =>
    let x := d.clock r b
    let rest := Decimator.run r bs x.2
    (x.1.main.toList ++ rest.1, x.1.high.toList ++ rest.2.1, rest.2.2)

/-- Steps of the delay line in modulator bits: a tap is two bits of a bitstream group at 12.288 MHz (R94). -/
def tapBits (dtap r : Nat) : Nat := dtap * (if r = 64 then 2 else 1)

/-- One bit passes the delay line: the bit that comes out, and the line after it. It holds as many bits as DTAP 255 needs (R94). -/
def delayStep (d : Nat) (bit : Bool) (line : List Bool) : Bool × List Bool :=
  let l := (bit :: line).take 511
  (l.getD d false, l)

/-- Modulator bits, oldest first, through the delay line. -/
def delayBits (d : Nat) : List Bool → List Bool → List Bool × List Bool
  | [], line => ([], line)
  | b :: bs, line =>
    let x := delayStep d b line
    let rest := delayBits d bs x.2
    (x.1 :: rest.1, rest.2)

/-- The final comb's scale: a raw frame of a tap that decimates by k, in units of 2⁻²⁸ (R95). -/
def scaleRaw (k : Nat) (raw : BitVec 26) : Int :=
  raw.toInt * (if k = 16 then 2 ^ 12 else if k = 32 then 2 ^ 8 else 2 ^ 4)

/-- Frames of a tap that decimates by k: of the first four of a stream the engine receives none. `seen`: the frames since the stream
was enabled (R96). -/
def engineFrames (k : Nat) (seen : Nat) (raw : List (BitVec 26)) : List (Option Int) :=
  (raw.take (4 - seen)).map (fun _ => none) ++ (raw.drop (4 - seen)).map fun x => some (scaleRaw k x)

/-- One main-tap frame of a stream: its bits, oldest first, pass the delay line and the decimator; the main-tap sample and the
high-band samples before any correction (R93 to R96). -/
def decimate (r dtap : Nat) (bits : List Bool) (p : StreamPath) : Option Int × List (Option Int) × StreamPath :=
  let d := delayBits (tapBits dtap r) bits p.line
  let x := Decimator.run r d.1 p.dec
  let main := engineFrames r p.frames x.1
  let high := engineFrames (r / 2) p.highs x.2.1
  (main.getLastD none, high,
    { p with line := d.2, dec := x.2.2, frames := min 4 (p.frames + x.1.length), highs := min 4 (p.highs + x.2.1.length) })

/-! ### The engine format and the lanes -/

/-- The nearest integer, ties away from zero (R99). -/
def roundAway (q : Rat) : Int := if q < 0 then -((-q + 1 / 2).floor) else (q + 1 / 2).floor

/-- A result of a lane in the engine format, in units of 2⁻²⁸, and whether it saturated (R95, R99). -/
def engineResult (q : Rat) : Int × Bool :=
  let z := roundAway q
  (clampS 32 z, decide (clampS 32 z ≠ z))

/-- A lane's accumulator: products of samples and 32-bit coefficients added in 72 bits (R99). -/
def lane72 (ps : List (Int × BitVec 32)) : Int :=
  (ps.foldl (fun a p => a + BitVec.ofInt 72 (p.1 * p.2.toInt)) (0 : BitVec 72)).toInt

/-- A section state: 48 bits (R99). -/
def state48 (z : Int) : Int := (BitVec.ofInt 48 z).toInt

/-- Second-order sections of a response (Table 05-4). -/
def sectionsOf (r : Nat) : Nat :=
  if r = 0 ∨ 55 ≤ r then 0
  else if (23 ≤ r ∧ r ≤ 27) ∨ (43 ≤ r ∧ r ≤ 54) then 2 else 1

/-- The sections of a chain of responses in their order, as (response, section). -/
def sectionList (resp : List Nat) : List (Nat × Nat) := resp.flatMap fun r => (List.range (sectionsOf r)).map fun j => (r, j)

/-- A weight in units of 2⁻²⁸ from a lane's accumulator of a response. -/
def laneScale (r : Nat) (acc : Int) : Rat := (acc : Rat) / 2 ^ Config.romShift r

/-- One section takes a sample: its result, whether it saturated, and its states. The transposed direct form and the states' least
significant bit of 2⁻⁴⁴ are the model's (DESIGN CHOICE): R99 gives the widths alone. -/
def sectionStep (c : Nat × Nat) (x : Int) (z : SecSt) : Int × Bool × SecSt :=
  let k := Config.romCoef c.1 c.2
  let y := engineResult (laneScale c.1 (lane72 [(x, k 0)]) + (z.z1 : Rat) / 2 ^ 16)
  let z1 := roundAway (laneScale c.1 (lane72 [(x, k 1), (-y.1, k 3)]) * 2 ^ 16) + z.z2
  let z2 := roundAway (laneScale c.1 (lane72 [(x, k 2), (-y.1, k 4)]) * 2 ^ 16)
  (y.1, y.2, ⟨state48 z1, state48 z2⟩)

/-- A sample through the sections of a chain: the result, whether one saturated, and the states (R98, R99). -/
def chainStep : List (Nat × Nat) → Int → List SecSt → Int × Bool × List SecSt
  | [], x, _ => (x, false, [])
  | c :: cs, x, z =>
    let r := sectionStep c x (z.headD SecSt.zero)
    let rest := chainStep cs r.1 z.tail
    (rest.1, r.2.1 || rest.2.1, r.2.2 :: rest.2.2)

/-- What a section gives for a constant input, and its states then: the steady state that R113 presets. -/
def steady (c : Nat × Nat) (x : Int) : Int × SecSt :=
  let k (i : Nat) : Rat := ((Config.romCoef c.1 c.2 i).toInt : Rat)
  let one : Rat := 2 ^ Config.romShift c.1
  let y := (engineResult (rdiv ((k 0 + k 1 + k 2) * x) (one + k 3 + k 4))).1
  let z2 := roundAway ((k 2 * x - k 4 * y) / one * 2 ^ 16)
  (y, ⟨state48 (roundAway ((k 1 * x - k 3 * y) / one * 2 ^ 16) + z2), state48 z2⟩)

/-- The states of a chain preset to the steady state for a constant input (R113). -/
def presetZ : List (Nat × Nat) → Int → List SecSt
  | [], _ => []
  | c :: cs, x => (steady c x).2 :: presetZ cs (steady c x).1

/-- The mean of the last 192 main-tap samples of a stream (R113). -/
def mean192 (p : StreamPath) : Int := roundAway ((p.mains.sum : Rat) / 192)

/-! ### The response ROM -/

/-- What the response ROM holds at an index (R103): sections of five coefficients, the taps of a decimation stage, or a
self-test vector. -/
inductive RomEntry where
  | sections (cs : List (List (BitVec 32)))
  | stage (taps : List (BitVec 32))
  | vector (ws : List (BitVec 32))
  deriving DecidableEq, Repr

/-- The response ROM (Table 05-4). The image is that of FLT_ROMID; its words are not printed in the spec (R450). -/
def romEntry (r : Nat) : RomEntry :=
  if 62 ≤ r then .vector (Config.checkVector r)
  else if 55 ≤ r then .stage (Config.firTaps r)
  else .sections ((List.range (sectionsOf r)).map fun j => (List.range 5).map fun i => Config.romCoef r j i)

/-! ### Presets -/

/-- Decimation from 192 kS/s of a preset: AMBLE, WALK, TROT, CANTER, GALLOP (Table 05-5, R107). -/
def presetFactor (code : Nat) : Nat := [192, 48, 24, 6, 3].getD code 0

/-- A tapped sum over a history, newest first, in the engine format. -/
def tapped (r : Nat) (taps : List (BitVec 32)) (h : List Int) : Int × Bool := engineResult (laneScale r (lane72 (h.zip taps)))

/-- The stages TB3 and HB1 to HB6 take one sample: stage i stands at ROM index 55 + i and answers on every `f`th main-tap sample.
Answers, stage by stage, the result where there is one, the histories, and whether a result saturated (R106). -/
def cascade (k : Nat) (x : Int) : Nat → Nat → List (List Int) → List (Option Int) × List (List Int) × Bool
  | _, _, [] => ([], [], false)
  | i, f, h :: hs =>
    let taps := Config.firTaps (55 + i)
    let h1 := (x :: h).take taps.length
    if k % f = 0 then
      let y := tapped (55 + i) taps h1
      let rest := cascade k y.1 (i + 1) (2 * f) hs
      (some y.1 :: rest.1, h1 :: rest.2.1, y.2 || rest.2.2)
    else (none :: hs.map fun _ => none, h1 :: hs, false)

/-- The stage whose result a preset delivers (Table 05-5). -/
def presetStage (code : Nat) : Nat := [6, 4, 3, 1, 0].getD code 0

/-- How many preset outputs of a stream are kept: as many as a window of 12 cycles at 40 Hz has at the fastest rate. -/
def keptMax : Nat := 32768

/-- The outputs of a preset that are kept, after main-tap index k brought another: an output describes an instant 15 output periods
back (R107). -/
def keepOut (code k : Nat) (y : Int) (old : List (Nat × Int)) : List (Nat × Int) :=
  ((k / presetFactor code - 15, y) :: old).take keptMax

/-- The precision path after the response slots: the cascade, and the equaliser of each preset where its stage answers
(R106). k: the main-tap index from site time 0. -/
def precision (k : Nat) (x : Int) (p : StreamPath) : StreamPath :=
  let hs := (List.range 7).map fun i => p.fir.getD i []
  let r := cascade k x 0 3 hs
  let eqs := (List.range 5).map fun c =>
    match r.1.getD (presetStage c) none with
    | some y =>
      let h := (y :: p.eq.getD c []).take (Config.eqTaps c).length
      let z := tapped (55 + presetStage c) (Config.eqTaps c) h
      (h, z.1, z.2, keepOut c k z.1 (p.kept.getD c []))
    | none => (p.eq.getD c [], p.out.getD c 0, false, p.kept.getD c [])
  { p with fir := r.2.1, eq := eqs.map (·.1), out := eqs.map (·.2.1), kept := eqs.map (·.2.2.2)
           sat := p.sat || r.2.2 || eqs.any (·.2.2.1) }

/-! ### Changes of a stream's chain -/

def getPath (s : State) (n : Nat) : StreamPath := mget StreamPath.cleared s.clk.path n

def setPath (n : Nat) (p : StreamPath) (s : State) : State :=
  { s with clk := { s.clk with path := mput StreamPath.cleared s.clk.path n p } }

/-- A stream is enabled: its decimator and all that follows it start cleared (R93, R96). A latched saturation stays (R99). -/
def pathStart (n : Nat) (s : State) : State := setPath n { StreamPath.cleared with sat := (getPath s n).sat } s

/-- A chain preset for a stream: its states for the mean of the stream's last 192 main-tap samples (R113). -/
def pathPreset (n : Nat) (resp : List Nat) (s : State) : State :=
  let p := getPath s n
  setPath n { p with z := presetZ (sectionList resp) (mean192 p), old := none } s

/-- The slot of a spare takes a new chain on a channel's stream, preset as R113 gives (R112). -/
def pathLend (n sp : Nat) (resp : List Nat) (s : State) : State :=
  setPath (144 + sp) { getPath s (144 + sp) with z := presetZ (sectionList resp) (mean192 (getPath s n)) } s

/-- The crossfade of a response change begins: the channel's slot takes the chain of the lent slot with its states, and the old
chain fades out (R112). -/
def pathTake (n sp : Nat) (old : List Nat) (s : State) : State :=
  let p := getPath s n
  setPath n { p with z := (getPath s (144 + sp)).z, old := some ⟨0, old, p.z⟩ } s

/-- FAST of a stream restarts from zero: its FPR states and its results are cleared (R111). -/
def pathFastClear (n : Nat) (s : State) : State := setPath n { getPath s n with fz := [], fast := [] } s

/-- A fast-path result reaches the comparators; as many are kept as the longest look back needs (R108, R110). -/
def pathFast (n : Nat) (f : BitVec 16) (s : State) : State :=
  let p := getPath s n
  setPath n { p with fast := (f :: p.fast).take 512 } s

/-- Fast-path results, oldest first. -/
def pathFasts (n : Nat) (fs : List (BitVec 16)) (s : State) : State := fs.foldl (fun s f => pathFast n f s) s

/-! ### The fast path -/

/-- Every eighth result of the FPR response is kept, 24 kS/s, on the 192 kS/s index of R107 (R108). -/
def fastAt (k : Nat) : Bool := k % 8 == 0

/-- The 16-bit form of a fast-path value given in units of 2⁻²⁸: least significant bit 2⁻¹⁵, saturating at ±1.0 (R108). -/
def fastWord (e : Int) : BitVec 16 := BitVec.ofInt 16 (clampS 16 (roundAway ((e : Rat) / 2 ^ 13)))

/-- The fast path of a stream takes a result of its response slots at index k (R108). -/
def fastStep (k fpr : Nat) (x : Int) (p : StreamPath) : StreamPath :=
  if fpr = 0 then p
  else
    let r := chainStep (sectionList [fpr]) x p.fz
    { p with fz := r.2.2, fast := if fastAt k then (fastWord r.1 :: p.fast).take 512 else p.fast }

/-- FAST as FLT_ST shows it: the latest result. -/
def fastShown (s : State) (n : Nat) : BitVec 16 := (getPath s n).fast.headD 0

/-- FAST, OVC and STEP of a stream read zero, and no step holds a crossfade back any longer; its fast path starts from zero. -/
def fastClear (n : Nat) (s : State) : State :=
  let s1 := pathFastClear n (((s.put F.FLT_ST_FAST n 0).put F.FLT_ST_OVC n 0).put F.FLT_ST_STEP n 0)
  { s1 with rmt := { s1.rmt with stepNow := mput false s1.rmt.stepNow n false } }

/-! ### Settling -/

/-- Settle time of a response, in microseconds (Table 05-4 and its notes). -/
def settleUs (r : Nat) : Nat :=
  let dcb := [54900000, 22000000, 11000000, 4400000, 2200000, 1100000, 550000, 220000]
  if r = 0 then 0
  else if r ≤ 8 then dcb.getD (r - 1) 0
  else if r ≤ 16 then dcb.getD (1 + (r - 9) % 4) 0
  else if r ≤ 22 then dcb.getD (r - 17) 0
  else if 37 ≤ r ∧ r ≤ 42 then [220000, 185000, 150000, 125000, 75000, 65000].getD (r - 37) 0
  else if r = 49 then 350000
  else if r = 50 then 90000
  else 10000

/-- The warm-up of a lent slot: the longest settle time of the new responses, and at least 20 ms (R112). -/
def warmUs (resp : List Nat) : Nat := resp.foldl (fun a r => max a (settleUs r)) 20000

/-- Element n of the end instants of warm-up and settling. -/
def setDone (n us : Nat) (s : State) : State :=
  { s with flt := { s.flt with doneT := mput 0 s.flt.doneT n (s.clk.now + 1000 * us) } }

/-- Time passes up to an instant of elapsed time, where it has not come yet. -/
def reachNow (t : Nat) (s : State) : State := passTime (t - s.clk.now) s

/-! ### Spares -/

/-- The match under which a spare feeds channel n: its slot's, or one that it keeps without a slot (R81, R85, R87). -/
def matchFor (s : State) (sp n : Nat) : Rat × Rat :=
  match (getSp s sp).slot with
  | some sl => if sl.chan = n then sl.mtch.getD (1, 0) else (1, 0)
  | none => (getSp s sp).mtch.getD (1, 0)

/-- Runs f, which hands the stream of channel n to another modulator or takes a match away, and lets the stream pass from what fed
it to what then feeds it by a crossfade, of which k samples have passed (R85, R87, R451). -/
def glideFrom (k n : Nat) (f : State → State) (s : State) : State :=
  let feed := s.fld F.INP_ST_FEED n
  let sp := spareAt (bankOf n) (feed - 1)
  let old : FeedFade := if feed = 0 then ⟨k, n, 1, 0⟩ else ⟨k, 144 + sp, (matchFor s sp n).1, (matchFor s sp n).2⟩
  let s1 := f s
  setPath n { getPath s1 n with fade := some old } s1

def glide (n : Nat) (f : State → State) (s : State) : State := glideFrom 0 n f s

/-- Where f gives a spare another TARGET, or none, its fast path starts from zero, without a hold-off (R102), and so do its response
slots: the spec says nothing of their states (DESIGN CHOICE). -/
def retarget (sp : Nat) (f : State → State) (s : State) : State :=
  let s1 := f s
  if spTarget s1 sp = spTarget s sp then s1
  else
    let s0 := fastClear (144 + sp) s1
    let s2 := { s0 with flt := { s0.flt with holdoff := mput false s0.flt.holdoff (144 + sp) false } }
    setPath (144 + sp) { getPath s2 (144 + sp) with z := [], old := none } s2

/-- Writes what a spare is doing. -/
def setSp (sp : Nat) (x : SpareSt) (s : State) : State :=
  retarget sp (fun s => { s with rmt := { s.rmt with spares := mput SpareSt.idle s.rmt.spares sp x } }) s

def setSlot (sp : Nat) (sl : Option Slot) (s : State) : State := setSp sp { getSp s sp with slot := sl } s

end Sys2Proof.Machine
end

