-- ==== Sys2Proof/Machine/Views.lean ====
section
/-! DEFINITION. Reading registers: the fields that are computed from the rest of the state when they are read, and the
word a register shows. -/

namespace Sys2Proof.Machine

/-- PRT_SUB.SUBSEC: PCLK cycles since the second began; it stands while PCLK is stopped (R343, R348). -/
def subsecNow (s : State) : Nat := min 32775 ((s.prt.stopT.getD s.clk.now - s.prt.secT) * 32768 / 1000000000)

/-! ### Events and ledger -/

/-- Is event e pending? -/
def pendingEvt (s : State) (e : Nat) : Bool := (s.fld F.EVT_PEND_PEND (e / 32)).testBit (e % 32)

/-- Is event e pending with this routing bit of its EVT_CFG set? -/
def pendingWith (f : Fld) (s : State) (e : Nat) : Bool := pendingEvt s e && s.bit f e

/-- EVT_STAT.BLK: the blocks with an event pending with STAT (R363). -/
def statBlk (s : State) : Nat :=
  (List.range 128).foldl (fun a e => if pendingWith F.EVT_CFG_STAT s e then a ||| 2 ^ (e / 16) else a) 0

/-- EVT_STAT.SEVMAX: the highest severity among the events pending with STAT (R363). -/
def statSev (s : State) : Nat :=
  (List.range 128).foldl (fun a e => if pendingWith F.EVT_CFG_STAT s e then max a (s.fld F.EVT_CFG_SEV e) else a) 0

/-- The sound record at a position. -/
def LdgPos.rec? : LdgPos → Option LdgRec
  | .held r => some r
  | .empty => none
  | .bad _ => none
  | .fenced => none

/-- The sound records of the ledger with their positions. -/
def heldRecs (p : SMap LdgPos) : List (Nat × LdgRec) := p.filterMap fun e => e.2.rec?.map fun r => (e.1, r)

/-- The positions that are fenced. -/
def fencedCount (p : SMap LdgPos) : Nat := (p.filter fun e => e.2 == .fenced).length

/-- The lowest RSEQ held; 0 where the ledger is empty (LDG_FIRST). -/
def ldgFirst (p : SMap LdgPos) : Nat :=
  (heldRecs p).foldl (fun a e => if a = 0 ∨ e.2.rseq < a then e.2.rseq else a) 0

/-- The highest RSEQ held (LDG_LAST). -/
def ldgLast (p : SMap LdgPos) : Nat := (heldRecs p).foldl (fun a e => max a e.2.rseq) 0

/-- Is no position empty? A BAD position counts as empty (R369). -/
def ldgFull (p : SMap LdgPos) : Bool :=
  decide (2048 ≤ (p.filter fun e => e.2 == .fenced || e.2.rec?.isSome).length)

/-- MSTATE of the status word and of PWR_ST (R406, R427). -/
def mstateCode (s : State) : Nat :=
  match s.pwr.mstate with
  | .run => 2
  | .standby => if s.fld F.ITN_ST_LOAD = 2 then 1 else 0
  | .backup => 0

/-- FREE of a bank; 0 before the first RUN since main reset (Table 04-10). -/
def bankFree (s : State) (b : Nat) : Nat := if s.pwr.ran then (freeSpares s b).length else 0

/-- S1STATE of a bank: 0xA in banks U and W, from the first RUN on (Table 04-10). -/
def secondState (s : State) (b : Nat) : Nat := if b < 12 then spCode s (spareAt b 1) else if s.pwr.ran then 0xA else 0

/-- The channel whose filter settings a stream's slot runs: a spare's slot runs those of its target (R102). -/
def slotChan (s : State) (n : Nat) : Option Nat := if n < 144 then some n else spTarget s (n - 144)

/-- FPR in force for a stream. -/
def fprOf (s : State) (n : Nat) : Nat :=
  match slotChan s n with
  | some c => mget 0 s.flt.fpr c
  | none => 0

/-- FLT_ST.FAST of a stream: the latest fast-path value, and 0 without a fast path (R102, R108, Table 05-3). -/
def fastView (s : State) (n : Nat) : Nat :=
  if s.bit F.FLT_ENG_FPOFF || fprOf s n == 0 then 0 else (fastShown s n).toNat

/-- FLT_ST.SATL of a stream (R99). -/
def satView (s : State) (n : Nat) : Nat := if s.bit F.FLT_ST_SATL n || (getPath s n).sat then 1 else 0

/-- Computed fields, part 0. -/
def computed0 : List (Fld × (State → Nat → Nat)) :=
  [(F.IDENT_UID_LO_UID_LO, fun _ _ => Config.uid.toNat % 2 ^ 32),
   (F.IDENT_UID_HI_UID_HI, fun _ _ => Config.uid.toNat / 2 ^ 32),
   (F.EVT_STAT_BLK, fun s _ => statBlk s),
   (F.EVT_STAT_SEVMAX, fun s _ => statSev s),
   (F.LDG_ST_FULL, fun s _ => if s.bit F.LDG_ST_READY && ldgFull s.ldg.pos then 1 else 0),
   (F.LDG_ST_QDEPTH, fun s _ => s.ldg.queue.length),
   (F.LDG_ST_FENCED, fun s _ => fencedCount s.ldg.pos),
   (F.LDG_FIRST_FIRST, fun s _ => if s.bit F.LDG_ST_READY then ldgFirst s.ldg.pos else 0),
   (F.LDG_LAST_LAST, fun s _ => if s.bit F.LDG_ST_READY then ldgLast s.ldg.pos else 0),
   (F.PWR_ST_MSTATE, fun s _ => mstateCode s),
   (F.RMT_SST_STATE, fun s i => spCode s i),
   (F.RMT_SST_TARGET, fun s i => (spTarget s i).getD 0xFF),
   (F.RMT_SST_AGE, fun s i => ageSec (runNow s) (mget none s.rmt.selfT i)),
   (F.RMT_MST_AGE, fun s i => ageSec (runNow s) (mget none s.rmt.passT (ownMod s i))),
   (F.RMT_BST_S0STATE, fun s b => spCode s (spareAt b 0)),
   (F.RMT_BST_S0POS, fun s b => ((spTarget s (spareAt b 0)).getD 0) % 8),
   (F.RMT_BST_S0ACT, fun s b => if (spTarget s (spareAt b 0)).isSome then 1 else 0),
   (F.RMT_BST_S1STATE, fun s b => secondState s b),
   (F.RMT_BST_S1POS, fun s b => if b < 12 then ((spTarget s (spareAt b 1)).getD 0) % 8 else 0),
   (F.RMT_BST_S1ACT, fun s b => if b < 12 then (if (spTarget s (spareAt b 1)).isSome then 1 else 0) else 0),
   (F.RMT_BST_FREE, fun s b => bankFree s b),
   (F.RMT_BST_PERIOD, fun s b => rotPeriod s b),
   (F.FLTS_WIN_REMAIN, fun s _ => winRemain s),
   (F.INP_OPENMAP_OPEN, fun s k => mapWord k fun n => s.bit F.INP_ST_OPEN n || s.bit F.INP_ST_STUCK n)]

/-- Computed fields, part 1. -/
def computed1 : List (Fld × (State → Nat → Nat)) :=
  [(F.INP_OVRMAP_OVR, fun s k => mapWord k fun n => s.bit F.INP_ST_OVR n),
   (F.FLT_ST_FAST, fun s n => fastView s n),
   (F.FLT_ST_SATL, fun s n => satView s n),
   (F.FLT_OVCMAP_OVC, fun s k => mapWord k fun n => s.bit F.FLT_ST_OVC n),
   (F.ACC_LO_VIEW_LO, fun s a => shownAcc s a),
   (F.ACC_HI_VIEW_HI, fun s a => shownAcc s a / 2 ^ 32),
   (F.ACC_QUAL_REG, fun s a => if registered s.flds a then 1 else 0),
   (F.ACC_QUAL_DEFICIT, fun s a => deficitUnits s a),
   (F.MTR_RES_RES, fun s i => shownRes s i),
   (F.MTR_ST_DEFICIT, fun s m => if (List.range 64).any (fun j => mget 0 s.mtr.deficit (64 * m + j) != 0) then 1 else 0),
   (F.PLS_ST_DRIVER, fun s _ => if running s && drives s then 1 else 0),
   (F.PLS_RES_RES, fun s c => residueUnits s c),
   (F.HRM_CYC_CSEQ, fun s n => hrmShown s n (fun h => h.cyc.getD 0 0) (s.fld F.HRM_CYC_CSEQ n)),
   (F.HRM_CYC_UNLK, fun s n => hrmShown s n (fun h => h.cyc.getD 1 0) (s.fld F.HRM_CYC_UNLK n)),
   (F.HRM_CYC_OVR, fun s n => hrmShown s n (fun h => h.cyc.getD 2 0) (s.fld F.HRM_CYC_OVR n)),
   (F.HRM_CYC_OPEN, fun s n => hrmShown s n (fun h => h.cyc.getD 3 0) (s.fld F.HRM_CYC_OPEN n)),
   (F.HRM_DC_DC, fun s n => hrmShown s n (fun h => h.dc) (s.fld F.HRM_DC_DC n)),
   (F.HRM_PHM_MAG, fun s i => hrmShown s (i / 32) (fun h => h.mag.getD (i % 32) 0) (s.fld F.HRM_PHM_MAG i)),
   (F.HRM_PHA_PHASE, fun s i => hrmShown s (i / 32) (fun h => h.pha.getD (i % 32) 0) (s.fld F.HRM_PHA_PHASE i)),
   (F.HRM_W_WORD, fun s i => hrmShown s (i / 192) (fun h => h.win.getD (i % 192) 0) (s.fld F.HRM_W_WORD i)),
   (F.DST_HBHDR_PSEQ, fun s _ => (pagePost s).pseq),
   (F.DST_HBHDR_GAP, fun s _ => if hbOff s || (pagePost s).gap then 1 else 0),
   (F.DST_HBHDR_NBLK, fun s _ => (pagePost s).nblk),
   (F.DST_HBPAGE_MAX, fun s b => if hbOff s then 0x8000 else ((pagePost s).page.getD b (0x8000, 0x8000)).1),
   (F.DST_HBPAGE_AVG, fun s b => if hbOff s then 0x8000 else ((pagePost s).page.getD b (0x8000, 0x8000)).2),
   (F.DST_HBSUM_TOTAL, fun s n => if hbOff s then 0x8000 else hbSumShown s n (fun h => h.total) (s.fld F.DST_HBSUM_TOTAL n))]

/-- Computed fields, part 2. -/
def computed2 : List (Fld × (State → Nat → Nat)) :=
  [(F.DST_HBSUM_GAP, fun s n => if hbOff s then 1 else hbSumShown s n (fun h => h.gap) (s.fld F.DST_HBSUM_GAP n)),
   (F.DST_HBSUM_HBX, fun s n => if hbOff s then 0 else hbSumShown s n (fun h => h.hbx) (s.fld F.DST_HBSUM_HBX n)),
   (F.DST_HBSUM_HBXL, fun s n => min (s.fld F.DST_HBSUM_HBXL n) (hbSumShown s n (fun h => h.hbxl) (s.fld F.DST_HBSUM_HBXL n))),
   (F.DST_ARCST_WARM, fun s n => if arcWarm s n then 1 else 0),
   (F.DST_HBSUM_PEAK, fun s n => hbSumShown s n (fun h => h.peak) (s.fld F.DST_HBSUM_PEAK n)),
   (F.DST_LB_BAND, fun s i => if hbOff s then 0 else s.fld F.DST_LB_BAND i),
   (F.DST_LBH_GAP, fun s n => if hbOff s then 1 else s.fld F.DST_LBH_GAP n),
   (F.DST_ARCST_ARCIND, fun s n => if hbOff s then 0 else s.fld F.DST_ARCST_ARCIND n),
   (F.CVN_ST_HEAD, fun s _ => if isHead s then 1 else 0),
   (F.CVN_ST_POS, fun s _ => if s.cvn.cfg.en then position s else 0),
   (F.CVN_STIME_LO_STIME_LO, fun s _ => s.clk.site),
   (F.CVN_STIME_HI_STIME_HI, fun s _ => s.clk.site / 2 ^ 32),
   (F.CVN_MHDR_SEQ, fun s _ => (shownSum s).elim 0 (·.seq)),
   (F.CVN_MHDR_VALID, fun s _ => if (shownSum s).isSome then 1 else 0),
   (F.CVN_MHDR_COUNT, fun s _ => (shownSum s).elim 0 (·.count)),
   (F.CVN_MACC_VIEW, fun s i => (shownSum s).elim 0 fun x => x.vals.getD (i / 2) 0 / 2 ^ (32 * (i % 2))),
   (F.SBX_SLOT_CLASS, fun s i => slotClass s i),
   (F.SBX_SLOT_BAD, fun s i => if slotShown s i && slotBad s i then 1 else 0),
   (F.SBX_SLOT_COPYB, fun s i => if slotShown s i && slotFromB s i then 1 else 0),
   (F.SBX_SLOT_KLEN, fun s i => slotKlen s i),
   (F.SBX_SLOT_PEER, fun s i => if slotShown s i then (mget none s.sbx.slots i).elim 0 (·.peer) else 0),
   (F.CVN_SITE_LEVEL, fun s _ => if isMaster s then 0 else s.fld F.CVN_SITE_LEVEL),
   (F.CVN_SITE_SITESYNC, fun s _ => if isMaster s then 1 else s.fld F.CVN_SITE_SITESYNC),
   (F.CVN_SITE_MCAR, fun s _ => if isMaster s then s.cvn.cfg.carnum else s.fld F.CVN_SITE_MCAR),
   (F.WAY_ST_PVALID, fun s _ => if s.way.parent.isSome then 1 else 0),
   (F.WAY_ST_PLEVEL, fun s _ => parentLevel s)]

/-- Computed fields, part 3. -/
def computed3 : List (Fld × (State → Nat → Nat)) :=
  [(F.WAY_ST_NCOUNT, fun s _ => s.way.nbr.length),
   (F.WAY_NID_LO_NID_LO, fun s _ => (shownNbr s).elim 0 (·.uid)),
   (F.WAY_NID_HI_NID_HI, fun s _ => (shownNbr s).elim 0 fun x => x.uid / 2 ^ 32),
   (F.WAY_NINFO_VALID, fun s _ => if (shownNbr s).isSome then 1 else 0),
   (F.WAY_NINFO_SIDE, fun s _ => (shownNbr s).elim 0 fun x => if x.dcSide then 1 else 0),
   (F.WAY_NINFO_LEVEL, fun s _ => (shownNbr s).elim 0xF (·.level)),
   (F.WAY_NINFO_BSLOT, fun s _ => (shownNbr s).elim 0 (·.bslot)),
   (F.WAY_NINFO_PARENT, fun s _ => (shownNbr s).elim 0 fun x => if s.way.parent = some x.naddr then 1 else 0),
   (F.WAY_NINFO_NADDR, fun s _ => (shownNbr s).elim 0 (·.naddr)),
   (F.WAY_NLINK_MODE, fun s _ => (shownNbr s).elim 3 (·.mode)),
   (F.WAY_NLINK_TMI, fun s _ => (shownNbr s).elim 0 (·.tmi)),
   (F.WAY_NLINK_HEARD, fun s _ => (shownNbr s).elim 0 fun x => min 0x3FF ((runNow s - x.heardT) / 1000000000)),
   (F.WAY_NLINK_SNR, fun s _ => (shownNbr s).elim 0 fun x => min 255 x.snr),
   (F.WAY_NLINK_RATE, fun s _ => (shownNbr s).elim 0 fun x => min 255 (x.bits / 64)),
   (F.PRT_SUB_SUBSEC, fun s _ => subsecNow s)]

/-- The fields that are computed when they are read. -/
def computed : List (Fld × (State → Nat → Nat)) := computed0 ++ computed1 ++ computed2 ++ computed3

/-- The value a field shows when it is read now: computed where the field is listed above, else stored. -/
def viewF (s : State) (f : Fld) (i : Nat) : Nat :=
  match computed.find? fun e => e.1.id == f.id with
  | some e => e.2 s i % 2 ^ f.len
  | none => if f.acc = .wo then 0 else s.fld f i

/-- The word that element i of a register shows: its fields in place, reserved bits zero (R8). -/
def viewReg (s : State) (r : RegRow) (i : Nat) : Nat :=
  (fieldsAt r i).foldl (fun a f => a + viewF s f i * 2 ^ f.lo) 0

/-- The word at an address: zero where no register is defined (R27). -/
def viewAddr (s : State) (addr : Nat) : Nat :=
  match regAt addr with
  | some p => viewReg s p.1 p.2
  | none => 0

end Sys2Proof.Machine
end

