-- ==== Sys2Proof/Machine/Events.lean ====
section
/-! DEFINITION. Raising an event source: pending bits, rate windows, snapshots, and the queues of ledger records (R18,
R363 to R368). Every unit of the device raises its events through `raise`. -/

namespace Sys2Proof.Machine

/-- Is event e routed to any of IRQ0, IRQ1 and STAT (R363)? -/
def routed (m : SMap Nat) (e : Nat) : Bool :=
  fget m F.EVT_CFG_IRQ0 e != 0 || fget m F.EVT_CFG_IRQ1 e != 0 || fget m F.EVT_CFG_STAT e != 0

/-- The fields with event e pending. -/
def setPend (m : SMap Nat) (e : Nat) : SMap Nat :=
  fput m F.EVT_PEND_PEND (e / 32) (fget m F.EVT_PEND_PEND (e / 32) ||| 2 ^ (e % 32))

/-- Counts k in element i of a saturating counter field of a store. -/
def faddSat (m : SMap Nat) (f : Fld) (i k : Nat) : SMap Nat := fput m f i (min f.top (fget m f i + k))

/-- The snapshot of event e: the NSNAP registers that EVT_SNAP names (R366). -/
def snapshot (s : State) (e : Nat) : List Nat :=
  (List.range (s.fld F.EVT_CFG_NSNAP e)).map fun j => viewAddr s (s.fld F.EVT_SNAP_ADDR (8 * e + j))

/-- The record of a raise of event e now, without its sequence number (Table 18-2). -/
def mkRec (s : State) (e detail : Nat) : LdgRec where
  rseq    := 0
  code    := e
  sev     := s.fld F.EVT_CFG_SEV e
  summary := false
  oncell  := false
  queued  := false
  corrupt := false
  nosite  := false
  time    := viewReg s R.PRT_TIME 0
  date    := viewReg s R.PRT_DATE 0
  subsec  := viewF s F.PRT_SUB_SUBSEC 0
  detail  := detail % 65536
  stime   := s.clk.site
  snap    := snapshot s e
  nsnap   := s.fld F.EVT_CFG_NSNAP e

/-- A summary record (Table 18-3): the count, and the site times of the first and the last. -/
def mkSummary (s : State) (code sev detail count firstT lastT : Nat) : LdgRec :=
  { mkRec s 0 detail with
    code := code, sev := sev, summary := true, nsnap := 0
    snap := [count % 2 ^ 32, firstT % 2 ^ 32, firstT / 2 ^ 32, lastT % 2 ^ 32, lastT / 2 ^ 32] }

/-- What the rate limit says of a raise of event e that would be recorded: whether it is recorded, and the windows after
it (R367). -/
def rateAdmit (s : State) (e detail : Nat) : Bool × SMap RateWin :=
  let lim := s.fld F.EVT_CFG_RLIM e
  let ws := s.ldg.windows
  let w := mget RateWin.closed ws e
  if lim = 0 then (false, ws)
  else if s.fld F.EVT_CFG_RWIN e = 0 then (true, ws)
  else if w.opened = false then (true, mput RateWin.closed ws e { RateWin.closed with opened := true, recorded := 1 })
  else if w.recorded < lim then (true, mput RateWin.closed ws e { w with recorded := w.recorded + 1 })
  else (false, mput RateWin.closed ws e
    { w with suppressed := w.suppressed + 1, lastT := s.clk.site, lastDetail := detail % 65536
             firstT := if w.suppressed = 0 then s.clk.site else w.firstT })

/-- Takes out the newest record of this severity. -/
def dropNewest (sev : Nat) (q : List LdgRec) : List LdgRec :=
  (q.reverse.eraseP fun r => r.sev == sev).reverse

/-- Adds a record to the write queue of 256: when it is full the newest record of the lowest severity below the new
one's makes room, or else the new record is dropped. Answers whether a record was lost (R368). -/
def enqueue (q : List LdgRec) (r : LdgRec) : List LdgRec × Bool :=
  if q.length < 256 then (q ++ [r], false)
  else
    let m := q.foldl (fun a x => min a x.sev) 8
    if m < r.sev then (dropNewest m q ++ [r], true) else (q, true)

/-- Adds a record to the write queue, or to the hardware event queue while the controller is not running (R18). Answers
the ledger and whether a record was dropped. -/
def queueRec (c : CtlRun) (site : Nat) (l : LdgSt) (r : LdgRec) : LdgSt × Bool :=
  if c = .running then
    let p := enqueue l.queue r
    ({ l with queue := p.1 }, p.2)
  else if l.hwq.length < 64 then ({ l with hwq := l.hwq ++ [{ r with queued := true }] }, false)
  else ({ l with excess :=
    { count := l.excess.count + 1, lastT := site, firstT := if l.excess.count = 0 then site else l.excess.firstT } }, false)

/-- Counts a record dropped (R368). -/
def countDrop (m : SMap Nat) (lost : Bool) : SMap Nat :=
  if lost then fput (faddSat m F.LDG_CNT_DROPPED 0 1) F.LDG_ST_DROPL 0 1 else m

/-- Counts a raise suppressed (R367). -/
def countSupp (m : SMap Nat) : SMap Nat := fput (faddSat m F.LDG_CNT_SUPPR 0 1) F.LDG_ST_SUPPL 0 1

/-- Queues a record, counting a loss. -/
def putRec (s : State) (r : LdgRec) : State :=
  let p := queueRec s.ctl s.clk.site s.ldg r
  { s with ldg := p.1, flds := countDrop s.flds p.2 }

/-- The ledger's part of a raise: the rate limit, then the record. -/
def recordEvt (s : State) (e : Nat) (r : LdgRec) : State :=
  let a := rateAdmit s e r.detail
  let s1 := { s with ldg := { s.ldg with windows := a.2 } }
  if a.1 then putRec s1 r else { s1 with flds := countSupp s1.flds }

/-- Raises event source e with this DETAIL (R363, R364): its pending bit where it is routed, and its record where
EVT_CFG sends it to the ledger. Nothing is raised in BACKUP, where the main domain is unpowered. -/
def raise (e detail : Nat) (s : State) : State :=
  if s.pwr.mstate = .backup then s
  else
    let s1 := if routed s.flds e then { s with flds := setPend s.flds e } else s
    if s.bit F.EVT_CFG_LDG e then recordEvt s1 e (mkRec s1 e detail) else s1

/-- Raises an event where a condition holds. -/
def raiseIf (b : Bool) (e detail : Nat) (s : State) : State := if b then raise e detail s else s

/-- DETAIL where a source names no object (Table 18-1). -/
def noDetail : Nat := 0xFFFF

/-- The 64 bytes of a record (Table 18-2). -/
def recBytes (r : LdgRec) : List Nat :=
  let flags := r.sev % 8 + (if r.summary then 8 else 0) + (if r.oncell then 16 else 0) + (if r.queued then 32 else 0)
    + (if r.corrupt then 64 else 0) + (if r.nosite then 128 else 0)
  let words := (r.snap ++ List.replicate 8 0).take 8
  let body := leBytes 4 r.rseq ++ [r.code, flags, r.nsnap, 0] ++ leBytes 4 r.time ++ leBytes 4 r.date
    ++ leBytes 2 r.subsec ++ leBytes 2 r.detail ++ leBytes 8 r.stime ++ wordsToLe words
  body ++ leBytes 4 (crc32 body)

/-- Is the IRQ line of this routing field driven low (R363, R411)? It is released in main reset and in BACKUP. -/
def irqLow (f : Fld) (gap : Bool) (s : State) : Bool :=
  !gap && s.pwr.reset.isNone && s.pwr.mstate != .backup && (List.range 128).any fun e => pendingWith f s e

end Sys2Proof.Machine
end

