-- ==== Sys2Proof/Machine/LinkOps.lean ====
section
/-! DEFINITION. Link ports: frames and their layout, the order in which they leave a port, acknowledgement and retransmission, electrical
idle, and the messages of Tether (R225, R226, R264, R265, Tables 13-1, 13-2). -/

namespace Sys2Proof.Machine

/-! ### Frames (Table 13-1) -/

/-- TYPE of a frame (Table 13-2). -/
def frameType : LinkBody → Nat
  | .idle => 0
  | .tether t => t + 1
  | .training _ _ _ _ _ => 0x10
  | .mark _ => 0x11
  | .delay => 0x12
  | .discover _ _ => 0x13
  | .broken _ _ => 0x13
  | .subscribe _ => 0x14
  | .ask _ => 0x14
  | .samples _ => 0x15
  | .coverage _ _ _ _ => 0x16
  | .summary _ _ _ _ => 0x17
  | .capture _ _ _ _ => 0x18
  | .other t => t.toNat

/-- Bytes 0x000 to 0x00B of a frame. -/
def frameHead (type flags src dst lseq eseq len : Nat) : List Nat :=
  [type, flags, src, dst] ++ leBytes 2 lseq ++ leBytes 2 eseq ++ leBytes 2 len ++ [0, 0]

/-- The bytes of a frame as it leaves with this LSEQ: header, payload and CRC. A frame that came corrupt is passed on with a CRC that is
wrong (R265). -/
def OutFrame.bytes (f : OutFrame) (lseq : Nat) : List Nat :=
  let b := frameHead f.type f.flags f.src f.dst lseq f.eseq f.payload.length ++ f.payload
  b ++ leBytes 4 (if f.corrupt then crc32 b ^^^ 1 else crc32 b)

/-- How long a frame takes on the line: its bytes and two symbols, ten bits each at 2.5 Gbit/s. -/
def OutFrame.ns (f : OutFrame) : Nat := 4 * (18 + f.payload.length)

/-- Has a received frame a right LEN and CRC? -/
def LinkFrame.good (f : LinkFrame) : Bool :=
  let b := frameHead (frameType f.body) f.flags.toNat f.src.toNat f.dst.toNat f.lseq.toNat f.eseq.toNat f.len.toNat
    ++ f.payload.map BitVec.toNat
  decide (f.len.toNat ≤ 1024) && f.payload.length == f.len.toNat && crc32 b == f.crc.toNat

/-! ### Ports -/

def getPort (s : State) (p : Nat) : LinkPort := mget LinkPort.still s.cvn.ports p
def setPort (p : Nat) (x : LinkPort) (s : State) : State :=
  { s with cvn := { s.cvn with ports := mput LinkPort.still s.cvn.ports p x } }

/-- The port code of a caravan port: 1 U, 2 D, 3 S (R259). -/
def portCode (p : Nat) : Nat := p + 1

/-- The payload priority of a frame type on a port: 1 leaves first; idle frames and training sets last (R20, Tables 01-4, 13-2). -/
def payloadPri (type : Nat) : Nat :=
  if type = 0x11 ∨ type = 0x12 ∨ type = 0x13 then 1
  else if type = 0x01 ∨ type = 0x02 ∨ type = 0x16 then 2
  else if type = 0x03 ∨ type = 0x14 ∨ type = 0x17 then 3
  else if type = 0x04 ∨ type = 0x15 then 4
  else if type = 0x18 then 5 else 6

/-- Of the frames that wait, the one that leaves first: of the highest priority the oldest (R265). -/
def firstOut : List OutFrame → Option OutFrame
  | [] => none
  | f :: fs => match firstOut fs with
    | none => some f
    | some g => if payloadPri g.type < payloadPri f.type then some g else some f

/-- Frames that leave a port at the frame boundaries up to an instant of elapsed time. A new frame takes the port's next LSEQ; a
retransmission keeps its own (R264, R265). The first argument bounds how many. -/
def LinkPort.pump (now : Nat) : Nat → LinkPort → LinkPort
  | 0, p => p
  | k + 1, p =>
    if now < p.busy then p
    else match firstOut p.wait with
      | none => p
      | some f =>
        LinkPort.pump now k { p with
          wait := p.wait.erase f, busy := p.busy + f.ns
          lseq := if f.lseq.isNone then (p.lseq + 1) % 65536 else p.lseq
          air := p.air ++ [{ f with lseq := some (f.lseq.getD p.lseq) }] }

/-- Frames join those that wait on a port; where nothing is being sent the first leaves at once. -/
def LinkPort.take (now : Nat) (fs : List OutFrame) (p : LinkPort) : LinkPort :=
  let p1 := p.pump now p.wait.length
  let p2 := { p1 with wait := p1.wait ++ fs, busy := if p1.wait = [] then max p1.busy now else p1.busy }
  p2.pump now p2.wait.length

/-- Sends frames on a port (0 T, 1 U, 2 D, 3 S). -/
def linkSend (port : Nat) (fs : List OutFrame) (s : State) : State := setPort port ((getPort s port).take s.clk.now fs) s

/-- Frame boundaries pass on every port with frames waiting. -/
def linkPump (s : State) : State :=
  (List.range 4).foldl (fun s p => if (getPort s p).wait = [] then s else linkSend p [] s) s

/-- The port goes to electrical idle for d ns, and what it had to send is given up (R225, R264). -/
def linkQuiet (port d : Nat) (s : State) : State :=
  let p := getPort s port
  setPort port { p with wait := [], air := [], busy := s.clk.now + d, quiet := s.clk.now + d } s

/-- The port answers a frame with ACK or NAK and its LSEQ (R264). -/
def linkAnswer (port lseq : Nat) (ack : Bool) (s : State) : State :=
  setPort port { getPort s port with answer := some (lseq, ack) } s

/-- The frame of a port with this LSEQ that is not yet acknowledged. -/
def inAir (s : State) (port l : Nat) : Option OutFrame := (getPort s port).air.find? fun f => f.lseq == some l

/-- The frame of a port with this LSEQ is acknowledged, or given up. -/
def linkDone (port l : Nat) (s : State) : State :=
  let p := getPort s port
  setPort port { p with air := p.air.filter fun f => f.lseq != some l } s

/-- A frame is retransmitted: under its own LSEQ, with FLAGS bit 0. -/
def linkRepeat (port : Nat) (f : OutFrame) (s : State) : State :=
  linkSend port [{ f with flags := f.flags ||| 1 }] (linkDone port (f.lseq.getD 0) s)

/-- A new frame of this device: its ESEQ is the next of its type (Table 13-1). -/
def ownFrame (s : State) (type src dst : Nat) (payload : List Nat) : OutFrame :=
  { type := type, flags := 0, src := src, dst := dst, eseq := mget 0 s.cvn.eseq type, payload := payload, lseq := none, corrupt := false }

/-- A new frame of a type leaves this device: its ESEQ advances. -/
def countFrame (type : Nat) (s : State) : State :=
  { s with cvn := { s.cvn with eseq := mput 0 s.cvn.eseq type ((mget 0 s.cvn.eseq type + 1) % 65536) } }

/-- The payload of a caravan frame, whose contents the spec gives without a layout. -/
def bodyBytes (b : LinkBody) : List Nat := (Config.linkBytes b).map BitVec.toNat

/-! ### Tether messages (R226) -/

/-- The sides as SRC and DST on the Tether: this device's PAIRSIDE and the other. -/
def ownSide (s : State) : Nat := s.fld F.PWR_ST_PAIRSIDE
def farSide (s : State) : Nat := 1 - ownSide s

/-- The payloads of the frames that carry a message: MSEQ, SEG and NSEG, and up to 1020 bytes each. -/
def segments (mseq : Nat) (bs : List Nat) : List (List Nat) :=
  let n := max 1 ((bs.length + 1019) / 1020)
  (List.range n).map fun i => leBytes 2 mseq ++ [i, n] ++ (bs.drop (1020 * i)).take 1020

/-- The segments of a message leave on port T, each in a frame of its type. -/
def sendSegments (type mseq : Nat) (bs : List Nat) (s : State) : State :=
  (segments mseq bs).foldl (fun s x => countFrame type (linkSend 0 [ownFrame s type (ownSide s) (farSide s) x] s)) s

/-- A message of a type (1 to 4) is sent on the Tether under its next MSEQ. One that is repeated if it does not arrive is kept; of those
the latest 16. -/
def tetherSend (type : Nat) (bs : List Nat) (s : State) : State :=
  let q := mget 0 s.twn.mseq type
  let s1 := { s with twn := { s.twn with
    mseq := mput 0 s.twn.mseq type ((q + 1) % 65536)
    msgs := if type = 1 then s.twn.msgs else (⟨type, q, bs, false⟩ :: s.twn.msgs).take 16 } }
  sendSegments type q bs s1

/-- Sends a control message. -/
def sendMsg (m : TwnMsg) (s : State) : State :=
  tetherSend 2 ((Config.controlBytes m).map BitVec.toNat) { s with twn := { s.twn with out := s.twn.out ++ [m] } }

/-- The channel's samples go to the twin that adopts them (R241). -/
def sendAdopted (r : ChanRun) (s : State) : State := tetherSend 4 ((Config.adoptedBytes r).map BitVec.toNat) s

/-- A segment arrives: kept until its message is whole, and then the message (R226). -/
def takeSegment (type : Nat) (bs : List Nat) (s : State) : State :=
  let x : TwnSeg := { type := type, mseq := bs.getD 0 0 + 256 * bs.getD 1 0, seg := bs.getD 2 0, data := bs.drop 4 }
  let n := bs.getD 3 0
  let rest := s.twn.segs.filter fun y => !(y.type == type && y.mseq == x.mseq && y.seg == x.seg)
  let mine := (x :: rest).filter fun y => y.type == type && y.mseq == x.mseq
  if (List.range n).all fun i => mine.any fun y => y.seg == i then
    let whole := (List.range n).flatMap fun i => ((mine.find? fun y => y.seg == i).map TwnSeg.data).getD []
    { s with twn := { s.twn with
        segs := rest.filter fun y => !(y.type == type && y.mseq == x.mseq)
        inbox := s.twn.inbox ++ [(type, x.mseq, whole)] } }
  else { s with twn := { s.twn with segs := x :: rest } }

/-- The oldest whole message of a type is taken out of the buffer. -/
def takeWhole (type : Nat) (s : State) : State :=
  { s with twn := { s.twn with inbox := s.twn.inbox.eraseP fun m => m.1 == type } }

end Sys2Proof.Machine
end

