-- ==== Sys2Proof/Machine/FaultOps.lean ====
section
/-! DEFINITION. The retry rule shared by every unit: counting transients and
permanent faults, recovery windows, double faults and the device fault state (R248, R255, R256). -/

namespace Sys2Proof.Machine

/-! ### The device fault state -/

/-- The lanes of the filter engine that are not retired (Table 05-3). -/
def lanesUp (s : State) : Nat := ((List.range 11).filter fun i => !(s.fld F.FLT_ENG_LANERET).testBit i).length

/-- Has a permanent SRAM or Vault fault found no spare (R250, R251)? -/
def fencedAny (s : State) : Bool := s.flts.rowsFen != [] || s.flts.blksFen != []

/-- Does a condition of R255 make the device FAILED, apart from the latch? -/
def failedNow (s : State) : Bool := decide (lanesUp s ≤ 6)

/-- DSTATE: 0 NORMAL, 1 DEGRADED, 2 FAILED (R255). -/
def dstate (s : State) : Nat :=
  if s.flts.failed || failedNow s then 2
  else if s.bit F.FLTS_ST_CTRLHALT || s.bit F.FLTS_ST_CHKLOST || fencedAny s then 1 else 0

/-- Evaluates DSTATE again: FAILED latches until a main reset, and its entry sets FAILL and raises event 44; a
paired device sends a FAILED notice at once, and as Lead hands over at the next exchange instant (R232). -/
def evalDState (s : State) : State :=
  let d := dstate s
  let was := s.fld F.FLTS_ST_DSTATE
  let s := s.put F.FLTS_ST_DSTATE 0 d
  if d = 2 ∧ was ≠ 2 then
    let s1 := raise 44 noDetail ({ s with flts := { s.flts with failed := true } }.put F.FLTS_ST_FAILL 0 1)
    if paired s1 then sendMsg .failed { s1 with twn := { s1.twn with swapReq := s1.twn.swapReq || s1.twn.lead } } else s1
  else s

/-- Makes the device FAILED (R255). -/
def makeFailed (s : State) : State := evalDState { s with flts := { s.flts with failed := true } }

/-! ### Transients and permanent faults (R248) -/

/-- Classes of Table 12-1 that are device faults: links, Wayline, itinerary reads and the auxiliary converter are not. -/
def deviceClass (cls : Nat) : Bool := !(decide (5 ≤ cls) && decide (cls ≤ 9))

/-- Shows a fault in FLTS_LAST and FLTS_LTIME (Tables 12-9, 12-10). -/
def noteFault (cls kind unit detail : Nat) (inj scrub : Bool) (s : State) : State :=
  (((((((s.put F.FLTS_LAST_CLASS 0 cls).put F.FLTS_LAST_KIND 0 kind).setBit F.FLTS_LAST_INJ 0 inj).setBit
    F.FLTS_LAST_SCRUB 0 scrub).put F.FLTS_LAST_UNIT 0 unit).put F.FLTS_LAST_DETAIL 0 detail).put
    F.FLTS_LTIME_LO_LTIME_LO 0 s.clk.site).put F.FLTS_LTIME_HI_LTIME_HI 0 (s.clk.site / 2 ^ 32)

/-- An error that scrubbing or a self-test found raises event 47 as well (R258). -/
def latent (scrub : Bool) (cls unit : Nat) (s : State) : State :=
  if scrub then raise 47 (cls * 256 + unit) (s.put F.FLTS_ST_LATL 0 1) else s

/-- A retry has passed: a transient of this class (R248). -/
def transient (cls unit detail : Nat) (inj scrub : Bool) (s : State) : State :=
  latent scrub cls unit
    (raise 41 (cls * 256 + unit)
      ((noteFault cls 0 unit detail inj scrub (s.inc F.FLTS_CNT_TRANS cls)).put F.FLTS_ST_TRANSL 0 1))

/-- The ruling of Table 12-4 that is in force: until its last window has closed (R256). -/
def rulingNow (s : State) : Option Ruling := s.flts.ruling.filter fun r => decide (s.clk.site < r.endT)

/-- The row of Table 12-4 for faults in one device (`inOne`), or one in each. A twin is ruled on itself where a ruling of the
one-in-each kind is in force. A ruling already in force that names every meter, or one fault in each device, goes on to do so. -/
def ruleKind (inOne : Bool) (s : State) : RuleKind :=
  let old := (rulingNow s).map Ruling.kind
  if old = some .all then .all
  else if !inOne then .each
  else if old = some .each then (if paired s then .all else .each)
  else if twinSound s then .masked
  else if paired s then .all else .solo

/-- A double fault is ruled on (Table 12-4), together with the faults of a ruling in force: event 43. Both faults in one device whose
twin is attached and sound make it FAILED. -/
def ruleDouble (fs : List FaultRec) (inOne : Bool) (s : State) : State :=
  let old := (rulingNow s).elim [] Ruling.faults
  let all := old ++ fs.filter fun f => ¬ f ∈ old
  let r : Ruling :=
    { kind := ruleKind inOne s, faults := all, startT := all.foldl (fun a f => min a f.t) s.clk.site
      endT := all.foldl (fun a f => max a f.t) 0 + 150000000 }
  let s1 := { s with flts := { s.flts with ruling := some r } }
  let s2 := raise 43 noDetail ((s1.put F.FLTS_ST_DOUBLE 0 1).put F.FLTS_ST_DOUBLEL 0 1)
  if r.kind = .masked then makeFailed s2 else s2

/-- Opens a recovery window for a permanent device fault; one already open makes it a double fault, and a ruling in force rules on it
too (R256). -/
def openWindow (f : FaultRec) (s : State) : State :=
  let had := s.flts.wins
  let s1 := { s with flts := { s.flts with wins := had ++ [f] } }
  if had ≠ [] then ruleDouble (had ++ [f]) true s1
  else
    let s2 := ((s1.put F.FLTS_ST_WINDOW 0 1).put F.FLTS_WIN_CLASS1 0 f.cls).put F.FLTS_WIN_UNIT1 0 f.unit
    match rulingNow s with
    | some r => ruleDouble [f] (r.kind == .masked || r.kind == .solo) s2
    | none => s2

/-- A retry has failed: a permanent fault of this class. `spare`: a spare replaces the unit. `chan`: the channel whose
modulator it convicts (R248, R256). -/
def permanent (cls unit detail : Nat) (spare scrub : Bool) (chan : Option Nat) (s : State) : State :=
  let s1 := (noteFault cls (if spare then 1 else 2) unit detail false scrub (s.inc F.FLTS_CNT_PERM cls)).put
    F.FLTS_ST_PERML 0 1
  let s2 := latent scrub cls unit (raise 42 (cls * 256 + unit) s1)
  evalDState (if deviceClass cls then openWindow ⟨cls, unit, s.clk.site, chan⟩ s2 else s2)

/-- One recovery window closes, 150 ms after its fault (R256). -/
def closeWindow (s : State) : State :=
  match s.flts.wins with
  | [] => s
  | _ :: rest =>
    let s1 := { s with flts := { s.flts with wins := rest } }
    match rest with
    | [] => ((s1.put F.FLTS_ST_WINDOW 0 0).put F.FLTS_WIN_CLASS1 0 0).put F.FLTS_WIN_UNIT1 0 0
    | g :: _ => (s1.put F.FLTS_WIN_CLASS1 0 g.cls).put F.FLTS_WIN_UNIT1 0 g.unit

/-- The block number of a record (Table 22-8); the blocks of the key array are counted from 4096. -/
def vaultBlock (x : VaultRec) : Nat :=
  match x with
  | .ckpt p b => 16 * p + b
  | .ledger p => 1024 + p
  | .calSet i b k => 3072 + 74 * i + (if b then 37 else 0) + k
  | .slot i b => 4096 + 2 * i + if b then 1 else 0
  | .other b => 3664 + b

/-- A read of a record of the Vault failed its CRC and passed at its second read: a transient of class 4 (R248, Table 12-1). -/
def vaultReread (x : VaultRec) (s : State) : State := transient 4 0 (vaultBlock x) false false s

/-- Has the block of a record a spare block left in its array (R251, R426)? -/
def blockSpare (s : State) (b : Nat) : Bool :=
  if 4096 ≤ b then decide (s.flts.keyMap.length < 58) else decide (s.flts.blksMap.length < 64)

/-- A block of the Vault has failed permanently: it is remapped to a spare block, or fenced where none is left; a permanent fault of
class 4 (R248, R251). -/
def retireBlock (b : Nat) (scrub : Bool) (s : State) : State :=
  let spare := blockSpare s b
  let s1 :=
    if !spare then { s with flts := { s.flts with blksFen := s.flts.blksFen ++ [b] } }
    else if 4096 ≤ b then { s with flts := { s.flts with keyMap := s.flts.keyMap ++ [b] } }
    else { s with flts := { s.flts with blksMap := s.flts.blksMap ++ [b] } }.inc F.FLTS_SPARES_VLTUSED
  permanent 4 0 b spare scrub none s1

/-! ### Checkers and injection (R258, R259) -/

/-- Is the checker that guards a unit lost? The checker of unit u of a class carries the number u (DESIGN CHOICE: the spec numbers no
checkers); the unit then goes on without that check (R258). -/
def checkOff (s : State) (cls unit : Nat) : Bool := s.flts.chkLost.contains (256 * cls + unit)

/-- An injected corruption of the next operation of this unit, if one is pending: it is used up and GO clears (R259). -/
def takeInjection (tgt unit : Nat) (s : State) : Bool × State :=
  if s.flts.inj = some (tgt, unit) then
    (true, { s with flts := { s.flts with inj := none } }.put F.FLTS_INJ_GO 0 0)
  else (false, s)

/-- A record of the Vault is read: an injected corruption of the next Vault read is a transient (R259). -/
def vaultRead (x : VaultRec) (s : State) : State :=
  let t := takeInjection 4 0 s
  if t.1 then transient 4 0 (vaultBlock x) true false t.2 else s

end Sys2Proof.Machine
end

