-- ==== Sys2Proof/Machine/CalOps.lean ====
section
/-! DEFINITION. Calibration, shared operations: temperature sets, interpolation, taps, and trim runs up to the putting in
force of their results (R196 to R205). -/

namespace Sys2Proof.Machine

/-! ### Sets (R199, R200) -/

def copiesOf (s : State) (i : Nat) : CalCopies := mget CalCopies.blank s.cal.sets i

def putCopies (i : Nat) (c : CalCopies) (s : State) : State :=
  { s with cal := { s.cal with sets := mput CalCopies.blank s.cal.sets i c } }

/-- The bytes of a set entry; a channel without one has VALID clear (Table 10-2). -/
def entBytes : Option CalEnt → List Nat
  | none => List.replicate 16 0
  | some e =>
    leBytes 4 (e.g % 2 ^ 32).toNat ++ leBytes 4 (e.o % 2 ^ 32).toNat ++ leBytes 2 e.dly
      ++ [128 + 16 * (e.range % 8) + 2 * (e.sensor % 8) + (if e.ofsv then 1 else 0), 0]
      ++ leBytes 2 (e.tent % 2 ^ 16).toNat ++ [0, 0]

/-- Bytes 0x000 to 0x91F of a set copy: header and 144 entries (Table 10-1). -/
def setBody (c : CalSet) : List Nat :=
  leBytes 4 c.seq ++ leBytes 2 (c.tset % 2 ^ 16).toNat ++ leBytes 2 (if c.refkv then 1 else 0)
    ++ leBytes 4 (c.refk % 2 ^ 32).toNat ++ leBytes 8 c.time ++ List.replicate 12 0
    ++ (List.range 144).flatMap fun n => entBytes (mget none c.ents n)

/-- A set copy as the Vault holds it: 2340 bytes, the last four its CRC-32 (R199). -/
def setBytes (c : CalSet) : List Nat := setBody c ++ leBytes 4 (crc32 (setBody c))

/-- Does a copy as read pass its CRC (R199, R200)? -/
def copySound (bs : List Nat) : Bool :=
  decide (bs.length = 2340) && (bs.drop 0x920 == leBytes 4 (crc32 (bs.take 0x920)))

/-- A read of a set copy failed its CRC. Copy A is read once more, and stands as failed only where that read fails too; copy B
is read once (R200). -/
def takeFail (f : SetFail) (s : State) : State :=
  let c := copiesOf s f.set
  if f.copyB then putCopies f.set { c with bBad := true } s
  else if f.again then putCopies f.set { c with aBad := true } s else vaultReread (.calSet f.set false 0) s

/-- A set whose copy A failed its second read: where copy B serves, the retry has passed; else the fault is permanent (Table 12-1). -/
def setRetry (f : SetFail) (s : State) : State :=
  if f.copyB || !f.again then s
  else if (copiesOf s f.set).bBad then retireBlock (vaultBlock (.calSet f.set false 0)) false s else vaultReread (.calSet f.set false 0) s

/-- Reads of set copies that failed their CRC. -/
def takeFails (fs : List SetFail) (s : State) : State :=
  fs.foldl (fun s f => setRetry f s) (fs.foldl (fun s f => takeFail f s) s)

/-- A set as it reads: copy A, else copy B, else empty (R200). -/
def readSet (s : State) (i : Nat) : CalSet :=
  let c := copiesOf s i
  if !c.aBad then c.a else if !c.bBad then c.b else CalSet.empty

/-- Reading a set from copy B raises event 127, and copy A is rewritten from copy B, unless it is fenced (R200, R251). -/
def touchSet (i : Nat) (s : State) : State :=
  let c := copiesOf s i
  if c.aBad && !c.bBad then
    raise 127 i (if copyFenced s i false then s else putCopies i { c with a := c.b, aBad := false } s)
  else s

/-- Every set is read once. -/
def touchSets (s : State) : State := (List.range 8).foldl (fun s i => touchSet i s) (vaultRead (.calSet 0 false 0) s)

/-- CAL_SETINFO of a set, refreshed from the Vault (Table 10-9). -/
def showSet (i : Nat) (s : State) : State :=
  let c := readSet s i
  if c.seq = 0 then
    (((s.put F.CAL_SETINFO_VALID i 0).put F.CAL_SETINFO_REFKV i 0).put F.CAL_SETINFO_NENT i 0).put F.CAL_SETINFO_TSET i 0
  else
    (((s.put F.CAL_SETINFO_VALID i 1).setBit F.CAL_SETINFO_REFKV i c.refkv).put F.CAL_SETINFO_NENT i c.ents.length).putI
      F.CAL_SETINFO_TSET i c.tset

/-- CAL_SETINFO of every set, refreshed from the Vault at main power-up. -/
def showSets (s : State) : State := (List.range 8).foldl (fun s i => showSet i s) s

/-- Writes both copies of a set, copy A first; what is written to a fenced block is lost (R251). -/
def writeSet (i : Nat) (c : CalSet) (s : State) : State :=
  showSet i (putCopies i ⟨c, c, copyFenced s i false, copyFenced s i true⟩ s)

/-! ### Interpolation (R201) -/

/-- The usable entries for a channel with these settings, with the SEQ of their sets: of two within 1.00 °C of each other
only the one in the set with the higher SEQ. -/
def usable (s : State) (n range sensor : Nat) : List (Nat × CalEnt) :=
  let all := (List.range 8).filterMap fun i =>
    let c := readSet s i
    if c.seq = 0 then none
    else (mget none c.ents n).bind fun e => if e.range = range ∧ e.sensor = sensor then some (c.seq, e) else none
  all.filter fun x => all.all fun y => decide (|y.2.tent - x.2.tent| > 100) || decide (y.1 ≤ x.1)

/-- Points in ascending order of temperature. -/
def byTemp (ps : List (Rat × Rat)) : List (Rat × Rat) := ps.insertionSort fun a b => a.1 ≤ b.1

/-- Straight-line interpolation between adjacent points; the nearest point's value outside them (R201). -/
def interp (t : Rat) : List (Rat × Rat) → Option Rat
  | [] => none
  | [p] => some p.2
  | p :: q :: r =>
    if t ≤ p.1 then some p.2
    else if t ≤ q.1 then some (p.2 + (q.2 - p.2) * rdiv (t - p.1) (q.1 - p.1))
    else interp t (q :: r)

/-- REFK at a temperature, from the sets with REFKV set, where there is one (R201). -/
def refkSet (s : State) (t : Int) : Option Rat :=
  let sets := (List.range 8).filterMap fun i =>
    let c := readSet s i
    if c.seq ≠ 0 ∧ c.refkv then some c else none
  let near := sets.filter fun x => sets.all fun y => decide (|y.tset - x.tset| > 100) || decide (y.seq ≤ x.seq)
  interp t (byTemp (near.map fun c => ((c.tset : Rat), (c.refk : Rat) / 2 ^ 30)))

/-- REFK at a temperature; 1 where no set has one (R197, R201). -/
def refkAt (s : State) (t : Int) : Rat := (refkSet s t).getD 1

/-- Does T lie more than 1.00 °C outside the TENT of these entries (R201)? -/
def outside (t : Int) : List CalEnt → Bool
  | [] => false
  | e :: r => decide (t < r.foldl (fun a x => min a x.tent) e.tent - 100) || decide (r.foldl (fun a x => max a x.tent) e.tent + 100 < t)

/-- G, O and DLY of a channel with these settings at a temperature (R197, R201). -/
def traceAt (s : State) (n range sensor : Nat) (t : Int) : Trace :=
  let es := (usable s n range sensor).map (·.2)
  let at_ (f : CalEnt → Rat) (es : List CalEnt) : Option Rat := interp t (byTemp (es.map fun e => ((e.tent : Rat), f e)))
  let os := es.filter (·.ofsv)
  let refk := refkAt s t
  let kv := (refkSet s t).isSome
  match es with
  | [] => { Trace.none_ range sensor with refk := refk, refkv := kv }
  | _ :: _ =>
    { g := (at_ (fun e => (e.g : Rat) / 2 ^ 30) es).getD 1
      o := (at_ (fun e => (e.o : Rat)) os).getD 0
      dly := (at_ (fun e => (e.dly : Rat)) es).getD 2048
      refk := refk
      ofsv := os != []
      nocal := false
      tout := outside t es
      refkv := kv
      range := range
      sensor := sensor }

/-! ### Taps (R196) -/

/-- The trace ratio: G × REFK for an analog channel, G for a bitstream channel. -/
def ratio (n : Nat) (c : Trace) : Rat := if n < 112 then c.g * c.refk else c.g

/-- DTAP: DLY ÷ 16, rounded, within 0 to 255. -/
def dtapOf (c : Trace) : Nat := clampU 8 (nearest (c.dly / 16))

/-- THTAP before it is held within its bounds. -/
def thtapRaw (n : Nat) (c : Trace) : Int := nearest (1024 * (rdiv 1 (ratio n c) - 1))

/-- THTAP, within −127 to +127. -/
def thtapOf (n : Nat) (c : Trace) : Int := max (-127) (min 127 (thtapRaw n c))

/-- The trace values of a channel in force: those of R197 where no run has given it any. -/
def traceOf (s : State) (n : Nat) : Trace :=
  (mget none s.cal.trace n).getD (Trace.none_ (mget 0 s.inp.range n) (mget 0 s.inp.sensor n))

/-- The die temperature, 0.01 °C (R198). -/
def dieTemp (s : State) : Int := s.sfld F.CAL_TEMP_TDIE

/-- The values of R197 for a channel's present settings, with REFK as the sets give it (R197, R201). -/
def bareTrace (s : State) (n : Nat) : Trace :=
  let t := dieTemp s
  { Trace.none_ (mget 0 s.inp.range n) (mget 0 s.inp.sensor n) with refk := refkAt s t, refkv := (refkSet s t).isSome }

/-- Puts trace values in force on a channel in one step: its taps change and the interval is marked (R205, R206). NOCAL
or TOUT going from 0 to 1 raises its event on an enabled channel (R218). -/
def putTrace (n : Nat) (c : Trace) (s : State) : State :=
  let s0 := s.stamp F.CAL_CTAP_DTAP n
  let s1 := { s0 with cal := { s0.cal with trace := mput none s0.cal.trace n (some c) } }
  let s2 := (s1.put F.CAL_CTAP_DTAP n (dtapOf c)).putI F.CAL_CTAP_THTAP n (thtapOf n c)
  let s3 := (s2.setBit F.CAL_CTAP_NOCAL n c.nocal).setBit F.CAL_CTAP_TOUT n c.tout
  raiseIf (chanOn s n && c.tout && !s.bit F.CAL_CTAP_TOUT n) 126 n
    (raiseIf (chanOn s n && c.nocal && !s.bit F.CAL_CTAP_NOCAL n) 124 n s3)

/-- Does a trim result take effect for channel n at this boundary, or has it just done so? What a region update changes then
waits for the next boundary (R22). -/
def trimDue (s : State) (n : Nat) : Bool :=
  (mget none s.cal.pend n).isSome || mget 0 s.cal.applied n == s.clk.site + 1

/-- May what a region update changes on channel n take effect now (R21, R22)? -/
def updateDue (s : State) (n : Nat) : Bool := boundaryAt s n && !trimDue s n

/-- Were trace values formed for the RANGE and SENSOR in force on channel n? -/
def traceFits (s : State) (n : Nat) (c : Trace) : Bool := c.range == mget 0 s.inp.range n && c.sensor == mget 0 s.inp.sensor n

/-- At the splice of a live change the values for its new settings take effect (R205); without any, those of R197. -/
def traceAtSplice (n : Nat) (s : State) : State :=
  let c := (mget none s.cal.pendNew n).getD (bareTrace s n)
  let s1 := putTrace n c s
  { s1 with cal := { s1.cal with pendNew := mput none s1.cal.pendNew n none, pend := mput none s1.cal.pend n none } }

/-- A channel's stream starts with a RANGE or SENSOR that its trace values are not for: they change with it (R205). Results for other
settings are of no use. -/
def traceResume (n : Nat) (s : State) : State :=
  let s1 := if (mget none s.cal.pendNew n).all (traceFits s n) then s
    else { s with cal := { s.cal with pendNew := mput none s.cal.pendNew n none } }
  if (mget none s1.cal.trace n).all (traceFits s1 n) then s1 else traceAtSplice n s1

/-- Puts a waiting result in force (R205). -/
def applyPend (n : Nat) (s : State) : State :=
  match mget none s.cal.pend n with
  | none => s
  | some c =>
    let s1 := putTrace n c s
    { s1 with cal := { s1.cal with pend := mput none s1.cal.pend n none
                                   applied := mput 0 s1.cal.applied n (s.clk.site + 1) } }

/-- Every result still waiting is put in force, as the clocks stop (R205). -/
def applyAllPend (s : State) : State := (List.range 144).foldl (fun s n => applyPend n s) s

/-! ### Triggers (R202) -/

/-- A trim run starts: the changes without a splice that wait for one have it in progress (R205). -/
def trimBegin (s : State) : State :=
  { s with cal := { s.cal with failed1 := false }
           rmt := { s.rmt with bare := s.rmt.bare.map fun (q : LiveReq) =>
             if q.trim = ReqTrim.waiting then { q with trim := ReqTrim.running } else q } }.put F.CAL_ST_TRIMRUN 0 1

/-- A trim run ends: the changes that were waiting for it have had theirs. -/
def trimOver (s : State) : State :=
  { s with rmt := { s.rmt with bare := s.rmt.bare.map fun (q : LiveReq) =>
      if q.trim = ReqTrim.running then { q with trim := ReqTrim.over } else q } }

/-- A trigger starts a trim run; during a run it queues one further run. -/
def trimTrigger (s : State) : State :=
  if s.bit F.CAL_ST_TRIMRUN then { s with cal := { s.cal with again := true } } else trimBegin s

/-- CAL_CTAP.TOUT of channel n for a die temperature T, with event 126 where it goes from 0 to 1 on an enabled channel (R201,
R218). -/
def toutOf (n : Nat) (s : State) : State :=
  let b := outside (dieTemp s) ((usable s n (mget 0 s.inp.range n) (mget 0 s.inp.sensor n)).map (·.2))
  raiseIf (chanOn s n && b && !s.bit F.CAL_CTAP_TOUT n) 126 n (s.setBit F.CAL_CTAP_TOUT n b)

/-- TOUT of every channel follows T. -/
def toutFollow (s : State) : State := (List.range 144).foldl (fun s n => toutOf n s) s

/-- The die temperature from the four sensors, in 0.01 °C: the mean of the two middle readings; a span above TSPREAD sets
TBAD (R198). The temperature trigger is tested (R202). -/
def dieTemperature (ts : List Int) (s : State) : State :=
  let l := ts.insertionSort (· ≤ ·)
  let span := l.getD 3 0 - l.getD 0 0
  if (25 * s.fld F.CAL_TCFG_TSPREAD : Int) < span then
    raiseIf (!s.bit F.CAL_ST_TBAD) 125 noDetail (s.put F.CAL_ST_TBAD 0 1)
  else
    let t := nearest (((l.getD 1 0 + l.getD 2 0 : Int) : Rat) / 2)
    let s1 := toutFollow ((s.putI F.CAL_TEMP_TDIE 0 t).put F.CAL_ST_TBAD 0 0)
    let dt := s1.fld F.CAL_TCFG_TRIGDT
    if s1.cal.anyRun ∧ dt ≠ 0 ∧ (25 * dt : Int) < |t - s1.sfld F.CAL_TEMP_TTRIM| then trimTrigger s1 else s1

/-! ### Limits (Table 10-3) -/

/-- Full scale of a RANGE code, in engine-format units of 2⁻²⁸ (Table 03-1, R95). -/
def rangeLsb (n range : Nat) : Rat := if n < 112 then (2 ^ 28 : Rat) / 2 ^ range else 2 ^ 28

/-- The absolute limits. -/
def absOk (n range : Nat) (c : Trace) : Bool :=
  decide (9 / 10 ≤ c.g) && decide (c.g ≤ 11 / 10) && decide (rabs c.o ≤ rangeLsb n range / 100)
    && decide (0 ≤ c.dly) && decide (c.dly ≤ 4080) && decide (-127 ≤ thtapRaw n c) && decide (thtapRaw n c ≤ 127)

/-- The absolute limits of REFK. -/
def refkAbsOk (k : Rat) : Bool := decide (997 / 1000 ≤ k) && decide (k ≤ 1003 / 1000)

/-- The change limits against a value in force, with the limits of G and O as fractions and that of DLY. -/
def changeOk (n range : Nat) (lg lo ld : Rat) (old new : Trace) : Bool :=
  decide (rabs (new.g - old.g) ≤ lg * rabs old.g) && decide (rabs (new.o - old.o) ≤ lo * rangeLsb n range)
    && decide (rabs (new.dly - old.dly) ≤ ld)

/-- The change limit of REFK. -/
def refkChangeOk (old new : Rat) : Bool := decide (rabs (new - old) ≤ 5 / 10000 * rabs old)

/-! ### Reference sessions -/

def calState (s : State) : Nat := s.fld F.CAL_ST_STATE

def setCalState (k : Nat) (s : State) : State := s.put F.CAL_ST_STATE 0 k

/-- Acts on the session in progress. -/
def onSess (f : Sess → State → State) (s : State) : State :=
  match s.cal.sess with
  | some x => if ctlOn s then f x s else s
  | none => s

def setSess (x : Sess) (s : State) : State := { s with cal := { s.cal with sess := some x } }

/-- The selected channels that have not failed. -/
def sessAlive (s : State) (x : Sess) : List Nat := s.cal.sel.filter fun n => !(mget SessChan.blank x.chans n).fail

/-- Has every channel all its windows? -/
def windowsDone (s : State) (x : Sess) (zero : Bool) : Bool :=
  (sessAlive s x).all fun n =>
    let c := mget SessChan.blank x.chans n
    decide (x.rpt ≤ (if zero then c.zero.length else c.meas.length))

/-- Is the REFIN measurement over? -/
def refinDone (x : Sess) : Bool :=
  match x.refin with
  | .off => true
  | .waiting => false
  | .measured _ _ => true
  | .failed => true

/-- Where the measurements are complete, MEAS passes to RESULT, and ZERO_MEAS to APPLY_WAIT (R207). -/
def sessAdvance (x : Sess) (s : State) : State :=
  let s1 := setSess x s
  if calState s = 3 then
    if windowsDone s1 x true then setCalState 4 (setSess { x with windows := false } s1) else s1
  else if calState s = 5 then
    if x.lost || (x.windows && windowsDone s1 x false && refinDone x) then setCalState 6 s1 else s1
  else s1

end Sys2Proof.Machine
end

