-- ==== Sys2Proof/Machine/DstOps.lean ====
section
/-! DEFINITION. Disturbances, shared operations: thresholds in force, the start and end of dips, swells, interruptions,
rapid voltage changes and frequency excursions, and their records (R178 to R183). -/

namespace Sys2Proof.Machine

def getDst (s : State) (g : Nat) : DstGrp := mget DstGrp.blank s.dst.grp g
def setDst (g : Nat) (d : DstGrp) (s : State) : State :=
  { s with dst := { s.dst with grp := mput DstGrp.blank s.dst.grp g d } }

/-- The thresholds of a group as its registers hold them (Tables 09-4, 09-5). -/
def thrRegs (f : SMap Nat) (g : Nat) : DstThr where
  en    := fget f F.DST_GCFG_EN g == 1
  intth := fget f F.DST_GCFG_INTTH g
  hyst  := fget f F.DST_GCFG_HYST g
  swlth := fget f F.DST_GTHR_SWLTH g
  dipth := fget f F.DST_GTHR_DIPTH g
  rvcth := fget f F.DST_GRVC_RVCTH g
  rvchy := fget f F.DST_GRVC_RVCHY g
  fdev  := fget f F.DST_GFRQ_FDEV g
  fhyst := fget f F.DST_GFRQ_FHYST g
  fqual := fget f F.DST_GFRQ_FQUAL g
  rocth := fget f F.DST_GROC_ROCTH g

/-- Is a dip, swell, interruption, RVC or excursion of the group in progress (R183)? -/
def DstGrp.busy (d : DstGrp) : Bool := d.dip.isSome || d.swl.isSome || d.int.isSome || d.rvc.isSome || d.fex.isSome

/-- Changed thresholds take effect where nothing is in progress (R183). -/
def takeThr (s : State) (g : Nat) (d : DstGrp) : DstGrp := if d.busy then d else { d with thr := thrRegs s.flds g }

/-- A status bit of DST_GST. -/
def gst (f : Fld) (g : Nat) (b : Bool) (s : State) : State := s.setBit f g b

/-- A state of a group starts: its bit, its latch and, where it has one, its event. -/
def gstStart (f l : Fld) (event : Option Nat) (g : Nat) (s : State) : State :=
  let s1 := (s.put f g 1).put l g 1
  match event with
  | some e => raise e g s1
  | none => s1

/-- Queues a record of the group (R180). -/
def queueDst (r : DstRec) (d : DstGrp) : DstGrp := { d with queue := d.queue ++ [r] }

/-- The unsigned 16-bit word of a value in 0.01 % of UNOM. -/
def pct (q : Rat) : Nat := clampU 16 (nearest q)

/-- The 16-bit two's complement of a deviation in mHz. -/
def mhz (q : Rat) : Nat := (clampS 16 (nearest q) % 2 ^ 16).toNat

/-- The record of an ended dip (1), swell (2) or interruption (3). -/
def evRec (type endT : Nat) (cut : Bool) (e : DstEv) : DstRec := ⟨type, e, endT, pct e.ext, 0, cut⟩

/-- The record of an excursion (5): the extreme in mHz; the channel reads 0xFF. -/
def fexRec (endT : Nat) (cut : Bool) (e : DstEv) : DstRec := ⟨5, { e with chan := 0xFF }, endT, mhz e.ext, 0, cut⟩

/-- The record of a rapid voltage change (4). -/
def rvcRec (endT : Nat) (uss : Rat) (cut : Bool) (e : RvcEv) : DstRec :=
  ⟨4, ⟨e.start, e.dmax, e.chan, false, e.unlk, e.ovr, e.opened⟩, endT, pct e.dmax, pct uss, cut⟩

/-- Events in progress end with CUT where their group is disabled or its tracker enters OFF (R183). -/
def cutDst (g t : Nat) (s : State) : State :=
  let d := getDst s g
  let add (type : Nat) (o : Option DstEv) (d : DstGrp) : DstGrp := match o with
    | some e => queueDst (evRec type t true e) d
    | none => d
  let d1 := add 2 d.swl (add 1 d.dip (add 3 d.int d))
  let d2 := match d.rvc with
    | some e => queueDst (rvcRec t 0 true e) d1
    | none => d1
  let d3 := match d.fex with
    | some e => queueDst (fexRec t true e) d2
    | none => d2
  let d4 := { DstGrp.blank with queue := d3.queue, thr := d3.thr }
  let s1 := setDst g d4 s
  let s2 := (((((s1.put F.DST_GST_DIP g 0).put F.DST_GST_SWL g 0).put F.DST_GST_INT g 0).put F.DST_GST_RVC g 0).put
    F.DST_GST_FEX g 0).put F.DST_GST_ROC g 0
  (List.range 144).foldl (fun s n =>
    if groupOf s n = some g then
      ((((s.put F.DST_CST_DIP n 0).put F.DST_CST_SWL n 0).put F.DST_CST_INT n 0).put F.DST_CST_RVC n 0)
    else s) s2

/-- The largest of two deviations by magnitude. -/
def widest (a b : Rat) : Rat := if rabs a < rabs b then b else a

/-- The frequency of a cycle is tested against FNOM (R182). `lock`: the cycle ended LOCKED. -/
def fexTest (g : Nat) (lock : Bool) (start endT : Nat) (freq nom : Rat) (s : State) : State :=
  let d := takeThr s g (getDst s g)
  let dev := (freq - nom) * 1000
  if d.thr.en && d.thr.fdev != 0 then
    match d.fex with
    | none =>
      if !lock then setDst g { d with outN := 0 } s
      else if rabs dev ≤ d.thr.fdev then setDst g { d with outN := 0 } s
      else
        let d1 := { d with outN := d.outN + 1, outT := if d.outN = 0 then start else d.outT
                           outExt := if d.outN = 0 then dev else widest d.outExt dev }
        if max 1 d.thr.fqual ≤ d1.outN then
          gstStart F.DST_GST_FEX F.DST_GST_FEXL (some 21) g
            (setDst g { d1 with fex := some ⟨d1.outT, d1.outExt, 0xFF, false, false, false, false⟩, outN := 0, inN := 0 } s)
        else setDst g d1 s
    | some e =>
      if !lock then setDst g { d with fex := some { e with unlk := true }, inN := 0 } s
      else
        let e1 := { e with ext := widest e.ext dev }
        if rabs dev ≤ (d.thr.fdev : Rat) - d.thr.fhyst then
          if max 1 d.thr.fqual ≤ d.inN + 1 then
            gst F.DST_GST_FEX g false (setDst g (queueDst (fexRec endT false e1) { d with fex := none, inN := 0 }) s)
          else setDst g { d with fex := some e1, inN := d.inN + 1 } s
        else setDst g { d with fex := some e1, inN := 0 } s
  else setDst g { d with outN := 0, inN := 0 } s

/-- RoCoF at a window's end (R182): 0 without two whole LOCKED windows. -/
def rocofTest (g : Nat) (prev : Option (Rat × Rat × Bool)) (f dur : Rat) (unlk : Bool) (s : State) : State :=
  let d := takeThr s g (getDst s g)
  let ok := match prev with
    | some p => !p.2.2 && !unlk
    | none => false
  let r : Rat := match prev with
    | some p => if ok then rdiv ((f - p.1) * 1000) ((dur + p.2.1) / 2) else 0
    | none => 0
  let s1 := (setDst g d s).putI F.DST_ROCOF_ROCOF g (clampS 32 (nearest r))
  let on := ok && d.thr.rocth != 0 && decide ((d.thr.rocth : Rat) ≤ rabs r)
  if on then (if s.bit F.DST_GST_ROC g then s1 else gstStart F.DST_GST_ROC F.DST_GST_ROCL (some 23) g s1)
  else s1.put F.DST_GST_ROC g 0

/-- At a window's end FLAG stays only where a dip, swell, interruption or RVC is in progress (R183). -/
def flagTest (g : Nat) (s : State) : State :=
  let d := getDst s g
  s.setBit F.DST_GST_FLAG g (d.dip.isSome || d.swl.isSome || d.int.isSome || d.rvc.isSome)

/-- The statistic of a stream that is not enabled for it is cleared; on enable warm-up begins (R190). -/
def arcStop (n : Nat) (s : State) : State :=
  if (mget none s.dst.arc n).isSome then
    let s1 := { s with dst := { s.dst with arc := mput none s.dst.arc n none } }
    let s2 := (s1.put F.DST_ARCST_CNT n 0).put F.DST_ARCST_STAT n 0
    if s.bit F.DST_ARCST_ARCIND n then raise 27 n (s2.put F.DST_ARCST_ARCIND n 0) else s2
  else s

/-- The arc statistic of every stream whose EN has been cleared ends, so that warm-up begins when it is set again (R190). -/
def arcsChanged (s : State) : State := (List.range 144).foldl (fun s n => if s.bit F.DST_ARC_EN n then s else arcStop n s) s

end Sys2Proof.Machine
end

