-- ==== Sys2Proof/Machine/RemountOps.lean ====
section
/-! DEFINITION. Remount, shared operations: banks and spares, corrections, starting and ending slots, claims on spares,
retirement and substitution, restarts and withdrawal (R76 to R92, R451). -/

namespace Sys2Proof.Machine

/-! ### Corrections and sessions -/

/-- Puts a correction in force and stores it in the Vault, in two copies (R76, R200). -/
def storeCorr (md range : Nat) (c : Corr) (s : State) : State :=
  { s with rmt := { s.rmt with
      stored := mput none s.rmt.stored (8 * md + range) (some c)
      force := mput none s.rmt.force (8 * md + range) (some c) } }

/-- RMT_MST.UNCHK is set where the correction in force of the modulator that feeds channel n is the factory trim (R76,
Table 04-12). -/
def noteFactory (n : Nat) (s : State) : State :=
  if (mget none s.rmt.force (8 * ownMod s n + mget 0 s.inp.range n)).isNone then s.lift F.RMT_MST_UNCHK n else s

/-- The correction of a spare for a RANGE: while twin arbitration holds it, that of its latest self-check since main reset, or else
the factory trim (R76, R85). -/
def spareCorr (s : State) (sp range : Nat) : Corr :=
  if (getSp s sp).arbit.isSome ∧ (mget none s.rmt.selfGain (8 * sp + range)).isNone then
    ⟨Config.factoryOff (112 + sp) range, Config.factoryGain (112 + sp) range⟩
  else corrOf s (112 + sp) range

/-- A splice on a channel that a reference session is measuring repeats the window in progress (R209). -/
def spliceMarks (n : Nat) (s : State) : State :=
  if s.cal.sel.contains n then { s with cal := { s.cal with spoiled := n :: s.cal.spoiled } } else s

/-- Does a reference session keep routine slots from starting in this bank (R209)? -/
def sessionHolds (s : State) (b : Nat) : Bool :=
  let st := s.fld F.CAL_ST_STATE
  decide (1 ≤ st) && decide (st ≤ 5) && s.cal.sel.any fun n => bankOf n == b

/-! ### Fault counts and events of remount (R83, R92) -/

/-- Runs f and raises event 118 where FREE of a bank with enabled channels falls to 0 (R92). -/
def watchFree (b : Nat) (f : State → State) (s : State) : State :=
  let s' := f s
  match (chansOf b).filter (chanOn s') with
  | [] => s'
  | n :: _ => if (freeSpares s b).length ≠ 0 ∧ (freeSpares s' b).length = 0 then raise 118 n s' else s'

/-- A step that failed once has passed: a transient (R83). -/
def rmtTransient (b n : Nat) (s : State) : State :=
  transient 12 n 0 false false (raise 113 n (s.inc F.RMT_BCNT_RETRIES b))

/-- A slot is abandoned or cannot resume: SKIPS and event 117. -/
def skipSlot (n : Nat) (s : State) : State := raise 117 n (s.inc F.RMT_BCNT_SKIPS (bankOf n))

/-- Sets which modulator feeds a channel: 0 its own, else 1 + the spare's index (INP_ST.FEED). -/
def setFeed (n k : Nat) (s : State) : State := s.put F.INP_ST_FEED n k

/-- The channel's own modulator, or its permanent substitute, feeds it again. -/
def feedOwn (n : Nat) (s : State) : State := setFeed n (s.fld F.RMT_MST_SUB n) s

/-! ### The steps of a return (R92) -/

/-- Parts per million of a step, rounded, within a signed 16-bit field. -/
def ppmField (q : Rat) : Int := clampS 16 (nearest (q * 1000000))

/-- The steps that a return makes: the gain and offset of the new correction against the old (Table 04-12). -/
def gstep (sl : Slot) (c : Corr) : Rat := rdiv sl.oldCorr.gain c.gain - 1
def ostep (sl : Slot) (c : Corr) : Rat := rdiv (sl.oldCorr.off - c.off) sl.oldCorr.gain

/-- RMT_MDRIFT and event 112 at a return (R92). -/
def driftStep (sl : Slot) (s : State) : State :=
  match sl.newCorr with
  | none => s
  | some c =>
    let g := ppmField (gstep sl c)
    let o := ppmField (ostep sl c)
    let lim : Int := 10 * s.fld F.RMT_CFG_DRIFTLIM
    raiseIf (decide (lim ≠ 0) && (decide (lim < |g|) || decide (lim < |o|))) 112 sl.chan
      ((s.putI F.RMT_MDRIFT_GSTEP sl.chan g).putI F.RMT_MDRIFT_OSTEP sl.chan o)

/-- The new settings of a live change take effect at its splice, with their trace values (R88, R205). -/
def liveSettings (sl : Slot) (s : State) : State :=
  match sl.kind with
  | .live r k =>
    traceAtSplice sl.chan { s with inp := { s.inp with range := mput 0 s.inp.range sl.chan r
                                                       sensor := mput 0 s.inp.sensor sl.chan k } }
  | .routine => s
  | .forced => s
  | .third _ _ => s

/-! ### Starting slots -/

/-- A new slot on a spare for channel n at a RANGE, in SELFCHK (R77). -/
def newSlot (s : State) (kind : SlotKind) (n range : Nat) (selfOnly : Bool) : Slot where
  kind     := kind
  chan     := n
  range    := range
  st       := .selfchk
  est      := .settling
  failed   := false
  mtch     := none
  oldCorr  := corrOf s (ownMod s n) range
  newCorr  := none
  checked  := false
  selfOnly := selfOnly
  offline  := false
  handback := false
  checkT   := 0
  offT     := 0
  pts      := []

/-- The spare that the REFIN measurement is for: U.s0, or W.s0 where U.s0 cannot serve (R211). -/
def refinSpare (s : State) : Option Nat :=
  [24, 25].find? fun sp => !spRet s sp && !spSubst s sp && !heldHigher s sp

/-- The spare that makes a REFIN measurement now. -/
def refinBusy (s : State) : Option Nat := [24, 25].find? fun sp => (getSp s sp).refin.isSome

/-- The REFIN measurement of a session in MEAS starts as soon as its spare is IDLE: with a self-check at RANGE 0, unless one less
than 60 s old stands; without an eligible spare it fails (R211). -/
def refinStart (s : State) : State :=
  match s.cal.sess with
  | some x =>
    if x.refin = .waiting ∧ calState s = 5 ∧ (refinBusy s).isNone then
      match refinSpare s with
      | none => sessAdvance { x with refin := .failed } s
      | some sp =>
        let recent := match mget none s.rmt.selfAt (8 * sp) with
          | some t => decide (s.clk.now - t < 60000000000)
          | none => false
        if (getSp s sp).slot.isSome ∨ !running s then s
        else setSp sp { getSp s sp with refin := some (if recent then .measure else .check false) } s
    else s
  | none => s

/-- Starts a routine or forced slot on an idle spare. A channel with OPEN or OVR set is only waited for (R80). -/
def startSlot (kind : SlotKind) (sp n : Nat) (s : State) : State :=
  setSlot sp (some (newSlot s kind n (mget 0 s.inp.range n) (s.bit F.INP_ST_OPEN n || s.bit F.INP_ST_OVR n))) s

/-- Can routine slots start for this spare (R84, R89, R209, R451)? -/
def routineOk (s : State) (sp : Nat) : Bool :=
  running s && s.bit F.RMT_CFG_EN && !s.bit F.RMT_BCTL_BDIS (spBank sp) && !withdrawn s
    && !sessionHolds s (spBank sp) && !mget false s.rmt.halted (spBank sp) && spFree s sp

/-- The channel that R79 assigns a spare in slot k. -/
def assigned (s : State) (sp k : Nat) : Option Nat :=
  let b := spBank sp
  let fs := freeSpares s b
  let es := rotation s b
  let f := fs.findIdx (· == sp)
  if fs.length ≤ f ∨ es.length ≤ f then none
  else es[(k * fs.length + f + s.fld F.PWR_ST_PAIRSIDE * (es.length / 2)) % es.length]?

/-- Starts the routine slot k of a spare that has none in progress. -/
def startRoutine (sp k : Nat) (s : State) : State :=
  if routineOk s sp then
    match assigned s sp k with
    | some n => startSlot .routine sp n s
    | none => s
  else s

/-- The spare that serves a forced slot of a bank (R90). -/
def forceSpare (s : State) (b : Nat) : Option Nat :=
  (sparesOf b).find? fun sp => !spRet s sp && !spSubst s sp && !heldHigher s sp

/-- Has a bank no spare that is neither retired nor a permanent substitute? -/
def noSpare (s : State) (b : Nat) : Bool := (sparesOf b).all fun sp => spRet s sp || spSubst s sp

/-- A forced request is refused (R90). -/
def refuseForce (s : State) : State := (s.put F.RMT_FORCE_GO 0 0).put F.RMT_FORCE_REJ 0 1

/-- Starts a pending forced slot where its spare is idle: GO clears. A request that can no longer be served is refused (R90). -/
def serveForce (b : Nat) (s : State) : State :=
  let n := s.fld F.RMT_FORCE_STREAM
  if running s ∧ s.bit F.RMT_FORCE_GO ∧ bankOf n = b then
    if n ≥ 112 ∨ !chanOn s n ∨ withdrawn s ∨ noSpare s b then refuseForce s
    else match forceSpare s b with
    | some sp =>
      if (getSp s sp).slot.isNone ∧ (getSp s sp).refin.isNone then startSlot .forced sp n (s.put F.RMT_FORCE_GO 0 0) else s
    | none => s
  else s

/-- Work that waits for a spare is looked at again after a claim, or the end of one, in bank b: another spare may be the one that
serves it now (R90, R211). -/
def settleBank (b : Nat) (s : State) : State := serveForce b (refinStart s)

/-- The REFIN measurement ends with its session, and its spare takes other work. -/
def refinDrop (s : State) : State :=
  match refinBusy s with
  | some sp => serveForce (spBank sp) (setSp sp { getSp s sp with refin := none } s)
  | none => s

/-- The live change that a slot makes, where it is still to take effect. -/
def Slot.liveReq? (s : State) (sl : Slot) : Option LiveReq :=
  match sl.kind with
  | .live r k =>
    if mget 0 s.inp.range sl.chan = r ∧ mget 0 s.inp.sensor sl.chan = k then none else some ⟨sl.chan, r, k, .waiting⟩
  | .routine => none
  | .forced => none
  | .third _ _ => none

/-- The spares of a bank that a live change may claim (R88). -/
def liveCandidates (s : State) (b : Nat) : List Nat :=
  (sparesOf b).filter fun sp => !spRet s sp && !spSubst s sp && !heldHigher s sp

/-- Has a slot not reached its handover? -/
def beforeHandover (sl : Slot) : Bool := sl.st == .selfchk || sl.st == .ovlOut

/-- The spare that a live change takes now: an idle one, else one whose routine slot has not reached its handover. -/
def livePick (s : State) (b : Nat) : Option Nat :=
  let c := liveCandidates s b
  (c.find? fun sp => (getSp s sp).slot.isNone).orElse fun _ =>
    c.find? fun sp => match (getSp s sp).slot with
      | some sl => beforeHandover sl
      | none => false

/-- Starts a live change on a spare; a slot it interrupts is kept for R86. -/
def startLive (q : LiveReq) (sp : Nat) (s : State) : State :=
  let x := getSp s sp
  let s1 := setSp sp { x with kept := x.slot.orElse (fun _ => x.kept), refin := none
                              slot := some (newSlot s (.live q.range q.sensor) q.chan q.range false) } s
  { s1 with rmt := { s1.rmt with live := s1.rmt.live.filter (· ≠ q) } }

/-- Serves the first live change that waits for a spare of this bank. -/
def serveLive (b : Nat) (s : State) : State :=
  match s.rmt.live.find? (fun q => bankOf q.chan == b) with
  | none => s
  | some q =>
    match livePick s b with
    | some sp => startLive q sp s
    | none => s

/-! ### Lent slots (R112) -/

def setChange (n : Nat) (c : Option RespChange) (s : State) : State :=
  { s with flt := { s.flt with change := mput none s.flt.change n c } }

/-- Where the response change of channel n stands. -/
def changePh (s : State) (n : Nat) : Option RespPh := (mget none s.flt.change n).map RespChange.ph

/-- The first free spare of a bank that a response change may claim, with the priority of a live change (R20, R112). -/
def lentPick (s : State) (b : Nat) : Option Nat :=
  let c := freeSpares s b
  (c.find? fun sp => (getSp s sp).slot.isNone).orElse fun _ =>
    c.find? fun sp => match (getSp s sp).slot with
      | some sl => beforeHandover sl
      | none => false

/-- A response change that waits for a spare of this bank claims one: SETTLE reads 1 from the claim, and the spare's engine slot
takes the new chain on the channel's stream. -/
def serveResp (b : Nat) (s : State) : State :=
  match (chansOf b).find? fun n => changePh s n == some .waitSpare with
  | none => s
  | some n =>
    match lentPick s b, mget none s.flt.change n with
    | some sp, some c =>
      let x := getSp s sp
      setChange n (some { c with ph := .warming })
        (pathLend n sp c.resp (setSp sp { x with kept := x.slot.orElse (fun _ => x.kept), slot := none, lent := some n, refin := none }
          (setDone n (warmUs c.resp) (s.lift F.FLT_ST_SETTLE n))))
    | _, _ => s

/-- A response change loses the spare lent to it: it begins its warm-up again as `ph` says; one whose crossfade has begun has its
chain in the channel's own slot already, and is over (R112). -/
def lostSpare (n : Nat) (ph : RespPh) (s : State) : State :=
  let s1 := s.lower F.FLT_ST_SETTLE n
  match mget none s1.flt.change n with
  | some c => setChange n (if c.ph = .fading then none else some { c with ph := ph }) s1
  | none => s1

/-- A lent spare is taken away: the change begins its warm-up again when a free spare returns (R112). -/
def unlend (sp : Nat) (s : State) : State :=
  match (getSp s sp).lent with
  | none => s
  | some n => lostSpare n .waitSpare (setSp sp { getSp s sp with lent := none } s)

/-- Is this a slot of the rotation, routine or forced, and no live change or third opinion? -/
def Slot.rotating (sl : Slot) : Bool :=
  match sl.kind with
  | .routine => true
  | .forced => true
  | .live _ _ => false
  | .third _ _ => false

/-- Resumes a pre-empted slot once its spare is released (R86): from the handover where it had been made, reusing a
self-check less than 60 s old, with the points of the off-line measurement that were completed; else again from its self-check; a
routine or forced slot then goes no further (R80), and one whose next slot start has passed does not resume. -/
def resume (sp : Nat) (s : State) : State :=
  let x := getSp s sp
  match x.kept with
  | none => s
  | some k =>
    let s1 := setSp sp { x with kept := none, missed := false } s
    if x.missed && k.rotating then skipSlot k.chan s1
    else if beforeHandover k then
      setSlot sp (some { k with st := .selfchk, est := .settling, failed := false, selfOnly := k.selfOnly || k.rotating }) s1
    else
      let st := if s.clk.now - k.checkT < 60000000000 then SpState.ovlOut else SpState.selfchk
      setSlot sp (some { k with st := st, est := .settling, failed := false, offline := false }) s1

/-- The work of a spare that comes free. -/
def takeWork (sp : Nat) (s : State) : State :=
  let b := spBank sp
  let s1 := serveResp b (serveLive b s)
  let s2 := if (getSp s1 sp).slot.isNone ∧ (getSp s1 sp).arbit.isNone ∧ (getSp s1 sp).lent.isNone then resume sp s1 else s1
  let s3 := serveForce b (refinStart s2)
  match (getSp s3 sp).late with
  | some k =>
    if (getSp s3 sp).slot.isNone ∧ (getSp s3 sp).arbit.isNone ∧ (getSp s3 sp).lent.isNone ∧ (getSp s3 sp).refin.isNone then
      startRoutine sp k (setSp sp { getSp s3 sp with late := none } s3)
    else s3
  | none => s3

/-- What a spare does when it comes free: it serves a live change, resumes a kept slot, serves a forced slot, or takes the slot
start that fell due meanwhile. Where that leaves the bank without a free spare event 118 is raised (R92). -/
def nextWork (sp : Nat) (s : State) : State := watchFree (spBank sp) (takeWork sp) s

/-- Ends a slot that ran its course. -/
def completeSlot (sp : Nat) (s : State) : State :=
  nextWork sp (setSlot sp none (s.inc F.RMT_BCNT_SLOTS (spBank sp)))

/-- A change of RANGE or SENSOR of an enabled analog channel is asked for (R71, R88): through a spare of its bank, or
without one where the spare slots are withdrawn or the bank has no usable spare (R451). -/
def liveRequest (n range sensor : Nat) (s : State) : State :=
  let q : LiveReq := ⟨n, range, sensor, .waiting⟩
  let live := s.rmt.live.filter (·.chan != n)
  let bare := s.rmt.bare.filter (·.chan != n)
  if withdrawn s || noSpare s (bankOf n) then { s with rmt := { s.rmt with live := live, bare := bare ++ [q] } }
  else settleBank (bankOf n) <| watchFree (bankOf n) (serveLive (bankOf n)) { s with rmt := { s.rmt with live := live ++ [q], bare := bare } }

/-- A change of RESP0 to RESP3 of channel n is asked for: through a lent slot where the bank has a usable spare and its
slots are in service, else by the preset-state method (R111). -/
def respRequest (n : Nat) (resp : List Nat) (s : State) : State :=
  let ask (ph : RespPh) : State := setChange n (some ⟨resp, ph⟩) s
  let free := (sparesOf (bankOf n)).foldl (fun s sp =>
    let x := getSp s sp
    if x.lent = some n then setSp sp { x with lent := none } (s.lower F.FLT_ST_SETTLE n) else s) (ask .waitSpare)
  let wait := settleBank (bankOf n) (watchFree (bankOf n) (serveResp (bankOf n)) free)
  let again := match (sparesOf (bankOf n)).find? fun sp => (getSp s sp).lent == some n with
    | some sp => pathLend n sp resp (setDone n (warmUs resp) (ask .warming))
    | none => setDone n (warmUs resp) (ask .warming)
  if n < 112 ∧ !withdrawn s ∧ !noSpare s (bankOf n) then
    match changePh s n with
    | some .warming => again
    | some .warmed => again
    | some .waitSpare => wait
    | some .fading => wait
    | some .preset => wait
    | none => wait
  else ask .preset

/-- A channel stops: its response change ends, and the spare lent to it is released. -/
def dropResp (n : Nat) (s : State) : State :=
  (sparesOf (bankOf n)).foldl (fun s sp =>
    let x := getSp s sp
    if x.lent = some n then nextWork sp (setSp sp { x with lent := none } s) else s)
    (setChange n none (if (mget none s.flt.change n).isSome then s.lower F.FLT_ST_SETTLE n else s))

/-! ### Slots that are lost, retirement and substitution -/

/-- A slot that is given up (SKIPS and event 117): a live change that has not taken effect is asked for again, one that can have no
spare any longer with a trim run of its own; a third opinion, which is part of the slot of spare A, leaves A to return to the pins and
estimate again (R84, R86, R88). -/
def dropSlot (k : Slot) (s : State) : State :=
  match k.kind with
  | .live _ _ =>
    let s0 := skipSlot k.chan s
    match k.liveReq? s with
    | some q =>
      let s1 := liveRequest q.chan q.range q.sensor s0
      if withdrawn s || noSpare s (bankOf q.chan) then trimTrigger s1 else s1
    | none => s0
  | .third a _ =>
    match (getSp s a).slot with
    | some sl => if sl.est = .third then setSlot a (some { sl with est := .settling }) s else s
    | none => s
  | .routine => skipSlot k.chan s
  | .forced => skipSlot k.chan s

/-- A spare loses the slot it holds back, if any. -/
def dropKept (sp : Nat) (s : State) : State :=
  match (getSp s sp).kept with
  | none => s
  | some k => dropSlot k (setSp sp { getSp s sp with kept := none } s)

/-- Where the bank has lost its last usable spare, the changes that waited for one are made without (R88, R111, R451), with a trim
run for them, and a forced request is refused; where another spare is left, a forced request may be its own now (R90). -/
def bankCheck (b : Nat) (s : State) : State :=
  if noSpare s b then
    let mine := s.rmt.live.filter fun q => bankOf q.chan == b
    let s1 := { s with rmt := { s.rmt with live := s.rmt.live.filter (fun q => bankOf q.chan != b)
                                           bare := s.rmt.bare ++ mine } }
    let s2 := if mine.isEmpty then s1 else trimTrigger s1
    let s3 := (chansOf b).foldl (fun s n => match mget none s.flt.change n with
      | some c => if c.ph = .waitSpare then setChange n (some { c with ph := .preset }) s else s
      | none => s) s2
    serveForce b s3
  else serveForce b s

/-- Retires a spare (Table 04-4, R84): event 114, and a permanent fault of class 12. -/
def retireSpare (sp : Nat) (s : State) : State :=
  bankCheck (spBank sp) (dropKept sp (watchFree (spBank sp) (fun s =>
    let k := (getSp s sp).kept
    let s1 := retarget sp (fun s =>
      setSp sp { SpareSt.idle with kept := k } (unlend sp ((s.put F.RMT_SST_RET sp 1).put F.RMT_SST_SUBST sp 0))) s
    permanent 12 (144 + sp) 0 ((freeSpares s1 (spBank sp)) != []) false none
      (raiseIf (!s.bit F.RMT_SST_RET sp) 114 (144 + sp) s1)) s))

/-- Retires the modulator of channel n and makes spare sp its permanent substitute (R87). A substitute that is retired
in its turn is a retired spare. The correction under which the spare feeds the channel is stored (R76). What the spare held back is
lost to it, and the rotation of its bank is halted no longer. -/
def substitute (n sp : Nat) (mtch : Option (Rat × Rat)) (s : State) : State :=
  let s' := watchFree (bankOf n) (fun s =>
    let k := s.fld F.RMT_MST_SUB n
    let s0 := if k = 0 then s else retireSpare (spareAt (bankOf n) (k - 1)) s
    let range := mget 0 s.inp.range n
    let s1 := storeCorr (112 + sp) range (spareCorr s0 sp range) s0
    let s2 := retarget sp (fun s => setSp sp { SpareSt.idle with mtch := mtch, kept := (getSp s sp).kept }
      (((s.put F.RMT_MST_RET n 1).put F.RMT_MST_SUB n (spIdx sp + 1)).put F.RMT_SST_SUBST sp 1)) s1
    permanent 12 n 0 true false (some n) (raiseIf (!s.bit F.RMT_MST_RET n) 115 n s2)) s
  bankCheck (bankOf n) (dropKept sp
    { s' with rmt := { s'.rmt with halted := mput false s'.rmt.halted (bankOf n) false } })

/-- A slot is given up with nothing to follow it: a third opinion is part of another spare's slot. -/
def countLost (sl : Slot) (s : State) : State :=
  match sl.kind with
  | .third _ _ => s
  | .live _ _ => skipSlot sl.chan s
  | .routine => skipSlot sl.chan s
  | .forced => skipSlot sl.chan s

/-- Abandons what a spare has in progress and what it held back (R76, R78): the channel is fed by its own modulator, and matches are
discarded. -/
def abandonSpare (sp : Nat) (s : State) : State :=
  let x := getSp s sp
  let s0 := x.arbit.elim s fun n => feedOwn n s
  let s1 := match x.slot with
    | none => s0
    | some sl => countLost sl (feedOwn sl.chan s0)
  setSp sp SpareSt.idle (x.kept.elim s1 fun k => countLost k s1)

/-- Every slot and claim ends on entry to STANDBY or loss of main power (R76). -/
def abandonAll (s : State) : State :=
  let s1 := (s.rmt.spares.map (·.1)).foldl (fun s sp => abandonSpare sp s) s
  { s1 with rmt := { s1.rmt with halted := [], live := [], bare := [], stepNow := [], arbReq := [] } }

/-! ### Estimation and crossfade (R81, R82) -/

/-- The estimator of R81, on statistics in fractions of range. -/
def estimate (e : EstStats) : Rat × Rat :=
  if 1 / 10000 ≤ e.varx then
    let a := rdiv e.cov e.vary
    (a, e.mx - a * e.my)
  else if 1 / 100 ≤ rabs e.mx then (rdiv e.mx e.my, 0)
  else (1, e.mx - e.my)

/-- The handover match test of Table 04-3. -/
def matchOk (s : State) (m : Rat × Rat) : Bool :=
  decide (rabs (m.1 - 1) ≤ (s.fld F.RMT_CFG_MATCHLIM : Rat) / 10000) && decide (rabs m.2 ≤ 5 / 10000)

/-- The return cross-check test of Table 04-3. -/
def checkOk (s : State) (m : Rat × Rat) : Bool :=
  decide (rabs (m.1 - 1) ≤ (s.fld F.RMT_CFG_CHKTOL : Rat) / 100000) && decide (rabs m.2 ≤ 2 / 100000)

/-- A match as it is kept: its offset, a fraction of the range in force on the channel, in units of 2⁻²⁸. It stays what it is while
the spare stands in, whatever becomes of the RANGE (R81). -/
def keepMatch (s : State) (n : Nat) (m : Rat × Rat) : Rat × Rat := (m.1, m.2 * rangeLsb n (mget 0 s.inp.range n))

/-- May a crossfade of channel n start now (R82)? -/
def xfadeClear (s : State) (n : Nat) : Bool := !s.bit F.INP_ST_OVR n && !mget false s.rmt.stepNow n

/-- Where an estimation of channel n stands that begins now: it waits until OVR has cleared and no step is recent (R82). -/
def beginEst (s : State) (n : Nat) : EstPh := if xfadeClear s n then .window else .restarted

/-- Has a slot an overlap estimation, or a crossfade that follows one, before it? -/
def Slot.overlaps (sl : Slot) : Bool := sl.st == .ovlOut || sl.st == .ovlRet

/-- An overload or a step of channel n restarts the estimation in progress on it (R82). -/
def restartEst (n : Nat) (s : State) : State :=
  (sparesOf (bankOf n)).foldl (fun s sp =>
    match (getSp s sp).slot with
    | some sl =>
      if sl.chan = n ∧ sl.overlaps ∧ sl.est = .window then
        setSlot sp (some { sl with est := .restarted }) s
      else s
    | none => s) s

/-- The crossfade of a passed estimation: at once, or held back (R82). A live change waits for a grid-cycle boundary
(R88). -/
def beginXfade (sp : Nat) (sl : Slot) (s : State) : State :=
  let wait := match sl.kind with
    | .live _ _ => sl.st == .ovlOut
    | .routine => false
    | .forced => false
    | .third _ _ => false
  if wait || !xfadeClear s sl.chan then setSlot sp (some { sl with est := .held }) s
  else setSlot sp (some { sl with st := if sl.st = .ovlRet then .xfRet else .xfOut, est := .settling }) s

/-- Once OVR has cleared and no step is recent, a held crossfade of channel n starts, and a restarted estimation runs
its window again (R82). -/
def releaseHeld (n : Nat) (s : State) : State :=
  if xfadeClear s n then
    (sparesOf (bankOf n)).foldl (fun s sp =>
      match (getSp s sp).slot with
      | some sl =>
        if sl.chan = n ∧ sl.overlaps ∧ sl.est = .held then beginXfade sp sl s
        else if sl.chan = n ∧ sl.overlaps ∧ sl.est = .restarted then setSlot sp (some { sl with est := .window }) s
        else s
      | none => s) s
  else s

/-! ### Claims by twin arbitration (R85, R86) -/

/-- Milliseconds times ten until a claimed spare is on the disputed pins (Table 04-5); none where it cannot be. -/
def claimTime (s : State) (sp : Nat) : Option Nat :=
  if spRet s sp || spSubst s sp || (getSp s sp).arbit.isSome then none
  else match (getSp s sp).slot with
    | none => some 100
    | some sl => match sl.st with
      | .selfchk => some 100
      | .ovlOut => some 100
      | .xfOut => some 304
      | .standin => some 304
      | .ovlRet => some 104
      | .xfRet => some 104
      | .leaving => some 100

/-- The spare that arbitration takes: the first to reach the channel, s0 when two are equal (R85). -/
def claimPick (s : State) (b : Nat) : Option Nat :=
  (sparesOf b).foldl (fun best sp =>
    match claimTime s sp, best with
    | none, _ => best
    | some _, none => some sp
    | some t, some q => if t < (claimTime s q).getD 0 then some sp else best) none

/-- Steps of the off-line measurement that a slot has completed: the shorted inputs and nine points of 2 s each, from 50 ms after
the modulator left the pins (Table 04-1). -/
def Slot.stepsDone (now : Nat) (sl : Slot) : Nat :=
  if sl.st = .standin ∧ sl.offline then min 10 (sl.pts.length + (now - sl.offT) / 2000000000) else sl.pts.length

/-- The readings of an off-line measurement that a slot has completed: those of the steps since it began, or went on, are free
values. -/
def Slot.readings (md now : Nat) (sl : Slot) : List Rat :=
  sl.pts ++ ((List.range (sl.stepsDone now)).drop sl.pts.length).map fun i => Config.offlineRead md sl.range i sl.offT

/-- A slot as it is kept for R86: without the correction measured in it, and with the readings completed. -/
def Slot.keep (s : State) (sl : Slot) : Slot :=
  { sl with newCorr := none, checked := false, offline := false, pts := sl.readings (ownMod s sl.chan) s.clk.now }

/-- The samples that have passed of the crossfade in progress on a spare (R81). -/
def fadeCount (s : State) (sp : Nat) : Nat := (getPath s (144 + sp)).xf

/-- A return that has begun its crossfade completes: its steps and its slot are counted (R85, R92). -/
def finishReturn (sp : Nat) (sl : Slot) (s : State) : State :=
  let s1 := if sl.st = .leaving then s
    else spliceMarks sl.chan (glideFrom (if sl.st = .xfRet then fadeCount s sp else 0) sl.chan (feedOwn sl.chan)
      (if sl.handback ∧ ¬ sl.checked then s else driftStep sl s))
  setSlot sp none (s1.inc F.RMT_BCNT_SLOTS (spBank sp))

/-- Takes a spare from its slot, as Table 04-5 gives for its state: a return that has begun its crossfade, or has passed its
cross-check, completes; one that has not reached its handover leaves the channel; otherwise the channel's own modulator feeds again
under its previous correction, by a crossfade from the spare, and the slot is kept for R86. The tests of the handover match that
Table 04-5 puts on the return from STANDIN have no consequence there, so none is drawn (DESIGN CHOICE). -/
def preempt (sp : Nat) (s : State) : State :=
  let x := getSp s sp
  match x.slot with
  | none => if x.refin.isSome then setSp sp { x with refin := none } s else unlend sp s
  | some sl =>
    if sl.st = .xfRet ∨ sl.st = .leaving ∨ sl.checked then finishReturn sp sl s
    else
      let s1 := dropKept sp s
      let away (s : State) : State := setSp sp { getSp s sp with slot := none, kept := some (sl.keep s) } s
      if beforeHandover sl then away s1
      else if sl.st = .xfOut then spliceMarks sl.chan (feedOwn sl.chan (liveSettings sl (away s1)))
      else spliceMarks sl.chan (glide sl.chan (fun s => feedOwn sl.chan (away s)) s1)

/-- Does spare sp stand in for channel n, so that the channel's own modulator serves as witness (R85)? -/
def standsFor (s : State) (sp n : Nat) : Bool :=
  match (getSp s sp).slot with
  | some sl => sl.chan == n && (sl.st == .xfOut || sl.st == .standin || sl.st == .ovlRet)
  | none => false

/-- The spare gives up its work for channel n; where it stands in for that very channel it goes on feeding it, under its match, a
crossfade to it being completed first. -/
def yieldTo (n sp : Nat) (s : State) : State :=
  match (getSp s sp).slot.filter fun _ => standsFor s sp n with
  | some sl =>
    let s1 := dropKept sp s
    let s2 := setSp sp { getSp s1 sp with slot := none, arbit := some n, mtch := sl.mtch, kept := some (sl.keep s) } s1
    if sl.st = .xfOut then
      spliceMarks n (liveSettings sl (glideFrom (fadeCount s sp) n (setFeed n (spIdx sp + 1)) s2))
    else s2
  | none => let s1 := preempt sp s; setSp sp { getSp s1 sp with arbit := some n } s1

/-- Twin arbitration claims a spare for channel n: event 119. Answers the spare (R85). -/
def claimSpare (n : Nat) (s : State) : Option Nat × State :=
  if withdrawn s then (none, s)
  else match claimPick s (bankOf n) with
    | none => (none, s)
    | some sp => (some sp, raise 119 n (settleBank (bankOf n) (watchFree (bankOf n) (yieldTo n sp) s)))

/-- Arbitration releases the spare that holds channel n (R86). -/
def releaseSpare (n : Nat) (s : State) : State :=
  match (sparesOf (bankOf n)).find? fun sp => (getSp s sp).arbit == some n with
  | none => s
  | some sp =>
    let s1 := if s.fld F.INP_ST_FEED n = spIdx sp + 1 then spliceMarks n (glide n (feedOwn n) s) else s
    nextWork sp (setSp sp { getSp s1 sp with arbit := none, mtch := none } s1)

/-! ### Disagreement (R84) -/

/-- The other spare of the bank, where it can serve as B (R84). -/
def spareB (s : State) (a : Nat) : Option Nat :=
  (sparesOf (spBank a)).find? fun sp => sp != a && !spRet s sp && !spSubst s sp && (getSp s sp).arbit.isNone

/-- A second match or cross-check failure on spare a: B is brought in, or event 116 (R84). In the solo out case the slot ends; where
it was a live change, that is not made, and not asked for again until the host writes it anew: R88 does not say (DESIGN CHOICE). -/
def disagree (a : Nat) (sl : Slot) (out : Bool) (s : State) : State :=
  match spareB s a with
  | some b =>
    let claim (s : State) : State :=
      let s1 := preempt b s
      setSlot b (some (newSlot s1 (.third a out) sl.chan sl.range false)) s1
    setSlot a (some { sl with est := .third }) (settleBank (spBank a) (watchFree (spBank a) claim s))
  | none =>
    let s1 := raise 116 sl.chan (s.lift F.RMT_MST_UNCHK sl.chan)
    if paired s1 then
      { setSlot a (some { sl with est := .verdict }) s1 with
        rmt := { (setSlot a (some { sl with est := .verdict }) s1).rmt with arbReq := s1.rmt.arbReq ++ [sl.chan] } }
    else if out then nextWork a (skipSlot sl.chan (setSlot a none s1))
    else
      let s2 := setSlot a (some { sl with st := .standin, est := .verdict, newCorr := none }) s1
      { s2 with rmt := { s2.rmt with halted := mput false s2.rmt.halted (spBank a) true } }

/-! ### Changes of RANGE and SENSOR still pending (R71) -/

/-- The settings that a slot of channel n brings, where it is a live change that has yet to start its crossfade. -/
def Slot.bringing (n : Nat) (sl : Slot) : Option (Nat × Nat) :=
  match sl.kind with
  | .live r k => if sl.chan = n ∧ beforeHandover sl then some (r, k) else none
  | .routine => none
  | .forced => none
  | .third _ _ => none

/-- The change of RANGE and SENSOR of channel n that is pending: asked for, or brought by a slot, in progress or held back. -/
def pendingChange (s : State) (n : Nat) : Option (Nat × Nat) :=
  (((s.rmt.live ++ s.rmt.bare).find? (·.chan == n)).map fun q => (q.range, q.sensor)).orElse fun _ =>
    (sparesOf (bankOf n)).findSome? fun sp =>
      ((getSp s sp).slot.bind (Slot.bringing n)).orElse fun _ => (getSp s sp).kept.bind (Slot.bringing n)

/-- Is a live change of channel n in its crossfade? -/
def changeFading (s : State) (n : Nat) : Bool :=
  (sparesOf (bankOf n)).any fun sp => (getSp s sp).slot.any fun sl =>
    match sl.kind with
    | .live _ _ => sl.chan == n && sl.st == .xfOut
    | .routine => false
    | .forced => false
    | .third _ _ => false

/-- A pending change of channel n is given up: a slot that brings one is abandoned (event 117). -/
def cancelChange (n : Nat) (s : State) : State :=
  let s0 := { s with rmt := { s.rmt with live := s.rmt.live.filter (·.chan != n), bare := s.rmt.bare.filter (·.chan != n) } }
  if n < 112 then
    (sparesOf (bankOf n)).foldl (fun s sp =>
      let x := getSp s sp
      let s1 := if (x.kept.bind (Slot.bringing n)).isSome then skipSlot n (setSp sp { x with kept := none } s) else s
      if (x.slot.bind (Slot.bringing n)).isSome then nextWork sp (skipSlot n (setSlot sp none s1)) else s1) s0
  else s0

/-- After the splice of a live change, settings written meanwhile are asked for (R71). -/
def changeAgain (n : Nat) (s : State) : State :=
  let r := s.fld F.INP_CFG_RANGE n
  let k := s.fld F.INP_CFG_SENSOR n
  if r = mget 0 s.inp.range n ∧ k = mget 0 s.inp.sensor n then s else liveRequest n r k s

/-! ### Withdrawal of the spare slots (R451) -/

/-- A dispute on channel n has no witness on this side (R238, R451). -/
def noWitness (n : Nat) (s : State) : State :=
  match mget none s.twn.disputes n with
  | none => s
  | some d => { s with twn := { s.twn with disputes := mput none s.twn.disputes n (some { d with wit := none, cycles := [], mine := 3 }) } }

/-- One spare gives up its slot or claim when the spare-stream slots are withdrawn: a spare that arbitration holds and that feeds
the disputed channel hands the stream back. -/
def withdrawOne (sp : Nat) (s : State) : State :=
  let x := getSp s sp
  let s1 := match x.arbit with
    | some n =>
      let s0 := noWitness n s
      if s.fld F.INP_ST_FEED n = spIdx sp + 1 then spliceMarks n (glide n (feedOwn n) s0) else s0
    | none => s
  let s2 := match x.lent with
    | some n => lostSpare n .preset s1
    | none => s1
  let end_ (sl : Option Slot) : State :=
    setSp sp { x with slot := sl, lent := none, arbit := none, mtch := none, late := none, missed := false, refin := none } s2
  dropKept sp (match x.slot with
    | none => end_ none
    | some sl => match sl.st with
      | .selfchk => dropSlot sl (end_ none)
      | .ovlOut => dropSlot sl (end_ none)
      | .xfOut => end_ (some { sl with handback := true })
      | .standin => end_ (some { sl with st := .xfRet, est := .settling, offline := false, handback := true })
      | .ovlRet => end_ (some { sl with st := .xfRet, est := .settling, handback := true })
      | .xfRet => end_ (some { sl with handback := true })
      | .leaving => end_ (some sl))

/-- The spare-stream slots are withdrawn: every spare gives up its work, live changes go on without a spare, response changes by the
preset-state method, and a forced slot is refused. -/
def withdrawSpares (s : State) : State :=
  let s2 := (List.range 26).foldl (fun s sp => withdrawOne sp s) s
  let s3 := { s2 with rmt := { s2.rmt with halted := [], live := [], bare := s2.rmt.bare ++ s2.rmt.live } }
  let s4 := if s2.rmt.live.isEmpty then s3 else trimTrigger s3
  let s5 := (List.range 112).foldl (fun s n => match mget none s.flt.change n with
    | some c => if c.ph = .waitSpare then setChange n (some { c with ph := .preset }) s else s
    | none => s) s4
  let s6 := (List.range 26).foldl (fun s sp => fastClear (144 + sp) s) s5
  if s6.bit F.RMT_FORCE_GO then refuseForce s6 else s6

end Sys2Proof.Machine
end

