-- ==== Sys2Proof/Machine/FilterOps.lean ====
section
/-! DEFINITION. Filter chain, shared operations: the service the engine gives by lanes in service, what starts with a
stream, and how changes of filter settings are taken up (R96, R101, R104, R111). -/

namespace Sys2Proof.Machine

/-- RESP0 to RESP3 of channel n as the registers hold them. -/
def respCfg (m : SMap Nat) (n : Nat) : List Nat :=
  [fget m F.FLT_CFG_RESP0 n, fget m F.FLT_CFG_RESP1 n, fget m F.FLT_CFG_RESP2 n, fget m F.FLT_CFG_RESP3 n]

/-- The checks of R104 on one stream's configuration. -/
def fltCfgOk (m : SMap Nat) (n : Nat) : Bool :=
  let r := respCfg m n
  let f := fget m F.FLT_CFG_FPR n
  r.all (fun x => decide (x ≤ 50)) && decide ((r.map sectionsOf).sum ≤ 4)
    && (f == 0 || (decide (51 ≤ f) && decide (f ≤ 54)))

/-- The threshold trim of a channel (R196). -/
def threshTrim (s : State) (n : Nat) : Rat := 1 + (s.sfld F.CAL_CTAP_THTAP n : Rat) / 1024

/-- Does the fast path of this stream run (R101, R102, R111)? -/
def fastRuns (s : State) (n : Nat) : Bool :=
  running s && !s.bit F.FLT_ENG_FPOFF && fprOf s n != 0 && (decide (n < 144) || !withdrawn s)
    && (match slotChan s n with
        | some c => chanOn s c
        | none => false)

/-- Are the comparators of this stream evaluated: the fast path runs and no hold-off is in progress (R110, R111)? -/
def fastOn (s : State) (n : Nat) : Bool := fastRuns s n && !mget false s.flt.holdoff n

/-- L of R110: the samples of a nominal cycle of the channel's grid group, or 24 in no group. -/
def lookBack (s : State) (n : Nat) : Nat :=
  match (slotChan s n).bind (groupOf s) with
  | some g => if (mget GrdTrk.blank s.grd.trk g).f60 then 400 else 480
  | none => 24

/-- The streams whose slots run channel n: its own, and those of spares with TARGET n (R102). -/
def slotsOf (s : State) (n : Nat) : List Nat :=
  n :: (if n < 112 then (sparesOf (bankOf n)).filterMap fun sp => if spTarget s sp = some n then some (144 + sp) else none else [])

/-- The service of Table 05-3 for the lanes now in service. Withdrawal of the spare-stream slots takes effect on the
spares (R451). -/
def fltService (s : State) : State :=
  let k := lanesUp s
  let s1 := if k ≤ 9 ∧ ¬ s.bit F.FLT_ENG_SHED then withdrawSpares (s.put F.FLT_ENG_SHED 0 1) else s
  if k ≤ 8 ∧ ¬ s1.bit F.FLT_ENG_FPOFF then
    (List.range 170).foldl (fun s n => fastClear n s) (s1.put F.FLT_ENG_FPOFF 0 1)
  else s1

/-- A stream starts: its settings come into force, its decimator is cleared, its fast path starts from zero, and each tap discards
its first four frames (R93, R96). -/
def streamStart (n : Nat) (s : State) : State :=
  let s1 := pathStart n (fastClear n s)
  { s1 with flt := { s1.flt with resp := mput [0, 0, 0, 0] s1.flt.resp n (respCfg s1.flds n)
                                 fpr := mput 0 s1.flt.fpr n (s1.fld F.FLT_CFG_FPR n)
                                 change := mput none s1.flt.change n none
                                 fresh := mput false s1.flt.fresh n true } }

/-- A change of FPR takes effect at once on every slot that runs the channel: OVC and STEP clear, FAST restarts from zero, and the
comparators are held off for 24 samples (R102, R111). -/
def fprChange (n : Nat) (s : State) : State :=
  let v := s.fld F.FLT_CFG_FPR n
  let off (s : State) (m : Nat) : State :=
    let s1 := fastClear m s
    { s1 with flt := { s1.flt with holdoff := mput false s1.flt.holdoff m (v != 0) } }
  let s1 := (slotsOf s n).foldl off s
  releaseHeld n { s1 with flt := { s1.flt with fpr := mput 0 s1.flt.fpr n v } }

/-- The registers of FLT_CFG[n] hold new values: each changed field takes effect as Table 05-8 gives; a channel that is
not running takes them when it starts. -/
def fltCfgChanged (n : Nat) (s : State) : State :=
  if running s && chanOn s n then
    let s1 := if s.fld F.FLT_CFG_FPR n = mget 0 s.flt.fpr n then s else fprChange n s
    let cur := match mget none s1.flt.change n with
      | some c => c.resp
      | none => mget [0, 0, 0, 0] s1.flt.resp n
    if respCfg s1.flds n = cur then s1 else respRequest n (respCfg s1.flds n) s1
  else s

end Sys2Proof.Machine
end

