-- ==== Sys2Proof/Machine/Remount.lean ====
section
/-! DEFINITION. Remount: the meanings of its commands (R76 to R92). -/

namespace Sys2Proof.Machine

/-- What a meaning answers: every command of the block ends in a next state. -/
abbrev Res := Host.Outcome State Fault Refusal

/-- Acts on the slot in progress on a spare, in RUN; without one the command changes nothing. -/
def onSlot (sp : Nat) (f : Slot → State → State) (s : State) : State :=
  if running s then
    match (getSp s sp).slot with
    | some sl => f sl s
    | none => s
  else s

/-! ### REMOUNT_SLOT_START -/

/-- The site time at which slot k of a spare starts (R79). -/
def slotT (s : State) (sp k : Nat) : Nat :=
  (30 * k + 2 * spBank sp + 15 * spIdx sp + 7 * s.fld F.PWR_ST_PAIRSIDE) * 1000000000

/-- The off-line measurement of a slot begins, 50 ms after the modulator left the pins; the points it has completed stand (Table
04-1, R86). -/
def Slot.measure (now : Nat) (sl : Slot) : Slot := { sl with offline := true, offT := now + 50000000 }

/-- A slot start on a spare (R78 to R80). A spare whose rotation slot runs on takes the slot when its return is complete; the spec
says that of a late return, and a forced slot in progress is taken alike (DESIGN CHOICE). A spare that is held by a higher claim
lets the slot pass; in a halted bank the spare that stands in repeats the off-line measurement and the return (R84). -/
def slotFire (sp k : Nat) (s : State) : State :=
    let x := getSp s sp
    match x.slot with
    | some sl =>
      if sl.est = .verdict ∧ mget false s.rmt.halted (spBank sp) then
        setSlot sp (some ({ sl with st := .standin, failed := false, newCorr := none, est := .settling
                                    pts := [] }.measure s.clk.now)) s
      else if sl.rotating then setSp sp { x with late := some k } s
      else setSp sp { x with missed := x.missed || x.kept.isSome } s
    | none =>
      if x.refin.isSome then setSp sp { x with late := some k } s
      else if x.arbit.isSome ∨ x.kept.isSome then setSp sp { x with missed := x.missed || x.kept.isSome } s
      else startRoutine sp k s

/-- Slot k of a spare starts at its instant of site time; a slot whose instant has passed does not start (R79). -/
def slotStart (sp k : Nat) (s : State) : State :=
  if running s && decide (s.clk.site ≤ slotT s sp k) then slotFire sp k (reachTime (slotT s sp k) s) else s

def execRemountSlotStart (sp : Spare) (k : Nat) (s : State) : Res := .next (slotStart sp k s)

/-! ### SELF_CHECK_COMPLETE -/

/-- The self-check tests of Table 04-3. The gain change is measured against the previous passing self-check at the
RANGE, else against the restored correction; against a factory trim it is not made (R83). -/
def selfCheckOk (s : State) (sp range : Nat) (off gain : Rat) : Bool :=
  let prev := (mget none s.rmt.selfGain (8 * sp + range)).orElse fun _ =>
    (mget none s.rmt.force (8 * (112 + sp) + range)).map (·.gain)
  decide (rabs off ≤ 2 / 1000) && decide (rabs (gain - 1) ≤ 5 / 1000)
    && (match prev with
        | some g => decide (rabs (gain - g) ≤ 5 / 10000)
        | none => true)

/-- Records a passing self-check: the correction stored and in force, its gain and its instant (R76, R83). -/
def selfPass (sp range : Nat) (off gain : Rat) (s : State) : State :=
  let s1 := storeCorr (112 + sp) range ⟨off, gain⟩ s
  { s1 with rmt := { s1.rmt with selfGain := mput none s1.rmt.selfGain (8 * sp + range) (some gain)
                                 selfT := mput none s1.rmt.selfT sp (some s1.clk.now)
                                 selfAt := mput none s1.rmt.selfAt (8 * sp + range) (some s1.clk.now) } }

/-- Ends the self-check: pass, repeat or retire (R77, R83, R84). -/
def selfCheck (sp : Nat) (off gain : Rat) (sl : Slot) (s : State) : State :=
  if sl.st ≠ .selfchk then s
  else if selfCheckOk s sp sl.range off gain then
    let s1 := selfPass sp sl.range off gain s
    let s2 := if sl.failed then rmtTransient (spBank sp) sl.chan s1 else s1
    if sl.selfOnly then completeSlot sp s2
    else setSlot sp (some { sl with st := .ovlOut, est := .settling, failed := false, checkT := s.clk.now }) s2
  else if sl.failed then
    let s1 := retireSpare sp (setSlot sp none s)
    match sl.kind with
    | .third a out =>
      match (getSp s1 a).slot with
      | some asl => disagree a asl out s1
      | none => s1
    | .live _ _ => dropSlot sl s1
    | .routine => dropSlot sl s1
    | .forced => dropSlot sl s1
  else setSlot sp (some { sl with failed := true }) s

/-- Ends the self-check at RANGE 0 that a REFIN measurement begins with; at a second failure the spare is retired (R83, R211). It has
no channel: a transient names the spare's stream (DESIGN CHOICE). -/
def refinCheck (sp : Nat) (off gain : Rat) (failed : Bool) (s : State) : State :=
  if selfCheckOk s sp 0 off gain then
    let s1 := setSp sp { getSp s sp with refin := some .measure } (selfPass sp 0 off gain s)
    if failed then rmtTransient (spBank sp) (144 + sp) s1 else s1
  else if failed then refinStart (retireSpare sp (setSp sp { getSp s sp with refin := none } s))
  else setSp sp { getSp s sp with refin := some (.check true) } s

def execSelfCheckComplete (sp : Spare) (off gain : Rat) (s : State) : Res :=
  .next (match (getSp s sp).refin with
    | some (.check f) => if running s then refinCheck sp off gain f s else s
    | some .measure => onSlot sp (selfCheck sp off gain) s
    | none => onSlot sp (selfCheck sp off gain) s)

/-! ### SETTLING_END, RETURN_SETTLING_END -/

/-- Settling on the pins ends and the estimation window begins, once OVR is clear and no step is recent (R77, R82). -/
def settled (st : SpState) (sp : Nat) (sl : Slot) (s : State) : State :=
  if sl.st = st ∧ sl.est = .settling then setSlot sp (some { sl with est := beginEst s sl.chan }) s else s

def execSettlingEnd (sp : Spare) (s : State) : Res := .next (onSlot sp (settled .ovlOut sp) s)

def execReturnSettlingEnd (sp : Spare) (s : State) : Res := .next (onSlot sp (settled .ovlRet sp) s)

/-! ### HANDOVER_MATCH -/

/-- The overlap estimation of a handover completes (R81, R83). A spare that takes the stream over as permanent substitute does so
unmatched and untested (R84). -/
def handover (sp : Nat) (e : EstStats) (sl : Slot) (s : State) : State :=
  let third := match sl.kind with
    | .third _ _ => true
    | .routine => false
    | .forced => false
    | .live _ _ => false
  if sl.st ≠ .ovlOut ∨ third = true ∨ sl.est ≠ .window then s
  else
    let m := estimate e
    if spSubst s sp then beginXfade sp { sl with failed := false } s
    else if matchOk s m then
      let s1 := if sl.failed then rmtTransient (spBank sp) sl.chan s else s
      beginXfade sp { sl with mtch := some (keepMatch s sl.chan m), failed := false } s1
    else if sl.failed then disagree sp sl true s
    else setSlot sp (some { sl with failed := true, est := beginEst s sl.chan }) s

def execHandoverMatch (sp : Spare) (e : EstStats) (s : State) : Res := .next (onSlot sp (handover sp e) s)

/-! ### CROSSFADE_HOLD_TIMEOUT -/

/-- A crossfade held back 100 ms: the estimation restarts (R82). A live change that waits for its boundary is not held
under this rule. -/
def holdTimeout (sp : Nat) (sl : Slot) (s : State) : State :=
  if sl.overlaps ∧ sl.est = .held ∧ !xfadeClear s sl.chan then setSlot sp (some { sl with est := .restarted }) s else s

def execCrossfadeHoldTimeout (sp : Spare) (s : State) : Res := .next (onSlot sp (holdTimeout sp) s)

/-! ### SPLICE_INSTANT -/

/-- Spare A of a return case has been relieved by B: A is retired, and the slot it had is B's (R84). -/
def relieve (sp a : Nat) (sl : Slot) (s : State) : State :=
  let kind := match (getSp s a).slot with
    | some asl => if asl.rotating then asl.kind else .routine
    | none => .routine
  setSlot sp (some { sl with kind := kind, st := .ovlRet, est := .settling, failed := false })
    (retireSpare a (setSp a { getSp s a with slot := none } s))

/-- The out-crossfade ends: the spare alone feeds the channel. A substitute's slot ends here; a spare that relieves a
spare A in a return goes on to the return; withdrawn spares hand back (R81, R84, R451). -/
def spliceOut (sp : Nat) (sl : Slot) (s : State) : State :=
  let s1 := liveSettings sl (setFeed sl.chan (spIdx sp + 1) s)
  if spSubst s1 sp then nextWork sp (setSlot sp none s1)
  else if sl.handback ∨ withdrawn s1 then setSlot sp (some { sl with st := .xfRet, handback := true }) s1
  else match sl.kind with
  | .third a _ => relieve sp a sl s1
  | .live _ _ => changeAgain sl.chan (setSlot sp (some { sl with st := .standin, offline := false, failed := false }) s1)
  | .routine => setSlot sp (some { sl with st := .standin, offline := false, failed := false }) s1
  | .forced => setSlot sp (some { sl with st := .standin, offline := false, failed := false }) s1

/-- The return crossfade ends: the channel's own modulator feeds it (R77). -/
def spliceRet (sp : Nat) (sl : Slot) (s : State) : State :=
  let s1 := feedOwn sl.chan s
  let s2 := if sl.handback ∧ ¬ sl.checked then s1 else driftStep sl s1
  setSlot sp (some { sl with st := .leaving }) s2

def splice (sp : Nat) (sl : Slot) (s : State) : State :=
  if sl.st = .xfOut then spliceMarks sl.chan (spliceOut sp sl s)
  else if sl.st = .xfRet then spliceMarks sl.chan (spliceRet sp sl s)
  else s

def execSpliceInstant (sp : Spare) (s : State) : Res := .next (onSlot sp (splice sp) s)

/-! ### MODULATOR_OFFLINE -/

/-- The channel's modulator leaves the pins for the dummy load and connects to the internal reference (R77). -/
def goOffline (sp : Nat) (sl : Slot) (s : State) : State :=
  if sl.st = .standin then setSlot sp (some (sl.measure s.clk.now)) s else s

def execModulatorOffline (sp : Spare) (s : State) : Res := .next (onSlot sp (goOffline sp) s)

/-! ### OFFLINE_MEASUREMENT_COMPLETE -/

/-- The nine points of the off-line measurement, from −90 % to +90 % of range in steps of 22.5 % (Table 04-1). -/
def offlinePoint (i : Nat) : Rat := -9 / 10 + (225 / 1000) * i

/-- Slope and intercept of the best-fit line through the nine measured points. -/
def fitLine (pts : List Rat) : Rat × Rat :=
  let ip := (List.range pts.length).zip pts
  let n : Rat := pts.length
  let sx := (ip.map fun p => offlinePoint p.1).sum
  let sy := pts.sum
  let sxx := (ip.map fun p => offlinePoint p.1 * offlinePoint p.1).sum
  let sxy := (ip.map fun p => offlinePoint p.1 * p.2).sum
  let a := rdiv (n * sxy - sx * sy) (n * sxx - sx * sx)
  (a, rdiv (sy - a * sx) n)

/-- INL: the largest distance of a point from the best-fit line. -/
def inlOf (pts : List Rat) : Rat :=
  let l := fitLine pts
  ((List.range pts.length).zip pts).foldl (fun a p => rmax a (rabs (p.2 - (l.1 * offlinePoint p.1 + l.2)))) 0

/-- The off-line tests of Table 04-3. -/
def offlineOk (old : Corr) (short : Rat) (pts : List Rat) : Bool :=
  let g := (fitLine pts).1
  decide (rabs short ≤ 2 / 1000) && decide (rabs (g - 1) ≤ 5 / 1000) && decide (rabs (g - old.gain) ≤ 2 / 1000)
    && decide (inlOf pts ≤ 30 / 1000000)

/-- A modulator passes an off-line measurement or a cross-check now (RMT_MST.AGE). -/
def notePass (md : Nat) (s : State) : State :=
  { s with rmt := { s.rmt with passT := mput none s.rmt.passT md (some s.clk.now) } }

/-- The readings of an off-line measurement in full: those kept over a pre-emption, then the rest of what it now brings (R86). -/
def Slot.allReadings (short : Rat) (pts : List Rat) (sl : Slot) : List Rat := sl.pts ++ (short :: pts).drop sl.pts.length

/-- The off-line measurement ends (R77, R83). `x` and `xs` are its readings, of which those kept over a pre-emption stand (R86). -/
def offlineDone (sp : Nat) (x : Rat) (xs : List Rat) (sl : Slot) (s : State) : State :=
  if sl.st ≠ .standin ∨ sl.offline = false then s
  else
    let short := (sl.allReadings x xs).headD 0
    let pts := (sl.allReadings x xs).tail
    let s0 := s.put F.RMT_MLIN_INL sl.chan (clampU 16 (nearest (inlOf pts * 1000000)))
    if offlineOk sl.oldCorr short pts then
      let s1 := notePass (ownMod s0 sl.chan) s0
      let s2 := if sl.failed then rmtTransient (spBank sp) sl.chan s1 else s1
      setSlot sp (some { sl with st := .ovlRet, est := .settling, failed := false, offline := false
                                 newCorr := some ⟨short, (fitLine pts).1⟩ }) s2
    else if sl.failed then nextWork sp (substitute sl.chan sp sl.mtch s0)
    else setSlot sp (some ({ sl with failed := true, pts := [] }.measure s.clk.now)) s0

def execOfflineMeasurementComplete (sp : Spare) (short : Rat) (pts : List Rat) (s : State) : Res :=
  .next (onSlot sp (offlineDone sp short pts) s)

/-! ### CROSS_CHECK -/

/-- The cross-check passes: the new correction is stored and in force, UNCHK clears and a halted rotation restarts
(R76, R84). -/
def returnPass (sp : Nat) (sl : Slot) (s : State) : State :=
  let md := ownMod s sl.chan
  let s1 := match sl.newCorr with
    | some c => storeCorr md sl.range c s
    | none => s
  let s2 := notePass md (s1.lower F.RMT_MST_UNCHK sl.chan)
  let s3 := { s2 with rmt := { s2.rmt with halted := mput false s2.rmt.halted (spBank sp) false } }
  let s4 := if sl.failed then rmtTransient (spBank sp) sl.chan s3 else s3
  beginXfade sp { sl with failed := false, checked := true } s4

/-- The return estimation completes (R81, R83). -/
def crossCheck (sp : Nat) (e : EstStats) (sl : Slot) (s : State) : State :=
  if sl.st ≠ .ovlRet ∨ sl.est ≠ .window then s
  else if checkOk s (estimate e) then returnPass sp sl s
  else if sl.failed then disagree sp sl false s
  else setSlot sp (some { sl with failed := true, est := beginEst s sl.chan }) s

def execCrossCheck (sp : Spare) (e : EstStats) (s : State) : Res := .next (onSlot sp (crossCheck sp e) s)

/-! ### SPARE_LEAVES_PINS -/

/-- After the return splice the spare leaves the pins and the slot is complete; one that was handed back is not a
completed slot (R77, R451). -/
def leavePins (sp : Nat) (sl : Slot) (s : State) : State :=
  if sl.st = .leaving then
    if sl.handback then nextWork sp (skipSlot sl.chan (setSlot sp none s)) else completeSlot sp s
  else s

def execSpareLeavesPins (sp : Spare) (s : State) : Res := .next (onSlot sp (leavePins sp) s)

/-! ### DISAGREEMENT_ESTIMATE -/

/-- B's estimation in the handover case (R84): B completes the slot in A's place, or hands over unmatched as permanent substitute.
-/
def thirdOut (b a : Nat) (m : Rat × Rat) (bsl asl : Slot) (s : State) : State :=
  let inPlace : Slot := { asl with st := .ovlOut, failed := false, checkT := bsl.checkT }
  if matchOk s m then
    let s1 := retireSpare a (setSlot a none s)
    beginXfade b { inPlace with mtch := some (keepMatch s asl.chan m) } s1
  else
    let s1 := nextWork a (skipSlot asl.chan (setSlot a none s))
    let s2 := substitute asl.chan b none s1
    beginXfade b { inPlace with mtch := some (1, 0) } s2

/-- B's estimation in the return case (R84), against A without its match: the channel's modulator is retired and A substitutes it, or B
takes over from A, under a match that joins this one to A's; once it has, A is retired and the return goes on against B. -/
def thirdRet (b a : Nat) (m : Rat × Rat) (bsl asl : Slot) (s : State) : State :=
  if checkOk s m then
    nextWork b (setSlot b none (substitute asl.chan a asl.mtch s))
  else
    beginXfade b { asl with kind := bsl.kind, st := .ovlOut, failed := false, checkT := bsl.checkT
                            mtch := some ((matchFor s a asl.chan).1 * m.1,
                              (matchFor s a asl.chan).1 * (keepMatch s asl.chan m).2 + (matchFor s a asl.chan).2) } s

/-- The third opinion is in: the outlier is retired or substituted (R84). -/
def thirdOpinion (b : Nat) (e : EstStats) (sl : Slot) (s : State) : State :=
  match sl.kind with
  | .third a out =>
    if sl.st ≠ .ovlOut ∨ sl.est ≠ .window then s
    else match (getSp s a).slot with
      | some asl => if out then thirdOut b a (estimate e) sl asl s else thirdRet b a (estimate e) sl asl s
      | none => nextWork b (setSlot b none s)
  | .routine => s
  | .forced => s
  | .live _ _ => s

def execDisagreementEstimate (sp : Spare) (e : EstStats) (s : State) : Res := .next (onSlot sp (thirdOpinion sp e) s)

/-! ### MATCH_REMOVAL -/

/-- At a grid-cycle boundary a substitute's match is removed by a crossfade (R87). -/
def removeMatch (n : Nat) (s : State) : State :=
  let k := s.fld F.RMT_MST_SUB n
  let sp := spareAt (bankOf n) (k - 1)
  if k = 0 ∨ !running s ∨ !boundaryAt s n ∨ (getSp s sp).mtch.isNone then s
  else glide n (setSp sp { getSp s sp with mtch := none }) s

def execMatchRemoval (n : AChan) (s : State) : Res := .next (removeMatch n s)

/-! ### LIVE_CHANGE_CROSSFADE -/

/-- At the first grid-cycle boundary after its match passes, a live change crossfades (R88); where a trim result takes effect at
that boundary, at the next (R22). -/
def liveXfade (sp : Nat) (sl : Slot) (s : State) : State :=
  match sl.kind with
  | .live _ _ =>
    if sl.st = .ovlOut ∧ sl.est = .held ∧ xfadeClear s sl.chan ∧ updateDue s sl.chan then
      setSlot sp (some { sl with st := .xfOut, est := .settling }) s
    else s
  | .routine => s
  | .forced => s
  | .third _ _ => s

def execLiveChangeCrossfade (sp : Spare) (s : State) : Res := .next (onSlot sp (liveXfade sp) s)

/-! ### FORCE_SLOT -/

/-- Is a forced slot for this stream refused (R90)? -/
def forceRefused (s : State) (n : Nat) : Bool :=
  !(decide (n < 112) && chanOn s n) || s.bit F.INP_ST_OPEN n || withdrawn s || noSpare s (bankOf n)

/-- A write of 1 to RMT_FORCE.GO for a stream (R90). -/
def forceSlot (n : Nat) (s : State) : State :=
  let s0 := s.put F.RMT_FORCE_STREAM 0 n
  if forceRefused s0 n then refuseForce s0
  else
    let s1 := (s0.put F.RMT_FORCE_GO 0 1).put F.RMT_FORCE_REJ 0 0
    if running s then serveForce (bankOf n) s1 else s1

/-! ### Entry to RUN (R76) -/

/-- Remount corrections come into force: each channel is fed by its own modulator or its permanent substitute under the correction
stored for it; UNCHK is set where neither copy of that could be read. A forced request that waited is served, and a REFIN
measurement begins again (R90, R211). -/
def remountEnterRun (s : State) : State :=
  let s1 := { s with rmt := { s.rmt with force := s.rmt.stored } }
  let s2 := (List.range 112).foldl (fun s n => noteFactory n (feedOwn n s)) s1
  refinStart (serveForce (bankOf (s2.fld F.RMT_FORCE_STREAM)) s2)

end Sys2Proof.Machine
end

