-- ==== Sys2Proof/Machine/Filters.lean ====
section
/-! DEFINITION. Filter chain: the meanings of its commands (R100, R101, R110 to R113, R248). -/

namespace Sys2Proof.Machine

/-! ### Lanes -/

/-- Where a section is recomputed: on the spare lane, if it is in service and replaces no working lane; else in the shared reserve
(R20, R100). -/
def recompLane (s : State) : Option Nat :=
  if (s.fld F.FLT_ENG_LANERET).testBit 10 ∨ s.fld F.FLT_ENG_SPAREFOR ≠ 0xF then none else some 10

/-- A residue mismatch: the section is recomputed within the period, and its lane is due a retry (R100, R248). Without its checker the
result is used as it is (R258). -/
def residueMismatch (lane : Nat) (s : State) : State :=
  if running s ∧ ¬ (s.fld F.FLT_ENG_LANERET).testBit lane ∧ ¬ checkOff s 0 lane then
    let i := takeInjection 0 lane s
    let s1 := i.2.inc F.FLT_ENG_RECOMP
    { s1 with flt := { s1.flt with retry := s1.flt.retry ++ [(lane, i.1)], recompOn := recompLane s } }
  else s

def execFilterResidueMismatch (lane : Fin 11) (s : State) : Res := .next (residueMismatch lane s)

/-- Retires a filter lane: lane 10 takes the slots of the first working lane retired (R101). -/
def retireFltLane (lane : Nat) (s : State) : State :=
  let s1 := s.put F.FLT_ENG_LANERET 0 (s.fld F.FLT_ENG_LANERET ||| 2 ^ lane)
  let takes := lane ≠ 10 ∧ s1.fld F.FLT_ENG_SPAREFOR = 0xF ∧ ¬ (s1.fld F.FLT_ENG_LANERET).testBit 10
  let s2 :=
    if lane = 10 then s1.put F.FLT_ENG_SPAREFOR 0 0xF
    else if takes then s1.put F.FLT_ENG_SPAREFOR 0 lane else s1
  let s3 := if lanesUp s2 < 10 then { s2 with flt := { s2.flt with rebuild := true } } else s2
  permanent 0 lane 0 (decide takes) false none s3

/-- The retry of a failed section on its lane (R248). An injected corruption leaves the retry untouched (R259). A retry that fails is
recomputed too (chapter 12, worked example: RECOMP 2). -/
def laneRetry (lane : Nat) (pass : Bool) (s : State) : State :=
  match s.flt.retry.find? (·.1 == lane) with
  | none => s
  | some p =>
    let s1 := { s with flt := { s.flt with retry := s.flt.retry.erase p } }
    if pass || p.2 then transient 0 lane 0 p.2 false s1 else retireFltLane lane (s1.inc F.FLT_ENG_RECOMP)

def execFilterLaneRetry (lane : Fin 11) (pass : Bool) (s : State) : Res := .next (laneRetry lane pass s)

/-- The engine rebuilds its schedule at a period start (R101). -/
def scheduleRebuild (s : State) : State :=
  if s.flt.rebuild then evalDState (fltService { s with flt := { s.flt with rebuild := false } }) else s

def execScheduleRebuild (s : State) : Res := .next (scheduleRebuild s)

/-! ### The fast path -/

/-- The signed value of a fast-path sample. -/
def fastVal (f : BitVec 16) : Int := f.toInt

/-- A fast-path threshold of a stream with its trim (R110); none where its field is zero. -/
def threshold (s : State) (f : Fld) (n : Nat) : Option Rat :=
  match slotChan s n with
  | none => none
  | some c => if s.fld f c = 0 then none else some (s.fld f c * threshTrim s c)

/-- Do the latest two results both reach a threshold (R110)? -/
def reachedTwice (t : Rat) : List (BitVec 16) → Bool
  | f1 :: f0 :: _ => decide (t ≤ |(fastVal f0 : Rat)|) && decide (t ≤ |(fastVal f1 : Rat)|)
  | _ => false

/-- OVC is set when |FAST| reaches the threshold at two consecutive samples; a channel stream raises event 3 (R110,
R116). `fs`: the fast-path results that have come, oldest first; they join the stream's record, which the comparator reads. -/
def ovcSet (n : Nat) (fs : List (BitVec 16)) (s : State) : State :=
  if fastRuns s n then
    let s1 := pathFasts n fs s
    match threshold s F.FLT_THR_FTHR n with
    | none => s1
    | some t =>
      if fastOn s n ∧ reachedTwice t (getPath s1 n).fast then
        let s2 := (s1.put F.FLT_ST_OVC n 1).put F.FLT_ST_OVCL n 1
        if n < 144 ∧ ¬ s1.bit F.FLT_ST_OVC n then raise 3 n s2 else s2
      else s1
  else s

def execOvcSet (n : Strm) (fs : List (BitVec 16)) (s : State) : Res := .next (ovcSet n fs s)

/-- Have the latest L results all stayed below seven eighths of the threshold (R110)? -/
def quietFor (l : Nat) (t : Rat) (fs : List (BitVec 16)) : Bool :=
  decide (l ≤ fs.length) && (fs.take l).all fun f => decide (|(fastVal f : Rat)| < 7 / 8 * t)

/-- OVC clears after L consecutive samples below seven eighths of the threshold. An OVC that stands while its comparator is off
(FTHR zero) is cleared by the command whatever the samples: the spec is silent on it (DESIGN CHOICE). -/
def ovcClear (n : Nat) (fs : List (BitVec 16)) (s : State) : State :=
  if fastRuns s n then
    let s1 := pathFasts n fs s
    match threshold s F.FLT_THR_FTHR n with
    | none => s1.put F.FLT_ST_OVC n 0
    | some t => if fastOn s n ∧ quietFor (lookBack s n) t (getPath s1 n).fast then s1.put F.FLT_ST_OVC n 0 else s1
  else s

def execOvcClear (n : Strm) (fs : List (BitVec 16)) (s : State) : Res := .next (ovcClear n fs s)

/-- Marks that the fast path of a channel has, or has no longer, reported a step within the last millisecond (R82). -/
def setStepNow (n : Nat) (b : Bool) (s : State) : State :=
  { s with rmt := { s.rmt with stepNow := mput false s.rmt.stepNow n b } }

/-- Does the latest result of a record, newest first, differ from the one L earlier by the threshold (R110)? Where FAST has restarted
less than L results ago there is none to compare with, and the threshold counts as not reached: the spec is silent (DESIGN CHOICE). -/
def stepAt (l : Nat) (t : Rat) (fs : List (BitVec 16)) : Bool :=
  match fs, fs[l]? with
  | f :: _, some o => decide (t ≤ |(fastVal f - fastVal o : Rat)|)
  | _, _ => false

/-- STEP is set when a sample differs from the one L samples earlier by the threshold; an overlap estimation in progress
restarts (R82, R110). -/
def stepSet (n : Nat) (fs : List (BitVec 16)) (s : State) : State :=
  if fastRuns s n then
    let s1 := pathFasts n fs s
    match threshold s F.FLT_THR_STEPTH n with
    | none => s1
    | some t =>
      if fastOn s n ∧ stepAt (lookBack s n) t (getPath s1 n).fast then
        let s2 := (s1.put F.FLT_ST_STEP n 1).put F.FLT_ST_STEPL n 1
        if n < 112 then restartEst n (setStepNow n true s2) else s2
      else s1
  else s

def execStepSet (n : Strm) (fs : List (BitVec 16)) (s : State) : Res := .next (stepSet n fs s)

/-- Has none of the latest 24 results reached the step threshold (R110)? -/
def stepQuiet (l : Nat) (t : Rat) (fs : List (BitVec 16)) : Bool := (List.range 24).all fun i => !stepAt l t (fs.drop i)

/-- STEP clears 24 samples after the last sample that reached the threshold; a crossfade held back may start (R82,
R110). A STEP that stands while its comparator is off is cleared by the command (DESIGN CHOICE). -/
def stepClear (n : Nat) (fs : List (BitVec 16)) (s : State) : State :=
  if fastRuns s n then
    let s1 := pathFasts n fs s
    let quiet := match threshold s F.FLT_THR_STEPTH n with
      | none => true
      | some t => fastOn s n && stepQuiet (lookBack s n) t (getPath s1 n).fast
    if quiet then
      let s2 := s1.put F.FLT_ST_STEP n 0
      if n < 112 then releaseHeld n (setStepNow n false s2) else s2
    else s1
  else s

def execStepClear (n : Strm) (fs : List (BitVec 16)) (s : State) : Res := .next (stepClear n fs s)

/-- 24 samples after an FPR change the comparators run again (R111). -/
def execFastPathHoldoffEnd (n : Chan) (s : State) : Res :=
  .next { s with flt := { s.flt with
    holdoff := (slotsOf s n).foldl (fun m k => mput false m k false) s.flt.holdoff } }

/-! ### Changes of response -/

/-- The lent slot's warm-up ends: the longest settle time of the new responses has passed since the claim (R112). -/
def warmUpEnd (n : Nat) (s : State) : State :=
  match mget none s.flt.change n with
  | some c =>
    if c.ph = .warming then setChange n (some { c with ph := .warmed }) (reachNow (mget 0 s.flt.doneT n) s) else s
  | none => s

def execResponseWarmUpEnd (n : AChan) (s : State) : Res := .next (if running s then warmUpEnd n s else s)

/-- Puts new responses in force. -/
def takeResp (n : Nat) (resp : List Nat) (s : State) : State :=
  { s with flt := { s.flt with resp := mput [0, 0, 0, 0] s.flt.resp n resp } }

/-- At the grid-cycle boundary the crossfade of the chains starts: the channel's slot takes the new chain with the states of the lent
slot, and the old one fades out over 64 samples, after which the spare is released (R112; `fadeEnd`). A trim result due at the same
boundary goes first, and the crossfade waits for the next (R22). -/
def respCrossfade (n : Nat) (s : State) : State :=
  match mget none s.flt.change n with
  | some c =>
    if c.ph = .warmed ∧ updateDue s n then
      match (sparesOf (bankOf n)).find? fun sp => (getSp s sp).lent == some n with
      | some sp => setChange n (some { c with ph := .fading }) (takeResp n c.resp (pathTake n sp (mget [0, 0, 0, 0] s.flt.resp n) s))
      | none => s
    else s
  | none => s

def execResponseCrossfade (n : AChan) (s : State) : Res := .next (if running s then respCrossfade n s else s)

/-- At the grid-cycle boundary the new chain replaces the old with preset states, and SETTLE reads 1 for the longest settle time
among the new responses (R22, R113). -/
def presetSwitch (n : Nat) (s : State) : State :=
  match mget none s.flt.change n with
  | some c =>
    if c.ph = .preset ∧ updateDue s n then
      (pathPreset n c.resp (setDone n (c.resp.foldl (fun a r => max a (settleUs r)) 0)
        (setChange n none (takeResp n c.resp s)))).lift F.FLT_ST_SETTLE n
    else s
  | none => s

def execPresetStateSwitch (n : Chan) (s : State) : Res := .next (if running s then presetSwitch n s else s)

/-- The longest settle time passes: SETTLE clears (R113, R451), unless a lent slot is still warming up (R112). -/
def settleEnd (n : Nat) (s : State) : State :=
  let done := (reachNow (mget 0 s.flt.doneT n) s).lower F.FLT_ST_SETTLE n
  match changePh s n with
  | some .warming => s
  | some .warmed => s
  | some .fading => s
  | some .waitSpare => done
  | some .preset => done
  | none => done

def execSettleEnd (n : Chan) (s : State) : Res := .next (settleEnd n s)

end Sys2Proof.Machine
end

