-- ==== Sys2Proof/Machine/Inputs.lean ====
section
/-! DEFINITION. Measurement inputs: the meanings of their commands (R56 to R58, R61, R62, R70, R71). -/

namespace Sys2Proof.Machine

/-! ### Overload -/

/-- Raises INP_PEAK to a main-tap magnitude, in units of 1 / 32768 of the range or of full density (Table 03-10). A magnitude
between two units counts as the lower: the spec states no rounding (DESIGN CHOICE). -/
def raisePeak (n : Nat) (mag : Rat) (s : State) : State :=
  s.put F.INP_PEAK_PEAK n (max (s.fld F.INP_PEAK_PEAK n) (min 0xFFFF (mag * 32768).floor.toNat))

/-- The magnitude of a main-tap sample as OVR clips it: at 112.5 % of the range (R57). -/
def clipMag (mag : Rat) : Rat := rmin (rmax mag 0) (9 / 8)

/-- OVR goes from 0 to 1: an episode is counted, OVRL latches and the event is raised (R56, R75); an estimation in
progress on the channel restarts (R82). -/
def setOvr (n event : Nat) (s : State) : State :=
  if s.bit F.INP_ST_OVR n then s
  else
    let s1 := ((s.lift F.INP_ST_OVR n).put F.INP_ST_OVRL n 1).inc F.INP_OVCNT_EPISODES n
    raise event n (if n < 112 then restartEst n s1 else s1)

def setClip (n v : Nat) (s : State) : State := { s with inp := { s.inp with clip := mput 0 s.inp.clip n v } }
def setIntDue (n : Nat) (b : Bool) (s : State) : State :=
  { s with inp := { s.inp with intDue := mput false s.inp.intDue n b } }

/-- A sample beyond 112.5 % of the range, or a run of 24 identical bits (R56, R57). -/
def inputOverload (n : Nat) (cause : OvlCause) (s : State) : State :=
  if running s && chanOn s n then
    match cause with
    | .sample mag => if 9 / 8 < mag then setOvr n 0 (raisePeak n (clipMag mag) s) else raisePeak n (rmax mag 0) s
    | .run ones persists mag =>
      let m := if persists then 9 / 8 else clipMag mag
      setOvr n 0 (setIntDue n true (setClip n (if persists then (if ones then 1 else 2) else 0) (raisePeak n m s)))
  else s

def execInputOverload (n : AChan) (cause : OvlCause) (s : State) : Res := .next (inputOverload n cause s)

/-- 192 consecutive samples below 100 % of range clear OVR; `mag` is the largest of them (R56). A crossfade or an
estimation that waited goes on (R82). -/
def ovrClear (n : Nat) (mag : Rat) (s : State) : State :=
  if running s && chanOn s n && decide (mag < 1) then
    releaseHeld n (setClip n 0 ((raisePeak n (rmax mag 0) s).lower F.INP_ST_OVR n))
  else s

def execOvrClear (n : AChan) (mag : Rat) (s : State) : Res := .next (ovrClear n mag s)

/-- The integrators of the feeding modulator are reset (R57). -/
def execModulatorIntegratorReset (n : AChan) (s : State) : Res := .next (setIntDue n false s)

/-! ### Open sensors -/

/-- One sample of the window comparators of a channel's pins (R62): OPENPIN names the pins outside, and OPEN clears when
both are inside. -/
def openSample (n : Nat) (p q : Bool) (s : State) : State :=
  if running s && chanOn s n then
    let cp := if p then mget 0 s.inp.outP n + 1 else 0
    let cq := if q then mget 0 s.inp.outN n + 1 else 0
    let s1 := { s with inp := { s.inp with outP := mput 0 s.inp.outP n cp, outN := mput 0 s.inp.outN n cq } }
    let s2 := s1.put F.INP_ST_OPENPIN n ((if p then 1 else 0) + (if q then 2 else 0))
    if p || q then s2 else s2.lower F.INP_ST_OPEN n
  else s

def execOpenWindowSample (n : AChan) (pOut nOut : Bool) (s : State) : Res := .next (openSample n pOut nOut s)

/-- A pin has been outside at every 1 ms sample for OSDT × 10 ms: OPEN is set (R62). With OSDT at zero the first sample
outside qualifies. -/
def openQualified (n : Nat) (s : State) : State :=
  let need := 10 * s.fld F.INP_CFG_OSDT n
  if running s && chanOn s n && !s.bit F.INP_ST_OPEN n
      && (decide (need < mget 0 s.inp.outP n) || decide (need < mget 0 s.inp.outN n)) then
    raise 1 n ((s.lift F.INP_ST_OPEN n).put F.INP_ST_OPENL n 1)
  else s

def execOpenQualified (n : AChan) (s : State) : Res := .next (openQualified n s)

/-! ### Bitstream channels -/

/-- The stream of a bitstream channel (R5). -/
def bStream (b : BChan) : Nat := 112 + b.val

/-- No transition for 64 clock periods sets STUCK (R70). -/
def stuckDetect (n : Nat) (s : State) : State :=
  if running s && chanOn s n && !s.bit F.INP_ST_STUCK n then
    raise 2 n ((s.lift F.INP_ST_STUCK n).put F.INP_ST_STUCKL n 1)
  else s

def execStuckDetect (b : BChan) (s : State) : Res := .next (stuckDetect (bStream b) s)

/-- The first transition clears STUCK (R70). -/
def execStuckClear (b : BChan) (s : State) : Res :=
  .next (if running s then s.lower F.INP_ST_STUCK (bStream b) else s)

/-- |2d − 1| in units of 1 / 256, for a number of ones in the latest 256 bits. -/
def density (ones : Nat) : Nat := if 128 ≤ ones then 2 * ones - 256 else 256 - 2 * ones

/-- The density over the latest 256 bits exceeds DENSLIM: DENS, and with it OVR, is set (R58, R70). -/
def densSet (n ones : Nat) (s : State) : State :=
  let lim := s.fld F.INP_BSG_DENSLIM ((n - 112) / 16)
  if running s && chanOn s n && lim != 0 && decide (lim < density ones) && !s.bit F.INP_ST_DENS n then
    setOvr n 2 (s.lift F.INP_ST_DENS n)
  else s

def execDensSet (b : BChan) (ones : Fin 257) (s : State) : Res := .next (densSet (bStream b) ones s)

/-- The density has stayed within the limit for 1 ms: DENS and OVR clear (R70). -/
def execDensClear (b : BChan) (s : State) : Res :=
  .next (if running s then (s.lower F.INP_ST_DENS (bStream b)).lower F.INP_ST_OVR (bStream b) else s)

/-! ### Changes of settings (R71) -/

/-- An analog channel comes into service under the correction of its feeding modulator (R76). -/
def noteIn (n : Nat) (s : State) : State := if n < 112 then noteFactory n s else s

/-- The settings of a channel as its registers hold them come into force. -/
def takeSettings (n : Nat) (s : State) : State :=
  { s with inp := { s.inp with
      range := mput 0 s.inp.range n (if n < 112 then s.fld F.INP_CFG_RANGE n else 0)
      sensor := mput 0 s.inp.sensor n (s.fld F.INP_CFG_SENSOR n)
      burn := mput 0 s.inp.burn n (if n < 112 then s.fld F.INP_CFG_BURN n else 0)
      sdly := mput 0 s.inp.sdly n (if n < 112 then 0 else s.fld F.INP_CFG_SDLY n)
      lat := mput 0 s.inp.lat n (if n < 112 then 0 else s.fld F.INP_CFG_LAT n)
      inv := mput 0 s.inp.inv n (if n < 112 then 0 else s.fld F.INP_CFG_INV n) } }

/-- A channel takes all its settings and its stream starts (R71, R96). -/
def startChannel (n : Nat) (s : State) : State :=
  let s1 := takeSettings n s
  streamStart n (noteIn n { s1 with inp := { s1.inp with en := mput false s1.inp.en n true } })

/-- At a boundary of R21 a newly enabled channel starts (R71). -/
def enableApply (n : Nat) (s : State) : State :=
  if running s && s.bit F.INP_CFG_EN n && !mget false s.inp.en n && updateDue s n then startChannel n s else s

def execChannelEnableApply (n : Chan) (s : State) : Res := .next (enableApply n s)

/-- A channel stops: its stream carries zeros and its status flags clear, without an event; the latches, the episode count and the
peak keep their values (R71). Its arc statistic ends (R190). -/
def stopChannel (n : Nat) (s : State) : State :=
  let s0 := arcStop n s
  let s1 := ((((s0.lower F.INP_ST_OPEN n).put F.INP_ST_OPENPIN n 0).lower F.INP_ST_OVR n).lower F.INP_ST_STUCK n).lower
    F.INP_ST_DENS n
  { s1 with inp := { s1.inp with
      en := mput false s1.inp.en n false, outP := mput 0 s1.inp.outP n 0, outN := mput 0 s1.inp.outN n 0
      intDue := mput false s1.inp.intDue n false, clip := mput 0 s1.inp.clip n 0 } }

/-- At a boundary of R21 a channel whose EN was cleared stops (R71). A change of its RANGE or SENSOR, or of its responses, that is
still pending has no splice or crossfade any longer: the channel takes its settings when it starts. -/
def disableApply (n : Nat) (s : State) : State :=
  if running s && !s.bit F.INP_CFG_EN n && mget false s.inp.en n && updateDue s n then
    let s1 := stopChannel n s
    if n < 112 then dropResp n (cancelChange n s1) else cancelChange n s1
  else s

def execChannelDisableApply (n : Chan) (s : State) : Res := .next (disableApply n s)

/-- A new BURN takes effect on both pins at a boundary of R21 (R61, R71). -/
def execBurnChangeApply (n : AChan) (s : State) : Res :=
  .next (if running s && updateDue s n then
    { s with inp := { s.inp with burn := mput 0 s.inp.burn n (s.fld F.INP_CFG_BURN n) } } else s)

/-- New SDLY, LAT and INV take effect at a boundary of R21, which is taken to be that of a decimator frame too (R71). -/
def timingApply (n : Nat) (s : State) : State :=
  if running s && updateDue s n then
    { s with inp := { s.inp with
      sdly := mput 0 s.inp.sdly n (s.fld F.INP_CFG_SDLY n)
      lat := mput 0 s.inp.lat n (s.fld F.INP_CFG_LAT n)
      inv := mput 0 s.inp.inv n (s.fld F.INP_CFG_INV n) } }
  else s

def execBitstreamTimingApply (b : BChan) (s : State) : Res := .next (timingApply (bStream b) s)

/-- The RANGE and SENSOR fields of INP_CFG[n] hold new values (Table 03-5): on a channel that is not running they take
effect at once; on a running analog channel as a live change; a running bitstream channel waits for its trim run. A change still
pending is given up for the new one, or for none where the settings in force are asked for again; one whose crossfade has started
is followed by the new one (R82). -/
def rangeSensorChanged (n : Nat) (s0 : State) : State :=
  let r := if n < 112 then s0.fld F.INP_CFG_RANGE n else 0
  let k := s0.fld F.INP_CFG_SENSOR n
  let s := if pendingChange s0 n = some (r, k) then s0 else cancelChange n s0
  if pendingChange s n = some (r, k) ∨ changeFading s n then s
  else if r = mget 0 s.inp.range n ∧ k = mget 0 s.inp.sensor n then s
  else if running s && chanOn s n then
    if n < 112 then liveRequest n r k s
    else { s with rmt := { s.rmt with bare := s.rmt.bare.filter (·.chan != n) ++ [⟨n, r, k, .waiting⟩] } }
  else { s with inp := { s.inp with range := mput 0 s.inp.range n r, sensor := mput 0 s.inp.sensor n k } }

end Sys2Proof.Machine
end

