-- ==== Sys2Proof/Machine/Calibration.lean ====
section
/-! DEFINITION. Calibration: the meanings of its commands (R202 to R216). -/

namespace Sys2Proof.Machine

/-! ### Trim runs -/

/-- A trigger of R202. -/
def execTrimRunStart (s : State) : Res := .next (onCtlOnce .trimStart trimTrigger s)

/-- CAL_CTL.TRIG (R202); the controller and the Vault work in STANDBY too. -/
def calTrig (s : State) : State := if ctlOn s then trimTrigger s else s

def execCalTrig (s : State) : Res := .next (if privileged s then onCtl .calTrig calTrig s else s)

/-- The enabled channels. -/
def enabledChans (s : State) : List Nat := (List.range 144).filter (chanOn s)

/-- What a trim run forms for a channel's present settings. -/
def trimOf (s : State) (n : Nat) : Trace :=
  traceAt s n (mget 0 s.inp.range n) (mget 0 s.inp.sensor n) (dieTemp s)

/-- Changes of RANGE or SENSOR under way: waiting, in a slot before its splice, pre-empted, or without a slot (R88, R451). -/
def liveChanges (s : State) : List LiveReq :=
  let of (x : Option Slot) : Option LiveReq := x.bind (Slot.liveReq? s)
  s.rmt.live ++ s.rmt.bare ++ (List.range 26).flatMap fun sp =>
    (of (getSp s sp).slot).toList ++ (of (getSp s sp).kept).toList

/-- The tests of R203. The change limits hold against the values in force for the same RANGE and SENSOR. A channel without usable entries
has no value in force: the values of R197 stand in for one (the
worked example of chapter 10 moves its DLY from them by more than the change limit); the same of a REFK of R197. -/
def trimPasses (s : State) : Bool :=
  let t := dieTemp s
  !s.bit F.CAL_ST_TBAD && decide (-4500 ≤ t) && decide (t ≤ 13000) && refkAbsOk (refkAt s t)
    && (enabledChans s).all (fun n =>
      let c := trimOf s n
      let r := mget 0 s.inp.range n
      absOk n r c && (s.cal.powerUp || (match mget none s.cal.trace n with
        | some old => (old.nocal || !traceFits s n old || changeOk n r (25 / 10000) (1 / 1000) 256 old c)
            && (!old.refkv || refkChangeOk old.refk c.refk)
        | none => true)))
    && (liveChanges s).all fun q => absOk q.chan q.range (traceAt s q.chan q.range q.sensor t)

/-- After a run ends, a queued trigger starts a further run (R202). -/
def trimNext (s : State) : State :=
  let s1 := { s with cal := { s.cal with failed1 := false, powerUp := false, again := false, anyRun := true } }.put
    F.CAL_ST_TRIMRUN 0 0
  if s.cal.again then trimTrigger (trimOver s1) else trimOver s1

/-- The results of a passing run wait for each channel's boundary; those of the run at main power-up are in force at once
(R205). -/
def trimPass (s : State) : State :=
  let t := dieTemp s
  let rs : List (Nat × Trace) := (enabledChans s).map fun n => (n, trimOf s n)
  let ns : List (Nat × Trace) := (liveChanges s).map fun q => (q.chan, traceAt s q.chan q.range q.sensor t)
  let s1 := { s with cal := { s.cal with
    pend := rs.foldl (fun m (p : Nat × Trace) => mput none m p.1 (some p.2)) s.cal.pend
    pendNew := ns.foldl (fun m (p : Nat × Trace) => mput none m p.1 (some p.2)) s.cal.pendNew
    anyPass := true } }
  let s2 := ((s1.putI F.CAL_TEMP_TTRIM 0 t).put F.CAL_ST_TRIMOK 0 1).lower F.CAL_ST_UNCAL 0
  let s3 := raiseIf s.cal.failed1 122 noDetail (s2.inc F.CAL_ST_RUNS)
  trimNext (if s.cal.powerUp then applyAllPend s3 else s3)

/-- The values of R197 are applied to every enabled channel with REFK 1, and UNCAL is set (R204); event 124 names the
lowest channel. -/
def uncalibrate (s : State) : State :=
  match enabledChans s with
  | [] => raise 124 noDetail (s.lift F.CAL_ST_UNCAL 0)
  | n :: r =>
    let quiet (m : Nat) (s : State) : State :=
      { ((s.put F.CAL_CTAP_DTAP m 128).put F.CAL_CTAP_THTAP m 0).put F.CAL_CTAP_NOCAL m 1 with
        cal := { s.cal with trace := mput none s.cal.trace m none } }
    raise 124 n ((n :: r).foldl (fun s m => quiet m s) (s.lift F.CAL_ST_UNCAL 0))

/-- A run and its repeat have failed: the values in force are kept, or at main power-up those of R197 are applied (R203,
R204); a change without a splice takes those of R197 for its channel (R205). -/
def trimFail (s : State) : State :=
  let drop (m : SMap (Option Trace)) (q : LiveReq) : SMap (Option Trace) :=
    if q.trim = .running then mput none m q.chan none else m
  let s1 := { s with cal := { s.cal with pendNew := s.rmt.bare.foldl drop s.cal.pendNew } }
  let s2 := (s1.put F.CAL_ST_TRIMOK 0 0).inc F.CAL_ST_RUNS
  let s3 := if s.cal.anyPass then s2 else s2.putI F.CAL_TEMP_TTRIM 0 (dieTemp s)
  let s4 := raise 123 noDetail s3
  trimNext (if s.cal.powerUp then uncalibrate s4 else s4)

/-- An attempt of a trim run ends; `bad`: a fault spoilt one of its results; `fs`: reads of sets that failed (R200, R203). -/
def trimComplete (bad : Bool) (fs : List SetFail) (s : State) : State :=
  if ctlOn s && s.bit F.CAL_ST_TRIMRUN then
    let s1 := touchSets (takeFails fs s)
    if trimPasses s1 && !bad then trimPass s1
    else if s1.cal.failed1 then trimFail s1
    else { s1 with cal := { s1.cal with failed1 := true } }
  else s

def execTrimRunComplete (bad : Bool) (fs : List SetFail) (s : State) : Res := .next (trimComplete bad fs s)

/-- A change of RANGE or SENSOR without a splice takes effect with its trace values, once its own trim run has ended (R205,
R451): an analog channel then carries SETTLE for 30 ms, under the correction its modulator has for the new RANGE. -/
def bareApply (n : Nat) (s : State) : State :=
  match s.rmt.bare.find? (·.chan == n) with
  | none => s
  | some q =>
    if q.trim = .over then
      let s1 := { s with
        rmt := { s.rmt with bare := s.rmt.bare.filter (· ≠ q) }
        inp := { s.inp with range := mput 0 s.inp.range n q.range, sensor := mput 0 s.inp.sensor n q.sensor } }
      let s2 := traceAtSplice n s1
      if n < 112 then noteFactory n ((setDone n 30000 s2).lift F.FLT_ST_SETTLE n) else s2
    else s

/-- At a channel's grid-cycle boundary (R21), and after a commit of both devices of a pair from the instant they agreed on (R215),
its trim results take effect (R205), and with them an analog change of RANGE or SENSOR that is made without a spare (R451). -/
def trimApply (n : Nat) (s : State) : State :=
  if running s && boundaryAt s n && decide (s.cal.jointT ≤ s.clk.site) then
    (if n < 112 then bareApply n (applyPend n s) else applyPend n s)
  else s

def execTrimResultsApply (n : Chan) (s : State) : Res := .next (trimApply n s)

/-- A bitstream SENSOR change takes effect with its trace values at the first frame and grid boundary after its trim run
(R71, R205). -/
def execBitstreamSensorApply (b : BChan) (s : State) : Res :=
  .next (if running s && boundaryAt s (bStream b) then bareApply (bStream b) s else s)

/-! ### Reference sessions -/

/-- The streams that CAL_SEL selects. -/
def calSelected (s : State) : List Nat :=
  (List.range 144).filter fun n => (s.fld F.CAL_SEL_SEL (n / 32)).testBit (n % 32)

/-- A channel counts as a voltage (R119, and R207 for SENSOR 3 on a bitstream channel). -/
def isVoltage (s : State) (n : Nat) : Bool :=
  if n < 96 then false
  else if n < 112 then true
  else
    let k := mget 0 s.inp.sensor n
    k == 4 || (k == 3 && s.bit F.GRD_CHAN_EN n && !s.bit F.GRD_CHAN_KIND n)

/-- Is START refused (R208)? -/
def startRefused (s : State) : Bool :=
  let rv := s.fld F.CAL_REFV_REFV
  calState s != 0 || !(calSelected s).any (chanOn s) || s.fld F.CAL_SESS_RPT == 0 || s.fld F.CAL_SESS_NCYC == 0
    || (s.bit F.CAL_SESS_REFEN && !(b32Fin rv && decide (2 / 10 ≤ b32 rv) && decide (b32 rv ≤ 45 / 100)))
    || (!s.bit F.CAL_SESS_MODE && s.fld F.GRD_ST_STATE (s.fld F.CAL_SESS_GG) != 3)
    || s.bit F.CAL_ST_TBAD

/-- The signed angle of CAL_PHI in degrees. -/
def phiDeg (s : State) : Rat := (s.sfld F.CAL_PHI_PHI : Rat) * 360 / 2 ^ 32

/-- A new session with the settings that the registers hold. -/
def newSess (s : State) : Sess where
  dc      := s.bit F.CAL_SESS_MODE
  refen   := s.bit F.CAL_SESS_REFEN
  fresh   := s.bit F.CAL_SESS_FRESH
  set     := s.fld F.CAL_SESS_SET
  rpt     := s.fld F.CAL_SESS_RPT
  gg      := s.fld F.CAL_SESS_GG
  ncyc    := s.fld F.CAL_SESS_NCYC
  uref    := b32 (s.fld F.CAL_UREF_UREF)
  iref    := b32 (s.fld F.CAL_IREF_IREF)
  phi     := phiDeg s
  refv    := b32 (s.fld F.CAL_REFV_REFV)
  temp    := dieTemp s
  chans   := (calSelected s).foldl (fun m n => mput SessChan.blank m n
    { SessChan.blank with fail := !chanOn s n || s.bit F.INP_ST_OPEN n || s.bit F.INP_ST_STUCK n }) []
  freqs   := []
  windows := false
  winT    := none
  cyc     := 0
  unlk    := false
  again   := false
  lost    := false
  refin   := if s.bit F.CAL_SESS_REFEN then .waiting else .off
  refkNew := none
  cands   := []

/-- CAL_CTL.START (R208): a session in CHECK, or REJ; in STANDBY as in RUN. -/
def calStart (s : State) : State :=
  if !ctlOn s then s
  else if startRefused s then s.put F.CAL_ST_REJ 0 1
  else
    let x := newSess s
    let s1 := { s with cal := { s.cal with sess := some x, sel := calSelected s, spoiled := [], commit := none } }
    ((setCalState 1 s1).put F.CAL_ST_REJ 0 0).put F.CAL_ST_CONFLICT 0 0

def execCalStart (s : State) : Res := .next (if privileged s then onCtl .calStart calStart s else s)

/-- The session enters FAILED: event 120 (R218). -/
def sessFail (s : State) : State :=
  raise 120 noDetail
    (((List.range 5).foldl (fun s k => s.put F.CAL_RES_PASS k 0) (setCalState 8 s)).put F.CAL_ST_REFOK 0 0)

/-- CHECK ends (R207): with every selected channel failed the session fails. -/
def checkComplete (x : Sess) (s : State) : State :=
  if calState s = 1 then
    if sessAlive s x = [] then sessFail s else setCalState (if x.dc then 2 else 4) s
  else s

def execCalCheckComplete (s : State) : Res := .next (onSess checkComplete s)

/-- The windows of a measurement begin: in DC mode at the next whole 20 ms, in AC mode at the group's next boundary (R210). -/
def beginWindows (x : Sess) (s : State) : Sess :=
  { x with windows := true, again := false, unlk := false, cyc := 0
           winT := if x.dc then some ((s.clk.site + 19999999) / 20000000 * 20000000) else none }

/-- CAL_CTL.STEP (R207): in ZERO_WAIT the zero measurement, in APPLY_WAIT the applied one, which also begins the REFIN
measurement where REFEN asks for it (R211). -/
def calStep (x : Sess) (s : State) : State :=
  if calState s = 2 then setCalState 3 (setSess (beginWindows x s) { s with cal := { s.cal with spoiled := [] } })
  else if calState s = 4 then refinStart (setCalState 5 (setSess { x with windows := false, again := false } s))
  else s

def execCalStep (s : State) : Res := .next (if privileged s then onCtl .calStep (onSess calStep) s else s)

/-- The windows of a reference session in progress begin again: after a stop of the RUN clocks, or of the controller (R17, R210). -/
def sessResume (s : State) : State :=
  match s.cal.sess with
  | some x => if x.windows then setSess { beginWindows x s with again := x.again } s else s
  | none => s

/-- Settling in MEAS ends and the windows begin (R207). -/
def calSettled (x : Sess) (s : State) : State :=
  if calState s = 5 then setSess (beginWindows x s) { s with cal := { s.cal with spoiled := [] } } else s

def execCalSettlingEnd (s : State) : Res := .next (onSess calSettled s)

/-- One channel's part of a window's end (R210). `refk`: REFK in force on a channel. -/
def winChan (x : Sess) (zero : Bool) (bad spoiled : List Nat) (refk : Nat → Rat) (m : SMap SessChan) (w : CalWindow) :
    SMap SessChan :=
  let n := w.n
  let c := mget SessChan.blank m n
  let full := decide (x.rpt ≤ (if zero then c.zero.length else c.meas.length))
  let v : WinVal := ⟨w.v, w.ph, w.frac, refk n⟩
  let c1 :=
    if c.fail || full then c
    else if bad.contains n then (if c.again then { c with fail := true } else { c with again := true })
    else if spoiled.contains n then c
    else if zero then { c with zero := c.zero ++ [v], eng := c.eng ++ [w.eng], again := false }
    else { c with meas := c.meas ++ [v], again := false }
  mput SessChan.blank m n c1

/-- Was OVR, DENS, OPEN or STUCK of a channel set at any time since an instant (R210)? -/
def winBad (s : State) (t n : Nat) : Bool :=
  s.during F.INP_ST_OVR n t || s.during F.INP_ST_DENS n t || s.during F.INP_ST_OPEN n t || s.during F.INP_ST_STUCK n t

/-- Is the window in progress over: NCYC cycles of the group, or NCYC × 20 ms (R210)? -/
def winOver (s : State) (x : Sess) (t : Nat) : Bool :=
  if x.dc then s.clk.site == t + 20000000 * x.ncyc else x.cyc == x.ncyc

/-- A window ends (R210): its values are kept, or the window is repeated for a channel whose status was set in it, or, in AC mode,
for all where the group did not stay LOCKED. The next window begins at once. -/
def windowEnd (ws : List CalWindow) (x : Sess) (s : State) : State :=
  let zero := decide (calState s = 3)
  match x.winT with
  | none => s
  | some t =>
    if (calState s = 3 ∨ calState s = 5) ∧ x.windows ∧ winOver s x t then
      let sel := ws.filter fun w => s.cal.sel.contains w.n
      let bad := (sel.map CalWindow.n).filter (winBad s t)
      let s1 := { s with cal := { s.cal with spoiled := [] } }
      let x1 := { x with winT := some s.clk.site, cyc := 0, unlk := false }
      if !x.dc && x.unlk then
        if x.again then sessAdvance { x1 with lost := true } s1 else setSess { x1 with again := true } s1
      else
        sessAdvance { x1 with again := false, freqs := x.freqs ++ [rdiv (x.ncyc * 1000000000) (s.clk.site - t : Nat)]
                              chans := sel.foldl (winChan x zero bad s.cal.spoiled fun n => (traceOf s n).refk) x.chans } s1
    else s

/-- The REFIN measurement of the spare that makes it is complete (R211). -/
def refinMeasured (vm spread : Rat) (x : Sess) (s : State) : State :=
  match refinBusy s with
  | some sp =>
    if calState s = 5 ∧ x.refin = .waiting ∧ (getSp s sp).refin = some .measure then
      nextWork sp (sessAdvance { x with refin := .measured vm spread } (setSp sp { getSp s sp with refin := none } s))
    else s
  | none => s

def execRefinMeasureComplete (vm spread : Rat) (s : State) : Res := .next (onSess (refinMeasured vm spread) s)

/-- The mean of a list; open where it is empty. -/
def meanOf (l : List Rat) : Rat := rdiv l.sum l.length

/-- Maximum minus minimum of a list. -/
def spreadOf : List Rat → Rat
  | [] => 0
  | a :: r => r.foldl rmax a - r.foldl rmin a

/-- REFK from the REFIN measurement, where it passes (R211, R213). -/
def refkResult (s : State) (x : Sess) : Option Rat :=
  match x.refin with
  | .measured vm spread =>
    let k := rdiv x.refv vm
    if refkAbsOk k && decide (spread ≤ 20 / 1000000 * rabs vm) && (x.fresh || refkChangeOk (refkAt s x.temp) k)
    then some k else none
  | .off => none
  | .waiting => none
  | .failed => none

/-- A window value of an analog channel as it reads under the new REFK, where REFIN passed (R212). -/
def rescaled (n : Nat) (refkNew : Option Rat) (w : WinVal) : Rat :=
  match refkNew with
  | some r => if n < 112 then w.v * rdiv r w.refk else w.v
  | none => w.v

/-- Candidate values of a channel (R212). -/
def candOf (s : State) (x : Sess) (refkNew : Option Rat) (n : Nat) : Cand :=
  let c := mget SessChan.blank x.chans n
  let old := traceOf s n
  let vs := c.meas.map (rescaled n refkNew)
  let zero := meanOf (c.zero.map (rescaled n refkNew))
  let target := if isVoltage s n then x.uref else x.iref
  let expected : Rat := if isVoltage s n then 0 else -x.phi
  let isRef := (mget GrdTrk.blank s.grd.trk x.gg).ref == n
  if x.dc then
    let dcOk := mget 0 s.inp.sensor n != 1 && mget 0 s.inp.sensor n != 2
    { g := rdiv target (meanOf (vs.map fun v => v - zero))
      o := if dcOk then meanOf c.eng else old.o
      ofsv := dcOk || old.ofsv
      dly := old.dly }
  else
    { g := rdiv target (meanOf vs)
      o := old.o
      ofsv := old.ofsv
      dly := if isRef then old.dly
             else (nearest (old.dly + 16 * rdiv (meanOf (c.meas.map (·.ph)) - expected)
               (360 * meanOf x.freqs * (16276 / 100000000000))) : Int) }

/-- The candidate as trace values for a RANGE and a SENSOR. -/
def candTrace (refk : Rat) (c : Cand) (range sensor : Nat) : Trace := ⟨c.g, c.o, c.dly, refk, c.ofsv, false, false, true, range, sensor⟩

/-- Does a selected channel pass (R213)? -/
def chanPasses (s : State) (x : Sess) (refkNew : Option Rat) (n : Nat) : Bool :=
  let c := mget SessChan.blank x.chans n
  let r := mget 0 s.inp.range n
  let tr := candTrace (refkNew.getD (traceOf s n).refk) (candOf s x refkNew n) r (mget 0 s.inp.sensor n)
  let vs := c.meas.map (rescaled n refkNew)
  !c.fail && c.meas != []
    && c.meas.all (fun w => decide (1 / 10 ≤ rabs w.frac) && decide (rabs w.frac ≤ 1))
    && decide (spreadOf vs ≤ 100 / 1000000 * rabs (meanOf vs))
    && (x.dc || decide (spreadOf (c.meas.map (·.ph)) ≤ 1 / 100))
    && absOk n r tr
    && (x.fresh || changeOk n r (5 / 1000) (2 / 1000) 128 (traceAt s n r (mget 0 s.inp.sensor n) x.temp) tr)

/-- A map of streams as register words. -/
def putMap (f : Fld) (l : List Nat) (s : State) : State :=
  (List.range 5).foldl (fun s k => s.put f k (mapWord k fun n => l.contains n)) s

/-- RESULT: the candidates are computed and tested (R212, R213). `fs`: reads of sets that failed (R200). -/
def calResult (fs : List SetFail) (x : Sess) (s0 : State) : State :=
  if calState s0 = 6 then
    let s := touchSets (takeFails fs s0)
    let k := refkResult s x
    let pass := (sessAlive s x).filter (chanPasses s x k)
    let ok := pass != [] && !x.lost && (!x.refen || k.isSome) && decide (|dieTemp s - x.temp| ≤ 100)
    let s1 := s.setBit F.CAL_ST_REFOK 0 k.isSome
    if ok then
      let cs := pass.foldl (fun m n => mput none m n (some (candOf s x k n))) []
      raise 120 noDetail (putMap F.CAL_RES_PASS pass (setCalState 7 (setSess { x with refkNew := k, cands := cs } s1)))
    else raise 120 noDetail (putMap F.CAL_RES_PASS (if x.lost then [] else pass) (setCalState 8 s1))
  else s0

def execCalResult (fs : List SetFail) (s : State) : Res := .next (onSess (calResult fs) s)

/-! ### Commit, abort, erase -/

/-- The set that a commit writes (R214). -/
def commitSet (s : State) (x : Sess) : Option Nat :=
  if x.set < 8 then some x.set
  else
    ((List.range 8).find? fun i => let c := readSet s i; c.seq != 0 && decide (|c.tset - x.temp| ≤ 200)).orElse fun _ =>
      (List.range 8).find? fun i => (readSet s i).seq == 0

/-- The session enters COMMITTING for this set. -/
def beginCommit (i : Nat) (s : State) : State :=
  (setCalState 9 { s with cal := { s.cal with commit := some i } }).put F.CAL_ST_REJ 0 0

/-- A commit that the devices of a pair refuse together: REJ and CONFLICT, and no instant is agreed on any more (R215, Table 10-8). -/
def commitConflict (s : State) : State :=
  (({ s with cal := { s.cal with jointT := 0 } }).put F.CAL_ST_REJ 0 1).put F.CAL_ST_CONFLICT 0 1

/-- How long after a commit both devices of a pair take its values, in ns: the spec says that they do so at the same boundary and
not how they agree on it (DESIGN CHOICE). -/
def jointDelay : Nat := 1000000000

/-- The instant from which the values of a commit take effect: of one that is named and one that this device has named already and not
reached, the later, so that both devices agree on it where COMMIT is written to both (R215). -/
def jointFrom (t : Nat) (s : State) : Nat := if s.clk.site < s.cal.jointT then max s.cal.jointT t else t

/-- A commit is refused: in a pair both refuse it (R214, R215). -/
def refuseCommit (s : State) : State :=
  if paired s then commitConflict (sendMsg (.commitAck false) s) else s.put F.CAL_ST_REJ 0 1

/-- CAL_CTL.COMMIT (R214, R215): in PASSED the set is chosen and the write begins. With a twin attached the commit first
passes over Tether. -/
def calCommit (x : Sess) (s0 : State) : State :=
  let s := touchSets s0
  if calState s ≠ 7 then refuseCommit s0
  else match commitSet s x with
    | none => s.put F.CAL_ST_REJ 0 1
    | some i =>
      if paired s then
        let t := s.clk.site + jointDelay
        sendMsg (.commit s.cal.sel (x.cands.map (·.1)) t) { s with cal := { s.cal with jointT := jointFrom t s } }
      else beginCommit i s

/-- CAL_CTL.COMMIT; without a session it is refused. -/
def commitRequest (s : State) : State := if s.cal.sess.isNone then refuseCommit s else onSess calCommit s

def execCalCommit (s : State) : Res := .next (if privileged s then onCtl .calCommit commitRequest s else s)

/-- The set with the session's passing entries (R214). -/
def committed (s : State) (x : Sess) (old : CalSet) : CalSet where
  seq   := old.seq + 1
  tset  := if x.refkNew.isSome ∨ old.seq = 0 then x.temp else old.tset
  refkv := x.refkNew.isSome || old.refkv
  refk  := match x.refkNew with
    | some k => nearest (k * 2 ^ 30)
    | none => old.refk
  time  := s.clk.site
  ents  := x.cands.foldl (fun m p => match p.2 with
    | none => m
    | some c => mput none m p.1 (some
      { g := nearest (c.g * 2 ^ 30), o := nearest c.o, dly := (nearest c.dly).toNat
        range := mget 0 s.inp.range p.1, sensor := mget 0 s.inp.sensor p.1, ofsv := c.ofsv, tent := x.temp })) old.ents

/-- The set is written: event 121, the trim run starts, and the session is IDLE (R214). -/
def commitComplete (fs : List SetFail) (x : Sess) (s0 : State) : State :=
  match s0.cal.commit with
  | none => s0
  | some i =>
    let s := touchSets (takeFails fs s0)
    let s1 := writeSet i (committed s x (readSet s i)) s
    let s2 := { s1 with cal := { s1.cal with commit := none, sess := none, sel := [] } }
    trimTrigger (raise 121 i (setCalState 0 s2))

/-- The session ends and its results are discarded. -/
def sessEnd (s : State) : State :=
  setCalState 0 (refinDrop { s with cal := { s.cal with sess := none, sel := [], commit := none } })

/-- CAL_CTL.ABORT (R207). -/
def calAbort (s : State) : State := if ctlOn s && calState s != 9 then sessEnd s else s

def execCalAbort (s : State) : Res := .next (if privileged s then onCtl .calAbort calAbort s else s)

/-- CAL_CTL.ERASE (R216): refused while a session is not IDLE; the write waits for the Vault's write port (R20). -/
def calErase (i : Nat) (s : State) : State :=
  if ctlOn s && calState s == 0 then onVault 4 (.calErase i) (fun s => trimTrigger (writeSet i CalSet.empty s)) s else s

def execCalErase (set : Fin 8) (s : State) : Res := .next (if privileged s then onCtl (.calErase set) (calErase set) s else s)

/-- 600 s without progress (R207). -/
def sessTimeout (s : State) : State :=
  if calState s = 2 ∨ calState s = 4 then sessFail s
  else if calState s = 7 ∨ calState s = 8 then sessEnd s else s

def execCalSessionTimeout (s : State) : Res := .next (onCtlOnce .sessTimeout sessTimeout s)

end Sys2Proof.Machine
end

