-- ==== Sys2Proof/Machine/MathOps.lean ====
section
/-! DEFINITION. Numbers that no rational holds exactly: square roots, logarithms, cosines and angles, each to a stated precision;
and the discrete Fourier transform (R124, R164, R166, R186, R187). -/

namespace Sys2Proof.Machine

/-- The square root, to 2⁻⁶⁴ from below. -/
def rsqrt (q : Rat) : Rat := (Nat.sqrt (q * 2 ^ 128).floor.toNat : Rat) / 2 ^ 64

/-- Steps of the bits of a binary logarithm of y in [1, 2), kept to 64 bits. -/
def log2Bits : Nat → Rat → Rat → Rat
  | 0, _, _ => 0
  | k + 1, w, y =>
    let z := ((y * y * 2 ^ 64).floor : Rat) / 2 ^ 64
    if 2 ≤ z then w + log2Bits k (w / 2) (z / 2) else log2Bits k (w / 2) z

/-- The decimal logarithm, of a positive number to about 2⁻³⁸; of zero no value is stated (`Config.logZero`). -/
def log10 (q : Rat) : Rat :=
  if q ≤ 0 then Config.logZero q else
  let e : Int := (Nat.log2 q.num.toNat : Int) - Nat.log2 q.den
  let y0 : Rat := if 0 ≤ e then q / 2 ^ e.toNat else q * 2 ^ (-e).toNat
  let p : Int × Rat := if y0 < 1 then (e - 1, y0 * 2) else (e, y0)
  ((p.1 : Rat) + log2Bits 40 (1 / 2) p.2) * (30102999566398119521 / 100000000000000000000)

/-! ### Angles -/

/-- π, to 48 decimals. -/
def piR : Rat := 3141592653589793238462643383279502884197169399375 / 10 ^ 48

/-- An angle in turns brought to half a turn either side of zero, in radians. -/
def halfTurn (q : Rat) : Rat := 2 * piR * (q - (q + 1 / 2).floor)

/-- An alternating power series: each term is the one before it times −x² over (2i + a)(2i + a + 1). -/
def altSeries (x t : Rat) (a n : Nat) : Rat :=
  ((List.range n).foldl (fun (p : Rat × Rat) i =>
    (p.1 + p.2, -(p.2 * x * x) / (((2 * i + a) * (2 * i + a + 1) : Nat) : Rat))) (0, t)).1

/-- Cosine and sine of an angle in turns, to better than 2⁻⁶⁴: forty terms of their series. -/
def cosTurn (q : Rat) : Rat := altSeries (halfTurn q) 1 1 40
def sinTurn (q : Rat) : Rat := altSeries (halfTurn q) (halfTurn q) 2 40

/-- The arc tangent in radians of a number of magnitude at most 0.42, to better than 2⁻⁶⁴: forty terms of its series. -/
def atanSmall (v : Rat) : Rat :=
  ((List.range 40).foldl (fun (p : Rat × Rat) i => (p.1 + p.2 / ((2 * i + 1 : Nat) : Rat), -(p.2 * v * v))) (0, v)).1

/-- The arc tangent in radians of a number that is not negative. -/
def atanPos (v : Rat) : Rat :=
  if v ≤ 2 / 5 then atanSmall v
  else if v ≤ 5 / 2 then piR / 4 + atanSmall ((v - 1) / (v + 1))
  else piR / 2 - atanSmall (1 / v)

/-- The angle of a complex number, in degrees from −180 to 180; of zero no value is stated (`Config.argZero`). -/
def argDeg (z : Rat × Rat) : Rat :=
  let a := (if z.1 = 0 then piR / 2 else atanPos (rabs (z.2 / z.1))) * 180 / piR
  if z.1 = 0 ∧ z.2 = 0 then Config.argZero
  else
    let b := if z.1 < 0 then 180 - a else a
    if z.2 < 0 then -b else b

/-! ### Transforms -/

/-- Σ x_j exp(−j 2π k j ÷ m) over the samples, oldest first. -/
def dft (m k : Nat) (xs : List Rat) : Rat × Rat :=
  (xs.zipIdx).foldl (fun (a : Rat × Rat) x =>
    let q : Rat := ((k * x.2 % m : Nat) : Rat) / m
    (a.1 + x.1 * cosTurn q, a.2 - x.1 * sinTurn q)) (0, 0)

/-- The square of C_k, which is √2 ÷ m times the magnitude of that sum (R166). -/
def binSq (m k : Nat) (xs : List Rat) : Rat :=
  let z := dft m k xs
  2 * (z.1 * z.1 + z.2 * z.2) / (m * m)

/-- Samples under a Hann window of m points (R186, R187). -/
def hann (m : Nat) (xs : List Rat) : List Rat := (xs.zipIdx).map fun x => x.1 * (1 - cosTurn ((x.2 : Rat) / m)) / 2

/-- The median of a list of odd length. -/
def median (l : List Rat) : Rat := (l.insertionSort (· ≤ ·)).getD (l.length / 2) 0

end Sys2Proof.Machine
end

