-- ==== Sys2Proof/Machine/PulseOps.lean ====
section
/-! DEFINITION. Pulse outputs, shared operations: the residue, what a posting and a twin correction bring to it, one pulse
tick, and gaining and losing the driver role (R142 to R154). -/

namespace Sys2Proof.Machine

def setOut (c : Nat) (o : PlsOut) (s : State) : State :=
  { s with pls := { s.pls with outs := mput PlsOut.blank s.pls.outs c o } }

/-- Does an output pulse: enabled with a constant (R142)? -/
def PlsOut.live (o : PlsOut) : Bool := o.en && o.pconst != 0

/-- The increment of quantity q of set k in a posting. -/
def incAt (inc : List (List Nat)) (j : Nat) : Nat := (inc.getD (j / 16 % 4) []).getD (j % 16) 0

/-- The ticks over which an increment of an interval of T seconds is spread (R143). -/
def spreadTicks (t : Rat) : Nat := max 1 (nearest (t * 96000)).toNat

/-- A posting of meter m reaches the outputs it is the source of: its increment waits for the next tick (R143). Increments of two
postings before one tick are added and spread over the later one's duration: the spec does not say which T counts (DESIGN CHOICE). -/
def pulseFeed (m : Nat) (inc : List (List Nat)) (dur : Rat) (s : State) : State :=
  (List.range 16).foldl (fun s c =>
    let o := getOut s c
    if o.live && o.src / 64 == m then
      let d := incAt inc o.src + (match o.fresh with
        | some p => p.1
        | none => 0)
      setOut c { o with fresh := some (d, spreadTicks dur) } s
    else s) s

/-- A twin correction of accumulator a enters the residue at once (R143). -/
def pulseCorrect (a : Nat) (d : Int) (s : State) : State :=
  (List.range 16).foldl (fun s c =>
    let o := getOut s c
    if o.live && o.src == a then setOut c { o with res := o.res + d } s else s) s

/-- The net is read at a tick: the runs of high and low ticks, and the pulse starts seen (R144, R147, R150). -/
def readNet (low : Bool) (o : PlsOut) : PlsOut :=
  if low then { o with low := o.low + 1, high := 0, net := o.net + (if o.high = 0 then 0 else 1) }
  else { o with low := 0, high := o.high + 1 }

/-- The tick's share of the increment enters the residue; the last tick takes the remainder as well (R143). -/
def takeShare (o : PlsOut) : PlsOut :=
  let o1 := match o.fresh with
    | some p => { o with fresh := none, left := o.left + p.1, ticks := p.2, share := (o.left + p.1) / p.2 }
    | none => o
  if o1.ticks = 0 then o1
  else if o1.ticks = 1 then { o1 with res := o1.res + o1.left, left := 0, ticks := 0, share := 0 }
  else { o1 with res := o1.res + o1.share, left := o1.left - o1.share, ticks := o1.ticks - 1 }

/-- PCONST in units of 2⁻³². -/
def PlsOut.unit (o : PlsOut) : Int := (o.pconst : Int) * 2 ^ 32

/-- Does a pulse start at this tick (R144)? -/
def pulseDue (o : PlsOut) : Bool :=
  o.live && decide (o.unit ≤ o.res) && o.busy.isNone && decide (o.width ≤ o.high)

/-- A pulse starts: the residue is debited, and the holder of the driver role drives (R144, R148). -/
def startPulse (role : Bool) (o : PlsOut) : PlsOut :=
  { o with res := o.res - o.unit, busy := some 0, pw := o.width, driving := role }

/-- Is the pin fault condition of R147 met at this tick? WIDTH is the one in force at the tick: while a pulse that began under an
earlier WIDTH is in progress a lowered one already bounds the low run (DESIGN CHOICE: the spec does not say which bounds it). -/
def pinWrong (o : PlsOut) : Bool :=
  o.live && ((o.driving && (match o.busy with
    | some t => decide (2 ≤ t) && o.low == 0
    | none => false)) || decide (o.width + 2 < o.low))

/-- Does the tick agree (R147)? -/
def pinAgrees (o : PlsOut) : Bool :=
  if o.driving then (match o.busy with
    | some t => decide (t < 2) || o.low != 0
    | none => true)
  else !o.live || decide (o.low ≤ o.width + 2)

/-- One tick of an output, up to the start of a pulse. -/
def outTick (role low : Bool) (o : PlsOut) : PlsOut :=
  let o1 := readNet low { o with busy := o.busy.map (· + 1) }
  let o2 := takeShare o1
  let o3 := if pulseDue o2 then startPulse role o2 else o2
  { o3 with agree := if pinAgrees o3 then o3.agree + 1 else 0 }

/-- RATEX follows the residue: set at twice PCONST, cleared below PCONST; event 9 (R144, R156). It is tested on the residue after
the tick's debit, and not between the share and the debit (DESIGN CHOICE: the spec does not say). RATEXL is set at every tick at which
the condition holds, so that one cleared meanwhile comes back (DESIGN CHOICE: "since last cleared" may mean the rise alone). -/
def rateCheck (c : Nat) (s : State) : State :=
  let o := getOut s c
  if o.live && decide (2 * o.unit ≤ o.res) then
    raiseIf (!s.bit F.PLS_ST_RATEX c) 9 c ((s.put F.PLS_ST_RATEX c 1).put F.PLS_ST_RATEXL c 1)
  else if !o.live || decide (o.res < o.unit) then s.put F.PLS_ST_RATEX c 0
  else s

/-- PINERR is set: event 10 (R147, R156). PINERRL is set with it at every tick at which the condition holds (DESIGN CHOICE, as for
RATEXL). -/
def pinCheck (c : Nat) (s : State) : State :=
  if pinWrong (getOut s c) then
    raiseIf (!s.bit F.PLS_ST_PINERR c) 10 c ((s.put F.PLS_ST_PINERR c 1).put F.PLS_ST_PINERRL c 1)
  else s

/-- One tick of output c; `low`: the net reads low. -/
def tickOut (low : Bool) (c : Nat) (s : State) : State :=
  let o := getOut s c
  let o1 := outTick (drives s) low o
  let started := o1.busy == some 0
  let s1 := (setOut c o1 s).setBit F.PLS_ST_LOW c low
  let s2 := if started then s1.put F.PLS_CNT_CNT c (s1.fld F.PLS_CNT_CNT c + 1) else s1
  pinCheck c (rateCheck c s2)

/-- The device takes, or gives up, the driver role (R148, R221): a pulse in progress keeps its driver. -/
def setRole (b : Bool) (s : State) : State := { s with pls := { s.pls with role := b } }

/-- A takeover without an orderly change (R152): a net that had been low for fewer than WIDTH ticks sets TRUNC. -/
def takeOver (s : State) : State :=
  (List.range 16).foldl (fun s c =>
    let o := getOut s c
    if o.live && decide (0 < o.low) && decide (o.low < o.width) then
      raise 11 c (s.put F.PLS_ST_TRUNC c 1)
    else s) (setRole true s)

/-- At an exchange instant each output's residue, count and net starts are recorded (R149). The Lead's own count is the one that it
compares with when it becomes Escort (R150). -/
def recordOuts (s : State) : State :=
  (List.range 16).foldl (fun s c =>
    let o := getOut s c
    let cnt := s.fld F.PLS_CNT_CNT c
    setOut c { o with exRes := o.res, exCnt := cnt, exNet := o.net
                      prev := if s.fld F.TWN_ST_ROLE == 1 then some (cnt, o.net) else o.prev } s) s

/-- The residues and counts recorded at the latest exchange instant. -/
def recorded (s : State) : List (Int × Nat) :=
  (List.range 16).map fun c => ((getOut s c).exRes, (getOut s c).exCnt)

/-- A residue as an output holds it: zero where it does not pulse (R142). -/
def PlsOut.withRes (o : PlsOut) (r : Int) : PlsOut := { o with res := if o.live then r else 0 }

/-- The Lead's values of an exchange reach the shadow: what has accrued since t is kept (R149), and the change of the
Lead's count is compared with the pulses read on the net (R150). -/
def adoptOut (c : Nat) (v : Int × Nat) (s : State) : State :=
  let o := getOut s c
  let cnt := (s.fld F.PLS_CNT_CNT c + 2 ^ 32 + v.2 - o.exCnt % 2 ^ 32) % 2 ^ 32
  let mis := match o.prev with
    | some p => o.live && (v.2 + 2 ^ 32 - p.1) % 2 ^ 32 != o.exNet - p.2
    | none => false
  let s1 := (setOut c { o.withRes (o.res + v.1 - o.exRes) with prev := some (v.2, o.exNet) } s).put F.PLS_CNT_CNT c cnt
  if mis then raise 11 c (s1.put F.PLS_ST_MISL c 1) else s1

/-- The shadow follows all outputs of a record. -/
def adoptOuts (vs : List (Int × Nat)) (s : State) : State :=
  (vs.zipIdx).foldl (fun s p => if p.2 < 16 then adoptOut p.2 p.1 s else s) s

/-- Values of a transfer or of a role change are taken as they stand. -/
def loadOuts (vs : List (Int × Nat)) (s : State) : State :=
  (vs.zipIdx).foldl (fun s p =>
    if p.2 < 16 then (setOut p.2 ((getOut s p.2).withRes p.1.1) s).put F.PLS_CNT_CNT p.2 p.1.2 else s) s

/-- The settings of output c as its registers hold them take effect (R154): a new source clears the residue, a disabled
output is released with its residue at zero (R142). -/
def pulsesApply (c : Nat) (s : State) : State :=
  let o := getOut s c
  let o1 := { o with en := s.bit F.PLS_CFG_EN c, src := s.fld F.PLS_CFG_SRC c, width := s.fld F.PLS_CFG_WIDTH c
                     pconst := s.fld F.PLS_CONST_PCONST c }
  let o2 := if o1.src ≠ o.src then { o1 with res := 0, left := 0, ticks := 0, share := 0, fresh := none } else o1
  let o3 := if o2.live then o2
    else { o2 with res := 0, left := 0, ticks := 0, share := 0, fresh := none, busy := none, driving := false }
  rateCheck c (setOut c o3 s)

end Sys2Proof.Machine
end

