-- ==== Sys2Proof/Machine/SamplePath.lean ====
section
/-! DEFINITION. The sample path: from the modulator bits and the bitstream balls through decimators, corrections, the remount
switch and the response slots to presets and fast path, driven by the clock edges that pass while no command waits (R14 to R16, R57,
R66 to R68, R76, R81, R93 to R108, R112, R450). -/

namespace Sys2Proof.Machine

/-! ### Streams -/

/-- The decimation of a stream's main tap: 64 for a bitstream group at 12.288 MHz, else 32 (R93). -/
def decimation (n : Nat) (s : State) : Nat :=
  if 112 ≤ n ∧ n < 144 ∧ mget 0 s.inp.bsgRate ((n - 112) / 16) = 1 then 64 else 32

/-- A main-tap or high-band-tap sample under its modulator's remount correction, before the remount switch (R76, R95). DEDUCED:
the correction takes the offset off the modulator's output, divides by the gain measured against the reference, as the worked
example of R82 moves the output, and brings the result to the channel's range. -/
def corrected (n range : Nat) (c : Corr) (x : Int) : Int × Bool :=
  engineResult (rdiv ((x : Rat) / 2 ^ 28 - c.off) c.gain * rangeLsb n range)

/-- A main-tap sample of an analog channel in overload, clipped at ±112.5 % of its range (R57). -/
def clipSample (n range : Nat) (x : Int) : Int :=
  let top := (rangeLsb n range * 9 / 8).floor
  max (-top) (min top x)

/-- The level that a run of identical bits carries: +112.5 % of the range for ones, −112.5 % for zeros (R57). -/
def runLevel (n range : Nat) (ones : Bool) : Int :=
  let top := (rangeLsb n range * 9 / 8).floor
  if ones then top else -top

/-- Lane-cycles of a stream in a 192 kS/s period: response slots, third band, half bands, equalisers and writes, fast path
(Table 05-2). -/
def laneCycles : List Nat := [20, 8, 10, 10, 12]

/-- Lane-cycles of all 170 streams and of the shared work, whatever the configuration (R98, Table 05-2). -/
def laneCyclesTotal : Nat := 170 * laneCycles.sum + (24 + 16)

/-! ### Instants -/

/-- The group index of a stream (Table 00-1): current banks 0 to 11, voltage banks 12 and 13, bitstream groups 14 and 15; a
spare has that of its bank (R5). -/
def groupIndex (n : Nat) : Nat :=
  if n < 112 then n / 8
  else if n < 144 then 14 + (n - 112) / 16
  else if n < 168 then (n - 144) / 2
  else n - 156

/-- The 192 kS/s period in ns. -/
def mainPeriod : Rat := 15625 / 3

/-- One step of the skew: two MCLK periods, one sixteenth of a 192 kS/s period, in ns (R15). -/
def skewStep : Rat := mainPeriod / 16

/-- How long after group A's sampling instant that of a stream lies, in ns (R15). -/
def skewNs (n : Nat) : Rat := groupIndex n * skewStep

/-- What the metering core takes out of a pairing of a voltage stream with a current stream before it multiplies, in
ns (R16). -/
def pairSkewNs (v i : Nat) : Rat := skewNs v - skewNs i

/-- Rate of a preset, in samples a second (Table 05-5). -/
def presetRate (code : Nat) : Nat := 192000 / presetFactor code

/-- The group delay of a preset, in ns: exactly 15 output periods (R107). -/
def presetDelay (code : Nat) : Rat := 15 * presetFactor code * mainPeriod

/-- Does a preset deliver a sample for main-tap index k, counted from 0 at each whole second (R107)? -/
def presetAt (code k : Nat) : Bool := k % presetFactor code == 0

/-- The instant that main-tap sample k of stream n describes, in ns from the whole second (R15, R107). -/
def sampleInstant (n k : Nat) : Rat := k * mainPeriod + skewNs n

/-- By when that sample, of a preset, has reached the metering core (R107). -/
def sampleArrival (n code k : Nat) : Rat := sampleInstant n k + presetDelay code + mainPeriod

/-! ### The fast path -/

/-- The latency to ±2 % after a step, in ns, for a FPR response at DTAP 0 and at DTAP 255 (R109, Table 05-7). -/
def fastLatency (fpr : Nat) : Nat × Nat :=
  match fpr with
  | 51 => (142500, 184000)
  | 52 => (152500, 194000)
  | 53 => (172500, 214000)
  | 54 => (212500, 254000)
  | _ => (0, 0)

/-! ### Response prototypes -/

/-- The prototype of a response: num(p) ÷ den(p) times the square root of gainSq, where p = j f ÷ fRef; coefficients from
the constant term up, fRef in mHz (Table 05-16, R450). -/
structure Prototype where
  num    : List Rat
  den    : List Rat
  gainSq : Rat
  fRef   : Rat
  deriving DecidableEq, Repr

/-- The denominator of the fourth-order Butterworth form (Table 05-16). -/
def butterworth : List Rat :=
  let a : Rat := 765367 / 1000000
  let b : Rat := 1847759 / 1000000
  [1, a + b, 2 + a * b, a + b, 1]

/-- The prototype of a response of the ROM that a stream's slots or its fast path can name (Tables 05-4, 05-16). -/
def prototype (r : Nat) : Option Prototype :=
  let at_ (l : List Rat) (base : Nat) : Rat := l.getD (r - base) 0
  if r = 0 then some ⟨[1], [1], 1, 1000⟩
  else if r ≤ 8 then some ⟨[0, 1], [1, 1], 1, at_ [20, 50, 100, 250, 500, 1000, 2000, 5000] 1⟩
  else if r ≤ 16 then
    let fl := at_ [50, 100, 250, 500, 50, 100, 250, 500] 9
    let fn : Rat := if r ≤ 12 then 50000 else 60000
    some ⟨[1], [1, 1], (fn / fl) * (fn / fl) + 1, fl⟩
  else if r ≤ 22 then some ⟨[1, 1], [1 / 1000, 1], 1, at_ [20, 50, 100, 250, 500, 1000] 17⟩
  else if r ≤ 27 then some ⟨[1, 1], [1], 1, at_ [10000000, 20000000, 50000000, 100000000, 200000000] 23⟩
  else if r ≤ 31 then some ⟨[1, 1], [1], 1, at_ [5000000, 10000000, 20000000, 50000000] 28⟩
  else if r ≤ 36 then some ⟨[1], [1, 1], 1, at_ [1000000, 2000000, 5000000, 10000000, 20000000] 32⟩
  else if r ≤ 42 then some ⟨[1, 0, 1], [1, 1 / 10, 1], 1, at_ [100000, 120000, 150000, 180000, 300000, 360000] 37⟩
  else if r ≤ 48 then some ⟨[1], butterworth, 1, at_ [500000, 1000000, 2000000, 5000000, 10000000, 20000000] 43⟩
  else if r ≤ 50 then some ⟨[0, 0, 0, 0, 1], butterworth, 1, at_ [10000, 40000] 49⟩
  else if r ≤ 54 then
    some ⟨[105], [105, 105, 45, 10, 1], 1, at_ [6000000, 5000000, 4000000, 3000000] 51 / (21139 / 10000)⟩
  else none

/-- The real and the imaginary part of a polynomial at p = j x. -/
def polyAt (l : List Rat) (x : Rat) : Rat × Rat :=
  l.foldr (fun c z => (c - x * z.2, x * z.1)) (0, 0)

/-- The squared magnitude of a complex number. -/
def normSq (z : Rat × Rat) : Rat := z.1 * z.1 + z.2 * z.2

/-- The power gain of a prototype at f mHz: exact, since the squared magnitude at a rational frequency is rational (R450). -/
def Prototype.power (h : Prototype) (f : Rat) : Rat :=
  h.gainSq * normSq (polyAt h.num (f / h.fRef)) / normSq (polyAt h.den (f / h.fRef))

/-- The tangent of a prototype's phase lead at f mHz, from num times the conjugate of den (R450). -/
def Prototype.tanPhase (h : Prototype) (f : Rat) : Rat :=
  let n := polyAt h.num (f / h.fRef)
  let d := polyAt h.den (f / h.fRef)
  (n.2 * d.1 - n.1 * d.2) / (n.1 * d.1 + n.2 * d.2)

/-! ### Splices -/

/-- The statistics of an estimation window of two streams, in units of the channel's range r (R81). -/
def statsOf (r : Rat) (xs ys : List Rat) : EstStats :=
  let k : Rat := xs.length
  let mx := xs.sum / k / r
  let my := ys.sum / k / r
  let c (us vs : List Rat) (a b : Rat) : Rat := ((us.zip vs).map fun u => (u.1 / r - a) * (u.2 / r - b)).sum / k
  ⟨mx, my, c xs xs mx mx, c ys ys my my, c xs ys mx my⟩

/-- Sample k of a crossfade over m samples, from x to y under the match (a, b): m is 64 on the main tap and 128 on the
high-band tap (R81). -/
def crossfadeAt (m : Nat) (a b x y : Rat) (k : Nat) : Rat :=
  let w := ((k : Rat) + 1 / 2) / m
  (1 - w) * x + w * (a * y + b)

/-- What a channel's stream carries at sample k of the main tap or the high-band tap, the crossfade starting at k0: the incumbent
before it, the incoming modulator alone from the splice instant on, without a gap (R14, R81). -/
def splicedAt (m k0 : Nat) (a b : Rat) (x y : Nat → Rat) (k : Nat) : Rat :=
  if k < k0 then x k else if k < k0 + m then crossfadeAt m a b (x k) (y k) (k - k0) else a * y k + b

/-! ### Bits -/

/-- How long after a rising edge of its clock ball Bn is sampled, in ns (R67). -/
def sampleDelay (s : State) (n : Nat) : Rat := mget 0 s.inp.sdly n * (50863 / 10000) + 1

/-- The instant of edge j of the clock of stream n, in ns of site time, for a decimation by r (R15, R66). -/
def edgeInstant (n r j : Nat) : Rat := (j : Rat) / r * mainPeriod + skewNs n

/-- The bit of stream n that belongs to edge j: the modulator's, or that of ball Bn as sampled after edge j + LAT, inverted where
INV is set (R67, R68, R93). -/
def streamBit (s : State) (n j : Nat) : Bool :=
  if n < 112 then Config.modBit n j
  else if n < 144 then
    Config.pinLevel (n - 112) (edgeInstant n (decimation n s) (j + mget 0 s.inp.lat n) + sampleDelay s n) != (mget 0 s.inp.inv n == 1)
  else Config.modBit (n - 32) j

/-- DTAP of a stream: its channel's, or that of the channel a spare has as TARGET (R94). With TARGET 0xFF the spec gives a spare no
DTAP: the model takes 0 (DESIGN CHOICE). -/
def dtapFor (s : State) (n : Nat) : Nat := ((slotChan s n).map fun c => s.fld F.CAL_CTAP_DTAP c).getD 0

/-- The RANGE a stream's front end is at: a channel's in force, a spare's that of its slot or of the channel it serves. -/
def rangeFor (s : State) (n : Nat) : Nat :=
  if n < 144 then mget 0 s.inp.range n
  else match (getSp s (n - 144)).slot with
    | some sl => sl.range
    | none => ((spTarget s (n - 144)).map fun c => mget 0 s.inp.range c).getD 0

/-- A sample under its modulator's remount correction (R76, R95); a bitstream sample has none. -/
def correctSample (s : State) (n : Nat) (x : Int) : Int × Bool :=
  if n < 112 then corrected n (rangeFor s n) (corrOf s n (rangeFor s n)) x
  else if n < 144 then (x, false)
  else corrected (8 * spBank (n - 144)) (rangeFor s n) (spareCorr s (n - 144) (rangeFor s n)) x

/-- A frame's sample as the engine receives it: under the correction, or, of the first four of a tap, a zero sample (R96). -/
def engineSample (s : State) (n : Nat) (x : Option Int) : Int × Bool := x.elim (0, false) (correctSample s n)

/-- Frame f of stream n: its bits pass delay line, decimator and correction (R93 to R96). -/
def decimateStream (f n : Nat) (s : State) : State :=
  let r := decimation n s
  let d := decimate r (dtapFor s n) ((List.range r).map fun i => streamBit s n (r * (f - 1) + i)) (getPath s n)
  let x := engineSample s n d.1
  let hs := d.2.1.map (engineSample s n)
  setPath n { d.2.2 with raw := x.1, rawHi := hs.map (·.1), sat := d.2.2.sat || x.2 || hs.any (·.2) } s

/-! ### The remount switch -/

/-- The stream of a modulator: 112 and up are the spares. -/
def modStream (md : Nat) : Nat := if md < 112 then md else md + 32

/-- A spare's sample as it reaches channel n: under the match. -/
def matched (s : State) (sp n : Nat) (y : Int) : Rat :=
  let m := matchFor s sp n
  m.1 * y + m.2

/-- The sample of a crossfade over m samples: of the 64 main-tap samples sample c; of the 128 high-band samples the one with this
place, 0 or 1, in its frame (R81). -/
def fadePos (m c i : Nat) : Nat := c * (m / 64) + i

/-- What the modulator that FEED names gives channel n, of its main-tap or a high-band sample; after a hand-over without a slot's
crossfade, of 64 samples from what fed it before (R85, R87). -/
def feeding (s : State) (n m i : Nat) (pick : StreamPath → Int) : Rat :=
  let k := s.fld F.INP_ST_FEED n
  let sp := spareAt (bankOf n) (k - 1)
  let y : Rat := if k = 0 then pick (getPath s n) else matched s sp n (pick (getPath s (144 + sp)))
  match (getPath s n).fade with
  | none => y
  | some f => crossfadeAt m 1 0 (f.a * pick (getPath s f.src) + f.b) y (fadePos m f.k i)

/-- The crossfade in progress on channel n: the spare, and whether it is the one out. -/
def fadeOf (s : State) (n : Nat) : Option (Nat × Bool) :=
  (sparesOf (bankOf n)).findSome? fun sp => (getSp s sp).slot.bind fun sl =>
    if sl.chan = n ∧ sl.st = .xfOut then some (sp, true) else if sl.chan = n ∧ sl.st = .xfRet then some (sp, false) else none

/-- What a crossfade brings in: the spare under its match, or the channel's own modulator, unmatched (R81, R451). -/
def incoming (s : State) (n : Nat) (p : Nat × Bool) (pick : StreamPath → Int) : Rat :=
  if p.2 then matched s p.1 n (pick (getPath s (144 + p.1))) else pick (getPath s (modStream (ownMod s n)))

/-- A sample of channel n after the switch: of the crossfade of a slot, c main-tap samples of which have passed, or the feeding
modulator's (R81). -/
def switched (s : State) (n m c i : Nat) (pick : StreamPath → Int) : Rat :=
  match fadeOf s n with
  | none => feeding s n m i pick
  | some p => if fadePos m c i < m then crossfadeAt m 1 0 (feeding s n m i pick) (incoming s n p pick) (fadePos m c i)
    else incoming s n p pick

/-- The modulator bits of the latest main-tap frame of the modulator that feeds channel n, as its decimator took them. -/
def frameBits (s : State) (n : Nat) : List Bool :=
  let k := s.fld F.INP_ST_FEED n
  let src := if k = 0 then n else 144 + spareAt (bankOf n) (k - 1)
  (((getPath s src).line).drop (tapBits (dtapFor s src) 32)).take 32

/-- A main-tap sample of an analog channel as OVR lets it pass: the clip level of a run of identical bits lasts until the run has
ended (R57). -/
def overloadClip (s : State) (n : Nat) (x : Int) : Int :=
  let r := mget 0 s.inp.range n
  let ones := mget 0 s.inp.clip n == 1
  if ¬ s.bit F.INP_ST_OVR n then x
  else if mget 0 s.inp.clip n ≠ 0 ∧ (frameBits s n).all (· == ones) then runLevel n r ones
  else clipSample n r x

/-- Main-tap and high-band samples of a channel's stream after the switch; nothing with six lanes or fewer (R57, R81, R101). -/
def channelSamples (s : State) (n : Nat) : Int × List Int × Bool :=
  if lanesUp s ≤ 6 then (0, [0, 0], false)
  else if 112 ≤ n then ((getPath s n).raw, (getPath s n).rawHi, false)
  else
    let k := ((fadeOf s n).map fun p => (getPath s (144 + p.1)).xf).getD 0
    let x := engineResult (switched s n 64 k 0 (·.raw))
    let hs := (List.range 2).map fun i => (engineResult (switched s n 128 k i fun p => p.rawHi.getD i 0)).1
    (overloadClip s n x.1, hs, x.2)

/-! ### The response slots and what follows -/

/-- A sample through a stream's response slots; while a response change crossfades, through both chains (R98, R112). -/
def slotStep (resp : List Nat) (x : Int) (p : StreamPath) : Int × StreamPath :=
  let c := chainStep (sectionList resp) x p.z
  match p.old with
  | none => (c.1, { p with z := c.2.2, sat := p.sat || c.2.1 })
  | some o =>
    let q := chainStep (sectionList o.resp) x o.z
    let y := engineResult (crossfadeAt 64 1 0 q.1 c.1 o.k)
    (y.1, { p with z := c.2.2, sat := p.sat || c.2.1 || q.2.1 || y.2
                   old := if o.k + 1 < 64 then some { o with k := o.k + 1, z := q.2.2 } else none })

/-- A main-tap sample passes a stream's slots, the preset cascade and the fast path at 192 kS/s index k (R98, R106, R108). -/
def slotRun (k : Nat) (resp : List Nat) (fpr : Nat) (x : Int) (p : StreamPath) : StreamPath :=
  let r := slotStep resp x p
  fastStep k fpr r.1 (precision k r.1 r.2)

/-- The fast-path response that runs on a stream: none where the fast path is withdrawn (Table 05-3). -/
def fprFor (s : State) (n : Nat) : Nat := if s.bit F.FLT_ENG_FPOFF then 0 else fprOf s n

/-- The high-band samples that are kept, after main-tap frame f brought two more. -/
def keepHigh (f : Nat) (hs : List Int) (old : List (Nat × Int)) : List (Nat × Int) :=
  ((2 * f + 1, hs.getD 1 0) :: (2 * f, hs.getD 0 0) :: old).take keptMax

/-- A frame of a channel stream from the switch on, at main-tap index k from site time 0. -/
def channelFrame (k n : Nat) (s : State) : State :=
  let x := channelSamples s n
  let p := getPath s n
  setPath n (slotRun k (mget [0, 0, 0, 0] s.flt.resp n) (fprFor s n) x.1
    { p with mains := (x.1 :: p.mains).take 192, hi := x.2.1, his := keepHigh k x.2.1 p.his, sat := p.sat || x.2.2
             fade := p.fade.bind fun f => if f.k + 1 < 64 then some { f with k := f.k + 1 } else none }) s

/-- A frame of a spare's engine slot: a lent slot runs the new chain on its channel's stream, another the settings of the spare's
TARGET on its own samples (R102, R112). The count of a remount crossfade goes on. -/
def spareFrame (k sp : Nat) (s : State) : State :=
  let n := 144 + sp
  let p := getPath s n
  let fading : Bool := match (getSp s sp).slot with
    | some sl => sl.st == .xfOut || sl.st == .xfRet
    | none => false
  let p1 := { p with xf := if fading then p.xf + 1 else 0 }
  if withdrawn s then setPath n p1 s
  else match (getSp s sp).lent with
    | some c =>
      let resp := ((mget none s.flt.change c).map RespChange.resp).getD []
      let r := chainStep (sectionList resp) ((getPath s c).mains.headD 0) p1.z
      setPath n { p1 with z := r.2.2, sat := p1.sat || r.2.1 } s
    | none => match spTarget s sp with
      | some c =>
        setPath n (slotRun k (mget [0, 0, 0, 0] s.flt.resp c) (fprFor s n) p1.raw
          { p1 with mains := (p1.raw :: p1.mains).take 192, hi := p1.rawHi }) s
      | none => setPath n p1 s

/-! ### The clock -/

/-- The channels and the spares of a group (Table 00-1). -/
def groupChans (g : Nat) : List Nat := if g < 14 then chansOf g else (List.range 16).map (112 + 16 * (g - 14) + ·)
def groupSpares (g : Nat) : List Nat := if g < 14 then sparesOf g else []

/-- The count of main-tap frames of group g up to an instant of site time: frames of 192 kS/s, skewed by two MCLK periods a group
(R15, R107). -/
def frameCount (g t : Nat) : Nat := ((48 * t - 15625 * g : Int) / 250000).toNat

/-- Frame f of a group: every running stream's bits, then the channels, then the spares. -/
def groupFrame (g f : Nat) (s : State) : State :=
  let cs := (groupChans g).filter (chanOn s)
  let ss := (groupSpares g).filter fun sp => !spRet s sp
  let s1 := (cs ++ ss.map (144 + ·)).foldl (fun s n => decimateStream f n s) s
  let s2 := cs.foldl (fun s n => channelFrame f n s) s1
  ss.foldl (fun s sp => spareFrame f sp s) s2

/-- The sample path once site time has come to t: the frames that fall in that time. -/
def pathTick (t : Nat) (s : State) : SMap StreamPath :=
  ((List.range 16).foldl (fun s g =>
    if frameCount g t = frameCount g s.clk.site then s else groupFrame g (frameCount g t) s) s).clk.path

/-- The crossfade of a response change has had its 64 samples: SETTLE clears, and the lent spare is released (R112). -/
def fadeEnd (n : Nat) (s : State) : State :=
  if changePh s n = some .fading ∧ (getPath s n).old.isNone then
    let s1 := setChange n none (s.lower F.FLT_ST_SETTLE n)
    match (sparesOf (bankOf n)).find? fun sp => (getSp s1 sp).lent == some n with
    | some sp => nextWork sp (setSp sp { getSp s1 sp with lent := none } s1)
    | none => s1
  else s

/-- Response changes whose crossfade has ended. -/
def fadesEnd (s : State) : State := (s.flt.change.map (·.1)).foldl (fun s n => fadeEnd n s) s

/-- A nanosecond passes with no command waiting. Site time counts only while the main domain works, and frames that wait leave the link
ports; in RUN the clock edges move the sample path on. A response change whose crossfade is over ends then. -/
def idle (s : State) : State :=
  if mainOn s then
    let s1 := linkPump (passTime 1 s)
    if running s then fadesEnd { s1 with clk := { s1.clk with path := pathTick s1.clk.site s } } else s1
  else { s with clk := { s.clk with now := s.clk.now + 1 } }

end Sys2Proof.Machine
end

