-- ==== Sys2Proof/Machine/MeterOps.lean ====
section
/-! DEFINITION. Meters, shared operations: channel references, settings in force, the quantities of an interval, direction
and quadrant, no-load, quality, and corrections (R118 to R134, Tables 06-1 to 06-4, 12-5). -/

namespace Sys2Proof.Machine

/-! ### Channel references (R118) -/

def refRem (r : Nat) : Bool := r.testBit 15
def refVirt (r : Nat) : Bool := r.testBit 8
def refStream (r : Nat) : Nat := r % 256
/-- STREAM 0xFF with REM and VIRT at 0: no channel. -/
def refNone (r : Nat) : Bool := !refRem r && !refVirt r && refStream r == 0xFF
/-- Does a reference name a local channel stream? -/
def refLocal (r : Nat) : Bool := !refRem r && !refVirt r && decide (refStream r < 144)
/-- The number under which a remote channel is kept: 256 * MEMBER + STREAM. -/
def refKey (r : Nat) : Nat := (r / 512 % 64) * 256 + r % 256

/-! ### Settings (R117 to R121, R134) -/

/-- The scale factor word of a reference's channel; a remote channel takes none (R121). -/
def scaleOf (m : SMap Nat) (r : Nat) : Nat := if refRem r then 0x3F800000 else fget m F.MTR_SCALE_K (refStream r)

/-- The parts of an input: one channel, or the enabled entries of a virtual sum (R118, R120). -/
def resolve (m : SMap Nat) (r : Nat) : List MtrPart :=
  if refVirt r then
    (List.range 8).filterMap fun k =>
      let i := 8 * (r % 16) + k
      if fget m F.MTR_VS_EN i = 1 then
        some ⟨fget m F.MTR_VS_NEG i == 1, fget m F.MTR_VS_REF i, scaleOf m (fget m F.MTR_VS_REF i)⟩
      else none
  else [⟨false, r, scaleOf m r⟩]

def uref (i : Nat) : Fld := match i with
  | 0 => F.MTR_CHA_UREF
  | 1 => F.MTR_CHB_UREF
  | _ => F.MTR_CHC_UREF
def iref (i : Nat) : Fld := match i with
  | 0 => F.MTR_CHA_IREF
  | 1 => F.MTR_CHB_IREF
  | _ => F.MTR_CHC_IREF

/-- A meter's settings as its registers hold them. -/
def mtrRegs (f : SMap Nat) (m : Nat) : MtrCfg where
  type   := fget f F.MTR_CFG_TYPE m
  pace   := fget f F.MTR_CFG_PACE m
  gg     := fget f F.MTR_CFG_GG m
  ah     := fget f F.MTR_CFG_AH m == 1
  starti := fget f F.MTR_CFG_STARTI m
  inom   := fget f F.MTR_INOM_INOM m
  idclim := fget f F.MTR_IDCLIM_IDCLIM m
  els    := (List.range 3).map fun i =>
    if usesEl (fget f F.MTR_CFG_TYPE m) i then some (resolve f (fget f (uref i) m), resolve f (fget f (iref i) m)) else none

/-- The settings of a meter in force; none where it is not enabled. -/
def mtrCfg (s : State) (m : Nat) : Option MtrCfg := mget none s.mtr.cfg m

/-- The references of a meter's channels, virtual sums taken apart. -/
def cfgRefs (c : MtrCfg) : List Nat :=
  c.els.flatMap fun e => match e with
    | some p => (p.1 ++ p.2).map (·.ref)
    | none => []

/-- The local streams of a meter. -/
def cfgStreams (c : MtrCfg) : List Nat := (cfgRefs c).filter refLocal |>.map refStream

/-- The remote channels of a meter. -/
def cfgRemotes (c : MtrCfg) : List Nat := (cfgRefs c).filter refRem

/-! ### Samples (R121, R133, R196) -/

/-- Is DC content removed on a channel (Table 03-2: SENSOR 1 and 2)? -/
def dcRemoved (s : State) (n : Nat) : Bool := let k := mget 0 s.inp.sensor n; k == 1 || k == 2

/-- Does this device take the twin's samples for channel n (R241)? -/
def adopting (s : State) (n : Nat) : Bool :=
  match mget none s.twn.adopts n with
  | some a => !a.lending
  | none => false

/-- The shunt factor F in force on current stream n; 1 where no entry of SAR_SHC names it (R383). -/
def shuntF (s : State) (n : Nat) : Rat :=
  match (List.range 8).find? fun k => s.bit F.SAR_SHC_EN k && s.fld F.SAR_SHC_STREAM k == n with
  | some k => mget 1 s.sar.f k
  | none => 1

/-- One part of an input in one sample: value, its DC-bearing value, quadrature and delayed value, scaled. -/
structure PartVal where
  x  : Rat
  dc : Rat
  xq : Rat
  xd : Rat
  deriving DecidableEq, Repr

def PartVal.zero : PartVal := ⟨0, 0, 0, 0⟩

/-- Samples per second of a preset (Table 05-5). -/
def paceRate (p : Nat) : Nat :=
  match p with
  | 0 => 1000
  | 1 => 4000
  | 2 => 8000
  | 3 => 32000
  | _ => 64000

/-- The nominal frequency of a group in Hz. -/
def fnom (s : State) (g : Nat) : Nat := if s.bit F.GRD_CFG_FNOM g then 60 else 50

/-- The output period of a preset, in ns (Table 05-5). -/
def periodNs (pace : Nat) : Rat := 1000000000 / paceRate pace

/-- Do the samples of a reference come from outside: from a caravan member, or under adoption from the twin (R121, R241)? -/
def refAway (s : State) (r : Nat) : Bool := refRem r || adopting s (refStream r)

/-- Sample k of a reference as the runs bring it. -/
def runAt (runs : List ChanRun) (r k : Nat) : Option Rat :=
  runs.findSome? fun c => if c.ref.toNat = r ∧ c.first ≤ k then c.xs[k - c.first]? else none

/-- The samples of one reference that the runs bring. -/
def runSamples (runs : List ChanRun) (r : Nat) : List (Nat × Rat) :=
  (runs.filter (·.ref.toNat == r)).flatMap fun c => (c.xs.zipIdx).map fun x => (c.first + x.2, x.1)

/-- The run of a channel's samples in an interval that its twin adopts: scaled, corrected and aligned, at the meter's preset (R241). -/
def lentRun (at_ : Nat → Rat) (n : Nat) (ks : List Nat) : ChanRun := ⟨BitVec.ofNat 16 n, ks.headD 0, ks.map at_⟩

/-- The indices of a reference's missing samples, ascending. -/
def missOf (miss : List MissedSample) (r : Nat) : List Nat :=
  ((miss.filter (·.ref.toNat == r)).map (·.k)).insertionSort (· ≤ ·)

/-- Samples held for a missing index, with its substitute: the sample `back` indices earlier (R133). -/
def substitute1 (back r : Nat) (h : SMap (Option Rat)) (k : Nat) : SMap (Option Rat) :=
  mput none h k (some ((if back ≤ k then mget none h (k - back) else none).getD (Config.noSample r k)))

/-- The samples held of a reference after an interval that ends at index k1: what the runs brought, and a substitute for each that
is missing. The latest 8192 are kept. -/
def storeRef (back : Nat) (miss : List MissedSample) (runs : List ChanRun) (k1 r : Nat) (h : SMap (Option Rat)) :
    SMap (Option Rat) :=
  let h1 := ((runSamples runs r).filter fun x => ¬ (missOf miss r).contains x.1).foldl (fun h x => mput none h x.1 (some x.2)) h
  ((missOf miss r).foldl (substitute1 back r) h1).filter fun x => k1 ≤ x.1 + 8192

/-- How many samples back the substitute of a missing sample lies: one nominal cycle, or for a DC meter one sample, which is then
the last received (R133). A nominal cycle that is no whole number of samples counts as the nearest (DESIGN CHOICE: the spec does
not say). -/
def missBack (s : State) (c : MtrCfg) : Nat :=
  if dcType c.type then 1 else (nearest ((paceRate c.pace : Rat) / fnom s c.gg)).toNat

/-- Key of `MtrSt.hist` for a reference of a meter. -/
def histKey (m r : Nat) : Nat := 65536 * m + r

/-- The samples from outside of a meter's interval are held, substitutes among them. -/
def storeRuns (m : Nat) (c : MtrCfg) (t1 : Nat) (miss : List MissedSample) (runs : List ChanRun) (s : State) : State :=
  { s with mtr := { s.mtr with
      hist := ((cfgRefs c).filter (refAway s)).foldl (fun h r =>
        mput [] h (histKey m r) (storeRef (missBack s c) miss runs (t1 * paceRate c.pace / 1000000000) r (mget [] h (histKey m r))))
        s.mtr.hist } }

/-- Does a channel's stream carry samples: a channel that is not running carries zeros, and with six filter lanes or fewer every
channel does (R71, R101). -/
def streamLive (s : State) (n : Nat) : Bool := chanOn s n && decide (6 < lanesUp s)

/-- The offset that is taken off a channel's samples, in engine units: none where DC is removed (R196). -/
def chanOffset (s : State) (n : Nat) : Rat := if dcRemoved s n then 0 else (traceOf s n).o / 2 ^ 28

/-- Sample k of a preset of stream n that the sample path has delivered and still holds, in units of 2⁻²⁸ (R106, R107). -/
def pathOut (s : State) (n code k : Nat) : Option Int :=
  (((getPath s n).kept.getD code []).find? fun x => x.1 == k).map (·.2)

/-- Sample k of a preset of stream n in engine units: the sample path's own, else as the runs bring it. -/
def presetSample (s : State) (runs : List ChanRun) (n code k : Nat) : Rat :=
  match pathOut s n code k with
  | some x => (x : Rat) / 2 ^ 28
  | none => (runAt runs n k).getD (Config.noSample n k)

/-- Sample k of local stream n at a preset under scale factor word kw, with its corrections (R121, R196, R383). -/
def localAt (s : State) (pace : Nat) (runs : List ChanRun) (n kw k : Nat) : Rat :=
  if streamLive s n then
    (presetSample s runs n pace k - chanOffset s n) * (b32 kw * ratio n (traceOf s n) * shuntF s n)
  else 0

/-- Sample k of a part, scaled and corrected (R121, R196): a sample from outside arrives so. -/
def scaledAt (s : State) (m pace : Nat) (runs : List ChanRun) (p : MtrPart) (k : Nat) : Rat :=
  if refAway s p.ref then (mget none (mget [] s.mtr.hist (histKey m p.ref)) k).getD (Config.noSample p.ref k)
  else
    let n := refStream p.ref
    localAt s pace runs n p.k k

/-- A sum of taps over samples, the first tap at index k and the others before it; before index 0 there are no samples. -/
def firAt (taps : List Rat) (f : Nat → Rat) (k : Nat) : Rat :=
  ((taps.zipIdx).map fun t => if t.2 ≤ k then t.1 * f (k - t.2) else 0).sum

/-- Sample k moved onto group A's instant k: by the fractional-delay interpolator, two output periods later, for the skew of a local
stream (R16, R122). A remote sample arrives aligned (R273), and group A's own samples stand on those instants. -/
def alignedAt (pace r : Nat) (f : Nat → Rat) (k : Nat) : Rat :=
  if refRem r || groupIndex (refStream r) == 0 then f k
  else firAt (Config.delayKernel (skewNs (refStream r) / periodNs pace)) f (k + 2)

/-- The values of a part at sample k: aligned, through the quadrature filter, and delayed to match it (R122, R125). Where DC is
removed the DC-bearing value is zero, for an adopted channel too (R55). -/
def partAt (s : State) (m pace : Nat) (runs : List ChanRun) (p : MtrPart) (k : Nat) : PartVal :=
  let a := alignedAt pace p.ref (scaledAt s m pace runs p)
  ⟨a k, if !refRem p.ref && dcRemoved s (refStream p.ref) then 0 else a k, firAt (Config.quadTaps pace) a k,
    a (k - Config.quadDelay pace)⟩

/-- The values of an input at sample k: the sum of its parts with their signs (R120). -/
def inputAt (s : State) (m pace : Nat) (runs : List ChanRun) (ps : List MtrPart) (k : Nat) : PartVal :=
  ps.foldl (fun a p =>
    let v := partAt s m pace runs p k
    if p.neg then ⟨a.x - v.x, a.dc - v.dc, a.xq - v.xq, a.xd - v.xd⟩
    else ⟨a.x + v.x, a.dc + v.dc, a.xq + v.xq, a.xd + v.xd⟩) PartVal.zero

/-! ### Weights (R123) -/

/-- The part of the span [a, b] that lies in [t0, t1]. -/
def overlap (a b t0 t1 : Rat) : Rat := rmax 0 (rmin b t1 - rmax a t0)

/-- The weight of sample k, which stands for one output period centred on its instant, in the interval from t0 to t1 (R123). -/
def sampleWeight (pace k t0 t1 : Nat) : Rat :=
  overlap ((k - 1 / 2) * periodNs pace) ((k + 1 / 2) * periodNs pace) t0 t1 / periodNs pace

/-- A sample of an interval: its index, its weight, and cosine and sine of the fundamental at its instant. -/
structure Aligned where
  k : Nat
  w : Rat
  c : Rat
  s : Rat
  deriving DecidableEq, Repr

/-- The samples that have a weight in the interval from t0 to t1, at the fundamental frequency f. -/
def alignedOf (pace t0 t1 : Nat) (f : Rat) : List Aligned :=
  let lo := t0 * paceRate pace / 1000000000
  (List.range (t1 * paceRate pace / 1000000000 + 2 - lo)).filterMap fun i =>
    let w := sampleWeight pace (lo + i) t0 t1
    let q := f * ((lo + i : Nat) : Rat) / paceRate pace
    if w = 0 then none else some ⟨lo + i, w, cosTurn q, sinTurn q⟩

/-- The samples of an interval that a reference from outside should have brought and has not: all are missing (R241). -/
def absentIn (pace t0 t1 : Nat) (runs : List ChanRun) (r : Nat) : List MissedSample :=
  ((alignedOf pace t0 t1 0).filter fun a => (runAt runs r a.k).isNone).map fun a => ⟨BitVec.ofNat 16 r, a.k⟩

/-- The frequency of a meter's interval, and whether it ended LOCKED: those of the group's cycle that it is, else the NCO's
(R162). -/
def intervalFreq (s : State) (g t0 t1 : Nat) : Rat × Bool :=
  let k := mget GrdTrk.blank s.grd.trk g
  match k.cycs.find? fun c => c.start == t0 && c.tend == t1 with
  | some c => (c.freq, c.lock)
  | none => (k.nco, s.fld F.GRD_ST_STATE g == 3)

/-! ### Quantities (Table 06-2) -/

/-- The weighted sums of one element over an interval. -/
structure Sums where
  n  : Rat
  uu : Rat
  ii : Rat
  ui : Rat
  qi : Rat
  uc : Rat
  us : Rat
  ic : Rat
  is : Rat
  ud : Rat
  id : Rat
  deriving DecidableEq, Repr

def Sums.zero : Sums := ⟨0, 0, 0, 0, 0, 0, 0, 0, 0, 0, 0⟩

/-- Adds one sample. -/
def Sums.add (a : Sums) (t : Aligned) (u i : PartVal) : Sums where
  n  := a.n + t.w
  uu := a.uu + t.w * u.x * u.x
  ii := a.ii + t.w * i.x * i.x
  ui := a.ui + t.w * u.x * i.x
  qi := a.qi + t.w * u.xq * i.xd
  uc := a.uc + t.w * u.x * t.c
  us := a.us + t.w * u.x * t.s
  ic := a.ic + t.w * i.x * t.c
  is := a.is + t.w * i.x * t.s
  ud := a.ud + t.w * u.dc
  id := a.id + t.w * i.dc

/-- The sums of an element with these inputs over an interval. -/
def elemSums (s : State) (m pace : Nat) (runs : List ChanRun) (ts : List Aligned) (p : List MtrPart × List MtrPart) : Sums :=
  ts.foldl (fun a t => a.add t (inputAt s m pace runs p.1 t.k) (inputAt s m pace runs p.2 t.k)) Sums.zero

/-- The quantities of one element, or of the total. -/
structure Quant where
  u   : Rat
  i   : Rat
  p   : Rat
  q   : Rat
  p1  : Rat
  q1  : Rat
  sa  : Rat
  sv  : Rat
  pf  : Rat
  ud  : Rat
  id  : Rat
  pdc : Rat
  deriving DecidableEq, Repr

def Quant.zero : Quant := ⟨0, 0, 0, 0, 0, 0, 0, 0, 0, 0, 0, 0⟩

/-- PF: 0 where the apparent power is 0. -/
def powerFactor (p sa : Rat) : Rat := if sa = 0 then 0 else p / sa

/-- Table 06-2 for one element. -/
def elemQuant (a : Sums) : Quant :=
  let u := rsqrt (rdiv a.uu a.n)
  let i := rsqrt (rdiv a.ii a.n)
  let p := rdiv a.ui a.n
  let q := rdiv a.qi a.n
  { u := u, i := i, p := p, q := q
    p1 := rdiv (2 * (a.uc * a.ic + a.us * a.is)) (a.n * a.n)
    q1 := rdiv (2 * (a.uc * a.is - a.us * a.ic)) (a.n * a.n)
    sa := u * i, sv := rsqrt (p * p + q * q), pf := powerFactor p (u * i)
    ud := rdiv a.ud a.n, id := rdiv a.id a.n, pdc := rdiv a.ud a.n * rdiv a.id a.n }

/-- Table 06-2 for the total of elements. -/
def totalQuant (es : List Quant) : Quant :=
  let f (g : Quant → Rat) : Rat := (es.map g).sum
  let p := f (·.p)
  let q := f (·.q)
  { u := 0, i := 0, p := p, q := q, p1 := f (·.p1), q1 := f (·.q1), sa := f (·.sa), sv := rsqrt (p * p + q * q)
    pf := powerFactor p (f (·.sa)), ud := 0, id := f (·.id), pdc := f (·.pdc) }

/-! ### Direction and quadrant (R126, R129, Table 06-3) -/

/-- The energy, or charge, of a value over T seconds, rounded to 2⁻³² of a unit with ties away from zero (R129). -/
def energy (x t : Rat) : Nat := ((rabs x * t * 1000000 / 3600) * 2 ^ 32 + 1 / 2).floor.toNat

/-- The quadrant I to IV (0 to 3) that the signs name; none for a zero reactive power. -/
def quadrant (p q : Rat) : Option Nat :=
  if q = 0 then none
  else if 0 < q then some (if p < 0 then 1 else 0) else some (if p < 0 then 2 else 3)

/-- The 16 increments of a set by quantity code (Tables 06-3, 06-4, 06-5). -/
def setIncs (type : Nat) (ah : Bool) (x : Quant) (t : Rat) : List Nat :=
  let pos (v : Rat) : Nat := if 0 < v then energy v t else 0
  let neg (v : Rat) : Nat := if v < 0 then energy v t else 0
  let quad (p q : Rat) (k : Nat) : Nat := if quadrant p q = some k then energy q t else 0
  (List.range 16).map fun c =>
    if usesQty type ah c then
      match c with
      | 0 => pos x.p
      | 1 => neg x.p
      | 2 => quad x.p1 x.q1 0
      | 3 => quad x.p1 x.q1 1
      | 4 => quad x.p1 x.q1 2
      | 5 => quad x.p1 x.q1 3
      | 6 => quad x.p x.q 0
      | 7 => quad x.p x.q 1
      | 8 => quad x.p x.q 2
      | 9 => quad x.p x.q 3
      | 10 => energy x.sa t
      | 11 => energy x.sv t
      | 12 => pos x.pdc
      | 13 => neg x.pdc
      | 14 => pos x.id
      | 15 => neg x.id
      | _ => 0
    else 0

/-- Is an element in no-load (R128)? -/
def noLoad (c : MtrCfg) (x : Quant) : Bool :=
  c.starti != 0 && decide ((if dcType c.type then rabs x.id else x.i) < c.starti * b32 c.inom / 10000)

/-- The results of an interval, codes 0 to 31 (Table 06-12); 28 to 30 are posted with their window. -/
def resultsOf (c : MtrCfg) (es : List (Option Quant)) (tot : Quant) (freq : Rat) : List Int :=
  let el (i : Nat) : Quant := (es.getD i none).getD Quant.zero
  let dc := dcType c.type
  let ac (v : Rat) : Rat := if dc then 0 else v
  let vals : List Rat :=
    [0, 1, 2].map (fun i => (if dc then (el i).ud else (el i).u) * 1000000)
    ++ [0, 1, 2].map (fun i => (if dc then (el i).id else (el i).i) * 1000000)
    ++ [(el 0).p, (el 1).p, (el 2).p, tot.p].map (· * 1000)
    ++ [(el 0).q, (el 1).q, (el 2).q, tot.q].map (fun v => ac v * 1000)
    ++ [(el 0).q1, (el 1).q1, (el 2).q1, tot.q1].map (fun v => ac v * 1000)
    ++ [(el 0).sa, (el 1).sa, (el 2).sa, tot.sa, tot.sv].map (fun v => ac v * 1000)
    ++ [(el 0).pf, (el 1).pf, (el 2).pf, tot.pf].map (fun v => ac v * 2 ^ 30)
    ++ [ac freq * 1000000, 0, 0, 0, if dc then tot.pdc * 1000 else 0]
  vals.map nearest

/-- A result as its 32-bit register holds it. -/
def resWord (z : Int) : Nat :=
  if -(2 ^ 31) ≤ z ∧ z < 2 ^ 31 then (z % 2 ^ 32).toNat else (Config.resOverflow z).toNat

/-! ### Quality (R131, Table 12-5) -/

/-- Does a ruling of Table 12-4 name this meter for an interval from t0 to t1? -/
def ruledOn (s : State) (c : MtrCfg) (t0 t1 : Nat) : Bool :=
  match s.flts.ruling with
  | none => false
  | some r =>
    decide (r.startT < t1) && decide (t0 < r.endT)
    && (match r.kind with
      | .masked => false
      | .all => true
      | .solo | .each => r.faults.any fun f => match f.chan with
        | some n => (cfgStreams c).contains n
        | none => f.cls != 11 && f.cls != 12)

/-- Is an accumulator of meter m registered, so that it passes the Vault (R135)? -/
def meterRegistered (s : State) (m : Nat) : Bool :=
  (List.range 100).any fun r => s.bit F.MTR_REG_EN r && s.fld F.MTR_REG_METER r == m

/-- Does a lost checker guard a unit that the samples or results of meter m pass (Table 12-5): a filter lane, the metering core, SRAM or
PLL-M, which all pass; the Vault, which registered accumulators pass; a caravan port, which remote samples pass? The spec names no units
for a meter (DEDUCED). -/
def checkerNames (s : State) (m : Nat) (c : MtrCfg) : Bool :=
  s.flts.chkLost.any fun k =>
    let g := k / 256
    g == 0 || g == 2 || g == 3 || g == 10 || (g == 4 && meterRegistered s m) || (g == 6 && cfgRemotes c != [])

/-- Was PLL-M in holdover, or in the second after it, in an interval from t0 to t1 (R253)? -/
def pllHeldIn (s : State) (t0 t1 : Nat) : Bool :=
  s.duringIn F.FLTS_ST_PLLHOLD 0 t0 t1 || (decide (t0 < s.flts.pllUntil) && decide (s.flts.pllUntil < t1 + 1000000000))

/-- Did channel n lie under a twin disagreement in an interval from t0 to t1 (R131, R237)? -/
def disputedIn (s : State) (n t0 t1 : Nat) : Bool := s.upIn (mget none s.twn.disputes n).isSome F.TWN_CHST_CSTATE n t0 t1

/-- Does one of these spans overlap the one from t0 to t1? -/
def spanIn (l : List (Nat × Nat)) (t0 t1 : Nat) : Bool := l.any fun x => decide (t0 < x.2) && decide (x.1 < t1)

/-- Is an interval of meter m from t0 to t1 UNVERIFIED by what has been in force in it (R131, R257)? -/
def unverifiedIn (s : State) (m : Nat) (c : MtrCfg) (t0 t1 : Nat) : Bool :=
  (cfgStreams c).any (fun n => s.duringIn F.INP_ST_OPEN n t0 t1 || s.duringIn F.INP_ST_STUCK n t0 t1
    || s.duringIn F.RMT_MST_UNCHK n t0 t1 || disputedIn s n t0 t1)
  || (cfgRemotes c).any (fun r => spanIn (mget RemFlags.none_ s.mtr.rem (refKey r)).opened t0 t1)
  || s.duringIn F.FLTS_ST_XFB 0 t0 t1 || pllHeldIn s t0 t1 || s.duringIn F.CAL_ST_UNCAL 0 t0 t1 || ruledOn s c t0 t1
  || (!paired s && (s.flts.failed || checkerNames s m c))

/-- Is an interval UNVERIFIED by a disagreement or a ruling declared after its end, which reaches back into it (R237, R256)? -/
def unverifiedLate (s : State) (c : MtrCfg) (t0 t1 : Nat) : Bool :=
  (cfgStreams c).any (fun n => disputedIn s n t0 t1) || ruledOn s c t0 t1

/-- Is [t0, t1] covered by these evaluated cycles (R244)? All that overlap it are covered and together they span it, to
within 10 µs at each end. -/
def spansCovered (t0 t1 : Nat) (l : List CovSpan) : Bool :=
  let o := l.filter fun c => decide (t0 + 10000 < c.tend) && decide (c.start + 10000 < t1)
  o.all (·.ok) && decide (t1 - t0 ≤ (o.map fun c => min t1 c.tend - max t0 c.start).sum + 20000)

/-- Key of `MtrSt.cov` for a reference. -/
def covKey (r : Nat) : Nat := if refRem r then 65536 + refKey r else refStream r

/-- The evaluated cycles that count for an interval that ended at t1: of a remote channel those whose report came within 20 ms
(R274). -/
def covOf (s : State) (r t1 : Nat) : List CovSpan :=
  (mget [] s.mtr.cov (covKey r)).filter fun c => !refRem r || decide (c.at_ ≤ t1 + 20000000)

/-- Was every channel of the meter covered over the interval, with a twin attached (R131, R244, R274)? -/
def meterCovered (s : State) (c : MtrCfg) (t0 t1 : Nat) : Bool :=
  paired s && (cfgRefs c).all fun r =>
    (refRem r && !spanIn (mget RemFlags.none_ s.mtr.rem (refKey r)).nosync t0 t1 || refLocal r)
      && spansCovered t0 t1 (covOf s r t1)

/-- Adds an evaluated cycle of a channel, keeping the latest 32. -/
def addCov (k : Nat) (c : CovSpan) (s : State) : State :=
  { s with mtr := { s.mtr with cov := mput [] s.mtr.cov k (((mget [] s.mtr.cov k) ++ [c]).drop
      ((mget [] s.mtr.cov k).length + 1 - 32)) } }

/-! ### Accumulators (R129, R130) -/

/-- Adds to an accumulator what its deficit leaves of an amount, and spends the deficit. -/
def spendAcc (st : MtrSt) (a amount : Nat) : MtrSt :=
  let d := mget 0 st.deficit a
  { st with acc := mput 0 st.acc a ((mget 0 st.acc a + (amount - min d amount)) % 2 ^ 96)
            deficit := mput 0 st.deficit a (d - min d amount) }

/-- Adds an increment to an accumulator, with a positive correction that waits for it. -/
def bumpAcc (st : MtrSt) (a inc : Nat) : MtrSt :=
  spendAcc { st with plus := mput 0 st.plus a 0 } a (inc + mget 0 st.plus a)

/-- A correction of accumulator a by d units of 2⁻³² (R130): one that lowers it becomes a deficit; one that raises it is added at
the next interval end, or at once (`now`) where energy moves between directions or quadrants. It enters the pulse residues at once
(R143). -/
def correctAcc (now : Bool) (a : Nat) (d : Int) (s : State) : State :=
  let m := s.mtr
  let m1 := if d < 0 then { m with deficit := mput 0 m.deficit a (mget 0 m.deficit a + (-d).toNat) }
            else if now then spendAcc m a d.toNat
            else { m with plus := mput 0 m.plus a (mget 0 m.plus a + d.toNat) }
  pulseCorrect a d { s with mtr := { m1 with corr := if m1.corr.contains a then m1.corr else a :: m1.corr } }

end Sys2Proof.Machine
end

