-- ==== Sys2Proof/Machine/Meters.lean ====
section
/-! DEFINITION. Meters: the meanings of their commands, posting, holds and checkpoints (R125 to R137). -/

namespace Sys2Proof.Machine

/-! ### Intervals -/

/-- Does the twin's record stand for this device's increments of a meter: a channel of it is warming (R228), this device
is FAILED (R232), PLL-M or XCLK runs on its substitute (R253), or a dispute on it is unresolved and this device is the
Escort (R242), or a one-in-each double fault is in force (Table 12-4)? -/
def takesTwins (s : State) (c : MtrCfg) (t0 t1 : Nat) : Bool :=
  paired s && ((cfgStreams c).any (fun n => mget false s.twn.warm n) || s.flts.failed
    || pllHeldIn s t0 t1 || s.duringIn F.FLTS_ST_XFB 0 t0 t1
    || (s.fld F.TWN_ST_ROLE == 2 && ((cfgStreams c).any (fun n => match mget none s.twn.disputes n with
      | some d => d.unres
      | none => false) || ruledOn s c t0 t1)))

/-- The largest magnitudes of an interval reach INP_PEAK, and saturations SATL (R75, R99). -/
def notePeaks (iv : Interval) (s : State) : State :=
  let s1 := iv.peaks.foldl (fun s p => if p.1.val < 144 then raisePeak p.1.val (clipMag p.2) s else s) s
  iv.sats.foldl (fun s n => s.put F.FLT_ST_SATL n.val 1) s1

/-- What of a meter's settings its DC-injection window rests on: type, grid group and elements. -/
def idcBasis (c : MtrCfg) : MtrCfg := { c with pace := 0, ah := false, starti := 0, inom := 0, idclim := 0 }

/-- The DC-injection window after an interval from t0 to t1 (R127, R165): where a window of the group ends with it the means are
posted, if the intervals since that window's start follow on one another; at an aligning boundary it starts again. A window whose
meter takes another type, group or elements is given up, and the next interval begins one anew: the spec does not say what becomes of
it (DESIGN CHOICE). `marks`: window ends and aligning boundaries of the group, newest first. -/
def idcStep (marks : List (Nat × Bool)) (basis : MtrCfg) (t0 t1 : Nat) (w : IdcWin) (n : Rat) (sums : List Rat) :
    IdcWin × Option (List Rat) :=
  let w0 : IdcWin := if w.basis = some basis ∧ w.upTo = t0 then w else ⟨some basis, t0, t0, 0, [0, 0, 0]⟩
  let w1 : IdcWin := { w0 with upTo := t1, n := w0.n + n, sums := w0.sums.zipWith (· + ·) sums }
  match marks.dropWhile (·.1 != t1) with
  | [] => (w1, none)
  | m :: rest =>
    (IdcWin.start, if m.2 && rest.head?.map (·.1) == some w1.since then some (w1.sums.map fun x => rdiv x w1.n) else none)

/-- The interval as computed: results, increments and status (R124 to R131). -/
def computePost (s : State) (m : Nat) (c : MtrCfg) (iv : Interval) (miss : List MissedSample) : MtrPost × List (Option Sums) :=
  let f := intervalFreq s c.gg iv.startT iv.endT
  let ts := alignedOf c.pace iv.startT iv.endT f.1
  let sums : List (Option Sums) := c.els.map fun e => e.map (elemSums s m c.pace iv.runs ts)
  let es : List (Option Quant) := sums.map fun e => e.map elemQuant
  let dur := (ts.map (·.w)).sum / paceRate c.pace
  let nl := es.map fun e => match e with
    | some q => noLoad c q
    | none => false
  let loaded := es.filterMap fun e => e.bind fun q => if noLoad c q then none else some q
  let inc := (es.map fun e => match e with
      | some q => if noLoad c q then List.replicate 16 0 else setIncs c.type c.ah q dur
      | none => List.replicate 16 0) ++ [setIncs c.type c.ah (totalQuant loaded) dur]
  let st := cfgStreams c
  let rem := (cfgRemotes c).map fun r => mget RemFlags.none_ s.mtr.rem (refKey r)
  let had (x : Fld) : Bool := st.any fun n => s.duringIn x n iv.startT iv.endT
  ({ cfg := c, startT := iv.startT, endT := iv.endT, dur := dur
     res := resultsOf c es (totalQuant (es.filterMap id)) f.1
     idc := none, inc := inc, nl := nl
     ovr := had F.INP_ST_OVR || had F.INP_ST_DENS || rem.any fun r => spanIn r.ovr iv.startT iv.endT
     opened := had F.INP_ST_OPEN || had F.INP_ST_STUCK || rem.any fun r => spanIn r.opened iv.startT iv.endT
     settle := had F.FLT_ST_SETTLE || rem.any fun r => spanIn r.settle iv.startT iv.endT
     unlock := !dcType c.type && !f.2
     rloss := miss != []
     unver := unverifiedIn s m c iv.startT iv.endT || miss != [] || (!paired s && lostIn s m iv.startT iv.endT)
     subst := st.any (adopting s) }, sums)

/-- One interval is computed under settings c and waits for its posting (R126); a DC-injection window may end with it (R127). -/
def computeInterval (m : Nat) (c : MtrCfg) (iv : Interval) (s0 : State) : State :=
  let miss := mget [] s0.mtr.miss m
  let s := storeRuns m c iv.endT miss iv.runs s0
  let r := computePost s m c iv miss
  let cur : List Rat := r.2.map fun e => match e with
    | some a => a.id
    | none => 0
  let k := mget GrdTrk.blank s.grd.trk c.gg
  let idc := if dcType c.type then (IdcWin.start, none)
    else idcStep k.marks (idcBasis c) iv.startT iv.endT (mget IdcWin.start s.mtr.idc m) (r.1.dur * paceRate c.pace) cur
  { s with mtr := { s.mtr with
      due := mput [] s.mtr.due m (mget [] s.mtr.due m ++ [{ r.1 with idc := idc.2 }])
      idc := mput IdcWin.start s.mtr.idc m idc.1
      miss := mput [] s.mtr.miss m []
      held := mput none s.mtr.held m none } }

/-- The adoptions under which a held interval is computed: its channels are still the twin's, whatever has ended since (R241). -/
def heldAdopts (h : HeldInt) (m : SMap (Option Adoption)) : SMap (Option Adoption) :=
  h.adopted.foldl (fun m n => mput none m n (some ((mget none m n).getD ⟨false, 0⟩))) m

/-- The interval of a meter that was held for its twin's samples is computed, under the settings it ran with (R134, R241). -/
def computeHeld (m : Nat) (s : State) : State :=
  match mget none s.mtr.held m with
  | some h =>
    let s1 := { s with twn := { s.twn with adopts := heldAdopts h s.twn.adopts } }
    let s2 := computeInterval m h.cfg { h.iv with runs := h.iv.runs ++ h.got } s1
    { s2 with twn := { s2.twn with adopts := s.twn.adopts } }
  | none => s

/-- The adopted streams of a held interval whose samples have not come. -/
def awaited (h : HeldInt) : List Nat := h.adopted.filter fun n => !(h.got.any fun r => r.ref.toNat == n)

/-- A held interval waits no longer: every sample that has not come is missing, and it is computed (R133, R241). -/
def forceHeld (m : Nat) (s : State) : State :=
  match mget none s.mtr.held m with
  | none => s
  | some h =>
    let gone := (awaited h).flatMap fun n => absentIn h.cfg.pace h.iv.startT h.iv.endT h.got n
    computeHeld m { s with mtr := { s.mtr with miss := mput [] s.mtr.miss m (mget [] s.mtr.miss m ++ gone) } }

def forceAllHeld (s : State) : State := (List.range 48).foldl (fun s m => forceHeld m s) s

/-! ### Posting (R125, R129 to R132) -/

/-- The twin's increments of an interval, by set and quantity, from its records (R228, R242): its item whose TEND agrees
to within 10 µs (R234). -/
def twinItem (s : State) (m endT : Nat) : Option MeterItem :=
  (s.twn.peer.flatMap (·.mtrs)).find? fun x =>
    x.meter == m && (let d := (x.tend + 2 ^ 32 - endT % 2 ^ 32) % 2 ^ 32
      decide (d ≤ 10000) || decide (2 ^ 32 - 10000 ≤ d))

/-- The increments of an item as four sets of 16. -/
def itemSets (x : MeterItem) : List (List Nat) :=
  ((List.range 4).foldl (fun (acc : List (List Nat) × List Int) k =>
    if x.sets.testBit k then (acc.1 ++ [(acc.2.take 16).map Int.toNat], acc.2.drop 16)
    else (acc.1 ++ [List.replicate 16 0], acc.2)) ([], x.inc)).1

/-- Sets QNOW of an accumulator, and QWORST with it (R131). -/
def setQual (a q : Nat) (s : State) : State :=
  (s.put F.ACC_QUAL_QNOW a q).put F.ACC_QUAL_QWORST a (max q (s.fld F.ACC_QUAL_QWORST a))

/-- The quality of a posted interval for one accumulator (R131). -/
def postQual (unver subst covered : Bool) : Nat := if unver then 3 else if subst then 2 else if covered then 0 else 1

/-- A flag of MTR_ST with its latch. -/
def flagLatch (f l : Fld) (m : Nat) (b : Bool) (s : State) : State :=
  let s1 := s.setBit f m b
  if b then s1.put l m 1 else s1

/-- Status of the meter for the interval posted (Table 06-10), with events 7 and 8 (R140). -/
def postStatus (m : Nat) (c : MtrCfg) (p : MtrPost) (s : State) : State :=
  let s1 := (((s.setBit F.MTR_ST_NLA m (p.nl.getD 0 false)).setBit F.MTR_ST_NLB m (p.nl.getD 1 false)).setBit
    F.MTR_ST_NLC m (p.nl.getD 2 false)).setBit F.MTR_ST_ACTIVE m (mtrCfg s m).isSome
  let s2 := flagLatch F.MTR_ST_OVR F.MTR_ST_OVRL m p.ovr (flagLatch F.MTR_ST_OPEN F.MTR_ST_OPENL m p.opened s1)
  let s3 := (s2.setBit F.MTR_ST_SETTLE m p.settle).setBit F.MTR_ST_UNLOCK m p.unlock
  let s4 := raiseIf (p.rloss && !s.bit F.MTR_ST_RLOSS m) 7 m (flagLatch F.MTR_ST_RLOSS F.MTR_ST_RLOSSL m p.rloss s3)
  match p.idc with
  | none => s4
  | some l =>
    let x := c.idclim != 0 && l.any fun v => decide ((c.idclim : Rat) / 1000 < rabs v)
    let s5 := raiseIf (x && !s.bit F.MTR_ST_IDCX m) 8 m (flagLatch F.MTR_ST_IDCX F.MTR_ST_IDCXL m x s4)
    (l.zipIdx).foldl (fun s v => s.put F.MTR_RES_RES (32 * m + 28 + v.2) (resWord (nearest (v.1 * 1000000)))) s5

/-- The results of the interval; DC injection, codes 28 to 30, is posted with its window, and reads zero for a DC type (R127,
R139). -/
def postResults (m : Nat) (p : MtrPost) (s : State) : State :=
  (p.res.zipIdx).foldl (fun s v =>
    if !dcType p.cfg.type && decide (28 ≤ v.2) && decide (v.2 ≤ 30) then s
    else s.put F.MTR_RES_RES (32 * m + v.2) (resWord v.1)) s

/-- The increments reach the accumulators and the pulse outputs; each accumulator takes its quality (R129, R131, R143). -/
def postIncs (m : Nat) (inc : List (List Nat)) (dur : Rat) (unver subst covered : Bool) (s : State) : State :=
  let s1 := { s with mtr := (List.range 64).foldl (fun st j => bumpAcc st (64 * m + j) (incAt inc j)) s.mtr }
  let s2 := (List.range 64).foldl (fun s j =>
    setQual (64 * m + j) (postQual unver (subst || s1.mtr.corr.contains (64 * m + j)) covered) s) s1
  pulseFeed m inc dur { s2 with mtr := { s2.mtr with corr := s2.mtr.corr.filter fun a => a / 64 ≠ m } }

/-- MTR_ST.QNOW: the worst among the meter's accumulators; event 4 where it becomes 3 (R140). -/
def postWorst (m : Nat) (s : State) : State :=
  let q := (List.range 64).foldl (fun a j => max a (s.fld F.ACC_QUAL_QNOW (64 * m + j))) 0
  raiseIf (q == 3 && s.fld F.MTR_ST_QNOW m != 3) 4 m (s.put F.MTR_ST_QNOW m q)

/-- The interval's item for the next compare record (R233). -/
def ownItem (m : Nat) (c : MtrCfg) (p : MtrPost) (inc : List (List Nat)) (q : Nat) : OwnItem :=
  let ks := (List.range 4).filter (usesSet c.type)
  let x : MeterItem :=
    { meter := m, sets := ks.foldl (fun a k => a + 2 ^ k) 0, qual := q, tend := p.endT % 2 ^ 32
      inc := ks.flatMap fun k => (inc.getD k []).map Int.ofNat }
  ⟨p.startT, p.endT, x⟩

/-- The increments of a posting are registered: the twin's, where its item stands for them, else this device's own; with the
qualities (R129, R131, R228). -/
def register (m : Nat) (p : MtrPost) (twin : Option MeterItem) (s : State) : State :=
  let c := p.cfg
  let inc := match twin with
    | some x => itemSets x
    | none => p.inc
  let unver := p.unver || unverifiedLate s c p.startT p.endT
  let s2 := postIncs m inc p.dur unver (p.subst || twin.isSome) (meterCovered s c p.startT p.endT) s
  let s3 := postWorst m s2
  { s3 with
    mtr := { s3.mtr with lastEnd := max s3.mtr.lastEnd p.endT }
    twn := { s3.twn with newMtr := s3.twn.newMtr ++ [ownItem m c p inc (s3.fld F.MTR_ST_QNOW m)] } }

/-- One posting (R125, R132): results and status, accumulators and qualities at once. Increments for which the twin's are to stand wait
for its item, which its next record brings (R228, R233). -/
def postOne (m : Nat) (p : MtrPost) (s : State) : State :=
  let s1 := postStatus m p.cfg p (postResults m p s)
  if takesTwins s p.cfg p.startT p.endT then
    match twinItem s m p.endT with
    | some x => register m p (some x) s1
    | none => { s1 with mtr := { s1.mtr with wait := s1.mtr.wait ++ [(m, p)] } }
  else register m p none s1

/-- Postings that wait for the twin's items: each is registered where its item has come, and with this device's own increments where
that has not come in the 400 ms for which records are kept, by time t (R233, R240). -/
def registerWaits (t : Nat) (s : State) : State :=
  s.mtr.wait.foldl (fun s w =>
    match twinItem s w.1 w.2.endT with
    | some x => register w.1 w.2 (some x) s
    | none =>
      if w.2.endT + 400000000 ≤ t then register w.1 w.2 none s
      else { s with mtr := { s.mtr with wait := s.mtr.wait ++ [w] } })
    { s with mtr := { s.mtr with wait := [] } }

/-- No item will come any more: what waits is registered with this device's own increments (R136, R231). -/
def registerOwn (s : State) : State :=
  s.mtr.wait.foldl (fun s w => register w.1 w.2 none s) { s with mtr := { s.mtr with wait := [] } }

/-- Posts the oldest interval of a meter that waits for it. -/
def postNext (m : Nat) (s : State) : State :=
  match mget [] s.mtr.due m with
  | p :: r => postOne m p { s with mtr := { s.mtr with due := mput [] s.mtr.due m r } }
  | [] => s

/-- Posts every interval of a meter that waits. -/
def postDue (m : Nat) (s : State) : State := (List.range (mget [] s.mtr.due m).length).foldl (fun s _ => postNext m s) s

/-- Posts every interval that has ended, those that were held for a twin's samples among them: before the final checkpoint (R136).
-/
def postAll (s : State) : State := registerOwn ((List.range 48).foldl (fun s m => postDue m (forceHeld m s)) s)

/-- Is site time t an interval boundary of a meter with these settings, past or present: a boundary of its grid group, or a whole
multiple of 20 ms (R134)? -/
def isBoundary (s : State) (c : MtrCfg) (t : Nat) : Bool :=
  let k := mget GrdTrk.blank s.grd.trk c.gg
  if dcType c.type || s.fld F.GRD_ST_STATE c.gg == 0 then t % 20000000 == 0
  else k.lastT == t || k.cycs.any fun x => x.start == t || x.tend == t

/-- May an interval of a meter begin at t: where the one before it ended, or at a boundary after that, the first at or after the instant
metering started (R126, R159)? -/
def startsAt (s : State) (m : Nat) (c : MtrCfg) (t : Nat) : Bool :=
  decide (s.pwr.meterT ≤ t) && (mget 0 s.mtr.lastIv m == t + 1 || (decide (mget 0 s.mtr.lastIv m ≤ t + 1) && isBoundary s c t))

/-- Does this device lend the twin its samples of channel n (R241)? -/
def lending (s : State) (n : Nat) : Bool := (mget none s.twn.adopts n).any Adoption.lending

/-- The samples of the channels that this device lends go to the twin, for an interval of a meter that uses them (R241). -/
def lendSamples (c : MtrCfg) (iv : Interval) (s : State) : State :=
  let ks := (alignedOf c.pace iv.startT iv.endT 0).map Aligned.k
  ((cfgStreams c).filter (lending s)).dedup.foldl (fun s n =>
    sendAdopted (lentRun (alignedAt c.pace n (localAt s c.pace iv.runs n (s.fld F.MTR_SCALE_K n))) n ks) s) s

/-- The end of an interval (R126). One that began at no boundary of the meter since metering started is none (R159). A meter that takes
a twin's samples waits for them (R241), and an interval that still waits when the next one ends waits no longer. Before the final
checkpoint an interval is posted at once (R136). -/
def intervalEnd (m : Nat) (iv : Interval) (s : State) : State :=
  match mtrCfg s m with
  | none => s
  | some c =>
    if running s && s.pwr.metering && startsAt s m c iv.startT then
      let s0 := { s with mtr := { s.mtr with lastIv := mput 0 s.mtr.lastIv m (iv.endT + 1) } }
      let s1 := lendSamples c iv (forceHeld m (notePeaks iv (reachTime iv.endT s0)))
      let ns := (cfgStreams c).filter (adopting s1)
      if ns ≠ [] ∧ ¬ s1.pwr.finalCk then
        { s1 with mtr := { s1.mtr with held := mput none s1.mtr.held m (some ⟨c, iv, ns.dedup, []⟩) } }
      else
        let s2 := computeInterval m c iv s1
        if s2.pwr.finalCk then postDue m s2 else s2
    else s

/-- Where a meter's interval in progress began: where its latest one ended, or at its latest boundary since metering started; none
before that. -/
def openSince (s : State) (m : Nat) (c : MtrCfg) : Option Nat :=
  let last := mget 0 s.mtr.lastIv m
  let t := if last ≠ 0 then last - 1
    else if dcType c.type || s.fld F.GRD_ST_STATE c.gg == 0 then s.clk.site / 20000000 * 20000000
    else (mget GrdTrk.blank s.grd.trk c.gg).lastT
  if s.pwr.meterT ≤ t ∧ t < s.clk.site then some t else none

/-- Every meter's interval in progress is closed as an interval end at this instant, direction and all decided on the partial interval,
and everything that has ended is posted (R136, R278). `runs`: samples that the sample path does not hold, by meter. -/
def closeIntervals (runs : List (Nat × List ChanRun)) (s : State) : State :=
  postAll ((List.range 48).foldl (fun s m =>
    match mtrCfg s m with
    | none => s
    | some c => match openSince s m c with
      | none => s
      | some t => intervalEnd m ⟨t, s.clk.site, (runs.filter (·.1 == m)).flatMap (·.2), [], []⟩ s) s)

def execIntervalEnd (m : Meter) (iv : Interval) (s : State) : Res := .next (intervalEnd m iv s)

def execIntervalPosting (m : Meter) (s : State) : Res := .next (if running s then postNext m s else s)

/-- Remote samples have not arrived 1 ms late: each is marked for substitution and RLOSS is set (R133). -/
def remoteDeadline (m : Nat) (missing : List MissedSample) (s : State) : State :=
  if running s && ((mtrCfg s m).isSome || (mget none s.mtr.held m).isSome) && missing != [] then
    let s1 := { s with mtr := { s.mtr with miss := mput [] s.mtr.miss m (mget [] s.mtr.miss m ++ missing) } }
    computeHeld m (raiseIf (!s.bit F.MTR_ST_RLOSS m) 7 m ((s1.put F.MTR_ST_RLOSS m 1).put F.MTR_ST_RLOSSL m 1))
  else s

def execRemoteSampleDeadline (m : Meter) (missing : List MissedSample) (s : State) : Res :=
  .next (remoteDeadline m missing s)

/-! ### Holds and quality (R131, R132) -/

/-- Starts a hold of a meter. -/
def startHold (m : Nat) (s : State) : State :=
  let h : MtrHold := { m := m, res := resOf s m, acc := (List.range 64).map fun j => viewAcc s (64 * m + j) }
  { s with mtr := { s.mtr with hold := some h } }.put F.MTR_HOLD_HOLD 0 1

/-- Ends the hold. -/
def endHold (s : State) : State := { s with mtr := { s.mtr with hold := none } }.put F.MTR_HOLD_HOLD 0 0

/-- A write of MTR_HOLD (R132). -/
def mtrHoldWrite (hold : Bool) (m : Nat) (s : State) : State :=
  let s1 := (s.put F.MTR_HOLD_EXP 0 0).put F.MTR_HOLD_METER 0 m
  if hold && decide (m < 48) then (if (heldMeter s m).isSome then s1 else startHold m (endHold s1)) else endHold s1

/-- A hold ends after 1 s: EXP (R132). -/
def mtrHoldExpire (s : State) : State := if s.mtr.hold.isSome then (endHold s).put F.MTR_HOLD_EXP 0 1 else s

def execMtrHoldExpire (s : State) : Res := .next (mtrHoldExpire s)

/-- QWORST takes the value of QNOW (Table 06-15). -/
def accQclr (a : Nat) (s : State) : State := s.put F.ACC_QUAL_QWORST a (s.fld F.ACC_QUAL_QNOW a)

/-! ### Changes of settings (R134) -/

/-- The result codes that stand for a type (Tables 06-4, 06-12). -/
def usesRes (type c : Nat) : Bool :=
  if c < 3 then usesEl type c
  else if c < 6 then usesEl type (c - 3)
  else if c < 9 then usesEl type (c - 6)
  else if c = 9 then true
  else if c = 31 then dcType type
  else if dcType type then false
  else if c < 13 then usesEl type (c - 10)
  else if c = 13 then true
  else if c < 17 then usesEl type (c - 14)
  else if c = 17 then true
  else if c < 21 then usesEl type (c - 18)
  else if c < 23 then true
  else if c < 26 then usesEl type (c - 23)
  else if c < 28 then true
  else usesEl type (c - 28)

/-- Results that the type of a meter's settings leaves undefined read zero (R139). -/
def clearUnused (m type : Nat) (s : State) : State :=
  (List.range 32).foldl (fun s c => if usesRes type c then s else s.put F.MTR_RES_RES (32 * m + c) 0) s

/-- Puts a meter's settings, as its registers hold them, in force. The first interval of a meter that was not enabled starts at this
boundary (R134). -/
def takeMeter (m : Nat) (s : State) : State :=
  if s.bit F.MTR_CFG_EN m then
    let c := mtrRegs s.flds m
    let last := if (mtrCfg s m).isNone then mput 0 s.mtr.lastIv m 0 else s.mtr.lastIv
    clearUnused m c.type { s with mtr := { s.mtr with cfg := mput none s.mtr.cfg m (some c), lastIv := last } }
  else { s with mtr := { s.mtr with cfg := mput none s.mtr.cfg m none } }.put F.MTR_ST_ACTIVE m 0

/-- Is this instant an interval boundary of a meter with these settings (R134)? For TYPE 0 to 2 a cycle boundary of its grid
group, for the others, and while that group is OFF, a whole multiple of 20 ms. -/
def meterBoundary (s : State) (c : MtrCfg) : Bool :=
  if dcType c.type || s.fld F.GRD_ST_STATE c.gg == 0 then s.clk.site % 20000000 == 0
  else (mget GrdTrk.blank s.grd.trk c.gg).lastT == s.clk.site

/-- Is this instant an interval boundary of meter m: of its settings in force, or of those that enable it? -/
def meterAtBoundary (s : State) (m : Nat) : Bool := meterBoundary s ((mtrCfg s m).getD (mtrRegs s.flds m))

/-- Is a calibration result due on a channel of meter m, by its settings in force or its new ones (R22)? -/
def meterTrimDue (s : State) (m : Nat) : Bool :=
  ((match mtrCfg s m with
    | some c => cfgStreams c
    | none => []) ++ cfgStreams (mtrRegs s.flds m)).any (trimDue s)

/-- At the meter's first interval boundary after the apply instant its settings take effect; a calibration result due on one of
its channels goes first, and the settings wait for the next boundary (R22, R134). Intervals that wait for their posting are posted
first. -/
def metersApply (m : Nat) (s : State) : State :=
  if running s && meterAtBoundary s m && !meterTrimDue s m then takeMeter m (postDue m s) else s

def execMetersApply (m : Meter) (s : State) : Res := .next (metersApply m s)

/-- A new PACE takes effect at the meter's next boundary (Table 05-8); a calibration result goes first (R22). -/
def paceApply (m : Nat) (s : State) : State :=
  match mtrCfg s m with
  | some c =>
    if running s && meterBoundary s c && !(cfgStreams c).any (trimDue s) then
      { s with mtr := { s.mtr with cfg := mput none s.mtr.cfg m (some { c with pace := s.fld F.MTR_CFG_PACE m }) } }
    else s
  | none => s

def execPaceChangeApply (m : Meter) (s : State) : Res := .next (paceApply m s)

/-! ### Checkpoints (R135 to R137) -/

/-- Is a ring position fenced: one of its 16 blocks (R136, R251, Table 22-8)? -/
def ringFenced (s : State) (p : Nat) : Bool := s.flts.blksFen.any fun b => b / 16 == p

/-- The next SEQ from n on whose position is not fenced; none where all 64 are. -/
def unfenced (s : State) (n : Nat) : Option Nat := ((List.range 64).map (n + ·)).find? fun q => !ringFenced s (q % 64)

/-- The key of registration r: MTR_REG[r][15:0], 0xFFFF where it is not in use (R135). -/
def regKey (m : SMap Nat) (r : Nat) : Nat :=
  if fget m F.MTR_REG_EN r = 1 then
    1024 * fget m F.MTR_REG_METER r + 256 * fget m F.MTR_REG_SET r + fget m F.MTR_REG_QTY r
  else 0xFFFF

/-- The accumulator that a key names. -/
def keyAcc (k : Nat) : Nat := 64 * (k / 1024) + 16 * (k / 256 % 4) + k % 16

def regKeys (m : SMap Nat) : List Nat := (List.range 100).map (regKey m)

/-- The slot that is written now (Table 06-6). -/
def makeCkpt (s : State) (seq : Nat) (final : Bool) : Ckpt :=
  let ks := regKeys s.flds
  { seq := seq % 2 ^ 32, flags := (if final then 1 else 0) + (if s.mtr.fromTwin then 2 else 0)
    count := (ks.filter (· ≠ 0xFFFF)).length, time := s.mtr.lastEnd, keys := ks
    vals := ks.map fun k => if k = 0xFFFF then 0 else viewAcc s (keyAcc k) }

/-- Writes a slot at the next position that is not fenced; fenced positions use up their SEQ (R136). -/
def writeCkpt (final : Bool) (s : State) : State :=
  match unfenced s s.mtr.nextSeq with
  | none => s
  | some q =>
    { s with mtr := { s.mtr with
        ring := mput .empty s.mtr.ring (q % 64) (.held (makeCkpt s q final)), nextSeq := q + 1 } }

/-- The usable slots of the ring. -/
def slots (m : SMap CkPos) : List Ckpt := m.filterMap fun e => match e.2 with
  | .held c => some c
  | .empty => none
  | .bad => none

/-- The usable slot with the highest SEQ (R137). -/
def newest (m : SMap CkPos) : Option Ckpt :=
  (slots m).foldl (fun a c => match a with
    | none => some c
    | some b => if b.seq < c.seq then some c else some b) none

/-- Loads a registered accumulator with a view; the fraction is zero (R137). -/
def loadAcc (a v : Nat) (s : State) : State :=
  { s with mtr := { s.mtr with acc := mput 0 s.mtr.acc a (v % 2 ^ 64 * 2 ^ 32) } }

/-- The registered accumulators with these keys start at zero (R137). -/
def zeroAccs (keys : List Nat) (s : State) : State := keys.foldl (fun s k => loadAcc (keyAcc k) 0 s) s

/-- The restore at main power-up (R137), with events 5 and 6 (R140). -/
def restoreCkpt (s : State) : State :=
  let cur := (regKeys s.flds).filter (· ≠ 0xFFFF)
  match newest s.mtr.ring with
  | none =>
    let s1 := { s with mtr := { s.mtr with nextSeq := (unfenced s 0).getD 0, ckTime := 0, fromTwin := false } }
    let s2 := (((zeroAccs cur s1).put F.MTR_CKST_SRC 0 0).put F.MTR_CKST_SLOT 0 0).put F.MTR_CKST_DROPPED 0 0
    raiseIf (cur != []) 6 noDetail (raise 5 noDetail (s2.put F.MTR_CKST_NEWREG 0 cur.length))
  | some c =>
    let kv := (c.keys.zip c.vals).filter fun p => p.1 ≠ 0xFFFF
    let s1 := (kv.filter fun p => cur.contains p.1).foldl (fun s p => loadAcc (keyAcc p.1) p.2 s) (zeroAccs cur s)
    let dropped := (kv.filter fun p => ¬ cur.contains p.1).length
    let fresh := (cur.filter fun k => ¬ (kv.map (·.1)).contains k).length
    let older := match (unfenced s (c.seq + 1)).map fun q => mget CkPos.empty s.mtr.ring (q % 64) with
      | some .bad => true
      | some .empty => false
      | some (.held _) => false
      | none => false
    let s2 := { s1 with mtr := { s1.mtr with nextSeq := c.seq + 1, ckTime := c.time, lastEnd := c.time, fromTwin := false } }
    let s3 := (((s2.put F.MTR_CKST_SRC 0 (if older then 2 else 1)).put F.MTR_CKST_SLOT 0 (c.seq % 64)).put
      F.MTR_CKST_DROPPED 0 dropped).put F.MTR_CKST_NEWREG 0 fresh
    raiseIf (dropped != 0 || fresh != 0) 6 noDetail (raiseIf older 5 noDetail s3)

/-- The 1024 bytes of a slot (Table 06-6). -/
def ckptBytes (c : Ckpt) : List Nat :=
  let body := leBytes 4 c.seq ++ leBytes 2 c.flags ++ leBytes 2 c.count ++ leBytes 8 c.time
    ++ c.keys.flatMap (leBytes 2) ++ c.vals.flatMap (leBytes 8) ++ List.replicate 4 0
  body ++ leBytes 4 (crc32 body)

end Sys2Proof.Machine
end

