-- ==== Sys2Proof/Machine/CycleOps.lean ====
section
/-! DEFINITION. What the metering core forms of a channel over one cycle, or one window, from its samples: for the compare record and its
witness (R233, R234, R238), and for a reference session (R210). Both rest on the TROT output. -/

namespace Sys2Proof.Machine

/-! ### Sums over a span -/

/-- The code of TROT among the presets (Table 05-5). -/
def trot : Nat := 2

/-- Weighted sums of samples over a span (R123, R124), and their largest magnitude. -/
structure SpanSums where
  n    : Rat
  x    : Rat
  xx   : Rat
  c    : Rat
  s    : Rat
  peak : Rat
  deriving DecidableEq, Repr

/-- Adds one sample. -/
def SpanSums.add (f : Nat → Rat) (a : SpanSums) (t : Aligned) : SpanSums :=
  let v := f t.k
  ⟨a.n + t.w, a.x + t.w * v, a.xx + t.w * v * v, a.c + t.w * v * t.c, a.s + t.w * v * t.s, rmax a.peak (rabs v)⟩

/-- The sums of samples f over a span. -/
def spanSums (ts : List Aligned) (f : Nat → Rat) : SpanSums := ts.foldl (SpanSums.add f) ⟨0, 0, 0, 0, 0, 0⟩

/-- U and Ū of Table 06-2, and the angle of the single-bin fundamental in degrees (R124). -/
def SpanSums.rms (a : SpanSums) : Rat := rsqrt (rdiv a.xx a.n)
def SpanSums.mean (a : SpanSums) : Rat := rdiv a.x a.n
def SpanSums.angle (a : SpanSums) : Rat := argDeg (a.c, -a.s)

/-- An angle less another, in degrees, within half a turn. -/
def angleLess (a b : Rat) : Rat := (a - b) - 360 * ((a - b + 180) / 360).floor

/-- A power of two. -/
def pow2 (e : Int) : Rat := if 0 ≤ e then 2 ^ e.toNat else 1 / 2 ^ (-e).toNat

/-- A number as binary32, rounded to nearest; past the largest finite one the infinity. -/
def toB32 (q : Rat) : Nat :=
  let a := rabs q
  if a = 0 then 0
  else
    let e0 : Int := (Nat.log2 a.num.toNat : Int) - Nat.log2 a.den
    let e : Int := max (-126) (if pow2 e0 ≤ a then e0 else e0 - 1)
    (if q < 0 then 2 ^ 31 else 0) + min 0x7F800000 ((e + 126).toNat * 2 ^ 23 + (nearest (a * pow2 (23 - e))).toNat)

/-! ### Cycles for the compare record (R233, R234) -/

/-- The cycle of channel n that ended in [t − 12 ms, t − 2 ms), with its frequency, and whether it ended LOCKED: a cycle of its grid
group, or a 20 ms span between boundaries of R21 for a channel in no group (R233). -/
def endedCycle (s : State) (t n : Nat) : Option CycRec :=
  let g := (groupOf s n).filter fun g => s.fld F.GRD_ST_STATE g != 0
  match g with
  | some g =>
    (mget GrdTrk.blank s.grd.trk g).cycs.find? fun c => decide (t ≤ c.tend + 12000000) && decide (c.tend + 2000000 < t)
  | none =>
    let e := (t - 2000001) / 20000000 * 20000000
    if 20000000 ≤ e ∧ t ≤ e + 12000000 then some ⟨e - 20000000, e, 50, true⟩ else none

/-- The stream that carries the witness's samples of channel n: the spare claimed, or, where that stands in, the channel's own modulator,
whose samples come under 512 + n (R85, R238). -/
def witnessRef (s : State) (n : Nat) : Option Nat :=
  ((sparesOf (bankOf n)).find? fun sp => (getSp s sp).arbit == some n).map fun sp =>
    if s.fld F.INP_ST_FEED n = spIdx sp + 1 then 512 + n else 144 + sp

/-- TROT sample k of a stream as channel n's: under the channel's K, trace ratio and offset (R196, R238). -/
def asChannel (s : State) (runs : List ChanRun) (n stream k : Nat) : Rat :=
  if streamLive s n then
    (presetSample s runs stream trot k - chanOffset s n) * (b32 (s.fld F.MTR_SCALE_K n) * ratio n (traceOf s n) * shuntF s n)
  else 0

/-- The sums of a channel over a cycle, from its own stream or another's samples in its place. -/
def cycleSums (s : State) (runs : List ChanRun) (n stream : Nat) (c : CycRec) : SpanSums :=
  spanSums (alignedOf trot c.start c.tend c.freq) (alignedAt trot n (asChannel s runs n stream))

/-- PHASE of a channel item: the angle less that of the group's REF channel, in 360° ÷ 2³²; 0 where not formed (Table 11-5). -/
def cyclePhase (s : State) (runs : List ChanRun) (n : Nat) (c : CycRec) (a : SpanSums) : Nat :=
  match groupOf s n with
  | none => 0
  | some g =>
    let r := (mget GrdTrk.blank s.grd.trk g).ref
    if r < 144 then
      (nearest (angleLess a.angle (cycleSums s runs r r c).angle * 2 ^ 32 / 360) % 2 ^ 32).toNat
    else 0

/-- What the metering core forms of a channel's cycle (R234). -/
def cycleMeas (s : State) (runs : List ChanRun) (n : Nat) (c : CycRec) : CycleMeas :=
  let a := cycleSums s runs n n c
  { n := n, start := c.start, tend := c.tend, rms := toB32 a.rms, mean := toB32 a.mean, phase := cyclePhase s runs n c a
    wrms := (witnessRef s n).elim 0 fun w => toB32 (cycleSums s runs n w c).rms
    nc := a.n, locked := c.lock }

/-- The cycles of a record of instant t, in stream order (R233). -/
def recordCycles (s : State) (t : Nat) (runs : List ChanRun) : List CycleMeas :=
  (List.range 144).filterMap fun n => if chanOn s n then (endedCycle s t n).map (cycleMeas s runs n) else none

/-! ### Windows of a reference session (R210) -/

/-- A sample of a selected channel: K and the REFK in force applied, G excluded (R210, R196). -/
def sessSample (s : State) (runs : List ChanRun) (n k : Nat) : Rat :=
  let c := traceOf s n
  (presetSample s runs n trot k - chanOffset s n)
    * (b32 (s.fld F.MTR_SCALE_K n) * (if n < 112 then c.refk else 1) * shuntF s n)

/-- The full scale of a channel's RANGE in force, in engine units. -/
def fullScale (s : State) (n : Nat) : Rat := rangeLsb n (mget 0 s.inp.range n) / 2 ^ 28

/-- What a window of a session from t0 to t1 forms on channel n (R210). The preset is TROT (DESIGN CHOICE: R210 names none). -/
def calWindow (s : State) (runs : List ChanRun) (x : Sess) (t0 t1 n : Nat) : CalWindow :=
  let f : Rat := if x.dc then 0 else rdiv (x.ncyc * 1000000000) (t1 - t0 : Nat)
  let ts := alignedOf trot t0 t1 f
  let sums (n : Nat) := spanSums ts (alignedAt trot n (sessSample s runs n))
  let a := sums n
  let raw := spanSums ts (presetSample s runs n trot)
  let r := (mget GrdTrk.blank s.grd.trk x.gg).ref
  { n := n, v := if x.dc then a.mean else a.rms
    ph := if x.dc ∨ 144 ≤ r then 0 else angleLess a.angle (sums r).angle
    frac := (if x.dc then raw.mean else raw.peak) / fullScale s n, eng := raw.mean * 2 ^ 28 }

/-- The window in progress ends now (R210). -/
def sessWindow (runs : List ChanRun) (x : Sess) (s : State) : State :=
  match x.winT with
  | none => s
  | some t => windowEnd (s.cal.sel.map (calWindow s runs x t s.clk.site)) x s

def execCalWindowEnd (runs : List ChanRun) (s : State) : Res := .next (onSess (sessWindow runs) s)

end Sys2Proof.Machine
end

