-- ==== Sys2Proof/Machine/SpectrumOps.lean ====
section
/-! DEFINITION. Spectra of channel streams: the grid resampler, harmonic spectra, one-cycle values, low bands and high bands, from
the CANTER and high-band samples of a stream (R163, R164, R166, R177, R186, R187). -/

namespace Sys2Proof.Machine

/-! ### Samples -/

/-- Sample k of stream n in engine units of 2⁻²⁸, as the runs bring it. -/
def streamRaw (runs : List StreamRun) (n k : Nat) : Option Int :=
  runs.findSome? fun c => if c.n.val = n ∧ c.first ≤ k then c.xs[k - c.first]? else none

/-- Do the runs bring anything of stream n? -/
def brings (runs : List StreamRun) (n : Nat) : Bool := runs.any fun c => c.n.val == n

/-- CANTER sample k of stream n in volts or amperes, with K and the trace corrections: the sample path's own, else as the runs bring it
(R106, R121). -/
def streamSample (s : State) (runs : List StreamRun) (n k : Nat) : Rat :=
  if streamLive s n then
    ((match (pathOut s n 3 k).orElse fun _ => streamRaw runs n k with
      | some x => (x : Rat) / 2 ^ 28
      | none => Config.noSample n k) - chanOffset s n)
      * (b32 (s.fld F.MTR_SCALE_K n) * ratio n (traceOf s n) * shuntF s n)
  else 0

/-- The period of the CANTER rate, in ns (Table 05-5). -/
def canterNs : Rat := 31250

/-! ### The resampler (R163) -/

/-- The reciprocal of a duration in nanoseconds, in Hz. -/
def hzOf (d : Nat) : Rat := rdiv 1000000000 d

/-- The stream at an instant of site time: 48 taps from the CANTER sample 23 before the latest one on, for a cycle of frequency f.
CANTER sample k stands at k periods and its group's skew. -/
def resampleAt (s : State) (runs : List StreamRun) (n : Nat) (f t : Rat) : Rat :=
  let p := (t - skewNs n) / canterNs
  let i := p.floor.toNat
  ((List.range 48).map fun j => Config.gridKernel f (p - i) j * streamSample s runs n (i + j - 23)).sum

/-- The 256 samples of the cycle from t0 to t1 (R163). -/
def resampleCycle (s : State) (runs : List StreamRun) (n t0 t1 : Nat) : List Rat :=
  (List.range 256).map fun j => resampleAt s runs n (hzOf (t1 - t0)) (t0 + (j : Rat) * (t1 - t0 : Nat) / 256)

/-- The samples of a window, cycle by cycle. -/
def resampleWindow (s : State) (runs : List StreamRun) (n : Nat) (bounds : List Nat) : List Rat :=
  (bounds.zip bounds.tail).flatMap fun c => resampleCycle s runs n c.1 c.2

/-! ### One-cycle values (R177) -/

/-- The RMS of a stream over the span from t0 to t1, its CANTER samples weighted as R123 gives. -/
def cycleRms (s : State) (runs : List StreamRun) (n t0 t1 : Nat) : Rat :=
  let lo := t0 / 31250 - 1
  let ws : List (Rat × Rat) := (List.range (t1 / 31250 + 2 - lo)).map fun i =>
    let c := ((lo + i : Nat) : Rat) * canterNs + skewNs n
    (overlap (c - canterNs / 2) (c + canterNs / 2) t0 t1 / canterNs, streamSample s runs n (lo + i))
  rsqrt (rdiv ((ws.map fun w => w.1 * w.2 * w.2).sum) ((ws.map (·.1)).sum))

/-! ### Bands (R186, R187) -/

/-- Mean squares of Hann-windowed bins: four times that of the transform, which a Hann window halves in amplitude. -/
def hannSq (m k : Nat) (xs : List Rat) : Rat := 4 * binSq m k (hann m xs)

/-- The 35 low bands of the period of 200 ms that ends at t: 6400 CANTER samples under a Hann window, whose equivalent noise
bandwidth is 1.5 bins. -/
def lowBands (s : State) (runs : List StreamRun) (n t : Nat) : List Rat :=
  let xs := (List.range 6400).map fun i => streamSample s runs n ((t - 200000000) / 31250 + i)
  (List.range 35).map fun b => rsqrt (((List.range 40).map fun i => hannSq 6400 (400 + 40 * b + i) xs).sum / (3 / 2))

/-- The gain of the sinc⁴ decimator of the high-band tap at f Hz, for a decimation by r to 384 kS/s (R93). -/
def droop (r : Nat) (f : Rat) : Rat :=
  (sinTurn (f / 768000) / (r * sinTurn (f / (768000 * r)))) ^ 4

/-- High-band sample k of stream n: the sample path's own, else the run's (R187). -/
def highRaw (s : State) (run : StreamRun) (k : Nat) : Option Int :=
  (((getPath s run.n.val).his.find? fun x => x.1 == k).map (·.2)).orElse fun _ =>
    if run.first ≤ k then run.xs[k - run.first]? else none

/-- The mean square of each of the 706 high bands of a block of 1920 samples of the high-band tap, relative to 1 µV² or 1 µA²:
scaled by K and the trace ratio, with the droop taken out (R187). -/
def highBands (s : State) (run : StreamRun) : List Rat :=
  let n := run.n.val
  let g := b32 (s.fld F.MTR_SCALE_K n) * ratio n (traceOf s n)
  let xs := (List.range 1920).map fun i => if streamLive s n then
    (match highRaw s run (run.first + i) with
      | some x => (x : Rat) / 2 ^ 28
      | none => Config.noSample n (run.first + i)) * g else 0
  (List.range 706).map fun b =>
    hannSq 1920 (45 + b) xs * 10 ^ 12 / droop (decimation n s / 2) (9000 + 200 * b) ^ 2

end Sys2Proof.Machine
end

