-- ==== Sys2Proof/Machine/Grid.lean ====
section
/-! DEFINITION. Grid groups and the harmonic engine: the meanings of their commands (R159 to R173). -/

namespace Sys2Proof.Machine

def getTrk (s : State) (g : Nat) : GrdTrk := mget GrdTrk.blank s.grd.trk g
def setTrk (g : Nat) (k : GrdTrk) (s : State) : State :=
  { s with grd := { s.grd with trk := mput GrdTrk.blank s.grd.trk g k } }

def trkState (s : State) (g : Nat) : Nat := s.fld F.GRD_ST_STATE g

/-- FNOM of a tracker in Hz, and the cycles of its window (R165). -/
def GrdTrk.nom (k : GrdTrk) : Rat := if k.f60 then 60 else 50
def GrdTrk.ncyc (k : GrdTrk) : Nat := if k.f60 then 12 else 10

/-! ### The tracker (Table 08-1) -/

/-- The NCO takes another frequency at site time t and keeps its phase: what is left of the cycle stretches with the period
(R160). -/
def GrdTrk.tune (k : GrdTrk) (t : Nat) (f : Rat) : GrdTrk :=
  { k with nco := f, next := t + (k.next - t) * k.nco / f }

/-- Enters SEEK: the NCO runs at FNOM. -/
def toSeek (g : Nat) (s : State) : State :=
  let k := getTrk s g
  setTrk g { k.tune s.clk.site k.nom with above := 0, aligned := false, measured := none } (s.put F.GRD_ST_STATE g 1)

/-- Enters ACQ. -/
def toAcq (g : Nat) (s : State) : State :=
  setTrk g { getTrk s g with above := 0, small := 0, big := 0, acqT := s.clk.site, aligned := false, measured := none }
    (s.put F.GRD_ST_STATE g 2)

/-- Leaves LOCKED: event 12 (R176). -/
def noteLoss (g : Nat) (s : State) : State := raise 12 g (s.put F.GRD_ST_LOSSL g 1)

/-- The mean frequency of the last 10 LOCKED cycles; the NCO's present one before any. -/
def GrdTrk.meanFreq (k : GrdTrk) : Rat := if k.freqs = [] then k.nco else k.freqs.sum / k.freqs.length

/-- Leaves LOCKED for HOLD at the mean of the last 10 LOCKED cycles, or for SEEK where HOLDT is 0. -/
def lose (g : Nat) (s : State) : State :=
  let s1 := noteLoss g s
  if s1.fld F.GRD_LIM_HOLDT g = 0 then toSeek g s1
  else
    let k := getTrk s1 g
    setTrk g { k.tune s1.clk.site k.meanFreq with above := 0, holdN := 0 } (s1.put F.GRD_ST_STATE g 4)

/-- Is a half-cycle RMS at or above a percentage of UNOM? -/
def atLeast (s : State) (g p : Nat) (rms : Rat) : Bool := decide (b32 (s.fld F.GRD_UNOM_UNOM g) * p / 100 ≤ rms)

/-- The tests that Table 08-1 makes at a half-cycle mark. OPEN and STUCK of the REF channel are looked at there too: the table says
that they end LOCKED, and names no instant (DESIGN CHOICE). -/
def markTest (g : Nat) (rms : Rat) (s : State) : State :=
  let k := getTrk s g
  let hi := atLeast s g (s.fld F.GRD_LIM_ULOCK g) rms
  let k1 := { k with above := if hi then k.above + 1 else 0 }
  match trkState s g with
  | 1 => if 4 ≤ k1.above then toAcq g (setTrk g k1 s) else setTrk g k1 s
  | 2 => if hi then s else toSeek g s
  | 3 =>
    let drop := s.fld F.GRD_LIM_UDROP g
    let ref := refStream k.ref
    if (drop ≠ 0 ∧ ¬ atLeast s g drop rms) ∨ s.bit F.INP_ST_OPEN ref ∨ s.bit F.INP_ST_STUCK ref then lose g s else s
  | 4 => if 2 ≤ k1.above then toAcq g (setTrk g k1 s) else setTrk g k1 s
  | _ => s

/-- Does a frequency lie outside 40 to 70 Hz? -/
def outsideBand (f : Rat) : Bool := decide (f < 40) || decide (70 < f)

/-- The tests that Table 08-1 makes at a boundary on the phase error and the frequencies; `freq`: that of the cycle. -/
def boundaryTest (g : Nat) (e freq : Rat) (meas : Option Rat) (s : State) : State :=
  let k := getTrk s g
  match trkState s g with
  | 2 =>
    if k.aligned then
      if 10 < rabs e then toSeek g s
      else if rabs e ≤ 1 then
        (if 3 ≤ k.small + 1 then setTrk g { k with big := 0, small := 0 } (s.put F.GRD_ST_STATE g 3)
         else setTrk g { k with small := k.small + 1 } s)
      else setTrk g { k with small := 0 } s
    else match meas with
      | some f => if outsideBand f then toSeek g s else setTrk g { k.tune s.clk.site f with measured := some f } s
      | none => s
  | 3 =>
    let k1 := { k with big := if 10 < rabs e then k.big + 1 else 0 }
    if 2 ≤ k1.big ∨ outsideBand freq then lose g s else setTrk g k1 s
  | _ => s

/-- One more boundary has passed in HOLD; the one at which HOLD was entered is none of them. -/
def holdPassed (g : Nat) (s : State) : State :=
  let k := getTrk s g
  if trkState s g = 4 then setTrk g { k with holdN := k.holdN + 1 } s else s

/-! ### Boundaries -/

/-- Stamps a boundary: its site time and CSEQ (R160). -/
def stampBoundary (g t : Nat) (s : State) : State :=
  ((s.put F.GRD_TB_LO_TB_LO g t).put F.GRD_TB_HI_TB_HI g (t / 2 ^ 32)).put F.GRD_ST_CSEQ g (s.fld F.GRD_ST_CSEQ g + 1)

/-- The members of a group, as they stand at a window's end. -/
def windowMembers (s : State) (g : Nat) : List WinMem :=
  ((List.range 144).filter fun n => groupOf s n == some g).map fun n => ⟨n, mget 0 s.grd.mem n, mget 0 s.grd.idmd n⟩

/-- A boundary of the group falls in a reference session's windows (R210): the first one begins a window, each later one closes a
cycle of it. `kept`: the cycle ended LOCKED and the boundary is no aligning boundary. -/
def sessBoundary (g t : Nat) (kept : Bool) (s : State) : State :=
  match s.cal.sess with
  | none => s
  | some x =>
    if !x.windows || x.dc || x.gg != g then s
    else match x.winT with
      | none => setSess { x with winT := some t, cyc := 0 } s
      | some _ => setSess { x with cyc := x.cyc + 1, unlk := x.unlk || !kept } s

/-- A cycle closes after the tests at its boundary (R162, R165): its frequency is posted and tested, and it joins its window; with
the last of N the window is done. `old`: the tracker before the tests; `align`: the boundary is an aligning boundary. -/
def closeCycle (g t : Nat) (old : GrdTrk) (align : Bool) (s : State) : State :=
  let k := getTrk s g
  let lock := trkState s g == 3
  let freq := if lock then hzOf (t - old.lastT) else old.nco
  let whole := lock && decide (k.t10 ≤ old.lastT)
  let unlk := k.winUnlk || !lock
  let full := decide (k.ncyc ≤ k.bounds.length)
  let w : WinDone :=
    { bounds := (t :: k.bounds).reverse, unlk := unlk, smooth := k.smooth, mem := if k.winGap then [] else windowMembers s g }
  let k1 := { k with
    lastT := t, cycs := (⟨old.lastT, t, freq, lock⟩ :: k.cycs).take 64, phasDue := !k.cycGap, cycGap := false
    winGap := k.winGap && !full
    freqs := if lock then (freq :: k.freqs).take 10 else k.freqs
    n10 := if whole then k.n10 + 1 else k.n10, d10 := if whole then k.d10 + (t - old.lastT) else k.d10
    bounds := if full then [t] else t :: k.bounds, winUnlk := unlk && !full
    done := if full then some w else k.done, ended := k.ended && !full
    marks := if full then ((t, true) :: k.marks).take 8 else k.marks }
  sessBoundary g t (lock && !align) (fexTest g lock old.lastT t freq k.nom
    ((setTrk g k1 s).put F.GRD_FREQ_FREQ g (nearest (freq * 1000000)).toNat))

/-- Is site time t a boundary of the group's NCO (R160, R161)? Except in LOCKED its phase passes zero there, to the nearest
nanosecond; in LOCKED the loop follows the reference, and no cycle is shorter than half a nominal period. -/
def boundaryDue (s : State) (g t : Nat) : Bool :=
  let k := getTrk s g
  if trkState s g = 3 then decide (1000000000 ≤ 2 * k.nom * ((t : Rat) - k.lastT)) else decide ((t : Int) = nearest k.next)

/-- The NCO at a boundary at t: in LOCKED it takes the frequency f to which the loop sets it, and begins its cycle there. -/
def GrdTrk.roll (k : GrdTrk) (locked : Bool) (t : Nat) (f : Rat) : GrdTrk :=
  if locked then
    let nco := if 0 < f then f else k.nco
    { k with nco := nco, next := t + 1000000000 / nco }
  else { k with next := k.next + 1000000000 / k.nco }

/-- A boundary of an enabled group (R160): stamp, tests of Table 08-1, frequency, excursion test. -/
def cycleBoundary (g t : Nat) (rms e nco : Rat) (meas : Option Rat) (s : State) : State :=
  if running s && trkState s g != 0 && boundaryDue s g t then
    let s1 := stampBoundary g t (reachTime t s)
    let old := getTrk s1 g
    let locked := trkState s1 g == 3
    let freq := if locked then hzOf (t - old.lastT) else old.nco
    let s2 := holdPassed g (setTrk g (old.roll locked t nco) s1)
    closeCycle g t old false (boundaryTest g e freq meas (markTest g rms s2))
  else s

def execCycleBoundary (g : Grp) (t : Nat) (rms e nco : Rat) (measured : Option Rat) (s : State) : Res :=
  .next (cycleBoundary g t rms e nco measured s)

/-! ### Windows and membership -/

/-- GRD_CHAN of a stream as a code: 0 no member, else 1 + 2 * group + KIND. -/
def memCode (m : SMap Nat) (n : Nat) : Nat :=
  if fget m F.GRD_CHAN_EN n = 1 then 1 + 2 * fget m F.GRD_CHAN_GG n + fget m F.GRD_CHAN_KIND n else 0

/-- The smoothing of stream n restarts with the first window from t on (R168). Of restarts the four latest are kept: a window waits for
its results no longer than the next one lasts. -/
def restartY (n t : Nat) (s : State) : State :=
  { s with hrm := { s.hrm with yT := mput [] s.hrm.yT n ((t :: mget [] s.hrm.yT n).take 4) } }

/-- The membership of stream n changes at site time t: its smoothing restarts, and its disturbance values begin anew; they read
zero for a non-member (R168, R181, R194). -/
def setMember (n t code : Nat) (s : State) : State :=
  let s1 := restartY n t { s with grd := { s.grd with mem := mput 0 s.grd.mem n code, joinT := mput 0 s.grd.joinT n (t + 1) } }
  let s2 := (List.range 4).foldl (fun s g => setDst g { getDst s g with hist := mput [] (getDst s g).hist n [] } s) s1
  ((((s2.put F.DST_CST_DIP n 0).put F.DST_CST_SWL n 0).put F.DST_CST_INT n 0).put F.DST_CST_RVC n 0).put F.DST_CST_URMS n 0

/-- A window of group g starts at t: changed membership and IDMD take effect (Table 08-4), but not on a channel on which a trim result
takes effect at that boundary: on that one with the next window (R22). A stream moved from one group to another leaves the first with
the earlier of the two window starts, and joins the second with that group's: the spec gives no order (DESIGN CHOICE). -/
def takeMembers (g t : Nat) (s : State) : State :=
  ((List.range 144).filter fun n => !trimDue s n).foldl (fun s n =>
    let old := mget 0 s.grd.mem n
    let new := memCode s.flds n
    let joins := new ≠ 0 ∧ (new - 1) / 2 = g
    let leaves := old ≠ 0 ∧ (old - 1) / 2 = g ∧ ¬ joins
    let code := if joins then new else if leaves then 0 else old
    let s1 := if joins then { s with grd := { s.grd with idmd := mput 0 s.grd.idmd n (s.fld F.GRD_IDMD_IDMD n) } } else s
    if code = old then s1 else setMember n t code s1) s

/-- Smoothing of a group's members restarts with the window that starts at t (R168). -/
def restartSmooth (g t : Nat) (s : State) : State :=
  (windowMembers s g).foldl (fun s x => restartY x.n t s) s

/-- SMOOTH changes with the start of a window at t: smoothing restarts (R168). -/
def takeSmooth (g t : Nat) (s : State) : State :=
  let k := getTrk s g
  let b := s.bit F.GRD_CFG_SMOOTH g
  if b = k.smooth then s else restartSmooth g t (setTrk g { k with smooth := b } s)

/-- What changes with the start of a window at t (Table 08-4). -/
def windowStart (g t : Nat) (s : State) : State := takeSmooth g t (takeMembers g t s)

/-- The window in progress is abandoned, and a new one starts at t; smoothing restarts (R165, R168). -/
def abandonWindow (g t : Nat) (s : State) : State :=
  let k := getTrk s g
  let s1 := setTrk g { k with
    bounds := [t], winUnlk := false, winGap := false, prevWin := none
    marks := if k.bounds = [t] then k.marks else ((t, false) :: k.marks).take 8 } s
  restartSmooth g t (windowStart g t s1)

/-! ### The aligning boundary -/

/-- The frequency measured over the first cycle in ACQ: as found at a boundary since, else as the command brings it (R161). -/
def GrdTrk.acqFreq (k : GrdTrk) (meas : Rat) : Rat := k.measured.getD meas

/-- The earliest instant of an aligning boundary (R161): after the measurement, and half a nominal period after the previous
boundary. -/
def GrdTrk.alignFrom (k : GrdTrk) (f : Rat) : Rat := rmax (k.acqT + 1000000000 / f) (k.lastT + 1000000000 / (2 * k.nom))

/-- Is t an instant for the aligning boundary: within the reference's first period from that earliest instant on? -/
def GrdTrk.alignDue (k : GrdTrk) (f : Rat) (t : Nat) : Bool :=
  decide (k.alignFrom f ≤ t) && decide ((t : Rat) ≤ k.alignFrom f + 1000000000 / f)

/-- The aligning boundary in ACQ (R161): the NCO is set to the measured frequency and to the reference's phase. A measured
frequency outside 40 to 70 Hz leads to SEEK, without a boundary. One that closes the last cycle of a window ends it and abandons
none (DEDUCED: it falls in no window then). -/
def aligningBoundary (g t : Nat) (rms meas : Rat) (s : State) : State :=
  let k := getTrk s g
  let f := k.acqFreq meas
  if running s && trkState s g == 2 && !k.aligned then
    if outsideBand f then toSeek g (reachTime t s)
    else if k.alignDue f t then
      let s1 := stampBoundary g t (reachTime t s)
      let s2 := markTest g rms (setTrk g { k with
        measured := some f, nco := f, next := t + 1000000000 / f, aligned := true, small := 0 } s1)
      let s3 := closeCycle g t k true s2
      if (getTrk s3 g).bounds = [t] then s3 else abandonWindow g t s3
    else s
  else s

def execAligningBoundary (g : Grp) (t : Nat) (rms measured : Rat) (s : State) : Res :=
  .next (aligningBoundary g t rms measured s)

/-- HOLD passes to SEEK: event 13 (R176). -/
def holdToSeek (g : Nat) (s : State) : State := raise 13 g (toSeek g (s.put F.GRD_ST_SEEKL g 1))

/-- HOLDT boundaries have passed in HOLD: SEEK (R159). -/
def trackerHoldExpire (g : Nat) (s : State) : State :=
  if trkState s g = 4 ∧ s.fld F.GRD_LIM_HOLDT g ≤ (getTrk s g).holdN then holdToSeek g s else s

def execTrackerHoldExpire (g : Grp) (s : State) : Res := .next (if running s then trackerHoldExpire g s else s)

/-- At a whole 10 s of site time GRD_F10S is posted: 0 for a group without a LOCKED cycle in them (R162). -/
def f10sPost (t : Nat) (s : State) : State :=
  if running s && t % 10000000000 == 0 then
    (List.range 4).foldl (fun s g =>
      let k := getTrk s g
      let f : Rat := if k.n10 = 0 then 0 else k.n10 * 1000000000 / k.d10
      let s1 := s.put F.GRD_F10S_F10S g (nearest (f * 1000000)).toNat
      setTrk g { k with n10 := 0, d10 := 0, t10 := t } s1)
      (reachTime t s)
  else s

def execF10sPost (t : Nat) (s : State) : Res := .next (f10sPost t s)

/-! ### Changes of settings (Table 08-4) -/

/-- A newly enabled group at a boundary of R21 for channels in no group: SEEK with its NCO at zero, its first boundary, its first
window and its first half-cycle mark (R159, R173, R177). -/
def gridEnable (g t : Nat) (s : State) : State :=
  if running s && s.bit F.GRD_CFG_EN g && trkState s g == 0 && t % 20000000 == 0 then
    let k1 := getTrk s g
    let k0 := { GrdTrk.blank with n10 := k1.n10, d10 := k1.d10, t10 := k1.t10, f60 := s.bit F.GRD_CFG_FNOM g, ref := s.fld F.GRD_CFG_REF g, smooth := s.bit F.GRD_CFG_SMOOTH g }
    let k := { k0 with nco := k0.nom, next := t + 1000000000 / k0.nom, lastT := t, bounds := [t], marks := [(t, false)] }
    let s1 := stampBoundary g t (setTrk g k (reachTime t s))
    let s2 := restartSmooth g t (takeMembers g t (setDst g { getDst s1 g with marks := [t] } s1))
    sessBoundary g t false (s2.put F.GRD_ST_STATE g 1)
  else s

def execGridEnableApply (g : Grp) (t : Nat) (s : State) : Res := .next (gridEnable g t s)

/-- Is t the group's latest boundary, and the present instant: where changes of a group's settings take effect (Table 08-4)? -/
def atGroupBoundary (s : State) (g t : Nat) : Bool := trkState s g != 0 && (getTrk s g).lastT == t && s.clk.site == t

/-- A tracker enters OFF; an event in progress ends with CUT (R183). The LOCKED cycles of the 10 s in progress stay counted (R162). -/
def trackerOff (g t : Nat) (s : State) : State :=
  if trkState s g = 0 then s
  else
    let s1 := if trkState s g = 3 then noteLoss g s else s
    let k := getTrk s g
    setTrk g { GrdTrk.blank with n10 := k.n10, d10 := k.d10, t10 := k.t10 } (cutDst g t (s1.put F.GRD_ST_STATE g 0))

/-- At its next boundary a disabled group's tracker enters OFF, and its members leave it (R173). -/
def gridDisable (g t : Nat) (s : State) : State :=
  if running s && !s.bit F.GRD_CFG_EN g && atGroupBoundary s g t then
    (windowMembers s g).foldl (fun s x => setMember x.n t 0 s) (trackerOff g t s)
  else s

/-- On entry to RUN, what was a member of a group that is no longer enabled is none (R159, R173): its tracker entered OFF as RUN was
left. -/
def dropFormer (s : State) : State :=
  (List.range 4).foldl (fun s g =>
    if s.bit F.GRD_CFG_EN g then s else (windowMembers s g).foldl (fun s x => setMember x.n s.clk.site 0 s) s) s

def execGridDisableApply (g : Grp) (t : Nat) (s : State) : Res := .next (gridDisable g t s)

/-- Do the registers hold another FNOM or REF than a tracker? -/
def refChanged (s : State) (g : Nat) : Bool :=
  let k := getTrk s g
  s.bit F.GRD_CFG_FNOM g != k.f60 || s.fld F.GRD_CFG_REF g != k.ref

/-- FNOM or REF has changed: HOLD at the present NCO frequency, or SEEK where HOLDT is 0; the window is abandoned (R159,
R173). -/
def gridRefChange (g t : Nat) (s : State) : State :=
  if running s && atGroupBoundary s g t && refChanged s g then
    let s1 := if trkState s g = 3 then noteLoss g s else s
    let k := { getTrk s1 g with f60 := s.bit F.GRD_CFG_FNOM g, ref := s.fld F.GRD_CFG_REF g, above := 0, holdN := 0 }
    let s2 := setTrk g k s1
    let s3 := if s2.fld F.GRD_LIM_HOLDT g ≠ 0 then s2.put F.GRD_ST_STATE g 4
      else if trkState s2 g = 4 then holdToSeek g s2 else toSeek g s2
    abandonWindow g t s3
  else s

def execGridReferenceChange (g : Grp) (t : Nat) (s : State) : Res := .next (gridRefChange g t s)

/-! ### Windows -/

/-- A window of N cycles has ended (R165, R182, R183): RoCoF, FLAG, and changes that wait for a window's start. -/
def windowClose (g : Nat) (s : State) : State :=
  let k := getTrk s g
  match k.done with
  | none => s
  | some w =>
    if running s && !k.ended then
      let dur : Rat := (w.tend - w.start : Nat) / (1000000000 : Rat)
      let f := rdiv w.cyc dur
      let s1 := rocofTest g k.prevWin f dur w.unlk s
      let s2 := setTrk g { getTrk s1 g with ended := true, prevWin := some (f, dur, w.unlk) } s1
      windowStart g w.tend (flagTest g s2)
    else s

def execWindowEnd (g : Grp) (s : State) : Res := .next (windowClose g s)

/-! ### Harmonic results -/

/-- A magnitude in µV or µA, saturating at 32 bits. -/
def micro (q : Rat) : Nat := clampU 32 (nearest (q * 1000000))

/-- The phase register of a sine-convention phase: arg + 90°, wrapped into [−180°, +180°) (R164). -/
def phaseWord (arg : Rat) : Nat := (nearest ((arg + 90) * 2 ^ 32 / 360) % 2 ^ 32).toNat

/-- The magnitude of X_h, RMS: √2 ÷ 256 times that of the sum (R164). -/
def phasorMag (z : Rat × Rat) : Rat := rsqrt (2 * (z.1 * z.1 + z.2 * z.2)) / 256

/-- Was OVR or DENS, or OPEN or STUCK, of a channel set between these instants (R169)? -/
def ovrIn (s : State) (n t0 t1 : Nat) : Bool := s.duringIn F.INP_ST_OVR n t0 t1 || s.duringIn F.INP_ST_DENS n t0 t1
def openIn (s : State) (n t0 t1 : Nat) : Bool := s.duringIn F.INP_ST_OPEN n t0 t1 || s.duringIn F.INP_ST_STUCK n t0 t1

/-- Posts stream n's phasors and DC component of a cycle, from its 256 samples (R164, R169); DC reads zero where it is removed
(R55). -/
def postPhasors (g n : Nat) (c : CycRec) (xs : List Rat) (s : State) : State :=
  let dc := if dcRemoved s n then 0 else xs.sum / 256
  let s1 := ((((s.put F.HRM_CYC_CSEQ n (s.fld F.GRD_ST_CSEQ g + 2 ^ 16 - 1)).setBit F.HRM_CYC_UNLK n (!c.lock)).setBit
    F.HRM_CYC_OVR n (ovrIn s n c.start c.tend)).setBit F.HRM_CYC_OPEN n (openIn s n c.start c.tend)).putI
    F.HRM_DC_DC n (clampS 32 (nearest (dc * 1000000)))
  (List.range 31).foldl (fun s h =>
    let z := dft 256 (h + 1) xs
    (s.put F.HRM_PHM_MAG (32 * n + h + 1) (micro (phasorMag z))).put F.HRM_PHA_PHASE (32 * n + h + 1) (phaseWord (argDeg z))) s1

/-- The members of group g whose phasors of this cycle are posted: each from the first whole cycle of its membership on (Table
08-4), where its samples have come. -/
def phasorMembers (s : State) (g : Nat) (c : CycRec) (ps : List StreamRun) : List Nat :=
  (List.range 144).filter fun n =>
    groupOf s n == some g && decide (mget 0 s.grd.joinT n ≤ c.start + 1) && brings ps n

/-- The phasors of the group's latest cycle are posted together (R164). -/
def phasorsPost (g : Nat) (ps : List StreamRun) (s : State) : State :=
  let k := getTrk s g
  match k.cycs with
  | [] => s
  | c :: _ =>
    if running s && trkState s g != 0 && !s.bit F.HRM_ENG_HOFF && k.phasDue then
      (phasorMembers s g c ps).foldl (fun s n => postPhasors g n c (resampleCycle s ps n c.start c.tend) s)
        (setTrk g { k with phasDue := false } s)
    else s

/-- The squares of G_h, SG_h and IG_h at window code w from those of C_k (R166, Table 08-12); nc is the number of cycles. -/
def groupSq (nc : Nat) (csq : Nat → Rat) (w : Nat) : Rat :=
  if w < 3 then 0
  else if w < 66 then
    let h := w - 2
    csq (nc * h - nc / 2) / 2 + ((List.range (nc - 1)).map fun i => csq (nc * h - nc / 2 + 1 + i)).sum + csq (nc * h + nc / 2) / 2
  else if w < 129 then
    let h := w - 65
    csq (nc * h - 1) + csq (nc * h) + csq (nc * h + 1)
  else ((List.range (nc - 1)).map fun i => csq (nc * (w - 129) + 1 + i)).sum

/-- A distortion figure in 0.01 %: 0 where its denominator is zero (R167). -/
def distort (num den : Rat) : Nat := if den = 0 then 0 else clampU 16 (nearest (rsqrt num / den * 10000))

/-- Does the class I filter of stream n go on into a window: it is smoothed, and no restart lies between it and the window that the
filter saw last (R168)? -/
def smoothOn (s : State) (w : WinDone) (n : Nat) : Bool :=
  w.smooth && (mget [] s.hrm.yT n).all fun r => decide (w.start < r) || decide (r < mget 0 s.hrm.yW n)

/-- One squared value of a window through the class I smoothing filter: x where smoothing is off or restarts (R168). -/
def smoothed (s : State) (w : WinDone) (n j : Nat) (x : Rat) : Rat :=
  match (if smoothOn s w n then mget none s.hrm.y (192 * n + j) else none) with
  | some old => (x + 7012 / 1000 * old) / (8012 / 1000)
  | none => x

/-- Posts one member's window, from its samples (R165 to R169). -/
def postWindow (w : WinDone) (x : WinMem) (xs : List Rat) (s : State) : State :=
  let n := x.n
  let y : List Rat := (List.range 192).map fun j => smoothed s w n j (groupSq w.cyc (fun k => binSq (256 * w.cyc) k xs) j)
  let at_ (j : Nat) : Rat := y.getD j 0
  let sumSg := ((List.range 62).map fun i => at_ (67 + i)).sum
  let sumG := ((List.range 62).map fun i => at_ (4 + i)).sum
  let idmd := if (x.code - 1) % 2 = 1 then b32 x.idmd else 0
  let b (v : Bool) (p : Nat) : Nat := if v then 2 ^ p else 0
  let w0 := ((s.fld F.HRM_W_WORD (192 * n) / 2 ^ 16 + 1) % 2 ^ 16) * 2 ^ 16 + b w.unlk 15 + b (ovrIn s n w.start w.tend) 14
    + b (openIn s n w.start w.tend) 13 + b w.smooth 12 + w.cyc
  let w1 := distort sumSg (rsqrt (at_ 66)) * 2 ^ 16 + distort sumG (rsqrt (at_ 3))
  let w2 := distort sumSg idmd * 2 ^ 16
  let s1 := ((s.put F.HRM_W_WORD (192 * n) w0).put F.HRM_W_WORD (192 * n + 1) w1).put F.HRM_W_WORD (192 * n + 2) w2
  let s2 := (List.range 189).foldl (fun s j => s.put F.HRM_W_WORD (192 * n + 3 + j) (micro (rsqrt (at_ (3 + j))))) s1
  if w.smooth then
    { s2 with hrm := { s2.hrm with
        yW := mput 0 s2.hrm.yW n (w.start + 1)
        y := (List.range 189).foldl (fun m j => mput none m (192 * n + 3 + j) (some (at_ (3 + j)))) s2.hrm.y } }
  else s2

/-- Is a per-cycle burst still to be served: it outranks window bursts (R170)? -/
def phasorsWait (s : State) : Bool := (List.range 4).any fun g => (getTrk s g).phasDue

/-- Is work that outranks the bands and the arc statistic still to be served: phasors, or the results of a window that has ended
(R170, Table 08-2)? -/
def windowsWait (s : State) : Bool := phasorsWait s || (List.range 4).any fun g => (getTrk s g).done.any fun w => w.mem != []

/-- The results of the window that ended are posted together (R167), of the members whose samples have come. -/
def windowPost (g : Nat) (ws : List StreamRun) (s : State) : State :=
  match (getTrk s g).done with
  | none => s
  | some w =>
    if running s && !s.bit F.HRM_ENG_HOFF && !phasorsWait s then
      let s1 := (w.mem.filter fun x => brings ws x.n).foldl (fun s x => postWindow w x (resampleWindow s ws x.n w.bounds) s) s
      if (getTrk s1 g).ended then setTrk g { getTrk s1 g with done := none } s1
      else setTrk g { getTrk s1 g with done := some { w with mem := [] } } s1
    else s

/-! ### The engine (R170, R171) -/

/-- Service by lanes in service (Table 08-3): HBOFF with event 25, which ends the indications (R193), and HOFF. -/
def hrmService (s : State) : State :=
  let ret := s.fld F.HRM_ENG_LANERET
  let up := ((List.range 17).filter fun i => !ret.testBit i).length
  let off := decide (up ≤ 6)
  let s1 := s.setBit F.HRM_ENG_HOFF 0 (up == 0)
  if off && !s.bit F.HRM_ENG_HBOFF then
    let s2 := raise 25 noDetail (s1.put F.HRM_ENG_HBOFF 0 1)
    let s3 := (List.range 144).foldl (fun s n =>
      let t := s.put F.DST_HBSUM_HBX n 0
      if s.bit F.DST_ARCST_ARCIND n then raise 27 n (t.put F.DST_ARCST_ARCIND n 0) else t) s2
    { s3 with dst := { s3.dst with hb := [], arc := [] } }
  else s1

/-- A harmonic lane is retired (R171): lane 16 takes the slots of the first working lane retired. -/
def retireHrmLane (lane : Nat) (s : State) : State :=
  let ret := s.fld F.HRM_ENG_LANERET
  if ret.testBit lane then s
  else
    let s1 := s.put F.HRM_ENG_LANERET 0 (ret + 2 ^ lane)
    let s2 := if lane < 16 ∧ s.fld F.HRM_ENG_SPAREFOR = 0x1F ∧ ¬ ret.testBit 16 then s1.put F.HRM_ENG_SPAREFOR 0 lane
      else if lane = 16 then s1.put F.HRM_ENG_SPAREFOR 0 0x1F else s1
    hrmService (permanent 1 lane 0 (lane < 16 && s2.fld F.HRM_ENG_SPAREFOR == lane) false none s2)

/-- A lane result fails its residue and is recomputed in the burst (R171); its retry counts a transient or retires the
lane (R248). An injected corruption leaves the retry untouched (R259). A retry that fails is a mismatch of its own and is recomputed too,
as on a filter lane. -/
def hrmMismatch (lane : Nat) (pass : Bool) (s : State) : State :=
  if running s && !(s.fld F.HRM_ENG_LANERET).testBit lane && !checkOff s 1 lane then
    let i := takeInjection 1 lane s
    let s1 := i.2.inc F.HRM_CNT_RECOMP
    if pass || i.1 then transient 1 lane 0 i.1 false s1 else retireHrmLane lane (s1.inc F.HRM_CNT_RECOMP)
  else s

def execHarmonicResidueMismatch (lane : Fin 17) (pass : Bool) (s : State) : Res := .next (hrmMismatch lane pass s)

/-- Warm-up of the arc statistic begins again (R190, R193). -/
def arcRestart (s : State) : State :=
  { s with dst := { s.dst with arc := s.dst.arc.map fun p => (p.1, p.2.map fun a => { a with warm := 0 }) } }

/-- A discarded block of the high band: its period is GAP and warm-up begins again (R193). -/
def hbGap (s : State) : State :=
  arcRestart ((List.range 144).foldl (fun s n =>
    if chanOn s n then
      let a := mget HbAcc.blank s.dst.hb n
      { s with dst := { s.dst with hb := mput HbAcc.blank s.dst.hb n { a with gap := true } } }
    else s) s)

/-- What a burst that is not complete when the next of its kind falls due leaves out (R170). The burst that falls due at this
instant is the next one and stands. A cycle or window that lacks a resampler burst posts nothing (DEDUCED: it has no whole set of
samples). -/
def dropBurst (k : BurstKind) (s : State) : State :=
  match k with
  | .highBand => hbGap s
  | .arc => hbGap s
  | .lowBand => arcRestart { s with dst := { s.dst with lowGap := true } }
  | .windows g =>
    let t := getTrk s g
    (match t.done with
      | some w => if w.tend = s.clk.site then s else setTrk g { t with done := some { w with mem := [] } } s
      | none => s)
  | .phasors g => if (getTrk s g).lastT = s.clk.site then s else setTrk g { getTrk s g with phasDue := false } s
  | .resampler => (List.range 4).foldl (fun s g =>
      if trkState s g = 0 then s else setTrk g { getTrk s g with cycGap := true, winGap := true } s) s

/-- A burst is not complete when the next of its kind falls due: its results are discarded, MISS and event 14 (R170, R193). -/
def burstOverrun (k : BurstKind) (s : State) : State :=
  if running s then dropBurst k (raise 14 noDetail (s.inc F.HRM_CNT_MISS)) else s

def execHarmonicBurstOverrun (k : BurstKind) (s : State) : Res := .next (burstOverrun k s)

/-! ### Holds (R172) -/

def startHrmHold (n : Nat) (s : State) : State :=
  let h : HrmHold :=
    { n := n, dc := s.fld F.HRM_DC_DC n
      cyc := [s.fld F.HRM_CYC_CSEQ n, s.fld F.HRM_CYC_UNLK n, s.fld F.HRM_CYC_OVR n, s.fld F.HRM_CYC_OPEN n]
      mag := (List.range 32).map fun i => s.fld F.HRM_PHM_MAG (32 * n + i)
      pha := (List.range 32).map fun i => s.fld F.HRM_PHA_PHASE (32 * n + i)
      win := (List.range 192).map fun i => s.fld F.HRM_W_WORD (192 * n + i) }
  { s with hrm := { s.hrm with hold := some h } }.put F.HRM_HOLD_HOLD 0 1

def endHrmHold (s : State) : State := { s with hrm := { s.hrm with hold := none } }.put F.HRM_HOLD_HOLD 0 0

/-- A write of HRM_HOLD (R172). -/
def hrmHoldWrite (hold : Bool) (n : Nat) (s : State) : State :=
  let s0 := { s with hrm := { s.hrm with expired := false } }
  let s1 := (s0.put F.HRM_HOLD_EXP 0 0).put F.HRM_HOLD_STREAM 0 n
  if hold && decide (n < 144) then (if (hrmHeld s n).isSome then s1 else startHrmHold n (endHrmHold s1)) else endHrmHold s1

/-- A hold ends after 1 s: EXP (R132, R172). -/
def hrmHoldExpire (s : State) : State := if s.hrm.hold.isSome then (endHrmHold s).put F.HRM_HOLD_EXP 0 1 else s

/-- The 1 s of a hold has passed while HCLK stood still: the hold ends with the next burst (R25). -/
def hrmOver (s : State) : State :=
  if s.hrm.expired then hrmHoldExpire { s with hrm := { s.hrm with expired := false } } else s

end Sys2Proof.Machine
end

