-- ==== Sys2Proof/Machine/TwinOps.lean ====
section
/-! DEFINITION. Twin pairing, shared operations: roles, digests, leaving the pair, tolerance, disputes, verdicts and
corrections (R219 to R244), and what a step of site time moves (R278). -/

namespace Sys2Proof.Machine

def tst (s : State) : Nat := s.fld F.TWN_ST_STATE
def setTst (k : Nat) (s : State) : State := s.put F.TWN_ST_STATE 0 k

/-- Is this the designated Lead (R219)? -/
def designated (s : State) : Bool := s.fld F.PWR_ST_PAIRSIDE == s.fld F.TWN_CFG_LEADSIDE

/-- The training set of this device (R223): protocol version 1; it acknowledges the twin's sets once one has come without error. -/
def ownSet (s : State) : TrainSet :=
  { side := BitVec.ofNat 1 (ownSide s), leadSide := BitVec.ofNat 1 (s.fld F.TWN_CFG_LEADSIDE), uid := Config.uid, version := 1#8
    metering := s.pwr.metering, good := true, acked := decide (0 < s.twn.sets) }

/-- Training sets are sent on port T from now on (R222, R223). -/
def sendSet (s : State) : State := { s with twn := { s.twn with tx := some (ownSet s) } }

/-- SEEK is entered (R222, R227). -/
def seek (s : State) : State := sendSet (setTst 1 s)

/-! ### Digests (R224, R310) -/

/-- The digest that the device reports for a region: 32 bytes of 0xFF while it is DIRTY. -/
def regionDigest (s : State) (r : Nat) : List Nat :=
  if s.bit F.ITN_RST_DIRTY r then List.replicate 32 0xFF else mget (List.replicate 32 0) s.itn.dig r

/-- The five regions compared by twins: INPUTS, FILTERS, METERS, PULSES, GRID. -/
def twinRegions : List Nat := [1, 2, 3, 4, 5]

def fiveDigests (s : State) : List Nat := twinRegions.flatMap (regionDigest s)

/-- DIGEST of a compare record (Table 11-4). -/
def digestCrc (s : State) : Nat := crc32 (fiveDigests s)

def dirtyFive (s : State) : Bool := twinRegions.any fun r => s.bit F.ITN_RST_DIRTY r

/-- Do two reported digests match? An all-0xFF digest matches none (R310). -/
def digestMatch (a b : List Nat) : Bool := a == b && a != List.replicate 32 0xFF

/-- Do all five reported digests of the twin match this device's? -/
def digestsMatch (s : State) (peer : List Nat) : Bool :=
  (twinRegions.zipIdx).all fun p => digestMatch (regionDigest s p.1) ((peer.drop (32 * p.2)).take 32)

/-! ### Leaving the pair -/

def setDispute (n : Nat) (d : Option Dispute) (s : State) : State :=
  { s with twn := { s.twn with disputes := mput none s.twn.disputes n d } }

def setAdoption (n : Nat) (a : Option Adoption) (s : State) : State :=
  { s with twn := { s.twn with adopts := mput none s.twn.adopts n a } }

/-- Bit n of a map of five words. -/
def mapBit (f : Fld) (n : Nat) (b : Bool) (s : State) : State :=
  let w := s.fld f (n / 32)
  let bit := 2 ^ (n % 32)
  if w.testBit (n % 32) = b then s else s.put f (n / 32) (if b then w + bit else w - bit)

def setCstate (n k : Nat) (s : State) : State := s.put F.TWN_CHST_CSTATE n k

/-- A dispute closes; until now its meters were UNVERIFIED (R237). The failing pairs that it settles are counted no
further: the worked example of R244 has a failing pair after its verdict and one dispute. -/
def closeDispute (n : Nat) (s0 : State) : State :=
  let s := { s0.put F.TWN_CHST_FAILS n 0 with twn := { s0.twn with first := mput 0 s0.twn.first n 0 } }
  setCstate n 1 ((mapBit F.TWN_DISPMAP_DISP n false (setDispute n none s)).stamp F.TWN_CHST_CSTATE n)

/-- Shows the latest verdict (Table 11-12). -/
def showVerdict (n v side : Nat) (s : State) : State :=
  ((s.put F.TWN_LASTV_STREAM 0 n).put F.TWN_LASTV_VERDICT 0 v).put F.TWN_LASTV_SIDE 0 side

/-- An adoption ends (R241). -/
def endAdoption (n : Nat) (s : State) : State := setCstate n 1 (mapBit F.TWN_ADOPTMAP_ADOPT n false (setAdoption n none s))

/-- Remount work that waited for this verdict goes on (R84): UNCHK clears unless the verdict is unresolved. The spec says what
becomes of A's slot only for a solo device: here the slot of an out case ends as skipped, and in a return case A stands in and
repeats the off-line measurement (DESIGN CHOICE). -/
def rmtVerdict (n : Nat) (unres : Bool) (s : State) : State :=
  let s1 := (sparesOf (bankOf n)).foldl (fun s sp =>
    match (getSp s sp).slot with
    | some sl =>
      if sl.chan = n ∧ sl.est = .verdict then
        (if sl.st = .ovlOut then nextWork sp (skipSlot n (setSlot sp none s))
         else setSlot sp (some { sl with st := .standin, est := .settling, newCorr := none }) s)
      else s
    | none => s) s
  if unres then s1 else s1.lower F.RMT_MST_UNCHK n

/-- Remount work that waits for a verdict which will not come, since the pair is no more, goes on as after an unresolved one
(DESIGN CHOICE). -/
def verdictGone (n : Nat) (s : State) : State := if mget false s.rmt.halted (bankOf n) then s else rmtVerdict n true s

/-- Every dispute and adoption ends without correction (R231). -/
def endDisputes (s : State) : State :=
  (List.range 144).foldl (fun s n =>
    let s1 := if (mget none s.twn.disputes n).isSome then
        showVerdict n 5 0 (releaseSpare n (closeDispute n s)) else s
    let s2 := if (mget none s1.twn.adopts n).isSome then endAdoption n s1 else s1
    (setCstate n 0 (verdictGone n s2)).put F.TWN_CHST_FAILS n 0)
    { s with twn := { s.twn with spans := [], first := [], verdicts := [] } }

/-- What every output kept of the Lead's exchanges is given up. -/
def forgetPrev (s : State) : State := (List.range 16).foldl (fun s c => setOut c { getOut s c with prev := none } s) s

/-- The pair's state is given up: unpaired, in SOLO, with nothing of the twin kept. Intervals that wait for the twin's samples
wait no longer (R133, R241). -/
def toSolo (s : State) : State :=
  let s0 := setTst 7 (endDisputes (registerOwn (forceAllHeld (forgetPrev s))))
  let s1 := ((((s0.put F.TWN_ST_ROLE 0 0).put F.TWN_ST_PEERFAIL 0 0).put F.TWN_ST_DIGOK 0 0).put F.TWN_ST_PHLOCK 0 0).put
    F.TWN_PHASE_PHERR 0 0
  { s1 with twn := { s1.twn with
      out := [], sets := 0, acked := false, marks := 0, loaded := false, hot := false, swapReq := false, detReq := false
      homing := false, warm := [], own := [], ownCh := [], ownMtr := [], newMtr := [], peer := [], roleT := 0, tx := none
      msgs := [], segs := [], inbox := [], repeated := [], arbSent := [], peerDet := false, peerArb := [], peerDig := [], lead := false } }

/-- The Tether is lost (R225, R231): event 34, and 1 ms of electrical idle on the transmit pair; the former Escort takes the driver role
and the former Lead gives it up (R221, R152). -/
def tetherLost (s : State) : State :=
  if tst s = 3 ∨ tst s = 4 ∨ tst s = 5 ∨ tst s = 6 then
    let s1 := raise 34 noDetail (s.put F.TWN_ST_LOSSL 0 1)
    let s2 := if tst s = 6 then (if s.twn.lead then setRole false s1 else takeOver s1) else s1
    linkQuiet 0 1000000 (toSolo s2)
  else s

/-- An orderly detach completes (R229): event 33. -/
def detached (s : State) : State := toSolo (raise 33 noDetail (s.put F.TWN_ST_DETL 0 1))

/-- The Lead role moves between the devices (R151, R230): event 37. -/
def roleChange (s : State) : State :=
  let now := !s.twn.lead
  let s1 := { s with twn := { s.twn with lead := now, roleT := s.clk.site + 1, swapReq := false, homing := false } }
  let s2 := (s1.put F.TWN_ST_ROLE 0 (if now then 1 else 2)).put F.TWN_ST_PHLOCK 0 1
  let s3 := if now then s2.put F.TWN_PHASE_PHERR 0 0 else s2
  raise 37 noDetail ((setRole now s3).put F.TWN_ST_ROLEL 0 1)

/-- Is any dispute open? -/
def anyDispute (s : State) : Bool := s.twn.disputes != []

/-- Is any channel warming (R228)? -/
def anyWarm (s : State) : Bool := s.twn.warm != []

/-- Is a channel of the twin warming, by its latest record, or, before the first one, where one of the two was metering when they
attached (R228, R230)? -/
def peerWarm (s : State) : Bool := (s.twn.peer.getLast?.map fun r => r.chans.any fun c => c.cflags.testBit 4).getD s.twn.hot

/-! ### Tolerance (R235) -/

/-- The noise term σ_R × K ÷ 0.5 V of a channel, in V or A (Table 11-7). -/
def noiseOf (s : State) (n : Nat) : Rat :=
  let k := rabs (b32 (s.fld F.MTR_SCALE_K n))
  if n < 96 then
    let sr : Rat := match mget 0 s.inp.range n with
      | 0 => 215 / 10
      | 1 => 114 / 10
      | 2 => 632 / 100
      | 3 => 443 / 100
      | _ => 380 / 100
    sr / 1000000 * k / (1 / 2)
  else if n < 112 then 19 / 1000000 * k / (1 / 2)
  else (s.fld F.TWN_BSN_BSNOISE : Rat) / 1000000 * k

/-- σ_d for a sum of weights N_c. -/
def sigmaD (s : State) (n : Nat) (nc : Rat) : Rat := rdiv (rsqrt 2 * noiseOf s n) (rsqrt nc)

def cRel (s : State) : Rat := (s.fld F.TWN_CMP_CREL : Rat) / 10000
def cZ (s : State) : Rat := s.fld F.TWN_CMP_CZ

/-- TOL for two RMS values. -/
def tolOf (s : State) (n : Nat) (nc x y : Rat) : Rat := cRel s * ((x + y) / 2) + cZ s * sigmaD s n nc

/-- The difference of two phases in degrees, into [−180, 180). -/
def phaseDiff (a b : Nat) : Rat := ((signed 32 (a + 2 ^ 32 - b % 2 ^ 32) : Int) : Rat) * 360 / 2 ^ 32

/-- π to 15 decimals. -/
def piApprox : Rat := 3141592653589793 / 1000000000000000

/-- The RMS of a full-scale sine of a channel, in V or A. -/
def rangeRms (s : State) (n : Nat) : Rat :=
  rabs (b32 (s.fld F.MTR_SCALE_K n)) / 2 ^ (mget 0 s.inp.range n) / rsqrt 2

/-- Does a matched pair of items fail (R235)? `nc`: the sum of the weights. -/
def itemFails (s : State) (n : Nat) (nc : Rat) (a b : ChanItem) : Bool :=
  let x := b32 a.rms
  let y := b32 b.rms
  let sd := sigmaD s n nc
  let m := (x + y) / 2
  let ma := b32 a.mean
  let mb := b32 b.mean
  let isRef := match groupOf s n with
    | some g => (mget GrdTrk.blank s.grd.trk g).ref == n
    | none => true
  let ptol : Rat := s.fld F.TWN_CMP_PTOL
  decide (tolOf s n nc x y < rabs (x - y))
  || (!dcRemoved s n && decide (cRel s * ((rabs ma + rabs mb) / 2) + cZ s * sd < rabs (ma - mb)))
  || (!isRef && ptol != 0 && decide (rangeRms s n * 5 / 100 ≤ x) && decide (rangeRms s n * 5 / 100 ≤ y)
      && decide (ptol / 1000 + cZ s * (180 / piApprox) * rdiv sd m < rabs (phaseDiff a.phase b.phase)))

/-- Are two TEND values within 10 µs (R234)? -/
def tendMatch (a b : Nat) : Bool :=
  let d := (a + 2 ^ 32 - b % 2 ^ 32) % 2 ^ 32
  decide (d ≤ 10000) || decide (2 ^ 32 - 10000 ≤ d)

/-! ### Disputes and arbitration (R237 to R243) -/

/-- The claim of a witness for a dispute: a spare of the bank, or none (R85, R238). -/
def claimWitness (n : Nat) (s : State) : State :=
  match mget none s.twn.disputes n with
  | none => s
  | some d =>
    let r := if n < 112 then claimSpare n s else (none, s)
    setDispute n (some { d with wit := none, cycles := [], mine := if r.1.isNone then 3 else 0, theirs := 0 })
      (setCstate n 5 r.2)

/-- A dispute is declared (R237): event 38. -/
def declare (n t start : Nat) (branch : Option Bool) (s : State) : State :=
  if (mget none s.twn.disputes n).isSome then s
  else
    let d : Dispute := { t := t, from_ := start, branch := branch, wit := none, cycles := [], mine := 0, theirs := 0
                         unres := false, okRun := 0 }
    let s0 := { s with mtr := { s.mtr with rose := mput 0 s.mtr.rose (fkey F.TWN_CHST_CSTATE n) (start + 1) } }
    let s1 := mapBit F.TWN_DISPMAP_DISP n true (setDispute n (some d) s0)
    let s2 := (setCstate n 4 ((s1.inc F.TWN_CNT_DISPUTES).inc F.TWN_CHST_DCNT n)).put F.TWN_ST_DISPL 0 1
    raise 38 n s2

/-- The spare that stands in for channel n at present. -/
def standingIn (s : State) (n : Nat) : Option Nat :=
  let k := s.fld F.INP_ST_FEED n
  if k = 0 ∨ k = s.fld F.RMT_MST_SUB n then none else some (spareAt (bankOf n) (k - 1))

/-- The convicted modulator of this side is retired (Table 11-8): the witness becomes the permanent substitute, or a spare
standing in is retired and the channel's modulator takes the stream back. -/
def retireFeeding (n : Nat) (s : State) : State :=
  match standingIn s n with
  | some sp => releaseSpare n (spliceMarks n (glide n (fun s => feedOwn n (retireSpare sp s)) s))
  | none =>
    match (sparesOf (bankOf n)).find? fun sp => (getSp s sp).arbit == some n with
    | some sp =>
      spliceMarks n (glide n (fun s => feedOwn n (substitute n sp none s)) s)
    | none => s

/-- A double fault of the one-in-each kind by these verdicts, each found when it was reached (R243, R256, Table 12-4): event 43. -/
def doubleOneEach (vs : List VerdictRec) (s : State) : State := ruleDouble (vs.map fun v => ⟨12, v.n, v.at_, some v.n⟩) false s

/-- A disputed span to correct on this side (R240). -/
def addSpan (n start : Nat) (s : State) : State :=
  { s with twn := { s.twn with spans := s.twn.spans ++ [⟨n, start, s.clk.site⟩] } }

/-- The verdicts against the other side declared less than 150 ms from this one (R243). -/
def opposed (s : State) (t : Nat) (me : Bool) : List VerdictRec :=
  s.twn.verdicts.filter fun v => v.me != me && decide ((max v.t t) - (min v.t t) < 150000000)

def noteVerdict (v : VerdictRec) (s : State) : State :=
  { s with twn := { s.twn with verdicts := (s.twn.verdicts ++ [v]).drop (s.twn.verdicts.length + 1 - 16) } }

/-- Correction or double fault after a verdict against one side (R240, R243): of a double fault the Escort takes the Lead's
increments over the disputed spans of every channel concerned. -/
def settle (n : Nat) (d : Dispute) (me : Bool) (s : State) : State :=
  let v : VerdictRec := { n := n, t := d.t, at_ := s.clk.site, from_ := d.from_, me := me }
  let s1 := noteVerdict v s
  let vs := v :: opposed s d.t me
  if 1 < vs.length then
    let s2 := { s1 with twn := { s1.twn with spans := s1.twn.spans.filter fun x => !(vs.any fun v => v.n == x.n) } }
    doubleOneEach vs (if s1.twn.lead then s2 else vs.foldl (fun s v => addSpan v.n v.from_ s) s2)
  else if me then addSpan n d.from_ s1 else s1

/-- Modulator fault (Table 11-8). -/
def verdictMod (n : Nat) (d : Dispute) (me : Bool) (s : State) : State :=
  let s1 := showVerdict n 1 (if me then 1 else 2) (raise 39 n s)
  let s2 := if me then retireFeeding n s1 else releaseSpare n s1
  settle n d me (rmtVerdict n false (closeDispute n s2))

/-- Branch fault: adoption (R241). -/
def verdictBranch (n : Nat) (d : Dispute) (me : Bool) (s : State) : State :=
  let s1 := showVerdict n 2 (if me then 1 else 2) (raise 39 n s)
  let s2 := settle n d me (rmtVerdict n false (closeDispute n (releaseSpare n s1)))
  setCstate n (if me then 6 else 7) (mapBit F.TWN_ADOPTMAP_ADOPT n true (setAdoption n (some ⟨!me, 0⟩) s2))

/-- Both sides convicted (Table 11-8): the double-fault ruling; each side applies its own retirement, and the Escort
takes the Lead's increments. -/
def verdictBoth (n : Nat) (d : Dispute) (s : State) : State :=
  let s1 := closeDispute n (retireFeeding n (showVerdict n 3 3 (raise 39 n s)))
  let s2 := rmtVerdict n false (doubleOneEach [⟨n, d.t, s.clk.site, d.from_, true⟩] s1)
  if s2.twn.lead then s2 else addSpan n d.from_ s2

/-- Unresolved (R242): event 40; the Escort's increments since the start of the span are replaced by the Lead's. -/
def verdictNone (n : Nat) (d : Dispute) (s : State) : State :=
  let s1 := raise 40 n ((showVerdict n 4 0 (raise 39 n s)).put F.TWN_ST_UNRESL 0 1)
  let s2 := setDispute n (some { d with unres := true, mine := 0, theirs := 0, cycles := [], wit := none, okRun := 0 })
    (rmtVerdict n true (releaseSpare n s1))
  let s3 := setCstate n 8 s2
  if s3.twn.lead || d.unres then s3 else addSpan n d.from_ s3

/-- The verdict on channel n from both sides' results (Table 11-8). -/
def verdict (n : Nat) (d : Dispute) (s : State) : State :=
  if d.mine = 2 ∧ d.theirs = 2 then verdictBoth n d s
  else if d.mine = 2 then verdictMod n d true s
  else if d.theirs = 2 then verdictMod n d false s
  else match d.branch with
    | some me => verdictBranch n d me s
    | none => verdictNone n d s

/-! ### Corrections (R240) -/

/-- Does a meter in force use local channel n, directly or through a virtual sum? -/
def meterUses (s : State) (m n : Nat) : Bool :=
  match mtrCfg s m with
  | some c => (cfgStreams c).contains n
  | none => false

/-- The increment of quantity j in an item. -/
def itemInc (x : MeterItem) (j : Nat) : Int := incAt (itemSets x) j

/-- The quantities among which a correction moves energy: the directions, or the quadrants, of one kind (R130, Table 06-3). -/
def movesWith (q : Nat) : List Nat :=
  if q < 2 then [0, 1]
  else if q < 6 then [2, 3, 4, 5]
  else if q < 10 then [6, 7, 8, 9]
  else if q < 12 then []
  else if q < 14 then [12, 13] else [14, 15]

/-- Applies Δ for one interval of a meter: the twin's increments less this device's. What Δ moves from one direction or quadrant to
another raises the other at once (R130). -/
def correctInterval (x : OwnItem) (p : MeterItem) (s : State) : State :=
  let d (j : Nat) : Int := itemInc p j - itemInc x.item j
  (List.range 64).foldl (fun s j =>
    if d j = 0 then s
    else correctAcc ((movesWith (j % 16)).any fun q => decide (d (16 * (j / 16) + q) < 0)) (64 * x.item.meter + j) (d j) s) s

/-- This device's intervals of meter m that lie in a disputed span: from the one that contains its start to the first that
begins after the splice (R240). -/
def spanItems (s : State) (m : Nat) (sp : Span) : List OwnItem :=
  let all := s.twn.ownMtr.filter fun x =>
    x.item.meter == m && decide (sp.start < x.endT) && !lostIn s m x.start x.endT
  let past := all.filter fun x => decide (x.start ≤ sp.splice)
  past ++ ((all.filter fun x => decide (sp.splice < x.start)).take 1)

/-- Applies the correction of one span to every meter concerned; an interval whose twin's increment is missing keeps its
own value (R240). -/
def correctSpan (sp : Span) (s : State) : State :=
  (List.range 48).foldl (fun s m =>
    if meterUses s m sp.n then
      (spanItems s m sp).foldl (fun s x =>
        match twinItem s m x.endT with
        | some p => correctInterval x p s
        | none => s) s
    else s) s

/-! ### A step of site time -/

/-- An instant of site time in the count that follows a step. -/
def moveT (off : Int) (t : Nat) : Nat := ((t : Int) + off).toNat

/-- The same for an instant kept plus 1, where 0 means none. -/
def moveT1 (off : Int) (t : Nat) : Nat := if t = 0 then 0 else moveT off (t - 1) + 1

/-- The same for bits [31:0] of an instant. -/
def moveEnd (off : Int) (t : Nat) : Nat := (((t : Int) + off) % 2 ^ 32).toNat

def moveAll (off : Int) (m : SMap Nat) : SMap Nat := m.map fun e => (e.1, moveT1 off e.2)

/-- A tracker's instants: its NCO passes zero when it would have (R160). -/
def GrdTrk.move (off : Int) (k : GrdTrk) : GrdTrk :=
  { k with
    next := k.next + off, lastT := moveT off k.lastT, acqT := moveT off k.acqT, t10 := moveT off k.t10
    bounds := k.bounds.map (moveT off), marks := k.marks.map fun x => (moveT off x.1, x.2)
    done := k.done.map fun w => { w with bounds := w.bounds.map (moveT off) }
    cycs := k.cycs.map fun c => { c with start := moveT off c.start, tend := moveT off c.tend } }

/-- A compare record that is kept. -/
def moveRec (off : Int) (r : CmpRec) : CmpRec :=
  { r with
    time := moveT off r.time, chans := r.chans.map fun x => { x with tend := moveEnd off x.tend }
    mtrs := r.mtrs.map fun x => { x with tend := moveEnd off x.tend } }

/-- What metering keeps of instants. -/
def MtrSt.move (off : Int) (m : MtrSt) : MtrSt :=
  let sp (l : List (Nat × Nat)) := l.map fun x => (moveT off x.1, moveT off x.2)
  { m with
    lastIv := moveAll off m.lastIv, rose := moveAll off m.rose, lastEnd := moveT off m.lastEnd
    fell := m.fell.map fun e => (e.1, e.2.map fun x => (moveT1 off x.1, moveT1 off x.2))
    cov := m.cov.map fun e => (e.1, e.2.map fun c =>
      { c with start := moveT off c.start, tend := moveT off c.tend, at_ := moveT off c.at_ })
    rem := m.rem.map fun e => (e.1, { e.2 with ovr := sp e.2.ovr, opened := sp e.2.opened, settle := sp e.2.settle
                                               nosync := sp e.2.nosync }) }

/-- What the pair keeps of instants: both devices step together. -/
def TwnSt.move (off : Int) (w : TwnSt) : TwnSt :=
  { w with
    own := w.own.map (moveRec off), peer := w.peer.map (moveRec off), evalT := moveT off w.evalT
    roleT := moveT1 off w.roleT, first := moveAll off w.first
    ownCh := w.ownCh.map fun x => { x with start := moveT off x.start, item := { x.item with tend := moveEnd off x.item.tend } }
    ownMtr := w.ownMtr.map fun x => ⟨moveT off x.start, moveT off x.endT, { x.item with tend := moveEnd off x.item.tend }⟩
    newMtr := w.newMtr.map fun x => ⟨moveT off x.start, moveT off x.endT, { x.item with tend := moveEnd off x.item.tend }⟩
    spans := w.spans.map fun x => { x with start := moveT off x.start, splice := moveT off x.splice }
    verdicts := w.verdicts.map fun v => { v with t := moveT off v.t, at_ := moveT off v.at_, from_ := moveT off v.from_ }
    disputes := w.disputes.map fun e => (e.1, e.2.map fun d =>
      { d with t := moveT off d.t, from_ := moveT off d.from_, wit := d.wit.map (moveT off) }) }

/-- What fault supervision keeps of instants. -/
def FltsSt.move (off : Int) (f : FltsSt) : FltsSt :=
  let fr (x : FaultRec) : FaultRec := { x with t := moveT off x.t }
  { f with
    wins := f.wins.map fr, pllUntil := moveT off f.pllUntil, restartT := f.restartT.map (moveT off)
    lost := f.lost.map fun x => (x.1, moveT off x.2)
    ruling := f.ruling.map fun r =>
      { r with faults := r.faults.map fr, startT := moveT off r.startT, endT := moveT off r.endT } }

/-- What a group's disturbances keep of instants: a condition in progress keeps its length. -/
def DstGrp.move (off : Int) (d : DstGrp) : DstGrp :=
  let ev (e : DstEv) : DstEv := { e with start := moveT off e.start }
  { d with
    marks := d.marks.map (moveT off), dip := d.dip.map ev, swl := d.swl.map ev, int := d.int.map ev, fex := d.fex.map ev
    rvc := d.rvc.map fun e => { e with start := moveT off e.start }
    outT := moveT off d.outT, queue := d.queue.map fun r => { r with ev := ev r.ev, endT := moveT off r.endT } }

/-- Site time steps by an offset: the instants that the device keeps go over to the new count (R160, R278). -/
def stepTime (off : Int) (s : State) : State :=
  let s1 := setSite (moveT off s.clk.site) s
  { s1 with
    grd := { s1.grd with trk := s1.grd.trk.map fun e => (e.1, e.2.move off), joinT := moveAll off s1.grd.joinT }
    hrm := { s1.hrm with yW := moveAll off s1.hrm.yW, yT := s1.hrm.yT.map fun e => (e.1, e.2.map (moveT off)) }
    mtr := s1.mtr.move off
    twn := s1.twn.move off
    flts := s1.flts.move off
    pwr := { s1.pwr with meterT := moveT off s1.pwr.meterT }
    dst := { s1.dst with perT := moveT off s1.dst.perT, grp := s1.dst.grp.map fun e => (e.1, e.2.move off) }
    cal := { s1.cal with
      jointT := if s1.cal.jointT = 0 then 0 else moveT off s1.cal.jointT, applied := moveAll off s1.cal.applied
      sess := s1.cal.sess.map fun x => { x with winT := x.winT.map (moveT off) } } }

/-- Site time is set to t. -/
def jumpTo (t : Nat) (s : State) : State := stepTime ((t : Int) - s.clk.site) s

end Sys2Proof.Machine
end

