-- ==== Sys2Proof/Machine/Twin.lean ====
section
/-! DEFINITION. Twin pairing: the meanings of its commands (R222 to R242). -/

namespace Sys2Proof.Machine

/-! ### Start of metering (R148, R227, R421) -/

/-- The twin's residues and counts that came before the outputs had their settings are loaded (R153). -/
def loadHeld (s : State) : State := loadOuts s.pls.load { s with pls := { s.pls with load := [] } }

/-- Metering starts: every enabled meter and output takes its settings; a device that is not paired takes the driver role
where it is solo or the designated Lead (R221), unless it has no usable FIRMWARE region (R313); the session word is set (R423). -/
def startMetering (s : State) : State :=
  if s.pwr.metering then s
  else
    let s1 := { s with pwr := { s.pwr with metering := true, session := true, meterT := s.clk.site },
                       mtr := { s.mtr with lastIv := [] } }
    let s2 := (List.range 48).foldl (fun s m => takeMeter m s) s1
    let s3 := loadHeld ((List.range 16).foldl (fun s c => pulsesApply c s) s2)
    if tst s3 = 6 ∨ ¬ s3.itn.fwOk then s3
    else if !s3.bit F.TWN_CFG_EN || designated s3 then setRole true s3 else s3

/-! ### Training (R222, R223) -/

/-- The Tether's receiver gains signal and comma lock. -/
def tetherComma (s : State) : State :=
  if tst s = 1 ∨ tst s = 7 then
    sendSet (setTst 2 { s with twn := { s.twn with sets := 0, acked := false } })
  else s

/-- TRAIN ends in SOLO: event 35. -/
def trainFailed (s : State) : State := toSolo (raise 35 noDetail (s.put F.TWN_ST_TRAINL 0 1))

/-- A training set arrives on port T, and this device's own goes on to acknowledge. One of another protocol version counts as one with
an error (DESIGN CHOICE: the spec has one version). While CHECK is barred, TRAIN goes on until its 100 ms are over (R222). -/
def tetherSet (ts : TrainSet) (s : State) : State :=
  if tst s ≠ 2 then s
  else if !ts.good || ts.version != 1#8 then { s with twn := { s.twn with sets := 0 } }
  else if ts.side.toNat = s.fld F.PWR_ST_PAIRSIDE ∨ ts.leadSide.toNat ≠ s.fld F.TWN_CFG_LEADSIDE then trainFailed s
  else
    let n := s.twn.sets + 1
    let a := s.twn.acked || ts.acked
    let s1 := { s with twn := { s.twn with sets := min 8 n, acked := a, peerMet := ts.metering } }
    let s2 := (s1.put F.TWN_PEER_LO_PEER_LO 0 ts.uid.toNat).put F.TWN_PEER_HI_PEER_HI 0 (ts.uid.toNat / 2 ^ 32)
    sendSet (if 8 ≤ n ∧ a ∧ ¬ s.twn.noCheck then setTst 3 s2 else s2)

/-- 100 ms pass in SEEK and TRAIN (R222). -/
def trainTimeout (s : State) : State :=
  if tst s = 2 then trainFailed s else if tst s = 1 then toSolo s else s

def execTetherTrainTimeout (s : State) : Res := .next (trainTimeout s)

/-- In SOLO training sets are sent every 1 s (R222). -/
def execSoloRetrain (s : State) : Res :=
  .next (if tst s = 7 then sendSet { s with twn := { s.twn with sent := s.twn.sent + 1 } } else s)

/-- Is this device to be Lead? Against a twin that meters the joiner is Escort; of two that both meter the holder of the driver role
stays Lead, and where neither or both hold it, as at start-up, the designation decides (R219, R221; the case of both metering is a
DESIGN CHOICE). -/
def becomesLead (peerRole : Bool) (s : State) : Bool :=
  if s.pwr.metering && s.twn.peerMet then (if s.pls.role == peerRole then designated s else s.pls.role)
  else if s.pwr.metering then true else if s.twn.peerMet then false else designated s

/-- The region digests are compared in CHECK (R224). A joiner's enabled channels warm (R228). -/
def digestCompare (peer : List Nat) (peerRole : Bool) (s : State) : State :=
  if tst s ≠ 3 then s
  else if digestsMatch s peer && !dirtyFive s then
    let joins := s.twn.peerMet && !s.pwr.metering
    setTst 4 { s with twn := { s.twn with
      lead := becomesLead peerRole s, marks := 0, digests := peer, hot := s.twn.peerMet || s.pwr.metering, tx := none
      mseq := [], msgs := [], segs := [], inbox := [], repeated := []
      warm := if joins then
          (List.range 144).foldl (fun m n => mput false m n (chanOn s n || s.bit F.INP_CFG_EN n)) [] else [] } }
  else
    let s1 := { s with twn := { s.twn with noCheck := true, digests := peer } }
    toSolo (raise 36 noDetail (s1.put F.TWN_ST_DIGL 0 1))

def execDigestCompare (x : DigestMsg) (s : State) : Res := .next (digestCompare (x.digests.map BitVec.toNat) x.role s)

/-- The Escort follows the Lead's site time: a device that meters slews, at most 50 ppm (DESIGN CHOICE: R224 gives no rate), and another
steps (R220, R224). -/
def followLead (site : Nat) (s : State) : State :=
  if s.pwr.metering then steer ((site : Int) - s.clk.site) 50 s else jumpTo site s

/-- A timestamped mark (R224): `phase` is the Escort's MCLK phase less the Lead's in units of 0.1 ns, `site` the Lead's
site time. -/
def tetherMark (phase : Int) (site : Nat) (s : State) : State :=
  if tst s = 4 ∨ tst s = 5 ∨ tst s = 6 then
    let near := decide (|phase| ≤ 100)
    let marks := if near then min 8 (s.twn.marks + 1) else 0
    let s1 := { s with twn := { s.twn with marks := marks } }
    let s2 := if s.twn.lead then s1
      else
        let s3 := if tst s = 6 then s1.putI F.TWN_PHASE_PHERR 0 (clampS 16 phase) else s1
        followLead site (s3.setBit F.TWN_ST_PHLOCK 0 (near && (s.bit F.TWN_ST_PHLOCK || marks == 8)))
    if tst s = 4 ∧ marks = 8 then setTst 5 s2 else s2
  else s

def execTetherMark (phase : Int) (site : Nat) (s : State) : Res := .next (tetherMark phase site s)

/-! ### Transfer and attach (R227, R228) -/

/-- PAIRED is entered: event 32; the Lead holds the driver role. -/
def enterPaired (s : State) : State :=
  let lead := s.twn.lead
  let s1 := ((setTst 6 s).put F.TWN_ST_ROLE 0 (if lead then 1 else 2)).put F.TWN_ST_ATTL 0 1
  let s2 := (s1.put F.TWN_ST_PHLOCK 0 1).put F.TWN_ST_DIGOK 0 1
  let s3 := { s2 with twn := { s2.twn with seq := 0, loaded := true, waited := false
                                           homing := s2.twn.hot && s2.bit F.TWN_CFG_HOMING } }
  raise 32 noDetail (setRole lead (if lead then s3.put F.TWN_PHASE_PHERR 0 0 else s3))

/-- Registered values are taken from the twin's slot (R227); FLAGS bit 1 of the next slot says whether any was (Table 06-6). -/
def takeTwinSlot (time : Nat) (vals : List (Nat × Nat)) (s : State) : State :=
  let keys := (regKeys s.flds).filter (· ≠ 0xFFFF)
  let s1 := (vals.filter fun p => keys.contains p.1).foldl (fun s p =>
    let t := loadAcc (keyAcc p.1) p.2 s
    { t with mtr := { t.mtr with corr := keyAcc p.1 :: t.mtr.corr } }) s
  { s1 with mtr := { s1.mtr with ckTime := time, lastEnd := time, fromTwin := vals.any fun p => keys.contains p.1 } }.put F.MTR_CKST_SRC 0 3

/-- Accumulators, deficits, residues and counts of a running twin are loaded (R228). -/
def takeRunning (time : Nat) (accs : List (Nat × Nat × Nat)) (pulse : List (Int × Nat)) (s : State) : State :=
  let s1 := accs.foldl (fun s a =>
    { s with mtr := { s.mtr with acc := mput 0 s.mtr.acc a.1 (a.2.1 % 2 ^ 96)
                                 deficit := mput 0 s.mtr.deficit a.1 a.2.2 } }) s
  loadOuts pulse (startMetering { s1 with mtr := { s1.mtr with lastEnd := max s1.mtr.lastEnd time } })

/-- A device that takes the Lead role adopts the Escort's pulse values before it drives, once its outputs have their settings; one that
drives already keeps its own (R153). -/
def leadPulse (pulse : List (Int × Nat)) (s : State) : State :=
  if s.twn.lead && !s.pls.role then
    (if s.pwr.metering then loadOuts pulse s else { s with pls := { s.pls with load := pulse } })
  else s

/-- What this device's own state transfer says: of one that meters every accumulator and deficit and the pulse values of the latest
exchange instant (R228); of another TIME and the registered values of its restored slot (R227). -/
def ownTransfer (s : State) : Transfer :=
  if s.pwr.metering then
    .running s.clk.site ((List.range 3072).map fun a => (a, mget 0 s.mtr.acc a, mget 0 s.mtr.deficit a)) (recorded s)
  else
    .checkpoint s.mtr.ckTime (((regKeys s.flds).filter (· ≠ 0xFFFF)).map fun k => (k, viewAcc s (keyAcc k)))
      ((List.range 16).map fun c => ((getOut s c).res, s.fld F.PLS_CNT_CNT c))

/-- Is the joiner's half of the transfer done: its own trim run has passed (R227)? -/
def transferReady (s : State) : Bool := tst s == 5 && (s.cal.anyPass || s.pwr.metering)

/-- Sends this device's state transfer. -/
def sendTransfer (s : State) : State := tetherSend 3 ((Config.transferBytes (ownTransfer s)).map BitVec.toNat) s

/-- At an exchange instant in TRANSFER a device that is ready sends its state, but for a joiner, which answers the runner's: R227 and R228
do not say when the first is sent, nor what tells the runner that its joiner has loaded (DESIGN CHOICE). -/
def offerTransfer (s : State) : State :=
  if transferReady s && (s.pwr.metering || !s.twn.peerMet) then sendTransfer s else s

/-- A device that loads its twin's transfer answers with its own, but for the runner (DESIGN CHOICE, as for `offerTransfer`). -/
def answerTransfer (s : State) : State := if s.pwr.metering && !s.twn.peerMet then s else sendTransfer s

/-- A state-transfer message is loaded (R227, R228). TRANSFER holds until this device's own trim run has passed. -/
def stateTransfer (x : Transfer) (s0 : State) : State :=
  if transferReady s0 then
    let s := answerTransfer (takeWhole 3 s0)
    match x with
    | .checkpoint time vals pulse =>
      let theirs := decide (s.mtr.ckTime < time) || (s.mtr.ckTime == time && !designated s)
      enterPaired (leadPulse pulse (if theirs && !s.pwr.metering then takeTwinSlot time vals s else s))
    | .running time accs pulse =>
      if s.pwr.metering then enterPaired (leadPulse pulse s) else enterPaired (takeRunning time accs pulse s)
  else s0

def execTetherStateTransfer (x : Transfer) (s : State) : Res := .next (stateTransfer x s)

/-- ATTWAIT has passed without PAIRED (R227): metering starts unpaired at the next exchange instant, and a TRAIN in progress has failed
(R246). -/
def attachWaitExpire (s : State) : State :=
  if running s && s.bit F.TWN_CFG_EN && !s.pwr.metering && s.cal.anyRun && tst s != 6 then
    let s1 := { s with twn := { s.twn with waited := true } }
    if tst s = 2 then trainFailed s1 else toSolo s1
  else s

def execAttachWaitExpire (s : State) : Res := .next (attachWaitExpire s)

/-- A channel leaves warming (R228). -/
def execChannelWarmingEnd (n : Chan) (s : State) : Res :=
  .next { s with twn := { s.twn with warm := mput false s.twn.warm n false } }

def execTetherLost (s : State) : Res := .next (tetherLost s)

/-- A message of this device's has not arrived whole by its deadline: it is repeated once, under its MSEQ (DESIGN CHOICE: R226 names no
other), and the Tether is lost where the repeat is lost too (R226). -/
def sentTimeout (type mseq : Nat) (s : State) : State :=
  match s.twn.msgs.find? fun m => m.type == type && m.mseq == mseq with
  | none => s
  | some m =>
    if m.again then tetherLost s
    else sendSegments type mseq m.bytes { s with twn := { s.twn with
      msgs := s.twn.msgs.map fun x => if x.type = type ∧ x.mseq = mseq then { x with again := true } else x } }

/-- A message of the twin's is incomplete at its deadline: what has come of it is given up. Of a compare record there is no repeat; of
another the repeat is awaited, and the Tether is lost where that is incomplete too (R226). -/
def recvTimeout (type mseq : Nat) (s : State) : State :=
  let s1 := { s with twn := { s.twn with segs := s.twn.segs.filter fun x => !(x.type == type && x.mseq == mseq) } }
  if type = 1 then s1
  else if s.twn.repeated.contains (type, mseq) then tetherLost s1
  else { s1 with twn := { s1.twn with repeated := (type, mseq) :: s1.twn.repeated } }

/-- A message is incomplete at its deadline: one of this device's (`sent`), or one of the twin's (R226). -/
def messageTimeout (sent : Bool) (type mseq : Nat) (s : State) : State :=
  if 4 ≤ tst s ∧ tst s ≤ 6 then (if sent then sentTimeout type mseq s else recvTimeout type mseq s) else s

def execTetherMessageTimeout (x : LateMsg) (s : State) : Res := .next (messageTimeout x.sent (x.type + 1) x.mseq.toNat s)

/-! ### Control messages (R215, R225, R232) -/

/-- The twin's COMMIT: accepted only where this device is PASSED with the same selection and passing channels (R215). -/
def peerCommit (sel pass : List Nat) (t : Nat) (s0 : State) : State :=
  let s := touchSets s0
  let no := sendMsg (.commitAck false) (commitConflict s)
  match s.cal.sess with
  | none => no
  | some x =>
    if calState s = 7 ∧ s.cal.sel = sel ∧ x.cands.map (·.1) = pass then
      match commitSet s x with
      | some i => sendMsg (.commitAck true) (beginCommit i { s with cal := { s.cal with jointT := jointFrom t s } })
      | none => no
    else no

/-- The twin's answer to this device's COMMIT, or its word that it has refused one of its own (R215). -/
def commitAnswer (ok : Bool) (s : State) : State :=
  if !ok then commitConflict s
  else match s.cal.sess with
    | none => s
    | some x =>
      if calState s ≠ 7 then s
      else match commitSet s x with
        | some i => beginCommit i s
        | none => s

/-- A control message of the twin. A FAILED notice of the Lead leads to an orderly role change, as R232 gives, and only the loss
of Tether to a takeover (`takeOver`); R152 names both for the takeover without an orderly change (DESIGN CHOICE: R232 is
followed). -/
def controlReceive (m : TwnMsg) (s0 : State) : State :=
  let s := takeWhole 2 s0
  if tst s ≠ 6 then s0
  else match m with
    | .swap => { s with twn := { s.twn with swapReq := true } }
    | .detach => { s with twn := { s.twn with peerDet := true } }
    | .commit sel pass t => peerCommit sel pass t s
    | .commitAck ok => commitAnswer ok s
    | .failed =>
      let s1 := s.put F.TWN_ST_PEERFAIL 0 1
      if s.twn.lead then s1 else { s1 with twn := { s1.twn with swapReq := true } }
    | .digest r bs =>
      { s with twn := { s.twn with peerDig := mput [] s.twn.peerDig r bs, peerDigT := mput 0 s.twn.peerDigT r s.clk.now } }
    | .arbitrate n => { s with twn := { s.twn with peerArb := n :: s.twn.peerArb } }

def execTetherControlReceive (m : TwnMsg) (s : State) : Res := .next (controlReceive m s)

/-! ### Requests (R221, R222, R229, R230) -/

/-- TWN_CTL.SWAP. -/
def twnSwap (s : State) : State :=
  if tst s ≠ 6 ∨ anyDispute s ∨ anyWarm s ∨ peerWarm s then s.put F.TWN_CTL_REJ 0 1
  else sendMsg .swap ({ s with twn := { s.twn with swapReq := true } }.put F.TWN_CTL_REJ 0 0)

def execTwnSwap (s : State) : Res := .next (if mainOn s && privileged s then twnSwap s else s)

/-- TWN_CTL.DETACH: without a pair it is accepted and detaches nothing. -/
def twnDetach (s : State) : State :=
  if tst s = 6 then sendMsg .detach ({ s with twn := { s.twn with detReq := true } }.put F.TWN_CTL_REJ 0 0)
  else s.put F.TWN_CTL_REJ 0 0

def execTwnDetach (s : State) : Res := .next (if mainOn s && privileged s then twnDetach s else s)

/-- TWN_CTL.ATTACH: SOLO is left for SEEK, and CHECK may be entered again. -/
def twnAttach (s : State) : State :=
  if tst s = 7 then seek ({ s with twn := { s.twn with noCheck := false, sets := 0, acked := false } }.put F.TWN_CTL_REJ 0 0)
  else s.put F.TWN_CTL_REJ 0 0

def execTwnAttach (s : State) : Res := .next (if mainOn s && privileged s then twnAttach s else s)

/-- TWN_CTL.TAKE: an unpaired device takes the driver role. -/
def twnTake (s : State) : State := if tst s = 6 then s.put F.TWN_CTL_REJ 0 1 else (setRole true s).put F.TWN_CTL_REJ 0 0

def execTwnTake (s : State) : Res := .next (if mainOn s && privileged s then twnTake s else s)

/-! ### Exchange (R149, R233) -/

/-- CFLAGS of a channel item (Table 11-5). -/
def chanFlags (s : State) (x : CycleMeas) : Nat :=
  let n := x.n
  let b (v : Bool) (k : Nat) : Nat := if v then 2 ^ k else 0
  b (ovrIn s n x.start x.tend) 0 + b (openIn s n x.start x.tend) 1 + b (s.duringIn F.FLT_ST_SETTLE n x.start x.tend) 2
    + b (s.stampedIn F.CAL_CTAP_DTAP n x.start x.tend) 3
    + b (mget false s.twn.warm n) 4 + b ((groupOf s n).isSome && !x.locked) 5
    + b ((mget none s.twn.adopts n).isSome) 6

/-- A cycle of the witness comparison (R238): two cycles are compared, and the side is convicted, cleared or open. -/
def witnessCycle (x : CycleMeas) (s : State) : State :=
  let n := x.n
  match mget none s.twn.disputes n with
  | none => s
  | some d =>
    if d.wit.any (fun w => decide (w ≤ x.start)) && d.mine == 0 then
      let f := b32 x.rms
      let w := b32 x.wrms
      let ok := decide (rabs (f - w) ≤ tolOf s n x.nc f w)
      let cs := d.cycles ++ [ok]
      let mine := if cs.length < 2 then 0 else if cs.all id then 1 else if cs.any id then 3 else 2
      setDispute n (some { d with cycles := cs, mine := mine }) s
    else s

/-- WFLAGS of a channel item. -/
def witnessFlags (s : State) (n : Nat) : Nat :=
  match mget none s.twn.disputes n with
  | some d => (if d.wit.isSome then 1 else 0) + (if d.wit.isSome && d.mine == 1 then 2 else 0) +
      (if d.wit.isSome && d.mine == 2 then 4 else 0)
  | none => 0

/-- The channel item of a cycle. -/
def chanItem (s : State) (x : CycleMeas) : OwnChan :=
  let n := x.n
  let it : ChanItem :=
    { stream := n, cflags := chanFlags s x, wflags := witnessFlags s n, tend := x.tend % 2 ^ 32, rms := x.rms
      mean := if dcRemoved s n then 0 else x.mean, phase := x.phase
      wrms := if (witnessFlags s n).testBit 0 then x.wrms else 0 }
  ⟨x.start, x.nc, it, false⟩

/-- FLAGS of a compare record (Table 11-4). -/
def recFlags (s : State) : Nat :=
  (if s.twn.lead then 1 else 0) + (if s.flts.failed then 2 else 0) + (if dirtyFive s then 4 else 0)

/-- A signed number in n bytes, least significant first. -/
def leInt (n : Nat) (z : Int) : List Nat := leBytes n (z % 2 ^ (8 * n)).toNat

/-- The 24 bytes of a channel item (Table 11-5). -/
def chanBytes (x : ChanItem) : List Nat :=
  [x.stream, x.cflags, x.wflags, 0] ++ [x.tend, x.rms, x.mean, x.phase, x.wrms].flatMap (leBytes 4)

/-- The bytes of a meter item (Table 11-6). -/
def mtrBytes (x : MeterItem) : List Nat := [x.meter, x.sets, x.qual, 0] ++ leBytes 4 x.tend ++ x.inc.flatMap (leInt 8)

/-- The bytes of a compare record (Table 11-4). -/
def recordBytes (r : CmpRec) : List Nat :=
  [1, r.flags] ++ leBytes 2 r.chans.length ++ leBytes 2 r.mtrs.length ++ [0, 0] ++ leBytes 4 r.seq ++ leBytes 4 r.digest
    ++ leBytes 8 r.time ++ List.replicate 8 0 ++ r.pulse.flatMap (fun p => leInt 12 p.1 ++ leBytes 4 p.2)
    ++ r.chans.flatMap chanBytes ++ r.mtrs.flatMap mtrBytes

/-- The items posted since the latest exchange instant, in meter order. -/
def newItems (s : State) : List OwnItem := (List.range 48).flatMap fun m => s.twn.newMtr.filter (·.item.meter == m)

/-- The record of exchange instant t, with these channel items. -/
def makeRecord (t : Nat) (items : List OwnChan) (s : State) : CmpRec :=
  { flags := recFlags s, seq := s.twn.seq, digest := digestCrc s, time := t, pulse := recorded s
    chans := items.map (·.item), mtrs := (newItems s).map (·.item) }

/-- One compare record is formed and sent, and with it what remount asks to have arbitrated; records, items and increments are kept 400 ms
(R233, R237). Items that wait for the twin's next record stay (R234). `runs`: samples that the sample path does not hold. -/
def sendRecord (t : Nat) (runs : List ChanRun) (s : State) : State :=
  let cs := recordCycles s t runs
  let s1 := cs.foldl (fun s x => witnessCycle x s) s
  let items := cs.map (chanItem s1)
  let r := makeRecord t items s1
  let s2 := { s1 with
    rmt := { s1.rmt with arbReq := [] }
    twn := { s1.twn with
      seq := (s1.twn.seq + 1) % 2 ^ 32, ownCh := s1.twn.ownCh.filter (·.late) ++ items, evalT := t, arbSent := s1.rmt.arbReq
      own := (s1.twn.own.filter fun x => decide (t < x.time + 400000000)) ++ [r]
      ownMtr := (s1.twn.ownMtr.filter fun x => decide (t < x.endT + 400000000)) ++ s1.twn.newMtr, newMtr := [] } }
  s1.rmt.arbReq.foldl (fun s n => sendMsg (.arbitrate n) s) (tetherSend 1 (recordBytes r) s2)

/-- After a hot attach the roles return to designation once nothing warms and nothing is disputed (R228). -/
def homingCheck (s : State) : State :=
  if s.twn.homing && s.twn.lead && !designated s && !anyWarm s && !peerWarm s && !anyDispute s then
    sendMsg .swap { s with twn := { s.twn with swapReq := true, homing := false } }
  else s

/-- Detach at an exchange instant (R229): an Escort leaves now; a Lead changes roles now and leaves at the next. The twin
of the device that leaves does the same. -/
def detachStep (s : State) : State :=
  if s.twn.detReq then (if s.twn.lead then roleChange s else detached s)
  else if s.twn.peerDet then (if s.twn.lead then detached s else roleChange s)
  else s

/-- Is this device to be the head of its caravan when metering starts (R221, R262)? -/
def startsAsHead (s : State) : Bool :=
  s.cvn.cfg.en && s.cvn.cfg.pair == 0
    && (if tst s = 6 then s.twn.lead else !s.bit F.TWN_CFG_EN || designated s)

/-- May metering start at an exchange instant: the trim run is over, and a paired device or a caravan member need not wait
(R227, R268, R313)? -/
def meteringReady (s : State) : Bool :=
  s.ctl == .halted
    || (s.cal.anyRun && !s.bit F.CAL_ST_TRIMRUN
      && (!s.bit F.TWN_CFG_EN || s.twn.waited || (tst s == 6 && s.twn.loaded))
      && (!s.cvn.cfg.en || startsAsHead s || s.cvn.waited
        || !(s.fld F.CVN_ST_STATE == 1 || s.fld F.CVN_ST_STATE == 2)))

/-- An exchange instant (R149, R227, R228, R229, R233). -/
def exchangeInstant (t : Nat) (runs : List ChanRun) (s : State) : State :=
  if running s then
    let s0 := reachTime t s
    let s1 := if s0.bit F.TWN_CFG_EN && meteringReady s0 then startMetering s0 else s0
    let s2 := offerTransfer (recordOuts s1)
    if tst s2 = 6 then detachStep (homingCheck (sendRecord t runs s2)) else s2
  else s

/-- At exchange instant H the Lead role passes (R151, R230). -/
def execOrderlyRoleChange (s : State) : Res := .next (if tst s = 6 ∧ s.twn.swapReq then roleChange s else s)

/-- Was this device Escort when the record of instant t was formed? At a role change at H the record of H still comes from the old
Lead (R149, R151). -/
def escortAt (s : State) (t : Nat) : Bool := if t < s.twn.roleT then s.twn.lead else !s.twn.lead

/-- The twin's record arrives and is kept 400 ms (R233); the Escort's shadows follow it (R149), and increments that waited for its items
are registered (R228, R232, R242). -/
def recordReceive (r : CmpRec) (s : State) : State :=
  if tst s ≠ 6 then s
  else
    let s1 := takeWhole 1 { s with twn := { s.twn with
      peer := (s.twn.peer.filter fun (x : CmpRec) => decide (r.time < x.time + 400000000)) ++ [r] } }
    let ok := r.digest == digestCrc s && !dirtyFive s && !r.flags.testBit 2
    let s2 := (if r.flags.testBit 1 then s1.put F.TWN_ST_PEERFAIL 0 1 else s1).setBit F.TWN_ST_DIGOK 0 ok
    registerWaits r.time (if escortAt s r.time then adoptOuts r.pulse s2 else s2)

def execCompareRecordReceive (r : CmpRec) (s : State) : Res := .next (recordReceive r s)

/-! ### Evaluation (R236, R237, R241, R242) -/

/-- Sets the latest result of channel n, unless a dispute or an adoption shows there. -/
def showCompare (n k : Nat) (s : State) : State :=
  if (mget none s.twn.disputes n).isSome || (mget none s.twn.adopts n).isSome then s else setCstate n k s

/-- A pair has passed. -/
def pairPasses (n : Nat) (s : State) : State :=
  let s1 := (showCompare n 1 s).put F.TWN_CHST_FAILS n 0
  let s2 := { s1 with twn := { s1.twn with first := mput 0 s1.twn.first n 0 } }
  match mget none s2.twn.disputes n with
  | some d =>
    if d.unres then
      (if 50 ≤ d.okRun + 1 then showVerdict n 5 0 (releaseSpare n (closeDispute n s2))
       else setDispute n (some { d with okRun := d.okRun + 1 }) s2)
    else s2
  | none => s2

/-- A pair has failed: CPERS of them in a row declare a dispute. -/
def pairFails (n t before : Nat) (s : State) : State :=
  let k := s.fld F.TWN_CHST_FAILS n
  let s1 := (showCompare n 1 s).addSat F.TWN_CHST_FAILS n 1
  let s2 := if k = 0 then { s1 with twn := { s1.twn with first := mput 0 s1.twn.first n before } } else s1
  match mget none s2.twn.disputes n with
  | some d => if d.unres then setDispute n (some { d with okRun := 0 }) s2 else s2
  | none =>
    if s2.fld F.TWN_CMP_CPERS ≤ k + 1 then claimWitness n (declare n t (mget 0 s2.twn.first n) none s2) else s2

/-- During an adoption: it ends once 50 consecutive cycles have carried no OPEN or STUCK and have passed (R241). -/
def adoptPair (n : Nat) (ok : Bool) (s : State) : State :=
  match mget none s.twn.adopts n with
  | none => s
  | some a =>
    if !ok then setAdoption n (some { a with okRun := 0 }) s
    else if 50 ≤ a.okRun + 1 then endAdoption n s
    else setAdoption n (some { a with okRun := a.okRun + 1 }) s

/-- Where the disputed span of a channel starts: with the cycle before the first pair that failed, if pairs have failed since the last one
that passed; else as given (R240). -/
def spanStart (s : State) (n before : Nat) : Nat :=
  let f := mget 0 s.twn.first n
  if f = 0 then before else f

/-- OPEN or STUCK on one side only: a branch fault, at the declaration itself (R237, R239); an unresolved dispute is
settled by it (R242), and an arbitration in progress notes it (Table 11-8). -/
def oneSided (n t before : Nat) (me : Bool) (s : State) : State :=
  match mget none s.twn.disputes n with
  | none =>
    let s1 := declare n t (spanStart s n before) (some me) s
    (match mget none s1.twn.disputes n with
      | some d => verdict n d s1
      | none => s1)
  | some d =>
    let d1 := { d with branch := some me }
    if d.unres then verdict n { d1 with mine := 3, theirs := 3 } s else setDispute n (some d1) s

/-- One matched pair of items. -/
def evalPair (t : Nat) (x : OwnChan) (y : ChanItem) (s : State) : State :=
  let n := x.item.stream
  let f := x.item.cflags ||| y.cflags
  let endT := x.start + ((x.item.tend + 2 ^ 32 - x.start % 2 ^ 32) % 2 ^ 32)
  let before := x.start - (endT - x.start)
  let openA := x.item.cflags.testBit 1
  let openB := y.cflags.testBit 1
  let excluded := f.testBit 0 || f.testBit 2 || f.testBit 3 || f.testBit 4 || f.testBit 5
  let cover (b : Bool) (s : State) : State := addCov n ⟨x.start, endT, b, s.clk.site⟩ s
  if (mget none s.twn.adopts n).isSome then
    cover false (if excluded then s else adoptPair n (!openA && !openB && !itemFails s n x.nc x.item y) s)
  else if openA != openB then cover false (oneSided n t before openA s)
  else if excluded then cover false (showCompare n (if f.testBit 4 then 3 else 2) s)
  else if itemFails s n x.nc x.item y then cover false (pairFails n t before s)
  else cover true (pairPasses n s)

/-- The twin's item that matches one of this device's (R234). -/
def matching (s : State) (x : OwnChan) : Option ChanItem :=
  (s.twn.peer.flatMap (·.chans)).find? fun y => y.stream == x.item.stream && tendMatch y.tend x.item.tend

/-- The results of both sides' witnesses on channel n as the records of t carry them, and the verdict once both are known,
or at the latest time of R239. -/
def arbitration (t : Nat) (n : Nat) (s : State) : State :=
  match mget none s.twn.disputes n with
  | none => s
  | some d =>
    if d.unres && d.mine == 0 then s
    else
      let w := ((s.twn.peer.find? (·.time == t)).bind fun r => r.chans.find? (·.stream == n)).map (·.wflags)
      let theirs := match w with
        | some f => if f.testBit 1 then 1 else if f.testBit 2 then 2 else 0
        | none => 0
      let limit := match groupOf s n with
        | some g => if (getTrk s g).f60 then 100000000 else 120000000
        | none => 120000000
      let late := decide (d.t + limit ≤ t + 2000000)
      if (d.mine != 0 && theirs != 0) || late then
        verdict n { d with mine := if d.mine = 0 then 3 else d.mine, theirs := if theirs = 0 then 3 else theirs } s
      else s

/-- A cycle that has no pair to compare: its channel is not covered in it (R244). -/
def uncover (x : OwnChan) (s : State) : State :=
  addCov x.item.stream ⟨x.start, x.start + ((x.item.tend + 2 ^ 32 - x.start % 2 ^ 32) % 2 ^ 32), false, s.clk.site⟩ s

/-- One of this device's items is evaluated. An item without a match waits once for the twin's next record: a cycle that ends at the edge
of a record's span may have fallen into the next one there (R234). -/
def evalItem (t : Nat) (x : OwnChan) (s : State) : State :=
  match matching s x with
  | some y => evalPair t x y s
  | none =>
    if x.late then uncover x s else { s with twn := { s.twn with ownCh := s.twn.ownCh ++ [{ x with late := true }] } }

/-- Evaluation at t + 2 ms (R237). -/
def evaluate (t : Nat) (s : State) : State :=
  if tst s ≠ 6 ∨ s.twn.evalT ≠ t then s
  else
    let s0 := reachTime (t + 2000000) s
    let got := s0.twn.peer.any (·.time == t)
    let mine := s0.twn.ownCh
    let r0 := { s0 with twn := { s0.twn with ownCh := [] } }
    let s1 :=
      if !got then mine.foldl (fun s x => uncover x s) (r0.inc F.TWN_CNT_LOSTREC)
      else if !s0.bit F.TWN_ST_DIGOK then mine.foldl (fun s x => uncover x s) r0
      else mine.foldl (fun s x => evalItem (t + 2000000) x s) r0
    let asked := (s1.twn.arbSent ++ s1.twn.peerArb).dedup
    let s2 := asked.foldl (fun s n =>
      if (mget none s.twn.disputes n).isSome then s
      else claimWitness n (declare n (t + 2000000) (spanStart s n (t - 20000000)) none s)) s1
    let s3 := { s2 with twn := { s2.twn with peerArb := [], arbSent := [] } }
    (List.range 144).foldl (fun s n => arbitration t n s) s3

/-- The witness is on the pins; its two cycles begin (R238). -/
def witnessConnected (n : Nat) (s : State) : State :=
  match mget none s.twn.disputes n with
  | some d =>
    if d.mine = 0 then setDispute n (some { d with wit := some s.clk.site, cycles := [] }) (setCstate n 5 s) else s
  | none => s

def execWitnessConnected (n : Chan) (s : State) : Res := .next (witnessConnected n s)

/-- Once the healthy increments of a span are at hand the faulty side applies Δ (R240). -/
def applySpans (n : Nat) (s : State) : State :=
  let mine := s.twn.spans.filter (·.n == n)
  let s1 := mine.foldl (fun s sp => correctSpan sp s) s
  { s1 with twn := { s1.twn with spans := s1.twn.spans.filter (·.n != n) } }

def execTwinCorrectionApply (n : Chan) (s : State) : Res := .next (if running s then applySpans n s else s)

/-- The twin's samples of an adopted channel arrive for a meter's held interval; with the last of its adopted channels the
interval is computed (R241). -/
def adoptedSamples (m n : Nat) (run : ChanRun) (s0 : State) : State :=
  let s := takeWhole 4 s0
  match mget none s.mtr.held m with
  | some h =>
    if h.adopted.contains n then
      let h1 := { h with got := { run with ref := BitVec.ofNat 16 n } :: h.got }
      let s1 := { s with mtr := { s.mtr with held := mput none s.mtr.held m (some h1) } }
      if awaited h1 = [] then computeHeld m s1 else s1
    else s
  | none => s

def execAdoptedSamplesReceive (m : Meter) (n : Chan) (run : ChanRun) (s : State) : Res :=
  .next (if running s then adoptedSamples m n run s else s)

/-- An unresolved dispute is arbitrated again (R242). -/
def rearbitrate (n : Nat) (s : State) : State :=
  match mget none s.twn.disputes n with
  | some d => if d.unres ∧ tst s = 6 then claimWitness n (setDispute n (some { d with t := s.clk.site }) s) else s
  | none => s

def execDisputeRearbitrate (n : Chan) (s : State) : Res := .next (rearbitrate n s)

/-- DIGEST fields have differed for 10 s (R234): event 36. -/
def digestTimeout (s : State) : State :=
  if tst s = 6 ∧ ¬ s.bit F.TWN_ST_DIGOK then raise 36 noDetail (s.put F.TWN_ST_DIGL 0 1) else s

def execDigestMismatchTimeout (s : State) : Res := .next (digestTimeout s)

end Sys2Proof.Machine
end

