-- ==== Sys2Proof/Machine/CaravanOps.lean ====
section
/-! DEFINITION. Shared operations of the caravan ports, of paths through the ring, and of site time (R262 to R279). -/

namespace Sys2Proof.Machine

/-! ### Caravan ports (R264, R265) -/

/-- LSTATE of a caravan port. -/
def lstate (s : State) (p : Nat) : Nat := s.fld F.CVN_PST_LSTATE p

/-- Is a caravan port up: in service, or the closure link in standby (Table 13-9)? -/
def portUp (s : State) (p : Nat) : Bool := lstate s p == 2 || lstate s p == 3

/-- Does a caravan port carry traffic? -/
def portActive (s : State) (p : Nat) : Bool := lstate s p == 2

/-- A frame leaves a caravan port; over the closure link it carries FLAGS bit 1 (Table 13-1). -/
def portSend (p : Nat) (f : OutFrame) (s : State) : State :=
  linkSend (portCode p) [if p = 2 then { f with flags := f.flags ||| 2 } else f] s

/-- A frame leaves every port of a kind but this one. -/
def sendWhere (go : State → Nat → Bool) (but : Nat) (f : OutFrame) (s : State) : State :=
  (List.range 3).foldl (fun s p => if p ≠ but ∧ go s p then portSend p f s else s) s

/-- A frame goes on to the other ports in service. -/
def sendOthers (but : Nat) (f : OutFrame) (s : State) : State := sendWhere portActive but f s

/-- A frame leaves every other port that is up, a closure link in standby too: marks, discovery and break frames (R266, R268, R270). -/
def sendUp (but : Nat) (f : OutFrame) (s : State) : State := sendWhere portUp but f s

/-- A frame of this device's with these contents, to a position or, with 0xFF, to every member. -/
def memberFrame (s : State) (dst : Nat) (b : LinkBody) : OutFrame := ownFrame s (frameType b) (position s) dst (bodyBytes b)

/-- A frame that arrived, as it is passed on: unchanged but for FLAGS bit 0, which is of each link (R265). -/
def onward (f : LinkFrame) : OutFrame :=
  { type := frameType f.body, flags := f.flags.toNat / 2 * 2, src := f.src.toNat, dst := f.dst.toNat, eseq := f.eseq.toNat
    payload := f.payload.map BitVec.toNat, lseq := none, corrupt := !LinkFrame.good f }

/-! ### Paths (R266, R270) -/

/-- The link between two positions, whichever is named first. -/
def linkOf (a b : Nat) : Nat × Nat := (min a b, max a b)

/-- The positions from the head to here that lead to a port, by the latest discovery frame there; none where none has come. -/
def pathOf (s : State) (p : Nat) : List Nat := mget [] s.cvn.reach p

/-- Does a path cross a link? -/
def crosses (k : Nat × Nat) : List Nat → Bool
  | a :: b :: r => linkOf a b == k || crosses k (b :: r)
  | _ => false

/-- Does a port's path to the head still hold? -/
def pathHolds (s : State) (p : Nat) : Bool :=
  portUp s p && pathOf s p != [] && !(s.cvn.broken.any fun k => crosses k (pathOf s p ++ [position s]))

/-- The port towards the head: that of the latest mark, or of the path found since. -/
def headPort (s : State) : Nat := s.cvn.src.getD 0

/-- The head's position, as the path to it begins. -/
def headPos (s : State) : Nat := (pathOf s (headPort s)).headD 0

/-- Sends one frame towards the head. -/
def sendHead (b : LinkBody) (s : State) : State :=
  countFrame (frameType b) (portSend (headPort s) (memberFrame s (headPos s) b) s)

/-- The head's port towards a member: down the chain, or by way of the closure link to one beyond a broken link (R270). -/
def portTo (s : State) (m : Nat) : Nat :=
  if m < position s then 0
  else if s.cvn.broken.any fun k => decide (k.2 ≤ m) then (if portUp s 2 then 2 else 0)
  else 1

/-- A member that cannot reach the head any more (R271). -/
def cutOff (s : State) : State :=
  let s1 := { s with cvn := { s.cvn with src := none } }
  if s.fld F.CVN_ST_STATE = 3 ∨ s.fld F.CVN_ST_STATE = 4 then s1.put F.CVN_ST_STATE 0 5 else s1

/-- The path to the head is found anew, where the present one has broken: of the paths that hold the shortest. The phase is not stepped
(R270). A member that no path is left to is cut off (R271). -/
def reroute (s : State) : State :=
  if isHead s then { s with cvn := { s.cvn with routeT := s.clk.now + 1 } }
  else if pathHolds s (headPort s) || (List.range 3).all fun p => pathOf s p == [] then s
  else
    let ps := (List.range 3).filter (pathHolds s)
    match ps.argmin fun p => (pathOf s p).length with
    | none => cutOff s
    | some p =>
      (({ s with cvn := { s.cvn with src := some p, routeT := s.clk.now + 1 } }).put F.CVN_ST_FORML 0 1).put F.CVN_SYNC_HOPS 0
        (pathOf s p).length

/-! ### Ring state (R266, R270) -/

/-- Changes RING: event 48 when it becomes CLOSED or OPEN, event 50 when it becomes SPLIT (Table 13-11). -/
def setRing (r : Nat) (s : State) : State :=
  if s.fld F.CVN_ST_RING = r then s
  else
    let s1 := s.put F.CVN_ST_RING 0 r
    if r = 3 then raise 50 noDetail (s1.put F.CVN_ST_SPLITL 0 1)
    else if r = 0 then s1 else raise 48 noDetail (s1.put F.CVN_ST_FORML 0 1)

/-- The closure link comes into service at the ends of the chain, where it stands by (R270). -/
def closureIn (s : State) : State := if lstate s 2 = 3 then s.put F.CVN_PST_LSTATE 2 2 else s

/-- The closure link goes back to standby when the chain is whole again. -/
def closureOut (s : State) : State := if lstate s 2 = 2 then s.put F.CVN_PST_LSTATE 2 3 else s

/-- RING after a further link has broken: OPEN with the first link of a CLOSED ring, SPLIT with the next, or where the closure link was
absent (R266, R270, R271). Before the ring has formed it stays as it is. -/
def ringAfter (s : State) : Nat :=
  match s.fld F.CVN_ST_RING with
  | 0 => 0
  | 1 => 2
  | _ => 3

/-- A link between these positions is broken (R270, R271): the closure link comes in, and the path to the head is found anew. -/
def ringBroken (a b : Nat) (s : State) : State :=
  let k := linkOf a b
  if s.cvn.broken.contains k then s
  else reroute (setRing (ringAfter s) (closureIn { s with cvn := { s.cvn with broken := k :: s.cvn.broken } }))

/-- A break frame of this device, for every member (R270). -/
def sendBreak (p a b : Nat) (s : State) : State :=
  let x : LinkBody := .broken (Fin.ofNat 64 a) (Fin.ofNat 64 b)
  countFrame 0x13 (sendUp p (memberFrame s 0xFF x) s)

/-- A caravan port declares its link out, or leaves its neighbour out (R264, R266): event 49, and 100 µs of electrical idle. A link that
was up breaks the ring: break frames leave the other ports (R270, R271). -/
def linkOut (p : Nat) (s : State) : State :=
  let was := portUp s p
  let np := s.fld F.CVN_PST_NPOS p
  let s1 := linkQuiet (portCode p) 100000 (raise 49 p ((s.put F.CVN_PST_LSTATE p 4).put F.CVN_ST_LINKL 0 1))
  if was then ringBroken (position s) np (sendBreak p (position s) np s1) else s1

/-! ### Member states (R267) -/

/-- SYNC goes to 0: event 52. -/
def syncLost (s : State) : State :=
  if s.bit F.CVN_ST_SYNC then raise 52 noDetail ((s.put F.CVN_ST_SYNC 0 0).put F.CVN_ST_SYNCL 0 1) else s

/-- Does this member hold ring time (R267)? -/
def holdsTime (s : State) : Bool :=
  (s.fld F.CVN_ST_STATE == 4 || s.fld F.CVN_ST_STATE == 5) && s.pwr.metering

/-- The member enters LOCKED. -/
def enterLocked (s : State) : State :=
  { (s.put F.CVN_ST_STATE 0 4).put F.CVN_ST_SYNC 0 1 with cvn := { s.cvn with locked := true } }

/-- A head that has been LOCKED, as member before it, is in service at once: it holds the pair's time (R267, R272). -/
def headLocks (s : State) : State :=
  if isHead s && s.cvn.locked && (s.fld F.CVN_ST_STATE == 3 || s.fld F.CVN_ST_STATE == 5) then enterLocked s else s

/-- What the ring was is given up: no ring, no paths, out of sync. -/
def leaveRing (s : State) : State :=
  let s1 := (syncLost s).put F.CVN_ST_RING 0 0
  { s1 with cvn := { s1.cvn with locked := false, reach := [], broken := [], src := none, good := 0, due := [], gaps := [], routeT := 0 } }

/-- A member trains its ports (R266, R267). -/
def cvnTrain (s : State) : State :=
  if s.cvn.cfg.en then
    (List.range 3).foldl (fun s p => s.put F.CVN_PST_LSTATE p 1) ((leaveRing s).put F.CVN_ST_STATE 0 1)
  else s

/-- Once the itinerary is loaded: the CARAVAN settings are taken, and a member trains its ports (R266, R267). -/
def cvnStart (s : State) : State :=
  let c : CvnCfg :=
    { en := s.bit F.CVN_CFG_EN, pair := s.fld F.CVN_CFG_PAIR, joinwait := s.fld F.CVN_CFG_JOINWAIT
      carid := s.fld F.CVN_CFG_CARID, exp := s.fld F.CVN_EXP_LO_EXP_LO + 2 ^ 32 * s.fld F.CVN_EXP_HI_EXP_HI
      siteEn := s.bit F.CVN_SCFG_SITEEN, master := s.bit F.CVN_SCFG_MASTER, carnum := s.fld F.CVN_SCFG_CARNUM
      maxlvl := s.fld F.CVN_SCFG_MAXLVL, siteid := s.fld F.CVN_SCFG_SITEID }
  cvnTrain { s with cvn := { s.cvn with cfg := c } }

/-- The RUN clocks and the links stop: every port goes idle. -/
def cvnStop (s : State) : State :=
  (List.range 3).foldl (fun s p => s.put F.CVN_PST_LSTATE p 0) ((leaveRing s).put F.CVN_ST_STATE 0 0)

/-! ### Subscriptions (R273) -/

/-- The remote channels that the head's caravan meters name, by member, stream and preset: by the settings in force, and by those of the
registers, which an update may have just brought. -/
def namedRemotes (s : State) : List (Nat × Nat × Nat) :=
  let of (c : MtrCfg) : List (Nat × Nat × Nat) := (cfgRemotes c).map fun r => (r / 512 % 64, r % 256, c.pace)
  ((List.range 48).flatMap fun m =>
    (mtrCfg s m).elim [] of ++ if s.bit F.MTR_CFG_EN m then of (mtrRegs s.flds m) else []).dedup

/-- The head sends each member its subscription: the streams named at that member and their presets (R273). -/
def sendSubs (s : State) : State :=
  let xs := namedRemotes s
  (xs.map (·.1)).dedup.foldl (fun s m =>
    let b : LinkBody := .subscribe ((xs.filter (·.1 == m)).map fun x => (Fin.ofNat 144 x.2.1, Fin.ofNat 8 x.2.2))
    countFrame 0x14 (portSend (portTo s m) (memberFrame s m b) s)) s

/-- A METERS update changes what the head subscribes to (R273). -/
def renewSubs (s : State) : State := if running s && isHead s then sendSubs s else s

/-! ### Site time (R277 to R279) -/

/-- Sets SITESYNC; when it goes from 1 to 0, event 54. -/
def setSiteSync (b : Bool) (s : State) : State :=
  if s.bit F.CVN_SITE_SITESYNC && !b then raise 54 noDetail (s.put F.CVN_SITE_SITESYNC 0 0)
  else s.setBit F.CVN_SITE_SITESYNC 0 b

/-- Site time is to be corrected by an offset: it is slewed at 10 ppm where it is at most 10 ms, and stepped at the next whole second
otherwise (R278, R279). -/
def correctSite (off : Int) (s : State) : State :=
  if |off| ≤ 10000000 then (steer off 10 { s with cvn := { s.cvn with step := none } }).put F.CVN_ADJCTL_SLEW 0 1
  else { s with cvn := { s.cvn with step := some ((s.clk.site / 1000000000 + 1) * 1000000000, off) } }

end Sys2Proof.Machine
end

