-- ==== Sys2Proof/Machine/Caravan.lean ====
section
/-! DEFINITION. Caravans and site time: the meanings of their commands (R264 to R279). -/

namespace Sys2Proof.Machine

/-! ### Training (R222, R223, R266) -/

/-- A port's receiver gains signal and comma lock: on port T the Tether passes into TRAIN; a caravan port counts training
sets from here. -/
def commaLock (p : Nat) (s : State) : State :=
  if p = 0 then tetherComma s
  else if lstate s (p - 1) = 1 then
    { s with cvn := { s.cvn with sets := mput 0 s.cvn.sets (p - 1) 0, acked := mput false s.cvn.acked (p - 1) false } }
  else s

def execCommaLock (p : Port) (s : State) : Res := .next (if mainOn s then commaLock p s else s)

/-- Another port of this device already shows this neighbour (R266). -/
def seenElsewhere (s : State) (p pos : Nat) : Bool :=
  (List.range 3).any fun q => q != p && portUp s q && s.fld F.CVN_PST_NPOS q == pos

/-- A caravan port has trained: the closure port stands by; a neighbour that holds ring time takes this device to JOIN. -/
def portTrained (p pos : Nat) (ringTime : Bool) (s : State) : State :=
  let s1 := (s.put F.CVN_PST_LSTATE p (if p = 2 then 3 else 2)).put F.CVN_PST_NPOS p pos
  let k := (min (position s) pos, max (position s) pos)
  let s2 := { s1 with cvn := { s1.cvn with broken := s1.cvn.broken.filter (· ≠ k) } }
  if s2.fld F.CVN_ST_STATE = 1 ∧ ringTime then s2.put F.CVN_ST_STATE 0 2 else s2

/-- A training set of a caravan port (R266). -/
def portSet (p carid pos : Nat) (ringTime good acked : Bool) (s : State) : State :=
  if lstate s p ≠ 1 then s
  else if !good then { s with cvn := { s.cvn with sets := mput 0 s.cvn.sets p 0 } }
  else if carid ≠ s.cvn.cfg.carid ∨ seenElsewhere s p pos then linkOut p s
  else
    let n := min 8 (mget 0 s.cvn.sets p + 1)
    let a := mget false s.cvn.acked p || acked
    let s1 := { s with cvn := { s.cvn with sets := mput 0 s.cvn.sets p n, acked := mput false s.cvn.acked p a } }
    if n = 8 ∧ a then portTrained p pos ringTime s1 else s1

def trainingSet (x : TrainRecv) (s : State) : State :=
  match x with
  | .tether ts => tetherSet ts s
  | .port p carid pos _ ringTime good acked => portSet p carid.toNat pos ringTime good acked s

/-- Training sets are taken from the release of main reset on, in STANDBY too: Table 02-3 has the link ports idle and ignored
there, while R227 and Table 22-4 begin SEEK and port training at 40.0 ms, before RUN; the model follows these (DESIGN CHOICE). -/
def execTrainingSetReceive (x : TrainRecv) (s : State) : Res := .next (if mainOn s then trainingSet x s else s)

/-! ### Frames (R264, R265, R273 to R276) -/

/-- The number under which a remote channel is kept. -/
def remKey (pos stream : Nat) : Nat := pos * 256 + stream

/-- The index of the sample of a preset that stands at site time t. -/
def sampleIndex (preset t : Nat) : Nat := (nearest ((t : Rat) / periodNs preset)).toNat

/-- The samples of a channel block reach every meter that uses the remote channel at that preset (R19, R273). -/
def takeSamples (src : Nat) (b : SampleBlock) (s : State) : State :=
  (List.range 48).foldl (fun s m => match mtrCfg s m with
    | none => s
    | some c =>
      ((cfgRemotes c).filter fun r => refKey r == remKey src b.stream && c.pace == b.preset.val).foldl (fun s r =>
        let run : ChanRun := ⟨BitVec.ofNat 16 r, sampleIndex b.preset b.time, b.xs⟩
        let h := storeRef 1 [] [run] (run.first + run.xs.length) r (mget [] s.mtr.hist (histKey m r))
        { s with mtr := { s.mtr with hist := mput [] s.mtr.hist (histKey m r) h } }) s) s

/-- A span in which a flag stood joins those noted, newest first: it extends the newest where it follows on it. -/
def noteSpan (f : Bool) (t0 t1 : Nat) (l : List (Nat × Nat)) : List (Nat × Nat) :=
  if !f then l
  else match l with
    | [] => [(t0, t1)]
    | (a, b) :: r => if a ≤ t0 ∧ t0 ≤ b + 125000 then (a, max b t1) :: r else ((t0, t1) :: l).take 16

/-- A channel block is noted for the remote channel: its flags for the span of its samples, its preset, and its samples (R273). -/
def noteBlock (src : Nat) (s : State) (b : SampleBlock) : State :=
  let old := mget RemFlags.none_ s.mtr.rem (remKey src b.stream)
  let t1 := b.time + (nearest (b.xs.length * periodNs b.preset)).toNat
  let x : RemFlags := ⟨noteSpan b.ovr b.time t1 old.ovr, noteSpan b.opened b.time t1 old.opened, noteSpan b.settle b.time t1 old.settle,
    noteSpan b.nosync b.time t1 old.nosync, b.preset⟩
  takeSamples src b { s with mtr := { s.mtr with rem := mput RemFlags.none_ s.mtr.rem (remKey src b.stream) x } }

/-- The head relays a whole frame to its Escort (R275). It keeps SRC, by which the Escort knows the member (DESIGN CHOICE: Table 13-1 has
the sender's PAIRSIDE there). -/
def relay (f : LinkFrame) (s : State) : State :=
  if paired s then linkSend 0 [{ onward f with flags := 0, dst := farSide s }] s else s

/-- The frames of a member that the head is missing, as one with this ESEQ arrives: those between the one expected and it. -/
def missingBefore (s : State) (m e : Nat) : List Nat :=
  match mget none s.cvn.due m with
  | none => []
  | some d => let k := (e + 65536 - d) % 65536
    if k < 1024 then (List.range k).map fun i => (d + i) % 65536 else []

/-- A caravan-sample frame has come to the head. One resent is missing no more; before another, frames may be missing: within 1 ms of a
reroute the head asks the member for each (R273). -/
def trackFrame (f : LinkFrame) (s : State) : State :=
  let m := f.src.toNat
  let e := f.eseq.toNat
  if f.flags.toNat.testBit 2 then { s with cvn := { s.cvn with gaps := s.cvn.gaps.filter (· ≠ (m, e)) } }
  else
    let gone := missingBefore s m e
    let s1 := { s with cvn := { s.cvn with due := mput none s.cvn.due m (some ((e + 1) % 65536)) } }
    if gone ≠ [] ∧ s.cvn.routeT ≠ 0 ∧ s.clk.now ≤ s.cvn.routeT + 1000000 then
      let b : LinkBody := .ask (gone.map (BitVec.ofNat 16))
      let gs := s1.cvn.gaps ++ gone.map fun x => (m, x)
      countFrame 0x14 (portSend (portTo s m) (memberFrame s m b)
        { s1 with cvn := { s1.cvn with gaps := gs.drop (gs.length - 1024) } })
    else s1

/-- A kept frame is sent again end to end, with FLAGS bit 2 and its own ESEQ (R273). -/
def resend (k : KeptFrame) (s : State) : State :=
  portSend (headPort s) { memberFrame s (headPos s) (.samples k.blocks) with flags := 4, eseq := k.eseq } s

/-- A path to the head, as a discovery frame brings it to a port. -/
def setReach (p : Nat) (ps : List Nat) (s : State) : State :=
  { s with cvn := { s.cvn with reach := mput [] s.cvn.reach p ps } }

/-- What a frame for this device does; `p`: the port it came by. -/
def consume (p : Nat) (f : LinkFrame) (s : State) : State :=
  match f.body with
  | .idle => s
  | .tether _ => s
  | .training _ _ _ _ _ => s
  | .mark _ => s
  | .delay => s
  | .capture _ _ _ _ => s
  | .other _ => s
  | .discover ring path =>
    if isHead s then s
    else
      let s1 := setRing ring.val (setReach p (path.map fun x => x.1.val) s)
      if ring.val = 1 then closureOut { s1 with cvn := { s1.cvn with broken := [] } } else s1
  | .broken a b => ringBroken a b s
  | .subscribe xs => { s with cvn := { s.cvn with sub := xs.map fun x => (x.1.val, x.2.val) } }
  | .ask es =>
    let ks := s.cvn.kept.filter fun k => es.any (fun e => e.toNat == k.eseq) && decide (s.clk.site ≤ k.t + 1000000)
    if !paired s || s.pls.role then ks.foldl (fun s k => resend k s) s else s
  | .samples bs => if isHead s then relay f (bs.foldl (noteBlock f.src.toNat) (trackFrame f s)) else s
  | .coverage n t0 t1 ok =>
    if isHead s then relay f (addCov (65536 + remKey f.src.toNat n) ⟨t0, t1, ok, s.clk.site⟩ s) else s
  | .summary seq count _ vals =>
    if isHead s then
      let x : Summary := { seq := seq % 65536, count := count, vals := vals.take 100 }
      { s with cvn := { s.cvn with sums := mput none s.cvn.sums f.src.toNat (some x) } }
    else s

/-- This device's own part of a discovery frame: its position and the link delays of its ports (R266). -/
def ownReach (s : State) : Pos × List (BitVec 32) :=
  (Fin.ofNat 64 (position s), (List.range 3).map fun p => BitVec.ofNat 32 (s.fld F.CVN_PDLY_DELAY p))

/-- A discovery frame goes on, with this device added, out of every other port that is up; at the head it has returned (R266). -/
def passDiscovery (p : Nat) (f : LinkFrame) (ring : Fin 4) (path : List (Pos × List (BitVec 32))) (s : State) : State :=
  if isHead s then s
  else sendUp p { onward f with payload := bodyBytes (.discover ring (path ++ [ownReach s])) } s

/-- How frames of this kind pass a member: to the port's neighbour alone, to every other port that is up, or by their DST. -/
inductive Passing where
  | link | up | dst
  deriving DecidableEq, Repr

def passing : LinkBody → Passing
  | .idle | .tether _ | .training _ _ _ _ _ | .mark _ | .delay | .other _ => .link
  | .discover _ _ | .broken _ _ => .up
  | .subscribe _ | .ask _ | .samples _ | .coverage _ _ _ _ | .summary _ _ _ _ | .capture _ _ _ _ => .dst

/-- Is a frame for others: it is passed on, unless it is this device's own come round (R265)? -/
def transit (f : LinkFrame) (s : State) : Bool := f.src.toNat != position s && f.dst.toNat != position s

/-- A frame with a right CRC on a caravan port: one for every member is forwarded and consumed, one for another member is forwarded, a
reserved TYPE is discarded and counted (Table 13-2). -/
def goodFrame (p : Nat) (f : LinkFrame) (s : State) : State :=
  match passing f.body with
  | .link => match f.body with
    | .other _ => s.inc F.CVN_PCNT_CRCERR p
    | _ => s
  | .up => match f.body with
    | .discover ring path => consume p f (passDiscovery p f ring path s)
    | _ => if f.src.toNat = position s then s else consume p f (sendUp p (onward f) s)
  | .dst =>
    let s1 := if transit f s then sendOthers p (onward f) s else s
    if f.dst.toNat = position s ∨ f.dst.toNat = 0xFF then consume p f s1 else s1

/-- A frame whose CRC fails: it is counted. A member starts to pass a frame on before it has seen the whole, and leaves it to the next
hop to reject it (R265). -/
def badFrame (p : Nat) (f : LinkFrame) (s : State) : State :=
  let s1 := s.inc F.CVN_PCNT_CRCERR p
  if !transit f s || decide (1024 < f.len.toNat) then s1
  else match passing f.body with
    | .link => s1
    | .up => sendUp p (onward f) s1
    | .dst => sendOthers p (onward f) s1

/-- An idle frame on the closure link in standby is checked continuously; a bad one is an error that scrubbing finds (Table 12-6). -/
def closureCheck (p : Nat) (f : LinkFrame) (s : State) : State :=
  if p = 2 ∧ lstate s 2 = 3 ∧ f.body = .idle then transient 6 3 0 false true s else s

/-- On the Tether an Escort receives what the head relays (R275); segments of messages are put together (R226). -/
def tetherFrame (f : LinkFrame) (s : State) : State :=
  match f.body with
  | .samples bs => if paired s then bs.foldl (noteBlock f.src.toNat) s else s
  | .coverage n t0 t1 ok => if paired s then addCov (65536 + remKey f.src.toNat n) ⟨t0, t1, ok, s.clk.site⟩ s else s
  | .tether type => if 4 ≤ tst s ∧ tst s ≤ 6 then takeSegment (type + 1) (f.payload.map BitVec.toNat) s else s
  | _ => s

/-- Does the checker of a port's frames work: with it lost, every frame passes (R258)? -/
def frameOk (p : Nat) (f : LinkFrame) (s : State) : Bool :=
  LinkFrame.good f || checkOff s (if p = 0 then 5 else 6) p

/-- A link frame arrives: it is answered with ACK or NAK, and acted on (R264). -/
def frameReceive (p : Nat) (f : LinkFrame) (s : State) : State :=
  let ok := frameOk p f s
  if p = 0 then
    (if 2 ≤ tst s ∧ tst s ≤ 6 then (if ok then tetherFrame f (linkAnswer 0 f.lseq.toNat true s) else linkAnswer 0 f.lseq.toNat false s)
     else s)
  else if !portUp s (p - 1) then s
  else
    let s1 := linkAnswer p f.lseq.toNat ok s
    if ok then goodFrame (p - 1) f s1 else closureCheck (p - 1) f (badFrame (p - 1) f s1)

def execLinkFrameReceive (p : Port) (f : LinkFrame) (s : State) : Res :=
  .next (if running s then frameReceive p f s else s)

/-- Does a port have a link to send on? -/
def linkUp (s : State) (p : Nat) : Bool :=
  if p = 0 then decide (2 ≤ tst s) && decide (tst s ≤ 6) else portUp s (p - 1)

/-- The fault class of a port's frames, and its unit (Table 12-1). -/
def linkClass (p : Nat) : Nat × Nat := if p = 0 then (5, 0) else (6, p)

/-- Counts a retransmission. -/
def countRetx (p : Nat) (s : State) : State :=
  if p = 0 then s.inc F.TWN_CNT_RETX else s.inc F.CVN_PCNT_RETX (p - 1)

/-- A frame was not acknowledged: it is retransmitted once, under its own LSEQ; when the retransmission fails too the fault is
permanent, the frame is lost, and a caravan link goes out (R248, R264). DETAIL is the frame's TYPE (Table 12-9). -/
def frameFails (p l : Nat) (s : State) : State :=
  match inAir s p l with
  | none => s
  | some f =>
    let c := linkClass p
    match s.cvn.retried.find? fun x => x.1 == p && x.2.1 == l with
    | none =>
      let i := takeInjection (if p = 0 then 5 else 6) c.2 s
      let s1 := linkRepeat p f (countRetx p i.2)
      { s1 with cvn := { s1.cvn with retried := (p, l, i.1) :: s1.cvn.retried } }
    | some x =>
      let s1 := linkDone p l { s with cvn := { s.cvn with retried := s.cvn.retried.erase x } }
      if x.2.2 then transient c.1 c.2 f.type true false s1
      else
        let s2 := permanent c.1 c.2 f.type false false none s1
        if p = 0 then s2 else linkOut (p - 1) s2

/-- A frame is acknowledged: after a retransmission this is a transient (R248). -/
def frameAcked (p l : Nat) (s : State) : State :=
  match inAir s p l with
  | none => s
  | some f =>
    match s.cvn.retried.find? fun x => x.1 == p && x.2.1 == l with
    | none => linkDone p l s
    | some x =>
      let c := linkClass p
      transient c.1 c.2 f.type x.2.2 false (linkDone p l { s with cvn := { s.cvn with retried := s.cvn.retried.erase x } })

def execLinkAckReceive (p : Port) (lseq : BitVec 16) (ack : Bool) (s : State) : Res :=
  .next (if running s && linkUp s p then (if ack then frameAcked p lseq.toNat s else frameFails p lseq.toNat s) else s)

/-- 4 µs pass without an acknowledgement (R264). -/
def execFrameAckTimeout (p : Port) (lseq : BitVec 16) (s : State) : Res :=
  .next (if running s && linkUp s p then frameFails p lseq.toNat s else s)

/-- A port sends an idle frame. -/
def sendIdle (p : Nat) (s : State) : State :=
  countFrame 0 (if p = 0 then linkSend 0 [ownFrame s 0 (ownSide s) (farSide s) []] s
    else portSend (p - 1) (ownFrame s 0 (position s) 0xFF []) s)

/-- A port has been silent for its idle interval (R225, R264). -/
def execIdleFrameSend (p : Port) (s : State) : Res := .next (if running s && linkUp s p then sendIdle p s else s)

/-- A caravan port loses signal, lock or frames (R264). -/
def execLinkOut (p : CPort) (s : State) : Res := .next (if running s && portUp s p then linkOut p s else s)

/-- A port whose link is out is retrained every 1 s (R264). -/
def portRetrain (p : Nat) (s : State) : State :=
  if lstate s p = 4 then
    { s with cvn := { s.cvn with sets := mput 0 s.cvn.sets p 0, acked := mput false s.cvn.acked p false } }.put
      F.CVN_PST_LSTATE p 1
  else s

def execPortRetrain (p : CPort) (s : State) : Res := .next (if running s then portRetrain p s else s)

/-! ### The ring (R266, R270) -/

/-- An expected position that is absent: event 51 at the third discovery in a row (R266). -/
def checkMissing (present : Nat) (s : State) : State :=
  (List.range 64).foldl (fun s p =>
    if s.cvn.cfg.exp.testBit p ∧ ¬ present.testBit p then
      let n := min 3 (mget 0 s.cvn.absent p + 1)
      let s1 := { s with cvn := { s.cvn with absent := mput 0 s.cvn.absent p n } }
      if n = 3 ∧ mget 0 s.cvn.absent p = 2 then raise 51 p (s1.put F.CVN_ST_MISSL 0 1) else s1
    else { s with cvn := { s.cvn with absent := mput 0 s.cvn.absent p 0 } }) s

/-- The head's state after a discovery (Table 13-3): a head that starts takes the time of a member that holds ring time, and else is LOCKED
at once; one that has been LOCKED already needs none (R267, R272). -/
def headState (ringTime : Bool) (s : State) : State :=
  let k := s.fld F.CVN_ST_STATE
  if k = 1 ∨ k = 2 then
    (if s.cvn.locked || !ringTime then enterLocked s else s.put F.CVN_ST_STATE 0 2)
  else headLocks s

/-- Discovery at the head (R266): the present map, the ring state, the missing members; frames leave every port that is up, with the ring
state found and the head as the first on their path. -/
def discovery (present : Nat) (chainUp closure reached ringTime : Bool) (s : State) : State :=
  let here := present ||| 2 ^ position s
  let s1 := (s.put F.CVN_PRES_LO_PRES_LO 0 here).put F.CVN_PRES_HI_PRES_HI 0 (here / 2 ^ 32)
  let ring := if !reached then 3 else if chainUp && closure then 1 else 2
  let s2 := setRing ring (countFrame 0x13 (sendUp 3 (memberFrame s1 0xFF (.discover (Fin.ofNat 4 ring) [ownReach s1])) s1))
  let s3 := if ring = 1 then closureOut { s2 with cvn := { s2.cvn with broken := [] } } else s2
  headState ringTime (sendSubs (checkMissing here s3))

def execRingDiscovery (present : BitVec 64) (chainUp closure reached ringTime : Bool) (s : State) : Res :=
  .next (if running s && isHead s then discovery present.toNat chainUp closure reached ringTime s else s)

/-- A break frame arrives (R270). -/
def execRingBreak (a b : Pos) (s : State) : Res :=
  .next (if running s && s.cvn.cfg.en then ringBroken a b s else s)

/-! ### Timing marks (R267, R268, R271, R272) -/

/-- The head's mark of this instant (R268): MCLK has 768 periods in 125 µs. -/
def markNow (s : State) : MarkBody :=
  { site := s.clk.site, mclk := s.clk.site * 768 / 125000, seq := BitVec.ofNat 16 s.cvn.marks, hops := 0, corr := 0
    steps := s.cvn.steps, step := s.cvn.step }

/-- The head sends a mark at a whole millisecond, out of every port that is up (R268). -/
def markOriginate (t : Nat) (s : State) : State :=
  let s1 := reachTime t s
  let s2 := countFrame 0x11 (sendUp 3 (memberFrame s1 0xFF (.mark (markNow s1))) s1)
  { s2 with cvn := { s2.cvn with marks := (s2.cvn.marks + 1) % 65536 } }

/-- A head in service sends its marks; one to which the role has just passed too (R272). -/
def headMark (t : Nat) (s0 : State) : State :=
  let s := headLocks s0
  if s.fld F.CVN_ST_STATE = 4 then markOriginate t s else s

def execTimingMarkOriginate (t : Nat) (s : State) : Res :=
  .next (if running s && isHead s && t % 1000000 == 0 then headMark t s else s)

/-- Is this device a paired Escort, which follows its Lead and not the marks (R268)? -/
def followsLead (s : State) : Bool := paired s && !s.twn.lead

/-- The site time at which a mark arrives on a port: the head's, and the path's delays. -/
def markTime (p : Nat) (m : TimingMark) (s : State) : Nat :=
  m.body.site + (nearest (((m.body.corr + s.fld F.CVN_PDLY_DELAY p : Nat) : Rat) / 1000)).toNat

/-- A member steers to the mark within ±50 ppm and does not step; an Escort follows its Lead (R268). -/
def steerMark (here : Nat) (s : State) : State := if followsLead s then s else steer ((here : Int) - s.clk.site) 50 s

/-- A member applies a mark by its state (Table 13-3): a step in JOIN, unless it meters; otherwise it steers. -/
def applyMark (p : Nat) (m : TimingMark) (s : State) : State :=
  let here := markTime p m s
  let shown := s.putI F.CVN_SYNC_PHERR 0 (clampS 16 m.phase)
  let near := decide (|m.phase| ≤ 100)
  match s.fld F.CVN_ST_STATE with
  | 1 | 2 =>
    let s1 := { shown with cvn := { shown.cvn with good := 0 } }.put F.CVN_ST_STATE 0 3
    if s.pwr.metering || followsLead s then steerMark here s1 else (jumpTo here s1).put F.CVN_SYNC_PHERR 0 0
  | 3 =>
    let g := if near then min 8 (s.cvn.good + 1) else 0
    let s1 := steerMark here { shown with cvn := { shown.cvn with good := g } }
    if g = 8 then enterLocked s1 else s1
  | 4 => steerMark here shown
  | 5 => steerMark here ({ shown with cvn := { shown.cvn with good := 0 } }.put F.CVN_ST_STATE 0 3)
  | _ => shown

/-- The mark as it is passed on: with the arriving link's delay and this device's residence time in CORR, and a hop more (R268). -/
def markOn (p : Nat) (m : TimingMark) (s : State) : MarkBody :=
  { m.body with corr := m.body.corr + s.fld F.CVN_PDLY_DELAY p + m.residence, hops := m.body.hops + 1 }

/-- A mark goes on out of the other ports that are up. -/
def passMark (p : Nat) (m : TimingMark) (s : State) : State :=
  sendUp p { memberFrame s 0xFF (.mark (markOn p m s)) with src := headPos s } s

/-- A timing mark arrives: copies of a mark already seen are discarded; the first is forwarded and applied (R268). A mark
from another port than before is a reroute (R272). -/
def markReceive (p : Nat) (m : TimingMark) (s : State) : State :=
  if !portUp s p ∨ s.cvn.lastSeq = some m.body.seq.toNat then s
  else
    let s1 := { s with cvn := { s.cvn with
      lastSeq := some m.body.seq.toNat, src := some p
      step := if isHead s then s.cvn.step else m.body.step.orElse fun _ => s.cvn.step } }
    let s2 := if s.cvn.src.isSome ∧ s.cvn.src ≠ some p then
        { s1.put F.CVN_ST_FORML 0 1 with cvn := { s1.cvn with routeT := s1.clk.now + 1 } } else s1
    let s3 := (passMark p m s2).put F.CVN_SYNC_HOPS 0 (min 255 (m.body.hops + 1))
    if isHead s ∧ s.fld F.CVN_ST_STATE = 4 then s3 else applyMark p m s3

def execTimingMarkReceive (p : CPort) (m : TimingMark) (s : State) : Res :=
  .next (if running s && s.cvn.cfg.en then markReceive p m s else s)

/-- A port's link delay: half the round trip less the neighbour's turnaround, in picoseconds (R268). -/
def execLinkDelayMeasure (p : CPort) (rtt turnaround : Nat) (s : State) : Res :=
  .next (if running s && portUp s p then
    countFrame 0x12 (portSend p (memberFrame s (s.fld F.CVN_PST_NPOS p) .delay)
      (s.put F.CVN_PDLY_DELAY p (min (2 ^ 32 - 1) ((rtt - turnaround) / 2)))) else s)

/-- No mark for 3 ms: HOLD; and, `sync`, for 100 ms: SYNC clears (R267, R271). -/
def markTimeout (sync : Bool) (s : State) : State :=
  if isHead s then s
  else
    let s1 := if s.fld F.CVN_ST_STATE = 4 then s.put F.CVN_ST_STATE 0 5 else s
    if sync then syncLost s1 else s1

def execMemberMarkTimeout (sync : Bool) (s : State) : Res :=
  .next (if running s && s.cvn.cfg.en then markTimeout sync s else s)

/-- No mark for 5 ms with a port up: event 53 (R272). -/
def marksLost (s : State) : State :=
  if !isHead s && (List.range 3).any (portUp s) then raise 53 noDetail (s.put F.CVN_ST_HEADL 0 1) else s

def execHeadMarksLost (s : State) : Res := .next (if running s && s.cvn.cfg.en then marksLost s else s)

/-- JOINWAIT passes: the member may start metering though it is not LOCKED (R268). -/
def joinWaitExpire (s : State) : State :=
  if s.cvn.cfg.en && !isHead s && !followsLead s && (s.fld F.CVN_ST_STATE == 1 || s.fld F.CVN_ST_STATE == 2) then
    { s with cvn := { s.cvn with waited := true } }
  else s

def execJoinWaitExpire (s : State) : Res := .next (if running s then joinWaitExpire s else s)

/-- The first index of a subscribed stream's samples at a preset that are at hand, and the one after the last: in the run that comes with
the command, else in what the sample path holds. -/
def heldSpan (s : State) (runs : List ChanRun) (x : Nat × Nat) : Nat × Nat :=
  match runs.find? (·.ref.toNat == x.1) with
  | some r => (r.first, r.first + r.xs.length)
  | none =>
    let l := ((getPath s x.1).kept.getD x.2 []).map (·.1)
    (l.getLastD 0, (l.head?.map (· + 1)).getD 0)

/-- The channel block of one subscribed stream: the samples that have come since the previous frame, each as soon as the
interpolator has the two that follow it (R122, R273). They are aligned to group A's instants, as R273 has it, though R16 says of link
sample frames that they keep the group skew (DESIGN CHOICE: the spec does not settle it). No block where none has. -/
def sampleBlock (s : State) (runs : List ChanRun) (x : Nat × Nat) : Option SampleBlock :=
  let h := heldSpan s runs x
  let k0 := max h.1 (mget 0 s.cvn.sentK (8 * x.1 + x.2))
  let k1 := h.2 - 2
  if k1 ≤ k0 then none
  else
    let t0 := (nearest (k0 * periodNs x.2)).toNat
    some { stream := Fin.ofNat 144 x.1, time := t0, preset := Fin.ofNat 8 x.2
           ovr := ovrIn s x.1 t0 s.clk.site, opened := openIn s x.1 t0 s.clk.site
           settle := s.duringIn F.FLT_ST_SETTLE x.1 t0 s.clk.site, nosync := !s.bit F.CVN_ST_SYNC
           xs := (List.range (k1 - k0)).map fun i =>
             alignedAt x.2 x.1 (localAt s x.2 runs x.1 (s.fld F.MTR_SCALE_K x.1)) (k0 + i) }

/-- At each whole 125 µs a member sends its subscribed samples to the head; of a pair only the holder of the driver role (R273).
`runs`: preset samples of the subscribed streams that the sample path does not hold. Frames are kept 1 ms. -/
def sampleSend (t : Nat) (runs : List ChanRun) (s : State) : State :=
  let s1 := reachTime t s
  let e := mget 0 s1.cvn.eseq 0x15
  let bs := s1.cvn.sub.filterMap (sampleBlock s1 runs)
  let s2 := sendHead (.samples bs) s1
  { s2 with cvn := { s2.cvn with
      kept := (s2.cvn.kept.filter fun k => decide (t < k.t + 1000000)) ++ [⟨e, t, bs⟩]
      sentK := bs.foldl (fun m b =>
        mput 0 m (8 * b.stream.val + b.preset.val) (sampleIndex b.preset b.time + b.xs.length)) s2.cvn.sentK } }

/-- Has this member been cut off from the head: in HOLD, with no path left (R271)? -/
def isCutOff (s : State) : Bool := s.fld F.CVN_ST_STATE == 5 && s.cvn.src.isNone

/-- Does this member send samples and coverage: in RUN, subscribed, of a pair as holder of the driver role, and not cut off (R271,
R273)? -/
def sendsSamples (s : State) : Bool :=
  running s && s.cvn.cfg.en && !isHead s && s.cvn.sub != [] && (!paired s || s.pls.role) && !isCutOff s

def execCaravanSampleSend (t : Nat) (runs : List ChanRun) (s : State) : Res :=
  .next (if sendsSamples s && t % 125000 == 0 then sampleSend t runs s else s)

/-! ### Coverage (R274) -/

/-- A coverage report goes to the head: a channel is not reported as covered while SYNC is clear (R269). -/
def reportCov (n t0 t1 : Nat) (ok : Bool) (s : State) : State :=
  sendHead (.coverage (Fin.ofNat 144 n) t0 t1 (ok && s.bit F.CVN_ST_SYNC)) s

/-- A member reports the cycles of its subscribed channels that an evaluation has just settled (R274). -/
def reportEvaluated (s : State) : State :=
  if sendsSamples s then
    (s.cvn.sub.map (·.1)).dedup.foldl (fun s n =>
      ((mget [] s.mtr.cov n).filter (·.at_ == s.clk.site)).foldl (fun s c => reportCov n c.start c.tend c.ok s) s) s
  else s

/-- An unpaired member reports the cycles that have ended as not covered (R274). -/
def reportUncovered (t : Nat) (s : State) : State :=
  if sendsSamples s && !paired s then
    (s.cvn.sub.map (·.1)).dedup.foldl (fun s n => match endedCycle s t n with
      | some c => reportCov n c.start c.tend false s
      | none => s) s
  else s

/-- The evaluation of a record, and the reports that follow it. -/
def evaluateReport (t : Nat) (s : State) : State :=
  let s1 := evaluate t s
  if tst s = 6 ∧ s.twn.evalT = t then reportEvaluated s1 else s1

def execCompareEvaluation (t : Nat) (s : State) : Res := .next (evaluateReport t s)

/-! ### Summaries (R276) -/

/-- The slot that has just been written, as a summary: SEQ, COUNT, KEYS and VALUES (Table 06-6). -/
def slotSummary (s : State) : Nat × Nat × List Nat × List Nat :=
  let ks := regKeys s.flds
  (s.mtr.nextSeq - 1, (ks.filter (· ≠ 0xFFFF)).length, ks, ks.map fun k => if k = 0xFFFF then 0 else viewAcc s (keyAcc k))

/-- After its checkpoint a member sends its accumulator summary; the head keeps its own. -/
def sendSummary (s : State) : State :=
  let x := slotSummary s
  if !s.cvn.cfg.en then s
  else if isHead s then
    let y : Summary := { seq := x.1 % 65536, count := x.2.1, vals := x.2.2.2 }
    { s with cvn := { s.cvn with sums := mput none s.cvn.sums (position s) (some y) } }
  else sendHead (.summary x.1 x.2.1 x.2.2.1 x.2.2.2) s

/-- At a whole second of site time a slot is written (R136), and the summary follows it. -/
def execPeriodicCheckpoint (t : Nat) (s : State) : Res :=
  .next (if running s && s.pwr.metering && !s.pwr.finalCk then sendSummary (writeCkpt false (reachTime t s)) else s)

/-- The hold of the summary page ends. -/
def endSumHold (s : State) : State := { s with cvn := { s.cvn with hold := none } }.put F.CVN_MSEL_HOLD 0 0

/-- A write of CVN_MSEL (R276, R172). -/
def mselWrite (hold : Bool) (p : Nat) (s : State) : State :=
  let s1 := (s.put F.CVN_MSEL_EXP 0 0).put F.CVN_MSEL_MEMBER 0 p
  let same := match s.cvn.hold with
    | some h => h.1 == p
    | none => false
  if hold then
    (if same then s1
     else
      let s2 := endSumHold s1
      { s2 with cvn := { s2.cvn with hold := some (p, mget none s2.cvn.sums p) } }.put F.CVN_MSEL_HOLD 0 1)
  else endSumHold s1

def execCvnMselWrite (hold : Bool) (member : Pos) (s : State) : Res :=
  .next (if mainOn s then mselWrite hold member s else s)

def execCvnMselHoldExpire (s : State) : Res :=
  .next (if s.cvn.hold.isSome then (endSumHold s).put F.CVN_MSEL_EXP 0 1 else s)

/-! ### Site time (R277 to R279) -/

/-- A write of CVN_ADJCTL.GO: accepted on the master alone (R278). -/
def adjGo (s : State) : State :=
  if !isMaster s then s.put F.CVN_ADJCTL_REJ 0 1
  else
    let off := signed 64 (s.fld F.CVN_ADJ_LO_ADJ_LO + 2 ^ 32 * s.fld F.CVN_ADJ_HI_ADJ_HI)
    correctSite off ((s.put F.CVN_ADJCTL_REJ 0 0).put F.CVN_ADJCTL_GO 0 1)

def execCvnAdjGo (s : State) : Res := .next (if mainOn s && privileged s then adjGo s else s)

/-- The announced step of site time (R278): the checkpoint of the second is written first, and its summary sent (R276); intervals in
progress are closed, and the count takes the offset; event 55. -/
def siteStep (s : State) : State :=
  match s.cvn.step with
  | none => s
  | some x =>
    let s1 := reachTime x.1 s
    let s2 := if running s1 && s1.pwr.metering then closeIntervals [] (sendSummary (writeCkpt false s1)) else s1
    let s3 := stepTime x.2 s2
    let s4 := { s3 with cvn := { s3.cvn with step := none, steps := s3.cvn.steps + 1 } }
    raise 55 noDetail ((s4.put F.CVN_ST_STEPL 0 1).put F.CVN_ADJCTL_GO 0 0)

def execSiteTimeStep (s : State) : Res := .next (siteStep s)

/-- A slew is spent (R278): the count has gained the whole offset. -/
def slewComplete (s : State) : State :=
  if s.bit F.CVN_ADJCTL_SLEW then
    let s1 := stepTime s.clk.slew s
    (s1.put F.CVN_ADJCTL_SLEW 0 0).put F.CVN_ADJCTL_GO 0 0
  else s

def execSiteTimeSlewComplete (s : State) : Res := .next (slewComplete s)

/-- 5 s without valid site time put a head below the master in site holdover (R279). -/
def siteHoldover (s : State) : State :=
  if isHead s && s.cvn.cfg.siteEn && !s.cvn.cfg.master then setSiteSync false (s.put F.CVN_SITE_HOLD 0 1) else s

def execSiteHoldover (s : State) : Res := .next (if running s then siteHoldover s else s)

end Sys2Proof.Machine
end

