-- ==== Sys2Proof/Machine/Clocks.lean ====
section
/-! DEFINITION. The clock domains and their PLLs; XCLK and the boundaries of site time: the meanings of their commands (R21, R24,
R26). -/

namespace Sys2Proof.Machine

/-! ### Clock domains (R24) -/

/-- The 14 clock domains (Table 01-6). -/
inductive ClkDom where
  | pclk | xclk | mclk | bsclk | fclk | hclk | aclk | sclk | qclk | nclk | lclk | wclk | zclk | dclk
  deriving DecidableEq, Repr

/-- The three phase-locked loops. -/
inductive Pll where
  | m | l | w
  deriving DecidableEq, Repr

/-- Has the harmonic engine work: phasors or a window wait to be posted; a resampler burst falls due, each whole 1 ms while a
tracker runs; or a block of the bands and the arc statistic does, every 2.5 ms while a channel runs (Table 08-2, R186, R187, R190)? -/
def hclkWork (s : State) : Bool :=
  phasorsWait s
    || ((List.range 4).any fun g => (getTrk s g).done.isSome || (trkState s g != 0 && s.clk.site % 1000000 == 0))
    || (!hbOff s && s.clk.site % 2500000 == 0 && (List.range 144).any (chanOn s))

/-- Has the NVM SPI work: the itinerary read, or a flash operation? -/
def nvmWork (s : State) : Bool := s.fld F.ITN_ST_LOAD == 1 || (ctlOn s && s.itn.jobs != [])

/-- Has a link port work: it trains, from the itinerary's load on (Table 22-4), or is up? Table 01-6 has LCLK off in STANDBY all the
same (log entry 146). -/
def linkWork (s : State) : Bool := decide (1 ≤ tst s) || (List.range 3).any fun p => decide (1 ≤ lstate s p) && lstate s p != 4

/-- Has the auxiliary converter work: entries in its sequence, an injection, or a housekeeping burst (R375)? -/
def sarWork (s : State) : Bool := s.fld F.SAR_CFG_LEN != 0 || s.sar.inj != [] || s.sar.burst.isSome || s.sar.due.isSome

/-- Does a clock domain run (Table 01-6)? -/
def clkOn (s : State) (d : ClkDom) : Bool :=
  match d with
  | .pclk => true
  | .xclk => s.pwr.mstate != .backup
  | .qclk => s.pwr.mstate != .backup
  | .sclk => s.pwr.mstate != .backup
  | .mclk => running s
  | .fclk => running s
  | .aclk => running s
  | .dclk => running s
  | .bsclk => running s && (List.range 2).any fun g => mget false s.inp.bsgEn g
  | .hclk => running s && hclkWork s
  | .nclk => s.pwr.mstate != .backup && nvmWork s
  | .lclk => running s && linkWork s
  | .wclk => running s && s.bit F.WAY_ST_UP
  | .zclk => running s && sarWork s

/-- Does a PLL run: only while a domain that it feeds does? PLL-M feeds SCLK in RUN alone. -/
def pllOn (s : State) (p : Pll) : Bool :=
  match p with
  | .m => [ClkDom.mclk, .bsclk, .fclk, .hclk, .aclk, .nclk].any fun d => clkOn s d
  | .l => clkOn s .lclk
  | .w => clkOn s .wclk || clkOn s .zclk

/-- BSCLK in kHz while it runs: 12.288 MHz where an enabled bitstream group selects that rate, and a group at 6.144 MHz then
divides it by two (R66). -/
def bsclkKHz (s : State) : Nat :=
  if (List.range 2).any fun g => mget false s.inp.bsgEn g && mget 0 s.inp.bsgRate g == 1 then 12288 else 6144

/-- The display clock: XCLK ÷ (24 × 2ⁿ) for DCLKSEL n from 0 to 5, and PCLK for 6 (R387), in Hz. -/
def dclkHz (s : State) : Rat :=
  let n := s.fld F.DSP_CFG_DCLKSEL
  if n ≤ 5 then 24576000 / (24 * 2 ^ n) else 32768

/-- The frequency of a domain in Hz while it runs (Table 01-6); none for the host's own QCLK. -/
def clkHz (s : State) (d : ClkDom) : Option Rat :=
  match d with
  | .pclk => some 32768
  | .xclk => some 24576000
  | .mclk => some 6144000
  | .bsclk => some (1000 * bsclkKHz s)
  | .fclk => some 196608000
  | .hclk => some 245760000
  | .aclk => some 49152000
  | .sclk => some (if running s then 98304000 else 24576000)
  | .qclk => none
  | .nclk => some 49152000
  | .lclk => some 250000000
  | .wclk => some 100000000
  | .zclk => some 24000000
  | .dclk => some (dclkHz s)

/-! ### XCLK (R26) and the boundaries of site time (R21) -/

/-- XCLK stops or strays for 100 µs: the RC fallback takes its place (R26): event 45. -/
def xclkFallback (s : State) : State :=
  if mainOn s ∧ s.clk.xsrc = .crystal then
    raise 45 noDetail ((({ s with clk := { s.clk with xsrc := .rc, rcTrims := 0 } }).lift F.FLTS_ST_XFB 0).put
      F.FLTS_ST_CLKL 0 1)
  else s

def execXclkFallback (s : State) : Res := .next (xclkFallback s)

/-- Every 10 ms the RC fallback is trimmed against PCLK (R26). -/
def rcTrim (s : State) : State :=
  if mainOn s ∧ s.clk.xsrc = .rc then { s with clk := { s.clk with rcTrims := s.clk.rcTrims + 1 } } else s

def execRcTrim (s : State) : Res := .next (rcTrim s)

/-- After 1 s of good crystal the device returns to it at a whole 20 ms of site time (R26); accumulators are UNVERIFIED no
longer. -/
def xclkReturn (t : Nat) (s : State) : State :=
  if mainOn s ∧ s.clk.xsrc = .rc ∧ t % 20000000 = 0 then
    let s1 := reachTime t s
    ({ s1 with clk := { s1.clk with xsrc := .crystal, rcTrims := 0 } }).lower F.FLTS_ST_XFB 0
  else s

def execXclkReturn (t : Nat) (s : State) : Res := .next (xclkReturn t s)

/-- Site time reaches a multiple of 20 ms, the boundary of channels in no grid group (R21). What takes effect at it has a
command of its own. -/
def dcBoundary (t : Nat) (s : State) : State := if running s ∧ t % 20000000 = 0 then reachTime t s else s

def execDcGridBoundary (t : Nat) (s : State) : Res := .next (dcBoundary t s)

end Sys2Proof.Machine
end

