-- ==== Sys2Proof/Machine/Display.lean ====
section
/-! DEFINITION. Register display: LCD drive voltage, bistable updates and their phases, pages and images, the Vault shadow, and
loss of power (R386 to R398). -/

namespace Sys2Proof.Machine

/-! ### Images (R392) -/

/-- The image of six words. -/
def imageOf (s : State) (f : Fld) : Nat := (List.range 6).foldl (fun a k => a + s.fld f k * 2 ^ (32 * k)) 0

/-- The value a page shows. -/
def pageValue (s : State) (p : Nat) : Int :=
  let i := s.fld F.DSP_PAGE_SRC p
  if s.bit F.DSP_PAGE_KIND p then signed 32 (s.fld F.MTR_RES_RES i) else (viewAcc s i : Int)

/-- The image of page p. -/
def pageImage (s : State) (p : Nat) : Nat :=
  let k := s.fld F.DSP_PAGE_DIGITS p
  let v := pageValue s p
  let n := v.natAbs / 10 ^ s.fld F.DSP_PAGE_SHIFT p % 10 ^ k
  let digits := (List.range k).foldl (fun a d => a + (Config.glyph (n / 10 ^ d % 10)).toNat * 2 ^ (8 * d)) 0
  let sign := if k ≠ 0 ∧ v < 0 then 2 ^ (8 * k + 6) else 0
  let point := if s.fld F.DSP_PAGE_DPPOS p ≠ 0 then 2 ^ (8 * s.fld F.DSP_PAGE_DPPOS p + 7) else 0
  digits ||| sign ||| point ||| s.fld F.DSP_SYM_SYM p * 2 ^ 96

/-- The segments that a bistable panel has. -/
def segMask (s : State) : Nat := 2 ^ s.fld F.DSP_CFG_NSEG - 1

/-- Is the display on: enabled, in RUN and not on VHOLD? -/
def dspOn (s : State) : Bool := running s && s.bit F.DSP_CFG_EN && !s.dsp.hold

def bistable (s : State) : Bool := s.bit F.DSP_CFG_MODE

/-- A new target: an LCD shows it at the next frame; a bistable panel has it wait one deep. -/
def newTarget (t : Nat) (s : State) : State :=
  if bistable s then { s with dsp := { s.dsp with queued := some (t &&& segMask s) } }.put F.DSP_ST_QUEUED 0 1
  else { s with dsp := { s.dsp with img := t } }

/-- Page p is shown. -/
def showPage (p : Nat) (s : State) : State := newTarget (pageImage s p) (s.put F.DSP_ST_PAGE 0 p)

/-- The enabled page that follows page p in the cycle. -/
def pageAfter (s : State) (p : Nat) : Option Nat :=
  ((List.range 16).map fun k => (p + 1 + k) % 16).find? fun q => s.bit F.DSP_PAGE_EN q

/-- The next page of the cycle is shown. -/
def nextPage (s : State) : State :=
  match pageAfter s (s.fld F.DSP_ST_PAGE) with
  | some p => showPage p s
  | none => s

/-! ### Content commands -/

/-- A write of DSP_CTL.SHOW by a privileged session. -/
def dspShow (s : State) : State := if dspOn s && s.bit F.DSP_CFG_SRC then newTarget (imageOf s F.DSP_IMG_IMG) s else s

def execDspShow (s : State) : Res := .next (if privileged s then onCtl .dspShow dspShow s else s)

/-- A write of DSP_CTL.NEXT by a privileged session. -/
def dspNext (s : State) : State := if dspOn s && !s.bit F.DSP_CFG_SRC then nextPage s else s

def execDspNext (s : State) : Res := .next (if privileged s then onCtl .dspNext dspNext s else s)

/-- DWELL seconds have passed; a page with DWELL 0 is held until NEXT. -/
def dwellExpire (s : State) : State := if s.fld F.DSP_PAGE_DWELL (s.fld F.DSP_ST_PAGE) = 0 then s else dspNext s

def execPageDwellExpire (s : State) : Res := .next (onCtlOnce .pageDwell dwellExpire s)

/-! ### LCD drive voltage (R388) -/

/-- VLCD for the die temperature, in mV. -/
def vlcdTarget (s : State) : Int :=
  max 2400 (min 3300 (nearest ((s.fld F.DSP_LCD_V25 : Rat)
    + (s.sfld F.DSP_LCD_TCV : Rat) / 10 * ((s.sfld F.CAL_TEMP_TDIE : Rat) / 100 - 25))))

/-- Once per second VLCD steps toward its value, by at most 10 mV; a display just enabled takes it in one step. While TBAD is
set it keeps its last value. -/
def vlcdUpdate (s : State) : State :=
  let v := s.fld F.DSP_ST_VLCD
  let t := (vlcdTarget s).toNat
  if s.bit F.CAL_ST_TBAD then s
  else if v = 0 then s.put F.DSP_ST_VLCD 0 t
  else s.put F.DSP_ST_VLCD 0 (if v < t then min t (v + 10) else max t (v - 10))

def execVlcdUpdate (s : State) : Res := .next (if dspOn s && !bistable s then vlcdUpdate s else s)

/-! ### Bistable updates (R389 to R393) -/

/-- The band of the die temperature. -/
def dspBand (s : State) : Nat := ((s.sfld F.CAL_TEMP_TDIE + 4000) / 1600).toNat |> min 7

/-- Shows the state of the display (Table 20-4). -/
def showDsp (s : State) : State :=
  s.put F.DSP_ST_STATE 0 (match s.dsp.upd with
    | none => if dspOn s then 1 else 0
    | some u => if u.why ≠ DspWhy.content then 5 else match u.phase with
      | .pre => 2
      | .drive => 3
      | .common => 4)

/-- An update to target t begins: the shadow takes the target and INPROG, the pump runs, and PRE begins, or DRIVE where TPRE
is 0. -/
def beginUpdate (t driven : Nat) (why : DspWhy) (s : State) : State :=
  let b := dspBand s
  let s1 := (List.range 6).foldl (fun s k => s.put F.DSP_SHD_SHD k (t / 2 ^ (32 * k))) s
  let u : DspUpd := ⟨t, driven, if s.fld F.DSP_ETIME_TPRE b = 0 then DspPhase.drive else DspPhase.pre, why⟩
  let s2 := { s1 with dsp := { s1.dsp with upd := some u, start := some s.clk.now, inprog := true, ncom := true } }
  showDsp ((s2.put F.DSP_ST_BAND 0 b).put F.DSP_ST_PUMPOK 0 1)

/-- The target that waits is taken up, no earlier than UPMIN seconds after the previous update began, and not before the refresh of
this main power-up (R392, R396). -/
def updateStart (s : State) : State :=
  match s.dsp.queued with
  | none => s
  | some t =>
    let ok := match s.dsp.start with
      | none => true
      | some b => decide (b + s.fld F.DSP_LCD_UPMIN * 1000000000 ≤ s.clk.now)
    if s.dsp.upd.isNone && s.dsp.fresh && ok then
      beginUpdate t (t ^^^ s.dsp.img) .content
        ({ s with dsp := { s.dsp with queued := none } }.put F.DSP_ST_QUEUED 0 0)
    else s

def execDisplayUpdateStart (s : State) : Res := .next (if dspOn s && bistable s then updateStart s else s)

/-- The update ends: its segments hold the target. -/
def updateEnd (u : DspUpd) (s : State) : State :=
  raiseIf (u.why == DspWhy.powerUp) 106 noDetail (showDsp { s with dsp := { s.dsp with upd := none } })

/-- The image with the driven segments of an update replaced by those of another. -/
def mixImage (u : DspUpd) (a b : Nat) : Nat := (a &&& (u.driven ^^^ (2 ^ 192 - 1))) ||| (b &&& u.driven)

/-- A phase ends. On VHOLD the phase in progress is the last one: common is latched, and nCOM drops (R394, Table 02-3). -/
def phaseEnd (s : State) : State :=
  match s.dsp.upd with
  | none => s
  | some u =>
    let img := mixImage u s.dsp.img u.target
    if s.dsp.hold then
      let done := u.phase ≠ DspPhase.pre ∧ s.pwr.mstate ≠ .backup
      let s1 := { s with dsp := { s.dsp with
        upd := none, img := if u.phase = DspPhase.pre then s.dsp.img else img, ncom := false
        inprog := if done then false else s.dsp.inprog } }
      showDsp (s1.put F.DSP_ST_PUMPOK 0 0)
    else match u.phase with
      | .pre => showDsp { s with dsp := { s.dsp with upd := some { u with phase := .drive } } }
      | .drive =>
        showDsp { s with dsp := { s.dsp with upd := some { u with phase := .common }, img := img, inprog := false } }
      | .common => updateEnd u s

def execDisplayPhaseEnd (s : State) : Res := .next (phaseEnd s)

/-- The update in progress is abandoned, with nCOM driven low; what stands on the segments it drove is open. -/
def abandonUpdate (s : State) : State :=
  let img := s.dsp.upd.elim s.dsp.img fun u => mixImage u s.dsp.img (Config.panelMix s.dsp.img u.target)
  showDsp ({ s with dsp := { s.dsp with upd := none, ncom := false, img := img } }.put F.DSP_ST_PUMPOK 0 0)

/-- PUMPOK was not set in time, or fell during an update (R390). -/
def pumpTimeout (s : State) : State := if s.dsp.upd.isSome then raise 105 noDetail (abandonUpdate s) else s

def execDisplayPumpTimeout (s : State) : Res := .next (if dspOn s && bistable s then pumpTimeout s else s)

/-! ### Loss of power and power-up (R394, R396, R417) -/

/-- A power-fail report, or the exit from RUN: LCD lines go to 0 V; a bistable block switches to VHOLD, and drops nCOM where no
update is in progress (Table 02-3). -/
def displayOff (s : State) : State :=
  if bistable s then showDsp { s with dsp := { s.dsp with hold := true, ncom := s.dsp.ncom && s.dsp.upd.isSome } }
  else showDsp ({ s with dsp := { s.dsp with hold := true, img := 0 } }.put F.DSP_ST_VLCD 0 0)

/-- VHOLD falls below 2.20 V: an update still running is abandoned. -/
def vholdLow (s : State) : State := if s.dsp.hold && s.dsp.upd.isSome then abandonUpdate s else s

def execVholdLow (s : State) : Res := .next (vholdLow s)

/-- The full refresh to the shadow image. -/
def refreshAll (why : DspWhy) (s : State) : State :=
  beginUpdate (imageOf s F.DSP_SHD_SHD) (segMask s) why s

/-- At a main power-up in bistable mode: event 104 where an update had been cut, then the full refresh (R396). -/
def powerUpRefresh (s : State) : State :=
  refreshAll .powerUp { raiseIf s.dsp.inprog 104 noDetail s with dsp := { s.dsp with fresh := true } }

def execDisplayPowerUpRefresh (s : State) : Res :=
  .next (if dspOn s && bistable s && s.dsp.upd.isNone && !s.dsp.fresh then powerUpRefresh s else s)

/-- The display starts at an entry to RUN, or where its settings change: the first enabled page is shown. -/
def displayStart (s : State) : State :=
  let s1 := showDsp { s with dsp := { s.dsp with hold := false } }
  if dspOn s1 && !s1.bit F.DSP_CFG_SRC then
    (match pageAfter s1 15 with
      | some p => showPage p s1
      | none => s1)
  else s1

/-- After a power-fail that did not take the supplies the display is refreshed from its shadow (R417). -/
def displayResume (s : State) : State :=
  if bistable s then
    let s1 := { s with dsp := { s.dsp with hold := false } }
    if dspOn s1 && s1.dsp.upd.isNone then refreshAll .recovery s1 else showDsp s1
  else displayStart s

end Sys2Proof.Machine
end

