-- ==== Sys2Proof/Machine/Disturb.lean ====
section
/-! DEFINITION. Disturbances, high-band emission and the arc indicator: the meanings of their commands (R177 to R193). -/

namespace Sys2Proof.Machine

/-! ### Half-cycle marks -/

/-- The number S of values of the RVC method (R181). -/
def rvcS (s : State) (g : Nat) : Nat := if (getTrk s g).f60 then 120 else 100

/-- Urms(1/2) at the mark t in 0.01 % of UNOM, of the voltage members of the group whose samples have come: over the cycle since
the mark two earlier (R177). -/
def markVals (s : State) (g start t : Nat) (us : List StreamRun) : List (Nat × Rat) :=
  let unom := b32 (s.fld F.GRD_UNOM_UNOM g)
  ((List.range 144).filter fun n => mget 0 s.grd.mem n == 1 + 2 * g && brings us n).map fun n =>
    (n, rdiv (cycleRms s us n start t) unom * 10000)

/-- The member with the lowest value, and that with the highest. -/
def lowest : List (Nat × Rat) → Option (Nat × Rat)
  | [] => none
  | a :: r => some (r.foldl (fun m x => if x.2 < m.2 then x else m) a)
def highest : List (Nat × Rat) → Option (Nat × Rat)
  | [] => none
  | a :: r => some (r.foldl (fun m x => if m.2 < x.2 then x else m) a)

/-- A state in progress at a mark: its extreme and its flags. -/
def feedEv (low : Bool) (vs : List (Nat × Rat)) (unlk ovr opn : Bool) (e : DstEv) : DstEv :=
  let e1 := { e with unlk := e.unlk || unlk, ovr := e.ovr || ovr, opened := e.opened || opn }
  match (if low then lowest vs else highest vs) with
  | some x => if (low ∧ x.2 < e.ext) ∨ (¬ low ∧ e.ext < x.2) then { e1 with ext := x.2, chan := x.1 } else e1
  | none => e1

/-- A state that starts at a mark. -/
def newEv (low : Bool) (vs : List (Nat × Rat)) (start : Nat) (unlk ovr opn : Bool) : DstEv :=
  let x := ((if low then lowest vs else highest vs).getD (0xFF, 0))
  ⟨start, x.2, x.1, false, unlk, ovr, opn⟩

/-- The mean of a list of values. -/
def avg (l : List Rat) : Rat := rdiv l.sum l.length

/-- Do a channel's last S values all lie within ±RVCHY of their mean (R181)? -/
def chSteady (n : Nat) (hy : Nat) (l : List Rat) : Bool :=
  let m := avg l
  l.length == n && l.all fun x => decide (rabs (x - m) ≤ 10 * hy)

/-- What is needed of a mark: group, instant, start stamp, values, and flags. -/
structure MarkIn where
  g     : Nat
  t     : Nat
  start : Nat
  vs    : List (Nat × Rat)
  unlk  : Bool
  ovr   : Bool
  opn   : Bool
  deriving DecidableEq, Repr

/-- DIP, SWL and INT at a mark (Table 09-1): `begins` and `ends` are the row's conditions, `cur` the state in progress. -/
def stateStep (low : Bool) (x : MarkIn) (begins ends : Bool) (cur : Option DstEv) : Option DstEv × Option DstEv :=
  match cur with
  | none => (if begins then some (newEv low x.vs x.start x.unlk x.ovr x.opn) else none, none)
  | some e =>
    let e1 := feedEv low x.vs x.unlk x.ovr x.opn e
    if ends then (none, some e1) else (some e1, none)

/-- The member's own conditions in DST_CST (Table 09-8). -/
def memberBits (th : DstThr) (x : MarkIn) (s : State) : State :=
  x.vs.foldl (fun s v =>
    let set (f : Fld) (on off : Bool) (s : State) : State := if on then s.put f v.1 1 else if off then s.put f v.1 0 else s
    let s1 := s.put F.DST_CST_URMS v.1 (clampU 16 (nearest v.2))
    let s2 := set F.DST_CST_DIP (th.dipth != 0 && decide (v.2 < ((10 * th.dipth : Nat) : Rat)))
      (th.dipth == 0 || decide (((10 * (th.dipth + th.hyst) : Nat) : Rat) ≤ v.2)) s1
    let s3 := set F.DST_CST_SWL (th.swlth != 0 && decide (((10 * th.swlth : Nat) : Rat) < v.2))
      (th.swlth == 0 || decide (v.2 ≤ 10 * ((th.swlth : Rat) - th.hyst))) s2
    set F.DST_CST_INT (th.intth != 0 && decide (v.2 < ((10 * th.intth : Nat) : Rat)))
      (th.intth == 0 || decide (((10 * (th.intth + th.hyst) : Nat) : Rat) ≤ v.2)) s3) s

/-- Dips, swells and interruptions at a mark (R178, R180). Records of one mark queue in the order INT, DIP, SWL. -/
def voltageStates (x : MarkIn) (s : State) : State :=
  let d := getDst s x.g
  let th := d.thr
  let any (p : Rat → Bool) : Bool := x.vs.any fun v => p v.2
  let all (p : Rat → Bool) : Bool := x.vs != [] && x.vs.all fun v => p v.2
  let int := stateStep true x (th.intth != 0 && all fun u => decide (u < 10 * th.intth))
    (th.intth == 0 || any fun u => decide (((10 * (th.intth + th.hyst) : Nat) : Rat) ≤ u)) d.int
  let dip0 := stateStep true x (th.dipth != 0 && any fun u => decide (u < 10 * th.dipth))
    (th.dipth == 0 || all fun u => decide (((10 * (th.dipth + th.hyst) : Nat) : Rat) ≤ u)) d.dip
  let mark (e : DstEv) : DstEv := { e with intr := e.intr || d.int.isSome || int.1.isSome }
  let dip := (dip0.1.map mark, dip0.2.map mark)
  let swl := stateStep false x (th.swlth != 0 && any fun u => decide (((10 * th.swlth : Nat) : Rat) < u))
    (th.swlth == 0 || all fun u => decide (u ≤ 10 * ((th.swlth : Rat) - th.hyst))) d.swl
  let recs := [(3, int.2), (1, dip.2), (2, swl.2)].filterMap fun (p : Nat × Option DstEv) =>
    p.2.map fun e => evRec p.1 x.t false e
  let s1 := setDst x.g { d with int := int.1, dip := dip.1, swl := swl.1, queue := d.queue ++ recs } s
  let go (f l : Fld) (ev : Nat) (was now : Bool) (s : State) : State :=
    if !was && now then (gstStart f l (some ev) x.g s).put F.DST_GST_FLAG x.g 1
    else if was && !now then s.put f x.g 0 else s
  go F.DST_GST_INT F.DST_GST_INTL 18 d.int.isSome int.1.isSome
    (go F.DST_GST_SWL F.DST_GST_SWLL 17 d.swl.isSome swl.1.isSome
      (go F.DST_GST_DIP F.DST_GST_DIPL 16 d.dip.isSome dip.1.isSome s1))

/-- The value lists after a mark, newest first, at most S + 1 long. -/
def pushVals (n : Nat) (x : MarkIn) (h : SMap (List Rat)) : SMap (List Rat) :=
  x.vs.foldl (fun m v => mput [] m v.1 ((v.2 :: mget [] m v.1).take (n + 1))) h

/-- A member's RVC bit of DST_CST, for every voltage member of the group. -/
def rvcBits (vs : List (Nat × Rat)) (p : Nat × Rat → Bool) (s : State) : State :=
  vs.foldl (fun s v => s.setBit F.DST_CST_RVC v.1 (p v)) s

/-- Rapid voltage changes at a mark (R181). `before`: the lists of values up to the previous mark. -/
def rvcStep (x : MarkIn) (before : SMap (List Rat)) (s : State) : State :=
  let d := getDst s x.g
  let n := rvcS s x.g
  let th := d.thr
  let sag := d.dip.isSome || d.swl.isSome
  let volt := sag || d.int.isSome
  let allSteady := x.vs != [] && x.vs.all fun v => chSteady n th.rvchy ((mget [] d.hist v.1).take n)
  match d.rvc with
  | some e =>
    if sag then
      rvcBits x.vs (fun _ => false) ((setDst x.g { d with rvc := none, steady := false } s).put F.DST_GST_RVC x.g 0)
    else
      let dev (v : Nat × Rat) : Rat := rabs (v.2 - ((e.uold.find? (·.1 == v.1)).map (·.2)).getD v.2)
      let big := highest (x.vs.map fun v => (v.1, dev v))
      let e1 := { e with unlk := e.unlk || x.unlk, ovr := e.ovr || x.ovr, opened := e.opened || x.opn }
      let e2 := match big with
        | some b => if e1.dmax < b.2 then { e1 with dmax := b.2, chan := b.1 } else e1
        | none => e1
      if allSteady then
        let uss := (x.vs.map fun v => rabs (avg ((mget [] d.hist v.1).take n)
          - ((e.uold.find? (·.1 == v.1)).map (·.2)).getD 0)).foldl rmax 0
        let endT := d.marks.getD (n - 1) x.t
        rvcBits x.vs (fun _ => false)
          ((setDst x.g (queueDst (rvcRec endT uss false e2) { d with rvc := none, steady := !volt }) s).put F.DST_GST_RVC x.g 0)
      else rvcBits x.vs (fun v => decide (((10 * th.rvcth : Nat) : Rat) < dev v)) (setDst x.g { d with rvc := some e2 } s)
  | none =>
    let mean (v : Nat × Rat) : Rat := avg ((mget [] before v.1).take n)
    let dev (v : Nat × Rat) : Rat := rabs (v.2 - mean v)
    let hit := x.vs.any fun v => decide (((10 * th.rvcth : Nat) : Rat) < dev v)
    if th.rvcth != 0 && d.steady && !sag && hit then
      let big := (highest (x.vs.map fun v => (v.1, dev v))).getD (0xFF, 0)
      let e : RvcEv := ⟨x.start, x.vs.map fun v => (v.1, mean v), big.2, big.1, x.unlk, x.ovr, x.opn⟩
      rvcBits x.vs (fun v => decide (((10 * th.rvcth : Nat) : Rat) < dev v))
        ((gstStart F.DST_GST_RVC F.DST_GST_RVCL none x.g (setDst x.g { d with rvc := some e, steady := false } s)).put
          F.DST_GST_FLAG x.g 1)
    else setDst x.g { d with steady := allSteady && !volt } s

/-- A half-cycle mark of an enabled group (R177 to R181). `mid`: the half-cycle RMS of the reference, where the mark is a
midpoint, for the tests of Table 08-1. There is no value before a mark has two earlier ones. -/
def halfMark (g t : Nat) (mid : Option Rat) (us : List StreamRun) (s : State) : State :=
  if running s && trkState s g != 0 && (getDst s g).marks.head? != some t then
    let s0 := reachTime t s
    let s1 := match mid with
      | some r => markTest g r s0
      | none => s0
    let d0 := takeThr s1 g (getDst s1 g)
    if d0.thr.en then
      let n := rvcS s1 g
      let start := d0.marks.getD 1 t
      let vs := if d0.marks.length < 2 then [] else markVals s1 g start t us
      let x : MarkIn := { g := g, t := t, start := start, vs := vs, unlk := trkState s1 g != 3
                          ovr := vs.any (fun v => ovrIn s1 v.1 start t), opn := vs.any (fun v => openIn s1 v.1 start t) }
      let d1 := { d0 with marks := (t :: d0.marks).take (n + 1), hist := pushVals n x d0.hist }
      rvcStep x d0.hist (memberBits d0.thr x (voltageStates x (setDst g d1 s1)))
    else if d0.busy then cutDst g t (setDst g d0 s1)
    else setDst g { d0 with marks := (t :: d0.marks).take 2, hist := [], steady := false } s1
  else s

def execHalfCycleMark (g : Grp) (t : Nat) (mid : Option Rat) (us : List StreamRun) (s : State) : Res :=
  .next (halfMark g t mid us s)

/-- The oldest waiting record of a group is posted, with event 19, 20 or 22 (R180, R195). -/
def recordPost (g : Nat) (s : State) : State :=
  let d := getDst s g
  match d.queue with
  | [] => s
  | r :: rest =>
    let dur := (r.endT - r.ev.start) / 1000
    let s1 := setDst g { d with queue := rest } s
    let s2 := ((((((s1.put F.DST_LREC_TYPE g r.type).setBit F.DST_LREC_INTR g r.ev.intr).setBit F.DST_LREC_UNLK g
      r.ev.unlk).setBit F.DST_LREC_OVR g r.ev.ovr).setBit F.DST_LREC_OPEN g r.ev.opened).setBit F.DST_LREC_CUT g r.cut).put
      F.DST_LREC_STREAM g r.ev.chan
    let s3 := ((((s2.put F.DST_LSTART_LO_START_LO g r.ev.start).put F.DST_LSTART_HI_START_HI g (r.ev.start / 2 ^ 32)).put
      F.DST_LDUR_DUR g (min 0xFFFFFFFF dur)).put F.DST_LVAL_VAL1 g r.val1).put F.DST_LVAL_VAL2 g r.val2
    raise (if r.type = 4 then 20 else if r.type = 5 then 22 else 19) g s3

/-- Every waiting record of every group is posted in turn: before the units stop (R183). -/
def postAllRecords (s : State) : State :=
  (List.range 4).foldl (fun s g => (getDst s g).queue.foldl (fun s _ => recordPost g s) s) s

def execDisturbanceRecordPost (g : Grp) (s : State) : Res := .next (if running s then recordPost g s else s)

/-! ### High band -/

/-- A mean square, relative to 1 µV² or 1 µA², in 0.01 dB as a 16-bit register holds it (R187). -/
def dbWord (p : Rat) : Nat := (clampS 16 (nearest (1000 * log10 p)) % 2 ^ 16).toNat

/-- One block of the arc statistic, whose median is m (R190). WARM shows from the state (`arcWarm`). -/
def arcBlock (n : Nat) (m : Rat) (s : State) : State :=
  let a := (mget none s.dst.arc n).getD ⟨0, 0, []⟩
  let warm := decide (a.warm < 400)
  let base := if warm then m else a.base
  let wcnt := if warm then a.warm + 1 else a.warm
  let stillWarm := warm && decide (wcnt < 400)
  let r := rdiv m base
  let A : Rat := 10 * log10 r
  let th : Rat := s.fld F.DST_ARC_ARCTH n / 10
  let hit := decide (th ≤ A) && !stillWarm
  let last := (hit :: a.last).take 400
  let cnt := (last.filter id).length
  let base1 := if A < th ∧ ¬ s.bit F.FLT_ST_STEP n ∧ ¬ s.bit F.INP_ST_OVR n then base + (m - base) / 4000 else base
  let s1 := { s with dst := { s.dst with arc := mput none s.dst.arc n (some ⟨base1, wcnt, last⟩) } }
  let s2 := (s1.put F.DST_ARCST_CNT n cnt).putI F.DST_ARCST_STAT n (clampS 16 (nearest (A * 100)))
  let arcn := s.fld F.DST_ARC_ARCN n
  if arcn != 0 && decide (arcn ≤ cnt) then
    (if s.bit F.DST_ARCST_ARCIND n then s2 else raise 26 n ((s2.put F.DST_ARCST_ARCIND n 1).put F.DST_ARCST_ARCL n 1))
  else if cnt = 0 ∨ arcn = 0 then
    (if s.bit F.DST_ARCST_ARCIND n then raise 27 n (s2.put F.DST_ARCST_ARCIND n 0) else s2)
  else s2

/-- m of the arc statistic: the median over bins 200 to 500, which are bands 155 to 455 (R190). -/
def arcMedian (power : List Rat) : Rat := median ((power.drop 155).take 301)

/-- One block of stream n joins its period, and its arc statistic where that is asked for (R187, R190). -/
def joinBlock (n : Nat) (power : List Rat) (s : State) : State :=
  let a := mget HbAcc.blank s.dst.hb n
  let pad (l : List Rat) : List Rat := if l = [] then List.replicate 706 0 else l
  let a1 : HbAcc := { a with n := a.n + 1, sum := (pad a.sum).zipWith (· + ·) power, max := (pad a.max).zipWith rmax power }
  let s1 := { s with dst := { s.dst with hb := mput HbAcc.blank s.dst.hb n a1 } }
  if arcOn s1 n then arcBlock n (arcMedian power) s1 else arcStop n s1

/-- A block of every enabled stream is transformed (R187), once no higher work waits (R170). -/
def highBlock (bs : List StreamRun) (s : State) : State :=
  if running s && !hbOff s && !windowsWait s then
    (bs.filter fun b => chanOn s b.n.val).foldl (fun s b => joinBlock b.n.val (highBands s b) s) s
  else s

/-- The band with the largest MAX: the lowest-numbered of equals. -/
def peakBand (l : List Rat) : Nat :=
  ((l.zipIdx).foldl (fun (m : Rat × Nat) x => if m.1 < x.1 then x else m) (l.getD 0 0, 0)).2

/-- Posts the period of one stream (R186 to R188, R193). -/
def postPeriod (bands : Option (List Rat)) (n : Nat) (s : State) : State :=
  let a := mget HbAcc.blank s.dst.hb n
  let gap := a.gap || decide (a.n < 80) || s.dst.lowGap || bands.isNone
  let pseq := (s.fld F.DST_LBH_PSEQ n + 1) % 2 ^ 16
  let s1 := (((s.put F.DST_LBH_PSEQ n pseq).setBit F.DST_LBH_GAP n gap).setBit F.DST_LBH_OVR n
    (ovrIn s n s.dst.perT s.clk.site)).setBit F.DST_LBH_OPEN n (openIn s n s.dst.perT s.clk.site)
  let s2 := match bands with
    | some l => (List.range 35).foldl (fun (s : State) b => s.put F.DST_LB_BAND (36 * n + b) (micro (l.getD b 0))) s1
    | none => s1
  let avgs := a.sum.map fun x => x / ((max 1 a.n : Nat) : Rat)
  let page := if a.n = 0 then [] else (a.max.zip avgs).map fun p => (dbWord p.1, dbWord p.2)
  let total := if a.n = 0 then 0x8000 else dbWord avgs.sum
  let lim := s.fld F.DST_HBLIM_HBLIM n
  let x := lim != 0x8000 && total != 0x8000 && decide (signed 16 lim < signed 16 total)
  let post : HbPost := ⟨pseq, gap, min 127 a.n, page⟩
  let s3 := { s2 with dst := { s2.dst with
    hb := mput HbAcc.blank s2.dst.hb n HbAcc.blank, post := mput HbPost.blank s2.dst.post n post } }
  let s4 := (((s3.put F.DST_HBSUM_TOTAL n total).setBit F.DST_HBSUM_GAP n gap).put F.DST_HBSUM_PEAK n (peakBand a.max)).setBit
    F.DST_HBSUM_HBX n x
  if x && !s.bit F.DST_HBSUM_HBX n then raise 24 n (s4.put F.DST_HBSUM_HBXL n 1) else s4

/-- A period of 200 ms ends: the bands of every enabled stream are posted (R186, R187), once no higher work waits (R170). -/
def lowBandPeriod (t : Nat) (ls : List StreamRun) (s : State) : State :=
  if running s && !hbOff s && !windowsWait s && t % 200000000 == 0 then
    let s1 := (List.range 144).foldl (fun s n =>
      if chanOn s n then postPeriod (if brings ls n then some (lowBands s ls n t) else none) n s else s) (reachTime t s)
    { s1 with dst := { s1.dst with perT := t, lowGap := false } }
  else s

/-! ### The page (R189) -/

def startHbHold (n : Nat) (s : State) : State :=
  let h : HbHold :=
    { n := n, post := mget HbPost.blank s.dst.post n, total := s.fld F.DST_HBSUM_TOTAL n, gap := s.fld F.DST_HBSUM_GAP n
      hbx := s.fld F.DST_HBSUM_HBX n, hbxl := s.fld F.DST_HBSUM_HBXL n, peak := s.fld F.DST_HBSUM_PEAK n }
  { s with dst := { s.dst with hold := some h } }.put F.DST_HBSEL_HOLD 0 1

def endHbHold (s : State) : State := { s with dst := { s.dst with hold := none } }.put F.DST_HBSEL_HOLD 0 0

/-- A write of DST_HBSEL (R189): a change of STREAM shows the new stream at once. -/
def hbSelect (hold : Bool) (n : Nat) (s : State) : State :=
  let s0 := { s with dst := { s.dst with expired := false } }
  let s1 := (s0.put F.DST_HBSEL_EXP 0 0).put F.DST_HBSEL_STREAM 0 n
  let same := match s.dst.hold with
    | some h => h.n == n
    | none => false
  if hold && decide (n < 144) then (if same then s1 else startHbHold n (endHbHold s1)) else endHbHold s1

/-- The page's hold ends after 1 s: EXP (R189). -/
def hbHoldExpire (s : State) : State := if s.dst.hold.isSome then (endHbHold s).put F.DST_HBSEL_EXP 0 1 else s

/-- The 1 s of the page's hold has passed while HCLK stood still: the hold ends with the next burst (R25). -/
def hbOver (s : State) : State :=
  if s.dst.expired then hbHoldExpire { s with dst := { s.dst with expired := false } } else s

end Sys2Proof.Machine
end

