-- ==== Sys2Proof/Machine/ItnRules.lean ====
section
/-! DEFINITION. Itinerary: the regions and the registers they fill, the records of a region body, and the rules of the owning
chapters by which a region is rejected (R307, R309, R310, Table 15-4). -/

namespace Sys2Proof.Machine

/-! ### Regions (Table 15-2) -/

/-- The region whose body fills the register at this address. -/
def regionOf (addr : Nat) : Option Nat :=
  match addr / 65536 with
  | 0x01 => some 1
  | 0x02 => some 1
  | 0x03 => some 2
  | 0x04 => some 3
  | 0x07 => some 4
  | 0x08 => some 5
  | 0x0C => some 5
  | 0x0D => some 0
  | 0x0E => some 0
  | 0x10 => some 7
  | 0x11 => some 8
  | 0x12 => some 0
  | 0x15 => some 6
  | 0x16 => some 6
  | 0x17 => some 0
  | 0x18 => some 9
  | 0x19 => some 0
  | _ => none

/-- A LIVE field of class I: one that the itinerary fills. -/
def Fld.cfg (f : Fld) : Bool := f.acc == .live && f.cls == .I

/-- The fields of a region. -/
def regionFlds (r : Nat) : List Fld :=
  (regTable.filter fun w => regionOf w.base == some r).flatMap fun w => w.fields.filter Fld.cfg

/-- A store of fields with every field of region r at its reset value. -/
def clearRegion (r : Nat) (m : SMap Nat) : SMap Nat :=
  let ids := (regionFlds r).map (·.id)
  m.filter fun e => !ids.contains (e.1 / 65536)

/-- The largest body of a region, in bytes (Table 15-2). -/
def maxBody (r : Nat) : Nat :=
  1024 * match r with
  | 0 => 4
  | 1 => 8
  | 2 => 4
  | 3 => 16
  | 4 => 4
  | 5 => 16
  | 6 => 8
  | 7 => 4
  | 8 => 8
  | 9 => 16
  | _ => 384

/-- Regions whose changes take effect at the next main power-up (Table 15-2). -/
def lateRegion (r : Nat) : Bool := r == 0 || r == 7 || r == 8

/-! ### Records (R309) -/

/-- The records of a body: ADDR and values. None where the last record is cut short. -/
def parseRecs : Nat → List Nat → Option (List (Nat × List Nat))
  | 0, l => if l = [] then some [] else none
  | n + 1, l =>
    match l with
    | [] => some []
    | w :: rest =>
      let k := w / 2 ^ 24 % 256
      if rest.length < k then none
      else (parseRecs n (rest.drop k)).map fun rs => (w % 2 ^ 24, rest.take k) :: rs

/-- Do records run in ascending ADDR order without overlap? `last` is the address before and `free` the first one that may
follow. -/
def recsAscend : Option Nat → Nat → List (Nat × List Nat) → Bool
  | _, _, [] => true
  | last, free, (a, vs) :: rest =>
    (match last with
      | none => true
      | some b => decide (b < a)) && decide (free ≤ a) && recsAscend (some a) (a + 4 * vs.length) rest

/-- The addresses and values that records write. -/
def recWrites (rs : List (Nat × List Nat)) : List (Nat × Nat) :=
  rs.flatMap fun p => p.2.zipIdx.map fun v => (p.1 + 4 * v.2, v.1)

/-- Does a write name only LIVE fields of class I of region r (code 9)? -/
def writeNames (r : Nat) (w : Nat × Nat) : Bool :=
  match regAt w.1 with
  | none => false
  | some p =>
    let fs := fieldsAt p.1 p.2
    regionOf w.1 == some r && fs.any Fld.cfg && fs.all fun f => f.cfg || f.slice w.2 == 0

/-- Does a write hold its reserved bits at zero (code 10)? -/
def writeReserved (w : Nat × Nat) : Bool :=
  match regAt w.1 with
  | none => true
  | some p => (fieldsAt p.1 p.2).foldl (fun a f => a + f.slice w.2 * 2 ^ f.lo) 0 == w.2 % 2 ^ 32

/-- A store of fields after one write of a record. -/
def putWrite (m : SMap Nat) (w : Nat × Nat) : SMap Nat :=
  match regAt w.1 with
  | none => m
  | some p => ((fieldsAt p.1 p.2).filter Fld.cfg).foldl (fun m f => fput m f p.2 (f.slice w.2)) m

/-- A store of fields after one word is written to the LIVE fields of class I of a register. -/
def loadWrites (r : Nat) (ws : List (Nat × Nat)) (m : SMap Nat) : SMap Nat := ws.foldl putWrite (clearRegion r m)

/-- The writes of a body, or the code it is refused with (R309, codes 9 and 10). -/
def bodyWrites (r : Nat) (body : List Nat) : Nat ⊕ List (Nat × Nat) :=
  match parseRecs body.length body with
  | none => .inl 9
  | some rs =>
    let ws := recWrites rs
    if !(recsAscend none 0 rs && ws.all (writeNames r)) then .inl 9
    else if !ws.all writeReserved then .inl 10 else .inr ws

/-! ### Rules of the owning chapters (code 11) -/

/-- Is channel n enabled in a store of fields? EN of a bitstream channel is ignored while its group is disabled (Table 03-7). -/
def cfgOn (m : SMap Nat) (n : Nat) : Bool :=
  fget m F.INP_CFG_EN n == 1 && (decide (n < 112) || fget m F.INP_BSG_EN ((n - 112) / 16) == 1)

/-- May a channel of this kind use SENSOR k (Table 03-2)? -/
def sensorOk (n k : Nat) : Bool :=
  match k with
  | 0 => decide (n < 96) || decide (112 ≤ n)
  | 1 => decide (n < 96)
  | 2 => decide (n < 96)
  | 3 => true
  | 4 => decide (96 ≤ n)
  | _ => false

/-- The checks of R49 and R54 on one channel. -/
def inpChanOk (m : SMap Nat) (n : Nat) : Bool :=
  !cfgOn m n ||
    (sensorOk n (fget m F.INP_CFG_SENSOR n)
      && (decide (112 ≤ n) || (decide (fget m F.INP_CFG_RANGE n ≤ 4) && decide (fget m F.INP_CFG_BURN n ≤ 2)))
      && (!(decide (96 ≤ n) && decide (n < 112)) || fget m F.INP_CFG_RANGE n == 0))

/-- Is stream n a voltage by the test of R119? -/
def streamVolt (m : SMap Nat) (n : Nat) : Bool :=
  (decide (96 ≤ n) && decide (n < 112))
    || (decide (112 ≤ n) && decide (n < 144) && (let k := fget m F.INP_CFG_SENSOR n; k == 3 || k == 4))

/-- Is stream n a current by the test of R119? -/
def streamAmp (m : SMap Nat) (n : Nat) : Bool :=
  decide (n < 96) || (decide (112 ≤ n) && decide (n < 144) && (let k := fget m F.INP_CFG_SENSOR n; k == 0 || k == 3))

/-- Is a channel reference a voltage, or a current (`volt` false)? A member of the caravan knows the sensor of its own
bitstream channels alone, so a remote bitstream channel passes for either. -/
def refKind (m : SMap Nat) (volt : Bool) (r : Nat) : Bool :=
  let n := refStream r
  if refRem r then !refVirt r && (decide (112 ≤ n) && decide (n < 144) || (if volt then streamVolt m n else streamAmp m n))
  else if volt then streamVolt m n else streamAmp m n

/-- The enabled entries of virtual sum v. -/
def sumRefs (m : SMap Nat) (v : Nat) : List Nat :=
  (List.range 8).filterMap fun k => if fget m F.MTR_VS_EN (8 * v + k) = 1 then some (fget m F.MTR_VS_REF (8 * v + k)) else none

/-- The rule of R120 on sum v. -/
def sumOk (m : SMap Nat) (v : Nat) : Bool :=
  let es := sumRefs m v
  es.all (fun e => !refVirt e && decide (refStream e < 144))
    && (es.all (refKind m true) || es.all (refKind m false))

/-- Is a reference of a meter a voltage, or a current, a channel or a sum of them that is not empty (R119, R120)? -/
def inputOk (m : SMap Nat) (volt : Bool) (r : Nat) : Bool :=
  if refVirt r then
    !refRem r && sumRefs m (r % 16) != [] && (sumRefs m (r % 16)).all (refKind m volt)
  else refKind m volt r

/-- Does the region make this device the caravan head? -/
def cfgHead (m : SMap Nat) : Bool := fget m F.CVN_CFG_EN 0 == 1 && fget m F.CVN_CFG_PAIR 0 == 0

/-- Is grid group g enabled? -/
def grpOn (m : SMap Nat) (g : Nat) : Bool := fget m F.GRD_CFG_EN g == 1

/-- Is meter m enabled? -/
def mtrOn (f : SMap Nat) (m : Nat) : Bool := fget f F.MTR_CFG_EN m == 1

/-- The rules of R72 on meter k: all its local channels are enabled. -/
def mtrChansOn (m : SMap Nat) (k : Nat) : Bool := !mtrOn m k || (cfgStreams (mtrRegs m k)).all (cfgOn m)

/-- Is a word a normal, nonzero, finite binary32 value (R121)? -/
def b32Normal (w : Nat) : Bool := let e := w / 2 ^ 23 % 256; e != 0 && e != 255

/-- Is a word a positive finite binary32 value? -/
def b32Pos (w : Nat) : Bool := b32Fin w && decide (w < 2 ^ 31) && w != 0

/-- Does an element name a voltage and a current where the type uses it, and neither where not (R119)? -/
def elementOk (m : SMap Nat) (k i : Nat) : Bool :=
  let u := fget m (uref i) k
  let c := fget m (iref i) k
  if usesEl (fget m F.MTR_CFG_TYPE k) i then inputOk m true u && inputOk m false c else refNone u && refNone c

/-- The rules of R119, R120 and R121 on meter k, and that of INOM. A reserved TYPE (5 to 7) uses no element and is accepted with no
channels; R117 says only that the codes are reserved (DESIGN CHOICE). -/
def mtrOk (m : SMap Nat) (k : Nat) : Bool :=
  let c := mtrRegs m k
  !mtrOn m k ||
    ((List.range 3).all (elementOk m k)
      && (dcType c.type || decide (4 < c.type) || grpOn m c.gg)
      && (!c.ah || dcType c.type)
      && (cfgHead m || cfgRemotes c == [])
      && decide (c.pace ≤ 4)
      && (c.starti == 0 || b32Pos c.inom)
      && (cfgStreams c).all fun n => b32Normal (fget m F.MTR_SCALE_K n))

/-- The accumulator that registration r names, where it is enabled. -/
def regAcc (m : SMap Nat) (r : Nat) : Option Nat :=
  if fget m F.MTR_REG_EN r = 1 then
    some (64 * fget m F.MTR_REG_METER r + 16 * fget m F.MTR_REG_SET r + fget m F.MTR_REG_QTY r)
  else none

/-- Does Table 06-4 give accumulator a to its meter's type, with the sets the type uses (R138, R141)? -/
def accDefined (m : SMap Nat) (a : Nat) : Bool :=
  let k := a / 64
  decide (k < 48) && usesSet (fget m F.MTR_CFG_TYPE k) (a / 16 % 4)
    && usesQty (fget m F.MTR_CFG_TYPE k) (fget m F.MTR_CFG_AH k == 1) (a % 16)

/-- The rules on registrations (R138). -/
def regsOk (m : SMap Nat) : Bool :=
  let l := (List.range 100).filterMap (regAcc m)
  decide l.Nodup && l.all (accDefined m)

/-- The rule of R141 on output c. EN alone makes an output one of those tested: an output with EN 1 and PCONST 0, which never
pulses, is judged by its SRC and WIDTH too; the rule does not say whether it is an enabled one (DESIGN CHOICE). -/
def plsOk (m : SMap Nat) (c : Nat) : Bool :=
  let a := fget m F.PLS_CFG_SRC c
  let w := fget m F.PLS_CFG_WIDTH c
  fget m F.PLS_CFG_EN c == 0 || (decide (1 ≤ w) && decide (w ≤ 7680) && mtrOn m (a / 64) && accDefined m a)

/-- Is stream n a member of group g? -/
def memberOf (m : SMap Nat) (n g : Nat) : Bool := fget m F.GRD_CHAN_EN n == 1 && fget m F.GRD_CHAN_GG n == g

/-- The rules of R157 and R158 on group g. -/
def grdOk (m : SMap Nat) (g : Nat) : Bool :=
  let r := fget m F.GRD_CFG_REF g
  !grpOn m g ||
    (refLocal r && streamVolt m (refStream r) && cfgOn m (refStream r) && memberOf m (refStream r) g
      && b32Pos (fget m F.GRD_UNOM_UNOM g) && decide (fget m F.GRD_LIM_UDROP g < fget m F.GRD_LIM_ULOCK g))

/-- The rules of R158 on a member channel. -/
def memberOk (m : SMap Nat) (n : Nat) : Bool :=
  fget m F.GRD_CHAN_EN n == 0 ||
    (grpOn m (fget m F.GRD_CHAN_GG n)
      && (if fget m F.GRD_CHAN_KIND n = 0 then streamVolt m n else streamAmp m n))

/-- No group that an enabled meter of TYPE 0 to 2 names is disabled (R158). -/
def metersGrouped (m : SMap Nat) (k : Nat) : Bool :=
  !mtrOn m k || decide (2 < fget m F.MTR_CFG_TYPE k) || grpOn m (fget m F.MTR_CFG_GG k)

/-- The rules of R179 on group g. -/
def dstOk (m : SMap Nat) (g : Nat) : Bool :=
  let dip := fget m F.DST_GTHR_DIPTH g
  let swl := fget m F.DST_GTHR_SWLTH g
  let int := fget m F.DST_GCFG_INTTH g
  let hy := fget m F.DST_GCFG_HYST g
  let rvc := fget m F.DST_GRVC_RVCTH g
  let dev := fget m F.DST_GFRQ_FDEV g
  fget m F.DST_GCFG_EN g == 0 ||
    ((dip == 0 || decide (dip + hy < 1000)) && (swl == 0 || decide (1000 + hy < swl))
      && (int == 0 || dip == 0 || decide (int + hy < dip))
      && (rvc == 0 || decide (fget m F.DST_GRVC_RVCHY g < rvc))
      && (dev == 0 || decide (fget m F.DST_GFRQ_FHYST g < dev)))

/-- The rule of R191 on stream n. -/
def arcOk (m : SMap Nat) (n : Nat) : Bool :=
  let k := fget m F.INP_CFG_SENSOR n
  fget m F.DST_ARC_EN n == 0 || (decide (n < 96) && (k == 0 || k == 3) && fget m F.GRD_CHAN_EN n == 0)

/-- The rules on the sequencer and the shunt compensation (R377, R383). -/
def sarOk (m : SMap Nat) : Bool :=
  let len := fget m F.SAR_CFG_LEN 0
  let ks := (List.range 8).filter fun k => fget m F.SAR_SHC_EN k == 1
  decide (len ≤ 32)
    && (len == 0 || fget m F.SAR_CFG_TRIG 0 == 1 || decide (10 ≤ fget m F.SAR_TMR_TPER 0))
    && decide ((ks.map fun k => fget m F.SAR_SHC_STREAM k).Nodup)
    && ks.all fun k =>
      let n := fget m F.SAR_SHC_STREAM k
      decide (n < 96) && fget m F.INP_CFG_SENSOR n == 0
        && (List.range len).any fun j => fget m F.SAR_SEQ_INPUT j == fget m F.SAR_SHC_AUX k

/-- The rules on the display (R387, R391). -/
def dspOk (m : SMap Nat) : Bool :=
  fget m F.DSP_CFG_EN 0 == 0 ||
    (decide (16 ≤ fget m F.DSP_CFG_FDIV 0)
      && (fget m F.DSP_CFG_MODE 0 == 0 || (List.range 8).all fun b => fget m F.DSP_ETIME_TDRV b != 0))

/-- The rules on the Wayline settings (R282, Table 14-12). -/
def wayOk (m : SMap Nat) : Bool :=
  let a := fget m F.WAY_CFG_NADDR 0
  decide (fget m F.WAY_CFG_CPL 0 ≤ 3) && fget m F.WAY_NET_AGE 0 != 0
    && (fget m F.WAY_CFG_EN 0 == 0 || (a != 0 && a != 0xFFFF))

/-- Do the settings in a store of fields keep every rule that the owning chapters state for region r (code 11)? -/
def regionRule (r : Nat) (m : SMap Nat) : Bool :=
  match r with
  | 0 => fget m F.TWN_CMP_CREL 0 != 0 && fget m F.TWN_CMP_CZ 0 != 0 && fget m F.TWN_CMP_CPERS 0 != 0 && sarOk m
  | 1 => (List.range 144).all (inpChanOk m) && (List.range 2).all (fun g => fget m F.INP_BSG_DRIVE g != 3)
      && (List.range 48).all (mtrChansOn m) && fget m F.RMT_CFG_MATCHLIM 0 != 0 && fget m F.RMT_CFG_CHKTOL 0 != 0
  | 2 => (List.range 144).all (fltCfgOk m)
  | 3 => (List.range 48).all (fun k => mtrOk m k && mtrChansOn m k) && (List.range 16).all (sumOk m) && regsOk m
  | 4 => (List.range 16).all (plsOk m)
  | 5 => (List.range 4).all (fun g => grdOk m g && dstOk m g) && (List.range 144).all (fun n => memberOk m n && arcOk m n)
      && (List.range 48).all (metersGrouped m)
  | 6 => (List.range 128).all (fun e => decide (fget m F.EVT_CFG_NSNAP e ≤ 8))
      && (List.range 1024).all fun i => (regAt (fget m F.EVT_SNAP_ADDR i)).isSome
  | 8 => wayOk m
  | 9 => dspOk m
  | _ => true

end Sys2Proof.Machine
end

