-- ==== Sys2Proof/Machine/Ledger.lean ====
section
/-! DEFINITION. Ledger and event sources: writing queued records, rate windows, pending bits and the interrupt lines, lookup
and acknowledgement (R363 to R371, R411). -/

namespace Sys2Proof.Machine

/-! ### Positions (R369) -/

/-- What a ledger position holds. -/
def ldgAt (s : State) (p : Nat) : LdgPos := mget LdgPos.empty s.ldg.pos p

/-- Sets a ledger position. -/
def setPos (p : Nat) (x : LdgPos) (s : State) : State := { s with ldg := { s.ldg with pos := mput LdgPos.empty s.ldg.pos p x } }

/-- Does a position count as empty? A BAD one does (R369). -/
def posFree (s : State) (p : Nat) : Bool :=
  match ldgAt s p with
  | .empty => true
  | .bad _ => true
  | .held _ => false
  | .fenced => false

/-- The position with the lowest RSEQ among sound records that pass a test. -/
def oldest (s : State) (f : LdgRec → Bool) : Option Nat :=
  (((heldRecs s.ldg.pos).filter fun p => f p.2).foldl (fun (a : Option (Nat × Nat)) p =>
    match a with
    | none => some (p.1, p.2.rseq)
    | some b => if p.2.rseq < b.2 then some (p.1, p.2.rseq) else some b) none).map (·.1)

/-- The position that a new record of this severity goes to, and whether it overwrites a record that is not acknowledged
(R369). Which empty position it takes is open. -/
def choosePos (s : State) (sev : Nat) : Option (Nat × Bool) :=
  let free := (List.range 2048).filter (posFree s)
  if free ≠ [] then some (free.getD (Config.ledgerPick (s.ldg.lastSeq + 1) % free.length) 0, false)
  else match oldest s fun r => decide (r.rseq ≤ s.fld F.LDG_ACK_ACK) with
    | some p => some (p, false)
    | none => (oldest s fun r => decide (r.sev ≤ sev)).map fun p => (p, true)

/-- Writes a record to the position that R369 chooses, with the next RSEQ; drops and counts it where there is none. A NOSITE
record takes the instant of writing (Table 18-2). -/
def placeRec (r : LdgRec) (s : State) : State :=
  match choosePos s r.sev with
  | none => { s with flds := countDrop s.flds true }
  | some (p, ovw) =>
    let n := s.ldg.lastSeq + 1
    let s1 := setPos p (.held { r with rseq := n, stime := if r.nosite then s.clk.site else r.stime }) s
    let s2 := { s1 with ldg := { s1.ldg with lastSeq := n } }
    let s3 := if ovw then s2.put F.LDG_ST_OVWL 0 1 else s2
    if s3.ldg.flush then s3.inc F.PWR_PF_NREC else s3

/-! ### Writing (R368, R370) -/

/-- The bucket refilled to the present instant: 4 records per second, up to 64. -/
def refill (s : State) : State :=
  { s with ldg := { s.ldg with
      bucket := min (64 * 250000000) (s.ldg.bucket + (s.clk.now - s.ldg.bucketT)), bucketT := s.clk.now } }

/-- The record to be written next, and the queue without it: the oldest; after a final checkpoint of a power-fail, the
oldest of the highest severity (R370). -/
def nextRec (l : LdgSt) : Option (LdgRec × List LdgRec) :=
  if l.flush then
    let m := l.queue.foldl (fun a r => max a r.sev) 0
    (l.queue.find? fun r => r.sev == m).map fun r => (r, l.queue.eraseP fun x => x.sev == m)
  else match l.queue with
    | [] => none
    | r :: rest => some (r, rest)

/-- One queued record is written where the controller runs, no final checkpoint is being written, and the bucket holds a
record or the flush of a power-fail needs none. -/
def ledgerWrite (s : State) : State :=
  let s1 := refill s
  if ctlOn s1 && vaultFree s1 5 && (s1.ldg.flush || decide (250000000 ≤ s1.ldg.bucket)) then
    match nextRec s1.ldg with
    | none => s1
    | some (r, q) =>
      let b := if s1.ldg.flush then s1.ldg.bucket else s1.ldg.bucket - 250000000
      placeRec r { s1 with ldg := { s1.ldg with queue := q, bucket := b } }
  else s1

/-! ### Rate windows (R367) -/

/-- The window of code e closes: a nonzero count of suppressed raises yields a summary. -/
def rateClose (e : Nat) (s : State) : State :=
  let w := mget RateWin.closed s.ldg.windows e
  let s1 := { s with ldg := { s.ldg with windows := mput RateWin.closed s.ldg.windows e RateWin.closed } }
  if w.opened && w.suppressed != 0 then
    putRec s1 (mkSummary s1 e (s1.fld F.EVT_CFG_SEV e) w.lastDetail w.suppressed w.firstT w.lastT)
  else s1

def execRateWindowClose (e : Fin 128) (s : State) : Res := .next (if mainOn s then rateClose e s else s)

/-- An apply of the EVENTS region closes every open window (R367). -/
def rateCloseAll (s : State) : State := (List.range 128).foldl (fun s e => rateClose e s) s

/-! ### Pending bits and lines (R363, R411) -/

/-- Is event e, by number, routed by this field? -/
def routedBy (s : State) (f : Fld) (l : List Nat) : Bool := l.any fun e => s.bit f e

/-- The pending events. -/
def pendingList (s : State) : List Nat := (List.range 128).filter (pendingEvt s)

/-- A write that clears bits of EVT_PEND[k]. A line is released for 500 ns where the write has cleared an event routed to it
and left another pending. A bit that a command raises in the same clock cycle stays set: that command is queued after the clear
(R10). -/
def evtPendClear (k mask : Nat) (s : State) : State :=
  let old := s.fld F.EVT_PEND_PEND k
  let gone := (List.range 32).filterMap fun b => if old.testBit b && mask.testBit b then some (32 * k + b) else none
  let s1 := s.put F.EVT_PEND_PEND k (old &&& (mask ^^^ 0xFFFFFFFF))
  let gap := fun f : Fld => routedBy s1 f gone && routedBy s1 f (pendingList s1)
  { s1 with evt := { gap0 := s1.evt.gap0 || gap F.EVT_CFG_IRQ0, gap1 := s1.evt.gap1 || gap F.EVT_CFG_IRQ1 } }

def execEvtPendClear (k : Fin 4) (mask : Word) (s : State) : Res :=
  .next (if mainOn s then evtPendClear k mask.toNat s else s)

/-- A line released by R411 is asserted again. -/
def irqReassert (line : Nat) (s : State) : State :=
  if line = 0 then { s with evt := { s.evt with gap0 := false } } else { s with evt := { s.evt with gap1 := false } }

def execIrqReassert (line : Fin 2) (s : State) : Res := .next (irqReassert line s)

/-! ### The index, lookup and acknowledgement (R370, R371) -/

/-- The record of a position is lost, its block having failed twice: BAD, or fenced where no spare block replaces it (R251, R369,
R370). -/
def loseRecord (p : Nat) (words : List Nat) (scrub : Bool) (s : State) : State :=
  retireBlock (1024 + p) scrub (setPos p (if blockSpare s (1024 + p) then .bad words else .fenced) s)

/-- A record failed its CRC twice at the index build: BAD, and a permanent fault of class 4 (R248, R370). -/
def badRecord (x : Nat × List Nat) (s : State) : State :=
  match ldgAt s x.1 with
  | .held _ => loseRecord x.1 x.2 false s
  | _ => s

/-- The index is built (R370). `bad`: positions whose record failed its CRC twice, with the words as read; `once`: those that
failed once. RSEQ continues from the highest sound one. -/
def indexBuilt (bad : List (Nat × List Nat)) (once : List Nat) (s : State) : State :=
  let s1 := once.foldl (fun s p => transient 4 0 (1024 + p) false false s) s
  let s2 := bad.foldl (fun s x => badRecord x s) s1
  { s2 with ldg := { s2.ldg with lastSeq := ldgLast s2.ldg.pos } }.put F.LDG_ST_READY 0 1

def execLedgerIndexBuilt (bad : List (Fin 2048 × List Word)) (once : List (Fin 2048)) (s : State) : Res :=
  .next (if mainOn s && !s.bit F.LDG_ST_READY then
    indexBuilt (bad.map fun x => (x.1.toNat, x.2.map BitVec.toNat)) (once.map fun p => p.toNat) s else s)

/-- The position, the words and BAD of the record that LDG_SEL names: a sound record first, else a BAD one (R371). -/
def findRec (s : State) (n : Nat) : Option (Nat × List Nat × Bool) :=
  match (heldRecs s.ldg.pos).find? fun p => p.2.rseq == n with
  | some p => some (p.1, leToWords 16 (recBytes p.2), false)
  | none => s.ldg.pos.findSome? fun e =>
    match e.2 with
    | .bad ws => if ws.getD 0 0 = n then some (e.1, ws, true) else none
    | _ => none

/-- A write of LDG_SEL: the lookup completes (R371). -/
def ledgerLookup (n : Nat) (s0 : State) : State :=
  let s := vaultRead (.ledger 0) s0
  let r := if s.bit F.LDG_ST_READY then findRec s n else none
  let ws := (r.elim [] fun x => x.2.1)
  let s1 := ((((s.put F.LDG_SEL_RSEQ 0 n).setBit F.LDG_RINFO_FOUND 0 r.isSome).setBit F.LDG_RINFO_BAD 0 (r.elim false (·.2.2))).put
    F.LDG_RINFO_BUSY 0 0).put F.LDG_RINFO_POS 0 (r.elim 0 (·.1))
  (List.range 16).foldl (fun s i => s.put F.LDG_REC_DATA i (ws.getD i 0)) s1

def execLedgerLookup (rseq : Word) (s : State) : Res := .next (if mainOn s then ledgerLookup rseq.toNat s else s)

/-- A write of LDG_ACK by a privileged session: held to LAST (Table 18-7). -/
def ledgerAck (n : Nat) (s : State) : State := s.put F.LDG_ACK_ACK 0 (min n (viewF s F.LDG_LAST_LAST 0))

def execLedgerAckWrite (ack : Word) (s : State) : Res :=
  .next (if mainOn s && privileged s then ledgerAck ack.toNat s else s)

end Sys2Proof.Machine
end

