-- ==== Sys2Proof/Machine/Pulses.lean ====
section
/-! DEFINITION. Pulse outputs: the meanings of their commands (R144, R147, R154). -/

namespace Sys2Proof.Machine

/-- One pulse tick of every output; bit c of `net` is 1 where the net of CFc reads low (R144, R145). -/
def pulseTick (net : BitVec 16) (s : State) : State :=
  if running s then (List.range 16).foldl (fun s c => tickOut (net.getLsbD c) c s) s else s

def execPulseTick (net : BitVec 16) (s : State) : Res := .next (pulseTick net s)

/-- WIDTH ticks after its start a pulse ends, and its driver releases the pin (R144). -/
def pulseEnd (c : Nat) (s : State) : State :=
  let o := getOut s c
  match o.busy with
  | some t => if o.pw ≤ t then setOut c { o with busy := none, driving := false } s else s
  | none => s

def execPulseEnd (c : Out) (s : State) : Res := .next (pulseEnd c s)

/-- 96 consecutive agreeing ticks clear PINERR (R147). -/
def pinClear (c : Nat) (s : State) : State :=
  if 96 ≤ (getOut s c).agree then s.put F.PLS_ST_PINERR c 0 else s

def execPinerrClear (c : Out) (s : State) : Res := .next (pinClear c s)

/-- Does output c pulse under the settings that its registers hold? -/
def plsRegsLive (s : State) (c : Nat) : Bool := s.bit F.PLS_CFG_EN c && s.fld F.PLS_CONST_PCONST c != 0

/-- Is output c disabled before and after an update, so that the update takes effect at the apply instant (R154)? -/
def plsIdle (s : State) (c : Nat) : Bool := !(getOut s c).live && !plsRegsLive s c

/-- The meter at whose interval end an output's new settings take effect: the one that the update names, where it enables the
output or gives it a new source, else the present one (R154). -/
def pulseMeter (s : State) (c : Nat) : Nat :=
  let o := getOut s c
  if !o.live || s.fld F.PLS_CFG_SRC c != o.src then s.fld F.PLS_CFG_SRC c / 64 else o.src / 64

/-- At the first interval end of its source meter an output takes the PULSES settings that the registers hold (R154). -/
def pulsesApplyAt (c : Nat) (s : State) : State :=
  if running s && (plsIdle s c || meterAtBoundary s (pulseMeter s c)) then pulsesApply c s else s

def execPulsesApply (c : Out) (s : State) : Res := .next (pulsesApplyAt c s)

end Sys2Proof.Machine
end

