-- ==== Sys2Proof/Machine/Strongbox.lean ====
section
/-! DEFINITION. Strongbox, passport and life cycle: the meanings of their commands (R324 to R340). -/

namespace Sys2Proof.Machine

/-- Draws a value from the on-chip random source. -/
def draw (s : State) : Nat × State := ((Config.random s.rng).toNat, { s with rng := s.rng + 1 })

/-! ### Keys -/

/-- The device identity, little-endian. -/
def uidBytes : List Nat := leBytes 8 Config.uid.toNat

/-- The transport key of slot 3 (R324). -/
def transportKey : List Nat := hmac256 (leBytes 32 Config.factoryRoot.toNat) ([0x54, 0x4B] ++ uidBytes)

/-- The key of a stored slot, where it is usable: written, not bad, and the strongbox not wiped. -/
def slotKey (s : State) (i : Nat) : Option (List Nat) :=
  if wiped s || slotBad s i then none else (mget none s.sbx.slots i).map (·.key)

/-- Writes or empties a slot; a fenced copy stays bad (R251, R326). -/
def setSlotKey (i : Nat) (k : Option KeySlot) (s : State) : State :=
  let k1 := k.map fun x : KeySlot => { x with aBad := x.aBad || slotFenced s i false, bBad := x.bBad || slotFenced s i true }
  { s with sbx := { s.sbx with slots := mput none s.sbx.slots i k1 } }

/-- The bytes of n words of a byte window. -/
def windowBytes (s : State) (f : Fld) (n : Nat) : List Nat := wordsToLe ((List.range n).map fun i => s.fld f i)

/-! ### The Vault records of the slots (R325, R326) -/

/-- KEK, from KF and KB; none while KB is absent. -/
def kek (s : State) : Option (List Nat) :=
  s.sbx.kb.map fun b => hmac256 (leBytes 16 Config.fuseKey.toNat ++ leBytes 16 b) [0x4B, 0x45, 0x4B]

/-- The plaintext of slot i (Table 16-2). -/
def slotPlain (i : Nat) (k : Option KeySlot) : List Nat :=
  match k with
  | none => [0, i, 0, 0] ++ List.replicate 44 0
  | some x => [if i < 8 then 1 else 2, i, x.key.length, 0] ++ leBytes 2 x.peer ++ [0, 0] ++ leBytes 4 x.ver ++ [0, 0, 0, 0]
      ++ (x.key ++ List.replicate 32 0).take 32

/-- The mask of slot i in full mode: three blocks of the slot and their index, enciphered under KEK. -/
def slotMask (k : List Nat) (i : Nat) : List Nat :=
  (List.range 3).flatMap fun j => aesEnc k ([i, j] ++ List.replicate 14 0)

/-- The 64 bytes of a record of slot i: wrapped in compact mode, masked with a CRC-32 in full mode. -/
def slotRecord (full : Bool) (k : List Nat) (i : Nat) (x : Option KeySlot) : List Nat :=
  if full then
    let m := aesXor (slotPlain i x) (slotMask k i)
    m ++ leBytes 4 (crc32 m) ++ List.replicate 12 0
  else kwWrap k (slotPlain i x) ++ List.replicate 8 0

/-- The record position of slot i. -/
def slotPlace (full : Bool) (k : List Nat) (i : Nat) : Nat := if full then (Config.slotPerm (ofLe k) (Fin.ofNat 256 i)).val else i

/-- What the Vault holds of the slots while KB is present: the record at each position, the same in copies A and B. -/
def vaultSlots (s : State) : List (Nat × List Nat) :=
  match kek s with
  | none => []
  | some k =>
    let full := s.bit F.SBX_ST_MODE
    (List.range (if full then 256 else 16)).map fun i => (slotPlace full k i, slotRecord full k i (mget none s.sbx.slots i))

/-- Posts a byte string in a window. -/
def postBytes (f : Fld) (l : List Nat) (s : State) : State :=
  (leToWords ((l.length + 3) / 4) l).zipIdx.foldl (fun s p => s.put f p.2 p.1) s

/-! ### Wipe (R325, R332, R333) -/

/-- A wipe that has been found shows in SBX_ST, with event 72 the first time (R333). -/
def showWipe (s : State) : State :=
  if s.sbx.wipe = 0 then s
  else
    let s1 := ((s.put F.SBX_ST_WIPED 0 1).put F.SBX_ST_WCAUSE 0 s.sbx.wipe)
    if s.sbx.reported then s1
    else
      let s2 := { s1 with sbx := { s1.sbx with reported := true } }
      raise 72 s.sbx.wipe (s2.put F.SBX_ST_WIPEL 0 1)

/-- KB is lost. Where it was present the strongbox is wiped by this cause: event 72 at once with main power present, at
the next main power-up otherwise. -/
def loseKb (cause : Nat) (s : State) : State :=
  if s.sbx.kb.isSome then
    let s1 := { s with sbx := { s.sbx with kb := none, wipe := cause, reported := false } }
    if mainOn s1 then showWipe s1 else s1
  else s

/-- The tamper wipe line: it clears KB only IN SERVICE (R332). -/
def tamperWipe (s : State) : State := if lcs s = 2 then loseKb 1 (s.put F.PRT_ST_WLINE 0 1) else s

/-- A bundle cut short is found at main power-up (R330). -/
def interruptedBundle (s : State) : State :=
  match s.sbx.pending with
  | none => s
  | some x =>
    let s1 := { s with sbx := { s.sbx with slots := [], kb := none, pending := none, wipe := 4, reported := false } }
    showWipe ((s1.put F.SBX_ST_LCS 0 x.1).put F.SBX_ST_MODE 0 x.2)

/-! ### Key messages (R327 to R331) -/

/-- The transitions of Table 16-6. -/
def transitionOk (a b : Nat) : Bool :=
  match a with
  | 0 => b == 1 || b == 4
  | 1 => b == 1 || b == 2 || b == 3 || b == 4
  | 2 => b == 2 || b == 3 || b == 4
  | 3 => b == 1 || b == 3 || b == 4
  | _ => false

/-- The 48 bytes of entry i of a message. -/
def entryBytes (m : List Nat) (i : Nat) : List Nat := (m.drop (24 + 48 * i)).take 48

/-- Is an entry well formed: SLOT 0 to 2, KLEN 32 or, in a KEY message, 0; zeros where zero is asked (Table 16-4)? -/
def entryOk (bundle : Bool) (e : List Nat) : Bool :=
  decide (e.getD 0 0 ≤ 2) && ((e.drop 2).take 6).all (· == 0)
    && (e.getD 1 0 == 32 || (e.getD 1 0 == 0 && !bundle && (e.drop 8).all (· == 0)))

/-- Is a message of n bytes well formed (code 2 of Table 16-5)? -/
def messageOk (m : List Nat) (n : Nat) : Bool :=
  let k := m.getD 0x14 0
  let kind := m.getD 5 0
  let es := (List.range k).map (entryBytes m)
  ofLe (m.take 4) == 0x5342584D && m.getD 4 0 == 1 && (kind == 1 || kind == 2) && decide (m.getD 6 0 ≤ 1)
    && (kind == 1 || m.getD 6 0 == 0) && (if kind = 1 then m.getD 7 0 == 0xFF else decide (m.getD 7 0 ≤ 4))
    && decide (k ≤ 4) && n == 56 + 48 * k && (if kind = 1 then m.getD 0x15 0 == 0 else decide (m.getD 0x15 0 ≤ 1))
    && m.getD 0x16 0 == 0 && m.getD 0x17 0 == 0 && es.all (entryOk (kind == 2))
    && decide ((es.map (·.getD 0 0)).Nodup)

/-- The authority key of a message: TK, or the update key unless it is empty, wiped or withheld (R327, R335). -/
def authorityKey (s : State) (auth : Nat) : Option (List Nat) :=
  if lcs s = 4 then none
  else if auth = 0 then some transportKey
  else if s.bit F.SBX_ST_ULOCK then none else slotKey s 0

/-- The entries of a message with their keys unwrapped; none where one fails (code 8). -/
def unwrapEntries (a m : List Nat) (k : Nat) : Option (List KeyEntry) :=
  let w := hmac256 a [0x57, 0x52, 0x41, 0x50]
  let es := (List.range k).map fun i =>
    let e := entryBytes m i
    if e.getD 1 0 = 0 then some ⟨e.getD 0 0, none⟩ else (kwUnwrap w (e.drop 8)).map fun x => KeyEntry.mk (e.getD 0 0) (some x)
  if es.all (·.isSome) then some (es.filterMap id) else none

/-- The outcome of the checks of Table 16-5, in ascending order: a code, or the message to apply. -/
def checkMessage (s : State) (n : Nat) : Nat ⊕ KeyMsg :=
  let m := (windowBytes s F.SBX_MWIN_DATA 64).take n
  let k := m.getD 0x14 0
  if s.bit F.SBX_MCTL_BUSY then .inl 1
  else if !messageOk m n then .inl 2
  else if (m.drop 8).take 8 ≠ uidBytes then .inl 3
  else match authorityKey s (m.getD 6 0) with
    | none => .inl 4
    | some a =>
      if hmac256 a (m.take (n - 32)) ≠ m.drop (n - 32) then .inl 5
      else if ofLe ((m.drop 0x10).take 4) ≤ s.fld F.SBX_SCNT_DATA then .inl 6
      else if m.getD 5 0 = 2 ∧ ¬ transitionOk (lcs s) (m.getD 7 0) then .inl 7
      else match unwrapEntries a m k with
        | none => .inl 8
        | some es => .inr ⟨if m.getD 5 0 = 2 then some (m.getD 7 0, m.getD 0x15 0) else none, es⟩

/-- A message is checked (R328). An accepted message takes step 1, and a BUNDLE its PENDING record (R329). -/
def keyCheck (n : Nat) (s : State) : State :=
  let s0 := s.put F.SBX_MCTL_MLEN 0 n
  if n = 0 then s0
  else match checkMessage s0 n with
    | .inl c => raise 74 noDetail ((s0.put F.SBX_MCTL_RESULT 0 c).put F.SBX_ST_REFL 0 1)
    | .inr x =>
      let m := windowBytes s0 F.SBX_MWIN_DATA 64
      let s1 := ((s0.put F.SBX_MCTL_RESULT 0 0).put F.SBX_MCTL_BUSY 0 1).put F.SBX_SCNT_DATA 0 (ofLe ((m.drop 0x10).take 4))
      let s2 := if m.getD 6 0 = 0 then s1.put F.SBX_ST_ULOCK 0 0 else s1
      { s2 with sbx := { s2.sbx with msg := some x, pending := x.bundle.orElse fun _ => s2.sbx.pending } }

/-- A write of SBX_MCTL with SUBMIT: an accepted message counts in SCNT, which waits for the Vault's write port (R20). -/
def keySubmit (n : Nat) (s : State) : State :=
  match (if n = 0 then .inl 0 else checkMessage s n) with
  | .inl _ => keyCheck n s
  | .inr _ => onVault 3 (.keySubmit n) (keyCheck n) s

def execKeyMessageSubmit (mlen : Fin 512) (s : State) : Res := .next (onCtl (.keySubmit mlen) (keySubmit mlen) s)

/-- Writes the entries of a message. -/
def writeEntries (es : List KeyEntry) (s : State) : State :=
  es.foldl (fun s e => setSlotKey e.slot (e.key.map fun k => KeySlot.mk k 0 (s.fld F.SBX_SCNT_DATA) false false) s) s

/-- A BUNDLE is applied (R329, step 3): every slot is emptied; unless the target is RETIRED a new KB is drawn and the
entries are written; for RETIRED the fuse is blown. -/
def applyBundle (target mode : Nat) (es : List KeyEntry) (s : State) : State :=
  let changed := decide (lcs s ≠ target)
  let p := if target = 4 then (0, s) else draw s
  let s1 := { p.2 with sbx := { p.2.sbx with slots := [], kb := if target = 4 then none else some p.1
                                             fuse := s.sbx.fuse || target == 4, pending := none, wipe := 0, reported := false } }
  let s2 := ((((s1.put F.SBX_ST_LCS 0 target).put F.SBX_ST_MODE 0 mode).put F.SBX_ST_WIPED 0 0).put F.SBX_ST_WCAUSE 0 0).put
    F.PRT_ST_WLINE 0 0
  let s3 := if target = 4 then s2 else writeEntries es s2
  let s4 := raise 73 noDetail s3
  if changed then raise 75 target (s4.put F.SBX_ST_LCL 0 1) else s4

/-- An accepted message completes (R329). -/
def keyApplied (s : State) : State :=
  match s.sbx.msg with
  | none => s
  | some m =>
    let s1 := { s with sbx := { s.sbx with msg := none } }.put F.SBX_MCTL_BUSY 0 0
    match m.bundle with
    | some b => applyBundle b.1 b.2 m.entries s1
    | none => raise 73 noDetail (writeEntries m.entries s1)

/-! ### Privileged sessions (R336) -/

/-- A new nonce is drawn. -/
def newNonce (s : State) : State :=
  let p := draw s
  postBytes F.SBX_NONCE_DATA (leBytes 16 p.1) p.2

/-- The session ends. -/
def privDrop (s : State) : State := s.put F.SBX_PRIV_PRIV 0 0

def execPrivDrop (s : State) : Res := .next (if mainOn s then privDrop s else s)

/-- Does the tag in SBX_AUTH open a session? -/
def tagOk (s : State) : Bool :=
  match slotKey s 2 with
  | none => false
  | some k =>
    hmac256 k ([0x50, 0x52, 0x49, 0x56] ++ windowBytes s F.SBX_NONCE_DATA 4 ++ uidBytes) == windowBytes s F.SBX_AUTH_DATA 8

/-- A write of SBX_PRIV.OPEN. -/
def privOpen (s : State) : State :=
  if s.bit F.SBX_PRIV_LOCK then newNonce s
  else if lcs s = 0 ∨ lcs s = 3 ∨ tagOk s then newNonce ((s.put F.SBX_PRIV_PRIV 0 1).put F.SBX_PRIV_FAILS 0 0)
  else
    let n := s.fld F.SBX_PRIV_FAILS + 1
    newNonce (raise 76 noDetail ((s.put F.SBX_PRIV_FAILS 0 (min 3 n)).setBit F.SBX_PRIV_LOCK 0 (decide (3 ≤ n))))

def execPrivOpen (s : State) : Res := .next (if mainOn s then privOpen s else s)

/-- The lock ends after 60 s. -/
def privLockExpire (s : State) : State :=
  if s.bit F.SBX_PRIV_LOCK then (s.put F.SBX_PRIV_LOCK 0 0).put F.SBX_PRIV_FAILS 0 0 else s

def execPrivLockExpire (s : State) : Res := .next (privLockExpire s)

/-- 300 s have passed since the last host frame. -/
def execPrivTimeout (s : State) : Res := .next (privDrop s)

/-! ### Open keys (R337) -/

/-- Is writing Open keys refused in this state: wiped, BLANK or RETIRED? -/
def openRefused (s : State) : Bool := wiped s || lcs s == 0 || lcs s == 4

/-- Is an Open slot of the present mode (Table 16-1)? -/
def openSlot (s : State) (i : Nat) : Bool := decide (8 ≤ i) && (decide (i < 16) || s.bit F.SBX_ST_MODE)

/-- PEER is bound already in another slot. -/
def peerBound (s : State) (i peer : Nat) : Bool :=
  s.sbx.slots.any fun e => e.1 != i && decide (10 ≤ e.1) && e.2.elim false fun k => k.peer == peer

/-- Does R337 refuse a write of an Open slot? -/
def openBad (erase : Bool) (i peer : Nat) (s : State) : Bool :=
  !openSlot s i || openRefused s || (decide (10 ≤ i) && !erase && (peer == 0 || peer == 0xFFFF || peerBound s i peer))

/-- An Open slot is written or emptied, or the write is refused. -/
def openWriteNow (erase : Bool) (i peer : Nat) (s : State) : State :=
  let key := windowBytes s F.SBX_KWIN_DATA 4
  let s1 := (((s.setBit F.SBX_OPCTL_ERASE 0 erase).put F.SBX_OPCTL_SLOT 0 i).put F.SBX_OPCTL_PEER 0 peer).put
    F.SBX_OPCTL_WRITE 0 0
  let s2 := (List.range 4).foldl (fun s j => s.put F.SBX_KWIN_DATA j 0) s1
  if openBad erase i peer s then s2.put F.SBX_OPCTL_REJ 0 1
  else
    let n := (mget none s.sbx.slots i).elim 0 (·.ver)
    raise 78 i ((setSlotKey i (if erase then none
      else some ⟨key, if 10 ≤ i then peer else 0, n + 1, false, false⟩) s2).put F.SBX_OPCTL_REJ 0 0)

/-- A write of SBX_OPCTL with WRITE: one that is not refused waits for the Vault's write port (R20). -/
def openWrite (erase : Bool) (i peer : Nat) (s : State) : State :=
  if openBad erase i peer s then openWriteNow erase i peer s else onVault 3 (.openWrite erase i peer) (openWriteNow erase i peer) s

/-- WRITE reads 1 until it is acted on. -/
def openAsk (erase : Bool) (i peer : Nat) (s : State) : State :=
  onCtl (.openWrite erase i peer) (openWrite erase i peer)
    ((((s.setBit F.SBX_OPCTL_ERASE 0 erase).put F.SBX_OPCTL_SLOT 0 i).put F.SBX_OPCTL_PEER 0 peer).put F.SBX_OPCTL_WRITE 0 1)

def execOpenKeyWrite (erase : Bool) (slot : Fin 256) (peer : BitVec 16) (s : State) : Res :=
  .next (if mainOn s && privileged s then openAsk erase slot peer.toNat s else s)

/-- A write of SBX_OPCTL with PROMOTE: acted on at the start of the next beacon period. -/
def openPromote (s : State) : State :=
  if openRefused s || (mget none s.sbx.slots 9).isNone then (s.put F.SBX_OPCTL_PROMOTE 0 0).put F.SBX_OPCTL_REJ 0 1
  else raise 78 8 ((s.put F.SBX_OPCTL_PROMOTE 0 1).put F.SBX_OPCTL_REJ 0 0)

def execOpenKeyPromote (s : State) : Res := .next (if privileged s then onCtl .openPromote openPromote s else s)

/-- A PROMOTE that waits is acted on (R337, R291): firmware writes the strongbox (Table 01-2) when the Vault's write port is free
(R20). -/
def promoteNow (s : State) : State :=
  if s.bit F.SBX_OPCTL_PROMOTE then
    let s1 := s.put F.SBX_OPCTL_PROMOTE 0 0
    match mget none s1.sbx.slots 9 with
    | some k => setSlotKey 9 none (setSlotKey 8 (some k) s1)
    | none => s1
  else s

/-- A beacon period starts while a PROMOTE waits. -/
def promoteDue (s : State) : State :=
  if s.bit F.SBX_OPCTL_PROMOTE then onCtlOnce .promote (onVault 3 .promote promoteNow) s else s

/-! ### Passport (R338) -/

/-- The 38 bytes that a response covers; `pcnt` is the count after it is raised. -/
def passportMsg (s : State) (pcnt : Nat) : List Nat :=
  let dirty := (List.range 11).any fun r => s.bit F.ITN_RST_DIRTY r
  let flags := s.fld F.FLTS_ST_DSTATE + 4 * s.fld F.ITN_ST_DEFREG + (if dirty then 8 else 0)
  [0x50, 0x53, 0x50, 0x54] ++ windowBytes s F.SBX_PCH_DATA 4 ++ uidBytes ++ leBytes 4 (s.fld F.SBX_SCNT_DATA)
    ++ leBytes 4 pcnt ++ [lcs s, flags]

/-- PCNT is raised in the Vault, and the response computed under key k and posted. -/
def passportCount (k : List Nat) (s : State) : State :=
  let n := (s.fld F.SBX_PCNT_DATA + 1) % 2 ^ 32
  let s1 := (s.put F.SBX_PCNT_DATA 0 n).put F.SBX_PCTL_PRES 0 0
  let s2 := { s1 with sbx := { s1.sbx with respT := some s1.clk.now } }
  postBytes F.SBX_PRESP_DATA (hmac256 k (passportMsg s n)) s2

/-- A request is carried out or refused. The count in the Vault waits for its write port (R20). -/
def passportRun (s : State) : State :=
  let s0 := s.put F.SBX_PCTL_PEND 0 0
  match slotKey s 1 with
  | none => s0.put F.SBX_PCTL_PRES 0 1
  | some k =>
    if lcs s = 0 ∨ lcs s = 4 then s0.put F.SBX_PCTL_PRES 0 1
    else onVault 3 .passport (passportCount k) s0

/-- Has less than 1 s passed since the previous response? -/
def passportSoon (s : State) : Bool :=
  match s.sbx.respT with
  | some t => decide (s.clk.now < t + 1000000000)
  | none => false

/-- A write of SBX_PCTL.GO: refused at once where it cannot be served, held within 1 s of the previous response. -/
def passportRequest (s : State) : State :=
  if (slotKey s 1).isSome && lcs s != 0 && lcs s != 4 && passportSoon s then s.put F.SBX_PCTL_PEND 0 1 else passportRun s

def execPassportRequest (s : State) : Res := .next (onCtl .passport passportRequest s)

/-- The second has passed for a request that was held; during a warm restart it is served after it (R17). -/
def execPassportHoldExpire (s : State) : Res :=
  .next (if s.bit F.SBX_PCTL_PEND then onCtlOnce .passport passportRun s else s)

end Sys2Proof.Machine
end

