-- ==== Sys2Proof/Machine/Itinerary.lean ====
section
/-! DEFINITION. Itinerary and live updates: the start-up read of the flash, update packages, the region state machine, and
privileged writes of configuration fields (R304 to R323). -/

namespace Sys2Proof.Machine

/-! ### A change of a region's fields (Table 15-2) -/

/-- Event 118 for each bank whose FREE has fallen to 0 against an earlier state (R92). -/
def noteFree (was s : State) : State :=
  (List.range 14).foldl (fun s b =>
    match (chansOf b).filter (chanOn s) with
    | [] => s
    | n :: _ => raiseIf ((freeSpares was b).length != 0 && (freeSpares s b).length == 0) 118 n s) s

/-- The streams whose field f differs from an earlier store of fields. -/
def changedIn (old : SMap Nat) (s : State) (f : Fld) : List Nat :=
  (List.range 144).filter fun n => s.fld f n != fget old f n

/-- New INPUTS fields: changes of RANGE and SENSOR begin, and on an enabled channel start a trim run (R71, R202). -/
def inputsChanged (was s : State) : State :=
  let ns := (changedIn was.flds s F.INP_CFG_SENSOR ++ (changedIn was.flds s F.INP_CFG_RANGE).filter (· < 112)).dedup
  let s1 := ns.foldl (fun s n => rangeSensorChanged n s) s
  noteFree was (if running s && ns.any (chanOn s) then trimTrigger s1 else s1)

/-- New FILTERS fields (Table 05-8). -/
def filtersChanged (was s : State) : State :=
  let ns := (List.range 144).filter fun n =>
    respCfg s.flds n != respCfg was.flds n || s.fld F.FLT_CFG_FPR n != fget was.flds F.FLT_CFG_FPR n
  ns.foldl (fun s n => fltCfgChanged n s) s

/-- New DISPLAY fields: the display starts or stops as EN says, and a new MODE starts it anew. The refresh of a main power-up is then
not due any more. -/
def displayChanged (was s : State) : State :=
  if s.bit F.DSP_CFG_EN == was.bit F.DSP_CFG_EN && bistable s == bistable was then s
  else
    let s1 := { s with dsp := { s.dsp with fresh := true } }
    if s1.bit F.DSP_CFG_EN then displayStart s1 else showDsp s1

/-- New PULSES fields take effect at once on the outputs disabled before and after (R154). -/
def pulsesChanged (s : State) : State :=
  (List.range 16).foldl (fun s c => if plsIdle s c then pulsesApply c s else s) s

/-- The fields of region r hold new values, against an earlier state: what begins at once. The other settings take effect by
commands of their own (R134, R154, Table 08-4, R183). -/
def regionChanged (r : Nat) (was s : State) : State :=
  match r with
  | 1 => inputsChanged was s
  | 2 => filtersChanged was s
  | 3 => renewSubs s
  | 4 => pulsesChanged s
  | 5 => arcsChanged s
  | 9 => displayChanged was s
  | _ => s

/-! ### Regions -/

def getRgn (s : State) (r : Nat) : ItnRgn := mget ItnRgn.idle s.itn.rgn r

def setRgn (r : Nat) (x : ItnRgn) (s : State) : State := { s with itn := { s.itn with rgn := mput ItnRgn.idle s.itn.rgn r x } }

def rst (s : State) (r : Nat) : Nat := s.fld F.ITN_RST_STATE r

/-- Bytes of the staging pool in use (R314). -/
def poolUsed (s : State) : Nat :=
  let size := fun u : Option Update => u.elim 0 fun x => 88 + 4 * x.body.length
  (s.itn.rgn.map fun e => size e.2.run + size e.2.que).sum

/-- Shows a region's packages and the free pool. -/
def showRgn (r : Nat) (s : State) : State :=
  let x := getRgn s r
  (((s.setBit F.ITN_RST_QUEUED r x.que.isSome).put F.ITN_RPEND_PGEN r (x.run.elim 0 (·.gen))).put F.ITN_RQUE_QGEN r
    (x.que.elim 0 (·.gen))).put F.ITN_ST_POOLFREE 0 ((1536 * 1024 - poolUsed s) / 1024)

/-- The copies of region r in the flash. -/
def copiesAt (s : State) (r : Nat) : RegionCopy × RegionCopy := s.itn.flash.copies.getD r (RegionCopy.erased, RegionCopy.erased)

/-- Sets a copy of region r in the flash: B where `b`. -/
def setCopy (r : Nat) (b : Bool) (c : RegionCopy) (s : State) : State :=
  let p := copiesAt s r
  let q := if b then (p.1, c) else (c, p.2)
  { s with itn := { s.itn with flash := { s.itn.flash with copies := s.itn.flash.copies.set r q } } }

/-- The digest and GEN of region r in force (R310). -/
def putForce (r gen : Nat) (dig : List Nat) (s : State) : State :=
  ({ s with itn := { s.itn with dig := mput (List.replicate 32 0) s.itn.dig r dig } }.put F.ITN_RGEN_GEN r gen).put
    F.ITN_RDIG_DIG r (ofLe (dig.take 4))

/-- Sets or clears DIRTY; ITN_RDIG shows the digest that the device reports (R310, R321). A new digest lets CHECK be entered
again (R222). -/
def setDirty (r : Nat) (d : Bool) (s : State) : State :=
  let s1 := s.setBit F.ITN_RST_DIRTY r d
  { s1.put F.ITN_RDIG_DIG r (ofLe ((regionDigest s1 r).take 4)) with
    twn := { s1.twn with noCheck := s1.twn.noCheck && !twinRegions.contains r } }

/-! ### Start-up read (R304, R306, R311, R312) -/

/-- The bytes a region copy occupies: whole 4 KiB sectors. -/
def copySpan (maxlen : Nat) : Nat := (64 + maxlen + 4095) / 4096 * 4096

/-- Is a directory copy sound (R306)? -/
def dirOk (d : Directory) : Bool :=
  let spans := (0, 0x2000) :: d.slots.flatMap fun x => [(x.a, x.a + copySpan x.maxlen), (x.b, x.b + copySpan x.maxlen)]
  d.crcOk && d.magic == 0x4C584954 && d.format == 1 && d.nreg == 11 && d.slots.length == 11
    && d.slots.all (fun x => x.a % 4096 == 0 && x.b % 4096 == 0)
    && d.slots.zipIdx.all (fun p => decide (p.1.maxlen ≤ maxBody p.2))
    && decide (spans.Pairwise fun x y => x.2 ≤ y.1 ∨ y.2 ≤ x.1)

/-- Does the flash meet R304? -/
def sfdpOk (x : Sfdp) : Bool := decide (22 ≤ x.size) && x.erase4k && (x.q144.isSome || x.q114.isSome) && x.speedOk

/-- Shows what SFDP gave in ITN_FLASH. -/
def showFlash (x : Sfdp) (s : State) : State :=
  let q := (x.q144.orElse fun _ => x.q114).getD (0, 0)
  ((((s.put F.ITN_FLASH_SIZE 0 x.size).setBit F.ITN_FLASH_ADDR4 0 x.addr4).setBit F.ITN_FLASH_QIO 0 x.q144.isSome).put
    F.ITN_FLASH_RDOP 0 q.1).put F.ITN_FLASH_DUMMY 0 q.2

/-- MAXLEN of region r. -/
def maxLen (s : State) (r : Nat) : Nat := (s.itn.dir.bind fun d => d.slots[r]?).elim 0 (·.maxlen)

/-- The body of a copy, as words. -/
def copyBody (c : RegionCopy) : List Nat := (c.body.take (c.len / 4)).map BitVec.toNat

/-- The writes of a copy of region r that is usable by itself: its CRC, header and records pass (R311, codes 1, 9, 10, 15). -/
def copyWrites (s : State) (r : Nat) (c : RegionCopy) : Option (List (Nat × Nat)) :=
  let ok := c.crcOk && c.formatOk && c.len % 4 == 0 && decide (c.len ≤ maxLen s r) && c.region == r
    && c.state == .committed && c.gen != 0 && decide (mget 0 s.itn.floor r ≤ c.gen)
  if !ok then none
  else if r = 10 then (if c.len = 0 then none else some [])
  else if 4 * c.body.length < c.len then none
  else match bodyWrites r (copyBody c) with
    | .inl _ => none
    | .inr ws => some ws

/-- The copy tried first: A, unless B is committed with a higher GEN (R311, R320). -/
def firstB (p : RegionCopy × RegionCopy) : Bool := p.2.state == .committed && decide (p.1.gen < p.2.gen)

/-- Copy A, or B. -/
def pickCopy (p : RegionCopy × RegionCopy) (b : Bool) : RegionCopy := if b then p.2 else p.1

/-- The order in which regions are read (R311). -/
def readOrder : List Nat := [0, 10, 1, 2, 3, 4, 5, 6, 7, 8, 9]

/-- The writes of the copy that region r is expected to be loaded from, by its own checks alone. -/
def expectWrites (s : State) (r : Nat) : List (Nat × Nat) :=
  let p := copiesAt s r
  ((copyWrites s r (pickCopy p (firstB p))).orElse fun _ => copyWrites s r (pickCopy p (!firstB p))).getD []

/-- The fields as the regions read so far will set them. -/
def readFlds (s : State) : SMap Nat := s.itn.read.foldl (fun m e => loadWrites e.1 e.2 m) s.flds

/-- The fields against which region r is checked at start-up: those read so far, and of the regions still to be read those of
the copies they are expected to be loaded from. INPUTS is loaded before any meter is in force: it is METERS, read after it, that
R72 then judges. -/
def aheadFlds (s : State) (r : Nat) (later : List Nat) : SMap Nat :=
  (later.filter fun q => q ≠ 10 ∧ ¬(r = 1 ∧ q = 3)).foldl (fun m r => loadWrites r (expectWrites s r) m) (readFlds s)

/-- The result of reading one copy of region r: class 8 where its CRC fails once or twice (Table 12-1), and its writes where it
is usable. -/
def readCopy (noise : List Nat) (later : List Nat) (r : Nat) (b : Bool) (s : State) : State × Option (List (Nat × Nat)) :=
  let c := pickCopy (copiesAt s r) b
  let s1 :=
    if !c.crcOk then permanent 8 0 0 false false none s
    else if noise.contains (2 * r + if b then 1 else 0) then transient 8 0 0 false false s else s
  (s1, (copyWrites s1 r c).filter fun ws => r == 10 || regionRule r (loadWrites r ws (aheadFlds s1 r later)))

/-- Region r is read from the copy chosen. Its fields keep their reset values until the load is complete (R11). -/
def loadRegion (r : Nat) (b first : Bool) (ws : List (Nat × Nat)) (s : State) : State :=
  let c := pickCopy (copiesAt s r) b
  let s1 :=
    if r = 10 then { s with itn := { s.itn with fwOk := true } }
    else { s with itn := { s.itn with read := s.itn.read ++ [(r, ws)] } }
  let s2 := { s1 with itn := { s1.itn with force := s1.itn.force ++ [(r, c.gen, c.digest.map BitVec.toNat)] } }.setBit F.ITN_RST_SRC r b
  let s3 := if b then s2.put F.ITN_RST_MIRRFAIL r 1 else s2
  if first then s3 else s3.put F.ITN_ST_COPYB 0 1

/-- Region r keeps its reset values (R311). -/
def defaultRegion (r : Nat) (s : State) : State :=
  raise 65 r ((s.put F.ITN_RST_DEF r 1).put F.ITN_ST_DEFREG 0 1)

/-- One region is read: the copy chosen, else the other, else the reset values. -/
def readRegion (noise later : List Nat) (r : Nat) (s : State) : State :=
  let b := firstB (copiesAt s r)
  match readCopy noise later r b s with
  | (s1, some ws) => loadRegion r b true ws s1
  | (s1, none) =>
    match readCopy noise later r (!b) (raise 64 r s1) with
    | (s2, some ws) => loadRegion r (!b) false ws s2
    | (s2, none) => defaultRegion r s2

/-- Every region is read in turn. -/
def readRegions (noise : List Nat) : List Nat → State → State
  | [], s => s
  | r :: later, s => readRegions noise later (readRegion noise later r s)

/-- The controller does not start (R312). -/
def haltController (s : State) : State := evalDState ({ s with ctl := .halted }.put F.FLTS_ST_CTRLHALT 0 1)

/-- No image: LOAD 3, every region at its reset values (R312). -/
def noImage (s : State) : State :=
  let s1 := (List.range 11).foldl (fun s r => s.put F.ITN_RST_DEF r 1) (s.put F.ITN_ST_LOAD 0 3)
  haltController (raise 65 0 (s1.put F.ITN_ST_DEFREG 0 1))

/-- The directory copy used: the first, else the second. DETAIL of event 64 is open for it. -/
def takeDirectory (s : State) : State :=
  if dirOk s.itn.flash.dir1 then { s with itn := { s.itn with dir := some s.itn.flash.dir1 } }
  else if dirOk s.itn.flash.dir2 then
    raise 64 (Config.openDetail 0).toNat { s with itn := { s.itn with dir := some s.itn.flash.dir2 } }
  else s

/-- The start-up read. -/
def itineraryRead (noise : List Nat) (s : State) : State :=
  match s.itn.flash.sfdp with
  | none => noImage s
  | some x =>
    if !sfdpOk x then noImage s
    else
      let s1 := takeDirectory (showFlash x (s.put F.ITN_ST_LOAD 0 1))
      if s1.itn.dir.isNone then noImage s1
      else
        let s2 := readRegions noise readOrder s1
        if s2.itn.fwOk then s2 else haltController s2

/-- The board may have programmed the flash while nRST held the device in reset (R305): `board` is then its new contents.
`noise`: copies, as 2 * region + (0 for A, 1 for B), whose first read fails its CRC and whose second passes. -/
def execItineraryRead (board : Option FlashImage) (noise : List (Fin 22)) (s : State) : Res :=
  let s1 := match board with
    | some f => { s with itn := { s.itn with flash := f } }
    | none => s
  .next (if mainOn s && s.pwr.mstate == .standby && s.fld F.ITN_ST_LOAD == 0 then
    itineraryRead (noise.map fun i => i.toNat) s1 else s)

/-- The regions read at start-up are in force: their fields, GEN and DIGEST (R11, R310). -/
def takeRead (s : State) : State :=
  s.itn.force.foldl (fun s p => putForce p.1 p.2.1 p.2.2 s)
    { s with flds := readFlds s, itn := { s.itn with read := [], force := [] } }

/-- The load completes: the fields of the regions take the values read (R11), and Tether SEEK and the training of the caravan ports
begin, except where the controller is halted (R313, R421). -/
def itineraryLoaded (s : State) : State :=
  let s1 := (takeRead s).put F.ITN_ST_LOAD 0 2
  if s1.ctl = .halted then s1
  else cvnStart (if s1.bit F.TWN_CFG_EN then seek s1 else s1)

/-! ### Package delivery (R314, R318) -/

/-- The 88-byte header's LEN, and the body as words. -/
def pkLen (b : List Nat) : Nat := ofLe ((b.drop 0x14).take 4)
def pkGen (b : List Nat) : Nat := ofLe ((b.drop 0x10).take 4)
def pkRegion (b : List Nat) : Nat := b.getD 5 255

/-- The package that a delivery makes. -/
def pkUpdate (b : List Nat) : Update := ⟨pkGen b, (b.drop 0x18).take 32, leToWords (pkLen b / 4) (b.drop 88)⟩

/-- The checks of Table 15-4 at SUBMIT, codes 1 to 7 in order; 0 where all pass. -/
def pkCheck (s : State) (total : Nat) (b : List Nat) : Nat :=
  let r := pkRegion b
  let n := pkLen b
  let x := getRgn s r
  let held := max (s.fld F.ITN_RGEN_GEN r) (if lateRegion r then mget 0 s.itn.floor r else 0)
  let top := max held (max (x.run.elim 0 (·.gen)) (x.que.elim 0 (·.gen)))
  if b.length < 88 ∨ b.length ≠ total ∨ ofLe (b.take 4) ≠ 0x5055584C ∨ b.getD 4 0 ≠ 1 ∨ ofLe ((b.drop 6).take 2) ≠ 0
    ∨ n % 4 ≠ 0 ∨ (r ≤ 10 ∧ maxLen s r < n) ∨ total ≠ 88 + n ∨ (r = 10 ∧ n = 0) then 1
  else if 10 < r then 2
  else if (b.drop 8).take 8 ≠ uidBytes then 3
  else match authorityKey s 1 with
    | none => 4
    | some k =>
      if hmac256 k (b.take 0x38) ≠ (b.drop 0x38).take 32 then 5
      else if pkGen b ≤ top then 6
      else if 1536 * 1024 < poolUsed s + total then 7 else 0

/-- An accepted package becomes the running update, or is queued in place of one already queued (R315, R318). -/
def pkAccept (r : Nat) (u : Update) (s : State) : State :=
  let x := getRgn s r
  let s0 := raise 66 r s
  if rst s0 r = 0 then showRgn r ((setRgn r { x with run := some u } s0).put F.ITN_RST_STATE r 1)
  else
    let s1 := if x.que.isSome then raise 68 r (s0.put F.ITN_ST_REPL 0 1) else s0
    showRgn r (setRgn r { x with que := some u } s1)

/-- SUBMIT. -/
def pkSubmit (s : State) : State :=
  let d := s.itn.buf.getD (0, [])
  let c := pkCheck s d.1 d.2
  let s1 := { s with itn := { s.itn with buf := none } }.put F.ITN_PKCTL_RESULT 0 c
  if c = 0 then pkAccept (pkRegion d.2) (pkUpdate d.2) s1 else raise 67 (pkRegion d.2) (s1.put F.ITN_ST_REFL 0 1)

/-- APPEND: CHUNK bytes of the window, 1 to 1024. -/
def pkAppend (s : State) : State :=
  let n := s.fld F.ITN_PKCTL_CHUNK
  match s.itn.buf with
  | none => s
  | some d =>
    if 1024 < n then s
    else { s with itn := { s.itn with buf := some (d.1, d.2 ++ (windowBytes s F.ITN_PKWIN_DATA 256).take n) } }

/-- An operation of ITN_PKCTL: 1 BEGIN, 2 APPEND, 3 SUBMIT. -/
def pkDo (op : Nat) (s : State) : State :=
  match op with
  | 1 => { s with itn := { s.itn with buf := some (s.fld F.ITN_PKLEN_PKLEN, []) } }
  | 2 => pkAppend s
  | 3 => pkSubmit s
  | _ => s

/-- A write of ITN_PKCTL.OP: update verification is firmware, so the operation waits, BUSY, while the controller does not run
(Table 01-2). While one waits a further operation is not taken (DESIGN CHOICE). -/
def pkOp (op : Nat) (s : State) : State :=
  if op = 0 ∨ s.bit F.ITN_PKCTL_BUSY then s
  else if ctlOn s then pkDo op s
  else { s with itn := { s.itn with op := some op } }.put F.ITN_PKCTL_BUSY 0 1

def execPackageBegin (s : State) : Res := .next (if mainOn s then pkOp 1 s else s)

def execPackageAppend (chunk : Fin 2048) (s : State) : Res :=
  .next (if mainOn s then pkOp 2 (s.put F.ITN_PKCTL_CHUNK 0 chunk) else s)

def execPackageSubmit (s : State) : Res := .next (if mainOn s then pkOp 3 s else s)

/-- An operation that waited for the controller is carried out. -/
def pkResume (s : State) : State :=
  match s.itn.op with
  | none => s
  | some op => pkDo op ({ s with itn := { s.itn with op := none } }.put F.ITN_PKCTL_BUSY 0 0)

/-! ### Flash operations (R315, R316) -/

/-- The flash operation at the head of the order begins: it erases the copy it is to write. -/
def startJob (s : State) : State :=
  match s.itn.jobs with
  | [] => s
  | r :: _ => setCopy r (rst s r == 2) RegionCopy.erased s

/-- A flash operation of region r is ordered. -/
def pushJob (r : Nat) (s : State) : State :=
  let s1 := { s with itn := { s.itn with jobs := s.itn.jobs ++ [r] } }
  if s.itn.jobs = [] then startJob s1 else s1

/-- The flash operation at the head is over. -/
def popJob (s : State) : State := startJob { s with itn := { s.itn with jobs := s.itn.jobs.tail } }

/-- Does the flash operation in progress belong to region r? -/
def jobOf (s : State) (r : Nat) : Bool := ctlOn s && s.itn.jobs.head? == some r

/-- The running update ends; the queued package becomes the running one (R318). -/
def updFinish (r : Nat) (s : State) : State :=
  let x := getRgn s r
  showRgn r ((setRgn r { ItnRgn.idle with run := x.que } s).put F.ITN_RST_STATE r (if x.que.isSome then 1 else 0))

/-- The running update fails with this code (R315). -/
def updFail (r code : Nat) (s : State) : State :=
  updFinish r (raise 70 r ((s.put F.ITN_RST_REASON r code).put F.ITN_ST_FAILL 0 1))

/-- The region enters WRITE. -/
def enterWrite (r : Nat) (s : State) : State :=
  pushJob r ((setRgn r { getRgn s r with tries := 0, pre := false } s).put F.ITN_RST_STATE r 2)

/-- The region enters MIRROR. -/
def enterMirror (r : Nat) (s : State) : State :=
  pushJob r ((setRgn r { getRgn s r with tries := 0 } s).put F.ITN_RST_STATE r 6)

/-- Codes 8 to 11 of a staged package, against the regions in force; 0 where it passes. -/
def updCheck (s : State) (r : Nat) (u : Update) : Nat :=
  if sha256 (wordsToLe u.body) ≠ u.digest then 8
  else if r = 10 then 0
  else match bodyWrites r u.body with
    | .inl c => c
    | .inr ws => if regionRule r (loadWrites r ws s.flds) then 0 else 11

/-- VALIDATE ends. Where copy A does not hold the region in force, the mirror from copy B comes first (R316). -/
def updValidate (r : Nat) (s : State) : State :=
  let x := getRgn s r
  match x.run with
  | none => s
  | some u =>
    let c := updCheck s r u
    if c ≠ 0 then updFail r c s
    else if s.bit F.ITN_RST_MIRRFAIL r then pushJob r (setRgn r { x with pre := true, tries := 0 } s)
    else enterWrite r s

def execUpdateValidateComplete (r : Fin 11) (s : State) : Res :=
  .next (if ctlOn s && rst s r == 1 && !(getRgn s r).pre then updValidate r s else s)

/-- The copy that a package makes, in this state. -/
def newCopy (r : Nat) (u : Update) (st : CopyState) : RegionCopy :=
  ⟨st, r, true, u.gen, 4 * u.body.length, u.digest.map (BitVec.ofNat 8), true, u.body.map (BitVec.ofNat 32)⟩

/-- Copy B is programmed, and the region enters CHECK. -/
def updWritten (r : Nat) (s : State) : State :=
  match (getRgn s r).run with
  | none => s
  | some u => (setCopy r true (newCopy r u .written) s).put F.ITN_RST_STATE r 3

def execUpdateFlashWriteComplete (r : Fin 11) (s : State) : Res :=
  .next (if jobOf s r && rst s r == 2 then updWritten r s else s)

/-- TWINWAIT has passed: the device is to apply alone, and event 71 (R317). -/
def waitExpire (r : Nat) (s : State) : State := raise 71 r (setRgn r { getRgn s r with alone := true } s)

/-- Does region r wait for the twin: it is compared by twins and the device is PAIRED? -/
def waitsTwin (s : State) (r : Nat) : Bool := twinRegions.contains r && paired s

/-- The region enters WAIT; a paired device announces the new digest (R317). -/
def enterWait (r : Fin 11) (u : Update) (s : State) : State :=
  let s1 := s.put F.ITN_RST_STATE r 4
  if waitsTwin s1 r then
    let s2 := sendMsg (.digest r u.digest) (setRgn r { getRgn s1 r with annT := s1.clk.now } s1)
    if s2.fld F.ITN_CFG_TWINWAIT = 0 then waitExpire r s2 else s2
  else s1

/-- A copy in the flash reads back wrong: what stands there fails its CRC. -/
def spoilCopy (r : Nat) (b : Bool) (s : State) : State :=
  setCopy r b { pickCopy (copiesAt s r) b with crcOk := false } s

/-- Copy B is read back: the region enters WAIT, is written once more, or fails with code 12. -/
def updReadback (r : Fin 11) (same : Bool) (s : State) : State :=
  let x := getRgn s r
  match x.run with
  | none => s
  | some u =>
    if same then enterWait r u (popJob s)
    else if x.tries = 0 then startJob ((setRgn r { x with tries := 1 } s).put F.ITN_RST_STATE r 2)
    else updFail r 12 (popJob (spoilCopy r true s))

def execUpdateReadbackCheck (r : Fin 11) (same : Bool) (s : State) : Res :=
  .next (if jobOf s r && rst s r == 3 then updReadback r same s else s)

/-! ### Apply (R315, R317, R319) -/

/-- Copy B is committed, the GEN floor raised, and the update counted. -/
def updCommit (r : Nat) (u : Update) (s : State) : State :=
  let s1 := setCopy r true (newCopy r u .committed) s
  let s2 := { s1 with itn := { s1.itn with floor := mput 0 s1.itn.floor r (max u.gen (mget 0 s1.itn.floor r)) } }
  setDirty r false ((s2.inc F.ITN_RST_UPDATES r).put F.ITN_ST_APPL 0 1)

/-- The region's new fields are in force. A region that takes effect at the next main power-up keeps its fields until then, and
RESTART reads 1 (Table 15-2). -/
def updLoad (r : Nat) (u : Update) (m : SMap Nat) (s : State) : State :=
  if lateRegion r then s.put F.ITN_ST_RESTART 0 1
  else
    let s1 := setDirty r false (putForce r u.gen u.digest { s with flds := m })
    let s2 := { s1 with twn := { s1.twn with peerDig := mput [] s1.twn.peerDig r [] } }
    regionChanged r s s2

/-- APPLY of a region other than FIRMWARE: code 14, or the commit, the new fields and MIRROR. An apply of EVENTS closes every
rate window first (R367). -/
def applyFields (r : Nat) (u : Update) (s : State) : State :=
  let ws := match bodyWrites r u.body with
    | .inl _ => []
    | .inr ws => ws
  if !regionRule r (loadWrites r ws s.flds) then updFail r 14 s
  else
    let s1 := updCommit r u (if r = 6 then rateCloseAll s else s)
    enterMirror r (updLoad r u (loadWrites r ws s1.flds) s1)

/-- APPLY of FIRMWARE: a warm restart from copy B, which is no lockstep fault (R319). -/
def applyFirmware (s : State) : State := { s with ctl := .restarting }.put F.FLTS_ST_RESTL 0 1

/-- Have both devices announced the digest that this one waits to apply, at least 20 ms ago, or has the wait expired? -/
def twinReady (s : State) (r : Nat) (u : Update) : Bool :=
  !waitsTwin s r || (getRgn s r).alone
    || (mget [] s.twn.peerDig r == u.digest && decide (max (getRgn s r).annT (mget 0 s.twn.peerDigT r) + 20000000 ≤ s.clk.now))

/-- The apply instant of region r, an exchange instant. -/
def updApply (r : Nat) (s : State) : State :=
  match (getRgn s r).run with
  | none => s
  | some u =>
    if !twinReady s r u then s
    else
      let s1 := s.put F.ITN_RST_STATE r 5
      if r = 10 then applyFirmware s1 else applyFields r u s1

def execUpdateApplyInstant (r : Fin 11) (t : Nat) (s : State) : Res :=
  .next (if ctlOn s && rst s r == 4 && t % 10000000 == 0 then updApply r (reachTime t s) else s)

/-- TWINWAIT ms of WAIT have passed for region r. -/
def twinWaitEnd (r : Nat) (s : State) : State :=
  if rst s r == 4 && waitsTwin s r && !(getRgn s r).alone then waitExpire r s else s

def execTwinUpdateWaitExpire (r : Fin 11) (s : State) : Res :=
  .next (if mainOn s then onCtlOnce (.twinWait r) (twinWaitEnd r) s else s)

/-- The new program reports ready: copy B is committed, and MIRROR follows (R319). -/
def firmwareReady (s : State) : State :=
  if rst s 10 ≠ 5 then s
  else match (getRgn s 10).run with
    | none => s
    | some u => enterMirror 10 (putForce 10 u.gen u.digest (updCommit 10 u s))

/-- The new program does not report ready in 50 ms: a second warm restart, from copy A, and the update fails. -/
def execFirmwareReadyTimeout (s : State) : Res :=
  .next (if mainOn s && s.ctl == .restarting && rst s 10 == 5 then updFail 10 13 (s.put F.FLTS_ST_RESTL 0 1) else s)

/-! ### Mirror (R315, R316) -/

/-- Copy A is written from copy B and read back. -/
def updMirror (r : Nat) (same : Bool) (s : State) : State :=
  let x := getRgn s r
  if same then
    let s1 := popJob ((setCopy r false { (copiesAt s r).2 with state := .committed } s).put F.ITN_RST_MIRRFAIL r 0)
    if x.pre then enterWrite r s1 else updFinish r (raise 69 r s1)
  else if x.tries = 0 then startJob (setRgn r { x with tries := 1 } s)
  else updFail r 12 (popJob (spoilCopy r false (s.put F.ITN_RST_MIRRFAIL r 1)))

def execUpdateMirrorComplete (r : Fin 11) (same : Bool) (s : State) : Res :=
  .next (if jobOf s r && (rst s r == 6 || (rst s r == 1 && (getRgn s r).pre)) then updMirror r same s else s)

/-- Once metering has started, the mirror of every region that was loaded from a committed copy B is completed (R311, R316). -/
def startMirrors (s : State) : State :=
  if ctlOn s then
    (List.range 11).foldl (fun s r => if s.bit F.ITN_RST_MIRRFAIL r && rst s r == 0 then enterMirror r s else s) s
  else s

/-! ### Privileged writes of configuration fields (R321) -/

/-- What a privileged write starts at once in the regions that an update would bring into force at the next main power-up. -/
def lateChanged (r : Nat) (was s : State) : State :=
  match r with
  | 0 =>
    if s.bit F.TWN_CFG_EN && tst s == 0 && s.fld F.ITN_ST_LOAD == 2 then seek s
    else if !s.bit F.TWN_CFG_EN && tst s != 0 then setTst 0 (toSolo s) else s
  | 7 =>
    if s.fld F.ITN_ST_LOAD ≠ 2 then s
    else if s.bit F.CVN_CFG_EN && !was.bit F.CVN_CFG_EN then cvnStart s
    else if !s.bit F.CVN_CFG_EN && was.bit F.CVN_CFG_EN then cvnStop { s with cvn := { s.cvn with cfg := CvnCfg.off } }
    else s
  | _ => s

/-- Does a privileged write of a word to a register with LIVE fields of class I pass the checks of codes 9 to 11 (R321)? -/
def liveOk (addr w : Nat) (s : State) : Bool :=
  match regionOf addr with
  | none => false
  | some r => writeReserved (addr, w) && regionRule r (putWrite s.flds (addr, w))

/-- The LIVE fields of class I of a register take a word, and its region is DIRTY. -/
def liveFields (addr w : Nat) (s : State) : State :=
  match regionOf addr with
  | none => s
  | some r => setDirty r true { s with flds := putWrite s.flds (addr, w) }

/-- A privileged write that passes: what it starts at once follows. -/
def liveWrite (addr w : Nat) (s : State) : State :=
  match regionOf addr with
  | none => s
  | some r => lateChanged r s (regionChanged r s (liveFields addr w s))

end Sys2Proof.Machine
end

