-- ==== Sys2Proof/Machine/Porter.lean ====
section
/-! DEFINITION. Porter domain: supply and brown-out, calendar, crystal compensation, configuration latches and their profile,
sources and their filters, response sets, event slots, and PWRON (R341 to R362). -/

namespace Sys2Proof.Machine

/-! ### Dates (R343, R344) -/

/-- A number below 100 in BCD, and back. -/
def bcd (n : Nat) : Nat := n / 10 * 16 + n % 10
def unbcd (n : Nat) : Nat := n / 16 * 10 + n % 16

/-- Do both digits of a BCD byte lie within 0 to 9? -/
def bcdOk (n : Nat) : Bool := decide (n / 16 ≤ 9) && decide (n % 16 ≤ 9)

/-- A calendar reading: century, year 0 to 99, month, day, hour, minute, second. -/
structure Cal where
  cent : Nat
  year : Nat
  mon  : Nat
  day  : Nat
  hour : Nat
  min  : Nat
  sec  : Nat
  deriving DecidableEq, Repr

/-- A leap year (R343). -/
def leapYear (cent year : Nat) : Bool := year % 4 == 0 && !(year == 0 && cent == 1)

/-- The length of a month. -/
def monthDays (cent year mon : Nat) : Nat :=
  match mon with
  | 2 => if leapYear cent year then 29 else 28
  | 4 => 30
  | 6 => 30
  | 9 => 30
  | 11 => 30
  | _ => 31

/-- Days from 2000-01-01 to a date. -/
def dayNumber (cent year mon day : Nat) : Nat :=
  let y := 100 * cent + year
  let years := 365 * y + (y + 3) / 4 - (if 100 < y then 1 else 0)
  years + ((List.range (mon - 1)).map fun k => monthDays cent year (k + 1)).sum + (day - 1)

/-- DOW: 1 Monday to 7 Sunday; 2000-01-01 was a Saturday. -/
def dowOf (c : Cal) : Nat := (dayNumber c.cent c.year c.mon c.day + 5) % 7 + 1

/-- The calendar as its registers show it. -/
def getCal (s : State) : Cal :=
  ⟨s.fld F.PRT_DATE_CENT, unbcd (s.fld F.PRT_DATE_YEAR), unbcd (s.fld F.PRT_DATE_MONTH), unbcd (s.fld F.PRT_DATE_DAY),
   unbcd (s.fld F.PRT_TIME_HOUR), unbcd (s.fld F.PRT_TIME_MIN), unbcd (s.fld F.PRT_TIME_SEC)⟩

/-- Sets the calendar and DOW; a second begins. -/
def putCal (c : Cal) (s : State) : State :=
  let s1 := ((s.put F.PRT_TIME_HOUR 0 (bcd c.hour)).put F.PRT_TIME_MIN 0 (bcd c.min)).put F.PRT_TIME_SEC 0 (bcd c.sec)
  let s2 := (((s1.put F.PRT_DATE_CENT 0 c.cent).put F.PRT_DATE_YEAR 0 (bcd c.year)).put F.PRT_DATE_MONTH 0 (bcd c.mon)).put
    F.PRT_DATE_DAY 0 (bcd c.day)
  { s2.put F.PRT_DATE_DOW 0 (dowOf c) with prt := { s2.prt with secT := s2.clk.now, stopT := none } }

/-- The date after a day (Table 17-1). -/
def nextDay (c : Cal) : Cal :=
  if c.day < monthDays c.cent c.year c.mon then { c with day := c.day + 1 }
  else if c.mon < 12 then { c with day := 1, mon := c.mon + 1 }
  else if c.year < 99 then { c with day := 1, mon := 1, year := c.year + 1 }
  else { c with day := 1, mon := 1, year := 0, cent := 1 - c.cent }

/-- The reading one second later. -/
def nextSecond (c : Cal) : Cal :=
  if c.sec < 59 then { c with sec := c.sec + 1 }
  else if c.min < 59 then { c with sec := 0, min := c.min + 1 }
  else if c.hour < 23 then { c with sec := 0, min := 0, hour := c.hour + 1 }
  else { nextDay c with sec := 0, min := 0, hour := 0 }

/-! ### Slots and responses (R357 to R361) -/

/-- The causes of source 15 (Table 18-1). -/
def causeOsc : Nat := 1
def causeShadow : Nat := 2
def causeBatlow : Nat := 3
def causeWrap : Nat := 4
def causeLost : Nat := 5

/-- Does the response set of source k imply a capture? -/
def captures (s : State) (k : Nat) : Bool :=
  s.bit F.PRT_SRC_CAP k || s.bit F.PRT_SRC_REC k || s.bit F.PRT_SRC_ALERT k || s.bit F.PRT_SRC_LOCK k || s.bit F.PRT_SRC_WIPE k

/-- Source k is captured into its slot (R359). -/
def capture (k : Nat) (s : State) : State :=
  if s.bit F.PRT_SLT_INFO_FULL k then s.inc F.PRT_SLT_INFO_COUNT k
  else
    let s1 := (s.put F.PRT_SLT_TIME_TIME k (viewReg s R.PRT_TIME 0)).put F.PRT_SLT_DATE_DATE k (viewReg s R.PRT_DATE 0)
    (((s1.put F.PRT_SLT_INFO_SUBSEC k (subsecNow s)).setBit F.PRT_SLT_INFO_ONCELL k s.prt.cell).put F.PRT_SLT_INFO_COUNT k 1).put
      F.PRT_SLT_INFO_FULL k 1

/-- Slot k is released. -/
def releaseSlot (k : Nat) (s : State) : State :=
  (((s.put F.PRT_SLT_INFO_FULL k 0).put F.PRT_SLT_INFO_COUNT k 0).put F.PRT_SLT_INFO_ONCELL k 0).put F.PRT_SLT_INFO_CORRUPT k 0

/-- The record of a firing of source k, with its slot's times (R365). DETAIL is the slot's COUNT; for source 15 the cause. -/
def slotRec (s : State) (k cause : Nat) : LdgRec :=
  { mkRec s (80 + k) (if k = 15 then cause else s.fld F.PRT_SLT_INFO_COUNT k) with
    time := s.fld F.PRT_SLT_TIME_TIME k, date := s.fld F.PRT_SLT_DATE_DATE k, subsec := s.fld F.PRT_SLT_INFO_SUBSEC k
    oncell := s.bit F.PRT_SLT_INFO_ONCELL k, corrupt := s.bit F.PRT_SLT_INFO_CORRUPT k, nosite := true }

/-- Step 2 for a firing: the record of its captured slot where REC, and the slot released. Firings that waited together find the
slot released by the first of them. -/
def fireRecord (x : Nat × Nat) (s : State) : State :=
  if s.bit F.PRT_SRC_REC x.1 && s.bit F.PRT_SLT_INFO_FULL x.1 then releaseSlot x.1 (recordEvt s (80 + x.1) (slotRec s x.1 x.2)) else s

/-- Step 3: the event reaches its pending bit where ALERT, as EVT routes it. -/
def fireAlert (x : Nat × Nat) (s : State) : State :=
  if s.bit F.PRT_SRC_ALERT x.1 && routed s.flds (80 + x.1) then { s with flds := setPend s.flds (80 + x.1) } else s

/-- Step 4: updates are locked (R335). -/
def fireLock (x : Nat × Nat) (s : State) : State := if s.bit F.PRT_SRC_LOCK x.1 then s.put F.SBX_ST_ULOCK 0 1 else s

/-- Steps 2 to 4 for firings, in order: they are firmware, so they run while the controller does, and wait otherwise (R358). -/
def firmwareSteps (xs : List (Nat × Nat)) (s : State) : State :=
  xs.foldl (fun s x => fireLock x s) (xs.foldl (fun s x => fireAlert x s) (xs.foldl (fun s x => fireRecord x s) s))

/-- Firings that waited for the controller run now. -/
def runDeferred (s : State) : State := firmwareSteps s.prt.todo { s with prt := { s.prt with todo := [] } }

/-- Sources fire at one instant: the union of their response sets is executed once, in the order of R357. -/
def fire (xs : List (Nat × Nat)) (s : State) : State :=
  let s1 := xs.foldl (fun s x => if captures s x.1 then capture x.1 s else s) s
  let s2 := if ctlOn s1 then firmwareSteps xs s1 else { s1 with prt := { s1.prt with todo := s1.prt.todo ++ xs } }
  let s3 := if xs.any (fun x => s2.bit F.PRT_SRC_WIPE x.1) then tamperWipe s2 else s2
  if xs.any (fun x => s3.bit F.PRT_SRC_PWR x.1) then s3.put F.PRT_ST_PWRON 0 1 else s3

/-- Source 15 fires for a cause; the latch of the cause is set. -/
def integrity (cause : Nat) (s : State) : State :=
  fire [(15, cause)] (match cause with
    | 1 => s.put F.PRT_ST_OSCL 0 1
    | 2 => s.put F.PRT_ST_SHADL 0 1
    | 3 => s.put F.PRT_ST_BATL 0 1
    | 4 => s.put F.PRT_ST_WRAPL 0 1
    | _ => s)

/-! ### Configuration latches and the profile (R349) -/

/-- The configuration registers: 0 PRT_ALMT, 1 PRT_ALMD, 2 PRT_XTAL, 3 PRT_PWR, 4 PRT_TCFG, 5 PRT_PINS, 6 + k PRT_SRC[k]. -/
def porterReg (i : Nat) : RegRow × Nat :=
  match i with
  | 0 => (R.PRT_ALMT, 0)
  | 1 => (R.PRT_ALMD, 0)
  | 2 => (R.PRT_XTAL, 0)
  | 3 => (R.PRT_PWR, 0)
  | 4 => (R.PRT_TCFG, 0)
  | 5 => (R.PRT_PINS, 0)
  | _ => (R.PRT_SRC, i - 6)

/-- The reset value of element i of a porter field: PRT_SRC[15] resets to CAP, REC and ALERT (Table 17-7). -/
def prtReset (f : Fld) (i : Nat) : Nat :=
  if i = 15 ∧ (f = F.PRT_SRC_CAP ∨ f = F.PRT_SRC_REC ∨ f = F.PRT_SRC_ALERT) then 1 else f.reset

/-- The fields of configuration register i that are kept: PWRCLR is none. -/
def porterFlds (i : Nat) : List (Fld × Nat) :=
  ((fieldsAt (porterReg i).1 (porterReg i).2).filter (· ≠ F.PRT_PWR_PWRCLR)).map fun f => (f, (porterReg i).2)

/-- A latch takes its reset value. -/
def resetLatch (i : Nat) (s : State) : State := (porterFlds i).foldl (fun s x => s.put x.1 x.2 (prtReset x.1 x.2)) s

/-- Does a latch differ from the profile? -/
def latchDiffers (s : State) (i : Nat) : Bool :=
  (porterFlds i).any fun x => s.fld x.1 x.2 != mget (prtReset x.1 x.2) s.prt.prof (fkey x.1 x.2)

/-- A latch is rewritten from the profile. -/
def latchFromProfile (i : Nat) (s : State) : State :=
  (porterFlds i).foldl (fun s x => s.put x.1 x.2 (mget (prtReset x.1 x.2) s.prt.prof (fkey x.1 x.2))) s

/-- The compare of every latch with the profile at main power-up: each rewrite fires source 15, except after a brown-out. -/
def profileCompare (s : State) : State :=
  (List.range 22).foldl (fun s i =>
    if latchDiffers s i then
      (if s.prt.lost then latchFromProfile i s else integrity causeShadow (latchFromProfile i s))
    else s) s

/-- The profile takes a latch. -/
def profileWrite (i : Nat) (s : State) : State :=
  (porterFlds i).foldl (fun (s : State) x =>
    { s with prt := { s.prt with prof := mput (prtReset x.1 x.2) s.prt.prof (fkey x.1 x.2) (s.fld x.1 x.2) } }) s

/-- A privileged write of a configuration register: its latch at once, and then the profile, with the Vault priority of calibration
set writes (R349). FCNT above FWIN is refused (R356). -/
def porterWrite (i w : Nat) (s : State) : State :=
  if s.prt.brown ∨ (6 ≤ i ∧ i < 20 ∧ F.PRT_SRC_FWIN.slice w < F.PRT_SRC_FCNT.slice w) then s
  else onVault 4 (.profile i) (profileWrite i) ((porterFlds i).foldl (fun s x => s.put x.1 x.2 (x.1.slice w)) s)

def execPorterConfigWrite (reg : Fin 22) (w : Word) (s : State) : Res :=
  .next (if mainOn s && privileged s then porterWrite reg w.toNat s else s)

/-- Every 64 s: latches in disagreement with their shadow take their reset values; a calendar word in disagreement sets OSF; a
disagreement of KB makes it absent (R325, R348, R349). -/
def shadowCheck (bad : List Nat) (cal kb : Bool) (s : State) : State :=
  let s1 := bad.foldl (fun s i => resetLatch i s) s
  let s2 := if cal then s1.put F.PRT_ST_OSF 0 1 else s1
  let s3 := if kb then loseKb 3 s2 else s2
  if bad ≠ [] ∨ cal then integrity causeShadow s3 else s3

def execPorterShadowCheck (bad : List (Fin 22)) (cal kb : Bool) (s : State) : Res :=
  .next (if s.prt.brown then s else shadowCheck (bad.map fun i => i.toNat) cal kb s)

/-! ### Supply and brown-out (R341, R342) -/

/-- The switch feeds the porter from the main supply, or from the cell. -/
def execPorterSupplySwitch (main : Bool) (s : State) : Res := .next { s with prt := { s.prt with cell := !main } }

/-- Every field of class P and every latch takes its reset value. -/
def porterClear (s : State) : State :=
  (List.range 22).foldl (fun s i => resetLatch i s) { s with flds := keepCls (fun c => c != .P) s.flds }

/-- The brown-out detector trips: the porter's state is lost, and KB with it. -/
def brownOut (s : State) : State :=
  let s1 := loseKb 2 s
  let s2 := { s1 with sbx := { s1.sbx with wipe := if s1.sbx.wipe = 1 ∨ s1.sbx.wipe = 3 then 2 else s1.sbx.wipe } }
  let s3 := porterClear s2
  { s3 with prt := { s3.prt with
      brown := true, lost := true, secT := s3.clk.now, stopT := none, corr := 0, step := 0, hist := [], fired := []
      todo := [] } }

def execPorterBrownOut (s : State) : Res := .next (brownOut s)

/-- The detector releases: the calendar restarts at 2000-01-01 and the LFSR takes its seed. -/
def brownRelease (s : State) : State :=
  let d := draw s
  let s1 := putCal ⟨0, 0, 1, 1, 0, 0, 0⟩ d.2
  { s1 with prt := { s1.prt with brown := false, lfsr := d.1 % 65536 } }

def execPorterBrownOutRelease (s : State) : Res := .next (if s.prt.brown then brownRelease s else s)

/-- The report of a lost porter state at a main power-up, before metering (R342, R359). -/
def reportLost (s : State) : State :=
  if s.prt.lost then
    let s1 := (List.range 16).foldl (fun s k => s.put F.PRT_SLT_INFO_LOST k 0) { s with prt := { s.prt with lost := false } }
    let r : LdgRec := { mkRec s1 95 causeLost with nosite := true }
    fireAlert (15, causeLost) (if s1.bit F.PRT_SRC_REC 15 then recordEvt s1 95 r else s1)
  else s

/-! ### The calendar (R344, R346 to R348) -/

/-- Do the enabled fields of the alarm match, and is one enabled (R356)? -/
def alarmMatch (s : State) : Bool :=
  let t := fun (en a b : Fld) => !s.bit en || s.fld a == s.fld b
  s.bit F.PRT_ALMD_AEN && (s.bit F.PRT_ALMT_HEN || s.bit F.PRT_ALMT_MEN || s.bit F.PRT_ALMT_SEN || s.bit F.PRT_ALMD_DEN)
    && t F.PRT_ALMT_HEN F.PRT_ALMT_HOUR F.PRT_TIME_HOUR && t F.PRT_ALMT_MEN F.PRT_ALMT_MIN F.PRT_TIME_MIN
    && t F.PRT_ALMT_SEN F.PRT_ALMT_SEC F.PRT_TIME_SEC && t F.PRT_ALMD_DEN F.PRT_ALMD_DAY F.PRT_DATE_DAY

/-- One second's share of the correction is spent (R347). -/
def spendCorr (p : PrtSt) : PrtSt :=
  let w : Int := p.corr.tdiv 256
  let k : Int := max (-(p.step : Int)) (min p.step w)
  { p with corr := p.corr - 256 * k }

/-- A second ends: the calendar advances, the wrap of 2199 sets OSF and fires source 15, and the alarm is tested. -/
def calendarSecond (s : State) : State :=
  let c := getCal s
  let n := nextSecond c
  let s1 := putCal n { s with prt := spendCorr s.prt }
  let wrap := decide (n.cent < c.cent)
  let s2 := if wrap then (s1.put F.PRT_ST_OSF 0 1).put F.PRT_ST_WRAPL 0 1 else s1
  let xs := (if alarmMatch s2 then [(14, 0)] else []) ++ (if wrap then [(15, causeWrap)] else [])
  if xs = [] then s2 else fire xs s2

def execCalendarSecond (s : State) : Res := .next (if s.prt.brown then s else calendarSecond s)

/-- Is the holding set a date (R346)? -/
def holdingOk (s : State) : Bool :=
  let mo := unbcd (s.fld F.PRT_HDATE_MONTH)
  let da := unbcd (s.fld F.PRT_HDATE_DAY)
  [F.PRT_HTIME_SEC, F.PRT_HTIME_MIN, F.PRT_HTIME_HOUR, F.PRT_HDATE_YEAR, F.PRT_HDATE_MONTH, F.PRT_HDATE_DAY].all
      (fun f => bcdOk (s.fld f))
    && decide (unbcd (s.fld F.PRT_HTIME_SEC) ≤ 59) && decide (unbcd (s.fld F.PRT_HTIME_MIN) ≤ 59)
    && decide (unbcd (s.fld F.PRT_HTIME_HOUR) ≤ 23) && decide (1 ≤ mo) && decide (mo ≤ 12) && decide (1 ≤ da)
    && decide (da ≤ monthDays (s.fld F.PRT_HDATE_CENT) (unbcd (s.fld F.PRT_HDATE_YEAR)) mo)

/-- A privileged write of PRT_COMMIT.GO. -/
def calendarCommit (s : State) : State :=
  if holdingOk s then
    (putCal ⟨s.fld F.PRT_HDATE_CENT, unbcd (s.fld F.PRT_HDATE_YEAR), unbcd (s.fld F.PRT_HDATE_MONTH),
      unbcd (s.fld F.PRT_HDATE_DAY), unbcd (s.fld F.PRT_HTIME_HOUR), unbcd (s.fld F.PRT_HTIME_MIN),
      unbcd (s.fld F.PRT_HTIME_SEC)⟩ s).put F.PRT_COMMIT_REJ 0 0
  else s.put F.PRT_COMMIT_REJ 0 1

def execCalendarCommit (s : State) : Res :=
  .next (if mainOn s && privileged s && !s.prt.brown then calendarCommit s else s)

/-- Every 64 s, from the porter's own temperature in °C: the correction for the next 64 s (R347). -/
def crystalComp (tp : Rat) (s : State) : State :=
  let k : Rat := (s.fld F.PRT_XTAL_K : Rat) / 10000
  let t0 : Rat := (s.sfld F.PRT_XTAL_T0 : Rat) / 4
  let d : Rat := -k * (tp - t0) ^ 2 + (s.sfld F.PRT_XTAL_AGE : Rat) / 20
  let c := s.prt.corr + nearest (-d * (2097152 / 1000000) * 256)
  { s with prt := { s.prt with corr := c, step := min 8 (((c.tdiv 256).natAbs + 63) / 64) } }

def execCrystalCompensation (tp : Rat) (s : State) : Res := .next (if s.prt.brown then s else crystalComp tp s)

/-- No PCLK edge for 4 ms: OSF, and source 15 with cause OSC. The calendar stands. -/
def pclkStop (s : State) : State :=
  integrity causeOsc { s.put F.PRT_ST_OSF 0 1 with prt := { s.prt with stopT := some (s.prt.stopT.getD s.clk.now) } }

def execPclkStopDetect (s : State) : Res := .next (if s.prt.brown then s else pclkStop s)

/-- Every 64 s VBAT, in volts, is compared with 2.20 V (R355). -/
def batteryCheck (vbat : Rat) (s : State) : State :=
  let low := decide (vbat < 22 / 10)
  let s1 := s.setBit F.PRT_ST_BATLOW 0 low
  if low && !s.bit F.PRT_ST_BATLOW then integrity causeBatlow s1 else s1

def execBatteryCheck (vbat : Rat) (s : State) : Res := .next (if s.prt.brown then s else batteryCheck vbat s)

/-! ### Sources 0 to 13 (R350 to R356) -/

/-- The next state of the LFSR, x¹⁶ + x¹⁴ + x¹³ + x¹¹ + 1; its new bit is the bit drawn. -/
def lfsrNext (l : Nat) : Nat :=
  let b := (l ^^^ (l / 4) ^^^ (l / 8) ^^^ (l / 32)) % 2
  l / 2 + b * 32768

/-- The source that a sample belongs to and whether it is active; none where its detector is not in use. -/
def sampleOf (s : State) (x : PrtSample) : Option (Nat × Bool) :=
  match x with
  | .static n level =>
    if (s.fld F.PRT_TCFG_LOOP).testBit (n / 2) then none
    else some (n, xor (level == (s.fld F.PRT_PINS_PULL).testBit n) ((s.fld F.PRT_PINS_INV).testBit n))
  | .loop j rx0 rx1 =>
    let b := decide (32768 ≤ lfsrNext s.prt.lfsr)
    if (s.fld F.PRT_TCFG_LOOP).testBit j then some (8 + j, (if b then rx1 else rx0) != b) else none
  | .hall flux =>
    let th := s.fld F.PRT_TCFG_HALLTH
    if s.fld F.PRT_TCFG_FSEL = 0 ∨ s.fld F.PRT_TCFG_FSEL = 2 then
      (if th = 0 then none else some (12, decide ((2 * th : Rat) ≤ rabs flux)))
    else none
  | .fldin level =>
    if s.fld F.PRT_TCFG_FSEL = 1 ∨ s.fld F.PRT_TCFG_FSEL = 2 then some (12, level == s.bit F.PRT_TCFG_FLDPOL) else none
  | .cmpb above => some (13, above == s.bit F.PRT_TCFG_CMPBPOL)

/-- One sample passes the filter of its source. Answers the source where it fires (R356). -/
def filterSample (x : PrtSample) (s : State) : Option Nat × State :=
  let s0 := match x with
    | .loop _ _ _ => { s with prt := { s.prt with lfsr := lfsrNext s.prt.lfsr } }
    | _ => s
  match sampleOf s x with
  | none => (none, s0)
  | some (k, act) =>
    let w := s.fld F.PRT_SRC_FWIN k
    let c := s.fld F.PRT_SRC_FCNT k
    let h := (act :: mget [] s.prt.hist k).take w
    let quiet := decide (h.length = w) && h.all (! ·)
    let off := s.prt.fired.contains k
    let go := c ≠ 0 ∧ !off ∧ c ≤ (h.filter id).length
    let map := s.fld F.PRT_ST_ACTIVE &&& (2 ^ k ^^^ 0xFFFF)
    let s1 := s0.put F.PRT_ST_ACTIVE 0 (if act then map + 2 ^ k else map)
    let fired := if go then k :: s.prt.fired else if quiet then s.prt.fired.filter (· ≠ k) else s.prt.fired
    (if go then some k else none,
     { s1 with prt := { s1.prt with hist := mput [] s1.prt.hist k h, fired := fired } })

/-- Samples of one PCLK edge: the sources that fire have their response sets combined. -/
def sourceSample (xs : List PrtSample) (s : State) : State :=
  let r := xs.foldl (fun (a : List (Nat × Nat) × State) x =>
    match filterSample x a.2 with
    | (some k, s) => (a.1 ++ [(k, 0)], s)
    | (none, s) => (a.1, s)) ([], s)
  if r.1 = [] then r.2 else fire r.1 r.2

def execPorterSourceSample (xs : List PrtSample) (s : State) : Res := .next (if s.prt.brown then s else sourceSample xs s)

/-! ### Slot release and PWRON (R359, R361) -/

/-- A privileged write of PRT_SLTCLR. -/
def slotClear (mask : Nat) (s : State) : State :=
  (List.range 16).foldl (fun s k => if mask.testBit k then releaseSlot k s else s) s

def execPorterSlotClear (mask : BitVec 16) (s : State) : Res :=
  .next (if mainOn s && privileged s then slotClear mask.toNat s else s)

def execPwronClear (s : State) : Res := .next (if mainOn s && privileged s then s.put F.PRT_ST_PWRON 0 0 else s)

/-- PWRTO seconds have passed; with PWRTO at 0 PWRON is held. -/
def execPwronTimeout (s : State) : Res :=
  .next (if s.fld F.PRT_PWR_PWRTO = 0 then s else s.put F.PRT_ST_PWRON 0 0)

end Sys2Proof.Machine
end

