-- ==== Sys2Proof/Machine/Sar.lean ====
section
/-! DEFINITION. Auxiliary converter: the sequencer and its triggers, injected conversions, the housekeeping burst, failed
conversions, and shunt-temperature compensation (R374 to R385). -/

namespace Sys2Proof.Machine

/-! ### Codes (R374, R381) -/

/-- Volts at the converter of a code: 4096 codes span 2.400 V. -/
def sarVolts (code : Rat) : Rat := code * 24 / 10 / 4096

/-- The temperature of a die sensor, in 0.01 °C: 700.0 mV at 0 °C and 4.000 mV/°C (Table 19-1). -/
def sarCenti (code : Rat) : Rat := (sarVolts code - 7 / 10) * 25000

/-- Does a code lie within its input's plausibility window (Table 19-1)? -/
def plausible (s : State) (input code : Nat) : Bool :=
  let v := sarVolts code
  let t := sarCenti code
  if input < 8 then decide (s.fld F.SAR_WIN_LO input ≤ code) && decide (code ≤ s.fld F.SAR_WIN_HI input)
  else if input < 12 then decide (-5500 ≤ t) && decide (t ≤ 15000)
  else match input with
    | 12 => decide (45 / 100 ≤ v) && decide (v ≤ 135 / 100)
    | 13 => decide (1 / 2 ≤ v) && decide (v ≤ 3 / 2)
    | 14 => decide (825 / 1000 ≤ v) && decide (v ≤ 23 / 10)
    | _ => decide (6 / 10 ≤ v) && decide (v ≤ 18 / 10)

/-- The last good code of an input. -/
def lastCode (s : State) (i : Nat) : Nat := mget 0 s.sar.last i

/-! ### Triggers (R376 to R378) -/

/-- Shows BUSY and ENTRY. -/
def showSar (s : State) : State :=
  (s.setBit F.SAR_ST_BUSY 0 (s.sar.run.isSome || s.sar.burst.isSome)).put F.SAR_ST_ENTRY 0 (s.sar.run.elim 0 (·.2))

/-- The sequencer's entries as the registers hold them. -/
def seqEntries (s : State) : List (Nat × Nat) :=
  (List.range (min 32 (s.fld F.SAR_CFG_LEN))).map fun j => (s.fld F.SAR_SEQ_INPUT j, s.fld F.SAR_SEQ_SMP j)

/-- A trigger or injection before READY: NRDYL and event 100. -/
def notReady (s : State) : State := raise 100 noDetail (s.put F.SAR_ST_NRDYL 0 1)

/-- A trigger: refused before READY, an overrun while the sequencer is taken, else the entries are taken as they stand; they
start now, or after the DLY delay. -/
def sarTrigger (pwm : Bool) (s : State) : State :=
  if s.fld F.SAR_CFG_LEN = 0 && s.sar.run.isNone && s.sar.delay.isNone then s
  else if !s.bit F.SAR_ST_READY then notReady s
  else if s.sar.run.isSome || s.sar.delay.isSome || s.sar.burst.isSome then
    raise 97 (s.fld F.SAR_ST_ENTRY) (s.put F.SAR_ST_OVRL 0 1)
  else
    let s1 := { s with sar := { s.sar with src := (s.bit F.SAR_CFG_TRIG, s.bit F.SAR_CFG_EDGE) } }
    if pwm then { s1 with sar := { s1.sar with delay := some (seqEntries s) } }
    else showSar { s1 with sar := { s1.sar with run := some (seqEntries s, 0) } }

/-- TRIG and EDGE in force: new ones wait for the end of a sequence (R378). -/
def sarSource (s : State) : Bool × Bool :=
  if s.sar.run.isSome || s.sar.delay.isSome then s.sar.src else (s.bit F.SAR_CFG_TRIG, s.bit F.SAR_CFG_EDGE)

def execSarTimerTrigger (s : State) : Res :=
  .next (if running s && !(sarSource s).1 then sarTrigger false s else s)

def execPwmsyncEdge (rising : Bool) (s : State) : Res :=
  .next (if running s && (sarSource s).1 && (sarSource s).2 == !rising then sarTrigger true s else s)

/-- The DLY delay ends and the first entry begins. -/
def delayExpire (s : State) : State :=
  match s.sar.delay with
  | none => s
  | some es => showSar { s with sar := { s.sar with delay := none, run := some (es, 0) } }

def execSarDelayExpire (s : State) : Res := .next (if running s then delayExpire s else s)

/-! ### Injection and housekeeping (R379, R380) -/

/-- A write of SAR_INJ with GO. -/
def sarInject (smp input : Nat) (s : State) : State :=
  let s1 := (s.put F.SAR_INJ_SMP 0 smp).put F.SAR_INJ_INPUT 0 input
  if !s1.bit F.SAR_ST_READY then notReady s1
  else if 4 ≤ s1.sar.inj.length then raise 98 noDetail (s1.put F.SAR_ST_INJRL 0 1)
  else { s1 with sar := { s1.sar with inj := s1.sar.inj ++ [(input, smp)] } }.put F.SAR_ST_IDEPTH 0 (s1.sar.inj.length + 1)

def execSarInject (smp : Fin 64) (input : Fin 16) (s : State) : Res := .next (if mainOn s then sarInject smp input s else s)

/-- The housekeeping burst begins. -/
def startBurst (s : State) : State :=
  showSar { s with sar := { s.sar with burst := some 0, due := none, got := [], again := false } }

/-- A housekeeping burst falls due: it runs at once where the sequencer is idle (R380). -/
def housekeepingDue (s : State) : State :=
  let s1 := { s with sar := { s.sar with due := some s.clk.now } }
  if s1.bit F.SAR_ST_READY && s1.sar.run.isNone && s1.sar.delay.isNone && s1.sar.burst.isNone then startBurst s1 else s1

def execHousekeepingDue (s : State) : Res := .next (if running s then housekeepingDue s else s)

/-- The reference buffer is ready, and the first burst falls due (R376, R380). -/
def sarReady (s : State) : State := housekeepingDue (s.put F.SAR_ST_READY 0 1)

def execSarReferenceReady (s : State) : Res := .next (if running s then sarReady s else s)

/-- The converter stops at the exit from RUN. -/
def sarStop (s : State) : State :=
  ({ s with sar := { s.sar with delay := none, run := none, inj := [], burst := none, due := none, injAgain := false
                                again := false } }.put F.SAR_ST_READY 0 0).put F.SAR_ST_BUSY 0 0
    |>.put F.SAR_ST_ENTRY 0 0 |>.put F.SAR_ST_IDEPTH 0 0

/-! ### Conversions (R382) -/

/-- The input of conversion k of a burst: 16 of each of inputs 8 to 11, then one of each of 12 to 15. -/
def burstInput (k : Nat) : Nat := if k < 64 then 8 + k / 16 else k - 52

/-- The input of the conversion in progress, and whether it is injected. -/
def curInput (s : State) : Option (Nat × Bool) :=
  match s.sar.inj with
  | c :: _ => some (c.1, true)
  | [] =>
    match s.sar.burst with
    | some k => if k < 68 then some (burstInput k, false) else none
    | none => s.sar.run.bind fun r => (r.1[r.2]?).map fun c => (c.1, false)

/-- The factor of entry k of SAR_SHC (R383). -/
def shuntFactor (s : State) (k : Nat) : Rat :=
  let t : Rat := (s.sfld F.SAR_SHT_TOFS k : Rat) / 100
    + (lastCode s (s.fld F.SAR_SHC_AUX k) : Rat) * (s.sfld F.SAR_SHT_TGAIN k : Rat) / 10000
  rdiv 1 (1 + (s.sfld F.SAR_SHC_ALPHA k : Rat) / 1000000 * (t - (s.sfld F.SAR_SHR_T0 k : Rat) / 100))

/-- After a conversion of an AUX input the factors that use it are formed again (R383). -/
def reformFactors (i : Nat) (s : State) : State :=
  (List.range 8).foldl (fun s k =>
    if s.bit F.SAR_SHC_EN k && s.fld F.SAR_SHC_AUX k == i then
      { s with sar := { s.sar with fNew := mput none s.sar.fNew k (some (shuntFactor s k)) } }
    else s) s

/-- A conversion passes: its code is the input's last good one. CODE of a die sensor is that of the burst. A mark clears after
16 passes in a row. -/
def convPass (i code : Nat) (retried : Bool) (s : State) : State :=
  let s0 := if retried then transient 9 i 0 false false s else s
  let s1 := { s0 with sar := { s0.sar with last := mput 0 s0.sar.last i code } }
  let s2 := if i < 8 ∨ 12 ≤ i then s1.put F.SAR_RES_CODE i code else s1
  let marked := s2.bit F.SAR_RES_FAULT i
  let n := mget 0 s2.sar.good i + 1
  let s3 := if marked then { s2 with sar := { s2.sar with good := mput 0 s2.sar.good i (if n < 16 then n else 0) } } else s2
  let s4 := if marked && decide (16 ≤ n) then
    (s3.put F.SAR_RES_FAULT i 0).put F.SAR_ST_FLT 0 (s3.fld F.SAR_ST_FLT &&& (2 ^ i ^^^ 0xFFFF)) else s3
  reformFactors i s4

/-- The reconversion fails too: the input is marked faulty and keeps its last good value; event 96 where it was not. -/
def convFail (i : Nat) (s : State) : State :=
  let s1 := permanent 9 i 0 false false none s
  let s2 := { s1 with sar := { s1.sar with good := mput 0 s1.sar.good i 0 } }
  raiseIf (!s2.bit F.SAR_RES_FAULT i) 96 i
    ((s2.put F.SAR_RES_FAULT i 1).put F.SAR_ST_FLT 0 (s2.fld F.SAR_ST_FLT ||| 2 ^ i))

/-- The order passes on from a conversion that is done: the next injection, burst conversion or entry. A burst that is due
begins at the end of a sequence, or at a boundary between entries after 10 ms (R380). -/
def convNext (i : Nat) (injected : Bool) (s : State) : State :=
  if injected then
    { s with sar := { s.sar with inj := s.sar.inj.tail, injAgain := false } }.put F.SAR_ST_IDEPTH 0 (s.sar.inj.length - 1)
  else match s.sar.burst with
    | some k =>
      { s with sar := { s.sar with
          burst := some (k + 1), again := false, got := mmod [] s.sar.got i fun l => l ++ [lastCode s i] } }
    | none =>
      match s.sar.run with
      | none => s
      | some r =>
        let ended := decide (r.1.length ≤ r.2 + 1)
        let nxt : Option (List (Nat × Nat) × Nat) := if ended then none else some (r.1, r.2 + 1)
        let s1 := showSar { s with sar := { s.sar with run := nxt, again := false } }
        match s1.sar.due with
        | none => s1
        | some t => if ended || decide (t + 10000000 ≤ s1.clk.now) then startBurst s1 else s1

/-- A conversion ends: it passes with its flag present and its code plausible; the first failure is converted again at once. -/
def conversion (code : Nat) (eoc : Bool) (s : State) : State :=
  match curInput s with
  | none => s
  | some (i, injected) =>
    let again := if injected then s.sar.injAgain else s.sar.again
    let s1 := s.put F.SAR_RES_CNT i (s.fld F.SAR_RES_CNT i + 1)
    if eoc && plausible s i code then convNext i injected (convPass i code again s1)
    else if again then convNext i injected (convFail i s1)
    else
      let s2 := { s1 with sar := { s1.sar with good := mput 0 s1.sar.good i 0 } }
      if injected then { s2 with sar := { s2.sar with injAgain := true } } else { s2 with sar := { s2.sar with again := true } }

def execSarConversionComplete (code : Fin 4096) (eoc : Bool) (s : State) : Res :=
  .next (if running s && s.bit F.SAR_ST_READY then conversion code eoc s else s)

/-! ### The burst's results (R381) -/

/-- The mean of the codes that the burst collected of an input. -/
def burstMean (s : State) (i : Nat) : Rat :=
  let l := mget [] s.sar.got i
  rdiv (l.sum : Nat) l.length

/-- Does any supply reading lie outside its limits? -/
def supplyOut (s : State) : Bool :=
  let out := fun (i : Nat) (scale lo hi : Rat) => let v := scale * sarVolts (lastCode s i); decide (v < lo) || decide (hi < v)
  out 12 1 (855 / 1000) (945 / 1000) || out 13 1 (950 / 1000) (1050 / 1000) || out 14 2 (3135 / 1000) (3465 / 1000)
    || out 15 1 (1194 / 1000) (1206 / 1000)

/-- What firmware decides after a burst: the temperatures go to calibration and the supplies are tested. -/
def housekeeping (ts : List Int) (s : State) : State :=
  let s1 := dieTemperature ts s
  let o := supplyOut s1
  raiseIf (o && !s1.bit F.SAR_ST_SUPX) 99 noDetail (s1.setBit F.SAR_ST_SUPX 0 o)

/-- The burst is done: the sequencer shows the means, and firmware decides on them (R17, R381). -/
def burstDone (s : State) : State :=
  let ts := [8, 9, 10, 11].map fun i => nearest (sarCenti (burstMean s i))
  let s1 := [8, 9, 10, 11].foldl (fun s i => s.put F.SAR_RES_CODE i (nearest (burstMean s i)).toNat) s
  onCtlOnce (.housekeeping ts) (housekeeping ts) (showSar { s1 with sar := { s1.sar with burst := none, got := [] } })

def execHousekeepingBurstComplete (s : State) : Res :=
  .next (if running s && s.sar.burst == some 68 then burstDone s else s)

/-! ### Shunt factors (R383) -/

/-- At the channel's grid-cycle boundary a new factor takes effect where it differs by more than 10 ppm; the interval is
marked as R206 marks new trace values. -/
def shuntApply (k : Nat) (s : State) : State :=
  match mget none s.sar.fNew k with
  | none => s
  | some f =>
    let s1 := { s with sar := { s.sar with fNew := mput none s.sar.fNew k none } }
    if !boundaryAt s (s.fld F.SAR_SHC_STREAM k) then s
    else if 10 / 1000000 < rabs (f - mget 1 s.sar.f k) then
      ({ s1 with sar := { s1.sar with f := mput 1 s1.sar.f k f } }.putI F.SAR_SHR_FPPM k (clampS 16 (nearest ((f - 1) * 1000000)))).stamp
        F.CAL_CTAP_DTAP (s.fld F.SAR_SHC_STREAM k)
    else s1

def execShuntFactorApply (k : Fin 8) (s : State) : Res := .next (if running s then shuntApply k s else s)

end Sys2Proof.Machine
end

