-- ==== Sys2Proof/Machine/Faults.lean ====
section
/-! DEFINITION. Fault supervision: SRAM and Vault faults, the metering core, PLL-M, the supervisory controller, scrubbing,
checker self-tests and injection (R248 to R259). -/

namespace Sys2Proof.Machine

/-! ### SRAM (R250, Table 12-3) -/

/-- Data of a failed read that is not restored at once: a retained sample is marked lost; a frame received is asked for again, and one of
this device's own is lost, which its receiver sees; the next capture burst carries its loss flag; controller data come back by a warm
restart from the FIRMWARE region. Posted results are computed again. -/
def sramLost (d : SramData) (s : State) : State :=
  match d with
  | .retained m => { s with flts := { s.flts with lost := s.flts.lost ++ [(m.val, s.clk.site)] } }
  | .results => s
  | .queue p l sent => if sent then linkDone p l.toNat s else linkAnswer p l.toNat false s
  | .capture => { s with flts := { s.flts with capLost := true } }
  | .program => if ctlOn s then { s with ctl := .restarting }.put F.FLTS_ST_RESTL 0 1 else s

/-- The store that a word belongs to. -/
def storeOf : SramData → Nat
  | .retained _ => 0
  | .results => 1
  | .queue _ _ _ => 2
  | .capture => 3
  | .program => 4

/-- A row fails permanently: it is remapped to a spare row of its bank, or fenced where the bank has none left, and then the store that
owned it shrinks by its 128 bytes. -/
def sramRetire (bank row : Nat) (d : SramData) (scrub : Bool) (s : State) : State :=
  let k := 514 * bank + row
  let spare := decide ((s.flts.rowsMap.filter fun x => x / 514 = bank).length < 2)
  let s1 :=
    if spare then
      { s with flts := { s.flts with rowsMap := s.flts.rowsMap ++ [k] } }.inc F.FLTS_SPARES_SRAMUSED
    else { s with flts := { s.flts with
      rowsFen := s.flts.rowsFen ++ [k], shrunk := mput 0 s.flts.shrunk (storeOf d) (mget 0 s.flts.shrunk (storeOf d) + 128) } }
  permanent 3 bank row spare scrub none s1

/-- A parity failure on a read; the word is restored, written back and read again. An injected one is always a transient. With the
bank's checker lost nothing is noticed (R258). -/
def sramError (bank row : Nat) (d : SramData) (pass scrub : Bool) (s : State) : State :=
  if checkOff s 3 bank then s
  else
    let t := takeInjection 3 bank s
    let s1 := if t.1 then t.2 else sramLost d t.2
    if t.1 || pass then transient 3 bank row t.1 scrub s1 else sramRetire bank row d scrub s1

def execSramParityError (bank : Fin 48) (row : Fin 514) (data : SramData) (pass : Bool) (s : State) : Res :=
  .next (if mainOn s then sramError bank row data pass false s else s)

/-! ### Vault (R251, R426) -/

/-- A slot's copy is bad; where both are, event 77 and BADL (R326, R340). -/
def slotCopyBad (i : Nat) (b : Bool) (s : State) : State :=
  match mget none s.sbx.slots i with
  | none => s
  | some k =>
    let k1 := if b then { k with bBad := true } else { k with aBad := true }
    let s1 := setSlotKey i (some k1) s
    if k1.aBad && k1.bBad && !(k.aBad && k.bBad) then raise 77 i (s1.put F.SBX_ST_BADL 0 1) else s1

/-- The block of a record is fenced: what it held is lost, and each kind of record proceeds as R251 gives. -/
def fenceRecord (x : VaultRec) (s : State) : State :=
  match x with
  | .ckpt p _ => { s with mtr := { s.mtr with ring := mput .empty s.mtr.ring p .bad } }
  | .ledger p =>
    (match ldgAt s p with
      | .held r =>
        let n := s.ldg.lastSeq - if r.rseq = s.ldg.lastSeq then 1 else 0
        placeRec r (setPos p .fenced { s with ldg := { s.ldg with lastSeq := n } })
      | _ => setPos p .fenced s)
  | .calSet i b _ =>
    let c := copiesOf s i
    putCopies i (if b then { c with bBad := true } else { c with aBad := true }) s
  | .slot i b => slotCopyBad i b s
  | .other _ => s

/-- A write whose read-back fails twice: the record is written to a spare block, or is lost where none is left (R251). -/
def vaultRetire (x : VaultRec) (s : State) : State :=
  let b := vaultBlock x
  retireBlock b false (if blockSpare s b then s else fenceRecord x s)

/-- A Vault write whose read-back fails is written again. -/
def vaultReadback (x : VaultRec) (pass : Bool) (s : State) : State :=
  if pass then transient 4 0 (vaultBlock x) false false s else vaultRetire x s

def execVaultWriteReadback (x : VaultRec) (pass : Bool) (s : State) : Res :=
  .next (if mainOn s && !s.flts.blksFen.contains (vaultBlock x) then vaultReadback x pass s else s)

/-! ### Metering core (R252) -/

/-- An operation of the metering core fails its residue and is executed again; with its checker lost nothing is noticed (R258). -/
def coreMismatch (pass : Bool) (s : State) : State :=
  let t := takeInjection 2 0 s
  if checkOff s 2 0 then s
  else if t.1 || pass then transient 2 0 0 t.1 false t.2 else makeFailed (permanent 2 0 0 false false none t.2)

def execMeteringCoreMismatch (pass : Bool) (s : State) : Res := .next (if running s then coreMismatch pass s else s)

/-! ### PLL-M (R253) -/

/-- Loss of lock: holdover begins. -/
def pllLoss (s : State) : State := raise 45 noDetail ((s.lift F.FLTS_ST_PLLHOLD 0).put F.FLTS_ST_CLKL 0 1)

def execPllLockLoss (s : State) : Res :=
  .next (if mainOn s && s.pwr.pllLocked && !s.bit F.FLTS_ST_PLLHOLD then pllLoss s else s)

/-- Lock again within 2 ms: a transient. The following second is UNVERIFIED too. -/
def pllRelock (s : State) : State :=
  let s1 := s.lower F.FLTS_ST_PLLHOLD 0
  transient 10 0 0 false false { s1 with flts := { s1.flts with pllUntil := s1.clk.site + 1000000000 } }

def execPllRelock (s : State) : Res :=
  .next (if mainOn s && s.bit F.FLTS_ST_PLLHOLD && !s.flts.pllLost then pllRelock s else s)

/-- No lock within 2 ms: the device is FAILED, and holdover continues until a main reset. -/
def pllTimeout (s : State) : State :=
  let s1 := { s with flts := { s.flts with pllLost := true } }
  makeFailed (permanent 10 0 0 false false none s1)

def execPllRelockTimeout (s : State) : Res :=
  .next (if mainOn s && s.bit F.FLTS_ST_PLLHOLD && !s.flts.pllLost then pllTimeout s else s)

/-! ### Supervisory controller (R17, R18, R254) -/

/-- A lockstep mismatch: a warm restart; a second one within 60 s of the end of the last halts the controller. -/
def warmRestart (s : State) : State :=
  let again := match s.flts.restartT with
    | some t => decide (s.clk.site ≤ t + 60000000000)
    | none => false
  if again then permanent 11 0 0 false false none ({ s with ctl := .halted }.put F.FLTS_ST_CTRLHALT 0 1)
  else
    raise 46 noDetail ({ s with ctl := .restarting, flts := { s.flts with lockstep := true } }.put F.FLTS_ST_RESTL 0 1)

def execWarmRestart (s : State) : Res := .next (if ctlOn s then warmRestart s else s)

/-- The controller runs: it takes over the hardware event queue in order, with a summary of the excess, before any newer
event (R18). -/
def controllerRuns (s : State) : State :=
  let hw := s.ldg.hwq
  let x := s.ldg.excess
  let s1 := { s with ctl := .running, ldg := { s.ldg with hwq := [], excess := ⟨0, 0, 0⟩ } }
  let s2 := hw.foldl putRec s1
  if x.count = 0 then s2 else putRec s2 (mkSummary s2 0xFF 6 0xFFFF x.count x.firstT x.lastT)

/-- The end of a warm restart: firmware functions resume where they stopped (R17). After a lockstep mismatch the restart was
the retry and has passed. -/
def restartDone (s : State) : State :=
  let s1 := controllerRuns s
  let s2 :=
    if s1.flts.lockstep then
      transient 11 0 0 false false
        { s1 with flts := { s1.flts with lockstep := false, restartT := some s1.clk.site } }
    else s1
  firmwareReady (pkResume (runDeferred s2))

/-! ### Recovery windows (R256) -/

def execRecoveryWindowClose (s : State) : Res := .next (if mainOn s then closeWindow s else s)

/-! ### Scrubbing and self-tests (R258) -/

/-- A mismatch that no unit's retry rule covers: the latch and event 47, whose DETAIL is open. -/
def scrubMismatch (i : Nat) (s : State) : State := raise 47 (Config.openDetail i).toNat (s.put F.FLTS_ST_LATL 0 1)

/-- An error found by scrubbing marks the fault and raises event 47 too. -/
def scrubFault (cls unit : Nat) (s : State) : State := latent true cls unit (s.put F.FLTS_LAST_SCRUB 0 1)

/-- A checkpoint slot whose block fails at both reads: there is no second copy, and the slot is lost (R137). -/
def loseSlot (x : VaultRec) (p : Nat) (s : State) : State :=
  if mget .empty s.mtr.ring p = .empty then s
  else retireBlock (vaultBlock x) true { s with mtr := { s.mtr with ring := mput .empty s.mtr.ring p .bad } }

/-- A copy of a set whose block fails at both reads: the other copy serves, and this one is rewritten from it; where neither is sound the
block is retired (Table 12-1, R200, R251). -/
def scrubSet (x : VaultRec) (i : Nat) (copyB : Bool) (s : State) : State :=
  let c := copiesOf s i
  if copyB then
    (if c.aBad then retireBlock (vaultBlock x) true (putCopies i { c with bBad := true } s)
     else transient 4 0 (vaultBlock x) false true (putCopies i { c with b := c.a, bBad := copyFenced s i true } s))
  else if c.bBad then retireBlock (vaultBlock x) true (putCopies i { c with aBad := true } s)
  else transient 4 0 (vaultBlock x) false true (touchSet i (putCopies i { c with aBad := true } s))

/-- The same for a copy of a key slot (R326). -/
def scrubKey (x : VaultRec) (i : Nat) (copyB : Bool) (s : State) : State :=
  match mget none s.sbx.slots i with
  | none => s
  | some k =>
    if (if copyB then k.aBad else k.bBad) then retireBlock (vaultBlock x) true (slotCopyBad i copyB s)
    else
      let k1 := if copyB then { k with bBad := slotFenced s i true } else { k with aBad := slotFenced s i false }
      transient 4 0 (vaultBlock x) false true (setSlotKey i (some k1) s)

/-- A record fails its check at both reads of a scrubbing step: the second copy, where it has one, is the retry that passes; else the record
is lost and its block retired (Table 12-1). Every record but checkpoint slots and ledger records is stored twice (Table 22-8). -/
def scrubLost (x : VaultRec) (s : State) : State :=
  match x with
  | .ckpt p _ => loseSlot x p s
  | .ledger p => match ldgAt s p with
    | .held _ => loseRecord p ((List.range 16).map fun k => (Config.lostWords p k).toNat) true s
    | _ => s
  | .calSet i b _ => scrubSet x i b s
  | .slot i b => scrubKey x i b s
  | .other _ => transient 4 0 (vaultBlock x) false true s

/-- Two sound copies of a set that differ: copy A stands, as it is the one that is read, and copy B is rewritten from it (DESIGN CHOICE:
Table 12-6 has them compared and does not say which stands). -/
def compareCopies (x : VaultRec) (s : State) : State :=
  match x with
  | .calSet i _ _ =>
    let c := copiesOf s i
    if c.aBad || c.bBad || c.a == c.b then s else transient 4 0 (vaultBlock x) false true (putCopies i { c with b := c.a } s)
  | _ => s

/-- A record is read by scrubbing, and its copies compared. What is fenced is known to fail, and is not scrubbed; with the Vault's
checker lost no failure is noticed (R258). -/
def scrubRecord (x : VaultRec) (err : Option Bool) (s : State) : State :=
  if s.flts.blksFen.contains (vaultBlock x) then s
  else
    let t := takeInjection 4 0 s
    if t.1 then transient 4 0 (vaultBlock x) true true t.2
    else match (if checkOff s 4 0 then none else err) with
      | some true => transient 4 0 (vaultBlock x) false true s
      | some false => scrubLost x s
      | none => compareCopies x s

/-- A lane is given a ROM vector; an injected corruption of its next operation is a transient (R259). -/
def scrubLane (cls lane : Nat) (err : Option Bool) (retire : State → State) (s : State) : State :=
  let t := takeInjection cls lane s
  if t.1 then transient cls lane 0 true true t.2
  else match err with
    | some true => transient cls lane 0 false true s
    | some false => scrubFault cls lane (retire s)
    | none => s

/-- One step of scrubbing: any error is handled by its unit's retry rule. -/
def scrubStep (p : ScrubPath) (s : State) : State :=
  match p with
  | .sram bank row d err last =>
    let s1 := match err with
      | some pass => sramError bank row d pass true s
      | none => if s.flts.inj = some (3, bank.val) then sramError bank row d true true s else s
    if last then s1.inc F.FLTS_SCRUB_SRAMPASS else s1
  | .vault x err last =>
    let s1 := scrubRecord x err s
    if last then s1.inc F.FLTS_SCRUB_VLTPASS else s1
  | .rom same => if same then s else scrubMismatch 1 s
  | .fuses same => if same then s else scrubMismatch 2 s
  | .fltLane lane err =>
    if (s.fld F.FLT_ENG_LANERET).testBit lane then s else scrubLane 0 lane err (retireFltLane lane) s
  | .hrmLane lane err =>
    if (s.fld F.HRM_ENG_LANERET).testBit lane then s else scrubLane 1 lane err (retireHrmLane lane) s

def execScrubStep (p : ScrubPath) (s : State) : Res := .next (if mainOn s then scrubStep p s else s)

/-- A checker that guards a unit of class `guards` is given a wrong code: it flags it at once, or when tested again, or is
lost. -/
def selfTest (chk guards : Nat) (first again : Bool) (s : State) : State :=
  let k := 256 * guards + chk
  if first ∨ s.flts.chkLost.contains k then s
  else if again then transient 13 chk 0 false true s
  else
    permanent 13 chk 0 false true none
      ({ s with flts := { s.flts with chkLost := s.flts.chkLost ++ [k] } }.put F.FLTS_ST_CHKLOST 0 1)

def execCheckerSelfTest (chk : Fin 256) (guards : Fin 16) (first again : Bool) (s : State) : Res :=
  .next (if mainOn s then selfTest chk guards first again s else s)

/-! ### Injection (R259) -/

/-- Are TGT and UNIT in range and the unit not retired? -/
def injectOk (s : State) (tgt unit : Nat) : Bool :=
  match tgt with
  | 0 => decide (unit ≤ 10) && !(s.fld F.FLT_ENG_LANERET).testBit unit
  | 1 => decide (unit ≤ 16) && !(s.fld F.HRM_ENG_LANERET).testBit unit
  | 2 => unit == 0
  | 3 => decide (unit ≤ 47)
  | 4 => unit == 0
  | 5 => unit == 0
  | 6 => decide (1 ≤ unit) && decide (unit ≤ 3)
  | _ => false

/-- A write of FLTS_INJ.GO by a privileged session. -/
def faultInject (tgt unit : Nat) (s : State) : State :=
  let s1 := (s.put F.FLTS_INJ_TGT 0 tgt).put F.FLTS_INJ_UNIT 0 unit
  if s.flts.inj.isSome || !injectOk s tgt unit then s1.put F.FLTS_INJ_REJ 0 1
  else { s1 with flts := { s1.flts with inj := some (tgt, unit) } }.put F.FLTS_INJ_GO 0 1 |>.put F.FLTS_INJ_REJ 0 0

def execFaultInject (tgt : Fin 16) (unit : Fin 256) (s : State) : Res :=
  .next (if mainOn s && privileged s then faultInject tgt unit s else s)

end Sys2Proof.Machine
end

