-- ==== Sys2Proof/Machine/WaylineOps.lean ====
section
/-! DEFINITION. Shared operations of Wayline: the node's state, the neighbour table, tone maps, security, and frames that
wait to be sent (R282 to R303). -/

namespace Sys2Proof.Machine

/-- This node's address. -/
def naddr (s : State) : Nat := s.fld F.WAY_CFG_NADDR

/-- Does the physical layer run? -/
def wayUp (s : State) : Bool := running s && s.bit F.WAY_ST_UP

/-- Does the node take part: its firmware half is stopped during a warm restart (R301)? -/
def wayOn (s : State) : Bool := wayUp s && ctlOn s

/-- May a frame be sent: not while a power-fail report is present (R416)? -/
def waySend (s : State) : Bool := wayOn s && !s.bit F.PWR_ST_PFAIL

/-- Does slot 8 hold a usable network key (R334)? -/
def keyed (s : State) : Bool := (slotKey s 8).isSome

/-! ### Tone maps (R285, R286) -/

/-- The permanent notches of Table 14-3, first and last carrier. -/
def notches : List (Nat × Nat) :=
  [(93, 104), (178, 206), (357, 375), (516, 521), (715, 736), (924, 932), (1074, 1100), (1273, 1281), (1432, 1522)]

/-- Is a carrier in use: 93 to 1535, in no permanent notch, and not in WAY_NOTCH? -/
def carrierUsed (s : State) (c : Nat) : Bool :=
  decide (93 ≤ c) && decide (c ≤ 1535) && !(notches.any fun n => decide (n.1 ≤ c) && decide (c ≤ n.2))
    && !(s.fld F.WAY_NOTCH_NOTCH ((c - 93) / 32)).testBit ((c - 93) % 32)

/-- Bits and required SNR, in 0.1 dB, at rates 1/2 and 5/6 of each modulation code from 1 to 7 (Table 14-4). -/
def modCodes : List (Nat × Nat × Nat) :=
  [(1, 20, 48), (2, 50, 78), (3, 85, 113), (4, 115, 143), (6, 175, 203), (8, 235, 263), (10, 295, 323)]

/-- The bits a carrier of this SNR carries, in 0.25 dB, with this margin, at rate 5/6 or 1/2. -/
def carrierBits (fast : Bool) (margin snr : Nat) : Nat :=
  modCodes.foldl (fun a m => if 4 * (if fast then m.2.2 else m.2.1) + 10 * margin ≤ 10 * snr then m.1 else a) 0

/-- The information bits per symbol of the tone map that a sounding gives: rate 5/6 where at least half the carriers then
carry 64-QAM or more. -/
def toneBits (s : State) (snrs : List Nat) : Nat :=
  let used := (snrs.zipIdx.filter fun p => carrierUsed s (p.2 + 93)).map (·.1)
  let m := s.fld F.WAY_PHY_TMMARGIN
  let hi := used.map (carrierBits true m)
  if used.length ≤ 2 * (hi.filter (6 ≤ ·)).length then hi.sum * 5 / 6 else (used.map (carrierBits false m)).sum / 2

/-! ### Neighbours (R295) -/

/-- Changes the entry at an index. -/
def setNbr (i : Nat) (x : Option Nbr) (s : State) : State :=
  { s with way := { s.way with nbr := mput none s.way.nbr i x } }

/-- Is a session key bound to this address in use (R295)? -/
def sessionSlot (s : State) (a : Nat) : Option Nat :=
  s.sbx.slots.findSome? fun e => e.2.bind fun k => if 10 ≤ e.1 ∧ k.peer = a then some e.1 else none

/-- The entry that a new neighbour replaces in a full table: that heard longest ago, but never the parent or one with a
session key. -/
def victim (s : State) : Option Nat :=
  let c := s.way.nbr.filterMap fun e => e.2.bind fun x =>
    if s.way.parent = some x.naddr ∨ (sessionSlot s x.naddr).isSome then none else some (e.1, x.heardT)
  (c.foldl (fun (a : Option (Nat × Nat)) e => match a with
    | none => some e
    | some b => if e.2 < b.2 then some e else a) none).map (·.1)

/-- A new entry. -/
def newNbr (a : Nat) : Nbr :=
  { naddr := a, uid := 0, dcSide := false, level := 0xF, bslot := 0, siteid := 0, mcar := 0, steps := 0, snr := 0
    heardT := 0, beaconT := 0, levelT := 0, mode := 1, tmi := 0, bits := 304, sound := true, issued := 0 }

/-- Enters a new neighbour at the lowest free index, or in place of another where the table is full; where none can be
replaced it is not entered. Either case of a full table raises event 58. -/
def enterNbr (x : Nbr) (s : State) : State :=
  let s0 := { s with way := { s.way with last := mput none s.way.last x.naddr none } }
  match (List.range 512).find? fun i => (mget none s.way.nbr i).isNone with
  | some i => setNbr i (some x) s0
  | none =>
    let s1 := raise 58 x.naddr (s0.put F.WAY_ST_FULLL 0 1)
    match victim s with
    | some i => setNbr i (some x) s1
    | none => raise 58 x.naddr (s.put F.WAY_ST_FULLL 0 1)

/-- Creates or refreshes the entry of an address. -/
def refresh (a : Nat) (g : Nbr → Nbr) (s : State) : State :=
  let touch (x : Nbr) : Nbr := { g x with heardT := runNow s }
  match findNbr s a with
  | some e => setNbr e.1 (some (touch e.2)) s
  | none => enterNbr (touch (newNbr a)) s

/-- Removes an entry, and the parent with it. -/
def removeNbr (i : Nat) (s : State) : State :=
  match mget none s.way.nbr i with
  | none => s
  | some x =>
    let s1 := setNbr i none { s with way := { s.way with last := mput none s.way.last x.naddr none } }
    if s.way.parent = some x.naddr then { s1 with way := { s1.way with parent := none } } else s1

/-- The slot on which this node beacons on a side (R291). -/
def ownSlot (s : State) (dc : Bool) : Nat :=
  if dc && s.fld F.WAY_CFG_CPL == 3 then (s.fld F.WAY_ST_BSLOTNOW + 8) % 16 else s.fld F.WAY_ST_BSLOTNOW

/-- A neighbour announces this node's own slot on its side: CLASH, with event 59; the node with the higher NADDR moves to
the lowest slot that no entry announces, or beacons in even periods alone (R295). -/
def checkClash (a slot : Nat) (dc : Bool) (s : State) : State :=
  if slot ≠ ownSlot s dc then s
  else
    let s1 := raiseIf (!s.bit F.WAY_ST_CLASH) 59 a (s.put F.WAY_ST_CLASH 0 1)
    if naddr s ≤ a then s1
    else match (List.range 16).find? fun k => !(s.way.nbr.any fun e => e.2.elim false fun x => x.bslot == k) with
      | some k => { s1 with way := { s1.way with move := some k, even := false } }
      | none => { s1 with way := { s1.way with even := true } }

/-! ### Impulse blanking (R288) -/

/-- A mark spreads to the neighbour on either side. -/
def spread (xs : List Bool) : List Bool :=
  (xs.zip ((false :: xs).zip (xs.drop 1 ++ [false]))).map fun p => p.1 || p.2.1 || p.2.2

/-- The samples that are blanked: those that reach BLANKTH × 2⁻⁸ of full scale, with the two on either side. BLANKTH 0 blanks
none. -/
def blanked (th : Nat) (xs : List Rat) : List Bool :=
  spread (spread (xs.map fun x => th != 0 && decide ((th : Rat) / 256 ≤ |x|)))

/-- The samples as the transform takes them. -/
def blank (th : Nat) (xs : List Rat) : List Rat := (xs.zip (blanked th xs)).map fun p => if p.2 then 0 else p.1

/-- What the decoder is given of a symbol: an erasure where more than 819 of its 4096 transform samples are blanked. -/
def symSoft (th : Nat) (xs : List Rat) : SymSoft :=
  let k := (blanked th xs).count true
  if 819 < k then .erased else .kept (((4096 - k : Nat) : Rat) / 4096)

/-- The receiver takes a frame's symbols. -/
def takeSymbols (rx : List (List (List Rat))) (s : State) : State :=
  { s with way := { s.way with soft := rx.map fun y => y.map (symSoft (s.fld F.WAY_PHY_BLANKTH)) } }

/-- Was every symbol of the latest frame an erasure on every path? Then the decoder has nothing to work on, and the payload's CRC
fails. -/
def allErased (s : State) : Bool := s.way.soft != [] && s.way.soft.all fun y => y.all fun x => x == .erased

/-! ### Frames as they are sent (R287, R289, R290, R298) -/

/-- The byte of FTYPE and KIDX in the nonce and the associated data of R298. -/
def ccmByte (ftype kidx : Nat) : Nat := 16 * ftype + 4 * kidx

def ccmNonce (netid osa oda fcnt ftype kidx : Nat) : List Nat :=
  leBytes 2 osa ++ leBytes 2 netid ++ leBytes 4 fcnt ++ leBytes 2 oda ++ [ccmByte ftype kidx, 0, 0]

/-- The MAC header (R290). -/
def macHeader (osa oda fcnt : Nat) : List Nat := leBytes 2 osa ++ leBytes 2 oda ++ leBytes 4 fcnt

/-- The frame's body and MIC under a key: beacons and discovery frames carry the body as associated data, in clear (R298). -/
def sealBody (key : List Nat) (netid ftype kidx osa oda fcnt : Nat) (body : List Nat) : List Nat :=
  let nonce := ccmNonce netid osa oda fcnt ftype kidx
  let hdr := macHeader osa oda fcnt ++ [ccmByte ftype kidx]
  if ftype = 0 ∨ ftype = 6 then body ++ ccmTag key nonce (hdr ++ body) [] 8
  else ccmCrypt key nonce body ++ ccmTag key nonce hdr body 8

/-- The payload: MAC header, body, MIC where there is a key, and CRC-32. -/
def framePayload (key : Option (List Nat)) (netid ftype kidx osa oda fcnt : Nat) (body : List Nat) : List Nat :=
  let p := macHeader osa oda fcnt ++ key.elim body fun k => sealBody k netid ftype kidx osa oda fcnt body
  p ++ leBytes 4 (crc32 p)

/-- The 96 bits of Table 14-5, as twelve bytes, the most significant first; CRC-16 over bits 95 to 16. -/
def frameControl (netid ta ra ftype tmi nsym pri seq kidx : Nat) : List Nat :=
  let b := beBytes 10 (((((((((netid * 65536 + ta) * 65536 + ra) * 16 + ftype) * 16 + tmi) * 1024 + nsym) * 4 + pri) * 256 + seq) * 4
    + kidx) * 4)
  b ++ beBytes 2 (crc16 b)

/-- TMI of a frame to a receiver: beacons in ROBUST6, other broadcasts in ROBUST4, a unicast frame as its link stands (R287, R289). -/
def frameTmi (s : State) (ftype ra : Nat) : Nat :=
  if ftype = 0 then 15 else if ra = 0xFFFF then 0 else (findNbr s ra).elim 0 fun e => e.2.tmi

/-- The information bits of a symbol under a TMI (R286, R287). -/
def symbolBits (s : State) (tmi ra : Nat) : Nat :=
  if tmi = 15 then 203 else if tmi = 0 then 304 else (findNbr s ra).elim 304 fun e => e.2.bits

/-- The payload symbols that so many bytes take. -/
def symbolsFor (bits bytes : Nat) : Nat := (8 * bytes + bits - 1) / bits

/-- A frame leaves: it is counted in TXFR. ACK, NAK and SOUND have no payload. -/
def emit (dc : Bool) (ftype ra pri seq kidx : Nat) (payload : List Nat) (s : State) : State :=
  let tmi := if payload = [] then 15 else frameTmi s ftype ra
  let nsym := symbolsFor (symbolBits s tmi ra) payload.length
  let x : WaySent := { dcSide := dc, att := s.fld F.WAY_PHY_TXATT
                       control := frameControl (s.fld F.WAY_NET_NETID) (naddr s) ra ftype tmi nsym pri seq kidx, payload := payload }
  { s with way := { s.way with sent := (x :: s.way.sent).take 4 } }.addSat F.WAY_CNT_TXFR 0 1

/-- FCNT of this node (R299). -/
def fcnt (s : State) : Nat := s.way.fcntHi * 65536 + s.way.fcntLo

/-- Counts one protected frame of this node. -/
def countFcnt (s : State) : State :=
  if s.way.fcntLo = 65535 then { s with way := { s.way with fcntLo := 0, fcntHi := (s.way.fcntHi + 1) % 65536 } }
  else { s with way := { s.way with fcntLo := s.way.fcntLo + 1 } }

/-- The key under which this node sends to an address (R298). -/
def sendKey (s : State) (kidx dst : Nat) : Option (List Nat) :=
  match kidx with
  | 1 => slotKey s 8
  | 3 => (sessionSlot s dst).bind (slotKey s)
  | _ => none

/-- A frame of this node's own leaves, counted and protected as its KIDX says. -/
def emitOwn (dc : Bool) (ftype ra pri seq kidx : Nat) (body : List Nat) (s : State) : State :=
  let s1 := if kidx = 0 then s else countFcnt s
  emit dc ftype ra pri seq kidx
    (framePayload (sendKey s1 kidx ra) (s1.fld F.WAY_NET_NETID) ftype kidx (naddr s1) ra (fcnt s1) body) s1

/-- The level that this node announces: none unless it is the master or in step (R296). -/
def announced (s : State) : Fin 16 :=
  Fin.ofNat 16 (if isMaster s then 0 else if s.bit F.CVN_SITE_SITESYNC then s.fld F.CVN_SITE_LEVEL else 0xF)

/-- What a beacon whose first sample leaves at t says (R296), and a discovery frame (R295). -/
def beaconInfo (dc : Bool) (t : Nat) (s : State) : WayInfo :=
  .beacon t 0 (announced s) (BitVec.ofNat 8 (if isMaster s then s.cvn.cfg.carnum else s.fld F.CVN_SITE_MCAR))
    (BitVec.ofNat 16 s.cvn.cfg.siteid) (BitVec.ofNat 16 (s.fld F.CVN_SITE_TERR)) s.cvn.steps (Fin.ofNat 16 (ownSlot s dc))

def discoveryInfo (dc : Bool) (s : State) : WayInfo := .discovery Config.uid (announced s) (Fin.ofNat 16 (ownSlot s dc))

/-- The bytes of a frame's body. -/
def infoBytes (i : WayInfo) : List Nat := (Config.wayBytes i).map BitVec.toNat

/-- The sides to which a broadcast of this node goes: in mode 3 to each in turn. -/
def ownSides (s : State) : List Bool :=
  if s.fld F.WAY_CFG_CPL = 3 then [false, true] else [s.fld F.WAY_CFG_CPL == 2]

/-! ### Frames to send (R292 to R294) -/

/-- The base contention window of a priority. -/
def baseCw (pri : Nat) : Nat := 2 ^ (5 - min 3 pri)

/-- Puts a frame in the queue, with a backoff count drawn for it. -/
def queueTx (x : WayTx) (s : State) : State :=
  let p := draw s
  { p.2 with way := { p.2.way with txq := p.2.way.txq ++ [{ x with count := p.1 % x.cw }] } }

/-- A management frame of this node: KIDX 1 where a network key is held (R334). -/
def mgmtTx (s : State) (ftype dst pri : Nat) : WayTx :=
  { ftype := ftype, dst := dst, pri := pri, tries := 0, cw := baseCw pri, count := 0, host := false, fwd := false
    kidx := if keyed s then 1 else 0, dc := false, data := [], info := .nothing, seq := 0 }

/-- A discovery frame is queued for each side (R295). -/
def queueDiscovery (s : State) : State :=
  (ownSides s).foldl (fun s dc => queueTx { mgmtTx s 6 0xFFFF 2 with dc := dc, info := discoveryInfo dc s } s) s

/-- The host's datagram has come to its end (R300). -/
def endDatagram (result : Nat) (s : State) : State := (s.put F.WAY_TXCTL_GO 0 0).put F.WAY_TXCTL_RESULT 0 result

/-- The frame in the air was acknowledged: after one failure it was a transient of class 7 (R293). -/
def txDone (s : State) : State :=
  match s.way.air with
  | none => s
  | some x =>
    let s1 := { s with way := { s.way with air := none } }
    let s2 := if x.tries = 1 then transient 7 0 0 false false (s1.inc F.WAY_CNT2_TRANS) else s1
    if x.host then endDatagram 0 s2 else s2

/-- The link to an address drops to a mode: a SOUND is due at the next opportunity (R294). -/
def dropLink (a mode : Nat) (s : State) : State :=
  match findNbr s a with
  | some e => setNbr e.1 (some { e.2 with mode := mode, tmi := if mode = 2 then 15 else 0
                                          bits := if mode = 2 then 203 else 304, sound := true }) s
  | none => s

/-- The mode of the link to an address; ROBUST4 where nothing is known. -/
def linkMode (s : State) (a : Nat) : Nat := (findNbr s a).elim 1 fun e => e.2.mode

/-- The frame in the air failed (R293): it contends again with CW doubled, up to four times its base; the second failure drops
the link to ROBUST4, the third to ROBUST6, and the fourth discards the frame. -/
def txFail (s : State) : State :=
  match s.way.air with
  | none => s
  | some x =>
    let n := x.tries + 1
    let s1 := { s with way := { s.way with air := none } }
    let s2 :=
      if n = 2 then
        let t := permanent 7 0 0 false false none s1
        if linkMode t x.dst = 0 then
          raise 56 x.dst (dropLink x.dst 1 ((t.inc F.WAY_CNT2_DROPS).put F.WAY_ST_DROPL 0 1))
        else t
      else if n = 3 then dropLink x.dst 2 s1 else s1
    if n = 4 then
      let s3 := raise 57 x.dst (s2.inc F.WAY_CNT2_LOST)
      if x.host then endDatagram 1 s3 else s3
    else queueTx { x with tries := n, cw := min (4 * baseCw x.pri) (2 * x.cw) } s2

/-! ### Security (R298, R299, R334) -/

/-- Discards a frame that fails authentication: event 61. -/
def authFails (a : Nat) (s : State) : State := raise 61 a ((s.inc F.WAY_CNT2_AUTHF).put F.WAY_ST_AUTHL 0 1)

/-- The key of a received protected frame. -/
def wayKey (s : State) (kidx osa : Nat) : Option (List Nat) :=
  match kidx with
  | 1 => slotKey s 8
  | 2 => slotKey s 9
  | 3 => (sessionSlot s osa).bind (slotKey s)
  | _ => none

/-- The payload of a frame, taken apart: OSA, ODA, FCNT, body and MIC (R290); none where its CRC-32 is wrong. -/
def parsePayload (kidx : Nat) (p : List Nat) : Option (Nat × Nat × Nat × List Nat × List Nat) :=
  let n := p.length
  let mic := if kidx = 0 then 0 else 8
  if n < 12 + mic ∨ crc32 (p.take (n - 4)) ≠ ofLe (p.drop (n - 4)) then none
  else
    some (ofLe (p.take 2), ofLe ((p.drop 2).take 2), ofLe ((p.drop 4).take 4), (p.drop 8).take (n - 12 - mic),
      (p.drop (n - 4 - mic)).take mic)

/-- The body in clear, where the MIC is right: beacons and discovery frames carry it as associated data. -/
def openFrame (key : List Nat) (netid ftype kidx : Nat) (osa oda fcnt : Nat) (body mic : List Nat) : Option (List Nat) :=
  let nonce := ccmNonce netid osa oda fcnt ftype kidx
  let hdr := macHeader osa oda fcnt ++ [ccmByte ftype kidx]
  let inClear := ftype = 0 ∨ ftype = 6
  let msg := if inClear then [] else ccmCrypt key nonce body
  let aad := if inClear then hdr ++ body else hdr
  if ccmTag key nonce aad msg 8 = mic then some (if inClear then body else msg) else none

/-- Checks a frame (R298, R299, R334): the body in clear, or none where it is discarded. -/
def authenticate (s : State) (netid ftype kidx osa oda fcnt : Nat) (body mic : List Nat) : Option (List Nat) :=
  if kidx = 0 then (if keyed s then none else some body)
  else match wayKey s kidx osa with
    | none => none
    | some k =>
      match openFrame k netid ftype kidx osa oda fcnt body mic with
      | none => none
      | some b => if (mget none s.way.last osa).elim true fun l => decide (l < fcnt) then some b else none

/-! ### Datagrams (R300) -/

/-- Shows the oldest datagram in WAY_RXST and WAY_RXBUF. -/
def showRx (s : State) : State :=
  match s.way.rxq with
  | [] => (((s.put F.WAY_RXST_AVAIL 0 0).put F.WAY_RXST_DEPTH 0 0).put F.WAY_RXST_LEN 0 0).put F.WAY_RXST_SRC 0 0
  | d :: _ =>
    let s1 := (((s.put F.WAY_RXST_AVAIL 0 1).put F.WAY_RXST_DEPTH 0 s.way.rxq.length).put F.WAY_RXST_LEN 0 d.data.length).put
      F.WAY_RXST_SRC 0 d.src
    postBytes F.WAY_RXBUF_DATA d.data s1

/-- A datagram for this node: four wait; one more is discarded, with RXOVL and event 62. -/
def takeDatagram (d : Dgram) (s : State) : State :=
  if s.way.rxq.length < 4 then showRx { s with way := { s.way with rxq := s.way.rxq ++ [d] } }
  else raiseIf (!s.bit F.WAY_ST_RXOVL) 62 noDetail (s.put F.WAY_ST_RXOVL 0 1)

/-- A bridge queues a frame for its other side: at most 8, and the rest are counted in LOST (R297). -/
def forward (x : WayTx) (s : State) : State :=
  if (s.way.txq.filter (·.fwd)).length < 8 then queueTx x s else s.inc F.WAY_CNT2_LOST

/-! ### The parent (R277, R279, R296) -/

/-- This head's own level: none, 0xF, without a parent (R277). -/
def ownLevel (s : State) : Nat := if s.way.parent.isSome then s.fld F.CVN_SITE_LEVEL else 0xF

/-- Have a neighbour's beacons been absent for 1 s? -/
def beaconsAbsent (s : State) (x : Nbr) : Bool := decide (x.beaconT + 1000000000 < runNow s)

/-- May a neighbour take the place of the present parent: that one's beacons are absent, or this one has announced a lower level for
10 s (R296)? -/
def mayReplace (s : State) (x : Nbr) : Bool :=
  match s.way.parent.bind (findNbr s) with
  | none => true
  | some p => p.2.naddr == x.naddr || beaconsAbsent s p.2
    || (decide (x.level < p.2.level) && decide (x.levelT + 10000000000 ≤ runNow s))

/-- The neighbour to be chosen as parent, of those at a level below this head's own whose beacons have not been absent for 1 s: this
head's SITEID and the lowest announced level; then the higher SNR; then the lower NADDR (R277, R296). -/
def bestParent (s : State) : Option Nbr :=
  let c := (s.way.nbr.filterMap (·.2)).filter fun x => x.siteid == s.cvn.cfg.siteid && decide (x.level < ownLevel s)
    && !beaconsAbsent s x && mayReplace s x
  c.foldl (fun (a : Option Nbr) x => match a with
    | none => some x
    | some b =>
      if x.level < b.level ∨ (x.level = b.level ∧ (b.snr < x.snr ∨ (b.snr = x.snr ∧ x.naddr < b.naddr))) then some x else a)
    none

/-- Chooses a parent: event 60 where it is a new one. Without one the head has no level (Table 13-9). -/
def chooseParent (s : State) : State :=
  if isHead s && s.cvn.cfg.siteEn && !s.cvn.cfg.master then
    match bestParent s with
    | none => { s.put F.CVN_SITE_LEVEL 0 0xF with way := { s.way with parent := none } }
    | some x =>
      if s.way.parent = some x.naddr then s
      else raise 60 x.naddr { s with way := { s.way with parent := some x.naddr, delays := [] } }
  else s

/-- The median of the last eight path delays. -/
def pathDelay (s : State) : Nat :=
  let l := s.way.delays.mergeSort (· ≤ ·)
  (l.getD ((l.length - 1) / 2) 0 + l.getD (l.length / 2) 0) / 2

/-- The parent's beacon gives site time (R277 to R279): the level and MCAR are taken. The head steers to the received time within 10 ppm;
an offset beyond the budget is corrected where this head was not in step, or where the beacon counts a step; and SITESYNC shows whether
the budget of Table 13-5 is met. -/
def siteInput (sent arrived level mcar terr : Nat) (stepped : Bool) (s : State) : State :=
  let own := level + 1
  let off : Int := (sent : Int) + pathDelay s - arrived
  let held := s.bit F.CVN_SITE_HOLD || !s.bit F.CVN_SITE_SITESYNC
  let s1 := (((s.put F.CVN_SITE_HOLD 0 0).put F.CVN_SITE_LEVEL 0 own).put F.CVN_SITE_MCAR 0 mcar).put F.CVN_SITE_TERR 0
    (Config.siteError own terr).toNat
  let near := decide (4 * |off| ≤ 1065 * own + 80)
  let s2 := if (held || stepped) && !near then correctSite off s1 else steer off 10 s1
  setSiteSync (near && decide (own ≤ s.cvn.cfg.maxlvl)) s2

end Sys2Proof.Machine
end

