-- ==== Sys2Proof/Machine/Wayline.lean ====
section
/-! DEFINITION. Wayline: the meanings of its commands (R289 to R303). -/

namespace Sys2Proof.Machine

/-- Wayline starts with the RUN clocks where it is enabled, with a discovery frame at once (R295). -/
def wayStart (s : State) : State :=
  if s.bit F.WAY_CFG_EN then
    let s1 := (s.put F.WAY_ST_UP 0 1).put F.WAY_ST_BSLOTNOW 0 (s.fld F.WAY_CFG_BSLOT)
    queueDiscovery s1
  else s

/-! ### Beacons (R291, R295) -/

/-- A beacon leaves in its slot of the period that starts at t, in ROBUST6. -/
def sendBeacon (t : Nat) (dc : Bool) (s : State) : State :=
  emitOwn dc 0 0xFFFF 0 0 (if keyed s then 1 else 0) (infoBytes (beaconInfo dc (t + 250000 * ownSlot s dc) s)) s

/-- A beacon period starts: a promotion waiting is acted on; a slot to move to is taken; and the node sends its beacon, in mode
3 on both sides. -/
def beaconPeriod (t : Nat) (s : State) : State :=
  let s1 := promoteDue (reachTime t s)
  if !waySend s1 then s1
  else
    let s2 := match s1.way.move with
      | some k => { s1 with way := { s1.way with move := none } }.put F.WAY_ST_BSLOTNOW 0 k
      | none => s1
    let clash := s2.way.nbr.any fun e => e.2.elim false fun x => x.bslot == ownSlot s2 x.dcSide
    let s3 := if clash then s2 else { s2 with way := { s2.way with even := false } }.put F.WAY_ST_CLASH 0 0
    if s3.way.even && t / 40000000 % 2 == 1 then s3
    else (ownSides s3).foldl (fun s dc => sendBeacon t dc s) s3

def execBeaconPeriodStart (t : Nat) (s : State) : Res :=
  .next (if running s && t % 40000000 == 0 then beaconPeriod t s else s)

/-! ### Sending (R292 to R294, R300) -/

/-- The frame to contend first: the highest priority, then the oldest. -/
def nextTx (q : List WayTx) : Option WayTx :=
  q.foldl (fun (a : Option WayTx) x => match a with
    | none => some x
    | some b => if b.pri < x.pri then some x else a) none

/-- Is a SOUND due before the next frame to this address (R294)? -/
def soundDue (s : State) (x : WayTx) : Bool :=
  x.ftype != 4 && x.dst != 0xFFFF && (findNbr s x.dst).elim false fun e => e.2.sound

/-- A queued frame leaves to a side: a forwarded one with the MAC header, body and MIC it came with (R297). -/
def sendTx (x : WayTx) (dc : Bool) (s : State) : State :=
  if x.fwd then emit dc x.ftype x.dst x.pri x.seq x.kidx x.data s
  else emitOwn dc x.ftype x.dst x.pri x.seq x.kidx (if x.info = .nothing then x.data else infoBytes x.info) s

/-- The sides to which a queued frame goes: the neighbour's own; for a broadcast that of a forwarded or a discovery frame, else each
of this node's. -/
def sidesFor (s : State) (x : WayTx) : List Bool :=
  if x.dst = 0xFFFF then (if x.fwd || x.ftype == 6 then [x.dc] else ownSides s)
  else [(findNbr s x.dst).elim false fun e => e.2.dcSide]

/-- The next SEQ to a receiver (Table 14-5). -/
def nextSeq (s : State) (dst : Nat) : Nat := (mget 0 s.way.seqs dst + 1) % 256

/-- The SOUND that is due before a frame leaves (R294). -/
def sendSound (dst : Nat) (s : State) : State :=
  match findNbr s dst with
  | some e => emit e.2.dcSide 4 dst 3 (mget 0 s.way.seqs dst) 0 [] (setNbr e.1 (some { e.2 with sound := false }) s)
  | none => s

/-- The backoff count reaches zero and the frame is sent: a broadcast is done with, a unicast frame waits for its ACK. -/
def contentionSend (s : State) : State :=
  match nextTx s.way.txq with
  | none => s
  | some x =>
    let s0 := { s with way := { s.way with txq := s.way.txq.erase x } }
    let s1 := if soundDue s x then sendSound x.dst s0 else s0
    let y := { x with count := 0, seq := nextSeq s x.dst }
    let s2 := (sidesFor s1 y).foldl (fun s dc => sendTx y dc s) { s1 with way := { s1.way with seqs := mput 0 s1.way.seqs x.dst y.seq } }
    if x.dst = 0xFFFF then (if x.host then endDatagram 0 s2 else s2)
    else { s2 with way := { s2.way with air := some y } }

def execContentionSend (s : State) : Res :=
  .next (if waySend s && s.way.air.isNone then contentionSend s else s)

def execWaylineAckTimeout (s : State) : Res := .next (if wayUp s then onCtlOnce .ackTimeout txFail s else s)

/-- A discovery frame is queued (R295). -/
def discoverySend (s : State) : State :=
  if s.fld F.WAY_CFG_DISC = 0 then s else queueDiscovery s

def execDiscoverySend (s : State) : Res := .next (if waySend s then discoverySend s else s)

/-- A datagram that the host asks for is queued, or refused (R300, R334). -/
def txSend (pri len dst : Nat) (s : State) : State :=
  let known := dst == 0xFFFF || (findNbr s dst).isSome
  if len = 0 ∨ 1024 < len ∨ ¬ known ∨ ¬ keyed s then endDatagram 2 s
  else
    let sess := dst != 0xFFFF && ((sessionSlot s dst).bind (slotKey s)).isSome
    queueTx { mgmtTx s 1 dst (min 1 pri) with host := true, kidx := if sess then 3 else 1
                                              data := (windowBytes s F.WAY_TXBUF_DATA 256).take len } s

/-- A write of WAY_TXCTL with GO: GO reads 1 from then on, and PRI, LEN and DST read as written. While a datagram is pending a
further GO asks for nothing (DESIGN CHOICE). -/
def txGo (pri len dst : Nat) (s : State) : State :=
  let s1 := ((s.put F.WAY_TXCTL_PRI 0 pri).put F.WAY_TXCTL_LEN 0 len).put F.WAY_TXCTL_DST 0 dst
  if s.bit F.WAY_TXCTL_GO then s1 else onCtl (.txGo pri len dst) (txSend pri len dst) (s1.put F.WAY_TXCTL_GO 0 1)

def execWayTxGo (pri : Fin 4) (len : Fin 2048) (dst : BitVec 16) (s : State) : Res :=
  .next (if mainOn s then txGo pri len dst.toNat s else s)

/-- A write of WAY_RXST with NEXT. -/
def rxNext (s : State) : State := showRx { s with way := { s.way with rxq := s.way.rxq.drop 1 } }

def execWayRxNext (s : State) : Res := .next (if mainOn s then rxNext s else s)

/-! ### Receiving (R289, R293 to R299) -/

/-- The link has a new tone map, or none better than ROBUST4 (R286, R294). -/
def takeToneMap (a tmi bits : Nat) (s : State) : State :=
  match findNbr s a with
  | some e =>
    if tmi = 0 then setNbr e.1 (some { e.2 with mode := 1, tmi := 0, bits := 304, sound := false }) s
    else setNbr e.1 (some { e.2 with mode := 0, tmi := tmi, bits := bits, sound := false }) s
  | none => s

/-- A SOUND for this node is answered with a TMAP (R286, R294). -/
def answerSound (a : Nat) (snrs : List Nat) (s : State) : State :=
  match findNbr s a with
  | some e =>
    let b := toneBits s snrs
    let k := if b < 304 then 0 else e.2.issued % 14 + 1
    queueTx { mgmtTx s 5 a 3 with info := .tmap (Fin.ofNat 16 k) b } (setNbr e.1 (some { e.2 with issued := if k = 0 then e.2.issued else k }) s)
  | none => s

/-- A beacon that passed its checks: the entry is refreshed, the slot compared, and the parent's site time taken. -/
def beaconHeard (f : WayFrame) (sent arrived level mcar siteid terr steps bslot : Nat) (s : State) : State :=
  let a := f.ta.toNat
  let old := (findNbr s a).elim steps fun e => e.2.steps
  let s1 := refresh a (fun x => { x with dcSide := f.dcSide, level := level, bslot := bslot, siteid := siteid, mcar := mcar
                                         steps := steps, snr := f.snr, beaconT := runNow s
                                         levelT := if x.level = level then x.levelT else runNow s }) s
  let s2 := checkClash a bslot f.dcSide s1
  let s3 := if s2.way.parent.isNone then chooseParent s2 else s2
  if s3.way.parent = some a ∧ level < 0xF ∧ isHead s3 ∧ s3.cvn.cfg.siteEn ∧ ¬ s3.cvn.cfg.master then
    siteInput sent arrived level mcar terr (decide (old ≠ steps)) s3
  else s3

/-- The entry of a frame's transmitter is refreshed by what every frame shows. -/
def heard (f : WayFrame) (s : State) : State :=
  refresh f.ta.toNat (fun x => { x with dcSide := f.dcSide, snr := f.snr }) s

/-- A data frame that passed its checks. -/
def dataHeard (f : WayFrame) (osa oda : Nat) (body : List Nat) (s : State) : State :=
  let s1 := heard f s
  if oda = naddr s ∨ oda = 0xFFFF then takeDatagram ⟨osa, body⟩ s1 else s1

/-- What a frame that passed its checks does. -/
def frameHeard (f : WayFrame) (osa oda : Nat) (body : List Nat) (s : State) : State :=
  let mine := f.ra.toNat = naddr s
  match f.ftype.val, f.info with
  | 0, .beacon t arr lvl mcar site terr steps b => beaconHeard f t arr lvl mcar.toNat site.toNat terr.toNat steps b s
  | 6, .discovery uid lvl b =>
    let s1 := refresh f.ta.toNat (fun x => { x with uid := uid.toNat, dcSide := f.dcSide, level := lvl, bslot := b
                                                    snr := f.snr }) s
    checkClash f.ta.toNat b f.dcSide s1
  | 1, _ => if mine ∨ f.ra.toNat = 0xFFFF then dataHeard f osa oda body s else heard f s
  | 5, .tmap k bits => if mine then takeToneMap f.ta.toNat k bits s else s
  | 7, _ => if mine then queueTx (mgmtTx s 8 f.ta.toNat 3) s else s
  | _, _ => s

/-- The other side of a bridge for a frame: forwarded whole, once for a broadcast (R297). -/
def bridged (f : WayFrame) (osa oda fcnt : Nat) (s : State) : State :=
  let base : WayTx := { mgmtTx s 1 oda 0 with fwd := true, kidx := f.kidx, dc := !f.dcSide, data := f.payload.map BitVec.toNat }
  if s.fld F.WAY_CFG_CPL ≠ 3 ∨ f.ftype.val = 0 then s
  else if f.ra.toNat = 0xFFFF then
    (if s.way.bcast.contains (osa, fcnt) then s
     else forward { base with ftype := f.ftype, dst := 0xFFFF }
      { s with way := { s.way with bcast := ((osa, fcnt) :: s.way.bcast).take 64 } })
  else if f.ra.toNat = naddr s ∧ oda ≠ naddr s then
    (match findNbr s oda with
      | some e => if e.2.dcSide ≠ f.dcSide then forward { base with ftype := f.ftype } s else s
      | none => s)
  else s

/-- The addressed receiver answers a frame with ACK (2) or NAK (3), which repeats its SEQ (R290). -/
def answer (ftype : Nat) (f : WayFrame) (s : State) : State :=
  if f.ra.toNat = naddr s then emit f.dcSide ftype f.ta.toNat 0 f.seq.toNat 0 [] s else s

/-- A frame with a MAC header (R290): its CRC-32 is checked, then it is authenticated; the addressed receiver answers with ACK
or NAK. -/
def macFrame (f : WayFrame) (s : State) : State :=
  let mine := f.ra.toNat == naddr s
  match (if allErased s then none else parsePayload f.kidx (f.payload.map BitVec.toNat)) with
  | none => answer 3 f s
  | some (osa, oda, fcnt, body, mic) =>
    let s0 := s.inc F.WAY_CNT_RXFR
    let passing := mine && oda != naddr s && oda != 0xFFFF
    if passing && f.kidx.val != 0 then bridged f osa oda fcnt (answer 2 f s0)
    else match authenticate s0 f.netid.toNat f.ftype f.kidx osa oda fcnt body mic with
      | none => authFails f.ta.toNat s0
      | some b =>
        let s1 := frameHeard f osa oda b (answer 2 f s0)
        let s2 := if f.kidx.val = 0 then s1
          else { s1 with way := { s1.way with last := mput none s1.way.last osa (some fcnt) } }
        bridged f osa oda fcnt s2

/-- Is a frame of FTYPE 2 or 3 the answer to the frame in the air: from its receiver, with its SEQ? -/
def answers (s : State) (f : WayFrame) : Bool := s.way.air.any fun x => x.dst == f.ta.toNat && x.seq == f.seq.toNat

/-- A frame is received: one with a wrong frame-control CRC, of another network, of a reserved FTYPE or too long is ignored. -/
def wayReceive (f : WayFrame) (s : State) : State :=
  if !f.fcOk ∨ f.netid.toNat ≠ s.fld F.WAY_NET_NETID ∨ 9 ≤ f.ftype.val ∨ 82 < f.nsym then s
  else
    let mine := f.ra.toNat = naddr s
    match f.ftype.val with
    | 2 => if mine ∧ answers s f then txDone (s.inc F.WAY_CNT_RXFR) else s
    | 3 => if mine ∧ answers s f then txFail (s.inc F.WAY_CNT_RXFR) else s
    | 4 =>
      (match f.info with
        | .sound snrs => if mine then answerSound f.ta.toNat snrs (s.inc F.WAY_CNT_RXFR) else s
        | _ => s)
    | _ => macFrame f s

def execWaylineFrameReceive (f : WayFrame) (s : State) : Res :=
  .next (if wayOn s then wayReceive f (takeSymbols f.rx s) else s)

/-! ### Neighbours, tone maps and the parent -/

def execNeighbourAgeOut (i : Fin 512) (s : State) : Res := .next (if wayUp s then onCtlOnce (.nbrAge i) (removeNbr i) s else s)

/-- A tone map unused for 30 s expires: ROBUST4, and a SOUND before the next frame (R294). -/
def toneExpire (i : Nat) (s : State) : State :=
  match mget none s.way.nbr i with
  | some x => if x.mode = 0 then setNbr i (some { x with mode := 1, tmi := 0, bits := 304, sound := true }) s else s
  | none => s

def execToneMapExpire (i : Fin 512) (s : State) : Res := .next (if wayUp s then onCtlOnce (.toneAge i) (toneExpire i) s else s)

/-- A DREQ leaves for the parent, and its DRSP gives half of the round trip less the parent's turnaround, in nanoseconds (R296). -/
def delayExchange (rtt turnaround : Nat) (s : State) : State :=
  match s.way.parent with
  | some a =>
    if isHead s && s.cvn.cfg.siteEn && waySend s then
      let q := nextSeq s a
      let s1 := emitOwn ((findNbr s a).elim false fun e => e.2.dcSide) 7 a 3 q (if keyed s then 1 else 0) [] s
      { s1 with way := { s1.way with seqs := mput 0 s1.way.seqs a q
                                     delays := (((rtt - turnaround) / 2) :: s1.way.delays).take 8 } }
    else s
  | none => s

def execParentDelayExchange (rtt turnaround : Nat) (s : State) : Res :=
  .next (if wayOn s then delayExchange rtt turnaround s else s)

def execParentChange (s : State) : Res := .next (if wayUp s then onCtlOnce .parent chooseParent s else s)

/-! ### The neighbour page (R172) -/

def endNbrHold (s : State) : State := { s with way := { s.way with hold := none } }.put F.WAY_NSEL_HOLD 0 0

/-- A write of WAY_NSEL. -/
def nselWrite (hold : Bool) (i : Nat) (s : State) : State :=
  let s1 := (s.put F.WAY_NSEL_EXP 0 0).put F.WAY_NSEL_INDEX 0 i
  let same := match s.way.hold with
    | some h => h.1 == i
    | none => false
  if hold then
    (if same then s1
     else
      let s2 := endNbrHold s1
      { s2 with way := { s2.way with hold := some (i, mget none s2.way.nbr i) } }.put F.WAY_NSEL_HOLD 0 1)
  else endNbrHold s1

def execWayNselWrite (hold : Bool) (index : Fin 512) (s : State) : Res :=
  .next (if mainOn s then nselWrite hold index s else s)

def execWayNselHoldExpire (s : State) : Res :=
  .next (if s.way.hold.isSome then (endNbrHold s).put F.WAY_NSEL_EXP 0 1 else s)

end Sys2Proof.Machine
end

