-- ==== Sys2Proof/Machine/HostWrites.lean ====
section
/-! DEFINITION. Host access to registers: what a word written to each register does, when it is refused, writes posted to
stopped clock domains, and reads with the capture of upper words (R7 to R10, R25, R404, R405, R409). -/

namespace Sys2Proof.Machine

/-! ### Writes with an effect of their own -/

/-- Bit b of a word. -/
def wbit (w b : Nat) : Bool := w.testBit b

/-- A field takes its bits of the word. -/
def takeF (f : Fld) (w : Nat) (s : State) : State := s.put f 0 (f.slice w)

/-- Several fields take their bits of the word. -/
def takeFs (fs : List Fld) (w : Nat) (s : State) : State := fs.foldl (fun s f => takeF f w s) s

/-- CAL_CTL: the requests of one word are taken from the highest bit down. -/
def calCtl (w : Nat) (s : State) : State :=
  let ask (f : Fld) (op : FwOp) (g : State → State) (s : State) : State := if f.slice w = 1 then onCtl op g s else s
  let e := F.CAL_CTL_ESET.slice w
  ask F.CAL_CTL_ERASE (.calErase e) (calErase e) (ask F.CAL_CTL_TRIG .calTrig calTrig (ask F.CAL_CTL_ABORT .calAbort calAbort
    (ask F.CAL_CTL_COMMIT .calCommit commitRequest (ask F.CAL_CTL_STEP .calStep (onSess calStep)
      (ask F.CAL_CTL_START .calStart calStart (takeF F.CAL_CTL_ESET w s))))))

/-- TWN_CTL. -/
def twnCtl (w : Nat) (s : State) : State :=
  let ask (f : Fld) (g : State → State) (s : State) : State := if f.slice w = 1 then g s else s
  ask F.TWN_CTL_TAKE twnTake (ask F.TWN_CTL_ATTACH twnAttach (ask F.TWN_CTL_DETACH twnDetach (ask F.TWN_CTL_SWAP twnSwap s)))

/-- SBX_PRIV: a word with DROP and OPEN first ends the session (R336). -/
def privCtl (w : Nat) (s : State) : State :=
  let s1 := if F.SBX_PRIV_DROP.slice w = 1 then privDrop s else s
  if F.SBX_PRIV_OPEN.slice w = 1 then privOpen s1 else s1

/-- SBX_OPCTL. -/
def openCtl (w : Nat) (s : State) : State :=
  let er := F.SBX_OPCTL_ERASE.slice w == 1
  let sl := F.SBX_OPCTL_SLOT.slice w
  let pr := F.SBX_OPCTL_PEER.slice w
  let s1 := takeFs [F.SBX_OPCTL_ERASE, F.SBX_OPCTL_SLOT, F.SBX_OPCTL_PEER] w s
  let s2 := if F.SBX_OPCTL_WRITE.slice w = 1 then openAsk er sl pr s1 else s1
  if F.SBX_OPCTL_PROMOTE.slice w = 1 ∧ ¬ s.bit F.SBX_OPCTL_PROMOTE then onCtl .openPromote openPromote s2 else s2

/-- FLT_ST: the latches that a word clears; SATL is held by the sample path too (R99, R115). -/
def fltStClear (n w : Nat) (s : State) : State :=
  let s1 := if F.FLT_ST_SATL.slice w = 1 then setPath n { getPath s n with sat := false } (s.put F.FLT_ST_SATL n 0) else s
  let s2 := if F.FLT_ST_OVCL.slice w = 1 then s1.put F.FLT_ST_OVCL n 0 else s1
  if F.FLT_ST_STEPL.slice w = 1 then s2.put F.FLT_ST_STEPL n 0 else s2

/-- DSP_CTL. -/
def dspCtl (w : Nat) (s : State) : State :=
  let s1 := if F.DSP_CTL_SHOW.slice w = 1 then onCtl .dspShow dspShow s else s
  if F.DSP_CTL_NEXT.slice w = 1 then onCtl .dspNext dspNext s1 else s1

/-- WAY_TXCTL: PRI, LEN and DST hold the word written last, and GO asks for a datagram. -/
def txCtl (w : Nat) (s : State) : State :=
  if F.WAY_TXCTL_GO.slice w = 1 then
    txGo (F.WAY_TXCTL_PRI.slice w) (F.WAY_TXCTL_LEN.slice w) (F.WAY_TXCTL_DST.slice w) s
  else takeFs [F.WAY_TXCTL_PRI, F.WAY_TXCTL_LEN, F.WAY_TXCTL_DST] w s

/-- Registers whose write has an effect of its own, with that effect: by element and word. PWR_CTL stands in HostPort. -/
def handlers : List (Nat × (Nat → Nat → State → State)) :=
  [(R.EVT_PEND.rid, fun i w s => evtPendClear i w s),
   (R.RMT_FORCE.rid, fun _ w s =>
      if F.RMT_FORCE_GO.slice w = 1 ∨ s.bit F.RMT_FORCE_GO then forceSlot (F.RMT_FORCE_STREAM.slice w) s else takeF F.RMT_FORCE_STREAM w s),
   (R.MTR_HOLD.rid, fun _ w s => mtrHoldWrite (wbit w 31) (F.MTR_HOLD_METER.slice w) s),
   (R.FLT_ST.rid, fun i w s => fltStClear i w s),
   (R.ACC_QUAL.rid, fun i w s => if F.ACC_QUAL_QCLR.slice w = 1 then accQclr i s else s),
   (R.HRM_HOLD.rid, fun _ w s => hrmHoldWrite (wbit w 31) (F.HRM_HOLD_STREAM.slice w) s),
   (R.DST_HBSEL.rid, fun _ w s => hbSelect (wbit w 31) (F.DST_HBSEL_STREAM.slice w) s),
   (R.CAL_CTL.rid, fun _ w s => calCtl w s),
   (R.TWN_CTL.rid, fun _ w s => twnCtl w s),
   (R.FLTS_INJ.rid, fun _ w s =>
      if F.FLTS_INJ_GO.slice w = 1 then faultInject (F.FLTS_INJ_TGT.slice w) (F.FLTS_INJ_UNIT.slice w) s
      else takeFs [F.FLTS_INJ_TGT, F.FLTS_INJ_UNIT] w s),
   (R.CVN_ADJCTL.rid, fun _ w s => if F.CVN_ADJCTL_GO.slice w = 1 then adjGo s else s),
   (R.CVN_MSEL.rid, fun _ w s => mselWrite (wbit w 31) (F.CVN_MSEL_MEMBER.slice w) s),
   (R.WAY_NSEL.rid, fun _ w s => nselWrite (wbit w 31) (F.WAY_NSEL_INDEX.slice w) s),
   (R.WAY_TXCTL.rid, fun _ w s => txCtl w s),
   (R.WAY_RXST.rid, fun _ w s => if F.WAY_RXST_NEXT.slice w = 1 then rxNext s else s),
   (R.ITN_PKCTL.rid, fun _ w s => pkOp (F.ITN_PKCTL_OP.slice w) (takeF F.ITN_PKCTL_CHUNK w s)),
   (R.SBX_MCTL.rid, fun _ w s =>
      let n := F.SBX_MCTL_MLEN.slice w
      let s1 := takeF F.SBX_MCTL_MLEN w s
      if F.SBX_MCTL_SUBMIT.slice w = 1 then onCtl (.keySubmit n) (keySubmit n) s1 else s1),
   (R.SBX_PRIV.rid, fun _ w s => privCtl w s),
   (R.SBX_PCTL.rid, fun _ w s => if F.SBX_PCTL_GO.slice w = 1 then onCtl .passport passportRequest s else s),
   (R.SBX_OPCTL.rid, fun _ w s => openCtl w s),
   (R.PRT_COMMIT.rid, fun _ w s =>
      if F.PRT_COMMIT_GO.slice w = 1 ∧ ¬ s.prt.brown then calendarCommit s else s),
   (R.PRT_ALMT.rid, fun _ w s => porterWrite 0 w s),
   (R.PRT_ALMD.rid, fun _ w s => porterWrite 1 w s),
   (R.PRT_XTAL.rid, fun _ w s => porterWrite 2 w s),
   (R.PRT_PWR.rid, fun _ w s =>
      let s1 := porterWrite 3 w s
      if F.PRT_PWR_PWRCLR.slice w = 1 then s1.put F.PRT_ST_PWRON 0 0 else s1),
   (R.PRT_TCFG.rid, fun _ w s => porterWrite 4 w s),
   (R.PRT_PINS.rid, fun _ w s => porterWrite 5 w s),
   (R.PRT_SRC.rid, fun i w s => porterWrite (6 + i) w s),
   (R.PRT_SLTCLR.rid, fun _ w s => slotClear (F.PRT_SLTCLR_CLR.slice w) s),
   (R.LDG_SEL.rid, fun _ w s => ledgerLookup w s),
   (R.LDG_ACK.rid, fun _ w s => ledgerAck w s),
   (R.SAR_INJ.rid, fun _ w s =>
      if F.SAR_INJ_GO.slice w = 1 then sarInject (F.SAR_INJ_SMP.slice w) (F.SAR_INJ_INPUT.slice w) s
      else takeFs [F.SAR_INJ_SMP, F.SAR_INJ_INPUT] w s),
   (R.DSP_CTL.rid, fun _ w s => dspCtl w s)]

/-- A word written to any other register: RO fields ignore it, W1C fields are cleared by ones, and the rest take it. A set and a
clear of one W1C bit in the same clock cycle are two commands of which the clear is queued first, so that the bit stays set (R10).
LIVE fields of class I are written by `liveWrite` (R9). -/
def plainWrite (r : RegRow) (i w : Nat) (s : State) : State :=
  (fieldsAt r i).foldl (fun s f =>
    match f.acc with
    | .ro => s
    | .rw => s.put f i (f.slice w)
    | .wo => s.put f i (f.slice w)
    | .w1c => s.put f i (s.fld f i &&& (f.slice w ^^^ f.top))
    | .live => if f.cfg || f.slice w == viewF s f i then s else s.put f i (f.slice w)) s

/-! ### Refusal (R9, R409) -/

/-- The LIVE fields of a register that a word would change. -/
def liveChanges_ (r : RegRow) (i w : Nat) (s : State) : List Fld :=
  (fieldsAt r i).filter fun f => f.acc == .live && f.slice w != viewF s f i

/-- A ground of refusal of a register's own: FCNT above FWIN (R356), and a correction of site time on a device that is not
the master (R278). -/
def ownGround (r : RegRow) (i w : Nat) (s : State) : Bool :=
  (r.rid == R.PRT_SRC.rid && decide (i < 14) && decide (F.PRT_SRC_FWIN.slice w < F.PRT_SRC_FCNT.slice w))
    || ((r.rid == R.CVN_ADJ_LO.rid || r.rid == R.CVN_ADJ_HI.rid) && !isMaster s)

/-- Is a word accepted by its register: no LIVE field would change, or the session is privileged and every check passes? -/
def accepted (r : RegRow) (i addr w : Nat) (s : State) : Bool :=
  let ch := liveChanges_ r i w s
  ch.isEmpty || (privileged s && !ownGround r i w s && (!ch.any Fld.cfg || liveOk addr w s))

/-! ### Effect and posting (R25, R405) -/

/-- The clock domain of a register's domain. -/
def domClk : Dom → ClkDom
  | .aclk => .aclk
  | .fclk => .fclk
  | .hclk => .hclk
  | .sclk => .sclk
  | .pclk => .pclk

/-- Does this domain stand still (Table 01-6)? HCLK does between bursts. -/
def domStopped (s : State) (d : Dom) : Bool := !clkOn s (domClk d)

/-- Would a word change a LIVE field of class I? -/
def setsConfig (r : RegRow) (i w : Nat) (s : State) : Bool := (liveChanges_ r i w s).any Fld.cfg

/-- What an accepted word does apart from LIVE fields of class I. -/
def otherEffect (r : RegRow) (i w : Nat) (s : State) : State :=
  match handlers.find? (·.1 == r.rid) with
  | some h => h.2 i w s
  | none => plainWrite r i w s

/-- What an accepted word does. -/
def wordEffect (r : RegRow) (i addr w : Nat) (s : State) : State :=
  otherEffect r i w (if setsConfig r i w s then liveWrite addr w s else s)

/-- A posted write takes effect (R25). -/
def postedEffect (addr w : Nat) (s : State) : State :=
  match regAt addr with
  | some p => wordEffect p.1 p.2 addr w s
  | none => s

/-- The posted writes of one domain take effect in the order written. -/
def takePosted (d : Dom) (s : State) : State :=
  (s.host.posted.filter fun p => p.1 == d).foldl (fun s p => postedEffect p.2.1 p.2.2 s)
    { s with host := { s.host with posted := s.host.posted.filter fun p => p.1 != d } }

def execPostedWriteTakesEffect (d : Dom) (s : State) : Res :=
  .next (if mainOn s && !domStopped s d then takePosted d s else s)

/-- The writes posted to the ACLK and FCLK domains take effect as those clocks restart, before any unit works (R25). -/
def takeRunPosted (s : State) : State := takePosted .fclk (takePosted .aclk s)

/-- A burst of the harmonic engine begins: HCLK starts, and the writes posted to its domain take effect first (R25). -/
def burstBegins (s : State) : State := if running s then hbOver (hrmOver (takePosted .hclk s)) else s

/-- The host writes a word to element i of a register: it acts, or is posted while the register's clock stands still (R25). -/
def hostWord (r : RegRow) (i w : Nat) (act : State → State) (s : State) : State :=
  if !mainOn s then s
  else if domStopped s r.dom then { s with host := { s.host with posted := s.host.posted ++ [(r.dom, r.base + r.stride * i, w)] } }
  else act s

/-- A field's bits in a word. -/
def Fld.word (f : Fld) (v : Nat) : Nat := v % 2 ^ f.len * 2 ^ f.lo

def execForceSlot (n : Fin 256) (s : State) : Res :=
  .next (if privileged s then hostWord R.RMT_FORCE 0 (F.RMT_FORCE_GO.word 1 + F.RMT_FORCE_STREAM.word n) (forceSlot n) s else s)

def execMtrHoldWrite (hold : Bool) (meter : Fin 64) (s : State) : Res :=
  .next (hostWord R.MTR_HOLD 0 (F.MTR_HOLD_HOLD.word hold.toNat + F.MTR_HOLD_METER.word meter) (mtrHoldWrite hold meter) s)

def execAccQclr (a : Fin 3072) (s : State) : Res := .next (hostWord R.ACC_QUAL a (F.ACC_QUAL_QCLR.word 1) (accQclr a) s)

def execHrmHoldWrite (hold : Bool) (stream : Fin 256) (s : State) : Res :=
  .next (hostWord R.HRM_HOLD 0 (F.HRM_HOLD_HOLD.word hold.toNat + F.HRM_HOLD_STREAM.word stream) (hrmHoldWrite hold stream) s)

def execHbPageSelect (hold : Bool) (stream : Fin 256) (s : State) : Res :=
  .next (hostWord R.DST_HBSEL 0 (F.DST_HBSEL_HOLD.word hold.toNat + F.DST_HBSEL_STREAM.word stream) (hbSelect hold stream) s)

def execHrmHoldExpire (s : State) : Res :=
  .next (if s.hrm.hold.isNone then s else if clkOn s .hclk then hrmHoldExpire s else { s with hrm := { s.hrm with expired := true } })

def execHbPageHoldExpire (s : State) : Res :=
  .next (if s.dst.hold.isNone then s else if clkOn s .hclk then hbHoldExpire s else { s with dst := { s.dst with expired := true } })

/-! ### Bursts of the harmonic engine -/

def execCyclePhasorsPost (g : Grp) (ps : List StreamRun) (s : State) : Res := .next (phasorsPost g ps (burstBegins s))

def execWindowResultsPost (g : Grp) (ws : List StreamRun) (s : State) : Res := .next (windowPost g ws (burstBegins s))

def execHighBandBlock (bs : List StreamRun) (s : State) : Res := .next (highBlock bs (burstBegins s))

def execLowBandPeriod (t : Nat) (ls : List StreamRun) (s : State) : Res := .next (lowBandPeriod t ls (burstBegins s))

/-! ### Requests that waited for the controller (R17) -/

/-- Firmware carries out a request. -/
def runFw (op : FwOp) (s : State) : State :=
  match op with
  | .profile i => onVault 4 (.profile i) (profileWrite i) s
  | .keySubmit n => keySubmit n s
  | .openWrite e i p => openWrite e i p s
  | .openPromote => openPromote s
  | .promote => onVault 3 .promote promoteNow s
  | .passport => passportRequest s
  | .txGo p n d => txSend p n d s
  | .calStart => calStart s
  | .calStep => onSess calStep s
  | .calCommit => commitRequest s
  | .calAbort => calAbort s
  | .calTrig => calTrig s
  | .calErase i => calErase i s
  | .dspShow => dspShow s
  | .dspNext => dspNext s
  | .housekeeping ts => if running s then housekeeping ts s else s
  | .pageDwell => dwellExpire s
  | .nbrAge i => if wayUp s then removeNbr i s else s
  | .toneAge i => if wayUp s then toneExpire i s else s
  | .ackTimeout => if wayUp s then txFail s else s
  | .parent => if wayUp s then chooseParent s else s
  | .twinWait r => twinWaitEnd r s
  | .sessTimeout => sessTimeout s
  | .trimStart => trimTrigger s

/-- The requests that waited are carried out in order. -/
def runWaiting (s : State) : State :=
  s.host.waiting.foldl (fun s op => runFw op s) { s with host := { s.host with waiting := [] } }

/-- A claim on the Vault's write port has ended: what waited for it goes on (R20). -/
def vaultFreed (s : State) : State :=
  let s1 := s.host.waiting.foldl (fun s op => if op.hardware then runFw op s else s)
    { s with host := { s.host with waiting := s.host.waiting.filter fun op => !op.hardware } }
  if ctlOn s1 && s1.host.waiting != [] then runWaiting s1 else s1

def execKeyMessageApplied (s : State) : Res := .next (if ctlOn s && vaultFree s 3 then vaultFreed (keyApplied s) else s)

def execCalCommitComplete (fs : List SetFail) (s : State) : Res :=
  .next (if vaultFree s 4 then vaultFreed (onSess (commitComplete fs) s) else s)

def execWarmRestartComplete (s : State) : Res :=
  .next (if mainOn s && s.ctl == .restarting then sessResume (runWaiting (restartDone s)) else s)

/-! ### Reading (R7, R27) -/

/-- Lower registers of the 64-bit quantities: the upper one follows at the next address. -/
def lowRegs : List Nat :=
  [R.IDENT_UID_LO.rid, R.ACC_LO.rid, R.GRD_TB_LO.rid, R.DST_LSTART_LO.rid, R.TWN_PEER_LO.rid, R.FLTS_LTIME_LO.rid,
   R.CVN_EXP_LO.rid, R.CVN_PRES_LO.rid, R.CVN_STIME_LO.rid, R.CVN_ADJ_LO.rid, R.WAY_NID_LO.rid]

/-- Is this the address of the lower word of a 64-bit quantity? LDG_REC[5] and LDG_REC[6], which show the 8-byte STIME of a ledger
record, are not among them: the spec does not say whether STIME is such a quantity, and the model makes no capture there (DESIGN
CHOICE). -/
def isLower (addr : Nat) : Bool :=
  match regAt addr with
  | some p => lowRegs.contains p.1.rid || (p.1.rid == R.CVN_MACC.rid && p.2 % 2 == 0)
  | none => false

/-- A host read of one word: a captured upper word is returned once, and a lower word captures its upper word. -/
def readWord (addr : Nat) (s : State) : Nat × State :=
  match mget none s.host.capt addr with
  | some v => (v, { s with host := { s.host with capt := mput none s.host.capt addr none } })
  | none =>
    (viewAddr s addr,
     if isLower addr then
       { s with host := { s.host with capt := mput none s.host.capt (addr + 4) (some (viewAddr s (addr + 4))) } }
     else s)

end Sys2Proof.Machine
end

