-- ==== Sys2Proof/Machine/Power.lean ====
section
/-! DEFINITION. Power, reset and retention: main power-good and main resets, start-up, entry to RUN and to STANDBY, power-fail
and recovery (R36 to R38, R415 to R430). -/

namespace Sys2Proof.Machine

/-! ### Main reset (R422, R424) -/

/-- What a main reset leaves: the register fields of classes P and V, what the Vault, the flash, the fuses, the porter and the
display panel hold, and the queue of commands; everything else is as after reset. -/
def mainReset (s : State) : State :=
  { State.reset with
    pending := s.pending
    flds := keepCls (fun c => c == .P || c == .V) s.flds
    clk := { now := s.clk.now, site := 0, stopped := some s.clk.now, xsrc := .crystal, rcTrims := 0
             slew := 0, ppm := 0, slewT := 0, path := [] }
    pwr := { State.reset.pwr with session := s.pwr.session }
    ldg := { State.reset.ldg with pos := s.ldg.pos, loss := s.ldg.loss, bucketT := s.clk.now }
    rmt := { State.reset.rmt with stored := s.rmt.stored }
    flts := { State.reset.flts with
      rowsMap := s.flts.rowsMap, rowsFen := s.flts.rowsFen, blksMap := s.flts.blksMap, blksFen := s.flts.blksFen
      chkLost := s.flts.chkLost, keyMap := s.flts.keyMap, shrunk := s.flts.shrunk }
    cal := { State.reset.cal with sets := s.cal.sets }
    mtr := { State.reset.mtr with ring := s.mtr.ring }
    itn := { State.reset.itn with flash := s.itn.flash, floor := s.itn.floor }
    way := { State.reset.way with fcntHi := s.way.fcntHi }
    rng := s.rng
    sbx := { s.sbx with msg := none, respT := none }
    dsp := { s.dsp with queued := none, start := none, ncom := false, fresh := false }
    prt := s.prt }

/-- A final checkpoint that is being written is cut off: its position fails its CRC (R418). -/
def cutCkpt (s : State) : State :=
  if s.pwr.finalCk then
    match unfenced s s.mtr.nextSeq with
    | some q => { s with mtr := { s.mtr with ring := mput .empty s.mtr.ring (q % 64) .bad } }
    | none => s
  else s

/-- A source of main reset takes hold. -/
def holdReset (m : MState) (src : RstSrc) (s : State) : State :=
  let s1 := mainReset (cutCkpt (if running s && !s.dsp.hold then displayOff s else s))
  { s1 with pwr := { s1.pwr with mstate := m, reset := some src } }

/-- Main power-good becomes true: STANDBY, with the main reset still held (Table 22-3). -/
def execMainPowerGood (s : State) : Res :=
  .next (if s.pwr.mstate = .backup then { s with pwr := { s.pwr with mstate := .standby, reset := some .power } } else s)

/-- Main power-good falls: BACKUP. In a ledger flush the number of records left goes to the loss word first (R370). -/
def powerGoodFalls (s : State) : State :=
  let s1 := if s.ldg.flush then { s with ldg := { s.ldg with loss := s.ldg.queue.length } } else s
  holdReset .backup .power s1

def execMainPowerGoodFalls (s : State) : Res := .next (if s.pwr.mstate = .backup then s else powerGoodFalls s)

/-- nRST is low for 1 µs: a main reset of cause 3, and nothing is written. -/
def execNrstAsserted (s : State) : Res :=
  .next (if mainOn s then holdReset .standby .nrst s else s)

/-- CAUSE (Table 22-5). -/
def resetCause (s : State) (src : RstSrc) : Nat :=
  match src with
  | .power => if s.pwr.session then 2 else 1
  | .nrst => 3
  | .host => 4

/-- The main reset is released: CAUSE is set, and PUPS and the high half of FCNT count (R299, R421). -/
def resetRelease (src : RstSrc) (s : State) : State :=
  let s1 := { s with
    pwr := { s.pwr with reset := none }
    way := { s.way with fcntHi := (s.way.fcntHi + 1) % 65536 } }
  (s1.put F.PWR_ST_CAUSE 0 (resetCause s src)).inc F.PWR_CNT_PUPS

def execMainResetRelease (s : State) : Res :=
  .next (match s.pwr.reset with
    | some src => if s.pwr.mstate = .backup then s else resetRelease src s
    | none => s)

/-! ### Straps (R36 to R38) -/

/-- The straps are sampled once after a main reset; bit k of `wsel` is the level of WSELk. -/
def strapSample (wsel : Nat) (s : State) : State :=
  let s1 := { s with pwr := { s.pwr with sampled := true } }
  (((s1.setBit F.PWR_ST_PAIRSIDE 0 (wsel.testBit 0)).setBit F.PWR_ST_XBYP 0 (wsel.testBit 1)).setBit F.PWR_ST_NVMSLOW 0
    (wsel.testBit 2)).setBit F.PWR_ST_STRAP3 0 (wsel.testBit 3)

def execStrapSample (wsel : BitVec 4) (s : State) : Res :=
  .next (if mainOn s && !s.pwr.sampled then strapSample wsel.toNat s else s)

def execStrapPinsDriven (s : State) : Res :=
  .next (if mainOn s then { s with pwr := { s.pwr with wsel := .driven } } else s)

/-! ### Start-up (R421) -/

/-- PLL-M locks, the maps of SRAM and Vault apply, and DSTATE is evaluated. -/
def execPllMLocked (s : State) : Res :=
  .next (if mainOn s && !s.pwr.pllLocked then evalDState { s with pwr := { s.pwr with pllLocked := true } } else s)

/-- Both copies of a modulator's stored corrections have failed: it takes its factory trim at every RANGE (R76). -/
def dropCorrs (md : Nat) (s : State) : State :=
  (List.range 8).foldl (fun s r => { s with rmt := { s.rmt with stored := mput none s.rmt.stored (8 * md + r) none } }) s

/-- A read of the Vault at start-up that failed its CRC (R76, R137, R200). -/
def loadFail (f : LoadFail) (s : State) : State :=
  match f with
  | .slot p again =>
    if mget .empty s.mtr.ring p = .empty then s
    else if again then
      retireBlock (vaultBlock (.ckpt p 0)) false { s with mtr := { s.mtr with ring := mput .empty s.mtr.ring p .bad } }
    else vaultReread (.ckpt p 0) s
  | .corr md a b =>
    let blk := (Config.openDetail (64 + md)).toNat
    if a && b then retireBlock blk false (dropCorrs md s) else transient 4 0 blk false false s
  | .set f => takeFail f s

/-- The sets among the reads that failed: their retries (Table 12-1). -/
def loadRetry (f : LoadFail) (s : State) : State :=
  match f with
  | .set f => setRetry f s
  | .slot _ _ => s
  | .corr _ _ _ => s

/-- The itinerary is loaded; CAL_SETINFO is refreshed, the porter profile is compared and the registered accumulators are restored;
a wipe or a bundle cut short is found (R137, R330, R333, R349, Table 10-9). -/
def loadComplete (fs : List LoadFail) (s : State) : State :=
  let s1 := fs.foldl (fun s f => loadRetry f s) (fs.foldl (fun s f => loadFail f s) (itineraryLoaded s))
  showWipe (interruptedBundle (restoreCkpt (profileCompare (showSets (touchSets s1)))))

def execItineraryLoaded (fs : List LoadFail) (s : State) : Res :=
  .next (if mainOn s && s.pwr.mstate == .standby && s.fld F.ITN_ST_LOAD == 1 then loadComplete fs s else s)

/-- The loss word, where it is not zero, yields a summary and is cleared (R370). -/
def lossSummary (s : State) : State :=
  if s.ldg.loss = 0 then s
  else
    let s1 := putRec s (mkSummary s 0xFE 6 0xFFFF s.ldg.loss 0 0)
    { s1 with ldg := { s1.ldg with loss := 0 } }

/-- Slot words that disagree with their shadows mark their slots (R359). -/
def markCorrupt (ks : List Nat) (s : State) : State :=
  ks.foldl (fun s k => if s.bit F.PRT_SLT_INFO_FULL k then s.put F.PRT_SLT_INFO_CORRUPT k 1 else s) s

/-- Events 108, 110, 111 and 101 (R38, R430). -/
def powerEvents (s : State) : State :=
  let c := s.fld F.PWR_ST_CAUSE
  let s1 := raise 108 c s
  let s2 := raiseIf ((c == 2 || c == 3) && s.pwr.session) 110 c s1
  let s3 := raiseIf (c == 2 || c == 3 || c == 4) 111 c s2
  raiseIf (s.bit F.PWR_ST_STRAP3) 101 noDetail s3

/-- Nanoseconds from 2000-01-01 00:00:00 to the calendar's reading. -/
def calendarNs (s : State) : Nat :=
  let c := getCal s
  let sec := ((dayNumber c.cent c.year c.mon c.day * 24 + c.hour) * 60 + c.min) * 60 + c.sec
  sec * 1000000000 + viewF s F.PRT_SUB_SUBSEC 0 * 1000000000 / 32768

/-- The site master, a head without a site, and a device outside any caravan take their count from the calendar (R278, Table
22-4). -/
def takeCalendar (s : State) : State :=
  if !s.cvn.cfg.en || (startsAsHead s && (!s.cvn.cfg.siteEn || s.cvn.cfg.master)) then
    { s with clk := { s.clk with site := calendarNs s % 2 ^ 64 } }
  else s

/-- The controller first runs (R18, R421). `corrupt`: porter slots whose words disagree with their shadows. -/
def firstRun (corrupt : List Nat) (s : State) : State :=
  let s1 := lossSummary (controllerRuns s)
  let s2 := runDeferred (reportLost (markCorrupt corrupt s1))
  runWaiting (pkResume (takeCalendar (powerEvents s2)))

def execControllerFirstRun (corrupt : List (Fin 16)) (s : State) : Res :=
  .next (if mainOn s && s.ctl == .held && s.fld F.ITN_ST_LOAD == 2 then firstRun (corrupt.map fun k => k.toNat) s else s)

/-! ### Entry to RUN (R419, R421) -/

/-- Every channel takes its settings, BURN on a disabled one too (R61, R71): those enabled start their streams, the others stop. -/
def takeStreams (s : State) : State :=
  (List.range 144).foldl (fun s n =>
    if s.bit F.INP_CFG_EN n then startChannel n s else takeSettings n (if chanOn s n then stopChannel n s else s)) s

/-- Settings that changed in STANDBY take their trace values (R205). -/
def resumeTraces (s : State) : State := (List.range 144).foldl (fun s n => if chanOn s n then traceResume n s else s) s

/-- Bitstream groups take EN and RATE, once after a main reset (R71). -/
def takeGroups (s : State) : State :=
  (List.range 2).foldl (fun s g =>
    { s with inp := { s.inp with
        bsgEn := mput false s.inp.bsgEn g (s.bit F.INP_BSG_EN g), bsgRate := mput 0 s.inp.bsgRate g (s.fld F.INP_BSG_RATE g) } }) s

/-- Links that STANDBY had stopped are sought again (R227, R266). -/
def seekLinks (s : State) : State :=
  if ctlOn s then
    let s1 := if s.bit F.TWN_CFG_EN && tst s == 0 then seek s else s
    if s1.fld F.CVN_ST_STATE = 0 then cvnTrain s1 else s1
  else s

/-- The RUN clocks start: posted writes take effect first, and then every unit takes its settings. -/
def enterRun (s : State) : State :=
  let s1 := takeRunPosted s
  let s2 := { s1 with
    clk := { s1.clk with stopped := none }
    pwr := { s1.pwr with mstate := .run, ran := true, req := none } }
  let s3 := remountEnterRun (resumeTraces (takeStreams (dropFormer (if s.pwr.ran then s2 else takeGroups s2))))
  let s4 := seekLinks (displayStart (wayStart (hrmService (fltService s3))))
  sessResume s4

/-- Is RUN barred: no itinerary, or a faulty board (R38, R312)? -/
def runBarred (s : State) : Bool := s.fld F.ITN_ST_LOAD == 3 || s.bit F.PWR_ST_STRAP3

/-- RUN follows the load with AUTORUN at 1, or a write of RUN that came before the load was complete. -/
def execEnterRun (s : State) : Res :=
  .next (if mainOn s && s.pwr.mstate == .standby && s.fld F.ITN_ST_LOAD == 2 && !runBarred s
      && (s.pwr.req == some .run || (s.bit F.PWR_CFG_AUTORUN && !s.pwr.ran)) then enterRun s else s)

/-- The reference has settled: the trim run begins, the first time that of main power-up (R202, R204); with the controller halted the
values of R197 stand instead (R313). -/
def referenceSettled (s : State) : State :=
  if s.ctl = .halted then uncalibrate s
  else trimTrigger { s with cal := { s.cal with powerUp := !s.cal.upRun, upRun := true } }

def execReferenceSettled (s : State) : Res := .next (if running s && !s.pwr.metering then referenceSettled s else s)

def execMeteringStart (t : Nat) (s : State) : Res :=
  .next (if running s && !s.pwr.metering && t % 10000000 == 0 && meteringReady s then
    startMirrors (startMetering (reachTime t s)) else s)

/-! ### STANDBY and host reset (R420, R422) -/

/-- Every CF pin is released, with the pulses in progress completed. What is still to be spread waits for the next sum (R143). -/
def releaseOuts (s : State) : State :=
  (List.range 16).foldl (fun s c => setOut c { getOut s c with busy := none, driving := false } s) (setRole false s)

/-- The units that work on the RUN clocks stop. Disturbance records still waiting are posted (R183). A reference session stays in
its state (Table 10-4); its windows begin again at the next entry to RUN. A trim run goes on: it is firmware's, and the Vault's. -/
def stopUnits (s : State) : State :=
  let s1 := applyAllPend (abandonAll (releaseOuts s))
  let s3 := postAllRecords ((List.range 4).foldl (fun s g => trackerOff g s.clk.site s) s1)
  let s4 := displayOff (sarStop (cvnStop (setTst 0 (endHold s3))))
  { s4.put F.WAY_ST_UP 0 0 with
    way := { s4.way with air := none }
    mtr := { s4.mtr with due := [], held := [], idc := [], miss := [], wait := [] }
    dst := { s4.dst with hb := [], arc := [] } }

/-- STANDBY is entered by request. -/
def enterStandby (s : State) : State :=
  let s1 := stopUnits s
  { s1 with
    clk := { s1.clk with stopped := some s1.clk.now }
    pwr := { s1.pwr with mstate := .standby, metering := false, req := none } }.put F.PWR_ST_STBYL 0 1

/-- Every interval is closed and posted, and the final checkpoint is started (R136). -/
def startFinal (runs : List (Nat × List ChanRun)) (s : State) : State :=
  let s1 := if s.pwr.metering then closeIntervals runs s else s
  { s1 with pwr := { s1.pwr with finalCk := true } }

/-- A request of R420 is taken: a paired device first detaches. -/
def takeRequest (r : PwrReq) (s : State) : State :=
  let s1 := { s with pwr := { s.pwr with req := some r } }.put F.PWR_CTL_REJ 0 0
  if paired s1 then (if s1.twn.detReq then s1 else twnDetach s1) else if s1.pwr.finalCk then s1 else startFinal [] s1

/-- A request is refused. -/
def rejectPwr (s : State) : State := s.put F.PWR_CTL_REJ 0 1

/-- A write of PWR_CTL.RST. It wins over a pending STBY. -/
def pwrRst (s : State) : State :=
  if s.pwr.mstate = .standby then holdReset .standby .host s
  else match s.pwr.req with
    | some .rst => rejectPwr s
    | some .stby => { s with pwr := { s.pwr with req := some .rst } }.put F.PWR_CTL_REJ 0 0
    | some .run => takeRequest .rst s
    | none => takeRequest .rst s

/-- A write of PWR_CTL.STBY. -/
def pwrStby (s : State) : State :=
  let busy := (List.range 11).any fun r => rst s r == 5
  if s.pwr.mstate = .standby ∨ s.pwr.req.isSome ∨ busy ∨ s.sbx.msg.isSome then rejectPwr s else takeRequest .stby s

/-- A write of PWR_CTL.RUN. After a STANDBY the accumulators are restored from the checkpoint just written (R137). Before the
itinerary is loaded the request waits for it. -/
def pwrRun (s : State) : State :=
  if s.pwr.mstate = .run ∨ runBarred s ∨ s.pwr.req.isSome then rejectPwr s
  else
    let s1 := s.put F.PWR_CTL_REJ 0 0
    if s.fld F.ITN_ST_LOAD = 2 then enterRun (if s1.pwr.ran then restoreCkpt s1 else s1)
    else { s1 with pwr := { s1.pwr with req := some .run } }

def execPwrRst (s : State) : Res := .next (if mainOn s && privileged s then pwrRst s else s)
def execPwrStby (s : State) : Res := .next (if mainOn s && privileged s then pwrStby s else s)
def execPwrRun (s : State) : Res := .next (if mainOn s && privileged s then pwrRun s else s)

/-- An exchange instant. A member with no twin reports the cycles ended (R274). Where metering starts at it the mirrors follow; where
a device that is to enter STANDBY is no longer paired its final checkpoint starts. -/
def exchangeStep (t : Nat) (runs : List ChanRun) (s : State) : State :=
  let s1 := reportUncovered t (exchangeInstant t runs s)
  let s2 := if s1.pwr.metering && !s.pwr.metering then startMirrors s1 else s1
  if s2.pwr.req.isSome && running s2 && !paired s2 && !s2.pwr.finalCk then startFinal [] s2 else s2

def execExchangeInstant (t : Nat) (runs : List ChanRun) (s : State) : Res := .next (exchangeStep t runs s)

/-! ### Power-fail (R415 to R418) -/

/-- A power-fail report: in RUN the intervals are closed, the final checkpoint starts, and the display goes dark. The record of
event 109 waits behind the checkpoint; until that completes its DETAIL is 2. `runs`: samples of the intervals that are closed. -/
def powerFail (runs : List (Nat × List ChanRun)) (s : State) : State :=
  let s1 := ((s.put F.PWR_ST_PFAIL 0 1).put F.PWR_ST_PFL 0 1).inc F.PWR_CNT_PFAILS
  let s2 := raise 109 2 { s1 with pwr := { s1.pwr with pfT := s1.clk.now, recover := false } }
  if running s2 then displayOff (startFinal runs (s2.put F.PWR_PF_TCKPT 0 0xFFFF)) else s2

def execPowerFailReport (x : PowerFailure) (s : State) : Res :=
  .next (if mainOn s && !s.bit F.PWR_ST_PFAIL then powerFail (x.runs.map fun r => (r.1.val, r.2)) (reachTime x.t s) else s)

/-- DETAIL of the newest record of event 109 becomes 1. -/
def markDone : List LdgRec → List LdgRec
  | [] => []
  | r :: q =>
    if q.any (·.code == 109) then r :: markDone q
    else if r.code = 109 then { r with detail := 1 } :: q else r :: markDone q

/-- The device resumes in full (R417). -/
def powerResume (s : State) : State :=
  let s1 := (s.put F.PWR_ST_PFAIL 0 0).put F.PWR_ST_RECL 0 1
  let s2 := { s1 with
    pwr := { s1.pwr with session := s1.pwr.session || s1.pwr.metering, recover := false }
    ldg := { s1.ldg with flush := false } }
  if running s2 then displayResume s2 else s2

/-- Is a final checkpoint or a flush still to be completed? -/
def stillSaving (s : State) : Bool := s.pwr.finalCk || (s.ldg.flush && s.ldg.queue != [] && s.ctl != .halted)

/-- A recovery that waited takes place, and then what waited for the Vault's write port. -/
def resumeIf (s : State) : State := if s.pwr.recover && !stillSaving s then vaultFreed (powerResume s) else s

/-- The final checkpoint of a power-fail is written: TCKPT, and the ledger is flushed. -/
def failSaved (ok : Bool) (s : State) : State :=
  let us := min 0xFFFE ((s.clk.now - s.pwr.pfT) / 1000)
  let s1 := (s.put F.PWR_PF_TCKPT 0 (if ok then us else 0xFFFF)).put F.PWR_PF_NREC 0 0
  { s1 with ldg := { s1.ldg with
      flush := true, queue := if ok then markDone s1.ldg.queue else s1.ldg.queue
      hwq := if ok then markDone s1.ldg.hwq else s1.ldg.hwq } }

/-- The final checkpoint is complete: the session word is cleared; a request of R420 goes on to STANDBY, and for RST to the main
reset. Where every position is fenced nothing was written. -/
def finalDone (s : State) : State :=
  let ok := (unfenced s s.mtr.nextSeq).isSome
  let s1 := writeCkpt true s
  let s2 := { s1 with pwr := { s1.pwr with finalCk := false, session := s1.pwr.session && !ok } }
  let s3 := if s2.bit F.PWR_ST_PFAIL then failSaved ok s2 else s2
  match s3.pwr.req with
  | some .rst => holdReset .standby .host (enterStandby s3)
  | some .stby => enterStandby s3
  | some .run => resumeIf s3
  | none => resumeIf s3

def execFinalCheckpointComplete (t : Nat) (s : State) : Res :=
  .next (if running s && s.pwr.finalCk then finalDone (reachTime t s) else s)

/-- CMPA has stayed above 1.225 V for RECWAIT ms: the device resumes, once the checkpoint and the flush in progress are
complete. -/
def powerRecovery (s : State) : State :=
  if stillSaving s then { s with pwr := { s.pwr with recover := true } } else vaultFreed (powerResume s)

def execPowerFailRecovery (s : State) : Res := .next (if mainOn s && s.bit F.PWR_ST_PFAIL then powerRecovery s else s)

/-- One queued record is written (R368, R370); a recovery that waits for the flush follows its last record. -/
def execLedgerRecordWrite (s : State) : Res := .next (resumeIf (ledgerWrite s))

end Sys2Proof.Machine
end

