-- ==== Sys2Proof/Machine/HostPort.lean ====
section
/-! DEFINITION. The host port: frames, their checks, execution of write frames, duplicates, and the status word (R399 to
R411). -/

namespace Sys2Proof.Machine

/-! ### Phases (R399, R400) -/

/-- The phases of a frame (Table 21-1). -/
inductive FramePhase where
  | header
  | dataIn
  | dataCrc
  | turnaround
  | dataOut
  | status
  | respCrc
  deriving DecidableEq, Repr

/-- Does the LX144 drive the lines in a phase? -/
def FramePhase.out : FramePhase → Bool
  | .dataOut => true
  | .status => true
  | .respCrc => true
  | _ => false

/-- The phases of a read or a write frame of w words in order, with their clocks: after the header four bits per clock with QUAD. -/
def framePhases (write quad : Bool) (w : Nat) : List (FramePhase × Nat) :=
  let n := if quad then 4 else 1
  [(.header, 64)] ++ (if write then [(.dataIn, 32 * w / n)] ++ (if w = 0 then [] else [(.dataCrc, 16 / n)]) else [])
    ++ [(.turnaround, 8)] ++ (if write then [] else [(.dataOut, 32 * w / n)]) ++ [(.status, 32 / n), (.respCrc, 16 / n)]

/-- The clocks of a whole frame. -/
def frameClocks (write quad : Bool) (w : Nat) : Nat := ((framePhases write quad w).map (·.2)).sum

/-! ### Headers (R401, R403) -/

/-- A header as its fields (Table 21-2). -/
structure Header where
  op    : Nat
  quad  : Bool
  inc   : Bool
  tag   : Nat
  addr  : Nat
  resv  : Nat
  len   : Nat
  deriving DecidableEq, Repr

/-- The header in eight bytes; none where its CRC fails or it is not eight bytes long. -/
def header (b : List Byte) : Option Header :=
  let x := b.map BitVec.toNat
  let g := fun i => x.getD i 0
  if x.length = 8 ∧ crc16 (x.take 6) = 256 * g 6 + g 7 then
    some ⟨g 0 / 64, (g 0).testBit 5, (g 0).testBit 4, g 0 % 16, 65536 * g 1 + 256 * g 2 + g 3, g 4 / 2, 256 * (g 4 % 2) + g 5⟩
  else none

/-- Is an accepted header a format error? -/
def Header.bad (h : Header) : Bool :=
  h.resv != 0 || decide (256 < h.len)
    || (decide (1 ≤ h.len) && (decide (2 ≤ h.op) || h.addr % 4 != 0))

/-- The address of word k. -/
def Header.at_ (h : Header) (k : Nat) : Nat := if h.inc then (h.addr + 4 * k) % 2 ^ 24 else h.addr

/-! ### Status (R406) -/

/-- The status word, as at this instant. -/
def statusWord (s : State) (h : Header) (result fidx : Nat) (dup : Bool) : Nat :=
  result * 2 ^ 28 + (if dup then 2 ^ 27 else 0) + (if privileged s then 2 ^ 26 else 0) + mstateCode s * 2 ^ 24
    + h.tag * 2 ^ 20 + fidx * 2 ^ 11 + viewReg s R.EVT_STAT 0 % 2 ^ 11

/-- The response: data words, status word, and the CRC over them. -/
def respond (data : List Nat) (st : Nat) (s : State) : State :=
  let c := crc16 ((data ++ [st]).flatMap (beBytes 4))
  { s with host := { s.host with resp := some (.words data st c) } }

/-- A frame whose header fails its CRC is not accepted: the lines read as ones. -/
def weakFrame (s : State) : State := { s with host := { s.host with resp := some .weak } }

/-- Every accepted frame restarts the timer of a privileged session (R410). -/
def hostFrame (s : State) : State := { s with host := { s.host with lastT := s.clk.now } }

/-- A format error: nothing is executed, read data are zero words, and RESULT is 4. A reserved OP is answered as a read is: only
OP 1 announces data of the host. -/
def formatError (h : Header) (s : State) : State :=
  respond (if h.op = 1 then [] else List.replicate h.len 0) (statusWord s h 4 0 false) s

/-- A status poll. -/
def pollFrame (h : Header) (s : State) : State := respond [] (statusWord s h 0 0 false) s

/-! ### Read frames (R404) -/

/-- The words of a read, in order, and the first that is unmapped. -/
def readWords (h : Header) : Nat → Nat → State → List Nat × Option Nat × State
  | 0, _, s => ([], none, s)
  | n + 1, k, s =>
    let v := readWord (h.at_ k) s
    let r := readWords h n (k + 1) v.2
    (v.1 :: r.1, if (regAt (h.at_ k)).isNone then some k else r.2.1, r.2.2)

/-- A read frame. -/
def readFrame (h : Header) (s : State) : State :=
  let r := readWords h h.len 0 s
  respond r.1 (match r.2.1 with
    | some k => statusWord r.2.2 h 2 k false
    | none => statusWord r.2.2 h 0 0 false) r.2.2

/-- A frame that carries no data phase of the host: a read, a poll, or a format error. A header that announces a write without
its data is cut short and executes nothing. -/
def hostRead (b : List Byte) (s : State) : State :=
  match header b with
  | none => weakFrame s
  | some h =>
    let s1 := hostFrame s
    if h.bad then formatError h s1
    else if h.len = 0 then pollFrame h s1
    else if h.op = 0 then readFrame h s1
    else { s1 with host := { s1.host with resp := none } }

def execHostReadFrame (hdr : List Byte) (s : State) : Res := .next (if mainOn s then hostRead hdr s else s)

def execStatusPoll (hdr : List Byte) (s : State) : Res :=
  .next (if mainOn s && (header hdr).elim true (fun h => h.len == 0) then hostRead hdr s else s)

/-- A host read of the lower word of a 64-bit quantity, and of no other address. -/
def execRead64LowerWord (addr : Nat) (s : State) : Res :=
  .next (if mainOn s && isLower addr then (readWord addr { s with host := { s.host with capt := mput none s.host.capt addr none } }).2
    else s)

/-! ### Write frames (R405, R408, R409) -/

/-- PWR_CTL: RST, then STBY, then RUN of one word. -/
def pwrCtl (w : Nat) (s : State) : State :=
  let s1 := if F.PWR_CTL_RST.slice w = 1 then pwrRst s else s
  let s2 := if F.PWR_CTL_STBY.slice w = 1 then pwrStby s1 else s1
  if F.PWR_CTL_RUN.slice w = 1 then pwrRun s2 else s2

/-- Can a word change nothing but LIVE fields of a register? Without privilege it then has no effect (R9). -/
def allLive (r : RegRow) (i : Nat) : Bool := (fieldsAt r i).all fun f => f.acc == .live || f.acc == .ro

/-- A word written by the host, and its RESULT: 0 done or posted, 2 unmapped, 3 refused. -/
def writeWord (addr w : Nat) (s : State) : Nat × State :=
  match regAt addr with
  | none => (2, s)
  | some p =>
    if !accepted p.1 p.2 addr w s then (3, s)
    else if !privileged s && allLive p.1 p.2 then (0, s)
    else if p.1.rid = R.PWR_CTL.rid then (0, pwrCtl w s)
    else if domStopped s p.1.dom then
      (0, { s with host := { s.host with posted := s.host.posted ++ [(p.1.dom, addr, w)] } })
    else (0, wordEffect p.1 p.2 addr w s)

/-- The words of a frame take effect in order. Answers the first failure: its RESULT and index. A word that starts a main reset
ends what the port does. -/
def writeWords (h : Header) : List Word → Nat → State → Option (Nat × Nat) × State
  | [], _, s => (none, s)
  | w :: ws, k, s =>
    if !mainOn s then (none, s)
    else
      let r := writeWord (h.at_ k) w.toNat s
      let q := writeWords h ws (k + 1) r.2
      (if r.1 = 0 then q.1 else some (r.1, k), q.2)

/-- The data CRC of a write. -/
def dataCrc (ws : List Word) : Nat := crc16 (ws.flatMap fun w => beBytes 4 w.toNat)

/-- The record that R408 keeps of an executed frame. -/
def dupOf (h : Header) (crc st : Nat) : DupRec := ⟨h.tag, h.addr, h.inc, h.len, crc, st⟩

/-- Is a frame a duplicate of the one executed last? -/
def isDup (h : Header) (crc : Nat) (s : State) : Option DupRec :=
  s.host.dup.filter fun d => h.tag != 0 && d == dupOf h crc d.status

/-- The kept status with DUP set and with EVT and MSTATE as they are now. -/
def dupStatus (s : State) (st : Nat) : Nat :=
  let keep := st / 2 ^ 26 % 2 * 2 ^ 26 + st / 2 ^ 28 * 2 ^ 28 + st / 2 ^ 11 % 2 ^ 13 * 2 ^ 11
  keep + 2 ^ 27 + mstateCode s * 2 ^ 24 + viewReg s R.EVT_STAT 0 % 2 ^ 11

/-- A write frame executes. -/
def executeFrame (h : Header) (f : WriteFrame) (s : State) : State :=
  let r := writeWords h f.words 0 s
  if !mainOn r.2 then r.2
  else
    let st := match r.1 with
      | some x => statusWord r.2 h x.1 x.2 false
      | none => statusWord r.2 h 0 0 false
    let s1 := { r.2 with host := { r.2.host with dup := some (dupOf h f.dcrc.toNat st) } }
    respond [] st s1

/-- A frame with a host data phase. -/
def hostWrite (f : WriteFrame) (s : State) : State :=
  match header f.hdr with
  | none => weakFrame s
  | some h =>
    let s1 := hostFrame s
    if h.bad then formatError h s1
    else if h.len = 0 then pollFrame h s1
    else if h.op ≠ 1 then readFrame h s1
    else if !f.complete ∨ f.words.length ≠ h.len then { s1 with host := { s1.host with resp := none } }
    else if dataCrc f.words ≠ f.dcrc.toNat then respond [] (statusWord s1 h 1 0 false) s1
    else match isDup h f.dcrc.toNat s1 with
      | some d => respond [] (dupStatus s1 d.status) s1
      | none => executeFrame h f s1

def execHostWriteFrame (f : WriteFrame) (s : State) : Res := .next (if mainOn s then hostWrite f s else s)

end Sys2Proof.Machine
end

