-- ==== Sys2Proof/Machine/Dispatch.lean ====
section
/-! DEFINITION. The meaning of each command, arm by arm: one direct call per row of the table. -/

namespace Sys2Proof.Machine

def exec (i : Instr) (s : State) : Host.Outcome State Fault Refusal :=
  match i with
  | .read64LowerWord addr => Sys2Proof.Machine.execRead64LowerWord addr s
  | .hostReadFrame hdr => Sys2Proof.Machine.execHostReadFrame hdr s
  | .hostWriteFrame f => Sys2Proof.Machine.execHostWriteFrame f s
  | .statusPoll hdr => Sys2Proof.Machine.execStatusPoll hdr s
  | .postedWriteTakesEffect d => Sys2Proof.Machine.execPostedWriteTakesEffect d s
  | .mainPowerGood => Sys2Proof.Machine.execMainPowerGood s
  | .mainPowerGoodFalls => Sys2Proof.Machine.execMainPowerGoodFalls s
  | .nrstAsserted => Sys2Proof.Machine.execNrstAsserted s
  | .mainResetRelease => Sys2Proof.Machine.execMainResetRelease s
  | .strapSample wsel => Sys2Proof.Machine.execStrapSample wsel s
  | .strapPinsDriven => Sys2Proof.Machine.execStrapPinsDriven s
  | .pllMLocked => Sys2Proof.Machine.execPllMLocked s
  | .itineraryRead board noise => Sys2Proof.Machine.execItineraryRead board noise s
  | .itineraryLoaded fs => Sys2Proof.Machine.execItineraryLoaded fs s
  | .ledgerIndexBuilt bad once => Sys2Proof.Machine.execLedgerIndexBuilt bad once s
  | .controllerFirstRun corrupt => Sys2Proof.Machine.execControllerFirstRun corrupt s
  | .enterRun => Sys2Proof.Machine.execEnterRun s
  | .referenceSettled => Sys2Proof.Machine.execReferenceSettled s
  | .meteringStart t => Sys2Proof.Machine.execMeteringStart t s
  | .pwrRst => Sys2Proof.Machine.execPwrRst s
  | .pwrStby => Sys2Proof.Machine.execPwrStby s
  | .pwrRun => Sys2Proof.Machine.execPwrRun s
  | .powerFailReport x => Sys2Proof.Machine.execPowerFailReport x s
  | .finalCheckpointComplete t => Sys2Proof.Machine.execFinalCheckpointComplete t s
  | .powerFailRecovery => Sys2Proof.Machine.execPowerFailRecovery s
  | .warmRestart => Sys2Proof.Machine.execWarmRestart s
  | .warmRestartComplete => Sys2Proof.Machine.execWarmRestartComplete s
  | .xclkFallback => Sys2Proof.Machine.execXclkFallback s
  | .rcTrim => Sys2Proof.Machine.execRcTrim s
  | .xclkReturn t => Sys2Proof.Machine.execXclkReturn t s
  | .dcGridBoundary t => Sys2Proof.Machine.execDcGridBoundary t s
  | .inputOverload n cause => Sys2Proof.Machine.execInputOverload n cause s
  | .ovrClear n mag => Sys2Proof.Machine.execOvrClear n mag s
  | .modulatorIntegratorReset n => Sys2Proof.Machine.execModulatorIntegratorReset n s
  | .openWindowSample n pOut nOut => Sys2Proof.Machine.execOpenWindowSample n pOut nOut s
  | .openQualified n => Sys2Proof.Machine.execOpenQualified n s
  | .stuckDetect b => Sys2Proof.Machine.execStuckDetect b s
  | .stuckClear b => Sys2Proof.Machine.execStuckClear b s
  | .densSet b ones => Sys2Proof.Machine.execDensSet b ones s
  | .densClear b => Sys2Proof.Machine.execDensClear b s
  | .channelEnableApply n => Sys2Proof.Machine.execChannelEnableApply n s
  | .channelDisableApply n => Sys2Proof.Machine.execChannelDisableApply n s
  | .burnChangeApply n => Sys2Proof.Machine.execBurnChangeApply n s
  | .bitstreamTimingApply b => Sys2Proof.Machine.execBitstreamTimingApply b s
  | .bitstreamSensorApply b => Sys2Proof.Machine.execBitstreamSensorApply b s
  | .remountSlotStart sp k => Sys2Proof.Machine.execRemountSlotStart sp k s
  | .selfCheckComplete sp off gain => Sys2Proof.Machine.execSelfCheckComplete sp off gain s
  | .settlingEnd sp => Sys2Proof.Machine.execSettlingEnd sp s
  | .handoverMatch sp e => Sys2Proof.Machine.execHandoverMatch sp e s
  | .crossfadeHoldTimeout sp => Sys2Proof.Machine.execCrossfadeHoldTimeout sp s
  | .spliceInstant sp => Sys2Proof.Machine.execSpliceInstant sp s
  | .modulatorOffline sp => Sys2Proof.Machine.execModulatorOffline sp s
  | .offlineMeasurementComplete sp short pts => Sys2Proof.Machine.execOfflineMeasurementComplete sp short pts s
  | .returnSettlingEnd sp => Sys2Proof.Machine.execReturnSettlingEnd sp s
  | .crossCheck sp e => Sys2Proof.Machine.execCrossCheck sp e s
  | .spareLeavesPins sp => Sys2Proof.Machine.execSpareLeavesPins sp s
  | .disagreementEstimate sp e => Sys2Proof.Machine.execDisagreementEstimate sp e s
  | .matchRemoval n => Sys2Proof.Machine.execMatchRemoval n s
  | .liveChangeCrossfade sp => Sys2Proof.Machine.execLiveChangeCrossfade sp s
  | .forceSlot n => Sys2Proof.Machine.execForceSlot n s
  | .filterResidueMismatch lane => Sys2Proof.Machine.execFilterResidueMismatch lane s
  | .filterLaneRetry lane pass => Sys2Proof.Machine.execFilterLaneRetry lane pass s
  | .scheduleRebuild => Sys2Proof.Machine.execScheduleRebuild s
  | .ovcSet n fs => Sys2Proof.Machine.execOvcSet n fs s
  | .ovcClear n fs => Sys2Proof.Machine.execOvcClear n fs s
  | .stepSet n fs => Sys2Proof.Machine.execStepSet n fs s
  | .stepClear n fs => Sys2Proof.Machine.execStepClear n fs s
  | .fastPathHoldoffEnd n => Sys2Proof.Machine.execFastPathHoldoffEnd n s
  | .responseWarmUpEnd n => Sys2Proof.Machine.execResponseWarmUpEnd n s
  | .responseCrossfade n => Sys2Proof.Machine.execResponseCrossfade n s
  | .presetStateSwitch n => Sys2Proof.Machine.execPresetStateSwitch n s
  | .settleEnd n => Sys2Proof.Machine.execSettleEnd n s
  | .paceChangeApply m => Sys2Proof.Machine.execPaceChangeApply m s
  | .intervalEnd m iv => Sys2Proof.Machine.execIntervalEnd m iv s
  | .intervalPosting m => Sys2Proof.Machine.execIntervalPosting m s
  | .remoteSampleDeadline m missing => Sys2Proof.Machine.execRemoteSampleDeadline m missing s
  | .mtrHoldWrite hold meter => Sys2Proof.Machine.execMtrHoldWrite hold meter s
  | .mtrHoldExpire => Sys2Proof.Machine.execMtrHoldExpire s
  | .accQclr a => Sys2Proof.Machine.execAccQclr a s
  | .metersApply m => Sys2Proof.Machine.execMetersApply m s
  | .periodicCheckpoint t => Sys2Proof.Machine.execPeriodicCheckpoint t s
  | .pulseTick net => Sys2Proof.Machine.execPulseTick net s
  | .pulseEnd c => Sys2Proof.Machine.execPulseEnd c s
  | .pinerrClear c => Sys2Proof.Machine.execPinerrClear c s
  | .exchangeInstant t runs => Sys2Proof.Machine.execExchangeInstant t runs s
  | .orderlyRoleChange => Sys2Proof.Machine.execOrderlyRoleChange s
  | .pulsesApply c => Sys2Proof.Machine.execPulsesApply c s
  | .halfCycleMark g t mid us => Sys2Proof.Machine.execHalfCycleMark g t mid us s
  | .cycleBoundary g t rms e nco measured => Sys2Proof.Machine.execCycleBoundary g t rms e nco measured s
  | .aligningBoundary g t rms measured => Sys2Proof.Machine.execAligningBoundary g t rms measured s
  | .trackerHoldExpire g => Sys2Proof.Machine.execTrackerHoldExpire g s
  | .f10sPost t => Sys2Proof.Machine.execF10sPost t s
  | .cyclePhasorsPost g ps => Sys2Proof.Machine.execCyclePhasorsPost g ps s
  | .windowEnd g => Sys2Proof.Machine.execWindowEnd g s
  | .windowResultsPost g ws => Sys2Proof.Machine.execWindowResultsPost g ws s
  | .harmonicBurstOverrun k => Sys2Proof.Machine.execHarmonicBurstOverrun k s
  | .harmonicResidueMismatch lane pass => Sys2Proof.Machine.execHarmonicResidueMismatch lane pass s
  | .hrmHoldWrite hold stream => Sys2Proof.Machine.execHrmHoldWrite hold stream s
  | .hrmHoldExpire => Sys2Proof.Machine.execHrmHoldExpire s
  | .gridEnableApply g t => Sys2Proof.Machine.execGridEnableApply g t s
  | .gridDisableApply g t => Sys2Proof.Machine.execGridDisableApply g t s
  | .gridReferenceChange g t => Sys2Proof.Machine.execGridReferenceChange g t s
  | .disturbanceRecordPost g => Sys2Proof.Machine.execDisturbanceRecordPost g s
  | .lowBandPeriod t ls => Sys2Proof.Machine.execLowBandPeriod t ls s
  | .highBandBlock bs => Sys2Proof.Machine.execHighBandBlock bs s
  | .hbPageSelect hold stream => Sys2Proof.Machine.execHbPageSelect hold stream s
  | .hbPageHoldExpire => Sys2Proof.Machine.execHbPageHoldExpire s
  | .trimRunStart => Sys2Proof.Machine.execTrimRunStart s
  | .trimRunComplete bad fs => Sys2Proof.Machine.execTrimRunComplete bad fs s
  | .trimResultsApply n => Sys2Proof.Machine.execTrimResultsApply n s
  | .calTrig => Sys2Proof.Machine.execCalTrig s
  | .calStart => Sys2Proof.Machine.execCalStart s
  | .calCheckComplete => Sys2Proof.Machine.execCalCheckComplete s
  | .calStep => Sys2Proof.Machine.execCalStep s
  | .calSettlingEnd => Sys2Proof.Machine.execCalSettlingEnd s
  | .calWindowEnd runs => Sys2Proof.Machine.execCalWindowEnd runs s
  | .refinMeasureComplete vm spread => Sys2Proof.Machine.execRefinMeasureComplete vm spread s
  | .calResult fs => Sys2Proof.Machine.execCalResult fs s
  | .calCommit => Sys2Proof.Machine.execCalCommit s
  | .calCommitComplete fs => Sys2Proof.Machine.execCalCommitComplete fs s
  | .calAbort => Sys2Proof.Machine.execCalAbort s
  | .calErase set => Sys2Proof.Machine.execCalErase set s
  | .calSessionTimeout => Sys2Proof.Machine.execCalSessionTimeout s
  | .trainingSetReceive x => Sys2Proof.Machine.execTrainingSetReceive x s
  | .tetherTrainTimeout => Sys2Proof.Machine.execTetherTrainTimeout s
  | .soloRetrain => Sys2Proof.Machine.execSoloRetrain s
  | .digestCompare x => Sys2Proof.Machine.execDigestCompare x s
  | .tetherMark phase site => Sys2Proof.Machine.execTetherMark phase site s
  | .tetherStateTransfer x => Sys2Proof.Machine.execTetherStateTransfer x s
  | .attachWaitExpire => Sys2Proof.Machine.execAttachWaitExpire s
  | .channelWarmingEnd n => Sys2Proof.Machine.execChannelWarmingEnd n s
  | .tetherLost => Sys2Proof.Machine.execTetherLost s
  | .tetherMessageTimeout x => Sys2Proof.Machine.execTetherMessageTimeout x s
  | .tetherControlReceive m => Sys2Proof.Machine.execTetherControlReceive m s
  | .twnSwap => Sys2Proof.Machine.execTwnSwap s
  | .twnDetach => Sys2Proof.Machine.execTwnDetach s
  | .twnAttach => Sys2Proof.Machine.execTwnAttach s
  | .twnTake => Sys2Proof.Machine.execTwnTake s
  | .compareRecordReceive r => Sys2Proof.Machine.execCompareRecordReceive r s
  | .compareEvaluation t => Sys2Proof.Machine.execCompareEvaluation t s
  | .witnessConnected n => Sys2Proof.Machine.execWitnessConnected n s
  | .twinCorrectionApply n => Sys2Proof.Machine.execTwinCorrectionApply n s
  | .adoptedSamplesReceive m n vals => Sys2Proof.Machine.execAdoptedSamplesReceive m n vals s
  | .disputeRearbitrate n => Sys2Proof.Machine.execDisputeRearbitrate n s
  | .digestMismatchTimeout => Sys2Proof.Machine.execDigestMismatchTimeout s
  | .sramParityError bank row data pass => Sys2Proof.Machine.execSramParityError bank row data pass s
  | .vaultWriteReadback x pass => Sys2Proof.Machine.execVaultWriteReadback x pass s
  | .meteringCoreMismatch pass => Sys2Proof.Machine.execMeteringCoreMismatch pass s
  | .pllLockLoss => Sys2Proof.Machine.execPllLockLoss s
  | .pllRelock => Sys2Proof.Machine.execPllRelock s
  | .pllRelockTimeout => Sys2Proof.Machine.execPllRelockTimeout s
  | .recoveryWindowClose => Sys2Proof.Machine.execRecoveryWindowClose s
  | .scrubStep p => Sys2Proof.Machine.execScrubStep p s
  | .checkerSelfTest chk guards first again => Sys2Proof.Machine.execCheckerSelfTest chk guards first again s
  | .faultInject tgt unit => Sys2Proof.Machine.execFaultInject tgt unit s
  | .linkFrameReceive p f => Sys2Proof.Machine.execLinkFrameReceive p f s
  | .linkAckReceive p lseq ack => Sys2Proof.Machine.execLinkAckReceive p lseq ack s
  | .frameAckTimeout p lseq => Sys2Proof.Machine.execFrameAckTimeout p lseq s
  | .idleFrameSend p => Sys2Proof.Machine.execIdleFrameSend p s
  | .linkOut p => Sys2Proof.Machine.execLinkOut p s
  | .portRetrain p => Sys2Proof.Machine.execPortRetrain p s
  | .ringDiscovery present chainUp closure reached ringTime => Sys2Proof.Machine.execRingDiscovery present chainUp closure reached ringTime s
  | .ringBreak a b => Sys2Proof.Machine.execRingBreak a b s
  | .timingMarkOriginate t => Sys2Proof.Machine.execTimingMarkOriginate t s
  | .timingMarkReceive p m => Sys2Proof.Machine.execTimingMarkReceive p m s
  | .linkDelayMeasure p rtt turnaround => Sys2Proof.Machine.execLinkDelayMeasure p rtt turnaround s
  | .memberMarkTimeout sync => Sys2Proof.Machine.execMemberMarkTimeout sync s
  | .headMarksLost => Sys2Proof.Machine.execHeadMarksLost s
  | .joinWaitExpire => Sys2Proof.Machine.execJoinWaitExpire s
  | .caravanSampleSend t runs => Sys2Proof.Machine.execCaravanSampleSend t runs s
  | .cvnMselWrite hold member => Sys2Proof.Machine.execCvnMselWrite hold member s
  | .cvnMselHoldExpire => Sys2Proof.Machine.execCvnMselHoldExpire s
  | .cvnAdjGo => Sys2Proof.Machine.execCvnAdjGo s
  | .siteTimeStep => Sys2Proof.Machine.execSiteTimeStep s
  | .siteHoldover => Sys2Proof.Machine.execSiteHoldover s
  | .beaconPeriodStart t => Sys2Proof.Machine.execBeaconPeriodStart t s
  | .waylineFrameReceive f => Sys2Proof.Machine.execWaylineFrameReceive f s
  | .contentionSend => Sys2Proof.Machine.execContentionSend s
  | .waylineAckTimeout => Sys2Proof.Machine.execWaylineAckTimeout s
  | .discoverySend => Sys2Proof.Machine.execDiscoverySend s
  | .neighbourAgeOut ix => Sys2Proof.Machine.execNeighbourAgeOut ix s
  | .toneMapExpire ix => Sys2Proof.Machine.execToneMapExpire ix s
  | .parentDelayExchange rtt turnaround => Sys2Proof.Machine.execParentDelayExchange rtt turnaround s
  | .parentChange => Sys2Proof.Machine.execParentChange s
  | .wayTxGo pri len dst => Sys2Proof.Machine.execWayTxGo pri len dst s
  | .wayRxNext => Sys2Proof.Machine.execWayRxNext s
  | .wayNselWrite hold index => Sys2Proof.Machine.execWayNselWrite hold index s
  | .wayNselHoldExpire => Sys2Proof.Machine.execWayNselHoldExpire s
  | .packageBegin => Sys2Proof.Machine.execPackageBegin s
  | .packageAppend chunk => Sys2Proof.Machine.execPackageAppend chunk s
  | .packageSubmit => Sys2Proof.Machine.execPackageSubmit s
  | .updateValidateComplete r => Sys2Proof.Machine.execUpdateValidateComplete r s
  | .updateFlashWriteComplete r => Sys2Proof.Machine.execUpdateFlashWriteComplete r s
  | .updateReadbackCheck r same => Sys2Proof.Machine.execUpdateReadbackCheck r same s
  | .updateApplyInstant r t => Sys2Proof.Machine.execUpdateApplyInstant r t s
  | .twinUpdateWaitExpire r => Sys2Proof.Machine.execTwinUpdateWaitExpire r s
  | .firmwareReadyTimeout => Sys2Proof.Machine.execFirmwareReadyTimeout s
  | .updateMirrorComplete r same => Sys2Proof.Machine.execUpdateMirrorComplete r same s
  | .keyMessageSubmit mlen => Sys2Proof.Machine.execKeyMessageSubmit mlen s
  | .keyMessageApplied => Sys2Proof.Machine.execKeyMessageApplied s
  | .privOpen => Sys2Proof.Machine.execPrivOpen s
  | .privDrop => Sys2Proof.Machine.execPrivDrop s
  | .privLockExpire => Sys2Proof.Machine.execPrivLockExpire s
  | .privTimeout => Sys2Proof.Machine.execPrivTimeout s
  | .openKeyWrite erase slot peer => Sys2Proof.Machine.execOpenKeyWrite erase slot peer s
  | .openKeyPromote => Sys2Proof.Machine.execOpenKeyPromote s
  | .passportRequest => Sys2Proof.Machine.execPassportRequest s
  | .porterSupplySwitch main => Sys2Proof.Machine.execPorterSupplySwitch main s
  | .porterBrownOut => Sys2Proof.Machine.execPorterBrownOut s
  | .calendarSecond => Sys2Proof.Machine.execCalendarSecond s
  | .calendarCommit => Sys2Proof.Machine.execCalendarCommit s
  | .crystalCompensation tp => Sys2Proof.Machine.execCrystalCompensation tp s
  | .pclkStopDetect => Sys2Proof.Machine.execPclkStopDetect s
  | .porterShadowCheck bad cal kb => Sys2Proof.Machine.execPorterShadowCheck bad cal kb s
  | .batteryCheck vbat => Sys2Proof.Machine.execBatteryCheck vbat s
  | .porterConfigWrite reg w => Sys2Proof.Machine.execPorterConfigWrite reg w s
  | .porterSourceSample xs => Sys2Proof.Machine.execPorterSourceSample xs s
  | .porterSlotClear mask => Sys2Proof.Machine.execPorterSlotClear mask s
  | .pwronClear => Sys2Proof.Machine.execPwronClear s
  | .pwronTimeout => Sys2Proof.Machine.execPwronTimeout s
  | .ledgerRecordWrite => Sys2Proof.Machine.execLedgerRecordWrite s
  | .rateWindowClose e => Sys2Proof.Machine.execRateWindowClose e s
  | .evtPendClear k mask => Sys2Proof.Machine.execEvtPendClear k mask s
  | .irqReassert line => Sys2Proof.Machine.execIrqReassert line s
  | .ledgerLookup rseq => Sys2Proof.Machine.execLedgerLookup rseq s
  | .ledgerAckWrite ack => Sys2Proof.Machine.execLedgerAckWrite ack s
  | .sarReferenceReady => Sys2Proof.Machine.execSarReferenceReady s
  | .sarTimerTrigger => Sys2Proof.Machine.execSarTimerTrigger s
  | .pwmsyncEdge rising => Sys2Proof.Machine.execPwmsyncEdge rising s
  | .sarDelayExpire => Sys2Proof.Machine.execSarDelayExpire s
  | .sarConversionComplete code eoc => Sys2Proof.Machine.execSarConversionComplete code eoc s
  | .sarInject smp input => Sys2Proof.Machine.execSarInject smp input s
  | .housekeepingDue => Sys2Proof.Machine.execHousekeepingDue s
  | .housekeepingBurstComplete => Sys2Proof.Machine.execHousekeepingBurstComplete s
  | .shuntFactorApply k => Sys2Proof.Machine.execShuntFactorApply k s
  | .vlcdUpdate => Sys2Proof.Machine.execVlcdUpdate s
  | .displayUpdateStart => Sys2Proof.Machine.execDisplayUpdateStart s
  | .displayPhaseEnd => Sys2Proof.Machine.execDisplayPhaseEnd s
  | .displayPumpTimeout => Sys2Proof.Machine.execDisplayPumpTimeout s
  | .dspShow => Sys2Proof.Machine.execDspShow s
  | .dspNext => Sys2Proof.Machine.execDspNext s
  | .pageDwellExpire => Sys2Proof.Machine.execPageDwellExpire s
  | .vholdLow => Sys2Proof.Machine.execVholdLow s
  | .displayPowerUpRefresh => Sys2Proof.Machine.execDisplayPowerUpRefresh s
  | .commaLock p => Sys2Proof.Machine.execCommaLock p s
  | .porterBrownOutRelease => Sys2Proof.Machine.execPorterBrownOutRelease s
  | .siteTimeSlewComplete => Sys2Proof.Machine.execSiteTimeSlewComplete s
  | .passportHoldExpire => Sys2Proof.Machine.execPassportHoldExpire s

end Sys2Proof.Machine
end

