-- ==== Sys2Proof/Safety.lean ====
section
/-! DEFINITION. What counts as a safe run, and the terms the claims use: which fields a change of the state writes, and that the
store of fields keeps its canonical order. -/

namespace Sys2Proof

open Machine

/-- The keys of a sparse map rise strictly: no key stands twice. -/
abbrev Rising {α : Type} (m : SMap α) : Prop := (m.map Prod.fst).Pairwise (· < ·)

/-- The register fields are held once each. -/
abbrev FieldsRising (s : State) : Prop := Rising s.flds

/-- A run of the device that is here is safe so far: every field is held once. -/
def Safe (s : State) : Prop := FieldsRising s

/-- Going from s to t, these elements of fields take these values, and every other element of every field keeps its own. -/
def Writes (l : List (Fld × Nat × Nat)) (s t : State) : Prop :=
  (∀ p ∈ l, t.fld p.1 p.2.1 = p.2.2) ∧
    ∀ f i, (∀ p ∈ l, fkey p.1 p.2.1 ≠ fkey f i) → t.fld f i = s.fld f i

/-- Going from s to t, every field outside these elements keeps its value. -/
def Spares (l : List (Fld × Nat)) (s t : State) : Prop :=
  ∀ f i, (∀ p ∈ l, fkey p.1 p.2 ≠ fkey f i) → t.fld f i = s.fld f i

/-- Going from r to s, the queue of waiting commands is kept, and the stored fields stay in order. -/
def Machine.Keeps (r s : State) : Prop := s.pending = r.pending ∧ (FieldsRising r → FieldsRising s)

/-- The fields that raising an event may change: pending bits, and the ledger's counts of records dropped and raises suppressed
with their flags (R364, R367, R368). -/
def evtFlds : List (Fld × Nat) :=
  [(F.EVT_PEND_PEND, 0), (F.EVT_PEND_PEND, 1), (F.EVT_PEND_PEND, 2), (F.EVT_PEND_PEND, 3), (F.LDG_CNT_DROPPED, 0),
   (F.LDG_ST_DROPL, 0), (F.LDG_CNT_SUPPR, 0), (F.LDG_ST_SUPPL, 0)]

/-- Going from s to t, nothing changed but what one spare of remount does. -/
def OnlySpare (sp : Nat) (s t : State) : Prop :=
  t = { s with rmt := { s.rmt with spares := t.rmt.spares } } ∧ ∀ q, q ≠ sp → getSp t q = getSp s q

/-- Going from s to t, only time, what one spare of remount does and its engine slot, which starts from zero where its TARGET
becomes another channel (R102), have changed. -/
def SpareMoves (sp : Nat) (s t : State) : Prop :=
  t = { s with flds := t.flds, clk := t.clk, flt := { s.flt with holdoff := t.flt.holdoff }
               rmt := { s.rmt with spares := t.rmt.spares, stepNow := t.rmt.stepNow } } ∧
    Spares [(F.FLT_ST_FAST, 144 + sp), (F.FLT_ST_OVC, 144 + sp), (F.FLT_ST_STEP, 144 + sp)] s t ∧
    ∀ q, q ≠ sp → getSp t q = getSp s q

/-- A frame as it leaves a caravan port: over the closure link it carries FLAGS bit 1 (Table 13-1). -/
def onPort (k : Nat) (f : OutFrame) : OutFrame := if k = 2 then { f with flags := f.flags ||| 2 } else f

/-- A new frame waits on a link port, or is in the air under the LSEQ that the port gave it. -/
def Queued (s : State) (port : Nat) (f : OutFrame) : Prop :=
  ∃ g ∈ (getPort s port).wait ++ (getPort s port).air, { g with lseq := none } = f

end Sys2Proof
end

