-- ==== Sys2Proof/Certificates/Slice0/Obligations.lean ====
section
/-! DEFINITION. The statements about the model, for the provers. Each says what its commands do when they take effect, on every
state and operands that meet its hypotheses. -/

open Sys2Proof Sys2Proof.Machine

/-- The model's own rule (log entry 1): commands wait in a queue, and a step runs the one at its front. -/
def Obligations.StepRunsFrontCommand : Prop :=
  ∀ (c : Instr) (rest : List Instr) (s : State), step { s with pending := c :: rest } = exec c { s with pending := rest }

/-- The model's own rule (log entry 2): a step without a command lets one nanosecond pass. Site time takes it with the slew in
progress; frames that wait leave the link ports, and in RUN the sample path moves on. -/
def Obligations.IdleStepCountsTime : Prop :=
  ∀ s : State, s.pending = [] → ∃ t, step s = .next t ∧ t.pending = [] ∧ t.clk.now = s.clk.now + 1 ∧
    t.clk.stopped = s.clk.stopped ∧ t.clk.xsrc = s.clk.xsrc ∧ t.clk.rcTrims = s.clk.rcTrims ∧
    (mainOn s = false → t = { s with clk := { s.clk with now := s.clk.now + 1 } }) ∧
    (mainOn s = true → s.clk.slew = 0 ∨ s.clk.slewT + s.clk.ppm < 1000000 →
      t.clk.site = (s.clk.site + 1) % 2 ^ 64 ∧ t.clk.slew = s.clk.slew) ∧
    (mainOn s = true → 1000000 ≤ s.clk.slewT + s.clk.ppm → s.clk.slewT + s.clk.ppm < 2000000 →
      (0 < s.clk.slew → t.clk.site = (s.clk.site + 2) % 2 ^ 64 ∧ t.clk.slew = s.clk.slew - 1) ∧
      (s.clk.slew < 0 → t.clk.site = s.clk.site % 2 ^ 64 ∧ t.clk.slew = s.clk.slew + 1)) ∧
    (mainOn s = true → running s = false ∨ (∀ n, changePh s n ≠ some .fading) →
      t = { s with clk := t.clk, cvn := { s.cvn with ports := t.cvn.ports } }) ∧
    (running s = false → t.clk.path = s.clk.path)

/-- The queue is the model's own (log entry 1): no command touches the commands that wait behind it. -/
def Obligations.StepKeepsQueueOrder : Prop :=
  (∀ (s t : State) (c : Instr) (rest : List Instr), s.pending = c :: rest → step s = .next t → t.pending = rest) ∧
    ∀ s t : State, s.pending = [] → step s = .next t → t.pending = []

/-- Each element of each register field has one home, and every step keeps it so. -/
def Obligations.StepKeepsFieldsRising : Prop :=
  ∀ s t : State, FieldsRising s → step s = .next t → FieldsRising t

/-- What reset leaves: the reset values of the register map (PRT_SRC[15] has its own), BACKUP, and an empty queue. -/
def Obligations.ResetFieldsAtResetValues : Prop :=
  State.reset.pending = [] ∧ FieldsRising State.reset ∧ State.reset.pwr.mstate = .backup ∧
    (∀ f ∈ allFields, ∀ i, i < 65536 → ((f ≠ F.PRT_SRC_CAP ∧ f ≠ F.PRT_SRC_REC ∧ f ≠ F.PRT_SRC_ALERT) ∨ i ≠ 15) →
      State.reset.fld f i = f.reset) ∧
    State.reset.fld F.PRT_SRC_CAP 15 = 1 ∧ State.reset.fld F.PRT_SRC_REC 15 = 1 ∧ State.reset.fld F.PRT_SRC_ALERT 15 = 1

/-- Every command of the table has an effect in every state, so that no step faults and none is refused. -/
def Obligations.EveryStepCompletes : Prop :=
  (∀ (c : Instr) (s : State), ∃ t, exec c s = .next t) ∧ ∀ s : State, ∃ t, step s = .next t

/-- A read frame (R404): LEN words, status word, CRC; no register changes. -/
def Obligations.ReadFrameReturnsWords : Prop :=
  ∀ (s : State) (hdr : List Byte) (h : Header), mainOn s = true → header hdr = some h → h.op = 0 → h.resv = 0 → 1 ≤ h.len →
    h.len ≤ 256 → h.addr % 4 = 0 →
    ∃ t data st, exec (.hostReadFrame hdr) s = .next t ∧ t = { s with host := t.host } ∧ t.host.lastT = s.clk.now ∧
      t.host.posted = s.host.posted ∧ t.host.dup = s.host.dup ∧
      t.host.resp = some (.words data st (crc16 ((data ++ [st]).flatMap (beBytes 4)))) ∧ data.length = h.len ∧
      data.head? = some ((mget none s.host.capt (h.at_ 0)).getD (viewAddr s (h.at_ 0))) ∧
      ((∀ k < h.len, (regAt (h.at_ k)).isSome = true) → st / 2 ^ 28 = 0)

/-- Polls, lower words and the status word (chapter 21). -/
def Obligations.PollsAndStatusWord : Prop :=
  ((∀ (s : State) (hdr : List Byte) (h : Header), mainOn s = true → header hdr = some h → h.len = 0 → h.resv = 0 →
    ∃ t, exec (.statusPoll hdr) s = .next t ∧ t = { s with host := t.host } ∧ t.host.lastT = s.clk.now ∧
      t.host.dup = s.host.dup ∧ t.host.resp = some (.words [] (statusWord s h 0 0 false)
        (crc16 (beBytes 4 (statusWord s h 0 0 false))))) ∧
  ∀ (s : State) (addr : Nat), mainOn s = true → isLower addr = true →
    ∃ t, exec (.read64LowerWord addr) s = .next t ∧ t = { s with host := t.host } ∧
      mget none t.host.capt (addr + 4) = some (viewAddr s (addr + 4)) ∧ t.host = { s.host with capt := t.host.capt }) ∧
  (∀ (s : State) (h : Header) (result fidx : Nat) (dup : Bool), result < 16 → fidx < 512 → h.tag < 16 →
    let w := statusWord s h result fidx dup
    w / 2 ^ 28 = result ∧ w / 2 ^ 27 % 2 = (if dup then 1 else 0) ∧ w / 2 ^ 26 % 2 = (if privileged s then 1 else 0) ∧
      w / 2 ^ 24 % 4 = mstateCode s ∧ w / 2 ^ 20 % 16 = h.tag ∧ w / 2 ^ 11 % 512 = fidx ∧
      w % 2 ^ 11 = viewReg s R.EVT_STAT 0 % 2 ^ 11)

/-- Words written by the host: executed at once in order, or posted to a stopped domain and executed when it runs; unmapped and
refused words, and words that an ordinary session may not write, change nothing (R9, R25, R405, R409). -/
def Obligations.WriteFrameExecutesWord : Prop :=
  (∀ (s : State) (f : WriteFrame) (h : Header) (w : Word) (r : RegRow) (i : Nat),
    let s1 := { s with host := { s.host with lastT := s.clk.now } }
    mainOn s = true → header f.hdr = some h → h.bad = false → h.op = 1 → h.len = 1 → f.complete = true → f.words = [w] →
    dataCrc [w] = f.dcrc.toNat → isDup h f.dcrc.toNat s1 = none → regAt (h.at_ 0) = some (r, i) →
    accepted r i (h.at_ 0) w.toNat s1 = true → r.rid ≠ R.PWR_CTL.rid → (privileged s = true ∨ allLive r i = false) →
    (domStopped s r.dom = false → mainOn (wordEffect r i (h.at_ 0) w.toNat s1) = true →
      let u := wordEffect r i (h.at_ 0) w.toNat s1
      let st := statusWord u h 0 0 false
      exec (.hostWriteFrame f) s = .next { u with host := { u.host with
        dup := some (dupOf h f.dcrc.toNat st), resp := some (.words [] st (crc16 (beBytes 4 st))) } }) ∧
    (domStopped s r.dom = true → ∃ t, exec (.hostWriteFrame f) s = .next t ∧ t = { s with host := t.host } ∧
      t.host.posted = s.host.posted ++ [(r.dom, h.at_ 0, w.toNat)] ∧ ∃ st crc, t.host.resp = some (.words [] st crc) ∧
        st / 2 ^ 28 = 0)) ∧
  (∀ (s : State) (f : WriteFrame) (h : Header),
    let r := writeWords h f.words 0 { s with host := { s.host with lastT := s.clk.now } }
    mainOn s = true → header f.hdr = some h → h.bad = false → h.op = 1 → 1 ≤ h.len → f.words.length = h.len → f.complete = true →
    dataCrc f.words = f.dcrc.toNat → isDup h f.dcrc.toNat s = none →
    (mainOn r.2 = false → exec (.hostWriteFrame f) s = .next r.2) ∧
    (mainOn r.2 = true → ∃ t st, exec (.hostWriteFrame f) s = .next t ∧ t = { r.2 with host := t.host } ∧
      t.host.dup = some (dupOf h f.dcrc.toNat st) ∧ t.host.resp = some (.words [] st (crc16 (beBytes 4 st))) ∧
      t.host.posted = r.2.host.posted ∧ st / 2 ^ 28 = (r.1.map (·.1)).getD 0 % 16)) ∧
  (∀ (s : State) (h : Header) (w : Word) (ws : List Word) (k : Nat), mainOn s = true →
    let v := writeWord (h.at_ k) w.toNat s
    (writeWords h (w :: ws) k s).2 = (writeWords h ws (k + 1) v.2).2 ∧
    (v.1 = 0 → (writeWords h (w :: ws) k s).1 = (writeWords h ws (k + 1) v.2).1) ∧
    (v.1 ≠ 0 → (writeWords h (w :: ws) k s).1 = some (v.1, k)) ∧ (writeWords h [] k s) = (none, s)) ∧
  (∀ (s : State) (addr w : Nat), regAt addr = none → writeWord addr w s = (2, s)) ∧
  (∀ (s : State) (addr w : Nat) (r : RegRow) (i : Nat), regAt addr = some (r, i) →
    (accepted r i addr w s = false → writeWord addr w s = (3, s)) ∧
    (accepted r i addr w s = true → privileged s = false → allLive r i = true → writeWord addr w s = (0, s)) ∧
    (r.rid = R.PWR_CTL.rid → accepted r i addr w s = true → privileged s = true → writeWord addr w s = (0, pwrCtl w s))) ∧
  (∀ (s : State) (d : Dom), mainOn s = true →
    (domStopped s d = true → exec (.postedWriteTakesEffect d) s = .next s) ∧
    (domStopped s d = false → (∀ p ∈ s.host.posted, p.1 ≠ d) → exec (.postedWriteTakesEffect d) s = .next s)) ∧
  (∀ (s : State) (g : Grp) (t0 : Nat) (xs : List StreamRun), running s = true →
    let u := hbOver (hrmOver (takePosted .hclk s))
    exec (.cyclePhasorsPost g xs) s = .next (phasorsPost g xs u) ∧
    exec (.windowResultsPost g xs) s = .next (windowPost g xs u) ∧
    exec (.highBandBlock xs) s = .next (highBlock xs u) ∧
    exec (.lowBandPeriod t0 xs) s = .next (lowBandPeriod t0 xs u)) ∧
  ∀ (s : State) (d : Dom) (addr w : Nat) (r : RegRow) (i : Nat) (rest : List (Dom × Nat × Nat)), mainOn s = true →
    domStopped s d = false → s.host.posted = (d, addr, w) :: rest → (∀ p ∈ rest, p.1 ≠ d) → regAt addr = some (r, i) →
    exec (.postedWriteTakesEffect d) s = .next (wordEffect r i addr w { s with host := { s.host with posted := rest } })

/-- Frames that execute nothing (R403, R408). -/
def Obligations.DuplicateFrameIsNotExecuted : Prop :=
  ∀ (s : State) (f : WriteFrame), mainOn s = true →
    (header f.hdr = none → ∃ t, exec (.hostWriteFrame f) s = .next t ∧
      t = { s with host := { s.host with resp := some .weak } }) ∧
    ∀ h, header f.hdr = some h →
      (h.bad = true → ∃ t d st crc, exec (.hostWriteFrame f) s = .next t ∧ t = { s with host := t.host } ∧
        t.host.dup = s.host.dup ∧ t.host.posted = s.host.posted ∧ t.host.resp = some (.words d st crc) ∧ st / 2 ^ 28 = 4) ∧
      (h.bad = false → h.op = 1 → 1 ≤ h.len → f.complete = true → f.words.length = h.len → dataCrc f.words ≠ f.dcrc.toNat →
        ∃ t st crc, exec (.hostWriteFrame f) s = .next t ∧ t = { s with host := t.host } ∧ t.host.dup = s.host.dup ∧
          t.host.posted = s.host.posted ∧ t.host.resp = some (.words [] st crc) ∧ st / 2 ^ 28 = 1) ∧
      (∀ d, h.bad = false → h.op = 1 → 1 ≤ h.len → f.complete = true → f.words.length = h.len →
        dataCrc f.words = f.dcrc.toNat → h.tag ≠ 0 → s.host.dup = some d → d = dupOf h f.dcrc.toNat d.status →
        d.status < 2 ^ 32 →
        ∃ t st crc, exec (.hostWriteFrame f) s = .next t ∧ t = { s with host := t.host } ∧ t.host.dup = s.host.dup ∧
          t.host.posted = s.host.posted ∧ t.host.resp = some (.words [] st crc) ∧ st / 2 ^ 28 = d.status / 2 ^ 28 ∧
          st / 2 ^ 27 % 2 = 1)

/-- The access codes of Table 00-2, for registers whose write has no effect of its own. -/
def Obligations.PlainWriteFollowsAccessCode : Prop :=
  ∀ (s : State) (r : RegRow) (i w : Nat), r ∈ regTable → i < r.count →
    (∀ f ∈ fieldsAt r i,
      (f.acc = .ro → (plainWrite r i w s).fld f i = s.fld f i) ∧
      ((f.acc = .rw ∨ f.acc = .wo) → (plainWrite r i w s).fld f i = f.slice w) ∧
      (f.acc = .w1c →
        ∀ b < f.len, ((plainWrite r i w s).fld f i).testBit b = ((s.fld f i).testBit b && !(f.slice w).testBit b)) ∧
      (f.acc = .live → f.cfg = true → (plainWrite r i w s).fld f i = s.fld f i) ∧
      (f.acc = .live → f.cfg = false → (∀ e ∈ computed, e.1.id ≠ f.id) → (plainWrite r i w s).fld f i = f.slice w)) ∧
    ∀ (g : Fld) (j : Nat), (∀ f ∈ fieldsAt r i, fkey f i ≠ fkey g j) → (plainWrite r i w s).fld g j = s.fld g j

/-- A register word shows its fields in place and zeros elsewhere (R8). -/
def Obligations.ReservedBitsReadZero : Prop :=
  ∀ (s : State) (r : RegRow) (i : Nat), r ∈ regTable →
    i < r.count →
    viewReg s r i < 2 ^ 32 ∧ (∀ f ∈ fieldsAt r i, f.slice (viewReg s r i) = viewF s f i) ∧
      ∀ b < 32, (∀ f ∈ fieldsAt r i, ¬ (f.lo ≤ b ∧ b < f.lo + f.len)) → (viewReg s r i).testBit b = false

/-- What raising an event does (R363, R364, R18). -/
def Obligations.RaiseSetsPendingAndRecords : Prop :=
  ∀ (s : State) (e detail : Nat), s.pwr.mstate ≠ .backup → e < 128 →
    raise e detail s = { s with flds := (raise e detail s).flds, ldg := (raise e detail s).ldg } ∧
    Spares evtFlds s (raise e detail s) ∧
    (∀ e' < 128, pendingEvt (raise e detail s) e' = (pendingEvt s e' || (e' == e && routed s.flds e))) ∧
    (s.bit F.EVT_CFG_LDG e = false → (raise e detail s).ldg = s.ldg) ∧
    (s.bit F.EVT_CFG_LDG e = true → s.fld F.EVT_CFG_RLIM e ≠ 0 → s.fld F.EVT_CFG_RWIN e = 0 → s.ctl = .running →
      s.ldg.queue.length < 256 → ∃ r, (raise e detail s).ldg.queue = s.ldg.queue ++ [r] ∧ r.code = e ∧
        r.detail = detail % 65536 ∧ r.stime = s.clk.site ∧ r.sev = s.fld F.EVT_CFG_SEV e ∧ r.queued = false) ∧
    (s.bit F.EVT_CFG_LDG e = true → s.fld F.EVT_CFG_RLIM e ≠ 0 → s.fld F.EVT_CFG_RWIN e = 0 → s.ctl ≠ .running →
      s.ldg.hwq.length < 64 → ∃ r, (raise e detail s).ldg.hwq = s.ldg.hwq ++ [r] ∧ r.code = e ∧
        r.detail = detail % 65536 ∧ r.queued = true ∧ (raise e detail s).ldg.queue = s.ldg.queue)

/-- From power-good to PLL-M lock (Table 22-4). -/
def Obligations.StartUpSequence : Prop :=
  (∀ s : State, s.pwr.mstate = .backup →
    exec .mainPowerGood s = .next { s with pwr := { s.pwr with mstate := .standby, reset := some .power } }) ∧
  (∀ (s : State) (src : RstSrc), s.pwr.reset = some src → s.pwr.mstate ≠ .backup →
    ∃ t, exec .mainResetRelease s = .next t ∧
      t = { s with flds := t.flds, pwr := { s.pwr with reset := none }, way := { s.way with fcntHi := (s.way.fcntHi + 1) % 65536 } } ∧
      Writes [(F.PWR_ST_CAUSE, 0, match src with
          | .power => if s.pwr.session then 2 else 1
          | .nrst => 3
          | .host => 4), (F.PWR_CNT_PUPS, 0, min 65535 (s.fld F.PWR_CNT_PUPS + 1))] s t) ∧
  (∀ (s : State) (wsel : BitVec 4), mainOn s = true → s.pwr.sampled = false →
    ∃ t, exec (.strapSample wsel) s = .next t ∧ t = { s with flds := t.flds, pwr := { s.pwr with sampled := true } } ∧
      Writes [(F.PWR_ST_PAIRSIDE, 0, wsel.toNat % 2), (F.PWR_ST_XBYP, 0, wsel.toNat / 2 % 2),
        (F.PWR_ST_NVMSLOW, 0, wsel.toNat / 4 % 2), (F.PWR_ST_STRAP3, 0, wsel.toNat / 8)] s t) ∧
  (∀ s : State, mainOn s = true → exec .strapPinsDriven s = .next { s with pwr := { s.pwr with wsel := .driven } }) ∧
  ∀ s : State, mainOn s = true → s.pwr.pllLocked = false → dstate s ≠ 2 →
    ∃ t, exec .pllMLocked s = .next t ∧ t = { s with flds := t.flds, pwr := { s.pwr with pllLocked := true } } ∧
      Writes [(F.FLTS_ST_DSTATE, 0, dstate s)] s t

/-- The retention of Table 22-6 over a main reset. -/
def Obligations.MainResetKeepsRetainedState : Prop :=
  ∀ s : State,
    let kept (t : State) : Prop := t.pending = s.pending ∧
      (∀ f ∈ allFields, ∀ i < 65536, t.fld f i = if f.cls = .P ∨ f.cls = .V then s.fld f i else f.reset) ∧
      t.prt = s.prt ∧ t.ldg.pos = s.ldg.pos ∧ t.cal.sets = s.cal.sets ∧ t.sbx.slots = s.sbx.slots ∧
      t.itn.flash = s.itn.flash ∧ t.rmt.stored = s.rmt.stored ∧ (s.pwr.finalCk = false → t.mtr.ring = s.mtr.ring)
    (s.pwr.mstate ≠ .backup →
      ∃ t, exec .mainPowerGoodFalls s = .next t ∧ t.pwr.mstate = .backup ∧ t.pwr.reset = some .power ∧ kept t) ∧
    (mainOn s = true →
      ∃ t, exec .nrstAsserted s = .next t ∧ t.pwr.mstate = .standby ∧ t.pwr.reset = some .nrst ∧ kept t) ∧
    (mainOn s = true → privileged s = true → s.pwr.mstate = .standby →
      ∃ t, exec .pwrRst s = .next t ∧ t.pwr.mstate = .standby ∧ t.pwr.reset = some .host ∧ kept t)

/-- R428. -/
def Obligations.PowerRequestRefused : Prop :=
  ∀ (s : State) (c : Instr), mainOn s = true → privileged s = true →
    (c = .pwrRun ∧ s.pwr.mstate = .run) ∨ (c = .pwrStby ∧ s.pwr.mstate = .standby) →
    ∃ t, exec c s = .next t ∧ t = { s with flds := t.flds } ∧ Writes [(F.PWR_CTL_REJ, 0, 1)] s t

/-- Requests of PWR_CTL (R420) and the entry to RUN. -/
def Obligations.RunAndStandbyRequestsAreCarriedOut : Prop :=
  (∀ s : State, mainOn s = true → privileged s = true → s.pwr.mstate = .standby → runBarred s = false → s.pwr.req = none →
    s.fld F.ITN_ST_LOAD = 2 →
    ∃ t, exec .pwrRun s = .next t ∧ t.pwr.mstate = .run ∧ t.pwr.ran = true ∧ t.pwr.req = none ∧ t.clk.stopped = none) ∧
  (∀ s : State, mainOn s = true → privileged s = true → s.pwr.mstate = .standby → runBarred s = false →
    s.pwr.req = none → s.fld F.ITN_ST_LOAD ≠ 2 →
    ∃ t, exec .pwrRun s = .next t ∧ t = { s with flds := t.flds, pwr := { s.pwr with req := some .run } } ∧
      Writes [(F.PWR_CTL_REJ, 0, 0)] s t) ∧
  (∀ s : State, mainOn s = true → s.pwr.mstate = .standby → s.fld F.ITN_ST_LOAD = 2 → runBarred s = false →
    s.pwr.req = some .run ∨ (s.bit F.PWR_CFG_AUTORUN = true ∧ s.pwr.ran = false) →
    ∃ t, exec .enterRun s = .next t ∧ t.pwr.mstate = .run ∧ t.pwr.ran = true ∧ t.pwr.req = none ∧ t.clk.stopped = none) ∧
  (∀ s : State, mainOn s = true → privileged s = true → s.pwr.mstate = .run → s.pwr.req = none →
    ((List.range 11).any fun r => rst s r == 5) = false → s.sbx.msg = none → paired s = false → s.pwr.finalCk = false →
    ∃ t, exec .pwrStby s = .next t ∧ t.pwr.req = some .stby ∧ t.pwr.finalCk = true ∧ t.pwr.mstate = .run ∧
      t.fld F.PWR_CTL_REJ = 0) ∧
  ∀ s : State, mainOn s = true → privileged s = true → s.pwr.mstate = .run → s.pwr.req = some .stby →
    ∃ t, exec .pwrRst s = .next t ∧ t = { s with flds := t.flds, pwr := { s.pwr with req := some .rst } } ∧
      Writes [(F.PWR_CTL_REJ, 0, 0)] s t

/-- Power-fail, the final checkpoint, and recovery (R415 to R417, R420). -/
def Obligations.PowerFailAndRecovery : Prop :=
  (∀ (s : State) (t0 : Nat) (rs : List (Meter × List ChanRun)), mainOn s = true → s.bit F.PWR_ST_PFAIL = false →
    ∃ t, exec (.powerFailReport ⟨t0, rs⟩) s = .next t ∧ t.bit F.PWR_ST_PFAIL = true ∧ t.bit F.PWR_ST_PFL = true ∧
      t.fld F.PWR_CNT_PFAILS = min 65535 (s.fld F.PWR_CNT_PFAILS + 1) ∧ t.pwr.mstate = s.pwr.mstate ∧
      (running s = true → t.pwr.finalCk = true)) ∧
  (∀ (s : State) (t0 : Nat), running s = true → s.pwr.finalCk = true → s.pwr.recover = false →
    (s.pwr.req = none → ∃ t, exec (.finalCheckpointComplete t0) s = .next t ∧ t.pwr.finalCk = false ∧ t.pwr.mstate = .run ∧
      ((unfenced s s.mtr.nextSeq).isSome = true → t.pwr.session = false)) ∧
    (s.pwr.req = some .stby → ∃ t, exec (.finalCheckpointComplete t0) s = .next t ∧ t.pwr.mstate = .standby ∧
      t.bit F.PWR_ST_STBYL = true ∧ t.pwr.metering = false ∧ t.pwr.req = none)) ∧
  (∀ s : State, mainOn s = true → s.bit F.PWR_ST_PFAIL = true → stillSaving s = true →
    exec .powerFailRecovery s = .next { s with pwr := { s.pwr with recover := true } }) ∧
  ∀ s : State, mainOn s = true → s.bit F.PWR_ST_PFAIL = true → stillSaving s = false →
    ∃ u, exec .powerFailRecovery s = .next (vaultFreed u) ∧ u.bit F.PWR_ST_PFAIL = false ∧ u.bit F.PWR_ST_RECL = true ∧
      u.pwr.session = (s.pwr.session || s.pwr.metering) ∧ u.pwr.recover = false ∧ u.mtr = s.mtr ∧ u.host = s.host

/-- The supervisory controller (R18, R254) and the ledger index (R370). -/
def Obligations.ControllerRestartsAndRuns : Prop :=
  (∀ s : State, ctlOn s = true → (∀ x, s.flts.restartT = some x → x + 60000000000 < s.clk.site) →
    ∃ u, exec .warmRestart s = .next (raise 46 0xFFFF u) ∧ Writes [(F.FLTS_ST_RESTL, 0, 1)] s u ∧
      u = { s with flds := u.flds, ctl := .restarting, flts := { s.flts with lockstep := true } }) ∧
  (∀ (s : State) (x : Nat), ctlOn s = true → s.flts.restartT = some x → s.clk.site ≤ x + 60000000000 →
    ∃ t, exec .warmRestart s = .next t ∧ t.ctl = .halted ∧ t.bit F.FLTS_ST_CTRLHALT = true) ∧
  (∀ s : State, mainOn s = true → s.ctl = .restarting →
    ∃ t, exec .warmRestartComplete s = .next t ∧ t.ctl = .running ∧ t.ldg.hwq = []) ∧
  (∀ (s : State) (corrupt : List (Fin 16)), mainOn s = true → s.ctl = .held → s.fld F.ITN_ST_LOAD = 2 →
    ∃ t, exec (.controllerFirstRun corrupt) s = .next t ∧ t.ctl = .running ∧ t.ldg.hwq = []) ∧
  ∀ (s : State) (bad : List (Fin 2048 × List Word)) (once : List (Fin 2048)), mainOn s = true →
    s.bit F.LDG_ST_READY = false →
    ∃ t, exec (.ledgerIndexBuilt bad once) s = .next t ∧ t.bit F.LDG_ST_READY = true ∧ t.ldg.lastSeq = ldgLast t.ldg.pos

/-- The start-up read of the flash (R311, R312). -/
def Obligations.ItineraryLoads : Prop :=
  (∀ (s : State) (noise : List (Fin 22)), mainOn s = true → s.pwr.mstate = .standby → s.fld F.ITN_ST_LOAD = 0 →
    s.itn.flash.sfdp = none →
    ∃ t, exec (.itineraryRead none noise) s = .next t ∧ t.fld F.ITN_ST_LOAD = 3 ∧ t.ctl = .halted ∧
      (∀ r < 11, t.bit F.ITN_RST_DEF r = true) ∧ t.bit F.ITN_ST_DEFREG = true ∧ t.bit F.FLTS_ST_CTRLHALT = true) ∧
  (∀ (s : State) (board : FlashImage) (noise : List (Fin 22)), mainOn s = true → s.pwr.mstate = .standby →
    s.fld F.ITN_ST_LOAD = 0 → (∃ x, board.sfdp = some x ∧ sfdpOk x = true) → dirOk board.dir1 = true →
    ∃ t, exec (.itineraryRead (some board) noise) s = .next t ∧ t.itn.dir = some board.dir1 ∧ t.itn.flash = board ∧
      t.pwr = s.pwr ∧ ∀ n, t.fld F.MTR_CFG_EN n = s.fld F.MTR_CFG_EN n) ∧
  ∀ (s : State) (fs : List LoadFail), mainOn s = true → s.pwr.mstate = .standby → s.fld F.ITN_ST_LOAD = 1 →
    ∃ t, exec (.itineraryLoaded fs) s = .next t ∧ t.fld F.ITN_ST_LOAD = 2 ∧ t.pwr = s.pwr ∧ t.itn.read = [] ∧
      ∀ (r n : Nat) (ws : List (Nat × Nat)), s.itn.read = [(r, ws)] →
        t.fld F.MTR_CFG_EN n = fget (loadWrites r ws s.flds) F.MTR_CFG_EN n

/-- Pending bits and the interrupt lines (R363, R411). -/
def Obligations.PendingBitsAreCleared : Prop :=
  (∀ (s : State) (k : Fin 4) (mask : Word), mainOn s = true → (∀ j, s.fld F.EVT_PEND_PEND j < 2 ^ 32) →
    ∃ t, exec (.evtPendClear k mask) s = .next t ∧ t = { s with flds := t.flds, evt := t.evt } ∧
      Spares [(F.EVT_PEND_PEND, k.val)] s t ∧
      (∀ e < 128, pendingEvt t e = (pendingEvt s e && !(e / 32 == k.val && mask.toNat.testBit (e % 32)))) ∧
      (t.evt.gap0 = true ↔ s.evt.gap0 = true ∨
        ((∃ e < 128, s.bit F.EVT_CFG_IRQ0 e = true ∧ pendingEvt s e = true ∧ pendingEvt t e = false) ∧
          ∃ e < 128, s.bit F.EVT_CFG_IRQ0 e = true ∧ pendingEvt t e = true)) ∧
      (t.evt.gap1 = true ↔ s.evt.gap1 = true ∨
        ((∃ e < 128, s.bit F.EVT_CFG_IRQ1 e = true ∧ pendingEvt s e = true ∧ pendingEvt t e = false) ∧
          ∃ e < 128, s.bit F.EVT_CFG_IRQ1 e = true ∧ pendingEvt t e = true))) ∧
  ∀ s : State, exec (.irqReassert 0) s = .next { s with evt := { s.evt with gap0 := false } } ∧
    exec (.irqReassert 1) s = .next { s with evt := { s.evt with gap1 := false } }

/-- The ledger (R366 to R372). -/
def Obligations.LedgerWritesLooksUpAndAcknowledges : Prop :=
  (∀ (s : State) (r : LdgRec) (rest : List LdgRec) (p : Nat) (ovw : Bool), ctlOn s = true →
    s.pwr.finalCk = false → s.sbx.msg = none → s.cal.commit = none → s.pwr.recover = false → s.ldg.flush = false →
    250000000 ≤ s.ldg.bucket →
    s.ldg.bucket ≤ 64 * 250000000 → s.ldg.queue = r :: rest → choosePos s r.sev = some (p, ovw) →
    ∃ t x, exec .ledgerRecordWrite s = .next t ∧ t = { s with flds := t.flds, ldg := t.ldg } ∧ t.ldg.queue = rest ∧
      t.ldg.lastSeq = s.ldg.lastSeq + 1 ∧ ldgAt t p = .held x ∧ x.rseq = s.ldg.lastSeq + 1 ∧ x.code = r.code ∧
      x.detail = r.detail ∧ x.sev = r.sev ∧ x.snap = r.snap ∧ (∀ q, q ≠ p → ldgAt t q = ldgAt s q) ∧
      t.ldg.bucket + 250000000 ≤ 64 * 250000000 ∧ s.ldg.bucket ≤ t.ldg.bucket + 250000000 ∧
      (ovw = true → ∃ y, ldgAt s p = .held y ∧ y.sev ≤ r.sev)) ∧
  ((∀ (s : State) (n : Word), mainOn s = true → s.bit F.LDG_ST_READY = true → s.flts.inj ≠ some (4, 0) →
    ∃ t, exec (.ledgerLookup n) s = .next t ∧ t = { s with flds := t.flds } ∧
      Spares ([(F.LDG_SEL_RSEQ, 0), (F.LDG_RINFO_FOUND, 0), (F.LDG_RINFO_BAD, 0), (F.LDG_RINFO_BUSY, 0), (F.LDG_RINFO_POS, 0)]
        ++ (List.range 16).map fun i => (F.LDG_REC_DATA, i)) s t ∧
      t.fld F.LDG_SEL_RSEQ = n.toNat ∧ t.fld F.LDG_RINFO_BUSY = 0 ∧
      (∀ p r, p < 2048 → (heldRecs s.ldg.pos).find? (fun q => q.2.rseq == n.toNat) = some (p, r) →
        t.bit F.LDG_RINFO_FOUND = true ∧ t.bit F.LDG_RINFO_BAD = false ∧ t.fld F.LDG_RINFO_POS = p ∧
          ∀ i < 16, t.fld F.LDG_REC_DATA i = (leToWords 16 (recBytes r)).getD i 0 % 2 ^ 32) ∧
      (findRec s n.toNat = none → t.bit F.LDG_RINFO_FOUND = false ∧ ∀ i < 16, t.fld F.LDG_REC_DATA i = 0)) ∧
  (∀ (s : State) (n : Word), mainOn s = true → privileged s = true →
    ∃ t, exec (.ledgerAckWrite n) s = .next t ∧ t = { s with flds := t.flds } ∧
      Writes [(F.LDG_ACK_ACK, 0, min n.toNat (viewF s F.LDG_LAST_LAST 0))] s t) ∧
  ∀ (s : State) (e : Fin 128) (w : RateWin), mainOn s = true →
    mget RateWin.closed s.ldg.windows e.val = w → w.opened = true →
    ∃ u, mget RateWin.closed u.ldg.windows e.val = RateWin.closed ∧
      u = { s with ldg := { s.ldg with windows := u.ldg.windows } } ∧
      exec (.rateWindowClose e) s = .next (if w.suppressed = 0 then u else
        putRec u (mkSummary u e.val (u.fld F.EVT_CFG_SEV e.val) w.lastDetail w.suppressed w.firstT w.lastT)))

/-- Package delivery (R314, R315). -/
def Obligations.PackagesAreDelivered : Prop :=
  (∀ s : State, ctlOn s = true → s.bit F.ITN_PKCTL_BUSY = false →
    exec .packageBegin s = .next { s with itn := { s.itn with buf := some (s.fld F.ITN_PKLEN_PKLEN, []) } }) ∧
  (∀ (s : State) (n : Fin 2048) (total : Nat) (b : List Nat), ctlOn s = true → s.bit F.ITN_PKCTL_BUSY = false →
    s.itn.buf = some (total, b) → n.val ≤ 1024 →
    ∃ t, exec (.packageAppend n) s = .next t ∧ Writes [(F.ITN_PKCTL_CHUNK, 0, n.val)] s t ∧
      t = { s with flds := t.flds, itn := { s.itn with
        buf := some (total, b ++ (windowBytes s F.ITN_PKWIN_DATA 256).take n.val) } }) ∧
  (∀ (s : State) (total c : Nat) (b : List Nat), ctlOn s = true → s.bit F.ITN_PKCTL_BUSY = false →
    s.itn.buf = some (total, b) → pkCheck s total b = c → c ≠ 0 →
    ∃ u, exec .packageSubmit s = .next (raise 67 (pkRegion b) u) ∧
      u = { s with flds := u.flds, itn := { s.itn with buf := none } } ∧
      Writes [(F.ITN_PKCTL_RESULT, 0, c), (F.ITN_ST_REFL, 0, 1)] s u) ∧
  (∀ (s : State) (total : Nat) (b : List Nat), ctlOn s = true → s.bit F.ITN_PKCTL_BUSY = false →
    s.itn.buf = some (total, b) → pkCheck s total b = 0 → rst s (pkRegion b) = 0 →
    ∃ t, exec .packageSubmit s = .next t ∧ t.itn.buf = none ∧ t.fld F.ITN_PKCTL_RESULT = 0 ∧ rst t (pkRegion b) = 1 ∧
      (getRgn t (pkRegion b)).run = some (pkUpdate b)) ∧
  ∀ (s : State) (c : Instr) (op : Nat), mainOn s = true → ctlOn s = false → s.bit F.ITN_PKCTL_BUSY = false →
    (c = .packageBegin ∧ op = 1) ∨ (c = .packageSubmit ∧ op = 3) →
    ∃ t, exec c s = .next t ∧ t = { s with flds := t.flds, itn := { s.itn with op := some op } } ∧
      Writes [(F.ITN_PKCTL_BUSY, 0, 1)] s t

/-- Itinerary updates (R314 to R320). -/
def Obligations.UpdatesAreStagedAndApplied : Prop :=
  ((∀ (s : State) (r : Fin 11) (u : Update), ctlOn s = true → rst s r = 1 → (getRgn s r).pre = false →
    (getRgn s r).run = some u →
    (updCheck s r u = 0 → s.bit F.ITN_RST_MIRRFAIL r = false →
      ∃ t, exec (.updateValidateComplete r) s = .next t ∧ rst t r = 2 ∧ t.itn.jobs = s.itn.jobs ++ [r.val] ∧
        Spares [(F.ITN_RST_STATE, r.val)] s t) ∧
    (updCheck s r u ≠ 0 → ∃ t, exec (.updateValidateComplete r) s = .next t ∧ t.fld F.ITN_RST_REASON r = updCheck s r u ∧
      t.bit F.ITN_ST_FAILL = true ∧ rst t r = (if (getRgn s r).que.isSome then 1 else 0))) ∧
  (∀ (s : State) (r : Fin 11) (u : Update), jobOf s r = true → rst s r = 2 → (getRgn s r).run = some u →
    s.itn.flash.copies.length = 11 →
    ∃ t, exec (.updateFlashWriteComplete r) s = .next t ∧ t = { s with flds := t.flds, itn := t.itn } ∧
      Writes [(F.ITN_RST_STATE, r.val, 3)] s t ∧ (copiesAt t r).2 = newCopy r u .written ∧
      (copiesAt t r).1 = (copiesAt s r).1 ∧ ∀ q, q ≠ r.val → copiesAt t q = copiesAt s q) ∧
  (∀ (s : State) (r : Fin 11) (u : Update), jobOf s r = true → rst s r = 3 → (getRgn s r).run = some u →
    (∃ t, exec (.updateReadbackCheck r true) s = .next t ∧ rst t r = 4 ∧ t.itn.jobs = s.itn.jobs.tail) ∧
    ((getRgn s r).tries = 0 → ∃ t, exec (.updateReadbackCheck r false) s = .next t ∧ rst t r = 2 ∧
      (getRgn t r).tries = 1 ∧ t.itn.jobs = s.itn.jobs) ∧
    ((getRgn s r).tries ≠ 0 → ∃ t, exec (.updateReadbackCheck r false) s = .next t ∧ t.fld F.ITN_RST_REASON r = 12 ∧
      t.itn.jobs = s.itn.jobs.tail)) ∧
  ∀ (s : State) (r : Fin 11), ctlOn s = true → rst s r = 4 → waitsTwin s r = true → (getRgn s r).alone = false →
    ∃ u, exec (.twinUpdateWaitExpire r) s = .next (raise 71 r u) ∧ u = { s with itn := { s.itn with rgn := u.itn.rgn } } ∧
      (getRgn u r).alone = true ∧ (getRgn u r).run = (getRgn s r).run) ∧
  ((∀ (s : State) (r : Fin 11) (u : Update) (ws : List (Nat × Nat)) (t0 : Nat), ctlOn s = true → rst s r = 4 →
    t0 % 10000000 = 0 → (getRgn s r).run = some u → twinReady s r u = true → r.val ≠ 10 → bodyWrites r u.body = .inr ws →
    (regionRule r (loadWrites r ws (s.put F.ITN_RST_STATE r 5).flds) = false → ∃ t, exec (.updateApplyInstant r t0) s = .next t ∧
      t.fld F.ITN_RST_REASON r = 14 ∧ t.bit F.ITN_ST_FAILL = true) ∧
    (regionRule r (loadWrites r ws (s.put F.ITN_RST_STATE r 5).flds) = true → ∃ t, exec (.updateApplyInstant r t0) s = .next t ∧
      rst t r = 6 ∧ t.itn.jobs = s.itn.jobs ++ [r.val])) ∧
  (∀ (s : State) (u : Update) (t0 : Nat), ctlOn s = true → rst s 10 = 4 → t0 % 10000000 = 0 →
    (getRgn s 10).run = some u → twinReady s 10 u = true →
    ∃ t, exec (.updateApplyInstant 10 t0) s = .next t ∧ t.ctl = .restarting ∧ rst t 10 = 5 ∧ t.bit F.FLTS_ST_RESTL = true ∧
      t.itn = s.itn) ∧
  (∀ s : State, mainOn s = true → s.ctl = .restarting → rst s 10 = 5 →
    ∃ t, exec .firmwareReadyTimeout s = .next t ∧ t.fld F.ITN_RST_REASON 10 = 13 ∧ t.bit F.ITN_ST_FAILL = true ∧
      t.ctl = .restarting ∧ rst t 10 = (if (getRgn s 10).que.isSome then 1 else 0)) ∧
  ∀ (s : State) (r : Fin 11), jobOf s r = true → rst s r = 6 → (getRgn s r).pre = false →
    (∃ t, exec (.updateMirrorComplete r true) s = .next t ∧ t.bit F.ITN_RST_MIRRFAIL r = false ∧
      rst t r = (if (getRgn s r).que.isSome then 1 else 0) ∧ t.itn.jobs = s.itn.jobs.tail) ∧
    ((getRgn s r).tries = 0 → ∃ t, exec (.updateMirrorComplete r false) s = .next t ∧ rst t r = 6 ∧ (getRgn t r).tries = 1))

/-- Transients and permanent faults (R248 to R256). -/
def Obligations.FaultsAreShownAndRetired : Prop :=
  ((∀ (s : State) (cls unit detail : Nat), cls < 16 → unit < 256 → detail < 65536 →
    ∃ u, transient cls unit detail false false s = raise 41 (cls * 256 + unit) u ∧ u = { s with flds := u.flds } ∧
      Writes [(F.FLTS_CNT_TRANS, cls, min 65535 (s.fld F.FLTS_CNT_TRANS cls + 1)), (F.FLTS_LAST_CLASS, 0, cls),
        (F.FLTS_LAST_KIND, 0, 0), (F.FLTS_LAST_INJ, 0, 0), (F.FLTS_LAST_SCRUB, 0, 0), (F.FLTS_LAST_UNIT, 0, unit),
        (F.FLTS_LAST_DETAIL, 0, detail), (F.FLTS_LTIME_LO_LTIME_LO, 0, s.clk.site % 2 ^ 32),
        (F.FLTS_LTIME_HI_LTIME_HI, 0, s.clk.site / 2 ^ 32 % 2 ^ 32), (F.FLTS_ST_TRANSL, 0, 1)] s u) ∧
  (∀ (s : State) (bank : Fin 48) (row : Fin 514) (d : SramData), mainOn s = true → checkOff s 3 bank = false →
    s.flts.inj ≠ some (3, bank.val) → exec (.sramParityError bank row d true) s = .next (transient 3 bank row false false (sramLost d s))) ∧
  (∀ (s : State) (x : VaultRec), mainOn s = true → s.flts.blksFen.contains (vaultBlock x) = false →
    exec (.vaultWriteReadback x true) s = .next (transient 4 0 (vaultBlock x) false false s)) ∧
  (∀ s : State, running s = true → checkOff s 2 0 = false → s.flts.inj ≠ some (2, 0) →
    exec (.meteringCoreMismatch true) s = .next (transient 2 0 0 false false s)) ∧
  ∀ s : State, mainOn s = true → s.bit F.FLTS_ST_PLLHOLD = true → s.flts.pllLost = false →
    ∃ u, exec .pllRelock s = .next (transient 10 0 0 false false u) ∧ Writes [(F.FLTS_ST_PLLHOLD, 0, 0)] s u ∧
      u.flts = { s.flts with pllUntil := s.clk.site + 1000000000 } ∧ u = { s with flds := u.flds, flts := u.flts, mtr := u.mtr }) ∧
  ((∀ (s : State) (bank : Fin 48) (row : Fin 514) (d : SramData), mainOn s = true →
    checkOff s 3 bank = false → s.flts.inj ≠ some (3, bank.val) → (s.flts.rowsMap.filter fun x => x / 514 = bank.val).length < 2 →
    s.flts.wins = [] →
    ∃ t, exec (.sramParityError bank row d false) s = .next t ∧ t.flts.rowsMap = s.flts.rowsMap ++ [514 * bank.val + row.val] ∧
      t.fld F.FLTS_CNT_PERM 3 = min 65535 (s.fld F.FLTS_CNT_PERM 3 + 1) ∧ t.bit F.FLTS_ST_PERML = true ∧
      t.bit F.FLTS_ST_WINDOW = true ∧ t.flts.wins = [⟨3, bank.val, s.clk.site, none⟩]) ∧
  (∀ (s : State) (x : VaultRec), mainOn s = true → s.flts.blksFen.contains (vaultBlock x) = false →
    vaultBlock x < 4096 → s.flts.blksMap.length < 64 → s.flts.wins = [] →
    ∃ t, exec (.vaultWriteReadback x false) s = .next t ∧ t.flts.blksMap = s.flts.blksMap ++ [vaultBlock x] ∧
      t.fld F.FLTS_CNT_PERM 4 = min 65535 (s.fld F.FLTS_CNT_PERM 4 + 1) ∧ t.bit F.FLTS_ST_PERML = true ∧
      t.bit F.FLTS_ST_WINDOW = true ∧ t.flts.wins = [⟨4, 0, s.clk.site, none⟩]) ∧
  (∀ s : State, running s = true → checkOff s 2 0 = false → s.flts.inj ≠ some (2, 0) →
    ∃ t, exec (.meteringCoreMismatch false) s = .next t ∧ t.fld F.FLTS_ST_DSTATE = 2 ∧ t.flts.failed = true ∧
      t.fld F.FLTS_CNT_PERM 2 = min 65535 (s.fld F.FLTS_CNT_PERM 2 + 1)) ∧
  (∀ s : State, mainOn s = true → s.bit F.FLTS_ST_PLLHOLD = true → s.flts.pllLost = false →
    ∃ t, exec .pllRelockTimeout s = .next t ∧ t.fld F.FLTS_ST_DSTATE = 2 ∧ t.flts.failed = true ∧ t.flts.pllLost = true ∧
      t.bit F.FLTS_ST_PLLHOLD = true ∧ t.fld F.FLTS_CNT_PERM 10 = min 65535 (s.fld F.FLTS_CNT_PERM 10 + 1)) ∧
  ∀ s : State, mainOn s = true → s.pwr.pllLocked = true → s.bit F.FLTS_ST_PLLHOLD = false →
    ∃ u, exec .pllLockLoss s = .next (raise 45 0xFFFF u) ∧
      u = { s with flds := u.flds, mtr := { s.mtr with rose := u.mtr.rose } } ∧
      Writes [(F.FLTS_ST_PLLHOLD, 0, 1), (F.FLTS_ST_CLKL, 0, 1)] s u)

/-- Recovery windows, scrubbing, self-tests and injection (R256, R258, R259). -/
def Obligations.WindowsScrubsAndInjection : Prop :=
  (∀ (s : State) (f : FaultRec), mainOn s = true → s.flts.wins = [f] →
    ∃ t, exec .recoveryWindowClose s = .next t ∧ t = { s with flds := t.flds, flts := t.flts } ∧ t.flts.wins = [] ∧
      Writes [(F.FLTS_ST_WINDOW, 0, 0), (F.FLTS_WIN_CLASS1, 0, 0), (F.FLTS_WIN_UNIT1, 0, 0)] s t) ∧
  (∀ (s : State) (bank : Fin 48) (row : Fin 514) (d : SramData), mainOn s = true →
    s.flts.inj ≠ some (3, bank.val) →
    ∃ t, exec (.scrubStep (.sram bank row d none true)) s = .next t ∧ t = { s with flds := t.flds } ∧
      Writes [(F.FLTS_SCRUB_SRAMPASS, 0, min F.FLTS_SCRUB_SRAMPASS.top (s.fld F.FLTS_SCRUB_SRAMPASS + 1))] s t) ∧
  (∀ s : State, mainOn s = true →
    ∃ u d, exec (.scrubStep (.rom false)) s = .next (raise 47 d u) ∧ u = { s with flds := u.flds } ∧
      Writes [(F.FLTS_ST_LATL, 0, 1)] s u) ∧
  (∀ (s : State) (chk : Fin 256) (g : Fin 16), mainOn s = true →
    s.flts.chkLost.contains (256 * g.val + chk.val) = false →
    exec (.checkerSelfTest chk g true true) s = .next s ∧
    exec (.checkerSelfTest chk g false true) s = .next (transient 13 chk 0 false true s) ∧
    ∃ t, exec (.checkerSelfTest chk g false false) s = .next t ∧ t.bit F.FLTS_ST_CHKLOST = true ∧
      t.flts.chkLost = s.flts.chkLost ++ [256 * g.val + chk.val]) ∧
  ∀ (s : State) (tgt : Fin 16) (unit : Fin 256), mainOn s = true → privileged s = true →
    (s.flts.inj = none → injectOk s tgt unit = true →
      ∃ t, exec (.faultInject tgt unit) s = .next t ∧
        t = { s with flds := t.flds, flts := { s.flts with inj := some (tgt.val, unit.val) } } ∧
        Writes [(F.FLTS_INJ_TGT, 0, tgt.val), (F.FLTS_INJ_UNIT, 0, unit.val), (F.FLTS_INJ_GO, 0, 1), (F.FLTS_INJ_REJ, 0, 0)] s t) ∧
    (s.flts.inj ≠ none ∨ injectOk s tgt unit = false →
      ∃ t, exec (.faultInject tgt unit) s = .next t ∧ t = { s with flds := t.flds } ∧
        Writes [(F.FLTS_INJ_TGT, 0, tgt.val), (F.FLTS_INJ_UNIT, 0, unit.val), (F.FLTS_INJ_REJ, 0, 1)] s t)

/-- The register display (R386 to R397). -/
def Obligations.DisplayIsDriven : Prop :=
  (∀ s : State, dspOn s = true → bistable s = false → s.fld F.DSP_ST_VLCD < 4096 →
    2400 ≤ vlcdTarget s ∧ vlcdTarget s ≤ 3300 ∧
    ∃ t, exec .vlcdUpdate s = .next t ∧ t = { s with flds := t.flds } ∧ Spares [(F.DSP_ST_VLCD, 0)] s t ∧
      (s.bit F.CAL_ST_TBAD = true → t = s) ∧
      (s.bit F.CAL_ST_TBAD = false → s.fld F.DSP_ST_VLCD ≠ 0 →
        t.fld F.DSP_ST_VLCD ≤ s.fld F.DSP_ST_VLCD + 10 ∧ s.fld F.DSP_ST_VLCD ≤ t.fld F.DSP_ST_VLCD + 10 ∧
        (s.fld F.DSP_ST_VLCD ≤ vlcdTarget s + 10 → vlcdTarget s ≤ s.fld F.DSP_ST_VLCD + 10 →
          (t.fld F.DSP_ST_VLCD : Int) = vlcdTarget s) ∧
        ((s.fld F.DSP_ST_VLCD : Int) ≤ vlcdTarget s → s.fld F.DSP_ST_VLCD ≤ t.fld F.DSP_ST_VLCD ∧
          (t.fld F.DSP_ST_VLCD : Int) ≤ vlcdTarget s) ∧
        (vlcdTarget s ≤ s.fld F.DSP_ST_VLCD → t.fld F.DSP_ST_VLCD ≤ s.fld F.DSP_ST_VLCD ∧
          vlcdTarget s ≤ t.fld F.DSP_ST_VLCD))) ∧
  ((∀ s : State, privileged s = true → ctlOn s = true → dspOn s = true → s.bit F.DSP_CFG_SRC = true →
    (bistable s = false → exec .dspShow s = .next { s with dsp := { s.dsp with img := imageOf s F.DSP_IMG_IMG } }) ∧
    (bistable s = true → ∃ t, exec .dspShow s = .next t ∧ Writes [(F.DSP_ST_QUEUED, 0, 1)] s t ∧
      t = { s with flds := t.flds, dsp := { s.dsp with queued := some (imageOf s F.DSP_IMG_IMG &&& segMask s) } })) ∧
  ∀ (s : State) (p : Nat), ctlOn s = true → dspOn s = true → s.bit F.DSP_CFG_SRC = false →
    pageAfter s (s.fld F.DSP_ST_PAGE) = some p →
    ∃ t v, (privileged s = true → exec .dspNext s = .next t) ∧
      (s.fld F.DSP_PAGE_DWELL (s.fld F.DSP_ST_PAGE) ≠ 0 → exec .pageDwellExpire s = .next t) ∧
      (s.fld F.DSP_PAGE_DWELL (s.fld F.DSP_ST_PAGE) = 0 → exec .pageDwellExpire s = .next s) ∧
      v = pageImage s p ∧ p < 16 ∧ t.fld F.DSP_ST_PAGE = p ∧ Spares [(F.DSP_ST_PAGE, 0), (F.DSP_ST_QUEUED, 0)] s t ∧
      (bistable s = false → t = { s with flds := t.flds, dsp := { s.dsp with img := v } }) ∧
      (bistable s = true → t = { s with flds := t.flds, dsp := { s.dsp with queued := some (v &&& segMask s) } } ∧
        t.bit F.DSP_ST_QUEUED = true)) ∧
  ((∀ (s : State) (v : Nat), dspOn s = true → bistable s = true → s.dsp.queued = some v → s.dsp.upd = none →
    s.dsp.fresh = true → s.dsp.start = none →
    ∃ t u, exec .displayUpdateStart s = .next t ∧ t.dsp.upd = some u ∧ u.target = v ∧ u.driven = v ^^^ s.dsp.img ∧
      u.phase = (if s.fld F.DSP_ETIME_TPRE (dspBand s) = 0 then .drive else .pre) ∧ t.dsp.queued = none ∧
      t.dsp.inprog = true ∧ t.dsp.ncom = true ∧ t.dsp.img = s.dsp.img ∧
      (∀ k < 6, t.fld F.DSP_SHD_SHD k = v / 2 ^ (32 * k) % 2 ^ 32) ∧ t.bit F.DSP_ST_QUEUED = false ∧
      t = { s with flds := t.flds, dsp := t.dsp }) ∧
  (∀ (s : State) (u : DspUpd), s.dsp.upd = some u → s.dsp.hold = false →
    (u.phase = .pre → ∃ t, exec .displayPhaseEnd s = .next t ∧ t.dsp = { s.dsp with upd := some { u with phase := .drive } } ∧
      Spares [(F.DSP_ST_STATE, 0)] s t) ∧
    (u.phase = .drive → ∃ t, exec .displayPhaseEnd s = .next t ∧ t.dsp.upd = some { u with phase := .common } ∧
      t.dsp.inprog = false ∧ (∀ b < 192, t.dsp.img.testBit b = if u.driven.testBit b then u.target.testBit b else s.dsp.img.testBit b) ∧
      Spares [(F.DSP_ST_STATE, 0)] s t) ∧
    (u.phase = .common → ∃ t, exec .displayPhaseEnd s = .next t ∧ t.dsp = { s.dsp with upd := none })) ∧
  (∀ (s : State) (u : DspUpd), s.dsp.upd = some u →
    (dspOn s = true → bistable s = true → ∃ w, exec .displayPumpTimeout s = .next (raise 105 0xFFFF w) ∧
      w.dsp = { s.dsp with upd := none, ncom := false, img := w.dsp.img } ∧ w.bit F.DSP_ST_PUMPOK = false ∧
      ∀ b < 192, u.driven.testBit b = false → w.dsp.img.testBit b = s.dsp.img.testBit b) ∧
    (s.dsp.hold = true → ∃ t, exec .vholdLow s = .next t ∧
      t.dsp = { s.dsp with upd := none, ncom := false, img := t.dsp.img } ∧
      (∀ b < 192, u.driven.testBit b = false → t.dsp.img.testBit b = s.dsp.img.testBit b) ∧ t.bit F.DSP_ST_PUMPOK = false ∧ t = { s with flds := t.flds, dsp := t.dsp })) ∧
  ∀ s : State, dspOn s = true → bistable s = true → s.dsp.upd = none → s.dsp.fresh = false →
    ∃ t u, exec .displayPowerUpRefresh s = .next t ∧ t.dsp.upd = some u ∧ u.target = imageOf s F.DSP_SHD_SHD ∧
      u.driven = segMask s ∧ u.why = .powerUp ∧ t.dsp.inprog = true)

/-- Meters (R118 to R135). -/
def Obligations.MeterIntervalsHoldsAndSettings : Prop :=
  ((∀ (s : State) (m : Fin 48) (iv : Interval) (c : MtrCfg), running s = true → s.pwr.metering = true → s.pwr.finalCk = false →
    mtrCfg s m = some c → mget none s.mtr.held m = none →
    (startsAt s m c iv.startT = false → exec (.intervalEnd m iv) s = .next s) ∧
    (startsAt s m c iv.startT = true → (cfgStreams c).any (adopting s) = true →
      ∃ t h, exec (.intervalEnd m iv) s = .next t ∧ mget none t.mtr.held m = some h ∧ h.cfg = c ∧ h.iv = iv ∧ h.got = [] ∧
        (∀ n, n ∈ h.adopted ↔ n ∈ cfgStreams c ∧ adopting s n = true) ∧ t.mtr.due = s.mtr.due ∧
        t.mtr.acc = s.mtr.acc ∧ t.ldg = s.ldg ∧ t.pls = s.pls) ∧
    (startsAt s m c iv.startT = true → (cfgStreams c).any (adopting s) = false →
      let miss := mget [] s.mtr.miss m
      let u := storeRuns m c iv.endT miss iv.runs (lendSamples c iv (notePeaks iv (reachTime iv.endT
        { s with mtr := { s.mtr with lastIv := mput 0 s.mtr.lastIv m (iv.endT + 1) } })))
      ∃ t p, exec (.intervalEnd m iv) s = .next t ∧ mget [] t.mtr.due m = mget [] s.mtr.due m ++ [p] ∧ p.startT = iv.startT ∧
        p.endT = iv.endT ∧ p.cfg = c ∧ p.inc = (computePost u m c iv miss).1.inc ∧ mget [] t.mtr.miss m = [] ∧
        t.mtr.acc = s.mtr.acc ∧ t.mtr.deficit = s.mtr.deficit ∧ t.ldg = s.ldg ∧ t.pls = s.pls)) ∧
  (∀ (s : State) (m : Fin 48) (p : MtrPost) (r : List MtrPost), running s = true → mget [] s.mtr.due m = p :: r →
    takesTwins s p.cfg p.startT p.endT = true → twinItem s m p.endT = none →
    ∃ t, exec (.intervalPosting m) s = .next t ∧ mget [] t.mtr.due m = r ∧ t.mtr.wait = s.mtr.wait ++ [(m.val, p)] ∧
      t.mtr.acc = s.mtr.acc ∧ t.mtr.deficit = s.mtr.deficit ∧ t.pls = s.pls ∧ ∀ a, t.fld F.ACC_QUAL_QNOW a = s.fld F.ACC_QUAL_QNOW a) ∧
  (∀ (s : State) (m : Fin 48) (p : MtrPost) (r : List MtrPost) (inc : List (List Nat)),
    running s = true → mget [] s.mtr.due m = p :: r →
    (takesTwins s p.cfg p.startT p.endT = false ∧ inc = p.inc ∨
      takesTwins s p.cfg p.startT p.endT = true ∧ (twinItem s m p.endT).map itemSets = some inc) →
    ∃ t, exec (.intervalPosting m) s = .next t ∧ mget [] t.mtr.due m = r ∧ t.bit F.MTR_ST_ACTIVE m = (mtrCfg s m).isSome ∧
      t.mtr.wait = s.mtr.wait ∧
      (∀ j < 64, let a := 64 * m.val + j
        let total := incAt inc j + mget 0 s.mtr.plus a
        let d := mget 0 s.mtr.deficit a
        mget 0 t.mtr.acc a = (mget 0 s.mtr.acc a + (total - min d total)) % 2 ^ 96 ∧
          mget 0 t.mtr.deficit a = d - min d total ∧ mget 0 t.mtr.plus a = 0) ∧
      ∀ a, a / 64 ≠ m.val → mget 0 t.mtr.acc a = mget 0 s.mtr.acc a ∧ mget 0 t.mtr.deficit a = mget 0 s.mtr.deficit a) ∧
  (∀ (s : State) (m : Fin 48), mget [] s.mtr.due m = [] → exec (.intervalPosting m) s = .next s) ∧
  ∀ (s : State) (m : Fin 48) (miss : List MissedSample), running s = true → mget none s.mtr.held m = none →
    (mtrCfg s m = none → exec (.remoteSampleDeadline m miss) s = .next s) ∧
    ((mtrCfg s m).isSome = true → miss ≠ [] →
      ∃ u, exec (.remoteSampleDeadline m miss) s = .next (raiseIf (!s.bit F.MTR_ST_RLOSS m) 7 m u) ∧
        Writes [(F.MTR_ST_RLOSS, m.val, 1), (F.MTR_ST_RLOSSL, m.val, 1)] s u ∧
        mget [] u.mtr.miss m = mget [] s.mtr.miss m ++ miss ∧
        u = { s with flds := u.flds, mtr := { s.mtr with miss := u.mtr.miss } })) ∧
  ((∀ (s : State) (m : Fin 64), mainOn s = true → running s = true → heldMeter s m = none →
    ∃ t, exec (.mtrHoldWrite true m) s = .next t ∧
      t = { s with flds := t.flds, mtr := { s.mtr with hold := t.mtr.hold } } ∧
      t.mtr.hold = (if m.val < 48 then
        some ⟨m.val, resOf s m, (List.range 64).map fun j => viewAcc s (64 * m.val + j)⟩ else none) ∧
      Writes [(F.MTR_HOLD_HOLD, 0, if m.val < 48 then 1 else 0), (F.MTR_HOLD_EXP, 0, 0), (F.MTR_HOLD_METER, 0, m.val)] s t) ∧
  (∀ (s : State) (m : Fin 64), mainOn s = true → running s = true →
    ∃ t, exec (.mtrHoldWrite false m) s = .next t ∧ t = { s with flds := t.flds, mtr := { s.mtr with hold := none } } ∧
      Writes [(F.MTR_HOLD_HOLD, 0, 0), (F.MTR_HOLD_EXP, 0, 0), (F.MTR_HOLD_METER, 0, m.val)] s t) ∧
  (∀ s : State, s.mtr.hold.isSome = true →
    ∃ t, exec .mtrHoldExpire s = .next t ∧ t = { s with flds := t.flds, mtr := { s.mtr with hold := none } } ∧
      Writes [(F.MTR_HOLD_HOLD, 0, 0), (F.MTR_HOLD_EXP, 0, 1)] s t) ∧
  (∀ (s : State) (a : Fin 3072), mainOn s = true → running s = true → s.fld F.ACC_QUAL_QNOW a < 4 →
    ∃ t, exec (.accQclr a) s = .next t ∧ t = { s with flds := t.flds } ∧
      Writes [(F.ACC_QUAL_QWORST, a.val, s.fld F.ACC_QUAL_QNOW a)] s t) ∧
  (∀ (s : State) (hold : Bool) (m : Fin 64) (a : Fin 3072), mainOn s = true → running s = false →
    (∃ t, exec (.mtrHoldWrite hold m) s = .next t ∧ t = { s with host := { s.host with posted := t.host.posted } } ∧
      t.host.posted = s.host.posted ++ [(.aclk, 0x046000, F.MTR_HOLD_HOLD.word hold.toNat + F.MTR_HOLD_METER.word m)]) ∧
    ∃ t, exec (.accQclr a) s = .next t ∧ t = { s with host := { s.host with posted := t.host.posted } } ∧
      t.host.posted = s.host.posted ++ [(.aclk, 0x060008 + 0x10 * a.val, F.ACC_QUAL_QCLR.word 1)]) ∧
  (∀ (s : State) (m : Fin 48), running s = true →
    (meterAtBoundary s m = false ∨ meterTrimDue s m = true → exec (.metersApply m) s = .next s) ∧
    (meterAtBoundary s m = true → meterTrimDue s m = false → mget [] s.mtr.due m = [] →
      (s.bit F.MTR_CFG_EN m = true →
        ∃ t, exec (.metersApply m) s = .next t ∧ mtrCfg t m = some (mtrRegs s.flds m) ∧ t.mtr.acc = s.mtr.acc ∧
          (∀ c < 32, t.fld F.MTR_RES_RES (32 * m.val + c) =
            if usesRes (mtrRegs s.flds m).type c then s.fld F.MTR_RES_RES (32 * m.val + c) else 0) ∧
          Spares ((List.range 32).map fun c => (F.MTR_RES_RES, 32 * m.val + c)) s t ∧
          mget 0 t.mtr.lastIv m = (if (mtrCfg s m).isSome then mget 0 s.mtr.lastIv m else 0) ∧
          t = { s with flds := t.flds, mtr := { s.mtr with cfg := t.mtr.cfg, lastIv := t.mtr.lastIv } }) ∧
      (s.bit F.MTR_CFG_EN m = false →
        ∃ t, exec (.metersApply m) s = .next t ∧ mtrCfg t m = none ∧ Writes [(F.MTR_ST_ACTIVE, m.val, 0)] s t ∧
          t = { s with flds := t.flds, mtr := { s.mtr with cfg := t.mtr.cfg } }))) ∧
  (∀ (s : State) (m : Fin 48) (c : MtrCfg), running s = true → mtrCfg s m = some c →
    (meterBoundary s c = false ∨ (cfgStreams c).any (trimDue s) = true → exec (.paceChangeApply m) s = .next s) ∧
    (meterBoundary s c = true → (cfgStreams c).any (trimDue s) = false →
      ∃ t, exec (.paceChangeApply m) s = .next t ∧ mtrCfg t m = some { c with pace := s.fld F.MTR_CFG_PACE m } ∧
        t = { s with mtr := { s.mtr with cfg := t.mtr.cfg } })) ∧
  ∀ (s : State) (t0 q : Nat), running s = true → s.pwr.metering = true → s.pwr.finalCk = false → s.cvn.cfg.en = false →
    unfenced s s.mtr.nextSeq = some q →
    ∃ t k, exec (.periodicCheckpoint t0) s = .next t ∧ mget CkPos.empty t.mtr.ring (q % 64) = .held k ∧ k.seq = q % 2 ^ 32 ∧
      k.keys = regKeys s.flds ∧ k.vals = (k.keys.map fun x => if x = 0xFFFF then 0 else viewAcc s (keyAcc x)) ∧
      t.mtr.nextSeq = q + 1 ∧ t = { s with clk := t.clk, mtr := { s.mtr with ring := t.mtr.ring, nextSeq := t.mtr.nextSeq } })

/-- One tick of the outputs, and the end of a pulse (R143, R144, R147, R148). -/
def Obligations.PulsesStartAndEnd : Prop :=
  (∀ (s : State) (net : BitVec 16), running s = true →
    ∃ t, exec (.pulseTick net) s = .next t ∧ t.pls.role = s.pls.role ∧
      ∀ c < 16, getOut t c = outTick (drives s) (net.getLsbD c) (getOut s c) ∧ t.bit F.PLS_ST_LOW c = net.getLsbD c) ∧
  (∀ (role low : Bool) (o : PlsOut), o.share ≤ o.left →
    let o' := outTick role low o
    let more := match o.fresh with
      | some p => p.1
      | none => 0
    (o'.busy = some 0 ↔ (o.live = true ∧ o.unit ≤ (takeShare o).res ∧ o.busy = none ∧ low = false ∧ o.width ≤ o.high + 1) ∨
      (o.live = true ∧ o.unit ≤ (takeShare o).res ∧ o.busy = none ∧ low = true ∧ o.width = 0)) ∧
    ((∀ p, o.fresh = some p → p.2 ≠ 0) →
      o'.res + o'.left = o.res + o.left + more - (if o'.busy = some 0 then o.unit else 0)) ∧ o'.fresh = none ∧
    (o'.busy = some 0 → o'.driving = role)) ∧
  (∀ (s : State) (c : Fin 16) (k : Nat), (getOut s c).busy = some k →
    ((getOut s c).pw ≤ k →
      ∃ t, exec (.pulseEnd c) s = .next t ∧ t = { s with pls := { s.pls with outs := t.pls.outs } } ∧
        getOut t c = { getOut s c with busy := none, driving := false } ∧ ∀ d, d ≠ c.val → getOut t d = getOut s d) ∧
    (k < (getOut s c).pw → exec (.pulseEnd c) s = .next s)) ∧
  ∀ (s : State) (c : Fin 16),
    (96 ≤ (getOut s c).agree →
      ∃ t, exec (.pinerrClear c) s = .next t ∧ t = { s with flds := t.flds } ∧ Writes [(F.PLS_ST_PINERR, c.val, 0)] s t) ∧
    ((getOut s c).agree < 96 → exec (.pinerrClear c) s = .next s)

/-- R142, R154. -/
def Obligations.DisabledOutputIsReleased : Prop :=
  (∀ (s : State) (c : Fin 16), running s = true → plsIdle s c = true ∨ meterAtBoundary s (pulseMeter s c) = true →
    (s.bit F.PLS_CFG_EN c = false ∨ s.fld F.PLS_CONST_PCONST c = 0) →
    ∃ t, exec (.pulsesApply c) s = .next t ∧ (getOut t c).live = false ∧ (getOut t c).res = 0 ∧ (getOut t c).left = 0 ∧
      (getOut t c).ticks = 0 ∧ (getOut t c).fresh = none ∧ (getOut t c).busy = none ∧ (getOut t c).driving = false ∧
      ∀ d, d ≠ c.val → getOut t d = getOut s d) ∧
  ∀ (role low : Bool) (o : PlsOut), o.live = false → o.res = 0 → o.ticks = 0 → o.left = 0 → o.fresh = none → o.busy = none →
    o.driving = false →
    (outTick role low o).res = 0 ∧ (outTick role low o).left = 0 ∧ (outTick role low o).ticks = 0 ∧
      (outTick role low o).busy = none ∧ (outTick role low o).driving = false ∧ (outTick role low o).live = false

/-- Exchange instants, role changes and PULSES updates (R149, R151, R154). -/
def Obligations.ExchangeAndRoleChange : Prop :=
  (∀ (s : State) (t0 : Nat) (rs : List ChanRun), running s = true → s.pwr.metering = true →
    s.fld F.TWN_ST_STATE ≠ 6 → transferReady s = false → sendsSamples s = false → s.pwr.req = none →
    ∃ t, exec (.exchangeInstant t0 rs) s = .next t ∧ t = { s with clk := t.clk, pls := { s.pls with outs := t.pls.outs } } ∧
      ∀ c < 16, getOut t c = { getOut s c with
        exRes := (getOut s c).res, exCnt := s.fld F.PLS_CNT_CNT c, exNet := (getOut s c).net
        prev := if s.fld F.TWN_ST_ROLE = 1 then some (s.fld F.PLS_CNT_CNT c, (getOut s c).net) else (getOut s c).prev }) ∧
  (∀ s : State, s.fld F.TWN_ST_STATE = 6 → s.twn.swapReq = true →
    ∃ u, exec .orderlyRoleChange s = .next (raise 37 0xFFFF u) ∧ u.twn.lead = !s.twn.lead ∧ u.twn.swapReq = false ∧
        u.pls = { s.pls with role := !s.twn.lead } ∧ u.fld F.TWN_ST_ROLE = (if s.twn.lead then 2 else 1) ∧
        u.bit F.TWN_ST_ROLEL = true ∧ u.bit F.TWN_ST_PHLOCK = true) ∧
  (∀ (s : State) (c : Fin 16), plsIdle s c = false → meterAtBoundary s (pulseMeter s c) = false →
    exec (.pulsesApply c) s = .next s) ∧
  ∀ (s : State) (c : Fin 16), running s = true → s.bit F.PLS_CFG_EN c = true →
    s.fld F.PLS_CONST_PCONST c ≠ 0 → meterAtBoundary s (pulseMeter s c) = true →
    ∃ t, exec (.pulsesApply c) s = .next t ∧ (getOut t c).en = true ∧ (getOut t c).src = s.fld F.PLS_CFG_SRC c ∧
      (getOut t c).width = s.fld F.PLS_CFG_WIDTH c ∧ (getOut t c).pconst = s.fld F.PLS_CONST_PCONST c ∧
      (getOut t c).busy = (getOut s c).busy ∧ (getOut t c).pw = (getOut s c).pw ∧
      (getOut t c).res = if s.fld F.PLS_CFG_SRC c = (getOut s c).src then (getOut s c).res else 0

/-- The tracker of a grid group (R159 to R162). -/
def Obligations.TrackerStampsAndLocks : Prop :=
  (∀ (s : State) (g : Fin 4) (t0 : Nat) (rms e nco : Rat) (meas : Option Rat),
    running s = true → trkState s g ≠ 0 →
    (boundaryDue s g t0 = false → exec (.cycleBoundary g t0 rms e nco meas) s = .next s) ∧
    (boundaryDue s g t0 = true → ∃ t, exec (.cycleBoundary g t0 rms e nco meas) s = .next t ∧
      t.fld F.GRD_TB_LO_TB_LO g = t0 % 2 ^ 32 ∧ t.fld F.GRD_TB_HI_TB_HI g = t0 / 2 ^ 32 % 2 ^ 32 ∧
      t.fld F.GRD_ST_CSEQ g = (s.fld F.GRD_ST_CSEQ g + 1) % 2 ^ 16 ∧ (getTrk t g).lastT = t0 ∧
      (trkState t g = 3 → t.fld F.GRD_FREQ_FREQ g =
        (nearest (hzOf (t0 - (getTrk s g).lastT) * 1000000)).toNat % 2 ^ 32) ∧
      (trkState s g = 2 → (getTrk s g).aligned = true → (getTrk s g).small = 2 → rabs e ≤ 1 →
        atLeast s g (s.fld F.GRD_LIM_ULOCK g) rms = true → trkState t g = 3))) ∧
  (∀ (s : State) (g : Fin 4) (t0 : Nat) (rms f : Rat), running s = true →
    trkState s g = 2 → (getTrk s g).aligned = false →
    (outsideBand ((getTrk s g).acqFreq f) = true → exec (.aligningBoundary g t0 rms f) s = .next (toSeek g (reachTime t0 s))) ∧
    (outsideBand ((getTrk s g).acqFreq f) = false →
      ((getTrk s g).alignDue ((getTrk s g).acqFreq f) t0 = false → exec (.aligningBoundary g t0 rms f) s = .next s) ∧
      ((getTrk s g).alignDue ((getTrk s g).acqFreq f) t0 = true → atLeast s g (s.fld F.GRD_LIM_ULOCK g) rms = true →
        ∃ t, exec (.aligningBoundary g t0 rms f) s = .next t ∧ trkState t g = 2 ∧ (getTrk t g).aligned = true ∧
          (getTrk t g).nco = (getTrk s g).acqFreq f ∧ (getTrk t g).bounds = [t0] ∧ (getTrk t g).lastT = t0 ∧
          t.fld F.GRD_TB_LO_TB_LO g = t0 % 2 ^ 32))) ∧
  ∀ (s : State) (g : Fin 4), running s = true → trkState s g = 4 →
    ((getTrk s g).holdN < s.fld F.GRD_LIM_HOLDT g → exec (.trackerHoldExpire g) s = .next s) ∧
    (s.fld F.GRD_LIM_HOLDT g ≤ (getTrk s g).holdN →
      ∃ u, exec (.trackerHoldExpire g) s = .next (raise 13 g u) ∧
        u = { s with flds := u.flds, grd := { s.grd with trk := u.grd.trk } } ∧
        Writes [(F.GRD_ST_STATE, g.val, 1), (F.GRD_ST_SEEKL, g.val, 1)] s u ∧ (getTrk u g).nco = (getTrk s g).nom)

/-- Changes of grid settings, and the 10 s frequency (R21, R159, R162, R173). -/
def Obligations.GridSettingsApply : Prop :=
  (∀ (s : State) (g : Fin 4) (t0 : Nat), running s = true → s.bit F.GRD_CFG_EN g = true → trkState s g = 0 →
    (t0 % 20000000 ≠ 0 → exec (.gridEnableApply g t0) s = .next s) ∧
    (t0 % 20000000 = 0 → ∃ t, exec (.gridEnableApply g t0) s = .next t ∧ trkState t g = 1 ∧
      t.fld F.GRD_TB_LO_TB_LO g = t0 % 2 ^ 32 ∧ t.fld F.GRD_TB_HI_TB_HI g = t0 / 2 ^ 32 % 2 ^ 32 ∧
      t.fld F.GRD_ST_CSEQ g = (s.fld F.GRD_ST_CSEQ g + 1) % 2 ^ 16 ∧ (getTrk t g).f60 = s.bit F.GRD_CFG_FNOM g ∧
      (getTrk t g).ref = s.fld F.GRD_CFG_REF g ∧ (getTrk t g).nco = (if s.bit F.GRD_CFG_FNOM g then 60 else 50) ∧
      (getTrk t g).lastT = t0 ∧ (getTrk t g).bounds = [t0] ∧ t.pwr = s.pwr ∧ t.mtr = s.mtr)) ∧
  (∀ (s : State) (g : Fin 4) (t0 : Nat), running s = true → s.bit F.GRD_CFG_EN g = false →
    (atGroupBoundary s g t0 = false → exec (.gridDisableApply g t0) s = .next s) ∧
    (atGroupBoundary s g t0 = true →
      ∃ t, exec (.gridDisableApply g t0) s = .next t ∧ trkState t g = 0 ∧
        getTrk t g = { GrdTrk.blank with n10 := (getTrk s g).n10, d10 := (getTrk s g).d10, t10 := (getTrk s g).t10 } ∧
        ∀ n < 144, groupOf t n ≠ some g.val)) ∧
  (∀ (s : State) (g : Fin 4) (t0 : Nat), running s = true →
    (atGroupBoundary s g t0 = false ∨ refChanged s g = false → exec (.gridReferenceChange g t0) s = .next s) ∧
    (atGroupBoundary s g t0 = true → refChanged s g = true →
      ∃ t, exec (.gridReferenceChange g t0) s = .next t ∧ trkState t g = (if s.fld F.GRD_LIM_HOLDT g = 0 then 1 else 4) ∧
        (getTrk t g).f60 = s.bit F.GRD_CFG_FNOM g ∧ (getTrk t g).ref = s.fld F.GRD_CFG_REF g ∧ (getTrk t g).bounds = [t0])) ∧
  ∀ (s : State) (t0 : Nat), running s = true →
    (t0 % 10000000000 ≠ 0 → exec (.f10sPost t0) s = .next s) ∧
    (t0 % 10000000000 = 0 →
      ∃ t, exec (.f10sPost t0) s = .next t ∧ Spares ((List.range 4).map fun g => (F.GRD_F10S_F10S, g)) s t ∧
        ∀ g < 4, (getTrk t g).n10 = 0 ∧ (getTrk t g).d10 = 0 ∧ (getTrk t g).t10 = t0 ∧
          ((getTrk s g).n10 = 0 → t.fld F.GRD_F10S_F10S g = 0) ∧
          ((getTrk s g).n10 ≠ 0 → t.fld F.GRD_F10S_F10S g =
            (nearest (((getTrk s g).n10 * 1000000000 / (getTrk s g).d10 : Rat) * 1000000)).toNat % 2 ^ 32))

/-- Harmonic results and their pages (R164 to R172). -/
def Obligations.HarmonicResultsAndHolds : Prop :=
  ((∀ (s : State) (g : Fin 4) (ps : List StreamRun) (c : CycRec) (cs : List CycRec), running s = true →
    (∀ p ∈ s.host.posted, p.1 ≠ .hclk) → s.hrm.expired = false → s.dst.expired = false → (getTrk s g).cycs = c :: cs →
    (s.bit F.HRM_ENG_HOFF = true ∨ (getTrk s g).phasDue = false → exec (.cyclePhasorsPost g ps) s = .next s) ∧
    (trkState s g ≠ 0 → s.bit F.HRM_ENG_HOFF = false → (getTrk s g).phasDue = true →
      ∃ t, exec (.cyclePhasorsPost g ps) s = .next t ∧ t = { s with flds := t.flds, grd := { s.grd with trk := t.grd.trk } } ∧
        getTrk t g = { getTrk s g with phasDue := false } ∧
        ∀ n ∈ phasorMembers s g c ps,
          t.fld F.HRM_CYC_CSEQ n = (s.fld F.GRD_ST_CSEQ g + 2 ^ 16 - 1) % 2 ^ 16 ∧ t.bit F.HRM_CYC_UNLK n = !c.lock ∧
          ∀ h < 31, let z := dft 256 (h + 1) (resampleCycle s ps n c.start c.tend)
            t.fld F.HRM_PHM_MAG (32 * n + h + 1) = micro (phasorMag z) % 2 ^ 32 ∧
              t.fld F.HRM_PHA_PHASE (32 * n + h + 1) = phaseWord (argDeg z) % 2 ^ 32)) ∧
  (∀ (s : State) (g : Fin 4) (w : WinDone), running s = true → (getTrk s g).done = some w →
    ((getTrk s g).ended = true → exec (.windowEnd g) s = .next s) ∧
    ((getTrk s g).ended = false →
      ∃ t, exec (.windowEnd g) s = .next t ∧ (getTrk t g).ended = true ∧ (getTrk t g).done = some w ∧
        (getTrk t g).smooth = s.bit F.GRD_CFG_SMOOTH g)) ∧
  (∀ (s : State) (g : Fin 4) (w : WinDone) (ws : List StreamRun), running s = true →
    (∀ p ∈ s.host.posted, p.1 ≠ .hclk) → s.hrm.expired = false → s.dst.expired = false → (getTrk s g).done = some w →
    (s.bit F.HRM_ENG_HOFF = true ∨ phasorsWait s = true → exec (.windowResultsPost g ws) s = .next s) ∧
    (s.bit F.HRM_ENG_HOFF = false → phasorsWait s = false → w.cyc < 4096 → (w.mem.map (·.n)).Nodup →
      ∃ t, exec (.windowResultsPost g ws) s = .next t ∧
        (getTrk t g).done = (if (getTrk s g).ended then none else some { w with mem := [] }) ∧
        ∀ x ∈ w.mem, brings ws x.n = true →
          t.fld F.HRM_W_WORD (192 * x.n) / 2 ^ 16 = (s.fld F.HRM_W_WORD (192 * x.n) / 2 ^ 16 + 1) % 2 ^ 16 ∧
          t.fld F.HRM_W_WORD (192 * x.n) % 2 ^ 12 = w.cyc)) ∧
  (∀ (s : State) (k : BurstKind), running s = true →
    ∃ u, exec (.harmonicBurstOverrun k) s = .next (dropBurst k (raise 14 0xFFFF u)) ∧ u = { s with flds := u.flds } ∧
      Writes [(F.HRM_CNT_MISS, 0, min 65535 (s.fld F.HRM_CNT_MISS + 1))] s u) ∧
  (∀ (s : State) (g : Grp), (getTrk s g).lastT ≠ s.clk.site →
    getTrk (dropBurst (.phasors g) s) g = { getTrk s g with phasDue := false }) ∧
  (∀ s : State, (dropBurst .lowBand s).dst.lowGap = true ∧
    ∀ n < 144, chanOn s n = true → (mget HbAcc.blank (dropBurst .highBand s).dst.hb n).gap = true) ∧
  ∀ (s : State) (lane : Fin 17), running s = true → (s.fld F.HRM_ENG_LANERET).testBit lane = false →
    checkOff s 1 lane = false → s.flts.inj ≠ some (1, lane.val) →
    (∃ u, exec (.harmonicResidueMismatch lane true) s = .next (transient 1 lane 0 false false u) ∧
      u = { s with flds := u.flds } ∧ Writes [(F.HRM_CNT_RECOMP, 0, min 65535 (s.fld F.HRM_CNT_RECOMP + 1))] s u) ∧
    ∃ t, exec (.harmonicResidueMismatch lane false) s = .next t ∧ (t.fld F.HRM_ENG_LANERET).testBit lane = true ∧
      t.fld F.HRM_CNT_RECOMP = min 65535 (s.fld F.HRM_CNT_RECOMP + 2)) ∧
  ((∀ (s : State) (hold : Bool) (n : Fin 256), mainOn s = true → clkOn s .hclk = true → hrmHeld s n = none →
    ∃ t, exec (.hrmHoldWrite hold n) s = .next t ∧
      t = { s with flds := t.flds, hrm := { s.hrm with hold := t.hrm.hold, expired := false } } ∧
      Writes [(F.HRM_HOLD_HOLD, 0, if hold = true ∧ n.val < 144 then 1 else 0), (F.HRM_HOLD_EXP, 0, 0),
        (F.HRM_HOLD_STREAM, 0, n.val)] s t ∧
      (hold = true → n.val < 144 → ∃ h, t.hrm.hold = some h ∧ h.n = n.val ∧ h.dc = s.fld F.HRM_DC_DC n ∧
        h.mag = (List.range 32).map (fun i => s.fld F.HRM_PHM_MAG (32 * n.val + i)) ∧
        h.win = (List.range 192).map fun i => s.fld F.HRM_W_WORD (192 * n.val + i)) ∧
      (hold = false ∨ 144 ≤ n.val → t.hrm.hold = none)) ∧
  (∀ s : State, s.hrm.hold.isSome = true → clkOn s .hclk = true →
    ∃ t, exec .hrmHoldExpire s = .next t ∧ t = { s with flds := t.flds, hrm := { s.hrm with hold := none } } ∧
      Writes [(F.HRM_HOLD_HOLD, 0, 0), (F.HRM_HOLD_EXP, 0, 1)] s t) ∧
  (∀ (s : State) (hold : Bool) (n : Fin 256), mainOn s = true → clkOn s .hclk = false →
    (∃ t, exec (.hrmHoldWrite hold n) s = .next t ∧ t = { s with host := { s.host with posted := t.host.posted } } ∧
      t.host.posted = s.host.posted ++ [(.hclk, 0x090008, F.HRM_HOLD_HOLD.word hold.toNat + F.HRM_HOLD_STREAM.word n)]) ∧
    (∃ t, exec (.hbPageSelect hold n) s = .next t ∧ t = { s with host := { s.host with posted := t.host.posted } } ∧
      t.host.posted = s.host.posted ++ [(.hclk, 0x0CA000, F.DST_HBSEL_HOLD.word hold.toNat + F.DST_HBSEL_STREAM.word n)]) ∧
    (s.hrm.hold.isSome = true → exec .hrmHoldExpire s = .next { s with hrm := { s.hrm with expired := true } }) ∧
    (s.dst.hold.isSome = true → exec .hbPageHoldExpire s = .next { s with dst := { s.dst with expired := true } })) ∧
  (∀ (s : State) (hold : Bool) (n : Fin 256), mainOn s = true → clkOn s .hclk = true → (∀ h, s.dst.hold = some h → h.n ≠ n.val) →
    ∃ t, exec (.hbPageSelect hold n) s = .next t ∧
      t = { s with flds := t.flds, dst := { s.dst with hold := t.dst.hold, expired := false } } ∧
      Writes [(F.DST_HBSEL_HOLD, 0, if hold = true ∧ n.val < 144 then 1 else 0), (F.DST_HBSEL_EXP, 0, 0),
        (F.DST_HBSEL_STREAM, 0, n.val)] s t ∧
      (hold = true → n.val < 144 → ∃ h, t.dst.hold = some h ∧ h.n = n.val ∧ h.post = mget HbPost.blank s.dst.post n ∧
        h.total = s.fld F.DST_HBSUM_TOTAL n ∧ h.hbxl = s.fld F.DST_HBSUM_HBXL n) ∧
      (hold = false ∨ 144 ≤ n.val → t.dst.hold = none)) ∧
  ∀ s : State, s.dst.hold.isSome = true → clkOn s .hclk = true →
    ∃ t, exec .hbPageHoldExpire s = .next t ∧ t = { s with flds := t.flds, dst := { s.dst with hold := none } } ∧
      Writes [(F.DST_HBSEL_HOLD, 0, 0), (F.DST_HBSEL_EXP, 0, 1)] s t)

/-- Disturbances, bands and arcs (R177 to R195). -/
def Obligations.DisturbancesAndHighBand : Prop :=
  ((∀ (s : State) (g : Fin 4) (t0 : Nat) (us : List StreamRun), running s = true →
    (getDst s g).marks.head? = some t0 → exec (.halfCycleMark g t0 none us) s = .next s) ∧
  (∀ (s : State) (g : Fin 4) (t0 : Nat) (us : List StreamRun), running s = true →
    trkState s g ≠ 0 → (getDst s g).marks.head? ≠ some t0 → 2 ≤ (getDst s g).marks.length →
    (getDst s g).busy = false → (thrRegs s.flds g).en = true → (thrRegs s.flds g).dipth ≠ 0 →
    (∃ v ∈ markVals s g ((getDst s g).marks.getD 1 t0) t0 us, v.2 < 10 * (thrRegs s.flds g).dipth) →
    ∃ t, exec (.halfCycleMark g t0 none us) s = .next t ∧ (getDst t g).dip.isSome = true ∧ t.bit F.DST_GST_DIP g = true ∧
      t.bit F.DST_GST_FLAG g = true) ∧
  (∀ (s : State) (g : Fin 4) (t0 : Nat) (us : List StreamRun), running s = true →
    trkState s g ≠ 0 → (getDst s g).marks.head? ≠ some t0 → 2 ≤ (getDst s g).marks.length →
    (getDst s g).dip.isSome = true → (getDst s g).thr.en = true →
    markVals s g ((getDst s g).marks.getD 1 t0) t0 us ≠ [] →
    (∀ v ∈ markVals s g ((getDst s g).marks.getD 1 t0) t0 us,
      ((10 * ((getDst s g).thr.dipth + (getDst s g).thr.hyst) : Nat) : Rat) ≤ v.2) →
    ∃ t, exec (.halfCycleMark g t0 none us) s = .next t ∧
      ((getDst s g).thr.dipth ≠ 0 → (getDst t g).dip = none ∧ t.bit F.DST_GST_DIP g = false ∧
        ∃ r ∈ (getDst t g).queue, r.type = 1 ∧ r.endT = t0)) ∧
  ∀ (s : State) (g : Fin 4) (r : DstRec) (rest : List DstRec), running s = true →
    (getDst s g).queue = r :: rest →
    ∃ u, exec (.disturbanceRecordPost g) s = .next (raise (if r.type = 4 then 20 else if r.type = 5 then 22 else 19) g u) ∧
      u = { s with flds := u.flds, dst := { s.dst with grp := u.dst.grp } } ∧ (getDst u g).queue = rest ∧
      u.fld F.DST_LREC_TYPE g = r.type % 2 ^ F.DST_LREC_TYPE.len ∧ u.fld F.DST_LSTART_LO_START_LO g = r.ev.start % 2 ^ 32 ∧
      u.fld F.DST_LSTART_HI_START_HI g = r.ev.start / 2 ^ 32 % 2 ^ 32 ∧
      u.fld F.DST_LDUR_DUR g = min 0xFFFFFFFF ((r.endT - r.ev.start) / 1000) ∧ u.bit F.DST_LREC_CUT g = r.cut) ∧
  ((∀ (s : State) (b : StreamRun), running s = true → (∀ p ∈ s.host.posted, p.1 ≠ .hclk) → s.hrm.expired = false →
    s.dst.expired = false → hbOff s = false → windowsWait s = false →
    (chanOn s b.n.val = true → ∃ t, exec (.highBandBlock [b]) s = .next t ∧
      (mget HbAcc.blank t.dst.hb b.n.val).n = (mget HbAcc.blank s.dst.hb b.n.val).n + 1 ∧ t.pwr = s.pwr ∧ t.mtr = s.mtr) ∧
    (chanOn s b.n.val = false → exec (.highBandBlock [b]) s = .next s)) ∧
  ∀ (s : State) (t0 : Nat) (ls : List StreamRun), running s = true → (∀ p ∈ s.host.posted, p.1 ≠ .hclk) →
    s.hrm.expired = false → s.dst.expired = false → hbOff s = false → windowsWait s = false →
    (t0 % 200000000 ≠ 0 → exec (.lowBandPeriod t0 ls) s = .next s) ∧
    (t0 % 200000000 = 0 → ∃ t, exec (.lowBandPeriod t0 ls) s = .next t ∧ t.dst.perT = t0 ∧ t.dst.lowGap = false ∧
      ∀ n < 144, t.fld F.DST_LBH_PSEQ n =
          (if chanOn s n then (s.fld F.DST_LBH_PSEQ n + 1) % 2 ^ 16 else s.fld F.DST_LBH_PSEQ n) ∧
        (chanOn s n = true → mget HbAcc.blank t.dst.hb n = HbAcc.blank)))

/-- Overload, open and stuck sensors (R56 to R62, R70). -/
def Obligations.SensorFaultsSetAndClear : Prop :=
  ((∀ (s : State) (n : Fin 112) (mag : Rat), running s = true → chanOn s n = true →
    (9 / 8 < mag → s.bit F.INP_ST_OVR n = false →
      ∃ u, exec (.inputOverload n (.sample mag)) s = .next (raise 0 n u) ∧
        u = { s with flds := u.flds, rmt := u.rmt, clk := u.clk, mtr := { s.mtr with rose := u.mtr.rose } } ∧
        u.bit F.INP_ST_OVR n = true ∧ u.bit F.INP_ST_OVRL n = true ∧
        u.fld F.INP_OVCNT_EPISODES n = min 4294967295 (s.fld F.INP_OVCNT_EPISODES n + 1) ∧
        u.fld F.INP_PEAK_PEAK n = max (s.fld F.INP_PEAK_PEAK n) 36864) ∧
    (9 / 8 < mag → s.bit F.INP_ST_OVR n = true →
      ∃ t, exec (.inputOverload n (.sample mag)) s = .next t ∧ t = { s with flds := t.flds } ∧
        Writes [(F.INP_PEAK_PEAK, n.val, max (s.fld F.INP_PEAK_PEAK n) 36864)] s t) ∧
    (mag ≤ 9 / 8 → ∃ t, exec (.inputOverload n (.sample mag)) s = .next t ∧ t = { s with flds := t.flds } ∧
      Writes [(F.INP_PEAK_PEAK, n.val, max (s.fld F.INP_PEAK_PEAK n) (mag * 32768).floor.toNat)] s t)) ∧
  (∀ (s : State) (n : Fin 112) (ones persists : Bool) (mag : Rat), running s = true → chanOn s n = true →
    s.bit F.INP_ST_OVR n = false →
    ∃ u, exec (.inputOverload n (.run ones persists mag)) s = .next (raise 0 n u) ∧ u.bit F.INP_ST_OVR n = true ∧
      u.bit F.INP_ST_OVRL n = true ∧ mget false u.inp.intDue n = true ∧
      mget 0 u.inp.clip n = if persists then (if ones then 1 else 2) else 0) ∧
  (∀ (s : State) (n : Fin 112),
    ∃ t, exec (.modulatorIntegratorReset n) s = .next t ∧ mget false t.inp.intDue n = false ∧
      t = { s with inp := { s.inp with intDue := t.inp.intDue } }) ∧
  (∀ (s : State) (n : Fin 112) (mag : Rat), running s = true → chanOn s n = true → mag < 1 →
    ∃ t, exec (.ovrClear n mag) s = .next t ∧ t.bit F.INP_ST_OVR n = false ∧
      t.bit F.INP_ST_OVRL n = s.bit F.INP_ST_OVRL n ∧ mget 0 t.inp.clip n = 0 ∧
      t.fld F.INP_OVCNT_EPISODES n = s.fld F.INP_OVCNT_EPISODES n) ∧
  (∀ (s : State) (b : Fin 32) (ones : Fin 257), running s = true → chanOn s (112 + b.val) = true →
    s.fld F.INP_BSG_DENSLIM (b.val / 16) ≠ 0 → s.fld F.INP_BSG_DENSLIM (b.val / 16) < density ones →
    s.bit F.INP_ST_DENS (112 + b.val) = false → s.bit F.INP_ST_OVR (112 + b.val) = false →
    ∃ u, exec (.densSet b ones) s = .next (raise 2 (112 + b.val) u) ∧
      u = { s with flds := u.flds, mtr := { s.mtr with rose := u.mtr.rose } } ∧
      Writes [(F.INP_ST_DENS, 112 + b.val, 1), (F.INP_ST_OVR, 112 + b.val, 1), (F.INP_ST_OVRL, 112 + b.val, 1),
        (F.INP_OVCNT_EPISODES, 112 + b.val, min 4294967295 (s.fld F.INP_OVCNT_EPISODES (112 + b.val) + 1))] s u) ∧
  ∀ (s : State) (b : Fin 32), running s = true →
    ∃ t, exec (.densClear b) s = .next t ∧ t = { s with flds := t.flds, mtr := { s.mtr with fell := t.mtr.fell } } ∧
      t.bit F.INP_ST_DENS (112 + b.val) = false ∧ t.bit F.INP_ST_OVR (112 + b.val) = false ∧
      Spares [(F.INP_ST_DENS, 112 + b.val), (F.INP_ST_OVR, 112 + b.val)] s t) ∧
  ((∀ (s : State) (n : Fin 112) (p q : Bool), running s = true →
    chanOn s n = true →
    ∃ t, exec (.openWindowSample n p q) s = .next t ∧
      t.fld F.INP_ST_OPENPIN n = (if p then 1 else 0) + (if q then 2 else 0) ∧
      mget 0 t.inp.outP n = (if p then mget 0 s.inp.outP n + 1 else 0) ∧
      mget 0 t.inp.outN n = (if q then mget 0 s.inp.outN n + 1 else 0) ∧
      t.bit F.INP_ST_OPEN n = (s.bit F.INP_ST_OPEN n && (p || q)) ∧
      Spares [(F.INP_ST_OPENPIN, n.val), (F.INP_ST_OPEN, n.val)] s t) ∧
  (∀ (s : State) (n : Fin 112), running s = true → chanOn s n = true → s.bit F.INP_ST_OPEN n = false →
    (10 * s.fld F.INP_CFG_OSDT n < mget 0 s.inp.outP n ∨ 10 * s.fld F.INP_CFG_OSDT n < mget 0 s.inp.outN n) →
    ∃ u, exec (.openQualified n) s = .next (raise 1 n u) ∧
      u = { s with flds := u.flds, mtr := { s.mtr with rose := u.mtr.rose } } ∧
      Writes [(F.INP_ST_OPEN, n.val, 1), (F.INP_ST_OPENL, n.val, 1)] s u) ∧
  (∀ (s : State) (b : Fin 32), running s = true → chanOn s (112 + b.val) = true →
    s.bit F.INP_ST_STUCK (112 + b.val) = false →
    ∃ u, exec (.stuckDetect b) s = .next (raise 2 (112 + b.val) u) ∧
      u = { s with flds := u.flds, mtr := { s.mtr with rose := u.mtr.rose } } ∧
      Writes [(F.INP_ST_STUCK, 112 + b.val, 1), (F.INP_ST_STUCKL, 112 + b.val, 1)] s u) ∧
  ∀ (s : State) (b : Fin 32), running s = true →
    ∃ t, exec (.stuckClear b) s = .next t ∧ t.bit F.INP_ST_STUCK (112 + b.val) = false ∧
      t = { s with flds := t.flds, mtr := { s.mtr with fell := t.mtr.fell } } ∧ Spares [(F.INP_ST_STUCK, 112 + b.val)] s t)

/-- Changes of input settings (R21, R22, R71, R76, R96): at a boundary of the channel, where no calibration result is due. Under
hypotheses on the state and the operands alone, each of these forms answers a next state with its own effect:
channelEnableApply, channelDisableApply, burnChangeApply, bitstreamTimingApply. -/
def Obligations.ChannelSettingsApply : Prop :=
  (∀ (s : State) (n : Fin 144), updateDue s n = false →
    exec (.channelEnableApply n) s = .next s ∧ exec (.channelDisableApply n) s = .next s) ∧
  (∀ (s : State) (n : Fin 112), updateDue s n = false → exec (.burnChangeApply n) s = .next s) ∧
  (∀ (s : State) (b : Fin 32), updateDue s (112 + b.val) = false → exec (.bitstreamTimingApply b) s = .next s) ∧
  (∀ (s : State) (n : Fin 144), running s = true → updateDue s n = true → s.bit F.INP_CFG_EN n = true →
    mget false s.inp.en n = false →
    ∃ t, exec (.channelEnableApply n) s = .next t ∧ mget false t.inp.en n = true ∧
      mget 0 t.inp.sensor n = s.fld F.INP_CFG_SENSOR n ∧
      (n.val < 112 → mget 0 t.inp.range n = s.fld F.INP_CFG_RANGE n ∧ mget 0 t.inp.burn n = s.fld F.INP_CFG_BURN n) ∧
      mget false t.flt.fresh n = true ∧ getPath t n = { StreamPath.cleared with sat := (getPath s n).sat } ∧ t.pwr = s.pwr ∧
      t.mtr = { s.mtr with rose := t.mtr.rose } ∧ t.fld F.FLT_ST_FAST n = 0 ∧ t.fld F.FLT_ST_OVC n = 0 ∧
      t.fld F.FLT_ST_STEP n = 0 ∧ (112 ≤ n.val → t.fld F.RMT_MST_UNCHK n = s.fld F.RMT_MST_UNCHK n) ∧
      (s.bit F.RMT_MST_UNCHK n = true → t.bit F.RMT_MST_UNCHK n = true) ∧
      Spares [(F.FLT_ST_FAST, n.val), (F.FLT_ST_OVC, n.val), (F.FLT_ST_STEP, n.val), (F.RMT_MST_UNCHK, n.val)] s t) ∧
  (∀ (s : State) (n : Fin 144), running s = true → updateDue s n = true → s.bit F.INP_CFG_EN n = false →
    mget false s.inp.en n = true →
    ∃ t, exec (.channelDisableApply n) s = .next t ∧ mget false t.inp.en n = false ∧ t.bit F.INP_ST_OPEN n = false ∧
      t.fld F.INP_ST_OPENPIN n = 0 ∧ t.bit F.INP_ST_OVR n = false ∧ t.bit F.INP_ST_STUCK n = false ∧
      t.bit F.INP_ST_DENS n = false ∧ t.bit F.INP_ST_OVRL n = s.bit F.INP_ST_OVRL n ∧
      t.fld F.INP_PEAK_PEAK n = s.fld F.INP_PEAK_PEAK n ∧ t.fld F.INP_OVCNT_EPISODES n = s.fld F.INP_OVCNT_EPISODES n) ∧
  (∀ (s : State) (n : Fin 112), running s = true → updateDue s n = true →
    ∃ t, exec (.burnChangeApply n) s = .next t ∧ mget 0 t.inp.burn n = s.fld F.INP_CFG_BURN n ∧
      t = { s with inp := { s.inp with burn := t.inp.burn } }) ∧
  ∀ (s : State) (b : Fin 32), running s = true → updateDue s (112 + b.val) = true →
    ∃ t, exec (.bitstreamTimingApply b) s = .next t ∧ mget 0 t.inp.sdly (112 + b.val) = s.fld F.INP_CFG_SDLY (112 + b.val) ∧
      mget 0 t.inp.lat (112 + b.val) = s.fld F.INP_CFG_LAT (112 + b.val) ∧
      mget 0 t.inp.inv (112 + b.val) = s.fld F.INP_CFG_INV (112 + b.val) ∧
      t = { s with inp := { s.inp with sdly := t.inp.sdly, lat := t.inp.lat, inv := t.inp.inv } }

/-- Lanes of the filter engine (R20, R100, R101, R248). Under hypotheses on the state and the operands alone, each of these forms
answers a next state with its own effect: filterResidueMismatch, filterLaneRetry, scheduleRebuild. -/
def Obligations.FilterLanesRetryAndRetire : Prop :=
  (∀ (s : State) (lane : Fin 11), running s = true → (s.fld F.FLT_ENG_LANERET).testBit lane = true →
    exec (.filterResidueMismatch lane) s = .next s) ∧
  (∀ (s : State) (lane : Fin 11), running s = true → (s.fld F.FLT_ENG_LANERET).testBit lane = false →
    checkOff s 0 lane = false → s.flts.inj ≠ some (0, lane.val) →
    ∃ t, exec (.filterResidueMismatch lane) s = .next t ∧
      t = { s with flds := t.flds, flt := { s.flt with
        retry := s.flt.retry ++ [(lane.val, false)]
        recompOn := if (s.fld F.FLT_ENG_LANERET).testBit 10 = false ∧ s.fld F.FLT_ENG_SPAREFOR = 15 then some 10 else none } } ∧
      Writes [(F.FLT_ENG_RECOMP, 0, min F.FLT_ENG_RECOMP.top (s.fld F.FLT_ENG_RECOMP + 1))] s t) ∧
  (∀ (s : State) (lane : Fin 11) (rest : List (Nat × Bool)), s.flt.retry = (lane.val, false) :: rest →
    exec (.filterLaneRetry lane true) s =
      .next (transient 0 lane 0 false false { s with flt := { s.flt with retry := rest } })) ∧
  (∀ (s : State) (lane : Fin 11) (rest : List (Nat × Bool)), s.flt.retry = (lane.val, false) :: rest →
    ∃ t, exec (.filterLaneRetry lane false) s = .next t ∧ (t.fld F.FLT_ENG_LANERET).testBit lane = true ∧
      t.flt.retry = rest ∧ t.fld F.FLTS_CNT_PERM 0 = min 65535 (s.fld F.FLTS_CNT_PERM 0 + 1)) ∧
  ∀ s : State,
    (s.flt.rebuild = false → exec .scheduleRebuild s = .next s) ∧
    (s.flt.rebuild = true → 9 < lanesUp s → dstate s ≠ 2 →
      ∃ t, exec .scheduleRebuild s = .next t ∧ t = { s with flds := t.flds, flt := { s.flt with rebuild := false } } ∧
        Writes [(F.FLTS_ST_DSTATE, 0, dstate s)] s t)

/-- The fast path and changes of response (R108 to R113). Under hypotheses on the state and the operands alone, each of these forms
answers a next state with its own effect: ovcSet, ovcClear, stepSet, stepClear, fastPathHoldoffEnd, responseWarmUpEnd,
responseCrossfade, presetStateSwitch, settleEnd. -/
def Obligations.FastPathAndResponses : Prop :=
  ((∀ (s : State) (n : Fin 170) (fs : List (BitVec 16)), fastRuns s n = false →
    exec (.ovcSet n fs) s = .next s ∧ exec (.ovcClear n fs) s = .next s ∧ exec (.stepSet n fs) s = .next s ∧
      exec (.stepClear n fs) s = .next s) ∧
  (∀ (s : State) (n : Fin 170) (pre : List (BitVec 16)) (f0 f1 : BitVec 16) (th : Rat), fastOn s n = true →
    threshold s F.FLT_THR_FTHR n = some th → th ≤ |(fastVal f0 : Rat)| → th ≤ |(fastVal f1 : Rat)| →
    ∃ u, exec (.ovcSet n (pre ++ [f0, f1])) s =
        .next (raiseIf (decide (n.val < 144) && !s.bit F.FLT_ST_OVC n) 3 n u) ∧
      u = { pathFasts n (pre ++ [f0, f1]) s with flds := u.flds } ∧ fastShown u n = f1 ∧
      Writes [(F.FLT_ST_OVC, n.val, 1), (F.FLT_ST_OVCL, n.val, 1)] s u) ∧
  (∀ (s : State) (n : Fin 170) (fs : List (BitVec 16)), fastRuns s n = true →
    (threshold s F.FLT_THR_FTHR n = none → exec (.ovcSet n fs) s = .next (pathFasts n fs s)) ∧
    (threshold s F.FLT_THR_STEPTH n = none → exec (.stepSet n fs) s = .next (pathFasts n fs s))) ∧
  (∀ (s : State) (n : Fin 170) (fs : List (BitVec 16)), fastRuns s n = true →
    (threshold s F.FLT_THR_FTHR n = none ∨ (fastOn s n = true ∧ lookBack s n ≤ fs.length ∧
      ∃ th, threshold s F.FLT_THR_FTHR n = some th ∧ ∀ f ∈ fs, |(fastVal f : Rat)| < 7 / 8 * th) →
      ∃ t, exec (.ovcClear n fs) s = .next t ∧ t = { pathFasts n fs s with flds := t.flds } ∧
        Writes [(F.FLT_ST_OVC, n.val, 0)] s t) ∧
    (fastOn s n = false → threshold s F.FLT_THR_FTHR n ≠ none →
      exec (.ovcSet n fs) s = .next (pathFasts n fs s) ∧ exec (.ovcClear n fs) s = .next (pathFasts n fs s))) ∧
  (∀ (s : State) (n : Fin 170) (mid : List (BitVec 16)) (f0 f : BitVec 16) (th : Rat), fastOn s n = true →
    threshold s F.FLT_THR_STEPTH n = some th → mid.length + 1 = lookBack s n → th ≤ |(fastVal f - fastVal f0 : Rat)| →
    ∃ t, exec (.stepSet n (f0 :: mid ++ [f])) s = .next t ∧ t.bit F.FLT_ST_STEP n = true ∧ t.bit F.FLT_ST_STEPL n = true ∧
      fastShown t n = f ∧ t.pwr = s.pwr ∧ t.mtr = s.mtr) ∧
  (∀ (s : State) (n : Fin 170) (fs : List (BitVec 16)), fastRuns s n = true →
    (threshold s F.FLT_THR_STEPTH n = none ∨ (fastOn s n = true ∧ lookBack s n + 24 ≤ fs.length ∧
      ∃ th, threshold s F.FLT_THR_STEPTH n = some th ∧ ∀ f ∈ fs, ∀ g ∈ fs, |(fastVal f - fastVal g : Rat)| < th) →
      ∃ t, exec (.stepClear n fs) s = .next t ∧ t.bit F.FLT_ST_STEP n = false ∧
        t.bit F.FLT_ST_STEPL n = s.bit F.FLT_ST_STEPL n) ∧
    (fastOn s n = false → threshold s F.FLT_THR_STEPTH n ≠ none →
      exec (.stepSet n fs) s = .next (pathFasts n fs s) ∧ exec (.stepClear n fs) s = .next (pathFasts n fs s))) ∧
  ∀ (s : State) (n : Fin 144),
    ∃ t, exec (.fastPathHoldoffEnd n) s = .next t ∧ (∀ k ∈ slotsOf s n, mget false t.flt.holdoff k = false) ∧
      (∀ k, k ∉ slotsOf s n → mget false t.flt.holdoff k = mget false s.flt.holdoff k) ∧
      t = { s with flt := { s.flt with holdoff := t.flt.holdoff } }) ∧
  ((∀ (s : State) (n : Fin 112) (c : RespChange), running s = true → mget none s.flt.change n = some c →
    (c.ph = .warming → ∃ t, exec (.responseWarmUpEnd n) s = .next t ∧
      mget none t.flt.change n = some { c with ph := .warmed } ∧ t.clk.now = max s.clk.now (mget 0 s.flt.doneT n) ∧
      t = { s with clk := t.clk, flt := { s.flt with change := t.flt.change } }) ∧
    (c.ph ≠ .warming → exec (.responseWarmUpEnd n) s = .next s)) ∧
  (∀ (s : State) (n : Fin 112) (c : RespChange), running s = true → mget none s.flt.change n = some c →
    (updateDue s n = false ∨ c.ph ≠ .warmed → exec (.responseCrossfade n) s = .next s) ∧
    (∀ sp, updateDue s n = true → c.ph = .warmed →
      (sparesOf (bankOf n)).find? (fun k => (getSp s k).lent == some n.val) = some sp →
      ∃ t, exec (.responseCrossfade n) s = .next t ∧ mget [0, 0, 0, 0] t.flt.resp n = c.resp ∧
        mget none t.flt.change n = some { c with ph := .fading } ∧ (getPath t n).z = (getPath s (144 + sp)).z ∧
        (getPath t n).old = some ⟨0, mget [0, 0, 0, 0] s.flt.resp n, (getPath s n).z⟩ ∧
        t = { s with flt := { s.flt with resp := t.flt.resp, change := t.flt.change }, clk := { s.clk with path := t.clk.path } })) ∧
  (∀ (s : State) (n : Nat), changePh s n = some .fading → (getPath s n).old = none →
    (∀ sp ∈ sparesOf (bankOf n), (getSp s sp).lent ≠ some n) →
    mget none (fadeEnd n s).flt.change n = none ∧ (fadeEnd n s).bit F.FLT_ST_SETTLE n = false) ∧
  (∀ (s : State) (n : Fin 144) (c : RespChange), running s = true → mget none s.flt.change n = some c →
    (updateDue s n = false ∨ c.ph ≠ .preset → exec (.presetStateSwitch n) s = .next s) ∧
    (updateDue s n = true → c.ph = .preset →
      ∃ t, exec (.presetStateSwitch n) s = .next t ∧ mget [0, 0, 0, 0] t.flt.resp n = c.resp ∧
        mget none t.flt.change n = none ∧ (getPath t n).z = presetZ (sectionList c.resp) (mean192 (getPath s n)) ∧
        Writes [(F.FLT_ST_SETTLE, n.val, 1)] s t ∧
        t = { s with flds := t.flds, flt := t.flt, clk := { s.clk with path := t.clk.path }, mtr := { s.mtr with rose := t.mtr.rose } })) ∧
  ∀ (s : State) (n : Fin 144),
    (changePh s n = some .warming ∨ changePh s n = some .warmed ∨ changePh s n = some .fading → exec (.settleEnd n) s = .next s) ∧
    (changePh s n ≠ some .warming → changePh s n ≠ some .warmed → changePh s n ≠ some .fading →
      ∃ t, exec (.settleEnd n) s = .next t ∧ t.bit F.FLT_ST_SETTLE n = false ∧
        t = { s with flds := t.flds, clk := t.clk, mtr := { s.mtr with fell := t.mtr.fell } } ∧
        t.clk.now = max s.clk.now (mget 0 s.flt.doneT n) ∧ Spares [(F.FLT_ST_SETTLE, n.val)] s t))

/-- A slot from its start to its handover (R77 to R83). Under hypotheses on the state and the operands alone, each of these forms
answers a next state with its own effect: remountSlotStart, selfCheckComplete, settlingEnd, returnSettlingEnd, handoverMatch,
crossfadeHoldTimeout. -/
def Obligations.RemountSlotReachesHandover : Prop :=
  (∀ (s : State) (sp : Spare) (k : Nat), running s = true →
    (slotT s sp k < s.clk.site → exec (.remountSlotStart sp k) s = .next s) ∧
    (s.clk.site ≤ slotT s sp k → (getSp s sp).slot = none → (getSp s sp).arbit = none → (getSp s sp).kept = none →
      (getSp s sp).refin = none →
      (routineOk s sp = false → exec (.remountSlotStart sp k) s = .next (reachTime (slotT s sp k) s)) ∧
      (∀ n, routineOk s sp = true → assigned s sp k = some n → ∃ t sl, exec (.remountSlotStart sp k) s = .next t ∧
        SpareMoves sp s t ∧ t.clk.site = max s.clk.site (slotT s sp k % 2 ^ 64) ∧ (getSp t sp).slot = some sl ∧
        sl.kind = .routine ∧ sl.st = .selfchk ∧ sl.chan = n ∧ sl.range = mget 0 s.inp.range n ∧ sl.failed = false ∧
        sl.selfOnly = (s.bit F.INP_ST_OPEN n || s.bit F.INP_ST_OVR n))) ∧
    (∀ sl, s.clk.site ≤ slotT s sp k → (getSp s sp).slot = some sl → sl.est ≠ .verdict → sl.rotating = true →
      ∃ t, exec (.remountSlotStart sp k) s = .next t ∧ SpareMoves sp s t ∧ t.flds = s.flds ∧
        getSp t sp = { getSp s sp with late := some k })) ∧
  (∀ (s : State) (sp : Spare) (off gain : Rat) (sl : Slot), running s = true → (getSp s sp).refin = none →
    (getSp s sp).slot = some sl → sl.st = .selfchk → sl.failed = false →
    (selfCheckOk s sp sl.range off gain = true → sl.selfOnly = false →
      ∃ t, exec (.selfCheckComplete sp off gain) s = .next t ∧
        (getSp t sp).slot = some { sl with st := .ovlOut, est := .settling, failed := false, checkT := s.clk.now } ∧
        mget none t.rmt.stored (8 * (112 + sp.val) + sl.range) = some ⟨off, gain⟩ ∧
        mget none t.rmt.force (8 * (112 + sp.val) + sl.range) = some ⟨off, gain⟩ ∧ t.flds = s.flds ∧
        ∀ q, q ≠ sp.val → getSp t q = getSp s q) ∧
    (selfCheckOk s sp sl.range off gain = false → ∃ t, exec (.selfCheckComplete sp off gain) s = .next t ∧
      OnlySpare sp s t ∧ (getSp t sp).slot = some { sl with failed := true })) ∧
  (∀ (s : State) (sp : Spare) (off gain : Rat), running s = true → (getSp s sp).refin = some (.check false) →
    (selfCheckOk s sp 0 off gain = true → ∃ t, exec (.selfCheckComplete sp off gain) s = .next t ∧
      (getSp t sp).refin = some .measure ∧ mget none t.rmt.stored (8 * (112 + sp.val)) = some ⟨off, gain⟩ ∧ t.flds = s.flds) ∧
    (selfCheckOk s sp 0 off gain = false → ∃ t, exec (.selfCheckComplete sp off gain) s = .next t ∧
      OnlySpare sp s t ∧ (getSp t sp).refin = some (.check true))) ∧
  (∀ (s : State) (sp : Spare) (sl : Slot), running s = true → (getSp s sp).slot = some sl →
    sl.est = .settling →
    (sl.st = .ovlOut → ∃ t, exec (.settlingEnd sp) s = .next t ∧ OnlySpare sp s t ∧
      (getSp t sp).slot = some { sl with est := if xfadeClear s sl.chan then .window else .restarted }) ∧
    (sl.st = .ovlRet → ∃ t, exec (.returnSettlingEnd sp) s = .next t ∧ OnlySpare sp s t ∧
      (getSp t sp).slot = some { sl with est := if xfadeClear s sl.chan then .window else .restarted })) ∧
  (∀ (s : State) (sp : Spare) (e : EstStats) (sl : Slot), running s = true →
    (getSp s sp).slot = some sl → sl.rotating = true → sl.st = .ovlOut → sl.est = .window →
    (spSubst s sp = false → sl.failed = false → ∃ t, exec (.handoverMatch sp e) s = .next t ∧ OnlySpare sp s t ∧
      (getSp t sp).slot =
        (if matchOk s (estimate e) then
          let m := keepMatch s sl.chan (estimate e)
          if xfadeClear s sl.chan then some { sl with mtch := some m, failed := false, st := .xfOut, est := .settling }
          else some { sl with mtch := some m, failed := false, est := .held }
        else some { sl with failed := true, est := beginEst s sl.chan })) ∧
    (spSubst s sp = true → ∃ t, exec (.handoverMatch sp e) s = .next t ∧ OnlySpare sp s t ∧
      (getSp t sp).slot = (if xfadeClear s sl.chan then some { sl with failed := false, st := .xfOut, est := .settling }
        else some { sl with failed := false, est := .held }))) ∧
  ∀ (s : State) (sp : Spare) (sl : Slot), running s = true → (getSp s sp).slot = some sl →
    (sl.est = .held → xfadeClear s sl.chan = false →
      ∃ t, exec (.crossfadeHoldTimeout sp) s = .next t ∧ OnlySpare sp s t ∧
        (getSp t sp).slot = some { sl with est := .restarted }) ∧
    (sl.est ≠ .held ∨ xfadeClear s sl.chan = true → exec (.crossfadeHoldTimeout sp) s = .next s)

/-- A slot from its handover to its end (R77, R83, R84). Under hypotheses on the state and the operands alone, each of these forms
answers a next state with its own effect: spliceInstant, modulatorOffline, offlineMeasurementComplete, crossCheck,
spareLeavesPins. -/
def Obligations.RemountSlotReturns : Prop :=
  (∀ (s : State) (sp : Spare) (sl : Slot), running s = true →
    (getSp s sp).slot = some sl → sl.rotating = true → sl.handback = false →
    (sl.st = .xfOut → sl.newCorr = none → spSubst s sp = false → withdrawn s = false →
      ∃ t, exec (.spliceInstant sp) s = .next t ∧ Writes [(F.INP_ST_FEED, sl.chan, spIdx sp + 1)] s t ∧
        t.cal.spoiled = (if s.cal.sel.contains sl.chan then sl.chan :: s.cal.spoiled else s.cal.spoiled) ∧
        (getSp t sp).slot = some { sl with st := .standin, offline := false, failed := false }) ∧
    (sl.st = .xfRet → ∃ t, exec (.spliceInstant sp) s = .next t ∧
      t.fld F.INP_ST_FEED sl.chan = s.fld F.RMT_MST_SUB sl.chan % 4 ∧
      t.cal.spoiled = (if s.cal.sel.contains sl.chan then sl.chan :: s.cal.spoiled else s.cal.spoiled) ∧
      (getSp t sp).slot = some { sl with st := .leaving })) ∧
  (∀ (s : State) (sp : Spare) (sl : Slot), running s = true → (getSp s sp).slot = some sl →
    sl.st = .standin →
    ∃ t, exec (.modulatorOffline sp) s = .next t ∧ OnlySpare sp s t ∧
      (getSp t sp).slot = some { sl with offline := true, offT := s.clk.now + 50000000 }) ∧
  (∀ (s : State) (sp : Spare) (short : Rat) (pts : List Rat) (sl : Slot),
    running s = true → (getSp s sp).slot = some sl → sl.st = .standin → sl.offline = true → sl.failed = false →
    let x := (sl.allReadings short pts).headD 0
    let xs := (sl.allReadings short pts).tail
    ∃ t, exec (.offlineMeasurementComplete sp short pts) s = .next t ∧
      Writes [(F.RMT_MLIN_INL, sl.chan, clampU 16 (nearest (inlOf xs * 1000000)))] s t ∧
      (getSp t sp).slot =
        (if offlineOk sl.oldCorr x xs then
          some { sl with st := .ovlRet, est := .settling, failed := false, offline := false
                         newCorr := some ⟨x, (fitLine xs).1⟩ }
        else some { sl with failed := true, pts := [], offline := true, offT := s.clk.now + 50000000 })) ∧
  (∀ (s : State) (sp : Spare) (e : EstStats) (sl : Slot) (c : Corr),
    running s = true → (getSp s sp).slot = some sl → sl.st = .ovlRet →
    sl.est = .window → sl.failed = false → sl.newCorr = some c →
    (checkOk s (estimate e) = true → ∃ t, exec (.crossCheck sp e) s = .next t ∧
      mget none t.rmt.stored (8 * ownMod s sl.chan + sl.range) = some c ∧
      mget none t.rmt.force (8 * ownMod s sl.chan + sl.range) = some c ∧ t.bit F.RMT_MST_UNCHK sl.chan = false ∧
      mget false t.rmt.halted (spBank sp) = false ∧ Spares [(F.RMT_MST_UNCHK, sl.chan)] s t ∧
      (getSp t sp).slot =
        (if xfadeClear s sl.chan then some { sl with failed := false, checked := true, st := .xfRet, est := .settling }
        else some { sl with failed := false, checked := true, est := .held })) ∧
    (checkOk s (estimate e) = false → ∃ t, exec (.crossCheck sp e) s = .next t ∧ OnlySpare sp s t ∧
      (getSp t sp).slot = some { sl with failed := true, est := beginEst s sl.chan })) ∧
  ∀ (s : State) (sp : Spare) (sl : Slot), running s = true → (getSp s sp).slot = some sl →
    sl.st = .leaving → sl.handback = false →
    ∃ t, exec (.spareLeavesPins sp) s = .next t ∧
      t.fld F.RMT_BCNT_SLOTS (spBank sp) = min 65535 (s.fld F.RMT_BCNT_SLOTS (spBank sp) + 1) ∧
      t.fld F.INP_ST_FEED sl.chan = s.fld F.INP_ST_FEED sl.chan

/-- Disagreement, substitution, live changes and forced slots (R21, R22, R84, R87, R88, R90). Under hypotheses on the
state and the operands alone, each of these forms
answers a next state with its own effect: disagreementEstimate, matchRemoval, liveChangeCrossfade, forceSlot. -/
def Obligations.RemountVerdictsAndRequests : Prop :=
  (∀ (s : State) (b : Spare) (a : Fin 26) (out : Bool) (e : EstStats) (sl asl : Slot),
    running s = true → a ≠ b → (getSp s b).slot = some sl → (getSp s a).slot = some asl →
    asl.chan < 112 → spBank a = bankOf asl.chan → sl.kind = .third a.val out → sl.st = .ovlOut → sl.est = .window →
    (out = true → matchOk s (estimate e) = true → ∃ t, exec (.disagreementEstimate b e) s = .next t ∧
      t.bit F.RMT_SST_RET a = true ∧ t.fld F.RMT_MST_RET asl.chan = s.fld F.RMT_MST_RET asl.chan) ∧
    (out = false → checkOk s (estimate e) = true → ∃ t, exec (.disagreementEstimate b e) s = .next t ∧
      t.bit F.RMT_MST_RET asl.chan = true ∧ t.fld F.RMT_MST_SUB asl.chan = spIdx a + 1)) ∧
  (∀ (s : State) (n : AChan), running s = true → s.fld F.RMT_MST_SUB n ≠ 0 →
    let sp := spareAt (bankOf n) (s.fld F.RMT_MST_SUB n - 1)
    let fed := spareAt (bankOf n) (s.fld F.INP_ST_FEED n - 1)
    (boundaryAt s n = false ∨ (getSp s sp).mtch = none → exec (.matchRemoval n) s = .next s) ∧
    (boundaryAt s n = true → (getSp s sp).mtch.isSome = true →
      ∃ t, exec (.matchRemoval n) s = .next t ∧ (getSp t sp).mtch = none ∧ (∀ q, q ≠ sp → getSp t q = getSp s q) ∧
        t = { s with rmt := { s.rmt with spares := t.rmt.spares }, clk := { s.clk with path := t.clk.path } } ∧
        (getPath t n).fade = some (if s.fld F.INP_ST_FEED n = 0 then ⟨0, n, 1, 0⟩
          else ⟨0, 144 + fed, (matchFor s fed n).1, (matchFor s fed n).2⟩))) ∧
  (∀ (s : State) (sp : Spare) (sl : Slot) (r k : Nat), running s = true →
    (getSp s sp).slot = some sl → sl.kind = .live r k → sl.st = .ovlOut → sl.est = .held →
    (xfadeClear s sl.chan = false ∨ updateDue s sl.chan = false → exec (.liveChangeCrossfade sp) s = .next s) ∧
    (xfadeClear s sl.chan = true → updateDue s sl.chan = true →
      ∃ t, exec (.liveChangeCrossfade sp) s = .next t ∧ OnlySpare sp s t ∧
        (getSp t sp).slot = some { sl with st := .xfOut, est := .settling })) ∧
  (∀ (s : State) (n : Fin 256),
    (mainOn s = false ∨ privileged s = false → exec (.forceSlot n) s = .next s) ∧
    (mainOn s = true → privileged s = true → running s = false → ∃ t, exec (.forceSlot n) s = .next t ∧
      t = { s with host := { s.host with posted := t.host.posted } } ∧
      t.host.posted = s.host.posted ++ [(.fclk, 0x020004, F.RMT_FORCE_GO.word 1 + F.RMT_FORCE_STREAM.word n)])) ∧
  ∀ (s : State) (n : Fin 256), mainOn s = true → running s = true → privileged s = true →
    (forceRefused s n = true → ∃ t, exec (.forceSlot n) s = .next t ∧ t = { s with flds := t.flds } ∧
      Writes [(F.RMT_FORCE_STREAM, 0, n.val), (F.RMT_FORCE_GO, 0, 0), (F.RMT_FORCE_REJ, 0, 1)] s t) ∧
    (forceRefused s n = false →
      (∀ sp, forceSpare s (bankOf n) = some sp → (getSp s sp).slot = none → (getSp s sp).refin = none →
        ∃ t sl, exec (.forceSlot n) s = .next t ∧
          Writes [(F.RMT_FORCE_STREAM, 0, n.val), (F.RMT_FORCE_GO, 0, 0), (F.RMT_FORCE_REJ, 0, 0),
            (F.FLT_ST_FAST, 144 + sp, 0), (F.FLT_ST_OVC, 144 + sp, 0), (F.FLT_ST_STEP, 144 + sp, 0)] s t ∧
          (getSp t sp).slot = some sl ∧ sl.kind = .forced ∧ sl.chan = n ∧ sl.st = .selfchk) ∧
      ((∀ sp, forceSpare s (bankOf n) = some sp → (getSp s sp).slot ≠ none ∨ (getSp s sp).refin ≠ none) →
        ∃ t, exec (.forceSlot n) s = .next t ∧ t = { s with flds := t.flds } ∧
          Writes [(F.RMT_FORCE_STREAM, 0, n.val), (F.RMT_FORCE_GO, 0, 1), (F.RMT_FORCE_REJ, 0, 0)] s t))

/-- XCLK and the boundary of channels without a grid group (R21, R26). -/
def Obligations.ClockFallbackAndBoundaries : Prop :=
  (∀ s : State, mainOn s = true → s.clk.xsrc = .crystal →
    ∃ u, exec .xclkFallback s = .next (raise 45 0xFFFF u) ∧
      u = { s with flds := u.flds, clk := { s.clk with xsrc := .rc, rcTrims := 0 }, mtr := { s.mtr with rose := u.mtr.rose } } ∧
      Writes [(F.FLTS_ST_XFB, 0, 1), (F.FLTS_ST_CLKL, 0, 1)] s u) ∧
  (∀ s : State, mainOn s = true → s.clk.xsrc = .rc →
    exec .rcTrim s = .next { s with clk := { s.clk with rcTrims := s.clk.rcTrims + 1 } }) ∧
  (∀ (s : State) (t0 : Nat), s.clk.xsrc = .crystal → exec .rcTrim s = .next s ∧ exec (.xclkReturn t0) s = .next s) ∧
  (∀ (s : State) (t0 : Nat), mainOn s = true → s.clk.xsrc = .rc → t0 % 20000000 = 0 → t0 < 2 ^ 64 →
    ∃ t, exec (.xclkReturn t0) s = .next t ∧ t.clk.xsrc = .crystal ∧ t.clk.rcTrims = 0 ∧ t.bit F.FLTS_ST_XFB = false ∧
      t.clk.site = max s.clk.site t0 ∧ Spares [(F.FLTS_ST_XFB, 0)] s t) ∧
  ∀ (s : State) (t0 : Nat), running s = true → t0 % 20000000 = 0 → t0 < 2 ^ 64 →
    ∃ t, exec (.dcGridBoundary t0) s = .next t ∧ t = { s with clk := t.clk } ∧ t.clk.site = max s.clk.site t0 ∧
      t.clk.xsrc = s.clk.xsrc

/-- The start of metering (R313). -/
def Obligations.MeteringStartsAfterTrim : Prop :=
  (∀ s : State, running s = true → s.pwr.metering = false → s.ctl ≠ .halted →
    ∃ t, exec .referenceSettled s = .next t ∧ t.bit F.CAL_ST_TRIMRUN = true ∧ t.cal.powerUp = !s.cal.upRun ∧
      t.cal.upRun = true ∧
      Spares [(F.CAL_ST_TRIMRUN, 0)] s t) ∧
  (∀ s : State, running s = true → s.pwr.metering = false → s.ctl = .halted →
    ∃ t, exec .referenceSettled s = .next t ∧ t.bit F.CAL_ST_UNCAL = true ∧
      ∀ n < 144, chanOn s n = true → t.fld F.CAL_CTAP_DTAP n = 128 ∧ t.fld F.CAL_CTAP_THTAP n = 0 ∧
        t.bit F.CAL_CTAP_NOCAL n = true ∧ traceOf t n =
          ⟨1, 0, 2048, 1, false, true, false, false, mget 0 s.inp.range n, mget 0 s.inp.sensor n⟩) ∧
  (∀ (s : State) (t0 : Nat), running s = true → s.pwr.metering = false → t0 % 10000000 = 0 → t0 < 2 ^ 64 →
    (meteringReady s = false → exec (.meteringStart t0) s = .next s) ∧
    (meteringReady s = true → ∃ t, exec (.meteringStart t0) s = .next t ∧ t.pwr.metering = true ∧
      t.pwr.session = true ∧ t.pwr.mstate = .run ∧ t.clk.site = max s.clk.site t0)) ∧
  ∀ (s : State) (t0 : Nat), s.pwr.metering = true → exec (.meteringStart t0) s = .next s

/-- Trim runs (R21, R200, R202 to R205). -/
def Obligations.TrimRunsFormAndApplyResults : Prop :=
  (∀ (s : State) (c : Instr), ctlOn s = true → c = .trimRunStart ∨ (c = .calTrig ∧ privileged s = true) →
    (s.bit F.CAL_ST_TRIMRUN = true → exec c s = .next { s with cal := { s.cal with again := true } }) ∧
    (s.bit F.CAL_ST_TRIMRUN = false → ∃ t, exec c s = .next t ∧ Writes [(F.CAL_ST_TRIMRUN, 0, 1)] s t ∧
      t = { s with flds := t.flds, cal := { s.cal with failed1 := false }, rmt := { s.rmt with bare := t.rmt.bare } })) ∧
  (∀ s : State, mainOn s = true → ctlOn s = false →
    (∃ t, exec .trimRunStart s = .next t ∧ t = { s with host := { s.host with waiting := t.host.waiting } } ∧
      FwOp.trimStart ∈ t.host.waiting) ∧
    (privileged s = true → exec .calTrig s = .next { s with host := { s.host with waiting := s.host.waiting ++ [.calTrig] } })) ∧
  (∀ s : State, privileged s = false → exec .calTrig s = .next s) ∧
  (∀ (s : State) (bad : Bool) (fs : List SetFail), ctlOn s = true → s.bit F.CAL_ST_TRIMRUN = true →
    s.cal.powerUp = false →
    let s1 := touchSets (takeFails fs s)
    ((trimPasses s1 && !bad) = true → ∃ t, exec (.trimRunComplete bad fs) s = .next t ∧
      t.bit F.CAL_ST_TRIMOK = true ∧ t.bit F.CAL_ST_UNCAL = false ∧
      t.fld F.CAL_ST_RUNS = min 65535 (s.fld F.CAL_ST_RUNS + 1) ∧ t.fld F.CAL_TEMP_TTRIM = s.fld F.CAL_TEMP_TDIE ∧
      t.bit F.CAL_ST_TRIMRUN = s.cal.again ∧ t.cal.anyPass = true ∧
      ∀ n < 144, chanOn s n = true → mget none t.cal.pend n = some (trimOf s1 n)) ∧
    ((trimPasses s1 && !bad) = false → s.cal.failed1 = false →
      exec (.trimRunComplete bad fs) s = .next { s1 with cal := { s1.cal with failed1 := true } }) ∧
    ((trimPasses s1 && !bad) = false → s.cal.failed1 = true →
      ∃ t, exec (.trimRunComplete bad fs) s = .next t ∧ t.bit F.CAL_ST_TRIMOK = false ∧
        t.fld F.CAL_ST_RUNS = min 65535 (s.fld F.CAL_ST_RUNS + 1) ∧ t.bit F.CAL_ST_TRIMRUN = s.cal.again ∧
        t.cal.pend = s.cal.pend ∧ t.cal.trace = s.cal.trace)) ∧
  (∀ (s : State) (n : Chan), boundaryAt s n = false ∨ s.clk.site < s.cal.jointT →
    exec (.trimResultsApply n) s = .next s) ∧
  (∀ (s : State) (n : Chan) (c : Trace), running s = true → mget none s.cal.pend n = some c → boundaryAt s n = true →
    s.cal.jointT ≤ s.clk.site → (∀ q ∈ s.rmt.bare, q.chan ≠ n) →
    ∃ t, exec (.trimResultsApply n) s = .next t ∧ traceOf t n = c ∧ mget none t.cal.pend n = none ∧
      t.fld F.CAL_CTAP_DTAP n = dtapOf c ∧ t.sfld F.CAL_CTAP_THTAP n = thtapOf n c ∧
      t.bit F.CAL_CTAP_NOCAL n = c.nocal ∧ t.bit F.CAL_CTAP_TOUT n = c.tout) ∧
  ∀ (s : State) (b : BChan) (q : LiveReq), running s = true → s.rmt.bare.find? (fun x => x.chan == 112 + b.val) = some q →
    (q.trim ≠ .over ∨ boundaryAt s (112 + b.val) = false → exec (.bitstreamSensorApply b) s = .next s) ∧
    (q.trim = .over → boundaryAt s (112 + b.val) = true →
      ∃ t, exec (.bitstreamSensorApply b) s = .next t ∧ mget 0 t.inp.sensor (112 + b.val) = q.sensor ∧
        mget 0 t.inp.range (112 + b.val) = q.range ∧ t.rmt.bare = s.rmt.bare.filter (· ≠ q) ∧
        mget none t.cal.pend (112 + b.val) = none)

/-- The measurements of a reference session (R17, R207 to R211). -/
def Obligations.ReferenceSessionMeasures : Prop :=
  (∀ s : State, ctlOn s = true → privileged s = true →
    (startRefused s = true → ∃ t, exec .calStart s = .next t ∧ t = { s with flds := t.flds } ∧
      Writes [(F.CAL_ST_REJ, 0, 1)] s t) ∧
    (startRefused s = false → ∃ t, exec .calStart s = .next t ∧
      Writes [(F.CAL_ST_STATE, 0, 1), (F.CAL_ST_REJ, 0, 0), (F.CAL_ST_CONFLICT, 0, 0)] s t ∧
      t.cal.sess = some (newSess s) ∧ t.cal.sel = calSelected s ∧ t.cal.sets = s.cal.sets)) ∧
  (∀ s : State, privileged s = false → exec .calStart s = .next s ∧ exec .calStep s = .next s) ∧
  (∀ (s : State) (x : Sess), ctlOn s = true → s.cal.sess = some x → s.fld F.CAL_ST_STATE = 1 →
    (sessAlive s x ≠ [] → ∃ t, exec .calCheckComplete s = .next t ∧ t = { s with flds := t.flds } ∧
      Writes [(F.CAL_ST_STATE, 0, if x.dc then 2 else 4)] s t) ∧
    (sessAlive s x = [] → ∃ u, exec .calCheckComplete s = .next (raise 120 0xFFFF u) ∧ u = { s with flds := u.flds } ∧
      Writes [(F.CAL_ST_STATE, 0, 8), (F.CAL_RES_PASS, 0, 0), (F.CAL_RES_PASS, 1, 0), (F.CAL_RES_PASS, 2, 0),
        (F.CAL_RES_PASS, 3, 0), (F.CAL_RES_PASS, 4, 0), (F.CAL_ST_REFOK, 0, 0)] s u)) ∧
  (∀ (s : State) (x : Sess), ctlOn s = true → privileged s = true → s.cal.sess = some x →
    (s.fld F.CAL_ST_STATE = 2 → ∃ t, exec .calStep s = .next t ∧ Writes [(F.CAL_ST_STATE, 0, 3)] s t ∧
      t.cal.sess = some (beginWindows x s) ∧ t.cal.spoiled = []) ∧
    (s.fld F.CAL_ST_STATE = 4 → x.lost = false → ∃ t y, exec .calStep s = .next t ∧ Writes [(F.CAL_ST_STATE, 0, 5)] s t ∧
      t.cal.sess = some y ∧ y = { x with windows := false, again := false, refin := y.refin } ∧
      (x.refin ≠ .waiting → y.refin = x.refin))) ∧
  (∀ (s : State) (x : Sess), ctlOn s = true → s.cal.sess = some x → s.fld F.CAL_ST_STATE = 5 →
    ∃ t, exec .calSettlingEnd s = .next t ∧ t.cal.sess = some (beginWindows x s) ∧ t.cal.spoiled = [] ∧
      t.flds = s.flds) ∧
  (∀ (s : State) (x : Sess) (rs : List ChanRun) (t0 : Nat), ctlOn s = true →
    s.cal.sess = some x → s.fld F.CAL_ST_STATE = 5 → x.windows = true → x.winT = some t0 →
    (winOver s x t0 = false → exec (.calWindowEnd rs) s = .next s) ∧
    (winOver s x t0 = true → x.dc = false → x.unlk = true → x.again = false →
      ∃ t, exec (.calWindowEnd rs) s = .next t ∧
        t.cal.sess = some { x with winT := some s.clk.site, cyc := 0, unlk := false, again := true } ∧ t.flds = s.flds) ∧
    (winOver s x t0 = true → x.dc = true ∨ x.unlk = false →
      ∃ t y, exec (.calWindowEnd rs) s = .next t ∧ t.cal.sess = some y ∧
        y.freqs = x.freqs ++ [rdiv (x.ncyc * 1000000000) (s.clk.site - t0 : Nat)] ∧ y.again = false ∧ y.winT = some s.clk.site ∧
        t.cal.spoiled = [] ∧
        t.fld F.CAL_ST_STATE = (if y.lost || (windowsDone t y false && refinDone y) then 6 else 5) ∧
        (s.cal.sel.Nodup → ∀ n ∈ s.cal.sel, winBad s t0 n = false → n ∉ s.cal.spoiled →
          (mget SessChan.blank x.chans n).fail = false → (mget SessChan.blank x.chans n).meas.length < x.rpt →
          let w := calWindow s rs x t0 s.clk.site n
          (mget SessChan.blank y.chans n).meas =
            (mget SessChan.blank x.chans n).meas ++ [⟨w.v, w.ph, w.frac, (traceOf s n).refk⟩]))) ∧
  (∀ (s : State) (vm spread : Rat), refinBusy s = none → exec (.refinMeasureComplete vm spread) s = .next s) ∧
  ∀ (s : State) (x : Sess) (vm spread : Rat) (sp : Nat), ctlOn s = true → s.cal.sess = some x → s.fld F.CAL_ST_STATE = 5 →
    x.refin = .waiting → refinBusy s = some sp → (getSp s sp).refin = some .measure →
    ∃ t, exec (.refinMeasureComplete vm spread) s = .next t ∧ t.cal.sess = some { x with refin := .measured vm spread }

/-- The end of a reference session (R20, R207, R212 to R216). -/
def Obligations.ReferenceSessionCommits : Prop :=
  (∀ (s : State) (x : Sess) (fs : List SetFail), ctlOn s = true → s.cal.sess = some x → s.fld F.CAL_ST_STATE = 6 →
    let s1 := touchSets (takeFails fs s)
    ∃ u, exec (.calResult fs) s = .next (raise 120 0xFFFF u) ∧ u.bit F.CAL_ST_REFOK = (refkResult s1 x).isSome ∧
      u.fld F.CAL_ST_STATE =
        (if (sessAlive s1 x).any (chanPasses s1 x (refkResult s1 x)) && !x.lost
            && (!x.refen || (refkResult s1 x).isSome) && decide (|dieTemp s1 - x.temp| ≤ 100) then 7 else 8)) ∧
  (∀ (s : State) (x : Sess), ctlOn s = true → privileged s = true → s.cal.sess = some x →
    (s.fld F.CAL_ST_STATE ≠ 7 → paired s = false → ∃ t, exec .calCommit s = .next t ∧ t = { s with flds := t.flds } ∧
      Writes [(F.CAL_ST_REJ, 0, 1)] s t) ∧
    (s.fld F.CAL_ST_STATE ≠ 7 → paired s = true → ∃ t, exec .calCommit s = .next t ∧
      t = { s with flds := t.flds, cal := { s.cal with jointT := 0 }, cvn := t.cvn
                   twn := { s.twn with out := s.twn.out ++ [.commitAck false], mseq := t.twn.mseq, msgs := t.twn.msgs } } ∧
      Writes [(F.CAL_ST_REJ, 0, 1), (F.CAL_ST_CONFLICT, 0, 1)] s t) ∧
    (s.fld F.CAL_ST_STATE = 7 → ∀ i, commitSet (touchSets s) x = some i →
      (paired s = false → ∃ t, exec .calCommit s = .next t ∧ t.cal.commit = some i ∧ t.fld F.CAL_ST_STATE = 9 ∧
        t.fld F.CAL_ST_REJ = 0) ∧
      (paired s = true → ∃ t, exec .calCommit s = .next t ∧ t.fld F.CAL_ST_STATE = 7 ∧
        t.cal.jointT = jointFrom (s.clk.site + jointDelay) s ∧
        t.twn.out = s.twn.out ++ [.commit s.cal.sel (x.cands.map (·.1)) (s.clk.site + jointDelay)]))) ∧
  (∀ (s : State) (fs : List SetFail), vaultFree s 4 = false → exec (.calCommitComplete fs) s = .next s) ∧
  (∀ (s : State) (x : Sess) (i : Nat) (fs : List SetFail), ctlOn s = true → vaultFree s 4 = true →
    s.cal.sess = some x → s.cal.commit = some i →
    let s1 := touchSets (takeFails fs s)
    ∃ t, exec (.calCommitComplete fs) s = .next (vaultFreed t) ∧ t.cal.sess = none ∧ t.cal.commit = none ∧
      t.fld F.CAL_ST_STATE = 0 ∧
      (copiesOf t i).a = committed s1 x (readSet s1 i) ∧ (copiesOf t i).b = committed s1 x (readSet s1 i) ∧
      t.bit F.CAL_ST_TRIMRUN = true ∧ ∀ j, j ≠ i → copiesOf t j = copiesOf s1 j) ∧
  (∀ s : State, ctlOn s = true → privileged s = true →
    (s.fld F.CAL_ST_STATE = 9 → exec .calAbort s = .next s) ∧
    (s.fld F.CAL_ST_STATE ≠ 9 → ∃ t, exec .calAbort s = .next t ∧ t.fld F.CAL_ST_STATE = 0 ∧ t.cal.sess = none ∧
      (refinBusy s = none → Writes [(F.CAL_ST_STATE, 0, 0)] s t) ∧ t.cal.sets = s.cal.sets ∧ t.cal.trace = s.cal.trace)) ∧
  (∀ (s : State) (i : Fin 8), ctlOn s = true → privileged s = true →
    (s.fld F.CAL_ST_STATE ≠ 0 → exec (.calErase i) s = .next s) ∧
    (s.fld F.CAL_ST_STATE = 0 → vaultFree s 4 = false → exec (.calErase i) s =
      .next { s with host := { s.host with waiting := s.host.waiting ++ [.calErase i] } }) ∧
    (s.fld F.CAL_ST_STATE = 0 → vaultFree s 4 = true →
      ∃ t, exec (.calErase i) s = .next t ∧ (copiesOf t i).a = CalSet.empty ∧ (copiesOf t i).b = CalSet.empty ∧
        t.bit F.CAL_ST_TRIMRUN = true ∧ ∀ j, j ≠ i.val → copiesOf t j = copiesOf s j)) ∧
  (∀ s : State, privileged s = false →
    exec .calCommit s = .next s ∧ exec .calAbort s = .next s ∧ ∀ i, exec (.calErase i) s = .next s) ∧
  ∀ s : State, ctlOn s = true →
    ((s.fld F.CAL_ST_STATE = 2 ∨ s.fld F.CAL_ST_STATE = 4) →
      ∃ u, exec .calSessionTimeout s = .next (raise 120 0xFFFF u) ∧ u.fld F.CAL_ST_STATE = 8 ∧ u.cal = s.cal) ∧
    ((s.fld F.CAL_ST_STATE = 7 ∨ s.fld F.CAL_ST_STATE = 8) →
      ∃ t, exec .calSessionTimeout s = .next t ∧ t.fld F.CAL_ST_STATE = 0 ∧ t.cal.sess = none ∧
        (refinBusy s = none → Writes [(F.CAL_ST_STATE, 0, 0)] s t))

/-- Attach and loss of the Tether (R222 to R228). -/
def Obligations.TetherTrainsAndAttaches : Prop :=
  (∀ s : State, mainOn s = true → (tst s = 1 ∨ tst s = 7) → ∃ t, exec (.commaLock 0) s = .next t ∧ Writes [(F.TWN_ST_STATE, 0, 2)] s t ∧
    t.twn.sets = 0 ∧ t.twn.acked = false) ∧
  (∀ (s : State) (ts : TrainSet), mainOn s = true → tst s = 2 →
    (ts.good = false → exec (.trainingSetReceive (.tether ts)) s = .next { s with twn := { s.twn with sets := 0 } }) ∧
    (ts.good = true → ts.version = 1#8 → ts.side.toNat ≠ s.fld F.PWR_ST_PAIRSIDE →
      ts.leadSide.toNat = s.fld F.TWN_CFG_LEADSIDE → s.twn.sets = 7 → ts.acked = true → s.twn.noCheck = false →
      ∃ t, exec (.trainingSetReceive (.tether ts)) s = .next t ∧ Writes [(F.TWN_ST_STATE, 0, 3),
        (F.TWN_PEER_LO_PEER_LO, 0, ts.uid.toNat % 2 ^ 32), (F.TWN_PEER_HI_PEER_HI, 0, ts.uid.toNat / 2 ^ 32)] s t) ∧
    (ts.good = true → ts.version = 1#8 → ts.side.toNat = s.fld F.PWR_ST_PAIRSIDE →
      ∃ t, exec (.trainingSetReceive (.tether ts)) s = .next t ∧ tst t = 7 ∧ t.bit F.TWN_ST_TRAINL = true)) ∧
  (∀ s : State, ((tst s = 1 ∨ tst s = 2) → ∃ t, exec .tetherTrainTimeout s = .next t ∧ tst t = 7 ∧
      (tst s = 2 → t.bit F.TWN_ST_TRAINL = true)) ∧
    (tst s = 7 → exec .soloRetrain s =
      .next { s with twn := { s.twn with sent := s.twn.sent + 1, tx := some (ownSet s) } })) ∧
  (∀ (s : State) (peer : List Byte) (role : Bool), tst s = 3 →
    ((digestsMatch s (peer.map BitVec.toNat) && !dirtyFive s) = true →
      ∃ t, exec (.digestCompare ⟨peer, role⟩) s = .next t ∧ Writes [(F.TWN_ST_STATE, 0, 4)] s t ∧ t.twn.marks = 0 ∧
        t.twn.lead = becomesLead role s) ∧
    ((digestsMatch s (peer.map BitVec.toNat) && !dirtyFive s) = false →
      ∃ t, exec (.digestCompare ⟨peer, role⟩) s = .next t ∧ tst t = 7 ∧ t.bit F.TWN_ST_DIGL = true ∧ t.twn.noCheck = true)) ∧
  (∀ (s : State) (phase : Int) (site : Nat), (tst s = 4 ∨ tst s = 5 ∨ tst s = 6) →
    ∃ t, exec (.tetherMark phase site) s = .next t ∧
      t.twn.marks = (if |phase| ≤ 100 then min 8 (s.twn.marks + 1) else 0) ∧
      tst t = (if tst s = 4 ∧ |phase| ≤ 100 ∧ 7 ≤ s.twn.marks then 5 else tst s) ∧
      (s.twn.lead = false → (tst s = 6 → t.sfld F.TWN_PHASE_PHERR = clampS 16 phase) ∧
        (s.pwr.metering = false → t.clk.site = site % 2 ^ 64) ∧
        (s.pwr.metering = true → t.clk.site = s.clk.site ∧ t.clk.slew = (site : Int) - s.clk.site ∧ t.clk.ppm = 50)) ∧
      (s.twn.lead = true → t.fld F.TWN_PHASE_PHERR = s.fld F.TWN_PHASE_PHERR ∧ t.clk = s.clk)) ∧
  (∀ (s : State) (x : Transfer), tst s = 5 →
    (s.cal.anyPass = true ∨ s.pwr.metering = true →
      ∃ t, exec (.tetherStateTransfer x) s = .next t ∧ tst t = 6 ∧
        t.fld F.TWN_ST_ROLE = (if s.twn.lead then 1 else 2) ∧ t.bit F.TWN_ST_ATTL = true ∧ t.pls.role = s.twn.lead ∧
        t.twn.loaded = true) ∧
    (s.cal.anyPass = false → s.pwr.metering = false → exec (.tetherStateTransfer x) s = .next s)) ∧
  (∀ s : State, running s = true → s.bit F.TWN_CFG_EN = true → s.pwr.metering = false → s.cal.anyRun = true →
    tst s ≠ 6 → ∃ t, exec .attachWaitExpire s = .next t ∧ tst t = 7 ∧ t.twn.waited = true) ∧
  (∀ (s : State) (n : Chan), ∃ t, exec (.channelWarmingEnd n) s = .next t ∧ mget false t.twn.warm n = false ∧
    t = { s with twn := { s.twn with warm := t.twn.warm } } ∧
    ∀ m, m ≠ n.val → mget false t.twn.warm m = mget false s.twn.warm m) ∧
  (∀ s : State, 3 ≤ tst s → tst s ≤ 6 → ∃ t, exec .tetherLost s = .next t ∧ tst t = 7 ∧
    t.bit F.TWN_ST_LOSSL = true ∧ t.fld F.TWN_ST_ROLE = 0 ∧ t.pls.role = (if tst s = 6 then !s.twn.lead else s.pls.role)) ∧
  ∀ (s : State) (type : Fin 4) (mseq : BitVec 16), 4 ≤ tst s → tst s ≤ 6 →
    let named (x : TwnSent) : Bool := x.type == type.val + 1 && x.mseq == mseq.toNat
    let s1 := { s with twn := { s.twn with
      segs := s.twn.segs.filter fun x => !(x.type == type.val + 1 && x.mseq == mseq.toNat) } }
    (s.twn.msgs.find? named = none → exec (.tetherMessageTimeout ⟨true, type, mseq⟩) s = .next s) ∧
    (∀ m, s.twn.msgs.find? named = some m → m.again = true →
      exec (.tetherMessageTimeout ⟨true, type, mseq⟩) s = exec .tetherLost s) ∧
    (∀ m, s.twn.msgs.find? named = some m → m.again = false → ∃ t, exec (.tetherMessageTimeout ⟨true, type, mseq⟩) s = .next t ∧
      t = { s with cvn := t.cvn
                   twn := { s.twn with msgs := s.twn.msgs.map fun x => if named x then { x with again := true } else x } }) ∧
    (type = 0 → exec (.tetherMessageTimeout ⟨false, type, mseq⟩) s = .next s1) ∧
    (type ≠ 0 → (type.val + 1, mseq.toNat) ∈ s.twn.repeated →
      exec (.tetherMessageTimeout ⟨false, type, mseq⟩) s = exec .tetherLost s1) ∧
    (type ≠ 0 → (type.val + 1, mseq.toNat) ∉ s.twn.repeated → exec (.tetherMessageTimeout ⟨false, type, mseq⟩) s =
      .next { s1 with twn := { s1.twn with repeated := (type.val + 1, mseq.toNat) :: s.twn.repeated } })

/-- Requests of TWN_CTL and control messages (R215, R221, R225, R229, R230, R232). -/
def Obligations.TwinRequestsAndMessages : Prop :=
  (∀ s : State, mainOn s = true → privileged s = true →
    ((tst s ≠ 6 ∨ anyDispute s = true ∨ anyWarm s = true ∨ peerWarm s = true) → ∃ t, exec .twnSwap s = .next t ∧ t = { s with flds := t.flds } ∧
      Writes [(F.TWN_CTL_REJ, 0, 1)] s t) ∧
    (tst s = 6 → anyDispute s = false → anyWarm s = false → peerWarm s = false → ∃ t, exec .twnSwap s = .next t ∧
      t = { s with flds := t.flds, cvn := t.cvn
                   twn := { s.twn with swapReq := true, out := s.twn.out ++ [.swap], mseq := t.twn.mseq, msgs := t.twn.msgs } } ∧
      Writes [(F.TWN_CTL_REJ, 0, 0)] s t) ∧
    (tst s = 6 → ∃ t, exec .twnDetach s = .next t ∧
      t = { s with flds := t.flds, cvn := t.cvn
                   twn := { s.twn with detReq := true, out := s.twn.out ++ [.detach], mseq := t.twn.mseq, msgs := t.twn.msgs } } ∧
      Writes [(F.TWN_CTL_REJ, 0, 0)] s t) ∧
    (tst s = 7 → ∃ t, exec .twnAttach s = .next t ∧ Writes [(F.TWN_CTL_REJ, 0, 0), (F.TWN_ST_STATE, 0, 1)] s t ∧
      t = { s with flds := t.flds, twn := { s.twn with noCheck := false, sets := 0, acked := false, tx := t.twn.tx } } ∧
      t.twn.tx = some (ownSet t)) ∧
    (tst s = 6 → ∃ t, exec .twnTake s = .next t ∧ t = { s with flds := t.flds } ∧ Writes [(F.TWN_CTL_REJ, 0, 1)] s t) ∧
    (tst s ≠ 6 → ∃ t, exec .twnTake s = .next t ∧ t = { s with flds := t.flds, pls := { s.pls with role := true } } ∧
      Writes [(F.TWN_CTL_REJ, 0, 0)] s t)) ∧
  (∀ s : State, privileged s = false → exec .twnSwap s = .next s ∧ exec .twnDetach s = .next s ∧
    exec .twnAttach s = .next s ∧ exec .twnTake s = .next s) ∧
  (∀ (s : State) (m : TwnMsg), tst s ≠ 6 → exec (.tetherControlReceive m) s = .next s) ∧
  (∀ s : State, tst s = 6 →
    let u := takeWhole 2 s
    exec (.tetherControlReceive .swap) s = .next { u with twn := { u.twn with swapReq := true } } ∧
    exec (.tetherControlReceive .detach) s = .next { u with twn := { u.twn with peerDet := true } } ∧
    (∀ n, exec (.tetherControlReceive (.arbitrate n)) s = .next { u with twn := { u.twn with peerArb := n :: s.twn.peerArb } }) ∧
    (∃ t, exec (.tetherControlReceive .failed) s = .next t ∧ Writes [(F.TWN_ST_PEERFAIL, 0, 1)] s t ∧
      t = { u with flds := t.flds, twn := { u.twn with swapReq := s.twn.swapReq || !s.twn.lead } }) ∧
    exec (.tetherControlReceive (.commitAck false)) s = .next (commitConflict u) ∧
    (∀ sel pass t0, (s.fld F.CAL_ST_STATE ≠ 7 ∨ s.cal.sel ≠ sel) →
      ∃ t, exec (.tetherControlReceive (.commit sel pass t0)) s = .next t ∧ t.bit F.CAL_ST_CONFLICT = true ∧
        t.bit F.CAL_ST_REJ = true ∧ t.fld F.CAL_ST_STATE = s.fld F.CAL_ST_STATE ∧ t.cal.commit = s.cal.commit ∧
        t.twn.out = s.twn.out ++ [.commitAck false]) ∧
    ∀ sel t0 x i, s.cal.sess = some x → s.fld F.CAL_ST_STATE = 7 → s.cal.sel = sel →
      commitSet (touchSets u) x = some i →
      ∃ t, exec (.tetherControlReceive (.commit sel (x.cands.map (·.1)) t0)) s = .next t ∧ t.fld F.CAL_ST_STATE = 9 ∧
        t.cal.commit = some i ∧ t.cal.jointT = jointFrom t0 s ∧ t.twn.out = s.twn.out ++ [.commitAck true]) ∧
  ∀ s : State, tst s = 6 → s.bit F.TWN_ST_DIGOK = false →
    ∃ u, exec .digestMismatchTimeout s = .next (raise 36 0xFFFF u) ∧ u = { s with flds := u.flds } ∧
      Writes [(F.TWN_ST_DIGL, 0, 1)] s u

/-- Comparison, arbitration, correction and adoption (R233 to R242). -/
def Obligations.TwinsCompareAndArbitrate : Prop :=
  (∀ (s : State) (r : CmpRec), tst s = 6 → ∃ t, exec (.compareRecordReceive r) s = .next t ∧ r ∈ t.twn.peer ∧
    (∀ x ∈ t.twn.peer, x = r ∨ (x ∈ s.twn.peer ∧ r.time < x.time + 400000000)) ∧
    t.bit F.TWN_ST_DIGOK = (r.digest == digestCrc s && !dirtyFive s && !r.flags.testBit 2) ∧
    t.bit F.TWN_ST_PEERFAIL = (s.bit F.TWN_ST_PEERFAIL || r.flags.testBit 1) ∧
    (escortAt s r.time = false → s.mtr.wait = [] → t.pls = s.pls)) ∧
  (∀ (s : State) (t0 : Nat), tst s = 6 → s.twn.evalT = t0 → (∀ x ∈ s.twn.peer, x.time ≠ t0) →
    ∃ t, exec (.compareEvaluation t0) s = .next t ∧
      t.fld F.TWN_CNT_LOSTREC = min F.TWN_CNT_LOSTREC.top (s.fld F.TWN_CNT_LOSTREC + 1) ∧ t.twn.ownCh = []) ∧
  (∀ (s : State) (t0 : Nat) (x : OwnChan) (y : ChanItem), tst s = 6 → s.twn.evalT = t0 → (∃ r ∈ s.twn.peer, r.time = t0) →
    s.bit F.TWN_ST_DIGOK = true → s.twn.ownCh = [x] → matching s x = some y → s.twn.disputes = [] → s.twn.adopts = [] →
    s.twn.arbSent = [] → s.twn.peerArb = [] → x.item.stream < 144 → x.item.cflags = 0 → y.cflags = 0 →
    (itemFails s x.item.stream x.nc x.item y = false → ∃ t, exec (.compareEvaluation t0) s = .next t ∧
      t.fld F.TWN_CHST_FAILS x.item.stream = 0 ∧ t.fld F.TWN_CHST_CSTATE x.item.stream = 1 ∧ t.twn.disputes = []) ∧
    (itemFails s x.item.stream x.nc x.item y = true →
      s.fld F.TWN_CHST_FAILS x.item.stream + 1 < s.fld F.TWN_CMP_CPERS → ∃ t, exec (.compareEvaluation t0) s = .next t ∧
        t.fld F.TWN_CHST_FAILS x.item.stream = min F.TWN_CHST_FAILS.top (s.fld F.TWN_CHST_FAILS x.item.stream + 1) ∧
        t.twn.disputes = [])) ∧
  (∀ (s : State) (n : Chan) (d : Dispute), mget none s.twn.disputes n = some d → d.mine = 0 →
    ∃ t, exec (.witnessConnected n) s = .next t ∧ mget none t.twn.disputes n = some { d with wit := some s.clk.site, cycles := [] } ∧
      Writes [(F.TWN_CHST_CSTATE, n.val, 5)] s t) ∧
  (∀ (s : State) (n : Chan), running s = true →
    ((∀ x ∈ s.twn.spans, x.n ≠ n) → exec (.twinCorrectionApply n) s = .next s) ∧
    ∃ t, exec (.twinCorrectionApply n) s = .next t ∧ t.twn.spans = s.twn.spans.filter (·.n != n.val)) ∧
  (∀ (s : State) (m : Meter) (n : Chan) (run : ChanRun), running s = true →
    (mget none s.mtr.held m = none → exec (.adoptedSamplesReceive m n run) s = .next (takeWhole 4 s)) ∧
    (∀ h, mget none s.mtr.held m = some h → n.val ∉ h.adopted →
      exec (.adoptedSamplesReceive m n run) s = .next (takeWhole 4 s)) ∧
    ∀ h k, n.val ∈ h.adopted → mget none s.mtr.held m = some h → k ∈ awaited h → k ≠ n.val →
      ∃ t, exec (.adoptedSamplesReceive m n run) s = .next t ∧
        mget none t.mtr.held m = some { h with got := { run with ref := BitVec.ofNat 16 n } :: h.got } ∧
        t = { takeWhole 4 s with mtr := { s.mtr with held := t.mtr.held } }) ∧
  ∀ (s : State) (n : Chan) (d : Dispute), mget none s.twn.disputes n = some d → d.unres = true → tst s = 6 →
    ∃ t x, exec (.disputeRearbitrate n) s = .next t ∧ mget none t.twn.disputes n = some x ∧ x.t = s.clk.site ∧
      x.unres = true ∧ x.wit = none ∧ x.cycles = [] ∧ t.fld F.TWN_CHST_CSTATE n = 5

/-- Link frames and ports (R264, R266, R268, R273). -/
def Obligations.LinksCarryFrames : Prop :=
  (∀ (s : State) (p : CPort) (q : Port) (f : LinkFrame), q.val = p.val + 1 → running s = true →
    let u := linkAnswer q f.lseq.toNat true s
    (portUp s p = false → exec (.linkFrameReceive q f) s = .next s) ∧
    (portUp s p = true → frameOk q f s = false → transit f s = false → ¬ (p.val = 2 ∧ lstate s 2 = 3 ∧ f.body = .idle) →
      ∃ t, exec (.linkFrameReceive q f) s = .next t ∧
        t = { s with flds := t.flds, cvn := { s.cvn with ports := t.cvn.ports } } ∧
        Writes [(F.CVN_PCNT_CRCERR, p.val, min 65535 (s.fld F.CVN_PCNT_CRCERR p + 1))] s t ∧
        (getPort t q).answer = some (f.lseq.toNat, false)) ∧
    (portUp s p = true → frameOk q f s = false → p.val = 2 → lstate s 2 = 3 → f.body = .idle →
      ∃ v, exec (.linkFrameReceive q f) s = .next (transient 6 3 0 false true v) ∧
        Writes [(F.CVN_PCNT_CRCERR, 2, min 65535 (s.fld F.CVN_PCNT_CRCERR 2 + 1))] s v ∧
        (getPort v q).answer = some (f.lseq.toNat, false)) ∧
    (portUp s p = true → frameOk q f s = true → f.body = .idle → exec (.linkFrameReceive q f) s = .next u) ∧
    (∀ xs, portUp s p = true → frameOk q f s = true → f.body = .subscribe xs → f.dst.toNat = position s →
      exec (.linkFrameReceive q f) s =
        .next { u with cvn := { u.cvn with sub := xs.map fun x => (x.1.val, x.2.val) } }) ∧
    (portUp s p = true → frameOk q f s = true → passing f.body = .dst → transit f s = true → f.dst ≠ 0xFF →
      ∃ t, exec (.linkFrameReceive q f) s = .next t ∧ t = { s with cvn := { s.cvn with ports := t.cvn.ports } } ∧
        (getPort t q).answer = some (f.lseq.toNat, true) ∧
        ∀ k < 3, k ≠ p.val → (portActive s k = true → Queued t (k + 1) (onPort k (onward f))) ∧
          (portActive s k = false → getPort t (k + 1) = getPort s (k + 1))) ∧
    (∀ b, portUp s p = true → frameOk q f s = true → f.body = .samples [b] → f.dst.toNat = position s → isHead s = true →
      paired s = false →
      let old := mget RemFlags.none_ s.mtr.rem (remKey f.src.toNat b.stream)
      let t1 := b.time + (nearest (b.xs.length * periodNs b.preset)).toNat
      ∃ t, exec (.linkFrameReceive q f) s = .next t ∧
        mget RemFlags.none_ t.mtr.rem (remKey f.src.toNat b.stream) =
          ⟨noteSpan b.ovr b.time t1 old.ovr, noteSpan b.opened b.time t1 old.opened, noteSpan b.settle b.time t1 old.settle,
            noteSpan b.nosync b.time t1 old.nosync, b.preset⟩ ∧
        t = { s with cvn := t.cvn, mtr := { s.mtr with rem := t.mtr.rem, hist := t.mtr.hist } }) ∧
    (∀ n t0 t1 ok, portUp s p = true → frameOk q f s = true → f.body = .coverage n t0 t1 ok → f.dst.toNat = position s →
      isHead s = true → paired s = false → exec (.linkFrameReceive q f) s =
        .next (addCov (65536 + remKey f.src.toNat n) ⟨t0, t1, ok, s.clk.site⟩ u)) ∧
    ∀ seq count keys vals, portUp s p = true → frameOk q f s = true → f.body = .summary seq count keys vals →
      f.dst.toNat = position s → isHead s = true → ∃ t, exec (.linkFrameReceive q f) s = .next t ∧
        mget none t.cvn.sums f.src.toNat = some ⟨seq % 65536, count, vals.take 100⟩ ∧
        t = { u with cvn := { u.cvn with sums := t.cvn.sums } }) ∧
  (∀ (s : State) (p : Port) (l : BitVec 16), running s = true → linkUp s p = true →
    exec (.linkAckReceive p l false) s = exec (.frameAckTimeout p l) s ∧
    (inAir s p l.toNat = none → exec (.linkAckReceive p l true) s = .next s ∧ exec (.frameAckTimeout p l) s = .next s) ∧
    (∀ f, inAir s p l.toNat = some f → (∀ x ∈ s.cvn.retried, ¬ (x.1 = p.val ∧ x.2.1 = l.toNat)) →
      exec (.linkAckReceive p l true) s = .next (linkDone p l.toNat s) ∧
      ∃ t b, exec (.frameAckTimeout p l) s = .next t ∧ t.cvn.retried = (p.val, l.toNat, b) :: s.cvn.retried ∧
        { f with flags := f.flags ||| 1 } ∈ (getPort t p).wait ++ (getPort t p).air ∧
        (p.val = 0 → t.fld F.TWN_CNT_RETX = min 65535 (s.fld F.TWN_CNT_RETX + 1)) ∧
        (p.val ≠ 0 → t.fld F.CVN_PCNT_RETX (p.val - 1) = min 65535 (s.fld F.CVN_PCNT_RETX (p.val - 1) + 1))) ∧
    (∀ f, inAir s p l.toNat = some f → s.cvn.retried = [(p.val, l.toNat, false)] →
      (∃ t, exec (.linkAckReceive p l true) s = .next t ∧ t.cvn.retried = [] ∧ inAir t p l.toNat = none ∧
        t.fld F.FLTS_CNT_TRANS (if p.val = 0 then 5 else 6) =
          min 65535 (s.fld F.FLTS_CNT_TRANS (if p.val = 0 then 5 else 6) + 1)) ∧
      (∃ t, exec (.frameAckTimeout p l) s = .next t ∧ t.cvn.retried = [] ∧
        t.fld F.FLTS_CNT_PERM (if p.val = 0 then 5 else 6) =
          min 65535 (s.fld F.FLTS_CNT_PERM (if p.val = 0 then 5 else 6) + 1) ∧
        (p.val ≠ 0 → lstate t (p.val - 1) = 4 ∧ t.bit F.CVN_ST_LINKL = true)))) ∧
  (∀ (s : State) (p : Port), running s = true → linkUp s p = true → ∃ t, exec (.idleFrameSend p) s = .next t ∧
    t = { s with cvn := { s.cvn with ports := t.cvn.ports, eseq := t.cvn.eseq } } ∧
    mget 0 t.cvn.eseq 0 = (mget 0 s.cvn.eseq 0 + 1) % 65536 ∧
    ∃ g ∈ (getPort t p).wait ++ (getPort t p).air, g.type = 0 ∧ g.payload = [] ∧ g.eseq = mget 0 s.cvn.eseq 0) ∧
  (∀ (s : State) (p : CPort), running s = true →
    (portUp s p = true → ∃ t, exec (.linkOut p) s = .next t ∧ lstate t p = 4 ∧ t.bit F.CVN_ST_LINKL = true) ∧
    (lstate s p = 4 → ∃ t, exec (.portRetrain p) s = .next t ∧ Writes [(F.CVN_PST_LSTATE, p.val, 1)] s t ∧
      mget 0 t.cvn.sets p = 0 ∧ mget false t.cvn.acked p = false) ∧
    ∀ rtt turn : Nat, portUp s p = true → ∃ t, exec (.linkDelayMeasure p rtt turn) s = .next t ∧
      Writes [(F.CVN_PDLY_DELAY, p.val, min (2 ^ 32 - 1) ((rtt - turn) / 2))] s t) ∧
  ∀ (s : State) (t0 : Nat) (runs : List ChanRun),
    (running s = true → s.cvn.cfg.en = true → isHead s = false → s.cvn.sub ≠ [] →
      (paired s = false ∨ s.pls.role = true) → isCutOff s = false → t0 % 125000 = 0 → t0 < 2 ^ 64 →
      ∃ t, exec (.caravanSampleSend t0 runs) s = .next t ∧
        ⟨mget 0 s.cvn.eseq 0x15, t0, s.cvn.sub.filterMap (sampleBlock (reachTime t0 s) runs)⟩ ∈ t.cvn.kept ∧
        mget 0 t.cvn.eseq 0x15 = (mget 0 s.cvn.eseq 0x15 + 1) % 65536 ∧ t.clk.site = max s.clk.site t0 ∧ t.flds = s.flds) ∧
    (t0 % 125000 ≠ 0 ∨ sendsSamples s = false → exec (.caravanSampleSend t0 runs) s = .next s)

/-- The ring, timing marks and the summary page (R266 to R272, R276). -/
def Obligations.RingAndTimingMarks : Prop :=
  (∀ (s : State) (present : BitVec 64) (chainUp closure reached ringTime : Bool), running s = true → isHead s = true →
    ∃ t, exec (.ringDiscovery present chainUp closure reached ringTime) s = .next t ∧
      t.fld F.CVN_PRES_LO_PRES_LO = (present.toNat ||| 2 ^ position s) % 2 ^ 32 ∧
      t.fld F.CVN_PRES_HI_PRES_HI = (present.toNat ||| 2 ^ position s) / 2 ^ 32 % 2 ^ 32 ∧
      t.fld F.CVN_ST_RING = (if reached = false then 3 else if chainUp && closure then 1 else 2) ∧
      t.fld F.CVN_ST_STATE = (if s.fld F.CVN_ST_STATE = 1 ∨ s.fld F.CVN_ST_STATE = 2 then
          if s.cvn.locked || !ringTime then 4 else 2
        else if s.cvn.locked = true ∧ (s.fld F.CVN_ST_STATE = 3 ∨ s.fld F.CVN_ST_STATE = 5) then 4
        else s.fld F.CVN_ST_STATE) ∧
      (s.fld F.CVN_ST_STATE = 1 ∨ s.fld F.CVN_ST_STATE = 2 → ringTime = false → t.bit F.CVN_ST_SYNC = true)) ∧
  (∀ (s : State) (a b : Pos), running s = true → s.cvn.cfg.en = true →
    ((min a.val b.val, max a.val b.val) ∈ s.cvn.broken → exec (.ringBreak a b) s = .next s) ∧
    ((min a.val b.val, max a.val b.val) ∉ s.cvn.broken → ∃ t, exec (.ringBreak a b) s = .next t ∧
      t.cvn.broken = (min a.val b.val, max a.val b.val) :: s.cvn.broken ∧
      t.fld F.CVN_ST_RING = ringAfter s)) ∧
  (∀ (s : State) (t0 : Nat), running s = true → isHead s = true → t0 % 1000000 = 0 →
    (s.fld F.CVN_ST_STATE = 4 → t0 < 2 ^ 64 → ∃ t, exec (.timingMarkOriginate t0) s = .next t ∧
      t.cvn.marks = (s.cvn.marks + 1) % 65536 ∧ t.clk.site = max s.clk.site t0 ∧ t.flds = s.flds ∧
      ∀ k < 3, portUp s k = true → Queued t (k + 1) (onPort k
        (memberFrame (reachTime t0 s) 0xFF (.mark (markNow (reachTime t0 s)))))) ∧
    (s.fld F.CVN_ST_STATE ≠ 4 → s.cvn.locked = false → exec (.timingMarkOriginate t0) s = .next s)) ∧
  (∀ (s : State) (p : CPort) (m : TimingMark), running s = true → s.cvn.cfg.en = true → portUp s p = true →
    (s.cvn.lastSeq = some m.body.seq.toNat → exec (.timingMarkReceive p m) s = .next s) ∧
    (s.cvn.lastSeq ≠ some m.body.seq.toNat → isHead s = false →
      (s.fld F.CVN_ST_STATE = 1 ∨ s.fld F.CVN_ST_STATE = 2 → s.pwr.metering = false → followsLead s = false →
        ∃ t, exec (.timingMarkReceive p m) s = .next t ∧ t.fld F.CVN_ST_STATE = 3 ∧ t.cvn.src = some p.val ∧
          t.clk.site = (m.body.site + (nearest (((m.body.corr + s.fld F.CVN_PDLY_DELAY p : Nat) : Rat) / 1000)).toNat) % 2 ^ 64 ∧
          t.fld F.CVN_SYNC_HOPS = min 255 (m.body.hops + 1)) ∧
      (s.fld F.CVN_ST_STATE = 3 ∨ s.fld F.CVN_ST_STATE = 4 ∨ s.fld F.CVN_ST_STATE = 5 →
        ∃ t, exec (.timingMarkReceive p m) s = .next t ∧
          t.clk = if followsLead s then s.clk
            else { s.clk with slew := (markTime p m s : Int) - s.clk.site, ppm := 50, slewT := 0 }) ∧
      (s.fld F.CVN_ST_STATE = 3 → ∃ t, exec (.timingMarkReceive p m) s = .next t ∧
        t.cvn.good = (if |m.phase| ≤ 100 then min 8 (s.cvn.good + 1) else 0) ∧
        t.fld F.CVN_ST_STATE = (if |m.phase| ≤ 100 ∧ 7 ≤ s.cvn.good then 4 else 3) ∧
        t.sfld F.CVN_SYNC_PHERR = clampS 16 m.phase) ∧
      (s.fld F.CVN_ST_STATE = 5 → ∃ t, exec (.timingMarkReceive p m) s = .next t ∧ t.fld F.CVN_ST_STATE = 3 ∧
        t.cvn.good = 0))) ∧
  (∀ (s : State) (sync : Bool), running s = true → s.cvn.cfg.en = true → isHead s = false →
    ∃ t, exec (.memberMarkTimeout sync) s = .next t ∧
      t.fld F.CVN_ST_STATE = (if s.fld F.CVN_ST_STATE = 4 then 5 else s.fld F.CVN_ST_STATE) ∧
      t.bit F.CVN_ST_SYNC = (s.bit F.CVN_ST_SYNC && !sync) ∧
      (sync = true → s.bit F.CVN_ST_SYNC = true → t.bit F.CVN_ST_SYNCL = true)) ∧
  (∀ s : State, running s = true → s.cvn.cfg.en = true → isHead s = false →
    (∃ p < 3, portUp s p = true) → ∃ u, exec .headMarksLost s = .next (raise 53 0xFFFF u) ∧ u = { s with flds := u.flds } ∧
      Writes [(F.CVN_ST_HEADL, 0, 1)] s u) ∧
  (∀ s : State, running s = true → s.cvn.cfg.en = true → isHead s = false → followsLead s = false →
    (s.fld F.CVN_ST_STATE = 1 ∨ s.fld F.CVN_ST_STATE = 2) →
    exec .joinWaitExpire s = .next { s with cvn := { s.cvn with waited := true } }) ∧
  (∀ (s : State) (p : Pos), mainOn s = true →
    (∃ t, exec (.cvnMselWrite false p) s = .next t ∧ t = { s with flds := t.flds, cvn := { s.cvn with hold := none } } ∧
      Writes [(F.CVN_MSEL_MEMBER, 0, p.val), (F.CVN_MSEL_HOLD, 0, 0), (F.CVN_MSEL_EXP, 0, 0)] s t) ∧
    ((∀ h, s.cvn.hold = some h → h.1 ≠ p.val) → ∃ t, exec (.cvnMselWrite true p) s = .next t ∧
      t = { s with flds := t.flds, cvn := { s.cvn with hold := some (p.val, mget none s.cvn.sums p) } } ∧
      Writes [(F.CVN_MSEL_MEMBER, 0, p.val), (F.CVN_MSEL_HOLD, 0, 1), (F.CVN_MSEL_EXP, 0, 0)] s t) ∧
    (∀ x, s.cvn.hold = some (p.val, x) → ∃ t, exec (.cvnMselWrite true p) s = .next t ∧ t = { s with flds := t.flds } ∧
      Writes [(F.CVN_MSEL_MEMBER, 0, p.val), (F.CVN_MSEL_EXP, 0, 0)] s t)) ∧
  ∀ s : State, s.cvn.hold ≠ none → ∃ t, exec .cvnMselHoldExpire s = .next t ∧
    t = { s with flds := t.flds, cvn := { s.cvn with hold := none } } ∧
    Writes [(F.CVN_MSEL_HOLD, 0, 0), (F.CVN_MSEL_EXP, 0, 1)] s t

/-- Adjustments and holdover of site time (R278, R279). -/
def Obligations.SiteTimeIsAdjusted : Prop :=
  (∀ s : State, mainOn s = true → privileged s = true →
    (isMaster s = false → ∃ t, exec .cvnAdjGo s = .next t ∧ t = { s with flds := t.flds } ∧
      Writes [(F.CVN_ADJCTL_REJ, 0, 1)] s t) ∧
    ∀ off : Int, isMaster s = true →
      off = signed 64 (s.fld F.CVN_ADJ_LO_ADJ_LO + 2 ^ 32 * s.fld F.CVN_ADJ_HI_ADJ_HI) →
      (|off| ≤ 10000000 → ∃ t, exec .cvnAdjGo s = .next t ∧
        t = { s with flds := t.flds, clk := { s.clk with slew := off, ppm := 10, slewT := 0 }, cvn := { s.cvn with step := none } } ∧
        Writes [(F.CVN_ADJCTL_REJ, 0, 0), (F.CVN_ADJCTL_GO, 0, 1), (F.CVN_ADJCTL_SLEW, 0, 1)] s t) ∧
      (10000000 < |off| → ∃ t, exec .cvnAdjGo s = .next t ∧
        t = { s with flds := t.flds, cvn := { s.cvn with step := some ((s.clk.site / 1000000000 + 1) * 1000000000, off) } } ∧
        Writes [(F.CVN_ADJCTL_REJ, 0, 0), (F.CVN_ADJCTL_GO, 0, 1)] s t)) ∧
  (∀ s : State, privileged s = false → exec .cvnAdjGo s = .next s) ∧
  (∀ s : State, s.cvn.step = none → exec .siteTimeStep s = .next s) ∧
  (∀ (s : State) (at_ : Nat) (off : Int), s.cvn.step = some (at_, off) →
    let v := if running s && s.pwr.metering then closeIntervals [] (sendSummary (writeCkpt false (reachTime at_ s)))
      else reachTime at_ s
    ∃ u, exec .siteTimeStep s = .next (raise 55 0xFFFF u) ∧ u.clk = (stepTime off v).clk ∧
      u.clk.site = moveT off v.clk.site % 2 ^ 64 ∧ u.clk.slew = 0 ∧ u.cvn.step = none ∧
      u.cvn.steps = v.cvn.steps + 1 ∧ u.bit F.CVN_ST_STEPL = true ∧ u.bit F.CVN_ADJCTL_GO = false) ∧
  (∀ s : State, s.bit F.CVN_ADJCTL_SLEW = false → exec .siteTimeSlewComplete s = .next s) ∧
  (∀ s : State, s.bit F.CVN_ADJCTL_SLEW = true →
    ∃ t, exec .siteTimeSlewComplete s = .next t ∧ t.clk.site = moveT s.clk.slew s.clk.site % 2 ^ 64 ∧
      t.clk.slew = 0 ∧ Writes [(F.CVN_ADJCTL_SLEW, 0, 0), (F.CVN_ADJCTL_GO, 0, 0)] s t) ∧
  ∀ s : State, running s = true → isHead s = true → s.cvn.cfg.siteEn = true → s.cvn.cfg.master = false →
    (s.bit F.CVN_SITE_SITESYNC = true → ∃ u, exec .siteHoldover s = .next (raise 54 0xFFFF u) ∧
      Writes [(F.CVN_SITE_HOLD, 0, 1), (F.CVN_SITE_SITESYNC, 0, 0)] s u ∧ u = { s with flds := u.flds }) ∧
    (s.bit F.CVN_SITE_SITESYNC = false → ∃ t, exec .siteHoldover s = .next t ∧
      Writes [(F.CVN_SITE_HOLD, 0, 1)] s t ∧ t = { s with flds := t.flds })

/-- Sending on Wayline (R291 to R295, R300). -/
def Obligations.WaylineSendsFrames : Prop :=
  (∀ (s : State) (t0 : Nat), running s = true → t0 % 40000000 = 0 → waySend s = true → s.bit F.SBX_OPCTL_PROMOTE = false →
    ∃ t, exec (.beaconPeriodStart t0) s = .next t ∧ t.way.move = none ∧
      t.fld F.WAY_ST_BSLOTNOW = (match s.way.move with
        | some k => k % 16
        | none => s.fld F.WAY_ST_BSLOTNOW) ∧
      (s.way.even = false → t.fld F.WAY_CNT_TXFR =
        min 65535 (s.fld F.WAY_CNT_TXFR + if s.fld F.WAY_CFG_CPL = 3 then 2 else 1))) ∧
  (∀ (s : State) (x : WayTx), waySend s = true → s.way.air = none → s.way.txq = [x] → soundDue s x = false →
    (x.dst = 0xFFFF → ∃ t, exec .contentionSend s = .next t ∧ t.way.txq = [] ∧ t.way.air = none ∧
      t.fld F.WAY_CNT_TXFR = min 65535 (s.fld F.WAY_CNT_TXFR + (sidesFor s x).length)) ∧
    (x.dst ≠ 0xFFFF → ∃ t, exec .contentionSend s = .next t ∧ t.way.txq = [] ∧
      t.way.air = some { x with count := 0, seq := nextSeq s x.dst } ∧
      t.fld F.WAY_CNT_TXFR = min 65535 (s.fld F.WAY_CNT_TXFR + 1) ∧
      mget 0 t.way.seqs x.dst = (mget 0 s.way.seqs x.dst + 1) % 256)) ∧
  (∀ (s : State) (x : WayTx), wayOn s = true → s.way.air = some x →
    (x.tries = 0 → ∃ t c, exec .waylineAckTimeout s = .next t ∧ t.way.air = none ∧
      t.way.txq = s.way.txq ++ [{ x with tries := 1, cw := min (4 * baseCw x.pri) (2 * x.cw), count := c }] ∧
      t.flds = s.flds) ∧
    (x.tries = 3 → ∃ t, exec .waylineAckTimeout s = .next t ∧ t.way.air = none ∧ t.way.txq = s.way.txq ∧
      t.fld F.WAY_CNT2_LOST = min 255 (s.fld F.WAY_CNT2_LOST + 1) ∧
      (x.host = true → t.fld F.WAY_TXCTL_RESULT = 1 ∧ t.bit F.WAY_TXCTL_GO = false))) ∧
  (∀ s : State, waySend s = true →
    (s.fld F.WAY_CFG_DISC = 0 → exec .discoverySend s = .next s) ∧
    (s.fld F.WAY_CFG_DISC ≠ 0 → ∃ t xs, exec .discoverySend s = .next t ∧ t.way.txq = s.way.txq ++ xs ∧ t.flds = s.flds ∧
      xs.map WayTx.dc = ownSides s ∧
      ∀ x ∈ xs, x.ftype = 6 ∧ x.dst = 0xFFFF ∧ x.host = false ∧ x.info = discoveryInfo x.dc s)) ∧
  (∀ (s : State) (pri : Fin 4) (len : Fin 2048) (dst : BitVec 16), mainOn s = true →
    (s.bit F.WAY_TXCTL_GO = true → ∃ t, exec (.wayTxGo pri len dst) s = .next t ∧ t = { s with flds := t.flds } ∧
      Writes [(F.WAY_TXCTL_PRI, 0, pri.val), (F.WAY_TXCTL_LEN, 0, len.val), (F.WAY_TXCTL_DST, 0, dst.toNat)] s t) ∧
    (s.bit F.WAY_TXCTL_GO = false → ctlOn s = false → ∃ t, exec (.wayTxGo pri len dst) s = .next t ∧
      t = { s with flds := t.flds, host := { s.host with waiting := s.host.waiting ++ [.txGo pri len dst.toNat] } } ∧
      Writes [(F.WAY_TXCTL_PRI, 0, pri.val), (F.WAY_TXCTL_LEN, 0, len.val), (F.WAY_TXCTL_DST, 0, dst.toNat),
        (F.WAY_TXCTL_GO, 0, 1)] s t)) ∧
  (∀ (s : State) (pri : Fin 4) (len : Fin 2048) (dst : BitVec 16), ctlOn s = true →
    (s.bit F.WAY_TXCTL_GO = false →
      (len.val = 0 ∨ 1024 < len.val ∨ keyed s = false ∨ (dst ≠ 0xFFFF ∧ findNbr s dst.toNat = none)) →
      ∃ t, exec (.wayTxGo pri len dst) s = .next t ∧ t = { s with flds := t.flds } ∧
        Writes [(F.WAY_TXCTL_PRI, 0, pri.val), (F.WAY_TXCTL_LEN, 0, len.val), (F.WAY_TXCTL_DST, 0, dst.toNat),
          (F.WAY_TXCTL_GO, 0, 0), (F.WAY_TXCTL_RESULT, 0, 2)] s t) ∧
    (s.bit F.WAY_TXCTL_GO = false → 0 < len.val → len.val ≤ 1024 → keyed s = true →
      (dst = 0xFFFF ∨ findNbr s dst.toNat ≠ none) →
      ∃ t x, exec (.wayTxGo pri len dst) s = .next t ∧ t.way.txq = s.way.txq ++ [x] ∧ x.host = true ∧ x.ftype = 1 ∧
        x.dst = dst.toNat ∧ x.pri = min 1 pri.val ∧ x.data = (windowBytes s F.WAY_TXBUF_DATA 256).take len ∧
        Writes [(F.WAY_TXCTL_PRI, 0, pri.val), (F.WAY_TXCTL_LEN, 0, len.val), (F.WAY_TXCTL_DST, 0, dst.toNat),
          (F.WAY_TXCTL_GO, 0, 1)] s t)) ∧
  ∀ s : State, mainOn s = true → ∃ t, exec .wayRxNext s = .next t ∧ t.way.rxq = s.way.rxq.drop 1 ∧
    t.bit F.WAY_RXST_AVAIL = !(s.way.rxq.drop 1).isEmpty ∧ t.fld F.WAY_RXST_DEPTH = (s.way.rxq.length - 1) % 8 ∧
    t = { s with flds := t.flds, way := { s.way with rxq := t.way.rxq } }

/-- Receiving on Wayline, neighbours and the parent (R289 to R299, R172). -/
def Obligations.WaylineReceivesAndKeepsNeighbours : Prop :=
  (∀ (s : State) (f : WayFrame), wayOn s = true →
    ((f.fcOk = false ∨ f.netid.toNat ≠ s.fld F.WAY_NET_NETID ∨ 9 ≤ f.ftype.val ∨ 82 < f.nsym) →
      exec (.waylineFrameReceive f) s = .next (takeSymbols f.rx s)) ∧
    (∀ x, f.fcOk = true → f.netid.toNat = s.fld F.WAY_NET_NETID → f.nsym ≤ 82 → f.ftype = 2 → f.ra.toNat = naddr s →
      s.way.air = some x → x.dst = f.ta.toNat → x.seq = f.seq.toNat → x.tries = 0 → x.host = false →
      ∃ t, exec (.waylineFrameReceive f) s = .next t ∧
        t = { s with flds := t.flds, way := { s.way with air := none, soft := t.way.soft } } ∧
        Writes [(F.WAY_CNT_RXFR, 0, min 65535 (s.fld F.WAY_CNT_RXFR + 1))] s t) ∧
    (∀ osa oda fcnt body mic, f.fcOk = true → f.netid.toNat = s.fld F.WAY_NET_NETID → f.nsym ≤ 82 →
      (f.ftype.val < 2 ∨ (5 ≤ f.ftype.val ∧ f.ftype.val ≤ 8)) → f.ra.toNat ≠ naddr s →
      allErased (takeSymbols f.rx s) = false →
      parsePayload f.kidx (f.payload.map BitVec.toNat) = some (osa, oda, fcnt, body, mic) →
      authenticate s f.netid.toNat f.ftype f.kidx osa oda fcnt body mic = none →
      ∃ u, exec (.waylineFrameReceive f) s = .next (raise 61 f.ta.toNat u) ∧
        u = { s with flds := u.flds, way := (takeSymbols f.rx s).way } ∧
        Writes [(F.WAY_CNT_RXFR, 0, min 65535 (s.fld F.WAY_CNT_RXFR + 1)),
          (F.WAY_CNT2_AUTHF, 0, min 255 (s.fld F.WAY_CNT2_AUTHF + 1)), (F.WAY_ST_AUTHL, 0, 1)] s u) ∧
    (f.fcOk = true → f.netid.toNat = s.fld F.WAY_NET_NETID → f.nsym ≤ 82 →
      (f.ftype.val < 2 ∨ (5 ≤ f.ftype.val ∧ f.ftype.val ≤ 8)) → f.ra.toNat = naddr s → allErased (takeSymbols f.rx s) = true →
      ∃ t, exec (.waylineFrameReceive f) s = .next t ∧
        t = { s with flds := t.flds, way := { (takeSymbols f.rx s).way with sent := t.way.sent } } ∧
        Writes [(F.WAY_CNT_TXFR, 0, min 65535 (s.fld F.WAY_CNT_TXFR + 1))] s t)) ∧
  (∀ (s : State) (f : WayFrame), wayOn s = false → exec (.waylineFrameReceive f) s = .next s) ∧
  (∀ (s : State) (i : Fin 512) (x : Nbr), wayOn s = true → mget none s.way.nbr i = some x →
    (∃ t, exec (.neighbourAgeOut i) s = .next t ∧ mget none t.way.nbr i = none ∧
      t.way.parent = (if s.way.parent = some x.naddr then none else s.way.parent) ∧
      (∀ j, j ≠ i.val → mget none t.way.nbr j = mget none s.way.nbr j) ∧ t = { s with way := t.way }) ∧
    (x.mode = 0 → ∃ t, exec (.toneMapExpire i) s = .next t ∧ t = { s with way := { s.way with nbr := t.way.nbr } } ∧
      mget none t.way.nbr i = some { x with mode := 1, tmi := 0, bits := 304, sound := true }) ∧
    (x.mode ≠ 0 → exec (.toneMapExpire i) s = .next s)) ∧
  (∀ (s : State) (rtt turn a : Nat), waySend s = true → isHead s = true → s.cvn.cfg.siteEn = true → s.way.parent = some a →
    ∃ t, exec (.parentDelayExchange rtt turn) s = .next t ∧ t.way.delays = (((rtt - turn) / 2) :: s.way.delays).take 8 ∧
      mget 0 t.way.seqs a = nextSeq s a ∧ Writes [(F.WAY_CNT_TXFR, 0, min 65535 (s.fld F.WAY_CNT_TXFR + 1))] s t) ∧
  (∀ s : State, wayOn s = true → isHead s = true → s.cvn.cfg.siteEn = true → s.cvn.cfg.master = false →
    (bestParent s = none → exec .parentChange s =
      .next { s.put F.CVN_SITE_LEVEL 0 0xF with way := { s.way with parent := none } }) ∧
    ∀ x, bestParent s = some x → (s.way.parent = some x.naddr → exec .parentChange s = .next s) ∧
      (s.way.parent ≠ some x.naddr → exec .parentChange s =
        .next (raise 60 x.naddr { s with way := { s.way with parent := some x.naddr, delays := [] } }))) ∧
  (∀ (s : State) (i : Fin 512), mainOn s = true →
    (∃ t, exec (.wayNselWrite false i) s = .next t ∧ t = { s with flds := t.flds, way := { s.way with hold := none } } ∧
      Writes [(F.WAY_NSEL_INDEX, 0, i.val), (F.WAY_NSEL_HOLD, 0, 0), (F.WAY_NSEL_EXP, 0, 0)] s t) ∧
    ((∀ h, s.way.hold = some h → h.1 ≠ i.val) → ∃ t, exec (.wayNselWrite true i) s = .next t ∧
      t = { s with flds := t.flds, way := { s.way with hold := some (i.val, mget none s.way.nbr i) } } ∧
      Writes [(F.WAY_NSEL_INDEX, 0, i.val), (F.WAY_NSEL_HOLD, 0, 1), (F.WAY_NSEL_EXP, 0, 0)] s t)) ∧
  ∀ s : State, s.way.hold ≠ none → ∃ t, exec .wayNselHoldExpire s = .next t ∧
    t = { s with flds := t.flds, way := { s.way with hold := none } } ∧
    Writes [(F.WAY_NSEL_HOLD, 0, 0), (F.WAY_NSEL_EXP, 0, 1)] s t

/-- Key messages (R327 to R331). -/
def Obligations.KeyMessagesAreCheckedAndApplied : Prop :=
  (∀ (s : State) (n : Fin 512), ctlOn s = true →
    (n.val = 0 → ∃ t, exec (.keyMessageSubmit n) s = .next t ∧ t = { s with flds := t.flds } ∧
      Writes [(F.SBX_MCTL_MLEN, 0, 0)] s t) ∧
    (∀ c, n.val ≠ 0 → checkMessage s n = .inl c → ∃ u, exec (.keyMessageSubmit n) s = .next (raise 74 0xFFFF u) ∧
      u = { s with flds := u.flds } ∧
      Writes [(F.SBX_MCTL_MLEN, 0, n.val), (F.SBX_MCTL_RESULT, 0, c), (F.SBX_ST_REFL, 0, 1)] s u) ∧
    (∀ x, n.val ≠ 0 → checkMessage s n = .inr x → vaultFree s 3 = false → exec (.keyMessageSubmit n) s =
      .next { s with host := { s.host with waiting := s.host.waiting ++ [.keySubmit n] } }) ∧
    (∀ x, n.val ≠ 0 → checkMessage s n = .inr x → vaultFree s 3 = true →
      ∃ t, exec (.keyMessageSubmit n) s = .next t ∧ t.sbx.msg = some x ∧
      t.bit F.SBX_MCTL_BUSY = true ∧ t.fld F.SBX_MCTL_RESULT = 0 ∧ s.fld F.SBX_SCNT_DATA < t.fld F.SBX_SCNT_DATA ∧
      t.sbx.slots = s.sbx.slots ∧ (x.bundle ≠ none → t.sbx.pending = x.bundle) ∧
      (x.bundle = none → t.sbx.pending = s.sbx.pending))) ∧
  (∀ s : State, (ctlOn s = false ∨ s.pwr.finalCk = true) → exec .keyMessageApplied s = .next s) ∧
  (∀ s : State, ctlOn s = true → s.pwr.finalCk = false → s.sbx.msg = none →
    exec .keyMessageApplied s = .next (vaultFreed s)) ∧
  (∀ (s : State) (e : KeyEntry), ctlOn s = true → s.pwr.finalCk = false → s.sbx.msg = some ⟨none, [e]⟩ →
    ∃ u, exec .keyMessageApplied s = .next (vaultFreed (raise 73 0xFFFF u)) ∧ Writes [(F.SBX_MCTL_BUSY, 0, 0)] s u ∧ u.sbx.msg = none ∧
      (mget none u.sbx.slots e.slot).map (·.key) = e.key ∧ (∀ x, mget none u.sbx.slots e.slot = some x → x.peer = 0) ∧
      ∀ j, j ≠ e.slot → mget none u.sbx.slots j = mget none s.sbx.slots j) ∧
  ∀ (s : State) (target mode : Nat) (es : List KeyEntry), ctlOn s = true → s.pwr.finalCk = false → target < 5 → mode < 2 →
    s.sbx.msg = some ⟨some (target, mode), es⟩ →
    ∃ t, exec .keyMessageApplied s = .next (vaultFreed t) ∧ t.fld F.SBX_ST_LCS = target ∧ t.fld F.SBX_ST_MODE = mode ∧
      t.bit F.SBX_ST_WIPED = false ∧ t.bit F.SBX_MCTL_BUSY = false ∧ t.sbx.pending = none ∧ t.sbx.wipe = 0 ∧
      t.sbx.kb = (if target = 4 then none else some (Config.random s.rng).toNat) ∧ t.sbx.fuse = (s.sbx.fuse || target == 4) ∧ (target = 4 → t.sbx.slots = []) ∧
      (target ≠ s.fld F.SBX_ST_LCS → t.bit F.SBX_ST_LCL = true)

/-- Privileged sessions, Open keys and the passport (R336 to R338). -/
def Obligations.PrivilegeOpenKeysAndPassport : Prop :=
  (∀ s : State, mainOn s = true →
    (s.bit F.SBX_PRIV_LOCK = true → ∃ t, exec .privOpen s = .next t ∧ t.fld F.SBX_PRIV_PRIV = s.fld F.SBX_PRIV_PRIV ∧
      t.rng = s.rng + 1 ∧ Spares ((List.range 4).map fun k => (F.SBX_NONCE_DATA, k)) s t) ∧
    (s.bit F.SBX_PRIV_LOCK = false → (lcs s = 0 ∨ lcs s = 3 ∨ tagOk s = true) → ∃ t, exec .privOpen s = .next t ∧
      t.bit F.SBX_PRIV_PRIV = true ∧ t.fld F.SBX_PRIV_FAILS = 0 ∧ t.rng = s.rng + 1) ∧
    (s.bit F.SBX_PRIV_LOCK = false → lcs s ≠ 0 → lcs s ≠ 3 → tagOk s = false → ∃ t, exec .privOpen s = .next t ∧
      t.fld F.SBX_PRIV_PRIV = s.fld F.SBX_PRIV_PRIV ∧ t.fld F.SBX_PRIV_FAILS = min 3 (s.fld F.SBX_PRIV_FAILS + 1) ∧
      t.bit F.SBX_PRIV_LOCK = decide (2 ≤ s.fld F.SBX_PRIV_FAILS) ∧ t.rng = s.rng + 1) ∧
    (∃ t, exec .privDrop s = .next t ∧ t = { s with flds := t.flds } ∧ Writes [(F.SBX_PRIV_PRIV, 0, 0)] s t)) ∧
  (∀ s : State, (∃ t, exec .privTimeout s = .next t ∧ t = { s with flds := t.flds } ∧ Writes [(F.SBX_PRIV_PRIV, 0, 0)] s t) ∧
    (s.bit F.SBX_PRIV_LOCK = true → ∃ t, exec .privLockExpire s = .next t ∧ t = { s with flds := t.flds } ∧
      Writes [(F.SBX_PRIV_LOCK, 0, 0), (F.SBX_PRIV_FAILS, 0, 0)] s t)) ∧
  (∀ s : State, privileged s = false → exec .openKeyPromote s = .next s ∧
    ∀ erase slot peer, exec (.openKeyWrite erase slot peer) s = .next s) ∧
  (∀ (s : State) (erase : Bool) (i : Fin 256) (peer : BitVec 16), ctlOn s = true → privileged s = true →
    (openBad erase i peer.toNat s = true → ∃ t, exec (.openKeyWrite erase i peer) s = .next t ∧
      t.bit F.SBX_OPCTL_REJ = true ∧ t.sbx = s.sbx ∧ ∀ k < 4, t.fld F.SBX_KWIN_DATA k = 0) ∧
    (openBad erase i peer.toNat s = false → vaultFree s 3 = false → ∃ t, exec (.openKeyWrite erase i peer) s = .next t ∧
      t = { s with flds := t.flds, host := { s.host with waiting := s.host.waiting ++ [.openWrite erase i peer.toNat] } } ∧
      t.bit F.SBX_OPCTL_WRITE = true) ∧
    (openBad erase i peer.toNat s = false → vaultFree s 3 = true →
      ∃ u, exec (.openKeyWrite erase i peer) s = .next (raise 78 i u) ∧
        u.bit F.SBX_OPCTL_REJ = false ∧ u.bit F.SBX_OPCTL_WRITE = false ∧ (∀ k < 4, u.fld F.SBX_KWIN_DATA k = 0) ∧
        (erase = true → mget none u.sbx.slots i = none) ∧
        (erase = false → ∃ x, mget none u.sbx.slots i = some x ∧ x.key = windowBytes s F.SBX_KWIN_DATA 4 ∧
          x.peer = if 10 ≤ i.val then peer.toNat else 0) ∧
        ∀ j, j ≠ i.val → mget none u.sbx.slots j = mget none s.sbx.slots j)) ∧
  (∀ s : State, ctlOn s = true → privileged s = true →
    ((openRefused s = true ∨ mget none s.sbx.slots 9 = none) → ∃ t, exec .openKeyPromote s = .next t ∧
      t = { s with flds := t.flds } ∧ Writes [(F.SBX_OPCTL_PROMOTE, 0, 0), (F.SBX_OPCTL_REJ, 0, 1)] s t) ∧
    (openRefused s = false → mget none s.sbx.slots 9 ≠ none → ∃ u, exec .openKeyPromote s = .next (raise 78 8 u) ∧
      u = { s with flds := u.flds } ∧ Writes [(F.SBX_OPCTL_PROMOTE, 0, 1), (F.SBX_OPCTL_REJ, 0, 0)] s u)) ∧
  (∀ (s : State) (k : List Nat), ctlOn s = true → slotKey s 1 = some k → lcs s ≠ 0 → lcs s ≠ 4 →
    (passportSoon s = true → ∃ t, exec .passportRequest s = .next t ∧ t = { s with flds := t.flds } ∧
      Writes [(F.SBX_PCTL_PEND, 0, 1)] s t) ∧
    (passportSoon s = false → vaultFree s 3 = false → ∃ t, exec .passportRequest s = .next t ∧
      t = { s with flds := t.flds, host := { s.host with waiting := s.host.waiting ++ [.passport] } } ∧
      Writes [(F.SBX_PCTL_PEND, 0, 0)] s t) ∧
    (vaultFree s 3 = true → ∃ t, (passportSoon s = false → exec .passportRequest s = .next t) ∧
      (s.bit F.SBX_PCTL_PEND = true → exec .passportHoldExpire s = .next t) ∧
      t.fld F.SBX_PCNT_DATA = (s.fld F.SBX_PCNT_DATA + 1) % 2 ^ 32 ∧ t.fld F.SBX_PCTL_PRES = 0 ∧
      t.bit F.SBX_PCTL_PEND = false ∧ t.sbx.respT = some s.clk.now)) ∧
  ∀ s : State, ctlOn s = true → (slotKey s 1 = none ∨ lcs s = 0 ∨ lcs s = 4) →
    ∃ t, exec .passportRequest s = .next t ∧ t = { s with flds := t.flds } ∧
      Writes [(F.SBX_PCTL_PEND, 0, 0), (F.SBX_PCTL_PRES, 0, 1)] s t

/-- Supply, calendar and checks of the porter (R341 to R355). -/
def Obligations.PorterKeepsTimeAndSupply : Prop :=
  (∀ (s : State) (main : Bool), exec (.porterSupplySwitch main) s = .next { s with prt := { s.prt with cell := !main } }) ∧
  (∀ s : State, ∃ t, exec .porterBrownOut s = .next t ∧ t.prt.brown = true ∧ t.prt.lost = true ∧ t.sbx.kb = none ∧
    (∀ f ∈ allFields, ∀ i < 65536, f.cls = .P → t.fld f i = f.reset) ∧
    (∀ f ∈ allFields, ∀ i < 65536, f.cls = .I → t.fld f i = s.fld f i)) ∧
  (∀ s : State, s.prt.brown = true → ∃ t, exec .porterBrownOutRelease s = .next t ∧ t.prt.brown = false ∧
    getCal t = ⟨0, 0, 1, 1, 0, 0, 0⟩ ∧ t.fld F.PRT_DATE_DOW = 6) ∧
  (∀ s : State, s.prt.brown = false → holdingOk s = true → mainOn s = true → privileged s = true →
    ∃ t, exec .calendarCommit s = .next t ∧ t.fld F.PRT_TIME_SEC = s.fld F.PRT_HTIME_SEC ∧
      t.fld F.PRT_TIME_MIN = s.fld F.PRT_HTIME_MIN ∧ t.fld F.PRT_TIME_HOUR = s.fld F.PRT_HTIME_HOUR ∧
      t.fld F.PRT_DATE_DAY = s.fld F.PRT_HDATE_DAY ∧ t.fld F.PRT_DATE_MONTH = s.fld F.PRT_HDATE_MONTH ∧
      t.fld F.PRT_DATE_YEAR = s.fld F.PRT_HDATE_YEAR ∧ t.fld F.PRT_DATE_CENT = s.fld F.PRT_HDATE_CENT ∧
      t.fld F.PRT_DATE_DOW = dowOf (getCal t) ∧ t.bit F.PRT_COMMIT_REJ = false) ∧
  (∀ s : State, s.prt.brown = false → holdingOk s = false → mainOn s = true → privileged s = true →
    ∃ t, exec .calendarCommit s = .next t ∧ t = { s with flds := t.flds } ∧ Writes [(F.PRT_COMMIT_REJ, 0, 1)] s t) ∧
  (∀ s : State, privileged s = false → exec .calendarCommit s = .next s ∧ exec .pwronClear s = .next s) ∧
  (∀ (s : State) (c : Cal), s.prt.brown = false → getCal s = c → c.cent < 2 → c.year < 100 → 1 ≤ c.mon → c.mon ≤ 12 →
    1 ≤ c.day → c.day ≤ monthDays c.cent c.year c.mon → c.hour < 24 → c.min < 60 → c.sec < 60 →
    ∃ t, exec .calendarSecond s = .next t ∧ getCal t = nextSecond c ∧ t.fld F.PRT_DATE_DOW = dowOf (nextSecond c)) ∧
  (∀ (s : State) (tp : Rat), s.prt.brown = false → ∃ t, exec (.crystalCompensation tp) s = .next t ∧
    t = { s with prt := { s.prt with corr := t.prt.corr, step := t.prt.step } } ∧ t.prt.step ≤ 8 ∧
    t.prt.corr = s.prt.corr + nearest (((s.fld F.PRT_XTAL_K : Rat) / 10000 * (tp - (s.sfld F.PRT_XTAL_T0 : Rat) / 4) ^ 2
      - (s.sfld F.PRT_XTAL_AGE : Rat) / 20) * (2097152 / 1000000) * 256)) ∧
  (∀ s : State, s.prt.brown = false → ∃ t, exec .pclkStopDetect s = .next t ∧ t.bit F.PRT_ST_OSF = true ∧
    t.bit F.PRT_ST_OSCL = true ∧ t.prt.stopT = some (s.prt.stopT.getD s.clk.now)) ∧
  (∀ (s : State) (v : Rat), s.prt.brown = false → ∃ t, exec (.batteryCheck v) s = .next t ∧
    t.bit F.PRT_ST_BATLOW = decide (v < 22 / 10) ∧
    t.bit F.PRT_ST_BATL = (s.bit F.PRT_ST_BATL || (decide (v < 22 / 10) && !s.bit F.PRT_ST_BATLOW))) ∧
  (∀ (s : State) (i : Fin 22) (cal kb : Bool), s.prt.brown = false → ∃ t, exec (.porterShadowCheck [i] cal kb) s = .next t ∧
    (∀ x ∈ porterFlds i, t.fld x.1 x.2 = prtReset x.1 x.2) ∧ t.bit F.PRT_ST_SHADL = true ∧
    (kb = true → t.sbx.kb = none) ∧ (cal = true → t.bit F.PRT_ST_OSF = true)) ∧
  (∀ s : State, mainOn s = true → privileged s = true → ∃ t, exec .pwronClear s = .next t ∧ t = { s with flds := t.flds } ∧
    Writes [(F.PRT_ST_PWRON, 0, 0)] s t) ∧
  ∀ s : State, (s.fld F.PRT_PWR_PWRTO = 0 → exec .pwronTimeout s = .next s) ∧
    (s.fld F.PRT_PWR_PWRTO ≠ 0 → ∃ t, exec .pwronTimeout s = .next t ∧ t = { s with flds := t.flds } ∧
      Writes [(F.PRT_ST_PWRON, 0, 0)] s t)

/-- Configuration latches, sources and slots (R349 to R361). -/
def Obligations.PorterSourcesFireTheirResponses : Prop :=
  (∀ (s : State) (i : Fin 22) (w : Word), mainOn s = true → privileged s = true → s.prt.brown = false →
    ((6 ≤ i.val ∧ i.val < 20 ∧ F.PRT_SRC_FWIN.slice w.toNat < F.PRT_SRC_FCNT.slice w.toNat) →
      exec (.porterConfigWrite i w) s = .next s) ∧
    (¬ (6 ≤ i.val ∧ i.val < 20 ∧ F.PRT_SRC_FWIN.slice w.toNat < F.PRT_SRC_FCNT.slice w.toNat) →
      ∃ t, exec (.porterConfigWrite i w) s = .next t ∧
        (∀ x ∈ porterFlds i, t.fld x.1 x.2 = x.1.slice w.toNat) ∧ Spares (porterFlds i) s t ∧
        (vaultFree s 4 = true → t = { s with flds := t.flds, prt := { s.prt with prof := t.prt.prof } } ∧
          ∀ x ∈ porterFlds i, mget (prtReset x.1 x.2) t.prt.prof (fkey x.1 x.2) = x.1.slice w.toNat) ∧
        (vaultFree s 4 = false → t =
          { s with flds := t.flds, host := { s.host with waiting := s.host.waiting ++ [.profile i] } }))) ∧
  (∀ s : State, privileged s = false → (∀ i w, exec (.porterConfigWrite i w) s = .next s) ∧
    ∀ mask, exec (.porterSlotClear mask) s = .next s) ∧
  (∀ (s : State) (n : Fin 8) (level : Bool), s.prt.brown = false → (s.fld F.PRT_TCFG_LOOP).testBit (n.val / 2) = false →
    (∃ t, exec (.porterSourceSample [.static n level]) s = .next t ∧ (t.fld F.PRT_ST_ACTIVE).testBit n =
      xor (level == (s.fld F.PRT_PINS_PULL).testBit n) ((s.fld F.PRT_PINS_INV).testBit n)) ∧
    (xor (level == (s.fld F.PRT_PINS_PULL).testBit n) ((s.fld F.PRT_PINS_INV).testBit n) = true →
      s.fld F.PRT_SRC_FCNT n = 1 → 1 ≤ s.fld F.PRT_SRC_FWIN n → n.val ∉ s.prt.fired → s.bit F.PRT_SRC_CAP n = true →
      s.bit F.PRT_SRC_REC n = false → s.bit F.PRT_SRC_ALERT n = false → s.bit F.PRT_SRC_LOCK n = false →
      s.bit F.PRT_SRC_WIPE n = false → s.bit F.PRT_SRC_PWR n = false →
      ∃ t, exec (.porterSourceSample [.static n level]) s = .next t ∧ n.val ∈ t.prt.fired ∧
        t.bit F.PRT_SLT_INFO_FULL n = true ∧
        t.fld F.PRT_SLT_INFO_COUNT n = (if s.bit F.PRT_SLT_INFO_FULL n then min 255 (s.fld F.PRT_SLT_INFO_COUNT n + 1)
          else 1) ∧
        (s.bit F.PRT_SLT_INFO_FULL n = false → t.fld F.PRT_SLT_TIME_TIME n = viewReg s R.PRT_TIME 0 % 2 ^ 32 ∧
          t.bit F.PRT_SLT_INFO_ONCELL n = s.prt.cell))) ∧
  ∀ (s : State) (mask : BitVec 16), mainOn s = true → privileged s = true →
    ∃ t, exec (.porterSlotClear mask) s = .next t ∧ t = { s with flds := t.flds } ∧
      ∀ k < 16, t.bit F.PRT_SLT_INFO_FULL k = (s.bit F.PRT_SLT_INFO_FULL k && !mask.toNat.testBit k) ∧
        t.fld F.PRT_SLT_INFO_COUNT k = (if mask.toNat.testBit k then 0 else s.fld F.PRT_SLT_INFO_COUNT k) ∧
        t.fld F.PRT_SLT_INFO_LOST k = s.fld F.PRT_SLT_INFO_LOST k

/-- The auxiliary converter (R376 to R383). -/
def Obligations.ConverterRunsSequencesAndBursts : Prop :=
  (∀ s : State, running s = true → s.fld F.SAR_CFG_LEN ≠ 0 → s.bit F.SAR_ST_READY = true → s.sar.run = none →
    s.sar.delay = none → s.sar.burst = none →
    (s.bit F.SAR_CFG_TRIG = false → ∃ t, exec .sarTimerTrigger s = .next t ∧
      t = { s with flds := t.flds, sar := { s.sar with src := (false, s.bit F.SAR_CFG_EDGE), run := some (seqEntries s, 0) } } ∧
      Writes [(F.SAR_ST_BUSY, 0, 1), (F.SAR_ST_ENTRY, 0, 0)] s t) ∧
    (s.bit F.SAR_CFG_TRIG = true → exec (.pwmsyncEdge (!s.bit F.SAR_CFG_EDGE)) s =
      .next { s with sar := { s.sar with src := (true, s.bit F.SAR_CFG_EDGE), delay := some (seqEntries s) } })) ∧
  (∀ (s : State) (c : Instr), running s = true → s.fld F.SAR_CFG_LEN ≠ 0 →
    (c = .sarTimerTrigger ∧ (sarSource s).1 = false) ∨ (c = .pwmsyncEdge (!(sarSource s).2) ∧ (sarSource s).1 = true) →
    (s.bit F.SAR_ST_READY = false → ∃ u, exec c s = .next (raise 100 0xFFFF u) ∧ u = { s with flds := u.flds } ∧
      Writes [(F.SAR_ST_NRDYL, 0, 1)] s u) ∧
    (s.bit F.SAR_ST_READY = true → s.sar.run ≠ none → ∃ u, exec c s = .next (raise 97 (s.fld F.SAR_ST_ENTRY) u) ∧
      u = { s with flds := u.flds } ∧ Writes [(F.SAR_ST_OVRL, 0, 1)] s u)) ∧
  (∀ (s : State) (es : List (Nat × Nat)), running s = true → s.sar.delay = some es →
    ∃ t, exec .sarDelayExpire s = .next t ∧ t.sar = { s.sar with delay := none, run := some (es, 0) } ∧
      Writes [(F.SAR_ST_BUSY, 0, 1), (F.SAR_ST_ENTRY, 0, 0)] s t) ∧
  (∀ (s : State) (smp : Fin 64) (input : Fin 16), mainOn s = true → s.bit F.SAR_ST_READY = true →
    (s.sar.inj.length < 4 → ∃ t, exec (.sarInject smp input) s = .next t ∧
      t.sar.inj = s.sar.inj ++ [(input.val, smp.val)] ∧ t.fld F.SAR_ST_IDEPTH = s.sar.inj.length + 1) ∧
    (4 ≤ s.sar.inj.length → ∃ u, exec (.sarInject smp input) s = .next (raise 98 0xFFFF u) ∧ u.sar = s.sar ∧
      u.bit F.SAR_ST_INJRL = true)) ∧
  (∀ s : State, running s = true →
    (∃ t, exec .sarReferenceReady s = .next t ∧ t.bit F.SAR_ST_READY = true ∧
      (s.sar.run = none → s.sar.delay = none → s.sar.burst = none → t.sar.burst = some 0)) ∧
    (s.bit F.SAR_ST_READY = true → s.sar.run = none → s.sar.delay = none → s.sar.burst = none →
      ∃ t, exec .housekeepingDue s = .next t ∧ t.sar.burst = some 0 ∧ t.sar.due = none ∧ t.bit F.SAR_ST_BUSY = true) ∧
    (s.sar.run ≠ none → exec .housekeepingDue s = .next { s with sar := { s.sar with due := some s.clk.now } })) ∧
  (∀ (s : State) (code : Fin 4096) (eoc : Bool) (i : Nat) (es : List (Nat × Nat)) (k smp : Nat), running s = true →
    s.bit F.SAR_ST_READY = true → s.sar.inj = [] → s.sar.burst = none → s.sar.run = some (es, k) →
    es[k]? = some (i, smp) → i < 16 →
    ((eoc && plausible s i code) = true → s.sar.again = false → s.bit F.SAR_RES_FAULT i = false →
      ∃ t, exec (.sarConversionComplete code eoc) s = .next t ∧ lastCode t i = code ∧
        t.fld F.SAR_RES_CNT i = (s.fld F.SAR_RES_CNT i + 1) % 2 ^ 14 ∧
        (i < 8 ∨ 12 ≤ i → t.fld F.SAR_RES_CODE i = code) ∧
        (k + 1 < es.length → s.sar.due = none → t.sar.run = some (es, k + 1)) ∧
        (es.length = k + 1 → t.sar.run = none)) ∧
    ((eoc && plausible s i code) = false → s.sar.again = false →
      ∃ t, exec (.sarConversionComplete code eoc) s = .next t ∧
        t = { s with flds := t.flds, sar := { s.sar with good := t.sar.good, again := true } } ∧ mget 0 t.sar.good i = 0 ∧
        Writes [(F.SAR_RES_CNT, i, (s.fld F.SAR_RES_CNT i + 1) % 2 ^ 14)] s t) ∧
    ((eoc && plausible s i code) = false → s.sar.again = true →
      ∃ t, exec (.sarConversionComplete code eoc) s = .next t ∧ lastCode t i = lastCode s i ∧
        t.bit F.SAR_RES_FAULT i = true ∧ t.fld F.FLTS_CNT_PERM 9 = min 65535 (s.fld F.FLTS_CNT_PERM 9 + 1))) ∧
  (∀ s : State, running s = true → s.sar.burst = some 68 →
    ∃ t, exec .housekeepingBurstComplete s = .next t ∧ t.sar.burst = none ∧
      t.bit F.SAR_ST_SUPX = (if ctlOn s then supplyOut s else s.bit F.SAR_ST_SUPX) ∧
      ∀ i, 8 ≤ i → i < 12 → t.fld F.SAR_RES_CODE i = (nearest (burstMean s i)).toNat % 2 ^ 12) ∧
  ∀ (s : State) (k : Fin 8) (f : Rat), running s = true →
    (mget none s.sar.fNew k = none ∨ boundaryAt s (s.fld F.SAR_SHC_STREAM k) = false →
      exec (.shuntFactorApply k) s = .next s) ∧
    (mget none s.sar.fNew k = some f → boundaryAt s (s.fld F.SAR_SHC_STREAM k) = true →
      ∃ t, exec (.shuntFactorApply k) s = .next t ∧ mget none t.sar.fNew k = none ∧
      mget 1 t.sar.f k = (if 10 / 1000000 < rabs (f - mget 1 s.sar.f k) then f else mget 1 s.sar.f k) ∧
      Spares [(F.SAR_SHR_FPPM, k.val)] s t)
end

