-- ==== Sys2Proof/Laws/Fields.lean ====
section
/-! SUPPORT. Laws of sparse maps and of register fields: a read after a write, what a write leaves alone, and that every
operation keeps the keys rising. -/

namespace Sys2Proof

open Machine

/-! ### Sparse maps -/

theorem mget_mins_same {α : Type} (d : α) (m : SMap α) (k : Nat) (v : α) : mget d (mins m k v) k = v := by
  induction m with
  | nil => simp [mins, mget]
  | cons p r ih =>
    obtain ⟨j, w⟩ := p
    simp only [mins]
    split
    · simp [mget]
    · split
      · simp [mget]
      · simp only [mget]
        rw [if_neg ‹_›, ih]

theorem mget_mins_other {α : Type} (d : α) (m : SMap α) (k j : Nat) (v : α) (h : j ≠ k) :
    mget d (mins m k v) j = mget d m j := by
  induction m with
  | nil =>
    simp only [mins, mget]
    rw [if_neg (Ne.symm h)]
  | cons p r ih =>
    obtain ⟨x, w⟩ := p
    simp only [mins]
    split
    · subst_vars
      simp only [mget]
      rw [if_neg (Ne.symm h), if_neg (Ne.symm h)]
    · split
      · simp only [mget]
        rw [if_neg (Ne.symm h)]
      · simp only [mget, ih]

theorem Rising_cons {α : Type} (x : Nat) (w : α) (r : SMap α) :
    Rising ((x, w) :: r) ↔ (∀ p ∈ r, x < p.1) ∧ Rising r := by
  simp only [Rising, List.map_cons, List.pairwise_cons, List.mem_map]
  constructor
  · rintro ⟨h1, h2⟩
    exact ⟨fun p hp => h1 p.1 ⟨p, hp, rfl⟩, h2⟩
  · rintro ⟨h1, h2⟩
    refine ⟨?_, h2⟩
    rintro a ⟨p, hp, rfl⟩
    exact h1 p hp

theorem mget_mdel_same {α : Type} (d : α) (m : SMap α) (k : Nat) : mget d (mdel m k) k = d := by
  induction m with
  | nil => rfl
  | cons p r ih =>
    obtain ⟨x, w⟩ := p
    simp only [mdel]
    split
    · exact ih
    · simp only [mget]
      rw [if_neg ‹_›, ih]

theorem mget_mdel_other {α : Type} (d : α) (m : SMap α) (k j : Nat) (hj : j ≠ k) :
    mget d (mdel m k) j = mget d m j := by
  induction m with
  | nil => rfl
  | cons p r ih =>
    obtain ⟨x, w⟩ := p
    simp only [mdel]
    split
    · subst_vars
      simp only [mget]
      rw [if_neg (Ne.symm hj), ih]
    · simp only [mget, ih]

theorem mem_mins {α : Type} (m : SMap α) (k : Nat) (v : α) (p : Nat × α) (h : p ∈ mins m k v) : p = (k, v) ∨ p ∈ m := by
  induction m with
  | nil => simp_all [mins]
  | cons q r ih =>
    obtain ⟨x, w⟩ := q
    simp only [mins] at h
    split at h
    · simp only [List.mem_cons] at h ⊢
      tauto
    · split at h
      · simp only [List.mem_cons] at h ⊢
        tauto
      · simp only [List.mem_cons] at h ⊢
        tauto

theorem mem_mdel {α : Type} (m : SMap α) (k : Nat) (p : Nat × α) (h : p ∈ mdel m k) : p ∈ m := by
  induction m with
  | nil => simp_all [mdel]
  | cons q r ih =>
    obtain ⟨x, w⟩ := q
    simp only [mdel] at h
    split at h
    · exact List.mem_cons_of_mem _ (ih h)
    · simp only [List.mem_cons] at h ⊢
      tauto

theorem Rising_mins {α : Type} (m : SMap α) (k : Nat) (v : α) (h : Rising m) : Rising (mins m k v) := by
  induction m with
  | nil => simp [mins, Rising]
  | cons q r ih =>
    obtain ⟨x, w⟩ := q
    rw [Rising_cons] at h
    simp only [mins]
    split
    · subst_vars
      rw [Rising_cons]
      exact h
    · split
      · rw [Rising_cons, Rising_cons]
        refine ⟨?_, h⟩
        intro p hp
        rcases List.mem_cons.1 hp with rfl | hp
        · assumption
        · exact Nat.lt_trans ‹_› (h.1 p hp)
      · rw [Rising_cons]
        refine ⟨?_, ih h.2⟩
        intro p hp
        rcases mem_mins _ _ _ _ hp with rfl | hp
        · show x < k
          omega
        · exact h.1 p hp

theorem Rising_mdel {α : Type} (m : SMap α) (k : Nat) (h : Rising m) : Rising (mdel m k) := by
  induction m with
  | nil => exact h
  | cons q r ih =>
    obtain ⟨x, w⟩ := q
    rw [Rising_cons] at h
    simp only [mdel]
    split
    · exact ih h.2
    · rw [Rising_cons]
      exact ⟨fun p hp => h.1 p (mem_mdel _ _ _ hp), ih h.2⟩

/-- Writing keeps the keys rising. -/
theorem Rising_mput {α : Type} [DecidableEq α] (d : α) (m : SMap α) (k : Nat) (v : α) (h : Rising m) : Rising (mput d m k v) := by
  unfold mput
  split
  · exact Rising_mdel m k h
  · exact Rising_mins m k v h

/-- A read after a write to the same key gives what was written. -/
@[simp] theorem mget_mput_same {α : Type} [DecidableEq α] (d : α) (m : SMap α) (k : Nat) (v : α) :
    mget d (mput d m k v) k = v := by
  unfold mput
  split
  · subst_vars
    exact mget_mdel_same _ m k
  · exact mget_mins_same d m k v

/-- A write leaves every other key alone. -/
theorem mget_mput_other {α : Type} [DecidableEq α] (d e : α) (m : SMap α) (k j : Nat) (v : α) (hj : j ≠ k) :
    mget e (mput d m k v) j = mget e m j := by
  unfold mput
  split
  · exact mget_mdel_other e m k j hj
  · exact mget_mins_other e m k j v hj

theorem Rising_filter {α : Type} (p : Nat × α → Bool) (m : SMap α) (h : Rising m) : Rising (m.filter p) := by
  induction m with
  | nil => exact h
  | cons q r ih =>
    obtain ⟨x, w⟩ := q
    rw [Rising_cons] at h
    rw [List.filter_cons]
    split
    · rw [Rising_cons]
      exact ⟨fun q hq => h.1 q (List.mem_filter.1 hq).1, ih h.2⟩
    · exact ih h.2

/-! ### Fields -/

@[simp] theorem Rising_fput (m : SMap Nat) (f : Fld) (i v : Nat) (h : Rising m) : Rising (fput m f i v) :=
  Rising_mput _ m _ _ h

@[simp] theorem Rising_keepCls (keep : Cls → Bool) (m : SMap Nat) (h : Rising m) : Rising (keepCls keep m) :=
  Rising_filter _ m h

theorem fget_lt (m : SMap Nat) (f : Fld) (i : Nat) : fget m f i < 2 ^ f.len := Nat.mod_lt _ (Nat.two_pow_pos _)

/-- A field holds no more than its bits. -/
theorem fld_lt (s : State) (f : Fld) (i : Nat) : s.fld f i < 2 ^ f.len := fget_lt s.flds f i

@[simp] theorem fget_fput_same (m : SMap Nat) (f : Fld) (i v : Nat) : fget (fput m f i v) f i = v % 2 ^ f.len := by
  simp [fget, fput]

theorem fget_fput_other (m : SMap Nat) (f g : Fld) (i j v : Nat) (hk : fkey f i ≠ fkey g j) :
    fget (fput m f i v) g j = fget m g j := by
  simp only [fget, fput, mget_mput_other f.reset g.reset m _ _ _ (Ne.symm hk)]

/-- Fields of different numbers share no place. -/
theorem fkey_ne (f g : Fld) (i j : Nat) (h : f.id ≠ g.id) : fkey f i ≠ fkey g j := by
  unfold fkey
  omega

@[simp] theorem put_fld_same (s : State) (f : Fld) (i v : Nat) : (s.put f i v).fld f i = v % 2 ^ f.len :=
  fget_fput_same s.flds f i v

theorem put_fld_other (s : State) (f g : Fld) (i j v : Nat) (hk : fkey f i ≠ fkey g j) :
    (s.put f i v).fld g j = s.fld g j :=
  fget_fput_other s.flds f g i j v hk

/-- A write leaves every field of another number alone. -/
theorem put_fld_field (s : State) (f g : Fld) (i j v : Nat) (h : f.id ≠ g.id) : (s.put f i v).fld g j = s.fld g j :=
  put_fld_other s f g i j v (fkey_ne f g i j h)

@[simp] theorem put_rising (s : State) (f : Fld) (i v : Nat) (h : FieldsRising s) : FieldsRising (s.put f i v) :=
  Rising_fput _ _ _ _ h

/-- One field written. -/
theorem Writes_put (s : State) (f : Fld) (i v : Nat) (hv : v < 2 ^ f.len) : Writes [(f, i, v)] s (s.put f i v) := by
  constructor
  · simp only [List.mem_singleton, forall_eq]
    rw [put_fld_same s f i v, Nat.mod_eq_of_lt hv]
  · intro g j hk
    exact put_fld_other s f g i j v (hk (f, i, v) (List.mem_singleton.2 rfl))

/-- Nothing written. -/
theorem Writes_nil (s t : State) (h : t.flds = s.flds) : Writes [] s t :=
  ⟨by simp, fun f i _ => by simp only [State.fld, h]⟩

/-- A further field written. -/
theorem Writes_cons (s t : State) (l : List (Fld × Nat × Nat)) (f : Fld) (i v : Nat) (hv : v < 2 ^ f.len)
    (h : Writes l s t) (hn : ∀ p ∈ l, fkey p.1 p.2.1 ≠ fkey f i) : Writes ((f, i, v) :: l) s (t.put f i v) := by
  constructor
  · intro p hp
    rcases List.mem_cons.1 hp with rfl | hp
    · rw [put_fld_same t f i v, Nat.mod_eq_of_lt hv]
    · rw [put_fld_other t f p.1 i p.2.1 v (Ne.symm (hn p hp))]
      exact h.1 p hp
  · intro g j hk
    rw [put_fld_other t f g i j v (hk (f, i, v) List.mem_cons_self)]
    exact h.2 g j fun p hp => hk p (List.mem_cons_of_mem _ hp)

end Sys2Proof
end

