-- ==== Sys2Proof/Laws/Keeps.lean ====
section
/-! SUPPORT. What the shared ways of changing the state keep: the queue of waiting commands, and the order of the stored
fields. Every operation of the units keeps both; `Keeps` files 1 to 4 say so of each. -/

namespace Sys2Proof.Machine

theorem Keeps_refl (s : State) : Keeps s s := ⟨rfl, id⟩
theorem Keeps_ite {r a b : State} {c : Prop} [Decidable c] (ha : Keeps r a) (hb : Keeps r b) : Keeps r (if c then a else b)
    := by
  split <;> assumption
theorem Keeps_foldl {α : Type} {r : State} {g : State → α → State} {l : List α} {s : State} (hs : Keeps r s)
    (hg : ∀ u a, Keeps r u → Keeps r (g u a)) : Keeps r (l.foldl g s) := by
  induction l generalizing s with
  | nil => exact hs
  | cons a l ih => exact ih (hg s a hs)
theorem Keeps_iterate {r : State} {g : State → State} {n : Nat} {s : State} (hs : Keeps r s)
    (hg : ∀ u, Keeps r u → Keeps r (g u)) : Keeps r (g^[n] s) := by
  induction n generalizing s with
  | zero => exact hs
  | succ n ih => exact ih (hg s hs)
theorem Keeps_mk {r t : State} {x_clk : ClockSt} {x_ctl : CtlRun} {x_host : HostSt} {x_pwr : PwrSt} {x_ldg : LdgSt} {x_evt :
    EvtSt} {x_inp : InpSt} {x_rmt : RmtSt} {x_flt : FltSt} {x_flts : FltsSt} {x_cal : CalSt} {x_twn : TwnSt} {x_mtr : MtrSt}
    {x_itn : ItnSt} {x_grd : GrdSt} {x_hrm : HrmSt} {x_dst : DstSt} {x_pls : PlsSt} {x_way : WaySt} {x_rng : Nat} {x_sbx :
    SbxSt} {x_cvn : CvnSt} {x_sar : SarSt} {x_dsp : DspSt} {x_prt : PrtSt} (h : Keeps r t) : Keeps r ⟨t.pending, t.flds,
    x_clk, x_ctl, x_host, x_pwr, x_ldg, x_evt, x_inp, x_rmt, x_flt, x_flts, x_cal, x_twn, x_mtr, x_itn, x_grd, x_hrm, x_dst,
    x_pls, x_way, x_rng, x_sbx, x_cvn, x_sar, x_dsp, x_prt⟩ := h
theorem put_keeps {r s : State} {f : Fld} {i v : Nat} (h : Keeps r s) : Keeps r (s.put f i v) := ⟨h.1, fun x => Rising_fput
    _ _ _ _ (h.2 x)⟩
theorem setBit_keeps {r s : State} {f : Fld} {i : Nat} {b : Bool} (h : Keeps r s) : Keeps r (s.setBit f i b) := put_keeps h
theorem addSat_keeps {r s : State} {f : Fld} {i k : Nat} (h : Keeps r s) : Keeps r (s.addSat f i k) := put_keeps h
theorem inc_keeps {r s : State} {f : Fld} {i : Nat} (h : Keeps r s) : Keeps r (s.inc f i) := put_keeps h
theorem putI_keeps {r s : State} {f : Fld} {i : Nat} {z : Int} (h : Keeps r s) : Keeps r (s.putI f i z) := put_keeps h
theorem stamp_keeps {r s : State} {f : Fld} {i : Nat} (h : Keeps r s) : Keeps r (s.stamp f i) := h
theorem lower_keeps {r s : State} {f : Fld} {i : Nat} (h : Keeps r s) : Keeps r (s.lower f i) := by
  unfold State.lower
  exact Keeps_ite (stamp_keeps (put_keeps h)) h
theorem lift_keeps {r s : State} {f : Fld} {i : Nat} (h : Keeps r s) : Keeps r (s.lift f i) := by
  unfold State.lift
  exact Keeps_ite h (stamp_keeps (f := f) (i := i) (put_keeps h))
theorem putRec_keeps {r s : State} {x : LdgRec} (h : Keeps r s) : Keeps r (putRec s x) :=
  ⟨h.1, fun y => by
    show Rising (countDrop s.flds _)
    unfold countDrop
    split
    · exact Rising_fput _ _ _ _ (Rising_fput _ _ _ _ (h.2 y))
    · exact h.2 y⟩
theorem recordEvt_keeps {r s : State} {e : Nat} {x : LdgRec} (h : Keeps r s) : Keeps r (recordEvt s e x) := by
  unfold recordEvt
  refine Keeps_ite (putRec_keeps h) ⟨h.1, fun y => ?_⟩
  show Rising (countSupp s.flds)
  unfold countSupp faddSat
  exact Rising_fput _ _ _ _ (Rising_fput _ _ _ _ (h.2 y))
theorem raise_keeps {r s : State} {e d : Nat} (h : Keeps r s) : Keeps r (raise e d s) := by
  have h1 : Keeps r (if routed s.flds e then { s with flds := setPend s.flds e } else s) :=
    Keeps_ite ⟨h.1, fun y => Rising_fput _ _ _ _ (h.2 y)⟩ h
  unfold raise
  exact Keeps_ite h (Keeps_ite (recordEvt_keeps h1) h1)

/-- A state whose fields alone were rebuilt, in order. -/
theorem flds_keeps {r s t : State} (h : Keeps r s) (hp : t.pending = s.pending) (hf : Rising s.flds → Rising t.flds) : Keeps
    r t :=
  ⟨hp.trans h.1, fun x => hf (h.2 x)⟩
theorem Keeps_elim {α : Type} {r s : State} {o : Option α} {f : α → State} (hs : Keeps r s) (hf : ∀ a, Keeps r (f a)) :
    Keeps r (o.elim s f) := by
  cases o
  · exact hs
  · exact hf _
theorem Rising_foldl {α : Type} {g : SMap Nat → α → SMap Nat} (l : List α) (m : SMap Nat) (h : Rising m)
    (hg : ∀ u a, Rising u → Rising (g u a)) : Rising (l.foldl g m) := by
  induction l generalizing m with
  | nil => exact h
  | cons a l ih => exact ih (g m a) (hg m a h)
theorem Rising_countDrop (m : SMap Nat) (b : Bool) (h : Rising m) : Rising (countDrop m b) := by
  unfold countDrop faddSat
  split
  · exact Rising_fput _ _ _ _ (Rising_fput _ _ _ _ h)
  · exact h
theorem Rising_putWrite (m : SMap Nat) (w : Nat × Nat) (h : Rising m) : Rising (putWrite m w) := by
  unfold putWrite
  split
  · exact h
  · exact Rising_foldl _ _ h fun u f hu => Rising_fput _ _ _ _ hu
theorem Rising_loadWrites (r : Nat) (ws : List (Nat × Nat)) (m : SMap Nat) (h : Rising m) : Rising (loadWrites r ws m) :=
  Rising_foldl _ _ (Rising_filter _ m h) fun u a hu => Rising_putWrite u a hu
theorem Rising_readFlds (s : State) (h : Rising s.flds) : Rising (readFlds s) :=
  Rising_foldl _ _ h fun u p hu => Rising_loadWrites _ _ u hu

end Sys2Proof.Machine
end

