-- ==== Sys2Proof/Laws/Keeps1.lean ====
section
/-! SUPPORT. The operations of Status, PathOps, LinkOps, Events, FaultOps, CalOps, RemountOps, Remount, FilterOps,
SamplePath, Filters, DstOps, Inputs keep the queue of waiting commands and the order of the stored fields. -/

namespace Sys2Proof.Machine

set_option maxRecDepth 4000

/-! ### Status -/

/-- `onCtl` keeps the queue, and the fields in order. -/
theorem onCtl_keeps {r0 : State} (op : FwOp) (f : State → State) {s : State} (h_f : ∀ u, Keeps r0 u → Keeps r0 (f u)) (hk :
    Keeps r0 s) : Keeps r0 (onCtl op f s) := by
  unfold onCtl
  iterate 40
    all_goals try
      first | intro _ | with_reducible assumption | with_reducible apply h_f | with_reducible apply Keeps_ite | dsimp only
            | split | with_reducible apply Keeps_mk

/-- `onCtlOnce` keeps the queue, and the fields in order. -/
theorem onCtlOnce_keeps {r0 : State} (op : FwOp) (f : State → State) {s : State} (h_f : ∀ u, Keeps r0 u → Keeps r0 (f u))
    (hk : Keeps r0 s) : Keeps r0 (onCtlOnce op f s) := by
  unfold onCtlOnce
  iterate 40
    all_goals try
      first | intro _ | with_reducible assumption | with_reducible apply h_f | with_reducible apply Keeps_ite | dsimp only
            | split | with_reducible apply Keeps_mk

/-- `onVault` keeps the queue, and the fields in order. -/
theorem onVault_keeps {r0 : State} (rank : Nat) (op : FwOp) (f : State → State) {s : State} (h_f : ∀ u, Keeps r0 u → Keeps
    r0 (f u)) (hk : Keeps r0 s) : Keeps r0 (onVault rank op f s) := by
  unfold onVault
  iterate 40
    all_goals try
      first | intro _ | with_reducible assumption | with_reducible apply h_f | with_reducible apply Keeps_ite | dsimp only
            | split | with_reducible apply Keeps_mk

/-- `reachTime` keeps the queue, and the fields in order. -/
theorem reachTime_keeps {r0 : State} (t : Nat) {s : State} (hk : Keeps r0 s) : Keeps r0 (reachTime t s) := by
  unfold reachTime
  iterate 40
    all_goals try
      first | with_reducible assumption | dsimp only | with_reducible apply Keeps_mk

/-- `passTime` keeps the queue, and the fields in order. -/
theorem passTime_keeps {r0 : State} (d : Nat) {s : State} (hk : Keeps r0 s) : Keeps r0 (passTime d s) := by
  unfold passTime
  iterate 40
    all_goals try
      first | with_reducible assumption | with_reducible apply Keeps_ite | dsimp only | split | with_reducible apply Keeps_mk

/-- `steer` keeps the queue, and the fields in order. -/
theorem steer_keeps {r0 : State} (off : Int) (ppm : Nat) {s : State} (hk : Keeps r0 s) : Keeps r0 (steer off ppm s) := by
  unfold steer
  iterate 40
    all_goals try
      first | with_reducible assumption | dsimp only | with_reducible apply Keeps_mk

/-- `setSite` keeps the queue, and the fields in order. -/
theorem setSite_keeps {r0 : State} (t : Nat) {s : State} (hk : Keeps r0 s) : Keeps r0 (setSite t s) := by
  unfold setSite
  iterate 40
    all_goals try
      first | with_reducible assumption | with_reducible apply steer_keeps | dsimp only | with_reducible apply Keeps_mk

/-! ### PathOps -/

/-- `setPath` keeps the queue, and the fields in order. -/
theorem setPath_keeps {r0 : State} (n : Nat) (p : StreamPath) {s : State} (hk : Keeps r0 s) : Keeps r0 (setPath n p s) := by
  unfold setPath
  iterate 40
    all_goals try
      first | with_reducible assumption | dsimp only | with_reducible apply Keeps_mk

/-- `pathStart` keeps the queue, and the fields in order. -/
theorem pathStart_keeps {r0 : State} (n : Nat) {s : State} (hk : Keeps r0 s) : Keeps r0 (pathStart n s) := by
  unfold pathStart
  iterate 40
    all_goals try
      first | with_reducible assumption | with_reducible apply setPath_keeps

/-- `pathPreset` keeps the queue, and the fields in order. -/
theorem pathPreset_keeps {r0 : State} (n : Nat) (resp : List Nat) {s : State} (hk : Keeps r0 s) : Keeps r0 (pathPreset n
    resp s) := by
  unfold pathPreset
  iterate 40
    all_goals try
      first | with_reducible assumption | with_reducible apply setPath_keeps

/-- `pathLend` keeps the queue, and the fields in order. -/
theorem pathLend_keeps {r0 : State} (n : Nat) (sp : Nat) (resp : List Nat) {s : State} (hk : Keeps r0 s) : Keeps r0
    (pathLend n sp resp s) := by
  unfold pathLend
  iterate 40
    all_goals try
      first | with_reducible assumption | with_reducible apply setPath_keeps

/-- `pathTake` keeps the queue, and the fields in order. -/
theorem pathTake_keeps {r0 : State} (n : Nat) (sp : Nat) (old : List Nat) {s : State} (hk : Keeps r0 s) : Keeps r0 (pathTake
    n sp old s) := by
  unfold pathTake
  iterate 40
    all_goals try
      first | with_reducible assumption | with_reducible apply setPath_keeps

/-- `pathFastClear` keeps the queue, and the fields in order. -/
theorem pathFastClear_keeps {r0 : State} (n : Nat) {s : State} (hk : Keeps r0 s) : Keeps r0 (pathFastClear n s) := by
  unfold pathFastClear
  iterate 40
    all_goals try
      first | with_reducible assumption | with_reducible apply setPath_keeps

/-- `pathFast` keeps the queue, and the fields in order. -/
theorem pathFast_keeps {r0 : State} (n : Nat) (f : BitVec 16) {s : State} (hk : Keeps r0 s) : Keeps r0 (pathFast n f s) :=
    by
  unfold pathFast
  iterate 40
    all_goals try
      first | with_reducible assumption | with_reducible apply setPath_keeps

/-- `pathFasts` keeps the queue, and the fields in order. -/
theorem pathFasts_keeps {r0 : State} (n : Nat) (fs : List (BitVec 16)) {s : State} (hk : Keeps r0 s) : Keeps r0 (pathFasts n
    fs s) := by
  unfold pathFasts
  iterate 40
    all_goals try
      first | intro _ | with_reducible assumption | with_reducible apply Keeps_foldl | with_reducible apply pathFast_keeps

/-- `fastClear` keeps the queue, and the fields in order. -/
theorem fastClear_keeps {r0 : State} (n : Nat) {s : State} (hk : Keeps r0 s) : Keeps r0 (fastClear n s) := by
  unfold fastClear
  iterate 40
    all_goals try
      first | with_reducible assumption | with_reducible apply put_keeps | with_reducible apply pathFastClear_keeps
            | dsimp only | with_reducible apply Keeps_mk

/-- `setDone` keeps the queue, and the fields in order. -/
theorem setDone_keeps {r0 : State} (n : Nat) (us : Nat) {s : State} (hk : Keeps r0 s) : Keeps r0 (setDone n us s) := by
  unfold setDone
  iterate 40
    all_goals try
      first | with_reducible assumption | dsimp only | with_reducible apply Keeps_mk

/-- `reachNow` keeps the queue, and the fields in order. -/
theorem reachNow_keeps {r0 : State} (t : Nat) {s : State} (hk : Keeps r0 s) : Keeps r0 (reachNow t s) := by
  unfold reachNow
  iterate 40
    all_goals try
      first | with_reducible assumption | with_reducible apply passTime_keeps

/-- `glideFrom` keeps the queue, and the fields in order. -/
theorem glideFrom_keeps {r0 : State} (k : Nat) (n : Nat) (f : State → State) {s : State} (h_f : ∀ u, Keeps r0 u → Keeps r0
    (f u)) (hk : Keeps r0 s) : Keeps r0 (glideFrom k n f s) := by
  unfold glideFrom
  iterate 40
    all_goals try
      first | intro _ | with_reducible assumption | with_reducible apply h_f | with_reducible apply Keeps_ite
            | with_reducible apply setPath_keeps

/-- `glide` keeps the queue, and the fields in order. -/
theorem glide_keeps {r0 : State} (n : Nat) (f : State → State) {s : State} (h_f : ∀ u, Keeps r0 u → Keeps r0 (f u)) (hk :
    Keeps r0 s) : Keeps r0 (glide n f s) := by
  unfold glide
  iterate 40
    all_goals try
      first | intro _ | with_reducible assumption | with_reducible apply h_f | with_reducible apply glideFrom_keeps

/-- `retarget` keeps the queue, and the fields in order. -/
theorem retarget_keeps {r0 : State} (sp : Nat) (f : State → State) {s : State} (h_f : ∀ u, Keeps r0 u → Keeps r0 (f u)) (hk
    : Keeps r0 s) : Keeps r0 (retarget sp f s) := by
  unfold retarget
  iterate 40
    all_goals try
      first | intro _ | with_reducible assumption | with_reducible apply h_f | with_reducible apply Keeps_ite
            | with_reducible apply fastClear_keeps | with_reducible apply setPath_keeps | dsimp only | split
            | with_reducible apply Keeps_mk

/-- `setSp` keeps the queue, and the fields in order. -/
theorem setSp_keeps {r0 : State} (sp : Nat) (x : SpareSt) {s : State} (hk : Keeps r0 s) : Keeps r0 (setSp sp x s) := by
  unfold setSp
  iterate 40
    all_goals try
      first | intro _ | with_reducible assumption | with_reducible apply retarget_keeps | dsimp only | split
            | with_reducible apply Keeps_mk

/-- `setSlot` keeps the queue, and the fields in order. -/
theorem setSlot_keeps {r0 : State} (sp : Nat) (sl : Option Slot) {s : State} (hk : Keeps r0 s) : Keeps r0 (setSlot sp sl s)
    := by
  unfold setSlot
  iterate 40
    all_goals try
      first | with_reducible assumption | with_reducible apply setSp_keeps

/-! ### LinkOps -/

/-- `setPort` keeps the queue, and the fields in order. -/
theorem setPort_keeps {r0 : State} (p : Nat) (x : LinkPort) {s : State} (hk : Keeps r0 s) : Keeps r0 (setPort p x s) := by
  unfold setPort
  iterate 40
    all_goals try
      first | with_reducible assumption | dsimp only | with_reducible apply Keeps_mk

/-- `linkSend` keeps the queue, and the fields in order. -/
theorem linkSend_keeps {r0 : State} (port : Nat) (fs : List OutFrame) {s : State} (hk : Keeps r0 s) : Keeps r0 (linkSend
    port fs s) := by
  unfold linkSend
  iterate 40
    all_goals try
      first | with_reducible assumption | with_reducible apply setPort_keeps

/-- `linkPump` keeps the queue, and the fields in order. -/
theorem linkPump_keeps {r0 : State} {s : State} (hk : Keeps r0 s) : Keeps r0 (linkPump s) := by
  unfold linkPump
  iterate 40
    all_goals try
      first | intro _ | with_reducible assumption | with_reducible apply Keeps_ite | with_reducible apply Keeps_foldl
            | with_reducible apply linkSend_keeps

/-- `linkQuiet` keeps the queue, and the fields in order. -/
theorem linkQuiet_keeps {r0 : State} (port : Nat) (d : Nat) {s : State} (hk : Keeps r0 s) : Keeps r0 (linkQuiet port d s) :=
    by
  unfold linkQuiet
  iterate 40
    all_goals try
      first | with_reducible assumption | with_reducible apply setPort_keeps

/-- `linkAnswer` keeps the queue, and the fields in order. -/
theorem linkAnswer_keeps {r0 : State} (port : Nat) (lseq : Nat) (ack : Bool) {s : State} (hk : Keeps r0 s) : Keeps r0
    (linkAnswer port lseq ack s) := by
  unfold linkAnswer
  iterate 40
    all_goals try
      first | with_reducible assumption | with_reducible apply setPort_keeps

/-- `linkDone` keeps the queue, and the fields in order. -/
theorem linkDone_keeps {r0 : State} (port : Nat) (l : Nat) {s : State} (hk : Keeps r0 s) : Keeps r0 (linkDone port l s) :=
    by
  unfold linkDone
  iterate 40
    all_goals try
      first | intro _ | with_reducible assumption | with_reducible apply setPort_keeps

/-- `linkRepeat` keeps the queue, and the fields in order. -/
theorem linkRepeat_keeps {r0 : State} (port : Nat) (f : OutFrame) {s : State} (hk : Keeps r0 s) : Keeps r0 (linkRepeat port
    f s) := by
  unfold linkRepeat
  iterate 40
    all_goals try
      first | with_reducible assumption | with_reducible apply linkSend_keeps | with_reducible apply linkDone_keeps

/-- `countFrame` keeps the queue, and the fields in order. -/
theorem countFrame_keeps {r0 : State} (type : Nat) {s : State} (hk : Keeps r0 s) : Keeps r0 (countFrame type s) := by
  unfold countFrame
  iterate 40
    all_goals try
      first | with_reducible assumption | dsimp only | with_reducible apply Keeps_mk

/-- `sendSegments` keeps the queue, and the fields in order. -/
theorem sendSegments_keeps {r0 : State} (type : Nat) (mseq : Nat) (bs : List Nat) {s : State} (hk : Keeps r0 s) : Keeps r0
    (sendSegments type mseq bs s) := by
  unfold sendSegments
  iterate 40
    all_goals try
      first | intro _ | with_reducible assumption | with_reducible apply Keeps_foldl | with_reducible apply countFrame_keeps
            | with_reducible apply linkSend_keeps

/-- `tetherSend` keeps the queue, and the fields in order. -/
theorem tetherSend_keeps {r0 : State} (type : Nat) (bs : List Nat) {s : State} (hk : Keeps r0 s) : Keeps r0 (tetherSend type
    bs s) := by
  unfold tetherSend
  iterate 40
    all_goals try
      first | with_reducible assumption | with_reducible apply Keeps_ite | with_reducible apply sendSegments_keeps
            | dsimp only | split | with_reducible apply Keeps_mk

/-- `sendMsg` keeps the queue, and the fields in order. -/
theorem sendMsg_keeps {r0 : State} (m : TwnMsg) {s : State} (hk : Keeps r0 s) : Keeps r0 (sendMsg m s) := by
  unfold sendMsg
  iterate 40
    all_goals try
      first | with_reducible assumption | with_reducible apply tetherSend_keeps | dsimp only | with_reducible apply Keeps_mk

/-- `sendAdopted` keeps the queue, and the fields in order. -/
theorem sendAdopted_keeps {r0 : State} (r : ChanRun) {s : State} (hk : Keeps r0 s) : Keeps r0 (sendAdopted r s) := by
  unfold sendAdopted
  iterate 40
    all_goals try
      first | with_reducible assumption | with_reducible apply tetherSend_keeps

/-- `takeSegment` keeps the queue, and the fields in order. -/
theorem takeSegment_keeps {r0 : State} (type : Nat) (bs : List Nat) {s : State} (hk : Keeps r0 s) : Keeps r0 (takeSegment
    type bs s) := by
  unfold takeSegment
  iterate 40
    all_goals try
      first | intro _ | with_reducible assumption | with_reducible apply Keeps_ite | dsimp only | split
            | with_reducible apply Keeps_mk

/-- `takeWhole` keeps the queue, and the fields in order. -/
theorem takeWhole_keeps {r0 : State} (type : Nat) {s : State} (hk : Keeps r0 s) : Keeps r0 (takeWhole type s) := by
  unfold takeWhole
  iterate 40
    all_goals try
      first | intro _ | with_reducible assumption | dsimp only | split | with_reducible apply Keeps_mk

/-! ### Events -/

/-- `raiseIf` keeps the queue, and the fields in order. -/
theorem raiseIf_keeps {r0 : State} (b : Bool) (e : Nat) (detail : Nat) {s : State} (hk : Keeps r0 s) : Keeps r0 (raiseIf b e
    detail s) := by
  unfold raiseIf
  iterate 40
    all_goals try
      first | with_reducible assumption | with_reducible apply raise_keeps | with_reducible apply Keeps_ite

/-! ### FaultOps -/

/-- `evalDState` keeps the queue, and the fields in order. -/
theorem evalDState_keeps {r0 : State} {s : State} (hk : Keeps r0 s) : Keeps r0 (evalDState s) := by
  unfold evalDState
  iterate 40
    all_goals try
      first | with_reducible assumption | with_reducible apply put_keeps | with_reducible apply raise_keeps
            | with_reducible apply Keeps_ite | with_reducible apply sendMsg_keeps | dsimp only | split
            | with_reducible apply Keeps_mk

/-- `makeFailed` keeps the queue, and the fields in order. -/
theorem makeFailed_keeps {r0 : State} {s : State} (hk : Keeps r0 s) : Keeps r0 (makeFailed s) := by
  unfold makeFailed
  iterate 40
    all_goals try
      first | with_reducible assumption | with_reducible apply evalDState_keeps | dsimp only | with_reducible apply Keeps_mk

/-- `noteFault` keeps the queue, and the fields in order. -/
theorem noteFault_keeps {r0 : State} (cls : Nat) (kind : Nat) (unit : Nat) (detail : Nat) (inj : Bool) (scrub : Bool) {s :
    State} (hk : Keeps r0 s) : Keeps r0 (noteFault cls kind unit detail inj scrub s) := by
  unfold noteFault
  iterate 40
    all_goals try
      first | with_reducible assumption | with_reducible apply put_keeps | with_reducible apply setBit_keeps

/-- `latent` keeps the queue, and the fields in order. -/
theorem latent_keeps {r0 : State} (scrub : Bool) (cls : Nat) (unit : Nat) {s : State} (hk : Keeps r0 s) : Keeps r0 (latent
    scrub cls unit s) := by
  unfold latent
  iterate 40
    all_goals try
      first | with_reducible assumption | with_reducible apply put_keeps | with_reducible apply raise_keeps
            | with_reducible apply Keeps_ite

/-- `transient` keeps the queue, and the fields in order. -/
theorem transient_keeps {r0 : State} (cls : Nat) (unit : Nat) (detail : Nat) (inj : Bool) (scrub : Bool) {s : State} (hk :
    Keeps r0 s) : Keeps r0 (transient cls unit detail inj scrub s) := by
  unfold transient
  iterate 40
    all_goals try
      first | with_reducible assumption | with_reducible apply put_keeps | with_reducible apply inc_keeps
            | with_reducible apply raise_keeps | with_reducible apply latent_keeps | with_reducible apply noteFault_keeps

/-- `ruleDouble` keeps the queue, and the fields in order. -/
theorem ruleDouble_keeps {r0 : State} (fs : List FaultRec) (inOne : Bool) {s : State} (hk : Keeps r0 s) : Keeps r0
    (ruleDouble fs inOne s) := by
  unfold ruleDouble
  iterate 40
    all_goals try
      first | intro _ | with_reducible assumption | with_reducible apply put_keeps | with_reducible apply raise_keeps
            | with_reducible apply Keeps_ite | with_reducible apply Keeps_foldl | with_reducible apply makeFailed_keeps
            | dsimp only | split | with_reducible apply Keeps_mk

/-- `openWindow` keeps the queue, and the fields in order. -/
theorem openWindow_keeps {r0 : State} (f : FaultRec) {s : State} (hk : Keeps r0 s) : Keeps r0 (openWindow f s) := by
  unfold openWindow
  iterate 40
    all_goals try
      first | with_reducible assumption | with_reducible apply put_keeps | with_reducible apply Keeps_ite
            | with_reducible apply ruleDouble_keeps | dsimp only | split | with_reducible apply Keeps_mk

/-- `permanent` keeps the queue, and the fields in order. -/
theorem permanent_keeps {r0 : State} (cls : Nat) (unit : Nat) (detail : Nat) (spare : Bool) (scrub : Bool) (chan : Option
    Nat) {s : State} (hk : Keeps r0 s) : Keeps r0 (permanent cls unit detail spare scrub chan s) := by
  unfold permanent
  iterate 40
    all_goals try
      first | with_reducible assumption | with_reducible apply put_keeps | with_reducible apply inc_keeps
            | with_reducible apply raise_keeps | with_reducible apply Keeps_ite | with_reducible apply noteFault_keeps
            | with_reducible apply latent_keeps | with_reducible apply evalDState_keeps
            | with_reducible apply openWindow_keeps

/-- `closeWindow` keeps the queue, and the fields in order. -/
theorem closeWindow_keeps {r0 : State} {s : State} (hk : Keeps r0 s) : Keeps r0 (closeWindow s) := by
  unfold closeWindow
  iterate 40
    all_goals try
      first | with_reducible assumption | with_reducible apply put_keeps | dsimp only | split | with_reducible apply Keeps_mk

/-- `vaultReread` keeps the queue, and the fields in order. -/
theorem vaultReread_keeps {r0 : State} (x : VaultRec) {s : State} (hk : Keeps r0 s) : Keeps r0 (vaultReread x s) := by
  unfold vaultReread
  iterate 40
    all_goals try
      first | with_reducible assumption | with_reducible apply transient_keeps

/-- `retireBlock` keeps the queue, and the fields in order. -/
theorem retireBlock_keeps {r0 : State} (b : Nat) (scrub : Bool) {s : State} (hk : Keeps r0 s) : Keeps r0 (retireBlock b
    scrub s) := by
  unfold retireBlock
  iterate 40
    all_goals try
      first | with_reducible assumption | with_reducible apply inc_keeps | with_reducible apply Keeps_ite
            | with_reducible apply permanent_keeps | dsimp only | split | with_reducible apply Keeps_mk

/-- `takeInjection` keeps the queue, and the fields in order. -/
theorem takeInjection_keeps {r0 : State} (tgt : Nat) (unit : Nat) {s : State} (hk : Keeps r0 s) : Keeps r0 (takeInjection
    tgt unit s).2 := by
  unfold takeInjection
  iterate 40
    all_goals try
      first | with_reducible assumption | with_reducible apply put_keeps | with_reducible apply Keeps_ite | dsimp only | split
            | with_reducible apply Keeps_mk

/-- `vaultRead` keeps the queue, and the fields in order. -/
theorem vaultRead_keeps {r0 : State} (x : VaultRec) {s : State} (hk : Keeps r0 s) : Keeps r0 (vaultRead x s) := by
  unfold vaultRead
  iterate 40
    all_goals try
      first | with_reducible assumption | with_reducible apply Keeps_ite | with_reducible apply takeInjection_keeps
            | with_reducible apply transient_keeps

/-! ### CalOps -/

/-- `putCopies` keeps the queue, and the fields in order. -/
theorem putCopies_keeps {r0 : State} (i : Nat) (c : CalCopies) {s : State} (hk : Keeps r0 s) : Keeps r0 (putCopies i c s) :=
    by
  unfold putCopies
  iterate 40
    all_goals try
      first | with_reducible assumption | dsimp only | with_reducible apply Keeps_mk

/-- `takeFail` keeps the queue, and the fields in order. -/
theorem takeFail_keeps {r0 : State} (f : SetFail) {s : State} (hk : Keeps r0 s) : Keeps r0 (takeFail f s) := by
  unfold takeFail
  iterate 40
    all_goals try
      first | with_reducible assumption | with_reducible apply Keeps_ite | with_reducible apply putCopies_keeps
            | with_reducible apply vaultReread_keeps

/-- `setRetry` keeps the queue, and the fields in order. -/
theorem setRetry_keeps {r0 : State} (f : SetFail) {s : State} (hk : Keeps r0 s) : Keeps r0 (setRetry f s) := by
  unfold setRetry
  iterate 40
    all_goals try
      first | with_reducible assumption | with_reducible apply Keeps_ite | with_reducible apply retireBlock_keeps
            | with_reducible apply vaultReread_keeps

/-- `takeFails` keeps the queue, and the fields in order. -/
theorem takeFails_keeps {r0 : State} (fs : List SetFail) {s : State} (hk : Keeps r0 s) : Keeps r0 (takeFails fs s) := by
  unfold takeFails
  iterate 40
    all_goals try
      first | intro _ | with_reducible assumption | with_reducible apply Keeps_foldl | with_reducible apply setRetry_keeps
            | with_reducible apply takeFail_keeps

/-- `touchSet` keeps the queue, and the fields in order. -/
theorem touchSet_keeps {r0 : State} (i : Nat) {s : State} (hk : Keeps r0 s) : Keeps r0 (touchSet i s) := by
  unfold touchSet
  iterate 40
    all_goals try
      first | with_reducible assumption | with_reducible apply raise_keeps | with_reducible apply Keeps_ite
            | with_reducible apply putCopies_keeps

/-- `touchSets` keeps the queue, and the fields in order. -/
theorem touchSets_keeps {r0 : State} {s : State} (hk : Keeps r0 s) : Keeps r0 (touchSets s) := by
  unfold touchSets
  iterate 40
    all_goals try
      first | intro _ | with_reducible assumption | with_reducible apply Keeps_foldl | with_reducible apply touchSet_keeps
            | with_reducible apply vaultRead_keeps

/-- `showSet` keeps the queue, and the fields in order. -/
theorem showSet_keeps {r0 : State} (i : Nat) {s : State} (hk : Keeps r0 s) : Keeps r0 (showSet i s) := by
  unfold showSet
  iterate 40
    all_goals try
      first | with_reducible assumption | with_reducible apply put_keeps | with_reducible apply setBit_keeps
            | with_reducible apply putI_keeps | with_reducible apply Keeps_ite

/-- `showSets` keeps the queue, and the fields in order. -/
theorem showSets_keeps {r0 : State} {s : State} (hk : Keeps r0 s) : Keeps r0 (showSets s) := by
  unfold showSets
  iterate 40
    all_goals try
      first | intro _ | with_reducible assumption | with_reducible apply Keeps_foldl | with_reducible apply showSet_keeps

/-- `writeSet` keeps the queue, and the fields in order. -/
theorem writeSet_keeps {r0 : State} (i : Nat) (c : CalSet) {s : State} (hk : Keeps r0 s) : Keeps r0 (writeSet i c s) := by
  unfold writeSet
  iterate 40
    all_goals try
      first | with_reducible assumption | with_reducible apply showSet_keeps | with_reducible apply putCopies_keeps

/-- `putTrace` keeps the queue, and the fields in order. -/
theorem putTrace_keeps {r0 : State} (n : Nat) (c : Trace) {s : State} (hk : Keeps r0 s) : Keeps r0 (putTrace n c s) := by
  unfold putTrace
  iterate 40
    all_goals try
      first | with_reducible assumption | with_reducible apply put_keeps | with_reducible apply setBit_keeps
            | with_reducible apply putI_keeps | with_reducible apply stamp_keeps | with_reducible apply raise_keeps
            | with_reducible apply raiseIf_keeps | dsimp only | with_reducible apply Keeps_mk

/-- `traceAtSplice` keeps the queue, and the fields in order. -/
theorem traceAtSplice_keeps {r0 : State} (n : Nat) {s : State} (hk : Keeps r0 s) : Keeps r0 (traceAtSplice n s) := by
  unfold traceAtSplice
  iterate 40
    all_goals try
      first | with_reducible assumption | with_reducible apply putTrace_keeps | dsimp only | with_reducible apply Keeps_mk

/-- `traceResume` keeps the queue, and the fields in order. -/
theorem traceResume_keeps {r0 : State} (n : Nat) {s : State} (hk : Keeps r0 s) : Keeps r0 (traceResume n s) := by
  unfold traceResume
  iterate 40
    all_goals try
      first | with_reducible assumption | with_reducible apply Keeps_ite | with_reducible apply traceAtSplice_keeps
            | dsimp only | split | with_reducible apply Keeps_mk

/-- `applyPend` keeps the queue, and the fields in order. -/
theorem applyPend_keeps {r0 : State} (n : Nat) {s : State} (hk : Keeps r0 s) : Keeps r0 (applyPend n s) := by
  unfold applyPend
  iterate 40
    all_goals try
      first | with_reducible assumption | with_reducible apply putTrace_keeps | dsimp only | split
            | with_reducible apply Keeps_mk

/-- `applyAllPend` keeps the queue, and the fields in order. -/
theorem applyAllPend_keeps {r0 : State} {s : State} (hk : Keeps r0 s) : Keeps r0 (applyAllPend s) := by
  unfold applyAllPend
  iterate 40
    all_goals try
      first | intro _ | with_reducible assumption | with_reducible apply Keeps_foldl | with_reducible apply applyPend_keeps

/-- `trimBegin` keeps the queue, and the fields in order. -/
theorem trimBegin_keeps {r0 : State} {s : State} (hk : Keeps r0 s) : Keeps r0 (trimBegin s) := by
  unfold trimBegin
  iterate 40
    all_goals try
      first | intro _ | with_reducible assumption | with_reducible apply put_keeps | with_reducible apply Keeps_ite
            | dsimp only | split | with_reducible apply Keeps_mk

/-- `trimOver` keeps the queue, and the fields in order. -/
theorem trimOver_keeps {r0 : State} {s : State} (hk : Keeps r0 s) : Keeps r0 (trimOver s) := by
  unfold trimOver
  iterate 40
    all_goals try
      first | intro _ | with_reducible assumption | with_reducible apply Keeps_ite | dsimp only | split
            | with_reducible apply Keeps_mk

/-- `trimTrigger` keeps the queue, and the fields in order. -/
theorem trimTrigger_keeps {r0 : State} {s : State} (hk : Keeps r0 s) : Keeps r0 (trimTrigger s) := by
  unfold trimTrigger
  iterate 40
    all_goals try
      first | with_reducible assumption | with_reducible apply Keeps_ite | with_reducible apply trimBegin_keeps | dsimp only
            | split | with_reducible apply Keeps_mk

/-- `toutOf` keeps the queue, and the fields in order. -/
theorem toutOf_keeps {r0 : State} (n : Nat) {s : State} (hk : Keeps r0 s) : Keeps r0 (toutOf n s) := by
  unfold toutOf
  iterate 40
    all_goals try
      first | with_reducible assumption | with_reducible apply setBit_keeps | with_reducible apply raise_keeps
            | with_reducible apply raiseIf_keeps

/-- `toutFollow` keeps the queue, and the fields in order. -/
theorem toutFollow_keeps {r0 : State} {s : State} (hk : Keeps r0 s) : Keeps r0 (toutFollow s) := by
  unfold toutFollow
  iterate 40
    all_goals try
      first | intro _ | with_reducible assumption | with_reducible apply Keeps_foldl | with_reducible apply toutOf_keeps

/-- `dieTemperature` keeps the queue, and the fields in order. -/
theorem dieTemperature_keeps {r0 : State} (ts : List Int) {s : State} (hk : Keeps r0 s) : Keeps r0 (dieTemperature ts s) :=
    by
  unfold dieTemperature
  iterate 40
    all_goals try
      first | with_reducible assumption | with_reducible apply put_keeps | with_reducible apply putI_keeps
            | with_reducible apply raise_keeps | with_reducible apply Keeps_ite | with_reducible apply raiseIf_keeps
            | with_reducible apply toutFollow_keeps | with_reducible apply trimTrigger_keeps

/-- `setCalState` keeps the queue, and the fields in order. -/
theorem setCalState_keeps {r0 : State} (k : Nat) {s : State} (hk : Keeps r0 s) : Keeps r0 (setCalState k s) := by
  unfold setCalState
  iterate 40
    all_goals try
      first | with_reducible assumption | with_reducible apply put_keeps

/-- `onSess` keeps the queue, and the fields in order. -/
theorem onSess_keeps {r0 : State} (f : Sess → State → State) {s : State} (h_f : ∀ a u, Keeps r0 u → Keeps r0 (f a u)) (hk :
    Keeps r0 s) : Keeps r0 (onSess f s) := by
  unfold onSess
  iterate 40
    all_goals try
      first | intro _ | with_reducible assumption | with_reducible apply h_f | with_reducible apply Keeps_ite | dsimp only
            | split

/-- `setSess` keeps the queue, and the fields in order. -/
theorem setSess_keeps {r0 : State} (x : Sess) {s : State} (hk : Keeps r0 s) : Keeps r0 (setSess x s) := by
  unfold setSess
  iterate 40
    all_goals try
      first | with_reducible assumption | dsimp only | with_reducible apply Keeps_mk

/-- `sessAdvance` keeps the queue, and the fields in order. -/
theorem sessAdvance_keeps {r0 : State} (x : Sess) {s : State} (hk : Keeps r0 s) : Keeps r0 (sessAdvance x s) := by
  unfold sessAdvance
  iterate 40
    all_goals try
      first | with_reducible assumption | with_reducible apply Keeps_ite | with_reducible apply setSess_keeps
            | with_reducible apply setCalState_keeps

/-! ### RemountOps -/

/-- `storeCorr` keeps the queue, and the fields in order. -/
theorem storeCorr_keeps {r0 : State} (md : Nat) (range : Nat) (c : Corr) {s : State} (hk : Keeps r0 s) : Keeps r0 (storeCorr
    md range c s) := by
  unfold storeCorr
  iterate 40
    all_goals try
      first | with_reducible assumption | dsimp only | with_reducible apply Keeps_mk

/-- `noteFactory` keeps the queue, and the fields in order. -/
theorem noteFactory_keeps {r0 : State} (n : Nat) {s : State} (hk : Keeps r0 s) : Keeps r0 (noteFactory n s) := by
  unfold noteFactory
  iterate 40
    all_goals try
      first | with_reducible assumption | with_reducible apply lift_keeps | with_reducible apply Keeps_ite

/-- `spliceMarks` keeps the queue, and the fields in order. -/
theorem spliceMarks_keeps {r0 : State} (n : Nat) {s : State} (hk : Keeps r0 s) : Keeps r0 (spliceMarks n s) := by
  unfold spliceMarks
  iterate 40
    all_goals try
      first | with_reducible assumption | with_reducible apply Keeps_ite | dsimp only | split | with_reducible apply Keeps_mk

/-- `watchFree` keeps the queue, and the fields in order. -/
theorem watchFree_keeps {r0 : State} (b : Nat) (f : State → State) {s : State} (h_f : ∀ u, Keeps r0 u → Keeps r0 (f u)) (hk
    : Keeps r0 s) : Keeps r0 (watchFree b f s) := by
  unfold watchFree
  iterate 40
    all_goals try
      first | intro _ | with_reducible assumption | with_reducible apply h_f | with_reducible apply raise_keeps
            | with_reducible apply Keeps_ite | dsimp only | split

/-- `rmtTransient` keeps the queue, and the fields in order. -/
theorem rmtTransient_keeps {r0 : State} (b : Nat) (n : Nat) {s : State} (hk : Keeps r0 s) : Keeps r0 (rmtTransient b n s) :=
    by
  unfold rmtTransient
  iterate 40
    all_goals try
      first | with_reducible assumption | with_reducible apply inc_keeps | with_reducible apply raise_keeps
            | with_reducible apply transient_keeps

/-- `skipSlot` keeps the queue, and the fields in order. -/
theorem skipSlot_keeps {r0 : State} (n : Nat) {s : State} (hk : Keeps r0 s) : Keeps r0 (skipSlot n s) := by
  unfold skipSlot
  iterate 40
    all_goals try
      first | with_reducible assumption | with_reducible apply inc_keeps | with_reducible apply raise_keeps

/-- `setFeed` keeps the queue, and the fields in order. -/
theorem setFeed_keeps {r0 : State} (n : Nat) (k : Nat) {s : State} (hk : Keeps r0 s) : Keeps r0 (setFeed n k s) := by
  unfold setFeed
  iterate 40
    all_goals try
      first | with_reducible assumption | with_reducible apply put_keeps

/-- `feedOwn` keeps the queue, and the fields in order. -/
theorem feedOwn_keeps {r0 : State} (n : Nat) {s : State} (hk : Keeps r0 s) : Keeps r0 (feedOwn n s) := by
  unfold feedOwn
  iterate 40
    all_goals try
      first | with_reducible assumption | with_reducible apply setFeed_keeps

/-- `driftStep` keeps the queue, and the fields in order. -/
theorem driftStep_keeps {r0 : State} (sl : Slot) {s : State} (hk : Keeps r0 s) : Keeps r0 (driftStep sl s) := by
  unfold driftStep
  iterate 40
    all_goals try
      first | with_reducible assumption | with_reducible apply put_keeps | with_reducible apply putI_keeps
            | with_reducible apply raise_keeps | with_reducible apply raiseIf_keeps | dsimp only | split

/-- `liveSettings` keeps the queue, and the fields in order. -/
theorem liveSettings_keeps {r0 : State} (sl : Slot) {s : State} (hk : Keeps r0 s) : Keeps r0 (liveSettings sl s) := by
  unfold liveSettings
  iterate 40
    all_goals try
      first | with_reducible assumption | with_reducible apply traceAtSplice_keeps | dsimp only | split
            | with_reducible apply Keeps_mk

/-- `refinStart` keeps the queue, and the fields in order. -/
theorem refinStart_keeps {r0 : State} {s : State} (hk : Keeps r0 s) : Keeps r0 (refinStart s) := by
  unfold refinStart
  iterate 40
    all_goals try
      first | with_reducible assumption | with_reducible apply Keeps_ite | with_reducible apply sessAdvance_keeps
            | with_reducible apply setSp_keeps | dsimp only | split

/-- `startSlot` keeps the queue, and the fields in order. -/
theorem startSlot_keeps {r0 : State} (kind : SlotKind) (sp : Nat) (n : Nat) {s : State} (hk : Keeps r0 s) : Keeps r0
    (startSlot kind sp n s) := by
  unfold startSlot
  iterate 40
    all_goals try
      first | with_reducible assumption | with_reducible apply setSlot_keeps

/-- `startRoutine` keeps the queue, and the fields in order. -/
theorem startRoutine_keeps {r0 : State} (sp : Nat) (k : Nat) {s : State} (hk : Keeps r0 s) : Keeps r0 (startRoutine sp k s)
    := by
  unfold startRoutine
  iterate 40
    all_goals try
      first | with_reducible assumption | with_reducible apply Keeps_ite | with_reducible apply startSlot_keeps | dsimp only
            | split

/-- `refuseForce` keeps the queue, and the fields in order. -/
theorem refuseForce_keeps {r0 : State} {s : State} (hk : Keeps r0 s) : Keeps r0 (refuseForce s) := by
  unfold refuseForce
  iterate 40
    all_goals try
      first | with_reducible assumption | with_reducible apply put_keeps

/-- `serveForce` keeps the queue, and the fields in order. -/
theorem serveForce_keeps {r0 : State} (b : Nat) {s : State} (hk : Keeps r0 s) : Keeps r0 (serveForce b s) := by
  unfold serveForce
  iterate 40
    all_goals try
      first | with_reducible assumption | with_reducible apply put_keeps | with_reducible apply Keeps_ite
            | with_reducible apply refuseForce_keeps | with_reducible apply startSlot_keeps | dsimp only | split

/-- `settleBank` keeps the queue, and the fields in order. -/
theorem settleBank_keeps {r0 : State} (b : Nat) {s : State} (hk : Keeps r0 s) : Keeps r0 (settleBank b s) := by
  unfold settleBank
  iterate 40
    all_goals try
      first | with_reducible assumption | with_reducible apply serveForce_keeps | with_reducible apply refinStart_keeps

/-- `refinDrop` keeps the queue, and the fields in order. -/
theorem refinDrop_keeps {r0 : State} {s : State} (hk : Keeps r0 s) : Keeps r0 (refinDrop s) := by
  unfold refinDrop
  iterate 40
    all_goals try
      first | with_reducible assumption | with_reducible apply serveForce_keeps | with_reducible apply setSp_keeps
            | dsimp only | split

/-- `startLive` keeps the queue, and the fields in order. -/
theorem startLive_keeps {r0 : State} (q : LiveReq) (sp : Nat) {s : State} (hk : Keeps r0 s) : Keeps r0 (startLive q sp s) :=
    by
  unfold startLive
  iterate 40
    all_goals try
      first | intro _ | with_reducible assumption | with_reducible apply setSp_keeps | dsimp only | split
            | with_reducible apply Keeps_mk

/-- `serveLive` keeps the queue, and the fields in order. -/
theorem serveLive_keeps {r0 : State} (b : Nat) {s : State} (hk : Keeps r0 s) : Keeps r0 (serveLive b s) := by
  unfold serveLive
  iterate 40
    all_goals try
      first | intro _ | with_reducible assumption | with_reducible apply startLive_keeps | dsimp only | split

/-- `setChange` keeps the queue, and the fields in order. -/
theorem setChange_keeps {r0 : State} (n : Nat) (c : Option RespChange) {s : State} (hk : Keeps r0 s) : Keeps r0 (setChange n
    c s) := by
  unfold setChange
  iterate 40
    all_goals try
      first | with_reducible assumption | dsimp only | with_reducible apply Keeps_mk

/-- `serveResp` keeps the queue, and the fields in order. -/
theorem serveResp_keeps {r0 : State} (b : Nat) {s : State} (hk : Keeps r0 s) : Keeps r0 (serveResp b s) := by
  unfold serveResp
  iterate 40
    all_goals try
      first | intro _ | with_reducible assumption | with_reducible apply lift_keeps | with_reducible apply setChange_keeps
            | with_reducible apply pathLend_keeps | with_reducible apply setSp_keeps | with_reducible apply setDone_keeps
            | dsimp only | split

/-- `lostSpare` keeps the queue, and the fields in order. -/
theorem lostSpare_keeps {r0 : State} (n : Nat) (ph : RespPh) {s : State} (hk : Keeps r0 s) : Keeps r0 (lostSpare n ph s) :=
    by
  unfold lostSpare
  iterate 40
    all_goals try
      first | with_reducible assumption | with_reducible apply lower_keeps | with_reducible apply Keeps_ite
            | with_reducible apply setChange_keeps | dsimp only | split

/-- `unlend` keeps the queue, and the fields in order. -/
theorem unlend_keeps {r0 : State} (sp : Nat) {s : State} (hk : Keeps r0 s) : Keeps r0 (unlend sp s) := by
  unfold unlend
  iterate 40
    all_goals try
      first | with_reducible assumption | with_reducible apply lostSpare_keeps | with_reducible apply setSp_keeps | dsimp only
            | split

/-- `resume` keeps the queue, and the fields in order. -/
theorem resume_keeps {r0 : State} (sp : Nat) {s : State} (hk : Keeps r0 s) : Keeps r0 (resume sp s) := by
  unfold resume
  iterate 40
    all_goals try
      first | with_reducible assumption | with_reducible apply Keeps_ite | with_reducible apply setSp_keeps
            | with_reducible apply skipSlot_keeps | with_reducible apply setSlot_keeps | dsimp only | split

/-- `takeWork` keeps the queue, and the fields in order. -/
theorem takeWork_keeps {r0 : State} (sp : Nat) {s : State} (hk : Keeps r0 s) : Keeps r0 (takeWork sp s) := by
  unfold takeWork
  iterate 40
    all_goals try
      first | with_reducible assumption | with_reducible apply Keeps_ite | with_reducible apply serveResp_keeps
            | with_reducible apply serveLive_keeps | with_reducible apply resume_keeps | with_reducible apply serveForce_keeps
            | with_reducible apply refinStart_keeps | with_reducible apply startRoutine_keeps
            | with_reducible apply setSp_keeps | dsimp only | split

/-- `nextWork` keeps the queue, and the fields in order. -/
theorem nextWork_keeps {r0 : State} (sp : Nat) {s : State} (hk : Keeps r0 s) : Keeps r0 (nextWork sp s) := by
  unfold nextWork
  iterate 40
    all_goals try
      first | intro _ | with_reducible assumption | with_reducible apply watchFree_keeps | with_reducible apply takeWork_keeps

/-- `completeSlot` keeps the queue, and the fields in order. -/
theorem completeSlot_keeps {r0 : State} (sp : Nat) {s : State} (hk : Keeps r0 s) : Keeps r0 (completeSlot sp s) := by
  unfold completeSlot
  iterate 40
    all_goals try
      first | with_reducible assumption | with_reducible apply inc_keeps | with_reducible apply nextWork_keeps
            | with_reducible apply setSlot_keeps

/-- `liveRequest` keeps the queue, and the fields in order. -/
theorem liveRequest_keeps {r0 : State} (n : Nat) (range : Nat) (sensor : Nat) {s : State} (hk : Keeps r0 s) : Keeps r0
    (liveRequest n range sensor s) := by
  unfold liveRequest
  iterate 40
    all_goals try
      first | intro _ | with_reducible assumption | with_reducible apply Keeps_ite | with_reducible apply settleBank_keeps
            | with_reducible apply watchFree_keeps | with_reducible apply serveLive_keeps | dsimp only | split
            | with_reducible apply Keeps_mk

/-- `respRequest` keeps the queue, and the fields in order. -/
theorem respRequest_keeps {r0 : State} (n : Nat) (resp : List Nat) {s : State} (hk : Keeps r0 s) : Keeps r0 (respRequest n
    resp s) := by
  unfold respRequest
  iterate 40
    all_goals try
      first | intro _ | with_reducible assumption | with_reducible apply lower_keeps | with_reducible apply Keeps_ite
            | with_reducible apply Keeps_foldl | with_reducible apply setChange_keeps | with_reducible apply setSp_keeps
            | with_reducible apply settleBank_keeps | with_reducible apply watchFree_keeps
            | with_reducible apply serveResp_keeps | with_reducible apply pathLend_keeps | with_reducible apply setDone_keeps
            | dsimp only | split

/-- `dropResp` keeps the queue, and the fields in order. -/
theorem dropResp_keeps {r0 : State} (n : Nat) {s : State} (hk : Keeps r0 s) : Keeps r0 (dropResp n s) := by
  unfold dropResp
  iterate 40
    all_goals try
      first | intro _ | with_reducible assumption | with_reducible apply lower_keeps | with_reducible apply Keeps_ite
            | with_reducible apply Keeps_foldl | with_reducible apply nextWork_keeps | with_reducible apply setSp_keeps
            | with_reducible apply setChange_keeps

/-- `dropSlot` keeps the queue, and the fields in order. -/
theorem dropSlot_keeps {r0 : State} (k : Slot) {s : State} (hk : Keeps r0 s) : Keeps r0 (dropSlot k s) := by
  unfold dropSlot
  iterate 40
    all_goals try
      first | with_reducible assumption | with_reducible apply Keeps_ite | with_reducible apply skipSlot_keeps
            | with_reducible apply liveRequest_keeps | with_reducible apply trimTrigger_keeps
            | with_reducible apply setSlot_keeps | dsimp only | split

/-- `dropKept` keeps the queue, and the fields in order. -/
theorem dropKept_keeps {r0 : State} (sp : Nat) {s : State} (hk : Keeps r0 s) : Keeps r0 (dropKept sp s) := by
  unfold dropKept
  iterate 40
    all_goals try
      first | with_reducible assumption | with_reducible apply dropSlot_keeps | with_reducible apply setSp_keeps | dsimp only
            | split

/-- `bankCheck` keeps the queue, and the fields in order. -/
theorem bankCheck_keeps {r0 : State} (b : Nat) {s : State} (hk : Keeps r0 s) : Keeps r0 (bankCheck b s) := by
  unfold bankCheck
  iterate 40
    all_goals try
      first | intro _ | with_reducible assumption | with_reducible apply Keeps_ite | with_reducible apply Keeps_foldl
            | with_reducible apply trimTrigger_keeps | with_reducible apply setChange_keeps
            | with_reducible apply serveForce_keeps | dsimp only | split | with_reducible apply Keeps_mk

/-- `retireSpare` keeps the queue, and the fields in order. -/
theorem retireSpare_keeps {r0 : State} (sp : Nat) {s : State} (hk : Keeps r0 s) : Keeps r0 (retireSpare sp s) := by
  unfold retireSpare
  iterate 40
    all_goals try
      first | intro _ | with_reducible assumption | with_reducible apply put_keeps | with_reducible apply raise_keeps
            | with_reducible apply bankCheck_keeps | with_reducible apply dropKept_keeps
            | with_reducible apply watchFree_keeps | with_reducible apply retarget_keeps | with_reducible apply setSp_keeps
            | with_reducible apply unlend_keeps | with_reducible apply permanent_keeps | with_reducible apply raiseIf_keeps

/-- `substitute` keeps the queue, and the fields in order. -/
theorem substitute_keeps {r0 : State} (n : Nat) (sp : Nat) (mtch : Option (Rat × Rat)) {s : State} (hk : Keeps r0 s) : Keeps
    r0 (substitute n sp mtch s) := by
  unfold substitute
  iterate 40
    all_goals try
      first | intro _ | with_reducible assumption | with_reducible apply put_keeps | with_reducible apply raise_keeps
            | with_reducible apply Keeps_ite | with_reducible apply watchFree_keeps | with_reducible apply retireSpare_keeps
            | with_reducible apply storeCorr_keeps | with_reducible apply retarget_keeps | with_reducible apply setSp_keeps
            | with_reducible apply permanent_keeps | with_reducible apply raiseIf_keeps | with_reducible apply bankCheck_keeps
            | with_reducible apply dropKept_keeps | dsimp only | split | with_reducible apply Keeps_mk

/-- `countLost` keeps the queue, and the fields in order. -/
theorem countLost_keeps {r0 : State} (sl : Slot) {s : State} (hk : Keeps r0 s) : Keeps r0 (countLost sl s) := by
  unfold countLost
  iterate 40
    all_goals try
      first | with_reducible assumption | with_reducible apply skipSlot_keeps | dsimp only | split

/-- `abandonSpare` keeps the queue, and the fields in order. -/
theorem abandonSpare_keeps {r0 : State} (sp : Nat) {s : State} (hk : Keeps r0 s) : Keeps r0 (abandonSpare sp s) := by
  have h0 : Keeps r0 ((getSp s sp).arbit.elim s fun n => feedOwn n s) := Keeps_elim hk fun n => feedOwn_keeps n hk
  unfold abandonSpare
  dsimp only
  refine setSp_keeps _ _ (Keeps_elim ?_ fun k => countLost_keeps k ?_) <;>
  · split
    · exact h0
    · exact countLost_keeps _ (feedOwn_keeps _ h0)

/-- `abandonAll` keeps the queue, and the fields in order. -/
theorem abandonAll_keeps {r0 : State} {s : State} (hk : Keeps r0 s) : Keeps r0 (abandonAll s) := by
  unfold abandonAll
  iterate 40
    all_goals try
      first | intro _ | with_reducible assumption | with_reducible apply Keeps_foldl | with_reducible apply abandonSpare_keeps
            | dsimp only | split | with_reducible apply Keeps_mk

/-- `restartEst` keeps the queue, and the fields in order. -/
theorem restartEst_keeps {r0 : State} (n : Nat) {s : State} (hk : Keeps r0 s) : Keeps r0 (restartEst n s) := by
  unfold restartEst
  iterate 40
    all_goals try
      first | intro _ | with_reducible assumption | with_reducible apply Keeps_ite | with_reducible apply Keeps_foldl
            | with_reducible apply setSlot_keeps | dsimp only | split

/-- `beginXfade` keeps the queue, and the fields in order. -/
theorem beginXfade_keeps {r0 : State} (sp : Nat) (sl : Slot) {s : State} (hk : Keeps r0 s) : Keeps r0 (beginXfade sp sl s)
    := by
  unfold beginXfade
  iterate 40
    all_goals try
      first | with_reducible assumption | with_reducible apply Keeps_ite | with_reducible apply setSlot_keeps

/-- `releaseHeld` keeps the queue, and the fields in order. -/
theorem releaseHeld_keeps {r0 : State} (n : Nat) {s : State} (hk : Keeps r0 s) : Keeps r0 (releaseHeld n s) := by
  unfold releaseHeld
  iterate 40
    all_goals try
      first | intro _ | with_reducible assumption | with_reducible apply Keeps_ite | with_reducible apply Keeps_foldl
            | with_reducible apply beginXfade_keeps | with_reducible apply setSlot_keeps | dsimp only | split

/-- `finishReturn` keeps the queue, and the fields in order. -/
theorem finishReturn_keeps {r0 : State} (sp : Nat) (sl : Slot) {s : State} (hk : Keeps r0 s) : Keeps r0 (finishReturn sp sl
    s) := by
  unfold finishReturn
  iterate 40
    all_goals try
      first | intro _ | with_reducible assumption | with_reducible apply inc_keeps | with_reducible apply Keeps_ite
            | with_reducible apply spliceMarks_keeps | with_reducible apply glideFrom_keeps
            | with_reducible apply feedOwn_keeps | with_reducible apply driftStep_keeps | with_reducible apply setSlot_keeps

/-- `preempt` keeps the queue, and the fields in order. -/
theorem preempt_keeps {r0 : State} (sp : Nat) {s : State} (hk : Keeps r0 s) : Keeps r0 (preempt sp s) := by
  unfold preempt
  iterate 40
    all_goals try
      first | intro _ | with_reducible assumption | with_reducible apply Keeps_ite | with_reducible apply setSp_keeps
            | with_reducible apply unlend_keeps | with_reducible apply finishReturn_keeps
            | with_reducible apply dropKept_keeps | with_reducible apply spliceMarks_keeps
            | with_reducible apply feedOwn_keeps | with_reducible apply liveSettings_keeps | with_reducible apply glide_keeps
            | dsimp only | split

/-- `yieldTo` keeps the queue, and the fields in order. -/
theorem yieldTo_keeps {r0 : State} (n : Nat) (sp : Nat) {s : State} (hk : Keeps r0 s) : Keeps r0 (yieldTo n sp s) := by
  unfold yieldTo
  iterate 40
    all_goals try
      first | intro _ | with_reducible assumption | with_reducible apply Keeps_ite | with_reducible apply dropKept_keeps
            | with_reducible apply setSp_keeps | with_reducible apply spliceMarks_keeps
            | with_reducible apply liveSettings_keeps | with_reducible apply glideFrom_keeps
            | with_reducible apply setFeed_keeps | with_reducible apply preempt_keeps | dsimp only | split

/-- `claimSpare` keeps the queue, and the fields in order. -/
theorem claimSpare_keeps {r0 : State} (n : Nat) {s : State} (hk : Keeps r0 s) : Keeps r0 (claimSpare n s).2 := by
  unfold claimSpare
  iterate 40
    all_goals try
      first | intro _ | with_reducible assumption | with_reducible apply raise_keeps | with_reducible apply Keeps_ite
            | with_reducible apply settleBank_keeps | with_reducible apply watchFree_keeps
            | with_reducible apply yieldTo_keeps | dsimp only | split

/-- `releaseSpare` keeps the queue, and the fields in order. -/
theorem releaseSpare_keeps {r0 : State} (n : Nat) {s : State} (hk : Keeps r0 s) : Keeps r0 (releaseSpare n s) := by
  unfold releaseSpare
  iterate 40
    all_goals try
      first | intro _ | with_reducible assumption | with_reducible apply Keeps_ite | with_reducible apply spliceMarks_keeps
            | with_reducible apply glide_keeps | with_reducible apply feedOwn_keeps | with_reducible apply nextWork_keeps
            | with_reducible apply setSp_keeps | dsimp only | split

/-- `disagree` keeps the queue, and the fields in order. -/
theorem disagree_keeps {r0 : State} (a : Nat) (sl : Slot) (out : Bool) {s : State} (hk : Keeps r0 s) : Keeps r0 (disagree a
    sl out s) := by
  unfold disagree
  iterate 40
    all_goals try
      first | intro _ | with_reducible assumption | with_reducible apply lift_keeps | with_reducible apply raise_keeps
            | with_reducible apply Keeps_ite | with_reducible apply preempt_keeps | with_reducible apply setSlot_keeps
            | with_reducible apply settleBank_keeps | with_reducible apply watchFree_keeps
            | with_reducible apply verdict_keeps | with_reducible apply nextWork_keeps | with_reducible apply skipSlot_keeps
            | dsimp only | split | with_reducible apply Keeps_mk

/-- `cancelChange` keeps the queue, and the fields in order. -/
theorem cancelChange_keeps {r0 : State} (n : Nat) {s : State} (hk : Keeps r0 s) : Keeps r0 (cancelChange n s) := by
  unfold cancelChange
  iterate 40
    all_goals try
      first | intro _ | with_reducible assumption | with_reducible apply Keeps_ite | with_reducible apply Keeps_foldl
            | with_reducible apply skipSlot_keeps | with_reducible apply setSp_keeps | with_reducible apply nextWork_keeps
            | with_reducible apply setSlot_keeps | dsimp only | split | with_reducible apply Keeps_mk

/-- `changeAgain` keeps the queue, and the fields in order. -/
theorem changeAgain_keeps {r0 : State} (n : Nat) {s : State} (hk : Keeps r0 s) : Keeps r0 (changeAgain n s) := by
  unfold changeAgain
  iterate 40
    all_goals try
      first | with_reducible assumption | with_reducible apply Keeps_ite | with_reducible apply liveRequest_keeps

/-- `noWitness` keeps the queue, and the fields in order. -/
theorem noWitness_keeps {r0 : State} (n : Nat) {s : State} (hk : Keeps r0 s) : Keeps r0 (noWitness n s) := by
  unfold noWitness
  iterate 40
    all_goals try
      first | with_reducible assumption | dsimp only | split | with_reducible apply Keeps_mk

/-- `withdrawOne` keeps the queue, and the fields in order. -/
theorem withdrawOne_keeps {r0 : State} (sp : Nat) {s : State} (hk : Keeps r0 s) : Keeps r0 (withdrawOne sp s) := by
  unfold withdrawOne
  iterate 40
    all_goals try
      first | intro _ | with_reducible assumption | with_reducible apply Keeps_ite | with_reducible apply noWitness_keeps
            | with_reducible apply spliceMarks_keeps | with_reducible apply glide_keeps | with_reducible apply feedOwn_keeps
            | with_reducible apply lostSpare_keeps | with_reducible apply setSp_keeps | with_reducible apply dropKept_keeps
            | with_reducible apply dropSlot_keeps | dsimp only | split

/-- `withdrawSpares` keeps the queue, and the fields in order. -/
theorem withdrawSpares_keeps {r0 : State} {s : State} (hk : Keeps r0 s) : Keeps r0 (withdrawSpares s) := by
  unfold withdrawSpares
  iterate 40
    all_goals try
      first | intro _ | with_reducible assumption | with_reducible apply Keeps_ite | with_reducible apply Keeps_foldl
            | with_reducible apply withdrawOne_keeps | with_reducible apply trimTrigger_keeps
            | with_reducible apply setChange_keeps | with_reducible apply fastClear_keeps
            | with_reducible apply refuseForce_keeps | dsimp only | split | with_reducible apply Keeps_mk

/-! ### Remount -/

/-- `onSlot` keeps the queue, and the fields in order. -/
theorem onSlot_keeps {r0 : State} (sp : Nat) (f : Slot → State → State) {s : State} (h_f : ∀ a u, Keeps r0 u → Keeps r0 (f a
    u)) (hk : Keeps r0 s) : Keeps r0 (onSlot sp f s) := by
  unfold onSlot
  iterate 40
    all_goals try
      first | intro _ | with_reducible assumption | with_reducible apply h_f | with_reducible apply Keeps_ite | dsimp only
            | split

/-- `slotFire` keeps the queue, and the fields in order. -/
theorem slotFire_keeps {r0 : State} (sp : Nat) (k : Nat) {s : State} (hk : Keeps r0 s) : Keeps r0 (slotFire sp k s) := by
  unfold slotFire
  iterate 40
    all_goals try
      first | with_reducible assumption | with_reducible apply Keeps_ite | with_reducible apply verdict_keeps
            | with_reducible apply setSlot_keeps | with_reducible apply setSp_keeps | with_reducible apply startRoutine_keeps
            | dsimp only | split

/-- `slotStart` keeps the queue, and the fields in order. -/
theorem slotStart_keeps {r0 : State} (sp : Nat) (k : Nat) {s : State} (hk : Keeps r0 s) : Keeps r0 (slotStart sp k s) := by
  unfold slotStart
  iterate 40
    all_goals try
      first | with_reducible assumption | with_reducible apply Keeps_ite | with_reducible apply slotFire_keeps
            | with_reducible apply reachTime_keeps

/-- `selfPass` keeps the queue, and the fields in order. -/
theorem selfPass_keeps {r0 : State} (sp : Nat) (range : Nat) (off : Rat) (gain : Rat) {s : State} (hk : Keeps r0 s) : Keeps
    r0 (selfPass sp range off gain s) := by
  unfold selfPass
  iterate 40
    all_goals try
      first | with_reducible assumption | with_reducible apply storeCorr_keeps | dsimp only | with_reducible apply Keeps_mk

/-- `selfCheck` keeps the queue, and the fields in order. -/
theorem selfCheck_keeps {r0 : State} (sp : Nat) (off : Rat) (gain : Rat) (sl : Slot) {s : State} (hk : Keeps r0 s) : Keeps
    r0 (selfCheck sp off gain sl s) := by
  unfold selfCheck
  iterate 40
    all_goals try
      first | with_reducible assumption | with_reducible apply Keeps_ite | with_reducible apply selfPass_keeps
            | with_reducible apply rmtTransient_keeps | with_reducible apply completeSlot_keeps
            | with_reducible apply setSlot_keeps | with_reducible apply retireSpare_keeps
            | with_reducible apply disagree_keeps | with_reducible apply dropSlot_keeps | dsimp only | split

/-- `refinCheck` keeps the queue, and the fields in order. -/
theorem refinCheck_keeps {r0 : State} (sp : Nat) (off : Rat) (gain : Rat) (failed : Bool) {s : State} (hk : Keeps r0 s) :
    Keeps r0 (refinCheck sp off gain failed s) := by
  unfold refinCheck
  iterate 40
    all_goals try
      first | with_reducible assumption | with_reducible apply Keeps_ite | with_reducible apply setSp_keeps
            | with_reducible apply selfPass_keeps | with_reducible apply rmtTransient_keeps
            | with_reducible apply refinStart_keeps | with_reducible apply retireSpare_keeps

/-- `settled` keeps the queue, and the fields in order. -/
theorem settled_keeps {r0 : State} (st : SpState) (sp : Nat) (sl : Slot) {s : State} (hk : Keeps r0 s) : Keeps r0 (settled
    st sp sl s) := by
  unfold settled
  iterate 40
    all_goals try
      first | with_reducible assumption | with_reducible apply Keeps_ite | with_reducible apply setSlot_keeps

/-- `handover` keeps the queue, and the fields in order. -/
theorem handover_keeps {r0 : State} (sp : Nat) (e : EstStats) (sl : Slot) {s : State} (hk : Keeps r0 s) : Keeps r0 (handover
    sp e sl s) := by
  unfold handover
  iterate 40
    all_goals try
      first | with_reducible assumption | with_reducible apply Keeps_ite | with_reducible apply beginXfade_keeps
            | with_reducible apply rmtTransient_keeps | with_reducible apply disagree_keeps
            | with_reducible apply setSlot_keeps

/-- `holdTimeout` keeps the queue, and the fields in order. -/
theorem holdTimeout_keeps {r0 : State} (sp : Nat) (sl : Slot) {s : State} (hk : Keeps r0 s) : Keeps r0 (holdTimeout sp sl s)
    := by
  unfold holdTimeout
  iterate 40
    all_goals try
      first | with_reducible assumption | with_reducible apply Keeps_ite | with_reducible apply setSlot_keeps

/-- `relieve` keeps the queue, and the fields in order. -/
theorem relieve_keeps {r0 : State} (sp : Nat) (a : Nat) (sl : Slot) {s : State} (hk : Keeps r0 s) : Keeps r0 (relieve sp a
    sl s) := by
  unfold relieve
  iterate 40
    all_goals try
      first | with_reducible assumption | with_reducible apply Keeps_ite | with_reducible apply setSlot_keeps
            | with_reducible apply retireSpare_keeps | with_reducible apply setSp_keeps

/-- `spliceOut` keeps the queue, and the fields in order. -/
theorem spliceOut_keeps {r0 : State} (sp : Nat) (sl : Slot) {s : State} (hk : Keeps r0 s) : Keeps r0 (spliceOut sp sl s) :=
    by
  unfold spliceOut
  iterate 40
    all_goals try
      first | with_reducible assumption | with_reducible apply Keeps_ite | with_reducible apply liveSettings_keeps
            | with_reducible apply setFeed_keeps | with_reducible apply nextWork_keeps | with_reducible apply setSlot_keeps
            | with_reducible apply relieve_keeps | with_reducible apply changeAgain_keeps | dsimp only | split

/-- `spliceRet` keeps the queue, and the fields in order. -/
theorem spliceRet_keeps {r0 : State} (sp : Nat) (sl : Slot) {s : State} (hk : Keeps r0 s) : Keeps r0 (spliceRet sp sl s) :=
    by
  unfold spliceRet
  iterate 40
    all_goals try
      first | with_reducible assumption | with_reducible apply Keeps_ite | with_reducible apply feedOwn_keeps
            | with_reducible apply driftStep_keeps | with_reducible apply setSlot_keeps

/-- `splice` keeps the queue, and the fields in order. -/
theorem splice_keeps {r0 : State} (sp : Nat) (sl : Slot) {s : State} (hk : Keeps r0 s) : Keeps r0 (splice sp sl s) := by
  unfold splice
  iterate 40
    all_goals try
      first | with_reducible assumption | with_reducible apply Keeps_ite | with_reducible apply spliceMarks_keeps
            | with_reducible apply spliceOut_keeps | with_reducible apply spliceRet_keeps

/-- `goOffline` keeps the queue, and the fields in order. -/
theorem goOffline_keeps {r0 : State} (sp : Nat) (sl : Slot) {s : State} (hk : Keeps r0 s) : Keeps r0 (goOffline sp sl s) :=
    by
  unfold goOffline
  iterate 40
    all_goals try
      first | with_reducible assumption | with_reducible apply Keeps_ite | with_reducible apply setSlot_keeps

/-- `notePass` keeps the queue, and the fields in order. -/
theorem notePass_keeps {r0 : State} (md : Nat) {s : State} (hk : Keeps r0 s) : Keeps r0 (notePass md s) := by
  unfold notePass
  iterate 40
    all_goals try
      first | with_reducible assumption | dsimp only | with_reducible apply Keeps_mk

/-- `offlineDone` keeps the queue, and the fields in order. -/
theorem offlineDone_keeps {r0 : State} (sp : Nat) (x : Rat) (xs : List Rat) (sl : Slot) {s : State} (hk : Keeps r0 s) :
    Keeps r0 (offlineDone sp x xs sl s) := by
  unfold offlineDone
  iterate 40
    all_goals try
      first | with_reducible assumption | with_reducible apply put_keeps | with_reducible apply Keeps_ite
            | with_reducible apply notePass_keeps | with_reducible apply rmtTransient_keeps
            | with_reducible apply setSlot_keeps | with_reducible apply nextWork_keeps | with_reducible apply substitute_keeps

/-- `returnPass` keeps the queue, and the fields in order. -/
theorem returnPass_keeps {r0 : State} (sp : Nat) (sl : Slot) {s : State} (hk : Keeps r0 s) : Keeps r0 (returnPass sp sl s)
    := by
  unfold returnPass
  iterate 40
    all_goals try
      first | with_reducible assumption | with_reducible apply lower_keeps | with_reducible apply Keeps_ite
            | with_reducible apply storeCorr_keeps | with_reducible apply notePass_keeps
            | with_reducible apply rmtTransient_keeps | with_reducible apply beginXfade_keeps | dsimp only | split
            | with_reducible apply Keeps_mk

/-- `crossCheck` keeps the queue, and the fields in order. -/
theorem crossCheck_keeps {r0 : State} (sp : Nat) (e : EstStats) (sl : Slot) {s : State} (hk : Keeps r0 s) : Keeps r0
    (crossCheck sp e sl s) := by
  unfold crossCheck
  iterate 40
    all_goals try
      first | with_reducible assumption | with_reducible apply Keeps_ite | with_reducible apply returnPass_keeps
            | with_reducible apply disagree_keeps | with_reducible apply setSlot_keeps

/-- `leavePins` keeps the queue, and the fields in order. -/
theorem leavePins_keeps {r0 : State} (sp : Nat) (sl : Slot) {s : State} (hk : Keeps r0 s) : Keeps r0 (leavePins sp sl s) :=
    by
  unfold leavePins
  iterate 40
    all_goals try
      first | with_reducible assumption | with_reducible apply Keeps_ite | with_reducible apply nextWork_keeps
            | with_reducible apply skipSlot_keeps | with_reducible apply setSlot_keeps
            | with_reducible apply completeSlot_keeps

/-- `thirdOut` keeps the queue, and the fields in order. -/
theorem thirdOut_keeps {r0 : State} (b : Nat) (a : Nat) (m : Rat × Rat) (bsl : Slot) (asl : Slot) {s : State} (hk : Keeps r0
    s) : Keeps r0 (thirdOut b a m bsl asl s) := by
  unfold thirdOut
  iterate 40
    all_goals try
      first | with_reducible assumption | with_reducible apply Keeps_ite | with_reducible apply retireSpare_keeps
            | with_reducible apply setSlot_keeps | with_reducible apply beginXfade_keeps | with_reducible apply nextWork_keeps
            | with_reducible apply skipSlot_keeps | with_reducible apply substitute_keeps

/-- `thirdRet` keeps the queue, and the fields in order. -/
theorem thirdRet_keeps {r0 : State} (b : Nat) (a : Nat) (m : Rat × Rat) (bsl : Slot) (asl : Slot) {s : State} (hk : Keeps r0
    s) : Keeps r0 (thirdRet b a m bsl asl s) := by
  unfold thirdRet
  iterate 40
    all_goals try
      first | with_reducible assumption | with_reducible apply Keeps_ite | with_reducible apply nextWork_keeps
            | with_reducible apply setSlot_keeps | with_reducible apply substitute_keeps
            | with_reducible apply beginXfade_keeps

/-- `thirdOpinion` keeps the queue, and the fields in order. -/
theorem thirdOpinion_keeps {r0 : State} (b : Nat) (e : EstStats) (sl : Slot) {s : State} (hk : Keeps r0 s) : Keeps r0
    (thirdOpinion b e sl s) := by
  unfold thirdOpinion
  iterate 40
    all_goals try
      first | with_reducible assumption | with_reducible apply Keeps_ite | with_reducible apply thirdOut_keeps
            | with_reducible apply thirdRet_keeps | with_reducible apply nextWork_keeps | with_reducible apply setSlot_keeps
            | dsimp only | split

/-- `removeMatch` keeps the queue, and the fields in order. -/
theorem removeMatch_keeps {r0 : State} (n : Nat) {s : State} (hk : Keeps r0 s) : Keeps r0 (removeMatch n s) := by
  unfold removeMatch
  iterate 40
    all_goals try
      first | intro _ | with_reducible assumption | with_reducible apply Keeps_ite | with_reducible apply glide_keeps
            | with_reducible apply setSp_keeps

/-- `liveXfade` keeps the queue, and the fields in order. -/
theorem liveXfade_keeps {r0 : State} (sp : Nat) (sl : Slot) {s : State} (hk : Keeps r0 s) : Keeps r0 (liveXfade sp sl s) :=
    by
  unfold liveXfade
  iterate 40
    all_goals try
      first | with_reducible assumption | with_reducible apply Keeps_ite | with_reducible apply setSlot_keeps | dsimp only
            | split

/-- `forceSlot` keeps the queue, and the fields in order. -/
theorem forceSlot_keeps {r0 : State} (n : Nat) {s : State} (hk : Keeps r0 s) : Keeps r0 (forceSlot n s) := by
  unfold forceSlot
  iterate 40
    all_goals try
      first | with_reducible assumption | with_reducible apply put_keeps | with_reducible apply Keeps_ite
            | with_reducible apply refuseForce_keeps | with_reducible apply serveForce_keeps

/-- `remountEnterRun` keeps the queue, and the fields in order. -/
theorem remountEnterRun_keeps {r0 : State} {s : State} (hk : Keeps r0 s) : Keeps r0 (remountEnterRun s) := by
  unfold remountEnterRun
  iterate 40
    all_goals try
      first | intro _ | with_reducible assumption | with_reducible apply Keeps_foldl | with_reducible apply noteFactory_keeps
            | with_reducible apply feedOwn_keeps | with_reducible apply refinStart_keeps
            | with_reducible apply serveForce_keeps | dsimp only | split | with_reducible apply Keeps_mk

/-! ### FilterOps -/

/-- `fltService` keeps the queue, and the fields in order. -/
theorem fltService_keeps {r0 : State} {s : State} (hk : Keeps r0 s) : Keeps r0 (fltService s) := by
  unfold fltService
  iterate 40
    all_goals try
      first | intro _ | with_reducible assumption | with_reducible apply put_keeps | with_reducible apply Keeps_ite
            | with_reducible apply Keeps_foldl | with_reducible apply withdrawSpares_keeps
            | with_reducible apply fastClear_keeps

/-- `streamStart` keeps the queue, and the fields in order. -/
theorem streamStart_keeps {r0 : State} (n : Nat) {s : State} (hk : Keeps r0 s) : Keeps r0 (streamStart n s) := by
  unfold streamStart
  iterate 40
    all_goals try
      first | with_reducible assumption | with_reducible apply pathStart_keeps | with_reducible apply fastClear_keeps
            | dsimp only | with_reducible apply Keeps_mk

/-- `fprChange` keeps the queue, and the fields in order. -/
theorem fprChange_keeps {r0 : State} (n : Nat) {s : State} (hk : Keeps r0 s) : Keeps r0 (fprChange n s) := by
  unfold fprChange
  iterate 40
    all_goals try
      first | intro _ | with_reducible assumption | with_reducible apply Keeps_foldl | with_reducible apply fastClear_keeps
            | with_reducible apply releaseHeld_keeps | dsimp only | with_reducible apply Keeps_mk

/-- `fltCfgChanged` keeps the queue, and the fields in order. -/
theorem fltCfgChanged_keeps {r0 : State} (n : Nat) {s : State} (hk : Keeps r0 s) : Keeps r0 (fltCfgChanged n s) := by
  unfold fltCfgChanged
  iterate 40
    all_goals try
      first | with_reducible assumption | with_reducible apply Keeps_ite | with_reducible apply fprChange_keeps
            | with_reducible apply respRequest_keeps

/-! ### SamplePath -/

/-- `decimateStream` keeps the queue, and the fields in order. -/
theorem decimateStream_keeps {r0 : State} (f : Nat) (n : Nat) {s : State} (hk : Keeps r0 s) : Keeps r0 (decimateStream f n
    s) := by
  unfold decimateStream
  iterate 40
    all_goals try
      first | intro _ | with_reducible assumption | with_reducible apply setPath_keeps

/-- `channelFrame` keeps the queue, and the fields in order. -/
theorem channelFrame_keeps {r0 : State} (k : Nat) (n : Nat) {s : State} (hk : Keeps r0 s) : Keeps r0 (channelFrame k n s) :=
    by
  unfold channelFrame
  iterate 40
    all_goals try
      first | intro _ | with_reducible assumption | with_reducible apply Keeps_ite | with_reducible apply setPath_keeps

/-- `spareFrame` keeps the queue, and the fields in order. -/
theorem spareFrame_keeps {r0 : State} (k : Nat) (sp : Nat) {s : State} (hk : Keeps r0 s) : Keeps r0 (spareFrame k sp s) :=
    by
  unfold spareFrame
  iterate 40
    all_goals try
      first | with_reducible assumption | with_reducible apply Keeps_ite | with_reducible apply setPath_keeps | dsimp only
            | split

/-- `groupFrame` keeps the queue, and the fields in order. -/
theorem groupFrame_keeps {r0 : State} (g : Nat) (f : Nat) {s : State} (hk : Keeps r0 s) : Keeps r0 (groupFrame g f s) := by
  unfold groupFrame
  iterate 40
    all_goals try
      first | intro _ | with_reducible assumption | with_reducible apply Keeps_foldl
            | with_reducible apply decimateStream_keeps | with_reducible apply channelFrame_keeps
            | with_reducible apply spareFrame_keeps

/-- `fadeEnd` keeps the queue, and the fields in order. -/
theorem fadeEnd_keeps {r0 : State} (n : Nat) {s : State} (hk : Keeps r0 s) : Keeps r0 (fadeEnd n s) := by
  unfold fadeEnd
  iterate 40
    all_goals try
      first | intro _ | with_reducible assumption | with_reducible apply lower_keeps | with_reducible apply Keeps_ite
            | with_reducible apply setChange_keeps | with_reducible apply nextWork_keeps | with_reducible apply setSp_keeps
            | dsimp only | split

/-- `fadesEnd` keeps the queue, and the fields in order. -/
theorem fadesEnd_keeps {r0 : State} {s : State} (hk : Keeps r0 s) : Keeps r0 (fadesEnd s) := by
  unfold fadesEnd
  iterate 40
    all_goals try
      first | intro _ | with_reducible assumption | with_reducible apply Keeps_foldl | with_reducible apply fadeEnd_keeps

/-- `idle` keeps the queue, and the fields in order. -/
theorem idle_keeps {r0 : State} {s : State} (hk : Keeps r0 s) : Keeps r0 (idle s) := by
  unfold idle
  iterate 40
    all_goals try
      first | with_reducible assumption | with_reducible apply Keeps_ite | with_reducible apply linkPump_keeps
            | with_reducible apply passTime_keeps | with_reducible apply fadesEnd_keeps | dsimp only | split
            | with_reducible apply Keeps_mk

/-! ### Filters -/

/-- `residueMismatch` keeps the queue, and the fields in order. -/
theorem residueMismatch_keeps {r0 : State} (lane : Nat) {s : State} (hk : Keeps r0 s) : Keeps r0 (residueMismatch lane s) :=
    by
  unfold residueMismatch
  iterate 40
    all_goals try
      first | with_reducible assumption | with_reducible apply inc_keeps | with_reducible apply Keeps_ite
            | with_reducible apply takeInjection_keeps | dsimp only | split | with_reducible apply Keeps_mk

/-- `retireFltLane` keeps the queue, and the fields in order. -/
theorem retireFltLane_keeps {r0 : State} (lane : Nat) {s : State} (hk : Keeps r0 s) : Keeps r0 (retireFltLane lane s) := by
  unfold retireFltLane
  iterate 40
    all_goals try
      first | with_reducible assumption | with_reducible apply put_keeps | with_reducible apply Keeps_ite
            | with_reducible apply permanent_keeps | dsimp only | split | with_reducible apply Keeps_mk

/-- `laneRetry` keeps the queue, and the fields in order. -/
theorem laneRetry_keeps {r0 : State} (lane : Nat) (pass : Bool) {s : State} (hk : Keeps r0 s) : Keeps r0 (laneRetry lane
    pass s) := by
  unfold laneRetry
  iterate 40
    all_goals try
      first | with_reducible assumption | with_reducible apply inc_keeps | with_reducible apply Keeps_ite
            | with_reducible apply transient_keeps | with_reducible apply retireFltLane_keeps | dsimp only | split
            | with_reducible apply Keeps_mk

/-- `scheduleRebuild` keeps the queue, and the fields in order. -/
theorem scheduleRebuild_keeps {r0 : State} {s : State} (hk : Keeps r0 s) : Keeps r0 (scheduleRebuild s) := by
  unfold scheduleRebuild
  iterate 40
    all_goals try
      first | with_reducible assumption | with_reducible apply Keeps_ite | with_reducible apply evalDState_keeps
            | with_reducible apply fltService_keeps | dsimp only | split | with_reducible apply Keeps_mk

/-- `ovcSet` keeps the queue, and the fields in order. -/
theorem ovcSet_keeps {r0 : State} (n : Nat) (fs : List (BitVec 16)) {s : State} (hk : Keeps r0 s) : Keeps r0 (ovcSet n fs s)
    := by
  unfold ovcSet
  iterate 40
    all_goals try
      first | with_reducible assumption | with_reducible apply put_keeps | with_reducible apply raise_keeps
            | with_reducible apply Keeps_ite | with_reducible apply pathFasts_keeps | dsimp only | split

/-- `ovcClear` keeps the queue, and the fields in order. -/
theorem ovcClear_keeps {r0 : State} (n : Nat) (fs : List (BitVec 16)) {s : State} (hk : Keeps r0 s) : Keeps r0 (ovcClear n
    fs s) := by
  unfold ovcClear
  iterate 40
    all_goals try
      first | with_reducible assumption | with_reducible apply put_keeps | with_reducible apply Keeps_ite
            | with_reducible apply pathFasts_keeps | dsimp only | split

/-- `setStepNow` keeps the queue, and the fields in order. -/
theorem setStepNow_keeps {r0 : State} (n : Nat) (b : Bool) {s : State} (hk : Keeps r0 s) : Keeps r0 (setStepNow n b s) := by
  unfold setStepNow
  iterate 40
    all_goals try
      first | with_reducible assumption | dsimp only | with_reducible apply Keeps_mk

/-- `stepSet` keeps the queue, and the fields in order. -/
theorem stepSet_keeps {r0 : State} (n : Nat) (fs : List (BitVec 16)) {s : State} (hk : Keeps r0 s) : Keeps r0 (stepSet n fs
    s) := by
  unfold stepSet
  iterate 40
    all_goals try
      first | with_reducible assumption | with_reducible apply put_keeps | with_reducible apply Keeps_ite
            | with_reducible apply pathFasts_keeps | with_reducible apply restartEst_keeps
            | with_reducible apply setStepNow_keeps | dsimp only | split

/-- `stepClear` keeps the queue, and the fields in order. -/
theorem stepClear_keeps {r0 : State} (n : Nat) (fs : List (BitVec 16)) {s : State} (hk : Keeps r0 s) : Keeps r0 (stepClear n
    fs s) := by
  unfold stepClear
  iterate 40
    all_goals try
      first | with_reducible assumption | with_reducible apply put_keeps | with_reducible apply Keeps_ite
            | with_reducible apply pathFasts_keeps | with_reducible apply releaseHeld_keeps
            | with_reducible apply setStepNow_keeps

/-- `warmUpEnd` keeps the queue, and the fields in order. -/
theorem warmUpEnd_keeps {r0 : State} (n : Nat) {s : State} (hk : Keeps r0 s) : Keeps r0 (warmUpEnd n s) := by
  unfold warmUpEnd
  iterate 40
    all_goals try
      first | with_reducible assumption | with_reducible apply Keeps_ite | with_reducible apply setChange_keeps
            | with_reducible apply reachNow_keeps | dsimp only | split

/-- `takeResp` keeps the queue, and the fields in order. -/
theorem takeResp_keeps {r0 : State} (n : Nat) (resp : List Nat) {s : State} (hk : Keeps r0 s) : Keeps r0 (takeResp n resp s)
    := by
  unfold takeResp
  iterate 40
    all_goals try
      first | with_reducible assumption | dsimp only | with_reducible apply Keeps_mk

/-- `respCrossfade` keeps the queue, and the fields in order. -/
theorem respCrossfade_keeps {r0 : State} (n : Nat) {s : State} (hk : Keeps r0 s) : Keeps r0 (respCrossfade n s) := by
  unfold respCrossfade
  iterate 40
    all_goals try
      first | intro _ | with_reducible assumption | with_reducible apply Keeps_ite | with_reducible apply setChange_keeps
            | with_reducible apply takeResp_keeps | with_reducible apply pathTake_keeps | dsimp only | split

/-- `presetSwitch` keeps the queue, and the fields in order. -/
theorem presetSwitch_keeps {r0 : State} (n : Nat) {s : State} (hk : Keeps r0 s) : Keeps r0 (presetSwitch n s) := by
  unfold presetSwitch
  iterate 40
    all_goals try
      first | intro _ | with_reducible assumption | with_reducible apply lift_keeps | with_reducible apply Keeps_ite
            | with_reducible apply Keeps_foldl | with_reducible apply pathPreset_keeps | with_reducible apply setDone_keeps
            | with_reducible apply setChange_keeps | with_reducible apply takeResp_keeps | dsimp only | split

/-- `settleEnd` keeps the queue, and the fields in order. -/
theorem settleEnd_keeps {r0 : State} (n : Nat) {s : State} (hk : Keeps r0 s) : Keeps r0 (settleEnd n s) := by
  unfold settleEnd
  iterate 40
    all_goals try
      first | with_reducible assumption | with_reducible apply lower_keeps | with_reducible apply reachNow_keeps | dsimp only
            | split

/-! ### DstOps -/

/-- `setDst` keeps the queue, and the fields in order. -/
theorem setDst_keeps {r0 : State} (g : Nat) (d : DstGrp) {s : State} (hk : Keeps r0 s) : Keeps r0 (setDst g d s) := by
  unfold setDst
  iterate 40
    all_goals try
      first | with_reducible assumption | dsimp only | with_reducible apply Keeps_mk

/-- `gst` keeps the queue, and the fields in order. -/
theorem gst_keeps {r0 : State} (f : Fld) (g : Nat) (b : Bool) {s : State} (hk : Keeps r0 s) : Keeps r0 (gst f g b s) := by
  unfold gst
  iterate 40
    all_goals try
      first | with_reducible assumption | with_reducible apply setBit_keeps

/-- `gstStart` keeps the queue, and the fields in order. -/
theorem gstStart_keeps {r0 : State} (f : Fld) (l : Fld) (event : Option Nat) (g : Nat) {s : State} (hk : Keeps r0 s) : Keeps
    r0 (gstStart f l event g s) := by
  unfold gstStart
  iterate 40
    all_goals try
      first | with_reducible assumption | with_reducible apply put_keeps | with_reducible apply raise_keeps | dsimp only
            | split

/-- `cutDst` keeps the queue, and the fields in order. -/
theorem cutDst_keeps {r0 : State} (g : Nat) (t : Nat) {s : State} (hk : Keeps r0 s) : Keeps r0 (cutDst g t s) := by
  unfold cutDst
  iterate 40
    all_goals try
      first | intro _ | with_reducible assumption | with_reducible apply put_keeps | with_reducible apply Keeps_ite
            | with_reducible apply Keeps_foldl | with_reducible apply setDst_keeps

/-- `fexTest` keeps the queue, and the fields in order. -/
theorem fexTest_keeps {r0 : State} (g : Nat) (lock : Bool) (start : Nat) (endT : Nat) (freq : Rat) (nom : Rat) {s : State}
    (hk : Keeps r0 s) : Keeps r0 (fexTest g lock start endT freq nom s) := by
  unfold fexTest
  iterate 40
    all_goals try
      first | with_reducible assumption | with_reducible apply Keeps_ite | with_reducible apply setDst_keeps
            | with_reducible apply gstStart_keeps | with_reducible apply gst_keeps | dsimp only | split

/-- `rocofTest` keeps the queue, and the fields in order. -/
theorem rocofTest_keeps {r0 : State} (g : Nat) (prev : Option (Rat × Rat × Bool)) (f : Rat) (dur : Rat) (unlk : Bool) {s :
    State} (hk : Keeps r0 s) : Keeps r0 (rocofTest g prev f dur unlk s) := by
  unfold rocofTest
  iterate 40
    all_goals try
      first | with_reducible assumption | with_reducible apply put_keeps | with_reducible apply putI_keeps
            | with_reducible apply Keeps_ite | with_reducible apply setDst_keeps | with_reducible apply gstStart_keeps

/-- `flagTest` keeps the queue, and the fields in order. -/
theorem flagTest_keeps {r0 : State} (g : Nat) {s : State} (hk : Keeps r0 s) : Keeps r0 (flagTest g s) := by
  unfold flagTest
  iterate 40
    all_goals try
      first | with_reducible assumption | with_reducible apply setBit_keeps

/-- `arcStop` keeps the queue, and the fields in order. -/
theorem arcStop_keeps {r0 : State} (n : Nat) {s : State} (hk : Keeps r0 s) : Keeps r0 (arcStop n s) := by
  unfold arcStop
  iterate 40
    all_goals try
      first | with_reducible assumption | with_reducible apply put_keeps | with_reducible apply raise_keeps
            | with_reducible apply Keeps_ite | dsimp only | split | with_reducible apply Keeps_mk

/-- `arcsChanged` keeps the queue, and the fields in order. -/
theorem arcsChanged_keeps {r0 : State} {s : State} (hk : Keeps r0 s) : Keeps r0 (arcsChanged s) := by
  unfold arcsChanged
  iterate 40
    all_goals try
      first | intro _ | with_reducible assumption | with_reducible apply Keeps_ite | with_reducible apply Keeps_foldl
            | with_reducible apply arcStop_keeps

/-! ### Inputs -/

/-- `raisePeak` keeps the queue, and the fields in order. -/
theorem raisePeak_keeps {r0 : State} (n : Nat) (mag : Rat) {s : State} (hk : Keeps r0 s) : Keeps r0 (raisePeak n mag s) :=
    by
  unfold raisePeak
  iterate 40
    all_goals try
      first | with_reducible assumption | with_reducible apply put_keeps

/-- `setOvr` keeps the queue, and the fields in order. -/
theorem setOvr_keeps {r0 : State} (n : Nat) (event : Nat) {s : State} (hk : Keeps r0 s) : Keeps r0 (setOvr n event s) := by
  unfold setOvr
  iterate 40
    all_goals try
      first | with_reducible assumption | with_reducible apply put_keeps | with_reducible apply lift_keeps
            | with_reducible apply inc_keeps | with_reducible apply raise_keeps | with_reducible apply Keeps_ite
            | with_reducible apply restartEst_keeps

/-- `setClip` keeps the queue, and the fields in order. -/
theorem setClip_keeps {r0 : State} (n : Nat) (v : Nat) {s : State} (hk : Keeps r0 s) : Keeps r0 (setClip n v s) := by
  unfold setClip
  iterate 40
    all_goals try
      first | with_reducible assumption | dsimp only | with_reducible apply Keeps_mk

/-- `setIntDue` keeps the queue, and the fields in order. -/
theorem setIntDue_keeps {r0 : State} (n : Nat) (b : Bool) {s : State} (hk : Keeps r0 s) : Keeps r0 (setIntDue n b s) := by
  unfold setIntDue
  iterate 40
    all_goals try
      first | with_reducible assumption | dsimp only | with_reducible apply Keeps_mk

/-- `inputOverload` keeps the queue, and the fields in order. -/
theorem inputOverload_keeps {r0 : State} (n : Nat) (cause : OvlCause) {s : State} (hk : Keeps r0 s) : Keeps r0
    (inputOverload n cause s) := by
  unfold inputOverload
  iterate 40
    all_goals try
      first | with_reducible assumption | with_reducible apply raise_keeps | with_reducible apply Keeps_ite
            | with_reducible apply setOvr_keeps | with_reducible apply raisePeak_keeps | with_reducible apply setIntDue_keeps
            | with_reducible apply setClip_keeps | dsimp only | split

/-- `ovrClear` keeps the queue, and the fields in order. -/
theorem ovrClear_keeps {r0 : State} (n : Nat) (mag : Rat) {s : State} (hk : Keeps r0 s) : Keeps r0 (ovrClear n mag s) := by
  unfold ovrClear
  iterate 40
    all_goals try
      first | with_reducible assumption | with_reducible apply lower_keeps | with_reducible apply raise_keeps
            | with_reducible apply Keeps_ite | with_reducible apply releaseHeld_keeps | with_reducible apply setClip_keeps
            | with_reducible apply raisePeak_keeps

/-- `openSample` keeps the queue, and the fields in order. -/
theorem openSample_keeps {r0 : State} (n : Nat) (p : Bool) (q : Bool) {s : State} (hk : Keeps r0 s) : Keeps r0 (openSample n
    p q s) := by
  unfold openSample
  iterate 40
    all_goals try
      first | with_reducible assumption | with_reducible apply put_keeps | with_reducible apply lower_keeps
            | with_reducible apply Keeps_ite | dsimp only | split | with_reducible apply Keeps_mk

/-- `openQualified` keeps the queue, and the fields in order. -/
theorem openQualified_keeps {r0 : State} (n : Nat) {s : State} (hk : Keeps r0 s) : Keeps r0 (openQualified n s) := by
  unfold openQualified
  iterate 40
    all_goals try
      first | with_reducible assumption | with_reducible apply put_keeps | with_reducible apply lift_keeps
            | with_reducible apply raise_keeps | with_reducible apply Keeps_ite

/-- `stuckDetect` keeps the queue, and the fields in order. -/
theorem stuckDetect_keeps {r0 : State} (n : Nat) {s : State} (hk : Keeps r0 s) : Keeps r0 (stuckDetect n s) := by
  unfold stuckDetect
  iterate 40
    all_goals try
      first | with_reducible assumption | with_reducible apply put_keeps | with_reducible apply lift_keeps
            | with_reducible apply raise_keeps | with_reducible apply Keeps_ite

/-- `densSet` keeps the queue, and the fields in order. -/
theorem densSet_keeps {r0 : State} (n : Nat) (ones : Nat) {s : State} (hk : Keeps r0 s) : Keeps r0 (densSet n ones s) := by
  unfold densSet
  iterate 40
    all_goals try
      first | with_reducible assumption | with_reducible apply lift_keeps | with_reducible apply Keeps_ite
            | with_reducible apply setOvr_keeps

/-- `noteIn` keeps the queue, and the fields in order. -/
theorem noteIn_keeps {r0 : State} (n : Nat) {s : State} (hk : Keeps r0 s) : Keeps r0 (noteIn n s) := by
  unfold noteIn
  iterate 40
    all_goals try
      first | with_reducible assumption | with_reducible apply Keeps_ite | with_reducible apply noteFactory_keeps

/-- `takeSettings` keeps the queue, and the fields in order. -/
theorem takeSettings_keeps {r0 : State} (n : Nat) {s : State} (hk : Keeps r0 s) : Keeps r0 (takeSettings n s) := by
  unfold takeSettings
  iterate 40
    all_goals try
      first | with_reducible assumption | with_reducible apply Keeps_ite | dsimp only | split | with_reducible apply Keeps_mk

/-- `startChannel` keeps the queue, and the fields in order. -/
theorem startChannel_keeps {r0 : State} (n : Nat) {s : State} (hk : Keeps r0 s) : Keeps r0 (startChannel n s) := by
  unfold startChannel
  iterate 40
    all_goals try
      first | with_reducible assumption | with_reducible apply takeSettings_keeps | with_reducible apply streamStart_keeps
            | with_reducible apply noteIn_keeps | dsimp only | with_reducible apply Keeps_mk

/-- `enableApply` keeps the queue, and the fields in order. -/
theorem enableApply_keeps {r0 : State} (n : Nat) {s : State} (hk : Keeps r0 s) : Keeps r0 (enableApply n s) := by
  unfold enableApply
  iterate 40
    all_goals try
      first | with_reducible assumption | with_reducible apply Keeps_ite | with_reducible apply startChannel_keeps

/-- `stopChannel` keeps the queue, and the fields in order. -/
theorem stopChannel_keeps {r0 : State} (n : Nat) {s : State} (hk : Keeps r0 s) : Keeps r0 (stopChannel n s) := by
  unfold stopChannel
  iterate 40
    all_goals try
      first | with_reducible assumption | with_reducible apply put_keeps | with_reducible apply lower_keeps
            | with_reducible apply arcStop_keeps | dsimp only | with_reducible apply Keeps_mk

/-- `disableApply` keeps the queue, and the fields in order. -/
theorem disableApply_keeps {r0 : State} (n : Nat) {s : State} (hk : Keeps r0 s) : Keeps r0 (disableApply n s) := by
  unfold disableApply
  iterate 40
    all_goals try
      first | with_reducible assumption | with_reducible apply Keeps_ite | with_reducible apply stopChannel_keeps
            | with_reducible apply dropResp_keeps | with_reducible apply cancelChange_keeps

/-- `timingApply` keeps the queue, and the fields in order. -/
theorem timingApply_keeps {r0 : State} (n : Nat) {s : State} (hk : Keeps r0 s) : Keeps r0 (timingApply n s) := by
  unfold timingApply
  iterate 40
    all_goals try
      first | with_reducible assumption | with_reducible apply Keeps_ite | dsimp only | split | with_reducible apply Keeps_mk

/-- `rangeSensorChanged` keeps the queue, and the fields in order. -/
theorem rangeSensorChanged_keeps {r0 : State} (n : Nat) {s0 : State} (hk : Keeps r0 s0) : Keeps r0 (rangeSensorChanged n s0)
    := by
  unfold rangeSensorChanged
  iterate 40
    all_goals try
      first | with_reducible assumption | with_reducible apply Keeps_ite | with_reducible apply cancelChange_keeps
            | with_reducible apply liveRequest_keeps | dsimp only | split | with_reducible apply Keeps_mk

end Sys2Proof.Machine
end

