-- ==== Sys2Proof/Laws/Keeps2.lean ====
section
/-! SUPPORT. The operations of Calibration, PulseOps, MeterOps, Meters, CycleOps, Pulses, Grid, Disturb, TwinOps, Twin keep
the queue of waiting commands and the order of the stored fields. -/

namespace Sys2Proof.Machine

set_option maxRecDepth 4000

/-! ### Calibration -/

/-- `calTrig` keeps the queue, and the fields in order. -/
theorem calTrig_keeps {r0 : State} {s : State} (hk : Keeps r0 s) : Keeps r0 (calTrig s) := by
  unfold calTrig
  iterate 40
    all_goals try
      first | with_reducible assumption | with_reducible apply Keeps_ite | with_reducible apply trimTrigger_keeps

/-- `trimNext` keeps the queue, and the fields in order. -/
theorem trimNext_keeps {r0 : State} {s : State} (hk : Keeps r0 s) : Keeps r0 (trimNext s) := by
  unfold trimNext
  iterate 40
    all_goals try
      first | with_reducible assumption | with_reducible apply put_keeps | with_reducible apply Keeps_ite
            | with_reducible apply trimTrigger_keeps | with_reducible apply trimOver_keeps | dsimp only | split
            | with_reducible apply Keeps_mk

/-- `trimPass` keeps the queue, and the fields in order. -/
theorem trimPass_keeps {r0 : State} {s : State} (hk : Keeps r0 s) : Keeps r0 (trimPass s) := by
  unfold trimPass
  iterate 40
    all_goals try
      first | intro _ | with_reducible assumption | with_reducible apply put_keeps | with_reducible apply lower_keeps
            | with_reducible apply inc_keeps | with_reducible apply putI_keeps | with_reducible apply raise_keeps
            | with_reducible apply Keeps_ite | with_reducible apply Keeps_foldl | with_reducible apply raiseIf_keeps
            | with_reducible apply trimNext_keeps | with_reducible apply applyAllPend_keeps | dsimp only | split
            | with_reducible apply Keeps_mk

/-- `uncalibrate` keeps the queue, and the fields in order. -/
theorem uncalibrate_keeps {r0 : State} {s : State} (hk : Keeps r0 s) : Keeps r0 (uncalibrate s) := by
  unfold uncalibrate
  iterate 40
    all_goals try
      first | intro _ | with_reducible assumption | with_reducible apply put_keeps | with_reducible apply lift_keeps
            | with_reducible apply raise_keeps | with_reducible apply Keeps_foldl | dsimp only | split
            | with_reducible apply Keeps_mk

/-- `trimFail` keeps the queue, and the fields in order. -/
theorem trimFail_keeps {r0 : State} {s : State} (hk : Keeps r0 s) : Keeps r0 (trimFail s) := by
  unfold trimFail
  iterate 40
    all_goals try
      first | intro _ | with_reducible assumption | with_reducible apply put_keeps | with_reducible apply inc_keeps
            | with_reducible apply putI_keeps | with_reducible apply raise_keeps | with_reducible apply Keeps_ite
            | with_reducible apply Keeps_foldl | with_reducible apply trimNext_keeps | with_reducible apply uncalibrate_keeps
            | dsimp only | split | with_reducible apply Keeps_mk

/-- `trimComplete` keeps the queue, and the fields in order. -/
theorem trimComplete_keeps {r0 : State} (bad : Bool) (fs : List SetFail) {s : State} (hk : Keeps r0 s) : Keeps r0
    (trimComplete bad fs s) := by
  unfold trimComplete
  iterate 40
    all_goals try
      first | with_reducible assumption | with_reducible apply Keeps_ite | with_reducible apply touchSets_keeps
            | with_reducible apply takeFails_keeps | with_reducible apply trimPass_keeps | with_reducible apply trimFail_keeps
            | dsimp only | split | with_reducible apply Keeps_mk

/-- `bareApply` keeps the queue, and the fields in order. -/
theorem bareApply_keeps {r0 : State} (n : Nat) {s : State} (hk : Keeps r0 s) : Keeps r0 (bareApply n s) := by
  unfold bareApply
  iterate 40
    all_goals try
      first | with_reducible assumption | with_reducible apply lift_keeps | with_reducible apply Keeps_ite
            | with_reducible apply traceAtSplice_keeps | with_reducible apply noteFactory_keeps
            | with_reducible apply setDone_keeps | dsimp only | split | with_reducible apply Keeps_mk

/-- `trimApply` keeps the queue, and the fields in order. -/
theorem trimApply_keeps {r0 : State} (n : Nat) {s : State} (hk : Keeps r0 s) : Keeps r0 (trimApply n s) := by
  unfold trimApply
  iterate 40
    all_goals try
      first | with_reducible assumption | with_reducible apply Keeps_ite | with_reducible apply bareApply_keeps
            | with_reducible apply applyPend_keeps

/-- `calStart` keeps the queue, and the fields in order. -/
theorem calStart_keeps {r0 : State} {s : State} (hk : Keeps r0 s) : Keeps r0 (calStart s) := by
  unfold calStart
  iterate 40
    all_goals try
      first | with_reducible assumption | with_reducible apply put_keeps | with_reducible apply Keeps_ite
            | with_reducible apply setCalState_keeps | dsimp only | split | with_reducible apply Keeps_mk

/-- `sessFail` keeps the queue, and the fields in order. -/
theorem sessFail_keeps {r0 : State} {s : State} (hk : Keeps r0 s) : Keeps r0 (sessFail s) := by
  unfold sessFail
  iterate 40
    all_goals try
      first | intro _ | with_reducible assumption | with_reducible apply put_keeps | with_reducible apply raise_keeps
            | with_reducible apply Keeps_foldl | with_reducible apply setCalState_keeps

/-- `checkComplete` keeps the queue, and the fields in order. -/
theorem checkComplete_keeps {r0 : State} (x : Sess) {s : State} (hk : Keeps r0 s) : Keeps r0 (checkComplete x s) := by
  unfold checkComplete
  iterate 40
    all_goals try
      first | with_reducible assumption | with_reducible apply Keeps_ite | with_reducible apply sessFail_keeps
            | with_reducible apply setCalState_keeps

/-- `calStep` keeps the queue, and the fields in order. -/
theorem calStep_keeps {r0 : State} (x : Sess) {s : State} (hk : Keeps r0 s) : Keeps r0 (calStep x s) := by
  unfold calStep
  iterate 40
    all_goals try
      first | with_reducible assumption | with_reducible apply Keeps_ite | with_reducible apply setCalState_keeps
            | with_reducible apply setSess_keeps | with_reducible apply refinStart_keeps | dsimp only | split
            | with_reducible apply Keeps_mk

/-- `sessResume` keeps the queue, and the fields in order. -/
theorem sessResume_keeps {r0 : State} {s : State} (hk : Keeps r0 s) : Keeps r0 (sessResume s) := by
  unfold sessResume
  iterate 40
    all_goals try
      first | with_reducible assumption | with_reducible apply Keeps_ite | with_reducible apply setSess_keeps | dsimp only
            | split

/-- `calSettled` keeps the queue, and the fields in order. -/
theorem calSettled_keeps {r0 : State} (x : Sess) {s : State} (hk : Keeps r0 s) : Keeps r0 (calSettled x s) := by
  unfold calSettled
  iterate 40
    all_goals try
      first | with_reducible assumption | with_reducible apply Keeps_ite | with_reducible apply setSess_keeps | dsimp only
            | split | with_reducible apply Keeps_mk

/-- `windowEnd` keeps the queue, and the fields in order. -/
theorem windowEnd_keeps {r0 : State} (ws : List CalWindow) (x : Sess) {s : State} (hk : Keeps r0 s) : Keeps r0 (windowEnd ws
    x s) := by
  unfold windowEnd
  iterate 40
    all_goals try
      first | intro _ | with_reducible assumption | with_reducible apply Keeps_ite | with_reducible apply Keeps_foldl
            | with_reducible apply sessAdvance_keeps | with_reducible apply setSess_keeps | dsimp only | split
            | with_reducible apply Keeps_mk

/-- `refinMeasured` keeps the queue, and the fields in order. -/
theorem refinMeasured_keeps {r0 : State} (vm : Rat) (spread : Rat) (x : Sess) {s : State} (hk : Keeps r0 s) : Keeps r0
    (refinMeasured vm spread x s) := by
  unfold refinMeasured
  iterate 40
    all_goals try
      first | with_reducible assumption | with_reducible apply Keeps_ite | with_reducible apply nextWork_keeps
            | with_reducible apply sessAdvance_keeps | with_reducible apply setSp_keeps | dsimp only | split

/-- `putMap` keeps the queue, and the fields in order. -/
theorem putMap_keeps {r0 : State} (f : Fld) (l : List Nat) {s : State} (hk : Keeps r0 s) : Keeps r0 (putMap f l s) := by
  unfold putMap
  iterate 40
    all_goals try
      first | intro _ | with_reducible assumption | with_reducible apply put_keeps | with_reducible apply Keeps_foldl

/-- `calResult` keeps the queue, and the fields in order. -/
theorem calResult_keeps {r0 : State} (fs : List SetFail) (x : Sess) {s0 : State} (hk : Keeps r0 s0) : Keeps r0 (calResult fs
    x s0) := by
  unfold calResult
  iterate 40
    all_goals try
      first | intro _ | with_reducible assumption | with_reducible apply setBit_keeps | with_reducible apply raise_keeps
            | with_reducible apply Keeps_ite | with_reducible apply Keeps_foldl | with_reducible apply touchSets_keeps
            | with_reducible apply takeFails_keeps | with_reducible apply putMap_keeps
            | with_reducible apply setCalState_keeps | with_reducible apply setSess_keeps

/-- `beginCommit` keeps the queue, and the fields in order. -/
theorem beginCommit_keeps {r0 : State} (i : Nat) {s : State} (hk : Keeps r0 s) : Keeps r0 (beginCommit i s) := by
  unfold beginCommit
  iterate 40
    all_goals try
      first | with_reducible assumption | with_reducible apply put_keeps | with_reducible apply setCalState_keeps | dsimp only
            | with_reducible apply Keeps_mk

/-- `commitConflict` keeps the queue, and the fields in order. -/
theorem commitConflict_keeps {r0 : State} {s : State} (hk : Keeps r0 s) : Keeps r0 (commitConflict s) := by
  unfold commitConflict
  iterate 40
    all_goals try
      first | with_reducible assumption | with_reducible apply put_keeps | dsimp only | with_reducible apply Keeps_mk

/-- `refuseCommit` keeps the queue, and the fields in order. -/
theorem refuseCommit_keeps {r0 : State} {s : State} (hk : Keeps r0 s) : Keeps r0 (refuseCommit s) := by
  unfold refuseCommit
  iterate 40
    all_goals try
      first | with_reducible assumption | with_reducible apply put_keeps | with_reducible apply Keeps_ite
            | with_reducible apply commitConflict_keeps | with_reducible apply sendMsg_keeps

/-- `calCommit` keeps the queue, and the fields in order. -/
theorem calCommit_keeps {r0 : State} (x : Sess) {s0 : State} (hk : Keeps r0 s0) : Keeps r0 (calCommit x s0) := by
  unfold calCommit
  iterate 40
    all_goals try
      first | with_reducible assumption | with_reducible apply put_keeps | with_reducible apply Keeps_ite
            | with_reducible apply touchSets_keeps | with_reducible apply refuseCommit_keeps
            | with_reducible apply sendMsg_keeps | with_reducible apply beginCommit_keeps | dsimp only | split
            | with_reducible apply Keeps_mk

/-- `commitRequest` keeps the queue, and the fields in order. -/
theorem commitRequest_keeps {r0 : State} {s : State} (hk : Keeps r0 s) : Keeps r0 (commitRequest s) := by
  unfold commitRequest
  iterate 40
    all_goals try
      first | intro _ | with_reducible assumption | with_reducible apply Keeps_ite | with_reducible apply refuseCommit_keeps
            | with_reducible apply onSess_keeps | with_reducible apply calCommit_keeps

/-- `commitComplete` keeps the queue, and the fields in order. -/
theorem commitComplete_keeps {r0 : State} (fs : List SetFail) (x : Sess) {s0 : State} (hk : Keeps r0 s0) : Keeps r0
    (commitComplete fs x s0) := by
  unfold commitComplete
  iterate 40
    all_goals try
      first | with_reducible assumption | with_reducible apply raise_keeps | with_reducible apply touchSets_keeps
            | with_reducible apply takeFails_keeps | with_reducible apply writeSet_keeps
            | with_reducible apply trimTrigger_keeps | with_reducible apply setCalState_keeps | dsimp only | split
            | with_reducible apply Keeps_mk

/-- `sessEnd` keeps the queue, and the fields in order. -/
theorem sessEnd_keeps {r0 : State} {s : State} (hk : Keeps r0 s) : Keeps r0 (sessEnd s) := by
  unfold sessEnd
  iterate 40
    all_goals try
      first | with_reducible assumption | with_reducible apply setCalState_keeps | with_reducible apply refinDrop_keeps
            | dsimp only | with_reducible apply Keeps_mk

/-- `calAbort` keeps the queue, and the fields in order. -/
theorem calAbort_keeps {r0 : State} {s : State} (hk : Keeps r0 s) : Keeps r0 (calAbort s) := by
  unfold calAbort
  iterate 40
    all_goals try
      first | with_reducible assumption | with_reducible apply Keeps_ite | with_reducible apply sessEnd_keeps

/-- `calErase` keeps the queue, and the fields in order. -/
theorem calErase_keeps {r0 : State} (i : Nat) {s : State} (hk : Keeps r0 s) : Keeps r0 (calErase i s) := by
  unfold calErase
  iterate 40
    all_goals try
      first | intro _ | with_reducible assumption | with_reducible apply Keeps_ite | with_reducible apply onVault_keeps
            | with_reducible apply trimTrigger_keeps | with_reducible apply writeSet_keeps

/-- `sessTimeout` keeps the queue, and the fields in order. -/
theorem sessTimeout_keeps {r0 : State} {s : State} (hk : Keeps r0 s) : Keeps r0 (sessTimeout s) := by
  unfold sessTimeout
  iterate 40
    all_goals try
      first | with_reducible assumption | with_reducible apply Keeps_ite | with_reducible apply sessFail_keeps
            | with_reducible apply sessEnd_keeps

/-! ### PulseOps -/

/-- `setOut` keeps the queue, and the fields in order. -/
theorem setOut_keeps {r0 : State} (c : Nat) (o : PlsOut) {s : State} (hk : Keeps r0 s) : Keeps r0 (setOut c o s) := by
  unfold setOut
  iterate 40
    all_goals try
      first | with_reducible assumption | dsimp only | with_reducible apply Keeps_mk

/-- `pulseFeed` keeps the queue, and the fields in order. -/
theorem pulseFeed_keeps {r0 : State} (m : Nat) (inc : List (List Nat)) (dur : Rat) {s : State} (hk : Keeps r0 s) : Keeps r0
    (pulseFeed m inc dur s) := by
  unfold pulseFeed
  iterate 40
    all_goals try
      first | intro _ | with_reducible assumption | with_reducible apply Keeps_ite | with_reducible apply Keeps_foldl
            | with_reducible apply setOut_keeps

/-- `pulseCorrect` keeps the queue, and the fields in order. -/
theorem pulseCorrect_keeps {r0 : State} (a : Nat) (d : Int) {s : State} (hk : Keeps r0 s) : Keeps r0 (pulseCorrect a d s) :=
    by
  unfold pulseCorrect
  iterate 40
    all_goals try
      first | intro _ | with_reducible assumption | with_reducible apply Keeps_ite | with_reducible apply Keeps_foldl
            | with_reducible apply setOut_keeps

/-- `rateCheck` keeps the queue, and the fields in order. -/
theorem rateCheck_keeps {r0 : State} (c : Nat) {s : State} (hk : Keeps r0 s) : Keeps r0 (rateCheck c s) := by
  unfold rateCheck
  iterate 40
    all_goals try
      first | with_reducible assumption | with_reducible apply put_keeps | with_reducible apply raise_keeps
            | with_reducible apply Keeps_ite | with_reducible apply raiseIf_keeps

/-- `pinCheck` keeps the queue, and the fields in order. -/
theorem pinCheck_keeps {r0 : State} (c : Nat) {s : State} (hk : Keeps r0 s) : Keeps r0 (pinCheck c s) := by
  unfold pinCheck
  iterate 40
    all_goals try
      first | with_reducible assumption | with_reducible apply put_keeps | with_reducible apply raise_keeps
            | with_reducible apply Keeps_ite | with_reducible apply raiseIf_keeps

/-- `tickOut` keeps the queue, and the fields in order. -/
theorem tickOut_keeps {r0 : State} (low : Bool) (c : Nat) {s : State} (hk : Keeps r0 s) : Keeps r0 (tickOut low c s) := by
  unfold tickOut
  iterate 40
    all_goals try
      first | with_reducible assumption | with_reducible apply put_keeps | with_reducible apply setBit_keeps
            | with_reducible apply Keeps_ite | with_reducible apply setOut_keeps | with_reducible apply pinCheck_keeps
            | with_reducible apply rateCheck_keeps

/-- `setRole` keeps the queue, and the fields in order. -/
theorem setRole_keeps {r0 : State} (b : Bool) {s : State} (hk : Keeps r0 s) : Keeps r0 (setRole b s) := by
  unfold setRole
  iterate 40
    all_goals try
      first | with_reducible assumption | dsimp only | with_reducible apply Keeps_mk

/-- `takeOver` keeps the queue, and the fields in order. -/
theorem takeOver_keeps {r0 : State} {s : State} (hk : Keeps r0 s) : Keeps r0 (takeOver s) := by
  unfold takeOver
  iterate 40
    all_goals try
      first | intro _ | with_reducible assumption | with_reducible apply put_keeps | with_reducible apply raise_keeps
            | with_reducible apply Keeps_ite | with_reducible apply Keeps_foldl | with_reducible apply setRole_keeps

/-- `recordOuts` keeps the queue, and the fields in order. -/
theorem recordOuts_keeps {r0 : State} {s : State} (hk : Keeps r0 s) : Keeps r0 (recordOuts s) := by
  unfold recordOuts
  iterate 40
    all_goals try
      first | intro _ | with_reducible assumption | with_reducible apply Keeps_ite | with_reducible apply Keeps_foldl
            | with_reducible apply setOut_keeps

/-- `adoptOut` keeps the queue, and the fields in order. -/
theorem adoptOut_keeps {r0 : State} (c : Nat) (v : Int × Nat) {s : State} (hk : Keeps r0 s) : Keeps r0 (adoptOut c v s) :=
    by
  unfold adoptOut
  iterate 40
    all_goals try
      first | with_reducible assumption | with_reducible apply put_keeps | with_reducible apply raise_keeps
            | with_reducible apply Keeps_ite | with_reducible apply setOut_keeps

/-- `adoptOuts` keeps the queue, and the fields in order. -/
theorem adoptOuts_keeps {r0 : State} (vs : List (Int × Nat)) {s : State} (hk : Keeps r0 s) : Keeps r0 (adoptOuts vs s) := by
  unfold adoptOuts
  iterate 40
    all_goals try
      first | intro _ | with_reducible assumption | with_reducible apply Keeps_ite | with_reducible apply Keeps_foldl
            | with_reducible apply adoptOut_keeps

/-- `loadOuts` keeps the queue, and the fields in order. -/
theorem loadOuts_keeps {r0 : State} (vs : List (Int × Nat)) {s : State} (hk : Keeps r0 s) : Keeps r0 (loadOuts vs s) := by
  unfold loadOuts
  iterate 40
    all_goals try
      first | intro _ | with_reducible assumption | with_reducible apply put_keeps | with_reducible apply Keeps_ite
            | with_reducible apply Keeps_foldl | with_reducible apply setOut_keeps

/-- `pulsesApply` keeps the queue, and the fields in order. -/
theorem pulsesApply_keeps {r0 : State} (c : Nat) {s : State} (hk : Keeps r0 s) : Keeps r0 (pulsesApply c s) := by
  unfold pulsesApply
  iterate 40
    all_goals try
      first | with_reducible assumption | with_reducible apply Keeps_ite | with_reducible apply rateCheck_keeps
            | with_reducible apply setOut_keeps

/-! ### MeterOps -/

/-- `storeRuns` keeps the queue, and the fields in order. -/
theorem storeRuns_keeps {r0 : State} (m : Nat) (c : MtrCfg) (t1 : Nat) (miss : List MissedSample) (runs : List ChanRun) {s :
    State} (hk : Keeps r0 s) : Keeps r0 (storeRuns m c t1 miss runs s) := by
  unfold storeRuns
  iterate 40
    all_goals try
      first | intro _ | with_reducible assumption | with_reducible apply Keeps_foldl | dsimp only | split
            | with_reducible apply Keeps_mk

/-- `addCov` keeps the queue, and the fields in order. -/
theorem addCov_keeps {r0 : State} (k : Nat) (c : CovSpan) {s : State} (hk : Keeps r0 s) : Keeps r0 (addCov k c s) := by
  unfold addCov
  iterate 40
    all_goals try
      first | with_reducible assumption | dsimp only | with_reducible apply Keeps_mk

/-- `correctAcc` keeps the queue, and the fields in order. -/
theorem correctAcc_keeps {r0 : State} (now : Bool) (a : Nat) (d : Int) {s : State} (hk : Keeps r0 s) : Keeps r0 (correctAcc
    now a d s) := by
  unfold correctAcc
  iterate 40
    all_goals try
      first | with_reducible assumption | with_reducible apply Keeps_ite | with_reducible apply pulseCorrect_keeps
            | dsimp only | split | with_reducible apply Keeps_mk

/-! ### Meters -/

/-- `notePeaks` keeps the queue, and the fields in order. -/
theorem notePeaks_keeps {r0 : State} (iv : Interval) {s : State} (hk : Keeps r0 s) : Keeps r0 (notePeaks iv s) := by
  unfold notePeaks
  iterate 40
    all_goals try
      first | intro _ | with_reducible assumption | with_reducible apply put_keeps | with_reducible apply raise_keeps
            | with_reducible apply Keeps_ite | with_reducible apply Keeps_foldl | with_reducible apply raisePeak_keeps

/-- `computeInterval` keeps the queue, and the fields in order. -/
theorem computeInterval_keeps {r0 : State} (m : Nat) (c : MtrCfg) (iv : Interval) {s0 : State} (hk : Keeps r0 s0) : Keeps r0
    (computeInterval m c iv s0) := by
  unfold computeInterval
  iterate 40
    all_goals try
      first | intro _ | with_reducible assumption | with_reducible apply Keeps_ite | with_reducible apply storeRuns_keeps
            | dsimp only | split | with_reducible apply Keeps_mk

/-- `computeHeld` keeps the queue, and the fields in order. -/
theorem computeHeld_keeps {r0 : State} (m : Nat) {s : State} (hk : Keeps r0 s) : Keeps r0 (computeHeld m s) := by
  unfold computeHeld
  iterate 40
    all_goals try
      first | with_reducible assumption | with_reducible apply computeInterval_keeps | dsimp only | split
            | with_reducible apply Keeps_mk

/-- `forceHeld` keeps the queue, and the fields in order. -/
theorem forceHeld_keeps {r0 : State} (m : Nat) {s : State} (hk : Keeps r0 s) : Keeps r0 (forceHeld m s) := by
  unfold forceHeld
  iterate 40
    all_goals try
      first | intro _ | with_reducible assumption | with_reducible apply computeHeld_keeps | dsimp only | split
            | with_reducible apply Keeps_mk

/-- `forceAllHeld` keeps the queue, and the fields in order. -/
theorem forceAllHeld_keeps {r0 : State} {s : State} (hk : Keeps r0 s) : Keeps r0 (forceAllHeld s) := by
  unfold forceAllHeld
  iterate 40
    all_goals try
      first | intro _ | with_reducible assumption | with_reducible apply Keeps_foldl | with_reducible apply forceHeld_keeps

/-- `setQual` keeps the queue, and the fields in order. -/
theorem setQual_keeps {r0 : State} (a : Nat) (q : Nat) {s : State} (hk : Keeps r0 s) : Keeps r0 (setQual a q s) := by
  unfold setQual
  iterate 40
    all_goals try
      first | with_reducible assumption | with_reducible apply put_keeps

/-- `flagLatch` keeps the queue, and the fields in order. -/
theorem flagLatch_keeps {r0 : State} (f : Fld) (l : Fld) (m : Nat) (b : Bool) {s : State} (hk : Keeps r0 s) : Keeps r0
    (flagLatch f l m b s) := by
  unfold flagLatch
  iterate 40
    all_goals try
      first | with_reducible assumption | with_reducible apply put_keeps | with_reducible apply setBit_keeps
            | with_reducible apply Keeps_ite

/-- `postStatus` keeps the queue, and the fields in order. -/
theorem postStatus_keeps {r0 : State} (m : Nat) (c : MtrCfg) (p : MtrPost) {s : State} (hk : Keeps r0 s) : Keeps r0
    (postStatus m c p s) := by
  unfold postStatus
  iterate 40
    all_goals try
      first | intro _ | with_reducible assumption | with_reducible apply put_keeps | with_reducible apply setBit_keeps
            | with_reducible apply raise_keeps | with_reducible apply Keeps_foldl | with_reducible apply flagLatch_keeps
            | with_reducible apply raiseIf_keeps | dsimp only | split

/-- `postResults` keeps the queue, and the fields in order. -/
theorem postResults_keeps {r0 : State} (m : Nat) (p : MtrPost) {s : State} (hk : Keeps r0 s) : Keeps r0 (postResults m p s)
    := by
  unfold postResults
  iterate 40
    all_goals try
      first | intro _ | with_reducible assumption | with_reducible apply put_keeps | with_reducible apply Keeps_ite
            | with_reducible apply Keeps_foldl

/-- `postIncs` keeps the queue, and the fields in order. -/
theorem postIncs_keeps {r0 : State} (m : Nat) (inc : List (List Nat)) (dur : Rat) (unver : Bool) (subst : Bool) (covered :
    Bool) {s : State} (hk : Keeps r0 s) : Keeps r0 (postIncs m inc dur unver subst covered s) := by
  unfold postIncs
  iterate 40
    all_goals try
      first | intro _ | with_reducible assumption | with_reducible apply Keeps_foldl | with_reducible apply setQual_keeps
            | with_reducible apply pulseFeed_keeps | dsimp only | split | with_reducible apply Keeps_mk

/-- `postWorst` keeps the queue, and the fields in order. -/
theorem postWorst_keeps {r0 : State} (m : Nat) {s : State} (hk : Keeps r0 s) : Keeps r0 (postWorst m s) := by
  unfold postWorst
  iterate 40
    all_goals try
      first | intro _ | with_reducible assumption | with_reducible apply put_keeps | with_reducible apply raise_keeps
            | with_reducible apply Keeps_foldl | with_reducible apply raiseIf_keeps

/-- `register` keeps the queue, and the fields in order. -/
theorem register_keeps {r0 : State} (m : Nat) (p : MtrPost) (twin : Option MeterItem) {s : State} (hk : Keeps r0 s) : Keeps
    r0 (register m p twin s) := by
  unfold register
  iterate 40
    all_goals try
      first | with_reducible assumption | with_reducible apply inc_keeps | with_reducible apply postIncs_keeps
            | with_reducible apply postWorst_keeps | dsimp only | split | with_reducible apply Keeps_mk

/-- `postOne` keeps the queue, and the fields in order. -/
theorem postOne_keeps {r0 : State} (m : Nat) (p : MtrPost) {s : State} (hk : Keeps r0 s) : Keeps r0 (postOne m p s) := by
  unfold postOne
  iterate 40
    all_goals try
      first | with_reducible assumption | with_reducible apply Keeps_ite | with_reducible apply postStatus_keeps
            | with_reducible apply postResults_keeps | with_reducible apply register_keeps | dsimp only | split
            | with_reducible apply Keeps_mk

/-- `registerWaits` keeps the queue, and the fields in order. -/
theorem registerWaits_keeps {r0 : State} (t : Nat) {s : State} (hk : Keeps r0 s) : Keeps r0 (registerWaits t s) := by
  unfold registerWaits
  iterate 40
    all_goals try
      first | intro _ | with_reducible assumption | with_reducible apply Keeps_ite | with_reducible apply Keeps_foldl
            | with_reducible apply register_keeps | dsimp only | split | with_reducible apply Keeps_mk

/-- `registerOwn` keeps the queue, and the fields in order. -/
theorem registerOwn_keeps {r0 : State} {s : State} (hk : Keeps r0 s) : Keeps r0 (registerOwn s) := by
  unfold registerOwn
  iterate 40
    all_goals try
      first | intro _ | with_reducible assumption | with_reducible apply Keeps_foldl | with_reducible apply register_keeps
            | dsimp only | split | with_reducible apply Keeps_mk

/-- `postNext` keeps the queue, and the fields in order. -/
theorem postNext_keeps {r0 : State} (m : Nat) {s : State} (hk : Keeps r0 s) : Keeps r0 (postNext m s) := by
  unfold postNext
  iterate 40
    all_goals try
      first | with_reducible assumption | with_reducible apply postOne_keeps | dsimp only | split
            | with_reducible apply Keeps_mk

/-- `postDue` keeps the queue, and the fields in order. -/
theorem postDue_keeps {r0 : State} (m : Nat) {s : State} (hk : Keeps r0 s) : Keeps r0 (postDue m s) := by
  unfold postDue
  iterate 40
    all_goals try
      first | intro _ | with_reducible assumption | with_reducible apply Keeps_foldl | with_reducible apply postNext_keeps

/-- `postAll` keeps the queue, and the fields in order. -/
theorem postAll_keeps {r0 : State} {s : State} (hk : Keeps r0 s) : Keeps r0 (postAll s) := by
  unfold postAll
  iterate 40
    all_goals try
      first | intro _ | with_reducible assumption | with_reducible apply Keeps_foldl | with_reducible apply registerOwn_keeps
            | with_reducible apply postDue_keeps | with_reducible apply forceHeld_keeps

/-- `lendSamples` keeps the queue, and the fields in order. -/
theorem lendSamples_keeps {r0 : State} (c : MtrCfg) (iv : Interval) {s : State} (hk : Keeps r0 s) : Keeps r0 (lendSamples c
    iv s) := by
  unfold lendSamples
  iterate 40
    all_goals try
      first | intro _ | with_reducible assumption | with_reducible apply Keeps_foldl | with_reducible apply sendAdopted_keeps

/-- `intervalEnd` keeps the queue, and the fields in order. -/
theorem intervalEnd_keeps {r0 : State} (m : Nat) (iv : Interval) {s : State} (hk : Keeps r0 s) : Keeps r0 (intervalEnd m iv
    s) := by
  unfold intervalEnd
  iterate 40
    all_goals try
      first | with_reducible assumption | with_reducible apply Keeps_ite | with_reducible apply lendSamples_keeps
            | with_reducible apply forceHeld_keeps | with_reducible apply notePeaks_keeps
            | with_reducible apply reachTime_keeps | with_reducible apply computeInterval_keeps
            | with_reducible apply postDue_keeps | dsimp only | split | with_reducible apply Keeps_mk

/-- `closeIntervals` keeps the queue, and the fields in order. -/
theorem closeIntervals_keeps {r0 : State} (runs : List (Nat × List ChanRun)) {s : State} (hk : Keeps r0 s) : Keeps r0
    (closeIntervals runs s) := by
  unfold closeIntervals
  iterate 40
    all_goals try
      first | intro _ | with_reducible assumption | with_reducible apply Keeps_foldl | with_reducible apply postAll_keeps
            | with_reducible apply intervalEnd_keeps | dsimp only | split

/-- `remoteDeadline` keeps the queue, and the fields in order. -/
theorem remoteDeadline_keeps {r0 : State} (m : Nat) (missing : List MissedSample) {s : State} (hk : Keeps r0 s) : Keeps r0
    (remoteDeadline m missing s) := by
  unfold remoteDeadline
  iterate 40
    all_goals try
      first | with_reducible assumption | with_reducible apply put_keeps | with_reducible apply raise_keeps
            | with_reducible apply Keeps_ite | with_reducible apply computeHeld_keeps | with_reducible apply raiseIf_keeps
            | dsimp only | split | with_reducible apply Keeps_mk

/-- `startHold` keeps the queue, and the fields in order. -/
theorem startHold_keeps {r0 : State} (m : Nat) {s : State} (hk : Keeps r0 s) : Keeps r0 (startHold m s) := by
  unfold startHold
  iterate 40
    all_goals try
      first | intro _ | with_reducible assumption | with_reducible apply put_keeps | dsimp only | split
            | with_reducible apply Keeps_mk

/-- `endHold` keeps the queue, and the fields in order. -/
theorem endHold_keeps {r0 : State} {s : State} (hk : Keeps r0 s) : Keeps r0 (endHold s) := by
  unfold endHold
  iterate 40
    all_goals try
      first | with_reducible assumption | with_reducible apply put_keeps | dsimp only | with_reducible apply Keeps_mk

/-- `mtrHoldWrite` keeps the queue, and the fields in order. -/
theorem mtrHoldWrite_keeps {r0 : State} (hold : Bool) (m : Nat) {s : State} (hk : Keeps r0 s) : Keeps r0 (mtrHoldWrite hold
    m s) := by
  unfold mtrHoldWrite
  iterate 40
    all_goals try
      first | with_reducible assumption | with_reducible apply put_keeps | with_reducible apply Keeps_ite
            | with_reducible apply startHold_keeps | with_reducible apply endHold_keeps

/-- `mtrHoldExpire` keeps the queue, and the fields in order. -/
theorem mtrHoldExpire_keeps {r0 : State} {s : State} (hk : Keeps r0 s) : Keeps r0 (mtrHoldExpire s) := by
  unfold mtrHoldExpire
  iterate 40
    all_goals try
      first | with_reducible assumption | with_reducible apply put_keeps | with_reducible apply Keeps_ite
            | with_reducible apply endHold_keeps

/-- `accQclr` keeps the queue, and the fields in order. -/
theorem accQclr_keeps {r0 : State} (a : Nat) {s : State} (hk : Keeps r0 s) : Keeps r0 (accQclr a s) := by
  unfold accQclr
  iterate 40
    all_goals try
      first | with_reducible assumption | with_reducible apply put_keeps

/-- `clearUnused` keeps the queue, and the fields in order. -/
theorem clearUnused_keeps {r0 : State} (m : Nat) (type : Nat) {s : State} (hk : Keeps r0 s) : Keeps r0 (clearUnused m type
    s) := by
  unfold clearUnused
  iterate 40
    all_goals try
      first | intro _ | with_reducible assumption | with_reducible apply put_keeps | with_reducible apply Keeps_ite
            | with_reducible apply Keeps_foldl

/-- `takeMeter` keeps the queue, and the fields in order. -/
theorem takeMeter_keeps {r0 : State} (m : Nat) {s : State} (hk : Keeps r0 s) : Keeps r0 (takeMeter m s) := by
  unfold takeMeter
  iterate 40
    all_goals try
      first | with_reducible assumption | with_reducible apply put_keeps | with_reducible apply Keeps_ite
            | with_reducible apply clearUnused_keeps | dsimp only | split | with_reducible apply Keeps_mk

/-- `metersApply` keeps the queue, and the fields in order. -/
theorem metersApply_keeps {r0 : State} (m : Nat) {s : State} (hk : Keeps r0 s) : Keeps r0 (metersApply m s) := by
  unfold metersApply
  iterate 40
    all_goals try
      first | with_reducible assumption | with_reducible apply Keeps_ite | with_reducible apply takeMeter_keeps
            | with_reducible apply postDue_keeps

/-- `paceApply` keeps the queue, and the fields in order. -/
theorem paceApply_keeps {r0 : State} (m : Nat) {s : State} (hk : Keeps r0 s) : Keeps r0 (paceApply m s) := by
  unfold paceApply
  iterate 40
    all_goals try
      first | with_reducible assumption | with_reducible apply Keeps_ite | dsimp only | split | with_reducible apply Keeps_mk

/-- `writeCkpt` keeps the queue, and the fields in order. -/
theorem writeCkpt_keeps {r0 : State} (final : Bool) {s : State} (hk : Keeps r0 s) : Keeps r0 (writeCkpt final s) := by
  unfold writeCkpt
  iterate 40
    all_goals try
      first | with_reducible assumption | dsimp only | split | with_reducible apply Keeps_mk

/-- `loadAcc` keeps the queue, and the fields in order. -/
theorem loadAcc_keeps {r0 : State} (a : Nat) (v : Nat) {s : State} (hk : Keeps r0 s) : Keeps r0 (loadAcc a v s) := by
  unfold loadAcc
  iterate 40
    all_goals try
      first | with_reducible assumption | dsimp only | with_reducible apply Keeps_mk

/-- `zeroAccs` keeps the queue, and the fields in order. -/
theorem zeroAccs_keeps {r0 : State} (keys : List Nat) {s : State} (hk : Keeps r0 s) : Keeps r0 (zeroAccs keys s) := by
  unfold zeroAccs
  iterate 40
    all_goals try
      first | intro _ | with_reducible assumption | with_reducible apply Keeps_foldl | with_reducible apply loadAcc_keeps

/-- `restoreCkpt` keeps the queue, and the fields in order. -/
theorem restoreCkpt_keeps {r0 : State} {s : State} (hk : Keeps r0 s) : Keeps r0 (restoreCkpt s) := by
  unfold restoreCkpt
  iterate 40
    all_goals try
      first | intro _ | with_reducible assumption | with_reducible apply put_keeps | with_reducible apply raise_keeps
            | with_reducible apply Keeps_ite | with_reducible apply Keeps_foldl | with_reducible apply zeroAccs_keeps
            | with_reducible apply raiseIf_keeps | with_reducible apply loadAcc_keeps | dsimp only | split
            | with_reducible apply Keeps_mk

/-! ### CycleOps -/

/-- `sessWindow` keeps the queue, and the fields in order. -/
theorem sessWindow_keeps {r0 : State} (runs : List ChanRun) (x : Sess) {s : State} (hk : Keeps r0 s) : Keeps r0 (sessWindow
    runs x s) := by
  unfold sessWindow
  iterate 40
    all_goals try
      first | with_reducible assumption | with_reducible apply windowEnd_keeps | dsimp only | split

/-! ### Pulses -/

/-- `pulseTick` keeps the queue, and the fields in order. -/
theorem pulseTick_keeps {r0 : State} (net : BitVec 16) {s : State} (hk : Keeps r0 s) : Keeps r0 (pulseTick net s) := by
  unfold pulseTick
  iterate 40
    all_goals try
      first | intro _ | with_reducible assumption | with_reducible apply Keeps_ite | with_reducible apply Keeps_foldl
            | with_reducible apply tickOut_keeps

/-- `pulseEnd` keeps the queue, and the fields in order. -/
theorem pulseEnd_keeps {r0 : State} (c : Nat) {s : State} (hk : Keeps r0 s) : Keeps r0 (pulseEnd c s) := by
  unfold pulseEnd
  iterate 40
    all_goals try
      first | with_reducible assumption | with_reducible apply Keeps_ite | with_reducible apply setOut_keeps | dsimp only
            | split

/-- `pinClear` keeps the queue, and the fields in order. -/
theorem pinClear_keeps {r0 : State} (c : Nat) {s : State} (hk : Keeps r0 s) : Keeps r0 (pinClear c s) := by
  unfold pinClear
  iterate 40
    all_goals try
      first | with_reducible assumption | with_reducible apply put_keeps | with_reducible apply Keeps_ite

/-- `pulsesApplyAt` keeps the queue, and the fields in order. -/
theorem pulsesApplyAt_keeps {r0 : State} (c : Nat) {s : State} (hk : Keeps r0 s) : Keeps r0 (pulsesApplyAt c s) := by
  unfold pulsesApplyAt
  iterate 40
    all_goals try
      first | with_reducible assumption | with_reducible apply Keeps_ite | with_reducible apply pulsesApply_keeps

/-! ### Grid -/

/-- `setTrk` keeps the queue, and the fields in order. -/
theorem setTrk_keeps {r0 : State} (g : Nat) (k : GrdTrk) {s : State} (hk : Keeps r0 s) : Keeps r0 (setTrk g k s) := by
  unfold setTrk
  iterate 40
    all_goals try
      first | with_reducible assumption | dsimp only | with_reducible apply Keeps_mk

/-- `toSeek` keeps the queue, and the fields in order. -/
theorem toSeek_keeps {r0 : State} (g : Nat) {s : State} (hk : Keeps r0 s) : Keeps r0 (toSeek g s) := by
  unfold toSeek
  iterate 40
    all_goals try
      first | with_reducible assumption | with_reducible apply put_keeps | with_reducible apply setTrk_keeps

/-- `toAcq` keeps the queue, and the fields in order. -/
theorem toAcq_keeps {r0 : State} (g : Nat) {s : State} (hk : Keeps r0 s) : Keeps r0 (toAcq g s) := by
  unfold toAcq
  iterate 40
    all_goals try
      first | with_reducible assumption | with_reducible apply put_keeps | with_reducible apply setTrk_keeps

/-- `noteLoss` keeps the queue, and the fields in order. -/
theorem noteLoss_keeps {r0 : State} (g : Nat) {s : State} (hk : Keeps r0 s) : Keeps r0 (noteLoss g s) := by
  unfold noteLoss
  iterate 40
    all_goals try
      first | with_reducible assumption | with_reducible apply put_keeps | with_reducible apply raise_keeps

/-- `lose` keeps the queue, and the fields in order. -/
theorem lose_keeps {r0 : State} (g : Nat) {s : State} (hk : Keeps r0 s) : Keeps r0 (lose g s) := by
  unfold lose
  iterate 40
    all_goals try
      first | with_reducible assumption | with_reducible apply put_keeps | with_reducible apply Keeps_ite
            | with_reducible apply noteLoss_keeps | with_reducible apply toSeek_keeps | with_reducible apply setTrk_keeps

/-- `markTest` keeps the queue, and the fields in order. -/
theorem markTest_keeps {r0 : State} (g : Nat) (rms : Rat) {s : State} (hk : Keeps r0 s) : Keeps r0 (markTest g rms s) := by
  unfold markTest
  iterate 40
    all_goals try
      first | with_reducible assumption | with_reducible apply Keeps_ite | with_reducible apply toAcq_keeps
            | with_reducible apply setTrk_keeps | with_reducible apply toSeek_keeps | with_reducible apply lose_keeps
            | dsimp only | split

/-- `boundaryTest` keeps the queue, and the fields in order. -/
theorem boundaryTest_keeps {r0 : State} (g : Nat) (e : Rat) (freq : Rat) (meas : Option Rat) {s : State} (hk : Keeps r0 s) :
    Keeps r0 (boundaryTest g e freq meas s) := by
  unfold boundaryTest
  iterate 40
    all_goals try
      first | with_reducible assumption | with_reducible apply put_keeps | with_reducible apply Keeps_ite
            | with_reducible apply toSeek_keeps | with_reducible apply setTrk_keeps | with_reducible apply lose_keeps
            | dsimp only | split

/-- `holdPassed` keeps the queue, and the fields in order. -/
theorem holdPassed_keeps {r0 : State} (g : Nat) {s : State} (hk : Keeps r0 s) : Keeps r0 (holdPassed g s) := by
  unfold holdPassed
  iterate 40
    all_goals try
      first | with_reducible assumption | with_reducible apply Keeps_ite | with_reducible apply setTrk_keeps

/-- `stampBoundary` keeps the queue, and the fields in order. -/
theorem stampBoundary_keeps {r0 : State} (g : Nat) (t : Nat) {s : State} (hk : Keeps r0 s) : Keeps r0 (stampBoundary g t s)
    := by
  unfold stampBoundary
  iterate 40
    all_goals try
      first | with_reducible assumption | with_reducible apply put_keeps

/-- `sessBoundary` keeps the queue, and the fields in order. -/
theorem sessBoundary_keeps {r0 : State} (g : Nat) (t : Nat) (kept : Bool) {s : State} (hk : Keeps r0 s) : Keeps r0
    (sessBoundary g t kept s) := by
  unfold sessBoundary
  iterate 40
    all_goals try
      first | with_reducible assumption | with_reducible apply Keeps_ite | with_reducible apply setSess_keeps | dsimp only
            | split

/-- `closeCycle` keeps the queue, and the fields in order. -/
theorem closeCycle_keeps {r0 : State} (g : Nat) (t : Nat) (old : GrdTrk) (align : Bool) {s : State} (hk : Keeps r0 s) :
    Keeps r0 (closeCycle g t old align s) := by
  unfold closeCycle
  iterate 40
    all_goals try
      first | with_reducible assumption | with_reducible apply put_keeps | with_reducible apply Keeps_ite
            | with_reducible apply sessBoundary_keeps | with_reducible apply fexTest_keeps | with_reducible apply setTrk_keeps

/-- `cycleBoundary` keeps the queue, and the fields in order. -/
theorem cycleBoundary_keeps {r0 : State} (g : Nat) (t : Nat) (rms : Rat) (e : Rat) (nco : Rat) (meas : Option Rat) {s :
    State} (hk : Keeps r0 s) : Keeps r0 (cycleBoundary g t rms e nco meas s) := by
  unfold cycleBoundary
  iterate 40
    all_goals try
      first | with_reducible assumption | with_reducible apply Keeps_ite | with_reducible apply stampBoundary_keeps
            | with_reducible apply reachTime_keeps | with_reducible apply holdPassed_keeps | with_reducible apply setTrk_keeps
            | with_reducible apply closeCycle_keeps | with_reducible apply boundaryTest_keeps
            | with_reducible apply markTest_keeps

/-- `restartY` keeps the queue, and the fields in order. -/
theorem restartY_keeps {r0 : State} (n : Nat) (t : Nat) {s : State} (hk : Keeps r0 s) : Keeps r0 (restartY n t s) := by
  unfold restartY
  iterate 40
    all_goals try
      first | with_reducible assumption | dsimp only | with_reducible apply Keeps_mk

/-- `setMember` keeps the queue, and the fields in order. -/
theorem setMember_keeps {r0 : State} (n : Nat) (t : Nat) (code : Nat) {s : State} (hk : Keeps r0 s) : Keeps r0 (setMember n
    t code s) := by
  unfold setMember
  iterate 40
    all_goals try
      first | intro _ | with_reducible assumption | with_reducible apply put_keeps | with_reducible apply Keeps_foldl
            | with_reducible apply restartY_keeps | with_reducible apply setDst_keeps | dsimp only | split
            | with_reducible apply Keeps_mk

/-- `takeMembers` keeps the queue, and the fields in order. -/
theorem takeMembers_keeps {r0 : State} (g : Nat) (t : Nat) {s : State} (hk : Keeps r0 s) : Keeps r0 (takeMembers g t s) :=
    by
  unfold takeMembers
  iterate 40
    all_goals try
      first | intro _ | with_reducible assumption | with_reducible apply Keeps_ite | with_reducible apply Keeps_foldl
            | with_reducible apply setMember_keeps | dsimp only | split | with_reducible apply Keeps_mk

/-- `restartSmooth` keeps the queue, and the fields in order. -/
theorem restartSmooth_keeps {r0 : State} (g : Nat) (t : Nat) {s : State} (hk : Keeps r0 s) : Keeps r0 (restartSmooth g t s)
    := by
  unfold restartSmooth
  iterate 40
    all_goals try
      first | intro _ | with_reducible assumption | with_reducible apply Keeps_foldl | with_reducible apply restartY_keeps

/-- `takeSmooth` keeps the queue, and the fields in order. -/
theorem takeSmooth_keeps {r0 : State} (g : Nat) (t : Nat) {s : State} (hk : Keeps r0 s) : Keeps r0 (takeSmooth g t s) := by
  unfold takeSmooth
  iterate 40
    all_goals try
      first | with_reducible assumption | with_reducible apply Keeps_ite | with_reducible apply restartSmooth_keeps
            | with_reducible apply setTrk_keeps

/-- `windowStart` keeps the queue, and the fields in order. -/
theorem windowStart_keeps {r0 : State} (g : Nat) (t : Nat) {s : State} (hk : Keeps r0 s) : Keeps r0 (windowStart g t s) :=
    by
  unfold windowStart
  iterate 40
    all_goals try
      first | with_reducible assumption | with_reducible apply takeSmooth_keeps | with_reducible apply takeMembers_keeps

/-- `abandonWindow` keeps the queue, and the fields in order. -/
theorem abandonWindow_keeps {r0 : State} (g : Nat) (t : Nat) {s : State} (hk : Keeps r0 s) : Keeps r0 (abandonWindow g t s)
    := by
  unfold abandonWindow
  iterate 40
    all_goals try
      first | with_reducible assumption | with_reducible apply Keeps_ite | with_reducible apply setTrk_keeps
            | with_reducible apply restartSmooth_keeps | with_reducible apply windowStart_keeps

/-- `aligningBoundary` keeps the queue, and the fields in order. -/
theorem aligningBoundary_keeps {r0 : State} (g : Nat) (t : Nat) (rms : Rat) (meas : Rat) {s : State} (hk : Keeps r0 s) :
    Keeps r0 (aligningBoundary g t rms meas s) := by
  unfold aligningBoundary
  iterate 40
    all_goals try
      first | with_reducible assumption | with_reducible apply Keeps_ite | with_reducible apply toSeek_keeps
            | with_reducible apply reachTime_keeps | with_reducible apply stampBoundary_keeps
            | with_reducible apply markTest_keeps | with_reducible apply setTrk_keeps | with_reducible apply closeCycle_keeps
            | with_reducible apply abandonWindow_keeps

/-- `holdToSeek` keeps the queue, and the fields in order. -/
theorem holdToSeek_keeps {r0 : State} (g : Nat) {s : State} (hk : Keeps r0 s) : Keeps r0 (holdToSeek g s) := by
  unfold holdToSeek
  iterate 40
    all_goals try
      first | with_reducible assumption | with_reducible apply put_keeps | with_reducible apply raise_keeps
            | with_reducible apply toSeek_keeps

/-- `trackerHoldExpire` keeps the queue, and the fields in order. -/
theorem trackerHoldExpire_keeps {r0 : State} (g : Nat) {s : State} (hk : Keeps r0 s) : Keeps r0 (trackerHoldExpire g s) :=
    by
  unfold trackerHoldExpire
  iterate 40
    all_goals try
      first | with_reducible assumption | with_reducible apply Keeps_ite | with_reducible apply holdToSeek_keeps

/-- `f10sPost` keeps the queue, and the fields in order. -/
theorem f10sPost_keeps {r0 : State} (t : Nat) {s : State} (hk : Keeps r0 s) : Keeps r0 (f10sPost t s) := by
  unfold f10sPost
  iterate 40
    all_goals try
      first | intro _ | with_reducible assumption | with_reducible apply put_keeps | with_reducible apply Keeps_ite
            | with_reducible apply Keeps_foldl | with_reducible apply setTrk_keeps | with_reducible apply reachTime_keeps

/-- `gridEnable` keeps the queue, and the fields in order. -/
theorem gridEnable_keeps {r0 : State} (g : Nat) (t : Nat) {s : State} (hk : Keeps r0 s) : Keeps r0 (gridEnable g t s) := by
  unfold gridEnable
  iterate 40
    all_goals try
      first | with_reducible assumption | with_reducible apply put_keeps | with_reducible apply Keeps_ite
            | with_reducible apply stampBoundary_keeps | with_reducible apply setTrk_keeps
            | with_reducible apply reachTime_keeps | with_reducible apply restartSmooth_keeps
            | with_reducible apply takeMembers_keeps | with_reducible apply setDst_keeps
            | with_reducible apply sessBoundary_keeps

/-- `trackerOff` keeps the queue, and the fields in order. -/
theorem trackerOff_keeps {r0 : State} (g : Nat) (t : Nat) {s : State} (hk : Keeps r0 s) : Keeps r0 (trackerOff g t s) := by
  unfold trackerOff
  iterate 40
    all_goals try
      first | with_reducible assumption | with_reducible apply put_keeps | with_reducible apply Keeps_ite
            | with_reducible apply noteLoss_keeps | with_reducible apply setTrk_keeps | with_reducible apply cutDst_keeps

/-- `gridDisable` keeps the queue, and the fields in order. -/
theorem gridDisable_keeps {r0 : State} (g : Nat) (t : Nat) {s : State} (hk : Keeps r0 s) : Keeps r0 (gridDisable g t s) :=
    by
  unfold gridDisable
  iterate 40
    all_goals try
      first | intro _ | with_reducible assumption | with_reducible apply Keeps_ite | with_reducible apply Keeps_foldl
            | with_reducible apply setMember_keeps | with_reducible apply trackerOff_keeps

/-- `dropFormer` keeps the queue, and the fields in order. -/
theorem dropFormer_keeps {r0 : State} {s : State} (hk : Keeps r0 s) : Keeps r0 (dropFormer s) := by
  unfold dropFormer
  iterate 40
    all_goals try
      first | intro _ | with_reducible assumption | with_reducible apply Keeps_ite | with_reducible apply Keeps_foldl
            | with_reducible apply setMember_keeps

/-- `gridRefChange` keeps the queue, and the fields in order. -/
theorem gridRefChange_keeps {r0 : State} (g : Nat) (t : Nat) {s : State} (hk : Keeps r0 s) : Keeps r0 (gridRefChange g t s)
    := by
  unfold gridRefChange
  iterate 40
    all_goals try
      first | with_reducible assumption | with_reducible apply put_keeps | with_reducible apply Keeps_ite
            | with_reducible apply noteLoss_keeps | with_reducible apply setTrk_keeps | with_reducible apply holdToSeek_keeps
            | with_reducible apply toSeek_keeps | with_reducible apply abandonWindow_keeps

/-- `windowClose` keeps the queue, and the fields in order. -/
theorem windowClose_keeps {r0 : State} (g : Nat) {s : State} (hk : Keeps r0 s) : Keeps r0 (windowClose g s) := by
  unfold windowClose
  iterate 40
    all_goals try
      first | with_reducible assumption | with_reducible apply Keeps_ite | with_reducible apply rocofTest_keeps
            | with_reducible apply setTrk_keeps | with_reducible apply windowStart_keeps | with_reducible apply flagTest_keeps
            | dsimp only | split

/-- `postPhasors` keeps the queue, and the fields in order. -/
theorem postPhasors_keeps {r0 : State} (g : Nat) (n : Nat) (c : CycRec) (xs : List Rat) {s : State} (hk : Keeps r0 s) :
    Keeps r0 (postPhasors g n c xs s) := by
  unfold postPhasors
  iterate 40
    all_goals try
      first | intro _ | with_reducible assumption | with_reducible apply put_keeps | with_reducible apply setBit_keeps
            | with_reducible apply putI_keeps | with_reducible apply Keeps_ite | with_reducible apply Keeps_foldl

/-- `phasorsPost` keeps the queue, and the fields in order. -/
theorem phasorsPost_keeps {r0 : State} (g : Nat) (ps : List StreamRun) {s : State} (hk : Keeps r0 s) : Keeps r0 (phasorsPost
    g ps s) := by
  unfold phasorsPost
  iterate 40
    all_goals try
      first | intro _ | with_reducible assumption | with_reducible apply Keeps_ite | with_reducible apply Keeps_foldl
            | with_reducible apply postPhasors_keeps | with_reducible apply setTrk_keeps | dsimp only | split

/-- `postWindow` keeps the queue, and the fields in order. -/
theorem postWindow_keeps {r0 : State} (w : WinDone) (x : WinMem) (xs : List Rat) {s : State} (hk : Keeps r0 s) : Keeps r0
    (postWindow w x xs s) := by
  unfold postWindow
  iterate 40
    all_goals try
      first | intro _ | with_reducible assumption | with_reducible apply put_keeps | with_reducible apply Keeps_ite
            | with_reducible apply Keeps_foldl | dsimp only | split | with_reducible apply Keeps_mk

/-- `windowPost` keeps the queue, and the fields in order. -/
theorem windowPost_keeps {r0 : State} (g : Nat) (ws : List StreamRun) {s : State} (hk : Keeps r0 s) : Keeps r0 (windowPost g
    ws s) := by
  unfold windowPost
  iterate 40
    all_goals try
      first | intro _ | with_reducible assumption | with_reducible apply Keeps_ite | with_reducible apply Keeps_foldl
            | with_reducible apply postWindow_keeps | with_reducible apply setTrk_keeps | dsimp only | split

/-- `hrmService` keeps the queue, and the fields in order. -/
theorem hrmService_keeps {r0 : State} {s : State} (hk : Keeps r0 s) : Keeps r0 (hrmService s) := by
  unfold hrmService
  iterate 40
    all_goals try
      first | intro _ | with_reducible assumption | with_reducible apply put_keeps | with_reducible apply setBit_keeps
            | with_reducible apply raise_keeps | with_reducible apply Keeps_ite | with_reducible apply Keeps_foldl
            | dsimp only | split | with_reducible apply Keeps_mk

/-- `retireHrmLane` keeps the queue, and the fields in order. -/
theorem retireHrmLane_keeps {r0 : State} (lane : Nat) {s : State} (hk : Keeps r0 s) : Keeps r0 (retireHrmLane lane s) := by
  unfold retireHrmLane
  iterate 40
    all_goals try
      first | with_reducible assumption | with_reducible apply put_keeps | with_reducible apply Keeps_ite
            | with_reducible apply hrmService_keeps | with_reducible apply permanent_keeps

/-- `hrmMismatch` keeps the queue, and the fields in order. -/
theorem hrmMismatch_keeps {r0 : State} (lane : Nat) (pass : Bool) {s : State} (hk : Keeps r0 s) : Keeps r0 (hrmMismatch lane
    pass s) := by
  unfold hrmMismatch
  iterate 40
    all_goals try
      first | with_reducible assumption | with_reducible apply inc_keeps | with_reducible apply Keeps_ite
            | with_reducible apply takeInjection_keeps | with_reducible apply transient_keeps
            | with_reducible apply retireHrmLane_keeps

/-- `arcRestart` keeps the queue, and the fields in order. -/
theorem arcRestart_keeps {r0 : State} {s : State} (hk : Keeps r0 s) : Keeps r0 (arcRestart s) := by
  unfold arcRestart
  iterate 40
    all_goals try
      first | intro _ | with_reducible assumption | dsimp only | split | with_reducible apply Keeps_mk

/-- `hbGap` keeps the queue, and the fields in order. -/
theorem hbGap_keeps {r0 : State} {s : State} (hk : Keeps r0 s) : Keeps r0 (hbGap s) := by
  unfold hbGap
  iterate 40
    all_goals try
      first | intro _ | with_reducible assumption | with_reducible apply Keeps_ite | with_reducible apply Keeps_foldl
            | with_reducible apply arcRestart_keeps | dsimp only | split | with_reducible apply Keeps_mk

/-- `dropBurst` keeps the queue, and the fields in order. -/
theorem dropBurst_keeps {r0 : State} (k : BurstKind) {s : State} (hk : Keeps r0 s) : Keeps r0 (dropBurst k s) := by
  unfold dropBurst
  iterate 40
    all_goals try
      first | intro _ | with_reducible assumption | with_reducible apply Keeps_ite | with_reducible apply Keeps_foldl
            | with_reducible apply hbGap_keeps | with_reducible apply arcRestart_keeps | with_reducible apply setTrk_keeps
            | dsimp only | split | with_reducible apply Keeps_mk

/-- `burstOverrun` keeps the queue, and the fields in order. -/
theorem burstOverrun_keeps {r0 : State} (k : BurstKind) {s : State} (hk : Keeps r0 s) : Keeps r0 (burstOverrun k s) := by
  unfold burstOverrun
  iterate 40
    all_goals try
      first | with_reducible assumption | with_reducible apply inc_keeps | with_reducible apply raise_keeps
            | with_reducible apply Keeps_ite | with_reducible apply dropBurst_keeps

/-- `startHrmHold` keeps the queue, and the fields in order. -/
theorem startHrmHold_keeps {r0 : State} (n : Nat) {s : State} (hk : Keeps r0 s) : Keeps r0 (startHrmHold n s) := by
  unfold startHrmHold
  iterate 40
    all_goals try
      first | intro _ | with_reducible assumption | with_reducible apply put_keeps | dsimp only | split
            | with_reducible apply Keeps_mk

/-- `endHrmHold` keeps the queue, and the fields in order. -/
theorem endHrmHold_keeps {r0 : State} {s : State} (hk : Keeps r0 s) : Keeps r0 (endHrmHold s) := by
  unfold endHrmHold
  iterate 40
    all_goals try
      first | with_reducible assumption | with_reducible apply put_keeps | dsimp only | with_reducible apply Keeps_mk

/-- `hrmHoldWrite` keeps the queue, and the fields in order. -/
theorem hrmHoldWrite_keeps {r0 : State} (hold : Bool) (n : Nat) {s : State} (hk : Keeps r0 s) : Keeps r0 (hrmHoldWrite hold
    n s) := by
  unfold hrmHoldWrite
  iterate 40
    all_goals try
      first | with_reducible assumption | with_reducible apply put_keeps | with_reducible apply Keeps_ite
            | with_reducible apply startHrmHold_keeps | with_reducible apply endHrmHold_keeps | dsimp only | split
            | with_reducible apply Keeps_mk

/-- `hrmHoldExpire` keeps the queue, and the fields in order. -/
theorem hrmHoldExpire_keeps {r0 : State} {s : State} (hk : Keeps r0 s) : Keeps r0 (hrmHoldExpire s) := by
  unfold hrmHoldExpire
  iterate 40
    all_goals try
      first | with_reducible assumption | with_reducible apply put_keeps | with_reducible apply Keeps_ite
            | with_reducible apply endHrmHold_keeps

/-- `hrmOver` keeps the queue, and the fields in order. -/
theorem hrmOver_keeps {r0 : State} {s : State} (hk : Keeps r0 s) : Keeps r0 (hrmOver s) := by
  unfold hrmOver
  iterate 40
    all_goals try
      first | with_reducible assumption | with_reducible apply Keeps_ite | with_reducible apply hrmHoldExpire_keeps
            | dsimp only | split | with_reducible apply Keeps_mk

/-! ### Disturb -/

/-- `memberBits` keeps the queue, and the fields in order. -/
theorem memberBits_keeps {r0 : State} (th : DstThr) (x : MarkIn) {s : State} (hk : Keeps r0 s) : Keeps r0 (memberBits th x
    s) := by
  unfold memberBits
  iterate 40
    all_goals try
      first | intro _ | with_reducible assumption | with_reducible apply put_keeps | with_reducible apply Keeps_ite
            | with_reducible apply Keeps_foldl

/-- `voltageStates` keeps the queue, and the fields in order. -/
theorem voltageStates_keeps {r0 : State} (x : MarkIn) {s : State} (hk : Keeps r0 s) : Keeps r0 (voltageStates x s) := by
  unfold voltageStates
  iterate 40
    all_goals try
      first | intro _ | with_reducible assumption | with_reducible apply put_keeps | with_reducible apply Keeps_ite
            | with_reducible apply setDst_keeps | with_reducible apply gstStart_keeps

/-- `rvcBits` keeps the queue, and the fields in order. -/
theorem rvcBits_keeps {r0 : State} (vs : List (Nat × Rat)) (p : Nat × Rat → Bool) {s : State} (hk : Keeps r0 s) : Keeps r0
    (rvcBits vs p s) := by
  unfold rvcBits
  iterate 40
    all_goals try
      first | intro _ | with_reducible assumption | with_reducible apply setBit_keeps | with_reducible apply Keeps_foldl

/-- `rvcStep` keeps the queue, and the fields in order. -/
theorem rvcStep_keeps {r0 : State} (x : MarkIn) (before : SMap (List Rat)) {s : State} (hk : Keeps r0 s) : Keeps r0 (rvcStep
    x before s) := by
  unfold rvcStep
  iterate 40
    all_goals try
      first | intro _ | with_reducible assumption | with_reducible apply put_keeps | with_reducible apply Keeps_ite
            | with_reducible apply Keeps_foldl | with_reducible apply rvcBits_keeps | with_reducible apply setDst_keeps
            | with_reducible apply gstStart_keeps | dsimp only | split

/-- `halfMark` keeps the queue, and the fields in order. -/
theorem halfMark_keeps {r0 : State} (g : Nat) (t : Nat) (mid : Option Rat) (us : List StreamRun) {s : State} (hk : Keeps r0
    s) : Keeps r0 (halfMark g t mid us s) := by
  unfold halfMark
  iterate 40
    all_goals try
      first | intro _ | with_reducible assumption | with_reducible apply Keeps_ite | with_reducible apply reachTime_keeps
            | with_reducible apply markTest_keeps | with_reducible apply rvcStep_keeps | with_reducible apply memberBits_keeps
            | with_reducible apply voltageStates_keeps | with_reducible apply setDst_keeps | with_reducible apply cutDst_keeps
            | dsimp only | split

/-- `recordPost` keeps the queue, and the fields in order. -/
theorem recordPost_keeps {r0 : State} (g : Nat) {s : State} (hk : Keeps r0 s) : Keeps r0 (recordPost g s) := by
  unfold recordPost
  iterate 40
    all_goals try
      first | with_reducible assumption | with_reducible apply put_keeps | with_reducible apply setBit_keeps
            | with_reducible apply raise_keeps | with_reducible apply Keeps_ite | with_reducible apply setDst_keeps
            | dsimp only | split

/-- `postAllRecords` keeps the queue, and the fields in order. -/
theorem postAllRecords_keeps {r0 : State} {s : State} (hk : Keeps r0 s) : Keeps r0 (postAllRecords s) := by
  unfold postAllRecords
  iterate 40
    all_goals try
      first | intro _ | with_reducible assumption | with_reducible apply Keeps_foldl | with_reducible apply recordPost_keeps

/-- `arcBlock` keeps the queue, and the fields in order. -/
theorem arcBlock_keeps {r0 : State} (n : Nat) (m : Rat) {s : State} (hk : Keeps r0 s) : Keeps r0 (arcBlock n m s) := by
  unfold arcBlock
  iterate 40
    all_goals try
      first | with_reducible assumption | with_reducible apply put_keeps | with_reducible apply putI_keeps
            | with_reducible apply raise_keeps | with_reducible apply Keeps_ite | dsimp only | split
            | with_reducible apply Keeps_mk

/-- `joinBlock` keeps the queue, and the fields in order. -/
theorem joinBlock_keeps {r0 : State} (n : Nat) (power : List Rat) {s : State} (hk : Keeps r0 s) : Keeps r0 (joinBlock n
    power s) := by
  unfold joinBlock
  iterate 40
    all_goals try
      first | with_reducible assumption | with_reducible apply Keeps_ite | with_reducible apply arcBlock_keeps
            | with_reducible apply arcStop_keeps | dsimp only | split | with_reducible apply Keeps_mk

/-- `highBlock` keeps the queue, and the fields in order. -/
theorem highBlock_keeps {r0 : State} (bs : List StreamRun) {s : State} (hk : Keeps r0 s) : Keeps r0 (highBlock bs s) := by
  unfold highBlock
  iterate 40
    all_goals try
      first | intro _ | with_reducible assumption | with_reducible apply Keeps_ite | with_reducible apply Keeps_foldl
            | with_reducible apply joinBlock_keeps

/-- `postPeriod` keeps the queue, and the fields in order. -/
theorem postPeriod_keeps {r0 : State} (bands : Option (List Rat)) (n : Nat) {s : State} (hk : Keeps r0 s) : Keeps r0
    (postPeriod bands n s) := by
  unfold postPeriod
  iterate 40
    all_goals try
      first | intro _ | with_reducible assumption | with_reducible apply put_keeps | with_reducible apply setBit_keeps
            | with_reducible apply raise_keeps | with_reducible apply Keeps_ite | with_reducible apply Keeps_foldl
            | dsimp only | split | with_reducible apply Keeps_mk

/-- `lowBandPeriod` keeps the queue, and the fields in order. -/
theorem lowBandPeriod_keeps {r0 : State} (t : Nat) (ls : List StreamRun) {s : State} (hk : Keeps r0 s) : Keeps r0
    (lowBandPeriod t ls s) := by
  unfold lowBandPeriod
  iterate 40
    all_goals try
      first | intro _ | with_reducible assumption | with_reducible apply Keeps_ite | with_reducible apply Keeps_foldl
            | with_reducible apply postPeriod_keeps | with_reducible apply reachTime_keeps | dsimp only | split
            | with_reducible apply Keeps_mk

/-- `startHbHold` keeps the queue, and the fields in order. -/
theorem startHbHold_keeps {r0 : State} (n : Nat) {s : State} (hk : Keeps r0 s) : Keeps r0 (startHbHold n s) := by
  unfold startHbHold
  iterate 40
    all_goals try
      first | with_reducible assumption | with_reducible apply put_keeps | dsimp only | with_reducible apply Keeps_mk

/-- `endHbHold` keeps the queue, and the fields in order. -/
theorem endHbHold_keeps {r0 : State} {s : State} (hk : Keeps r0 s) : Keeps r0 (endHbHold s) := by
  unfold endHbHold
  iterate 40
    all_goals try
      first | with_reducible assumption | with_reducible apply put_keeps | dsimp only | with_reducible apply Keeps_mk

/-- `hbSelect` keeps the queue, and the fields in order. -/
theorem hbSelect_keeps {r0 : State} (hold : Bool) (n : Nat) {s : State} (hk : Keeps r0 s) : Keeps r0 (hbSelect hold n s) :=
    by
  unfold hbSelect
  iterate 40
    all_goals try
      first | with_reducible assumption | with_reducible apply put_keeps | with_reducible apply Keeps_ite
            | with_reducible apply startHbHold_keeps | with_reducible apply endHbHold_keeps | dsimp only | split
            | with_reducible apply Keeps_mk

/-- `hbHoldExpire` keeps the queue, and the fields in order. -/
theorem hbHoldExpire_keeps {r0 : State} {s : State} (hk : Keeps r0 s) : Keeps r0 (hbHoldExpire s) := by
  unfold hbHoldExpire
  iterate 40
    all_goals try
      first | with_reducible assumption | with_reducible apply put_keeps | with_reducible apply Keeps_ite
            | with_reducible apply endHbHold_keeps

/-- `hbOver` keeps the queue, and the fields in order. -/
theorem hbOver_keeps {r0 : State} {s : State} (hk : Keeps r0 s) : Keeps r0 (hbOver s) := by
  unfold hbOver
  iterate 40
    all_goals try
      first | with_reducible assumption | with_reducible apply Keeps_ite | with_reducible apply hbHoldExpire_keeps
            | dsimp only | split | with_reducible apply Keeps_mk

/-! ### TwinOps -/

/-- `setTst` keeps the queue, and the fields in order. -/
theorem setTst_keeps {r0 : State} (k : Nat) {s : State} (hk : Keeps r0 s) : Keeps r0 (setTst k s) := by
  unfold setTst
  iterate 40
    all_goals try
      first | with_reducible assumption | with_reducible apply put_keeps

/-- `sendSet` keeps the queue, and the fields in order. -/
theorem sendSet_keeps {r0 : State} {s : State} (hk : Keeps r0 s) : Keeps r0 (sendSet s) := by
  unfold sendSet
  iterate 40
    all_goals try
      first | with_reducible assumption | dsimp only | with_reducible apply Keeps_mk

/-- `seek` keeps the queue, and the fields in order. -/
theorem seek_keeps {r0 : State} {s : State} (hk : Keeps r0 s) : Keeps r0 (seek s) := by
  unfold seek
  iterate 40
    all_goals try
      first | with_reducible assumption | with_reducible apply sendSet_keeps | with_reducible apply setTst_keeps

/-- `setDispute` keeps the queue, and the fields in order. -/
theorem setDispute_keeps {r0 : State} (n : Nat) (d : Option Dispute) {s : State} (hk : Keeps r0 s) : Keeps r0 (setDispute n
    d s) := by
  unfold setDispute
  iterate 40
    all_goals try
      first | with_reducible assumption | dsimp only | with_reducible apply Keeps_mk

/-- `setAdoption` keeps the queue, and the fields in order. -/
theorem setAdoption_keeps {r0 : State} (n : Nat) (a : Option Adoption) {s : State} (hk : Keeps r0 s) : Keeps r0 (setAdoption
    n a s) := by
  unfold setAdoption
  iterate 40
    all_goals try
      first | with_reducible assumption | dsimp only | with_reducible apply Keeps_mk

/-- `mapBit` keeps the queue, and the fields in order. -/
theorem mapBit_keeps {r0 : State} (f : Fld) (n : Nat) (b : Bool) {s : State} (hk : Keeps r0 s) : Keeps r0 (mapBit f n b s)
    := by
  unfold mapBit
  iterate 40
    all_goals try
      first | with_reducible assumption | with_reducible apply put_keeps | with_reducible apply Keeps_ite

/-- `setCstate` keeps the queue, and the fields in order. -/
theorem setCstate_keeps {r0 : State} (n : Nat) (k : Nat) {s : State} (hk : Keeps r0 s) : Keeps r0 (setCstate n k s) := by
  unfold setCstate
  iterate 40
    all_goals try
      first | with_reducible assumption | with_reducible apply put_keeps

/-- `closeDispute` keeps the queue, and the fields in order. -/
theorem closeDispute_keeps {r0 : State} (n : Nat) {s0 : State} (hk : Keeps r0 s0) : Keeps r0 (closeDispute n s0) := by
  unfold closeDispute
  iterate 40
    all_goals try
      first | with_reducible assumption | with_reducible apply put_keeps | with_reducible apply stamp_keeps
            | with_reducible apply setCstate_keeps | with_reducible apply mapBit_keeps | with_reducible apply setDispute_keeps
            | dsimp only | with_reducible apply Keeps_mk

/-- `showVerdict` keeps the queue, and the fields in order. -/
theorem showVerdict_keeps {r0 : State} (n : Nat) (v : Nat) (side : Nat) {s : State} (hk : Keeps r0 s) : Keeps r0
    (showVerdict n v side s) := by
  unfold showVerdict
  iterate 40
    all_goals try
      first | with_reducible assumption | with_reducible apply put_keeps

/-- `endAdoption` keeps the queue, and the fields in order. -/
theorem endAdoption_keeps {r0 : State} (n : Nat) {s : State} (hk : Keeps r0 s) : Keeps r0 (endAdoption n s) := by
  unfold endAdoption
  iterate 40
    all_goals try
      first | with_reducible assumption | with_reducible apply setCstate_keeps | with_reducible apply mapBit_keeps
            | with_reducible apply setAdoption_keeps

/-- `rmtVerdict` keeps the queue, and the fields in order. -/
theorem rmtVerdict_keeps {r0 : State} (n : Nat) (unres : Bool) {s : State} (hk : Keeps r0 s) : Keeps r0 (rmtVerdict n unres
    s) := by
  unfold rmtVerdict
  iterate 40
    all_goals try
      first | intro _ | with_reducible assumption | with_reducible apply lower_keeps | with_reducible apply Keeps_ite
            | with_reducible apply Keeps_foldl | with_reducible apply verdict_keeps | with_reducible apply nextWork_keeps
            | with_reducible apply skipSlot_keeps | with_reducible apply setSlot_keeps | dsimp only | split

/-- `verdictGone` keeps the queue, and the fields in order. -/
theorem verdictGone_keeps {r0 : State} (n : Nat) {s : State} (hk : Keeps r0 s) : Keeps r0 (verdictGone n s) := by
  unfold verdictGone
  iterate 40
    all_goals try
      first | with_reducible assumption | with_reducible apply Keeps_ite | with_reducible apply rmtVerdict_keeps

/-- `endDisputes` keeps the queue, and the fields in order. -/
theorem endDisputes_keeps {r0 : State} {s : State} (hk : Keeps r0 s) : Keeps r0 (endDisputes s) := by
  unfold endDisputes
  iterate 40
    all_goals try
      first | intro _ | with_reducible assumption | with_reducible apply put_keeps | with_reducible apply Keeps_ite
            | with_reducible apply Keeps_foldl | with_reducible apply showVerdict_keeps
            | with_reducible apply releaseSpare_keeps | with_reducible apply closeDispute_keeps
            | with_reducible apply endAdoption_keeps | with_reducible apply setCstate_keeps
            | with_reducible apply verdictGone_keeps | dsimp only | split | with_reducible apply Keeps_mk

/-- `forgetPrev` keeps the queue, and the fields in order. -/
theorem forgetPrev_keeps {r0 : State} {s : State} (hk : Keeps r0 s) : Keeps r0 (forgetPrev s) := by
  unfold forgetPrev
  iterate 40
    all_goals try
      first | intro _ | with_reducible assumption | with_reducible apply Keeps_foldl | with_reducible apply setOut_keeps

/-- `toSolo` keeps the queue, and the fields in order. -/
theorem toSolo_keeps {r0 : State} {s : State} (hk : Keeps r0 s) : Keeps r0 (toSolo s) := by
  unfold toSolo
  iterate 40
    all_goals try
      first | with_reducible assumption | with_reducible apply put_keeps | with_reducible apply setTst_keeps
            | with_reducible apply endDisputes_keeps | with_reducible apply registerOwn_keeps
            | with_reducible apply forceAllHeld_keeps | with_reducible apply forgetPrev_keeps | dsimp only
            | with_reducible apply Keeps_mk

/-- `tetherLost` keeps the queue, and the fields in order. -/
theorem tetherLost_keeps {r0 : State} {s : State} (hk : Keeps r0 s) : Keeps r0 (tetherLost s) := by
  unfold tetherLost
  iterate 40
    all_goals try
      first | with_reducible assumption | with_reducible apply put_keeps | with_reducible apply raise_keeps
            | with_reducible apply Keeps_ite | with_reducible apply setRole_keeps | with_reducible apply takeOver_keeps
            | with_reducible apply linkQuiet_keeps | with_reducible apply toSolo_keeps

/-- `detached` keeps the queue, and the fields in order. -/
theorem detached_keeps {r0 : State} {s : State} (hk : Keeps r0 s) : Keeps r0 (detached s) := by
  unfold detached
  iterate 40
    all_goals try
      first | with_reducible assumption | with_reducible apply put_keeps | with_reducible apply raise_keeps
            | with_reducible apply toSolo_keeps

/-- `roleChange` keeps the queue, and the fields in order. -/
theorem roleChange_keeps {r0 : State} {s : State} (hk : Keeps r0 s) : Keeps r0 (roleChange s) := by
  unfold roleChange
  iterate 40
    all_goals try
      first | with_reducible assumption | with_reducible apply put_keeps | with_reducible apply raise_keeps
            | with_reducible apply Keeps_ite | with_reducible apply setRole_keeps | dsimp only | split
            | with_reducible apply Keeps_mk

/-- `claimWitness` keeps the queue, and the fields in order. -/
theorem claimWitness_keeps {r0 : State} (n : Nat) {s : State} (hk : Keeps r0 s) : Keeps r0 (claimWitness n s) := by
  unfold claimWitness
  iterate 40
    all_goals try
      first | with_reducible assumption | with_reducible apply Keeps_ite | with_reducible apply claimSpare_keeps
            | with_reducible apply setDispute_keeps | with_reducible apply setCstate_keeps | dsimp only | split

/-- `declare` keeps the queue, and the fields in order. -/
theorem declare_keeps {r0 : State} (n : Nat) (t : Nat) (start : Nat) (branch : Option Bool) {s : State} (hk : Keeps r0 s) :
    Keeps r0 (declare n t start branch s) := by
  unfold declare
  iterate 40
    all_goals try
      first | with_reducible assumption | with_reducible apply put_keeps | with_reducible apply inc_keeps
            | with_reducible apply raise_keeps | with_reducible apply Keeps_ite | with_reducible apply mapBit_keeps
            | with_reducible apply setDispute_keeps | with_reducible apply setCstate_keeps | dsimp only | split
            | with_reducible apply Keeps_mk

/-- `retireFeeding` keeps the queue, and the fields in order. -/
theorem retireFeeding_keeps {r0 : State} (n : Nat) {s : State} (hk : Keeps r0 s) : Keeps r0 (retireFeeding n s) := by
  unfold retireFeeding
  iterate 40
    all_goals try
      first | intro _ | with_reducible assumption | with_reducible apply releaseSpare_keeps
            | with_reducible apply spliceMarks_keeps | with_reducible apply glide_keeps | with_reducible apply feedOwn_keeps
            | with_reducible apply retireSpare_keeps | with_reducible apply substitute_keeps | dsimp only | split

/-- `doubleOneEach` keeps the queue, and the fields in order. -/
theorem doubleOneEach_keeps {r0 : State} (vs : List VerdictRec) {s : State} (hk : Keeps r0 s) : Keeps r0 (doubleOneEach vs
    s) := by
  unfold doubleOneEach
  iterate 40
    all_goals try
      first | intro _ | with_reducible assumption | with_reducible apply ruleDouble_keeps

/-- `addSpan` keeps the queue, and the fields in order. -/
theorem addSpan_keeps {r0 : State} (n : Nat) (start : Nat) {s : State} (hk : Keeps r0 s) : Keeps r0 (addSpan n start s) :=
    by
  unfold addSpan
  iterate 40
    all_goals try
      first | with_reducible assumption | dsimp only | with_reducible apply Keeps_mk

/-- `noteVerdict` keeps the queue, and the fields in order. -/
theorem noteVerdict_keeps {r0 : State} (v : VerdictRec) {s : State} (hk : Keeps r0 s) : Keeps r0 (noteVerdict v s) := by
  unfold noteVerdict
  iterate 40
    all_goals try
      first | with_reducible assumption | dsimp only | with_reducible apply Keeps_mk

/-- `settle` keeps the queue, and the fields in order. -/
theorem settle_keeps {r0 : State} (n : Nat) (d : Dispute) (me : Bool) {s : State} (hk : Keeps r0 s) : Keeps r0 (settle n d
    me s) := by
  unfold settle
  iterate 40
    all_goals try
      first | intro _ | with_reducible assumption | with_reducible apply Keeps_ite | with_reducible apply Keeps_foldl
            | with_reducible apply noteVerdict_keeps | with_reducible apply doubleOneEach_keeps
            | with_reducible apply addSpan_keeps | dsimp only | split | with_reducible apply Keeps_mk

/-- `verdictMod` keeps the queue, and the fields in order. -/
theorem verdictMod_keeps {r0 : State} (n : Nat) (d : Dispute) (me : Bool) {s : State} (hk : Keeps r0 s) : Keeps r0
    (verdictMod n d me s) := by
  unfold verdictMod
  iterate 40
    all_goals try
      first | with_reducible assumption | with_reducible apply raise_keeps | with_reducible apply Keeps_ite
            | with_reducible apply showVerdict_keeps | with_reducible apply retireFeeding_keeps
            | with_reducible apply releaseSpare_keeps | with_reducible apply settle_keeps
            | with_reducible apply rmtVerdict_keeps | with_reducible apply closeDispute_keeps

/-- `verdictBranch` keeps the queue, and the fields in order. -/
theorem verdictBranch_keeps {r0 : State} (n : Nat) (d : Dispute) (me : Bool) {s : State} (hk : Keeps r0 s) : Keeps r0
    (verdictBranch n d me s) := by
  unfold verdictBranch
  iterate 40
    all_goals try
      first | with_reducible assumption | with_reducible apply raise_keeps | with_reducible apply Keeps_ite
            | with_reducible apply showVerdict_keeps | with_reducible apply settle_keeps
            | with_reducible apply rmtVerdict_keeps | with_reducible apply closeDispute_keeps
            | with_reducible apply releaseSpare_keeps | with_reducible apply setCstate_keeps
            | with_reducible apply mapBit_keeps | with_reducible apply setAdoption_keeps

/-- `verdictBoth` keeps the queue, and the fields in order. -/
theorem verdictBoth_keeps {r0 : State} (n : Nat) (d : Dispute) {s : State} (hk : Keeps r0 s) : Keeps r0 (verdictBoth n d s)
    := by
  unfold verdictBoth
  iterate 40
    all_goals try
      first | with_reducible assumption | with_reducible apply raise_keeps | with_reducible apply Keeps_ite
            | with_reducible apply closeDispute_keeps | with_reducible apply retireFeeding_keeps
            | with_reducible apply showVerdict_keeps | with_reducible apply rmtVerdict_keeps
            | with_reducible apply doubleOneEach_keeps | with_reducible apply addSpan_keeps

/-- `verdictNone` keeps the queue, and the fields in order. -/
theorem verdictNone_keeps {r0 : State} (n : Nat) (d : Dispute) {s : State} (hk : Keeps r0 s) : Keeps r0 (verdictNone n d s)
    := by
  unfold verdictNone
  iterate 40
    all_goals try
      first | with_reducible assumption | with_reducible apply put_keeps | with_reducible apply raise_keeps
            | with_reducible apply Keeps_ite | with_reducible apply showVerdict_keeps | with_reducible apply setDispute_keeps
            | with_reducible apply rmtVerdict_keeps | with_reducible apply releaseSpare_keeps
            | with_reducible apply setCstate_keeps | with_reducible apply addSpan_keeps

/-- `verdict` keeps the queue, and the fields in order. -/
theorem verdict_keeps {r0 : State} (n : Nat) (d : Dispute) {s : State} (hk : Keeps r0 s) : Keeps r0 (verdict n d s) := by
  unfold verdict
  iterate 40
    all_goals try
      first | with_reducible assumption | with_reducible apply Keeps_ite | with_reducible apply verdictBoth_keeps
            | with_reducible apply verdictMod_keeps | with_reducible apply verdictBranch_keeps
            | with_reducible apply verdictNone_keeps | dsimp only | split

/-- `correctInterval` keeps the queue, and the fields in order. -/
theorem correctInterval_keeps {r0 : State} (x : OwnItem) (p : MeterItem) {s : State} (hk : Keeps r0 s) : Keeps r0
    (correctInterval x p s) := by
  unfold correctInterval
  iterate 40
    all_goals try
      first | intro _ | with_reducible assumption | with_reducible apply Keeps_ite | with_reducible apply Keeps_foldl
            | with_reducible apply correctAcc_keeps

/-- `correctSpan` keeps the queue, and the fields in order. -/
theorem correctSpan_keeps {r0 : State} (sp : Span) {s : State} (hk : Keeps r0 s) : Keeps r0 (correctSpan sp s) := by
  unfold correctSpan
  iterate 40
    all_goals try
      first | intro _ | with_reducible assumption | with_reducible apply Keeps_ite | with_reducible apply Keeps_foldl
            | with_reducible apply correctInterval_keeps | dsimp only | split

/-- `stepTime` keeps the queue, and the fields in order. -/
theorem stepTime_keeps {r0 : State} (off : Int) {s : State} (hk : Keeps r0 s) : Keeps r0 (stepTime off s) := by
  unfold stepTime
  iterate 40
    all_goals try
      first | intro _ | with_reducible assumption | with_reducible apply Keeps_ite | with_reducible apply setSite_keeps
            | dsimp only | split | with_reducible apply Keeps_mk

/-- `jumpTo` keeps the queue, and the fields in order. -/
theorem jumpTo_keeps {r0 : State} (t : Nat) {s : State} (hk : Keeps r0 s) : Keeps r0 (jumpTo t s) := by
  unfold jumpTo
  iterate 40
    all_goals try
      first | with_reducible assumption | with_reducible apply stepTime_keeps

/-! ### Twin -/

/-- `loadHeld` keeps the queue, and the fields in order. -/
theorem loadHeld_keeps {r0 : State} {s : State} (hk : Keeps r0 s) : Keeps r0 (loadHeld s) := by
  unfold loadHeld
  iterate 40
    all_goals try
      first | with_reducible assumption | with_reducible apply loadOuts_keeps | dsimp only | with_reducible apply Keeps_mk

/-- `startMetering` keeps the queue, and the fields in order. -/
theorem startMetering_keeps {r0 : State} {s : State} (hk : Keeps r0 s) : Keeps r0 (startMetering s) := by
  unfold startMetering
  iterate 40
    all_goals try
      first | intro _ | with_reducible assumption | with_reducible apply Keeps_ite | with_reducible apply Keeps_foldl
            | with_reducible apply takeMeter_keeps | with_reducible apply loadHeld_keeps
            | with_reducible apply pulsesApply_keeps | with_reducible apply setRole_keeps | dsimp only | split
            | with_reducible apply Keeps_mk

/-- `tetherComma` keeps the queue, and the fields in order. -/
theorem tetherComma_keeps {r0 : State} {s : State} (hk : Keeps r0 s) : Keeps r0 (tetherComma s) := by
  unfold tetherComma
  iterate 40
    all_goals try
      first | with_reducible assumption | with_reducible apply Keeps_ite | with_reducible apply sendSet_keeps
            | with_reducible apply setTst_keeps | dsimp only | split | with_reducible apply Keeps_mk

/-- `trainFailed` keeps the queue, and the fields in order. -/
theorem trainFailed_keeps {r0 : State} {s : State} (hk : Keeps r0 s) : Keeps r0 (trainFailed s) := by
  unfold trainFailed
  iterate 40
    all_goals try
      first | with_reducible assumption | with_reducible apply put_keeps | with_reducible apply raise_keeps
            | with_reducible apply toSolo_keeps

/-- `tetherSet` keeps the queue, and the fields in order. -/
theorem tetherSet_keeps {r0 : State} (ts : TrainSet) {s : State} (hk : Keeps r0 s) : Keeps r0 (tetherSet ts s) := by
  unfold tetherSet
  iterate 40
    all_goals try
      first | with_reducible assumption | with_reducible apply put_keeps | with_reducible apply Keeps_ite
            | with_reducible apply trainFailed_keeps | with_reducible apply sendSet_keeps | with_reducible apply setTst_keeps
            | dsimp only | split | with_reducible apply Keeps_mk

/-- `trainTimeout` keeps the queue, and the fields in order. -/
theorem trainTimeout_keeps {r0 : State} {s : State} (hk : Keeps r0 s) : Keeps r0 (trainTimeout s) := by
  unfold trainTimeout
  iterate 40
    all_goals try
      first | with_reducible assumption | with_reducible apply Keeps_ite | with_reducible apply trainFailed_keeps
            | with_reducible apply toSolo_keeps

/-- `digestCompare` keeps the queue, and the fields in order. -/
theorem digestCompare_keeps {r0 : State} (peer : List Nat) (peerRole : Bool) {s : State} (hk : Keeps r0 s) : Keeps r0
    (digestCompare peer peerRole s) := by
  unfold digestCompare
  iterate 40
    all_goals try
      first | intro _ | with_reducible assumption | with_reducible apply put_keeps | with_reducible apply raise_keeps
            | with_reducible apply Keeps_ite | with_reducible apply Keeps_foldl | with_reducible apply setTst_keeps
            | with_reducible apply toSolo_keeps | dsimp only | split | with_reducible apply Keeps_mk

/-- `followLead` keeps the queue, and the fields in order. -/
theorem followLead_keeps {r0 : State} (site : Nat) {s : State} (hk : Keeps r0 s) : Keeps r0 (followLead site s) := by
  unfold followLead
  iterate 40
    all_goals try
      first | with_reducible assumption | with_reducible apply Keeps_ite | with_reducible apply steer_keeps
            | with_reducible apply jumpTo_keeps

/-- `tetherMark` keeps the queue, and the fields in order. -/
theorem tetherMark_keeps {r0 : State} (phase : Int) (site : Nat) {s : State} (hk : Keeps r0 s) : Keeps r0 (tetherMark phase
    site s) := by
  unfold tetherMark
  iterate 40
    all_goals try
      first | with_reducible assumption | with_reducible apply put_keeps | with_reducible apply setBit_keeps
            | with_reducible apply putI_keeps | with_reducible apply Keeps_ite | with_reducible apply followLead_keeps
            | with_reducible apply setTst_keeps | dsimp only | split | with_reducible apply Keeps_mk

/-- `enterPaired` keeps the queue, and the fields in order. -/
theorem enterPaired_keeps {r0 : State} {s : State} (hk : Keeps r0 s) : Keeps r0 (enterPaired s) := by
  unfold enterPaired
  iterate 40
    all_goals try
      first | with_reducible assumption | with_reducible apply put_keeps | with_reducible apply raise_keeps
            | with_reducible apply Keeps_ite | with_reducible apply setTst_keeps | with_reducible apply setRole_keeps
            | dsimp only | split | with_reducible apply Keeps_mk

/-- `takeTwinSlot` keeps the queue, and the fields in order. -/
theorem takeTwinSlot_keeps {r0 : State} (time : Nat) (vals : List (Nat × Nat)) {s : State} (hk : Keeps r0 s) : Keeps r0
    (takeTwinSlot time vals s) := by
  unfold takeTwinSlot
  iterate 40
    all_goals try
      first | intro _ | with_reducible assumption | with_reducible apply put_keeps | with_reducible apply Keeps_foldl
            | with_reducible apply loadAcc_keeps | dsimp only | split | with_reducible apply Keeps_mk

/-- `takeRunning` keeps the queue, and the fields in order. -/
theorem takeRunning_keeps {r0 : State} (time : Nat) (accs : List (Nat × Nat × Nat)) (pulse : List (Int × Nat)) {s : State}
    (hk : Keeps r0 s) : Keeps r0 (takeRunning time accs pulse s) := by
  unfold takeRunning
  iterate 40
    all_goals try
      first | intro _ | with_reducible assumption | with_reducible apply Keeps_foldl | with_reducible apply loadOuts_keeps
            | with_reducible apply startMetering_keeps | dsimp only | split | with_reducible apply Keeps_mk

/-- `leadPulse` keeps the queue, and the fields in order. -/
theorem leadPulse_keeps {r0 : State} (pulse : List (Int × Nat)) {s : State} (hk : Keeps r0 s) : Keeps r0 (leadPulse pulse s)
    := by
  unfold leadPulse
  iterate 40
    all_goals try
      first | with_reducible assumption | with_reducible apply Keeps_ite | with_reducible apply loadOuts_keeps | dsimp only
            | split | with_reducible apply Keeps_mk

/-- `sendTransfer` keeps the queue, and the fields in order. -/
theorem sendTransfer_keeps {r0 : State} {s : State} (hk : Keeps r0 s) : Keeps r0 (sendTransfer s) := by
  unfold sendTransfer
  iterate 40
    all_goals try
      first | with_reducible assumption | with_reducible apply tetherSend_keeps

/-- `offerTransfer` keeps the queue, and the fields in order. -/
theorem offerTransfer_keeps {r0 : State} {s : State} (hk : Keeps r0 s) : Keeps r0 (offerTransfer s) := by
  unfold offerTransfer
  iterate 40
    all_goals try
      first | with_reducible assumption | with_reducible apply Keeps_ite | with_reducible apply sendTransfer_keeps

/-- `answerTransfer` keeps the queue, and the fields in order. -/
theorem answerTransfer_keeps {r0 : State} {s : State} (hk : Keeps r0 s) : Keeps r0 (answerTransfer s) := by
  unfold answerTransfer
  iterate 40
    all_goals try
      first | with_reducible assumption | with_reducible apply Keeps_ite | with_reducible apply sendTransfer_keeps

/-- `stateTransfer` keeps the queue, and the fields in order. -/
theorem stateTransfer_keeps {r0 : State} (x : Transfer) {s0 : State} (hk : Keeps r0 s0) : Keeps r0 (stateTransfer x s0) :=
    by
  unfold stateTransfer
  iterate 40
    all_goals try
      first | with_reducible assumption | with_reducible apply Keeps_ite | with_reducible apply answerTransfer_keeps
            | with_reducible apply takeWhole_keeps | with_reducible apply enterPaired_keeps
            | with_reducible apply leadPulse_keeps | with_reducible apply takeTwinSlot_keeps
            | with_reducible apply takeRunning_keeps | dsimp only | split

/-- `attachWaitExpire` keeps the queue, and the fields in order. -/
theorem attachWaitExpire_keeps {r0 : State} {s : State} (hk : Keeps r0 s) : Keeps r0 (attachWaitExpire s) := by
  unfold attachWaitExpire
  iterate 40
    all_goals try
      first | with_reducible assumption | with_reducible apply Keeps_ite | with_reducible apply trainFailed_keeps
            | with_reducible apply toSolo_keeps | dsimp only | split | with_reducible apply Keeps_mk

/-- `sentTimeout` keeps the queue, and the fields in order. -/
theorem sentTimeout_keeps {r0 : State} (type : Nat) (mseq : Nat) {s : State} (hk : Keeps r0 s) : Keeps r0 (sentTimeout type
    mseq s) := by
  unfold sentTimeout
  iterate 40
    all_goals try
      first | intro _ | with_reducible assumption | with_reducible apply Keeps_ite | with_reducible apply tetherLost_keeps
            | with_reducible apply sendSegments_keeps | dsimp only | split | with_reducible apply Keeps_mk

/-- `recvTimeout` keeps the queue, and the fields in order. -/
theorem recvTimeout_keeps {r0 : State} (type : Nat) (mseq : Nat) {s : State} (hk : Keeps r0 s) : Keeps r0 (recvTimeout type
    mseq s) := by
  unfold recvTimeout
  iterate 40
    all_goals try
      first | intro _ | with_reducible assumption | with_reducible apply Keeps_ite | with_reducible apply tetherLost_keeps
            | dsimp only | split | with_reducible apply Keeps_mk

/-- `messageTimeout` keeps the queue, and the fields in order. -/
theorem messageTimeout_keeps {r0 : State} (sent : Bool) (type : Nat) (mseq : Nat) {s : State} (hk : Keeps r0 s) : Keeps r0
    (messageTimeout sent type mseq s) := by
  unfold messageTimeout
  iterate 40
    all_goals try
      first | with_reducible assumption | with_reducible apply Keeps_ite | with_reducible apply sentTimeout_keeps
            | with_reducible apply recvTimeout_keeps

/-- `peerCommit` keeps the queue, and the fields in order. -/
theorem peerCommit_keeps {r0 : State} (sel : List Nat) (pass : List Nat) (t : Nat) {s0 : State} (hk : Keeps r0 s0) : Keeps
    r0 (peerCommit sel pass t s0) := by
  unfold peerCommit
  iterate 40
    all_goals try
      first | with_reducible assumption | with_reducible apply Keeps_ite | with_reducible apply touchSets_keeps
            | with_reducible apply sendMsg_keeps | with_reducible apply commitConflict_keeps
            | with_reducible apply beginCommit_keeps | dsimp only | split | with_reducible apply Keeps_mk

/-- `commitAnswer` keeps the queue, and the fields in order. -/
theorem commitAnswer_keeps {r0 : State} (ok : Bool) {s : State} (hk : Keeps r0 s) : Keeps r0 (commitAnswer ok s) := by
  unfold commitAnswer
  iterate 40
    all_goals try
      first | with_reducible assumption | with_reducible apply Keeps_ite | with_reducible apply commitConflict_keeps
            | with_reducible apply beginCommit_keeps | dsimp only | split

/-- `controlReceive` keeps the queue, and the fields in order. -/
theorem controlReceive_keeps {r0 : State} (m : TwnMsg) {s0 : State} (hk : Keeps r0 s0) : Keeps r0 (controlReceive m s0) :=
    by
  unfold controlReceive
  iterate 40
    all_goals try
      first | with_reducible assumption | with_reducible apply put_keeps | with_reducible apply Keeps_ite
            | with_reducible apply takeWhole_keeps | with_reducible apply peerCommit_keeps
            | with_reducible apply commitAnswer_keeps | dsimp only | split | with_reducible apply Keeps_mk

/-- `twnSwap` keeps the queue, and the fields in order. -/
theorem twnSwap_keeps {r0 : State} {s : State} (hk : Keeps r0 s) : Keeps r0 (twnSwap s) := by
  unfold twnSwap
  iterate 40
    all_goals try
      first | with_reducible assumption | with_reducible apply put_keeps | with_reducible apply Keeps_ite
            | with_reducible apply sendMsg_keeps | dsimp only | split | with_reducible apply Keeps_mk

/-- `twnDetach` keeps the queue, and the fields in order. -/
theorem twnDetach_keeps {r0 : State} {s : State} (hk : Keeps r0 s) : Keeps r0 (twnDetach s) := by
  unfold twnDetach
  iterate 40
    all_goals try
      first | with_reducible assumption | with_reducible apply put_keeps | with_reducible apply Keeps_ite
            | with_reducible apply sendMsg_keeps | dsimp only | split | with_reducible apply Keeps_mk

/-- `twnAttach` keeps the queue, and the fields in order. -/
theorem twnAttach_keeps {r0 : State} {s : State} (hk : Keeps r0 s) : Keeps r0 (twnAttach s) := by
  unfold twnAttach
  iterate 40
    all_goals try
      first | with_reducible assumption | with_reducible apply put_keeps | with_reducible apply Keeps_ite
            | with_reducible apply seek_keeps | dsimp only | split | with_reducible apply Keeps_mk

/-- `twnTake` keeps the queue, and the fields in order. -/
theorem twnTake_keeps {r0 : State} {s : State} (hk : Keeps r0 s) : Keeps r0 (twnTake s) := by
  unfold twnTake
  iterate 40
    all_goals try
      first | with_reducible assumption | with_reducible apply put_keeps | with_reducible apply Keeps_ite
            | with_reducible apply setRole_keeps

/-- `witnessCycle` keeps the queue, and the fields in order. -/
theorem witnessCycle_keeps {r0 : State} (x : CycleMeas) {s : State} (hk : Keeps r0 s) : Keeps r0 (witnessCycle x s) := by
  unfold witnessCycle
  iterate 40
    all_goals try
      first | intro _ | with_reducible assumption | with_reducible apply Keeps_ite | with_reducible apply setDispute_keeps
            | dsimp only | split

/-- `sendRecord` keeps the queue, and the fields in order. -/
theorem sendRecord_keeps {r0 : State} (t : Nat) (runs : List ChanRun) {s : State} (hk : Keeps r0 s) : Keeps r0 (sendRecord t
    runs s) := by
  unfold sendRecord
  iterate 40
    all_goals try
      first | intro _ | with_reducible assumption | with_reducible apply Keeps_foldl | with_reducible apply witnessCycle_keeps
            | with_reducible apply sendMsg_keeps | with_reducible apply tetherSend_keeps | dsimp only | split
            | with_reducible apply Keeps_mk

/-- `homingCheck` keeps the queue, and the fields in order. -/
theorem homingCheck_keeps {r0 : State} {s : State} (hk : Keeps r0 s) : Keeps r0 (homingCheck s) := by
  unfold homingCheck
  iterate 40
    all_goals try
      first | with_reducible assumption | with_reducible apply Keeps_ite | with_reducible apply sendMsg_keeps | dsimp only
            | split | with_reducible apply Keeps_mk

/-- `detachStep` keeps the queue, and the fields in order. -/
theorem detachStep_keeps {r0 : State} {s : State} (hk : Keeps r0 s) : Keeps r0 (detachStep s) := by
  unfold detachStep
  iterate 40
    all_goals try
      first | with_reducible assumption | with_reducible apply Keeps_ite | with_reducible apply roleChange_keeps
            | with_reducible apply detached_keeps

/-- `exchangeInstant` keeps the queue, and the fields in order. -/
theorem exchangeInstant_keeps {r0 : State} (t : Nat) (runs : List ChanRun) {s : State} (hk : Keeps r0 s) : Keeps r0
    (exchangeInstant t runs s) := by
  unfold exchangeInstant
  iterate 40
    all_goals try
      first | with_reducible assumption | with_reducible apply Keeps_ite | with_reducible apply reachTime_keeps
            | with_reducible apply startMetering_keeps | with_reducible apply offerTransfer_keeps
            | with_reducible apply recordOuts_keeps | with_reducible apply detachStep_keeps
            | with_reducible apply homingCheck_keeps | with_reducible apply sendRecord_keeps

/-- `recordReceive` keeps the queue, and the fields in order. -/
theorem recordReceive_keeps {r0 : State} (r : CmpRec) {s : State} (hk : Keeps r0 s) : Keeps r0 (recordReceive r s) := by
  unfold recordReceive
  iterate 40
    all_goals try
      first | intro _ | with_reducible assumption | with_reducible apply put_keeps | with_reducible apply setBit_keeps
            | with_reducible apply Keeps_ite | with_reducible apply takeWhole_keeps | with_reducible apply registerWaits_keeps
            | with_reducible apply adoptOuts_keeps | dsimp only | split | with_reducible apply Keeps_mk

/-- `showCompare` keeps the queue, and the fields in order. -/
theorem showCompare_keeps {r0 : State} (n : Nat) (k : Nat) {s : State} (hk : Keeps r0 s) : Keeps r0 (showCompare n k s) :=
    by
  unfold showCompare
  iterate 40
    all_goals try
      first | with_reducible assumption | with_reducible apply Keeps_ite | with_reducible apply setCstate_keeps

/-- `pairPasses` keeps the queue, and the fields in order. -/
theorem pairPasses_keeps {r0 : State} (n : Nat) {s : State} (hk : Keeps r0 s) : Keeps r0 (pairPasses n s) := by
  unfold pairPasses
  iterate 40
    all_goals try
      first | with_reducible assumption | with_reducible apply put_keeps | with_reducible apply Keeps_ite
            | with_reducible apply showCompare_keeps | with_reducible apply showVerdict_keeps
            | with_reducible apply releaseSpare_keeps | with_reducible apply closeDispute_keeps
            | with_reducible apply setDispute_keeps | dsimp only | split | with_reducible apply Keeps_mk

/-- `pairFails` keeps the queue, and the fields in order. -/
theorem pairFails_keeps {r0 : State} (n : Nat) (t : Nat) (before : Nat) {s : State} (hk : Keeps r0 s) : Keeps r0 (pairFails
    n t before s) := by
  unfold pairFails
  iterate 40
    all_goals try
      first | with_reducible assumption | with_reducible apply addSat_keeps | with_reducible apply Keeps_ite
            | with_reducible apply showCompare_keeps | with_reducible apply setDispute_keeps
            | with_reducible apply claimWitness_keeps | with_reducible apply declare_keeps | dsimp only | split
            | with_reducible apply Keeps_mk

/-- `adoptPair` keeps the queue, and the fields in order. -/
theorem adoptPair_keeps {r0 : State} (n : Nat) (ok : Bool) {s : State} (hk : Keeps r0 s) : Keeps r0 (adoptPair n ok s) := by
  unfold adoptPair
  iterate 40
    all_goals try
      first | with_reducible assumption | with_reducible apply Keeps_ite | with_reducible apply setAdoption_keeps
            | with_reducible apply endAdoption_keeps | dsimp only | split

/-- `oneSided` keeps the queue, and the fields in order. -/
theorem oneSided_keeps {r0 : State} (n : Nat) (t : Nat) (before : Nat) (me : Bool) {s : State} (hk : Keeps r0 s) : Keeps r0
    (oneSided n t before me s) := by
  unfold oneSided
  iterate 40
    all_goals try
      first | with_reducible assumption | with_reducible apply Keeps_ite | with_reducible apply declare_keeps
            | with_reducible apply verdict_keeps | with_reducible apply setDispute_keeps | dsimp only | split

/-- `evalPair` keeps the queue, and the fields in order. -/
theorem evalPair_keeps {r0 : State} (t : Nat) (x : OwnChan) (y : ChanItem) {s : State} (hk : Keeps r0 s) : Keeps r0
    (evalPair t x y s) := by
  unfold evalPair
  iterate 40
    all_goals try
      first | with_reducible assumption | with_reducible apply Keeps_ite | with_reducible apply addCov_keeps
            | with_reducible apply adoptPair_keeps | with_reducible apply oneSided_keeps
            | with_reducible apply showCompare_keeps | with_reducible apply pairFails_keeps
            | with_reducible apply pairPasses_keeps

/-- `arbitration` keeps the queue, and the fields in order. -/
theorem arbitration_keeps {r0 : State} (t : Nat) (n : Nat) {s : State} (hk : Keeps r0 s) : Keeps r0 (arbitration t n s) :=
    by
  unfold arbitration
  iterate 40
    all_goals try
      first | intro _ | with_reducible assumption | with_reducible apply Keeps_ite | with_reducible apply verdict_keeps
            | dsimp only | split

/-- `uncover` keeps the queue, and the fields in order. -/
theorem uncover_keeps {r0 : State} (x : OwnChan) {s : State} (hk : Keeps r0 s) : Keeps r0 (uncover x s) := by
  unfold uncover
  iterate 40
    all_goals try
      first | with_reducible assumption | with_reducible apply addCov_keeps

/-- `evalItem` keeps the queue, and the fields in order. -/
theorem evalItem_keeps {r0 : State} (t : Nat) (x : OwnChan) {s : State} (hk : Keeps r0 s) : Keeps r0 (evalItem t x s) := by
  unfold evalItem
  iterate 40
    all_goals try
      first | with_reducible assumption | with_reducible apply Keeps_ite | with_reducible apply evalPair_keeps
            | with_reducible apply uncover_keeps | dsimp only | split | with_reducible apply Keeps_mk

/-- `evaluate` keeps the queue, and the fields in order. -/
theorem evaluate_keeps {r0 : State} (t : Nat) {s : State} (hk : Keeps r0 s) : Keeps r0 (evaluate t s) := by
  unfold evaluate
  iterate 40
    all_goals try
      first | intro _ | with_reducible assumption | with_reducible apply inc_keeps | with_reducible apply Keeps_ite
            | with_reducible apply Keeps_foldl | with_reducible apply reachTime_keeps | with_reducible apply uncover_keeps
            | with_reducible apply evalItem_keeps | with_reducible apply claimWitness_keeps
            | with_reducible apply declare_keeps | with_reducible apply arbitration_keeps | dsimp only | split
            | with_reducible apply Keeps_mk

/-- `witnessConnected` keeps the queue, and the fields in order. -/
theorem witnessConnected_keeps {r0 : State} (n : Nat) {s : State} (hk : Keeps r0 s) : Keeps r0 (witnessConnected n s) := by
  unfold witnessConnected
  iterate 40
    all_goals try
      first | with_reducible assumption | with_reducible apply Keeps_ite | with_reducible apply setDispute_keeps
            | with_reducible apply setCstate_keeps | dsimp only | split

/-- `applySpans` keeps the queue, and the fields in order. -/
theorem applySpans_keeps {r0 : State} (n : Nat) {s : State} (hk : Keeps r0 s) : Keeps r0 (applySpans n s) := by
  unfold applySpans
  iterate 40
    all_goals try
      first | intro _ | with_reducible assumption | with_reducible apply Keeps_foldl | with_reducible apply correctSpan_keeps
            | dsimp only | split | with_reducible apply Keeps_mk

/-- `adoptedSamples` keeps the queue, and the fields in order. -/
theorem adoptedSamples_keeps {r0 : State} (m : Nat) (n : Nat) (run : ChanRun) {s0 : State} (hk : Keeps r0 s0) : Keeps r0
    (adoptedSamples m n run s0) := by
  unfold adoptedSamples
  iterate 40
    all_goals try
      first | with_reducible assumption | with_reducible apply Keeps_ite | with_reducible apply takeWhole_keeps
            | with_reducible apply computeHeld_keeps | dsimp only | split | with_reducible apply Keeps_mk

/-- `rearbitrate` keeps the queue, and the fields in order. -/
theorem rearbitrate_keeps {r0 : State} (n : Nat) {s : State} (hk : Keeps r0 s) : Keeps r0 (rearbitrate n s) := by
  unfold rearbitrate
  iterate 40
    all_goals try
      first | with_reducible assumption | with_reducible apply Keeps_ite | with_reducible apply claimWitness_keeps
            | with_reducible apply setDispute_keeps | dsimp only | split

/-- `digestTimeout` keeps the queue, and the fields in order. -/
theorem digestTimeout_keeps {r0 : State} {s : State} (hk : Keeps r0 s) : Keeps r0 (digestTimeout s) := by
  unfold digestTimeout
  iterate 40
    all_goals try
      first | with_reducible assumption | with_reducible apply put_keeps | with_reducible apply raise_keeps
            | with_reducible apply Keeps_ite

end Sys2Proof.Machine
end

