-- ==== Sys2Proof/Laws/Keeps3.lean ====
section
/-! SUPPORT. The operations of CaravanOps, Caravan, Clocks, Strongbox, WaylineOps, Wayline, Ledger, Sar keep the queue of
waiting commands and the order of the stored fields. -/

namespace Sys2Proof.Machine

set_option maxRecDepth 4000

/-! ### CaravanOps -/

/-- `portSend` keeps the queue, and the fields in order. -/
theorem portSend_keeps {r0 : State} (p : Nat) (f : OutFrame) {s : State} (hk : Keeps r0 s) : Keeps r0 (portSend p f s) := by
  unfold portSend
  iterate 40
    all_goals try
      first | with_reducible assumption | with_reducible apply Keeps_ite | with_reducible apply linkSend_keeps

/-- `sendWhere` keeps the queue, and the fields in order. -/
theorem sendWhere_keeps {r0 : State} (go : State → Nat → Bool) (but : Nat) (f : OutFrame) {s : State} (hk : Keeps r0 s) :
    Keeps r0 (sendWhere go but f s) := by
  unfold sendWhere
  iterate 40
    all_goals try
      first | intro _ | with_reducible assumption | with_reducible apply Keeps_ite | with_reducible apply Keeps_foldl
            | with_reducible apply portSend_keeps

/-- `sendOthers` keeps the queue, and the fields in order. -/
theorem sendOthers_keeps {r0 : State} (but : Nat) (f : OutFrame) {s : State} (hk : Keeps r0 s) : Keeps r0 (sendOthers but f
    s) := by
  unfold sendOthers
  iterate 40
    all_goals try
      first | with_reducible assumption | with_reducible apply sendWhere_keeps

/-- `sendUp` keeps the queue, and the fields in order. -/
theorem sendUp_keeps {r0 : State} (but : Nat) (f : OutFrame) {s : State} (hk : Keeps r0 s) : Keeps r0 (sendUp but f s) := by
  unfold sendUp
  iterate 40
    all_goals try
      first | with_reducible assumption | with_reducible apply sendWhere_keeps

/-- `sendHead` keeps the queue, and the fields in order. -/
theorem sendHead_keeps {r0 : State} (b : LinkBody) {s : State} (hk : Keeps r0 s) : Keeps r0 (sendHead b s) := by
  unfold sendHead
  iterate 40
    all_goals try
      first | with_reducible assumption | with_reducible apply countFrame_keeps | with_reducible apply portSend_keeps

/-- `cutOff` keeps the queue, and the fields in order. -/
theorem cutOff_keeps {r0 : State} {s : State} (hk : Keeps r0 s) : Keeps r0 (cutOff s) := by
  unfold cutOff
  iterate 40
    all_goals try
      first | with_reducible assumption | with_reducible apply put_keeps | with_reducible apply Keeps_ite | dsimp only | split
            | with_reducible apply Keeps_mk

/-- `reroute` keeps the queue, and the fields in order. -/
theorem reroute_keeps {r0 : State} {s : State} (hk : Keeps r0 s) : Keeps r0 (reroute s) := by
  unfold reroute
  iterate 40
    all_goals try
      first | intro _ | with_reducible assumption | with_reducible apply put_keeps | with_reducible apply Keeps_ite
            | with_reducible apply cutOff_keeps | dsimp only | split | with_reducible apply Keeps_mk

/-- `setRing` keeps the queue, and the fields in order. -/
theorem setRing_keeps {r0 : State} (r : Nat) {s : State} (hk : Keeps r0 s) : Keeps r0 (setRing r s) := by
  unfold setRing
  iterate 40
    all_goals try
      first | with_reducible assumption | with_reducible apply put_keeps | with_reducible apply raise_keeps
            | with_reducible apply Keeps_ite

/-- `closureIn` keeps the queue, and the fields in order. -/
theorem closureIn_keeps {r0 : State} {s : State} (hk : Keeps r0 s) : Keeps r0 (closureIn s) := by
  unfold closureIn
  iterate 40
    all_goals try
      first | with_reducible assumption | with_reducible apply put_keeps | with_reducible apply Keeps_ite

/-- `closureOut` keeps the queue, and the fields in order. -/
theorem closureOut_keeps {r0 : State} {s : State} (hk : Keeps r0 s) : Keeps r0 (closureOut s) := by
  unfold closureOut
  iterate 40
    all_goals try
      first | with_reducible assumption | with_reducible apply put_keeps | with_reducible apply Keeps_ite

/-- `ringBroken` keeps the queue, and the fields in order. -/
theorem ringBroken_keeps {r0 : State} (a : Nat) (b : Nat) {s : State} (hk : Keeps r0 s) : Keeps r0 (ringBroken a b s) := by
  unfold ringBroken
  iterate 40
    all_goals try
      first | with_reducible assumption | with_reducible apply Keeps_ite | with_reducible apply reroute_keeps
            | with_reducible apply setRing_keeps | with_reducible apply closureIn_keeps | dsimp only | split
            | with_reducible apply Keeps_mk

/-- `sendBreak` keeps the queue, and the fields in order. -/
theorem sendBreak_keeps {r0 : State} (p : Nat) (a : Nat) (b : Nat) {s : State} (hk : Keeps r0 s) : Keeps r0 (sendBreak p a b
    s) := by
  unfold sendBreak
  iterate 40
    all_goals try
      first | with_reducible assumption | with_reducible apply countFrame_keeps | with_reducible apply sendUp_keeps

/-- `linkOut` keeps the queue, and the fields in order. -/
theorem linkOut_keeps {r0 : State} (p : Nat) {s : State} (hk : Keeps r0 s) : Keeps r0 (linkOut p s) := by
  unfold linkOut
  iterate 40
    all_goals try
      first | with_reducible assumption | with_reducible apply put_keeps | with_reducible apply raise_keeps
            | with_reducible apply Keeps_ite | with_reducible apply linkQuiet_keeps | with_reducible apply ringBroken_keeps
            | with_reducible apply sendBreak_keeps

/-- `syncLost` keeps the queue, and the fields in order. -/
theorem syncLost_keeps {r0 : State} {s : State} (hk : Keeps r0 s) : Keeps r0 (syncLost s) := by
  unfold syncLost
  iterate 40
    all_goals try
      first | with_reducible assumption | with_reducible apply put_keeps | with_reducible apply raise_keeps
            | with_reducible apply Keeps_ite

/-- `enterLocked` keeps the queue, and the fields in order. -/
theorem enterLocked_keeps {r0 : State} {s : State} (hk : Keeps r0 s) : Keeps r0 (enterLocked s) := by
  unfold enterLocked
  iterate 40
    all_goals try
      first | with_reducible assumption | with_reducible apply put_keeps | dsimp only | with_reducible apply Keeps_mk

/-- `headLocks` keeps the queue, and the fields in order. -/
theorem headLocks_keeps {r0 : State} {s : State} (hk : Keeps r0 s) : Keeps r0 (headLocks s) := by
  unfold headLocks
  iterate 40
    all_goals try
      first | with_reducible assumption | with_reducible apply Keeps_ite | with_reducible apply enterLocked_keeps

/-- `leaveRing` keeps the queue, and the fields in order. -/
theorem leaveRing_keeps {r0 : State} {s : State} (hk : Keeps r0 s) : Keeps r0 (leaveRing s) := by
  unfold leaveRing
  iterate 40
    all_goals try
      first | with_reducible assumption | with_reducible apply put_keeps | with_reducible apply syncLost_keeps | dsimp only
            | with_reducible apply Keeps_mk

/-- `cvnTrain` keeps the queue, and the fields in order. -/
theorem cvnTrain_keeps {r0 : State} {s : State} (hk : Keeps r0 s) : Keeps r0 (cvnTrain s) := by
  unfold cvnTrain
  iterate 40
    all_goals try
      first | intro _ | with_reducible assumption | with_reducible apply put_keeps | with_reducible apply Keeps_ite
            | with_reducible apply Keeps_foldl | with_reducible apply leaveRing_keeps

/-- `cvnStart` keeps the queue, and the fields in order. -/
theorem cvnStart_keeps {r0 : State} {s : State} (hk : Keeps r0 s) : Keeps r0 (cvnStart s) := by
  unfold cvnStart
  iterate 40
    all_goals try
      first | with_reducible assumption | with_reducible apply cvnTrain_keeps | dsimp only | with_reducible apply Keeps_mk

/-- `cvnStop` keeps the queue, and the fields in order. -/
theorem cvnStop_keeps {r0 : State} {s : State} (hk : Keeps r0 s) : Keeps r0 (cvnStop s) := by
  unfold cvnStop
  iterate 40
    all_goals try
      first | intro _ | with_reducible assumption | with_reducible apply put_keeps | with_reducible apply Keeps_foldl
            | with_reducible apply leaveRing_keeps

/-- `sendSubs` keeps the queue, and the fields in order. -/
theorem sendSubs_keeps {r0 : State} {s : State} (hk : Keeps r0 s) : Keeps r0 (sendSubs s) := by
  unfold sendSubs
  iterate 40
    all_goals try
      first | intro _ | with_reducible assumption | with_reducible apply Keeps_foldl | with_reducible apply countFrame_keeps
            | with_reducible apply portSend_keeps

/-- `renewSubs` keeps the queue, and the fields in order. -/
theorem renewSubs_keeps {r0 : State} {s : State} (hk : Keeps r0 s) : Keeps r0 (renewSubs s) := by
  unfold renewSubs
  iterate 40
    all_goals try
      first | with_reducible assumption | with_reducible apply Keeps_ite | with_reducible apply sendSubs_keeps

/-- `setSiteSync` keeps the queue, and the fields in order. -/
theorem setSiteSync_keeps {r0 : State} (b : Bool) {s : State} (hk : Keeps r0 s) : Keeps r0 (setSiteSync b s) := by
  unfold setSiteSync
  iterate 40
    all_goals try
      first | with_reducible assumption | with_reducible apply put_keeps | with_reducible apply setBit_keeps
            | with_reducible apply raise_keeps | with_reducible apply Keeps_ite

/-- `correctSite` keeps the queue, and the fields in order. -/
theorem correctSite_keeps {r0 : State} (off : Int) {s : State} (hk : Keeps r0 s) : Keeps r0 (correctSite off s) := by
  unfold correctSite
  iterate 40
    all_goals try
      first | with_reducible assumption | with_reducible apply put_keeps | with_reducible apply Keeps_ite
            | with_reducible apply steer_keeps | dsimp only | split | with_reducible apply Keeps_mk

/-! ### Caravan -/

/-- `commaLock` keeps the queue, and the fields in order. -/
theorem commaLock_keeps {r0 : State} (p : Nat) {s : State} (hk : Keeps r0 s) : Keeps r0 (commaLock p s) := by
  unfold commaLock
  iterate 40
    all_goals try
      first | with_reducible assumption | with_reducible apply Keeps_ite | with_reducible apply tetherComma_keeps | dsimp only
            | split | with_reducible apply Keeps_mk

/-- `portTrained` keeps the queue, and the fields in order. -/
theorem portTrained_keeps {r0 : State} (p : Nat) (pos : Nat) (ringTime : Bool) {s : State} (hk : Keeps r0 s) : Keeps r0
    (portTrained p pos ringTime s) := by
  unfold portTrained
  iterate 40
    all_goals try
      first | with_reducible assumption | with_reducible apply put_keeps | with_reducible apply Keeps_ite | dsimp only | split
            | with_reducible apply Keeps_mk

/-- `portSet` keeps the queue, and the fields in order. -/
theorem portSet_keeps {r0 : State} (p : Nat) (carid : Nat) (pos : Nat) (ringTime : Bool) (good : Bool) (acked : Bool) {s :
    State} (hk : Keeps r0 s) : Keeps r0 (portSet p carid pos ringTime good acked s) := by
  unfold portSet
  iterate 40
    all_goals try
      first | with_reducible assumption | with_reducible apply Keeps_ite | with_reducible apply linkOut_keeps
            | with_reducible apply portTrained_keeps | dsimp only | split | with_reducible apply Keeps_mk

/-- `trainingSet` keeps the queue, and the fields in order. -/
theorem trainingSet_keeps {r0 : State} (x : TrainRecv) {s : State} (hk : Keeps r0 s) : Keeps r0 (trainingSet x s) := by
  unfold trainingSet
  iterate 40
    all_goals try
      first | with_reducible assumption | with_reducible apply tetherSet_keeps | with_reducible apply portSet_keeps
            | dsimp only | split

/-- `takeSamples` keeps the queue, and the fields in order. -/
theorem takeSamples_keeps {r0 : State} (src : Nat) (b : SampleBlock) {s : State} (hk : Keeps r0 s) : Keeps r0 (takeSamples
    src b s) := by
  unfold takeSamples
  iterate 40
    all_goals try
      first | intro _ | with_reducible assumption | with_reducible apply Keeps_foldl | dsimp only | split
            | with_reducible apply Keeps_mk

/-- `noteBlock` keeps the queue, and the fields in order. -/
theorem noteBlock_keeps {r0 : State} (src : Nat) (b : SampleBlock) {s : State} (hk : Keeps r0 s) : Keeps r0 (noteBlock src s
    b) := by
  unfold noteBlock
  iterate 40
    all_goals try
      first | with_reducible assumption | with_reducible apply takeSamples_keeps | dsimp only | with_reducible apply Keeps_mk

/-- `relay` keeps the queue, and the fields in order. -/
theorem relay_keeps {r0 : State} (f : LinkFrame) {s : State} (hk : Keeps r0 s) : Keeps r0 (relay f s) := by
  unfold relay
  iterate 40
    all_goals try
      first | with_reducible assumption | with_reducible apply Keeps_ite | with_reducible apply linkSend_keeps

/-- `trackFrame` keeps the queue, and the fields in order. -/
theorem trackFrame_keeps {r0 : State} (f : LinkFrame) {s : State} (hk : Keeps r0 s) : Keeps r0 (trackFrame f s) := by
  unfold trackFrame
  iterate 40
    all_goals try
      first | intro _ | with_reducible assumption | with_reducible apply Keeps_ite | with_reducible apply countFrame_keeps
            | with_reducible apply portSend_keeps | dsimp only | split | with_reducible apply Keeps_mk

/-- `resend` keeps the queue, and the fields in order. -/
theorem resend_keeps {r0 : State} (k : KeptFrame) {s : State} (hk : Keeps r0 s) : Keeps r0 (resend k s) := by
  unfold resend
  iterate 40
    all_goals try
      first | with_reducible assumption | with_reducible apply portSend_keeps

/-- `setReach` keeps the queue, and the fields in order. -/
theorem setReach_keeps {r0 : State} (p : Nat) (ps : List Nat) {s : State} (hk : Keeps r0 s) : Keeps r0 (setReach p ps s) :=
    by
  unfold setReach
  iterate 40
    all_goals try
      first | with_reducible assumption | dsimp only | with_reducible apply Keeps_mk

/-- `consume` keeps the queue, and the fields in order. -/
theorem consume_keeps {r0 : State} (p : Nat) (f : LinkFrame) {s : State} (hk : Keeps r0 s) : Keeps r0 (consume p f s) := by
  unfold consume
  iterate 40
    all_goals try
      first | intro _ | with_reducible assumption | with_reducible apply Keeps_ite | with_reducible apply Keeps_foldl
            | with_reducible apply idle_keeps | with_reducible apply capture_keeps | with_reducible apply setRing_keeps
            | with_reducible apply setReach_keeps | with_reducible apply closureOut_keeps
            | with_reducible apply ringBroken_keeps | with_reducible apply resend_keeps | with_reducible apply relay_keeps
            | with_reducible apply noteBlock_keeps | with_reducible apply trackFrame_keeps | with_reducible apply addCov_keeps
            | dsimp only | split | with_reducible apply Keeps_mk

/-- `passDiscovery` keeps the queue, and the fields in order. -/
theorem passDiscovery_keeps {r0 : State} (p : Nat) (f : LinkFrame) (ring : Fin 4) (path : List (Pos × List (BitVec 32))) {s
    : State} (hk : Keeps r0 s) : Keeps r0 (passDiscovery p f ring path s) := by
  unfold passDiscovery
  iterate 40
    all_goals try
      first | with_reducible assumption | with_reducible apply Keeps_ite | with_reducible apply sendUp_keeps

/-- `goodFrame` keeps the queue, and the fields in order. -/
theorem goodFrame_keeps {r0 : State} (p : Nat) (f : LinkFrame) {s : State} (hk : Keeps r0 s) : Keeps r0 (goodFrame p f s) :=
    by
  unfold goodFrame
  iterate 40
    all_goals try
      first | with_reducible assumption | with_reducible apply inc_keeps | with_reducible apply Keeps_ite
            | with_reducible apply consume_keeps | with_reducible apply passDiscovery_keeps
            | with_reducible apply sendUp_keeps | with_reducible apply sendOthers_keeps | dsimp only | split

/-- `badFrame` keeps the queue, and the fields in order. -/
theorem badFrame_keeps {r0 : State} (p : Nat) (f : LinkFrame) {s : State} (hk : Keeps r0 s) : Keeps r0 (badFrame p f s) :=
    by
  unfold badFrame
  iterate 40
    all_goals try
      first | with_reducible assumption | with_reducible apply inc_keeps | with_reducible apply Keeps_ite
            | with_reducible apply sendUp_keeps | with_reducible apply sendOthers_keeps | dsimp only | split

/-- `closureCheck` keeps the queue, and the fields in order. -/
theorem closureCheck_keeps {r0 : State} (p : Nat) (f : LinkFrame) {s : State} (hk : Keeps r0 s) : Keeps r0 (closureCheck p f
    s) := by
  unfold closureCheck
  iterate 40
    all_goals try
      first | with_reducible assumption | with_reducible apply Keeps_ite | with_reducible apply idle_keeps
            | with_reducible apply transient_keeps

/-- `tetherFrame` keeps the queue, and the fields in order. -/
theorem tetherFrame_keeps {r0 : State} (f : LinkFrame) {s : State} (hk : Keeps r0 s) : Keeps r0 (tetherFrame f s) := by
  unfold tetherFrame
  iterate 40
    all_goals try
      first | intro _ | with_reducible assumption | with_reducible apply Keeps_ite | with_reducible apply Keeps_foldl
            | with_reducible apply noteBlock_keeps | with_reducible apply addCov_keeps
            | with_reducible apply takeSegment_keeps | dsimp only | split

/-- `frameReceive` keeps the queue, and the fields in order. -/
theorem frameReceive_keeps {r0 : State} (p : Nat) (f : LinkFrame) {s : State} (hk : Keeps r0 s) : Keeps r0 (frameReceive p f
    s) := by
  unfold frameReceive
  iterate 40
    all_goals try
      first | with_reducible assumption | with_reducible apply Keeps_ite | with_reducible apply tetherFrame_keeps
            | with_reducible apply linkAnswer_keeps | with_reducible apply goodFrame_keeps
            | with_reducible apply closureCheck_keeps | with_reducible apply badFrame_keeps

/-- `countRetx` keeps the queue, and the fields in order. -/
theorem countRetx_keeps {r0 : State} (p : Nat) {s : State} (hk : Keeps r0 s) : Keeps r0 (countRetx p s) := by
  unfold countRetx
  iterate 40
    all_goals try
      first | with_reducible assumption | with_reducible apply inc_keeps | with_reducible apply Keeps_ite

/-- `frameFails` keeps the queue, and the fields in order. -/
theorem frameFails_keeps {r0 : State} (p : Nat) (l : Nat) {s : State} (hk : Keeps r0 s) : Keeps r0 (frameFails p l s) := by
  unfold frameFails
  iterate 40
    all_goals try
      first | intro _ | with_reducible assumption | with_reducible apply Keeps_ite | with_reducible apply takeInjection_keeps
            | with_reducible apply linkRepeat_keeps | with_reducible apply countRetx_keeps
            | with_reducible apply linkDone_keeps | with_reducible apply transient_keeps
            | with_reducible apply permanent_keeps | with_reducible apply linkOut_keeps | dsimp only | split
            | with_reducible apply Keeps_mk

/-- `frameAcked` keeps the queue, and the fields in order. -/
theorem frameAcked_keeps {r0 : State} (p : Nat) (l : Nat) {s : State} (hk : Keeps r0 s) : Keeps r0 (frameAcked p l s) := by
  unfold frameAcked
  iterate 40
    all_goals try
      first | intro _ | with_reducible assumption | with_reducible apply linkDone_keeps | with_reducible apply transient_keeps
            | dsimp only | split | with_reducible apply Keeps_mk

/-- `sendIdle` keeps the queue, and the fields in order. -/
theorem sendIdle_keeps {r0 : State} (p : Nat) {s : State} (hk : Keeps r0 s) : Keeps r0 (sendIdle p s) := by
  unfold sendIdle
  iterate 40
    all_goals try
      first | with_reducible assumption | with_reducible apply Keeps_ite | with_reducible apply countFrame_keeps
            | with_reducible apply linkSend_keeps | with_reducible apply portSend_keeps

/-- `portRetrain` keeps the queue, and the fields in order. -/
theorem portRetrain_keeps {r0 : State} (p : Nat) {s : State} (hk : Keeps r0 s) : Keeps r0 (portRetrain p s) := by
  unfold portRetrain
  iterate 40
    all_goals try
      first | with_reducible assumption | with_reducible apply put_keeps | with_reducible apply Keeps_ite | dsimp only | split
            | with_reducible apply Keeps_mk

/-- `checkMissing` keeps the queue, and the fields in order. -/
theorem checkMissing_keeps {r0 : State} (present : Nat) {s : State} (hk : Keeps r0 s) : Keeps r0 (checkMissing present s) :=
    by
  unfold checkMissing
  iterate 40
    all_goals try
      first | intro _ | with_reducible assumption | with_reducible apply put_keeps | with_reducible apply raise_keeps
            | with_reducible apply Keeps_ite | with_reducible apply Keeps_foldl | dsimp only | split
            | with_reducible apply Keeps_mk

/-- `headState` keeps the queue, and the fields in order. -/
theorem headState_keeps {r0 : State} (ringTime : Bool) {s : State} (hk : Keeps r0 s) : Keeps r0 (headState ringTime s) := by
  unfold headState
  iterate 40
    all_goals try
      first | with_reducible assumption | with_reducible apply put_keeps | with_reducible apply Keeps_ite
            | with_reducible apply enterLocked_keeps | with_reducible apply headLocks_keeps

/-- `discovery` keeps the queue, and the fields in order. -/
theorem discovery_keeps {r0 : State} (present : Nat) (chainUp : Bool) (closure : Bool) (reached : Bool) (ringTime : Bool) {s
    : State} (hk : Keeps r0 s) : Keeps r0 (discovery present chainUp closure reached ringTime s) := by
  unfold discovery
  iterate 40
    all_goals try
      first | with_reducible assumption | with_reducible apply put_keeps | with_reducible apply Keeps_ite
            | with_reducible apply setRing_keeps | with_reducible apply countFrame_keeps | with_reducible apply sendUp_keeps
            | with_reducible apply closureOut_keeps | with_reducible apply headState_keeps
            | with_reducible apply sendSubs_keeps | with_reducible apply checkMissing_keeps | dsimp only | split
            | with_reducible apply Keeps_mk

/-- `markOriginate` keeps the queue, and the fields in order. -/
theorem markOriginate_keeps {r0 : State} (t : Nat) {s : State} (hk : Keeps r0 s) : Keeps r0 (markOriginate t s) := by
  unfold markOriginate
  iterate 40
    all_goals try
      first | with_reducible assumption | with_reducible apply reachTime_keeps | with_reducible apply countFrame_keeps
            | with_reducible apply sendUp_keeps | dsimp only | with_reducible apply Keeps_mk

/-- `headMark` keeps the queue, and the fields in order. -/
theorem headMark_keeps {r0 : State} (t : Nat) {s0 : State} (hk : Keeps r0 s0) : Keeps r0 (headMark t s0) := by
  unfold headMark
  iterate 40
    all_goals try
      first | with_reducible assumption | with_reducible apply Keeps_ite | with_reducible apply headLocks_keeps
            | with_reducible apply markOriginate_keeps

/-- `steerMark` keeps the queue, and the fields in order. -/
theorem steerMark_keeps {r0 : State} (here : Nat) {s : State} (hk : Keeps r0 s) : Keeps r0 (steerMark here s) := by
  unfold steerMark
  iterate 40
    all_goals try
      first | with_reducible assumption | with_reducible apply Keeps_ite | with_reducible apply steer_keeps

/-- `applyMark` keeps the queue, and the fields in order. -/
theorem applyMark_keeps {r0 : State} (p : Nat) (m : TimingMark) {s : State} (hk : Keeps r0 s) : Keeps r0 (applyMark p m s)
    := by
  unfold applyMark
  iterate 40
    all_goals try
      first | with_reducible assumption | with_reducible apply put_keeps | with_reducible apply putI_keeps
            | with_reducible apply Keeps_ite | with_reducible apply steerMark_keeps | with_reducible apply jumpTo_keeps
            | with_reducible apply enterLocked_keeps | dsimp only | split | with_reducible apply Keeps_mk

/-- `passMark` keeps the queue, and the fields in order. -/
theorem passMark_keeps {r0 : State} (p : Nat) (m : TimingMark) {s : State} (hk : Keeps r0 s) : Keeps r0 (passMark p m s) :=
    by
  unfold passMark
  iterate 40
    all_goals try
      first | with_reducible assumption | with_reducible apply sendUp_keeps

/-- `markReceive` keeps the queue, and the fields in order. -/
theorem markReceive_keeps {r0 : State} (p : Nat) (m : TimingMark) {s : State} (hk : Keeps r0 s) : Keeps r0 (markReceive p m
    s) := by
  unfold markReceive
  iterate 40
    all_goals try
      first | intro _ | with_reducible assumption | with_reducible apply put_keeps | with_reducible apply Keeps_ite
            | with_reducible apply passMark_keeps | with_reducible apply applyMark_keeps | dsimp only | split
            | with_reducible apply Keeps_mk

/-- `markTimeout` keeps the queue, and the fields in order. -/
theorem markTimeout_keeps {r0 : State} (sync : Bool) {s : State} (hk : Keeps r0 s) : Keeps r0 (markTimeout sync s) := by
  unfold markTimeout
  iterate 40
    all_goals try
      first | with_reducible assumption | with_reducible apply put_keeps | with_reducible apply Keeps_ite
            | with_reducible apply syncLost_keeps

/-- `marksLost` keeps the queue, and the fields in order. -/
theorem marksLost_keeps {r0 : State} {s : State} (hk : Keeps r0 s) : Keeps r0 (marksLost s) := by
  unfold marksLost
  iterate 40
    all_goals try
      first | with_reducible assumption | with_reducible apply put_keeps | with_reducible apply raise_keeps
            | with_reducible apply Keeps_ite

/-- `joinWaitExpire` keeps the queue, and the fields in order. -/
theorem joinWaitExpire_keeps {r0 : State} {s : State} (hk : Keeps r0 s) : Keeps r0 (joinWaitExpire s) := by
  unfold joinWaitExpire
  iterate 40
    all_goals try
      first | with_reducible assumption | with_reducible apply Keeps_ite | dsimp only | split | with_reducible apply Keeps_mk

/-- `sampleSend` keeps the queue, and the fields in order. -/
theorem sampleSend_keeps {r0 : State} (t : Nat) (runs : List ChanRun) {s : State} (hk : Keeps r0 s) : Keeps r0 (sampleSend t
    runs s) := by
  unfold sampleSend
  iterate 40
    all_goals try
      first | intro _ | with_reducible assumption | with_reducible apply Keeps_foldl | with_reducible apply reachTime_keeps
            | with_reducible apply sendHead_keeps | dsimp only | split | with_reducible apply Keeps_mk

/-- `reportCov` keeps the queue, and the fields in order. -/
theorem reportCov_keeps {r0 : State} (n : Nat) (t0 : Nat) (t1 : Nat) (ok : Bool) {s : State} (hk : Keeps r0 s) : Keeps r0
    (reportCov n t0 t1 ok s) := by
  unfold reportCov
  iterate 40
    all_goals try
      first | with_reducible assumption | with_reducible apply sendHead_keeps

/-- `reportEvaluated` keeps the queue, and the fields in order. -/
theorem reportEvaluated_keeps {r0 : State} {s : State} (hk : Keeps r0 s) : Keeps r0 (reportEvaluated s) := by
  unfold reportEvaluated
  iterate 40
    all_goals try
      first | intro _ | with_reducible assumption | with_reducible apply Keeps_ite | with_reducible apply Keeps_foldl
            | with_reducible apply reportCov_keeps

/-- `reportUncovered` keeps the queue, and the fields in order. -/
theorem reportUncovered_keeps {r0 : State} (t : Nat) {s : State} (hk : Keeps r0 s) : Keeps r0 (reportUncovered t s) := by
  unfold reportUncovered
  iterate 40
    all_goals try
      first | intro _ | with_reducible assumption | with_reducible apply Keeps_ite | with_reducible apply Keeps_foldl
            | with_reducible apply reportCov_keeps | dsimp only | split

/-- `evaluateReport` keeps the queue, and the fields in order. -/
theorem evaluateReport_keeps {r0 : State} (t : Nat) {s : State} (hk : Keeps r0 s) : Keeps r0 (evaluateReport t s) := by
  unfold evaluateReport
  iterate 40
    all_goals try
      first | with_reducible assumption | with_reducible apply Keeps_ite | with_reducible apply evaluate_keeps
            | with_reducible apply reportEvaluated_keeps

/-- `sendSummary` keeps the queue, and the fields in order. -/
theorem sendSummary_keeps {r0 : State} {s : State} (hk : Keeps r0 s) : Keeps r0 (sendSummary s) := by
  unfold sendSummary
  iterate 40
    all_goals try
      first | with_reducible assumption | with_reducible apply Keeps_ite | with_reducible apply sendHead_keeps | dsimp only
            | split | with_reducible apply Keeps_mk

/-- `endSumHold` keeps the queue, and the fields in order. -/
theorem endSumHold_keeps {r0 : State} {s : State} (hk : Keeps r0 s) : Keeps r0 (endSumHold s) := by
  unfold endSumHold
  iterate 40
    all_goals try
      first | with_reducible assumption | with_reducible apply put_keeps | dsimp only | with_reducible apply Keeps_mk

/-- `mselWrite` keeps the queue, and the fields in order. -/
theorem mselWrite_keeps {r0 : State} (hold : Bool) (p : Nat) {s : State} (hk : Keeps r0 s) : Keeps r0 (mselWrite hold p s)
    := by
  unfold mselWrite
  iterate 40
    all_goals try
      first | with_reducible assumption | with_reducible apply put_keeps | with_reducible apply Keeps_ite
            | with_reducible apply endSumHold_keeps | dsimp only | split | with_reducible apply Keeps_mk

/-- `adjGo` keeps the queue, and the fields in order. -/
theorem adjGo_keeps {r0 : State} {s : State} (hk : Keeps r0 s) : Keeps r0 (adjGo s) := by
  unfold adjGo
  iterate 40
    all_goals try
      first | with_reducible assumption | with_reducible apply put_keeps | with_reducible apply Keeps_ite
            | with_reducible apply correctSite_keeps

/-- `siteStep` keeps the queue, and the fields in order. -/
theorem siteStep_keeps {r0 : State} {s : State} (hk : Keeps r0 s) : Keeps r0 (siteStep s) := by
  unfold siteStep
  iterate 40
    all_goals try
      first | with_reducible assumption | with_reducible apply put_keeps | with_reducible apply raise_keeps
            | with_reducible apply Keeps_ite | with_reducible apply reachTime_keeps
            | with_reducible apply closeIntervals_keeps | with_reducible apply sendSummary_keeps
            | with_reducible apply writeCkpt_keeps | with_reducible apply stepTime_keeps | dsimp only | split
            | with_reducible apply Keeps_mk

/-- `slewComplete` keeps the queue, and the fields in order. -/
theorem slewComplete_keeps {r0 : State} {s : State} (hk : Keeps r0 s) : Keeps r0 (slewComplete s) := by
  unfold slewComplete
  iterate 40
    all_goals try
      first | with_reducible assumption | with_reducible apply put_keeps | with_reducible apply Keeps_ite
            | with_reducible apply stepTime_keeps

/-- `siteHoldover` keeps the queue, and the fields in order. -/
theorem siteHoldover_keeps {r0 : State} {s : State} (hk : Keeps r0 s) : Keeps r0 (siteHoldover s) := by
  unfold siteHoldover
  iterate 40
    all_goals try
      first | with_reducible assumption | with_reducible apply put_keeps | with_reducible apply Keeps_ite
            | with_reducible apply setSiteSync_keeps

/-! ### Clocks -/

/-- `xclkFallback` keeps the queue, and the fields in order. -/
theorem xclkFallback_keeps {r0 : State} {s : State} (hk : Keeps r0 s) : Keeps r0 (xclkFallback s) := by
  unfold xclkFallback
  iterate 40
    all_goals try
      first | with_reducible assumption | with_reducible apply put_keeps | with_reducible apply lift_keeps
            | with_reducible apply raise_keeps | with_reducible apply Keeps_ite | dsimp only | split
            | with_reducible apply Keeps_mk

/-- `rcTrim` keeps the queue, and the fields in order. -/
theorem rcTrim_keeps {r0 : State} {s : State} (hk : Keeps r0 s) : Keeps r0 (rcTrim s) := by
  unfold rcTrim
  iterate 40
    all_goals try
      first | with_reducible assumption | with_reducible apply Keeps_ite | dsimp only | split | with_reducible apply Keeps_mk

/-- `xclkReturn` keeps the queue, and the fields in order. -/
theorem xclkReturn_keeps {r0 : State} (t : Nat) {s : State} (hk : Keeps r0 s) : Keeps r0 (xclkReturn t s) := by
  unfold xclkReturn
  iterate 40
    all_goals try
      first | with_reducible assumption | with_reducible apply lower_keeps | with_reducible apply Keeps_ite
            | with_reducible apply reachTime_keeps | dsimp only | split | with_reducible apply Keeps_mk

/-- `dcBoundary` keeps the queue, and the fields in order. -/
theorem dcBoundary_keeps {r0 : State} (t : Nat) {s : State} (hk : Keeps r0 s) : Keeps r0 (dcBoundary t s) := by
  unfold dcBoundary
  iterate 40
    all_goals try
      first | with_reducible assumption | with_reducible apply Keeps_ite | with_reducible apply reachTime_keeps

/-! ### Strongbox -/

/-- `draw` keeps the queue, and the fields in order. -/
theorem draw_keeps {r0 : State} {s : State} (hk : Keeps r0 s) : Keeps r0 (draw s).2 := by
  unfold draw
  iterate 40
    all_goals try
      first | with_reducible assumption | dsimp only | with_reducible apply Keeps_mk

/-- `setSlotKey` keeps the queue, and the fields in order. -/
theorem setSlotKey_keeps {r0 : State} (i : Nat) (k : Option KeySlot) {s : State} (hk : Keeps r0 s) : Keeps r0 (setSlotKey i
    k s) := by
  unfold setSlotKey
  iterate 40
    all_goals try
      first | intro _ | with_reducible assumption | dsimp only | split | with_reducible apply Keeps_mk

/-- `postBytes` keeps the queue, and the fields in order. -/
theorem postBytes_keeps {r0 : State} (f : Fld) (l : List Nat) {s : State} (hk : Keeps r0 s) : Keeps r0 (postBytes f l s) :=
    by
  unfold postBytes
  iterate 40
    all_goals try
      first | intro _ | with_reducible assumption | with_reducible apply put_keeps | with_reducible apply Keeps_foldl

/-- `showWipe` keeps the queue, and the fields in order. -/
theorem showWipe_keeps {r0 : State} {s : State} (hk : Keeps r0 s) : Keeps r0 (showWipe s) := by
  unfold showWipe
  iterate 40
    all_goals try
      first | with_reducible assumption | with_reducible apply put_keeps | with_reducible apply raise_keeps
            | with_reducible apply Keeps_ite | dsimp only | split | with_reducible apply Keeps_mk

/-- `loseKb` keeps the queue, and the fields in order. -/
theorem loseKb_keeps {r0 : State} (cause : Nat) {s : State} (hk : Keeps r0 s) : Keeps r0 (loseKb cause s) := by
  unfold loseKb
  iterate 40
    all_goals try
      first | with_reducible assumption | with_reducible apply Keeps_ite | with_reducible apply showWipe_keeps | dsimp only
            | split | with_reducible apply Keeps_mk

/-- `tamperWipe` keeps the queue, and the fields in order. -/
theorem tamperWipe_keeps {r0 : State} {s : State} (hk : Keeps r0 s) : Keeps r0 (tamperWipe s) := by
  unfold tamperWipe
  iterate 40
    all_goals try
      first | with_reducible assumption | with_reducible apply put_keeps | with_reducible apply Keeps_ite
            | with_reducible apply loseKb_keeps

/-- `interruptedBundle` keeps the queue, and the fields in order. -/
theorem interruptedBundle_keeps {r0 : State} {s : State} (hk : Keeps r0 s) : Keeps r0 (interruptedBundle s) := by
  unfold interruptedBundle
  iterate 40
    all_goals try
      first | with_reducible assumption | with_reducible apply put_keeps | with_reducible apply showWipe_keeps | dsimp only
            | split | with_reducible apply Keeps_mk

/-- `keyCheck` keeps the queue, and the fields in order. -/
theorem keyCheck_keeps {r0 : State} (n : Nat) {s : State} (hk : Keeps r0 s) : Keeps r0 (keyCheck n s) := by
  unfold keyCheck
  iterate 40
    all_goals try
      first | intro _ | with_reducible assumption | with_reducible apply put_keeps | with_reducible apply raise_keeps
            | with_reducible apply Keeps_ite | dsimp only | split | with_reducible apply Keeps_mk

/-- `keySubmit` keeps the queue, and the fields in order. -/
theorem keySubmit_keeps {r0 : State} (n : Nat) {s : State} (hk : Keeps r0 s) : Keeps r0 (keySubmit n s) := by
  unfold keySubmit
  iterate 40
    all_goals try
      first | intro _ | with_reducible assumption | with_reducible apply Keeps_ite | with_reducible apply keyCheck_keeps
            | with_reducible apply onVault_keeps | dsimp only | split

/-- `writeEntries` keeps the queue, and the fields in order. -/
theorem writeEntries_keeps {r0 : State} (es : List KeyEntry) {s : State} (hk : Keeps r0 s) : Keeps r0 (writeEntries es s) :=
    by
  unfold writeEntries
  iterate 40
    all_goals try
      first | intro _ | with_reducible assumption | with_reducible apply Keeps_foldl | with_reducible apply setSlotKey_keeps

/-- `applyBundle` keeps the queue, and the fields in order. -/
theorem applyBundle_keeps {r0 : State} (target : Nat) (mode : Nat) (es : List KeyEntry) {s : State} (hk : Keeps r0 s) :
    Keeps r0 (applyBundle target mode es s) := by
  unfold applyBundle
  iterate 40
    all_goals try
      first | with_reducible assumption | with_reducible apply put_keeps | with_reducible apply raise_keeps
            | with_reducible apply Keeps_ite | with_reducible apply draw_keeps | with_reducible apply writeEntries_keeps
            | dsimp only | split | with_reducible apply Keeps_mk

/-- `keyApplied` keeps the queue, and the fields in order. -/
theorem keyApplied_keeps {r0 : State} {s : State} (hk : Keeps r0 s) : Keeps r0 (keyApplied s) := by
  unfold keyApplied
  iterate 40
    all_goals try
      first | with_reducible assumption | with_reducible apply put_keeps | with_reducible apply raise_keeps
            | with_reducible apply applyBundle_keeps | with_reducible apply writeEntries_keeps | dsimp only | split
            | with_reducible apply Keeps_mk

/-- `newNonce` keeps the queue, and the fields in order. -/
theorem newNonce_keeps {r0 : State} {s : State} (hk : Keeps r0 s) : Keeps r0 (newNonce s) := by
  unfold newNonce
  iterate 40
    all_goals try
      first | with_reducible assumption | with_reducible apply draw_keeps | with_reducible apply postBytes_keeps

/-- `privDrop` keeps the queue, and the fields in order. -/
theorem privDrop_keeps {r0 : State} {s : State} (hk : Keeps r0 s) : Keeps r0 (privDrop s) := by
  unfold privDrop
  iterate 40
    all_goals try
      first | with_reducible assumption | with_reducible apply put_keeps

/-- `privOpen` keeps the queue, and the fields in order. -/
theorem privOpen_keeps {r0 : State} {s : State} (hk : Keeps r0 s) : Keeps r0 (privOpen s) := by
  unfold privOpen
  iterate 40
    all_goals try
      first | with_reducible assumption | with_reducible apply put_keeps | with_reducible apply setBit_keeps
            | with_reducible apply raise_keeps | with_reducible apply Keeps_ite | with_reducible apply newNonce_keeps

/-- `privLockExpire` keeps the queue, and the fields in order. -/
theorem privLockExpire_keeps {r0 : State} {s : State} (hk : Keeps r0 s) : Keeps r0 (privLockExpire s) := by
  unfold privLockExpire
  iterate 40
    all_goals try
      first | with_reducible assumption | with_reducible apply put_keeps | with_reducible apply Keeps_ite

/-- `openWriteNow` keeps the queue, and the fields in order. -/
theorem openWriteNow_keeps {r0 : State} (erase : Bool) (i : Nat) (peer : Nat) {s : State} (hk : Keeps r0 s) : Keeps r0
    (openWriteNow erase i peer s) := by
  unfold openWriteNow
  iterate 40
    all_goals try
      first | intro _ | with_reducible assumption | with_reducible apply put_keeps | with_reducible apply setBit_keeps
            | with_reducible apply raise_keeps | with_reducible apply Keeps_ite | with_reducible apply Keeps_foldl
            | with_reducible apply setSlotKey_keeps

/-- `openWrite` keeps the queue, and the fields in order. -/
theorem openWrite_keeps {r0 : State} (erase : Bool) (i : Nat) (peer : Nat) {s : State} (hk : Keeps r0 s) : Keeps r0
    (openWrite erase i peer s) := by
  unfold openWrite
  iterate 40
    all_goals try
      first | intro _ | with_reducible assumption | with_reducible apply Keeps_ite | with_reducible apply openWriteNow_keeps
            | with_reducible apply onVault_keeps

/-- `openAsk` keeps the queue, and the fields in order. -/
theorem openAsk_keeps {r0 : State} (erase : Bool) (i : Nat) (peer : Nat) {s : State} (hk : Keeps r0 s) : Keeps r0 (openAsk
    erase i peer s) := by
  unfold openAsk
  iterate 40
    all_goals try
      first | intro _ | with_reducible assumption | with_reducible apply put_keeps | with_reducible apply setBit_keeps
            | with_reducible apply onCtl_keeps | with_reducible apply openWrite_keeps

/-- `openPromote` keeps the queue, and the fields in order. -/
theorem openPromote_keeps {r0 : State} {s : State} (hk : Keeps r0 s) : Keeps r0 (openPromote s) := by
  unfold openPromote
  iterate 40
    all_goals try
      first | with_reducible assumption | with_reducible apply put_keeps | with_reducible apply raise_keeps
            | with_reducible apply Keeps_ite

/-- `promoteNow` keeps the queue, and the fields in order. -/
theorem promoteNow_keeps {r0 : State} {s : State} (hk : Keeps r0 s) : Keeps r0 (promoteNow s) := by
  unfold promoteNow
  iterate 40
    all_goals try
      first | with_reducible assumption | with_reducible apply put_keeps | with_reducible apply Keeps_ite
            | with_reducible apply setSlotKey_keeps | dsimp only | split

/-- `promoteDue` keeps the queue, and the fields in order. -/
theorem promoteDue_keeps {r0 : State} {s : State} (hk : Keeps r0 s) : Keeps r0 (promoteDue s) := by
  unfold promoteDue
  iterate 40
    all_goals try
      first | intro _ | with_reducible assumption | with_reducible apply Keeps_ite | with_reducible apply onCtlOnce_keeps
            | with_reducible apply onVault_keeps | with_reducible apply promoteNow_keeps

/-- `passportCount` keeps the queue, and the fields in order. -/
theorem passportCount_keeps {r0 : State} (k : List Nat) {s : State} (hk : Keeps r0 s) : Keeps r0 (passportCount k s) := by
  unfold passportCount
  iterate 40
    all_goals try
      first | with_reducible assumption | with_reducible apply put_keeps | with_reducible apply postBytes_keeps | dsimp only
            | with_reducible apply Keeps_mk

/-- `passportRun` keeps the queue, and the fields in order. -/
theorem passportRun_keeps {r0 : State} {s : State} (hk : Keeps r0 s) : Keeps r0 (passportRun s) := by
  unfold passportRun
  iterate 40
    all_goals try
      first | intro _ | with_reducible assumption | with_reducible apply put_keeps | with_reducible apply Keeps_ite
            | with_reducible apply onVault_keeps | with_reducible apply passportCount_keeps | dsimp only | split

/-- `passportRequest` keeps the queue, and the fields in order. -/
theorem passportRequest_keeps {r0 : State} {s : State} (hk : Keeps r0 s) : Keeps r0 (passportRequest s) := by
  unfold passportRequest
  iterate 40
    all_goals try
      first | with_reducible assumption | with_reducible apply put_keeps | with_reducible apply Keeps_ite
            | with_reducible apply passportRun_keeps

/-! ### WaylineOps -/

/-- `setNbr` keeps the queue, and the fields in order. -/
theorem setNbr_keeps {r0 : State} (i : Nat) (x : Option Nbr) {s : State} (hk : Keeps r0 s) : Keeps r0 (setNbr i x s) := by
  unfold setNbr
  iterate 40
    all_goals try
      first | with_reducible assumption | dsimp only | with_reducible apply Keeps_mk

/-- `enterNbr` keeps the queue, and the fields in order. -/
theorem enterNbr_keeps {r0 : State} (x : Nbr) {s : State} (hk : Keeps r0 s) : Keeps r0 (enterNbr x s) := by
  unfold enterNbr
  iterate 40
    all_goals try
      first | intro _ | with_reducible assumption | with_reducible apply put_keeps | with_reducible apply raise_keeps
            | with_reducible apply setNbr_keeps | dsimp only | split | with_reducible apply Keeps_mk

/-- `refresh` keeps the queue, and the fields in order. -/
theorem refresh_keeps {r0 : State} (a : Nat) (g : Nbr → Nbr) {s : State} (hk : Keeps r0 s) : Keeps r0 (refresh a g s) := by
  unfold refresh
  iterate 40
    all_goals try
      first | with_reducible assumption | with_reducible apply setNbr_keeps | with_reducible apply enterNbr_keeps | dsimp only
            | split

/-- `removeNbr` keeps the queue, and the fields in order. -/
theorem removeNbr_keeps {r0 : State} (i : Nat) {s : State} (hk : Keeps r0 s) : Keeps r0 (removeNbr i s) := by
  unfold removeNbr
  iterate 40
    all_goals try
      first | with_reducible assumption | with_reducible apply Keeps_ite | with_reducible apply setNbr_keeps | dsimp only
            | split | with_reducible apply Keeps_mk

/-- `checkClash` keeps the queue, and the fields in order. -/
theorem checkClash_keeps {r0 : State} (a : Nat) (slot : Nat) (dc : Bool) {s : State} (hk : Keeps r0 s) : Keeps r0
    (checkClash a slot dc s) := by
  unfold checkClash
  iterate 40
    all_goals try
      first | intro _ | with_reducible assumption | with_reducible apply put_keeps | with_reducible apply raise_keeps
            | with_reducible apply Keeps_ite | with_reducible apply raiseIf_keeps | dsimp only | split
            | with_reducible apply Keeps_mk

/-- `takeSymbols` keeps the queue, and the fields in order. -/
theorem takeSymbols_keeps {r0 : State} (rx : List (List (List Rat))) {s : State} (hk : Keeps r0 s) : Keeps r0 (takeSymbols
    rx s) := by
  unfold takeSymbols
  iterate 40
    all_goals try
      first | intro _ | with_reducible assumption | dsimp only | split | with_reducible apply Keeps_mk

/-- `emit` keeps the queue, and the fields in order. -/
theorem emit_keeps {r0 : State} (dc : Bool) (ftype : Nat) (ra : Nat) (pri : Nat) (seq : Nat) (kidx : Nat) (payload : List
    Nat) {s : State} (hk : Keeps r0 s) : Keeps r0 (emit dc ftype ra pri seq kidx payload s) := by
  unfold emit
  iterate 40
    all_goals try
      first | with_reducible assumption | with_reducible apply addSat_keeps | with_reducible apply Keeps_ite | dsimp only
            | split | with_reducible apply Keeps_mk

/-- `countFcnt` keeps the queue, and the fields in order. -/
theorem countFcnt_keeps {r0 : State} {s : State} (hk : Keeps r0 s) : Keeps r0 (countFcnt s) := by
  unfold countFcnt
  iterate 40
    all_goals try
      first | with_reducible assumption | with_reducible apply Keeps_ite | dsimp only | split | with_reducible apply Keeps_mk

/-- `emitOwn` keeps the queue, and the fields in order. -/
theorem emitOwn_keeps {r0 : State} (dc : Bool) (ftype : Nat) (ra : Nat) (pri : Nat) (seq : Nat) (kidx : Nat) (body : List
    Nat) {s : State} (hk : Keeps r0 s) : Keeps r0 (emitOwn dc ftype ra pri seq kidx body s) := by
  unfold emitOwn
  iterate 40
    all_goals try
      first | with_reducible assumption | with_reducible apply Keeps_ite | with_reducible apply countFcnt_keeps
            | with_reducible apply emit_keeps

/-- `queueTx` keeps the queue, and the fields in order. -/
theorem queueTx_keeps {r0 : State} (x : WayTx) {s : State} (hk : Keeps r0 s) : Keeps r0 (queueTx x s) := by
  unfold queueTx
  iterate 40
    all_goals try
      first | with_reducible assumption | with_reducible apply draw_keeps | dsimp only | with_reducible apply Keeps_mk

/-- `queueDiscovery` keeps the queue, and the fields in order. -/
theorem queueDiscovery_keeps {r0 : State} {s : State} (hk : Keeps r0 s) : Keeps r0 (queueDiscovery s) := by
  unfold queueDiscovery
  iterate 40
    all_goals try
      first | intro _ | with_reducible assumption | with_reducible apply Keeps_foldl | with_reducible apply queueTx_keeps

/-- `endDatagram` keeps the queue, and the fields in order. -/
theorem endDatagram_keeps {r0 : State} (result : Nat) {s : State} (hk : Keeps r0 s) : Keeps r0 (endDatagram result s) := by
  unfold endDatagram
  iterate 40
    all_goals try
      first | with_reducible assumption | with_reducible apply put_keeps

/-- `txDone` keeps the queue, and the fields in order. -/
theorem txDone_keeps {r0 : State} {s : State} (hk : Keeps r0 s) : Keeps r0 (txDone s) := by
  unfold txDone
  iterate 40
    all_goals try
      first | with_reducible assumption | with_reducible apply inc_keeps | with_reducible apply Keeps_ite
            | with_reducible apply transient_keeps | with_reducible apply endDatagram_keeps | dsimp only | split
            | with_reducible apply Keeps_mk

/-- `dropLink` keeps the queue, and the fields in order. -/
theorem dropLink_keeps {r0 : State} (a : Nat) (mode : Nat) {s : State} (hk : Keeps r0 s) : Keeps r0 (dropLink a mode s) :=
    by
  unfold dropLink
  iterate 40
    all_goals try
      first | with_reducible assumption | with_reducible apply Keeps_ite | with_reducible apply setNbr_keeps | dsimp only
            | split

/-- `txFail` keeps the queue, and the fields in order. -/
theorem txFail_keeps {r0 : State} {s : State} (hk : Keeps r0 s) : Keeps r0 (txFail s) := by
  unfold txFail
  iterate 40
    all_goals try
      first | with_reducible assumption | with_reducible apply put_keeps | with_reducible apply inc_keeps
            | with_reducible apply raise_keeps | with_reducible apply Keeps_ite | with_reducible apply permanent_keeps
            | with_reducible apply dropLink_keeps | with_reducible apply endDatagram_keeps
            | with_reducible apply queueTx_keeps | dsimp only | split | with_reducible apply Keeps_mk

/-- `authFails` keeps the queue, and the fields in order. -/
theorem authFails_keeps {r0 : State} (a : Nat) {s : State} (hk : Keeps r0 s) : Keeps r0 (authFails a s) := by
  unfold authFails
  iterate 40
    all_goals try
      first | with_reducible assumption | with_reducible apply put_keeps | with_reducible apply inc_keeps
            | with_reducible apply raise_keeps

/-- `showRx` keeps the queue, and the fields in order. -/
theorem showRx_keeps {r0 : State} {s : State} (hk : Keeps r0 s) : Keeps r0 (showRx s) := by
  unfold showRx
  iterate 40
    all_goals try
      first | with_reducible assumption | with_reducible apply put_keeps | with_reducible apply postBytes_keeps | dsimp only
            | split

/-- `takeDatagram` keeps the queue, and the fields in order. -/
theorem takeDatagram_keeps {r0 : State} (d : Dgram) {s : State} (hk : Keeps r0 s) : Keeps r0 (takeDatagram d s) := by
  unfold takeDatagram
  iterate 40
    all_goals try
      first | with_reducible assumption | with_reducible apply put_keeps | with_reducible apply raise_keeps
            | with_reducible apply Keeps_ite | with_reducible apply showRx_keeps | with_reducible apply raiseIf_keeps
            | dsimp only | split | with_reducible apply Keeps_mk

/-- `forward` keeps the queue, and the fields in order. -/
theorem forward_keeps {r0 : State} (x : WayTx) {s : State} (hk : Keeps r0 s) : Keeps r0 (forward x s) := by
  unfold forward
  iterate 40
    all_goals try
      first | with_reducible assumption | with_reducible apply inc_keeps | with_reducible apply Keeps_ite
            | with_reducible apply queueTx_keeps

/-- `chooseParent` keeps the queue, and the fields in order. -/
theorem chooseParent_keeps {r0 : State} {s : State} (hk : Keeps r0 s) : Keeps r0 (chooseParent s) := by
  unfold chooseParent
  iterate 40
    all_goals try
      first | with_reducible assumption | with_reducible apply put_keeps | with_reducible apply raise_keeps
            | with_reducible apply Keeps_ite | dsimp only | split | with_reducible apply Keeps_mk

/-- `siteInput` keeps the queue, and the fields in order. -/
theorem siteInput_keeps {r0 : State} (sent : Nat) (arrived : Nat) (level : Nat) (mcar : Nat) (terr : Nat) (stepped : Bool)
    {s : State} (hk : Keeps r0 s) : Keeps r0 (siteInput sent arrived level mcar terr stepped s) := by
  unfold siteInput
  iterate 40
    all_goals try
      first | with_reducible assumption | with_reducible apply put_keeps | with_reducible apply Keeps_ite
            | with_reducible apply correctSite_keeps | with_reducible apply steer_keeps
            | with_reducible apply setSiteSync_keeps

/-! ### Wayline -/

/-- `wayStart` keeps the queue, and the fields in order. -/
theorem wayStart_keeps {r0 : State} {s : State} (hk : Keeps r0 s) : Keeps r0 (wayStart s) := by
  unfold wayStart
  iterate 40
    all_goals try
      first | with_reducible assumption | with_reducible apply put_keeps | with_reducible apply Keeps_ite
            | with_reducible apply queueDiscovery_keeps

/-- `sendBeacon` keeps the queue, and the fields in order. -/
theorem sendBeacon_keeps {r0 : State} (t : Nat) (dc : Bool) {s : State} (hk : Keeps r0 s) : Keeps r0 (sendBeacon t dc s) :=
    by
  unfold sendBeacon
  iterate 40
    all_goals try
      first | with_reducible assumption | with_reducible apply Keeps_ite | with_reducible apply emitOwn_keeps

/-- `beaconPeriod` keeps the queue, and the fields in order. -/
theorem beaconPeriod_keeps {r0 : State} (t : Nat) {s : State} (hk : Keeps r0 s) : Keeps r0 (beaconPeriod t s) := by
  unfold beaconPeriod
  iterate 40
    all_goals try
      first | intro _ | with_reducible assumption | with_reducible apply put_keeps | with_reducible apply Keeps_ite
            | with_reducible apply Keeps_foldl | with_reducible apply promoteDue_keeps | with_reducible apply reachTime_keeps
            | with_reducible apply sendBeacon_keeps | dsimp only | split | with_reducible apply Keeps_mk

/-- `sendTx` keeps the queue, and the fields in order. -/
theorem sendTx_keeps {r0 : State} (x : WayTx) (dc : Bool) {s : State} (hk : Keeps r0 s) : Keeps r0 (sendTx x dc s) := by
  unfold sendTx
  iterate 40
    all_goals try
      first | with_reducible assumption | with_reducible apply Keeps_ite | with_reducible apply emit_keeps
            | with_reducible apply emitOwn_keeps

/-- `sendSound` keeps the queue, and the fields in order. -/
theorem sendSound_keeps {r0 : State} (dst : Nat) {s : State} (hk : Keeps r0 s) : Keeps r0 (sendSound dst s) := by
  unfold sendSound
  iterate 40
    all_goals try
      first | with_reducible assumption | with_reducible apply emit_keeps | with_reducible apply setNbr_keeps | dsimp only
            | split

/-- `contentionSend` keeps the queue, and the fields in order. -/
theorem contentionSend_keeps {r0 : State} {s : State} (hk : Keeps r0 s) : Keeps r0 (contentionSend s) := by
  unfold contentionSend
  iterate 40
    all_goals try
      first | intro _ | with_reducible assumption | with_reducible apply Keeps_ite | with_reducible apply Keeps_foldl
            | with_reducible apply sendSound_keeps | with_reducible apply sendTx_keeps
            | with_reducible apply endDatagram_keeps | dsimp only | split | with_reducible apply Keeps_mk

/-- `discoverySend` keeps the queue, and the fields in order. -/
theorem discoverySend_keeps {r0 : State} {s : State} (hk : Keeps r0 s) : Keeps r0 (discoverySend s) := by
  unfold discoverySend
  iterate 40
    all_goals try
      first | with_reducible assumption | with_reducible apply Keeps_ite | with_reducible apply queueDiscovery_keeps

/-- `txSend` keeps the queue, and the fields in order. -/
theorem txSend_keeps {r0 : State} (pri : Nat) (len : Nat) (dst : Nat) {s : State} (hk : Keeps r0 s) : Keeps r0 (txSend pri
    len dst s) := by
  unfold txSend
  iterate 40
    all_goals try
      first | with_reducible assumption | with_reducible apply Keeps_ite | with_reducible apply endDatagram_keeps
            | with_reducible apply queueTx_keeps

/-- `txGo` keeps the queue, and the fields in order. -/
theorem txGo_keeps {r0 : State} (pri : Nat) (len : Nat) (dst : Nat) {s : State} (hk : Keeps r0 s) : Keeps r0 (txGo pri len
    dst s) := by
  unfold txGo
  iterate 40
    all_goals try
      first | intro _ | with_reducible assumption | with_reducible apply put_keeps | with_reducible apply Keeps_ite
            | with_reducible apply onCtl_keeps | with_reducible apply txSend_keeps

/-- `rxNext` keeps the queue, and the fields in order. -/
theorem rxNext_keeps {r0 : State} {s : State} (hk : Keeps r0 s) : Keeps r0 (rxNext s) := by
  unfold rxNext
  iterate 40
    all_goals try
      first | with_reducible assumption | with_reducible apply showRx_keeps | dsimp only | with_reducible apply Keeps_mk

/-- `takeToneMap` keeps the queue, and the fields in order. -/
theorem takeToneMap_keeps {r0 : State} (a : Nat) (tmi : Nat) (bits : Nat) {s : State} (hk : Keeps r0 s) : Keeps r0
    (takeToneMap a tmi bits s) := by
  unfold takeToneMap
  iterate 40
    all_goals try
      first | with_reducible assumption | with_reducible apply Keeps_ite | with_reducible apply setNbr_keeps | dsimp only
            | split

/-- `answerSound` keeps the queue, and the fields in order. -/
theorem answerSound_keeps {r0 : State} (a : Nat) (snrs : List Nat) {s : State} (hk : Keeps r0 s) : Keeps r0 (answerSound a
    snrs s) := by
  unfold answerSound
  iterate 40
    all_goals try
      first | with_reducible assumption | with_reducible apply Keeps_ite | with_reducible apply queueTx_keeps
            | with_reducible apply setNbr_keeps | dsimp only | split

/-- `beaconHeard` keeps the queue, and the fields in order. -/
theorem beaconHeard_keeps {r0 : State} (f : WayFrame) (sent : Nat) (arrived : Nat) (level : Nat) (mcar : Nat) (siteid : Nat)
    (terr : Nat) (steps : Nat) (bslot : Nat) {s : State} (hk : Keeps r0 s) : Keeps r0 (beaconHeard f sent arrived level mcar
    siteid terr steps bslot s) := by
  unfold beaconHeard
  iterate 40
    all_goals try
      first | intro _ | with_reducible assumption | with_reducible apply Keeps_ite | with_reducible apply refresh_keeps
            | with_reducible apply checkClash_keeps | with_reducible apply chooseParent_keeps
            | with_reducible apply siteInput_keeps

/-- `heard` keeps the queue, and the fields in order. -/
theorem heard_keeps {r0 : State} (f : WayFrame) {s : State} (hk : Keeps r0 s) : Keeps r0 (heard f s) := by
  unfold heard
  iterate 40
    all_goals try
      first | intro _ | with_reducible assumption | with_reducible apply refresh_keeps

/-- `dataHeard` keeps the queue, and the fields in order. -/
theorem dataHeard_keeps {r0 : State} (f : WayFrame) (osa : Nat) (oda : Nat) (body : List Nat) {s : State} (hk : Keeps r0 s)
    : Keeps r0 (dataHeard f osa oda body s) := by
  unfold dataHeard
  iterate 40
    all_goals try
      first | with_reducible assumption | with_reducible apply Keeps_ite | with_reducible apply heard_keeps
            | with_reducible apply takeDatagram_keeps

/-- `frameHeard` keeps the queue, and the fields in order. -/
theorem frameHeard_keeps {r0 : State} (f : WayFrame) (osa : Nat) (oda : Nat) (body : List Nat) {s : State} (hk : Keeps r0 s)
    : Keeps r0 (frameHeard f osa oda body s) := by
  unfold frameHeard
  iterate 40
    all_goals try
      first | intro _ | with_reducible assumption | with_reducible apply Keeps_ite | with_reducible apply beaconHeard_keeps
            | with_reducible apply discovery_keeps | with_reducible apply refresh_keeps
            | with_reducible apply checkClash_keeps | with_reducible apply dataHeard_keeps | with_reducible apply heard_keeps
            | with_reducible apply takeToneMap_keeps | with_reducible apply queueTx_keeps | dsimp only | split

/-- `bridged` keeps the queue, and the fields in order. -/
theorem bridged_keeps {r0 : State} (f : WayFrame) (osa : Nat) (oda : Nat) (fcnt : Nat) {s : State} (hk : Keeps r0 s) : Keeps
    r0 (bridged f osa oda fcnt s) := by
  unfold bridged
  iterate 40
    all_goals try
      first | with_reducible assumption | with_reducible apply Keeps_ite | with_reducible apply forward_keeps | dsimp only
            | split | with_reducible apply Keeps_mk

/-- `answer` keeps the queue, and the fields in order. -/
theorem answer_keeps {r0 : State} (ftype : Nat) (f : WayFrame) {s : State} (hk : Keeps r0 s) : Keeps r0 (answer ftype f s)
    := by
  unfold answer
  iterate 40
    all_goals try
      first | with_reducible assumption | with_reducible apply Keeps_ite | with_reducible apply emit_keeps

/-- `macFrame` keeps the queue, and the fields in order. -/
theorem macFrame_keeps {r0 : State} (f : WayFrame) {s : State} (hk : Keeps r0 s) : Keeps r0 (macFrame f s) := by
  unfold macFrame
  iterate 40
    all_goals try
      first | with_reducible assumption | with_reducible apply inc_keeps | with_reducible apply Keeps_ite
            | with_reducible apply answer_keeps | with_reducible apply bridged_keeps | with_reducible apply authFails_keeps
            | with_reducible apply frameHeard_keeps | dsimp only | split | with_reducible apply Keeps_mk

/-- `wayReceive` keeps the queue, and the fields in order. -/
theorem wayReceive_keeps {r0 : State} (f : WayFrame) {s : State} (hk : Keeps r0 s) : Keeps r0 (wayReceive f s) := by
  unfold wayReceive
  iterate 40
    all_goals try
      first | with_reducible assumption | with_reducible apply inc_keeps | with_reducible apply Keeps_ite
            | with_reducible apply txDone_keeps | with_reducible apply txFail_keeps | with_reducible apply answerSound_keeps
            | with_reducible apply macFrame_keeps | dsimp only | split

/-- `toneExpire` keeps the queue, and the fields in order. -/
theorem toneExpire_keeps {r0 : State} (i : Nat) {s : State} (hk : Keeps r0 s) : Keeps r0 (toneExpire i s) := by
  unfold toneExpire
  iterate 40
    all_goals try
      first | with_reducible assumption | with_reducible apply Keeps_ite | with_reducible apply setNbr_keeps | dsimp only
            | split

/-- `delayExchange` keeps the queue, and the fields in order. -/
theorem delayExchange_keeps {r0 : State} (rtt : Nat) (turnaround : Nat) {s : State} (hk : Keeps r0 s) : Keeps r0
    (delayExchange rtt turnaround s) := by
  unfold delayExchange
  iterate 40
    all_goals try
      first | intro _ | with_reducible assumption | with_reducible apply Keeps_ite | with_reducible apply emitOwn_keeps
            | dsimp only | split | with_reducible apply Keeps_mk

/-- `endNbrHold` keeps the queue, and the fields in order. -/
theorem endNbrHold_keeps {r0 : State} {s : State} (hk : Keeps r0 s) : Keeps r0 (endNbrHold s) := by
  unfold endNbrHold
  iterate 40
    all_goals try
      first | with_reducible assumption | with_reducible apply put_keeps | dsimp only | with_reducible apply Keeps_mk

/-- `nselWrite` keeps the queue, and the fields in order. -/
theorem nselWrite_keeps {r0 : State} (hold : Bool) (i : Nat) {s : State} (hk : Keeps r0 s) : Keeps r0 (nselWrite hold i s)
    := by
  unfold nselWrite
  iterate 40
    all_goals try
      first | with_reducible assumption | with_reducible apply put_keeps | with_reducible apply Keeps_ite
            | with_reducible apply endNbrHold_keeps | dsimp only | split | with_reducible apply Keeps_mk

/-! ### Ledger -/

/-- `setPos` keeps the queue, and the fields in order. -/
theorem setPos_keeps {r0 : State} (p : Nat) (x : LdgPos) {s : State} (hk : Keeps r0 s) : Keeps r0 (setPos p x s) := by
  unfold setPos
  iterate 40
    all_goals try
      first | with_reducible assumption | dsimp only | with_reducible apply Keeps_mk

/-- `placeRec` keeps the queue, and the fields in order. -/
theorem placeRec_keeps {r0 : State} (r : LdgRec) {s : State} (hk : Keeps r0 s) : Keeps r0 (placeRec r s) := by
  unfold placeRec
  iterate 40
    all_goals try
      first | intro _ | with_reducible assumption | with_reducible apply put_keeps | with_reducible apply inc_keeps
            | with_reducible apply Keeps_ite | with_reducible apply setPos_keeps | dsimp only
            | (refine flds_keeps hk rfl (fun y => ?_); dsimp only; exact Rising_countDrop _ _ y) | split
            | with_reducible apply Keeps_mk

/-- `refill` keeps the queue, and the fields in order. -/
theorem refill_keeps {r0 : State} {s : State} (hk : Keeps r0 s) : Keeps r0 (refill s) := by
  unfold refill
  iterate 40
    all_goals try
      first | with_reducible assumption | dsimp only | with_reducible apply Keeps_mk

/-- `ledgerWrite` keeps the queue, and the fields in order. -/
theorem ledgerWrite_keeps {r0 : State} {s : State} (hk : Keeps r0 s) : Keeps r0 (ledgerWrite s) := by
  unfold ledgerWrite
  iterate 40
    all_goals try
      first | with_reducible assumption | with_reducible apply Keeps_ite | with_reducible apply refill_keeps
            | with_reducible apply placeRec_keeps | dsimp only | split | with_reducible apply Keeps_mk

/-- `rateClose` keeps the queue, and the fields in order. -/
theorem rateClose_keeps {r0 : State} (e : Nat) {s : State} (hk : Keeps r0 s) : Keeps r0 (rateClose e s) := by
  unfold rateClose
  iterate 40
    all_goals try
      first | with_reducible assumption | with_reducible apply putRec_keeps | with_reducible apply Keeps_ite | dsimp only
            | split | with_reducible apply Keeps_mk

/-- `rateCloseAll` keeps the queue, and the fields in order. -/
theorem rateCloseAll_keeps {r0 : State} {s : State} (hk : Keeps r0 s) : Keeps r0 (rateCloseAll s) := by
  unfold rateCloseAll
  iterate 40
    all_goals try
      first | intro _ | with_reducible assumption | with_reducible apply Keeps_foldl | with_reducible apply rateClose_keeps

/-- `evtPendClear` keeps the queue, and the fields in order. -/
theorem evtPendClear_keeps {r0 : State} (k : Nat) (mask : Nat) {s : State} (hk : Keeps r0 s) : Keeps r0 (evtPendClear k mask
    s) := by
  unfold evtPendClear
  iterate 40
    all_goals try
      first | intro _ | with_reducible assumption | with_reducible apply put_keeps | with_reducible apply Keeps_ite
            | dsimp only | split | with_reducible apply Keeps_mk

/-- `irqReassert` keeps the queue, and the fields in order. -/
theorem irqReassert_keeps {r0 : State} (line : Nat) {s : State} (hk : Keeps r0 s) : Keeps r0 (irqReassert line s) := by
  unfold irqReassert
  iterate 40
    all_goals try
      first | with_reducible assumption | with_reducible apply Keeps_ite | dsimp only | split | with_reducible apply Keeps_mk

/-- `loseRecord` keeps the queue, and the fields in order. -/
theorem loseRecord_keeps {r0 : State} (p : Nat) (words : List Nat) (scrub : Bool) {s : State} (hk : Keeps r0 s) : Keeps r0
    (loseRecord p words scrub s) := by
  unfold loseRecord
  iterate 40
    all_goals try
      first | with_reducible assumption | with_reducible apply Keeps_ite | with_reducible apply retireBlock_keeps
            | with_reducible apply setPos_keeps

/-- `badRecord` keeps the queue, and the fields in order. -/
theorem badRecord_keeps {r0 : State} (x : Nat × List Nat) {s : State} (hk : Keeps r0 s) : Keeps r0 (badRecord x s) := by
  unfold badRecord
  iterate 40
    all_goals try
      first | with_reducible assumption | with_reducible apply loseRecord_keeps | dsimp only | split

/-- `indexBuilt` keeps the queue, and the fields in order. -/
theorem indexBuilt_keeps {r0 : State} (bad : List (Nat × List Nat)) (once : List Nat) {s : State} (hk : Keeps r0 s) : Keeps
    r0 (indexBuilt bad once s) := by
  unfold indexBuilt
  iterate 40
    all_goals try
      first | intro _ | with_reducible assumption | with_reducible apply put_keeps | with_reducible apply Keeps_foldl
            | with_reducible apply transient_keeps | with_reducible apply badRecord_keeps | dsimp only | split
            | with_reducible apply Keeps_mk

/-- `ledgerLookup` keeps the queue, and the fields in order. -/
theorem ledgerLookup_keeps {r0 : State} (n : Nat) {s0 : State} (hk : Keeps r0 s0) : Keeps r0 (ledgerLookup n s0) := by
  unfold ledgerLookup
  iterate 40
    all_goals try
      first | intro _ | with_reducible assumption | with_reducible apply put_keeps | with_reducible apply setBit_keeps
            | with_reducible apply Keeps_ite | with_reducible apply Keeps_foldl | with_reducible apply vaultRead_keeps

/-- `ledgerAck` keeps the queue, and the fields in order. -/
theorem ledgerAck_keeps {r0 : State} (n : Nat) {s : State} (hk : Keeps r0 s) : Keeps r0 (ledgerAck n s) := by
  unfold ledgerAck
  iterate 40
    all_goals try
      first | with_reducible assumption | with_reducible apply put_keeps

/-! ### Sar -/

/-- `showSar` keeps the queue, and the fields in order. -/
theorem showSar_keeps {r0 : State} {s : State} (hk : Keeps r0 s) : Keeps r0 (showSar s) := by
  unfold showSar
  iterate 40
    all_goals try
      first | with_reducible assumption | with_reducible apply put_keeps | with_reducible apply setBit_keeps

/-- `notReady` keeps the queue, and the fields in order. -/
theorem notReady_keeps {r0 : State} {s : State} (hk : Keeps r0 s) : Keeps r0 (notReady s) := by
  unfold notReady
  iterate 40
    all_goals try
      first | with_reducible assumption | with_reducible apply put_keeps | with_reducible apply raise_keeps

/-- `sarTrigger` keeps the queue, and the fields in order. -/
theorem sarTrigger_keeps {r0 : State} (pwm : Bool) {s : State} (hk : Keeps r0 s) : Keeps r0 (sarTrigger pwm s) := by
  unfold sarTrigger
  iterate 40
    all_goals try
      first | with_reducible assumption | with_reducible apply put_keeps | with_reducible apply raise_keeps
            | with_reducible apply Keeps_ite | with_reducible apply notReady_keeps | with_reducible apply showSar_keeps
            | dsimp only | split | with_reducible apply Keeps_mk

/-- `delayExpire` keeps the queue, and the fields in order. -/
theorem delayExpire_keeps {r0 : State} {s : State} (hk : Keeps r0 s) : Keeps r0 (delayExpire s) := by
  unfold delayExpire
  iterate 40
    all_goals try
      first | with_reducible assumption | with_reducible apply showSar_keeps | dsimp only | split
            | with_reducible apply Keeps_mk

/-- `sarInject` keeps the queue, and the fields in order. -/
theorem sarInject_keeps {r0 : State} (smp : Nat) (input : Nat) {s : State} (hk : Keeps r0 s) : Keeps r0 (sarInject smp input
    s) := by
  unfold sarInject
  iterate 40
    all_goals try
      first | with_reducible assumption | with_reducible apply put_keeps | with_reducible apply raise_keeps
            | with_reducible apply Keeps_ite | with_reducible apply notReady_keeps | dsimp only | split
            | with_reducible apply Keeps_mk

/-- `startBurst` keeps the queue, and the fields in order. -/
theorem startBurst_keeps {r0 : State} {s : State} (hk : Keeps r0 s) : Keeps r0 (startBurst s) := by
  unfold startBurst
  iterate 40
    all_goals try
      first | with_reducible assumption | with_reducible apply showSar_keeps | dsimp only | with_reducible apply Keeps_mk

/-- `housekeepingDue` keeps the queue, and the fields in order. -/
theorem housekeepingDue_keeps {r0 : State} {s : State} (hk : Keeps r0 s) : Keeps r0 (housekeepingDue s) := by
  unfold housekeepingDue
  iterate 40
    all_goals try
      first | with_reducible assumption | with_reducible apply Keeps_ite | with_reducible apply startBurst_keeps | dsimp only
            | split | with_reducible apply Keeps_mk

/-- `sarReady` keeps the queue, and the fields in order. -/
theorem sarReady_keeps {r0 : State} {s : State} (hk : Keeps r0 s) : Keeps r0 (sarReady s) := by
  unfold sarReady
  iterate 40
    all_goals try
      first | with_reducible assumption | with_reducible apply put_keeps | with_reducible apply housekeepingDue_keeps

/-- `sarStop` keeps the queue, and the fields in order. -/
theorem sarStop_keeps {r0 : State} {s : State} (hk : Keeps r0 s) : Keeps r0 (sarStop s) := by
  unfold sarStop
  iterate 40
    all_goals try
      first | with_reducible assumption | with_reducible apply put_keeps | dsimp only | split | with_reducible apply Keeps_mk

/-- `reformFactors` keeps the queue, and the fields in order. -/
theorem reformFactors_keeps {r0 : State} (i : Nat) {s : State} (hk : Keeps r0 s) : Keeps r0 (reformFactors i s) := by
  unfold reformFactors
  iterate 40
    all_goals try
      first | intro _ | with_reducible assumption | with_reducible apply Keeps_ite | with_reducible apply Keeps_foldl
            | dsimp only | split | with_reducible apply Keeps_mk

/-- `convPass` keeps the queue, and the fields in order. -/
theorem convPass_keeps {r0 : State} (i : Nat) (code : Nat) (retried : Bool) {s : State} (hk : Keeps r0 s) : Keeps r0
    (convPass i code retried s) := by
  unfold convPass
  iterate 40
    all_goals try
      first | with_reducible assumption | with_reducible apply put_keeps | with_reducible apply Keeps_ite
            | with_reducible apply transient_keeps | with_reducible apply reformFactors_keeps | dsimp only | split
            | with_reducible apply Keeps_mk

/-- `convFail` keeps the queue, and the fields in order. -/
theorem convFail_keeps {r0 : State} (i : Nat) {s : State} (hk : Keeps r0 s) : Keeps r0 (convFail i s) := by
  unfold convFail
  iterate 40
    all_goals try
      first | with_reducible assumption | with_reducible apply put_keeps | with_reducible apply raise_keeps
            | with_reducible apply permanent_keeps | with_reducible apply raiseIf_keeps | dsimp only
            | with_reducible apply Keeps_mk

/-- `convNext` keeps the queue, and the fields in order. -/
theorem convNext_keeps {r0 : State} (i : Nat) (injected : Bool) {s : State} (hk : Keeps r0 s) : Keeps r0 (convNext i
    injected s) := by
  unfold convNext
  iterate 40
    all_goals try
      first | intro _ | with_reducible assumption | with_reducible apply put_keeps | with_reducible apply Keeps_ite
            | with_reducible apply showSar_keeps | with_reducible apply startBurst_keeps | dsimp only | split
            | with_reducible apply Keeps_mk

/-- `conversion` keeps the queue, and the fields in order. -/
theorem conversion_keeps {r0 : State} (code : Nat) (eoc : Bool) {s : State} (hk : Keeps r0 s) : Keeps r0 (conversion code
    eoc s) := by
  unfold conversion
  iterate 40
    all_goals try
      first | with_reducible assumption | with_reducible apply put_keeps | with_reducible apply Keeps_ite
            | with_reducible apply convNext_keeps | with_reducible apply convPass_keeps | with_reducible apply convFail_keeps
            | dsimp only | split | with_reducible apply Keeps_mk

/-- `housekeeping` keeps the queue, and the fields in order. -/
theorem housekeeping_keeps {r0 : State} (ts : List Int) {s : State} (hk : Keeps r0 s) : Keeps r0 (housekeeping ts s) := by
  unfold housekeeping
  iterate 40
    all_goals try
      first | with_reducible assumption | with_reducible apply setBit_keeps | with_reducible apply raise_keeps
            | with_reducible apply dieTemperature_keeps | with_reducible apply raiseIf_keeps

/-- `burstDone` keeps the queue, and the fields in order. -/
theorem burstDone_keeps {r0 : State} {s : State} (hk : Keeps r0 s) : Keeps r0 (burstDone s) := by
  unfold burstDone
  iterate 40
    all_goals try
      first | intro _ | with_reducible assumption | with_reducible apply put_keeps | with_reducible apply Keeps_foldl
            | with_reducible apply onCtlOnce_keeps | with_reducible apply housekeeping_keeps
            | with_reducible apply showSar_keeps | dsimp only | split | with_reducible apply Keeps_mk

/-- `shuntApply` keeps the queue, and the fields in order. -/
theorem shuntApply_keeps {r0 : State} (k : Nat) {s : State} (hk : Keeps r0 s) : Keeps r0 (shuntApply k s) := by
  unfold shuntApply
  iterate 40
    all_goals try
      first | with_reducible assumption | with_reducible apply put_keeps | with_reducible apply putI_keeps
            | with_reducible apply stamp_keeps | with_reducible apply Keeps_ite | dsimp only | split
            | with_reducible apply Keeps_mk

end Sys2Proof.Machine
end

