-- ==== Sys2Proof/Laws/Keeps4.lean ====
section
/-! SUPPORT. The operations of Display, Itinerary, Porter, Faults, HostWrites, Power, HostPort keep the queue of waiting
commands and the order of the stored fields. -/

namespace Sys2Proof.Machine

set_option maxRecDepth 4000

/-! ### Display -/

/-- `newTarget` keeps the queue, and the fields in order. -/
theorem newTarget_keeps {r0 : State} (t : Nat) {s : State} (hk : Keeps r0 s) : Keeps r0 (newTarget t s) := by
  unfold newTarget
  iterate 40
    all_goals try
      first | with_reducible assumption | with_reducible apply put_keeps | with_reducible apply Keeps_ite | dsimp only | split
            | with_reducible apply Keeps_mk

/-- `showPage` keeps the queue, and the fields in order. -/
theorem showPage_keeps {r0 : State} (p : Nat) {s : State} (hk : Keeps r0 s) : Keeps r0 (showPage p s) := by
  unfold showPage
  iterate 40
    all_goals try
      first | with_reducible assumption | with_reducible apply put_keeps | with_reducible apply newTarget_keeps

/-- `nextPage` keeps the queue, and the fields in order. -/
theorem nextPage_keeps {r0 : State} {s : State} (hk : Keeps r0 s) : Keeps r0 (nextPage s) := by
  unfold nextPage
  iterate 40
    all_goals try
      first | with_reducible assumption | with_reducible apply showPage_keeps | dsimp only | split

/-- `dspShow` keeps the queue, and the fields in order. -/
theorem dspShow_keeps {r0 : State} {s : State} (hk : Keeps r0 s) : Keeps r0 (dspShow s) := by
  unfold dspShow
  iterate 40
    all_goals try
      first | with_reducible assumption | with_reducible apply Keeps_ite | with_reducible apply newTarget_keeps

/-- `dspNext` keeps the queue, and the fields in order. -/
theorem dspNext_keeps {r0 : State} {s : State} (hk : Keeps r0 s) : Keeps r0 (dspNext s) := by
  unfold dspNext
  iterate 40
    all_goals try
      first | with_reducible assumption | with_reducible apply Keeps_ite | with_reducible apply nextPage_keeps

/-- `dwellExpire` keeps the queue, and the fields in order. -/
theorem dwellExpire_keeps {r0 : State} {s : State} (hk : Keeps r0 s) : Keeps r0 (dwellExpire s) := by
  unfold dwellExpire
  iterate 40
    all_goals try
      first | with_reducible assumption | with_reducible apply Keeps_ite | with_reducible apply dspNext_keeps

/-- `vlcdUpdate` keeps the queue, and the fields in order. -/
theorem vlcdUpdate_keeps {r0 : State} {s : State} (hk : Keeps r0 s) : Keeps r0 (vlcdUpdate s) := by
  unfold vlcdUpdate
  iterate 40
    all_goals try
      first | with_reducible assumption | with_reducible apply put_keeps | with_reducible apply Keeps_ite

/-- `showDsp` keeps the queue, and the fields in order. -/
theorem showDsp_keeps {r0 : State} {s : State} (hk : Keeps r0 s) : Keeps r0 (showDsp s) := by
  unfold showDsp
  iterate 40
    all_goals try
      first | with_reducible assumption | with_reducible apply put_keeps

/-- `beginUpdate` keeps the queue, and the fields in order. -/
theorem beginUpdate_keeps {r0 : State} (t : Nat) (driven : Nat) (why : DspWhy) {s : State} (hk : Keeps r0 s) : Keeps r0
    (beginUpdate t driven why s) := by
  unfold beginUpdate
  iterate 40
    all_goals try
      first | intro _ | with_reducible assumption | with_reducible apply put_keeps | with_reducible apply Keeps_ite
            | with_reducible apply Keeps_foldl | with_reducible apply showDsp_keeps | dsimp only | split
            | with_reducible apply Keeps_mk

/-- `updateStart` keeps the queue, and the fields in order. -/
theorem updateStart_keeps {r0 : State} {s : State} (hk : Keeps r0 s) : Keeps r0 (updateStart s) := by
  unfold updateStart
  iterate 40
    all_goals try
      first | with_reducible assumption | with_reducible apply put_keeps | with_reducible apply Keeps_ite
            | with_reducible apply beginUpdate_keeps | dsimp only | split | with_reducible apply Keeps_mk

/-- `updateEnd` keeps the queue, and the fields in order. -/
theorem updateEnd_keeps {r0 : State} (u : DspUpd) {s : State} (hk : Keeps r0 s) : Keeps r0 (updateEnd u s) := by
  unfold updateEnd
  iterate 40
    all_goals try
      first | with_reducible assumption | with_reducible apply raise_keeps | with_reducible apply raiseIf_keeps
            | with_reducible apply showDsp_keeps | dsimp only | with_reducible apply Keeps_mk

/-- `phaseEnd` keeps the queue, and the fields in order. -/
theorem phaseEnd_keeps {r0 : State} {s : State} (hk : Keeps r0 s) : Keeps r0 (phaseEnd s) := by
  unfold phaseEnd
  iterate 40
    all_goals try
      first | with_reducible assumption | with_reducible apply put_keeps | with_reducible apply Keeps_ite
            | with_reducible apply showDsp_keeps | with_reducible apply updateEnd_keeps | dsimp only | split
            | with_reducible apply Keeps_mk

/-- `abandonUpdate` keeps the queue, and the fields in order. -/
theorem abandonUpdate_keeps {r0 : State} {s : State} (hk : Keeps r0 s) : Keeps r0 (abandonUpdate s) := by
  unfold abandonUpdate
  iterate 40
    all_goals try
      first | intro _ | with_reducible assumption | with_reducible apply put_keeps | with_reducible apply showDsp_keeps
            | dsimp only | split | with_reducible apply Keeps_mk

/-- `pumpTimeout` keeps the queue, and the fields in order. -/
theorem pumpTimeout_keeps {r0 : State} {s : State} (hk : Keeps r0 s) : Keeps r0 (pumpTimeout s) := by
  unfold pumpTimeout
  iterate 40
    all_goals try
      first | with_reducible assumption | with_reducible apply raise_keeps | with_reducible apply Keeps_ite
            | with_reducible apply abandonUpdate_keeps

/-- `displayOff` keeps the queue, and the fields in order. -/
theorem displayOff_keeps {r0 : State} {s : State} (hk : Keeps r0 s) : Keeps r0 (displayOff s) := by
  unfold displayOff
  iterate 40
    all_goals try
      first | with_reducible assumption | with_reducible apply put_keeps | with_reducible apply Keeps_ite
            | with_reducible apply showDsp_keeps | dsimp only | split | with_reducible apply Keeps_mk

/-- `vholdLow` keeps the queue, and the fields in order. -/
theorem vholdLow_keeps {r0 : State} {s : State} (hk : Keeps r0 s) : Keeps r0 (vholdLow s) := by
  unfold vholdLow
  iterate 40
    all_goals try
      first | with_reducible assumption | with_reducible apply Keeps_ite | with_reducible apply abandonUpdate_keeps

/-- `refreshAll` keeps the queue, and the fields in order. -/
theorem refreshAll_keeps {r0 : State} (why : DspWhy) {s : State} (hk : Keeps r0 s) : Keeps r0 (refreshAll why s) := by
  unfold refreshAll
  iterate 40
    all_goals try
      first | with_reducible assumption | with_reducible apply beginUpdate_keeps

/-- `powerUpRefresh` keeps the queue, and the fields in order. -/
theorem powerUpRefresh_keeps {r0 : State} {s : State} (hk : Keeps r0 s) : Keeps r0 (powerUpRefresh s) := by
  unfold powerUpRefresh
  iterate 40
    all_goals try
      first | with_reducible assumption | with_reducible apply raise_keeps | with_reducible apply refreshAll_keeps
            | with_reducible apply raiseIf_keeps | dsimp only | with_reducible apply Keeps_mk

/-- `displayStart` keeps the queue, and the fields in order. -/
theorem displayStart_keeps {r0 : State} {s : State} (hk : Keeps r0 s) : Keeps r0 (displayStart s) := by
  unfold displayStart
  iterate 40
    all_goals try
      first | with_reducible assumption | with_reducible apply Keeps_ite | with_reducible apply showDsp_keeps
            | with_reducible apply showPage_keeps | dsimp only | split | with_reducible apply Keeps_mk

/-- `displayResume` keeps the queue, and the fields in order. -/
theorem displayResume_keeps {r0 : State} {s : State} (hk : Keeps r0 s) : Keeps r0 (displayResume s) := by
  unfold displayResume
  iterate 40
    all_goals try
      first | with_reducible assumption | with_reducible apply Keeps_ite | with_reducible apply refreshAll_keeps
            | with_reducible apply showDsp_keeps | with_reducible apply displayStart_keeps | dsimp only | split
            | with_reducible apply Keeps_mk

/-! ### Itinerary -/

/-- `noteFree` keeps the queue, and the fields in order. -/
theorem noteFree_keeps {r0 : State} (was : State) {s : State} (hk : Keeps r0 s) : Keeps r0 (noteFree was s) := by
  unfold noteFree
  iterate 40
    all_goals try
      first | intro _ | with_reducible assumption | with_reducible apply raise_keeps | with_reducible apply Keeps_foldl
            | with_reducible apply raiseIf_keeps | dsimp only | split

/-- `inputsChanged` keeps the queue, and the fields in order. -/
theorem inputsChanged_keeps {r0 : State} (was : State) {s : State} (hk : Keeps r0 s) : Keeps r0 (inputsChanged was s) := by
  unfold inputsChanged
  iterate 40
    all_goals try
      first | intro _ | with_reducible assumption | with_reducible apply Keeps_ite | with_reducible apply Keeps_foldl
            | with_reducible apply rangeSensorChanged_keeps | with_reducible apply noteFree_keeps
            | with_reducible apply trimTrigger_keeps

/-- `filtersChanged` keeps the queue, and the fields in order. -/
theorem filtersChanged_keeps {r0 : State} (was : State) {s : State} (hk : Keeps r0 s) : Keeps r0 (filtersChanged was s) :=
    by
  unfold filtersChanged
  iterate 40
    all_goals try
      first | intro _ | with_reducible assumption | with_reducible apply Keeps_foldl
            | with_reducible apply fltCfgChanged_keeps

/-- `displayChanged` keeps the queue, and the fields in order. -/
theorem displayChanged_keeps {r0 : State} (was : State) {s : State} (hk : Keeps r0 s) : Keeps r0 (displayChanged was s) :=
    by
  unfold displayChanged
  iterate 40
    all_goals try
      first | with_reducible assumption | with_reducible apply Keeps_ite | with_reducible apply displayStart_keeps
            | with_reducible apply showDsp_keeps | dsimp only | split | with_reducible apply Keeps_mk

/-- `pulsesChanged` keeps the queue, and the fields in order. -/
theorem pulsesChanged_keeps {r0 : State} {s : State} (hk : Keeps r0 s) : Keeps r0 (pulsesChanged s) := by
  unfold pulsesChanged
  iterate 40
    all_goals try
      first | intro _ | with_reducible assumption | with_reducible apply Keeps_ite | with_reducible apply Keeps_foldl
            | with_reducible apply pulsesApply_keeps

/-- `regionChanged` keeps the queue, and the fields in order. -/
theorem regionChanged_keeps {r0 : State} (r : Nat) (was : State) {s : State} (hk : Keeps r0 s) : Keeps r0 (regionChanged r
    was s) := by
  unfold regionChanged
  iterate 40
    all_goals try
      first | with_reducible assumption | with_reducible apply inputsChanged_keeps | with_reducible apply filtersChanged_keeps
            | with_reducible apply renewSubs_keeps | with_reducible apply pulsesChanged_keeps
            | with_reducible apply arcsChanged_keeps | with_reducible apply displayChanged_keeps | dsimp only | split

/-- `setRgn` keeps the queue, and the fields in order. -/
theorem setRgn_keeps {r0 : State} (r : Nat) (x : ItnRgn) {s : State} (hk : Keeps r0 s) : Keeps r0 (setRgn r x s) := by
  unfold setRgn
  iterate 40
    all_goals try
      first | with_reducible assumption | dsimp only | with_reducible apply Keeps_mk

/-- `showRgn` keeps the queue, and the fields in order. -/
theorem showRgn_keeps {r0 : State} (r : Nat) {s : State} (hk : Keeps r0 s) : Keeps r0 (showRgn r s) := by
  unfold showRgn
  iterate 40
    all_goals try
      first | with_reducible assumption | with_reducible apply put_keeps | with_reducible apply setBit_keeps

/-- `setCopy` keeps the queue, and the fields in order. -/
theorem setCopy_keeps {r0 : State} (r : Nat) (b : Bool) (c : RegionCopy) {s : State} (hk : Keeps r0 s) : Keeps r0 (setCopy r
    b c s) := by
  unfold setCopy
  iterate 40
    all_goals try
      first | with_reducible assumption | with_reducible apply Keeps_ite | dsimp only | split | with_reducible apply Keeps_mk

/-- `putForce` keeps the queue, and the fields in order. -/
theorem putForce_keeps {r0 : State} (r : Nat) (gen : Nat) (dig : List Nat) {s : State} (hk : Keeps r0 s) : Keeps r0
    (putForce r gen dig s) := by
  unfold putForce
  iterate 40
    all_goals try
      first | with_reducible assumption | with_reducible apply put_keeps | dsimp only | with_reducible apply Keeps_mk

/-- `setDirty` keeps the queue, and the fields in order. -/
theorem setDirty_keeps {r0 : State} (r : Nat) (d : Bool) {s : State} (hk : Keeps r0 s) : Keeps r0 (setDirty r d s) := by
  unfold setDirty
  iterate 40
    all_goals try
      first | with_reducible assumption | with_reducible apply put_keeps | with_reducible apply setBit_keeps | dsimp only
            | with_reducible apply Keeps_mk

/-- `showFlash` keeps the queue, and the fields in order. -/
theorem showFlash_keeps {r0 : State} (x : Sfdp) {s : State} (hk : Keeps r0 s) : Keeps r0 (showFlash x s) := by
  unfold showFlash
  iterate 40
    all_goals try
      first | intro _ | with_reducible assumption | with_reducible apply put_keeps | with_reducible apply setBit_keeps

/-- `readCopy` keeps the queue, and the fields in order. -/
theorem readCopy_keeps {r0 : State} (noise : List Nat) (later : List Nat) (r : Nat) (b : Bool) {s : State} (hk : Keeps r0 s)
    : Keeps r0 (readCopy noise later r b s).1 := by
  unfold readCopy
  iterate 40
    all_goals try
      first | intro _ | with_reducible assumption | with_reducible apply Keeps_ite | with_reducible apply permanent_keeps
            | with_reducible apply transient_keeps

/-- `loadRegion` keeps the queue, and the fields in order. -/
theorem loadRegion_keeps {r0 : State} (r : Nat) (b : Bool) (first : Bool) (ws : List (Nat × Nat)) {s : State} (hk : Keeps r0
    s) : Keeps r0 (loadRegion r b first ws s) := by
  unfold loadRegion
  iterate 40
    all_goals try
      first | with_reducible assumption | with_reducible apply put_keeps | with_reducible apply setBit_keeps
            | with_reducible apply Keeps_ite | dsimp only | split | with_reducible apply Keeps_mk

/-- `defaultRegion` keeps the queue, and the fields in order. -/
theorem defaultRegion_keeps {r0 : State} (r : Nat) {s : State} (hk : Keeps r0 s) : Keeps r0 (defaultRegion r s) := by
  unfold defaultRegion
  iterate 40
    all_goals try
      first | with_reducible assumption | with_reducible apply put_keeps | with_reducible apply raise_keeps

/-- `readRegion` keeps the queue, and the fields in order. -/
theorem readRegion_keeps {r0 : State} (noise later : List Nat) (r : Nat) {s : State} (hk : Keeps r0 s) :
    Keeps r0 (readRegion noise later r s) := by
  have h1 := readCopy_keeps noise later r (firstB (copiesAt s r)) hk
  have h2 := readCopy_keeps noise later r (!firstB (copiesAt s r)) (raise_keeps (e := 64) (d := r) h1)
  unfold readRegion
  dsimp only
  split
  · rename_i heq
    rw [heq] at h1
    exact loadRegion_keeps r _ true _ h1
  · rename_i heq
    rw [heq] at h1 h2
    split
    · rename_i heq2
      rw [heq2] at h2
      exact loadRegion_keeps r _ false _ h2
    · rename_i heq2
      rw [heq2] at h2
      exact defaultRegion_keeps r h2
/-- Reading the regions keeps the queue, and the fields in order. -/
theorem readRegions_keeps {r0 : State} (noise l : List Nat) {s : State} (hk : Keeps r0 s) :
    Keeps r0 (readRegions noise l s) := by
  induction l generalizing s with
  | nil => exact hk
  | cons r l ih => exact ih (readRegion_keeps noise l r hk)

/-- `haltController` keeps the queue, and the fields in order. -/
theorem haltController_keeps {r0 : State} {s : State} (hk : Keeps r0 s) : Keeps r0 (haltController s) := by
  unfold haltController
  iterate 40
    all_goals try
      first | with_reducible assumption | with_reducible apply put_keeps | with_reducible apply evalDState_keeps | dsimp only
            | with_reducible apply Keeps_mk

/-- `noImage` keeps the queue, and the fields in order. -/
theorem noImage_keeps {r0 : State} {s : State} (hk : Keeps r0 s) : Keeps r0 (noImage s) := by
  unfold noImage
  iterate 40
    all_goals try
      first | intro _ | with_reducible assumption | with_reducible apply put_keeps | with_reducible apply raise_keeps
            | with_reducible apply Keeps_foldl | with_reducible apply haltController_keeps

/-- `takeDirectory` keeps the queue, and the fields in order. -/
theorem takeDirectory_keeps {r0 : State} {s : State} (hk : Keeps r0 s) : Keeps r0 (takeDirectory s) := by
  unfold takeDirectory
  iterate 40
    all_goals try
      first | with_reducible assumption | with_reducible apply raise_keeps | with_reducible apply Keeps_ite | dsimp only
            | split | with_reducible apply Keeps_mk

/-- `itineraryRead` keeps the queue, and the fields in order. -/
theorem itineraryRead_keeps {r0 : State} (noise : List Nat) {s : State} (hk : Keeps r0 s) : Keeps r0 (itineraryRead noise s)
    := by
  unfold itineraryRead
  iterate 40
    all_goals try
      first | with_reducible assumption | with_reducible apply put_keeps | with_reducible apply Keeps_ite
            | with_reducible apply noImage_keeps | with_reducible apply takeDirectory_keeps
            | with_reducible apply showFlash_keeps | with_reducible apply readRegions_keeps
            | with_reducible apply haltController_keeps | dsimp only | split

/-- `takeRead` keeps the queue, and the fields in order. -/
theorem takeRead_keeps {r0 : State} {s : State} (hk : Keeps r0 s) : Keeps r0 (takeRead s) := by
  unfold takeRead
  iterate 40
    all_goals try
      first | intro _ | with_reducible assumption | with_reducible apply Keeps_foldl | with_reducible apply putForce_keeps
            | dsimp only | (refine flds_keeps hk rfl (fun y => ?_); dsimp only; exact Rising_readFlds _ y)

/-- `itineraryLoaded` keeps the queue, and the fields in order. -/
theorem itineraryLoaded_keeps {r0 : State} {s : State} (hk : Keeps r0 s) : Keeps r0 (itineraryLoaded s) := by
  unfold itineraryLoaded
  iterate 40
    all_goals try
      first | with_reducible assumption | with_reducible apply put_keeps | with_reducible apply Keeps_ite
            | with_reducible apply takeRead_keeps | with_reducible apply cvnStart_keeps | with_reducible apply seek_keeps

/-- `pkAccept` keeps the queue, and the fields in order. -/
theorem pkAccept_keeps {r0 : State} (r : Nat) (u : Update) {s : State} (hk : Keeps r0 s) : Keeps r0 (pkAccept r u s) := by
  unfold pkAccept
  iterate 40
    all_goals try
      first | with_reducible assumption | with_reducible apply put_keeps | with_reducible apply raise_keeps
            | with_reducible apply Keeps_ite | with_reducible apply showRgn_keeps | with_reducible apply setRgn_keeps

/-- `pkSubmit` keeps the queue, and the fields in order. -/
theorem pkSubmit_keeps {r0 : State} {s : State} (hk : Keeps r0 s) : Keeps r0 (pkSubmit s) := by
  unfold pkSubmit
  iterate 40
    all_goals try
      first | with_reducible assumption | with_reducible apply put_keeps | with_reducible apply raise_keeps
            | with_reducible apply Keeps_ite | with_reducible apply pkAccept_keeps | dsimp only | split
            | with_reducible apply Keeps_mk

/-- `pkAppend` keeps the queue, and the fields in order. -/
theorem pkAppend_keeps {r0 : State} {s : State} (hk : Keeps r0 s) : Keeps r0 (pkAppend s) := by
  unfold pkAppend
  iterate 40
    all_goals try
      first | with_reducible assumption | with_reducible apply Keeps_ite | dsimp only | split | with_reducible apply Keeps_mk

/-- `pkDo` keeps the queue, and the fields in order. -/
theorem pkDo_keeps {r0 : State} (op : Nat) {s : State} (hk : Keeps r0 s) : Keeps r0 (pkDo op s) := by
  unfold pkDo
  iterate 40
    all_goals try
      first | with_reducible assumption | with_reducible apply pkAppend_keeps | with_reducible apply pkSubmit_keeps
            | dsimp only | split | with_reducible apply Keeps_mk

/-- `pkOp` keeps the queue, and the fields in order. -/
theorem pkOp_keeps {r0 : State} (op : Nat) {s : State} (hk : Keeps r0 s) : Keeps r0 (pkOp op s) := by
  unfold pkOp
  iterate 40
    all_goals try
      first | with_reducible assumption | with_reducible apply put_keeps | with_reducible apply Keeps_ite
            | with_reducible apply pkDo_keeps | dsimp only | split | with_reducible apply Keeps_mk

/-- `pkResume` keeps the queue, and the fields in order. -/
theorem pkResume_keeps {r0 : State} {s : State} (hk : Keeps r0 s) : Keeps r0 (pkResume s) := by
  unfold pkResume
  iterate 40
    all_goals try
      first | with_reducible assumption | with_reducible apply put_keeps | with_reducible apply pkDo_keeps | dsimp only
            | split | with_reducible apply Keeps_mk

/-- `startJob` keeps the queue, and the fields in order. -/
theorem startJob_keeps {r0 : State} {s : State} (hk : Keeps r0 s) : Keeps r0 (startJob s) := by
  unfold startJob
  iterate 40
    all_goals try
      first | with_reducible assumption | with_reducible apply setCopy_keeps | dsimp only | split

/-- `pushJob` keeps the queue, and the fields in order. -/
theorem pushJob_keeps {r0 : State} (r : Nat) {s : State} (hk : Keeps r0 s) : Keeps r0 (pushJob r s) := by
  unfold pushJob
  iterate 40
    all_goals try
      first | with_reducible assumption | with_reducible apply Keeps_ite | with_reducible apply startJob_keeps | dsimp only
            | split | with_reducible apply Keeps_mk

/-- `popJob` keeps the queue, and the fields in order. -/
theorem popJob_keeps {r0 : State} {s : State} (hk : Keeps r0 s) : Keeps r0 (popJob s) := by
  unfold popJob
  iterate 40
    all_goals try
      first | with_reducible assumption | with_reducible apply startJob_keeps | dsimp only | with_reducible apply Keeps_mk

/-- `updFinish` keeps the queue, and the fields in order. -/
theorem updFinish_keeps {r0 : State} (r : Nat) {s : State} (hk : Keeps r0 s) : Keeps r0 (updFinish r s) := by
  unfold updFinish
  iterate 40
    all_goals try
      first | with_reducible assumption | with_reducible apply put_keeps | with_reducible apply Keeps_ite
            | with_reducible apply showRgn_keeps | with_reducible apply setRgn_keeps

/-- `updFail` keeps the queue, and the fields in order. -/
theorem updFail_keeps {r0 : State} (r : Nat) (code : Nat) {s : State} (hk : Keeps r0 s) : Keeps r0 (updFail r code s) := by
  unfold updFail
  iterate 40
    all_goals try
      first | with_reducible assumption | with_reducible apply put_keeps | with_reducible apply raise_keeps
            | with_reducible apply updFinish_keeps

/-- `enterWrite` keeps the queue, and the fields in order. -/
theorem enterWrite_keeps {r0 : State} (r : Nat) {s : State} (hk : Keeps r0 s) : Keeps r0 (enterWrite r s) := by
  unfold enterWrite
  iterate 40
    all_goals try
      first | with_reducible assumption | with_reducible apply put_keeps | with_reducible apply pushJob_keeps
            | with_reducible apply setRgn_keeps

/-- `enterMirror` keeps the queue, and the fields in order. -/
theorem enterMirror_keeps {r0 : State} (r : Nat) {s : State} (hk : Keeps r0 s) : Keeps r0 (enterMirror r s) := by
  unfold enterMirror
  iterate 40
    all_goals try
      first | with_reducible assumption | with_reducible apply put_keeps | with_reducible apply pushJob_keeps
            | with_reducible apply setRgn_keeps

/-- `updValidate` keeps the queue, and the fields in order. -/
theorem updValidate_keeps {r0 : State} (r : Nat) {s : State} (hk : Keeps r0 s) : Keeps r0 (updValidate r s) := by
  unfold updValidate
  iterate 40
    all_goals try
      first | with_reducible assumption | with_reducible apply Keeps_ite | with_reducible apply updFail_keeps
            | with_reducible apply pushJob_keeps | with_reducible apply setRgn_keeps | with_reducible apply enterWrite_keeps
            | dsimp only | split

/-- `updWritten` keeps the queue, and the fields in order. -/
theorem updWritten_keeps {r0 : State} (r : Nat) {s : State} (hk : Keeps r0 s) : Keeps r0 (updWritten r s) := by
  unfold updWritten
  iterate 40
    all_goals try
      first | with_reducible assumption | with_reducible apply put_keeps | with_reducible apply setCopy_keeps | dsimp only
            | split

/-- `waitExpire` keeps the queue, and the fields in order. -/
theorem waitExpire_keeps {r0 : State} (r : Nat) {s : State} (hk : Keeps r0 s) : Keeps r0 (waitExpire r s) := by
  unfold waitExpire
  iterate 40
    all_goals try
      first | with_reducible assumption | with_reducible apply raise_keeps | with_reducible apply setRgn_keeps

/-- `enterWait` keeps the queue, and the fields in order. -/
theorem enterWait_keeps {r0 : State} (r : Fin 11) (u : Update) {s : State} (hk : Keeps r0 s) : Keeps r0 (enterWait r u s) :=
    by
  unfold enterWait
  iterate 40
    all_goals try
      first | with_reducible assumption | with_reducible apply put_keeps | with_reducible apply Keeps_ite
            | with_reducible apply sendMsg_keeps | with_reducible apply setRgn_keeps | with_reducible apply waitExpire_keeps

/-- `spoilCopy` keeps the queue, and the fields in order. -/
theorem spoilCopy_keeps {r0 : State} (r : Nat) (b : Bool) {s : State} (hk : Keeps r0 s) : Keeps r0 (spoilCopy r b s) := by
  unfold spoilCopy
  iterate 40
    all_goals try
      first | with_reducible assumption | with_reducible apply setCopy_keeps

/-- `updReadback` keeps the queue, and the fields in order. -/
theorem updReadback_keeps {r0 : State} (r : Fin 11) (same : Bool) {s : State} (hk : Keeps r0 s) : Keeps r0 (updReadback r
    same s) := by
  unfold updReadback
  iterate 40
    all_goals try
      first | with_reducible assumption | with_reducible apply put_keeps | with_reducible apply Keeps_ite
            | with_reducible apply enterWait_keeps | with_reducible apply popJob_keeps | with_reducible apply startJob_keeps
            | with_reducible apply setRgn_keeps | with_reducible apply updFail_keeps | with_reducible apply spoilCopy_keeps
            | dsimp only | split

/-- `updCommit` keeps the queue, and the fields in order. -/
theorem updCommit_keeps {r0 : State} (r : Nat) (u : Update) {s : State} (hk : Keeps r0 s) : Keeps r0 (updCommit r u s) := by
  unfold updCommit
  iterate 40
    all_goals try
      first | with_reducible assumption | with_reducible apply put_keeps | with_reducible apply inc_keeps
            | with_reducible apply setCopy_keeps | with_reducible apply setDirty_keeps | dsimp only
            | with_reducible apply Keeps_mk

/-- `updLoad` keeps the queue, and the fields in order, where the fields it loads stand in order. -/
theorem updLoad_keeps {r0 : State} (r : Nat) (u : Update) (m : SMap Nat) {s : State} (hk : Keeps r0 s)
    (hm : Rising s.flds → Rising m) : Keeps r0 (updLoad r u m s) := by
  have h0 : Keeps r0 { s with flds := m } := flds_keeps (t := { s with flds := m }) hk rfl hm
  unfold updLoad
  dsimp only
  split
  · exact put_keeps hk
  · with_reducible apply regionChanged_keeps
    with_reducible apply Keeps_mk
    exact setDirty_keeps r false (putForce_keeps r _ _ h0)

/-- `applyFields` keeps the queue, and the fields in order. -/
theorem applyFields_keeps {r0 : State} (r : Nat) (u : Update) {s : State} (hk : Keeps r0 s) : Keeps r0 (applyFields r u s)
    := by
  unfold applyFields
  iterate 40
    all_goals try
      first | intro _ | with_reducible assumption | with_reducible apply Keeps_ite | with_reducible apply updFail_keeps
            | with_reducible apply updCommit_keeps | with_reducible apply rateCloseAll_keeps
            | with_reducible apply enterMirror_keeps | with_reducible apply updLoad_keeps | dsimp only
            | exact Rising_loadWrites _ _ _ (by assumption)

/-- `applyFirmware` keeps the queue, and the fields in order. -/
theorem applyFirmware_keeps {r0 : State} {s : State} (hk : Keeps r0 s) : Keeps r0 (applyFirmware s) := by
  unfold applyFirmware
  iterate 40
    all_goals try
      first | with_reducible assumption | with_reducible apply put_keeps | dsimp only | with_reducible apply Keeps_mk

/-- `updApply` keeps the queue, and the fields in order. -/
theorem updApply_keeps {r0 : State} (r : Nat) {s : State} (hk : Keeps r0 s) : Keeps r0 (updApply r s) := by
  unfold updApply
  iterate 40
    all_goals try
      first | with_reducible assumption | with_reducible apply put_keeps | with_reducible apply Keeps_ite
            | with_reducible apply applyFirmware_keeps | with_reducible apply applyFields_keeps | dsimp only | split

/-- `twinWaitEnd` keeps the queue, and the fields in order. -/
theorem twinWaitEnd_keeps {r0 : State} (r : Nat) {s : State} (hk : Keeps r0 s) : Keeps r0 (twinWaitEnd r s) := by
  unfold twinWaitEnd
  iterate 40
    all_goals try
      first | with_reducible assumption | with_reducible apply Keeps_ite | with_reducible apply waitExpire_keeps

/-- `firmwareReady` keeps the queue, and the fields in order. -/
theorem firmwareReady_keeps {r0 : State} {s : State} (hk : Keeps r0 s) : Keeps r0 (firmwareReady s) := by
  unfold firmwareReady
  iterate 40
    all_goals try
      first | with_reducible assumption | with_reducible apply Keeps_ite | with_reducible apply enterMirror_keeps
            | with_reducible apply putForce_keeps | with_reducible apply updCommit_keeps | dsimp only | split

/-- `updMirror` keeps the queue, and the fields in order. -/
theorem updMirror_keeps {r0 : State} (r : Nat) (same : Bool) {s : State} (hk : Keeps r0 s) : Keeps r0 (updMirror r same s)
    := by
  unfold updMirror
  iterate 40
    all_goals try
      first | with_reducible assumption | with_reducible apply put_keeps | with_reducible apply raise_keeps
            | with_reducible apply Keeps_ite | with_reducible apply popJob_keeps | with_reducible apply setCopy_keeps
            | with_reducible apply enterWrite_keeps | with_reducible apply updFinish_keeps
            | with_reducible apply startJob_keeps | with_reducible apply setRgn_keeps | with_reducible apply updFail_keeps
            | with_reducible apply spoilCopy_keeps

/-- `startMirrors` keeps the queue, and the fields in order. -/
theorem startMirrors_keeps {r0 : State} {s : State} (hk : Keeps r0 s) : Keeps r0 (startMirrors s) := by
  unfold startMirrors
  iterate 40
    all_goals try
      first | intro _ | with_reducible assumption | with_reducible apply Keeps_ite | with_reducible apply Keeps_foldl
            | with_reducible apply enterMirror_keeps

/-- `lateChanged` keeps the queue, and the fields in order. -/
theorem lateChanged_keeps {r0 : State} (r : Nat) (was : State) {s : State} (hk : Keeps r0 s) : Keeps r0 (lateChanged r was
    s) := by
  unfold lateChanged
  iterate 40
    all_goals try
      first | with_reducible assumption | with_reducible apply Keeps_ite | with_reducible apply seek_keeps
            | with_reducible apply setTst_keeps | with_reducible apply toSolo_keeps | with_reducible apply cvnStart_keeps
            | with_reducible apply cvnStop_keeps | dsimp only | split | with_reducible apply Keeps_mk

/-- `liveFields` keeps the queue, and the fields in order. -/
theorem liveFields_keeps {r0 : State} (addr : Nat) (w : Nat) {s : State} (hk : Keeps r0 s) : Keeps r0 (liveFields addr w s)
    := by
  unfold liveFields
  iterate 40
    all_goals try
      first | intro _ | with_reducible assumption | with_reducible apply setDirty_keeps | dsimp only
            | (refine flds_keeps hk rfl (fun y => ?_); dsimp only; exact Rising_putWrite _ _ y) | split

/-- `liveWrite` keeps the queue, and the fields in order. -/
theorem liveWrite_keeps {r0 : State} (addr : Nat) (w : Nat) {s : State} (hk : Keeps r0 s) : Keeps r0 (liveWrite addr w s) :=
    by
  unfold liveWrite
  iterate 40
    all_goals try
      first | with_reducible assumption | with_reducible apply lateChanged_keeps | with_reducible apply regionChanged_keeps
            | with_reducible apply liveFields_keeps | dsimp only | split

/-! ### Porter -/

/-- `putCal` keeps the queue, and the fields in order. -/
theorem putCal_keeps {r0 : State} (c : Cal) {s : State} (hk : Keeps r0 s) : Keeps r0 (putCal c s) := by
  unfold putCal
  iterate 40
    all_goals try
      first | with_reducible assumption | with_reducible apply put_keeps | dsimp only | with_reducible apply Keeps_mk

/-- `capture` keeps the queue, and the fields in order. -/
theorem capture_keeps {r0 : State} (k : Nat) {s : State} (hk : Keeps r0 s) : Keeps r0 (capture k s) := by
  unfold capture
  iterate 40
    all_goals try
      first | with_reducible assumption | with_reducible apply put_keeps | with_reducible apply setBit_keeps
            | with_reducible apply inc_keeps | with_reducible apply Keeps_ite

/-- `releaseSlot` keeps the queue, and the fields in order. -/
theorem releaseSlot_keeps {r0 : State} (k : Nat) {s : State} (hk : Keeps r0 s) : Keeps r0 (releaseSlot k s) := by
  unfold releaseSlot
  iterate 40
    all_goals try
      first | with_reducible assumption | with_reducible apply put_keeps

/-- `fireRecord` keeps the queue, and the fields in order. -/
theorem fireRecord_keeps {r0 : State} (x : Nat × Nat) {s : State} (hk : Keeps r0 s) : Keeps r0 (fireRecord x s) := by
  unfold fireRecord
  iterate 40
    all_goals try
      first | with_reducible assumption | with_reducible apply recordEvt_keeps | with_reducible apply Keeps_ite
            | with_reducible apply releaseSlot_keeps

/-- `fireAlert` keeps the queue, and the fields in order. -/
theorem fireAlert_keeps {r0 : State} (x : Nat × Nat) {s : State} (hk : Keeps r0 s) : Keeps r0 (fireAlert x s) := by
  unfold fireAlert
  iterate 40
    all_goals try
      first | intro _ | with_reducible assumption | with_reducible apply Keeps_ite | dsimp only
            | (refine flds_keeps hk rfl (fun y => ?_); dsimp only; exact Rising_fput _ _ _ _ y)

/-- `fireLock` keeps the queue, and the fields in order. -/
theorem fireLock_keeps {r0 : State} (x : Nat × Nat) {s : State} (hk : Keeps r0 s) : Keeps r0 (fireLock x s) := by
  unfold fireLock
  iterate 40
    all_goals try
      first | with_reducible assumption | with_reducible apply put_keeps | with_reducible apply Keeps_ite

/-- `firmwareSteps` keeps the queue, and the fields in order. -/
theorem firmwareSteps_keeps {r0 : State} (xs : List (Nat × Nat)) {s : State} (hk : Keeps r0 s) : Keeps r0 (firmwareSteps xs
    s) := by
  unfold firmwareSteps
  iterate 40
    all_goals try
      first | intro _ | with_reducible assumption | with_reducible apply Keeps_foldl | with_reducible apply fireLock_keeps
            | with_reducible apply fireAlert_keeps | with_reducible apply fireRecord_keeps

/-- `runDeferred` keeps the queue, and the fields in order. -/
theorem runDeferred_keeps {r0 : State} {s : State} (hk : Keeps r0 s) : Keeps r0 (runDeferred s) := by
  unfold runDeferred
  iterate 40
    all_goals try
      first | with_reducible assumption | with_reducible apply firmwareSteps_keeps | dsimp only
            | with_reducible apply Keeps_mk

/-- `fire` keeps the queue, and the fields in order. -/
theorem fire_keeps {r0 : State} (xs : List (Nat × Nat)) {s : State} (hk : Keeps r0 s) : Keeps r0 (fire xs s) := by
  unfold fire
  iterate 40
    all_goals try
      first | intro _ | with_reducible assumption | with_reducible apply put_keeps | with_reducible apply Keeps_ite
            | with_reducible apply Keeps_foldl | with_reducible apply capture_keeps | with_reducible apply firmwareSteps_keeps
            | with_reducible apply tamperWipe_keeps | dsimp only | split | with_reducible apply Keeps_mk

/-- `integrity` keeps the queue, and the fields in order. -/
theorem integrity_keeps {r0 : State} (cause : Nat) {s : State} (hk : Keeps r0 s) : Keeps r0 (integrity cause s) := by
  unfold integrity
  iterate 40
    all_goals try
      first | with_reducible assumption | with_reducible apply put_keeps | with_reducible apply fire_keeps | dsimp only
            | split

/-- `resetLatch` keeps the queue, and the fields in order. -/
theorem resetLatch_keeps {r0 : State} (i : Nat) {s : State} (hk : Keeps r0 s) : Keeps r0 (resetLatch i s) := by
  unfold resetLatch
  iterate 40
    all_goals try
      first | intro _ | with_reducible assumption | with_reducible apply put_keeps | with_reducible apply Keeps_foldl

/-- `latchFromProfile` keeps the queue, and the fields in order. -/
theorem latchFromProfile_keeps {r0 : State} (i : Nat) {s : State} (hk : Keeps r0 s) : Keeps r0 (latchFromProfile i s) := by
  unfold latchFromProfile
  iterate 40
    all_goals try
      first | intro _ | with_reducible assumption | with_reducible apply put_keeps | with_reducible apply Keeps_foldl

/-- `profileCompare` keeps the queue, and the fields in order. -/
theorem profileCompare_keeps {r0 : State} {s : State} (hk : Keeps r0 s) : Keeps r0 (profileCompare s) := by
  unfold profileCompare
  iterate 40
    all_goals try
      first | intro _ | with_reducible assumption | with_reducible apply Keeps_ite | with_reducible apply Keeps_foldl
            | with_reducible apply latchFromProfile_keeps | with_reducible apply integrity_keeps

/-- `profileWrite` keeps the queue, and the fields in order. -/
theorem profileWrite_keeps {r0 : State} (i : Nat) {s : State} (hk : Keeps r0 s) : Keeps r0 (profileWrite i s) := by
  unfold profileWrite
  iterate 40
    all_goals try
      first | intro _ | with_reducible assumption | with_reducible apply Keeps_foldl | dsimp only | split
            | with_reducible apply Keeps_mk

/-- `porterWrite` keeps the queue, and the fields in order. -/
theorem porterWrite_keeps {r0 : State} (i : Nat) (w : Nat) {s : State} (hk : Keeps r0 s) : Keeps r0 (porterWrite i w s) :=
    by
  unfold porterWrite
  iterate 40
    all_goals try
      first | intro _ | with_reducible assumption | with_reducible apply put_keeps | with_reducible apply Keeps_ite
            | with_reducible apply Keeps_foldl | with_reducible apply onVault_keeps | with_reducible apply profileWrite_keeps

/-- `shadowCheck` keeps the queue, and the fields in order. -/
theorem shadowCheck_keeps {r0 : State} (bad : List Nat) (cal : Bool) (kb : Bool) {s : State} (hk : Keeps r0 s) : Keeps r0
    (shadowCheck bad cal kb s) := by
  unfold shadowCheck
  iterate 40
    all_goals try
      first | intro _ | with_reducible assumption | with_reducible apply put_keeps | with_reducible apply Keeps_ite
            | with_reducible apply Keeps_foldl | with_reducible apply resetLatch_keeps | with_reducible apply loseKb_keeps
            | with_reducible apply integrity_keeps

/-- `porterClear` keeps the queue, and the fields in order. -/
theorem porterClear_keeps {r0 : State} {s : State} (hk : Keeps r0 s) : Keeps r0 (porterClear s) := by
  unfold porterClear
  iterate 40
    all_goals try
      first | intro _ | with_reducible assumption | with_reducible apply Keeps_foldl | with_reducible apply resetLatch_keeps
            | dsimp only | (refine flds_keeps hk rfl (fun y => ?_); dsimp only; exact Rising_keepCls _ _ y)

/-- `brownOut` keeps the queue, and the fields in order. -/
theorem brownOut_keeps {r0 : State} {s : State} (hk : Keeps r0 s) : Keeps r0 (brownOut s) := by
  unfold brownOut
  iterate 40
    all_goals try
      first | with_reducible assumption | with_reducible apply Keeps_ite | with_reducible apply loseKb_keeps
            | with_reducible apply porterClear_keeps | dsimp only | split | with_reducible apply Keeps_mk

/-- `brownRelease` keeps the queue, and the fields in order. -/
theorem brownRelease_keeps {r0 : State} {s : State} (hk : Keeps r0 s) : Keeps r0 (brownRelease s) := by
  unfold brownRelease
  iterate 40
    all_goals try
      first | with_reducible assumption | with_reducible apply draw_keeps | with_reducible apply putCal_keeps | dsimp only
            | with_reducible apply Keeps_mk

/-- `reportLost` keeps the queue, and the fields in order. -/
theorem reportLost_keeps {r0 : State} {s : State} (hk : Keeps r0 s) : Keeps r0 (reportLost s) := by
  unfold reportLost
  iterate 40
    all_goals try
      first | intro _ | with_reducible assumption | with_reducible apply put_keeps | with_reducible apply recordEvt_keeps
            | with_reducible apply Keeps_ite | with_reducible apply Keeps_foldl | with_reducible apply fireAlert_keeps
            | dsimp only | split | with_reducible apply Keeps_mk

/-- `calendarSecond` keeps the queue, and the fields in order. -/
theorem calendarSecond_keeps {r0 : State} {s : State} (hk : Keeps r0 s) : Keeps r0 (calendarSecond s) := by
  unfold calendarSecond
  iterate 40
    all_goals try
      first | with_reducible assumption | with_reducible apply put_keeps | with_reducible apply Keeps_ite
            | with_reducible apply putCal_keeps | with_reducible apply fire_keeps | dsimp only | split
            | with_reducible apply Keeps_mk

/-- `calendarCommit` keeps the queue, and the fields in order. -/
theorem calendarCommit_keeps {r0 : State} {s : State} (hk : Keeps r0 s) : Keeps r0 (calendarCommit s) := by
  unfold calendarCommit
  iterate 40
    all_goals try
      first | with_reducible assumption | with_reducible apply put_keeps | with_reducible apply Keeps_ite
            | with_reducible apply putCal_keeps

/-- `crystalComp` keeps the queue, and the fields in order. -/
theorem crystalComp_keeps {r0 : State} (tp : Rat) {s : State} (hk : Keeps r0 s) : Keeps r0 (crystalComp tp s) := by
  unfold crystalComp
  iterate 40
    all_goals try
      first | with_reducible assumption | dsimp only | with_reducible apply Keeps_mk

/-- `pclkStop` keeps the queue, and the fields in order. -/
theorem pclkStop_keeps {r0 : State} {s : State} (hk : Keeps r0 s) : Keeps r0 (pclkStop s) := by
  unfold pclkStop
  iterate 40
    all_goals try
      first | with_reducible assumption | with_reducible apply put_keeps | with_reducible apply integrity_keeps | dsimp only
            | with_reducible apply Keeps_mk

/-- `batteryCheck` keeps the queue, and the fields in order. -/
theorem batteryCheck_keeps {r0 : State} (vbat : Rat) {s : State} (hk : Keeps r0 s) : Keeps r0 (batteryCheck vbat s) := by
  unfold batteryCheck
  iterate 40
    all_goals try
      first | with_reducible assumption | with_reducible apply setBit_keeps | with_reducible apply Keeps_ite
            | with_reducible apply integrity_keeps

/-- `filterSample` keeps the queue, and the fields in order. -/
theorem filterSample_keeps {r0 : State} (x : PrtSample) {s : State} (hk : Keeps r0 s) : Keeps r0 (filterSample x s).2 := by
  unfold filterSample
  iterate 40
    all_goals try
      first | with_reducible assumption | with_reducible apply put_keeps | with_reducible apply Keeps_ite | dsimp only | split
            | with_reducible apply Keeps_mk

/-- `sourceSample` keeps the queue, and the fields in order. -/
theorem sourceSample_keeps {r0 : State} (xs : List PrtSample) {s : State} (hk : Keeps r0 s) : Keeps r0 (sourceSample xs s)
    := by
  have hf : ∀ (l : List PrtSample) (a : List (Nat × Nat) × State), Keeps r0 a.2 → Keeps r0 (l.foldl (fun (a : List (Nat ×
    Nat) × State) x =>
      match filterSample x a.2 with
      | (some k, s) => (a.1 ++ [(k, 0)], s)
      | (none, s) => (a.1, s)) a).2 := by
    intro l
    induction l with
    | nil => exact fun a h => h
    | cons x l ih =>
      intro a h
      have h1 := filterSample_keeps x h
      refine ih _ ?_
      dsimp only
      rcases hq : filterSample x a.2 with ⟨_ | k, t⟩ <;> rw [hq] at h1 <;> exact h1
  unfold sourceSample
  dsimp only
  split
  · exact hf xs _ hk
  · exact fire_keeps _ (hf xs _ hk)

/-- `slotClear` keeps the queue, and the fields in order. -/
theorem slotClear_keeps {r0 : State} (mask : Nat) {s : State} (hk : Keeps r0 s) : Keeps r0 (slotClear mask s) := by
  unfold slotClear
  iterate 40
    all_goals try
      first | intro _ | with_reducible assumption | with_reducible apply Keeps_ite | with_reducible apply Keeps_foldl
            | with_reducible apply releaseSlot_keeps

/-! ### Faults -/

/-- `sramLost` keeps the queue, and the fields in order. -/
theorem sramLost_keeps {r0 : State} (d : SramData) {s : State} (hk : Keeps r0 s) : Keeps r0 (sramLost d s) := by
  unfold sramLost
  iterate 40
    all_goals try
      first | with_reducible assumption | with_reducible apply put_keeps | with_reducible apply Keeps_ite
            | with_reducible apply linkDone_keeps | with_reducible apply linkAnswer_keeps | with_reducible apply capture_keeps
            | dsimp only | split | with_reducible apply Keeps_mk

/-- `sramRetire` keeps the queue, and the fields in order. -/
theorem sramRetire_keeps {r0 : State} (bank : Nat) (row : Nat) (d : SramData) (scrub : Bool) {s : State} (hk : Keeps r0 s) :
    Keeps r0 (sramRetire bank row d scrub s) := by
  unfold sramRetire
  iterate 40
    all_goals try
      first | intro _ | with_reducible assumption | with_reducible apply inc_keeps | with_reducible apply Keeps_ite
            | with_reducible apply permanent_keeps | dsimp only | split | with_reducible apply Keeps_mk

/-- `sramError` keeps the queue, and the fields in order. -/
theorem sramError_keeps {r0 : State} (bank : Nat) (row : Nat) (d : SramData) (pass : Bool) (scrub : Bool) {s : State} (hk :
    Keeps r0 s) : Keeps r0 (sramError bank row d pass scrub s) := by
  unfold sramError
  iterate 40
    all_goals try
      first | with_reducible assumption | with_reducible apply Keeps_ite | with_reducible apply takeInjection_keeps
            | with_reducible apply sramLost_keeps | with_reducible apply transient_keeps
            | with_reducible apply sramRetire_keeps

/-- `slotCopyBad` keeps the queue, and the fields in order. -/
theorem slotCopyBad_keeps {r0 : State} (i : Nat) (b : Bool) {s : State} (hk : Keeps r0 s) : Keeps r0 (slotCopyBad i b s) :=
    by
  unfold slotCopyBad
  iterate 40
    all_goals try
      first | with_reducible assumption | with_reducible apply put_keeps | with_reducible apply raise_keeps
            | with_reducible apply Keeps_ite | with_reducible apply setSlotKey_keeps | dsimp only | split

/-- `fenceRecord` keeps the queue, and the fields in order. -/
theorem fenceRecord_keeps {r0 : State} (x : VaultRec) {s : State} (hk : Keeps r0 s) : Keeps r0 (fenceRecord x s) := by
  unfold fenceRecord
  iterate 40
    all_goals try
      first | with_reducible assumption | with_reducible apply Keeps_ite | with_reducible apply placeRec_keeps
            | with_reducible apply setPos_keeps | with_reducible apply putCopies_keeps
            | with_reducible apply slotCopyBad_keeps | dsimp only | split | with_reducible apply Keeps_mk

/-- `vaultRetire` keeps the queue, and the fields in order. -/
theorem vaultRetire_keeps {r0 : State} (x : VaultRec) {s : State} (hk : Keeps r0 s) : Keeps r0 (vaultRetire x s) := by
  unfold vaultRetire
  iterate 40
    all_goals try
      first | with_reducible assumption | with_reducible apply Keeps_ite | with_reducible apply retireBlock_keeps
            | with_reducible apply fenceRecord_keeps

/-- `vaultReadback` keeps the queue, and the fields in order. -/
theorem vaultReadback_keeps {r0 : State} (x : VaultRec) (pass : Bool) {s : State} (hk : Keeps r0 s) : Keeps r0
    (vaultReadback x pass s) := by
  unfold vaultReadback
  iterate 40
    all_goals try
      first | with_reducible assumption | with_reducible apply Keeps_ite | with_reducible apply transient_keeps
            | with_reducible apply vaultRetire_keeps

/-- `coreMismatch` keeps the queue, and the fields in order. -/
theorem coreMismatch_keeps {r0 : State} (pass : Bool) {s : State} (hk : Keeps r0 s) : Keeps r0 (coreMismatch pass s) := by
  unfold coreMismatch
  iterate 40
    all_goals try
      first | with_reducible assumption | with_reducible apply Keeps_ite | with_reducible apply takeInjection_keeps
            | with_reducible apply transient_keeps | with_reducible apply makeFailed_keeps
            | with_reducible apply permanent_keeps

/-- `pllLoss` keeps the queue, and the fields in order. -/
theorem pllLoss_keeps {r0 : State} {s : State} (hk : Keeps r0 s) : Keeps r0 (pllLoss s) := by
  unfold pllLoss
  iterate 40
    all_goals try
      first | with_reducible assumption | with_reducible apply put_keeps | with_reducible apply lift_keeps
            | with_reducible apply raise_keeps

/-- `pllRelock` keeps the queue, and the fields in order. -/
theorem pllRelock_keeps {r0 : State} {s : State} (hk : Keeps r0 s) : Keeps r0 (pllRelock s) := by
  unfold pllRelock
  iterate 40
    all_goals try
      first | with_reducible assumption | with_reducible apply lower_keeps | with_reducible apply transient_keeps | dsimp only
            | with_reducible apply Keeps_mk

/-- `pllTimeout` keeps the queue, and the fields in order. -/
theorem pllTimeout_keeps {r0 : State} {s : State} (hk : Keeps r0 s) : Keeps r0 (pllTimeout s) := by
  unfold pllTimeout
  iterate 40
    all_goals try
      first | with_reducible assumption | with_reducible apply makeFailed_keeps | with_reducible apply permanent_keeps
            | dsimp only | with_reducible apply Keeps_mk

/-- `warmRestart` keeps the queue, and the fields in order. -/
theorem warmRestart_keeps {r0 : State} {s : State} (hk : Keeps r0 s) : Keeps r0 (warmRestart s) := by
  unfold warmRestart
  iterate 40
    all_goals try
      first | with_reducible assumption | with_reducible apply put_keeps | with_reducible apply raise_keeps
            | with_reducible apply Keeps_ite | with_reducible apply permanent_keeps | dsimp only | split
            | with_reducible apply Keeps_mk

/-- `controllerRuns` keeps the queue, and the fields in order. -/
theorem controllerRuns_keeps {r0 : State} {s : State} (hk : Keeps r0 s) : Keeps r0 (controllerRuns s) := by
  unfold controllerRuns
  iterate 40
    all_goals try
      first | intro _ | with_reducible assumption | with_reducible apply putRec_keeps | with_reducible apply Keeps_ite
            | with_reducible apply Keeps_foldl | dsimp only | split | with_reducible apply Keeps_mk

/-- `restartDone` keeps the queue, and the fields in order. -/
theorem restartDone_keeps {r0 : State} {s : State} (hk : Keeps r0 s) : Keeps r0 (restartDone s) := by
  unfold restartDone
  iterate 40
    all_goals try
      first | with_reducible assumption | with_reducible apply Keeps_ite | with_reducible apply controllerRuns_keeps
            | with_reducible apply transient_keeps | with_reducible apply firmwareReady_keeps
            | with_reducible apply pkResume_keeps | with_reducible apply runDeferred_keeps | dsimp only | split
            | with_reducible apply Keeps_mk

/-- `scrubMismatch` keeps the queue, and the fields in order. -/
theorem scrubMismatch_keeps {r0 : State} (i : Nat) {s : State} (hk : Keeps r0 s) : Keeps r0 (scrubMismatch i s) := by
  unfold scrubMismatch
  iterate 40
    all_goals try
      first | with_reducible assumption | with_reducible apply put_keeps | with_reducible apply raise_keeps

/-- `scrubFault` keeps the queue, and the fields in order. -/
theorem scrubFault_keeps {r0 : State} (cls : Nat) (unit : Nat) {s : State} (hk : Keeps r0 s) : Keeps r0 (scrubFault cls unit
    s) := by
  unfold scrubFault
  iterate 40
    all_goals try
      first | with_reducible assumption | with_reducible apply put_keeps | with_reducible apply latent_keeps

/-- `loseSlot` keeps the queue, and the fields in order. -/
theorem loseSlot_keeps {r0 : State} (x : VaultRec) (p : Nat) {s : State} (hk : Keeps r0 s) : Keeps r0 (loseSlot x p s) := by
  unfold loseSlot
  iterate 40
    all_goals try
      first | with_reducible assumption | with_reducible apply Keeps_ite | with_reducible apply retireBlock_keeps | dsimp only
            | split | with_reducible apply Keeps_mk

/-- `scrubSet` keeps the queue, and the fields in order. -/
theorem scrubSet_keeps {r0 : State} (x : VaultRec) (i : Nat) (copyB : Bool) {s : State} (hk : Keeps r0 s) : Keeps r0
    (scrubSet x i copyB s) := by
  unfold scrubSet
  iterate 40
    all_goals try
      first | with_reducible assumption | with_reducible apply Keeps_ite | with_reducible apply retireBlock_keeps
            | with_reducible apply putCopies_keeps | with_reducible apply transient_keeps
            | with_reducible apply touchSet_keeps

/-- `scrubKey` keeps the queue, and the fields in order. -/
theorem scrubKey_keeps {r0 : State} (x : VaultRec) (i : Nat) (copyB : Bool) {s : State} (hk : Keeps r0 s) : Keeps r0
    (scrubKey x i copyB s) := by
  unfold scrubKey
  iterate 40
    all_goals try
      first | with_reducible assumption | with_reducible apply Keeps_ite | with_reducible apply retireBlock_keeps
            | with_reducible apply slotCopyBad_keeps | with_reducible apply transient_keeps
            | with_reducible apply setSlotKey_keeps | dsimp only | split

/-- `scrubLost` keeps the queue, and the fields in order. -/
theorem scrubLost_keeps {r0 : State} (x : VaultRec) {s : State} (hk : Keeps r0 s) : Keeps r0 (scrubLost x s) := by
  unfold scrubLost
  iterate 40
    all_goals try
      first | intro _ | with_reducible assumption | with_reducible apply loseSlot_keeps
            | with_reducible apply loseRecord_keeps | with_reducible apply scrubSet_keeps
            | with_reducible apply scrubKey_keeps | with_reducible apply transient_keeps | dsimp only | split

/-- `compareCopies` keeps the queue, and the fields in order. -/
theorem compareCopies_keeps {r0 : State} (x : VaultRec) {s : State} (hk : Keeps r0 s) : Keeps r0 (compareCopies x s) := by
  unfold compareCopies
  iterate 40
    all_goals try
      first | with_reducible assumption | with_reducible apply Keeps_ite | with_reducible apply transient_keeps
            | with_reducible apply putCopies_keeps | dsimp only | split

/-- `scrubRecord` keeps the queue, and the fields in order. -/
theorem scrubRecord_keeps {r0 : State} (x : VaultRec) (err : Option Bool) {s : State} (hk : Keeps r0 s) : Keeps r0
    (scrubRecord x err s) := by
  unfold scrubRecord
  iterate 40
    all_goals try
      first | with_reducible assumption | with_reducible apply Keeps_ite | with_reducible apply takeInjection_keeps
            | with_reducible apply transient_keeps | with_reducible apply scrubLost_keeps
            | with_reducible apply compareCopies_keeps | dsimp only | split

/-- `scrubLane` keeps the queue, and the fields in order. -/
theorem scrubLane_keeps {r0 : State} (cls : Nat) (lane : Nat) (err : Option Bool) (retire : State → State) {s : State}
    (h_retire : ∀ u, Keeps r0 u → Keeps r0 (retire u)) (hk : Keeps r0 s) : Keeps r0 (scrubLane cls lane err retire s) := by
  unfold scrubLane
  iterate 40
    all_goals try
      first | intro _ | with_reducible assumption | with_reducible apply h_retire | with_reducible apply Keeps_ite
            | with_reducible apply takeInjection_keeps | with_reducible apply transient_keeps
            | with_reducible apply scrubFault_keeps | dsimp only | split

/-- `scrubStep` keeps the queue, and the fields in order. -/
theorem scrubStep_keeps {r0 : State} (p : ScrubPath) {s : State} (hk : Keeps r0 s) : Keeps r0 (scrubStep p s) := by
  unfold scrubStep
  iterate 40
    all_goals try
      first | intro _ | with_reducible assumption | with_reducible apply inc_keeps | with_reducible apply Keeps_ite
            | with_reducible apply sramError_keeps | with_reducible apply scrubRecord_keeps
            | with_reducible apply scrubMismatch_keeps | with_reducible apply scrubLane_keeps
            | with_reducible apply retireFltLane_keeps | with_reducible apply retireHrmLane_keeps | dsimp only | split

/-- `selfTest` keeps the queue, and the fields in order. -/
theorem selfTest_keeps {r0 : State} (chk : Nat) (guards : Nat) (first : Bool) (again : Bool) {s : State} (hk : Keeps r0 s) :
    Keeps r0 (selfTest chk guards first again s) := by
  unfold selfTest
  iterate 40
    all_goals try
      first | with_reducible assumption | with_reducible apply put_keeps | with_reducible apply Keeps_ite
            | with_reducible apply transient_keeps | with_reducible apply permanent_keeps | dsimp only | split
            | with_reducible apply Keeps_mk

/-- `faultInject` keeps the queue, and the fields in order. -/
theorem faultInject_keeps {r0 : State} (tgt : Nat) (unit : Nat) {s : State} (hk : Keeps r0 s) : Keeps r0 (faultInject tgt
    unit s) := by
  unfold faultInject
  iterate 40
    all_goals try
      first | with_reducible assumption | with_reducible apply put_keeps | with_reducible apply Keeps_ite | dsimp only | split
            | with_reducible apply Keeps_mk

/-! ### HostWrites -/

/-- `takeF` keeps the queue, and the fields in order. -/
theorem takeF_keeps {r0 : State} (f : Fld) (w : Nat) {s : State} (hk : Keeps r0 s) : Keeps r0 (takeF f w s) := by
  unfold takeF
  iterate 40
    all_goals try
      first | with_reducible assumption | with_reducible apply put_keeps

/-- `takeFs` keeps the queue, and the fields in order. -/
theorem takeFs_keeps {r0 : State} (fs : List Fld) (w : Nat) {s : State} (hk : Keeps r0 s) : Keeps r0 (takeFs fs w s) := by
  unfold takeFs
  iterate 40
    all_goals try
      first | intro _ | with_reducible assumption | with_reducible apply Keeps_foldl | with_reducible apply takeF_keeps

/-- `calCtl` keeps the queue, and the fields in order. -/
theorem calCtl_keeps {r0 : State} (w : Nat) {s : State} (hk : Keeps r0 s) : Keeps r0 (calCtl w s) := by
  unfold calCtl
  iterate 40
    all_goals try
      first | intro _ | with_reducible assumption | with_reducible apply Keeps_ite | with_reducible apply onCtl_keeps
            | with_reducible apply calErase_keeps | with_reducible apply calTrig_keeps | with_reducible apply calAbort_keeps
            | with_reducible apply calCommit_keeps | with_reducible apply commitRequest_keeps
            | with_reducible apply calStep_keeps | with_reducible apply onSess_keeps | with_reducible apply calStart_keeps
            | with_reducible apply takeF_keeps

/-- `twnCtl` keeps the queue, and the fields in order. -/
theorem twnCtl_keeps {r0 : State} (w : Nat) {s : State} (hk : Keeps r0 s) : Keeps r0 (twnCtl w s) := by
  unfold twnCtl
  iterate 40
    all_goals try
      first | with_reducible assumption | with_reducible apply Keeps_ite | with_reducible apply twnTake_keeps
            | with_reducible apply twnAttach_keeps | with_reducible apply twnDetach_keeps | with_reducible apply twnSwap_keeps

/-- `privCtl` keeps the queue, and the fields in order. -/
theorem privCtl_keeps {r0 : State} (w : Nat) {s : State} (hk : Keeps r0 s) : Keeps r0 (privCtl w s) := by
  unfold privCtl
  iterate 40
    all_goals try
      first | with_reducible assumption | with_reducible apply Keeps_ite | with_reducible apply privDrop_keeps
            | with_reducible apply privOpen_keeps

/-- `openCtl` keeps the queue, and the fields in order. -/
theorem openCtl_keeps {r0 : State} (w : Nat) {s : State} (hk : Keeps r0 s) : Keeps r0 (openCtl w s) := by
  unfold openCtl
  iterate 40
    all_goals try
      first | intro _ | with_reducible assumption | with_reducible apply Keeps_ite | with_reducible apply takeFs_keeps
            | with_reducible apply openAsk_keeps | with_reducible apply onCtl_keeps | with_reducible apply openPromote_keeps

/-- `fltStClear` keeps the queue, and the fields in order. -/
theorem fltStClear_keeps {r0 : State} (n : Nat) (w : Nat) {s : State} (hk : Keeps r0 s) : Keeps r0 (fltStClear n w s) := by
  unfold fltStClear
  iterate 40
    all_goals try
      first | with_reducible assumption | with_reducible apply put_keeps | with_reducible apply Keeps_ite
            | with_reducible apply setPath_keeps

/-- `dspCtl` keeps the queue, and the fields in order. -/
theorem dspCtl_keeps {r0 : State} (w : Nat) {s : State} (hk : Keeps r0 s) : Keeps r0 (dspCtl w s) := by
  unfold dspCtl
  iterate 40
    all_goals try
      first | intro _ | with_reducible assumption | with_reducible apply Keeps_ite | with_reducible apply onCtl_keeps
            | with_reducible apply dspShow_keeps | with_reducible apply dspNext_keeps

/-- `txCtl` keeps the queue, and the fields in order. -/
theorem txCtl_keeps {r0 : State} (w : Nat) {s : State} (hk : Keeps r0 s) : Keeps r0 (txCtl w s) := by
  unfold txCtl
  iterate 40
    all_goals try
      first | with_reducible assumption | with_reducible apply Keeps_ite | with_reducible apply txGo_keeps
            | with_reducible apply takeFs_keeps

/-- `plainWrite` keeps the queue, and the fields in order. -/
theorem plainWrite_keeps {r0 : State} (r : RegRow) (i : Nat) (w : Nat) {s : State} (hk : Keeps r0 s) : Keeps r0 (plainWrite
    r i w s) := by
  unfold plainWrite
  iterate 40
    all_goals try
      first | intro _ | with_reducible assumption | with_reducible apply put_keeps | with_reducible apply Keeps_ite
            | with_reducible apply Keeps_foldl | dsimp only | split

/-- Every register's own effect keeps the queue, and the fields in order. -/
theorem handlers_keeps {r0 : State} : ∀ h ∈ handlers, ∀ i w s, Keeps r0 s → Keeps r0 (h.2 i w s) := by
  unfold handlers
  simp only [List.forall_mem_cons, List.not_mem_nil, false_imp_iff, implies_true, and_true]
  refine ⟨?_, ?_, ?_, ?_, ?_, ?_, ?_, ?_, ?_, ?_, ?_, ?_, ?_, ?_, ?_, ?_, ?_, ?_, ?_, ?_, ?_, ?_, ?_, ?_, ?_, ?_, ?_, ?_,
    ?_, ?_, ?_, ?_, ?_⟩ <;> intro i w s hk
  iterate 40 all_goals try
    first
      | intro _
      | with_reducible assumption
      | with_reducible apply put_keeps
      | with_reducible apply setBit_keeps
      | with_reducible apply Keeps_ite
      | with_reducible apply evtPendClear_keeps
      | with_reducible apply forceSlot_keeps
      | with_reducible apply takeF_keeps
      | with_reducible apply mtrHoldWrite_keeps
      | with_reducible apply fltStClear_keeps
      | with_reducible apply accQclr_keeps
      | with_reducible apply hrmHoldWrite_keeps
      | with_reducible apply hbSelect_keeps
      | with_reducible apply calCtl_keeps
      | with_reducible apply twnCtl_keeps
      | with_reducible apply faultInject_keeps
      | with_reducible apply takeFs_keeps
      | with_reducible apply adjGo_keeps
      | with_reducible apply mselWrite_keeps
      | with_reducible apply nselWrite_keeps
      | with_reducible apply txCtl_keeps
      | with_reducible apply rxNext_keeps
      | with_reducible apply pkOp_keeps
      | with_reducible apply onCtl_keeps
      | with_reducible apply keySubmit_keeps
      | with_reducible apply privCtl_keeps
      | with_reducible apply passportRequest_keeps
      | with_reducible apply openCtl_keeps
      | with_reducible apply calendarCommit_keeps
      | with_reducible apply porterWrite_keeps
      | with_reducible apply slotClear_keeps
      | with_reducible apply ledgerLookup_keeps
      | with_reducible apply ledgerAck_keeps
      | with_reducible apply sarInject_keeps
      | with_reducible apply dspCtl_keeps
/-- `otherEffect` keeps the queue, and the fields in order. -/
theorem otherEffect_keeps {r0 : State} (r : RegRow) (i w : Nat) {s : State} (hk : Keeps r0 s) : Keeps r0 (otherEffect r i w
    s) := by
  unfold otherEffect
  split
  · rename_i h heq
    exact handlers_keeps h (List.mem_of_find?_eq_some heq) i w s hk
  · exact plainWrite_keeps r i w hk

/-- `wordEffect` keeps the queue, and the fields in order. -/
theorem wordEffect_keeps {r0 : State} (r : RegRow) (i : Nat) (addr : Nat) (w : Nat) {s : State} (hk : Keeps r0 s) : Keeps r0
    (wordEffect r i addr w s) := by
  unfold wordEffect
  iterate 40
    all_goals try
      first | with_reducible assumption | with_reducible apply Keeps_ite | with_reducible apply otherEffect_keeps
            | with_reducible apply liveWrite_keeps

/-- `postedEffect` keeps the queue, and the fields in order. -/
theorem postedEffect_keeps {r0 : State} (addr : Nat) (w : Nat) {s : State} (hk : Keeps r0 s) : Keeps r0 (postedEffect addr w
    s) := by
  unfold postedEffect
  iterate 40
    all_goals try
      first | with_reducible assumption | with_reducible apply wordEffect_keeps | dsimp only | split

/-- `takePosted` keeps the queue, and the fields in order. -/
theorem takePosted_keeps {r0 : State} (d : Dom) {s : State} (hk : Keeps r0 s) : Keeps r0 (takePosted d s) := by
  unfold takePosted
  iterate 40
    all_goals try
      first | intro _ | with_reducible assumption | with_reducible apply Keeps_foldl | with_reducible apply postedEffect_keeps
            | dsimp only | split | with_reducible apply Keeps_mk

/-- `takeRunPosted` keeps the queue, and the fields in order. -/
theorem takeRunPosted_keeps {r0 : State} {s : State} (hk : Keeps r0 s) : Keeps r0 (takeRunPosted s) := by
  unfold takeRunPosted
  iterate 40
    all_goals try
      first | with_reducible assumption | with_reducible apply takePosted_keeps

/-- `burstBegins` keeps the queue, and the fields in order. -/
theorem burstBegins_keeps {r0 : State} {s : State} (hk : Keeps r0 s) : Keeps r0 (burstBegins s) := by
  unfold burstBegins
  iterate 40
    all_goals try
      first | with_reducible assumption | with_reducible apply Keeps_ite | with_reducible apply hbOver_keeps
            | with_reducible apply hrmOver_keeps | with_reducible apply takePosted_keeps

/-- `hostWord` keeps the queue, and the fields in order. -/
theorem hostWord_keeps {r0 : State} (r : RegRow) (i : Nat) (w : Nat) (act : State → State) {s : State} (h_act : ∀ u, Keeps
    r0 u → Keeps r0 (act u)) (hk : Keeps r0 s) : Keeps r0 (hostWord r i w act s) := by
  unfold hostWord
  iterate 40
    all_goals try
      first | intro _ | with_reducible assumption | with_reducible apply h_act | with_reducible apply Keeps_ite | dsimp only
            | split | with_reducible apply Keeps_mk

/-- `runFw` keeps the queue, and the fields in order. -/
theorem runFw_keeps {r0 : State} (op : FwOp) {s : State} (hk : Keeps r0 s) : Keeps r0 (runFw op s) := by
  unfold runFw
  iterate 40
    all_goals try
      first | intro _ | with_reducible assumption | with_reducible apply Keeps_ite | with_reducible apply onVault_keeps
            | with_reducible apply profileWrite_keeps | with_reducible apply keySubmit_keeps
            | with_reducible apply openWrite_keeps | with_reducible apply openPromote_keeps
            | with_reducible apply promoteNow_keeps | with_reducible apply passportRequest_keeps
            | with_reducible apply txGo_keeps | with_reducible apply txSend_keeps | with_reducible apply calStart_keeps
            | with_reducible apply calStep_keeps | with_reducible apply onSess_keeps | with_reducible apply calCommit_keeps
            | with_reducible apply commitRequest_keeps | with_reducible apply calAbort_keeps
            | with_reducible apply calTrig_keeps | with_reducible apply calErase_keeps | with_reducible apply dspShow_keeps
            | with_reducible apply dspNext_keeps | with_reducible apply housekeeping_keeps
            | with_reducible apply dwellExpire_keeps | with_reducible apply removeNbr_keeps
            | with_reducible apply toneExpire_keeps | with_reducible apply txFail_keeps
            | with_reducible apply chooseParent_keeps | with_reducible apply twinWaitEnd_keeps
            | with_reducible apply sessTimeout_keeps | with_reducible apply trimTrigger_keeps | dsimp only | split

/-- `runWaiting` keeps the queue, and the fields in order. -/
theorem runWaiting_keeps {r0 : State} {s : State} (hk : Keeps r0 s) : Keeps r0 (runWaiting s) := by
  unfold runWaiting
  iterate 40
    all_goals try
      first | intro _ | with_reducible assumption | with_reducible apply Keeps_foldl | with_reducible apply runFw_keeps
            | dsimp only | split | with_reducible apply Keeps_mk

/-- `vaultFreed` keeps the queue, and the fields in order. -/
theorem vaultFreed_keeps {r0 : State} {s : State} (hk : Keeps r0 s) : Keeps r0 (vaultFreed s) := by
  unfold vaultFreed
  iterate 40
    all_goals try
      first | intro _ | with_reducible assumption | with_reducible apply Keeps_ite | with_reducible apply Keeps_foldl
            | with_reducible apply runFw_keeps | with_reducible apply runWaiting_keeps | dsimp only | split
            | with_reducible apply Keeps_mk

/-- `readWord` keeps the queue, and the fields in order. -/
theorem readWord_keeps {r0 : State} (addr : Nat) {s : State} (hk : Keeps r0 s) : Keeps r0 (readWord addr s).2 := by
  unfold readWord
  iterate 40
    all_goals try
      first | with_reducible assumption | with_reducible apply Keeps_ite | dsimp only | split | with_reducible apply Keeps_mk

/-! ### Power -/

/-- `mainReset` keeps the queue, and the fields in order. -/
theorem mainReset_keeps {r0 : State} {s : State} (hk : Keeps r0 s) : Keeps r0 (mainReset s) := by
  refine flds_keeps hk rfl (fun y => ?_)
  exact Rising_keepCls (fun c => c == .P || c == .V) s.flds y

/-- `cutCkpt` keeps the queue, and the fields in order. -/
theorem cutCkpt_keeps {r0 : State} {s : State} (hk : Keeps r0 s) : Keeps r0 (cutCkpt s) := by
  unfold cutCkpt
  iterate 40
    all_goals try
      first | with_reducible assumption | with_reducible apply Keeps_ite | dsimp only | split | with_reducible apply Keeps_mk

/-- `holdReset` keeps the queue, and the fields in order. -/
theorem holdReset_keeps {r0 : State} (m : MState) (src : RstSrc) {s : State} (hk : Keeps r0 s) : Keeps r0 (holdReset m src
    s) := by
  unfold holdReset
  iterate 40
    all_goals try
      first | with_reducible assumption | with_reducible apply Keeps_ite | with_reducible apply mainReset_keeps
            | with_reducible apply cutCkpt_keeps | with_reducible apply displayOff_keeps | dsimp only | split
            | with_reducible apply Keeps_mk

/-- `powerGoodFalls` keeps the queue, and the fields in order. -/
theorem powerGoodFalls_keeps {r0 : State} {s : State} (hk : Keeps r0 s) : Keeps r0 (powerGoodFalls s) := by
  unfold powerGoodFalls
  iterate 40
    all_goals try
      first | with_reducible assumption | with_reducible apply Keeps_ite | with_reducible apply holdReset_keeps | dsimp only
            | split | with_reducible apply Keeps_mk

/-- `resetRelease` keeps the queue, and the fields in order. -/
theorem resetRelease_keeps {r0 : State} (src : RstSrc) {s : State} (hk : Keeps r0 s) : Keeps r0 (resetRelease src s) := by
  unfold resetRelease
  iterate 40
    all_goals try
      first | with_reducible assumption | with_reducible apply put_keeps | with_reducible apply inc_keeps | dsimp only
            | with_reducible apply Keeps_mk

/-- `strapSample` keeps the queue, and the fields in order. -/
theorem strapSample_keeps {r0 : State} (wsel : Nat) {s : State} (hk : Keeps r0 s) : Keeps r0 (strapSample wsel s) := by
  unfold strapSample
  iterate 40
    all_goals try
      first | with_reducible assumption | with_reducible apply setBit_keeps | dsimp only | with_reducible apply Keeps_mk

/-- `dropCorrs` keeps the queue, and the fields in order. -/
theorem dropCorrs_keeps {r0 : State} (md : Nat) {s : State} (hk : Keeps r0 s) : Keeps r0 (dropCorrs md s) := by
  unfold dropCorrs
  iterate 40
    all_goals try
      first | intro _ | with_reducible assumption | with_reducible apply Keeps_foldl | dsimp only | split
            | with_reducible apply Keeps_mk

/-- `loadFail` keeps the queue, and the fields in order. -/
theorem loadFail_keeps {r0 : State} (f : LoadFail) {s : State} (hk : Keeps r0 s) : Keeps r0 (loadFail f s) := by
  unfold loadFail
  iterate 40
    all_goals try
      first | with_reducible assumption | with_reducible apply Keeps_ite | with_reducible apply retireBlock_keeps
            | with_reducible apply vaultReread_keeps | with_reducible apply dropCorrs_keeps
            | with_reducible apply transient_keeps | with_reducible apply takeFail_keeps | dsimp only | split
            | with_reducible apply Keeps_mk

/-- `loadRetry` keeps the queue, and the fields in order. -/
theorem loadRetry_keeps {r0 : State} (f : LoadFail) {s : State} (hk : Keeps r0 s) : Keeps r0 (loadRetry f s) := by
  unfold loadRetry
  iterate 40
    all_goals try
      first | with_reducible assumption | with_reducible apply setRetry_keeps | dsimp only | split

/-- `loadComplete` keeps the queue, and the fields in order. -/
theorem loadComplete_keeps {r0 : State} (fs : List LoadFail) {s : State} (hk : Keeps r0 s) : Keeps r0 (loadComplete fs s) :=
    by
  unfold loadComplete
  iterate 40
    all_goals try
      first | intro _ | with_reducible assumption | with_reducible apply Keeps_foldl | with_reducible apply loadRetry_keeps
            | with_reducible apply loadFail_keeps | with_reducible apply itineraryLoaded_keeps
            | with_reducible apply showWipe_keeps | with_reducible apply interruptedBundle_keeps
            | with_reducible apply restoreCkpt_keeps | with_reducible apply profileCompare_keeps
            | with_reducible apply showSets_keeps | with_reducible apply touchSets_keeps

/-- `lossSummary` keeps the queue, and the fields in order. -/
theorem lossSummary_keeps {r0 : State} {s : State} (hk : Keeps r0 s) : Keeps r0 (lossSummary s) := by
  unfold lossSummary
  iterate 40
    all_goals try
      first | with_reducible assumption | with_reducible apply putRec_keeps | with_reducible apply Keeps_ite | dsimp only
            | split | with_reducible apply Keeps_mk

/-- `markCorrupt` keeps the queue, and the fields in order. -/
theorem markCorrupt_keeps {r0 : State} (ks : List Nat) {s : State} (hk : Keeps r0 s) : Keeps r0 (markCorrupt ks s) := by
  unfold markCorrupt
  iterate 40
    all_goals try
      first | intro _ | with_reducible assumption | with_reducible apply put_keeps | with_reducible apply Keeps_ite
            | with_reducible apply Keeps_foldl

/-- `powerEvents` keeps the queue, and the fields in order. -/
theorem powerEvents_keeps {r0 : State} {s : State} (hk : Keeps r0 s) : Keeps r0 (powerEvents s) := by
  unfold powerEvents
  iterate 40
    all_goals try
      first | with_reducible assumption | with_reducible apply raise_keeps | with_reducible apply raiseIf_keeps

/-- `takeCalendar` keeps the queue, and the fields in order. -/
theorem takeCalendar_keeps {r0 : State} {s : State} (hk : Keeps r0 s) : Keeps r0 (takeCalendar s) := by
  unfold takeCalendar
  iterate 40
    all_goals try
      first | with_reducible assumption | with_reducible apply Keeps_ite | dsimp only | split | with_reducible apply Keeps_mk

/-- `firstRun` keeps the queue, and the fields in order. -/
theorem firstRun_keeps {r0 : State} (corrupt : List Nat) {s : State} (hk : Keeps r0 s) : Keeps r0 (firstRun corrupt s) := by
  unfold firstRun
  iterate 40
    all_goals try
      first | with_reducible assumption | with_reducible apply lossSummary_keeps | with_reducible apply controllerRuns_keeps
            | with_reducible apply runDeferred_keeps | with_reducible apply reportLost_keeps
            | with_reducible apply markCorrupt_keeps | with_reducible apply runWaiting_keeps
            | with_reducible apply pkResume_keeps | with_reducible apply takeCalendar_keeps
            | with_reducible apply powerEvents_keeps

/-- `takeStreams` keeps the queue, and the fields in order. -/
theorem takeStreams_keeps {r0 : State} {s : State} (hk : Keeps r0 s) : Keeps r0 (takeStreams s) := by
  unfold takeStreams
  iterate 40
    all_goals try
      first | intro _ | with_reducible assumption | with_reducible apply Keeps_ite | with_reducible apply Keeps_foldl
            | with_reducible apply startChannel_keeps | with_reducible apply takeSettings_keeps
            | with_reducible apply stopChannel_keeps

/-- `resumeTraces` keeps the queue, and the fields in order. -/
theorem resumeTraces_keeps {r0 : State} {s : State} (hk : Keeps r0 s) : Keeps r0 (resumeTraces s) := by
  unfold resumeTraces
  iterate 40
    all_goals try
      first | intro _ | with_reducible assumption | with_reducible apply Keeps_ite | with_reducible apply Keeps_foldl
            | with_reducible apply traceResume_keeps

/-- `takeGroups` keeps the queue, and the fields in order. -/
theorem takeGroups_keeps {r0 : State} {s : State} (hk : Keeps r0 s) : Keeps r0 (takeGroups s) := by
  unfold takeGroups
  iterate 40
    all_goals try
      first | intro _ | with_reducible assumption | with_reducible apply Keeps_foldl | dsimp only | split
            | with_reducible apply Keeps_mk

/-- `seekLinks` keeps the queue, and the fields in order. -/
theorem seekLinks_keeps {r0 : State} {s : State} (hk : Keeps r0 s) : Keeps r0 (seekLinks s) := by
  unfold seekLinks
  iterate 40
    all_goals try
      first | with_reducible assumption | with_reducible apply Keeps_ite | with_reducible apply seek_keeps
            | with_reducible apply cvnTrain_keeps

/-- `enterRun` keeps the queue, and the fields in order. -/
theorem enterRun_keeps {r0 : State} {s : State} (hk : Keeps r0 s) : Keeps r0 (enterRun s) := by
  unfold enterRun
  iterate 40
    all_goals try
      first | with_reducible assumption | with_reducible apply Keeps_ite | with_reducible apply takeRunPosted_keeps
            | with_reducible apply remountEnterRun_keeps | with_reducible apply resumeTraces_keeps
            | with_reducible apply takeStreams_keeps | with_reducible apply dropFormer_keeps
            | with_reducible apply takeGroups_keeps | with_reducible apply seekLinks_keeps
            | with_reducible apply displayStart_keeps | with_reducible apply wayStart_keeps
            | with_reducible apply hrmService_keeps | with_reducible apply fltService_keeps
            | with_reducible apply sessResume_keeps | dsimp only | split | with_reducible apply Keeps_mk

/-- `referenceSettled` keeps the queue, and the fields in order. -/
theorem referenceSettled_keeps {r0 : State} {s : State} (hk : Keeps r0 s) : Keeps r0 (referenceSettled s) := by
  unfold referenceSettled
  iterate 40
    all_goals try
      first | with_reducible assumption | with_reducible apply Keeps_ite | with_reducible apply uncalibrate_keeps
            | with_reducible apply trimTrigger_keeps | dsimp only | split | with_reducible apply Keeps_mk

/-- `releaseOuts` keeps the queue, and the fields in order. -/
theorem releaseOuts_keeps {r0 : State} {s : State} (hk : Keeps r0 s) : Keeps r0 (releaseOuts s) := by
  unfold releaseOuts
  iterate 40
    all_goals try
      first | intro _ | with_reducible assumption | with_reducible apply Keeps_foldl | with_reducible apply setOut_keeps
            | with_reducible apply setRole_keeps

/-- `stopUnits` keeps the queue, and the fields in order. -/
theorem stopUnits_keeps {r0 : State} {s : State} (hk : Keeps r0 s) : Keeps r0 (stopUnits s) := by
  unfold stopUnits
  iterate 40
    all_goals try
      first | intro _ | with_reducible assumption | with_reducible apply put_keeps | with_reducible apply Keeps_foldl
            | with_reducible apply applyAllPend_keeps | with_reducible apply abandonAll_keeps
            | with_reducible apply releaseOuts_keeps | with_reducible apply postAllRecords_keeps
            | with_reducible apply trackerOff_keeps | with_reducible apply displayOff_keeps
            | with_reducible apply sarStop_keeps | with_reducible apply cvnStop_keeps | with_reducible apply setTst_keeps
            | with_reducible apply endHold_keeps | dsimp only | split | with_reducible apply Keeps_mk

/-- `enterStandby` keeps the queue, and the fields in order. -/
theorem enterStandby_keeps {r0 : State} {s : State} (hk : Keeps r0 s) : Keeps r0 (enterStandby s) := by
  unfold enterStandby
  iterate 40
    all_goals try
      first | with_reducible assumption | with_reducible apply put_keeps | with_reducible apply stopUnits_keeps | dsimp only
            | with_reducible apply Keeps_mk

/-- `startFinal` keeps the queue, and the fields in order. -/
theorem startFinal_keeps {r0 : State} (runs : List (Nat × List ChanRun)) {s : State} (hk : Keeps r0 s) : Keeps r0
    (startFinal runs s) := by
  unfold startFinal
  iterate 40
    all_goals try
      first | with_reducible assumption | with_reducible apply Keeps_ite | with_reducible apply closeIntervals_keeps
            | dsimp only | split | with_reducible apply Keeps_mk

/-- `takeRequest` keeps the queue, and the fields in order. -/
theorem takeRequest_keeps {r0 : State} (r : PwrReq) {s : State} (hk : Keeps r0 s) : Keeps r0 (takeRequest r s) := by
  unfold takeRequest
  iterate 40
    all_goals try
      first | with_reducible assumption | with_reducible apply put_keeps | with_reducible apply Keeps_ite
            | with_reducible apply twnDetach_keeps | with_reducible apply startFinal_keeps | dsimp only | split
            | with_reducible apply Keeps_mk

/-- `rejectPwr` keeps the queue, and the fields in order. -/
theorem rejectPwr_keeps {r0 : State} {s : State} (hk : Keeps r0 s) : Keeps r0 (rejectPwr s) := by
  unfold rejectPwr
  iterate 40
    all_goals try
      first | with_reducible assumption | with_reducible apply put_keeps

/-- `pwrRst` keeps the queue, and the fields in order. -/
theorem pwrRst_keeps {r0 : State} {s : State} (hk : Keeps r0 s) : Keeps r0 (pwrRst s) := by
  unfold pwrRst
  iterate 40
    all_goals try
      first | with_reducible assumption | with_reducible apply put_keeps | with_reducible apply Keeps_ite
            | with_reducible apply holdReset_keeps | with_reducible apply rejectPwr_keeps
            | with_reducible apply takeRequest_keeps | dsimp only | split | with_reducible apply Keeps_mk

/-- `pwrStby` keeps the queue, and the fields in order. -/
theorem pwrStby_keeps {r0 : State} {s : State} (hk : Keeps r0 s) : Keeps r0 (pwrStby s) := by
  unfold pwrStby
  iterate 40
    all_goals try
      first | intro _ | with_reducible assumption | with_reducible apply Keeps_ite | with_reducible apply rejectPwr_keeps
            | with_reducible apply takeRequest_keeps

/-- `pwrRun` keeps the queue, and the fields in order. -/
theorem pwrRun_keeps {r0 : State} {s : State} (hk : Keeps r0 s) : Keeps r0 (pwrRun s) := by
  unfold pwrRun
  iterate 40
    all_goals try
      first | with_reducible assumption | with_reducible apply put_keeps | with_reducible apply Keeps_ite
            | with_reducible apply rejectPwr_keeps | with_reducible apply enterRun_keeps
            | with_reducible apply restoreCkpt_keeps | dsimp only | split | with_reducible apply Keeps_mk

/-- `exchangeStep` keeps the queue, and the fields in order. -/
theorem exchangeStep_keeps {r0 : State} (t : Nat) (runs : List ChanRun) {s : State} (hk : Keeps r0 s) : Keeps r0
    (exchangeStep t runs s) := by
  unfold exchangeStep
  iterate 40
    all_goals try
      first | with_reducible assumption | with_reducible apply Keeps_ite | with_reducible apply reportUncovered_keeps
            | with_reducible apply exchangeInstant_keeps | with_reducible apply startMirrors_keeps
            | with_reducible apply startFinal_keeps

/-- `powerFail` keeps the queue, and the fields in order. -/
theorem powerFail_keeps {r0 : State} (runs : List (Nat × List ChanRun)) {s : State} (hk : Keeps r0 s) : Keeps r0 (powerFail
    runs s) := by
  unfold powerFail
  iterate 40
    all_goals try
      first | with_reducible assumption | with_reducible apply put_keeps | with_reducible apply inc_keeps
            | with_reducible apply raise_keeps | with_reducible apply Keeps_ite | with_reducible apply displayOff_keeps
            | with_reducible apply startFinal_keeps | dsimp only | split | with_reducible apply Keeps_mk

/-- `powerResume` keeps the queue, and the fields in order. -/
theorem powerResume_keeps {r0 : State} {s : State} (hk : Keeps r0 s) : Keeps r0 (powerResume s) := by
  unfold powerResume
  iterate 40
    all_goals try
      first | with_reducible assumption | with_reducible apply put_keeps | with_reducible apply Keeps_ite
            | with_reducible apply displayResume_keeps | dsimp only | split | with_reducible apply Keeps_mk

/-- `resumeIf` keeps the queue, and the fields in order. -/
theorem resumeIf_keeps {r0 : State} {s : State} (hk : Keeps r0 s) : Keeps r0 (resumeIf s) := by
  unfold resumeIf
  iterate 40
    all_goals try
      first | with_reducible assumption | with_reducible apply Keeps_ite | with_reducible apply vaultFreed_keeps
            | with_reducible apply powerResume_keeps

/-- `failSaved` keeps the queue, and the fields in order. -/
theorem failSaved_keeps {r0 : State} (ok : Bool) {s : State} (hk : Keeps r0 s) : Keeps r0 (failSaved ok s) := by
  unfold failSaved
  iterate 40
    all_goals try
      first | with_reducible assumption | with_reducible apply put_keeps | with_reducible apply Keeps_ite | dsimp only | split
            | with_reducible apply Keeps_mk

/-- `finalDone` keeps the queue, and the fields in order. -/
theorem finalDone_keeps {r0 : State} {s : State} (hk : Keeps r0 s) : Keeps r0 (finalDone s) := by
  unfold finalDone
  iterate 40
    all_goals try
      first | with_reducible assumption | with_reducible apply Keeps_ite | with_reducible apply writeCkpt_keeps
            | with_reducible apply failSaved_keeps | with_reducible apply holdReset_keeps
            | with_reducible apply enterStandby_keeps | with_reducible apply resumeIf_keeps | dsimp only | split
            | with_reducible apply Keeps_mk

/-- `powerRecovery` keeps the queue, and the fields in order. -/
theorem powerRecovery_keeps {r0 : State} {s : State} (hk : Keeps r0 s) : Keeps r0 (powerRecovery s) := by
  unfold powerRecovery
  iterate 40
    all_goals try
      first | with_reducible assumption | with_reducible apply Keeps_ite | with_reducible apply vaultFreed_keeps
            | with_reducible apply powerResume_keeps | dsimp only | split | with_reducible apply Keeps_mk

/-! ### HostPort -/

/-- `respond` keeps the queue, and the fields in order. -/
theorem respond_keeps {r0 : State} (data : List Nat) (st : Nat) {s : State} (hk : Keeps r0 s) : Keeps r0 (respond data st s)
    := by
  unfold respond
  iterate 40
    all_goals try
      first | with_reducible assumption | dsimp only | with_reducible apply Keeps_mk

/-- `weakFrame` keeps the queue, and the fields in order. -/
theorem weakFrame_keeps {r0 : State} {s : State} (hk : Keeps r0 s) : Keeps r0 (weakFrame s) := by
  unfold weakFrame
  iterate 40
    all_goals try
      first | with_reducible assumption | dsimp only | with_reducible apply Keeps_mk

/-- `hostFrame` keeps the queue, and the fields in order. -/
theorem hostFrame_keeps {r0 : State} {s : State} (hk : Keeps r0 s) : Keeps r0 (hostFrame s) := by
  unfold hostFrame
  iterate 40
    all_goals try
      first | with_reducible assumption | dsimp only | with_reducible apply Keeps_mk

/-- `formatError` keeps the queue, and the fields in order. -/
theorem formatError_keeps {r0 : State} (h : Header) {s : State} (hk : Keeps r0 s) : Keeps r0 (formatError h s) := by
  unfold formatError
  iterate 40
    all_goals try
      first | with_reducible assumption | with_reducible apply Keeps_ite | with_reducible apply respond_keeps

/-- `pollFrame` keeps the queue, and the fields in order. -/
theorem pollFrame_keeps {r0 : State} (h : Header) {s : State} (hk : Keeps r0 s) : Keeps r0 (pollFrame h s) := by
  unfold pollFrame
  iterate 40
    all_goals try
      first | with_reducible assumption | with_reducible apply respond_keeps

/-- Reading words keeps the queue, and the fields in order. -/
theorem readWords_keeps {r0 : State} (h : Header) (n k : Nat) {s : State} (hk : Keeps r0 s) : Keeps r0 (readWords h n k
    s).2.2 := by
  induction n generalizing k s with
  | zero => exact hk
  | succ n ih => exact ih (k + 1) (readWord_keeps (h.at_ k) hk)
/-- `readFrame` keeps the queue, and the fields in order. -/
theorem readFrame_keeps {r0 : State} (h : Header) {s : State} (hk : Keeps r0 s) : Keeps r0 (readFrame h s) := by
  unfold readFrame
  exact respond_keeps _ _ (readWords_keeps h _ _ hk)

/-- `hostRead` keeps the queue, and the fields in order. -/
theorem hostRead_keeps {r0 : State} (b : List Byte) {s : State} (hk : Keeps r0 s) : Keeps r0 (hostRead b s) := by
  unfold hostRead
  iterate 40
    all_goals try
      first | with_reducible assumption | with_reducible apply Keeps_ite | with_reducible apply weakFrame_keeps
            | with_reducible apply hostFrame_keeps | with_reducible apply formatError_keeps
            | with_reducible apply pollFrame_keeps | with_reducible apply readFrame_keeps | dsimp only | split
            | with_reducible apply Keeps_mk

/-- `pwrCtl` keeps the queue, and the fields in order. -/
theorem pwrCtl_keeps {r0 : State} (w : Nat) {s : State} (hk : Keeps r0 s) : Keeps r0 (pwrCtl w s) := by
  unfold pwrCtl
  iterate 40
    all_goals try
      first | with_reducible assumption | with_reducible apply Keeps_ite | with_reducible apply pwrRst_keeps
            | with_reducible apply pwrStby_keeps | with_reducible apply pwrRun_keeps

/-- `writeWord` keeps the queue, and the fields in order. -/
theorem writeWord_keeps {r0 : State} (addr : Nat) (w : Nat) {s : State} (hk : Keeps r0 s) : Keeps r0 (writeWord addr w s).2
    := by
  unfold writeWord
  iterate 40
    all_goals try
      first | with_reducible assumption | with_reducible apply Keeps_ite | with_reducible apply pwrCtl_keeps
            | with_reducible apply wordEffect_keeps | dsimp only | split | with_reducible apply Keeps_mk

/-- Executing words keeps the queue, and the fields in order. -/
theorem writeWords_keeps {r0 : State} (h : Header) (ws : List Word) (k : Nat) {s : State} (hk : Keeps r0 s) :
    Keeps r0 (writeWords h ws k s).2 := by
  induction ws generalizing k s with
  | nil => exact hk
  | cons w ws ih =>
    unfold writeWords
    split
    · exact hk
    · exact ih (k + 1) (writeWord_keeps (h.at_ k) w.toNat hk)
/-- `executeFrame` keeps the queue, and the fields in order. -/
theorem executeFrame_keeps {r0 : State} (h : Header) (f : WriteFrame) {s : State} (hk : Keeps r0 s) : Keeps r0 (executeFrame
    h f s) := by
  have h1 := writeWords_keeps h f.words 0 hk
  unfold executeFrame
  dsimp only
  split
  · exact h1
  · exact respond_keeps _ _ (Keeps_mk h1)

/-- `hostWrite` keeps the queue, and the fields in order. -/
theorem hostWrite_keeps {r0 : State} (f : WriteFrame) {s : State} (hk : Keeps r0 s) : Keeps r0 (hostWrite f s) := by
  unfold hostWrite
  iterate 40
    all_goals try
      first | with_reducible assumption | with_reducible apply Keeps_ite | with_reducible apply weakFrame_keeps
            | with_reducible apply hostFrame_keeps | with_reducible apply formatError_keeps
            | with_reducible apply pollFrame_keeps | with_reducible apply readFrame_keeps | with_reducible apply respond_keeps
            | with_reducible apply executeFrame_keeps | dsimp only | split | with_reducible apply Keeps_mk

end Sys2Proof.Machine
end

