-- ==== Sys2Proof/Laws/Maps.lean ====
section
/-! SUPPORT. Sparse maps stay in canonical form: keys strictly rising, and no entry equal to what an unlisted key reads as. Equal
maps are then equal data. -/

namespace Sys2Proof.Machine

/-- A bound below the keys that is lower, or absent, still bounds them. -/
theorem canonFrom_mono {α : Type} [DecidableEq α] (d : α) (b c : Option Nat) (m : SMap α)
    (hbc : ∀ x, c = some x → ∃ y, b = some y ∧ x ≤ y) (h : canonFrom d b m = true) : canonFrom d c m = true := by
  cases m with
  | nil => rfl
  | cons p r =>
    obtain ⟨j, v⟩ := p
    simp only [canonFrom, Bool.and_eq_true] at h ⊢
    refine ⟨⟨?_, h.1.2⟩, h.2⟩
    cases c with
    | none => rfl
    | some x =>
      obtain ⟨y, rfl, hxy⟩ := hbc x rfl
      simp only [decide_eq_true_eq] at h ⊢
      omega

theorem canonFrom_mins {α : Type} [DecidableEq α] (d : α) (k : Nat) (v : α) (hv : v ≠ d) :
    ∀ (m : SMap α) (b : Option Nat), (∀ x, b = some x → x < k) → canonFrom d b m = true →
      canonFrom d b (mins m k v) = true := by
  intro m
  induction m with
  | nil =>
    intro b hb _
    cases b <;> simp_all [mins, canonFrom]
  | cons p r ih =>
    obtain ⟨j, w⟩ := p
    intro b hb h
    simp only [canonFrom, Bool.and_eq_true] at h
    obtain ⟨⟨h1, h2⟩, h3⟩ := h
    simp only [mins]
    split
    · subst_vars
      simp only [canonFrom, Bool.and_eq_true, decide_eq_true_eq]
      refine ⟨⟨?_, hv⟩, h3⟩
      cases b <;> simp_all
    · split
      · simp only [canonFrom, Bool.and_eq_true, decide_eq_true_eq]
        refine ⟨⟨?_, hv⟩, ⟨by simpa using ‹k < j›, by simpa using h2⟩, h3⟩
        cases b <;> simp_all
      · simp only [canonFrom, Bool.and_eq_true]
        refine ⟨⟨h1, h2⟩, ih (some j) ?_ h3⟩
        intro x hx
        cases hx
        omega

theorem canonFrom_mdel {α : Type} [DecidableEq α] (d : α) (k : Nat) :
    ∀ (m : SMap α) (b : Option Nat), canonFrom d b m = true → canonFrom d b (mdel m k) = true := by
  intro m
  induction m with
  | nil => exact fun _ _ => rfl
  | cons p r ih =>
    obtain ⟨j, w⟩ := p
    intro b h
    have h' := h
    simp only [canonFrom, Bool.and_eq_true] at h
    obtain ⟨⟨h1, h2⟩, h3⟩ := h
    simp only [mdel]
    split
    · refine ih b (canonFrom_mono d (some j) b r ?_ h3)
      rintro x rfl
      exact ⟨j, rfl, Nat.le_of_lt (by simpa using h1)⟩
    · simp only [canonFrom, Bool.and_eq_true]
      exact ⟨⟨h1, h2⟩, ih (some j) h3⟩

/-- Writing keeps the canonical form. -/
theorem canonical_mput {α : Type} [DecidableEq α] (d : α) (m : SMap α) (k : Nat) (v : α) (h : canonical d m = true) :
    canonical d (mput d m k v) = true := by
  unfold mput
  split
  · exact canonFrom_mdel d k m none h
  · exact canonFrom_mins d k v ‹_› m none (by simp) h

/-- Rewriting one value keeps the canonical form. -/
theorem canonical_mmod {α : Type} [DecidableEq α] (d : α) (m : SMap α) (k : Nat) (g : α → α) (h : canonical d m = true) :
    canonical d (mmod d m k g) = true := canonical_mput d m k _ h

end Sys2Proof.Machine
end

