-- ==== Sys2Proof/Laws/State.lean ====
section
/-! SUPPORT. What the ways of writing the state leave alone, one lemma for each part of the state and each way: no proof need
unfold a record update. -/

namespace Sys2Proof.Machine

/-! ### Writing a field -/

@[simp] theorem put_pending (s : State) (f : Fld) (i v : Nat) : (s.put f i v).pending = s.pending := rfl
@[simp] theorem put_clk (s : State) (f : Fld) (i v : Nat) : (s.put f i v).clk = s.clk := rfl
@[simp] theorem put_ctl (s : State) (f : Fld) (i v : Nat) : (s.put f i v).ctl = s.ctl := rfl
@[simp] theorem put_host (s : State) (f : Fld) (i v : Nat) : (s.put f i v).host = s.host := rfl
@[simp] theorem put_pwr (s : State) (f : Fld) (i v : Nat) : (s.put f i v).pwr = s.pwr := rfl
@[simp] theorem put_ldg (s : State) (f : Fld) (i v : Nat) : (s.put f i v).ldg = s.ldg := rfl
@[simp] theorem put_evt (s : State) (f : Fld) (i v : Nat) : (s.put f i v).evt = s.evt := rfl
@[simp] theorem put_inp (s : State) (f : Fld) (i v : Nat) : (s.put f i v).inp = s.inp := rfl
@[simp] theorem put_rmt (s : State) (f : Fld) (i v : Nat) : (s.put f i v).rmt = s.rmt := rfl
@[simp] theorem put_flt (s : State) (f : Fld) (i v : Nat) : (s.put f i v).flt = s.flt := rfl
@[simp] theorem put_flts (s : State) (f : Fld) (i v : Nat) : (s.put f i v).flts = s.flts := rfl
@[simp] theorem put_cal (s : State) (f : Fld) (i v : Nat) : (s.put f i v).cal = s.cal := rfl
@[simp] theorem put_twn (s : State) (f : Fld) (i v : Nat) : (s.put f i v).twn = s.twn := rfl
@[simp] theorem put_mtr (s : State) (f : Fld) (i v : Nat) : (s.put f i v).mtr = s.mtr := rfl
@[simp] theorem put_itn (s : State) (f : Fld) (i v : Nat) : (s.put f i v).itn = s.itn := rfl
@[simp] theorem put_grd (s : State) (f : Fld) (i v : Nat) : (s.put f i v).grd = s.grd := rfl
@[simp] theorem put_hrm (s : State) (f : Fld) (i v : Nat) : (s.put f i v).hrm = s.hrm := rfl
@[simp] theorem put_dst (s : State) (f : Fld) (i v : Nat) : (s.put f i v).dst = s.dst := rfl
@[simp] theorem put_pls (s : State) (f : Fld) (i v : Nat) : (s.put f i v).pls = s.pls := rfl
@[simp] theorem put_way (s : State) (f : Fld) (i v : Nat) : (s.put f i v).way = s.way := rfl
@[simp] theorem put_rng (s : State) (f : Fld) (i v : Nat) : (s.put f i v).rng = s.rng := rfl
@[simp] theorem put_sbx (s : State) (f : Fld) (i v : Nat) : (s.put f i v).sbx = s.sbx := rfl
@[simp] theorem put_cvn (s : State) (f : Fld) (i v : Nat) : (s.put f i v).cvn = s.cvn := rfl
@[simp] theorem put_sar (s : State) (f : Fld) (i v : Nat) : (s.put f i v).sar = s.sar := rfl
@[simp] theorem put_dsp (s : State) (f : Fld) (i v : Nat) : (s.put f i v).dsp = s.dsp := rfl
@[simp] theorem put_prt (s : State) (f : Fld) (i v : Nat) : (s.put f i v).prt = s.prt := rfl

/-! ### Writing a bit -/

@[simp] theorem setBit_pending (s : State) (f : Fld) (i : Nat) (b : Bool) : (s.setBit f i b).pending = s.pending := rfl
@[simp] theorem setBit_clk (s : State) (f : Fld) (i : Nat) (b : Bool) : (s.setBit f i b).clk = s.clk := rfl
@[simp] theorem setBit_ctl (s : State) (f : Fld) (i : Nat) (b : Bool) : (s.setBit f i b).ctl = s.ctl := rfl
@[simp] theorem setBit_host (s : State) (f : Fld) (i : Nat) (b : Bool) : (s.setBit f i b).host = s.host := rfl
@[simp] theorem setBit_pwr (s : State) (f : Fld) (i : Nat) (b : Bool) : (s.setBit f i b).pwr = s.pwr := rfl
@[simp] theorem setBit_ldg (s : State) (f : Fld) (i : Nat) (b : Bool) : (s.setBit f i b).ldg = s.ldg := rfl
@[simp] theorem setBit_evt (s : State) (f : Fld) (i : Nat) (b : Bool) : (s.setBit f i b).evt = s.evt := rfl
@[simp] theorem setBit_inp (s : State) (f : Fld) (i : Nat) (b : Bool) : (s.setBit f i b).inp = s.inp := rfl
@[simp] theorem setBit_rmt (s : State) (f : Fld) (i : Nat) (b : Bool) : (s.setBit f i b).rmt = s.rmt := rfl
@[simp] theorem setBit_flt (s : State) (f : Fld) (i : Nat) (b : Bool) : (s.setBit f i b).flt = s.flt := rfl
@[simp] theorem setBit_flts (s : State) (f : Fld) (i : Nat) (b : Bool) : (s.setBit f i b).flts = s.flts := rfl
@[simp] theorem setBit_cal (s : State) (f : Fld) (i : Nat) (b : Bool) : (s.setBit f i b).cal = s.cal := rfl
@[simp] theorem setBit_twn (s : State) (f : Fld) (i : Nat) (b : Bool) : (s.setBit f i b).twn = s.twn := rfl
@[simp] theorem setBit_mtr (s : State) (f : Fld) (i : Nat) (b : Bool) : (s.setBit f i b).mtr = s.mtr := rfl
@[simp] theorem setBit_itn (s : State) (f : Fld) (i : Nat) (b : Bool) : (s.setBit f i b).itn = s.itn := rfl
@[simp] theorem setBit_grd (s : State) (f : Fld) (i : Nat) (b : Bool) : (s.setBit f i b).grd = s.grd := rfl
@[simp] theorem setBit_hrm (s : State) (f : Fld) (i : Nat) (b : Bool) : (s.setBit f i b).hrm = s.hrm := rfl
@[simp] theorem setBit_dst (s : State) (f : Fld) (i : Nat) (b : Bool) : (s.setBit f i b).dst = s.dst := rfl
@[simp] theorem setBit_pls (s : State) (f : Fld) (i : Nat) (b : Bool) : (s.setBit f i b).pls = s.pls := rfl
@[simp] theorem setBit_way (s : State) (f : Fld) (i : Nat) (b : Bool) : (s.setBit f i b).way = s.way := rfl
@[simp] theorem setBit_rng (s : State) (f : Fld) (i : Nat) (b : Bool) : (s.setBit f i b).rng = s.rng := rfl
@[simp] theorem setBit_sbx (s : State) (f : Fld) (i : Nat) (b : Bool) : (s.setBit f i b).sbx = s.sbx := rfl
@[simp] theorem setBit_cvn (s : State) (f : Fld) (i : Nat) (b : Bool) : (s.setBit f i b).cvn = s.cvn := rfl
@[simp] theorem setBit_sar (s : State) (f : Fld) (i : Nat) (b : Bool) : (s.setBit f i b).sar = s.sar := rfl
@[simp] theorem setBit_dsp (s : State) (f : Fld) (i : Nat) (b : Bool) : (s.setBit f i b).dsp = s.dsp := rfl
@[simp] theorem setBit_prt (s : State) (f : Fld) (i : Nat) (b : Bool) : (s.setBit f i b).prt = s.prt := rfl

/-! ### Adding to a counter -/

@[simp] theorem addSat_pending (s : State) (f : Fld) (i k : Nat) : (s.addSat f i k).pending = s.pending := rfl
@[simp] theorem addSat_clk (s : State) (f : Fld) (i k : Nat) : (s.addSat f i k).clk = s.clk := rfl
@[simp] theorem addSat_ctl (s : State) (f : Fld) (i k : Nat) : (s.addSat f i k).ctl = s.ctl := rfl
@[simp] theorem addSat_host (s : State) (f : Fld) (i k : Nat) : (s.addSat f i k).host = s.host := rfl
@[simp] theorem addSat_pwr (s : State) (f : Fld) (i k : Nat) : (s.addSat f i k).pwr = s.pwr := rfl
@[simp] theorem addSat_ldg (s : State) (f : Fld) (i k : Nat) : (s.addSat f i k).ldg = s.ldg := rfl
@[simp] theorem addSat_evt (s : State) (f : Fld) (i k : Nat) : (s.addSat f i k).evt = s.evt := rfl
@[simp] theorem addSat_inp (s : State) (f : Fld) (i k : Nat) : (s.addSat f i k).inp = s.inp := rfl
@[simp] theorem addSat_rmt (s : State) (f : Fld) (i k : Nat) : (s.addSat f i k).rmt = s.rmt := rfl
@[simp] theorem addSat_flt (s : State) (f : Fld) (i k : Nat) : (s.addSat f i k).flt = s.flt := rfl
@[simp] theorem addSat_flts (s : State) (f : Fld) (i k : Nat) : (s.addSat f i k).flts = s.flts := rfl
@[simp] theorem addSat_cal (s : State) (f : Fld) (i k : Nat) : (s.addSat f i k).cal = s.cal := rfl
@[simp] theorem addSat_twn (s : State) (f : Fld) (i k : Nat) : (s.addSat f i k).twn = s.twn := rfl
@[simp] theorem addSat_mtr (s : State) (f : Fld) (i k : Nat) : (s.addSat f i k).mtr = s.mtr := rfl
@[simp] theorem addSat_itn (s : State) (f : Fld) (i k : Nat) : (s.addSat f i k).itn = s.itn := rfl
@[simp] theorem addSat_grd (s : State) (f : Fld) (i k : Nat) : (s.addSat f i k).grd = s.grd := rfl
@[simp] theorem addSat_hrm (s : State) (f : Fld) (i k : Nat) : (s.addSat f i k).hrm = s.hrm := rfl
@[simp] theorem addSat_dst (s : State) (f : Fld) (i k : Nat) : (s.addSat f i k).dst = s.dst := rfl
@[simp] theorem addSat_pls (s : State) (f : Fld) (i k : Nat) : (s.addSat f i k).pls = s.pls := rfl
@[simp] theorem addSat_way (s : State) (f : Fld) (i k : Nat) : (s.addSat f i k).way = s.way := rfl
@[simp] theorem addSat_rng (s : State) (f : Fld) (i k : Nat) : (s.addSat f i k).rng = s.rng := rfl
@[simp] theorem addSat_sbx (s : State) (f : Fld) (i k : Nat) : (s.addSat f i k).sbx = s.sbx := rfl
@[simp] theorem addSat_cvn (s : State) (f : Fld) (i k : Nat) : (s.addSat f i k).cvn = s.cvn := rfl
@[simp] theorem addSat_sar (s : State) (f : Fld) (i k : Nat) : (s.addSat f i k).sar = s.sar := rfl
@[simp] theorem addSat_dsp (s : State) (f : Fld) (i k : Nat) : (s.addSat f i k).dsp = s.dsp := rfl
@[simp] theorem addSat_prt (s : State) (f : Fld) (i k : Nat) : (s.addSat f i k).prt = s.prt := rfl

/-! ### Counting one -/

@[simp] theorem inc_pending (s : State) (f : Fld) (i : Nat) : (s.inc f i).pending = s.pending := rfl
@[simp] theorem inc_clk (s : State) (f : Fld) (i : Nat) : (s.inc f i).clk = s.clk := rfl
@[simp] theorem inc_ctl (s : State) (f : Fld) (i : Nat) : (s.inc f i).ctl = s.ctl := rfl
@[simp] theorem inc_host (s : State) (f : Fld) (i : Nat) : (s.inc f i).host = s.host := rfl
@[simp] theorem inc_pwr (s : State) (f : Fld) (i : Nat) : (s.inc f i).pwr = s.pwr := rfl
@[simp] theorem inc_ldg (s : State) (f : Fld) (i : Nat) : (s.inc f i).ldg = s.ldg := rfl
@[simp] theorem inc_evt (s : State) (f : Fld) (i : Nat) : (s.inc f i).evt = s.evt := rfl
@[simp] theorem inc_inp (s : State) (f : Fld) (i : Nat) : (s.inc f i).inp = s.inp := rfl
@[simp] theorem inc_rmt (s : State) (f : Fld) (i : Nat) : (s.inc f i).rmt = s.rmt := rfl
@[simp] theorem inc_flt (s : State) (f : Fld) (i : Nat) : (s.inc f i).flt = s.flt := rfl
@[simp] theorem inc_flts (s : State) (f : Fld) (i : Nat) : (s.inc f i).flts = s.flts := rfl
@[simp] theorem inc_cal (s : State) (f : Fld) (i : Nat) : (s.inc f i).cal = s.cal := rfl
@[simp] theorem inc_twn (s : State) (f : Fld) (i : Nat) : (s.inc f i).twn = s.twn := rfl
@[simp] theorem inc_mtr (s : State) (f : Fld) (i : Nat) : (s.inc f i).mtr = s.mtr := rfl
@[simp] theorem inc_itn (s : State) (f : Fld) (i : Nat) : (s.inc f i).itn = s.itn := rfl
@[simp] theorem inc_grd (s : State) (f : Fld) (i : Nat) : (s.inc f i).grd = s.grd := rfl
@[simp] theorem inc_hrm (s : State) (f : Fld) (i : Nat) : (s.inc f i).hrm = s.hrm := rfl
@[simp] theorem inc_dst (s : State) (f : Fld) (i : Nat) : (s.inc f i).dst = s.dst := rfl
@[simp] theorem inc_pls (s : State) (f : Fld) (i : Nat) : (s.inc f i).pls = s.pls := rfl
@[simp] theorem inc_way (s : State) (f : Fld) (i : Nat) : (s.inc f i).way = s.way := rfl
@[simp] theorem inc_rng (s : State) (f : Fld) (i : Nat) : (s.inc f i).rng = s.rng := rfl
@[simp] theorem inc_sbx (s : State) (f : Fld) (i : Nat) : (s.inc f i).sbx = s.sbx := rfl
@[simp] theorem inc_cvn (s : State) (f : Fld) (i : Nat) : (s.inc f i).cvn = s.cvn := rfl
@[simp] theorem inc_sar (s : State) (f : Fld) (i : Nat) : (s.inc f i).sar = s.sar := rfl
@[simp] theorem inc_dsp (s : State) (f : Fld) (i : Nat) : (s.inc f i).dsp = s.dsp := rfl
@[simp] theorem inc_prt (s : State) (f : Fld) (i : Nat) : (s.inc f i).prt = s.prt := rfl

/-! ### Writing a signed field -/

@[simp] theorem putI_pending (s : State) (f : Fld) (i : Nat) (z : Int) : (s.putI f i z).pending = s.pending := rfl
@[simp] theorem putI_clk (s : State) (f : Fld) (i : Nat) (z : Int) : (s.putI f i z).clk = s.clk := rfl
@[simp] theorem putI_ctl (s : State) (f : Fld) (i : Nat) (z : Int) : (s.putI f i z).ctl = s.ctl := rfl
@[simp] theorem putI_host (s : State) (f : Fld) (i : Nat) (z : Int) : (s.putI f i z).host = s.host := rfl
@[simp] theorem putI_pwr (s : State) (f : Fld) (i : Nat) (z : Int) : (s.putI f i z).pwr = s.pwr := rfl
@[simp] theorem putI_ldg (s : State) (f : Fld) (i : Nat) (z : Int) : (s.putI f i z).ldg = s.ldg := rfl
@[simp] theorem putI_evt (s : State) (f : Fld) (i : Nat) (z : Int) : (s.putI f i z).evt = s.evt := rfl
@[simp] theorem putI_inp (s : State) (f : Fld) (i : Nat) (z : Int) : (s.putI f i z).inp = s.inp := rfl
@[simp] theorem putI_rmt (s : State) (f : Fld) (i : Nat) (z : Int) : (s.putI f i z).rmt = s.rmt := rfl
@[simp] theorem putI_flt (s : State) (f : Fld) (i : Nat) (z : Int) : (s.putI f i z).flt = s.flt := rfl
@[simp] theorem putI_flts (s : State) (f : Fld) (i : Nat) (z : Int) : (s.putI f i z).flts = s.flts := rfl
@[simp] theorem putI_cal (s : State) (f : Fld) (i : Nat) (z : Int) : (s.putI f i z).cal = s.cal := rfl
@[simp] theorem putI_twn (s : State) (f : Fld) (i : Nat) (z : Int) : (s.putI f i z).twn = s.twn := rfl
@[simp] theorem putI_mtr (s : State) (f : Fld) (i : Nat) (z : Int) : (s.putI f i z).mtr = s.mtr := rfl
@[simp] theorem putI_itn (s : State) (f : Fld) (i : Nat) (z : Int) : (s.putI f i z).itn = s.itn := rfl
@[simp] theorem putI_grd (s : State) (f : Fld) (i : Nat) (z : Int) : (s.putI f i z).grd = s.grd := rfl
@[simp] theorem putI_hrm (s : State) (f : Fld) (i : Nat) (z : Int) : (s.putI f i z).hrm = s.hrm := rfl
@[simp] theorem putI_dst (s : State) (f : Fld) (i : Nat) (z : Int) : (s.putI f i z).dst = s.dst := rfl
@[simp] theorem putI_pls (s : State) (f : Fld) (i : Nat) (z : Int) : (s.putI f i z).pls = s.pls := rfl
@[simp] theorem putI_way (s : State) (f : Fld) (i : Nat) (z : Int) : (s.putI f i z).way = s.way := rfl
@[simp] theorem putI_rng (s : State) (f : Fld) (i : Nat) (z : Int) : (s.putI f i z).rng = s.rng := rfl
@[simp] theorem putI_sbx (s : State) (f : Fld) (i : Nat) (z : Int) : (s.putI f i z).sbx = s.sbx := rfl
@[simp] theorem putI_cvn (s : State) (f : Fld) (i : Nat) (z : Int) : (s.putI f i z).cvn = s.cvn := rfl
@[simp] theorem putI_sar (s : State) (f : Fld) (i : Nat) (z : Int) : (s.putI f i z).sar = s.sar := rfl
@[simp] theorem putI_dsp (s : State) (f : Fld) (i : Nat) (z : Int) : (s.putI f i z).dsp = s.dsp := rfl
@[simp] theorem putI_prt (s : State) (f : Fld) (i : Nat) (z : Int) : (s.putI f i z).prt = s.prt := rfl

/-! ### Noting an instant -/

@[simp] theorem stamp_pending (s : State) (f : Fld) (i : Nat) : (s.stamp f i).pending = s.pending := rfl
@[simp] theorem stamp_flds (s : State) (f : Fld) (i : Nat) : (s.stamp f i).flds = s.flds := rfl
@[simp] theorem stamp_clk (s : State) (f : Fld) (i : Nat) : (s.stamp f i).clk = s.clk := rfl
@[simp] theorem stamp_ctl (s : State) (f : Fld) (i : Nat) : (s.stamp f i).ctl = s.ctl := rfl
@[simp] theorem stamp_host (s : State) (f : Fld) (i : Nat) : (s.stamp f i).host = s.host := rfl
@[simp] theorem stamp_pwr (s : State) (f : Fld) (i : Nat) : (s.stamp f i).pwr = s.pwr := rfl
@[simp] theorem stamp_ldg (s : State) (f : Fld) (i : Nat) : (s.stamp f i).ldg = s.ldg := rfl
@[simp] theorem stamp_evt (s : State) (f : Fld) (i : Nat) : (s.stamp f i).evt = s.evt := rfl
@[simp] theorem stamp_inp (s : State) (f : Fld) (i : Nat) : (s.stamp f i).inp = s.inp := rfl
@[simp] theorem stamp_rmt (s : State) (f : Fld) (i : Nat) : (s.stamp f i).rmt = s.rmt := rfl
@[simp] theorem stamp_flt (s : State) (f : Fld) (i : Nat) : (s.stamp f i).flt = s.flt := rfl
@[simp] theorem stamp_flts (s : State) (f : Fld) (i : Nat) : (s.stamp f i).flts = s.flts := rfl
@[simp] theorem stamp_cal (s : State) (f : Fld) (i : Nat) : (s.stamp f i).cal = s.cal := rfl
@[simp] theorem stamp_twn (s : State) (f : Fld) (i : Nat) : (s.stamp f i).twn = s.twn := rfl
@[simp] theorem stamp_itn (s : State) (f : Fld) (i : Nat) : (s.stamp f i).itn = s.itn := rfl
@[simp] theorem stamp_grd (s : State) (f : Fld) (i : Nat) : (s.stamp f i).grd = s.grd := rfl
@[simp] theorem stamp_hrm (s : State) (f : Fld) (i : Nat) : (s.stamp f i).hrm = s.hrm := rfl
@[simp] theorem stamp_dst (s : State) (f : Fld) (i : Nat) : (s.stamp f i).dst = s.dst := rfl
@[simp] theorem stamp_pls (s : State) (f : Fld) (i : Nat) : (s.stamp f i).pls = s.pls := rfl
@[simp] theorem stamp_way (s : State) (f : Fld) (i : Nat) : (s.stamp f i).way = s.way := rfl
@[simp] theorem stamp_rng (s : State) (f : Fld) (i : Nat) : (s.stamp f i).rng = s.rng := rfl
@[simp] theorem stamp_sbx (s : State) (f : Fld) (i : Nat) : (s.stamp f i).sbx = s.sbx := rfl
@[simp] theorem stamp_cvn (s : State) (f : Fld) (i : Nat) : (s.stamp f i).cvn = s.cvn := rfl
@[simp] theorem stamp_sar (s : State) (f : Fld) (i : Nat) : (s.stamp f i).sar = s.sar := rfl
@[simp] theorem stamp_dsp (s : State) (f : Fld) (i : Nat) : (s.stamp f i).dsp = s.dsp := rfl
@[simp] theorem stamp_prt (s : State) (f : Fld) (i : Nat) : (s.stamp f i).prt = s.prt := rfl

/-! ### A spare of remount -/

@[simp] theorem setSp_pending (sp : Nat) (x : SpareSt) (s : State) : (setSp sp x s).pending = s.pending := by
  unfold setSp retarget; dsimp only; split <;> rfl
@[simp] theorem setSp_ctl (sp : Nat) (x : SpareSt) (s : State) : (setSp sp x s).ctl = s.ctl := by
  unfold setSp retarget; dsimp only; split <;> rfl
@[simp] theorem setSp_host (sp : Nat) (x : SpareSt) (s : State) : (setSp sp x s).host = s.host := by
  unfold setSp retarget; dsimp only; split <;> rfl
@[simp] theorem setSp_pwr (sp : Nat) (x : SpareSt) (s : State) : (setSp sp x s).pwr = s.pwr := by
  unfold setSp retarget; dsimp only; split <;> rfl
@[simp] theorem setSp_ldg (sp : Nat) (x : SpareSt) (s : State) : (setSp sp x s).ldg = s.ldg := by
  unfold setSp retarget; dsimp only; split <;> rfl
@[simp] theorem setSp_evt (sp : Nat) (x : SpareSt) (s : State) : (setSp sp x s).evt = s.evt := by
  unfold setSp retarget; dsimp only; split <;> rfl
@[simp] theorem setSp_inp (sp : Nat) (x : SpareSt) (s : State) : (setSp sp x s).inp = s.inp := by
  unfold setSp retarget; dsimp only; split <;> rfl
@[simp] theorem setSp_flts (sp : Nat) (x : SpareSt) (s : State) : (setSp sp x s).flts = s.flts := by
  unfold setSp retarget; dsimp only; split <;> rfl
@[simp] theorem setSp_cal (sp : Nat) (x : SpareSt) (s : State) : (setSp sp x s).cal = s.cal := by
  unfold setSp retarget; dsimp only; split <;> rfl
@[simp] theorem setSp_twn (sp : Nat) (x : SpareSt) (s : State) : (setSp sp x s).twn = s.twn := by
  unfold setSp retarget; dsimp only; split <;> rfl
@[simp] theorem setSp_mtr (sp : Nat) (x : SpareSt) (s : State) : (setSp sp x s).mtr = s.mtr := by
  unfold setSp retarget; dsimp only; split <;> rfl
@[simp] theorem setSp_itn (sp : Nat) (x : SpareSt) (s : State) : (setSp sp x s).itn = s.itn := by
  unfold setSp retarget; dsimp only; split <;> rfl
@[simp] theorem setSp_grd (sp : Nat) (x : SpareSt) (s : State) : (setSp sp x s).grd = s.grd := by
  unfold setSp retarget; dsimp only; split <;> rfl
@[simp] theorem setSp_hrm (sp : Nat) (x : SpareSt) (s : State) : (setSp sp x s).hrm = s.hrm := by
  unfold setSp retarget; dsimp only; split <;> rfl
@[simp] theorem setSp_dst (sp : Nat) (x : SpareSt) (s : State) : (setSp sp x s).dst = s.dst := by
  unfold setSp retarget; dsimp only; split <;> rfl
@[simp] theorem setSp_pls (sp : Nat) (x : SpareSt) (s : State) : (setSp sp x s).pls = s.pls := by
  unfold setSp retarget; dsimp only; split <;> rfl
@[simp] theorem setSp_way (sp : Nat) (x : SpareSt) (s : State) : (setSp sp x s).way = s.way := by
  unfold setSp retarget; dsimp only; split <;> rfl
@[simp] theorem setSp_rng (sp : Nat) (x : SpareSt) (s : State) : (setSp sp x s).rng = s.rng := by
  unfold setSp retarget; dsimp only; split <;> rfl
@[simp] theorem setSp_sbx (sp : Nat) (x : SpareSt) (s : State) : (setSp sp x s).sbx = s.sbx := by
  unfold setSp retarget; dsimp only; split <;> rfl
@[simp] theorem setSp_cvn (sp : Nat) (x : SpareSt) (s : State) : (setSp sp x s).cvn = s.cvn := by
  unfold setSp retarget; dsimp only; split <;> rfl
@[simp] theorem setSp_sar (sp : Nat) (x : SpareSt) (s : State) : (setSp sp x s).sar = s.sar := by
  unfold setSp retarget; dsimp only; split <;> rfl
@[simp] theorem setSp_dsp (sp : Nat) (x : SpareSt) (s : State) : (setSp sp x s).dsp = s.dsp := by
  unfold setSp retarget; dsimp only; split <;> rfl
@[simp] theorem setSp_prt (sp : Nat) (x : SpareSt) (s : State) : (setSp sp x s).prt = s.prt := by
  unfold setSp retarget; dsimp only; split <;> rfl

/-! ### A pulse output -/

@[simp] theorem setOut_pending (c : Nat) (o : PlsOut) (s : State) : (setOut c o s).pending = s.pending := rfl
@[simp] theorem setOut_flds (c : Nat) (o : PlsOut) (s : State) : (setOut c o s).flds = s.flds := rfl
@[simp] theorem setOut_clk (c : Nat) (o : PlsOut) (s : State) : (setOut c o s).clk = s.clk := rfl
@[simp] theorem setOut_ctl (c : Nat) (o : PlsOut) (s : State) : (setOut c o s).ctl = s.ctl := rfl
@[simp] theorem setOut_host (c : Nat) (o : PlsOut) (s : State) : (setOut c o s).host = s.host := rfl
@[simp] theorem setOut_pwr (c : Nat) (o : PlsOut) (s : State) : (setOut c o s).pwr = s.pwr := rfl
@[simp] theorem setOut_ldg (c : Nat) (o : PlsOut) (s : State) : (setOut c o s).ldg = s.ldg := rfl
@[simp] theorem setOut_evt (c : Nat) (o : PlsOut) (s : State) : (setOut c o s).evt = s.evt := rfl
@[simp] theorem setOut_inp (c : Nat) (o : PlsOut) (s : State) : (setOut c o s).inp = s.inp := rfl
@[simp] theorem setOut_rmt (c : Nat) (o : PlsOut) (s : State) : (setOut c o s).rmt = s.rmt := rfl
@[simp] theorem setOut_flt (c : Nat) (o : PlsOut) (s : State) : (setOut c o s).flt = s.flt := rfl
@[simp] theorem setOut_flts (c : Nat) (o : PlsOut) (s : State) : (setOut c o s).flts = s.flts := rfl
@[simp] theorem setOut_cal (c : Nat) (o : PlsOut) (s : State) : (setOut c o s).cal = s.cal := rfl
@[simp] theorem setOut_twn (c : Nat) (o : PlsOut) (s : State) : (setOut c o s).twn = s.twn := rfl
@[simp] theorem setOut_mtr (c : Nat) (o : PlsOut) (s : State) : (setOut c o s).mtr = s.mtr := rfl
@[simp] theorem setOut_itn (c : Nat) (o : PlsOut) (s : State) : (setOut c o s).itn = s.itn := rfl
@[simp] theorem setOut_grd (c : Nat) (o : PlsOut) (s : State) : (setOut c o s).grd = s.grd := rfl
@[simp] theorem setOut_hrm (c : Nat) (o : PlsOut) (s : State) : (setOut c o s).hrm = s.hrm := rfl
@[simp] theorem setOut_dst (c : Nat) (o : PlsOut) (s : State) : (setOut c o s).dst = s.dst := rfl
@[simp] theorem setOut_way (c : Nat) (o : PlsOut) (s : State) : (setOut c o s).way = s.way := rfl
@[simp] theorem setOut_rng (c : Nat) (o : PlsOut) (s : State) : (setOut c o s).rng = s.rng := rfl
@[simp] theorem setOut_sbx (c : Nat) (o : PlsOut) (s : State) : (setOut c o s).sbx = s.sbx := rfl
@[simp] theorem setOut_cvn (c : Nat) (o : PlsOut) (s : State) : (setOut c o s).cvn = s.cvn := rfl
@[simp] theorem setOut_sar (c : Nat) (o : PlsOut) (s : State) : (setOut c o s).sar = s.sar := rfl
@[simp] theorem setOut_dsp (c : Nat) (o : PlsOut) (s : State) : (setOut c o s).dsp = s.dsp := rfl
@[simp] theorem setOut_prt (c : Nat) (o : PlsOut) (s : State) : (setOut c o s).prt = s.prt := rfl

/-! ### The tracker of a grid group -/

@[simp] theorem setTrk_pending (g : Nat) (k : GrdTrk) (s : State) : (setTrk g k s).pending = s.pending := rfl
@[simp] theorem setTrk_flds (g : Nat) (k : GrdTrk) (s : State) : (setTrk g k s).flds = s.flds := rfl
@[simp] theorem setTrk_clk (g : Nat) (k : GrdTrk) (s : State) : (setTrk g k s).clk = s.clk := rfl
@[simp] theorem setTrk_ctl (g : Nat) (k : GrdTrk) (s : State) : (setTrk g k s).ctl = s.ctl := rfl
@[simp] theorem setTrk_host (g : Nat) (k : GrdTrk) (s : State) : (setTrk g k s).host = s.host := rfl
@[simp] theorem setTrk_pwr (g : Nat) (k : GrdTrk) (s : State) : (setTrk g k s).pwr = s.pwr := rfl
@[simp] theorem setTrk_ldg (g : Nat) (k : GrdTrk) (s : State) : (setTrk g k s).ldg = s.ldg := rfl
@[simp] theorem setTrk_evt (g : Nat) (k : GrdTrk) (s : State) : (setTrk g k s).evt = s.evt := rfl
@[simp] theorem setTrk_inp (g : Nat) (k : GrdTrk) (s : State) : (setTrk g k s).inp = s.inp := rfl
@[simp] theorem setTrk_rmt (g : Nat) (k : GrdTrk) (s : State) : (setTrk g k s).rmt = s.rmt := rfl
@[simp] theorem setTrk_flt (g : Nat) (k : GrdTrk) (s : State) : (setTrk g k s).flt = s.flt := rfl
@[simp] theorem setTrk_flts (g : Nat) (k : GrdTrk) (s : State) : (setTrk g k s).flts = s.flts := rfl
@[simp] theorem setTrk_cal (g : Nat) (k : GrdTrk) (s : State) : (setTrk g k s).cal = s.cal := rfl
@[simp] theorem setTrk_twn (g : Nat) (k : GrdTrk) (s : State) : (setTrk g k s).twn = s.twn := rfl
@[simp] theorem setTrk_mtr (g : Nat) (k : GrdTrk) (s : State) : (setTrk g k s).mtr = s.mtr := rfl
@[simp] theorem setTrk_itn (g : Nat) (k : GrdTrk) (s : State) : (setTrk g k s).itn = s.itn := rfl
@[simp] theorem setTrk_hrm (g : Nat) (k : GrdTrk) (s : State) : (setTrk g k s).hrm = s.hrm := rfl
@[simp] theorem setTrk_dst (g : Nat) (k : GrdTrk) (s : State) : (setTrk g k s).dst = s.dst := rfl
@[simp] theorem setTrk_pls (g : Nat) (k : GrdTrk) (s : State) : (setTrk g k s).pls = s.pls := rfl
@[simp] theorem setTrk_way (g : Nat) (k : GrdTrk) (s : State) : (setTrk g k s).way = s.way := rfl
@[simp] theorem setTrk_rng (g : Nat) (k : GrdTrk) (s : State) : (setTrk g k s).rng = s.rng := rfl
@[simp] theorem setTrk_sbx (g : Nat) (k : GrdTrk) (s : State) : (setTrk g k s).sbx = s.sbx := rfl
@[simp] theorem setTrk_cvn (g : Nat) (k : GrdTrk) (s : State) : (setTrk g k s).cvn = s.cvn := rfl
@[simp] theorem setTrk_sar (g : Nat) (k : GrdTrk) (s : State) : (setTrk g k s).sar = s.sar := rfl
@[simp] theorem setTrk_dsp (g : Nat) (k : GrdTrk) (s : State) : (setTrk g k s).dsp = s.dsp := rfl
@[simp] theorem setTrk_prt (g : Nat) (k : GrdTrk) (s : State) : (setTrk g k s).prt = s.prt := rfl

/-! ### The disturbance state of a group -/

@[simp] theorem setDst_pending (g : Nat) (d : DstGrp) (s : State) : (setDst g d s).pending = s.pending := rfl
@[simp] theorem setDst_flds (g : Nat) (d : DstGrp) (s : State) : (setDst g d s).flds = s.flds := rfl
@[simp] theorem setDst_clk (g : Nat) (d : DstGrp) (s : State) : (setDst g d s).clk = s.clk := rfl
@[simp] theorem setDst_ctl (g : Nat) (d : DstGrp) (s : State) : (setDst g d s).ctl = s.ctl := rfl
@[simp] theorem setDst_host (g : Nat) (d : DstGrp) (s : State) : (setDst g d s).host = s.host := rfl
@[simp] theorem setDst_pwr (g : Nat) (d : DstGrp) (s : State) : (setDst g d s).pwr = s.pwr := rfl
@[simp] theorem setDst_ldg (g : Nat) (d : DstGrp) (s : State) : (setDst g d s).ldg = s.ldg := rfl
@[simp] theorem setDst_evt (g : Nat) (d : DstGrp) (s : State) : (setDst g d s).evt = s.evt := rfl
@[simp] theorem setDst_inp (g : Nat) (d : DstGrp) (s : State) : (setDst g d s).inp = s.inp := rfl
@[simp] theorem setDst_rmt (g : Nat) (d : DstGrp) (s : State) : (setDst g d s).rmt = s.rmt := rfl
@[simp] theorem setDst_flt (g : Nat) (d : DstGrp) (s : State) : (setDst g d s).flt = s.flt := rfl
@[simp] theorem setDst_flts (g : Nat) (d : DstGrp) (s : State) : (setDst g d s).flts = s.flts := rfl
@[simp] theorem setDst_cal (g : Nat) (d : DstGrp) (s : State) : (setDst g d s).cal = s.cal := rfl
@[simp] theorem setDst_twn (g : Nat) (d : DstGrp) (s : State) : (setDst g d s).twn = s.twn := rfl
@[simp] theorem setDst_mtr (g : Nat) (d : DstGrp) (s : State) : (setDst g d s).mtr = s.mtr := rfl
@[simp] theorem setDst_itn (g : Nat) (d : DstGrp) (s : State) : (setDst g d s).itn = s.itn := rfl
@[simp] theorem setDst_grd (g : Nat) (d : DstGrp) (s : State) : (setDst g d s).grd = s.grd := rfl
@[simp] theorem setDst_hrm (g : Nat) (d : DstGrp) (s : State) : (setDst g d s).hrm = s.hrm := rfl
@[simp] theorem setDst_pls (g : Nat) (d : DstGrp) (s : State) : (setDst g d s).pls = s.pls := rfl
@[simp] theorem setDst_way (g : Nat) (d : DstGrp) (s : State) : (setDst g d s).way = s.way := rfl
@[simp] theorem setDst_rng (g : Nat) (d : DstGrp) (s : State) : (setDst g d s).rng = s.rng := rfl
@[simp] theorem setDst_sbx (g : Nat) (d : DstGrp) (s : State) : (setDst g d s).sbx = s.sbx := rfl
@[simp] theorem setDst_cvn (g : Nat) (d : DstGrp) (s : State) : (setDst g d s).cvn = s.cvn := rfl
@[simp] theorem setDst_sar (g : Nat) (d : DstGrp) (s : State) : (setDst g d s).sar = s.sar := rfl
@[simp] theorem setDst_dsp (g : Nat) (d : DstGrp) (s : State) : (setDst g d s).dsp = s.dsp := rfl
@[simp] theorem setDst_prt (g : Nat) (d : DstGrp) (s : State) : (setDst g d s).prt = s.prt := rfl

/-! ### The state of twin -/

@[simp] theorem setTst_pending (k : Nat) (s : State) : (setTst k s).pending = s.pending := rfl
@[simp] theorem setTst_clk (k : Nat) (s : State) : (setTst k s).clk = s.clk := rfl
@[simp] theorem setTst_ctl (k : Nat) (s : State) : (setTst k s).ctl = s.ctl := rfl
@[simp] theorem setTst_host (k : Nat) (s : State) : (setTst k s).host = s.host := rfl
@[simp] theorem setTst_pwr (k : Nat) (s : State) : (setTst k s).pwr = s.pwr := rfl
@[simp] theorem setTst_ldg (k : Nat) (s : State) : (setTst k s).ldg = s.ldg := rfl
@[simp] theorem setTst_evt (k : Nat) (s : State) : (setTst k s).evt = s.evt := rfl
@[simp] theorem setTst_inp (k : Nat) (s : State) : (setTst k s).inp = s.inp := rfl
@[simp] theorem setTst_rmt (k : Nat) (s : State) : (setTst k s).rmt = s.rmt := rfl
@[simp] theorem setTst_flt (k : Nat) (s : State) : (setTst k s).flt = s.flt := rfl
@[simp] theorem setTst_flts (k : Nat) (s : State) : (setTst k s).flts = s.flts := rfl
@[simp] theorem setTst_cal (k : Nat) (s : State) : (setTst k s).cal = s.cal := rfl
@[simp] theorem setTst_twn (k : Nat) (s : State) : (setTst k s).twn = s.twn := rfl
@[simp] theorem setTst_mtr (k : Nat) (s : State) : (setTst k s).mtr = s.mtr := rfl
@[simp] theorem setTst_itn (k : Nat) (s : State) : (setTst k s).itn = s.itn := rfl
@[simp] theorem setTst_grd (k : Nat) (s : State) : (setTst k s).grd = s.grd := rfl
@[simp] theorem setTst_hrm (k : Nat) (s : State) : (setTst k s).hrm = s.hrm := rfl
@[simp] theorem setTst_dst (k : Nat) (s : State) : (setTst k s).dst = s.dst := rfl
@[simp] theorem setTst_pls (k : Nat) (s : State) : (setTst k s).pls = s.pls := rfl
@[simp] theorem setTst_way (k : Nat) (s : State) : (setTst k s).way = s.way := rfl
@[simp] theorem setTst_rng (k : Nat) (s : State) : (setTst k s).rng = s.rng := rfl
@[simp] theorem setTst_sbx (k : Nat) (s : State) : (setTst k s).sbx = s.sbx := rfl
@[simp] theorem setTst_cvn (k : Nat) (s : State) : (setTst k s).cvn = s.cvn := rfl
@[simp] theorem setTst_sar (k : Nat) (s : State) : (setTst k s).sar = s.sar := rfl
@[simp] theorem setTst_dsp (k : Nat) (s : State) : (setTst k s).dsp = s.dsp := rfl
@[simp] theorem setTst_prt (k : Nat) (s : State) : (setTst k s).prt = s.prt := rfl

/-! ### Reading back what was written -/

@[simp] theorem stamp_fld (s : State) (f g : Fld) (i j : Nat) : (s.stamp f i).fld g j = s.fld g j := rfl

@[simp] theorem stamp_bit (s : State) (f g : Fld) (i j : Nat) : (s.stamp f i).bit g j = s.bit g j := rfl

end Sys2Proof.Machine
end

