-- ==== Sys2Proof/Laws/Ops.lean ====
section
/-! SUPPORT. What the operations that every unit shares can do: writing and reading bits and counters, and raising an event
source. -/

namespace Sys2Proof.Machine

/-! ### Bits, counters and signed values -/

/-- A bit reads as it was written. -/
theorem setBit_bit_same (s : State) (f : Fld) (i : Nat) (b : Bool) (h : f.len = 1) : (s.setBit f i b).bit f i = b := by
  unfold State.bit State.setBit
  rw [put_fld_same, h]
  cases b <;> rfl

/-- Writing a bit leaves every field of another number alone. -/
theorem setBit_fld_field (s : State) (f g : Fld) (i j : Nat) (b : Bool) (h : f.id ≠ g.id) :
    (s.setBit f i b).fld g j = s.fld g j := put_fld_field s f g i j _ h

/-- A counter saturates at the top of its field. -/
theorem addSat_fld_same (s : State) (f : Fld) (i k : Nat) : (s.addSat f i k).fld f i = min f.top (s.fld f i + k) := by
  unfold State.addSat
  rw [put_fld_same]
  apply Nat.mod_eq_of_lt
  have h : 0 < 2 ^ f.len := Nat.two_pow_pos _
  unfold Fld.top
  omega

/-- Counting leaves every field of another number alone. -/
theorem addSat_fld_field (s : State) (f g : Fld) (i j k : Nat) (h : f.id ≠ g.id) :
    (s.addSat f i k).fld g j = s.fld g j := put_fld_field s f g i j _ h

/-- A signed field reads as the integer written, where the integer fits. -/
theorem putI_sfld_same (s : State) (f : Fld) (i : Nat) (z : Int) (n : Nat) (hl : f.len = n + 1) (h1 : -(2 ^ n) ≤ z)
    (h2 : z < 2 ^ n) : (s.putI f i z).sfld f i = z := by
  unfold State.sfld State.putI signed
  rw [put_fld_same, hl]
  have hp : (2 : Int) ^ (n + 1) = 2 * 2 ^ n := by rw [pow_succ]; ring
  have hq : (2 : Nat) ^ (n + 1) = 2 * 2 ^ n := by rw [pow_succ]; ring
  have hc : ((2 ^ n : Nat) : Int) = 2 ^ n := by push_cast; rfl
  rw [hp, hq]
  generalize hN : (2 : Nat) ^ n = N at *
  rw [← hc] at h1 h2 ⊢
  have h0 : 0 < N := by rw [← hN]; exact Nat.two_pow_pos _
  have hm : (z % (2 * (N : Int))).toNat % (2 * N) % (2 * N) = (z % (2 * (N : Int))).toNat := by
    have : (z % (2 * (N : Int))) < 2 * (N : Int) := Int.emod_lt_of_pos _ (by omega)
    have : 0 ≤ (z % (2 * (N : Int))) := Int.emod_nonneg _ (by omega)
    rw [Nat.mod_mod]
    exact Nat.mod_eq_of_lt (by omega)
  rw [hm]
  have hz : z % (2 * (N : Int)) = if 0 ≤ z then z else z + 2 * N := by
    split
    · exact Int.emod_eq_of_lt ‹_› (by omega)
    · rw [← Int.add_emod_right]
      exact Int.emod_eq_of_lt (by omega) (by omega)
  rw [hz]
  dsimp only
  split <;> split <;> omega

/-! ### Raising an event source -/

/-- Nothing is raised while the main domain is unpowered. -/
theorem raise_backup (s : State) (e d : Nat) (h : s.pwr.mstate = .backup) : raise e d s = s := by
  unfold raise
  rw [if_pos h]

@[simp] theorem putRec_clk (s : State) (r : LdgRec) : (putRec s r).clk = s.clk := rfl
@[simp] theorem putRec_ctl (s : State) (r : LdgRec) : (putRec s r).ctl = s.ctl := rfl
@[simp] theorem putRec_host (s : State) (r : LdgRec) : (putRec s r).host = s.host := rfl
@[simp] theorem putRec_pwr (s : State) (r : LdgRec) : (putRec s r).pwr = s.pwr := rfl
@[simp] theorem putRec_evt (s : State) (r : LdgRec) : (putRec s r).evt = s.evt := rfl
@[simp] theorem putRec_inp (s : State) (r : LdgRec) : (putRec s r).inp = s.inp := rfl
@[simp] theorem putRec_rmt (s : State) (r : LdgRec) : (putRec s r).rmt = s.rmt := rfl
@[simp] theorem putRec_flt (s : State) (r : LdgRec) : (putRec s r).flt = s.flt := rfl
@[simp] theorem putRec_flts (s : State) (r : LdgRec) : (putRec s r).flts = s.flts := rfl
@[simp] theorem putRec_cal (s : State) (r : LdgRec) : (putRec s r).cal = s.cal := rfl
@[simp] theorem putRec_twn (s : State) (r : LdgRec) : (putRec s r).twn = s.twn := rfl
@[simp] theorem putRec_mtr (s : State) (r : LdgRec) : (putRec s r).mtr = s.mtr := rfl
@[simp] theorem putRec_itn (s : State) (r : LdgRec) : (putRec s r).itn = s.itn := rfl
@[simp] theorem putRec_grd (s : State) (r : LdgRec) : (putRec s r).grd = s.grd := rfl
@[simp] theorem putRec_hrm (s : State) (r : LdgRec) : (putRec s r).hrm = s.hrm := rfl
@[simp] theorem putRec_dst (s : State) (r : LdgRec) : (putRec s r).dst = s.dst := rfl
@[simp] theorem putRec_pls (s : State) (r : LdgRec) : (putRec s r).pls = s.pls := rfl
@[simp] theorem putRec_way (s : State) (r : LdgRec) : (putRec s r).way = s.way := rfl
@[simp] theorem putRec_rng (s : State) (r : LdgRec) : (putRec s r).rng = s.rng := rfl
@[simp] theorem putRec_sbx (s : State) (r : LdgRec) : (putRec s r).sbx = s.sbx := rfl
@[simp] theorem putRec_cvn (s : State) (r : LdgRec) : (putRec s r).cvn = s.cvn := rfl
@[simp] theorem putRec_sar (s : State) (r : LdgRec) : (putRec s r).sar = s.sar := rfl
@[simp] theorem putRec_dsp (s : State) (r : LdgRec) : (putRec s r).dsp = s.dsp := rfl
@[simp] theorem putRec_prt (s : State) (r : LdgRec) : (putRec s r).prt = s.prt := rfl
@[simp] theorem putRec_pending (s : State) (r : LdgRec) : (putRec s r).pending = s.pending := rfl

@[simp] theorem recordEvt_clk (s : State) (e : Nat) (r : LdgRec) : (recordEvt s e r).clk = s.clk := by
  unfold recordEvt
  dsimp only
  split <;> rfl

@[simp] theorem recordEvt_ctl (s : State) (e : Nat) (r : LdgRec) : (recordEvt s e r).ctl = s.ctl := by
  unfold recordEvt
  dsimp only
  split <;> rfl

@[simp] theorem recordEvt_host (s : State) (e : Nat) (r : LdgRec) : (recordEvt s e r).host = s.host := by
  unfold recordEvt
  dsimp only
  split <;> rfl

@[simp] theorem recordEvt_pwr (s : State) (e : Nat) (r : LdgRec) : (recordEvt s e r).pwr = s.pwr := by
  unfold recordEvt
  dsimp only
  split <;> rfl

@[simp] theorem recordEvt_evt (s : State) (e : Nat) (r : LdgRec) : (recordEvt s e r).evt = s.evt := by
  unfold recordEvt
  dsimp only
  split <;> rfl

@[simp] theorem recordEvt_inp (s : State) (e : Nat) (r : LdgRec) : (recordEvt s e r).inp = s.inp := by
  unfold recordEvt
  dsimp only
  split <;> rfl

@[simp] theorem recordEvt_rmt (s : State) (e : Nat) (r : LdgRec) : (recordEvt s e r).rmt = s.rmt := by
  unfold recordEvt
  dsimp only
  split <;> rfl

@[simp] theorem recordEvt_flt (s : State) (e : Nat) (r : LdgRec) : (recordEvt s e r).flt = s.flt := by
  unfold recordEvt
  dsimp only
  split <;> rfl

@[simp] theorem recordEvt_flts (s : State) (e : Nat) (r : LdgRec) : (recordEvt s e r).flts = s.flts := by
  unfold recordEvt
  dsimp only
  split <;> rfl

@[simp] theorem recordEvt_cal (s : State) (e : Nat) (r : LdgRec) : (recordEvt s e r).cal = s.cal := by
  unfold recordEvt
  dsimp only
  split <;> rfl

@[simp] theorem recordEvt_twn (s : State) (e : Nat) (r : LdgRec) : (recordEvt s e r).twn = s.twn := by
  unfold recordEvt
  dsimp only
  split <;> rfl

@[simp] theorem recordEvt_mtr (s : State) (e : Nat) (r : LdgRec) : (recordEvt s e r).mtr = s.mtr := by
  unfold recordEvt
  dsimp only
  split <;> rfl

@[simp] theorem recordEvt_itn (s : State) (e : Nat) (r : LdgRec) : (recordEvt s e r).itn = s.itn := by
  unfold recordEvt
  dsimp only
  split <;> rfl

@[simp] theorem recordEvt_grd (s : State) (e : Nat) (r : LdgRec) : (recordEvt s e r).grd = s.grd := by
  unfold recordEvt
  dsimp only
  split <;> rfl

@[simp] theorem recordEvt_hrm (s : State) (e : Nat) (r : LdgRec) : (recordEvt s e r).hrm = s.hrm := by
  unfold recordEvt
  dsimp only
  split <;> rfl

@[simp] theorem recordEvt_dst (s : State) (e : Nat) (r : LdgRec) : (recordEvt s e r).dst = s.dst := by
  unfold recordEvt
  dsimp only
  split <;> rfl

@[simp] theorem recordEvt_pls (s : State) (e : Nat) (r : LdgRec) : (recordEvt s e r).pls = s.pls := by
  unfold recordEvt
  dsimp only
  split <;> rfl

@[simp] theorem recordEvt_way (s : State) (e : Nat) (r : LdgRec) : (recordEvt s e r).way = s.way := by
  unfold recordEvt
  dsimp only
  split <;> rfl

@[simp] theorem recordEvt_rng (s : State) (e : Nat) (r : LdgRec) : (recordEvt s e r).rng = s.rng := by
  unfold recordEvt
  dsimp only
  split <;> rfl

@[simp] theorem recordEvt_sbx (s : State) (e : Nat) (r : LdgRec) : (recordEvt s e r).sbx = s.sbx := by
  unfold recordEvt
  dsimp only
  split <;> rfl

@[simp] theorem recordEvt_cvn (s : State) (e : Nat) (r : LdgRec) : (recordEvt s e r).cvn = s.cvn := by
  unfold recordEvt
  dsimp only
  split <;> rfl

@[simp] theorem recordEvt_sar (s : State) (e : Nat) (r : LdgRec) : (recordEvt s e r).sar = s.sar := by
  unfold recordEvt
  dsimp only
  split <;> rfl

@[simp] theorem recordEvt_dsp (s : State) (e : Nat) (r : LdgRec) : (recordEvt s e r).dsp = s.dsp := by
  unfold recordEvt
  dsimp only
  split <;> rfl

@[simp] theorem recordEvt_prt (s : State) (e : Nat) (r : LdgRec) : (recordEvt s e r).prt = s.prt := by
  unfold recordEvt
  dsimp only
  split <;> rfl

@[simp] theorem recordEvt_pending (s : State) (e : Nat) (r : LdgRec) : (recordEvt s e r).pending = s.pending := by
  unfold recordEvt
  dsimp only
  split <;> rfl

@[simp] theorem raise_clk (e d : Nat) (s : State) : (raise e d s).clk = s.clk := by
  unfold raise
  split
  · rfl
  · dsimp only
    split
    · rw [recordEvt_clk]
      split <;> rfl
    · split <;> rfl

@[simp] theorem raise_ctl (e d : Nat) (s : State) : (raise e d s).ctl = s.ctl := by
  unfold raise
  split
  · rfl
  · dsimp only
    split
    · rw [recordEvt_ctl]
      split <;> rfl
    · split <;> rfl

@[simp] theorem raise_host (e d : Nat) (s : State) : (raise e d s).host = s.host := by
  unfold raise
  split
  · rfl
  · dsimp only
    split
    · rw [recordEvt_host]
      split <;> rfl
    · split <;> rfl

@[simp] theorem raise_pwr (e d : Nat) (s : State) : (raise e d s).pwr = s.pwr := by
  unfold raise
  split
  · rfl
  · dsimp only
    split
    · rw [recordEvt_pwr]
      split <;> rfl
    · split <;> rfl

@[simp] theorem raise_evt (e d : Nat) (s : State) : (raise e d s).evt = s.evt := by
  unfold raise
  split
  · rfl
  · dsimp only
    split
    · rw [recordEvt_evt]
      split <;> rfl
    · split <;> rfl

@[simp] theorem raise_inp (e d : Nat) (s : State) : (raise e d s).inp = s.inp := by
  unfold raise
  split
  · rfl
  · dsimp only
    split
    · rw [recordEvt_inp]
      split <;> rfl
    · split <;> rfl

@[simp] theorem raise_rmt (e d : Nat) (s : State) : (raise e d s).rmt = s.rmt := by
  unfold raise
  split
  · rfl
  · dsimp only
    split
    · rw [recordEvt_rmt]
      split <;> rfl
    · split <;> rfl

@[simp] theorem raise_flt (e d : Nat) (s : State) : (raise e d s).flt = s.flt := by
  unfold raise
  split
  · rfl
  · dsimp only
    split
    · rw [recordEvt_flt]
      split <;> rfl
    · split <;> rfl

@[simp] theorem raise_flts (e d : Nat) (s : State) : (raise e d s).flts = s.flts := by
  unfold raise
  split
  · rfl
  · dsimp only
    split
    · rw [recordEvt_flts]
      split <;> rfl
    · split <;> rfl

@[simp] theorem raise_cal (e d : Nat) (s : State) : (raise e d s).cal = s.cal := by
  unfold raise
  split
  · rfl
  · dsimp only
    split
    · rw [recordEvt_cal]
      split <;> rfl
    · split <;> rfl

@[simp] theorem raise_twn (e d : Nat) (s : State) : (raise e d s).twn = s.twn := by
  unfold raise
  split
  · rfl
  · dsimp only
    split
    · rw [recordEvt_twn]
      split <;> rfl
    · split <;> rfl

@[simp] theorem raise_mtr (e d : Nat) (s : State) : (raise e d s).mtr = s.mtr := by
  unfold raise
  split
  · rfl
  · dsimp only
    split
    · rw [recordEvt_mtr]
      split <;> rfl
    · split <;> rfl

@[simp] theorem raise_itn (e d : Nat) (s : State) : (raise e d s).itn = s.itn := by
  unfold raise
  split
  · rfl
  · dsimp only
    split
    · rw [recordEvt_itn]
      split <;> rfl
    · split <;> rfl

@[simp] theorem raise_grd (e d : Nat) (s : State) : (raise e d s).grd = s.grd := by
  unfold raise
  split
  · rfl
  · dsimp only
    split
    · rw [recordEvt_grd]
      split <;> rfl
    · split <;> rfl

@[simp] theorem raise_hrm (e d : Nat) (s : State) : (raise e d s).hrm = s.hrm := by
  unfold raise
  split
  · rfl
  · dsimp only
    split
    · rw [recordEvt_hrm]
      split <;> rfl
    · split <;> rfl

@[simp] theorem raise_dst (e d : Nat) (s : State) : (raise e d s).dst = s.dst := by
  unfold raise
  split
  · rfl
  · dsimp only
    split
    · rw [recordEvt_dst]
      split <;> rfl
    · split <;> rfl

@[simp] theorem raise_pls (e d : Nat) (s : State) : (raise e d s).pls = s.pls := by
  unfold raise
  split
  · rfl
  · dsimp only
    split
    · rw [recordEvt_pls]
      split <;> rfl
    · split <;> rfl

@[simp] theorem raise_way (e d : Nat) (s : State) : (raise e d s).way = s.way := by
  unfold raise
  split
  · rfl
  · dsimp only
    split
    · rw [recordEvt_way]
      split <;> rfl
    · split <;> rfl

@[simp] theorem raise_rng (e d : Nat) (s : State) : (raise e d s).rng = s.rng := by
  unfold raise
  split
  · rfl
  · dsimp only
    split
    · rw [recordEvt_rng]
      split <;> rfl
    · split <;> rfl

@[simp] theorem raise_sbx (e d : Nat) (s : State) : (raise e d s).sbx = s.sbx := by
  unfold raise
  split
  · rfl
  · dsimp only
    split
    · rw [recordEvt_sbx]
      split <;> rfl
    · split <;> rfl

@[simp] theorem raise_cvn (e d : Nat) (s : State) : (raise e d s).cvn = s.cvn := by
  unfold raise
  split
  · rfl
  · dsimp only
    split
    · rw [recordEvt_cvn]
      split <;> rfl
    · split <;> rfl

@[simp] theorem raise_sar (e d : Nat) (s : State) : (raise e d s).sar = s.sar := by
  unfold raise
  split
  · rfl
  · dsimp only
    split
    · rw [recordEvt_sar]
      split <;> rfl
    · split <;> rfl

@[simp] theorem raise_dsp (e d : Nat) (s : State) : (raise e d s).dsp = s.dsp := by
  unfold raise
  split
  · rfl
  · dsimp only
    split
    · rw [recordEvt_dsp]
      split <;> rfl
    · split <;> rfl

@[simp] theorem raise_prt (e d : Nat) (s : State) : (raise e d s).prt = s.prt := by
  unfold raise
  split
  · rfl
  · dsimp only
    split
    · rw [recordEvt_prt]
      split <;> rfl
    · split <;> rfl

@[simp] theorem raise_pending (e d : Nat) (s : State) : (raise e d s).pending = s.pending := by
  unfold raise
  split
  · rfl
  · dsimp only
    split
    · rw [recordEvt_pending]
      split <;> rfl
    · split <;> rfl

/-- What raising an event writes: its pending bit, and the counts of the ledger; every other field keeps its value. -/
theorem raise_spares (e d : Nat) (s : State) (he : e < 128) : Spares evtFlds s (raise e d s) := by
  intro f i hk
  have hp : ∀ j, j < 4 → fkey F.EVT_PEND_PEND j ≠ fkey f i := by
    intro j hj
    have : (F.EVT_PEND_PEND, j) ∈ evtFlds := by
      unfold evtFlds
      interval_cases j <;> simp
    exact hk (F.EVT_PEND_PEND, j) this
  have hd : fkey F.LDG_CNT_DROPPED 0 ≠ fkey f i := hk (F.LDG_CNT_DROPPED, 0) (by simp [evtFlds])
  have hl : fkey F.LDG_ST_DROPL 0 ≠ fkey f i := hk (F.LDG_ST_DROPL, 0) (by simp [evtFlds])
  have hs : fkey F.LDG_CNT_SUPPR 0 ≠ fkey f i := hk (F.LDG_CNT_SUPPR, 0) (by simp [evtFlds])
  have ht : fkey F.LDG_ST_SUPPL 0 ≠ fkey f i := hk (F.LDG_ST_SUPPL, 0) (by simp [evtFlds])
  have h1 : fget (setPend s.flds e) f i = fget s.flds f i := fget_fput_other _ _ _ _ _ _ (hp (e / 32) (by omega))
  have h2 : ∀ m b, fget (countDrop m b) f i = fget m f i := by
    intro m b
    unfold countDrop faddSat
    split
    · rw [fget_fput_other _ _ _ _ _ _ hl, fget_fput_other _ _ _ _ _ _ hd]
    · rfl
  have h3 : ∀ m, fget (countSupp m) f i = fget m f i := by
    intro m
    unfold countSupp faddSat
    rw [fget_fput_other _ _ _ _ _ _ ht, fget_fput_other _ _ _ _ _ _ hs]
  have h4 : ∀ (u : State) r, (recordEvt u e r).fld f i = u.fld f i := by
    intro u r
    unfold recordEvt
    dsimp only
    split
    · exact h2 _ _
    · exact h3 _
  unfold raise
  split
  · rfl
  · dsimp only
    split
    · rw [h4]
      split
      · exact h1
      · rfl
    · split
      · exact h1
      · rfl

/-- An event that is routed is pending after it is raised. -/
theorem raise_sets_pend (e d : Nat) (s : State) (hm : s.pwr.mstate ≠ .backup) (hr : routed s.flds e = true) :
    ((raise e d s).fld F.EVT_PEND_PEND (e / 32)).testBit (e % 32) = true := by
  have hb : e % 32 < 32 := Nat.mod_lt _ (by decide)
  have h1 : (fget (setPend s.flds e) F.EVT_PEND_PEND (e / 32)).testBit (e % 32) = true := by
    unfold setPend
    rw [fget_fput_same]
    rw [Nat.testBit_mod_two_pow, Nat.testBit_or, Nat.testBit_two_pow_self]
    simp only [Bool.or_true, Bool.and_true, decide_eq_true_eq]
    exact hb
  have hk : ∀ g : Fld, F.EVT_PEND_PEND.id ≠ g.id → ∀ m j v, fget (fput m g j v) F.EVT_PEND_PEND (e / 32) =
      fget m F.EVT_PEND_PEND (e / 32) := fun g hg m j v => fget_fput_other _ _ _ _ _ _ (fkey_ne _ _ _ _ (Ne.symm hg))
  have h2 : ∀ m b, fget (countDrop m b) F.EVT_PEND_PEND (e / 32) = fget m F.EVT_PEND_PEND (e / 32) := by
    intro m b
    unfold countDrop faddSat
    split
    · rw [hk _ (by decide), hk _ (by decide)]
    · rfl
  have h3 : ∀ m, fget (countSupp m) F.EVT_PEND_PEND (e / 32) = fget m F.EVT_PEND_PEND (e / 32) := by
    intro m
    unfold countSupp faddSat
    rw [hk _ (by decide), hk _ (by decide)]
  have h4 : ∀ (u : State) r, (recordEvt u e r).fld F.EVT_PEND_PEND (e / 32) = u.fld F.EVT_PEND_PEND (e / 32) := by
    intro u r
    unfold recordEvt
    dsimp only
    split
    · exact h2 _ _
    · exact h3 _
  unfold raise
  rw [if_neg hm, if_pos hr]
  dsimp only
  split
  · rw [h4]
    exact h1
  · exact h1

end Sys2Proof.Machine
end

