-- ==== Sys2Proof/Laws/Records.lean ====
section
/-! SUPPORT. Read after write for the records that State keeps by number: trackers, disturbance units, pulse outputs, stream paths
and spares. -/

namespace Sys2Proof.Machine

@[simp] theorem getTrk_setTrk_same (g : Nat) (k : GrdTrk) (s : State) : getTrk (setTrk g k s) g = k :=
  mget_mput_same _ _ _ _

theorem getTrk_setTrk_other (g h : Nat) (k : GrdTrk) (s : State) (hg : h ≠ g) : getTrk (setTrk g k s) h = getTrk s h :=
  mget_mput_other _ _ _ _ _ _ hg

@[simp] theorem getDst_setDst_same (g : Nat) (d : DstGrp) (s : State) : getDst (setDst g d s) g = d :=
  mget_mput_same _ _ _ _

theorem getDst_setDst_other (g h : Nat) (d : DstGrp) (s : State) (hg : h ≠ g) : getDst (setDst g d s) h = getDst s h :=
  mget_mput_other _ _ _ _ _ _ hg

@[simp] theorem getOut_setOut_same (c : Nat) (o : PlsOut) (s : State) : getOut (setOut c o s) c = o :=
  mget_mput_same _ _ _ _

theorem getOut_setOut_other (c d : Nat) (o : PlsOut) (s : State) (hd : d ≠ c) : getOut (setOut c o s) d = getOut s d :=
  mget_mput_other _ _ _ _ _ _ hd

@[simp] theorem getPath_setPath_same (n : Nat) (p : StreamPath) (s : State) : getPath (setPath n p s) n = p :=
  mget_mput_same _ _ _ _

theorem getPath_setPath_other (n m : Nat) (p : StreamPath) (s : State) (hm : m ≠ n) : getPath (setPath n p s) m = getPath s m :=
  mget_mput_other _ _ _ _ _ _ hm

/-- Clearing a fast path leaves the spares alone. -/
@[simp] theorem fastClear_spares (n : Nat) (s : State) : (fastClear n s).rmt.spares = s.rmt.spares := rfl

@[simp] theorem getSp_setSp_same (sp : Nat) (x : SpareSt) (s : State) : getSp (setSp sp x s) sp = x := by
  unfold setSp retarget getSp
  dsimp only
  split <;> exact mget_mput_same _ _ _ _

theorem getSp_setSp_other (sp q : Nat) (x : SpareSt) (s : State) (hq : q ≠ sp) : getSp (setSp sp x s) q = getSp s q := by
  unfold setSp retarget getSp
  dsimp only
  split <;> exact mget_mput_other _ _ _ _ _ _ hq

end Sys2Proof.Machine
end

