-- ==== Sys2Proof/Machine/Drive.lean ====
section
/-! DEFINITION. The drive of the display lines: the LCD's clock, periods, polarity and levels, and the codes and the shift of a
bistable panel (R386, R387, R389, R391). -/

namespace Sys2Proof.Machine

/-! ### LCD (R387) -/

/-- The duration of a backplane period in seconds: FDIV cycles of DCLK; four of them make a frame. -/
def backplaneSec (s : State) : Rat := (s.fld F.DSP_CFG_FDIV : Rat) / dclkHz s

def frameSec (s : State) : Rat := 4 * backplaneSec s

/-- The levels of 1/3 bias, in mV. -/
def lcdLevels (s : State) : List Rat := (List.range 4).map fun k => (k : Rat) * s.fld F.DSP_ST_VLCD / 3

/-- Is the drive of a segment line inverted in a backplane period (0 to 3) of a frame? With frame inversion in every other frame;
with line inversion once per period, and once more between frames, since four periods make a frame and the net DC over two frames
is zero (DEDUCED); with dot inversion odd segment lines take the opposite of even ones. -/
def lcdInverted (inv frame period line : Nat) : Bool :=
  if inv = 0 then frame % 2 == 1
  else if inv = 1 then (frame + period) % 2 == 1
  else (frame + period + line) % 2 == 1

/-- Is the segment at segment line `line` and backplane `com` dark in the image: bit 4 × SL + COM? -/
def segOn (img line com : Nat) : Bool := img.testBit (4 * line + com)

/-- The voltage across a segment in a backplane period, in thirds of VLCD. At 1/4 duty one backplane is selected in each period:
across its segments stands VLCD for a dark one and VLCD ÷ 3 for a light one; across the others VLCD ÷ 3 either way, by the data of
the selected backplane (PRESUMED: the usual 1/3-bias drive; the rule names the levels alone). -/
def segThirds (img inv frame period line com : Nat) : Int :=
  let v : Int :=
    if com = period then (if segOn img line com then 3 else 1) else (if segOn img line period then 1 else -1)
  if lcdInverted inv frame period line then -v else v

/-- The net voltage across a segment over two frames, in thirds of VLCD. -/
def netThirds (img inv line com : Nat) : Int :=
  ((List.range 2).map fun f => ((List.range 4).map fun p => segThirds img inv f p line com).sum).sum

/-! ### Bistable panel (R389, R391) -/

/-- The code of a segment: 0b00 common level, 0b01 VEPP, 0b10 VEPN; dark is VEPP and light VEPN. -/
def levelCode (dark : Bool) : Nat := if dark then 1 else 2

/-- The code driven on segment n while an update runs: away from its target in PRE, towards it in DRIVE, and common otherwise. -/
def segCode (s : State) (n : Nat) : Nat :=
  match s.dsp.upd with
  | none => 0
  | some u =>
    if !u.driven.testBit n then 0
    else match u.phase with
      | .pre => levelCode (!u.target.testBit n)
      | .drive => levelCode (u.target.testBit n)
      | .common => 0

/-- The bits shifted into the segment driver: segment NSEG − 1 first, each code MSB first. -/
def shiftBits (s : State) : List Bool :=
  (List.range (s.fld F.DSP_CFG_NSEG)).reverse.flatMap fun n => [(segCode s n).testBit 1, (segCode s n).testBit 0]

/-- The lines SDO, SCK and LAT of a transfer: each bit stands on SDO at a rising edge of SCK, and a rising edge of LAT ends the
shift. -/
def shiftLines (s : State) : List (Bool × Bool × Bool) :=
  (shiftBits s).flatMap (fun b => [(b, false, false), (b, true, false)]) ++ [(false, false, true), (false, false, false)]

/-- nCOM is high: in RUN, or on VHOLD, unless the drive was given up; a reset pulls it low. -/
def ncomHigh (s : State) : Bool := (running s || s.dsp.hold) && s.dsp.ncom

/-! ### The lines (R386) -/

/-- What display line DLn carries. -/
inductive DlRole where
  | com (c : Nat)
  | seg (line : Nat)
  | sdo
  | sck
  | lat
  | ncom
  | unused
  deriving DecidableEq, Repr

/-- The use of display line n (Table 20-1). -/
def dlRole (s : State) (n : Nat) : DlRole :=
  if bistable s then
    match n with
    | 0 => .sdo
    | 1 => .sck
    | 2 => .lat
    | 3 => .ncom
    | _ => .unused
  else if n < 4 then .com n else .seg (n - 4)

end Sys2Proof.Machine
end

