-- ==== Sys2Proof/Machine/Image.lean ====
section
/-! DEFINITION. What the spec bounds of the tables that it names and does not print: the response ROM, the decimation stages, the
equalisers, the interpolator, the quadrature filter and the resampler kernel (R105 to R107, R122, R125, R163, R450). The tables stand in
Config; a claim that rests on one of these bounds takes it as a hypothesis. -/

namespace Sys2Proof.Machine

/-! ### Gains -/

def cmul (a b : Rat × Rat) : Rat × Rat := (a.1 * b.1 - a.2 * b.2, a.1 * b.2 + a.2 * b.1)
def conj (a : Rat × Rat) : Rat × Rat := (a.1, -a.2)
def cprod (l : List (Rat × Rat)) : Rat × Rat := l.foldr cmul (1, 0)

/-- A turn of q: e^(j2πq). -/
def turn (q : Rat) : Rat × Rat := (cosTurn q, sinTurn q)

/-- A sum of complex numbers. -/
def csum (l : List (Rat × Rat)) : Rat × Rat := l.foldl (fun a b => (a.1 + b.1, a.2 + b.2)) (0, 0)

/-- The gain of taps, newest first, at x cycles a sample. -/
def tapGain (l : List Rat) (x : Rat) : Rat × Rat :=
  csum ((l.zipIdx).map fun t => (t.1 * (turn (-(t.2 * x))).1, t.1 * (turn (-(t.2 * x))).2))

/-- A power lies within these factors of another. -/
def Within (lo hi p q : Rat) : Prop := lo * q ≤ p ∧ p ≤ hi * q

/-- The angle of a number lies within that whose tangent is t, to either side of zero. -/
def Angle (t : Rat) (z : Rat × Rat) : Prop := 0 < z.1 ∧ rabs z.2 ≤ t * z.1

/-! ### The response ROM (R450, R105) -/

/-- Coefficient i of a section as a number. -/
def coef (c : Nat × Nat) (i : Nat) : Rat := laneScale c.1 (Config.romCoef c.1 c.2 i).toInt

def sectNum (c : Nat × Nat) : List Rat := [coef c 0, coef c 1, coef c 2]
def sectDen (c : Nat × Nat) : List Rat := [1, coef c 3, coef c 4]

/-- Numerator and denominator of a response as realised, at f Hz. -/
def respNum (r : Nat) (f : Rat) : Rat × Rat := cprod ((sectionList [r]).map fun c => tapGain (sectNum c) (f / 192000))
def respDen (r : Nat) (f : Rat) : Rat × Rat := cprod ((sectionList [r]).map fun c => tapGain (sectDen c) (f / 192000))

/-- The prototype's numerator and denominator at f Hz, but for the constant under its square root. -/
def Prototype.numAt (h : Prototype) (f : Rat) : Rat × Rat := polyAt h.num (1000 * f / h.fRef)
def Prototype.denAt (h : Prototype) (f : Rat) : Rat × Rat := polyAt h.den (1000 * f / h.fRef)

/-- A response at f Hz has its prototype's power gain within these factors, and its phase within an angle of tangent t. -/
def Follows (r : Nat) (h : Prototype) (lo hi t f : Rat) : Prop :=
  Within lo hi (normSq (respNum r f)) (h.power (1000 * f) * normSq (respDen r f)) ∧
    Angle t (cmul (cmul (respNum r f) (conj (respDen r f))) (conj (cmul (h.numAt f) (conj (h.denAt f)))))

/-- Responses 1 to 50: ±0.001 dB and ±0.002° from 10 mHz to 25.6 kHz where the prototype's gain is between −40 and +60 dB. -/
def RomAccurate : Prop :=
  ∀ r, 1 ≤ r → r ≤ 50 → ∀ h, prototype r = some h → ∀ f : Rat, 1 / 100 ≤ f → f ≤ 25600 →
    1 / 10000 ≤ h.power (1000 * f) → h.power (1000 * f) ≤ 1000000 →
      Follows r h (999769768 / 1000000000) (1000230285 / 1000000000) (34906586 / 10 ^ 12) f

/-- Twice the −3 dB frequency of a fast-path response, in Hz, and its settling time in ns (Table 05-7). -/
def fastEdge (r : Nat) : Rat := [12000, 10000, 8000, 6000].getD (r - 51) 0
def fastSettle (r : Nat) : Rat := [80000, 90000, 110000, 150000].getD (r - 51) 0

/-- Responses 51 to 54: ±0.05 dB and ±0.5° from DC to twice the −3 dB frequency. -/
def FastAccurate : Prop :=
  ∀ r, 51 ≤ r → r ≤ 54 → ∀ h, prototype r = some h → ∀ f : Rat, 0 ≤ f → f ≤ fastEdge r →
    Follows r h (988553095 / 1000000000) (1011579454 / 1000000000) (8726868 / 10 ^ 9) f

/-- Sample k of a section's answer to samples x, from rest. -/
def sectAnswer (c : Nat × Nat) (x : Nat → Rat) : Nat → Rat
  | 0 => coef c 0 * x 0
  | 1 => coef c 0 * x 1 + coef c 1 * x 0 - coef c 3 * sectAnswer c x 0
  | k + 2 => coef c 0 * x (k + 2) + coef c 1 * x (k + 1) + coef c 2 * x k
      - coef c 3 * sectAnswer c x (k + 1) - coef c 4 * sectAnswer c x k

/-- A response's answer to a unit step, and what it comes to. -/
def stepAnswer (r : Nat) : Nat → Rat := (sectionList [r]).foldl (fun x c => sectAnswer c x) fun _ => 1
def stepEnd (r : Nat) : Rat := rdiv (respNum r 0).1 (respDen r 0).1

/-- Responses 51 to 54 overshoot by less than 1 %, and are within ±2 % of the final value from the settling time on. -/
def FastSettles : Prop :=
  ∀ r, 51 ≤ r → r ≤ 54 → ∀ k : Nat,
    stepAnswer r k < stepEnd r * 101 / 100 ∧
      (fastSettle r ≤ k * mainPeriod → rabs (stepAnswer r k - stepEnd r) ≤ stepEnd r / 50)

/-- The DC gain of the notches and low-pass responses is exactly 1, that of the DC blocks and high-pass responses exactly 0; that of NONE,
which has no section, is 1 by construction. -/
def RomDcGain : Prop :=
  (∀ r, 37 ≤ r → r ≤ 48 → respNum r 0 = respDen r 0 ∧ (respDen r 0).1 ≠ 0) ∧
    ∀ r, (1 ≤ r ∧ r ≤ 8) ∨ r = 49 ∨ r = 50 → respNum r 0 = (0, 0)

/-- Above 25.6 kHz, or twice the −3 dB frequency, the gain is at most the prototype's plus 1 dB. -/
def RomStopband : Prop :=
  ∀ r, 1 ≤ r → r ≤ 54 → ∀ h, prototype r = some h → ∀ f : Rat, (if r ≤ 50 then 25600 else fastEdge r) < f → f ≤ 96000 →
    normSq (respNum r f) ≤ 1258925412 / 1000000000 * (h.power (1000 * f) * normSq (respDen r f))

/-- No response is unstable: the poles of every section lie within the unit circle. -/
def RomStable : Prop :=
  ∀ r, 1 ≤ r → r ≤ 54 → ∀ c ∈ sectionList [r], rabs (coef c 4) < 1 ∧ rabs (coef c 3) < 1 + coef c 4

/-- What R450 says of the ROM image. -/
def RomMeets : Prop := RomAccurate ∧ FastAccurate ∧ FastSettles ∧ RomDcGain ∧ RomStopband ∧ RomStable

/-- A DC block (index i) and the CT correction of the same corner (16 + i) together: a net gain error within ±20 ppm and a net phase
within ±0.005° over 40 to 70 Hz (R105). -/
def PairCancels : Prop :=
  ∀ i, 1 ≤ i → i ≤ 6 → ∀ f : Rat, 40 ≤ f → f ≤ 70 →
    let n := cmul (respNum i f) (respNum (16 + i) f)
    let d := cmul (respDen i f) (respDen (16 + i) f)
    Within ((1 - 20 / 1000000) ^ 2) ((1 + 20 / 1000000) ^ 2) (normSq n) (normSq d) ∧ Angle (87266463 / 10 ^ 12) (cmul n (conj d))

/-! ### Presets (R106, R107) -/

/-- Taps of a stage, or of an equaliser, as numbers. -/
def tapsOf (r : Nat) (l : List (BitVec 32)) : List Rat := l.map fun c => laneScale r c.toInt

/-- The gain of stage i, whose samples come at 192 kS/s for TB3 and at 64 kS/s halved i − 1 times for HB i (R106). -/
def stageGain (i : Nat) (f : Rat) : Rat × Rat :=
  tapGain (tapsOf (55 + i) (Config.firTaps (55 + i))) (f / 192000 * (if i = 0 then 1 else 3 * 2 ^ (i - 1)))

/-- The gain of a preset's path from the modulator's bits at 6.144 MHz on, but for the sinc⁴ decimator's delay: its droop, the stages and
the equaliser (R93, R106). -/
def presetGain (code : Nat) (f : Rat) : Rat × Rat :=
  let b := f / 6144000
  let droop : Rat := if f = 0 then 1 else (rdiv (sinTurn (16 * b)) (32 * sinTurn (b / 2))) ^ 4
  let z := cprod (((List.range (presetStage code + 1)).map fun i => stageGain i f)
    ++ [tapGain (tapsOf (55 + presetStage code) (Config.eqTaps code)) (f / presetRate code)])
  (droop * z.1, droop * z.2)

/-- Table 05-5: ripple ±0.0005 dB up to 0.4 of the output rate, and 100 dB from 0.6 of it on. -/
def PresetsMeet : Prop :=
  ∀ code, code < 5 → ∀ f : Rat,
    (0 ≤ f → f ≤ presetRate code * 2 / 5 → Within (999884877 / 1000000000) (1000115136 / 1000000000) (normSq (presetGain code f)) 1) ∧
      (presetRate code * 3 / 5 ≤ f → f ≤ 96000 → normSq (presetGain code f) ≤ 1 / 10 ^ 10)

/-- The group delay is 15 output periods at every frequency of the passband: with it taken out, and the 62 bits of the sinc⁴ decimator
put in, no phase is left, to the precision of the cosines (R107). -/
def PresetDelays : Prop :=
  ∀ code, code < 5 → ∀ f : Rat, 0 ≤ f → f ≤ presetRate code * 2 / 5 →
    Angle (1 / 2 ^ 40) (cmul (presetGain code f) (turn (f * (15 / presetRate code - 62 / 6144000))))

/-! ### The metering core's filters (R122, R125) -/

/-- The interpolator moves a local stream's samples onto group A's instants with a gain flat to ±2 ppm and a phase error within
±0.0002°, to the passband edge (R122). -/
def InterpolatorMeets : Prop :=
  ∀ pace, pace < 5 → ∀ n, n < 144 → groupIndex n ≠ 0 → ∀ x : Rat, 0 ≤ x → x ≤ 2 / 5 →
    let d := skewNs n / periodNs pace
    let z := cmul (tapGain (Config.delayKernel d) x) (turn (x * (2 + d)))
    Within ((1 - 2 / 1000000) ^ 2) ((1 + 2 / 1000000) ^ 2) (normSq z) 1 ∧ Angle (3490659 / 10 ^ 12) z

/-- The quadrature filter lags its delayed direct path by 90.000° ± 0.005° with a gain of 1 ± 100 ppm, from 40 Hz to the passband edge
(R125); it lags, since Q is positive for a lagging current (Table 06-2). -/
def QuadratureMeets : Prop :=
  ∀ pace, pace < 5 → ∀ f : Rat, 40 ≤ f → f ≤ paceRate pace * 2 / 5 →
    let x := f / paceRate pace
    let z := cmul (cmul (tapGain (Config.quadTaps pace) x) (turn (x * Config.quadDelay pace))) (0, 1)
    Within ((1 - 100 / 1000000) ^ 2) ((1 + 100 / 1000000) ^ 2) (normSq z) 1 ∧ Angle (87266463 / 10 ^ 12) z

/-! ### The resampler's kernel (R163) -/

/-- The gain of the kernel at f Hz for an instant that lies a fraction p of a CANTER period after the 24th of its 48 samples. -/
def kernelGain (cycle p f : Rat) : Rat × Rat :=
  let x := f / 32000
  let z := csum ((List.range 48).map fun (j : Nat) =>
    let t := turn ((j : Rat) * x)
    (Config.gridKernel cycle p j * t.1, Config.gridKernel cycle p j * t.2))
  cmul z (turn (-(x * (23 + p))))

/-- Up to 80 times the cycle frequency gain within ±0.01 % and phase within ±0.01°; from 176 times on at least 80 dB down (R163). -/
def KernelMeets : Prop :=
  ∀ cycle p f : Rat, 40 ≤ cycle → cycle ≤ 70 → 0 ≤ p → p < 1 → 0 ≤ f →
    (f ≤ 80 * cycle → Within ((1 - 1 / 10000) ^ 2) ((1 + 1 / 10000) ^ 2) (normSq (kernelGain cycle p f)) 1 ∧
      Angle (174532927 / 10 ^ 12) (kernelGain cycle p f)) ∧
      (176 * cycle ≤ f → f ≤ 16000 → normSq (kernelGain cycle p f) ≤ 1 / 10 ^ 8)

/-! ### The strongbox in full mode (R326) -/

/-- The slots occupy the record positions by a permutation. -/
def PlacesPermute : Prop := ∀ k, Function.Bijective (Config.slotPerm k)

/-- The images are as the spec bounds them. -/
def ImagesMeet : Prop :=
  PlacesPermute ∧ RomMeets ∧ PairCancels ∧ PresetsMeet ∧ PresetDelays ∧ InterpolatorMeets ∧ QuadratureMeets ∧ KernelMeets

end Sys2Proof.Machine
end

