-- ==== Sys2Proof/Machine/Pins.lean ====
section
/-! DEFINITION. The package: balls, directions and supply banks; what the device does at each pin in a state (R29 to R34, R37,
R52, R53, R61, R66, R67, R145, R282, R305, R351, R361, R363, R386). -/

namespace Sys2Proof.Machine

/-! ### Signals and balls (R29 to R31) -/

/-- The signals (Tables 02-1 and 02-3). Numbers count within a group; `neg` is the negative line of a pair; ports are 0 T, 1 U, 2
D, 3 S. -/
inductive Sig where
  | analog (n : Fin 112) (neg : Bool)
  | refin | refout | refc
  | aux (i : Fin 8)
  | b (n : Fin 32)
  | bsck (k : Fin 4)
  | tx (p : Fin 4) (neg : Bool)
  | rx (p : Fin 4) (neg : Bool)
  | wtx (neg : Bool)
  | wrx (pathB neg : Bool)
  | vbat | vph | xin32 | xout32
  | tamp (n : Fin 8)
  | cmpa | cmpb | pwron | fldin
  | qcs | qsck
  | qio (i : Fin 4)
  | irq (i : Fin 2)
  | ncs | nsck
  | nio (i : Fin 4)
  | nrst | testen | xin | xout
  | cf (c : Fin 16)
  | pwmsync
  | wsel (k : Fin 4)
  | dl (n : Fin 52)
  | vepp | vepn
  | dpc1 (neg : Bool)
  | vlcd | vhold
  deriving DecidableEq, Repr

/-- The ball rows, from the package edge marked by the index corner (R29). -/
def ballRows : List String :=
  ["A", "B", "C", "D", "E", "F", "G", "H", "J", "K", "L", "M", "N", "P", "T", "U", "V", "W", "Y", "AA", "AB", "AC"]

/-- One more for the negative line of a pair. -/
def negCol (neg : Bool) : Nat := if neg then 1 else 0

/-- The ball of the positive (or the negative) input of an analog channel n: current bank k and voltage banks U and W in
rows 1 to 14, the channel at position j in columns 2j + 1 and 2j + 2 (R30). -/
def analogBall (n : Nat) (neg : Bool) : String × Nat := (ballRows.getD (n / 8) "", 2 * (n % 8) + 1 + negCol neg)

/-- The ball of bitstream data input Bn (R31). -/
def bitstreamBall (n : Nat) : String × Nat := (ballRows.getD (n / 4) "", 19 + n % 4)

/-- The ball of a display line: DL00 to DL21 in row AB, DL22 to DL43 in row AC, DL44 to DL51 in row AA (Table 02-1). -/
def dlBall (n : Nat) : String × Nat := if n < 22 then ("AB", n + 1) else if n < 44 then ("AC", n - 21) else ("AA", n - 43)

/-- The ball of a signal (R30, R31, Table 02-1). -/
def ball : Sig → String × Nat
  | .analog n neg => analogBall n neg
  | .refin => ("K", 19)
  | .refout => ("K", 20)
  | .refc => ("K", 21)
  | .aux i => if i.val < 4 then ("L", 19 + i) else ("M", 15 + i)
  | .b n => bitstreamBall n
  | .bsck k => ("J", 19 + k)
  | .tx p neg => ("T", 3 * p + 1 + negCol neg)
  | .rx p neg => ("U", 3 * p + 1 + negCol neg)
  | .wtx neg => ("T", 16 + negCol neg)
  | .wrx pathB neg => ("T", (if pathB then 21 else 19) + negCol neg)
  | .vbat => ("V", 1)
  | .vph => ("V", 2)
  | .xin32 => ("V", 3)
  | .xout32 => ("V", 4)
  | .tamp n => ("V", 5 + n)
  | .cmpa => ("V", 13)
  | .cmpb => ("V", 14)
  | .pwron => ("V", 15)
  | .fldin => ("V", 16)
  | .qcs => ("W", 1)
  | .qsck => ("W", 2)
  | .qio i => ("W", 3 + i)
  | .irq i => ("W", 7 + i)
  | .ncs => ("W", 11)
  | .nsck => ("W", 12)
  | .nio i => ("W", 13 + i)
  | .nrst => ("W", 17)
  | .testen => ("W", 18)
  | .xin => ("W", 19)
  | .xout => ("W", 20)
  | .cf c => ("Y", 1 + c)
  | .pwmsync => ("Y", 18)
  | .wsel k => ("Y", 19 + k)
  | .dl n => dlBall n
  | .vepp => ("AA", 11)
  | .vepn => ("AA", 12)
  | .dpc1 neg => ("AA", 13 + negCol neg)
  | .vlcd => ("AA", 15)
  | .vhold => ("AA", 16)

/-! ### Directions and banks (R33) -/

/-- The directions of Table 02-3. `strap`: a strap input, then an output; `supply`: a supply or a crystal of the porter domain. -/
inductive Dir where
  | analogIn | analogOut | decoupling | input | schmitt | output | openDrain | strap | cmlOut | cmlIn | bidir | osc | pump | supply
  deriving DecidableEq, Repr

/-- The direction of a signal. -/
def sigDir : Sig → Dir
  | .analog _ _ => .analogIn
  | .refin => .analogIn
  | .refout => .analogOut
  | .refc => .decoupling
  | .aux _ => .analogIn
  | .b _ => .input
  | .bsck _ => .output
  | .tx _ _ => .cmlOut
  | .rx _ _ => .cmlIn
  | .wtx _ => .analogOut
  | .wrx _ _ => .analogIn
  | .vbat => .supply
  | .vph => .supply
  | .xin32 => .supply
  | .xout32 => .supply
  | .tamp _ => .bidir
  | .cmpa => .analogIn
  | .cmpb => .analogIn
  | .pwron => .output
  | .fldin => .input
  | .qcs => .input
  | .qsck => .input
  | .qio _ => .bidir
  | .irq _ => .openDrain
  | .ncs => .output
  | .nsck => .output
  | .nio _ => .bidir
  | .nrst => .schmitt
  | .testen => .input
  | .xin => .osc
  | .xout => .osc
  | .cf _ => .openDrain
  | .pwmsync => .schmitt
  | .wsel _ => .strap
  | .dl _ => .output
  | .vepp => .pump
  | .vepn => .pump
  | .dpc1 _ => .pump
  | .vlcd => .pump
  | .vhold => .supply

/-- The supply banks of Table 02-3; `porter` stands for the pins of R34, whose supply the table does not name. -/
inductive Bank where
  | vdda | vlink | ioH | ioB | ioP | ioD | porter
  deriving DecidableEq, Repr

/-- The bank of a signal. -/
def sigBank : Sig → Bank
  | .analog _ _ | .refin | .refout | .refc | .aux _ | .wtx _ | .wrx _ _ | .xin | .xout => .vdda
  | .tx _ _ | .rx _ _ => .vlink
  | .qcs | .qsck | .qio _ | .irq _ | .ncs | .nsck | .nio _ | .nrst | .testen => .ioH
  | .b _ | .bsck _ => .ioB
  | .cf _ | .pwmsync | .wsel _ => .ioP
  | .dl _ | .vepp | .vepn | .dpc1 _ | .vlcd => .ioD
  | .vbat | .vph | .xin32 | .xout32 | .tamp _ | .cmpa | .cmpb | .pwron | .fldin | .vhold => .porter

/-! ### What the units do at their pins -/

/-- What the device does to an output: leaves it, drives it low, or drives it high. -/
inductive Drive where
  | released
  | low
  | high
  deriving DecidableEq, Repr

/-- IRQ0 and IRQ1: open drain, active low, released in main reset and in BACKUP (R363, R411). -/
def irqPin (line : Nat) (s : State) : Drive :=
  if (if line = 0 then irqLow F.EVT_CFG_IRQ0 s.evt.gap0 s else irqLow F.EVT_CFG_IRQ1 s.evt.gap1 s) then .low else .released

/-- CFc: open drain, low for a pulse that this device drives, in RUN (R145, R148). -/
def cfPin (c : Nat) (s : State) : Drive :=
  if running s && (getOut s c).driving && (getOut s c).busy.isSome then .low else .released

/-- WSEL[3:0] while a frame is sent to the AC side, or to the DC side, of a coupling mode (Table 14-1). -/
def wselSending (cpl : Nat) (dcSide : Bool) : Nat :=
  match cpl with
  | 0 => 1
  | 1 => 7
  | 2 => 8
  | _ => if dcSide then 8 else 7

/-- The side to which the frame in the air goes, where one is: that of the neighbour it is for; a broadcast is taken for the AC side
(R297 gives a bridge's broadcast to each side in turn). -/
def sendingSide (s : State) : Option Bool :=
  s.way.air.map fun x => (findNbr s x.dst).elim false fun e => e.2.dcSide

/-- WSEL0 to WSEL3: inputs until R37 drives them low; in RUN the switches stand for the frame in the air (R282). -/
def wselPin (k : Nat) (s : State) : Drive :=
  if !mainOn s || s.pwr.wsel == .input then .released
  else match sendingSide s with
    | some dc => if running s && (wselSending (s.fld F.WAY_CFG_CPL) dc).testBit k then .high else .low
    | none => .low

/-- PWRON: driven to VPH while it is asserted (R361); a main reset does not touch it (R34). -/
def pwronPin (s : State) : Drive := if s.bit F.PRT_ST_PWRON then .high else .released

/-- Does BSCKk run? BSCK0 and BSCK1 belong to group P, BSCK2 and BSCK3 to group Q (R66); a clock that does not run is low. -/
def bsckRuns (k : Nat) (s : State) : Bool := running s && mget false s.inp.bsgEn (k / 2)

/-- The frequency of BSCKk in kHz while it runs: BSCLK, which a group at 6.144 MHz divides by two where BSCLK is 12.288 MHz (R66).
-/
def bsckKHz (k : Nat) (s : State) : Nat :=
  if mget 0 s.inp.bsgRate (k / 2) = 1 then bsclkKHz s else if bsclkKHz s = 12288 then bsclkKHz s / 2 else bsclkKHz s

/-- The bitstream clock that clocks data input Bn (R66). -/
def bsckOf (n : Nat) : Nat := n / 8

/-- The burnout current in nA that is sourced into an analog channel's P pin and sunk from its N pin (R61). -/
def burnCurrent (n : Nat) (s : State) : Nat :=
  if running s then
    match mget 0 s.inp.burn n with
    | 1 => 50
    | 2 => 200
    | _ => 0
  else 0

/-- REFOUT carries the buffered internal reference in RUN (Table 02-3). -/
def refoutOn (s : State) : Bool := running s

/-- REFIN is measured while a spare of a reference session is connected to it (Table 02-3, R211). -/
def refinMeasuring (s : State) : Bool := running s && (refinBusy s).any fun sp => (getSp s sp).refin == some .measure

/-- Does the host port listen (R399)? -/
def portListens (s : State) : Bool := mainOn s

/-- The pull of TAMPn while it is sampled by its static detector: to VPH or to GND (R351). -/
def tampPull (n : Nat) (s : State) : Drive := if (s.fld F.PRT_PINS_PULL).testBit n then .high else .low

/-- The initial NSCK in kHz (Table 02-4). -/
def initialNsck (s : State) : Nat := if s.bit F.PWR_ST_NVMSLOW then 6144 else 24576

/-- NSCK in kHz while the NVM SPI works: as the strap says until the SYSTEM region has been read, and then NCLK by NVMDIV (R305). -/
def nsckKHz (s : State) : Nat :=
  if s.fld F.ITN_ST_LOAD = 2 ∨ s.itn.read.any (fun e => e.1 == 0) then
    match fget (readFlds s) F.ITN_CFG_NVMDIV 0 with
    | 0 => 24576
    | 1 => 12288
    | _ => 6144
  else initialNsck s

/-- The segments that the panel shows: none in a dark LCD, the last image in a bistable panel (R386, R389). -/
def shownImage (s : State) : Nat := s.dsp.img

/-- Does a link port send? Port 0 is T. A port that trains does so in STANDBY too (R227, Table 22-4). -/
def portSends (p : Nat) (s : State) : Bool :=
  mainOn s && (if p = 0 then s.bit F.TWN_CFG_EN && tst s != 0 else decide (1 ≤ lstate s (p - 1)) && lstate s (p - 1) != 4)

/-! ### Loads of an analog input (R52) -/

/-- A front end at the pins of a channel: its own, or that of its permanent substitute; that of a spare; or the dummy load. -/
inductive Load where
  | own
  | spare (sp : Nat)
  | dummy
  deriving DecidableEq, Repr

/-- Is a spare connected to the pins of channel n by a slot, or held there by twin arbitration? In its self-check it is on the
internal reference, and in the out case of a disagreement spare A leaves the pins to B (R84). -/
def onPins (s : State) (n sp : Nat) : Bool :=
  (getSp s sp).arbit == some n || (match (getSp s sp).slot with
    | some sl => sl.chan == n && sl.st != .selfchk && !(sl.st == .ovlOut && sl.est == .third)
    | none => false)

/-- Is the modulator of channel n off the pins: off line, on the internal reference, or in the return case of a disagreement, where
it leaves them to B (R84)? -/
def ownAway (s : State) (n : Nat) : Bool :=
  (sparesOf (bankOf n)).any fun sp => (getSp s sp).slot.any fun sl =>
    sl.chan == n && (sl.offline || (sl.st == .ovlRet && sl.est == .third))

/-- The loads that the pins of an analog channel carry: two in RUN, and none otherwise (R52, R53). -/
def pinLoads (s : State) (n : Nat) : List Load :=
  if !running s then []
  else
    let sub := s.fld F.RMT_MST_SUB n
    let mine := if sub = 0 then Load.own else Load.spare (spareAt (bankOf n) (sub - 1))
    let there := ((sparesOf (bankOf n)).filter (onPins s n)).map Load.spare
    (((if ownAway s n then [] else [mine]) ++ there).take 2 ++ [Load.dummy, Load.dummy]).take 2

/-- The RANGE of a load of channel n: the spare and the dummy take the channel's, and a spare that brings a live change the new
one. -/
def loadRange (s : State) (n : Nat) : Load → Nat
  | .own => mget 0 s.inp.range n
  | .dummy => mget 0 s.inp.range n
  | .spare sp => ((getSp s sp).slot.filter fun sl => sl.chan == n).elim (mget 0 s.inp.range n) (·.range)

/-! ### Pin states (Table 02-3) -/

/-- What a pin presents: no supply; high impedance or a released line; a pull; a level; an input that is ignored, that is
terminated and ignored, or that is in use; electrical idle, or a zero differential; an output that carries its unit's signal, off,
or holding. -/
inductive PinState where
  | unpowered
  | highZ
  | pullUp (ohm : Nat)
  | pullDown (ohm : Nat)
  | low
  | high
  | ignored
  | terminated
  | used
  | idle
  | zeroDiff
  | carries
  | off
  | holds
  deriving DecidableEq, Repr

def driveState : Drive → PinState
  | .released => .highZ
  | .low => .low
  | .high => .high

/-- Is the main reset held, from power-good or nRST (the column "Main reset" of Table 02-3)? -/
def inReset (s : State) : Bool := s.pwr.reset.isSome

/-- What display line DLn presents: a pull-down in reset, 0 V where the display does not work, and in RUN the signal of its role;
unused lines are low (R386, R389, R394). -/
def dlState (s : State) (n : Nat) : PinState :=
  if inReset s then .pullDown 100000
  else match dlRole s n with
    | .ncom => if ncomHigh s then .high else .low
    | .unused => .low
    | .com _ => if dspOn s then .carries else .low
    | .seg _ => if dspOn s then .carries else .low
    | .sdo => if (running s || s.dsp.hold) && s.dsp.upd.isSome then .carries else .low
    | .sck => if (running s || s.dsp.hold) && s.dsp.upd.isSome then .carries else .low
    | .lat => if (running s || s.dsp.hold) && s.dsp.upd.isSome then .carries else .low

/-- What the device does at a pin (Table 02-3; the pins of R34 in every state of the main domain). -/
def pinState (s : State) (x : Sig) : PinState :=
  let run := running s
  let rst := inReset s
  if s.pwr.mstate = .backup ∧ sigBank x ≠ .porter then .unpowered
  else match x with
    | .analog _ _ => if run then .used else .highZ
    | .refin => if refinMeasuring s then .used else .highZ
    | .refout => if refoutOn s then .carries else if rst then .highZ else .off
    | .refc => if rst then .pullDown 10000 else .holds
    | .aux _ => if run then .used else .highZ
    | .b n => if run && bsckRuns (bsckOf n) s then .used else .pullDown 100000
    | .bsck k => if bsckRuns k s then .carries else .low
    | .cf c => driveState (cfPin c s)
    | .pwmsync => if run then .used else .ignored
    | .wsel k => driveState (wselPin k s)
    | .tx p _ => if portSends p s then .carries else .idle
    | .rx p _ => if run || portSends p s then .used else .terminated
    | .wtx _ => if run && s.way.air.isSome then .carries else .zeroDiff
    | .wrx _ _ => if wayUp s then .used else .ignored
    | .qcs => if portListens s then .used else .ignored
    | .qsck => if portListens s then .used else .ignored
    | .qio _ => .highZ -- as it stands between frames: a frame is one command, and what it drives in its read phase is `HostSt.resp`
    | .irq i => driveState (irqPin i s)
    | .ncs => if rst then .pullUp 50000 else if nvmWork s then .low else .high
    | .nsck => if !rst && nvmWork s then .carries else .low
    | .nio _ => if !rst && nvmWork s then .used else if rst then .pullUp 50000 else .highZ
    | .nrst => .pullUp 50000
    | .testen => .pullDown 50000
    | .xin => .used
    | .xout => .carries
    | .dl n => dlState s n
    | .vepp => if dspOn s && bistable s then .carries else .off
    | .vepn => if dspOn s && bistable s then .carries else .off
    | .dpc1 _ => if dspOn s && bistable s then .carries else .off
    | .vlcd => if dspOn s && !bistable s then .carries else .off
    | .vhold => .holds
    | .pwron => driveState (pwronPin s)
    | .tamp _ => .used
    | .cmpa => .used
    | .cmpb => .used
    | .fldin => .used
    | .vbat => .used
    | .vph => .used
    | .xin32 => .used
    | .xout32 => .carries

end Sys2Proof.Machine
end

