-- ==== Sys2Proof/WellFormed.lean ====
section
/-! DEFINITION. Well-formed commands: operands that the hardware can present. Object numbers are bounded by their types; what is
checked here is the rest: header and list lengths, site times within 64 bits, and instants on the grids that the spec names. -/

namespace Sys2Proof

/-- Is this a count of site time (R21, 64 bits)? -/
def siteOk (t : Nat) : Bool := decide (t < 2 ^ 64)

/-- Is a command well-formed? -/
def Instr.wf : Instr → Bool
  | .read64LowerWord addr => addr % 4 == 0 && decide (addr < 2 ^ 24)
  | .hostReadFrame hdr => hdr.length == 8
  | .hostWriteFrame f => f.hdr.length == 8 && decide (f.words.length ≤ 511)
  | .statusPoll hdr => hdr.length == 8
  | .postedWriteTakesEffect _ => true
  | .mainPowerGood => true
  | .mainPowerGoodFalls => true
  | .nrstAsserted => true
  | .mainResetRelease => true
  | .strapSample _ => true
  | .strapPinsDriven => true
  | .pllMLocked => true
  | .itineraryRead board _ => board.elim true fun f => f.copies.length == 11
  | .itineraryLoaded _ => true
  | .ledgerIndexBuilt bad _ => bad.all fun x => x.2.length == 16
  | .controllerFirstRun _ => true
  | .enterRun => true
  | .referenceSettled => true
  | .meteringStart t => siteOk t && t % 10000000 == 0
  | .pwrRst => true
  | .pwrStby => true
  | .pwrRun => true
  | .powerFailReport x => siteOk x.t
  | .finalCheckpointComplete t => siteOk t
  | .powerFailRecovery => true
  | .warmRestart => true
  | .warmRestartComplete => true
  | .xclkFallback => true
  | .rcTrim => true
  | .xclkReturn t => siteOk t && t % 20000000 == 0
  | .dcGridBoundary t => siteOk t && t % 20000000 == 0
  | .inputOverload _ _ => true
  | .ovrClear _ mag => decide (0 ≤ mag)
  | .modulatorIntegratorReset _ => true
  | .openWindowSample _ _ _ => true
  | .openQualified _ => true
  | .stuckDetect _ => true
  | .stuckClear _ => true
  | .densSet _ _ => true
  | .densClear _ => true
  | .channelEnableApply _ => true
  | .channelDisableApply _ => true
  | .burnChangeApply _ => true
  | .bitstreamTimingApply _ => true
  | .bitstreamSensorApply _ => true
  | .remountSlotStart _ _ => true
  | .selfCheckComplete _ _ _ => true
  | .settlingEnd _ => true
  | .handoverMatch _ _ => true
  | .crossfadeHoldTimeout _ => true
  | .spliceInstant _ => true
  | .modulatorOffline _ => true
  | .offlineMeasurementComplete _ _ pts => pts.length == 9
  | .returnSettlingEnd _ => true
  | .crossCheck _ _ => true
  | .spareLeavesPins _ => true
  | .disagreementEstimate _ _ => true
  | .matchRemoval _ => true
  | .liveChangeCrossfade _ => true
  | .forceSlot _ => true
  | .filterResidueMismatch _ => true
  | .filterLaneRetry _ _ => true
  | .scheduleRebuild => true
  | .ovcSet _ _ => true
  | .ovcClear _ _ => true
  | .stepSet _ _ => true
  | .stepClear _ _ => true
  | .fastPathHoldoffEnd _ => true
  | .responseWarmUpEnd _ => true
  | .responseCrossfade _ => true
  | .presetStateSwitch _ => true
  | .settleEnd _ => true
  | .paceChangeApply _ => true
  | .intervalEnd _ iv => siteOk iv.startT && siteOk iv.endT && decide (iv.startT ≤ iv.endT)
  | .intervalPosting _ => true
  | .remoteSampleDeadline _ _ => true
  | .mtrHoldWrite _ _ => true
  | .mtrHoldExpire => true
  | .accQclr _ => true
  | .metersApply _ => true
  | .periodicCheckpoint t => siteOk t && t % 1000000000 == 0
  | .pulseTick _ => true
  | .pulseEnd _ => true
  | .pinerrClear _ => true
  | .exchangeInstant t _ => siteOk t && t % 10000000 == 0
  | .orderlyRoleChange => true
  | .pulsesApply _ => true
  | .halfCycleMark _ t _ _ => siteOk t
  | .cycleBoundary _ t rms _ _ _ => siteOk t && decide (0 ≤ rms)
  | .aligningBoundary _ t rms _ => siteOk t && decide (0 ≤ rms)
  | .trackerHoldExpire _ => true
  | .f10sPost t => siteOk t && t % 10000000000 == 0
  | .cyclePhasorsPost _ _ => true
  | .windowEnd _ => true
  | .windowResultsPost _ _ => true
  | .harmonicBurstOverrun _ => true
  | .harmonicResidueMismatch _ _ => true
  | .hrmHoldWrite _ _ => true
  | .hrmHoldExpire => true
  | .gridEnableApply _ t => siteOk t && t % 20000000 == 0
  | .gridDisableApply _ t => siteOk t
  | .gridReferenceChange _ t => siteOk t
  | .disturbanceRecordPost _ => true
  | .lowBandPeriod t _ => siteOk t && t % 200000000 == 0
  | .highBandBlock bs => bs.all fun b => b.xs.length == 1920
  | .hbPageSelect _ _ => true
  | .hbPageHoldExpire => true
  | .trimRunStart => true
  | .trimRunComplete _ _ => true
  | .trimResultsApply _ => true
  | .calTrig => true
  | .calStart => true
  | .calCheckComplete => true
  | .calStep => true
  | .calSettlingEnd => true
  | .calWindowEnd _ => true
  | .refinMeasureComplete _ _ => true
  | .calResult _ => true
  | .calCommit => true
  | .calCommitComplete _ => true
  | .calAbort => true
  | .calErase _ => true
  | .calSessionTimeout => true
  | .trainingSetReceive _ => true
  | .tetherTrainTimeout => true
  | .soloRetrain => true
  | .digestCompare x => x.digests.length == 160
  | .tetherMark _ site => siteOk site
  | .tetherStateTransfer _ => true
  | .attachWaitExpire => true
  | .channelWarmingEnd _ => true
  | .tetherLost => true
  | .tetherMessageTimeout _ => true
  | .tetherControlReceive _ => true
  | .twnSwap => true
  | .twnDetach => true
  | .twnAttach => true
  | .twnTake => true
  | .compareRecordReceive r => siteOk r.time && r.pulse.length == 16
  | .compareEvaluation t => siteOk t
  | .witnessConnected _ => true
  | .twinCorrectionApply _ => true
  | .adoptedSamplesReceive _ _ _ => true
  | .disputeRearbitrate _ => true
  | .digestMismatchTimeout => true
  | .sramParityError _ _ _ _ => true
  | .vaultWriteReadback _ _ => true
  | .meteringCoreMismatch _ => true
  | .pllLockLoss => true
  | .pllRelock => true
  | .pllRelockTimeout => true
  | .recoveryWindowClose => true
  | .scrubStep _ => true
  | .checkerSelfTest _ _ _ _ => true
  | .faultInject _ _ => true
  | .linkFrameReceive _ f => decide (f.payload.length ≤ 1024)
  | .linkAckReceive _ _ _ => true
  | .frameAckTimeout _ _ => true
  | .idleFrameSend _ => true
  | .linkOut _ => true
  | .portRetrain _ => true
  | .ringDiscovery _ _ _ _ _ => true
  | .ringBreak _ _ => true
  | .timingMarkOriginate t => siteOk t && t % 1000000 == 0
  | .timingMarkReceive _ m => siteOk m.body.site
  | .linkDelayMeasure _ _ _ => true
  | .memberMarkTimeout _ => true
  | .headMarksLost => true
  | .joinWaitExpire => true
  | .caravanSampleSend t _ => siteOk t && t % 125000 == 0
  | .cvnMselWrite _ _ => true
  | .cvnMselHoldExpire => true
  | .cvnAdjGo => true
  | .siteTimeStep => true
  | .siteHoldover => true
  | .beaconPeriodStart t => siteOk t && t % 40000000 == 0
  | .waylineFrameReceive _ => true
  | .contentionSend => true
  | .waylineAckTimeout => true
  | .discoverySend => true
  | .neighbourAgeOut _ => true
  | .toneMapExpire _ => true
  | .parentDelayExchange _ _ => true
  | .parentChange => true
  | .wayTxGo _ _ _ => true
  | .wayRxNext => true
  | .wayNselWrite _ _ => true
  | .wayNselHoldExpire => true
  | .packageBegin => true
  | .packageAppend _ => true
  | .packageSubmit => true
  | .updateValidateComplete _ => true
  | .updateFlashWriteComplete _ => true
  | .updateReadbackCheck _ _ => true
  | .updateApplyInstant _ t => siteOk t && t % 10000000 == 0
  | .twinUpdateWaitExpire _ => true
  | .firmwareReadyTimeout => true
  | .updateMirrorComplete _ _ => true
  | .keyMessageSubmit _ => true
  | .keyMessageApplied => true
  | .privOpen => true
  | .privDrop => true
  | .privLockExpire => true
  | .privTimeout => true
  | .openKeyWrite _ _ _ => true
  | .openKeyPromote => true
  | .passportRequest => true
  | .porterSupplySwitch _ => true
  | .porterBrownOut => true
  | .calendarSecond => true
  | .calendarCommit => true
  | .crystalCompensation _ => true
  | .pclkStopDetect => true
  | .porterShadowCheck _ _ _ => true
  | .batteryCheck _ => true
  | .porterConfigWrite _ _ => true
  | .porterSourceSample _ => true
  | .porterSlotClear _ => true
  | .pwronClear => true
  | .pwronTimeout => true
  | .ledgerRecordWrite => true
  | .rateWindowClose _ => true
  | .evtPendClear _ _ => true
  | .irqReassert _ => true
  | .ledgerLookup _ => true
  | .ledgerAckWrite _ => true
  | .sarReferenceReady => true
  | .sarTimerTrigger => true
  | .pwmsyncEdge _ => true
  | .sarDelayExpire => true
  | .sarConversionComplete _ _ => true
  | .sarInject _ _ => true
  | .housekeepingDue => true
  | .housekeepingBurstComplete => true
  | .shuntFactorApply _ => true
  | .vlcdUpdate => true
  | .displayUpdateStart => true
  | .displayPhaseEnd => true
  | .displayPumpTimeout => true
  | .dspShow => true
  | .dspNext => true
  | .pageDwellExpire => true
  | .vholdLow => true
  | .displayPowerUpRefresh => true
  | .commaLock _ => true
  | .porterBrownOutRelease => true
  | .siteTimeSlewComplete => true
  | .passportHoldExpire => true

end Sys2Proof
end

