-- ==== Sys2Proof/Tests/Slice0.lean ====
section
/-! SUPPORT. The package's own tests: the spec's worked examples, published vectors of the codes, an ill-formed command for each
check of `Instr.wf`, and for each obligation a state and operands that meet its hypotheses (`witness_…`: one clause each where
the obligation has several). -/

namespace Sys2Proof.Tests

open Sys2Proof.Machine

set_option maxRecDepth 20000
set_option linter.unusedVariables false
set_option Elab.async false

/-! ### Small states and operands to test on -/

/-- A device in RUN with its controller running, and nothing else set. -/
def wRun : State :=
  { State.reset with
    pwr := { State.reset.pwr with mstate := .run, reset := none }
    ctl := .running
    clk := { State.reset.clk with stopped := none } }

/-- The same device in STANDBY. -/
def wStby : State := { wRun with pwr := { wRun.pwr with mstate := .standby } }

def onCtl (s : State) (c : CtlRun) : State := { s with ctl := c }
def onClk (s : State) (f : ClockSt → ClockSt) : State := { s with clk := f s.clk }
def onHost (s : State) (f : HostSt → HostSt) : State := { s with host := f s.host }
def onPwr (s : State) (f : PwrSt → PwrSt) : State := { s with pwr := f s.pwr }
def onLdg (s : State) (f : LdgSt → LdgSt) : State := { s with ldg := f s.ldg }
def onInp (s : State) (f : InpSt → InpSt) : State := { s with inp := f s.inp }
def onRmt (s : State) (f : RmtSt → RmtSt) : State := { s with rmt := f s.rmt }
def onFlt (s : State) (f : FltSt → FltSt) : State := { s with flt := f s.flt }
def onFlts (s : State) (f : FltsSt → FltsSt) : State := { s with flts := f s.flts }
def onCal (s : State) (f : CalSt → CalSt) : State := { s with cal := f s.cal }
def onTwn (s : State) (f : TwnSt → TwnSt) : State := { s with twn := f s.twn }
def onMtr (s : State) (f : MtrSt → MtrSt) : State := { s with mtr := f s.mtr }
def onItn (s : State) (f : ItnSt → ItnSt) : State := { s with itn := f s.itn }
def onGrd (s : State) (f : GrdSt → GrdSt) : State := { s with grd := f s.grd }
def onHrm (s : State) (f : HrmSt → HrmSt) : State := { s with hrm := f s.hrm }
def onDst (s : State) (f : DstSt → DstSt) : State := { s with dst := f s.dst }
def onPls (s : State) (f : PlsSt → PlsSt) : State := { s with pls := f s.pls }
def onWay (s : State) (f : WaySt → WaySt) : State := { s with way := f s.way }
def onSbx (s : State) (f : SbxSt → SbxSt) : State := { s with sbx := f s.sbx }
def onCvn (s : State) (f : CvnSt → CvnSt) : State := { s with cvn := f s.cvn }
def onSar (s : State) (f : SarSt → SarSt) : State := { s with sar := f s.sar }
def onDsp (s : State) (f : DspSt → DspSt) : State := { s with dsp := f s.dsp }
def onPrt (s : State) (f : PrtSt → PrtSt) : State := { s with prt := f s.prt }

def wSlot : Slot := ⟨.routine, 0, 0, .selfchk, .settling, false, none, ⟨0, 1⟩, none, false, false, false, false, 0, 0, []⟩
def wUpd : Update := ⟨1, [], []⟩
def wSess : Sess := ⟨false, false, false, 0, 1, 0, 1, 0, 0, 0, 0, 0, [], [], false, none, 0, false, false, false, .off, none, []⟩
def wMtr : MtrCfg := ⟨1, 0, 0, false, 0, 0, 0, [some ([⟨false, 0, 0⟩], [⟨false, 1, 0⟩]), none, none]⟩
def wPost : MtrPost := ⟨wMtr, 0, 0, 1, [], none, [], [], false, false, false, false, false, false, false⟩
def wChange : RespChange := ⟨[0, 0, 0, 0], .waitSpare⟩
def wNbr : Nbr := ⟨1, 0, false, 1, 0, 0, 0, 0, 0, 0, 0, 0, 0, 0, 0, false, 0⟩
def wTx : WayTx := ⟨1, 1, 0, 0, 8, 0, false, false, 0, false, [], .nothing, 0⟩
def wWay : WayFrame := ⟨false, true, 0, 0, 0, 0, 0, 0, 0, [], 0, .nothing, []⟩
/-- An idle frame with a right CRC. -/
def wLink : LinkFrame := ⟨0, 0, 0, 0, 0, 0, [], 0x7BD5C66F, .idle⟩
def wDispute : Dispute := ⟨0, 0, none, none, [], 0, 0, false, 0⟩
def wSet : TrainSet := ⟨1, 0, 7, 1, false, true, true⟩
def wDsp : DspUpd := ⟨1, 1, .pre, .content⟩
def wRec : LdgRec := ⟨0, 1, 4, false, false, false, false, false, 0, 0, 0, 0, 0, [], 0⟩
def wMark : TimingMark := ⟨⟨0, 0, 1, 0, 0, 0, none⟩, 0, 0⟩
def wCmp : CmpRec := ⟨0, 0, 0, 0, [], [], []⟩
def wDstRec : DstRec := ⟨1, ⟨0, 0, 0, false, false, false, false⟩, 0, 0, 0, false⟩
def wIv : Interval := ⟨0, 20000000, [], [], []⟩
def wItem : ChanItem := ⟨0, 0, 0, 0, 0, 0, 0, 0⟩

/-- A member of a Caravan, and a head. -/
def wMember : State := onCvn wRun fun x => { x with cfg := { x.cfg with en := true } }
def wHead : State := onPls wMember fun x => { x with role := true }

def wErased : List (RegionCopy × RegionCopy) := List.replicate 11 (RegionCopy.erased, RegionCopy.erased)

/-! ### The spec's worked examples

Each expected value stands in the chapter named. -/

/-- Chapter 21: a quad read with TAG 3 in RUN and nothing pending ends with status 0x0230_0000. -/
theorem test_status_word_of_a_read : statusWord wRun ⟨0, true, true, 3, 0x060F00, 0, 2⟩ 0 0 false = 0x02300000 := by decide +kernel

/-- Chapter 21: a repeated write with TAG 5 ends with status 0x0A50_0000. -/
theorem test_status_word_of_a_duplicate : statusWord wRun ⟨1, false, false, 5, 0x12000C, 0,
  1⟩ 0 0 true = 0x0A500000 := by decide +kernel

/-- Chapter 21: byte 0 of the quad read is 0x33. -/
theorem test_header_of_the_quad_read : (header [0x33, 0x06, 0x0F, 0x00, 0, 2, 0, 0]).map (fun h => (h.op, h.inc, h.tag, h.addr,
  h.len))
    = none ∧ (header [0x33, 0x06, 0x0F, 0x00, 0, 2, BitVec.ofNat 8 (crc16 [0x33, 0x06, 0x0F, 0x00, 0, 2] / 256),
      BitVec.ofNat 8 (crc16 [0x33, 0x06, 0x0F, 0x00, 0, 2])]).map (fun h => (h.op, h.inc, h.tag, h.addr, h.len))
    = some (0, true, 3, 0x060F00, 2) := by decide +kernel

/-- Chapters 03, 05, 06, 09, 18 and 21: the addresses of the worked examples. -/
theorem test_addresses_of_the_examples : regAt 0x060F00 = some (R.ACC_LO, 240) ∧ regAt 0x010284 = some (R.INP_ST, 40)
    ∧ regAt 0x031058 = some (R.FLT_ST, 5) ∧ regAt 0x0CA72C = some (R.DST_HBPAGE, 455) ∧ regAt 0x160420 = some (R.EVT_SNAP, 8)
    ∧ regAt 0x011104 = some (R.INP_OPENMAP, 1) ∧ regAt 0x12000C = some (R.ITN_PKCTL, 0) := by decide +kernel

/-- Chapter 17: 2031-11-14 is a Friday. -/
theorem test_day_of_week : dowOf { getCal wRun with cent := 0, year := 31, mon := 11, day := 14 } = 5 := by decide +kernel

/-- Chapter 06: 2500 A is 0x451C_4000 as binary32. -/
theorem test_binary32 : b32 0x451C4000 = 2500 := by decide +kernel

/-- Chapter 06: INOM 80 A and STARTI 0x0A put 7967.43 W over 20 ms at 44,263.5 µWh to the nearest tenth. -/
theorem test_energy_of_an_interval : energy (796743 / 100) (2 / 100) * 10 / 2 ^ 32 = 442635 := by decide +kernel

/-- Chapter 04: bank E with its eight channels enabled serves I32 at 8 s, I33 at 23 s, I34 at 38 s, and I32 again at 128 s. -/
theorem test_remount_turns :
    let s := onInp wRun fun x => { x with en := (List.range 8).map fun i => (32 + i, true) }
    assigned s 8 0 = some 32 ∧ assigned s 9 0 = some 33 ∧ assigned s 8 1 = some 34 ∧ assigned s 9 3 = some 39
      ∧ assigned s 8 4 = some 32 := by decide +kernel

/-! ### Codes, against published vectors -/

/-- CRC-16/CCITT-FALSE and CRC-32 of the digits 1 to 9. -/
theorem test_crcs : crc16 [49, 50, 51, 52, 53, 54, 55, 56, 57] = 0x29B1 ∧
  crc32 [49, 50, 51, 52, 53, 54, 55, 56, 57] = 0xCBF43926 := by
  decide +kernel

/-- FIPS 180-4: SHA-256 of abc. -/
theorem test_sha256 : sha256 [0x61, 0x62, 0x63] =
    [0xBA, 0x78, 0x16, 0xBF, 0x8F, 0x01, 0xCF, 0xEA, 0x41, 0x41, 0x40, 0xDE, 0x5D, 0xAE, 0x22, 0x23,
     0xB0, 0x03, 0x61, 0xA3, 0x96, 0x17, 0x7A, 0x9C, 0xB4, 0x10, 0xFF, 0x61, 0xF2, 0x00, 0x15, 0xAD] := by decide +kernel

/-- FIPS 197, appendix C.1. -/
theorem test_aes128 : aesEnc (List.range 16) ((List.range 16).map (0x11 * ·)) =
    [0x69, 0xC4, 0xE0, 0xD8, 0x6A, 0x7B, 0x04, 0x30, 0xD8, 0xCD, 0xB7, 0x80, 0x70, 0xB4, 0xC5, 0x5A] := by decide +kernel

/-- FIPS 197, appendix C.1, inverted. -/
theorem test_aes128_inverse : aesDec (List.range 16)
    [0x69, 0xC4, 0xE0, 0xD8, 0x6A, 0x7B, 0x04, 0x30, 0xD8, 0xCD, 0xB7, 0x80, 0x70, 0xB4, 0xC5, 0x5A] =
    (List.range 16).map (0x11 * ·) := by decide +kernel

/-! ### Ill-formed commands are refused

One ill-formed command for each check of `Instr.wf`. -/

theorem test_wf_refuses_addresses : Instr.wf (.read64LowerWord 2) = false ∧ Instr.wf (.read64LowerWord 0x1000000) = false ∧
    Instr.wf (.read64LowerWord 0x060F00) = true := by decide

theorem test_wf_refuses_frames : Instr.wf (.hostReadFrame []) = false ∧ Instr.wf (.statusPoll [0]) = false ∧
    Instr.wf (.hostWriteFrame ⟨[], [], 0, true⟩) = false ∧
    Instr.wf (.hostWriteFrame ⟨List.replicate 8 0, List.replicate 512 0, 0, true⟩) = false := by decide +kernel

theorem test_wf_refuses_lists : Instr.wf (.itineraryRead (some ⟨none, ⟨0, 0, 0, [], true⟩, ⟨0, 0, 0, [], true⟩, []⟩) []) = false ∧
    Instr.wf (.ledgerIndexBuilt [(0, [])] []) = false ∧ Instr.wf (.offlineMeasurementComplete 0 0 []) = false ∧
    Instr.wf (.highBandBlock [⟨0, 0, []⟩]) = false ∧
    Instr.wf (.digestCompare ⟨[], false⟩) = false ∧ Instr.wf (.compareRecordReceive wCmp) = false := by decide

theorem test_wf_refuses_instants_off_their_grid : Instr.wf (.meteringStart 1) = false ∧ Instr.wf (.xclkReturn 1) = false ∧
    Instr.wf (.dcGridBoundary 1) = false ∧ Instr.wf (.periodicCheckpoint 1) = false ∧ Instr.wf (.exchangeInstant 1 []) = false ∧
    Instr.wf (.timingMarkOriginate 1) = false ∧ Instr.wf (.caravanSampleSend 1 []) = false ∧
      Instr.wf (.beaconPeriodStart 1) = false ∧
    Instr.wf (.updateApplyInstant 0 1) = false ∧ Instr.wf (.f10sPost 1) = false ∧ Instr.wf (.gridEnableApply 0 1) = false ∧
    Instr.wf (.lowBandPeriod 1 []) = false := by decide

/-- 2⁶⁴ × 1,953,125 ns: beyond 64 bits and on every grid of `Instr.wf`. -/
def wLate : Nat := 2 ^ 64 * 1953125

theorem test_wf_refuses_times : Instr.wf (.meteringStart wLate) = false ∧ Instr.wf (.xclkReturn wLate) = false ∧
    Instr.wf (.dcGridBoundary wLate) = false ∧ Instr.wf (.periodicCheckpoint wLate) = false ∧
    Instr.wf (.exchangeInstant wLate []) = false ∧ Instr.wf (.timingMarkOriginate wLate) = false ∧
    Instr.wf (.caravanSampleSend wLate []) = false ∧ Instr.wf (.beaconPeriodStart wLate) = false ∧
    Instr.wf (.updateApplyInstant 0 wLate) = false ∧ Instr.wf (.powerFailReport ⟨wLate, []⟩) = false ∧
    Instr.wf (.finalCheckpointComplete wLate) = false ∧ Instr.wf (.compareEvaluation wLate) = false ∧
    Instr.wf (.f10sPost wLate) = false ∧ Instr.wf (.halfCycleMark 0 wLate none []) = false ∧
    Instr.wf (.cycleBoundary 0 wLate 0 0 0 none) = false ∧ Instr.wf (.aligningBoundary 0 wLate 0 0) = false ∧
    Instr.wf (.gridEnableApply 0 wLate) = false ∧ Instr.wf (.gridDisableApply 0 wLate) = false ∧
    Instr.wf (.gridReferenceChange 0 wLate) = false ∧ Instr.wf (.lowBandPeriod wLate []) = false ∧
    Instr.wf (.tetherMark 0 wLate) = false ∧ Instr.wf (.timingMarkReceive 0 ⟨⟨wLate, 0, 0, 0, 0, 0, none⟩, 0, 0⟩) = false ∧
    Instr.wf (.compareRecordReceive ⟨0, 0, 0, wLate, List.replicate 16 (0, 0), [], []⟩) = false := by decide

theorem test_wf_refuses_intervals : Instr.wf (.intervalEnd 0 ⟨wLate, wLate, [], [], []⟩) = false ∧
    Instr.wf (.intervalEnd 0 ⟨0, wLate, [], [], []⟩) = false ∧ Instr.wf (.intervalEnd 0 ⟨1, 0, [], [], []⟩) = false ∧
    Instr.wf (.intervalEnd 0 wIv) = true := by decide

theorem test_wf_refuses_negative_magnitudes : Instr.wf (.ovrClear 0 (-1)) = false ∧
    Instr.wf (.cycleBoundary 0 0 (-1) 0 0 none) = false ∧ Instr.wf (.aligningBoundary 0 0 (-1) 0) = false := by decide


/-! ### The sample path and the balls -/

/-- A constant one gives 1.0 in the engine format on both taps, after four frames without a sample (R95, R96). -/
theorem test_decimator_ones :
    (engineFrames 32 0 (Decimator.run 32 (List.replicate 192 true) .cleared).1 = [none, none, none, none, some (2 ^ 28),
      some (2 ^ 28)]) := by decide

/-- The same at 12.288 MHz, where the main tap decimates by 64 and the high-band tap by 32. -/
theorem test_decimator_high_rate :
    (engineFrames 32 0 (Decimator.run 64 (List.replicate 192 true) .cleared).2.1 = [none, none, none, none, some (2 ^ 28),
      some (2 ^ 28)]) := by decide

/-- The skew between V08 and I37 is 2929.7 ns (the worked example of R16). -/
theorem test_pair_skew : pairSkewNs 104 37 = 29296875 / 10000 := by decide +kernel

/-- The 8000th TROT sample of I37 describes 1.000 001 302 s and arrives by 1.001 881 510 s (the worked example of R107). -/
theorem test_preset_instant :
    (sampleInstant 37 (8000 * presetFactor 2)).floor = 1000001302 ∧
      (sampleArrival 37 2 (8000 * presetFactor 2)).floor = 1001881510 ∧
      (sampleArrival 37 3 (8000 * presetFactor 2)).floor = 1000475260 := by decide +kernel

/-- The lane-cycles of a period (Table 05-2). -/
theorem test_lane_cycles : laneCyclesTotal = 10240 := by decide

/-- A DC block is 3 dB down at its corner and leads by 45 degrees there; a Rogowski response has gain 1 at its normalising
frequency; a notch has none at its own (Table 05-16). -/
theorem test_prototypes :
    ((prototype 3).map fun h => (h.power 100, h.tanPhase 100)) = some (1 / 2, 1) ∧
      ((prototype 9).map fun h => h.power 50000) = some 1 ∧ ((prototype 38).map fun h => h.power 120000) = some 0 := by
  decide +kernel

/-- The DC block of 0.1 Hz with the CT correction of 0.1 Hz leaves a gain within 20 ppm at 40 and at 70 Hz (R105). -/
theorem test_ct_pair :
    ([40000, 70000].all fun f =>
      match prototype 3, prototype 19 with
      | some a,
      some b => decide ((99996 / 100000 : Rat) ≤ a.power f * b.power f) && decide (a.power f * b.power f ≤ 100004 / 100000)
      | _, _ => false) = true := by decide +kernel

/-- An update of two segments, both driven, to dark and light: segment 1 is shifted first, MSB first (R389, R391). -/
theorem test_shift_bits :
    let s := (onDsp wRun fun x => { x with upd := some ⟨1, 3, .drive, .content⟩ }).put F.DSP_CFG_NSEG 0 2
    shiftBits s = [true, false, false, true] := by decide +kernel

/-- The net DC of every segment over two frames is zero under each inversion (R387). -/
theorem test_lcd_has_no_dc :
    ((List.range 3).all fun inv => (List.range 4).all fun com => (List.range 2).all fun line =>
      (List.range 16).all fun img => netThirds img inv line com == 0) = true := by decide +kernel

/-- 818 samples above the threshold blank 820 with their neighbours, more than 819; 817 blank 819, which is kept (R288). -/
theorem test_blanking_erases : symSoft 128 (List.replicate 818 (1 / 2) ++ [0, 0]) = .erased ∧
    symSoft 128 (List.replicate 817 (1 / 2) ++ [0, 0]) = .kept (3277 / 4096) := by decide +kernel

/-- A crossfade of 64 samples starts one 128th of the way (R81). -/
theorem test_crossfade : crossfadeAt 64 1 0 0 128 0 = 1 := by decide +kernel

/-- The balls of I37P, I37N, V10P, V10N and B20 (the worked example of chapter 02). -/
theorem test_balls :
    analogBall 37 false = ("E", 11) ∧ analogBall 37 true = ("E", 12) ∧ analogBall 106 false = ("P", 5) ∧
      analogBall 106 true = ("P", 6) ∧ bitstreamBall 20 = ("F", 19) := by decide

/-! ### A package and a key message that this device accepts

Both name the device's identity, which is open, so these two are shown by lemmas on the codes rather than by evaluation. -/

theorem leBytes_lt (n v : Nat) : ∀ b ∈ leBytes n v, b < 256 := by
  induction n generalizing v with
  | zero => intro b h; exact nomatch h
  | succ n ih =>
    intro b h
    rcases List.mem_cons.1 h with rfl | h
    · exact Nat.mod_lt _ (by decide)
    · exact ih _ b h

theorem shaRound_length (v : List Nat) (p : Nat × Nat) : (shaRound v p).length = 8 := rfl

theorem foldl_shaRound_length (l : List (Nat × Nat)) (v : List Nat) (h : v.length = 8) : (l.foldl shaRound v).length = 8 := by
  induction l generalizing v with
  | nil => exact h
  | cons p l ih => exact ih _ (shaRound_length v p)

theorem shaBlocks_length (n : Nat) (h m : List Nat) (hh : h.length = 8) : (shaBlocks n h m).length = 8 := by
  induction n generalizing h m with
  | zero => exact hh
  | succ n ih =>
    refine ih _ _ ?_
    unfold shaBlock
    simp only [List.length_map, List.length_zip]
    rw [foldl_shaRound_length _ _ hh, hh]
    rfl

theorem flatMap_be_length (l : List Nat) : (l.flatMap (beBytes 4)).length = 4 * l.length := by
  induction l with
  | nil => rfl
  | cons a l ih =>
    rw [List.flatMap_cons, List.length_append, ih]
    show 4 + 4 * l.length = 4 * (l.length + 1)
    omega

/-- A MAC is 32 bytes long. -/
theorem hmac256_length (k m : List Nat) : (hmac256 k m).length = 32 := by
  unfold hmac256 sha256
  dsimp only
  rw [flatMap_be_length, shaBlocks_length _ _ _ rfl]

/-- Every element of a MAC is a byte. -/
theorem hmac256_lt (k m : List Nat) : ∀ b ∈ hmac256 k m, b < 256 := by
  intro b hb
  unfold hmac256 sha256 at hb
  dsimp only at hb
  obtain ⟨w, -, hw⟩ := List.mem_flatMap.1 hb
  exact leBytes_lt 4 w b (List.mem_reverse.1 hw)

/-- Words cut from bytes spell the same bytes. -/
theorem wordsToLe_leToWords (n : Nat) (l : List Nat) (hl : l.length = 4 * n) (hb : ∀ b ∈ l, b < 256) :
    wordsToLe ((leToWords n l).map (· % 2 ^ 32)) = l := by
  induction n generalizing l with
  | zero =>
    have h0 : l = [] := List.length_eq_zero_iff.1 (by omega)
    subst h0
    rfl
  | succ n ih =>
    match l, hl, hb with
    | a :: b :: c :: d :: r, hl, hb =>
      have h4 := ih r (by simp at hl; omega) fun x hx => hb x (by simp [hx])
      have ha := hb a (by simp)
      have hb' := hb b (by simp)
      have hc := hb c (by simp)
      have hd := hb d (by simp)
      show leBytes 4 ((a % 256 + 256 * (b % 256 + 256 * (c % 256 + 256 * (d % 256 + 256 * 0)))) % 2 ^ 32)
        ++ wordsToLe ((leToWords n r).map (· % 2 ^ 32)) = _
      rw [h4]
      simp only [leBytes, List.cons_append, List.nil_append, List.cons.injEq, and_true]
      omega

/-- A device whose slot 0 holds a key. -/
def wKeyed : State := onSbx wRun fun x => { x with slots := [(0, some ⟨List.replicate 16 0, 0, 1, false, false⟩)] }

/-- A package of GEN 1 for region 7, up to its MAC. -/
def wPkHead : List Nat :=
  [0x4C, 0x58, 0x55, 0x50, 1, 7, 0, 0] ++ uidBytes ++ [1, 0, 0, 0, 0, 0, 0, 0] ++ List.replicate 32 0

def wPk : List Nat := wPkHead ++ hmac256 (List.replicate 16 0) wPkHead

theorem wPk_accepted : pkCheck (onItn wKeyed fun x => { x with buf := some (88, wPk) }) 88 wPk = 0 := by
  have hl : (hmac256 (List.replicate 16 0) wPkHead).length = 32 := hmac256_length _ _
  have ht : wPk.take 0x38 = wPkHead := List.take_left (l₁ := wPkHead)
  have hd : (wPk.drop 0x38).take 32 = hmac256 (List.replicate 16 0) wPkHead := by
    rw [show wPk.drop 0x38 = hmac256 (List.replicate 16 0) wPkHead from List.drop_left (l₁ := wPkHead),
      List.take_of_length_le (by omega)]
  have hn : wPk.length = 88 := by
    unfold wPk
    rw [List.length_append, hl]
    rfl
  have hr : pkRegion wPk = 7 := rfl
  have h0 : pkLen wPk = 0 := rfl
  have hg : pkGen wPk = 1 := rfl
  have hk : authorityKey (onItn wKeyed fun x => { x with buf := some (88, wPk) }) 1 = some (List.replicate 16 0) := by decide
  have h1 : ofLe (wPk.take 4) = 0x5055584C := rfl
  have h2 : wPk.getD 4 0 = 1 := rfl
  have h3 : ofLe ((wPk.drop 6).take 2) = 0 := rfl
  have h4 : (wPk.drop 8).take 8 = uidBytes := rfl
  unfold pkCheck
  dsimp only
  rw [hr, h0, hn, h1, h2, h3, h4, hk, ht, hd, hg, if_neg (by decide), if_neg (by decide), if_neg (fun h => h rfl)]
  dsimp only
  rw [if_neg (fun h => h rfl), if_neg (by decide), if_neg (by decide)]

theorem witness_PackagesAreDelivered_accepted : ∃ (s : State) (total : Nat) (b : List Nat), ctlOn s = true ∧
    s.bit F.ITN_PKCTL_BUSY = false ∧ s.itn.buf = some (total, b) ∧ pkCheck s total b = 0 ∧ rst s (pkRegion b) = 0 :=
  ⟨onItn wKeyed fun x => { x with buf := some (88, wPk) }, 88, wPk, by decide, by decide, rfl, wPk_accepted, rfl⟩

/-- A key message of no entries with number 1 under the customer's authority, up to its MAC. -/
def wKmHead : List Nat := [0x4D, 0x58, 0x42, 0x53, 1, 1, 1, 0xFF] ++ uidBytes ++ [1, 0, 0, 0, 0, 0, 0, 0]

def wKm : List Nat := wKmHead ++ hmac256 (List.replicate 16 0) wKmHead

/-- The entries k + a, k + a + 1, … of a map, n of them. -/
theorem mget_range' {α : Type} (d : α) (g : Nat → α) (k n : Nat) : ∀ a i, mget d ((List.range' a n).map fun j => (k + j,
  g j)) (k + i) =
    if a ≤ i ∧ i < a + n then g i else d := by
  induction n with
  | zero => intro a i; rw [if_neg (by omega)]; rfl
  | succ n ih =>
    intro a i
    show (if k + a = k + i then g a else mget d ((List.range' (a + 1) n).map fun j => (k + j, g j)) (k + i)) = _
    rw [ih]
    by_cases h : a = i
    · subst h
      rw [if_pos rfl, if_pos (by omega)]
    · rw [if_neg (by omega)]
      by_cases h2 : a + 1 ≤ i ∧ i < a + 1 + n
      · rw [if_pos h2, if_pos (by omega)]
      · rw [if_neg h2, if_neg (by omega)]

/-- A device with fourteen given words at the start of its message window. -/
def wWindow (g : Nat → Nat) : State :=
  { wKeyed with flds := (List.range' 0 14).map fun i => (F.SBX_MWIN_DATA.id * 65536 + i, g i) }

theorem wWindow_fld (g : Nat → Nat) (i : Nat) (h : i < 64) :
    (wWindow g).fld F.SBX_MWIN_DATA i = if i < 14 then g i % 2 ^ 32 else 0 := by
  have hk : fkey F.SBX_MWIN_DATA i = F.SBX_MWIN_DATA.id * 65536 + i := by
    unfold fkey
    rw [Nat.mod_eq_of_lt (by omega)]
  show mget 0 ((List.range' 0 14).map fun j => (F.SBX_MWIN_DATA.id * 65536 + j, g j)) (fkey F.SBX_MWIN_DATA i) % 2 ^ 32 = _
  rw [hk, mget_range']
  by_cases hi : i < 14
  · rw [if_pos (by omega), if_pos hi]
  · rw [if_neg (by omega), if_neg hi]
    rfl

theorem wWindow_words (g : Nat → Nat) : (List.range 64).map (fun i => (wWindow g).fld F.SBX_MWIN_DATA i) =
    (List.range 14).map (fun i => g i % 2 ^ 32) ++ List.replicate 50 0 := by
  rw [List.map_congr_left fun i hi => wWindow_fld g i (List.mem_range.1 hi)]
  rfl

theorem leToWords_getD (l : List Nat) :
    (List.range 14).map (fun i => (leToWords 14 l).getD i 0 % 2 ^ 32) = (leToWords 14 l).map (· % 2 ^ 32) := by
  have hn : ∀ n (l : List Nat), (leToWords n l).length = n := by
    intro n
    induction n with
    | zero => intro l; rfl
    | succ n ih => intro l; exact congrArg (· + 1) (ih _)
  generalize hw : leToWords 14 l = w
  have h : w.length = 14 := hw ▸ hn 14 l
  refine List.ext_getElem (by simp [h]) fun i h1 h2 => ?_
  have hi : i < w.length := by simpa using h2
  simp [List.getD_eq_getElem?_getD, List.getElem?_eq_getElem hi]

/-- A device with this message in its window. -/
def wKmState : State := wWindow fun i => (leToWords 14 wKm).getD i 0

theorem wKm_window : (windowBytes wKmState F.SBX_MWIN_DATA 64).take 56 = wKm := by
  have hl : (hmac256 (List.replicate 16 0) wKmHead).length = 32 := hmac256_length _ _
  have hn : wKm.length = 4 * 14 := by
    unfold wKm
    rw [List.length_append, hl]
    rfl
  have hb : ∀ b ∈ wKm, b < 256 := by
    intro b h
    rcases List.mem_append.1 h with h | h
    · have h8 := leBytes_lt 8 Config.uid.toNat
      rcases List.mem_append.1 h with h | h
      · rcases List.mem_append.1 h with h | h
        · exact (show ∀ b ∈ [0x4D, 0x58, 0x42, 0x53, 1, 1, 1, 0xFF], b < 256 by decide) b h
        · exact h8 b h
      · exact (show ∀ b ∈ [1, 0, 0, 0, 0, 0, 0, 0], b < 256 by decide) b h
    · exact hmac256_lt _ _ b h
  have hw : (List.range 64).map (fun i => wKmState.fld F.SBX_MWIN_DATA i) =
      (leToWords 14 wKm).map (· % 2 ^ 32) ++ List.replicate 50 0 := by
    rw [← leToWords_getD]
    exact wWindow_words _
  unfold windowBytes
  rw [hw]
  unfold wordsToLe
  rw [List.flatMap_append]
  have h := wordsToLe_leToWords 14 wKm hn hb
  unfold wordsToLe at h
  rw [h, show 56 = wKm.length from hn.symm]
  exact List.take_left

theorem wKm_accepted : checkMessage wKmState 56 = .inr ⟨none, []⟩ := by
  have hl : (hmac256 (List.replicate 16 0) wKmHead).length = 32 := hmac256_length _ _
  have hk : authorityKey wKmState 1 = some (List.replicate 16 0) := rfl
  have ht : wKm.take (56 - 32) = wKmHead := List.take_left (l₁ := wKmHead)
  have hd : wKm.drop (56 - 32) = hmac256 (List.replicate 16 0) wKmHead := List.drop_left (l₁ := wKmHead)
  unfold checkMessage
  dsimp only
  rw [wKm_window]
  rw [show wKm.getD 6 0 = 1 from rfl, show wKm.getD 0x14 0 = 0 from rfl, show wKm.getD 5 0 = 1 from rfl,
    show (wKm.drop 8).take 8 = uidBytes from rfl, show ofLe ((wKm.drop 0x10).take 4) = 1 from rfl, hk, ht, hd]
  rw [show wKmState.bit F.SBX_MCTL_BUSY = false from rfl, show messageOk wKm 56 = true from rfl,
    show wKmState.fld F.SBX_SCNT_DATA = 0 from rfl, if_neg (by decide), if_neg (by decide), if_neg (fun h => h rfl)]
  dsimp only
  rw [if_neg (fun h => h rfl), if_neg (by decide), if_neg (by decide)]
  rfl

theorem witness_KeyMessagesAreCheckedAndApplied_accepted : ∃ (s : State) (n : Fin 512) (x : KeyMsg), ctlOn s = true ∧ n.val ≠ 0 ∧
    checkMessage s n = .inr x ∧ vaultFree s 3 = true :=
  ⟨wKmState, 56, ⟨none, []⟩, rfl, by decide, wKm_accepted, rfl⟩

theorem witness_KeyMessagesAreCheckedAndApplied_waiting : ∃ (s : State) (n : Fin 512) (x : KeyMsg), ctlOn s = true ∧ n.val ≠ 0 ∧
    checkMessage s n = .inr x ∧ vaultFree s 3 = false :=
  ⟨onPwr wKmState fun x => { x with finalCk := true }, 56, ⟨none, []⟩, rfl, by decide, wKm_accepted, rfl⟩

/-! ### Write frames -/

theorem witness_WriteFrameExecutesWord_running : ∃ (s : State) (f : WriteFrame) (h : Header) (w : Word) (r : RegRow) (i : Nat),
    let s1 := { s with host := { s.host with lastT := s.clk.now } }
    mainOn s = true ∧ header f.hdr = some h ∧ h.bad = false ∧ h.op = 1 ∧ h.len = 1 ∧ f.complete = true ∧ f.words = [w] ∧
      dataCrc [w] = f.dcrc.toNat ∧ isDup h f.dcrc.toNat s1 = none ∧ regAt (h.at_ 0) = some (r, i) ∧
      accepted r i (h.at_ 0) w.toNat s1 = true ∧ r.rid ≠ R.PWR_CTL.rid ∧ domStopped s r.dom = false ∧
      mainOn (wordEffect r i (h.at_ 0) w.toNat s1) = true :=
  ⟨wRun, ⟨[65, 19, 16, 0, 0, 1, 192, 174], [0], 33984, true⟩, ⟨1, false, false, 1, 1249280, 0, 1⟩, 0, R.SBX_MWIN, 0,
    by decide +kernel⟩

theorem witness_WriteFrameExecutesWord_stopped : ∃ (s : State) (f : WriteFrame) (h : Header) (w : Word) (r : RegRow) (i : Nat),
    let s1 := { s with host := { s.host with lastT := s.clk.now } }
    mainOn s = true ∧ header f.hdr = some h ∧ h.bad = false ∧ h.op = 1 ∧ h.len = 1 ∧ f.complete = true ∧ f.words = [w] ∧
      dataCrc [w] = f.dcrc.toNat ∧ isDup h f.dcrc.toNat s1 = none ∧ regAt (h.at_ 0) = some (r, i) ∧
      accepted r i (h.at_ 0) w.toNat s1 = true ∧ r.rid ≠ R.PWR_CTL.rid ∧ domStopped s r.dom = true :=
  ⟨wStby, ⟨[65, 9, 0, 8, 0, 1, 48, 92], [0], 33984, true⟩, ⟨1, false, false, 1, 589832, 0, 1⟩, 0, R.HRM_HOLD, 0, by decide +kernel⟩

/-! ### States and operands that meet the hypotheses of the obligations -/

theorem witness_IdleStepCountsTime : ∃ s : State, s.pending = [] :=
  ⟨wRun, by decide⟩

theorem witness_StepKeepsQueueOrder :
    (∃ s : State, ∃ t : State, ∃ c : Instr, ∃ rest : List Instr, s.pending = c :: rest ∧ step s = .next t) ∧
    (∃ s : State, ∃ t : State, s.pending = [] ∧ step s = .next t) :=
  ⟨⟨{ wRun with pending := [.powerFailRecovery] }, wRun, .powerFailRecovery, [], by decide, rfl⟩,
    ⟨wRun, { wRun with clk := { wRun.clk with now := 1, site := 1 } }, rfl, rfl⟩⟩

theorem witness_StepKeepsFieldsRising : ∃ s : State, ∃ t : State, FieldsRising s ∧ step s = .next t :=
  ⟨wRun, { wRun with clk := { wRun.clk with now := 1, site := 1 } }, by decide, rfl⟩

theorem witness_ResetFieldsAtResetValues :
    (∃ f, ∃ i : Nat, f ∈ allFields ∧ i < 65536 ∧ f ≠ F.PRT_SRC_CAP ∧ f ≠ F.PRT_SRC_REC ∧ f ≠ F.PRT_SRC_ALERT) ∧
    (∃ f, ∃ i : Nat, f ∈ allFields ∧ i < 65536 ∧ i ≠ 15) :=
  ⟨⟨F.EVT_CFG_IRQ0, 127, by decide +kernel⟩,
    ⟨F.PRT_SRC_CAP, 14, by decide +kernel⟩⟩

theorem witness_ReadFrameReturnsWords : ∃ s : State, ∃ hdr : List Byte, ∃ h : Header, mainOn s = true ∧ header hdr = some h ∧
  h.op = 0 ∧ h.resv = 0 ∧ 1 ≤ h.len ∧ h.len ≤ 256 ∧ h.addr % 4 = 0 :=
  ⟨wRun, [0, 0, 0, 0, 0, 1, 30, 49], ⟨0, false, false, 0, 0, 0, 1⟩, by decide⟩

theorem witness_PollsAndStatusWord :
    (∃ s : State, ∃ hdr : List Byte, ∃ h : Header, mainOn s = true ∧ header hdr = some h ∧ h.len = 0 ∧ h.resv = 0) ∧
    (∃ s : State, ∃ addr : Nat, mainOn s = true ∧ isLower addr = true) ∧
    (∃ s : State, ∃ h : Header, ∃ result : Nat, ∃ fidx : Nat, ∃ dup : Bool, result < 16 ∧ fidx < 512 ∧ h.tag < 16) :=
  ⟨⟨wRun, [0, 0, 0, 0, 0, 0, 14, 16], ⟨0, false, false, 0, 0, 0, 0⟩, by decide⟩,
    ⟨wRun, 16, by decide⟩,
    ⟨wRun, ⟨1, false, false, 15, 0, 0, 1⟩, 15, 511, true, by decide⟩⟩

theorem witness_WriteFrameExecutesWord :
    (∃ s : State, ∃ f : WriteFrame, ∃ h : Header, mainOn s = true ∧ header f.hdr = some h ∧ h.bad = false ∧ h.op = 1 ∧ 1 ≤ h.len ∧
      f.words.length = h.len ∧ f.complete = true ∧ dataCrc f.words = f.dcrc.toNat ∧ isDup h f.dcrc.toNat s = none ∧
      mainOn (writeWords h f.words 0 { s with host := { s.host with lastT := s.clk.now } }).2 = false) ∧
    (∃ s : State, ∃ f : WriteFrame, ∃ h : Header, mainOn s = true ∧ header f.hdr = some h ∧ h.bad = false ∧ h.op = 1 ∧ 1 ≤ h.len ∧
      f.words.length = h.len ∧ f.complete = true ∧ dataCrc f.words = f.dcrc.toNat ∧ isDup h f.dcrc.toNat s = none ∧
      mainOn (writeWords h f.words 0 { s with host := { s.host with lastT := s.clk.now } }).2 = true) ∧
    (∃ s : State, ∃ h : Header, ∃ w : Word, ∃ ws : List Word, ∃ k : Nat, mainOn s = true ∧ (writeWord (h.at_ k) w.toNat s).1 = 0) ∧
    (∃ s : State, ∃ h : Header, ∃ w : Word, ∃ ws : List Word, ∃ k : Nat, mainOn s = true ∧ (writeWord (h.at_ k) w.toNat s).1 ≠ 0) ∧
    (∃ s : State, ∃ addr : Nat, ∃ w : Nat, regAt addr = none) ∧
    (∃ s : State, ∃ addr : Nat, ∃ w : Nat, ∃ r : RegRow, ∃ i : Nat, regAt addr = some (r, i) ∧ accepted r i addr w s = false) ∧
    (∃ s : State, ∃ addr : Nat, ∃ w : Nat, ∃ r : RegRow, ∃ i : Nat, regAt addr = some (r, i) ∧ accepted r i addr w s = true ∧
      privileged s = false ∧ allLive r i = true) ∧
    (∃ s : State, ∃ addr : Nat, ∃ w : Nat, ∃ r : RegRow, ∃ i : Nat, regAt addr = some (r, i) ∧ r.rid = R.PWR_CTL.rid ∧
      accepted r i addr w s = true ∧ privileged s = true) ∧
    (∃ s : State, ∃ d : Dom, mainOn s = true ∧ domStopped s d = true) ∧
    (∃ s : State, ∃ d : Dom, mainOn s = true ∧ domStopped s d = false ∧ (∀ p ∈ s.host.posted, p.1 ≠ d)) ∧
    (∃ s : State, ∃ g : Grp, ∃ t0 : Nat, ∃ xs : List StreamRun, running s = true) ∧
    (∃ s : State, ∃ d : Dom, ∃ addr : Nat, ∃ w : Nat, ∃ r : RegRow, ∃ i : Nat, ∃ rest : List (Dom × Nat × Nat), mainOn s = true ∧
      domStopped s d = false ∧ s.host.posted = (d, addr, w) :: rest ∧ (∀ p ∈ rest, p.1 ≠ d) ∧ regAt addr = some (r, i)) :=
  ⟨⟨wStby.put F.SBX_PRIV_PRIV 0 1, ⟨[65, 25, 0, 8, 0, 1, 52, 6], [0x80000000], 23032, true⟩, ⟨1, false, false, 1, 1638408, 0, 1⟩,
    by decide +kernel⟩,
    ⟨wRun, ⟨[65, 19, 16, 0, 0, 1, 192, 174], [0], 33984, true⟩, ⟨1, false, false, 1, 1249280, 0, 1⟩, by decide +kernel⟩,
    ⟨wRun, ⟨1, false, false, 1, 1249280, 0, 1⟩, 0, [], 0, by decide +kernel⟩,
    ⟨wRun, ⟨1, false, false, 1, 16777212, 0, 1⟩, 0, [], 0, by decide +kernel⟩,
    ⟨wRun, 16777212, 0, by decide +kernel⟩,
    ⟨wRun, 200708, 1, R.FLT_THR, 0, by decide +kernel⟩,
    ⟨wRun, 200708, 0, R.FLT_THR, 0, by decide +kernel⟩,
    ⟨wRun.put F.SBX_PRIV_PRIV 0 1, 1638408, 0, R.PWR_CTL, 0, by decide +kernel⟩,
    ⟨wStby, .hclk, by decide +kernel⟩,
    ⟨wRun, .sclk, by decide⟩,
    ⟨wRun, 0, 0, [], by decide⟩,
    ⟨onHost wRun fun x => { x with posted := [(.sclk, 1249280, 5)] }, .sclk, 1249280, 5, R.SBX_MWIN, 0, [], by decide⟩⟩

theorem witness_DuplicateFrameIsNotExecuted :
    (∃ s : State, ∃ f : WriteFrame, mainOn s = true ∧ header f.hdr = none) ∧
    (∃ s : State, ∃ f : WriteFrame, ∃ h, mainOn s = true ∧ header f.hdr = some h ∧ h.bad = true) ∧
    (∃ s : State, ∃ f : WriteFrame, ∃ h, mainOn s = true ∧ header f.hdr = some h ∧ h.bad = false ∧ h.op = 1 ∧ 1 ≤ h.len ∧
      f.complete = true ∧ f.words.length = h.len ∧ dataCrc f.words ≠ f.dcrc.toNat) ∧
    (∃ s : State, ∃ f : WriteFrame, ∃ h, ∃ d, mainOn s = true ∧ header f.hdr = some h ∧ h.bad = false ∧ h.op = 1 ∧ 1 ≤ h.len ∧
      f.complete = true ∧ f.words.length = h.len ∧ dataCrc f.words = f.dcrc.toNat ∧ h.tag ≠ 0 ∧ s.host.dup = some d ∧
      d = dupOf h f.dcrc.toNat d.status ∧ d.status < 2 ^ 32) :=
  ⟨⟨wRun, ⟨[], [], 0, true⟩, by decide⟩,
    ⟨wRun, ⟨[1, 0, 0, 0, 2, 1, 61, 243], [], 0, true⟩, ⟨0, false, false, 1, 0, 1, 1⟩, by decide⟩,
    ⟨wRun, ⟨[65, 19, 16, 0, 0, 1, 192, 174], [0], 0, true⟩, ⟨1, false, false, 1, 1249280, 0, 1⟩, by decide⟩,
    ⟨onHost wRun fun x => { x with dup := some ⟨1, 1249280, false, 1, 33984, 0⟩ }, ⟨[65, 19, 16, 0, 0, 1, 192, 174], [0], 33984,
      true⟩, ⟨1, false, false, 1, 1249280, 0, 1⟩, ⟨1, 1249280, false, 1, 33984, 0⟩, by decide⟩⟩

theorem witness_PlainWriteFollowsAccessCode :
    (∃ s : State, ∃ r : RegRow, ∃ i : Nat, ∃ w : Nat, ∃ f, f ∈ fieldsAt r i ∧ r ∈ regTable ∧ i < r.count ∧ f.acc = .ro) ∧
    (∃ s : State, ∃ r : RegRow, ∃ i : Nat, ∃ w : Nat, ∃ f, f ∈ fieldsAt r i ∧ r ∈ regTable ∧ i < r.count ∧ f.acc = .rw) ∧
    (∃ s : State, ∃ r : RegRow, ∃ i : Nat, ∃ w : Nat, ∃ f, f ∈ fieldsAt r i ∧ r ∈ regTable ∧ i < r.count ∧ f.acc = .wo) ∧
    (∃ s : State, ∃ r : RegRow, ∃ i : Nat, ∃ w : Nat, ∃ f, ∃ b, f ∈ fieldsAt r i ∧ b < f.len ∧ r ∈ regTable ∧ i < r.count ∧
      f.acc = .w1c) ∧
    (∃ s : State, ∃ r : RegRow, ∃ i : Nat, ∃ w : Nat, ∃ f, f ∈ fieldsAt r i ∧ r ∈ regTable ∧ i < r.count ∧ f.acc = .live ∧
      f.cfg = true) ∧
    (∃ s : State, ∃ r : RegRow, ∃ i : Nat, ∃ w : Nat, ∃ f, f ∈ fieldsAt r i ∧ r ∈ regTable ∧ i < r.count ∧ f.acc = .live ∧
      f.cfg = false ∧ (∀ e ∈ computed, e.1.id ≠ f.id)) ∧
    (∃ s : State, ∃ r : RegRow, ∃ i : Nat, ∃ w : Nat, ∃ g : Fld, ∃ j : Nat, r ∈ regTable ∧ i < r.count ∧
      (∀ f ∈ fieldsAt r i, fkey f i ≠ fkey g j)) :=
  ⟨⟨wRun, R.PWR_ST, 0, 0, F.PWR_ST_MSTATE, by decide +kernel⟩,
    ⟨wRun, R.SBX_MWIN, 63, 0, F.SBX_MWIN_DATA, by decide +kernel⟩,
    ⟨wRun, R.SBX_KWIN, 3, 0, F.SBX_KWIN_DATA, by decide +kernel⟩,
    ⟨wRun, R.INP_ST, 143, 0, F.INP_ST_OVRL, 0, by decide +kernel⟩,
    ⟨wRun, R.FLT_THR, 0, 0, F.FLT_THR_FTHR, by decide +kernel⟩,
    ⟨wRun, R.PWR_CTL, 0, 0, F.PWR_CTL_RST, by decide +kernel⟩,
    ⟨wRun, R.SBX_MWIN, 0, 0, F.SBX_KWIN_DATA, 0, by decide +kernel⟩⟩

theorem witness_ReservedBitsReadZero :
    (∃ s : State, ∃ r : RegRow, ∃ i : Nat, ∃ f, f ∈ fieldsAt r i ∧ r ∈ regTable ∧ i < r.count) ∧
    (∃ s : State, ∃ r : RegRow, ∃ i : Nat, ∃ b, b < 32 ∧ r ∈ regTable ∧ i < r.count ∧ (∀ f ∈ fieldsAt r i, ¬ (f.lo ≤ b ∧
      b < f.lo + f.len))) :=
  ⟨⟨wRun, R.INP_ST, 143, F.INP_ST_OVRL, by decide +kernel⟩,
    ⟨wRun, R.CAL_SEL, 4, 16, by decide +kernel⟩⟩

theorem witness_RaiseSetsPendingAndRecords :
    (∃ s : State, ∃ e : Nat, ∃ detail : Nat, ∃ e', e' < 128 ∧ s.pwr.mstate ≠ .backup ∧ e < 128) ∧
    (∃ s : State, ∃ e : Nat, ∃ detail : Nat, s.pwr.mstate ≠ .backup ∧ e < 128 ∧ s.bit F.EVT_CFG_LDG e = false) ∧
    (∃ s : State, ∃ e : Nat, ∃ detail : Nat, s.pwr.mstate ≠ .backup ∧ e < 128 ∧ s.bit F.EVT_CFG_LDG e = true ∧
      s.fld F.EVT_CFG_RLIM e ≠ 0 ∧ s.fld F.EVT_CFG_RWIN e = 0 ∧ s.ctl = .running ∧ s.ldg.queue.length < 256) ∧
    (∃ s : State, ∃ e : Nat, ∃ detail : Nat, s.pwr.mstate ≠ .backup ∧ e < 128 ∧ s.bit F.EVT_CFG_LDG e = true ∧
      s.fld F.EVT_CFG_RLIM e ≠ 0 ∧ s.fld F.EVT_CFG_RWIN e = 0 ∧ s.ctl ≠ .running ∧ s.ldg.hwq.length < 64) :=
  ⟨⟨wRun, 0, 0, 0, by decide⟩,
    ⟨wRun, 0, 0, by decide⟩,
    ⟨((onCtl (wRun) .running).put F.EVT_CFG_LDG 0 1).put F.EVT_CFG_RLIM 0 1, 0, 0, by decide⟩,
    ⟨((onCtl (wRun) .restarting).put F.EVT_CFG_LDG 0 1).put F.EVT_CFG_RLIM 0 1, 0, 0, by decide⟩⟩

theorem witness_StartUpSequence :
    (∃ s : State, s.pwr.mstate = .backup) ∧
    (∃ s : State, ∃ src : RstSrc, s.pwr.reset = some src ∧ s.pwr.mstate ≠ .backup) ∧
    (∃ s : State, ∃ wsel : BitVec 4, mainOn s = true ∧ s.pwr.sampled = false) ∧
    (∃ s : State, mainOn s = true ∧ s.pwr.pllLocked = false ∧ dstate s ≠ 2) :=
  ⟨⟨State.reset, by decide⟩,
    ⟨onPwr wRun fun x => { x with reset := some .power }, .power, by decide⟩,
    ⟨wRun, 0, by decide⟩,
    ⟨wRun, by decide⟩⟩

theorem witness_MainResetKeepsRetainedState :
    (∃ s : State, s.pwr.mstate ≠ .backup) ∧
    (∃ s : State, mainOn s = true ∧ privileged s = true ∧ s.pwr.mstate = .standby) :=
  ⟨⟨wStby, by decide⟩,
    ⟨wStby.put F.SBX_PRIV_PRIV 0 1, by decide⟩⟩

theorem witness_PowerRequestRefused :
    (∃ s : State, ∃ c : Instr, mainOn s = true ∧ privileged s = true ∧ c = .pwrRun ∧ s.pwr.mstate = .run) ∧
    (∃ s : State, ∃ c : Instr, mainOn s = true ∧ privileged s = true ∧ c = .pwrStby ∧ s.pwr.mstate = .standby) :=
  ⟨⟨wRun.put F.SBX_PRIV_PRIV 0 1, .pwrRun, by decide⟩,
    ⟨wStby.put F.SBX_PRIV_PRIV 0 1, .pwrStby, by decide⟩⟩

theorem witness_RunAndStandbyRequestsAreCarriedOut :
    (∃ s : State, mainOn s = true ∧ privileged s = true ∧ s.pwr.mstate = .standby ∧ runBarred s = false ∧ s.pwr.req = none ∧
      s.fld F.ITN_ST_LOAD = 2) ∧
    (∃ s : State, mainOn s = true ∧ privileged s = true ∧ s.pwr.mstate = .standby ∧ runBarred s = false ∧ s.pwr.req = none ∧
      s.fld F.ITN_ST_LOAD ≠ 2) ∧
    (∃ s : State, mainOn s = true ∧ s.pwr.mstate = .standby ∧ s.fld F.ITN_ST_LOAD = 2 ∧ runBarred s = false ∧
      s.pwr.req = some .run) ∧
    (∃ s : State, mainOn s = true ∧ s.pwr.mstate = .standby ∧ s.fld F.ITN_ST_LOAD = 2 ∧ runBarred s = false ∧
      s.bit F.PWR_CFG_AUTORUN = true ∧ s.pwr.ran = false) ∧
    (∃ s : State, mainOn s = true ∧ privileged s = true ∧ s.pwr.mstate = .run ∧ s.pwr.req = none ∧
      ((List.range 11).any fun r => rst s r == 5) = false ∧ s.sbx.msg = none ∧ paired s = false ∧ s.pwr.finalCk = false) ∧
    (∃ s : State, mainOn s = true ∧ privileged s = true ∧ s.pwr.mstate = .run ∧ s.pwr.req = some .stby) :=
  ⟨⟨(wStby.put F.SBX_PRIV_PRIV 0 1).put F.ITN_ST_LOAD 0 2, by decide⟩,
    ⟨wStby.put F.SBX_PRIV_PRIV 0 1, by decide⟩,
    ⟨(onPwr wStby fun x => { x with req := some .run }).put F.ITN_ST_LOAD 0 2, by decide⟩,
    ⟨(wStby.put F.ITN_ST_LOAD 0 2).put F.PWR_CFG_AUTORUN 0 1, by decide⟩,
    ⟨wRun.put F.SBX_PRIV_PRIV 0 1, by decide⟩,
    ⟨(onPwr wRun fun x => { x with req := some .stby }).put F.SBX_PRIV_PRIV 0 1, by decide⟩⟩

theorem witness_PowerFailAndRecovery :
    (∃ s : State, ∃ t0 : Nat, ∃ rs : List (Meter × List ChanRun), mainOn s = true ∧ s.bit F.PWR_ST_PFAIL = false) ∧
    (∃ s : State, ∃ t0 : Nat, running s = true ∧ s.pwr.finalCk = true ∧ s.pwr.recover = false ∧ s.pwr.req = none) ∧
    (∃ s : State, ∃ t0 : Nat, running s = true ∧ s.pwr.finalCk = true ∧ s.pwr.recover = false ∧ s.pwr.req = some .stby) ∧
    (∃ s : State, mainOn s = true ∧ s.bit F.PWR_ST_PFAIL = true ∧ stillSaving s = true) ∧
    (∃ s : State, mainOn s = true ∧ s.bit F.PWR_ST_PFAIL = true ∧ stillSaving s = false) :=
  ⟨⟨wRun, 0, [], by decide⟩,
    ⟨onPwr wRun fun x => { x with finalCk := true }, 0, by decide⟩,
    ⟨onPwr wRun fun x => { x with finalCk := true, req := some .stby }, 0, by decide⟩,
    ⟨(onPwr wRun fun x => { x with finalCk := true }).put F.PWR_ST_PFAIL 0 1, by decide⟩,
    ⟨wRun.put F.PWR_ST_PFAIL 0 1, by decide⟩⟩

theorem witness_ControllerRestartsAndRuns :
    (∃ s : State, ctlOn s = true ∧ (∀ x, s.flts.restartT = some x → x + 60000000000 < s.clk.site)) ∧
    (∃ s : State, ∃ x : Nat, ctlOn s = true ∧ s.flts.restartT = some x ∧ s.clk.site ≤ x + 60000000000) ∧
    (∃ s : State, mainOn s = true ∧ s.ctl = .restarting) ∧
    (∃ s : State, ∃ corrupt : List (Fin 16), mainOn s = true ∧ s.ctl = .held ∧ s.fld F.ITN_ST_LOAD = 2) ∧
    (∃ s : State, ∃ bad : List (Fin 2048 × List Word), ∃ once : List (Fin 2048), mainOn s = true ∧ s.bit F.LDG_ST_READY = false) :=
  ⟨⟨wRun, by decide⟩,
    ⟨onFlts wRun fun x => { x with restartT := some 0 }, 0, by decide⟩,
    ⟨onCtl (wRun) .restarting, by decide⟩,
    ⟨(onCtl (wRun) .held).put F.ITN_ST_LOAD 0 2, [], by decide⟩,
    ⟨wRun, [], [], by decide⟩⟩

theorem witness_ItineraryLoads :
    (∃ s : State, ∃ noise : List (Fin 22), mainOn s = true ∧ s.pwr.mstate = .standby ∧ s.fld F.ITN_ST_LOAD = 0 ∧
      s.itn.flash.sfdp = none) ∧
    (∃ s : State, ∃ board : FlashImage, ∃ noise : List (Fin 22), mainOn s = true ∧ s.pwr.mstate = .standby ∧
      s.fld F.ITN_ST_LOAD = 0 ∧ (∃ x, board.sfdp = some x ∧ sfdpOk x = true) ∧ dirOk board.dir1 = true) ∧
    (∃ s : State, ∃ fs : List LoadFail, mainOn s = true ∧ s.pwr.mstate = .standby ∧ s.fld F.ITN_ST_LOAD = 1) :=
  ⟨⟨wStby, [], by decide⟩,
    ⟨wStby, ⟨some ⟨24, true, true, some (0xEB, 6), none, true⟩, ⟨0x4C584954, 1, 11,
      (List.range 11).map fun i => ⟨16384 + 16384 * i, 24576 + 16384 * i, 0⟩, true⟩, ⟨0, 0, 0, [], false⟩, []⟩, [], by decide,
      by decide, by decide, ⟨_, rfl, by decide⟩, by decide +kernel⟩,
    ⟨wStby.put F.ITN_ST_LOAD 0 1, [], by decide⟩⟩

theorem witness_PendingBitsAreCleared : ∃ s : State, ∃ k : Fin 4, ∃ mask : Word, mainOn s = true ∧
  (∀ j, s.fld F.EVT_PEND_PEND j < 2 ^ 32) :=
  ⟨wRun, 0, 0, by decide, fun j => Sys2Proof.fld_lt wRun F.EVT_PEND_PEND j⟩

theorem witness_LedgerWritesLooksUpAndAcknowledges :
    (∃ s : State, ∃ r : LdgRec, ∃ rest : List LdgRec, ∃ p : Nat, ∃ ovw : Bool, ctlOn s = true ∧ s.pwr.finalCk = false ∧
      s.sbx.msg = none ∧ s.cal.commit = none ∧ s.pwr.recover = false ∧ s.ldg.flush = false ∧ 250000000 ≤ s.ldg.bucket ∧
      s.ldg.bucket ≤ 64 * 250000000 ∧ s.ldg.queue = r :: rest ∧ choosePos s r.sev = some (p, ovw)) ∧
    (∃ s : State, ∃ n : Word, mainOn s = true ∧ s.bit F.LDG_ST_READY = true ∧ s.flts.inj ≠ some (4, 0)) ∧
    (∃ s : State, ∃ n : Word, mainOn s = true ∧ privileged s = true) ∧
    (∃ s : State, ∃ e : Fin 128, ∃ w : RateWin, mainOn s = true ∧ mget RateWin.closed s.ldg.windows e.val = w ∧ w.opened = true) :=
  ⟨⟨onLdg wRun fun x => { x with queue := wRec :: [] }, wRec, [], _, false, by decide, by decide, by decide, by decide, by decide,
    by decide, by decide, by decide, rfl, by unfold choosePos; exact if_pos (by decide +kernel)⟩,
    ⟨wRun.put F.LDG_ST_READY 0 1, 0, by decide⟩,
    ⟨wRun.put F.SBX_PRIV_PRIV 0 1, 0, by decide⟩,
    ⟨onLdg wRun fun x => { x with windows := [(127, ⟨true, 1, 0, 0, 0, 0⟩)] }, 127, ⟨true, 1, 0, 0, 0, 0⟩, by decide⟩⟩

theorem witness_PackagesAreDelivered :
    (∃ s : State, ∃ n : Fin 2048, ∃ total : Nat, ∃ b : List Nat, ctlOn s = true ∧ s.bit F.ITN_PKCTL_BUSY = false ∧
      s.itn.buf = some (total, b) ∧ n.val ≤ 1024) ∧
    (∃ s : State, ∃ total : Nat, ∃ c : Nat, ∃ b : List Nat, ctlOn s = true ∧ s.bit F.ITN_PKCTL_BUSY = false ∧
      s.itn.buf = some (total, b) ∧ pkCheck s total b = c ∧ c ≠ 0) ∧
    (∃ s : State, ∃ c : Instr, ∃ op : Nat, mainOn s = true ∧ ctlOn s = false ∧ s.bit F.ITN_PKCTL_BUSY = false ∧
      c = .packageBegin ∧ op = 1) ∧
    (∃ s : State, ∃ c : Instr, ∃ op : Nat, mainOn s = true ∧ ctlOn s = false ∧ s.bit F.ITN_PKCTL_BUSY = false ∧
      c = .packageSubmit ∧ op = 3) :=
  ⟨⟨onItn wRun fun x => { x with buf := some (0, []) }, 1024, 0, [], by decide⟩,
    ⟨onItn wRun fun x => { x with buf := some (0, []) }, 0, 1, [], by decide⟩,
    ⟨onCtl (wRun) .restarting, .packageBegin, 1, by decide⟩,
    ⟨onCtl (wRun) .restarting, .packageSubmit, 3, by decide⟩⟩

theorem witness_UpdatesAreStagedAndApplied :
    (∃ s : State, ∃ r : Fin 11, ∃ u : Update, ctlOn s = true ∧ rst s r = 1 ∧ (getRgn s r).pre = false ∧
      (getRgn s r).run = some u ∧ updCheck s r u = 0 ∧ s.bit F.ITN_RST_MIRRFAIL r = false) ∧
    (∃ s : State, ∃ r : Fin 11, ∃ u : Update, ctlOn s = true ∧ rst s r = 1 ∧ (getRgn s r).pre = false ∧
      (getRgn s r).run = some u ∧ updCheck s r u ≠ 0) ∧
    (∃ s : State, ∃ r : Fin 11, ∃ u : Update, jobOf s r = true ∧ rst s r = 2 ∧ (getRgn s r).run = some u ∧
      s.itn.flash.copies.length = 11) ∧
    (∃ s : State, ∃ r : Fin 11, ∃ u : Update, jobOf s r = true ∧ rst s r = 3 ∧ (getRgn s r).run = some u ∧ (getRgn s r).tries = 0) ∧
    (∃ s : State, ∃ r : Fin 11, ∃ u : Update, jobOf s r = true ∧ rst s r = 3 ∧ (getRgn s r).run = some u ∧ (getRgn s r).tries ≠ 0) ∧
    (∃ s : State, ∃ r : Fin 11, ctlOn s = true ∧ rst s r = 4 ∧ waitsTwin s r = true ∧ (getRgn s r).alone = false) ∧
    (∃ s : State, ∃ r : Fin 11, ∃ u : Update, ∃ ws : List (Nat × Nat), ∃ t0 : Nat, ctlOn s = true ∧ rst s r = 4 ∧
      t0 % 10000000 = 0 ∧ (getRgn s r).run = some u ∧ twinReady s r u = true ∧ r.val ≠ 10 ∧ bodyWrites r u.body = .inr ws ∧
      regionRule r (loadWrites r ws (s.put F.ITN_RST_STATE r 5).flds) = false) ∧
    (∃ s : State, ∃ r : Fin 11, ∃ u : Update, ∃ ws : List (Nat × Nat), ∃ t0 : Nat, ctlOn s = true ∧ rst s r = 4 ∧
      t0 % 10000000 = 0 ∧ (getRgn s r).run = some u ∧ twinReady s r u = true ∧ r.val ≠ 10 ∧ bodyWrites r u.body = .inr ws ∧
      regionRule r (loadWrites r ws (s.put F.ITN_RST_STATE r 5).flds) = true) ∧
    (∃ s : State, ∃ u : Update, ∃ t0 : Nat, ctlOn s = true ∧ rst s 10 = 4 ∧ t0 % 10000000 = 0 ∧ (getRgn s 10).run = some u ∧
      twinReady s 10 u = true) ∧
    (∃ s : State, mainOn s = true ∧ s.ctl = .restarting ∧ rst s 10 = 5) ∧
    (∃ s : State, ∃ r : Fin 11, jobOf s r = true ∧ rst s r = 6 ∧ (getRgn s r).pre = false ∧ (getRgn s r).tries = 0) :=
  ⟨⟨(onItn wRun fun x => { x with rgn := [(7, { ItnRgn.idle with run := some { wUpd with
    digest := [227, 176, 196, 66, 152, 252, 28, 20, 154, 251, 244, 200, 153, 111, 185, 36, 39, 174, 65, 228, 100, 155, 147, 76,
      164, 149, 153, 27, 120, 82, 184,
      85] } })] }).put F.ITN_RST_STATE 7 1, 7, { wUpd with
      digest := [227, 176, 196, 66, 152, 252, 28, 20, 154, 251, 244, 200, 153, 111, 185, 36, 39, 174, 65, 228, 100, 155, 147, 76,
      164, 149, 153, 27, 120, 82, 184, 85] }, by decide +kernel⟩,
    ⟨(onItn wRun fun x => { x with rgn := [(0, { ItnRgn.idle with pre := false, run := some wUpd })] }).put F.ITN_RST_STATE 0 1,
      0, wUpd, by decide⟩,
    ⟨(onItn wRun fun x => { x with jobs := [0], flash := { x.flash with copies := wErased }, rgn := [(0, { ItnRgn.idle with
      run := some wUpd })] }).put F.ITN_RST_STATE 0 2, 0, wUpd, by decide⟩,
    ⟨(onItn wRun fun x => { x with jobs := [0], rgn := [(0, { ItnRgn.idle with
      run := some wUpd, tries := 0 })] }).put F.ITN_RST_STATE 0 3, 0, wUpd, by decide⟩,
    ⟨(onItn wRun fun x => { x with jobs := [0], rgn := [(0, { ItnRgn.idle with
      run := some wUpd, tries := 1 })] }).put F.ITN_RST_STATE 0 3, 0, wUpd, by decide⟩,
    ⟨((onItn wRun fun x => { x with rgn := [(1, { ItnRgn.idle with
      run := some wUpd })] }).put F.ITN_RST_STATE 1 4).put F.TWN_ST_STATE 0 6, 1, by decide⟩,
    ⟨(onItn wRun fun x => { x with rgn := [(0, { ItnRgn.idle with run := some { wUpd with
      body := [0x010E0004,
      0] } })] }).put F.ITN_RST_STATE 0 4, 0, { wUpd with body := [0x010E0004, 0] }, [(0x0E0004, 0)], 0, by decide +kernel⟩,
    ⟨(onItn wRun fun x => { x with rgn := [(0, { ItnRgn.idle with run := some wUpd })] }).put F.ITN_RST_STATE 0 4, 0, wUpd, [], 0,
      by decide⟩,
    ⟨(onItn wRun fun x => { x with rgn := [(10, { ItnRgn.idle with run := some wUpd })] }).put F.ITN_RST_STATE 10 4, wUpd, 0,
      by decide⟩,
    ⟨(onCtl (wRun) .restarting).put F.ITN_RST_STATE 10 5, by decide⟩,
    ⟨(onItn wRun fun x => { x with jobs := [0], rgn := [(0, { ItnRgn.idle with
      pre := false, tries := 0 })] }).put F.ITN_RST_STATE 0 6, 0, by decide⟩⟩

theorem witness_FaultsAreShownAndRetired :
    (∃ s : State, ∃ cls : Nat, ∃ unit : Nat, ∃ detail : Nat, cls < 16 ∧ unit < 256 ∧ detail < 65536) ∧
    (∃ s : State, running s = true ∧ checkOff s 2 0 = false ∧ s.flts.inj ≠ some (2, 0)) ∧
    (∃ s : State, mainOn s = true ∧ s.bit F.FLTS_ST_PLLHOLD = true ∧ s.flts.pllLost = false) ∧
    (∃ s : State, ∃ bank : Fin 48, ∃ row : Fin 514, ∃ d : SramData, mainOn s = true ∧ checkOff s 3 bank = false ∧
      s.flts.inj ≠ some (3, bank.val) ∧ (s.flts.rowsMap.filter fun x => x / 514 = bank.val).length < 2 ∧ s.flts.wins = []) ∧
    (∃ s : State, ∃ x : VaultRec, mainOn s = true ∧ s.flts.blksFen.contains (vaultBlock x) = false ∧ vaultBlock x < 4096 ∧
      s.flts.blksMap.length < 64 ∧ s.flts.wins = []) ∧
    (∃ s : State, mainOn s = true ∧ s.pwr.pllLocked = true ∧ s.bit F.FLTS_ST_PLLHOLD = false) :=
  ⟨⟨wRun, 0, 0, 0, by decide⟩,
    ⟨wRun, by decide⟩,
    ⟨wRun.put F.FLTS_ST_PLLHOLD 0 1, by decide⟩,
    ⟨wRun, 0, 0, .results, by decide⟩,
    ⟨wRun, .other 0, by decide⟩,
    ⟨onPwr wRun fun x => { x with pllLocked := true }, by decide⟩⟩

theorem witness_WindowsScrubsAndInjection :
    (∃ s : State, ∃ f : FaultRec, mainOn s = true ∧ s.flts.wins = [f]) ∧
    (∃ s : State, ∃ bank : Fin 48, ∃ row : Fin 514, ∃ d : SramData, mainOn s = true ∧ s.flts.inj ≠ some (3, bank.val)) ∧
    (∃ s : State, ∃ chk : Fin 256, ∃ g : Fin 16, mainOn s = true ∧ s.flts.chkLost.contains (256 * g.val + chk.val) = false) ∧
    (∃ s : State, ∃ tgt : Fin 16, ∃ unit : Fin 256, mainOn s = true ∧ privileged s = true ∧ s.flts.inj = none ∧
      injectOk s tgt unit = true) ∧
    (∃ s : State, ∃ tgt : Fin 16, ∃ unit : Fin 256, mainOn s = true ∧ privileged s = true ∧ s.flts.inj ≠ none) ∧
    (∃ s : State, ∃ tgt : Fin 16, ∃ unit : Fin 256, mainOn s = true ∧ privileged s = true ∧ injectOk s tgt unit = false) :=
  ⟨⟨onFlts wRun fun x => { x with wins := [⟨3, 0, 0, none⟩] }, ⟨3, 0, 0, none⟩, by decide⟩,
    ⟨wRun, 0, 0, .results, by decide⟩,
    ⟨wRun, 0, 0, by decide⟩,
    ⟨wRun.put F.SBX_PRIV_PRIV 0 1, 0, 0, by decide⟩,
    ⟨(onFlts wRun fun x => { x with inj := some (0, 0) }).put F.SBX_PRIV_PRIV 0 1, 0, 0, by decide⟩,
    ⟨wRun.put F.SBX_PRIV_PRIV 0 1, 2, 1, by decide⟩⟩

theorem witness_DisplayIsDriven :
    (∃ s : State, dspOn s = true ∧ bistable s = false ∧ s.fld F.DSP_ST_VLCD < 4096) ∧
    (∃ s : State, privileged s = true ∧ ctlOn s = true ∧ dspOn s = true ∧ s.bit F.DSP_CFG_SRC = true ∧ bistable s = false) ∧
    (∃ s : State, privileged s = true ∧ ctlOn s = true ∧ dspOn s = true ∧ s.bit F.DSP_CFG_SRC = true ∧ bistable s = true) ∧
    (∃ s : State, ∃ p : Nat, ctlOn s = true ∧ dspOn s = true ∧ s.bit F.DSP_CFG_SRC = false ∧
      pageAfter s (s.fld F.DSP_ST_PAGE) = some p) ∧
    (∃ s : State, ∃ v : Nat, dspOn s = true ∧ bistable s = true ∧ s.dsp.queued = some v ∧ s.dsp.upd = none ∧ s.dsp.fresh = true ∧
      s.dsp.start = none) ∧
    (∃ s : State, ∃ u : DspUpd, s.dsp.upd = some u ∧ s.dsp.hold = false ∧ u.phase = .pre) ∧
    (∃ s : State, ∃ u : DspUpd, s.dsp.upd = some u ∧ s.dsp.hold = false ∧ u.phase = .drive) ∧
    (∃ s : State, ∃ u : DspUpd, s.dsp.upd = some u ∧ s.dsp.hold = false ∧ u.phase = .common) ∧
    (∃ s : State, ∃ u : DspUpd, s.dsp.upd = some u ∧ dspOn s = true ∧ bistable s = true) ∧
    (∃ s : State, ∃ u : DspUpd, s.dsp.upd = some u ∧ s.dsp.hold = true) ∧
    (∃ s : State, dspOn s = true ∧ bistable s = true ∧ s.dsp.upd = none ∧ s.dsp.fresh = false) :=
  ⟨⟨wRun.put F.DSP_CFG_EN 0 1, by decide⟩,
    ⟨((wRun.put F.SBX_PRIV_PRIV 0 1).put F.DSP_CFG_EN 0 1).put F.DSP_CFG_SRC 0 1, by decide⟩,
    ⟨(((wRun.put F.SBX_PRIV_PRIV 0 1).put F.DSP_CFG_EN 0 1).put F.DSP_CFG_SRC 0 1).put F.DSP_CFG_MODE 0 1, by decide⟩,
    ⟨(wRun.put F.DSP_CFG_EN 0 1).put F.DSP_PAGE_EN 15 1, 15, by decide⟩,
    ⟨((onDsp wRun fun x => { x with queued := some 0, fresh := true }).put F.DSP_CFG_EN 0 1).put F.DSP_CFG_MODE 0 1, 0, by decide⟩,
    ⟨onDsp wRun fun x => { x with upd := some ({ wDsp with phase := .pre }) }, { wDsp with phase := .pre }, by decide⟩,
    ⟨onDsp wRun fun x => { x with upd := some ({ wDsp with phase := .drive }) }, { wDsp with phase := .drive }, by decide⟩,
    ⟨onDsp wRun fun x => { x with upd := some ({ wDsp with phase := .common }) }, { wDsp with phase := .common }, by decide⟩,
    ⟨((onDsp wRun fun x => { x with upd := some wDsp }).put F.DSP_CFG_EN 0 1).put F.DSP_CFG_MODE 0 1, wDsp, by decide⟩,
    ⟨onDsp wRun fun x => { x with upd := some wDsp, hold := true }, wDsp, by decide⟩,
    ⟨(wRun.put F.DSP_CFG_EN 0 1).put F.DSP_CFG_MODE 0 1, by decide⟩⟩

theorem witness_MeterIntervalsHoldsAndSettings :
    (∃ s : State, ∃ m : Fin 48, ∃ iv : Interval, ∃ c : MtrCfg, running s = true ∧ s.pwr.metering = true ∧ s.pwr.finalCk = false ∧
      mtrCfg s m = some c ∧ mget none s.mtr.held m = none ∧ startsAt s m c iv.startT = false) ∧
    (∃ s : State, ∃ m : Fin 48, ∃ iv : Interval, ∃ c : MtrCfg, running s = true ∧ s.pwr.metering = true ∧ s.pwr.finalCk = false ∧
      mtrCfg s m = some c ∧ mget none s.mtr.held m = none ∧ startsAt s m c iv.startT = true ∧
      (cfgStreams c).any (adopting s) = true) ∧
    (∃ s : State, ∃ m : Fin 48, ∃ iv : Interval, ∃ c : MtrCfg, running s = true ∧ s.pwr.metering = true ∧ s.pwr.finalCk = false ∧
      mtrCfg s m = some c ∧ mget none s.mtr.held m = none ∧ startsAt s m c iv.startT = true ∧
      (cfgStreams c).any (adopting s) = false) ∧
    (∃ s : State, ∃ m : Fin 48, ∃ p : MtrPost, ∃ r : List MtrPost, running s = true ∧ mget [] s.mtr.due m = p :: r ∧
      takesTwins s p.cfg p.startT p.endT = true ∧ twinItem s m p.endT = none) ∧
    (∃ s : State, ∃ m : Fin 48, ∃ p : MtrPost, ∃ r : List MtrPost, ∃ inc : List (List Nat), running s = true ∧
      mget [] s.mtr.due m = p :: r ∧ takesTwins s p.cfg p.startT p.endT = false ∧ inc = p.inc) ∧
    (∃ s : State, ∃ m : Fin 48, ∃ p : MtrPost, ∃ r : List MtrPost, ∃ inc : List (List Nat), running s = true ∧
      mget [] s.mtr.due m = p :: r ∧ takesTwins s p.cfg p.startT p.endT = true ∧ (twinItem s m p.endT).map itemSets = some inc) ∧
    (∃ s : State, ∃ m : Fin 48, ∃ miss : List MissedSample, running s = true ∧ mget none s.mtr.held m = none ∧ mtrCfg s m = none) ∧
    (∃ s : State, ∃ m : Fin 48, ∃ miss : List MissedSample, running s = true ∧ mget none s.mtr.held m = none ∧
      (mtrCfg s m).isSome = true ∧ miss ≠ []) ∧
    (∃ s : State, ∃ m : Fin 64, mainOn s = true ∧ running s = true ∧ heldMeter s m = none) ∧
    (∃ s : State, s.mtr.hold.isSome = true) ∧
    (∃ s : State, ∃ a : Fin 3072, mainOn s = true ∧ running s = true ∧ s.fld F.ACC_QUAL_QNOW a < 4) ∧
    (∃ s : State, ∃ hold : Bool, ∃ m : Fin 64, ∃ a : Fin 3072, mainOn s = true ∧ running s = false) ∧
    (∃ s : State, ∃ m : Fin 48, running s = true ∧ meterAtBoundary s m = false) ∧
    (∃ s : State, ∃ m : Fin 48, running s = true ∧ meterTrimDue s m = true) ∧
    (∃ s : State, ∃ m : Fin 48, running s = true ∧ meterAtBoundary s m = true ∧ meterTrimDue s m = false ∧
      mget [] s.mtr.due m = [] ∧ s.bit F.MTR_CFG_EN m = true) ∧
    (∃ s : State, ∃ m : Fin 48, running s = true ∧ meterAtBoundary s m = true ∧ meterTrimDue s m = false ∧
      mget [] s.mtr.due m = [] ∧ s.bit F.MTR_CFG_EN m = false) ∧
    (∃ s : State, ∃ m : Fin 48, ∃ c : MtrCfg, running s = true ∧ mtrCfg s m = some c ∧ meterBoundary s c = false) ∧
    (∃ s : State, ∃ m : Fin 48, ∃ c : MtrCfg, running s = true ∧ mtrCfg s m = some c ∧ (cfgStreams c).any (trimDue s) = true) ∧
    (∃ s : State, ∃ m : Fin 48, ∃ c : MtrCfg, running s = true ∧ mtrCfg s m = some c ∧ meterBoundary s c = true ∧
      (cfgStreams c).any (trimDue s) = false) ∧
    (∃ s : State, ∃ t0 : Nat, ∃ q : Nat, running s = true ∧ s.pwr.metering = true ∧ s.pwr.finalCk = false ∧ s.cvn.cfg.en = false ∧
      unfenced s s.mtr.nextSeq = some q) :=
  ⟨⟨onMtr (onPwr wRun fun x => { x with metering := true, meterT := 1 }) fun x => { x with cfg := [(0, some wMtr)] }, 0, wIv,
    wMtr, by decide⟩,
    ⟨onTwn (onMtr (onPwr wRun fun x => { x with metering := true }) fun x => { x with
      cfg := [(0, some wMtr)], lastIv := [(0, 1)] }) fun x => { x with adopts := [(0, some ⟨false, 0⟩)] }, 0, wIv, wMtr, by decide⟩,
    ⟨onMtr (onPwr wRun fun x => { x with metering := true }) fun x => { x with cfg := [(0, some wMtr)] }, 0, wIv, wMtr, by decide⟩,
    ⟨((onTwn (onFlts (onMtr wRun fun x => { x with due := [(0, [wPost])] }) fun x => { x with failed := true }) fun x =>
      { x with peer := [] })).put F.TWN_ST_STATE 0 6, 0, wPost, [], by decide⟩,
    ⟨onMtr wRun fun x => { x with due := [(0, wPost :: [])] }, 0, wPost, [], [], by decide⟩,
    ⟨((onTwn (onFlts (onMtr wRun fun x => { x with due := [(0, [wPost])] }) fun x => { x with failed := true }) fun x =>
      { x with peer := [{ wCmp with mtrs := [⟨0, 0, 0, 1, []⟩] }] })).put F.TWN_ST_STATE 0 6, 0, wPost, [],
      List.replicate 4 (List.replicate 16 0), by decide⟩,
    ⟨wRun, 0, [], by decide⟩,
    ⟨onMtr wRun fun x => { x with cfg := [(0, some wMtr)] }, 0, [⟨0, 0⟩], by decide⟩,
    ⟨wRun, 0, by decide⟩,
    ⟨onMtr wRun fun x => { x with hold := some ⟨0, [], []⟩ }, by decide⟩,
    ⟨wRun, 0, by decide⟩,
    ⟨wStby, false, 0, 0, by decide⟩,
    ⟨onClk wRun fun x => { x with site := 1 }, 0, by decide⟩,
    ⟨onCal (onMtr wRun fun x => { x with cfg := [(0, some wMtr)] }) fun x => { x with pend := [(0, some (Trace.none_ 0 0))] }, 0,
      by decide⟩,
    ⟨wRun.put F.MTR_CFG_EN 0 1, 0, by decide⟩,
    ⟨wRun, 0, by decide⟩,
    ⟨onClk (onMtr wRun fun x => { x with cfg := [(0, some wMtr)] }) fun x => { x with site := 1 }, 0, wMtr, by decide⟩,
    ⟨onCal (onMtr wRun fun x => { x with cfg := [(0, some wMtr)] }) fun x => { x with pend := [(0, some (Trace.none_ 0 0))] }, 0,
      wMtr, by decide⟩,
    ⟨onMtr wRun fun x => { x with cfg := [(0, some wMtr)] }, 0, wMtr, by decide⟩,
    ⟨onPwr wRun fun x => { x with metering := true }, 0, 0, by decide⟩⟩

theorem witness_PulsesStartAndEnd :
    (∃ s : State, ∃ net : BitVec 16, running s = true) ∧
    (∃ role : Bool, ∃ low : Bool, ∃ o : PlsOut, o.share ≤ o.left ∧ (∀ p, o.fresh = some p → p.2 ≠ 0)) ∧
    (∃ role : Bool, ∃ low : Bool, ∃ o : PlsOut, o.share ≤ o.left ∧ (outTick role low o).busy = some 0) ∧
    (∃ s : State, ∃ c : Fin 16, ∃ k : Nat, (getOut s c).busy = some k ∧ (getOut s c).pw ≤ k) ∧
    (∃ s : State, ∃ c : Fin 16, ∃ k : Nat, (getOut s c).busy = some k ∧ k < (getOut s c).pw) ∧
    (∃ s : State, ∃ c : Fin 16, 96 ≤ (getOut s c).agree) ∧
    (∃ s : State, ∃ c : Fin 16, (getOut s c).agree < 96) :=
  ⟨⟨wRun, 0, by decide⟩,
    ⟨false, false, PlsOut.blank, by decide⟩,
    ⟨false, false, { PlsOut.blank with en := true, pconst := 1, res := 2 ^ 60, high := 60000 }, by decide⟩,
    ⟨onPls wRun fun x => { x with outs := [(0, { PlsOut.blank with busy := some 0 })] }, 0, 0, by decide⟩,
    ⟨onPls wRun fun x => { x with outs := [(0, { PlsOut.blank with busy := some 0, pw := 1 })] }, 0, 0, by decide⟩,
    ⟨onPls wRun fun x => { x with outs := [(15, { PlsOut.blank with agree := 96 })] }, 15, by decide⟩,
    ⟨wRun, 0, by decide⟩⟩

theorem witness_DisabledOutputIsReleased :
    (∃ s : State, ∃ c : Fin 16, running s = true ∧ plsIdle s c = true ∧ s.bit F.PLS_CFG_EN c = false) ∧
    (∃ s : State, ∃ c : Fin 16, running s = true ∧ plsIdle s c = true ∧ s.fld F.PLS_CONST_PCONST c = 0) ∧
    (∃ s : State, ∃ c : Fin 16, running s = true ∧ meterAtBoundary s (pulseMeter s c) = true ∧ s.bit F.PLS_CFG_EN c = false) ∧
    (∃ s : State, ∃ c : Fin 16, running s = true ∧ meterAtBoundary s (pulseMeter s c) = true ∧ s.fld F.PLS_CONST_PCONST c = 0) ∧
    (∃ role : Bool, ∃ low : Bool, ∃ o : PlsOut, o.live = false ∧ o.res = 0 ∧ o.ticks = 0 ∧ o.left = 0 ∧ o.fresh = none ∧
      o.busy = none ∧ o.driving = false) :=
  ⟨⟨wRun, 0, by decide⟩,
    ⟨wRun, 0, by decide⟩,
    ⟨wRun, 0, by decide⟩,
    ⟨wRun, 0, by decide⟩,
    ⟨false, false, { PlsOut.blank with res := 0, ticks := 0, left := 0, fresh := none, busy := none, driving := false }, by decide⟩⟩

theorem witness_ExchangeAndRoleChange :
    (∃ s : State, ∃ t0 : Nat, ∃ rs : List ChanRun, running s = true ∧ s.pwr.metering = true ∧ s.fld F.TWN_ST_STATE ≠ 6 ∧
      transferReady s = false ∧ sendsSamples s = false ∧ s.pwr.req = none) ∧
    (∃ s : State, s.fld F.TWN_ST_STATE = 6 ∧ s.twn.swapReq = true) ∧
    (∃ s : State, ∃ c : Fin 16, plsIdle s c = false ∧ meterAtBoundary s (pulseMeter s c) = false) ∧
    (∃ s : State, ∃ c : Fin 16, running s = true ∧ s.bit F.PLS_CFG_EN c = true ∧ s.fld F.PLS_CONST_PCONST c ≠ 0 ∧
      meterAtBoundary s (pulseMeter s c) = true) :=
  ⟨⟨onPwr wRun fun x => { x with metering := true }, 0, [], by decide⟩,
    ⟨(onTwn wRun fun x => { x with swapReq := true }).put F.TWN_ST_STATE 0 6, by decide⟩,
    ⟨onPls (onClk wRun fun x => { x with site := 1 }) fun x => { x with outs := [(0, { PlsOut.blank with
      en := true, pconst := 1 })] }, 0, by decide⟩,
    ⟨(wRun.put F.PLS_CFG_EN 0 1).put F.PLS_CONST_PCONST 0 1, 0, by decide⟩⟩

theorem witness_TrackerStampsAndLocks :
    (∃ s : State, ∃ g : Fin 4, ∃ t0 : Nat, ∃ rms : Rat, ∃ e : Rat, ∃ nco : Rat, ∃ meas : Option Rat, running s = true ∧
      trkState s g ≠ 0 ∧ boundaryDue s g t0 = false) ∧
    (∃ s : State, ∃ g : Fin 4, ∃ t0 : Nat, ∃ rms : Rat, ∃ e : Rat, ∃ nco : Rat, ∃ meas : Option Rat, running s = true ∧
      trkState s g ≠ 0 ∧ boundaryDue s g t0 = true) ∧
    (∃ s : State, ∃ g : Fin 4, ∃ t0 : Nat, ∃ rms : Rat, ∃ f : Rat, running s = true ∧ trkState s g = 2 ∧
      (getTrk s g).aligned = false ∧ outsideBand ((getTrk s g).acqFreq f) = true) ∧
    (∃ s : State, ∃ g : Fin 4, ∃ t0 : Nat, ∃ rms : Rat, ∃ f : Rat, running s = true ∧ trkState s g = 2 ∧
      (getTrk s g).aligned = false ∧ outsideBand ((getTrk s g).acqFreq f) = false ∧
      (getTrk s g).alignDue ((getTrk s g).acqFreq f) t0 = false) ∧
    (∃ s : State, ∃ g : Fin 4, ∃ t0 : Nat, ∃ rms : Rat, ∃ f : Rat, running s = true ∧ trkState s g = 2 ∧
      (getTrk s g).aligned = false ∧ outsideBand ((getTrk s g).acqFreq f) = false ∧
      (getTrk s g).alignDue ((getTrk s g).acqFreq f) t0 = true ∧ atLeast s g (s.fld F.GRD_LIM_ULOCK g) rms = true) ∧
    (∃ s : State, ∃ g : Fin 4, running s = true ∧ trkState s g = 4 ∧ (getTrk s g).holdN < s.fld F.GRD_LIM_HOLDT g) ∧
    (∃ s : State, ∃ g : Fin 4, running s = true ∧ trkState s g = 4 ∧ s.fld F.GRD_LIM_HOLDT g ≤ (getTrk s g).holdN) :=
  ⟨⟨wRun.put F.GRD_ST_STATE 0 3, 0, 0, 0, 0, 0, none, by decide +kernel⟩,
    ⟨wRun.put F.GRD_ST_STATE 0 3, 0, 10000000, 0, 0, 0, none, by decide +kernel⟩,
    ⟨(onGrd wRun fun x => { x with trk := [(0, { GrdTrk.blank with aligned := false })] }).put F.GRD_ST_STATE 0 2, 0, 0, 0, 39,
      by decide +kernel⟩,
    ⟨(onGrd wRun fun x => { x with trk := [(0, { GrdTrk.blank with aligned := false })] }).put F.GRD_ST_STATE 0 2, 0, 0, 0, 50,
      by decide +kernel⟩,
    ⟨(onGrd wRun fun x => { x with trk := [(0, { GrdTrk.blank with aligned := false })] }).put F.GRD_ST_STATE 0 2, 0, 20000000, 0,
      50, by decide +kernel⟩,
    ⟨(wRun.put F.GRD_ST_STATE 0 4).put F.GRD_LIM_HOLDT 0 1, 0, by decide⟩,
    ⟨wRun.put F.GRD_ST_STATE 0 4, 0, by decide⟩⟩

theorem witness_GridSettingsApply :
    (∃ s : State, ∃ g : Fin 4, ∃ t0 : Nat, running s = true ∧ s.bit F.GRD_CFG_EN g = true ∧ trkState s g = 0 ∧ t0 % 20000000 ≠ 0) ∧
    (∃ s : State, ∃ g : Fin 4, ∃ t0 : Nat, running s = true ∧ s.bit F.GRD_CFG_EN g = true ∧ trkState s g = 0 ∧ t0 % 20000000 = 0) ∧
    (∃ s : State, ∃ g : Fin 4, ∃ t0 : Nat, running s = true ∧ s.bit F.GRD_CFG_EN g = false ∧ atGroupBoundary s g t0 = false) ∧
    (∃ s : State, ∃ g : Fin 4, ∃ t0 : Nat, running s = true ∧ s.bit F.GRD_CFG_EN g = false ∧ atGroupBoundary s g t0 = true) ∧
    (∃ s : State, ∃ g : Fin 4, ∃ t0 : Nat, running s = true ∧ refChanged s g = false) ∧
    (∃ s : State, ∃ g : Fin 4, ∃ t0 : Nat, running s = true ∧ atGroupBoundary s g t0 = true ∧ refChanged s g = true) ∧
    (∃ s : State, ∃ t0 : Nat, running s = true ∧ t0 % 10000000000 ≠ 0) ∧
    (∃ s : State, ∃ t0 : Nat, running s = true ∧ t0 % 10000000000 = 0) :=
  ⟨⟨(wRun.put F.GRD_CFG_EN 0 1).put F.GRD_ST_STATE 0 0, 0, 1, by decide⟩,
    ⟨(wRun.put F.GRD_CFG_EN 0 1).put F.GRD_ST_STATE 0 0, 0, 0, by decide⟩,
    ⟨wRun, 0, 0, by decide⟩,
    ⟨wRun.put F.GRD_ST_STATE 0 3, 0, 0, by decide⟩,
    ⟨wRun, 0, 0, by decide⟩,
    ⟨(wRun.put F.GRD_ST_STATE 0 3).put F.GRD_CFG_FNOM 0 1, 0, 0, by decide⟩,
    ⟨wRun, 1, by decide⟩,
    ⟨wRun, 0, by decide⟩⟩

theorem witness_HarmonicResultsAndHolds :
    (∃ s : State, ∃ g : Fin 4, ∃ ps : List StreamRun, ∃ c : CycRec, ∃ cs : List CycRec, running s = true ∧
      (∀ p ∈ s.host.posted, p.1 ≠ .hclk) ∧ s.hrm.expired = false ∧ s.dst.expired = false ∧ (getTrk s g).cycs = c :: cs ∧
      s.bit F.HRM_ENG_HOFF = true) ∧
    (∃ s : State, ∃ g : Fin 4, ∃ ps : List StreamRun, ∃ c : CycRec, ∃ cs : List CycRec, running s = true ∧
      (∀ p ∈ s.host.posted, p.1 ≠ .hclk) ∧ s.hrm.expired = false ∧ s.dst.expired = false ∧ (getTrk s g).cycs = c :: cs ∧
      (getTrk s g).phasDue = false) ∧
    (∃ s : State, ∃ g : Fin 4, ∃ ps : List StreamRun, ∃ c : CycRec, ∃ cs : List CycRec, running s = true ∧
      (∀ p ∈ s.host.posted, p.1 ≠ .hclk) ∧ s.hrm.expired = false ∧ s.dst.expired = false ∧ (getTrk s g).cycs = c :: cs ∧
      trkState s g ≠ 0 ∧ s.bit F.HRM_ENG_HOFF = false ∧ (getTrk s g).phasDue = true) ∧
    (∃ s : State, ∃ g : Fin 4, ∃ w : WinDone, running s = true ∧ (getTrk s g).done = some w ∧ (getTrk s g).ended = true) ∧
    (∃ s : State, ∃ g : Fin 4, ∃ w : WinDone, running s = true ∧ (getTrk s g).done = some w ∧ (getTrk s g).ended = false) ∧
    (∃ s : State, ∃ g : Fin 4, ∃ w : WinDone, ∃ ws : List StreamRun, running s = true ∧ (∀ p ∈ s.host.posted, p.1 ≠ .hclk) ∧
      s.hrm.expired = false ∧ s.dst.expired = false ∧ (getTrk s g).done = some w ∧ s.bit F.HRM_ENG_HOFF = true) ∧
    (∃ s : State, ∃ g : Fin 4, ∃ w : WinDone, ∃ ws : List StreamRun, running s = true ∧ (∀ p ∈ s.host.posted, p.1 ≠ .hclk) ∧
      s.hrm.expired = false ∧ s.dst.expired = false ∧ (getTrk s g).done = some w ∧ phasorsWait s = true) ∧
    (∃ s : State, ∃ g : Fin 4, ∃ w : WinDone, ∃ ws : List StreamRun, running s = true ∧ (∀ p ∈ s.host.posted, p.1 ≠ .hclk) ∧
      s.hrm.expired = false ∧ s.dst.expired = false ∧ (getTrk s g).done = some w ∧ s.bit F.HRM_ENG_HOFF = false ∧
      phasorsWait s = false ∧ w.cyc < 4096 ∧ (w.mem.map (·.n)).Nodup) ∧
    (∃ s : State, ∃ g : Grp, (getTrk s g).lastT ≠ s.clk.site) ∧
    (∃ s : State, ∃ n, n < 144 ∧ chanOn s n = true) ∧
    (∃ s : State, ∃ lane : Fin 17, running s = true ∧ (s.fld F.HRM_ENG_LANERET).testBit lane = false ∧ checkOff s 1 lane = false ∧
      s.flts.inj ≠ some (1, lane.val)) ∧
    (∃ s : State, ∃ hold : Bool, ∃ n : Fin 256, mainOn s = true ∧ clkOn s .hclk = true ∧ hrmHeld s n = none) ∧
    (∃ s : State, s.hrm.hold.isSome = true ∧ clkOn s .hclk = true) ∧
    (∃ s : State, ∃ hold : Bool, ∃ n : Fin 256, mainOn s = true ∧ clkOn s .hclk = false ∧ s.hrm.hold.isSome = true) ∧
    (∃ s : State, ∃ hold : Bool, ∃ n : Fin 256, mainOn s = true ∧ clkOn s .hclk = false ∧ s.dst.hold.isSome = true) ∧
    (∃ s : State, ∃ hold : Bool, ∃ n : Fin 256, mainOn s = true ∧ clkOn s .hclk = true ∧ (∀ h, s.dst.hold = some h → h.n ≠ n.val)) ∧
    (∃ s : State, s.dst.hold.isSome = true ∧ clkOn s .hclk = true) :=
  ⟨⟨(onGrd wRun fun x => { x with trk := [(0, { GrdTrk.blank with cycs := ⟨0, 0, 50, true⟩ :: [] })] }).put F.HRM_ENG_HOFF 0 1, 0,
    [], ⟨0, 0, 50, true⟩, [], by decide⟩,
    ⟨onGrd wRun fun x => { x with trk := [(0, { GrdTrk.blank with cycs := ⟨0, 0, 50, true⟩ :: [], phasDue := false })] }, 0, [],
      ⟨0, 0, 50, true⟩, [], by decide⟩,
    ⟨(onGrd wRun fun x => { x with trk := [(0, { GrdTrk.blank with
      cycs := ⟨0, 0, 50, true⟩ :: [], phasDue := true })] }).put F.GRD_ST_STATE 0 3, 0, [], ⟨0, 0, 50, true⟩, [], by decide⟩,
    ⟨onGrd wRun fun x => { x with trk := [(0, { GrdTrk.blank with done := some ⟨[], false, false, []⟩, ended := true })] }, 0,
      ⟨[], false, false, []⟩, by decide⟩,
    ⟨onGrd wRun fun x => { x with trk := [(0, { GrdTrk.blank with done := some ⟨[], false, false, []⟩, ended := false })] }, 0,
      ⟨[], false, false, []⟩, by decide⟩,
    ⟨(onGrd wRun fun x => { x with trk := [(0, { GrdTrk.blank with
      done := some ⟨[], false, false, []⟩ })] }).put F.HRM_ENG_HOFF 0 1, 0, ⟨[], false, false, []⟩, [], by decide⟩,
    ⟨onGrd wRun fun x => { x with trk := [(0, { GrdTrk.blank with done := some ⟨[], false, false, []⟩, phasDue := true })] }, 0,
      ⟨[], false, false, []⟩, [], by decide⟩,
    ⟨onGrd wRun fun x => { x with trk := [(0, { GrdTrk.blank with done := some ⟨[], false, false, []⟩ })] }, 0, ⟨[], false, false,
      []⟩, [], by decide⟩,
    ⟨onClk wRun fun x => { x with site := 1 }, 0, by decide⟩,
    ⟨onInp wRun fun x => { x with en := [(0, true)] }, 0, by decide⟩,
    ⟨(onGrd wRun fun x => { x with mem := [(0, 1)] }).put F.GRD_ST_STATE 0 3, 0, by decide⟩,
    ⟨wRun.put F.GRD_ST_STATE 0 3, false, 0, by decide⟩,
    ⟨(onHrm wRun fun x => { x with hold := some ⟨0, [], 0, [], [], []⟩ }).put F.GRD_ST_STATE 0 3, by decide⟩,
    ⟨onHrm wRun fun x => { x with hold := some ⟨0, [], 0, [], [], []⟩ }, false, 0, by decide⟩,
    ⟨onDst wRun fun x => { x with hold := some ⟨0, HbPost.blank, 0, 0, 0, 0, 0⟩ }, false, 0, by decide⟩,
    ⟨wRun.put F.GRD_ST_STATE 0 3, false, 0, by decide, by decide, by intro h hh; exact nomatch hh⟩,
    ⟨(onDst wRun fun x => { x with hold := some ⟨0, HbPost.blank, 0, 0, 0, 0, 0⟩ }).put F.GRD_ST_STATE 0 3, by decide⟩⟩

theorem witness_DisturbancesAndHighBand :
    (∃ s : State, ∃ g : Fin 4, ∃ t0 : Nat, ∃ us : List StreamRun, running s = true ∧ (getDst s g).marks.head? = some t0) ∧
    (∃ s : State, ∃ g : Fin 4, ∃ t0 : Nat, ∃ us : List StreamRun, running s = true ∧ trkState s g ≠ 0 ∧
      (getDst s g).marks.head? ≠ some t0 ∧ 2 ≤ (getDst s g).marks.length ∧ (getDst s g).busy = false ∧
      (thrRegs s.flds g).en = true ∧ (thrRegs s.flds g).dipth ≠ 0 ∧
      (∃ v ∈ markVals s g ((getDst s g).marks.getD 1 t0) t0 us, v.2 < 10 * (thrRegs s.flds g).dipth)) ∧
    (∃ s : State, ∃ g : Fin 4, ∃ t0 : Nat, ∃ us : List StreamRun, running s = true ∧ trkState s g ≠ 0 ∧
      (getDst s g).marks.head? ≠ some t0 ∧ 2 ≤ (getDst s g).marks.length ∧ (getDst s g).dip.isSome = true ∧
      (getDst s g).thr.en = true ∧ markVals s g ((getDst s g).marks.getD 1 t0) t0 us ≠ [] ∧
      (∀ v ∈ markVals s g ((getDst s g).marks.getD 1 t0) t0 us,
      ((10 * ((getDst s g).thr.dipth + (getDst s g).thr.hyst) : Nat) : Rat) ≤ v.2)) ∧
    (∃ s : State, ∃ g : Fin 4, ∃ r : DstRec, ∃ rest : List DstRec, running s = true ∧ (getDst s g).queue = r :: rest) ∧
    (∃ s : State, ∃ b : StreamRun, running s = true ∧ (∀ p ∈ s.host.posted, p.1 ≠ .hclk) ∧ s.hrm.expired = false ∧
      s.dst.expired = false ∧ hbOff s = false ∧ windowsWait s = false ∧ chanOn s b.n.val = true) ∧
    (∃ s : State, ∃ b : StreamRun, running s = true ∧ (∀ p ∈ s.host.posted, p.1 ≠ .hclk) ∧ s.hrm.expired = false ∧
      s.dst.expired = false ∧ hbOff s = false ∧ windowsWait s = false ∧ chanOn s b.n.val = false) ∧
    (∃ s : State, ∃ t0 : Nat, ∃ ls : List StreamRun, running s = true ∧ (∀ p ∈ s.host.posted, p.1 ≠ .hclk) ∧
      s.hrm.expired = false ∧ s.dst.expired = false ∧ hbOff s = false ∧ windowsWait s = false ∧ t0 % 200000000 ≠ 0) ∧
    (∃ s : State, ∃ t0 : Nat, ∃ ls : List StreamRun, running s = true ∧ (∀ p ∈ s.host.posted, p.1 ≠ .hclk) ∧
      s.hrm.expired = false ∧ s.dst.expired = false ∧ hbOff s = false ∧ windowsWait s = false ∧ t0 % 200000000 = 0) :=
  ⟨⟨onDst wRun fun x => { x with grp := [(0, { DstGrp.blank with marks := [0] })] }, 0, 0, [], by decide⟩,
    ⟨(((((onDst (onGrd wRun fun x => { x with mem := [(0, 1)] }) fun x => { x with grp := [(0, { DstGrp.blank with
      marks := [1,
      0] })] }).put F.GRD_ST_STATE 0 3).put F.DST_GCFG_EN 0 1).put F.DST_GTHR_DIPTH 0 900).put F.GRD_UNOM_UNOM 0 0x3F800000),
      0, 125000, [⟨0, 0, List.replicate 10 0⟩], by decide +kernel⟩,
    ⟨((onGrd (onDst wRun fun x => { x with grp := [(0, { DstGrp.blank with
      dip := some ⟨0, 0, 0, false, false, false, false⟩, marks := [1, 0],
      thr := { DstThr.zero with en := true } })] }) fun x => { x with
      mem := [(0,
      1)] }).put F.GRD_ST_STATE 0 3).put F.GRD_UNOM_UNOM 0 0x3F800000, 0, 125000, [⟨0, 0, List.replicate 10 0⟩], by decide +kernel⟩,
    ⟨onDst wRun fun x => { x with grp := [(0, { DstGrp.blank with queue := wDstRec :: [] })] }, 0, wDstRec, [], by decide⟩,
    ⟨onInp wRun fun x => { x with en := [(0, true)] }, ⟨0, 0, []⟩, by decide⟩,
    ⟨wRun, ⟨0, 0, []⟩, by decide⟩,
    ⟨wRun, 1, [], by decide⟩,
    ⟨wRun, 0, [], by decide⟩⟩

theorem witness_SensorFaultsSetAndClear :
    (∃ s : State, ∃ n : Fin 112, ∃ mag : Rat, running s = true ∧ chanOn s n = true ∧ 9 / 8 < mag ∧ s.bit F.INP_ST_OVR n = false) ∧
    (∃ s : State, ∃ n : Fin 112, ∃ mag : Rat, running s = true ∧ chanOn s n = true ∧ 9 / 8 < mag ∧ s.bit F.INP_ST_OVR n = true) ∧
    (∃ s : State, ∃ n : Fin 112, ∃ mag : Rat, running s = true ∧ chanOn s n = true ∧ mag ≤ 9 / 8) ∧
    (∃ s : State, ∃ n : Fin 112, ∃ mag : Rat, running s = true ∧ chanOn s n = true ∧ mag < 1) ∧
    (∃ s : State, ∃ b : Fin 32, ∃ ones : Fin 257, running s = true ∧ chanOn s (112 + b.val) = true ∧
      s.fld F.INP_BSG_DENSLIM (b.val / 16) ≠ 0 ∧ s.fld F.INP_BSG_DENSLIM (b.val / 16) < density ones ∧
      s.bit F.INP_ST_DENS (112 + b.val) = false ∧ s.bit F.INP_ST_OVR (112 + b.val) = false) ∧
    (∃ s : State, ∃ n : Fin 112, running s = true ∧ chanOn s n = true ∧ s.bit F.INP_ST_OPEN n = false ∧
      10 * s.fld F.INP_CFG_OSDT n < mget 0 s.inp.outP n) ∧
    (∃ s : State, ∃ n : Fin 112, running s = true ∧ chanOn s n = true ∧ s.bit F.INP_ST_OPEN n = false ∧
      10 * s.fld F.INP_CFG_OSDT n < mget 0 s.inp.outN n) ∧
    (∃ s : State, ∃ b : Fin 32, running s = true ∧ chanOn s (112 + b.val) = true ∧ s.bit F.INP_ST_STUCK (112 + b.val) = false) :=
  ⟨⟨onInp wRun fun x => { x with en := [(0, true)] }, 0, 2, by decide, by decide, by norm_num, by decide⟩,
    ⟨(onInp wRun fun x => { x with en := [(0, true)] }).put F.INP_ST_OVR 0 1, 0, 2, by decide +kernel⟩,
    ⟨onInp wRun fun x => { x with en := [(0, true)] }, 0, 9 / 8, by decide +kernel⟩,
    ⟨onInp wRun fun x => { x with en := [(0, true)] }, 0, 0, by decide, by decide, by norm_num⟩,
    ⟨(onInp wRun fun x => { x with en := [(112, true)], bsgEn := [(0, true)] }).put F.INP_BSG_DENSLIM 0 1, 0, 129, by decide⟩,
    ⟨onInp wRun fun x => { x with en := [(0, true)], outP := [(0, 10001)] }, 0, by decide⟩,
    ⟨onInp wRun fun x => { x with en := [(0, true)], outN := [(0, 10001)] }, 0, by decide⟩,
    ⟨onInp wRun fun x => { x with en := [(112, true)], bsgEn := [(0, true)] }, 0, by decide⟩⟩

theorem witness_ChannelSettingsApply :
    (∃ s : State, ∃ n : Fin 144, updateDue s n = false) ∧
    (∃ s : State, ∃ b : Fin 32, updateDue s (112 + b.val) = false) ∧
    (∃ s : State, ∃ n : Fin 144, running s = true ∧ updateDue s n = true ∧ s.bit F.INP_CFG_EN n = true ∧
      mget false s.inp.en n = false) ∧
    (∃ s : State, ∃ n : Fin 144, running s = true ∧ updateDue s n = true ∧ s.bit F.INP_CFG_EN n = false ∧
      mget false s.inp.en n = true) ∧
    (∃ s : State, ∃ b : Fin 32, running s = true ∧ updateDue s (112 + b.val) = true) :=
  ⟨⟨onClk wRun fun x => { x with site := 1 }, 0, by decide⟩,
    ⟨onClk wRun fun x => { x with site := 1 }, 0, by decide⟩,
    ⟨wRun.put F.INP_CFG_EN 0 1, 0, by decide⟩,
    ⟨onInp wRun fun x => { x with en := [(0, true)] }, 0, by decide⟩,
    ⟨wRun, 0, by decide⟩⟩

theorem witness_FilterLanesRetryAndRetire :
    (∃ s : State, ∃ lane : Fin 11, running s = true ∧ (s.fld F.FLT_ENG_LANERET).testBit lane = true) ∧
    (∃ s : State, ∃ lane : Fin 11, running s = true ∧ (s.fld F.FLT_ENG_LANERET).testBit lane = false ∧ checkOff s 0 lane = false ∧
      s.flts.inj ≠ some (0, lane.val)) ∧
    (∃ s : State, ∃ lane : Fin 11, ∃ rest : List (Nat × Bool), s.flt.retry = (lane.val, false) :: rest) ∧
    (∃ s : State, s.flt.rebuild = false) ∧
    (∃ s : State, s.flt.rebuild = true ∧ 9 < lanesUp s ∧ dstate s ≠ 2) :=
  ⟨⟨wRun.put F.FLT_ENG_LANERET 0 1, 0, by decide⟩,
    ⟨wRun, 0, by decide⟩,
    ⟨onFlt wRun fun x => { x with retry := (0, false) :: [] }, 0, [], by decide⟩,
    ⟨wRun, by decide⟩,
    ⟨onFlt wRun fun x => { x with rebuild := true }, by decide⟩⟩

theorem witness_FastPathAndResponses :
    (∃ s : State, ∃ n : Fin 170, ∃ fs : List (BitVec 16), fastRuns s n = false) ∧
    (∃ s : State, ∃ n : Fin 170, ∃ pre : List (BitVec 16), ∃ f0 : BitVec 16, ∃ f1 : BitVec 16, ∃ th : Rat, fastOn s n = true ∧
      threshold s F.FLT_THR_FTHR n = some th ∧ th ≤ |(fastVal f0 : Rat)| ∧ th ≤ |(fastVal f1 : Rat)|) ∧
    (∃ s : State, ∃ n : Fin 170, ∃ fs : List (BitVec 16), fastRuns s n = true ∧ threshold s F.FLT_THR_FTHR n = none) ∧
    (∃ s : State, ∃ n : Fin 170, ∃ fs : List (BitVec 16), fastRuns s n = true ∧ threshold s F.FLT_THR_STEPTH n = none) ∧
    (∃ s : State, ∃ n : Fin 170, ∃ fs : List (BitVec 16), fastRuns s n = true ∧ fastOn s n = true ∧ lookBack s n ≤ fs.length ∧
      (∃ th, threshold s F.FLT_THR_FTHR n = some th ∧ ∀ f ∈ fs, |(fastVal f : Rat)| < 7 / 8 * th)) ∧
    (∃ s : State, ∃ n : Fin 170, ∃ fs : List (BitVec 16), fastRuns s n = true ∧ fastOn s n = false ∧
      threshold s F.FLT_THR_FTHR n ≠ none) ∧
    (∃ s : State, ∃ n : Fin 170, ∃ mid : List (BitVec 16), ∃ f0 : BitVec 16, ∃ f : BitVec 16, ∃ th : Rat, fastOn s n = true ∧
      threshold s F.FLT_THR_STEPTH n = some th ∧ mid.length + 1 = lookBack s n ∧ th ≤ |(fastVal f - fastVal f0 : Rat)|) ∧
    (∃ s : State, ∃ n : Fin 170, ∃ fs : List (BitVec 16), fastRuns s n = true ∧ fastOn s n = true ∧
      lookBack s n + 24 ≤ fs.length ∧ (∃ th, threshold s F.FLT_THR_STEPTH n = some th ∧
      ∀ f ∈ fs, ∀ g ∈ fs, |(fastVal f - fastVal g : Rat)| < th)) ∧
    (∃ s : State, ∃ n : Fin 170, ∃ fs : List (BitVec 16), fastRuns s n = true ∧ fastOn s n = false ∧
      threshold s F.FLT_THR_STEPTH n ≠ none) ∧
    (∃ s : State, ∃ n : Fin 112, ∃ c : RespChange, running s = true ∧ mget none s.flt.change n = some c ∧ c.ph = .warming) ∧
    (∃ s : State, ∃ n : Fin 112, ∃ c : RespChange, running s = true ∧ mget none s.flt.change n = some c ∧ c.ph ≠ .warming) ∧
    (∃ s : State, ∃ n : Fin 112, ∃ c : RespChange, running s = true ∧ mget none s.flt.change n = some c ∧ updateDue s n = false) ∧
    (∃ s : State, ∃ n : Fin 112, ∃ c : RespChange, running s = true ∧ mget none s.flt.change n = some c ∧ c.ph ≠ .warmed) ∧
    (∃ s : State, ∃ n : Fin 112, ∃ c : RespChange, ∃ sp, running s = true ∧ mget none s.flt.change n = some c ∧
      updateDue s n = true ∧ c.ph = .warmed ∧ (sparesOf (bankOf n)).find? (fun k => (getSp s k).lent == some n.val) = some sp) ∧
    (∃ s : State, ∃ n : Nat, changePh s n = some .fading ∧ (getPath s n).old = none ∧
      (∀ sp ∈ sparesOf (bankOf n), (getSp s sp).lent ≠ some n)) ∧
    (∃ s : State, ∃ n : Fin 144, ∃ c : RespChange, running s = true ∧ mget none s.flt.change n = some c ∧ c.ph ≠ .preset) ∧
    (∃ s : State, ∃ n : Fin 144, ∃ c : RespChange, running s = true ∧ mget none s.flt.change n = some c ∧ updateDue s n = true ∧
      c.ph = .preset) ∧
    (∃ s : State, ∃ n : Fin 144, changePh s n = some .warming) ∧
    (∃ s : State, ∃ n : Fin 144, changePh s n = some .warmed) ∧
    (∃ s : State, ∃ n : Fin 144, changePh s n ≠ some .warming ∧ changePh s n ≠ some .warmed ∧ changePh s n ≠ some .fading) :=
  ⟨⟨wRun, 0, [], by decide⟩,
    ⟨((onFlt (onInp wRun fun x => { x with en := [(0, true)] }) fun x => { x with
      fpr := [(0,
      1)] }).put F.FLT_THR_FTHR 0 1).put F.FLT_THR_STEPTH 0 1, 0, [], 1, 1, 1,
      by decide, by decide +kernel, by decide +kernel, by decide +kernel⟩,
    ⟨onFlt (onInp wRun fun x => { x with en := [(0, true)] }) fun x => { x with fpr := [(0, 1)] }, 0, [], by decide +kernel⟩,
    ⟨onFlt (onInp wRun fun x => { x with en := [(0, true)] }) fun x => { x with fpr := [(0, 1)] }, 0, [], by decide +kernel⟩,
    ⟨(onFlt (onInp wRun fun x => { x with en := [(0, true)] }) fun x => { x with fpr := [(0, 1)] }).put F.FLT_THR_FTHR 0 1, 0,
      List.replicate 24 0, by decide, by decide, by decide +kernel, 1, by decide +kernel,
      by intro f hf; obtain rfl := List.eq_of_mem_replicate hf; decide +kernel⟩,
    ⟨(onFlt (onInp wRun fun x => { x with en := [(0, true)] }) fun x => { x with
      fpr := [(0, 1)], holdoff := [(0, true)] }).put F.FLT_THR_FTHR 0 1, 0, [], by decide +kernel⟩,
    ⟨(onFlt (onInp wRun fun x => { x with en := [(0, true)] }) fun x => { x with fpr := [(0, 1)] }).put F.FLT_THR_STEPTH 0 1, 0,
      List.replicate 23 0, 0, 1, 1, by decide +kernel⟩,
    ⟨(onFlt (onInp wRun fun x => { x with en := [(0, true)] }) fun x => { x with fpr := [(0, 1)] }).put F.FLT_THR_STEPTH 0 1, 0,
      List.replicate 48 0, by decide, by decide, by decide +kernel, 1, by decide +kernel,
      by intro f hf g hg; obtain rfl := List.eq_of_mem_replicate hf; obtain rfl := List.eq_of_mem_replicate hg; decide +kernel⟩,
    ⟨(onFlt (onInp wRun fun x => { x with en := [(0, true)] }) fun x => { x with
      fpr := [(0, 1)], holdoff := [(0, true)] }).put F.FLT_THR_STEPTH 0 1, 0, [], by decide +kernel⟩,
    ⟨onCal (onFlt wRun fun x => { x with change := [(0, some ({ wChange with ph := .warming }))] }) fun x => { x with
      pend := [(0, some (Trace.none_ 0 0))] }, 0, { wChange with ph := .warming }, by decide⟩,
    ⟨onFlt wRun fun x => { x with change := [(0, some wChange)] }, 0, wChange, by decide⟩,
    ⟨onFlt (onClk wRun fun x => { x with site := 1 }) fun x => { x with change := [(0, some wChange)] }, 0, wChange, by decide⟩,
    ⟨onFlt wRun fun x => { x with change := [(0, some wChange)] }, 0, wChange, by decide⟩,
    ⟨onRmt (onFlt wRun fun x => { x with change := [(0, some ({ wChange with ph := .warmed }))] }) fun x => { x with
      spares := [(0, { SpareSt.idle with lent := some 0 })] }, 0, { wChange with ph := .warmed }, 0, by decide⟩,
    ⟨onFlt wRun fun x => { x with change := [(0, some ({ wChange with ph := .fading }))] }, 0, by decide +kernel⟩,
    ⟨onCal (onFlt wRun fun x => { x with change := [(0, some wChange)] }) fun x => { x with
      pend := [(0, some (Trace.none_ 0 0))] }, 0, wChange, by decide⟩,
    ⟨onFlt wRun fun x => { x with change := [(0, some ({ wChange with ph := .preset }))] }, 0, { wChange with ph := .preset },
      by decide⟩,
    ⟨onFlt wRun fun x => { x with change := [(0, some ⟨[0, 0, 0, 0], .warming⟩)] }, 0, by decide⟩,
    ⟨onFlt wRun fun x => { x with change := [(0, some ⟨[0, 0, 0, 0], .warmed⟩)] }, 0, by decide⟩,
    ⟨wRun, 0, by decide⟩⟩

theorem witness_RemountSlotReachesHandover :
    (∃ s : State, ∃ sp : Spare, ∃ k : Nat, running s = true ∧ slotT s sp k < s.clk.site) ∧
    (∃ s : State, ∃ sp : Spare, ∃ k : Nat, running s = true ∧ s.clk.site ≤ slotT s sp k ∧ (getSp s sp).slot = none ∧
      (getSp s sp).arbit = none ∧ (getSp s sp).kept = none ∧ (getSp s sp).refin = none ∧ routineOk s sp = false) ∧
    (∃ s : State, ∃ sp : Spare, ∃ k : Nat, ∃ n, running s = true ∧ s.clk.site ≤ slotT s sp k ∧ (getSp s sp).slot = none ∧
      (getSp s sp).arbit = none ∧ (getSp s sp).kept = none ∧ (getSp s sp).refin = none ∧ routineOk s sp = true ∧
      assigned s sp k = some n) ∧
    (∃ s : State, ∃ sp : Spare, ∃ k : Nat, ∃ sl : Slot, running s = true ∧ s.clk.site ≤ slotT s sp k ∧
      (getSp s sp).slot = some sl ∧ sl.est ≠ .verdict ∧ sl.rotating = true) ∧
    (∃ s : State, ∃ sp : Spare, ∃ off : Rat, ∃ gain : Rat, ∃ sl : Slot, running s = true ∧ (getSp s sp).refin = none ∧
      (getSp s sp).slot = some sl ∧ sl.st = .selfchk ∧ sl.failed = false ∧ selfCheckOk s sp sl.range off gain = true ∧
      sl.selfOnly = false) ∧
    (∃ s : State, ∃ sp : Spare, ∃ off : Rat, ∃ gain : Rat, ∃ sl : Slot, running s = true ∧ (getSp s sp).refin = none ∧
      (getSp s sp).slot = some sl ∧ sl.st = .selfchk ∧ sl.failed = false ∧ selfCheckOk s sp sl.range off gain = false) ∧
    (∃ s : State, ∃ sp : Spare, ∃ off : Rat, ∃ gain : Rat, running s = true ∧ (getSp s sp).refin = some (.check false) ∧
      selfCheckOk s sp 0 off gain = true) ∧
    (∃ s : State, ∃ sp : Spare, ∃ off : Rat, ∃ gain : Rat, running s = true ∧ (getSp s sp).refin = some (.check false) ∧
      selfCheckOk s sp 0 off gain = false) ∧
    (∃ s : State, ∃ sp : Spare, ∃ sl : Slot, running s = true ∧ (getSp s sp).slot = some sl ∧ sl.est = .settling ∧
      sl.st = .ovlOut) ∧
    (∃ s : State, ∃ sp : Spare, ∃ sl : Slot, running s = true ∧ (getSp s sp).slot = some sl ∧ sl.est = .settling ∧
      sl.st = .ovlRet) ∧
    (∃ s : State, ∃ sp : Spare, ∃ e : EstStats, ∃ sl : Slot, running s = true ∧ (getSp s sp).slot = some sl ∧ sl.rotating = true ∧
      sl.st = .ovlOut ∧ sl.est = .window ∧ spSubst s sp = false ∧ sl.failed = false) ∧
    (∃ s : State, ∃ sp : Spare, ∃ e : EstStats, ∃ sl : Slot, running s = true ∧ (getSp s sp).slot = some sl ∧ sl.rotating = true ∧
      sl.st = .ovlOut ∧ sl.est = .window ∧ spSubst s sp = true) ∧
    (∃ s : State, ∃ sp : Spare, ∃ sl : Slot, running s = true ∧ (getSp s sp).slot = some sl ∧ sl.est = .held ∧
      xfadeClear s sl.chan = false) ∧
    (∃ s : State, ∃ sp : Spare, ∃ sl : Slot, running s = true ∧ (getSp s sp).slot = some sl ∧ sl.est ≠ .held) ∧
    (∃ s : State, ∃ sp : Spare, ∃ sl : Slot, running s = true ∧ (getSp s sp).slot = some sl ∧ xfadeClear s sl.chan = true) :=
  ⟨⟨onClk wRun fun x => { x with site := 1 }, 0, 0, by decide⟩,
    ⟨onRmt wRun fun x => { x with spares := [(0, SpareSt.idle)] }, 0, 0, by decide⟩,
    ⟨(onRmt (onInp wRun fun x => { x with en := [(0, true)] }) fun x => { x with
      spares := [(0, SpareSt.idle)] }).put F.RMT_CFG_EN 0 1, 0, 0, 0, by decide +kernel⟩,
    ⟨onRmt wRun fun x => { x with spares := [(0, { SpareSt.idle with slot := some wSlot })] }, 0, 0, wSlot, by decide⟩,
    ⟨onRmt wRun fun x => { x with spares := [(0, { SpareSt.idle with slot := some ({ wSlot with
      st := .selfchk, failed := false,
      selfOnly := false }) })] }, 0, 0, 1, { wSlot with st := .selfchk, failed := false, selfOnly := false }, by decide +kernel⟩,
    ⟨onRmt wRun fun x => { x with spares := [(0, { SpareSt.idle with slot := some ({ wSlot with
      st := .selfchk, failed := false }) })] }, 0, 0, 2, { wSlot with st := .selfchk, failed := false }, by decide +kernel⟩,
    ⟨onRmt wRun fun x => { x with spares := [(0, { SpareSt.idle with refin := some (.check false) })] }, 0, 0, 1,
      by decide +kernel⟩,
    ⟨onRmt wRun fun x => { x with spares := [(0, { SpareSt.idle with refin := some (.check false) })] }, 0, 0, 2,
      by decide +kernel⟩,
    ⟨onRmt wRun fun x => { x with spares := [(0, { SpareSt.idle with slot := some ({ wSlot with
      est := .settling, st := .ovlOut }) })] }, 0, { wSlot with est := .settling, st := .ovlOut }, by decide⟩,
    ⟨onRmt wRun fun x => { x with spares := [(0, { SpareSt.idle with slot := some ({ wSlot with
      est := .settling, st := .ovlRet }) })] }, 0, { wSlot with est := .settling, st := .ovlRet }, by decide⟩,
    ⟨onRmt wRun fun x => { x with spares := [(0, { SpareSt.idle with slot := some ({ wSlot with
      st := .ovlOut, est := .window,
      failed := false }) })] }, 0, ⟨0, 0, 1, 1, 1⟩, { wSlot with st := .ovlOut, est := .window, failed := false }, by decide⟩,
    ⟨(onRmt wRun fun x => { x with spares := [(0, { SpareSt.idle with slot := some ({ wSlot with
      st := .ovlOut,
      est := .window }) })] }).put F.RMT_SST_SUBST 0 1, 0, ⟨0, 0, 1, 1, 1⟩, { wSlot with
      st := .ovlOut, est := .window }, by decide⟩,
    ⟨(onRmt wRun fun x => { x with spares := [(0, { SpareSt.idle with slot := some ({ wSlot with
      est := .held }) })] }).put F.INP_ST_OVR 0 1, 0, { wSlot with est := .held }, by decide⟩,
    ⟨onRmt wRun fun x => { x with spares := [(0, { SpareSt.idle with slot := some wSlot })] }, 0, wSlot, by decide⟩,
    ⟨onRmt wRun fun x => { x with spares := [(0, { SpareSt.idle with slot := some wSlot })] }, 0, wSlot, by decide⟩⟩

theorem witness_RemountSlotReturns :
    (∃ s : State, ∃ sp : Spare, ∃ sl : Slot, running s = true ∧ (getSp s sp).slot = some sl ∧ sl.rotating = true ∧
      sl.handback = false ∧ sl.st = .xfOut ∧ sl.newCorr = none ∧ spSubst s sp = false ∧ withdrawn s = false) ∧
    (∃ s : State, ∃ sp : Spare, ∃ sl : Slot, running s = true ∧ (getSp s sp).slot = some sl ∧ sl.rotating = true ∧
      sl.handback = false ∧ sl.st = .xfRet) ∧
    (∃ s : State, ∃ sp : Spare, ∃ short : Rat, ∃ pts : List Rat, ∃ sl : Slot, running s = true ∧ (getSp s sp).slot = some sl ∧
      sl.st = .standin ∧ sl.offline = true ∧ sl.failed = false) ∧
    (∃ s : State, ∃ sp : Spare, ∃ e : EstStats, ∃ sl : Slot, ∃ c : Corr, running s = true ∧ (getSp s sp).slot = some sl ∧
      sl.st = .ovlRet ∧ sl.est = .window ∧ sl.failed = false ∧ sl.newCorr = some c ∧ checkOk s (estimate e) = true) ∧
    (∃ s : State, ∃ sp : Spare, ∃ e : EstStats, ∃ sl : Slot, ∃ c : Corr, running s = true ∧ (getSp s sp).slot = some sl ∧
      sl.st = .ovlRet ∧ sl.est = .window ∧ sl.failed = false ∧ sl.newCorr = some c ∧ checkOk s (estimate e) = false) ∧
    (∃ s : State, ∃ sp : Spare, ∃ sl : Slot, running s = true ∧ (getSp s sp).slot = some sl ∧ sl.st = .leaving ∧
      sl.handback = false) :=
  ⟨⟨onRmt wRun fun x => { x with spares := [(0, { SpareSt.idle with slot := some ({ wSlot with
    handback := false, st := .xfOut,
      newCorr := none }) })] }, 0, { wSlot with handback := false, st := .xfOut, newCorr := none }, by decide⟩,
    ⟨onRmt wRun fun x => { x with spares := [(0, { SpareSt.idle with slot := some ({ wSlot with
      handback := false, st := .xfRet }) })] }, 0, { wSlot with handback := false, st := .xfRet }, by decide⟩,
    ⟨onRmt wRun fun x => { x with spares := [(0, { SpareSt.idle with slot := some ({ wSlot with
      st := .standin, offline := true,
      failed := false }) })] }, 0, 0, [], { wSlot with st := .standin, offline := true, failed := false }, by decide⟩,
    ⟨onRmt wRun fun x => { x with spares := [(0, { SpareSt.idle with slot := some ({ wSlot with
      st := .ovlRet, est := .window, failed := false, newCorr := some ⟨0,
      1⟩ }) })] }, 0, ⟨0, 0, 1, 1, 1⟩, { wSlot with
      st := .ovlRet, est := .window, failed := false, newCorr := some ⟨0, 1⟩ }, ⟨0, 1⟩, by decide +kernel⟩,
    ⟨onRmt wRun fun x => { x with spares := [(0, { SpareSt.idle with slot := some ({ wSlot with
      st := .ovlRet, est := .window, failed := false, newCorr := some ⟨0,
      1⟩ }) })] }, 0, ⟨0, 0, 1, 2, 1⟩, { wSlot with
      st := .ovlRet, est := .window, failed := false, newCorr := some ⟨0, 1⟩ }, ⟨0, 1⟩, by decide +kernel⟩,
    ⟨onRmt wRun fun x => { x with spares := [(0, { SpareSt.idle with slot := some ({ wSlot with
      st := .leaving, handback := false }) })] }, 0, { wSlot with st := .leaving, handback := false }, by decide⟩⟩

theorem witness_RemountVerdictsAndRequests :
    (∃ s : State, ∃ b : Spare, ∃ a : Fin 26, ∃ out : Bool, ∃ e : EstStats, ∃ sl : Slot, ∃ asl : Slot, running s = true ∧ a ≠ b ∧
      (getSp s b).slot = some sl ∧ (getSp s a).slot = some asl ∧ asl.chan < 112 ∧ spBank a = bankOf asl.chan ∧
      sl.kind = .third a.val out ∧ sl.st = .ovlOut ∧ sl.est = .window ∧ out = true ∧ matchOk s (estimate e) = true) ∧
    (∃ s : State, ∃ b : Spare, ∃ a : Fin 26, ∃ out : Bool, ∃ e : EstStats, ∃ sl : Slot, ∃ asl : Slot, running s = true ∧ a ≠ b ∧
      (getSp s b).slot = some sl ∧ (getSp s a).slot = some asl ∧ asl.chan < 112 ∧ spBank a = bankOf asl.chan ∧
      sl.kind = .third a.val out ∧ sl.st = .ovlOut ∧ sl.est = .window ∧ out = false ∧ checkOk s (estimate e) = true) ∧
    (∃ s : State, ∃ n : AChan, running s = true ∧ s.fld F.RMT_MST_SUB n ≠ 0 ∧ boundaryAt s n = false) ∧
    (∃ s : State, ∃ n : AChan, running s = true ∧ s.fld F.RMT_MST_SUB n ≠ 0 ∧
      (getSp s (spareAt (bankOf n) (s.fld F.RMT_MST_SUB n - 1))).mtch = none) ∧
    (∃ s : State, ∃ n : AChan, running s = true ∧ s.fld F.RMT_MST_SUB n ≠ 0 ∧ boundaryAt s n = true ∧
      (getSp s (spareAt (bankOf n) (s.fld F.RMT_MST_SUB n - 1))).mtch.isSome = true) ∧
    (∃ s : State, ∃ sp : Spare, ∃ sl : Slot, ∃ r : Nat, ∃ k : Nat, running s = true ∧ (getSp s sp).slot = some sl ∧
      sl.kind = .live r k ∧ sl.st = .ovlOut ∧ sl.est = .held ∧ xfadeClear s sl.chan = false) ∧
    (∃ s : State, ∃ sp : Spare, ∃ sl : Slot, ∃ r : Nat, ∃ k : Nat, running s = true ∧ (getSp s sp).slot = some sl ∧
      sl.kind = .live r k ∧ sl.st = .ovlOut ∧ sl.est = .held ∧ updateDue s sl.chan = false) ∧
    (∃ s : State, ∃ sp : Spare, ∃ sl : Slot, ∃ r : Nat, ∃ k : Nat, running s = true ∧ (getSp s sp).slot = some sl ∧
      sl.kind = .live r k ∧ sl.st = .ovlOut ∧ sl.est = .held ∧ xfadeClear s sl.chan = true ∧ updateDue s sl.chan = true) ∧
    (∃ s : State, ∃ n : Fin 256, mainOn s = false) ∧
    (∃ s : State, ∃ n : Fin 256, privileged s = false) ∧
    (∃ s : State, ∃ n : Fin 256, mainOn s = true ∧ privileged s = true ∧ running s = false) ∧
    (∃ s : State, ∃ n : Fin 256, mainOn s = true ∧ running s = true ∧ privileged s = true ∧ forceRefused s n = true) ∧
    (∃ s : State, ∃ n : Fin 256, ∃ sp, mainOn s = true ∧ running s = true ∧ privileged s = true ∧ forceRefused s n = false ∧
      forceSpare s (bankOf n) = some sp ∧ (getSp s sp).slot = none ∧ (getSp s sp).refin = none) ∧
    (∃ s : State, ∃ n : Fin 256, mainOn s = true ∧ running s = true ∧ privileged s = true ∧ forceRefused s n = false ∧
      (∀ sp, forceSpare s (bankOf n) = some sp → (getSp s sp).slot ≠ none ∨ (getSp s sp).refin ≠ none)) :=
  ⟨⟨onRmt wRun fun x => { x with spares := [(0, { SpareSt.idle with slot := some wSlot }), (1, { SpareSt.idle with
    slot := some { wSlot with
      kind := .third 0 true, st := .ovlOut,
      est := .window } })] }, 1, 0, true, ⟨0, 0, 1, 1, 1⟩, { wSlot with
      kind := .third 0 true, st := .ovlOut, est := .window }, wSlot, by decide +kernel⟩,
    ⟨onRmt wRun fun x => { x with spares := [(0, { SpareSt.idle with slot := some wSlot }), (1, { SpareSt.idle with
      slot := some { wSlot with
      kind := .third 0 false, st := .ovlOut,
      est := .window } })] }, 1, 0, false, ⟨0, 0, 1, 1, 1⟩, { wSlot with
      kind := .third 0 false, st := .ovlOut, est := .window }, wSlot, by decide +kernel⟩,
    ⟨(onClk wRun fun x => { x with site := 1 }).put F.RMT_MST_SUB 0 1, 0, by decide⟩,
    ⟨wRun.put F.RMT_MST_SUB 0 1, 0, by decide⟩,
    ⟨(onRmt wRun fun x => { x with spares := [(0, { SpareSt.idle with mtch := some (1, 0) })] }).put F.RMT_MST_SUB 0 1, 0,
      by decide⟩,
    ⟨(onRmt wRun fun x => { x with spares := [(0, { SpareSt.idle with slot := some ({ wSlot with
      kind := .live 0 0, st := .ovlOut,
      est := .held }) })] }).put F.INP_ST_OVR 0 1, 0, { wSlot with
      kind := .live 0 0, st := .ovlOut, est := .held }, 0, 0, by decide⟩,
    ⟨onClk (onRmt wRun fun x => { x with spares := [(0, { SpareSt.idle with slot := some ({ wSlot with
      kind := .live 0 0, st := .ovlOut,
      est := .held }) })] }) fun x => { x with site := 1 }, 0, { wSlot with
      kind := .live 0 0, st := .ovlOut, est := .held }, 0, 0, by decide⟩,
    ⟨onRmt wRun fun x => { x with spares := [(0, { SpareSt.idle with slot := some ({ wSlot with
      kind := .live 0 0, st := .ovlOut,
      est := .held }) })] }, 0, { wSlot with kind := .live 0 0, st := .ovlOut, est := .held }, 0, 0, by decide⟩,
    ⟨State.reset, 0, by decide⟩,
    ⟨wRun, 0, by decide⟩,
    ⟨wStby.put F.SBX_PRIV_PRIV 0 1, 0, by decide⟩,
    ⟨wRun.put F.SBX_PRIV_PRIV 0 1, 0, by decide⟩,
    ⟨(onInp wRun fun x => { x with en := [(0, true)] }).put F.SBX_PRIV_PRIV 0 1, 0, 0, by decide⟩,
    ⟨(onRmt (onInp wRun fun x => { x with en := [(0, true)] }) fun x => { x with spares := [(0, { SpareSt.idle with
      slot := some wSlot })] }).put F.SBX_PRIV_PRIV 0 1, 0, by decide, by decide,
      by decide, by decide +kernel, by intro sp h; rw [show forceSpare _ _ = some 0 by decide +kernel] at h; cases h; exact .inl (by decide +kernel)⟩⟩

theorem witness_ClockFallbackAndBoundaries :
    (∃ s : State, mainOn s = true ∧ s.clk.xsrc = .crystal) ∧
    (∃ s : State, ∃ t0 : Nat, mainOn s = true ∧ s.clk.xsrc = .rc ∧ t0 % 20000000 = 0 ∧ t0 < 2 ^ 64) ∧
    (∃ s : State, ∃ t0 : Nat, running s = true ∧ t0 % 20000000 = 0 ∧ t0 < 2 ^ 64) :=
  ⟨⟨onClk wRun fun x => { x with xsrc := .crystal }, by decide⟩,
    ⟨onClk wRun fun x => { x with xsrc := .rc }, 0, by decide⟩,
    ⟨wRun, 0, by decide⟩⟩

theorem witness_MeteringStartsAfterTrim :
    (∃ s : State, running s = true ∧ s.pwr.metering = false ∧ s.ctl ≠ .halted) ∧
    (∃ s : State, running s = true ∧ s.pwr.metering = false ∧ s.ctl = .halted) ∧
    (∃ s : State, ∃ t0 : Nat, running s = true ∧ s.pwr.metering = false ∧ t0 % 10000000 = 0 ∧ t0 < 2 ^ 64 ∧
      meteringReady s = false) ∧
    (∃ s : State, ∃ t0 : Nat, running s = true ∧ s.pwr.metering = false ∧ t0 % 10000000 = 0 ∧ t0 < 2 ^ 64 ∧
      meteringReady s = true) ∧
    (∃ s : State, ∃ t0 : Nat, s.pwr.metering = true) :=
  ⟨⟨wRun, by decide⟩,
    ⟨onCtl (wRun) .halted, by decide⟩,
    ⟨wRun, 0, by decide⟩,
    ⟨onCal wRun fun x => { x with anyRun := true }, 0, by decide⟩,
    ⟨onPwr wRun fun x => { x with metering := true }, 0, by decide⟩⟩

theorem witness_TrimRunsFormAndApplyResults :
    (∃ s : State, ∃ c : Instr, ctlOn s = true ∧ c = .trimRunStart ∧ s.bit F.CAL_ST_TRIMRUN = true) ∧
    (∃ s : State, ∃ c : Instr, ctlOn s = true ∧ c = .trimRunStart ∧ s.bit F.CAL_ST_TRIMRUN = false) ∧
    (∃ s : State, ∃ c : Instr, ctlOn s = true ∧ c = .calTrig ∧ privileged s = true ∧ s.bit F.CAL_ST_TRIMRUN = true) ∧
    (∃ s : State, ∃ c : Instr, ctlOn s = true ∧ c = .calTrig ∧ privileged s = true ∧ s.bit F.CAL_ST_TRIMRUN = false) ∧
    (∃ s : State, mainOn s = true ∧ ctlOn s = false ∧ privileged s = true) ∧
    (∃ s : State, privileged s = false) ∧
    (∃ s : State, ∃ bad : Bool, ∃ fs : List SetFail, ctlOn s = true ∧ s.bit F.CAL_ST_TRIMRUN = true ∧ s.cal.powerUp = false ∧
      (trimPasses (touchSets (takeFails fs s)) && !bad) = true) ∧
    (∃ s : State, ∃ bad : Bool, ∃ fs : List SetFail, ctlOn s = true ∧ s.bit F.CAL_ST_TRIMRUN = true ∧ s.cal.powerUp = false ∧
      (trimPasses (touchSets (takeFails fs s)) && !bad) = false ∧ s.cal.failed1 = false) ∧
    (∃ s : State, ∃ bad : Bool, ∃ fs : List SetFail, ctlOn s = true ∧ s.bit F.CAL_ST_TRIMRUN = true ∧ s.cal.powerUp = false ∧
      (trimPasses (touchSets (takeFails fs s)) && !bad) = false ∧ s.cal.failed1 = true) ∧
    (∃ s : State, ∃ n : Chan, boundaryAt s n = false) ∧
    (∃ s : State, ∃ n : Chan, s.clk.site < s.cal.jointT) ∧
    (∃ s : State, ∃ n : Chan, ∃ c : Trace, running s = true ∧ mget none s.cal.pend n = some c ∧ boundaryAt s n = true ∧
      s.cal.jointT ≤ s.clk.site ∧ (∀ q ∈ s.rmt.bare, q.chan ≠ n)) ∧
    (∃ s : State, ∃ b : BChan, ∃ q : LiveReq, running s = true ∧ s.rmt.bare.find? (fun x => x.chan == 112 + b.val) = some q ∧
      q.trim ≠ .over) ∧
    (∃ s : State, ∃ b : BChan, ∃ q : LiveReq, running s = true ∧ s.rmt.bare.find? (fun x => x.chan == 112 + b.val) = some q ∧
      boundaryAt s (112 + b.val) = false) ∧
    (∃ s : State, ∃ b : BChan, ∃ q : LiveReq, running s = true ∧ s.rmt.bare.find? (fun x => x.chan == 112 + b.val) = some q ∧
      q.trim = .over ∧ boundaryAt s (112 + b.val) = true) :=
  ⟨⟨wRun.put F.CAL_ST_TRIMRUN 0 1, .trimRunStart, by decide⟩,
    ⟨wRun, .trimRunStart, by decide⟩,
    ⟨(wRun.put F.SBX_PRIV_PRIV 0 1).put F.CAL_ST_TRIMRUN 0 1, .calTrig, by decide⟩,
    ⟨wRun.put F.SBX_PRIV_PRIV 0 1, .calTrig, by decide +kernel⟩,
    ⟨(onCtl (wRun) .restarting).put F.SBX_PRIV_PRIV 0 1, by decide⟩,
    ⟨wRun, by decide⟩,
    ⟨wRun.put F.CAL_ST_TRIMRUN 0 1, false, [], by decide +kernel⟩,
    ⟨wRun.put F.CAL_ST_TRIMRUN 0 1, true, [], by decide +kernel⟩,
    ⟨(onCal wRun fun x => { x with failed1 := true }).put F.CAL_ST_TRIMRUN 0 1, true, [], by decide +kernel⟩,
    ⟨onClk wRun fun x => { x with site := 1 }, 0, by decide⟩,
    ⟨onCal wRun fun x => { x with jointT := 1 }, 0, by decide⟩,
    ⟨onCal wRun fun x => { x with pend := [(0, some (Trace.none_ 0 0))] }, 0, Trace.none_ 0 0, by decide⟩,
    ⟨onRmt (wRun) fun x => { x with bare := [⟨112, 0, 1, .running⟩] }, 0, ⟨112, 0, 1, .running⟩, by decide⟩,
    ⟨onRmt (onClk wRun fun x => { x with site := 1 }) fun x => { x with bare := [⟨112, 0, 1, .over⟩] }, 0, ⟨112, 0, 1, .over⟩,
      by decide⟩,
    ⟨onRmt (wRun) fun x => { x with bare := [⟨112, 0, 1, .over⟩] }, 0, ⟨112, 0, 1, .over⟩, by decide⟩⟩

theorem witness_ReferenceSessionMeasures :
    (∃ s : State, ctlOn s = true ∧ privileged s = true ∧ startRefused s = true) ∧
    (∃ s : State, ctlOn s = true ∧ privileged s = true ∧ startRefused s = false) ∧
    (∃ s : State, privileged s = false) ∧
    (∃ s : State, ∃ x : Sess, ctlOn s = true ∧ s.cal.sess = some x ∧ s.fld F.CAL_ST_STATE = 1 ∧ sessAlive s x ≠ []) ∧
    (∃ s : State, ∃ x : Sess, ctlOn s = true ∧ s.cal.sess = some x ∧ s.fld F.CAL_ST_STATE = 1 ∧ sessAlive s x = []) ∧
    (∃ s : State, ∃ x : Sess, ctlOn s = true ∧ privileged s = true ∧ s.cal.sess = some x ∧ s.fld F.CAL_ST_STATE = 2) ∧
    (∃ s : State, ∃ x : Sess, ctlOn s = true ∧ privileged s = true ∧ s.cal.sess = some x ∧ s.fld F.CAL_ST_STATE = 4 ∧
      x.lost = false) ∧
    (∃ s : State, ∃ x : Sess, ∃ rs : List ChanRun, ∃ t0 : Nat, ctlOn s = true ∧ s.cal.sess = some x ∧ s.fld F.CAL_ST_STATE = 5 ∧
      x.windows = true ∧ x.winT = some t0 ∧ winOver s x t0 = false) ∧
    (∃ s : State, ∃ x : Sess, ∃ rs : List ChanRun, ∃ t0 : Nat, ctlOn s = true ∧ s.cal.sess = some x ∧ s.fld F.CAL_ST_STATE = 5 ∧
      x.windows = true ∧ x.winT = some t0 ∧ winOver s x t0 = true ∧ x.dc = false ∧ x.unlk = true ∧ x.again = false) ∧
    (∃ s : State, ∃ x : Sess, ∃ rs : List ChanRun, ∃ t0 : Nat, ctlOn s = true ∧ s.cal.sess = some x ∧ s.fld F.CAL_ST_STATE = 5 ∧
      x.windows = true ∧ x.winT = some t0 ∧ winOver s x t0 = true ∧ x.dc = true) ∧
    (∃ s : State, ∃ x : Sess, ∃ rs : List ChanRun, ∃ t0 : Nat, ctlOn s = true ∧ s.cal.sess = some x ∧ s.fld F.CAL_ST_STATE = 5 ∧
      x.windows = true ∧ x.winT = some t0 ∧ winOver s x t0 = true ∧ x.unlk = false) ∧
    (∃ s : State, ∃ vm : Rat, ∃ spread : Rat, refinBusy s = none) ∧
    (∃ s : State, ∃ x : Sess, ∃ vm : Rat, ∃ spread : Rat, ∃ sp : Nat, ctlOn s = true ∧ s.cal.sess = some x ∧
      s.fld F.CAL_ST_STATE = 5 ∧ x.refin = .waiting ∧ refinBusy s = some sp ∧ (getSp s sp).refin = some .measure) :=
  ⟨⟨wRun.put F.SBX_PRIV_PRIV 0 1, by decide⟩,
    ⟨((((((onInp wRun fun x => { x with
      en := [(0,
      true)] }).put F.SBX_PRIV_PRIV 0 1).put F.CAL_SEL_SEL 0 1).put F.CAL_SESS_MODE 0 1).put F.CAL_SESS_RPT 0 1).put F.CAL_SESS_NCYC 0 1), by decide⟩,
    ⟨wRun, by decide⟩,
    ⟨(onCal wRun fun x => { x with sess := some wSess, sel := [0] }).put F.CAL_ST_STATE 0 1, wSess, by decide⟩,
    ⟨(onCal wRun fun x => { x with sess := some wSess }).put F.CAL_ST_STATE 0 1, wSess, by decide⟩,
    ⟨((onCal wRun fun x => { x with sess := some wSess }).put F.SBX_PRIV_PRIV 0 1).put F.CAL_ST_STATE 0 2, wSess, by decide⟩,
    ⟨((onCal wRun fun x => { x with sess := some ({ wSess with
      lost := false }) }).put F.SBX_PRIV_PRIV 0 1).put F.CAL_ST_STATE 0 4, { wSess with lost := false }, by decide⟩,
    ⟨(onCal wRun fun x => { x with sess := some ({ wSess with windows := true, winT := some 0 }) }).put F.CAL_ST_STATE 0 5,
      { wSess with windows := true, winT := some 0 }, [], 0, by decide⟩,
    ⟨(onCal wRun fun x => { x with sess := some { wSess with
      windows := true, winT := some 0, unlk := true,
      cyc := 1 } }).put F.CAL_ST_STATE 0 5, { wSess with
      windows := true, winT := some 0, unlk := true, cyc := 1 }, [], 0, by decide⟩,
    ⟨onClk (onCal wRun fun x => { x with sess := some { wSess with windows := true, winT := some 0, dc := true } }) (fun x =>
      { x with site := 20000000 }) |>.put F.CAL_ST_STATE 0 5, { wSess with windows := true, winT := some 0, dc := true }, [], 0,
      by decide⟩,
    ⟨(onCal wRun fun x => { x with sess := some { wSess with
      windows := true, winT := some 0,
      cyc := 1 } }).put F.CAL_ST_STATE 0 5, { wSess with windows := true, winT := some 0, cyc := 1 }, [], 0, by decide⟩,
    ⟨wRun, 0, 0, by decide⟩,
    ⟨(onRmt (onCal wRun fun x => { x with sess := some { wSess with refin := .waiting } }) fun x => { x with
      spares := [(24,
      { SpareSt.idle with refin := some .measure })] }).put F.CAL_ST_STATE 0 5, { wSess with
      refin := .waiting }, 0, 0, 24, by decide⟩⟩

theorem witness_ReferenceSessionCommits :
    (∃ s : State, ∃ x : Sess, ∃ fs : List SetFail, ctlOn s = true ∧ s.cal.sess = some x ∧ s.fld F.CAL_ST_STATE = 6) ∧
    (∃ s : State, ∃ x : Sess, ctlOn s = true ∧ privileged s = true ∧ s.cal.sess = some x ∧ s.fld F.CAL_ST_STATE ≠ 7 ∧
      paired s = false) ∧
    (∃ s : State, ∃ x : Sess, ctlOn s = true ∧ privileged s = true ∧ s.cal.sess = some x ∧ s.fld F.CAL_ST_STATE ≠ 7 ∧
      paired s = true) ∧
    (∃ s : State, ∃ x : Sess, ∃ i : Nat, ctlOn s = true ∧ privileged s = true ∧ s.cal.sess = some x ∧ s.fld F.CAL_ST_STATE = 7 ∧
      commitSet (touchSets s) x = some i ∧ paired s = false) ∧
    (∃ s : State, ∃ x : Sess, ∃ i : Nat, ctlOn s = true ∧ privileged s = true ∧ s.cal.sess = some x ∧ s.fld F.CAL_ST_STATE = 7 ∧
      commitSet (touchSets s) x = some i ∧ paired s = true) ∧
    (∃ s : State, ∃ x : Sess, ∃ i : Nat, ∃ fs : List SetFail, ctlOn s = true ∧ vaultFree s 4 = true ∧ s.cal.sess = some x ∧
      s.cal.commit = some i) ∧
    (∃ s : State, ctlOn s = true ∧ privileged s = true ∧ s.fld F.CAL_ST_STATE = 9) ∧
    (∃ s : State, ctlOn s = true ∧ privileged s = true ∧ s.fld F.CAL_ST_STATE ≠ 9) ∧
    (∃ s : State, ∃ i : Fin 8, ctlOn s = true ∧ privileged s = true ∧ s.fld F.CAL_ST_STATE ≠ 0) ∧
    (∃ s : State, ∃ i : Fin 8, ctlOn s = true ∧ privileged s = true ∧ s.fld F.CAL_ST_STATE = 0 ∧ vaultFree s 4 = false) ∧
    (∃ s : State, ∃ i : Fin 8, ctlOn s = true ∧ privileged s = true ∧ s.fld F.CAL_ST_STATE = 0 ∧ vaultFree s 4 = true) ∧
    (∃ s : State, privileged s = false) ∧
    (∃ s : State, ctlOn s = true ∧ s.fld F.CAL_ST_STATE = 2) ∧
    (∃ s : State, ctlOn s = true ∧ s.fld F.CAL_ST_STATE = 4) ∧
    (∃ s : State, ctlOn s = true ∧ s.fld F.CAL_ST_STATE = 8) :=
  ⟨⟨(onCal wRun fun x => { x with sess := some wSess }).put F.CAL_ST_STATE 0 6, wSess, [], by decide⟩,
    ⟨(onCal wRun fun x => { x with sess := some wSess }).put F.SBX_PRIV_PRIV 0 1, wSess, by decide⟩,
    ⟨((onCal wRun fun x => { x with sess := some wSess }).put F.SBX_PRIV_PRIV 0 1).put F.TWN_ST_STATE 0 6, wSess, by decide⟩,
    ⟨((onCal wRun fun x => { x with sess := some wSess }).put F.SBX_PRIV_PRIV 0 1).put F.CAL_ST_STATE 0 7, wSess, 0,
      by decide +kernel⟩,
    ⟨(((onCal wRun fun x => { x with
      sess := some wSess }).put F.SBX_PRIV_PRIV 0 1).put F.CAL_ST_STATE 0 7).put F.TWN_ST_STATE 0 6, wSess, 0, by decide +kernel⟩,
    ⟨onCal wRun fun x => { x with sess := some wSess, commit := some 0 }, wSess, 0, [], by decide⟩,
    ⟨(wRun.put F.SBX_PRIV_PRIV 0 1).put F.CAL_ST_STATE 0 9, by decide⟩,
    ⟨wRun.put F.SBX_PRIV_PRIV 0 1, by decide⟩,
    ⟨(wRun.put F.SBX_PRIV_PRIV 0 1).put F.CAL_ST_STATE 0 1, 0, by decide⟩,
    ⟨(onPwr wRun fun x => { x with finalCk := true }).put F.SBX_PRIV_PRIV 0 1, 0, by decide⟩,
    ⟨wRun.put F.SBX_PRIV_PRIV 0 1, 0, by decide⟩,
    ⟨wRun, by decide⟩,
    ⟨wRun.put F.CAL_ST_STATE 0 2, by decide⟩,
    ⟨wRun.put F.CAL_ST_STATE 0 4, by decide⟩,
    ⟨wRun.put F.CAL_ST_STATE 0 8, by decide⟩⟩

theorem witness_TetherTrainsAndAttaches :
    (∃ s : State, mainOn s = true ∧ tst s = 1) ∧
    (∃ s : State, mainOn s = true ∧ tst s = 7) ∧
    (∃ s : State, ∃ ts : TrainSet, mainOn s = true ∧ tst s = 2 ∧ ts.good = false) ∧
    (∃ s : State, ∃ ts : TrainSet, mainOn s = true ∧ tst s = 2 ∧ ts.good = true ∧ ts.version = 1#8 ∧
      ts.side.toNat ≠ s.fld F.PWR_ST_PAIRSIDE ∧ ts.leadSide.toNat = s.fld F.TWN_CFG_LEADSIDE ∧ s.twn.sets = 7 ∧ ts.acked = true ∧
      s.twn.noCheck = false) ∧
    (∃ s : State, ∃ ts : TrainSet, mainOn s = true ∧ tst s = 2 ∧ ts.good = true ∧ ts.version = 1#8 ∧
      ts.side.toNat = s.fld F.PWR_ST_PAIRSIDE) ∧
    (∃ s : State, ∃ peer : List Byte, ∃ role : Bool, tst s = 3 ∧ (digestsMatch s (peer.map BitVec.toNat) && !dirtyFive s) = true) ∧
    (∃ s : State, ∃ peer : List Byte, ∃ role : Bool, tst s = 3 ∧ (digestsMatch s (peer.map BitVec.toNat) && !dirtyFive s) = false) ∧
    (∃ s : State, ∃ phase : Int, ∃ site : Nat, tst s = 4) ∧
    (∃ s : State, ∃ phase : Int, ∃ site : Nat, tst s = 6) ∧
    (∃ s : State, ∃ x : Transfer, tst s = 5 ∧ s.cal.anyPass = true) ∧
    (∃ s : State, ∃ x : Transfer, tst s = 5 ∧ s.pwr.metering = true) ∧
    (∃ s : State, ∃ x : Transfer, tst s = 5 ∧ s.cal.anyPass = false ∧ s.pwr.metering = false) ∧
    (∃ s : State, running s = true ∧ s.bit F.TWN_CFG_EN = true ∧ s.pwr.metering = false ∧ s.cal.anyRun = true ∧ tst s ≠ 6) ∧
    (∃ s : State, 3 ≤ tst s ∧ tst s ≤ 6) ∧
    (∃ s : State, ∃ type : Fin 4, ∃ mseq : BitVec 16, 4 ≤ tst s ∧ tst s ≤ 6 ∧
      s.twn.msgs.find? (fun (x : TwnSent) => x.type == type.val + 1 && x.mseq == mseq.toNat) = none) ∧
    (∃ s : State, ∃ type : Fin 4, ∃ mseq : BitVec 16, ∃ m, 4 ≤ tst s ∧ tst s ≤ 6 ∧
      s.twn.msgs.find? (fun (x : TwnSent) => x.type == type.val + 1 && x.mseq == mseq.toNat) = some m ∧ m.again = true) ∧
    (∃ s : State, ∃ type : Fin 4, ∃ mseq : BitVec 16, ∃ m, 4 ≤ tst s ∧ tst s ≤ 6 ∧
      s.twn.msgs.find? (fun (x : TwnSent) => x.type == type.val + 1 && x.mseq == mseq.toNat) = some m ∧ m.again = false) ∧
    (∃ s : State, ∃ type : Fin 4, ∃ mseq : BitVec 16, 4 ≤ tst s ∧ tst s ≤ 6 ∧ type = 0) ∧
    (∃ s : State, ∃ type : Fin 4, ∃ mseq : BitVec 16, 4 ≤ tst s ∧ tst s ≤ 6 ∧ type ≠ 0 ∧
      (type.val + 1, mseq.toNat) ∈ s.twn.repeated) ∧
    (∃ s : State, ∃ type : Fin 4, ∃ mseq : BitVec 16, 4 ≤ tst s ∧ tst s ≤ 6 ∧ type ≠ 0 ∧
      (type.val + 1, mseq.toNat) ∉ s.twn.repeated) :=
  ⟨⟨wRun.put F.TWN_ST_STATE 0 1, by decide⟩,
    ⟨wRun.put F.TWN_ST_STATE 0 7, by decide⟩,
    ⟨wRun.put F.TWN_ST_STATE 0 2, { wSet with good := false }, by decide⟩,
    ⟨(onTwn wRun fun x => { x with sets := 7 }).put F.TWN_ST_STATE 0 2, { wSet with good := true, version := 1#8, acked := true },
      by decide⟩,
    ⟨wRun.put F.TWN_ST_STATE 0 2, { wSet with side := 0 }, by decide⟩,
    ⟨wRun.put F.TWN_ST_STATE 0 3, List.replicate 160 0, false, by decide⟩,
    ⟨wRun.put F.TWN_ST_STATE 0 3, [], false, by decide⟩,
    ⟨wRun.put F.TWN_ST_STATE 0 4, 0, 0, by decide⟩,
    ⟨wRun.put F.TWN_ST_STATE 0 6, 0, 0, by decide⟩,
    ⟨(onCal wRun fun x => { x with anyPass := true }).put F.TWN_ST_STATE 0 5, .checkpoint 0 [] [], by decide⟩,
    ⟨(onPwr wRun fun x => { x with metering := true }).put F.TWN_ST_STATE 0 5, .checkpoint 0 [] [], by decide⟩,
    ⟨wRun.put F.TWN_ST_STATE 0 5, .checkpoint 0 [] [], by decide⟩,
    ⟨(onCal wRun fun x => { x with anyRun := true }).put F.TWN_CFG_EN 0 1, by decide⟩,
    ⟨wRun.put F.TWN_ST_STATE 0 3, by decide⟩,
    ⟨wRun.put F.TWN_ST_STATE 0 4, 0, 0, by decide⟩,
    ⟨(onTwn wRun fun x => { x with msgs := [⟨2, 0, [], true⟩] }).put F.TWN_ST_STATE 0 4, 1, 0, ⟨2, 0, [], true⟩, by decide⟩,
    ⟨(onTwn wRun fun x => { x with msgs := [⟨2, 0, [], false⟩] }).put F.TWN_ST_STATE 0 4, 1, 0, ⟨2, 0, [], false⟩, by decide⟩,
    ⟨wRun.put F.TWN_ST_STATE 0 4, 0, 0, by decide⟩,
    ⟨(onTwn wRun fun x => { x with repeated := [(2, 0)] }).put F.TWN_ST_STATE 0 4, 1, 0, by decide⟩,
    ⟨wRun.put F.TWN_ST_STATE 0 4, 1, 0, by decide⟩⟩

theorem witness_TwinRequestsAndMessages :
    (∃ s : State, mainOn s = true ∧ privileged s = true ∧ tst s ≠ 6) ∧
    (∃ s : State, mainOn s = true ∧ privileged s = true ∧ anyDispute s = true) ∧
    (∃ s : State, mainOn s = true ∧ privileged s = true ∧ anyWarm s = true) ∧
    (∃ s : State, mainOn s = true ∧ privileged s = true ∧ peerWarm s = true) ∧
    (∃ s : State, mainOn s = true ∧ privileged s = true ∧ tst s = 6 ∧ anyDispute s = false ∧ anyWarm s = false ∧
      peerWarm s = false) ∧
    (∃ s : State, mainOn s = true ∧ privileged s = true ∧ tst s = 7) ∧
    (∃ s : State, privileged s = false) ∧
    (∃ s : State, ∃ sel : List Nat, ∃ pass : List Nat, ∃ t0 : Nat, tst s = 6 ∧ s.fld F.CAL_ST_STATE ≠ 7) ∧
    (∃ s : State, ∃ sel : List Nat, ∃ pass : List Nat, ∃ t0 : Nat, tst s = 6 ∧ s.cal.sel ≠ sel) ∧
    (∃ s : State, ∃ sel : List Nat, ∃ t0 : Nat, ∃ x, ∃ i : Nat, tst s = 6 ∧ s.cal.sess = some x ∧ s.fld F.CAL_ST_STATE = 7 ∧
      s.cal.sel = sel ∧ commitSet (touchSets (takeWhole 2 s)) x = some i) ∧
    (∃ s : State, tst s = 6 ∧ s.bit F.TWN_ST_DIGOK = false) :=
  ⟨⟨wRun.put F.SBX_PRIV_PRIV 0 1, by decide⟩,
    ⟨(onTwn wRun fun x => { x with disputes := [(0, some wDispute)] }).put F.SBX_PRIV_PRIV 0 1, by decide⟩,
    ⟨(onTwn wRun fun x => { x with warm := [(0, true)] }).put F.SBX_PRIV_PRIV 0 1, by decide⟩,
    ⟨(onTwn wRun fun x => { x with hot := true }).put F.SBX_PRIV_PRIV 0 1, by decide⟩,
    ⟨(wRun.put F.SBX_PRIV_PRIV 0 1).put F.TWN_ST_STATE 0 6, by decide⟩,
    ⟨(wRun.put F.SBX_PRIV_PRIV 0 1).put F.TWN_ST_STATE 0 7, by decide⟩,
    ⟨wRun, by decide⟩,
    ⟨wRun.put F.TWN_ST_STATE 0 6, ([] : List Nat), ([] : List Nat), 0, by decide⟩,
    ⟨wRun.put F.TWN_ST_STATE 0 6, [1], ([] : List Nat), 0, by decide⟩,
    ⟨((onCal wRun fun x => { x with sess := some wSess }).put F.TWN_ST_STATE 0 6).put F.CAL_ST_STATE 0 7, [], 0, wSess, 0,
      by decide +kernel⟩,
    ⟨wRun.put F.TWN_ST_STATE 0 6, by decide⟩⟩

theorem witness_TwinsCompareAndArbitrate :
    (∃ s : State, ∃ t0 : Nat, tst s = 6 ∧ s.twn.evalT = t0 ∧ (∀ x ∈ s.twn.peer, x.time ≠ t0)) ∧
    (∃ s : State, ∃ t0 : Nat, ∃ x : OwnChan, ∃ y : ChanItem, tst s = 6 ∧ s.twn.evalT = t0 ∧ (∃ r ∈ s.twn.peer, r.time = t0) ∧
      s.bit F.TWN_ST_DIGOK = true ∧ s.twn.ownCh = [x] ∧ matching s x = some y ∧ s.twn.disputes = [] ∧ s.twn.adopts = [] ∧
      s.twn.arbSent = [] ∧ s.twn.peerArb = [] ∧ x.item.stream < 144 ∧ x.item.cflags = 0 ∧ y.cflags = 0 ∧
      itemFails s x.item.stream x.nc x.item y = false) ∧
    (∃ s : State, ∃ t0 : Nat, ∃ x : OwnChan, ∃ y : ChanItem, tst s = 6 ∧ s.twn.evalT = t0 ∧ (∃ r ∈ s.twn.peer, r.time = t0) ∧
      s.bit F.TWN_ST_DIGOK = true ∧ s.twn.ownCh = [x] ∧ matching s x = some y ∧ s.twn.disputes = [] ∧ s.twn.adopts = [] ∧
      s.twn.arbSent = [] ∧ s.twn.peerArb = [] ∧ x.item.stream < 144 ∧ x.item.cflags = 0 ∧ y.cflags = 0 ∧
      itemFails s x.item.stream x.nc x.item y = true ∧ s.fld F.TWN_CHST_FAILS x.item.stream + 1 < s.fld F.TWN_CMP_CPERS) ∧
    (∃ s : State, ∃ n : Chan, ∃ d : Dispute, mget none s.twn.disputes n = some d ∧ d.mine = 0) ∧
    (∃ s : State, ∃ n : Chan, running s = true ∧ (∀ x ∈ s.twn.spans, x.n ≠ n)) ∧
    (∃ s : State, ∃ m : Meter, ∃ n : Chan, ∃ run : ChanRun, running s = true ∧ mget none s.mtr.held m = none) ∧
    (∃ s : State, ∃ m : Meter, ∃ n : Chan, ∃ run : ChanRun, ∃ h, running s = true ∧ mget none s.mtr.held m = some h ∧
      n.val ∉ h.adopted) ∧
    (∃ s : State, ∃ m : Meter, ∃ n : Chan, ∃ run : ChanRun, ∃ h, ∃ k, running s = true ∧ n.val ∈ h.adopted ∧
      mget none s.mtr.held m = some h ∧ k ∈ awaited h ∧ k ≠ n.val) ∧
    (∃ s : State, ∃ n : Chan, ∃ d : Dispute, mget none s.twn.disputes n = some d ∧ d.unres = true ∧ tst s = 6) :=
  ⟨⟨(onTwn wRun fun x => { x with evalT := 0 }).put F.TWN_ST_STATE 0 6, 0, by decide⟩,
    ⟨((onTwn wRun fun x => { x with ownCh := [⟨0, 1, wItem, false⟩], peer := [{ wCmp with
      chans := [wItem] }] }).put F.TWN_ST_STATE 0 6).put F.TWN_ST_DIGOK 0 1, 0, ⟨0, 1, wItem, false⟩, wItem, by decide +kernel⟩,
    ⟨(((onTwn wRun fun x => { x with ownCh := [⟨0, 1, wItem, false⟩], peer := [{ wCmp with chans := [{ wItem with
      rms := 0x50000000 }] }] }).put F.TWN_ST_STATE 0 6).put F.TWN_ST_DIGOK 0 1), 0, ⟨0, 1, wItem, false⟩, { wItem with
      rms := 0x50000000 }, by decide +kernel⟩,
    ⟨onTwn wRun fun x => { x with disputes := [(0, some ({ wDispute with mine := 0 }))] }, 0, { wDispute with mine := 0 },
      by decide⟩,
    ⟨wRun, 0, by decide⟩,
    ⟨wRun, 0, 0, ⟨0, 0, []⟩, by decide⟩,
    ⟨onMtr wRun fun x => { x with held := [(0, some ⟨wMtr, wIv, [], []⟩)] }, 0, 0, ⟨0, 0, []⟩, ⟨wMtr, wIv, [], []⟩, by decide⟩,
    ⟨onMtr wRun fun x => { x with held := [(0, some ⟨wMtr, wIv, [0, 1], []⟩)] }, 0, 0, ⟨0, 0, []⟩, ⟨wMtr, wIv, [0, 1], []⟩, 1,
      by decide⟩,
    ⟨(onTwn wRun fun x => { x with disputes := [(0, some ({ wDispute with unres := true }))] }).put F.TWN_ST_STATE 0 6, 0,
      { wDispute with unres := true }, by decide⟩⟩

theorem witness_LinksCarryFrames :
    (∃ s : State, ∃ p : CPort, ∃ q : Port, ∃ f : LinkFrame, q.val = p.val + 1 ∧ running s = true ∧ portUp s p = false) ∧
    (∃ s : State, ∃ p : CPort, ∃ q : Port, ∃ f : LinkFrame, q.val = p.val + 1 ∧ running s = true ∧ portUp s p = true ∧
      frameOk q f s = false ∧ transit f s = false ∧ (¬ (p.val = 2 ∧ lstate s 2 = 3 ∧ f.body = .idle))) ∧
    (∃ s : State, ∃ p : CPort, ∃ q : Port, ∃ f : LinkFrame, q.val = p.val + 1 ∧ running s = true ∧ portUp s p = true ∧
      frameOk q f s = false ∧ p.val = 2 ∧ lstate s 2 = 3 ∧ f.body = .idle) ∧
    (∃ s : State, ∃ p : CPort, ∃ q : Port, ∃ f : LinkFrame, q.val = p.val + 1 ∧ running s = true ∧ portUp s p = true ∧
      frameOk q f s = true ∧ f.body = .idle) ∧
    (∃ s : State, ∃ p : CPort, ∃ q : Port, ∃ f : LinkFrame, ∃ xs, q.val = p.val + 1 ∧ running s = true ∧ portUp s p = true ∧
      frameOk q f s = true ∧ f.body = .subscribe xs ∧ f.dst.toNat = position s) ∧
    (∃ s : State, ∃ p : CPort, ∃ q : Port, ∃ f : LinkFrame, q.val = p.val + 1 ∧ running s = true ∧ portUp s p = true ∧
      frameOk q f s = true ∧ passing f.body = .dst ∧ transit f s = true ∧ f.dst ≠ 0xFF) ∧
    (∃ s : State, ∃ p : CPort, ∃ q : Port, ∃ f : LinkFrame, ∃ b, q.val = p.val + 1 ∧ running s = true ∧ portUp s p = true ∧
      frameOk q f s = true ∧ f.body = .samples [b] ∧ f.dst.toNat = position s ∧ isHead s = true ∧ paired s = false) ∧
    (∃ s : State, ∃ p : CPort, ∃ q : Port, ∃ f : LinkFrame, ∃ n, ∃ t0 : Nat, ∃ t1, ∃ ok, q.val = p.val + 1 ∧ running s = true ∧
      portUp s p = true ∧ frameOk q f s = true ∧ f.body = .coverage n t0 t1 ok ∧ f.dst.toNat = position s ∧ isHead s = true ∧
      paired s = false) ∧
    (∃ s : State, ∃ p : CPort, ∃ q : Port, ∃ f : LinkFrame, ∃ seq, ∃ count, ∃ keys, ∃ vals, q.val = p.val + 1 ∧ running s = true ∧
      portUp s p = true ∧ frameOk q f s = true ∧ f.body = .summary seq count keys vals ∧ f.dst.toNat = position s ∧
      isHead s = true) ∧
    (∃ s : State, ∃ p : Port, ∃ l : BitVec 16, running s = true ∧ linkUp s p = true ∧ inAir s p l.toNat = none) ∧
    (∃ s : State, ∃ p : Port, ∃ l : BitVec 16, ∃ f, running s = true ∧ linkUp s p = true ∧ inAir s p l.toNat = some f ∧
      (∀ x ∈ s.cvn.retried, ¬ (x.1 = p.val ∧ x.2.1 = l.toNat))) ∧
    (∃ s : State, ∃ p : Port, ∃ l : BitVec 16, ∃ f, running s = true ∧ linkUp s p = true ∧ inAir s p l.toNat = some f ∧
      s.cvn.retried = [(p.val, l.toNat, false)]) ∧
    (∃ s : State, ∃ p : CPort, running s = true ∧ lstate s p = 4) ∧
    (∃ s : State, ∃ t0 : Nat, ∃ runs : List ChanRun, running s = true ∧ s.cvn.cfg.en = true ∧ isHead s = false ∧ s.cvn.sub ≠ [] ∧
      paired s = false ∧ isCutOff s = false ∧ t0 % 125000 = 0 ∧ t0 < 2 ^ 64) ∧
    (∃ s : State, ∃ t0 : Nat, ∃ runs : List ChanRun, running s = true ∧ s.cvn.cfg.en = true ∧ isHead s = false ∧ s.cvn.sub ≠ [] ∧
      s.pls.role = true ∧ isCutOff s = false ∧ t0 % 125000 = 0 ∧ t0 < 2 ^ 64) ∧
    (∃ s : State, ∃ t0 : Nat, ∃ runs : List ChanRun, t0 % 125000 ≠ 0) ∧
    (∃ s : State, ∃ t0 : Nat, ∃ runs : List ChanRun, sendsSamples s = false) :=
  ⟨⟨wRun, 0, 1, wLink, by decide⟩,
    ⟨wRun.put F.CVN_PST_LSTATE 0 2, 0, 1, { wLink with crc := 0 }, by decide +kernel⟩,
    ⟨wRun.put F.CVN_PST_LSTATE 2 3, 2, 3, { wLink with crc := 0 }, by decide +kernel⟩,
    ⟨wRun.put F.CVN_PST_LSTATE 0 2, 0, 1, { wLink with body := .idle }, by decide +kernel⟩,
    ⟨wRun.put F.CVN_PST_LSTATE 0 2, 0, 1, { wLink with body := .subscribe [], crc := 0x74CB10EC }, [], by decide +kernel⟩,
    ⟨wRun.put F.CVN_PST_LSTATE 0 2, 0, 1, { wLink with body := .subscribe [], src := 4, dst := 5, crc := 0x37b7f5d9 },
      by decide +kernel⟩,
    ⟨wHead.put F.CVN_PST_LSTATE 0 2, 0, 1,
      { wLink with body := .samples [⟨0, 0, 0, false, false, false, false, []⟩], crc := 0xef6e5c83 }, ⟨0, 0, 0, false, false,
      false, false, []⟩, by decide +kernel⟩,
    ⟨wHead.put F.CVN_PST_LSTATE 0 2, 0, 1, { wLink with body := .coverage 0 0 0 true, crc := 0x98f08e73 }, 0, 0, 0, true,
      by decide +kernel⟩,
    ⟨wHead.put F.CVN_PST_LSTATE 0 2, 0, 1, { wLink with body := .summary 0 0 [] [], crc := 0x355c21c }, 0, 0, [], [],
      by decide +kernel⟩,
    ⟨wRun.put F.CVN_PST_LSTATE 0 2, 1, 0, by decide⟩,
    ⟨(onCvn wRun fun x => { x with ports := [(1, { LinkPort.still with
      air := [⟨0x11, 0, 0, 0xFF, 0, [], some 0,
      false⟩] })] }).put F.CVN_PST_LSTATE 0 2, 1, 0, ⟨0x11, 0, 0, 0xFF, 0, [], some 0, false⟩, by decide⟩,
    ⟨(onCvn wRun fun x => { x with retried := [(1, 0, false)], ports := [(1, { LinkPort.still with
      air := [⟨0x11, 0, 0, 0xFF, 0, [], some 0,
      false⟩] })] }).put F.CVN_PST_LSTATE 0 2, 1, 0, ⟨0x11, 0, 0, 0xFF, 0, [], some 0, false⟩, by decide⟩,
    ⟨wRun.put F.CVN_PST_LSTATE 0 4, 0, by decide⟩,
    ⟨onCvn wMember fun x => { x with sub := [(0, 0)] }, 0, [], by decide⟩,
    ⟨onPls (onCvn wRun fun x => { x with cfg := { x.cfg with en := true, pair := 1 }, sub := [(0, 0)] }) fun x => { x with
      role := true }, 0, [], by decide⟩,
    ⟨wRun, 1, [], by decide⟩,
    ⟨wRun, 0, [], by decide⟩⟩

theorem witness_RingAndTimingMarks :
    (∃ s : State, ∃ a : Pos, ∃ b : Pos, running s = true ∧ s.cvn.cfg.en = true ∧
      (min a.val b.val, max a.val b.val) ∈ s.cvn.broken) ∧
    (∃ s : State, ∃ a : Pos, ∃ b : Pos, running s = true ∧ s.cvn.cfg.en = true ∧
      (min a.val b.val, max a.val b.val) ∉ s.cvn.broken) ∧
    (∃ s : State, ∃ t0 : Nat, running s = true ∧ isHead s = true ∧ t0 % 1000000 = 0 ∧ s.fld F.CVN_ST_STATE = 4 ∧ t0 < 2 ^ 64) ∧
    (∃ s : State, ∃ t0 : Nat, running s = true ∧ isHead s = true ∧ t0 % 1000000 = 0 ∧ s.fld F.CVN_ST_STATE ≠ 4 ∧
      s.cvn.locked = false) ∧
    (∃ s : State, ∃ p : CPort, ∃ m : TimingMark, running s = true ∧ s.cvn.cfg.en = true ∧ portUp s p = true ∧
      s.cvn.lastSeq = some m.body.seq.toNat) ∧
    (∃ s : State, ∃ p : CPort, ∃ m : TimingMark, running s = true ∧ s.cvn.cfg.en = true ∧ portUp s p = true ∧
      s.cvn.lastSeq ≠ some m.body.seq.toNat ∧ isHead s = false ∧ s.fld F.CVN_ST_STATE = 1 ∧ s.pwr.metering = false ∧
      followsLead s = false) ∧
    (∃ s : State, ∃ p : CPort, ∃ m : TimingMark, running s = true ∧ s.cvn.cfg.en = true ∧ portUp s p = true ∧
      s.cvn.lastSeq ≠ some m.body.seq.toNat ∧ isHead s = false ∧ s.fld F.CVN_ST_STATE = 2 ∧ s.pwr.metering = false ∧
      followsLead s = false) ∧
    (∃ s : State, ∃ p : CPort, ∃ m : TimingMark, running s = true ∧ s.cvn.cfg.en = true ∧ portUp s p = true ∧
      s.cvn.lastSeq ≠ some m.body.seq.toNat ∧ isHead s = false ∧ s.fld F.CVN_ST_STATE = 3) ∧
    (∃ s : State, ∃ p : CPort, ∃ m : TimingMark, running s = true ∧ s.cvn.cfg.en = true ∧ portUp s p = true ∧
      s.cvn.lastSeq ≠ some m.body.seq.toNat ∧ isHead s = false ∧ s.fld F.CVN_ST_STATE = 4) ∧
    (∃ s : State, ∃ p : CPort, ∃ m : TimingMark, running s = true ∧ s.cvn.cfg.en = true ∧ portUp s p = true ∧
      s.cvn.lastSeq ≠ some m.body.seq.toNat ∧ isHead s = false ∧ s.fld F.CVN_ST_STATE = 5) ∧
    (∃ s : State, running s = true ∧ s.cvn.cfg.en = true ∧ isHead s = false ∧ (∃ p < 3, portUp s p = true)) ∧
    (∃ s : State, ∃ p : Pos, mainOn s = true ∧ (∀ h, s.cvn.hold = some h → h.1 ≠ p.val)) ∧
    (∃ s : State, ∃ p : Pos, ∃ x, mainOn s = true ∧ s.cvn.hold = some (p.val, x)) ∧
    (∃ s : State, s.cvn.hold ≠ none) :=
  ⟨⟨onCvn wMember fun x => { x with broken := [(0, 63)] }, 0, 63, by decide⟩,
    ⟨wMember, 0, 0, by decide⟩,
    ⟨wHead.put F.CVN_ST_STATE 0 4, 0, by decide⟩,
    ⟨wHead, 0, by decide⟩,
    ⟨(onCvn wMember fun x => { x with lastSeq := some wMark.body.seq.toNat }).put F.CVN_PST_LSTATE 0 2, 0, wMark, by decide⟩,
    ⟨(wMember.put F.CVN_PST_LSTATE 0 2).put F.CVN_ST_STATE 0 1, 0, wMark, by decide⟩,
    ⟨(wMember.put F.CVN_PST_LSTATE 0 2).put F.CVN_ST_STATE 0 2, 0, wMark, by decide⟩,
    ⟨(wMember.put F.CVN_PST_LSTATE 0 2).put F.CVN_ST_STATE 0 3, 0, wMark, by decide⟩,
    ⟨(wMember.put F.CVN_PST_LSTATE 0 2).put F.CVN_ST_STATE 0 4, 0, wMark, by decide⟩,
    ⟨(wMember.put F.CVN_PST_LSTATE 0 2).put F.CVN_ST_STATE 0 5, 0, wMark, by decide⟩,
    ⟨wMember.put F.CVN_PST_LSTATE 2 2, by decide⟩,
    ⟨wRun, 0, by decide⟩,
    ⟨onCvn wRun fun x => { x with hold := some (0, none) }, 0, none, by decide⟩,
    ⟨onCvn wRun fun x => { x with hold := some (0, none) }, by decide⟩⟩

theorem witness_SiteTimeIsAdjusted :
    (∃ s : State, mainOn s = true ∧ privileged s = true ∧ isMaster s = false) ∧
    (∃ s : State, ∃ off : Int, mainOn s = true ∧ privileged s = true ∧ isMaster s = true ∧
      off = signed 64 (s.fld F.CVN_ADJ_LO_ADJ_LO + 2 ^ 32 * s.fld F.CVN_ADJ_HI_ADJ_HI) ∧ |off| ≤ 10000000) ∧
    (∃ s : State, ∃ off : Int, mainOn s = true ∧ privileged s = true ∧ isMaster s = true ∧
      off = signed 64 (s.fld F.CVN_ADJ_LO_ADJ_LO + 2 ^ 32 * s.fld F.CVN_ADJ_HI_ADJ_HI) ∧ 10000000 < |off|) ∧
    (∃ s : State, privileged s = false) ∧
    (∃ s : State, s.cvn.step = none) ∧
    (∃ s : State, ∃ at_ : Nat, ∃ off : Int, s.cvn.step = some (at_, off)) ∧
    (∃ s : State, s.bit F.CVN_ADJCTL_SLEW = false) ∧
    (∃ s : State, s.bit F.CVN_ADJCTL_SLEW = true) ∧
    (∃ s : State, running s = true ∧ isHead s = true ∧ s.cvn.cfg.siteEn = true ∧ s.cvn.cfg.master = false ∧
      s.bit F.CVN_SITE_SITESYNC = true) ∧
    (∃ s : State, running s = true ∧ isHead s = true ∧ s.cvn.cfg.siteEn = true ∧ s.cvn.cfg.master = false ∧
      s.bit F.CVN_SITE_SITESYNC = false) :=
  ⟨⟨wRun.put F.SBX_PRIV_PRIV 0 1, by decide⟩,
    ⟨((onPls (onCvn wRun fun x => { x with cfg := { x.cfg with en := true, siteEn := true, master := true } }) fun x =>
      { x with role := true }).put F.SBX_PRIV_PRIV 0 1).put F.CVN_ADJ_LO_ADJ_LO 0 10000000, 10000000, by decide⟩,
    ⟨((onPls (onCvn wRun fun x => { x with cfg := { x.cfg with en := true, siteEn := true, master := true } }) fun x =>
      { x with role := true }).put F.SBX_PRIV_PRIV 0 1).put F.CVN_ADJ_LO_ADJ_LO 0 10000001, 10000001, by decide⟩,
    ⟨wRun, by decide⟩,
    ⟨wRun, by decide⟩,
    ⟨onCvn wRun fun x => { x with step := some (0, 0) }, 0, 0, by decide⟩,
    ⟨wRun, by decide⟩,
    ⟨wRun.put F.CVN_ADJCTL_SLEW 0 1, by decide⟩,
    ⟨(onPls (onCvn wRun fun x => { x with cfg := { x.cfg with en := true, siteEn := true } }) fun x => { x with
      role := true }).put F.CVN_SITE_SITESYNC 0 1, by decide⟩,
    ⟨onPls (onCvn wRun fun x => { x with cfg := { x.cfg with en := true, siteEn := true } }) fun x => { x with role := true },
      by decide⟩⟩

theorem witness_WaylineSendsFrames :
    (∃ s : State, ∃ t0 : Nat, running s = true ∧ t0 % 40000000 = 0 ∧ waySend s = true ∧ s.bit F.SBX_OPCTL_PROMOTE = false) ∧
    (∃ s : State, ∃ x : WayTx, waySend s = true ∧ s.way.air = none ∧ s.way.txq = [x] ∧ soundDue s x = false ∧ x.dst = 0xFFFF) ∧
    (∃ s : State, ∃ x : WayTx, waySend s = true ∧ s.way.air = none ∧ s.way.txq = [x] ∧ soundDue s x = false ∧ x.dst ≠ 0xFFFF) ∧
    (∃ s : State, ∃ x : WayTx, wayOn s = true ∧ s.way.air = some x ∧ x.tries = 0) ∧
    (∃ s : State, ∃ x : WayTx, wayOn s = true ∧ s.way.air = some x ∧ x.tries = 3) ∧
    (∃ s : State, waySend s = true ∧ s.fld F.WAY_CFG_DISC = 0) ∧
    (∃ s : State, waySend s = true ∧ s.fld F.WAY_CFG_DISC ≠ 0) ∧
    (∃ s : State, ∃ pri : Fin 4, ∃ len : Fin 2048, ∃ dst : BitVec 16, mainOn s = true ∧ s.bit F.WAY_TXCTL_GO = true) ∧
    (∃ s : State, ∃ pri : Fin 4, ∃ len : Fin 2048, ∃ dst : BitVec 16, mainOn s = true ∧ s.bit F.WAY_TXCTL_GO = false ∧
      ctlOn s = false) ∧
    (∃ s : State, ∃ pri : Fin 4, ∃ len : Fin 2048, ∃ dst : BitVec 16, ctlOn s = true ∧ s.bit F.WAY_TXCTL_GO = false ∧ len.val = 0) ∧
    (∃ s : State, ∃ pri : Fin 4, ∃ len : Fin 2048, ∃ dst : BitVec 16, ctlOn s = true ∧ s.bit F.WAY_TXCTL_GO = false ∧
      1024 < len.val) ∧
    (∃ s : State, ∃ pri : Fin 4, ∃ len : Fin 2048, ∃ dst : BitVec 16, ctlOn s = true ∧ s.bit F.WAY_TXCTL_GO = false ∧
      keyed s = false) ∧
    (∃ s : State, ∃ pri : Fin 4, ∃ len : Fin 2048, ∃ dst : BitVec 16, ctlOn s = true ∧ s.bit F.WAY_TXCTL_GO = false ∧
      dst ≠ 0xFFFF ∧ findNbr s dst.toNat = none) ∧
    (∃ s : State, ∃ pri : Fin 4, ∃ len : Fin 2048, ∃ dst : BitVec 16, ctlOn s = true ∧ s.bit F.WAY_TXCTL_GO = false ∧
      0 < len.val ∧ len.val ≤ 1024 ∧ keyed s = true ∧ dst = 0xFFFF) ∧
    (∃ s : State, ∃ pri : Fin 4, ∃ len : Fin 2048, ∃ dst : BitVec 16, ctlOn s = true ∧ s.bit F.WAY_TXCTL_GO = false ∧
      0 < len.val ∧ len.val ≤ 1024 ∧ keyed s = true ∧ findNbr s dst.toNat ≠ none) :=
  ⟨⟨wRun.put F.WAY_ST_UP 0 1, 0, by decide⟩,
    ⟨(onWay wRun fun x => { x with txq := [({ wTx with dst := 0xFFFF })] }).put F.WAY_ST_UP 0 1, { wTx with dst := 0xFFFF },
      by decide⟩,
    ⟨(onWay wRun fun x => { x with txq := [wTx] }).put F.WAY_ST_UP 0 1, wTx, by decide⟩,
    ⟨(onWay wRun fun x => { x with air := some ({ wTx with tries := 0 }) }).put F.WAY_ST_UP 0 1, { wTx with tries := 0 },
      by decide⟩,
    ⟨(onWay wRun fun x => { x with air := some ({ wTx with tries := 3 }) }).put F.WAY_ST_UP 0 1, { wTx with tries := 3 },
      by decide⟩,
    ⟨(wRun.put F.WAY_ST_UP 0 1).put F.WAY_CFG_DISC 0 0, by decide⟩,
    ⟨(wRun.put F.WAY_ST_UP 0 1).put F.WAY_CFG_DISC 0 1, by decide⟩,
    ⟨wRun.put F.WAY_TXCTL_GO 0 1, 0, 0, 0, by decide⟩,
    ⟨onCtl (wRun) .restarting, 0, 0, 0, by decide⟩,
    ⟨wRun, 0, 0, 0, by decide⟩,
    ⟨wRun, 0, 1025, 0, by decide⟩,
    ⟨wRun, 0, 0, 0, by decide⟩,
    ⟨wRun, 0, 0, 0, by decide⟩,
    ⟨onSbx wRun fun x => { x with slots := [(8, some ⟨[0, 0, 0, 0, 0, 0, 0, 0, 0, 0, 0, 0, 0, 0, 0, 0], 0, 1, false, false⟩)] },
      0, 1024, 0xFFFF, by decide⟩,
    ⟨onWay (onSbx wRun fun x => { x with
      slots := [(8, some ⟨[0, 0, 0, 0, 0, 0, 0, 0, 0, 0, 0, 0, 0, 0, 0, 0], 0, 1, false, false⟩)] }) fun x => { x with nbr := [(0,
      some wNbr)] }, 0, 1, 1, by decide⟩⟩

theorem witness_WaylineReceivesAndKeepsNeighbours :
    (∃ s : State, ∃ f : WayFrame, wayOn s = true ∧ f.fcOk = false) ∧
    (∃ s : State, ∃ f : WayFrame, wayOn s = true ∧ f.netid.toNat ≠ s.fld F.WAY_NET_NETID) ∧
    (∃ s : State, ∃ f : WayFrame, wayOn s = true ∧ 9 ≤ f.ftype.val) ∧
    (∃ s : State, ∃ f : WayFrame, wayOn s = true ∧ 82 < f.nsym) ∧
    (∃ s : State, ∃ f : WayFrame, ∃ x, wayOn s = true ∧ f.fcOk = true ∧ f.netid.toNat = s.fld F.WAY_NET_NETID ∧ f.nsym ≤ 82 ∧
      f.ftype = 2 ∧ f.ra.toNat = naddr s ∧ s.way.air = some x ∧ x.dst = f.ta.toNat ∧ x.seq = f.seq.toNat ∧ x.tries = 0 ∧
      x.host = false) ∧
    (∃ s : State, ∃ f : WayFrame, ∃ osa, ∃ oda, ∃ fcnt, ∃ body, ∃ mic, wayOn s = true ∧ f.fcOk = true ∧
      f.netid.toNat = s.fld F.WAY_NET_NETID ∧ f.nsym ≤ 82 ∧ f.ftype.val < 2 ∧ f.ra.toNat ≠ naddr s ∧
      allErased (takeSymbols f.rx s) = false ∧ parsePayload f.kidx (f.payload.map BitVec.toNat) = some (osa, oda, fcnt, body,
      mic) ∧ authenticate s f.netid.toNat f.ftype f.kidx osa oda fcnt body mic = none) ∧
    (∃ s : State, ∃ f : WayFrame, ∃ osa, ∃ oda, ∃ fcnt, ∃ body, ∃ mic, wayOn s = true ∧ f.fcOk = true ∧
      f.netid.toNat = s.fld F.WAY_NET_NETID ∧ f.nsym ≤ 82 ∧ 5 ≤ f.ftype.val ∧ f.ftype.val ≤ 8 ∧ f.ra.toNat ≠ naddr s ∧
      allErased (takeSymbols f.rx s) = false ∧ parsePayload f.kidx (f.payload.map BitVec.toNat) = some (osa, oda, fcnt, body,
      mic) ∧ authenticate s f.netid.toNat f.ftype f.kidx osa oda fcnt body mic = none) ∧
    (∃ s : State, ∃ f : WayFrame, wayOn s = true ∧ f.fcOk = true ∧ f.netid.toNat = s.fld F.WAY_NET_NETID ∧ f.nsym ≤ 82 ∧
      f.ftype.val < 2 ∧ f.ra.toNat = naddr s ∧ allErased (takeSymbols f.rx s) = true) ∧
    (∃ s : State, ∃ f : WayFrame, wayOn s = true ∧ f.fcOk = true ∧ f.netid.toNat = s.fld F.WAY_NET_NETID ∧ f.nsym ≤ 82 ∧
      5 ≤ f.ftype.val ∧ f.ftype.val ≤ 8 ∧ f.ra.toNat = naddr s ∧ allErased (takeSymbols f.rx s) = true) ∧
    (∃ s : State, ∃ f : WayFrame, wayOn s = false) ∧
    (∃ s : State, ∃ i : Fin 512, ∃ x : Nbr, wayOn s = true ∧ mget none s.way.nbr i = some x ∧ x.mode = 0) ∧
    (∃ s : State, ∃ i : Fin 512, ∃ x : Nbr, wayOn s = true ∧ mget none s.way.nbr i = some x ∧ x.mode ≠ 0) ∧
    (∃ s : State, ∃ rtt : Nat, ∃ turn : Nat, ∃ a : Nat, waySend s = true ∧ isHead s = true ∧ s.cvn.cfg.siteEn = true ∧
      s.way.parent = some a) ∧
    (∃ s : State, wayOn s = true ∧ isHead s = true ∧ s.cvn.cfg.siteEn = true ∧ s.cvn.cfg.master = false ∧ bestParent s = none) ∧
    (∃ s : State, ∃ x, wayOn s = true ∧ isHead s = true ∧ s.cvn.cfg.siteEn = true ∧ s.cvn.cfg.master = false ∧
      bestParent s = some x ∧ s.way.parent = some x.naddr) ∧
    (∃ s : State, ∃ x, wayOn s = true ∧ isHead s = true ∧ s.cvn.cfg.siteEn = true ∧ s.cvn.cfg.master = false ∧
      bestParent s = some x ∧ s.way.parent ≠ some x.naddr) ∧
    (∃ s : State, ∃ i : Fin 512, mainOn s = true ∧ (∀ h, s.way.hold = some h → h.1 ≠ i.val)) ∧
    (∃ s : State, s.way.hold ≠ none) :=
  ⟨⟨wRun.put F.WAY_ST_UP 0 1, { wWay with fcOk := false }, by decide⟩,
    ⟨wRun.put F.WAY_ST_UP 0 1, { wWay with netid := 1 }, by decide⟩,
    ⟨wRun.put F.WAY_ST_UP 0 1, { wWay with ftype := 9 }, by decide⟩,
    ⟨wRun.put F.WAY_ST_UP 0 1, { wWay with nsym := 83 }, by decide⟩,
    ⟨(onWay wRun fun x => { x with air := some { wTx with dst := 0 } }).put F.WAY_ST_UP 0 1, { wWay with ftype := 2, nsym := 82 },
      { wTx with dst := 0 }, by decide⟩,
    ⟨(onSbx wRun fun x => { x with
      slots := [(8, some ⟨[0, 0, 0, 0, 0, 0, 0, 0, 0, 0, 0, 0, 0, 0, 0, 0], 0, 1, false,
      false⟩)] }).put F.WAY_ST_UP 0 1, { wWay with ftype := 1, ra := 1, payload := [0, 0, 0, 0, 0, 0, 0, 0, 105, 223, 34,
      101] }, 0, 0, 0, [], [], by decide +kernel⟩,
    ⟨(onSbx wRun fun x => { x with
      slots := [(8, some ⟨[0, 0, 0, 0, 0, 0, 0, 0, 0, 0, 0, 0, 0, 0, 0, 0], 0, 1, false,
      false⟩)] }).put F.WAY_ST_UP 0 1, { wWay with ftype := 8, ra := 1, payload := [0, 0, 0, 0, 0, 0, 0, 0, 105, 223, 34,
      101] }, 0, 0, 0, [], [], by decide +kernel⟩,
    ⟨wRun.put F.WAY_ST_UP 0 1, { wWay with rx := [[List.replicate 820 2]] }, by decide +kernel⟩,
    ⟨wRun.put F.WAY_ST_UP 0 1, { wWay with ftype := 5, rx := [[List.replicate 820 2]] }, by decide +kernel⟩,
    ⟨wRun, wWay, by decide⟩,
    ⟨(onWay wRun fun x => { x with nbr := [(0, some ({ wNbr with mode := 0 }))] }).put F.WAY_ST_UP 0 1, 0,
      { wNbr with mode := 0 }, by decide⟩,
    ⟨(onWay wRun fun x => { x with nbr := [(0, some { wNbr with mode := 1 })] }).put F.WAY_ST_UP 0 1, 0, { wNbr with mode := 1 },
      by decide⟩,
    ⟨(onWay (onPls (onCvn wRun fun x => { x with cfg := { x.cfg with en := true, siteEn := true } }) fun x => { x with
      role := true }) fun x => { x with parent := some 1 }).put F.WAY_ST_UP 0 1, 0, 0, 1, by decide⟩,
    ⟨(onPls (onCvn wRun fun x => { x with cfg := { x.cfg with en := true, siteEn := true } }) fun x => { x with
      role := true }).put F.WAY_ST_UP 0 1, by decide⟩,
    ⟨(onWay (onPls (onCvn wRun fun x => { x with cfg := { x.cfg with en := true, siteEn := true } }) fun x => { x with
      role := true }) fun x => { x with parent := some 1, nbr := [(0, some wNbr)] }).put F.WAY_ST_UP 0 1, wNbr, by decide⟩,
    ⟨(onWay (onPls (onCvn wRun fun x => { x with cfg := { x.cfg with en := true, siteEn := true } }) fun x => { x with
      role := true }) fun x => { x with nbr := [(0, some wNbr)] }).put F.WAY_ST_UP 0 1, wNbr, by decide⟩,
    ⟨wRun, 0, by decide⟩,
    ⟨onWay wRun fun x => { x with hold := some (0, none) }, by decide⟩⟩

theorem witness_KeyMessagesAreCheckedAndApplied :
    (∃ s : State, ∃ n : Fin 512, ctlOn s = true ∧ n.val = 0) ∧
    (∃ s : State, ∃ n : Fin 512, ∃ c, ctlOn s = true ∧ n.val ≠ 0 ∧ checkMessage s n = .inl c) ∧
    (∃ s : State, ctlOn s = false) ∧
    (∃ s : State, s.pwr.finalCk = true) ∧
    (∃ s : State, ctlOn s = true ∧ s.pwr.finalCk = false ∧ s.sbx.msg = none) ∧
    (∃ s : State, ∃ e : KeyEntry, ctlOn s = true ∧ s.pwr.finalCk = false ∧ s.sbx.msg = some ⟨none, [e]⟩) ∧
    (∃ s : State, ∃ target : Nat, ∃ mode : Nat, ∃ es : List KeyEntry, ctlOn s = true ∧ s.pwr.finalCk = false ∧ target < 5 ∧
      mode < 2 ∧ s.sbx.msg = some ⟨some (target, mode), es⟩) :=
  ⟨⟨wRun, 0, by decide⟩,
    ⟨wRun.put F.SBX_MCTL_BUSY 0 1, 1, 1, by decide⟩,
    ⟨onCtl (wRun) .restarting, by decide⟩,
    ⟨onPwr wRun fun x => { x with finalCk := true }, by decide⟩,
    ⟨wRun, by decide⟩,
    ⟨onSbx wRun fun x => { x with msg := some ⟨none, [⟨8, none⟩]⟩ }, ⟨8, none⟩, by decide⟩,
    ⟨onSbx wRun fun x => { x with msg := some ⟨some (0, 0), []⟩ }, 0, 0, [], by decide⟩⟩

theorem witness_PrivilegeOpenKeysAndPassport :
    (∃ s : State, mainOn s = true ∧ s.bit F.SBX_PRIV_LOCK = true) ∧
    (∃ s : State, mainOn s = true ∧ s.bit F.SBX_PRIV_LOCK = false ∧ lcs s = 0) ∧
    (∃ s : State, mainOn s = true ∧ s.bit F.SBX_PRIV_LOCK = false ∧ lcs s = 3) ∧
    (∃ s : State, mainOn s = true ∧ s.bit F.SBX_PRIV_LOCK = false ∧ lcs s ≠ 0 ∧ lcs s ≠ 3 ∧ tagOk s = false) ∧
    (∃ s : State, privileged s = false) ∧
    (∃ s : State, ∃ erase : Bool, ∃ i : Fin 256, ∃ peer : BitVec 16, ctlOn s = true ∧ privileged s = true ∧
      openBad erase i peer.toNat s = true) ∧
    (∃ s : State, ∃ erase : Bool, ∃ i : Fin 256, ∃ peer : BitVec 16, ctlOn s = true ∧ privileged s = true ∧
      openBad erase i peer.toNat s = false ∧ vaultFree s 3 = false) ∧
    (∃ s : State, ∃ erase : Bool, ∃ i : Fin 256, ∃ peer : BitVec 16, ctlOn s = true ∧ privileged s = true ∧
      openBad erase i peer.toNat s = false ∧ vaultFree s 3 = true) ∧
    (∃ s : State, ctlOn s = true ∧ privileged s = true ∧ openRefused s = true) ∧
    (∃ s : State, ctlOn s = true ∧ privileged s = true ∧ mget none s.sbx.slots 9 = none) ∧
    (∃ s : State, ctlOn s = true ∧ privileged s = true ∧ openRefused s = false ∧ mget none s.sbx.slots 9 ≠ none) ∧
    (∃ s : State, ∃ k : List Nat, ctlOn s = true ∧ slotKey s 1 = some k ∧ lcs s ≠ 0 ∧ lcs s ≠ 4 ∧ passportSoon s = true) ∧
    (∃ s : State, ∃ k : List Nat, ctlOn s = true ∧ slotKey s 1 = some k ∧ lcs s ≠ 0 ∧ lcs s ≠ 4 ∧ passportSoon s = false ∧
      vaultFree s 3 = false) ∧
    (∃ s : State, ∃ k : List Nat, ctlOn s = true ∧ slotKey s 1 = some k ∧ lcs s ≠ 0 ∧ lcs s ≠ 4 ∧ vaultFree s 3 = true) ∧
    (∃ s : State, ctlOn s = true ∧ slotKey s 1 = none) ∧
    (∃ s : State, ctlOn s = true ∧ lcs s = 0) ∧
    (∃ s : State, ctlOn s = true ∧ lcs s = 4) :=
  ⟨⟨wRun.put F.SBX_PRIV_LOCK 0 1, by decide⟩,
    ⟨wRun.put F.SBX_ST_LCS 0 0, by decide⟩,
    ⟨wRun.put F.SBX_ST_LCS 0 3, by decide⟩,
    ⟨wRun.put F.SBX_ST_LCS 0 2, by decide⟩,
    ⟨wRun, by decide⟩,
    ⟨wRun.put F.SBX_PRIV_PRIV 0 1, false, 0, 0, by decide⟩,
    ⟨((onPwr wRun fun x => { x with finalCk := true }).put F.SBX_PRIV_PRIV 0 1).put F.SBX_ST_LCS 0 2, false, 9, 0, by decide⟩,
    ⟨(wRun.put F.SBX_PRIV_PRIV 0 1).put F.SBX_ST_LCS 0 2, true, 15, 0, by decide⟩,
    ⟨wRun.put F.SBX_PRIV_PRIV 0 1, by decide⟩,
    ⟨wRun.put F.SBX_PRIV_PRIV 0 1, by decide⟩,
    ⟨((onSbx wRun fun x => { x with
      slots := [(9, some ⟨[0, 0, 0, 0, 0, 0, 0, 0, 0, 0, 0, 0, 0, 0, 0, 0], 0, 1, false,
      false⟩)] }).put F.SBX_PRIV_PRIV 0 1).put F.SBX_ST_LCS 0 2, by decide⟩,
    ⟨(onSbx wRun fun x => { x with
      slots := [(1, some ⟨[0, 0, 0, 0, 0, 0, 0, 0, 0, 0, 0, 0, 0, 0, 0, 0], 0, 1, false, false⟩)],
      respT := some 0 }).put F.SBX_ST_LCS 0 2, List.replicate 16 0, by decide⟩,
    ⟨(onSbx (onPwr wRun fun x => { x with finalCk := true }) fun x => { x with
      slots := [(1, some ⟨[], 0, 1, false, false⟩)] }).put F.SBX_ST_LCS 0 2, [], by decide⟩,
    ⟨(onSbx wRun fun x => { x with slots := [(1, some ⟨[], 0, 1, false, false⟩)] }).put F.SBX_ST_LCS 0 2, [], by decide⟩,
    ⟨wRun, by decide⟩,
    ⟨wRun.put F.SBX_ST_LCS 0 0, by decide⟩,
    ⟨wRun.put F.SBX_ST_LCS 0 4, by decide⟩⟩

theorem witness_PorterKeepsTimeAndSupply :
    (∃ s : State, s.prt.brown = true) ∧
    (∃ s : State, s.prt.brown = false ∧ holdingOk s = true ∧ mainOn s = true ∧ privileged s = true) ∧
    (∃ s : State, s.prt.brown = false ∧ holdingOk s = false ∧ mainOn s = true ∧ privileged s = true) ∧
    (∃ s : State, privileged s = false) ∧
    (∃ s : State, ∃ c : Cal, s.prt.brown = false ∧ getCal s = c ∧ c.cent < 2 ∧ c.year < 100 ∧ 1 ≤ c.mon ∧ c.mon ≤ 12 ∧ 1 ≤ c.day ∧
      c.day ≤ monthDays c.cent c.year c.mon ∧ c.hour < 24 ∧ c.min < 60 ∧ c.sec < 60) ∧
    (∃ s : State, s.fld F.PRT_PWR_PWRTO = 0) ∧
    (∃ s : State, s.fld F.PRT_PWR_PWRTO ≠ 0) :=
  ⟨⟨onPrt wRun fun x => { x with brown := true }, by decide⟩,
    ⟨(((((onPrt wRun fun x => { x with
      brown := false }).put F.SBX_PRIV_PRIV 0 1).put F.PRT_HDATE_MONTH 0 0x02).put F.PRT_HDATE_DAY 0 0x29).put F.PRT_HDATE_YEAR 0 0x24), by decide⟩,
    ⟨(onPrt wRun fun x => { x with brown := false }).put F.SBX_PRIV_PRIV 0 1, by decide⟩,
    ⟨wRun, by decide⟩,
    ⟨onPrt wRun fun x => { x with brown := false }, ⟨0, 0, 1, 1, 0, 0, 0⟩, by decide⟩,
    ⟨wRun, by decide⟩,
    ⟨wRun.put F.PRT_PWR_PWRTO 0 1, by decide⟩⟩

theorem witness_PorterSourcesFireTheirResponses :
    (∃ s : State, ∃ i : Fin 22, ∃ w : Word, mainOn s = true ∧ privileged s = true ∧ s.prt.brown = false ∧ 6 ≤ i.val ∧ i.val < 20 ∧
      F.PRT_SRC_FWIN.slice w.toNat < F.PRT_SRC_FCNT.slice w.toNat) ∧
    (∃ s : State, ∃ i : Fin 22, ∃ w : Word, mainOn s = true ∧ privileged s = true ∧ s.prt.brown = false ∧ (¬ (6 ≤ i.val ∧
      i.val < 20 ∧ F.PRT_SRC_FWIN.slice w.toNat < F.PRT_SRC_FCNT.slice w.toNat))) ∧
    (∃ s : State, ∃ n : Fin 8, ∃ level : Bool, s.prt.brown = false ∧ (s.fld F.PRT_TCFG_LOOP).testBit (n.val / 2) = false ∧
      xor (level == (s.fld F.PRT_PINS_PULL).testBit n) ((s.fld F.PRT_PINS_INV).testBit n) = true ∧ s.fld F.PRT_SRC_FCNT n = 1 ∧
      1 ≤ s.fld F.PRT_SRC_FWIN n ∧ n.val ∉ s.prt.fired ∧ s.bit F.PRT_SRC_CAP n = true ∧ s.bit F.PRT_SRC_REC n = false ∧
      s.bit F.PRT_SRC_ALERT n = false ∧ s.bit F.PRT_SRC_LOCK n = false ∧ s.bit F.PRT_SRC_WIPE n = false ∧
      s.bit F.PRT_SRC_PWR n = false) :=
  ⟨⟨(onPrt wRun fun x => { x with brown := false }).put F.SBX_PRIV_PRIV 0 1, 6, 1, by decide⟩,
    ⟨(onPrt wRun fun x => { x with brown := false }).put F.SBX_PRIV_PRIV 0 1, 0, 0, by decide⟩,
    ⟨(((onPrt wRun fun x => { x with brown := false }).put F.PRT_SRC_FCNT 0 1).put F.PRT_SRC_CAP 0 1).put F.PRT_SRC_FWIN 0 1, 0,
      false, by decide⟩⟩

theorem witness_ConverterRunsSequencesAndBursts :
    (∃ s : State, running s = true ∧ s.fld F.SAR_CFG_LEN ≠ 0 ∧ s.bit F.SAR_ST_READY = true ∧ s.sar.run = none ∧
      s.sar.delay = none ∧ s.sar.burst = none ∧ s.bit F.SAR_CFG_TRIG = false) ∧
    (∃ s : State, running s = true ∧ s.fld F.SAR_CFG_LEN ≠ 0 ∧ s.bit F.SAR_ST_READY = true ∧ s.sar.run = none ∧
      s.sar.delay = none ∧ s.sar.burst = none ∧ s.bit F.SAR_CFG_TRIG = true) ∧
    (∃ s : State, ∃ c : Instr, running s = true ∧ s.fld F.SAR_CFG_LEN ≠ 0 ∧ c = .sarTimerTrigger ∧ (sarSource s).1 = false ∧
      s.bit F.SAR_ST_READY = false) ∧
    (∃ s : State, ∃ c : Instr, running s = true ∧ s.fld F.SAR_CFG_LEN ≠ 0 ∧ c = .sarTimerTrigger ∧ (sarSource s).1 = false ∧
      s.bit F.SAR_ST_READY = true ∧ s.sar.run ≠ none) ∧
    (∃ s : State, ∃ c : Instr, running s = true ∧ s.fld F.SAR_CFG_LEN ≠ 0 ∧ c = .pwmsyncEdge (!(sarSource s).2) ∧
      (sarSource s).1 = true ∧ s.bit F.SAR_ST_READY = false) ∧
    (∃ s : State, ∃ c : Instr, running s = true ∧ s.fld F.SAR_CFG_LEN ≠ 0 ∧ c = .pwmsyncEdge (!(sarSource s).2) ∧
      (sarSource s).1 = true ∧ s.bit F.SAR_ST_READY = true ∧ s.sar.run ≠ none) ∧
    (∃ s : State, ∃ es : List (Nat × Nat), running s = true ∧ s.sar.delay = some es) ∧
    (∃ s : State, ∃ smp : Fin 64, ∃ input : Fin 16, mainOn s = true ∧ s.bit F.SAR_ST_READY = true ∧ s.sar.inj.length < 4) ∧
    (∃ s : State, ∃ smp : Fin 64, ∃ input : Fin 16, mainOn s = true ∧ s.bit F.SAR_ST_READY = true ∧ 4 ≤ s.sar.inj.length) ∧
    (∃ s : State, ∃ code : Fin 4096, ∃ eoc : Bool, ∃ i : Nat, ∃ es : List (Nat × Nat), ∃ k : Nat, ∃ smp : Nat, running s = true ∧
      s.bit F.SAR_ST_READY = true ∧ s.sar.inj = [] ∧ s.sar.burst = none ∧ s.sar.run = some (es, k) ∧ es[k]? = some (i, smp) ∧
      i < 16 ∧ (eoc && plausible s i code) = true ∧ s.sar.again = false ∧ s.bit F.SAR_RES_FAULT i = false) ∧
    (∃ s : State, ∃ code : Fin 4096, ∃ eoc : Bool, ∃ i : Nat, ∃ es : List (Nat × Nat), ∃ k : Nat, ∃ smp : Nat, running s = true ∧
      s.bit F.SAR_ST_READY = true ∧ s.sar.inj = [] ∧ s.sar.burst = none ∧ s.sar.run = some (es, k) ∧ es[k]? = some (i, smp) ∧
      i < 16 ∧ (eoc && plausible s i code) = false ∧ s.sar.again = false) ∧
    (∃ s : State, ∃ code : Fin 4096, ∃ eoc : Bool, ∃ i : Nat, ∃ es : List (Nat × Nat), ∃ k : Nat, ∃ smp : Nat, running s = true ∧
      s.bit F.SAR_ST_READY = true ∧ s.sar.inj = [] ∧ s.sar.burst = none ∧ s.sar.run = some (es, k) ∧ es[k]? = some (i, smp) ∧
      i < 16 ∧ (eoc && plausible s i code) = false ∧ s.sar.again = true) ∧
    (∃ s : State, running s = true ∧ s.sar.burst = some 68) ∧
    (∃ s : State, ∃ k : Fin 8, ∃ f : Rat, running s = true ∧ mget none s.sar.fNew k = none) ∧
    (∃ s : State, ∃ k : Fin 8, ∃ f : Rat, running s = true ∧ boundaryAt s (s.fld F.SAR_SHC_STREAM k) = false) ∧
    (∃ s : State, ∃ k : Fin 8, ∃ f : Rat, running s = true ∧ mget none s.sar.fNew k = some f ∧
      boundaryAt s (s.fld F.SAR_SHC_STREAM k) = true) :=
  ⟨⟨(wRun.put F.SAR_CFG_LEN 0 1).put F.SAR_ST_READY 0 1, by decide⟩,
    ⟨((wRun.put F.SAR_CFG_LEN 0 1).put F.SAR_ST_READY 0 1).put F.SAR_CFG_TRIG 0 1, by decide⟩,
    ⟨wRun.put F.SAR_CFG_LEN 0 1, .sarTimerTrigger, by decide⟩,
    ⟨(onSar ((wRun.put F.SAR_CFG_LEN 0 1).put F.SAR_ST_READY 0 1) fun x => { x with run := some ([], 0) }), .sarTimerTrigger,
      by decide⟩,
    ⟨(wRun.put F.SAR_CFG_LEN 0 1).put F.SAR_CFG_TRIG 0 1, .pwmsyncEdge true, by decide⟩,
    ⟨(onSar ((wRun.put F.SAR_CFG_LEN 0 1).put F.SAR_ST_READY 0 1) fun x => { x with run := some ([], 0), src := (true, false) }),
      .pwmsyncEdge true, by decide⟩,
    ⟨onSar wRun fun x => { x with delay := some [] }, [], by decide⟩,
    ⟨wRun.put F.SAR_ST_READY 0 1, 0, 0, by decide⟩,
    ⟨(onSar wRun fun x => { x with inj := [(0, 0), (0, 0), (0, 0), (0, 0)] }).put F.SAR_ST_READY 0 1, 0, 0, by decide⟩,
    ⟨(onSar wRun fun x => { x with run := some ([(0, 0)], 0) }).put F.SAR_ST_READY 0 1, 4095, true, 0, [(0, 0)], 0, 0, by decide⟩,
    ⟨(onSar wRun fun x => { x with run := some ([(0, 0)], 0) }).put F.SAR_ST_READY 0 1, 0, false, 0, [(0, 0)], 0, 0, by decide⟩,
    ⟨(onSar wRun fun x => { x with run := some ([(0, 0)], 0), again := true }).put F.SAR_ST_READY 0 1, 0, false, 0, [(0, 0)], 0,
      0, by decide⟩,
    ⟨onSar wRun fun x => { x with burst := some 68 }, by decide⟩,
    ⟨wRun, 0, 0, by decide⟩,
    ⟨onClk wRun fun x => { x with site := 1 }, 0, 0, by decide⟩,
    ⟨onSar wRun fun x => { x with fNew := [(0, some 0)] }, 0, 0, by decide⟩⟩

end Sys2Proof.Tests
end

section
/-! Every command answers a next state, which keeps the queue of waiting commands and the order of the stored fields. -/

namespace Sys2Proof.Machine

/-- A command's answer is a next state, which keeps the queue and the order of the stored fields. -/
def NextKeeps (s : State) (r : Res) : Prop := ∃ t, r = .next t ∧ Keeps s t

theorem nextKeeps_next {s t : State} (h : Keeps s t) : NextKeeps s (.next t) := ⟨t, rfl, h⟩

theorem nextKeeps_guard {s t : State} {c : Prop} [Decidable c] (h : Keeps s t) :
    NextKeeps s (.next (if c then t else s)) :=
  nextKeeps_next (Keeps_ite h (Keeps_refl s))

theorem execMainResetRelease_keeps (s : State) : NextKeeps s (execMainResetRelease s) := by
  unfold execMainResetRelease
  split
  · exact nextKeeps_next (Keeps_ite (Keeps_refl s) (resetRelease_keeps _ (Keeps_refl s)))
  · exact nextKeeps_next (Keeps_refl s)

theorem execItineraryRead_keeps (board : Option FlashImage) (noise : List (Fin 22)) (s : State) :
    NextKeeps s (execItineraryRead board noise s) := by
  cases board with
  | none => exact nextKeeps_guard (itineraryRead_keeps _ (Keeps_refl s))
  | some f => exact nextKeeps_guard (itineraryRead_keeps _ (Keeps_mk (Keeps_refl s)))

theorem execSelfCheckComplete_keeps (sp : Spare) (off gain : Rat) (s : State) :
    NextKeeps s (execSelfCheckComplete sp off gain s) := by
  have check : Keeps s (onSlot sp (selfCheck sp off gain) s) :=
    onSlot_keeps _ _ (fun _ _ h => selfCheck_keeps _ _ _ _ h) (Keeps_refl s)
  unfold execSelfCheckComplete
  split
  · exact nextKeeps_guard (refinCheck_keeps _ _ _ _ (Keeps_refl s))
  · exact nextKeeps_next check
  · exact nextKeeps_next check

/-- One arm per row of the table: the operation that the command calls keeps the queue and the order of the fields, and a guard
that fails leaves the state. -/
theorem exec_keeps (c : Instr) (s : State) : NextKeeps s (exec c s) :=
  have k := Keeps_refl s
  match c with
  | .read64LowerWord .. => nextKeeps_guard (readWord_keeps _ (Keeps_mk k))
  | .hostReadFrame .. => nextKeeps_guard (hostRead_keeps _ k)
  | .hostWriteFrame .. => nextKeeps_guard (hostWrite_keeps _ k)
  | .statusPoll .. => nextKeeps_guard (hostRead_keeps _ k)
  | .postedWriteTakesEffect .. => nextKeeps_guard (takePosted_keeps _ k)
  | .mainPowerGood => nextKeeps_guard (Keeps_mk k)
  | .mainPowerGoodFalls => nextKeeps_next (Keeps_ite k (powerGoodFalls_keeps k))
  | .nrstAsserted => nextKeeps_guard (holdReset_keeps _ _ k)
  | .mainResetRelease => execMainResetRelease_keeps s
  | .strapSample .. => nextKeeps_guard (strapSample_keeps _ k)
  | .strapPinsDriven => nextKeeps_guard (Keeps_mk k)
  | .pllMLocked => nextKeeps_guard (evalDState_keeps (Keeps_mk k))
  | .itineraryRead board noise => execItineraryRead_keeps board noise s
  | .itineraryLoaded .. => nextKeeps_guard (loadComplete_keeps _ k)
  | .ledgerIndexBuilt .. => nextKeeps_guard (indexBuilt_keeps _ _ k)
  | .controllerFirstRun .. => nextKeeps_guard (firstRun_keeps _ k)
  | .enterRun => nextKeeps_guard (enterRun_keeps k)
  | .referenceSettled => nextKeeps_guard (referenceSettled_keeps k)
  | .meteringStart .. => nextKeeps_guard (startMirrors_keeps (startMetering_keeps (reachTime_keeps _ k)))
  | .pwrRst => nextKeeps_guard (pwrRst_keeps k)
  | .pwrStby => nextKeeps_guard (pwrStby_keeps k)
  | .pwrRun => nextKeeps_guard (pwrRun_keeps k)
  | .powerFailReport .. => nextKeeps_guard (powerFail_keeps _ (reachTime_keeps _ k))
  | .finalCheckpointComplete .. => nextKeeps_guard (finalDone_keeps (reachTime_keeps _ k))
  | .powerFailRecovery => nextKeeps_guard (powerRecovery_keeps k)
  | .warmRestart => nextKeeps_guard (warmRestart_keeps k)
  | .warmRestartComplete => nextKeeps_guard (sessResume_keeps (runWaiting_keeps (restartDone_keeps k)))
  | .xclkFallback => nextKeeps_next (xclkFallback_keeps k)
  | .rcTrim => nextKeeps_next (rcTrim_keeps k)
  | .xclkReturn .. => nextKeeps_next (xclkReturn_keeps _ k)
  | .dcGridBoundary .. => nextKeeps_next (dcBoundary_keeps _ k)
  | .inputOverload .. => nextKeeps_next (inputOverload_keeps _ _ k)
  | .ovrClear .. => nextKeeps_next (ovrClear_keeps _ _ k)
  | .modulatorIntegratorReset .. => nextKeeps_next (setIntDue_keeps _ _ k)
  | .openWindowSample .. => nextKeeps_next (openSample_keeps _ _ _ k)
  | .openQualified .. => nextKeeps_next (openQualified_keeps _ k)
  | .stuckDetect .. => nextKeeps_next (stuckDetect_keeps _ k)
  | .stuckClear .. => nextKeeps_guard (lower_keeps k)
  | .densSet .. => nextKeeps_next (densSet_keeps _ _ k)
  | .densClear .. => nextKeeps_guard (lower_keeps (lower_keeps k))
  | .channelEnableApply .. => nextKeeps_next (enableApply_keeps _ k)
  | .channelDisableApply .. => nextKeeps_next (disableApply_keeps _ k)
  | .burnChangeApply .. => nextKeeps_guard (Keeps_mk k)
  | .bitstreamTimingApply .. => nextKeeps_next (timingApply_keeps _ k)
  | .bitstreamSensorApply .. => nextKeeps_guard (bareApply_keeps _ k)
  | .remountSlotStart .. => nextKeeps_next (slotStart_keeps _ _ k)
  | .selfCheckComplete sp off gain => execSelfCheckComplete_keeps sp off gain s
  | .settlingEnd .. => nextKeeps_next (onSlot_keeps _ _ (fun _ _ h => settled_keeps _ _ _ h) k)
  | .handoverMatch .. => nextKeeps_next (onSlot_keeps _ _ (fun _ _ h => handover_keeps _ _ _ h) k)
  | .crossfadeHoldTimeout .. => nextKeeps_next (onSlot_keeps _ _ (fun _ _ h => holdTimeout_keeps _ _ h) k)
  | .spliceInstant .. => nextKeeps_next (onSlot_keeps _ _ (fun _ _ h => splice_keeps _ _ h) k)
  | .modulatorOffline .. => nextKeeps_next (onSlot_keeps _ _ (fun _ _ h => goOffline_keeps _ _ h) k)
  | .offlineMeasurementComplete .. => nextKeeps_next (onSlot_keeps _ _ (fun _ _ h => offlineDone_keeps _ _ _ _ h) k)
  | .returnSettlingEnd .. => nextKeeps_next (onSlot_keeps _ _ (fun _ _ h => settled_keeps _ _ _ h) k)
  | .crossCheck .. => nextKeeps_next (onSlot_keeps _ _ (fun _ _ h => crossCheck_keeps _ _ _ h) k)
  | .spareLeavesPins .. => nextKeeps_next (onSlot_keeps _ _ (fun _ _ h => leavePins_keeps _ _ h) k)
  | .disagreementEstimate .. => nextKeeps_next (onSlot_keeps _ _ (fun _ _ h => thirdOpinion_keeps _ _ _ h) k)
  | .matchRemoval .. => nextKeeps_next (removeMatch_keeps _ k)
  | .liveChangeCrossfade .. => nextKeeps_next (onSlot_keeps _ _ (fun _ _ h => liveXfade_keeps _ _ h) k)
  | .forceSlot .. => nextKeeps_guard (hostWord_keeps _ _ _ _ (fun _ h => forceSlot_keeps _ h) k)
  | .filterResidueMismatch .. => nextKeeps_next (residueMismatch_keeps _ k)
  | .filterLaneRetry .. => nextKeeps_next (laneRetry_keeps _ _ k)
  | .scheduleRebuild => nextKeeps_next (scheduleRebuild_keeps k)
  | .ovcSet .. => nextKeeps_next (ovcSet_keeps _ _ k)
  | .ovcClear .. => nextKeeps_next (ovcClear_keeps _ _ k)
  | .stepSet .. => nextKeeps_next (stepSet_keeps _ _ k)
  | .stepClear .. => nextKeeps_next (stepClear_keeps _ _ k)
  | .fastPathHoldoffEnd .. => nextKeeps_next (Keeps_mk k)
  | .responseWarmUpEnd .. => nextKeeps_guard (warmUpEnd_keeps _ k)
  | .responseCrossfade .. => nextKeeps_guard (respCrossfade_keeps _ k)
  | .presetStateSwitch .. => nextKeeps_guard (presetSwitch_keeps _ k)
  | .settleEnd .. => nextKeeps_next (settleEnd_keeps _ k)
  | .paceChangeApply .. => nextKeeps_next (paceApply_keeps _ k)
  | .intervalEnd .. => nextKeeps_next (intervalEnd_keeps _ _ k)
  | .intervalPosting .. => nextKeeps_guard (postNext_keeps _ k)
  | .remoteSampleDeadline .. => nextKeeps_next (remoteDeadline_keeps _ _ k)
  | .mtrHoldWrite .. => nextKeeps_next (hostWord_keeps _ _ _ _ (fun _ h => mtrHoldWrite_keeps _ _ h) k)
  | .mtrHoldExpire => nextKeeps_next (mtrHoldExpire_keeps k)
  | .accQclr .. => nextKeeps_next (hostWord_keeps _ _ _ _ (fun _ h => accQclr_keeps _ h) k)
  | .metersApply .. => nextKeeps_next (metersApply_keeps _ k)
  | .periodicCheckpoint .. => nextKeeps_guard (sendSummary_keeps (writeCkpt_keeps _ (reachTime_keeps _ k)))
  | .pulseTick .. => nextKeeps_next (pulseTick_keeps _ k)
  | .pulseEnd .. => nextKeeps_next (pulseEnd_keeps _ k)
  | .pinerrClear .. => nextKeeps_next (pinClear_keeps _ k)
  | .exchangeInstant .. => nextKeeps_next (exchangeStep_keeps _ _ k)
  | .orderlyRoleChange => nextKeeps_guard (roleChange_keeps k)
  | .pulsesApply .. => nextKeeps_next (pulsesApplyAt_keeps _ k)
  | .halfCycleMark .. => nextKeeps_next (halfMark_keeps _ _ _ _ k)
  | .cycleBoundary .. => nextKeeps_next (cycleBoundary_keeps _ _ _ _ _ _ k)
  | .aligningBoundary .. => nextKeeps_next (aligningBoundary_keeps _ _ _ _ k)
  | .trackerHoldExpire .. => nextKeeps_guard (trackerHoldExpire_keeps _ k)
  | .f10sPost .. => nextKeeps_next (f10sPost_keeps _ k)
  | .cyclePhasorsPost .. => nextKeeps_next (phasorsPost_keeps _ _ (burstBegins_keeps k))
  | .windowEnd .. => nextKeeps_next (windowClose_keeps _ k)
  | .windowResultsPost .. => nextKeeps_next (windowPost_keeps _ _ (burstBegins_keeps k))
  | .harmonicBurstOverrun .. => nextKeeps_next (burstOverrun_keeps _ k)
  | .harmonicResidueMismatch .. => nextKeeps_next (hrmMismatch_keeps _ _ k)
  | .hrmHoldWrite .. => nextKeeps_next (hostWord_keeps _ _ _ _ (fun _ h => hrmHoldWrite_keeps _ _ h) k)
  | .hrmHoldExpire => nextKeeps_next (Keeps_ite k (Keeps_ite (hrmHoldExpire_keeps k) (Keeps_mk k)))
  | .gridEnableApply .. => nextKeeps_next (gridEnable_keeps _ _ k)
  | .gridDisableApply .. => nextKeeps_next (gridDisable_keeps _ _ k)
  | .gridReferenceChange .. => nextKeeps_next (gridRefChange_keeps _ _ k)
  | .disturbanceRecordPost .. => nextKeeps_guard (recordPost_keeps _ k)
  | .lowBandPeriod .. => nextKeeps_next (lowBandPeriod_keeps _ _ (burstBegins_keeps k))
  | .highBandBlock .. => nextKeeps_next (highBlock_keeps _ (burstBegins_keeps k))
  | .hbPageSelect .. => nextKeeps_next (hostWord_keeps _ _ _ _ (fun _ h => hbSelect_keeps _ _ h) k)
  | .hbPageHoldExpire => nextKeeps_next (Keeps_ite k (Keeps_ite (hbHoldExpire_keeps k) (Keeps_mk k)))
  | .trimRunStart => nextKeeps_next (onCtlOnce_keeps _ _ (fun _ h => trimTrigger_keeps h) k)
  | .trimRunComplete .. => nextKeeps_next (trimComplete_keeps _ _ k)
  | .trimResultsApply .. => nextKeeps_next (trimApply_keeps _ k)
  | .calTrig => nextKeeps_guard (onCtl_keeps _ _ (fun _ h => calTrig_keeps h) k)
  | .calStart => nextKeeps_guard (onCtl_keeps _ _ (fun _ h => calStart_keeps h) k)
  | .calCheckComplete => nextKeeps_next (onSess_keeps _ (fun _ _ h => checkComplete_keeps _ h) k)
  | .calStep => nextKeeps_guard (onCtl_keeps _ _ (fun _ h => onSess_keeps _ (fun _ _ h => calStep_keeps _ h) h) k)
  | .calSettlingEnd => nextKeeps_next (onSess_keeps _ (fun _ _ h => calSettled_keeps _ h) k)
  | .calWindowEnd .. => nextKeeps_next (onSess_keeps _ (fun _ _ h => sessWindow_keeps _ _ h) k)
  | .refinMeasureComplete .. => nextKeeps_next (onSess_keeps _ (fun _ _ h => refinMeasured_keeps _ _ _ h) k)
  | .calResult .. => nextKeeps_next (onSess_keeps _ (fun _ _ h => calResult_keeps _ _ h) k)
  | .calCommit => nextKeeps_guard (onCtl_keeps _ _ (fun _ h => commitRequest_keeps h) k)
  | .calCommitComplete .. => nextKeeps_guard (vaultFreed_keeps (onSess_keeps _ (fun _ _ h => commitComplete_keeps _ _ h) k))
  | .calAbort => nextKeeps_guard (onCtl_keeps _ _ (fun _ h => calAbort_keeps h) k)
  | .calErase .. => nextKeeps_guard (onCtl_keeps _ _ (fun _ h => calErase_keeps _ h) k)
  | .calSessionTimeout => nextKeeps_next (onCtlOnce_keeps _ _ (fun _ h => sessTimeout_keeps h) k)
  | .trainingSetReceive .. => nextKeeps_guard (trainingSet_keeps _ k)
  | .tetherTrainTimeout => nextKeeps_next (trainTimeout_keeps k)
  | .soloRetrain => nextKeeps_guard (sendSet_keeps (Keeps_mk k))
  | .digestCompare .. => nextKeeps_next (digestCompare_keeps _ _ k)
  | .tetherMark .. => nextKeeps_next (tetherMark_keeps _ _ k)
  | .tetherStateTransfer .. => nextKeeps_next (stateTransfer_keeps _ k)
  | .attachWaitExpire => nextKeeps_next (attachWaitExpire_keeps k)
  | .channelWarmingEnd .. => nextKeeps_next (Keeps_mk k)
  | .tetherLost => nextKeeps_next (tetherLost_keeps k)
  | .tetherMessageTimeout .. => nextKeeps_next (messageTimeout_keeps _ _ _ k)
  | .tetherControlReceive .. => nextKeeps_next (controlReceive_keeps _ k)
  | .twnSwap => nextKeeps_guard (twnSwap_keeps k)
  | .twnDetach => nextKeeps_guard (twnDetach_keeps k)
  | .twnAttach => nextKeeps_guard (twnAttach_keeps k)
  | .twnTake => nextKeeps_guard (twnTake_keeps k)
  | .compareRecordReceive .. => nextKeeps_next (recordReceive_keeps _ k)
  | .compareEvaluation .. => nextKeeps_next (evaluateReport_keeps _ k)
  | .witnessConnected .. => nextKeeps_next (witnessConnected_keeps _ k)
  | .twinCorrectionApply .. => nextKeeps_guard (applySpans_keeps _ k)
  | .adoptedSamplesReceive .. => nextKeeps_guard (adoptedSamples_keeps _ _ _ k)
  | .disputeRearbitrate .. => nextKeeps_next (rearbitrate_keeps _ k)
  | .digestMismatchTimeout => nextKeeps_next (digestTimeout_keeps k)
  | .sramParityError .. => nextKeeps_guard (sramError_keeps _ _ _ _ _ k)
  | .vaultWriteReadback .. => nextKeeps_guard (vaultReadback_keeps _ _ k)
  | .meteringCoreMismatch .. => nextKeeps_guard (coreMismatch_keeps _ k)
  | .pllLockLoss => nextKeeps_guard (pllLoss_keeps k)
  | .pllRelock => nextKeeps_guard (pllRelock_keeps k)
  | .pllRelockTimeout => nextKeeps_guard (pllTimeout_keeps k)
  | .recoveryWindowClose => nextKeeps_guard (closeWindow_keeps k)
  | .scrubStep .. => nextKeeps_guard (scrubStep_keeps _ k)
  | .checkerSelfTest .. => nextKeeps_guard (selfTest_keeps _ _ _ _ k)
  | .faultInject .. => nextKeeps_guard (faultInject_keeps _ _ k)
  | .linkFrameReceive .. => nextKeeps_guard (frameReceive_keeps _ _ k)
  | .linkAckReceive .. => nextKeeps_next (Keeps_ite (Keeps_ite (frameAcked_keeps _ _ k) (frameFails_keeps _ _ k)) k)
  | .frameAckTimeout .. => nextKeeps_guard (frameFails_keeps _ _ k)
  | .idleFrameSend .. => nextKeeps_guard (sendIdle_keeps _ k)
  | .linkOut .. => nextKeeps_guard (linkOut_keeps _ k)
  | .portRetrain .. => nextKeeps_guard (portRetrain_keeps _ k)
  | .ringDiscovery .. => nextKeeps_guard (discovery_keeps _ _ _ _ _ k)
  | .ringBreak .. => nextKeeps_guard (ringBroken_keeps _ _ k)
  | .timingMarkOriginate .. => nextKeeps_guard (headMark_keeps _ k)
  | .timingMarkReceive .. => nextKeeps_guard (markReceive_keeps _ _ k)
  | .linkDelayMeasure .. => nextKeeps_guard (countFrame_keeps _ (portSend_keeps _ _ (put_keeps k)))
  | .memberMarkTimeout .. => nextKeeps_guard (markTimeout_keeps _ k)
  | .headMarksLost => nextKeeps_guard (marksLost_keeps k)
  | .joinWaitExpire => nextKeeps_guard (joinWaitExpire_keeps k)
  | .caravanSampleSend .. => nextKeeps_guard (sampleSend_keeps _ _ k)
  | .cvnMselWrite .. => nextKeeps_guard (mselWrite_keeps _ _ k)
  | .cvnMselHoldExpire => nextKeeps_guard (put_keeps (endSumHold_keeps k))
  | .cvnAdjGo => nextKeeps_guard (adjGo_keeps k)
  | .siteTimeStep => nextKeeps_next (siteStep_keeps k)
  | .siteHoldover => nextKeeps_guard (siteHoldover_keeps k)
  | .beaconPeriodStart .. => nextKeeps_guard (beaconPeriod_keeps _ k)
  | .waylineFrameReceive .. => nextKeeps_guard (wayReceive_keeps _ (takeSymbols_keeps _ k))
  | .contentionSend => nextKeeps_guard (contentionSend_keeps k)
  | .waylineAckTimeout => nextKeeps_guard (onCtlOnce_keeps _ _ (fun _ h => txFail_keeps h) k)
  | .discoverySend => nextKeeps_guard (discoverySend_keeps k)
  | .neighbourAgeOut .. => nextKeeps_guard (onCtlOnce_keeps _ _ (fun _ h => removeNbr_keeps _ h) k)
  | .toneMapExpire .. => nextKeeps_guard (onCtlOnce_keeps _ _ (fun _ h => toneExpire_keeps _ h) k)
  | .parentDelayExchange .. => nextKeeps_guard (delayExchange_keeps _ _ k)
  | .parentChange => nextKeeps_guard (onCtlOnce_keeps _ _ (fun _ h => chooseParent_keeps h) k)
  | .wayTxGo .. => nextKeeps_guard (txGo_keeps _ _ _ k)
  | .wayRxNext => nextKeeps_guard (rxNext_keeps k)
  | .wayNselWrite .. => nextKeeps_guard (nselWrite_keeps _ _ k)
  | .wayNselHoldExpire => nextKeeps_guard (put_keeps (endNbrHold_keeps k))
  | .packageBegin => nextKeeps_guard (pkOp_keeps _ k)
  | .packageAppend .. => nextKeeps_guard (pkOp_keeps _ (put_keeps k))
  | .packageSubmit => nextKeeps_guard (pkOp_keeps _ k)
  | .updateValidateComplete .. => nextKeeps_guard (updValidate_keeps _ k)
  | .updateFlashWriteComplete .. => nextKeeps_guard (updWritten_keeps _ k)
  | .updateReadbackCheck .. => nextKeeps_guard (updReadback_keeps _ _ k)
  | .updateApplyInstant .. => nextKeeps_guard (updApply_keeps _ (reachTime_keeps _ k))
  | .twinUpdateWaitExpire .. => nextKeeps_guard (onCtlOnce_keeps _ _ (fun _ h => twinWaitEnd_keeps _ h) k)
  | .firmwareReadyTimeout => nextKeeps_guard (updFail_keeps _ _ (put_keeps k))
  | .updateMirrorComplete .. => nextKeeps_guard (updMirror_keeps _ _ k)
  | .keyMessageSubmit .. => nextKeeps_next (onCtl_keeps _ _ (fun _ h => keySubmit_keeps _ h) k)
  | .keyMessageApplied => nextKeeps_guard (vaultFreed_keeps (keyApplied_keeps k))
  | .privOpen => nextKeeps_guard (privOpen_keeps k)
  | .privDrop => nextKeeps_guard (privDrop_keeps k)
  | .privLockExpire => nextKeeps_next (privLockExpire_keeps k)
  | .privTimeout => nextKeeps_next (privDrop_keeps k)
  | .openKeyWrite .. => nextKeeps_guard (openAsk_keeps _ _ _ k)
  | .openKeyPromote => nextKeeps_guard (onCtl_keeps _ _ (fun _ h => openPromote_keeps h) k)
  | .passportRequest => nextKeeps_next (onCtl_keeps _ _ (fun _ h => passportRequest_keeps h) k)
  | .porterSupplySwitch .. => nextKeeps_next (Keeps_mk k)
  | .porterBrownOut => nextKeeps_next (brownOut_keeps k)
  | .calendarSecond => nextKeeps_next (Keeps_ite k (calendarSecond_keeps k))
  | .calendarCommit => nextKeeps_guard (calendarCommit_keeps k)
  | .crystalCompensation .. => nextKeeps_next (Keeps_ite k (crystalComp_keeps _ k))
  | .pclkStopDetect => nextKeeps_next (Keeps_ite k (pclkStop_keeps k))
  | .porterShadowCheck .. => nextKeeps_next (Keeps_ite k (shadowCheck_keeps _ _ _ k))
  | .batteryCheck .. => nextKeeps_next (Keeps_ite k (batteryCheck_keeps _ k))
  | .porterConfigWrite .. => nextKeeps_guard (porterWrite_keeps _ _ k)
  | .porterSourceSample .. => nextKeeps_next (Keeps_ite k (sourceSample_keeps _ k))
  | .porterSlotClear .. => nextKeeps_guard (slotClear_keeps _ k)
  | .pwronClear => nextKeeps_guard (put_keeps k)
  | .pwronTimeout => nextKeeps_next (Keeps_ite k (put_keeps k))
  | .ledgerRecordWrite => nextKeeps_next (resumeIf_keeps (ledgerWrite_keeps k))
  | .rateWindowClose .. => nextKeeps_guard (rateClose_keeps _ k)
  | .evtPendClear .. => nextKeeps_guard (evtPendClear_keeps _ _ k)
  | .irqReassert .. => nextKeeps_next (irqReassert_keeps _ k)
  | .ledgerLookup .. => nextKeeps_guard (ledgerLookup_keeps _ k)
  | .ledgerAckWrite .. => nextKeeps_guard (ledgerAck_keeps _ k)
  | .sarReferenceReady => nextKeeps_guard (sarReady_keeps k)
  | .sarTimerTrigger => nextKeeps_guard (sarTrigger_keeps _ k)
  | .pwmsyncEdge .. => nextKeeps_guard (sarTrigger_keeps _ k)
  | .sarDelayExpire => nextKeeps_guard (delayExpire_keeps k)
  | .sarConversionComplete .. => nextKeeps_guard (conversion_keeps _ _ k)
  | .sarInject .. => nextKeeps_guard (sarInject_keeps _ _ k)
  | .housekeepingDue => nextKeeps_guard (housekeepingDue_keeps k)
  | .housekeepingBurstComplete => nextKeeps_guard (burstDone_keeps k)
  | .shuntFactorApply .. => nextKeeps_guard (shuntApply_keeps _ k)
  | .vlcdUpdate => nextKeeps_guard (vlcdUpdate_keeps k)
  | .displayUpdateStart => nextKeeps_guard (updateStart_keeps k)
  | .displayPhaseEnd => nextKeeps_next (phaseEnd_keeps k)
  | .displayPumpTimeout => nextKeeps_guard (pumpTimeout_keeps k)
  | .dspShow => nextKeeps_guard (onCtl_keeps _ _ (fun _ h => dspShow_keeps h) k)
  | .dspNext => nextKeeps_guard (onCtl_keeps _ _ (fun _ h => dspNext_keeps h) k)
  | .pageDwellExpire => nextKeeps_next (onCtlOnce_keeps _ _ (fun _ h => dwellExpire_keeps h) k)
  | .vholdLow => nextKeeps_next (vholdLow_keeps k)
  | .displayPowerUpRefresh => nextKeeps_guard (powerUpRefresh_keeps k)
  | .commaLock .. => nextKeeps_guard (commaLock_keeps _ k)
  | .porterBrownOutRelease => nextKeeps_guard (brownRelease_keeps k)
  | .siteTimeSlewComplete => nextKeeps_next (slewComplete_keeps k)
  | .passportHoldExpire => nextKeeps_guard (onCtlOnce_keeps _ _ (fun _ h => passportRun_keeps h) k)

/-- A step answers a next state; it takes the front command from the queue, and keeps the rest of it. -/
theorem step_keeps (s : State) : NextKeeps { s with pending := s.pending.tail } (step s) := by
  unfold step
  split
  next hp =>
    have rest : s.pending = s.pending.tail := by rw [hp]; rfl
    exact nextKeeps_next (idle_keeps ⟨rest, id⟩)
  next c rest hp =>
    rw [hp]
    exact exec_keeps c { s with pending := rest }


/-- Settles O4: every command's operations keep the keys of the stored fields rising. -/
theorem stepKeepsFieldsRising : Obligations.StepKeepsFieldsRising := by
  intro s t hs ht
  obtain ⟨u, hu, -, hrising⟩ := step_keeps s
  cases ht.symm.trans hu
  exact hrising hs

/-- Settles O6: the meaning of each command is a next state. -/
theorem everyStepCompletes : Obligations.EveryStepCompletes :=
  ⟨fun c s => (exec_keeps c s).imp fun _ h => h.1, fun s => (step_keeps s).imp fun _ h => h.1⟩

end Sys2Proof.Machine
end

section
/-! The register map: fields are numbered in order, so a number names one field; what reset leaves of each. -/

namespace Sys2Proof.Machine

/-! ### The register map: fields are numbered in order, so a number names one field -/

theorem allFields_ids : allFields.map Fld.id = List.range 745 := by decide +kernel

theorem allFields_reset_lt : ∀ f ∈ allFields, f.reset < 2 ^ f.len := by decide +kernel

theorem field_eq_of_id {f g : Fld} (hf : f ∈ allFields) (hg : g ∈ allFields) (h : f.id = g.id) : f = g :=
  List.inj_on_of_nodup_map (allFields_ids ▸ List.nodup_range) hf hg h

theorem clsOf_id {f : Fld} (hf : f ∈ allFields) : clsOf f.id = f.cls := by
  unfold clsOf
  cases hfind : allFields.find? (·.id == f.id) with
  | none => simpa using List.find?_eq_none.1 hfind f hf
  | some g =>
    have hid : g.id = f.id := by simpa using List.find?_some hfind
    rw [field_eq_of_id (List.mem_of_find?_eq_some hfind) hf hid]
    rfl

theorem fkey_div (f : Fld) (i : Nat) : fkey f i / 65536 = f.id := by
  unfold fkey
  omega

/-- Elements share a place only where their fields have one number and their indices agree. -/
theorem fkey_eq_iff {f g : Fld} {i j : Nat} : fkey f i = fkey g j ↔ f.id = g.id ∧ i % 65536 = j % 65536 := by
  unfold fkey
  omega

/-! ### What a read of a sparse map sees of a filter, and of a key that is not listed -/

theorem mget_filter_of_true {α : Type} (d : α) (p : Nat × α → Bool) (k : Nat) (hp : ∀ v, p (k, v) = true) (m : SMap α) :
    mget d (m.filter p) k = mget d m k := by
  induction m with
  | nil => rfl
  | cons e r ih =>
    obtain ⟨j, v⟩ := e
    by_cases hj : j = k
    · subst hj
      simp [mget, hp]
    · cases hpe : p (j, v) <;> simp [mget, hpe, hj, ih]

theorem mget_of_not_listed {α : Type} (d : α) (k : Nat) (m : SMap α) (h : ∀ e ∈ m, e.1 ≠ k) : mget d m k = d := by
  induction m with
  | nil => rfl
  | cons e r ih =>
    simp only [mget, if_neg (h e List.mem_cons_self)]
    exact ih fun x hx => h x (List.mem_cons_of_mem _ hx)

theorem fget_of_not_listed {f : Fld} (hf : f ∈ allFields) {m : SMap Nat} {i : Nat} (h : ∀ e ∈ m, e.1 ≠ fkey f i) :
    fget m f i = f.reset := by
  unfold fget
  rw [mget_of_not_listed _ _ _ h, Nat.mod_eq_of_lt (allFields_reset_lt f hf)]

/-- What a happening that keeps some classes leaves of a field (R11). -/
theorem fget_keepCls {f : Fld} (hf : f ∈ allFields) (keep : Cls → Bool) (m : SMap Nat) (i : Nat) :
    fget (keepCls keep m) f i = if keep f.cls then fget m f i else f.reset := by
  have hcls : clsOf (fkey f i / 65536) = f.cls := by rw [fkey_div, clsOf_id hf]
  split
  next hk =>
    unfold fget keepCls
    rw [mget_filter_of_true _ _ _ fun v => by rw [hcls]; exact hk]
  next hk =>
    refine fget_of_not_listed hf fun e he hkey => hk ?_
    have hkept := (List.mem_filter.1 he).2
    rwa [hkey, hcls] at hkept

theorem reset_fld {f : Fld} (hf : f ∈ allFields) {i : Nat} (hi : i < 65536)
    (h : (f ≠ F.PRT_SRC_CAP ∧ f ≠ F.PRT_SRC_REC ∧ f ≠ F.PRT_SRC_ALERT) ∨ i ≠ 15) : State.reset.fld f i = f.reset := by
  have hne : ∀ g ∈ allFields, (f ≠ g ∨ i ≠ 15) → 65536 * g.id + 15 ≠ fkey f i := by
    rintro g hg hfi hkey
    obtain ⟨hid, hix⟩ := fkey_eq_iff.1 (show fkey g 15 = fkey f i by rw [← hkey]; unfold fkey; omega)
    rcases hfi with hfg | h15
    · exact hfg (field_eq_of_id hg hf hid).symm
    · omega
  have hcap := hne F.PRT_SRC_CAP (by decide +kernel) (h.imp_left And.left)
  have hrec := hne F.PRT_SRC_REC (by decide +kernel) (h.imp_left fun ⟨_, hr, _⟩ => hr)
  have halert := hne F.PRT_SRC_ALERT (by decide +kernel) (h.imp_left fun ⟨_, _, ha⟩ => ha)
  refine fget_of_not_listed hf fun e he => ?_
  simp only [State.reset, List.mem_cons, List.not_mem_nil, or_false] at he
  rcases he with rfl | rfl | rfl
  · exact hcap
  · exact hrec
  · exact halert


/-- Settles O5: a field that reset does not list reads its reset value. -/
theorem resetFieldsAtResetValues : Obligations.ResetFieldsAtResetValues :=
  ⟨rfl, by decide, rfl, fun _ hf _ hi h => reset_fld hf hi h, by decide, by decide, by decide⟩

end Sys2Proof.Machine
end

section
/-! What a main reset keeps (R419, R422, R424). -/

namespace Sys2Proof.Machine

/-- From s to t the retained state of Table 22-6 stands: the fields of classes P and V keep their values, every other field is at
its reset value, and the porter, what the Vault and the flash hold, and the waiting commands are untouched. -/
def Retained (s t : State) : Prop :=
  t.pending = s.pending ∧
    (∀ f ∈ allFields, ∀ i < 65536, t.fld f i = if f.cls = .P ∨ f.cls = .V then s.fld f i else f.reset) ∧
    t.prt = s.prt ∧ t.ldg.pos = s.ldg.pos ∧ t.cal.sets = s.cal.sets ∧ t.sbx.slots = s.sbx.slots ∧
    t.itn.flash = s.itn.flash ∧ t.rmt.stored = s.rmt.stored ∧ (s.pwr.finalCk = false → t.mtr.ring = s.mtr.ring)

theorem mainReset_fld {f : Fld} (hf : f ∈ allFields) (i : Nat) (s : State) :
    (mainReset s).fld f i = if f.cls = .P ∨ f.cls = .V then s.fld f i else f.reset := by
  refine (fget_keepCls hf (fun c => c == .P || c == .V) s.flds i).trans ?_
  cases f.cls <;> rfl

/-- A final checkpoint that is cut off costs a position of the ring, and nothing else. -/
theorem cutCkpt_eq (s : State) : ∃ ring, cutCkpt s = { s with mtr := { s.mtr with ring := ring } } ∧
    (s.pwr.finalCk = false → ring = s.mtr.ring) := by
  unfold cutCkpt
  split
  next hck =>
    split
    · exact ⟨_, rfl, fun h => absurd hck (by simp [h])⟩
    · exact ⟨s.mtr.ring, rfl, fun _ => rfl⟩
  next => exact ⟨s.mtr.ring, rfl, fun _ => rfl⟩

/-- Switching the display off writes DSP_ST alone, whose fields are of class L. -/
theorem displayOff_eq (s : State) : ∃ m dsp, displayOff s = { s with flds := m, dsp := dsp } ∧
    ∀ f ∈ allFields, f.cls ≠ .L → ∀ i, fget m f i = s.fld f i := by
  have hne : ∀ g ∈ allFields, g.cls = .L → ∀ f ∈ allFields, f.cls ≠ .L → ∀ i j, fkey g j ≠ fkey f i :=
    fun g hg hgl f hf hfl i j => fkey_ne _ _ _ _ fun hid => hfl (field_eq_of_id hg hf hid ▸ hgl)
  have hstate := hne F.DSP_ST_STATE (by decide +kernel) rfl
  have hvlcd := hne F.DSP_ST_VLCD (by decide +kernel) rfl
  unfold displayOff showDsp
  split
  · exact ⟨_, _, rfl, fun f hf hc i => put_fld_other _ _ _ _ _ _ (hstate f hf hc i 0)⟩
  · exact ⟨_, _, rfl, fun f hf hc i => (put_fld_other _ _ _ _ _ _ (hstate f hf hc i 0)).trans
      (put_fld_other _ _ _ _ _ _ (hvlcd f hf hc i 0))⟩

/-- A main reset sees nothing of what cutting a checkpoint and switching the display off have changed but the ring. -/
theorem retained_mainReset (s : State) (m : SMap Nat) (dsp : DspSt) (ring : SMap CkPos)
    (hm : ∀ f ∈ allFields, f.cls ≠ .L → ∀ i, fget m f i = s.fld f i) (hring : s.pwr.finalCk = false → ring = s.mtr.ring) :
    Retained s (mainReset { s with flds := m, dsp := dsp, mtr := { s.mtr with ring := ring } }) := by
  refine ⟨rfl, fun f hf i _ => ?_, rfl, rfl, rfl, rfl, rfl, rfl, hring⟩
  rw [mainReset_fld hf]
  split
  next hc => exact hm f hf (by rcases hc with hc | hc <;> simp [hc]) i
  next => rfl

/-- Each source of main reset leaves the retained state, and the power state and source it is called with. -/
theorem holdReset_spec (st : MState) (src : RstSrc) (s : State) :
    (holdReset st src s).pwr.mstate = st ∧ (holdReset st src s).pwr.reset = some src ∧ Retained s (holdReset st src s) := by
  refine ⟨rfl, rfl, ?_⟩
  unfold holdReset
  split
  next =>
    obtain ⟨m, dsp, hoff, hm⟩ := displayOff_eq s
    obtain ⟨ring, hcut, hring⟩ := cutCkpt_eq (displayOff s)
    rw [hoff] at hcut hring
    rw [hoff, hcut]
    exact retained_mainReset s m dsp ring hm hring
  next =>
    obtain ⟨ring, hcut, hring⟩ := cutCkpt_eq s
    rw [hcut]
    exact retained_mainReset s s.flds s.dsp ring (fun _ _ _ _ => rfl) hring


/-- Settles O15: each of the three sources holds the same reset. -/
theorem mainResetKeepsRetainedState : Obligations.MainResetKeepsRetainedState := by
  intro s
  refine ⟨fun hback => ?_, fun hon => ?_, fun hon hpriv hst => ?_⟩
  · refine ⟨powerGoodFalls s, congrArg Host.Outcome.next (if_neg hback), ?_⟩
    unfold powerGoodFalls
    split
    · exact holdReset_spec .backup .power { s with ldg := { s.ldg with loss := s.ldg.queue.length } }
    · exact holdReset_spec .backup .power s
  · exact ⟨_, congrArg Host.Outcome.next (if_pos hon), holdReset_spec .standby .nrst s⟩
  · have hreq : (mainOn s && privileged s) = true := by rw [hon, hpriv]; rfl
    have hrst : pwrRst s = holdReset .standby .host s := if_pos hst
    exact ⟨_, congrArg Host.Outcome.next ((if_pos hreq).trans hrst), holdReset_spec .standby .host s⟩

end Sys2Proof.Machine
end

section
/-! Register words: the layout of fields in a word, what a word read shows, and what a plain word written does (R8, R9). -/

namespace Sys2Proof.Machine

/-! ### The layout of a register -/

/-- Fields from high bits to low bits, below bit b, no two overlapping. -/
def descends : Nat → List Fld → Bool
  | _, [] => true
  | b, f :: fs => decide (f.lo + f.len ≤ b) && descends f.lo fs

theorem descends_cons {b : Nat} {f : Fld} {fs : List Fld} :
    descends b (f :: fs) = true ↔ f.lo + f.len ≤ b ∧ descends f.lo fs = true := by
  simp [descends]

theorem descends_mono {b c : Nat} {fs : List Fld} (hbc : b ≤ c) (h : descends b fs = true) : descends c fs = true := by
  cases fs with
  | nil => rfl
  | cons f fs =>
    obtain ⟨hf, hfs⟩ := descends_cons.1 h
    exact descends_cons.2 ⟨hf.trans hbc, hfs⟩

theorem descends_filter (p : Fld → Bool) {b : Nat} {fs : List Fld} (h : descends b fs = true) :
    descends b (fs.filter p) = true := by
  induction fs generalizing b with
  | nil => rfl
  | cons f fs ih =>
    obtain ⟨hf, hfs⟩ := descends_cons.1 h
    rw [List.filter_cons]
    split
    · exact descends_cons.2 ⟨hf, ih hfs⟩
    · exact ih (descends_mono (by omega) hfs)

theorem lt_of_mem_descends {b : Nat} {fs : List Fld} (h : descends b fs = true) {f : Fld} (hf : f ∈ fs) :
    f.lo + f.len ≤ b := by
  induction fs generalizing b with
  | nil => cases hf
  | cons g fs ih =>
    obtain ⟨hg, hfs⟩ := descends_cons.1 h
    rcases List.mem_cons.1 hf with rfl | hf
    · exact hg
    · have := ih hfs hf
      omega

/-- Each register but INP_CFG, which has two layouts, lists its fields from high bits to low bits. -/
theorem regTable_descends : ∀ r ∈ regTable, r.rid ≠ R.INP_CFG.rid → descends 32 r.fields = true := by decide +kernel

theorem eq_INP_CFG_of_rid : ∀ r ∈ regTable, r.rid = R.INP_CFG.rid → r = R.INP_CFG := by decide +kernel

theorem regTable_ids_nodup : ∀ r ∈ regTable, (r.fields.map Fld.id).Nodup := by decide +kernel

/-- The fields of an element are some of the register's, or one field of it cut short. -/
theorem fieldsAt_eq (r : RegRow) (i : Nat) : (∃ p, fieldsAt r i = r.fields.filter p) ∨ ∃ f, fieldsAt r i = [f] := by
  unfold fieldsAt
  repeat' split
  · exact .inl ⟨_, rfl⟩
  · exact .inl ⟨_, rfl⟩
  · exact .inr ⟨_, rfl⟩
  · exact .inr ⟨_, rfl⟩
  · exact .inl ⟨_, rfl⟩
  · exact .inl ⟨_, rfl⟩
  · exact .inl ⟨fun _ => true, by simp⟩

theorem fieldsAt_ids_nodup {r : RegRow} (hr : r ∈ regTable) (i : Nat) : ((fieldsAt r i).map Fld.id).Nodup := by
  rcases fieldsAt_eq r i with ⟨p, h⟩ | ⟨f, h⟩
  · rw [h]
    exact (regTable_ids_nodup r hr).sublist (List.filter_sublist.map _)
  · simp [h]

theorem fieldsAt_descends {r : RegRow} (hr : r ∈ regTable) (i : Nat) : descends 32 (fieldsAt r i) = true := by
  by_cases hinp : r.rid = R.INP_CFG.rid
  · rw [eq_INP_CFG_of_rid r hr hinp]
    unfold fieldsAt
    rw [if_pos rfl]
    split <;> decide
  · have hd := regTable_descends r hr hinp
    unfold fieldsAt
    rw [if_neg hinp]
    repeat' split
    · decide
    · decide
    · exact descends_filter _ hd
    · exact descends_filter _ hd
    · exact hd

/-! ### A word made of fields -/

/-- The word that holds value `v f` in the place of each field f. -/
def packed (v : Fld → Nat) : List Fld → Nat
  | [] => 0
  | f :: fs => 2 ^ f.lo * v f + packed v fs

theorem foldl_packed (v : Fld → Nat) (fs : List Fld) (a : Nat) :
    fs.foldl (fun a f => a + v f * 2 ^ f.lo) a = a + packed v fs := by
  induction fs generalizing a with
  | nil => rfl
  | cons f fs ih =>
    rw [List.foldl_cons, ih, packed]
    ring

theorem viewReg_eq_packed (s : State) (r : RegRow) (i : Nat) :
    viewReg s r i = packed (fun f => viewF s f i) (fieldsAt r i) :=
  (foldl_packed (fun f => viewF s f i) (fieldsAt r i) 0).trans (Nat.zero_add _)

section Packed

variable {v : Fld → Nat} (hv : ∀ f, v f < 2 ^ f.len)
include hv

theorem packed_lt {b : Nat} {fs : List Fld} (h : descends b fs = true) : packed v fs < 2 ^ b := by
  induction fs generalizing b with
  | nil => exact Nat.two_pow_pos b
  | cons f fs ih =>
    obtain ⟨hf, hfs⟩ := descends_cons.1 h
    calc 2 ^ f.lo * v f + packed v fs
        < 2 ^ f.lo * v f + 2 ^ f.lo := Nat.add_lt_add_left (ih hfs) _
      _ = 2 ^ f.lo * (v f + 1) := rfl
      _ ≤ 2 ^ f.lo * 2 ^ f.len := Nat.mul_le_mul_left _ (hv f)
      _ = 2 ^ (f.lo + f.len) := (Nat.pow_add _ _ _).symm
      _ ≤ 2 ^ b := Nat.pow_le_pow_right (by decide) hf

/-- The highest field stands above the rest of the word. -/
theorem packed_cons_testBit {b : Nat} {f : Fld} {fs : List Fld} (h : descends b (f :: fs) = true) (j : Nat) :
    (packed v (f :: fs)).testBit j = if j < f.lo then (packed v fs).testBit j else (v f).testBit (j - f.lo) :=
  Nat.testBit_two_pow_mul_add _ (packed_lt hv (descends_cons.1 h).2) _

theorem packed_testBit_of_mem {b : Nat} {fs : List Fld} (h : descends b fs = true) {f : Fld} (hf : f ∈ fs) {k : Nat}
    (hk : k < f.len) : (packed v fs).testBit (f.lo + k) = (v f).testBit k := by
  induction fs generalizing b with
  | nil => cases hf
  | cons g fs ih =>
    rw [packed_cons_testBit hv h]
    obtain ⟨-, hfs⟩ := descends_cons.1 h
    rcases List.mem_cons.1 hf with rfl | hf
    · rw [if_neg (by omega), Nat.add_sub_cancel_left]
    · have := lt_of_mem_descends hfs hf
      rw [if_pos (by omega), ih hfs hf]

theorem packed_testBit_outside {b : Nat} {fs : List Fld} (h : descends b fs = true) {j : Nat}
    (hj : ∀ f ∈ fs, ¬ (f.lo ≤ j ∧ j < f.lo + f.len)) : (packed v fs).testBit j = false := by
  induction fs generalizing b with
  | nil => exact Nat.zero_testBit j
  | cons f fs ih =>
    rw [packed_cons_testBit hv h]
    split
    · exact ih (descends_cons.1 h).2 fun g hg => hj g (List.mem_cons_of_mem _ hg)
    · have := hj f List.mem_cons_self
      exact Nat.testBit_eq_false_of_lt ((hv f).trans_le (Nat.pow_le_pow_right (by decide) (by omega)))

theorem slice_packed {b : Nat} {fs : List Fld} (h : descends b fs = true) {f : Fld} (hf : f ∈ fs) :
    f.slice (packed v fs) = v f := by
  refine Nat.eq_of_testBit_eq fun k => ?_
  unfold Fld.slice
  rw [Nat.testBit_mod_two_pow, Nat.testBit_div_two_pow]
  by_cases hk : k < f.len
  · rw [Nat.add_comm k, packed_testBit_of_mem hv h hf hk]
    simp [hk]
  · have := Nat.testBit_eq_false_of_lt ((hv f).trans_le (Nat.pow_le_pow_right (by decide) (Nat.le_of_not_lt hk)))
    simp [hk, this]

end Packed

theorem viewF_lt (s : State) (i : Nat) (f : Fld) : viewF s f i < 2 ^ f.len := by
  unfold viewF
  split
  · exact Nat.mod_lt _ (Nat.two_pow_pos _)
  · split
    · exact Nat.two_pow_pos _
    · exact fld_lt s f i

/-- Settles O12: the fields of a register do not overlap, so each stands in its place. -/
theorem reservedBitsReadZero : Obligations.ReservedBitsReadZero := by
  intro s r i hr _
  have hv : ∀ f, viewF s f i < 2 ^ f.len := viewF_lt s i
  have hd := fieldsAt_descends hr i
  rw [viewReg_eq_packed]
  exact ⟨packed_lt hv hd, fun f hf => slice_packed hv hd hf, fun _ _ hb => packed_testBit_outside hv hd hb⟩

/-! ### A word written to a register without an effect of its own (R9) -/

/-- What the bits of a word do to one field, by its access code. -/
def writeF (i w : Nat) (s : State) (f : Fld) : State :=
  match f.acc with
  | .ro => s
  | .rw => s.put f i (f.slice w)
  | .wo => s.put f i (f.slice w)
  | .w1c => s.put f i (s.fld f i &&& (f.slice w ^^^ f.top))
  | .live => if f.cfg || f.slice w == viewF s f i then s else s.put f i (f.slice w)

theorem plainWrite_eq_foldl (r : RegRow) (i w : Nat) (s : State) :
    plainWrite r i w s = (fieldsAt r i).foldl (writeF i w) s := rfl

theorem writeF_fld_other (i w : Nat) (s : State) {f g : Fld} {j : Nat} (h : fkey f i ≠ fkey g j) :
    (writeF i w s f).fld g j = s.fld g j := by
  unfold writeF
  split
  · rfl
  · exact put_fld_other _ _ _ _ _ _ h
  · exact put_fld_other _ _ _ _ _ _ h
  · exact put_fld_other _ _ _ _ _ _ h
  · split
    · rfl
    · exact put_fld_other _ _ _ _ _ _ h

theorem foldl_writeF_fld_other (i w : Nat) {g : Fld} {j : Nat} (fs : List Fld) (s : State)
    (h : ∀ f ∈ fs, fkey f i ≠ fkey g j) : (fs.foldl (writeF i w) s).fld g j = s.fld g j := by
  induction fs generalizing s with
  | nil => rfl
  | cons f fs ih =>
    rw [List.foldl_cons, ih _ fun e he => h e (List.mem_cons_of_mem _ he), writeF_fld_other _ _ _ (h f List.mem_cons_self)]

/-- Each field of a register meets its own bits of the word only, in a state where it still has its value. -/
theorem foldl_writeF_fld_mem (i w : Nat) {f : Fld} (fs : List Fld) (s : State) (hnd : (fs.map Fld.id).Nodup) (hf : f ∈ fs) :
    ∃ u : State, u.fld f i = s.fld f i ∧ (fs.foldl (writeF i w) s).fld f i = (writeF i w u f).fld f i := by
  induction fs generalizing s with
  | nil => cases hf
  | cons g fs ih =>
    obtain ⟨hg, hnd⟩ := List.nodup_cons.1 hnd
    have hne : ∀ e ∈ fs, e.id ≠ g.id := fun e he hid => hg (hid ▸ List.mem_map_of_mem he)
    rw [List.foldl_cons]
    rcases List.mem_cons.1 hf with rfl | hf
    · exact ⟨s, rfl, foldl_writeF_fld_other _ _ _ _ fun e he => fkey_ne _ _ _ _ (hne e he)⟩
    · obtain ⟨u, hu, hw⟩ := ih (writeF i w s g) hnd hf
      exact ⟨u, hu.trans (writeF_fld_other _ _ _ (fkey_ne _ _ _ _ (hne f hf).symm)), hw⟩

theorem slice_lt (f : Fld) (w : Nat) : f.slice w < 2 ^ f.len := Nat.mod_lt _ (Nat.two_pow_pos _)

theorem put_slice_fld (s : State) (f : Fld) (i w : Nat) : (s.put f i (f.slice w)).fld f i = f.slice w := by
  rw [put_fld_same, Nat.mod_eq_of_lt (slice_lt f w)]

/-- Ones written clear, bit by bit. -/
theorem testBit_clear (f : Fld) (x y : Nat) {b : Nat} (hb : b < f.len) :
    ((x &&& (y ^^^ f.top)) % 2 ^ f.len).testBit b = (x.testBit b && !y.testBit b) := by
  simp [Fld.top, Nat.testBit_mod_two_pow, Nat.testBit_two_pow_sub_one, hb]

/-- A field that is not computed shows its stored value. -/
theorem viewF_stored (s : State) {f : Fld} (i : Nat) (hc : ∀ e ∈ computed, e.1.id ≠ f.id) (hwo : f.acc ≠ .wo) :
    viewF s f i = s.fld f i := by
  have hnone : computed.find? (fun e => e.1.id == f.id) = none :=
    List.find?_eq_none.2 fun e he => by simpa using hc e he
  unfold viewF
  rw [hnone]
  exact if_neg hwo

/-- Settles O11: a register's fields have different numbers, so each is written once, by its own access code. -/
theorem plainWriteFollowsAccessCode : Obligations.PlainWriteFollowsAccessCode := by
  intro s r i w hr _
  rw [plainWrite_eq_foldl]
  refine ⟨fun f hf => ?_, fun g j h => foldl_writeF_fld_other i w _ s h⟩
  obtain ⟨u, hu, hw⟩ := foldl_writeF_fld_mem i w _ s (fieldsAt_ids_nodup hr i) hf
  rw [hw, ← hu]
  refine ⟨fun ha => ?_, fun ha => ?_, fun ha b hb => ?_, fun ha hcfg => ?_, fun ha hcfg hcomp => ?_⟩
  · simp only [writeF, ha]
  · rcases ha with ha | ha <;> simp only [writeF, ha, put_slice_fld]
  · simp only [writeF, ha, put_fld_same, testBit_clear f _ _ hb]
  · simp only [writeF, ha, hcfg, Bool.true_or, if_true]
  · have hview : viewF u f i = u.fld f i := viewF_stored u i hcomp (by simp [ha])
    simp only [writeF, ha, hcfg, hview, Bool.false_or, beq_iff_eq]
    split
    next heq => exact heq.symm
    next => exact put_slice_fld u f i w

end Sys2Proof.Machine
end

section
/-! The host port: what a word read sees, polls, and the status word (chapter 21). -/

namespace Sys2Proof.Machine

/-! ### What registers show does not depend on the host port's own state -/

/-- Each field that is computed when it is read is computed without the host port's own state. -/
theorem computed_host (s : State) (x : HostSt) (i : Nat) : ∀ e ∈ computed, e.2 { s with host := x } i = e.2 s i :=
  List.map_inj_left.1 (rfl : computed.map (fun e => e.2 { s with host := x } i) = computed.map fun e => e.2 s i)

theorem viewF_host (s : State) (x : HostSt) (f : Fld) (i : Nat) : viewF { s with host := x } f i = viewF s f i := by
  unfold viewF
  cases hfind : computed.find? (fun e => e.1.id == f.id) with
  | none => rfl
  | some e => exact congrArg (· % 2 ^ f.len) (computed_host s x i e (List.mem_of_find?_eq_some hfind))

theorem viewReg_host (s : State) (x : HostSt) (r : RegRow) (i : Nat) : viewReg { s with host := x } r i = viewReg s r i := by
  unfold viewReg
  simp only [viewF_host]

theorem viewAddr_host (s : State) (x : HostSt) (addr : Nat) : viewAddr { s with host := x } addr = viewAddr s addr := by
  unfold viewAddr
  simp only [viewReg_host]

theorem statusWord_host (s : State) (x : HostSt) (h : Header) (result fidx : Nat) (dup : Bool) :
    statusWord { s with host := x } h result fidx dup = statusWord s h result fidx dup := by
  unfold statusWord
  rw [viewReg_host]
  rfl

/-! ### The status word (R406) -/

theorem mstateCode_lt (s : State) : mstateCode s < 4 := by
  unfold mstateCode
  repeat' split
  all_goals decide

theorem statusWord_fields (s : State) (h : Header) (result fidx : Nat) (dup : Bool) (hfidx : fidx < 512)
    (htag : h.tag < 16) :
    let w := statusWord s h result fidx dup
    w / 2 ^ 28 = result ∧ w / 2 ^ 27 % 2 = (if dup then 1 else 0) ∧ w / 2 ^ 26 % 2 = (if privileged s then 1 else 0) ∧
      w / 2 ^ 24 % 4 = mstateCode s ∧ w / 2 ^ 20 % 16 = h.tag ∧ w / 2 ^ 11 % 512 = fidx ∧
      w % 2 ^ 11 = viewReg s R.EVT_STAT 0 % 2 ^ 11 := by
  have hms := mstateCode_lt s
  have hev : viewReg s R.EVT_STAT 0 % 2 ^ 11 < 2 ^ 11 := Nat.mod_lt _ (by decide)
  simp only [statusWord]
  generalize viewReg s R.EVT_STAT 0 % 2 ^ 11 = ev at *
  generalize mstateCode s = ms at *
  cases dup <;> cases privileged s <;> simp only [Bool.false_eq_true, if_true, if_false] <;> omega

/-! ### Polls, and reads of a lower word (R403, R404) -/

theorem hostRead_poll {s : State} {hdr : List Byte} {h : Header} (hh : header hdr = some h) (hlen : h.len = 0)
    (hresv : h.resv = 0) : hostRead hdr s = pollFrame h (hostFrame s) := by
  have hbad : h.bad = false := by simp [Header.bad, hlen, hresv]
  simp [hostRead, hh, hbad, hlen]

/-- The poll's answer is the status word of the state polled. -/
theorem pollFrame_hostFrame (h : Header) (s : State) :
    pollFrame h (hostFrame s) = respond [] (statusWord s h 0 0 false) (hostFrame s) := by
  unfold pollFrame hostFrame
  rw [statusWord_host]

theorem exec_statusPoll {s : State} {hdr : List Byte} {h : Header} (hon : mainOn s = true) (hh : header hdr = some h)
    (hlen : h.len = 0) (hresv : h.resv = 0) :
    exec (.statusPoll hdr) s = .next (respond [] (statusWord s h 0 0 false) (hostFrame s)) := by
  show execStatusPoll hdr s = _
  unfold execStatusPoll
  rw [hostRead_poll hh hlen hresv, pollFrame_hostFrame]
  simp [hon, hh, hlen]

/-- A lower word that no capture waits for is shown as it is, and its upper word is captured. -/
theorem readWord_lower {s : State} {addr : Nat} (hcapt : mget none s.host.capt addr = none) (hlow : isLower addr = true) :
    (readWord addr s).2 =
      { s with host := { s.host with capt := mput none s.host.capt (addr + 4) (some (viewAddr s (addr + 4))) } } := by
  simp [readWord, hcapt, hlow]

theorem exec_read64LowerWord {s : State} {addr : Nat} (hon : mainOn s = true) (hlow : isLower addr = true) :
    exec (.read64LowerWord addr) s = .next { s with host := { s.host with
      capt := mput none (mput none s.host.capt addr none) (addr + 4) (some (viewAddr s (addr + 4))) } } := by
  show execRead64LowerWord addr s = _
  unfold execRead64LowerWord
  rw [hon, hlow, readWord_lower (by simp) hlow, viewAddr_host]
  rfl

/-- Settles O8: the answer of a poll and the capture of an upper word are taken from the state before the host port's own state
changes, and a status word's parts do not overlap. -/
theorem pollsAndStatusWord : Obligations.PollsAndStatusWord := by
  refine ⟨⟨fun s hdr h hon hh hlen hresv => ?_, fun s addr hon hlow => ?_⟩,
    fun s h result fidx dup _ hfidx htag => statusWord_fields s h result fidx dup hfidx htag⟩
  · refine ⟨_, exec_statusPoll hon hh hlen hresv, rfl, rfl, rfl, ?_⟩
    simp [respond]
  · exact ⟨_, exec_read64LowerWord hon hlow, rfl, by simp, rfl⟩

end Sys2Proof.Machine
end

section
/-! Clearing pending events, and the interrupt lines (R363, R411). -/

namespace Sys2Proof.Machine

/-! ### Clearing pending bits (R363, R411) -/

theorem evtPendClear_flds (k mask : Nat) (s : State) : (evtPendClear k mask s).flds =
    fput s.flds F.EVT_PEND_PEND k (s.fld F.EVT_PEND_PEND k &&& (mask ^^^ 0xFFFFFFFF)) := rfl

theorem evtPendClear_fld_field (k mask : Nat) (s : State) {f : Fld} (i : Nat) (h : F.EVT_PEND_PEND.id ≠ f.id) :
    (evtPendClear k mask s).fld f i = s.fld f i := put_fld_field s _ _ _ _ _ h

theorem evtPendClear_spares (k mask : Nat) (s : State) : Spares [(F.EVT_PEND_PEND, k)] s (evtPendClear k mask s) :=
  fun _ _ h => put_fld_other s _ _ _ _ _ (h (F.EVT_PEND_PEND, k) List.mem_cons_self)

/-- An event stays pending unless its bit is written as one. -/
theorem pendingEvt_evtPendClear {k e : Nat} (mask : Nat) (s : State) (hk : k < 4) (he : e < 128) :
    pendingEvt (evtPendClear k mask s) e = (pendingEvt s e && !(e / 32 == k && mask.testBit (e % 32))) := by
  unfold pendingEvt State.fld
  rw [evtPendClear_flds]
  by_cases hke : e / 32 = k
  · subst hke
    rw [fget_fput_same]
    simp only [beq_self_eq_true, Bool.true_and]
    exact testBit_clear F.EVT_PEND_PEND _ _ (Nat.mod_lt _ (by decide))
  · rw [fget_fput_other _ _ _ _ _ _ fun h => hke ?_]
    · simp [hke]
    · obtain ⟨-, hix⟩ := fkey_eq_iff.1 h
      omega

/-- The events whose pending bits a write of EVT_PEND[k] clears. -/
def goneEvts (k mask : Nat) (s : State) : List Nat :=
  (List.range 32).filterMap fun b =>
    if (s.fld F.EVT_PEND_PEND k).testBit b && mask.testBit b then some (32 * k + b) else none

theorem mem_goneEvts {k : Nat} (mask : Nat) (s : State) (hk : k < 4) (e : Nat) :
    e ∈ goneEvts k mask s ↔ e < 128 ∧ pendingEvt s e = true ∧ pendingEvt (evtPendClear k mask s) e = false := by
  have hword : ∀ b < 32, (32 * k + b) / 32 = k ∧ (32 * k + b) % 32 = b := by omega
  simp only [goneEvts, List.mem_filterMap, List.mem_range, Option.ite_none_right_eq_some, Bool.and_eq_true,
    Option.some.injEq]
  constructor
  · rintro ⟨b, hb, ⟨hold, hmask⟩, rfl⟩
    obtain ⟨hq, hr⟩ := hword b hb
    have hpend : pendingEvt s (32 * k + b) = true := by rwa [pendingEvt, hq, hr]
    have he : 32 * k + b < 128 := by omega
    refine ⟨he, hpend, ?_⟩
    rw [pendingEvt_evtPendClear mask s hk he, hpend, hq, hr, hmask]
    simp
  · rintro ⟨he, hpend, hgone⟩
    rw [pendingEvt_evtPendClear mask s hk he, hpend] at hgone
    simp only [Bool.true_and, Bool.not_eq_false', Bool.and_eq_true, beq_iff_eq] at hgone
    obtain ⟨rfl, hmask⟩ := hgone
    exact ⟨e % 32, Nat.mod_lt _ (by decide), ⟨hpend, hmask⟩, Nat.div_add_mod e 32⟩

/-- Is a line, by its routing field, released by a write: did the write clear an event routed to it and leave another pending? -/
def releasesLine (f : Fld) (s t : State) : Prop :=
  (∃ e < 128, s.bit f e = true ∧ pendingEvt s e = true ∧ pendingEvt t e = false) ∧
    ∃ e < 128, s.bit f e = true ∧ pendingEvt t e = true

/-- The condition under which `evtPendClear` opens a gap in a line. -/
theorem routedBy_gone_iff {k : Nat} (mask : Nat) (s : State) (hk : k < 4) (f : Fld) (hf : F.EVT_PEND_PEND.id ≠ f.id) :
    (routedBy (evtPendClear k mask s) f (goneEvts k mask s) &&
      routedBy (evtPendClear k mask s) f (pendingList (evtPendClear k mask s))) = true ↔
    releasesLine f s (evtPendClear k mask s) := by
  have hbit : ∀ e, (evtPendClear k mask s).bit f e = s.bit f e := fun e => by
    unfold State.bit
    rw [evtPendClear_fld_field _ _ _ _ hf]
  simp only [routedBy, pendingList, releasesLine, Bool.and_eq_true, List.any_eq_true, List.mem_filter, List.mem_range,
    mem_goneEvts mask s hk, hbit]
  grind

theorem evtPendClear_gap0 (k mask : Nat) (s : State) : (evtPendClear k mask s).evt.gap0 = (s.evt.gap0 ||
    (routedBy (evtPendClear k mask s) F.EVT_CFG_IRQ0 (goneEvts k mask s) &&
      routedBy (evtPendClear k mask s) F.EVT_CFG_IRQ0 (pendingList (evtPendClear k mask s)))) := rfl

theorem evtPendClear_gap1 (k mask : Nat) (s : State) : (evtPendClear k mask s).evt.gap1 = (s.evt.gap1 ||
    (routedBy (evtPendClear k mask s) F.EVT_CFG_IRQ1 (goneEvts k mask s) &&
      routedBy (evtPendClear k mask s) F.EVT_CFG_IRQ1 (pendingList (evtPendClear k mask s)))) := rfl

/-- Settles O21: the events that the write clears are those that stop being pending. -/
theorem pendingBitsAreCleared : Obligations.PendingBitsAreCleared := by
  refine ⟨fun s k mask hon _ => ?_, fun s => ⟨rfl, rfl⟩⟩
  refine ⟨evtPendClear k mask.toNat s, congrArg Host.Outcome.next (if_pos hon), rfl, evtPendClear_spares _ _ _,
    fun e he => pendingEvt_evtPendClear _ _ k.isLt he, ?_, ?_⟩
  · rw [evtPendClear_gap0, Bool.or_eq_true, routedBy_gone_iff _ _ k.isLt _ (by decide)]
    rfl
  · rw [evtPendClear_gap1, Bool.or_eq_true, routedBy_gone_iff _ _ k.isLt _ (by decide)]
    rfl

end Sys2Proof.Machine
end

section
/-! The frame of the load: what the operations that it shares with other units leave alone. -/

namespace Sys2Proof.Machine

/-! ### What reading and loading the itinerary leaves alone

The operations that the load shares with other units (faults, events, links, the porter, the calibration sets, the checkpoint)
change neither the power state, nor the itinerary's own state, nor the controller, nor any of the fields that the load shows. -/

/-- The fields by which a load shows what it did, and MTR_CFG.EN as one that it loads. -/
def loadFlds : List Fld := [F.MTR_CFG_EN, F.ITN_ST_LOAD, F.ITN_RST_DEF, F.ITN_ST_DEFREG, F.FLTS_ST_CTRLHALT]

/-- Is a field none of those that a load shows? -/
def notLoadFld (g : Fld) : Bool := loadFlds.all fun f => g.id != f.id

/-- Going from r to s, the power state, the itinerary's own state, the controller and the fields of a load are kept. -/
def LoadKeeps (r s : State) : Prop :=
  s.pwr = r.pwr ∧ s.itn = r.itn ∧ s.ctl = r.ctl ∧ ∀ f ∈ loadFlds, ∀ i, s.fld f i = r.fld f i

theorem fieldsAt_subset {r : RegRow} (hcal : r.rid ≠ R.CAL_SEL.rid) (hway : r.rid ≠ R.WAY_NOTCH.rid) (i : Nat) :
    fieldsAt r i ⊆ r.fields := by
  unfold fieldsAt
  repeat' split
  · exact List.filter_subset_self _
  · exact List.filter_subset_self _
  · exact absurd (And.left ‹_›) hcal
  · exact absurd (And.left ‹_›) hway
  · exact List.filter_subset_self _
  · exact List.filter_subset_self _
  · exact List.Subset.refl _

/-- The configuration registers of the porter. -/
def porterRegs : List RegRow := [R.PRT_ALMT, R.PRT_ALMD, R.PRT_XTAL, R.PRT_PWR, R.PRT_TCFG, R.PRT_PINS, R.PRT_SRC]

theorem porterReg_mem (i : Nat) : (porterReg i).1 ∈ porterRegs := by
  unfold porterReg porterRegs
  split <;> simp

theorem porterRegs_fields : ∀ r ∈ porterRegs, r.rid ≠ R.CAL_SEL.rid ∧ r.rid ≠ R.WAY_NOTCH.rid ∧
    ∀ g ∈ r.fields, notLoadFld g = true := by decide

/-- No latch of the porter is a field of a load. -/
theorem porterFlds_notLoadFld {i : Nat} {x : Fld × Nat} (hx : x ∈ porterFlds i) : notLoadFld x.1 = true := by
  obtain ⟨hcal, hway, hne⟩ := porterRegs_fields _ (porterReg_mem i)
  obtain ⟨g, hg, rfl⟩ := List.mem_map.1 hx
  exact hne g (fieldsAt_subset hcal hway _ (List.mem_filter.1 hg).1)

namespace LoadKeeps

-- Elaborated side by side, the many short proofs below would each hold a thread, and the threads' stacks are large.
set_option Elab.async false

variable {r s : State}

theorem refl (s : State) : LoadKeeps s s := ⟨rfl, rfl, rfl, fun _ _ _ => rfl⟩

/-- A field of a load, read after operations that keep it. -/
theorem fld (h : LoadKeeps r s) {f : Fld} (i : Nat) (hf : f ∈ loadFlds := by decide) : s.fld f i = r.fld f i := by
  obtain ⟨-, -, -, hkept⟩ := h
  exact hkept f hf i

theorem ite {t : State} {c : Prop} [Decidable c] (hs : LoadKeeps r s) (ht : LoadKeeps r t) :
    LoadKeeps r (if c then s else t) := by
  split
  · exact hs
  · exact ht

theorem foldl {α : Type} {g : State → α → State} (h : LoadKeeps r s) (l : List α)
    (hg : ∀ u a, LoadKeeps r u → LoadKeeps r (g u a)) : LoadKeeps r (l.foldl g s) :=
  List.foldlRecOn l g h fun u hu a _ => hg u a hu

/-- A write of another field. -/
theorem put {g : Fld} {i v : Nat} (h : LoadKeeps r s) (hg : notLoadFld g = true := by rfl) : LoadKeeps r (s.put g i v) := by
  obtain ⟨hp, hi, hc, hf⟩ := h
  have hne : ∀ f ∈ loadFlds, g.id ≠ f.id := fun f hfl => by simpa using List.all_eq_true.1 hg f hfl
  exact ⟨hp, hi, hc, fun f hfl j => (put_fld_field s g f i j v (hne f hfl)).trans (hf f hfl j)⟩

/-- A change of what other units remember. -/
theorem elsewhere {pending : List Instr} {clk : ClockSt} {host : HostSt} {ldg : LdgSt} {evt : EvtSt} {inp : InpSt} {rmt : RmtSt}
    {flt : FltSt} {flts : FltsSt} {cal : CalSt} {twn : TwnSt} {mtr : MtrSt} {grd : GrdSt} {hrm : HrmSt} {dst : DstSt}
    {pls : PlsSt} {way : WaySt} {rng : Nat} {sbx : SbxSt} {cvn : CvnSt} {sar : SarSt} {dsp : DspSt} {prt : PrtSt}
    (h : LoadKeeps r s) : LoadKeeps r ⟨pending, s.flds, clk, s.ctl, host, s.pwr, ldg, evt, inp, rmt, flt, flts, cal, twn, mtr,
      s.itn, grd, hrm, dst, pls, way, rng, sbx, cvn, sar, dsp, prt⟩ := h

/-! #### Events -/

theorem after_recordEvt {e : Nat} {x : LdgRec} (h : LoadKeeps r s) : LoadKeeps r (recordEvt s e x) := by
  unfold recordEvt putRec countDrop countSupp
  dsimp only
  split
  · split
    · exact (h.put (g := F.LDG_CNT_DROPPED)).put (g := F.LDG_ST_DROPL)
    · exact h
  · exact (h.put (g := F.LDG_CNT_SUPPR)).put (g := F.LDG_ST_SUPPL)

theorem after_setPend (e : Nat) (h : LoadKeeps r s) : LoadKeeps r { s with flds := setPend s.flds e } :=
  h.put (g := F.EVT_PEND_PEND)

theorem after_raise {e d : Nat} (h : LoadKeeps r s) : LoadKeeps r (raise e d s) := by
  unfold raise
  have hpend : LoadKeeps r (if routed s.flds e then { s with flds := setPend s.flds e } else s) :=
    (h.after_setPend e).ite h
  exact h.ite (hpend.after_recordEvt.ite hpend)

theorem after_raiseIf {b : Bool} {e d : Nat} (h : LoadKeeps r s) : LoadKeeps r (raiseIf b e d s) := h.after_raise.ite h

/-! #### The link to the twin, and the caravan -/

theorem after_linkSend {port : Nat} {fs : List OutFrame} (h : LoadKeeps r s) : LoadKeeps r (linkSend port fs s) := by
  unfold linkSend setPort
  exact h.elsewhere

theorem after_countFrame {type : Nat} (h : LoadKeeps r s) : LoadKeeps r (countFrame type s) := by
  unfold countFrame
  exact h.elsewhere

theorem after_tetherSend {type : Nat} {bs : List Nat} (h : LoadKeeps r s) : LoadKeeps r (tetherSend type bs s) := by
  unfold tetherSend sendSegments
  exact h.elsewhere.foldl _ fun _ _ hu => hu.after_linkSend.after_countFrame

theorem after_sendMsg {m : TwnMsg} (h : LoadKeeps r s) : LoadKeeps r (sendMsg m s) := by
  unfold sendMsg
  exact h.elsewhere.after_tetherSend

theorem after_seek (h : LoadKeeps r s) : LoadKeeps r (seek s) := by
  unfold seek sendSet setTst
  exact h.put.elsewhere

theorem after_syncLost (h : LoadKeeps r s) : LoadKeeps r (syncLost s) := h.put.put.after_raise.ite h

theorem after_leaveRing (h : LoadKeeps r s) : LoadKeeps r (leaveRing s) := by
  unfold leaveRing
  exact h.after_syncLost.put.elsewhere

theorem after_cvnTrain (h : LoadKeeps r s) : LoadKeeps r (cvnTrain s) :=
  (h.after_leaveRing.put.foldl _ fun _ _ hu => hu.put).ite h

theorem after_cvnStart (h : LoadKeeps r s) : LoadKeeps r (cvnStart s) := by
  unfold cvnStart
  exact h.elsewhere.after_cvnTrain

/-! #### Faults -/

theorem after_evalDState (h : LoadKeeps r s) : LoadKeeps r (evalDState s) := by
  unfold evalDState
  dsimp only
  split
  · split
    · exact h.put.elsewhere.put.after_raise.elsewhere.after_sendMsg
    · exact h.put.elsewhere.put.after_raise
  · exact h.put

theorem after_latent {scrub : Bool} {cls unit : Nat} (h : LoadKeeps r s) : LoadKeeps r (latent scrub cls unit s) :=
  h.put.after_raise.ite h

theorem after_noteFault {cls kind unit detail : Nat} {inj scrub : Bool} (h : LoadKeeps r s) :
    LoadKeeps r (noteFault cls kind unit detail inj scrub s) := h.put.put.put.put.put.put.put.put

theorem after_transient {cls unit detail : Nat} {inj scrub : Bool} (h : LoadKeeps r s) :
    LoadKeeps r (transient cls unit detail inj scrub s) := by
  unfold transient State.inc State.addSat
  exact h.put.after_noteFault.put.after_raise.after_latent

theorem after_ruleDouble {fs : List FaultRec} {inOne : Bool} (h : LoadKeeps r s) : LoadKeeps r (ruleDouble fs inOne s) := by
  unfold ruleDouble makeFailed
  dsimp only
  split
  · exact h.elsewhere.put.put.after_raise.elsewhere.after_evalDState
  · exact h.elsewhere.put.put.after_raise

theorem after_openWindow {f : FaultRec} (h : LoadKeeps r s) : LoadKeeps r (openWindow f s) := by
  unfold openWindow
  dsimp only
  split
  · exact h.elsewhere.after_ruleDouble
  · split
    · exact h.elsewhere.put.put.put.after_ruleDouble
    · exact h.elsewhere.put.put.put

theorem after_permanent {cls unit detail : Nat} {spare scrub : Bool} {chan : Option Nat} (h : LoadKeeps r s) :
    LoadKeeps r (permanent cls unit detail spare scrub chan s) := by
  unfold permanent State.inc State.addSat
  dsimp only
  split
  · exact h.put.after_noteFault.put.after_raise.after_latent.after_openWindow.after_evalDState
  · exact h.put.after_noteFault.put.after_raise.after_latent.after_evalDState

theorem after_retireBlock {b : Nat} {scrub : Bool} (h : LoadKeeps r s) : LoadKeeps r (retireBlock b scrub s) := by
  unfold retireBlock State.inc State.addSat
  refine after_permanent ?_
  split
  · exact h.elsewhere
  · split
    · exact h.elsewhere
    · exact h.elsewhere.put

theorem after_vaultReread {x : VaultRec} (h : LoadKeeps r s) : LoadKeeps r (vaultReread x s) := h.after_transient

/-! #### Reads of the Vault at start-up -/

theorem after_putCopies {i : Nat} {c : CalCopies} (h : LoadKeeps r s) : LoadKeeps r (putCopies i c s) := by
  unfold putCopies
  exact h.elsewhere

theorem after_takeFail {f : SetFail} (h : LoadKeeps r s) : LoadKeeps r (takeFail f s) :=
  h.after_putCopies.ite (h.after_putCopies.ite h.after_vaultReread)

theorem after_setRetry {f : SetFail} (h : LoadKeeps r s) : LoadKeeps r (setRetry f s) :=
  h.ite (h.after_retireBlock.ite h.after_vaultReread)

theorem after_dropCorrs {md : Nat} (h : LoadKeeps r s) : LoadKeeps r (dropCorrs md s) := by
  unfold dropCorrs
  exact h.foldl _ fun _ _ hu => hu.elsewhere

theorem after_loadFail {f : LoadFail} (h : LoadKeeps r s) : LoadKeeps r (loadFail f s) := by
  unfold loadFail
  cases f with
  | slot p again => exact h.ite (h.elsewhere.after_retireBlock.ite h.after_vaultReread)
  | corr md a b => exact h.after_dropCorrs.after_retireBlock.ite h.after_transient
  | set f => exact h.after_takeFail

theorem after_loadRetry {f : LoadFail} (h : LoadKeeps r s) : LoadKeeps r (loadRetry f s) := by
  unfold loadRetry
  cases f with
  | slot p again => exact h
  | corr md a b => exact h
  | set f => exact h.after_setRetry

theorem after_vaultRead {x : VaultRec} (h : LoadKeeps r s) : LoadKeeps r (vaultRead x s) := by
  unfold vaultRead takeInjection
  split
  next hinj => exact h.elsewhere.put.after_transient
  next => exact h

theorem after_touchSets (h : LoadKeeps r s) : LoadKeeps r (touchSets s) := by
  unfold touchSets touchSet
  exact h.after_vaultRead.foldl _ fun _ _ hu => (hu.ite hu.after_putCopies).after_raise.ite hu

theorem after_showSets (h : LoadKeeps r s) : LoadKeeps r (showSets s) := by
  unfold showSets showSet State.putI
  exact h.foldl _ fun _ _ hu => hu.put.put.put.put.ite hu.put.put.put.put

/-! #### The porter's profile -/

theorem after_latchFromProfile {i : Nat} (h : LoadKeeps r s) : LoadKeeps r (latchFromProfile i s) :=
  List.foldlRecOn _ _ h fun _ hu _ hx => hu.put (porterFlds_notLoadFld hx)

theorem after_capture {k : Nat} (h : LoadKeeps r s) : LoadKeeps r (capture k s) := by
  unfold capture State.inc State.addSat
  exact h.put.ite h.put.put.put.put.put.put

theorem after_fireRecord {x : Nat × Nat} (h : LoadKeeps r s) : LoadKeeps r (fireRecord x s) := by
  unfold fireRecord releaseSlot
  exact h.after_recordEvt.put.put.put.put.ite h

theorem after_firmwareSteps {xs : List (Nat × Nat)} (h : LoadKeeps r s) : LoadKeeps r (firmwareSteps xs s) := by
  unfold firmwareSteps fireAlert fireLock
  exact ((h.foldl _ fun _ _ hu => hu.after_fireRecord).foldl _ fun _ _ hu => (hu.after_setPend _).ite hu).foldl _
    fun _ _ hu => hu.put.ite hu

theorem after_showWipe (h : LoadKeeps r s) : LoadKeeps r (showWipe s) :=
  h.ite (h.put.put.ite h.put.put.elsewhere.put.after_raise)

theorem after_tamperWipe (h : LoadKeeps r s) : LoadKeeps r (tamperWipe s) := by
  unfold tamperWipe loseKb
  exact (h.put.elsewhere.after_showWipe.ite h.put.elsewhere |>.ite h.put).ite h

theorem after_fire {xs : List (Nat × Nat)} (h : LoadKeeps r s) : LoadKeeps r (fire xs s) := by
  unfold fire
  extract_lets s1 _ s2 s3
  have h1 : LoadKeeps r s1 := h.foldl _ fun _ _ hu => hu.after_capture.ite hu
  have h2 : LoadKeeps r s2 := h1.after_firmwareSteps.ite h1.elsewhere
  have h3 : LoadKeeps r s3 := h2.after_tamperWipe.ite h2
  exact h3.put.ite h3

theorem after_integrity {cause : Nat} (h : LoadKeeps r s) : LoadKeeps r (integrity cause s) := by
  unfold integrity
  refine after_fire ?_
  split
  · exact h.put
  · exact h.put
  · exact h.put
  · exact h.put
  · exact h

theorem after_profileCompare (h : LoadKeeps r s) : LoadKeeps r (profileCompare s) := by
  unfold profileCompare
  exact h.foldl _ fun _ _ hu => (hu.after_latchFromProfile.ite hu.after_latchFromProfile.after_integrity).ite hu

/-! #### The checkpoint and the strongbox -/

theorem after_interruptedBundle (h : LoadKeeps r s) : LoadKeeps r (interruptedBundle s) := by
  unfold interruptedBundle
  split
  · exact h
  · exact h.elsewhere.put.put.after_showWipe

theorem after_loadAcc {a v : Nat} (h : LoadKeeps r s) : LoadKeeps r (loadAcc a v s) := by
  unfold loadAcc
  exact h.elsewhere

theorem after_zeroAccs {keys : List Nat} (h : LoadKeeps r s) : LoadKeeps r (zeroAccs keys s) :=
  h.foldl _ fun _ _ hu => hu.after_loadAcc

theorem after_restoreCkpt (h : LoadKeeps r s) : LoadKeeps r (restoreCkpt s) := by
  unfold restoreCkpt
  dsimp only
  split
  · exact h.elsewhere.after_zeroAccs.put.put.put.put.after_raise.after_raiseIf
  · exact (h.after_zeroAccs.foldl _ fun _ _ hu => hu.after_loadAcc).elsewhere.put.put.put.put.after_raiseIf.after_raiseIf

end LoadKeeps
end Sys2Proof.Machine
end

section
/-! The start-up read of the flash and the end of the load (R306, R311, R312, R421). -/

namespace Sys2Proof.Machine

/-! ### A device without an image (R312) -/

/-- Writing a value to any element of a field leaves an element that has the value with it. -/
theorem put_fld_stays {s : State} {f : Fld} {i v : Nat} (j : Nat) (h : s.fld f i = v % 2 ^ f.len) :
    (s.put f j v).fld f i = v % 2 ^ f.len := by
  by_cases hk : fkey f j = fkey f i
  · have hsame := put_fld_same s f j v
    unfold State.fld fget at hsame ⊢
    rwa [hk] at hsame
  · rw [put_fld_other _ _ _ _ _ _ hk, h]

theorem foldl_put_fld_mem (f : Fld) (v : Nat) {i : Nat} (l : List Nat) (s : State) (hi : i ∈ l) :
    (l.foldl (fun s j => s.put f j v) s).fld f i = v % 2 ^ f.len := by
  induction l generalizing s with
  | nil => cases hi
  | cons j l ih =>
    rcases List.mem_cons.1 hi with rfl | hi
    · exact List.foldlRecOn (motive := fun u : State => u.fld f i = v % 2 ^ f.len) l _ (put_fld_same s f i v)
        fun _ hu k _ => put_fld_stays k hu
    · exact ih _ hi

theorem foldl_put_fld_field (f g : Fld) (v i : Nat) (l : List Nat) (s : State) (h : f.id ≠ g.id) :
    (l.foldl (fun s j => s.put f j v) s).fld g i = s.fld g i :=
  List.foldlRecOn (motive := fun u : State => u.fld g i = s.fld g i) l _ rfl fun u hu j _ =>
    (put_fld_field u f g j _ _ h).trans hu

theorem haltController_loadKeeps (s : State) :
    LoadKeeps ({ s with ctl := .halted }.put F.FLTS_ST_CTRLHALT 0 1) (haltController s) :=
  (LoadKeeps.refl _).after_evalDState

theorem haltController_ctl (s : State) : (haltController s).ctl = .halted := by
  obtain ⟨-, -, hctl, -⟩ := haltController_loadKeeps s
  exact hctl

theorem haltController_bit (s : State) : (haltController s).bit F.FLTS_ST_CTRLHALT = true := by
  unfold State.bit
  rw [(haltController_loadKeeps s).fld, put_fld_same]
  rfl

theorem haltController_fld (s : State) {f : Fld} (i : Nat) (hf : f ∈ loadFlds) (hne : F.FLTS_ST_CTRLHALT.id ≠ f.id) :
    (haltController s).fld f i = s.fld f i := by
  rw [(haltController_loadKeeps s).fld i hf, put_fld_field _ _ _ _ _ _ hne]
  rfl

/-- What noImage shows before it halts the controller. -/
def imageMissing (s : State) : State :=
  ((List.range 11).foldl (fun s r => s.put F.ITN_RST_DEF r 1) (s.put F.ITN_ST_LOAD 0 3)).put F.ITN_ST_DEFREG 0 1

theorem noImage_fld (s : State) {f : Fld} (i : Nat) (hf : f ∈ loadFlds) (hne : F.FLTS_ST_CTRLHALT.id ≠ f.id) :
    (noImage s).fld f i = (imageMissing s).fld f i :=
  (haltController_fld _ i hf hne).trans ((LoadKeeps.refl (imageMissing s)).after_raise.fld i hf)

theorem noImage_load (s : State) : (noImage s).fld F.ITN_ST_LOAD = 3 := by
  rw [noImage_fld s 0 (by decide) (by decide), imageMissing, put_fld_field _ _ _ _ _ _ (by decide),
    foldl_put_fld_field _ _ _ _ _ _ (by decide), put_fld_same]
  rfl

theorem noImage_def (s : State) {r : Nat} (hr : r < 11) : (noImage s).bit F.ITN_RST_DEF r = true := by
  unfold State.bit
  rw [noImage_fld s r (by decide) (by decide), imageMissing, put_fld_field _ _ _ _ _ _ (by decide),
    foldl_put_fld_mem _ _ _ _ (List.mem_range.2 hr)]
  rfl

theorem noImage_defreg (s : State) : (noImage s).bit F.ITN_ST_DEFREG = true := by
  unfold State.bit
  rw [noImage_fld s 0 (by decide) (by decide), imageMissing, put_fld_same]
  rfl

/-! ### Reading the regions (R306, R311) -/

/-- Going from r to s, the power state, the flash, the directory in use and the fields of MTR_CFG.EN are kept. -/
def ImageKeeps (r s : State) : Prop :=
  s.pwr = r.pwr ∧ s.itn.flash = r.itn.flash ∧ s.itn.dir = r.itn.dir ∧ ∀ n, s.fld F.MTR_CFG_EN n = r.fld F.MTR_CFG_EN n

namespace ImageKeeps

variable {r s : State}

theorem refl (s : State) : ImageKeeps s s := ⟨rfl, rfl, rfl, fun _ => rfl⟩

theorem put {g : Fld} {i v : Nat} (h : ImageKeeps r s) (hg : (g.id != F.MTR_CFG_EN.id) = true := by rfl) :
    ImageKeeps r (s.put g i v) := by
  obtain ⟨hp, hfl, hd, hf⟩ := h
  exact ⟨hp, hfl, hd, fun n => (put_fld_field s g _ i n v (bne_iff_ne.1 hg)).trans (hf n)⟩

theorem ite {t : State} {c : Prop} [Decidable c] (hs : ImageKeeps r s) (ht : ImageKeeps r t) :
    ImageKeeps r (if c then s else t) := by
  split
  · exact hs
  · exact ht

/-- What keeps all that a load shows keeps this. -/
theorem load {t : State} (h : ImageKeeps r s) (hl : LoadKeeps s t) : ImageKeeps r t := by
  obtain ⟨hp, hfl, hd, hf⟩ := h
  obtain ⟨hlp, hli, -, -⟩ := id hl
  exact ⟨hlp.trans hp, hli ▸ hfl, hli ▸ hd, fun n => (hl.fld n).trans (hf n)⟩

theorem after_loadRegion {n : Nat} {b first : Bool} {ws : List (Nat × Nat)} (h : ImageKeeps r s) :
    ImageKeeps r (loadRegion n b first ws s) := by
  unfold loadRegion
  extract_lets _ _ s1 _ s2 s3
  have h1 : ImageKeeps r s1 := ite h h
  have h2 : ImageKeeps r s2 := put (s := { s1 with itn := { s1.itn with force := _ } }) h1
  have h3 : ImageKeeps r s3 := h2.put.ite h2
  exact h3.ite h3.put

theorem after_defaultRegion {n : Nat} (h : ImageKeeps r s) : ImageKeeps r (defaultRegion n s) :=
  h.put.put.load (LoadKeeps.refl _).after_raise

end ImageKeeps

theorem readCopy_loadKeeps {noise later : List Nat} {r : Nat} {b : Bool} {s t : State} {o : Option (List (Nat × Nat))}
    (h : readCopy noise later r b s = (t, o)) : LoadKeeps s t := by
  have hkept : LoadKeeps s (readCopy noise later r b s).1 :=
    (LoadKeeps.refl s).after_permanent.ite ((LoadKeeps.refl s).after_transient.ite (LoadKeeps.refl s))
  rwa [h] at hkept

theorem ImageKeeps.after_readRegion {noise later : List Nat} {n : Nat} {r s : State} (h : ImageKeeps r s) :
    ImageKeeps r (readRegion noise later n s) := by
  unfold readRegion
  dsimp only
  split
  next s1 ws hread => exact (h.load (readCopy_loadKeeps hread)).after_loadRegion
  next s1 hread =>
    have h1 : ImageKeeps r (raise 64 n s1) := (h.load (readCopy_loadKeeps hread)).load (LoadKeeps.refl s1).after_raise
    split
    next s2 ws hread2 => exact (h1.load (readCopy_loadKeeps hread2)).after_loadRegion
    next s2 hread2 => exact (h1.load (readCopy_loadKeeps hread2)).after_defaultRegion

theorem ImageKeeps.after_readRegions {noise : List Nat} {r : State} (l : List Nat) {s : State} (h : ImageKeeps r s) :
    ImageKeeps r (readRegions noise l s) := by
  induction l generalizing s with
  | nil => exact h
  | cons n later ih => exact ih h.after_readRegion

theorem ImageKeeps.after_haltController {r s : State} (h : ImageKeeps r s) : ImageKeeps r (haltController s) :=
  (put (s := { s with ctl := .halted }) h).load (haltController_loadKeeps s)

/-- A state with its first directory copy in use. -/
def withFirstDir (s : State) : State := { s with itn := { s.itn with dir := some s.itn.flash.dir1 } }

theorem ImageKeeps.after_takeDirectory {r s : State} (h : ImageKeeps r s) (hdir : dirOk r.itn.flash.dir1 = true) :
    ImageKeeps (withFirstDir r) (takeDirectory s) := by
  obtain ⟨hpwr, hflash, -, hfld⟩ := h
  unfold takeDirectory
  rw [hflash, if_pos hdir]
  exact ⟨hpwr, hflash, rfl, hfld⟩

/-- With a flash that meets R304 and a sound first directory copy, the start-up read takes that directory; the regions' fields are
not touched. -/
theorem itineraryRead_image {noise : List Nat} {s : State} {x : Sfdp} (hx : s.itn.flash.sfdp = some x)
    (hok : sfdpOk x = true) (hdir : dirOk s.itn.flash.dir1 = true) :
    ImageKeeps (withFirstDir s) (itineraryRead noise s) := by
  have hshow : ImageKeeps s (showFlash x (s.put F.ITN_ST_LOAD 0 1)) := by
    unfold showFlash State.setBit
    exact (ImageKeeps.refl s).put.put.put.put.put.put
  have htake := hshow.after_takeDirectory hdir
  unfold itineraryRead
  rw [hx]
  dsimp only
  rw [hok, if_neg (by decide)]
  generalize takeDirectory (showFlash x (s.put F.ITN_ST_LOAD 0 1)) = s1 at htake
  have hsome : ¬ s1.itn.dir.isNone = true := by
    obtain ⟨-, -, hd, -⟩ := htake
    rw [hd]
    exact Bool.false_ne_true
  rw [if_neg hsome]
  exact (htake.after_readRegions readOrder).ite (htake.after_readRegions readOrder).after_haltController

/-! ### The load completes (R11, R421) -/

/-- The fields read are in force, nothing is left to load, and the power state is as it was. -/
theorem takeRead_spec (s : State) : (takeRead s).pwr = s.pwr ∧ (takeRead s).itn.read = [] ∧
    ∀ n, (takeRead s).fld F.MTR_CFG_EN n = fget (readFlds s) F.MTR_CFG_EN n := by
  refine List.foldlRecOn (motive := fun u : State => u.pwr = s.pwr ∧ u.itn.read = [] ∧
    ∀ n, u.fld F.MTR_CFG_EN n = fget (readFlds s) F.MTR_CFG_EN n) _ _ ⟨rfl, rfl, fun _ => rfl⟩ ?_
  rintro u ⟨hpwr, hread, hfld⟩ p -
  refine ⟨hpwr, hread, fun n => ?_⟩
  unfold putForce
  rw [put_fld_field _ _ _ _ _ _ (by decide), put_fld_field _ _ _ _ _ _ (by decide)]
  exact hfld n

/-- All that follows once the fields are in force keeps what the load shows. -/
theorem loadComplete_loadKeeps (fs : List LoadFail) (s : State) :
    LoadKeeps ((takeRead s).put F.ITN_ST_LOAD 0 2) (loadComplete fs s) := by
  have h := LoadKeeps.refl ((takeRead s).put F.ITN_ST_LOAD 0 2)
  have hl : LoadKeeps ((takeRead s).put F.ITN_ST_LOAD 0 2) (itineraryLoaded s) := by
    unfold itineraryLoaded
    exact h.ite (h.after_seek.ite h).after_cvnStart
  have hfail : LoadKeeps _ (fs.foldl (fun s f => loadFail f s) (itineraryLoaded s)) :=
    hl.foldl fs fun _ _ hu => hu.after_loadFail
  have hretry : LoadKeeps _ (fs.foldl (fun s f => loadRetry f s) _) := hfail.foldl fs fun _ _ hu => hu.after_loadRetry
  exact hretry.after_touchSets.after_showSets.after_profileCompare.after_restoreCkpt.after_interruptedBundle.after_showWipe

/-- Settles O20: what else the start-up read and the end of the load do keeps the fields that show them. -/
theorem itineraryLoads : Obligations.ItineraryLoads := by
  refine ⟨fun s noise hon hst hload hnone => ?_, fun s board noise hon hst hload hsfdp hdir => ?_,
    fun s fs hon hst hload => ?_⟩
  · have hexec : exec (.itineraryRead none noise) s = .next (noImage s) := by
      show execItineraryRead none noise s = _
      simp [execItineraryRead, itineraryRead, hon, hst, hload, hnone]
    exact ⟨_, hexec, noImage_load s, haltController_ctl _, fun r hr => noImage_def s hr, noImage_defreg s,
      haltController_bit _⟩
  · obtain ⟨x, hx, hok⟩ := hsfdp
    have hexec : exec (.itineraryRead (some board) noise) s =
        .next (itineraryRead (noise.map fun i => i.toNat) { s with itn := { s.itn with flash := board } }) := by
      show execItineraryRead (some board) noise s = _
      simp [execItineraryRead, hon, hst, hload]
    obtain ⟨hpwr, hflash, hd, hfld⟩ := itineraryRead_image (noise := noise.map fun i => i.toNat)
      (s := { s with itn := { s.itn with flash := board } }) hx hok hdir
    exact ⟨_, hexec, hd, hflash, hpwr, hfld⟩
  · have hexec : exec (.itineraryLoaded fs) s = .next (loadComplete fs s) := by
      show execItineraryLoaded fs s = _
      simp [execItineraryLoaded, hon, hst, hload]
    have hk := loadComplete_loadKeeps fs s
    obtain ⟨hpwr, hread, hfld⟩ := takeRead_spec s
    obtain ⟨hkpwr, hkitn, -, -⟩ := id hk
    refine ⟨_, hexec, ?_, hkpwr.trans hpwr, (congrArg ItnSt.read hkitn).trans hread, fun r n ws hrd => ?_⟩
    · rw [hk.fld 0, put_fld_same]
      rfl
    · rw [hk.fld n, put_fld_field _ _ _ _ _ _ (by decide), hfld, readFlds, hrd]
      rfl

end Sys2Proof.Machine
end

section
/-! The loss of the crystal and the return to it; the boundaries of site time (R21, R26). -/

namespace Sys2Proof.Machine

/-! ### Flags that qualify intervals -/

/-- A one-bit field that is set holds one. -/
theorem fld_eq_one_of_bit {s : State} {f : Fld} {i : Nat} (hlen : f.len = 1) (h : s.bit f i = true) : s.fld f i = 1 := by
  have hlt := fld_lt s f i
  simp only [State.bit, bne_iff_ne] at h
  rw [hlen] at hlt
  omega

/-- Setting a flag writes that flag alone. -/
theorem Writes_lift (s : State) {f : Fld} (i : Nat) (hlen : f.len = 1) : Writes [(f, i, 1)] s (s.lift f i) := by
  unfold State.lift
  split
  next hset =>
    refine ⟨fun p hp => ?_, fun _ _ _ => rfl⟩
    rw [List.mem_singleton.1 hp]
    exact fld_eq_one_of_bit hlen hset
  next => exact Writes_put s f i 1 (by rw [hlen]; decide)

/-- Setting a flag changes the fields, and the note of its rise. -/
theorem lift_eq (s : State) (f : Fld) (i : Nat) :
    s.lift f i = { s with flds := (s.lift f i).flds, mtr := { s.mtr with rose := (s.lift f i).mtr.rose } } := by
  unfold State.lift
  split <;> rfl

theorem lower_clk (s : State) (f : Fld) (i : Nat) : (s.lower f i).clk = s.clk := by
  unfold State.lower
  split <;> rfl

theorem lower_bit_same (s : State) (f : Fld) (i : Nat) : (s.lower f i).bit f i = false := by
  unfold State.lower
  split
  next => simp [State.bit]
  next hclear => simpa using hclear

/-- Clearing a flag leaves every other field alone. -/
theorem lower_spares (s : State) (f : Fld) (i : Nat) : Spares [(f, i)] s (s.lower f i) := by
  intro g j hk
  unfold State.lower
  split
  next => exact put_fld_other s _ _ _ _ _ (hk (f, i) List.mem_cons_self)
  next => rfl

/-- The order in which the fields written are listed does not matter. -/
theorem Writes_perm {l k : List (Fld × Nat × Nat)} {s t : State} (hlk : l.Perm k) (h : Writes l s t) : Writes k s t := by
  obtain ⟨hnew, hold⟩ := h
  exact ⟨fun p hp => hnew p (hlk.mem_iff.2 hp), fun f i hk => hold f i fun p hp => hk p (hlk.mem_iff.1 hp)⟩

/-! ### XCLK -/

/-- The RC fallback is in use, with XFB and CLKL set. -/
def withFallback (s : State) : State :=
  (({ s with clk := { s.clk with xsrc := .rc, rcTrims := 0 } }).lift F.FLTS_ST_XFB 0).put F.FLTS_ST_CLKL 0 1

theorem xclkFallback_eq {s : State} (hon : mainOn s = true) (hx : s.clk.xsrc = .crystal) :
    xclkFallback s = raise 45 noDetail (withFallback s) := if_pos ⟨hon, hx⟩

theorem withFallback_writes (s : State) : Writes [(F.FLTS_ST_XFB, 0, 1), (F.FLTS_ST_CLKL, 0, 1)] s (withFallback s) := by
  refine Writes_perm (List.Perm.swap _ _ _) (Writes_cons s _ _ _ _ _ (by decide) (Writes_lift _ 0 rfl) fun p hp => ?_)
  rw [List.mem_singleton.1 hp]
  decide

theorem withFallback_eq (s : State) : withFallback s =
    { s with flds := (withFallback s).flds, clk := { s.clk with xsrc := .rc, rcTrims := 0 }
             mtr := { s.mtr with rose := (withFallback s).mtr.rose } } := by
  unfold withFallback
  rw [lift_eq]
  rfl

/-- With the crystal in use, trim and return find nothing to do. -/
theorem fallback_unused {s : State} (hx : s.clk.xsrc = .crystal) (t : Nat) : rcTrim s = s ∧ xclkReturn t s = s := by
  have hrc : s.clk.xsrc ≠ .rc := by simp [hx]
  exact ⟨if_neg fun h => hrc h.2, if_neg fun h => hrc h.2.1⟩

/-- The return to the crystal once site time has come to t. -/
theorem xclkReturn_eq {s : State} {t : Nat} (hon : mainOn s = true) (hx : s.clk.xsrc = .rc) (ht : t % 20000000 = 0) :
    xclkReturn t s = State.lower { reachTime t s with clk := { (reachTime t s).clk with xsrc := .crystal, rcTrims := 0 } }
      F.FLTS_ST_XFB 0 := if_pos ⟨hon, hx, ht⟩

theorem reachTime_site {s : State} {t : Nat} (ht : t < 2 ^ 64) : (reachTime t s).clk.site = max s.clk.site t := by
  show max s.clk.site (t % 2 ^ 64) = _
  rw [Nat.mod_eq_of_lt ht]

/-- Settles O43: each command of the clocks has an equation, by which the fallback is told from the crystal. -/
theorem clockFallbackAndBoundaries : Obligations.ClockFallbackAndBoundaries := by
  refine ⟨fun s hon hx => ?_, fun s hon hx => ?_, fun s t0 hx => ?_, fun s t0 hon hx hdue ht => ?_,
    fun s t0 hrun hdue ht => ?_⟩
  · exact ⟨withFallback s, congrArg Host.Outcome.next (xclkFallback_eq hon hx), withFallback_eq s, withFallback_writes s⟩
  · exact congrArg Host.Outcome.next (if_pos ⟨hon, hx⟩)
  · obtain ⟨htrim, hreturn⟩ := fallback_unused hx t0
    exact ⟨congrArg Host.Outcome.next htrim, congrArg Host.Outcome.next hreturn⟩
  · refine ⟨_, congrArg Host.Outcome.next (xclkReturn_eq hon hx hdue), ?_, ?_, lower_bit_same _ _ _, ?_, lower_spares _ _ _⟩
    · rw [lower_clk]
    · rw [lower_clk]
    · rw [lower_clk]
      exact reachTime_site ht
  · exact ⟨_, congrArg Host.Outcome.next (if_pos ⟨hrun, hdue⟩), rfl, reachTime_site ht, rfl⟩

end Sys2Proof.Machine
end

section
/-! The frame of the spares' work: what slots, lent chains and their splices leave alone (chapters 4 and 5). -/

namespace Sys2Proof.Machine

/-- The status, latches, peak and count of an input. -/
def inpFlds : List Fld :=
  [F.INP_ST_OPEN, F.INP_ST_OPENPIN, F.INP_ST_OVR, F.INP_ST_STUCK, F.INP_ST_DENS, F.INP_ST_OVRL, F.INP_PEAK_PEAK,
   F.INP_OVCNT_EPISODES]

/-- Is a field none of those that an input shows? -/
def notInpFld (g : Fld) : Bool := inpFlds.all fun f => g.id != f.id

theorem evtFlds_notInpFld : ∀ p ∈ evtFlds, notInpFld p.1 = true := by decide

theorem ne_of_notInpFld {g f : Fld} (hg : notInpFld g = true) (hf : f ∈ inpFlds) : g.id ≠ f.id := by
  simpa using List.all_eq_true.1 hg f hf

/-- The clock, apart from the sample path that it drives. -/
def clockOf (s : State) : ClockSt := { s.clk with path := [] }

/-- Going from r to s, the inputs and the fields they show are kept, and the clock but for the sample path. -/
def InputsKept (r s : State) : Prop :=
  s.inp = r.inp ∧ clockOf s = clockOf r ∧ ∀ f ∈ inpFlds, ∀ i, s.fld f i = r.fld f i

namespace InputsKept

variable {r s : State}

theorem refl (s : State) : InputsKept s s := ⟨rfl, rfl, fun _ _ _ => rfl⟩

/-- A field of an input, read after operations that keep it. -/
theorem fld (h : InputsKept r s) {f : Fld} (i : Nat) (hf : f ∈ inpFlds := by decide) : s.fld f i = r.fld f i := by
  obtain ⟨-, -, hkept⟩ := h
  exact hkept f hf i

theorem ite {t : State} {c : Prop} [Decidable c] (hs : InputsKept r s) (ht : InputsKept r t) :
    InputsKept r (if c then s else t) := by
  split
  · exact hs
  · exact ht

theorem foldl {α : Type} {g : State → α → State} (h : InputsKept r s) (l : List α)
    (hg : ∀ u a, InputsKept r u → InputsKept r (g u a)) : InputsKept r (l.foldl g s) :=
  List.foldlRecOn l g h fun u hu a _ => hg u a hu

/-- A write of another field. -/
theorem put {g : Fld} {i v : Nat} (h : InputsKept r s) (hg : notInpFld g = true := by rfl) : InputsKept r (s.put g i v) := by
  obtain ⟨hinp, hclk, hf⟩ := h
  exact ⟨hinp, hclk, fun f hfl j => (put_fld_field s g f i j v (ne_of_notInpFld hg hfl)).trans (hf f hfl j)⟩

/-- A change of what other units remember. -/
theorem elsewhere {pending : List Instr} {ctl : CtlRun} {host : HostSt} {pwr : PwrSt} {ldg : LdgSt} {evt : EvtSt} {rmt : RmtSt}
    {flt : FltSt} {flts : FltsSt} {cal : CalSt} {twn : TwnSt} {mtr : MtrSt} {itn : ItnSt} {grd : GrdSt} {hrm : HrmSt}
    {dst : DstSt} {pls : PlsSt} {way : WaySt} {rng : Nat} {sbx : SbxSt} {cvn : CvnSt} {sar : SarSt} {dsp : DspSt} {prt : PrtSt}
    (h : InputsKept r s) : InputsKept r ⟨pending, s.flds, s.clk, ctl, host, pwr, ldg, evt, s.inp, rmt, flt, flts, cal, twn, mtr,
      itn, grd, hrm, dst, pls, way, rng, sbx, cvn, sar, dsp, prt⟩ := h

/-- A step of the sample path. -/
theorem after_setPath {n : Nat} {p : StreamPath} (h : InputsKept r s) : InputsKept r (setPath n p s) := h

theorem after_raise {e d : Nat} (h : InputsKept r s) (he : e < 128 := by decide) : InputsKept r (raise e d s) := by
  obtain ⟨hinp, hclk, hf⟩ := h
  refine ⟨(raise_inp e d s).trans hinp, by unfold clockOf; rw [raise_clk]; exact hclk, fun f hfl i => ?_⟩
  rw [raise_spares e d s he f i fun p hp => fkey_ne _ _ _ _ (ne_of_notInpFld (evtFlds_notInpFld p hp) hfl)]
  exact hf f hfl i

theorem after_lower {g : Fld} {i : Nat} (h : InputsKept r s) (hg : notInpFld g = true := by rfl) :
    InputsKept r (s.lower g i) := (h.put hg).elsewhere.ite h

theorem after_lift {g : Fld} {i : Nat} (h : InputsKept r s) (hg : notInpFld g = true := by rfl) :
    InputsKept r (s.lift g i) := h.ite (h.put hg).elsewhere

/-! #### Spares and their slots -/

theorem after_fastClear {n : Nat} (h : InputsKept r s) : InputsKept r (fastClear n s) := by
  unfold fastClear pathFastClear
  exact h.put.put.put.after_setPath.elsewhere

theorem after_setSp {sp : Nat} {x : SpareSt} (h : InputsKept r s) : InputsKept r (setSp sp x s) := by
  unfold setSp retarget
  extract_lets s1 s0 _ s2
  have h1 : InputsKept r s1 := h.elsewhere
  have h2 : InputsKept r s2 := h1.after_fastClear.elsewhere
  exact h1.ite h2.after_setPath

theorem after_setSlot {sp : Nat} {x : Option Slot} (h : InputsKept r s) : InputsKept r (setSlot sp x s) := h.after_setSp

theorem after_startSlot {k : SlotKind} {sp n : Nat} (h : InputsKept r s) : InputsKept r (startSlot k sp n s) := h.after_setSlot

theorem after_startRoutine {sp k : Nat} (h : InputsKept r s) : InputsKept r (startRoutine sp k s) := by
  unfold startRoutine
  split
  · split
    · exact h.after_startSlot
    · exact h
  · exact h

theorem after_skipSlot {n : Nat} (h : InputsKept r s) : InputsKept r (skipSlot n s) := by
  unfold skipSlot State.inc State.addSat
  exact h.put.after_raise

theorem after_serveForce {b : Nat} (h : InputsKept r s) : InputsKept r (serveForce b s) := by
  unfold serveForce refuseForce
  dsimp only
  split
  · split
    · exact h.put.put
    · split
      · exact h.put.after_startSlot.ite h
      · exact h
  · exact h

theorem after_serveLive {b : Nat} (h : InputsKept r s) : InputsKept r (serveLive b s) := by
  unfold serveLive startLive
  split
  · exact h
  · split
    · exact h.after_setSp.elsewhere
    · exact h

theorem after_serveResp {b : Nat} (h : InputsKept r s) : InputsKept r (serveResp b s) := by
  unfold serveResp setChange pathLend setDone
  split
  · exact h
  · split
    · exact h.after_lift.elsewhere.after_setSp.after_setPath.elsewhere
    · exact h

theorem after_resume {sp : Nat} (h : InputsKept r s) : InputsKept r (resume sp s) := by
  unfold resume
  dsimp only
  split
  · exact h
  · exact h.after_setSp.after_skipSlot.ite (h.after_setSp.after_setSlot.ite h.after_setSp.after_setSlot)

theorem after_sessAdvance {x : Sess} (h : InputsKept r s) : InputsKept r (sessAdvance x s) := by
  unfold sessAdvance setSess setCalState
  exact (h.elsewhere.put.ite h.elsewhere).ite ((h.elsewhere.put.ite h.elsewhere).ite h.elsewhere)

theorem after_refinStart (h : InputsKept r s) : InputsKept r (refinStart s) := by
  unfold refinStart
  dsimp only
  split
  · split
    · split
      · exact h.after_sessAdvance
      · exact h.ite h.after_setSp
    · exact h
  · exact h

theorem after_takeWork {sp : Nat} (h : InputsKept r s) : InputsKept r (takeWork sp s) := by
  unfold takeWork
  extract_lets b s1 s2 s3
  have h1 : InputsKept r s1 := h.after_serveLive.after_serveResp
  have h2 : InputsKept r s2 := h1.after_resume.ite h1
  have h3 : InputsKept r s3 := h2.after_refinStart.after_serveForce
  split
  · exact h3.after_setSp.after_startRoutine.ite h3
  · exact h3

theorem after_nextWork {sp : Nat} (h : InputsKept r s) : InputsKept r (nextWork sp s) := by
  unfold nextWork watchFree
  dsimp only
  split
  · exact h.after_takeWork
  · exact h.after_takeWork.after_raise.ite h.after_takeWork

/-! #### Changes of settings and of responses -/

theorem after_cancelChange {n : Nat} (h : InputsKept r s) : InputsKept r (cancelChange n s) := by
  unfold cancelChange
  refine (h.elsewhere.foldl _ fun u sp hu => ?_).ite h.elsewhere
  extract_lets x s1
  have h1 : InputsKept r s1 := hu.after_setSp.after_skipSlot.ite hu
  exact h1.after_setSlot.after_skipSlot.after_nextWork.ite h1

theorem after_dropResp {n : Nat} (h : InputsKept r s) : InputsKept r (dropResp n s) := by
  unfold dropResp setChange
  exact (h.after_lower.ite h).elsewhere.foldl _ fun _ _ hu => hu.after_setSp.after_nextWork.ite hu

theorem after_fadeEnd {n : Nat} (h : InputsKept r s) : InputsKept r (fadeEnd n s) := by
  unfold fadeEnd setChange
  dsimp only
  split
  · split
    · exact h.after_lower.elsewhere.after_setSp.after_nextWork
    · exact h.after_lower.elsewhere
  · exact h

theorem after_fadesEnd (h : InputsKept r s) : InputsKept r (fadesEnd s) := h.foldl _ fun _ _ hu => hu.after_fadeEnd

end InputsKept
end Sys2Proof.Machine
end

section
/-! A step without a command: a nanosecond passes (R21). -/

namespace Sys2Proof.Machine

/-! ### Time and its slew -/

/-- A nanosecond that spends none of a slew. -/
theorem passTime_even {s : State} (h : s.clk.slew = 0 ∨ s.clk.slewT + s.clk.ppm < 1000000) :
    (passTime 1 s).clk.site = (s.clk.site + 1) % 2 ^ 64 ∧ (passTime 1 s).clk.slew = s.clk.slew := by
  have hk : min ((s.clk.slewT + 1 * s.clk.ppm) / 1000000) s.clk.slew.natAbs = 0 := by omega
  unfold passTime
  dsimp only
  rw [hk]
  simp

/-- A nanosecond that spends one of a slew. -/
theorem passTime_slew {s : State} (hlo : 1000000 ≤ s.clk.slewT + s.clk.ppm) (hhi : s.clk.slewT + s.clk.ppm < 2000000) :
    (0 < s.clk.slew → (passTime 1 s).clk.site = (s.clk.site + 2) % 2 ^ 64 ∧ (passTime 1 s).clk.slew = s.clk.slew - 1) ∧
    (s.clk.slew < 0 → (passTime 1 s).clk.site = s.clk.site % 2 ^ 64 ∧ (passTime 1 s).clk.slew = s.clk.slew + 1) := by
  have hk : s.clk.slew ≠ 0 → min ((s.clk.slewT + 1 * s.clk.ppm) / 1000000) s.clk.slew.natAbs = 1 := by omega
  refine ⟨fun hpos => ?_, fun hneg => ?_⟩
  · unfold passTime
    dsimp only
    rw [hk (by omega), Int.sign_eq_one_of_pos hpos, if_pos hpos, if_neg (by omega)]
    exact ⟨rfl, rfl⟩
  · unfold passTime
    dsimp only
    rw [hk (by omega), Int.sign_eq_neg_one_of_neg hneg, if_pos hneg, if_neg (by omega)]
    exact ⟨rfl, by omega⟩

/-! ### What moves with time -/

/-- Frames that wait leave the link ports. -/
theorem linkPump_eq (s : State) : linkPump s = { s with cvn := { s.cvn with ports := (linkPump s).cvn.ports } } :=
  List.foldlRecOn (motive := fun u : State => u = { s with cvn := { s.cvn with ports := u.cvn.ports } }) _ _ rfl
    fun u hu p _ => by
      split
      · exact hu
      · rw [hu]
        rfl

theorem fadeEnd_of_not_fading {s : State} {n : Nat} (h : changePh s n ≠ some .fading) : fadeEnd n s = s :=
  if_neg fun hfade => h hfade.1

theorem fadesEnd_of_not_fading {s : State} (h : ∀ n, changePh s n ≠ some .fading) : fadesEnd s = s :=
  List.foldlRecOn (motive := fun u => u = s) _ _ rfl fun u hu n _ => by
    rw [hu]
    exact fadeEnd_of_not_fading (h n)

/-- A nanosecond has passed, and frames have left the link ports. -/
def ticked (s : State) : State := linkPump (passTime 1 s)

theorem ticked_eq (s : State) :
    ticked s = { s with clk := (passTime 1 s).clk, cvn := { s.cvn with ports := (ticked s).cvn.ports } } :=
  linkPump_eq (passTime 1 s)

theorem ticked_clk (s : State) : (ticked s).clk = (passTime 1 s).clk := by rw [ticked_eq]

/-- The state in which an idle step of RUN looks for crossfades that are over. -/
def pathTicked (s : State) : State :=
  { ticked s with clk := { (ticked s).clk with path := pathTick (ticked s).clk.site s } }

theorem idle_run {s : State} (hon : mainOn s = true) (hrun : running s = true) : idle s = fadesEnd (pathTicked s) := by
  rw [idle, if_pos hon, if_pos hrun]
  rfl

theorem idle_rest {s : State} (hon : mainOn s = true) (hrun : running s = false) : idle s = ticked s := by
  rw [idle, if_pos hon, hrun]
  rfl

theorem idle_down {s : State} (hoff : mainOn s = false) : idle s = { s with clk := { s.clk with now := s.clk.now + 1 } } := by
  rw [idle, hoff]
  rfl

/-- With the main domain up, only the sample path of the clock moves beside time. -/
theorem idle_clock {s : State} (hon : mainOn s = true) : clockOf (idle s) = clockOf (passTime 1 s) := by
  have hticked : clockOf (ticked s) = clockOf (passTime 1 s) := by
    unfold clockOf
    rw [ticked_clk]
  cases hrun : running s
  · rw [idle_rest hon hrun, hticked]
  · rw [idle_run hon hrun]
    obtain ⟨-, hclk, -⟩ := (InputsKept.refl (pathTicked s)).after_fadesEnd
    refine (hclk.trans ?_).trans hticked
    simp only [clockOf, pathTicked]

/-- Outside RUN, or with no response change in its crossfade, the clock and the link ports are all that changes. -/
theorem idle_frame {s : State} (hon : mainOn s = true) (h : running s = false ∨ ∀ n, changePh s n ≠ some .fading) :
    idle s = { s with clk := (idle s).clk, cvn := { s.cvn with ports := (idle s).cvn.ports } } := by
  cases hrun : running s
  · rw [idle_rest hon hrun, ticked_clk]
    exact ticked_eq s
  · rcases h with h | h
    · simp [hrun] at h
    · have hpath : pathTicked s =
          { s with clk := (pathTicked s).clk, cvn := { s.cvn with ports := (pathTicked s).cvn.ports } } := by
        unfold pathTicked
        rw [ticked_eq]
      have hnone : ∀ n, changePh (pathTicked s) n ≠ some .fading := by
        rw [hpath]
        exact h
      rw [idle_run hon hrun, fadesEnd_of_not_fading hnone]
      exact hpath

theorem idle_path {s : State} (hrun : running s = false) : (idle s).clk.path = s.clk.path := by
  cases hon : mainOn s
  · rw [idle_down hon]
  · rw [idle_rest hon hrun, ticked_clk]
    rfl

theorem step_idle {s : State} (hq : s.pending = []) : step s = .next (idle s) := by
  unfold step
  rw [hq]

/-- Settles O2: an idle step moves the clock as `passTime` does, and the sample path with it. -/
theorem idleStepCountsTime : Obligations.IdleStepCountsTime := by
  intro s hq
  have hpend : (idle s).pending = [] := (idle_keeps (Keeps_refl s)).1.trans hq
  refine ⟨idle s, step_idle hq, hpend, ?_⟩
  cases hon : mainOn s
  · rw [idle_down hon]
    simp
  · have hclk := idle_clock hon
    have hsite : (idle s).clk.site = (passTime 1 s).clk.site := (congrArg ClockSt.site hclk :)
    have hslew : (idle s).clk.slew = (passTime 1 s).clk.slew := (congrArg ClockSt.slew hclk :)
    refine ⟨(congrArg ClockSt.now hclk :), (congrArg ClockSt.stopped hclk :), (congrArg ClockSt.xsrc hclk :),
      (congrArg ClockSt.rcTrims hclk :), by simp, fun _ h => ?_, fun _ hlo hhi => ?_, fun _ => idle_frame hon, idle_path⟩
    · rw [hsite, hslew]
      exact passTime_even h
    · rw [hsite, hslew]
      exact passTime_slew hlo hhi

end Sys2Proof.Machine
end

section
/-! The host port: frames that read words, and frames that write them (R25, R402 to R410). -/

namespace Sys2Proof.Machine

/-! ### Headers and status -/

theorem header_tag_lt {b : List Byte} {h : Header} (hh : header b = some h) : h.tag < 16 := by
  unfold header at hh
  dsimp only at hh
  split at hh
  · cases hh
    exact Nat.mod_lt _ (by decide)
  · cases hh

/-- RESULT stands above the rest of the status word. -/
theorem statusWord_result (s : State) {h : Header} (result : Nat) {fidx : Nat} (htag : h.tag < 16) (hfidx : fidx < 512) :
    statusWord s h result fidx false / 2 ^ 28 = result := by
  obtain ⟨hresult, -⟩ := statusWord_fields s h result fidx false hfidx htag
  exact hresult

/-! ### Read frames (R404) -/

/-- A read changes nothing but the captures. -/
theorem readWord_state (addr : Nat) (s : State) :
    ∃ c, (readWord addr s).2 = { s with host := { s.host with capt := c } } := by
  unfold readWord
  split
  · exact ⟨_, rfl⟩
  · dsimp only
    split
    · exact ⟨_, rfl⟩
    · exact ⟨s.host.capt, rfl⟩

/-- A read shows the upper word captured, else the register's view. -/
theorem readWord_shows (addr : Nat) (s : State) :
    (readWord addr s).1 = (mget none s.host.capt addr).getD (viewAddr s addr) := by
  unfold readWord
  split
  next v hv => rw [hv]; rfl
  next hv => rw [hv]; rfl

theorem readWords_state (h : Header) (n k : Nat) (s : State) :
    ∃ c, (readWords h n k s).2.2 = { s with host := { s.host with capt := c } } := by
  induction n generalizing k s with
  | zero => exact ⟨s.host.capt, rfl⟩
  | succ n ih =>
    obtain ⟨c, hc⟩ := readWord_state (h.at_ k) s
    obtain ⟨d, hd⟩ := ih (k + 1) (readWord (h.at_ k) s).2
    exact ⟨d, hd.trans (by rw [hc])⟩

theorem readWords_length (h : Header) (n k : Nat) (s : State) : (readWords h n k s).1.length = n := by
  induction n generalizing k s with
  | zero => rfl
  | succ n ih => exact congrArg Nat.succ (ih _ _)

theorem readWords_head (h : Header) {n : Nat} (hn : 1 ≤ n) (k : Nat) (s : State) :
    (readWords h n k s).1.head? = some (readWord (h.at_ k) s).1 := by
  cases n with
  | zero => omega
  | succ n => rfl

theorem readWords_mapped (h : Header) (n k : Nat) (s : State) (hm : ∀ j < n, (regAt (h.at_ (k + j))).isSome = true) :
    (readWords h n k s).2.1 = none := by
  induction n generalizing k s with
  | zero => rfl
  | succ n ih =>
    have hk : ¬ (regAt (h.at_ k)).isNone = true := by simpa [Option.isSome_iff_ne_none] using hm 0 n.succ_pos
    exact (if_neg hk).trans (ih _ _ fun j hj => by
      rw [Nat.add_right_comm, Nat.add_assoc]
      exact hm (j + 1) (by omega))

theorem exec_hostReadFrame {s : State} {hdr : List Byte} {h : Header} (hon : mainOn s = true) (hh : header hdr = some h)
    (hbad : h.bad = false) (hlen : 1 ≤ h.len) (hop : h.op = 0) :
    exec (.hostReadFrame hdr) s = .next (readFrame h (hostFrame s)) := by
  have hread : hostRead hdr s = readFrame h (hostFrame s) := by
    have hne : h.len ≠ 0 := by omega
    simp [hostRead, hh, hbad, hne, hop]
  exact congrArg Host.Outcome.next ((if_pos hon).trans hread)

/-- The answer of a read frame, the words read being `r`. -/
theorem readFrame_answer {h : Header} {s : State} (htag : h.tag < 16) :
    ∃ st, readFrame h s = respond (readWords h h.len 0 s).1 st (readWords h h.len 0 s).2.2 ∧
      ((readWords h h.len 0 s).2.1 = none → st / 2 ^ 28 = 0) := by
  unfold readFrame
  dsimp only
  split
  next k hk => exact ⟨_, rfl, fun hn => by simp [hk] at hn⟩
  next => exact ⟨_, rfl, fun _ => statusWord_result _ 0 htag (by decide)⟩

/-- Settles O7: the words of a read frame are read one by one, and each changes the captures alone. -/
theorem readFrameReturnsWords : Obligations.ReadFrameReturnsWords := by
  intro s hdr h hon hh hop hresv hpos hmax haddr
  have hbad : h.bad = false := by
    simp only [Header.bad, hresv, hop, haddr]
    simp [hmax]
  obtain ⟨st, hframe, hst⟩ := readFrame_answer (s := hostFrame s) (header_tag_lt hh)
  obtain ⟨c, hc⟩ := readWords_state h h.len 0 (hostFrame s)
  refine ⟨_, (readWords h h.len 0 (hostFrame s)).1, st, exec_hostReadFrame hon hh hbad hpos hop, ?_⟩
  rw [hframe, hc]
  refine ⟨rfl, rfl, rfl, rfl, rfl, readWords_length _ _ _ _, ?_, fun hm => hst (readWords_mapped _ _ _ _ ?_)⟩
  · rw [readWords_head h hpos, readWord_shows, hostFrame, viewAddr_host]
  · simpa using hm

/-! ### Write frames (R405, R408) -/

theorem writeWord_unmapped {addr : Nat} (w : Nat) (s : State) (hr : regAt addr = none) : writeWord addr w s = (2, s) := by
  simp [writeWord, hr]

section Mapped

variable {s : State} {addr w i : Nat} {r : RegRow} (hr : regAt addr = some (r, i))
include hr

theorem writeWord_refused (ha : accepted r i addr w s = false) : writeWord addr w s = (3, s) := by
  simp [writeWord, hr, ha]

/-- A word of an ordinary session to a register of LIVE fields has no effect (R9). -/
theorem writeWord_live (ha : accepted r i addr w s = true) (hp : privileged s = false) (hl : allLive r i = true) :
    writeWord addr w s = (0, s) := by
  simp [writeWord, hr, ha, hp, hl]

theorem writeWord_pwrCtl (ha : accepted r i addr w s = true) (hp : privileged s = true) (hpwr : r.rid = R.PWR_CTL.rid) :
    writeWord addr w s = (0, pwrCtl w s) := by
  simp [writeWord, hr, ha, hp, hpwr]

/-- Any other word that is accepted acts, or is posted while its domain stands still. -/
theorem writeWord_acts (ha : accepted r i addr w s = true) (hp : privileged s = true ∨ allLive r i = false)
    (hpwr : r.rid ≠ R.PWR_CTL.rid) : writeWord addr w s = (0, if domStopped s r.dom then
      { s with host := { s.host with posted := s.host.posted ++ [(r.dom, addr, w)] } } else wordEffect r i addr w s) := by
  have hlive : (!privileged s && allLive r i) = false := by
    rcases hp with hp | hl
    · simp [hp]
    · simp [hl]
  unfold writeWord
  rw [hr]
  simp only [ha, hlive, hpwr, Bool.not_true, Bool.false_eq_true, if_false]
  split <;> rfl

end Mapped

theorem writeWord_result_lt (addr w : Nat) (s : State) : (writeWord addr w s).1 < 16 := by
  unfold writeWord
  repeat' split
  all_goals simp

theorem writeWords_nil (h : Header) (k : Nat) (s : State) : writeWords h [] k s = (none, s) := rfl

theorem writeWords_cons {s : State} (h : Header) (w : Word) (ws : List Word) (k : Nat) (hon : mainOn s = true) :
    writeWords h (w :: ws) k s =
      (if (writeWord (h.at_ k) w.toNat s).1 = 0 then (writeWords h ws (k + 1) (writeWord (h.at_ k) w.toNat s).2).1
        else some ((writeWord (h.at_ k) w.toNat s).1, k),
       (writeWords h ws (k + 1) (writeWord (h.at_ k) w.toNat s).2).2) := by
  simp [writeWords, hon]

theorem writeWords_one {h : Header} {w : Word} {k : Nat} {s u : State} (hon : mainOn s = true)
    (hw : writeWord (h.at_ k) w.toNat s = (0, u)) : writeWords h [w] k s = (none, u) := by
  rw [writeWords_cons h w [] k hon, hw]
  rfl

/-- The first failure of a frame's words: its RESULT, and its place among them. -/
theorem writeWords_failure {h : Header} {ws : List Word} {k : Nat} {s : State} {x : Nat × Nat}
    (hx : (writeWords h ws k s).1 = some x) : x.1 < 16 ∧ x.2 < k + ws.length := by
  induction ws generalizing k s with
  | nil => cases hx
  | cons w ws ih =>
    by_cases hon : mainOn s = true
    · rw [writeWords_cons h w ws k hon] at hx
      dsimp only at hx
      split at hx
      · obtain ⟨hres, hidx⟩ := ih hx
        exact ⟨hres, by rw [List.length_cons]; omega⟩
      · cases hx
        exact ⟨writeWord_result_lt _ _ _, by simp⟩
    · simp [writeWords, hon] at hx

/-- A frame that passes its checks and is no duplicate executes. -/
theorem exec_hostWriteFrame {s : State} {f : WriteFrame} {h : Header} (hon : mainOn s = true) (hh : header f.hdr = some h)
    (hbad : h.bad = false) (hop : h.op = 1) (hlen : 1 ≤ h.len) (hwords : f.words.length = h.len) (hall : f.complete = true)
    (hcrc : dataCrc f.words = f.dcrc.toNat) (hdup : isDup h f.dcrc.toNat s = none) :
    exec (.hostWriteFrame f) s = .next (executeFrame h f (hostFrame s)) := by
  have hdup' : isDup h f.dcrc.toNat (hostFrame s) = none := hdup
  have hwrite : hostWrite f s = executeFrame h f (hostFrame s) := by
    have hne : h.len ≠ 0 := by omega
    simp [hostWrite, hh, hbad, hne, hop, hall, hwords, hcrc, hdup']
  exact congrArg Host.Outcome.next ((if_pos hon).trans hwrite)

/-- The status that answers a frame: of its first failure, or of success. -/
def frameStatus (h : Header) (r : Option (Nat × Nat) × State) : Nat :=
  statusWord r.2 h (r.1.getD (0, 0)).1 (r.1.getD (0, 0)).2 false

theorem executeFrame_lost {h : Header} {f : WriteFrame} {s : State} (hoff : mainOn (writeWords h f.words 0 s).2 = false) :
    executeFrame h f s = (writeWords h f.words 0 s).2 := by
  simp [executeFrame, hoff]

theorem executeFrame_answered {h : Header} {f : WriteFrame} {s : State} {r : Option (Nat × Nat) × State}
    (hr : writeWords h f.words 0 s = r) (hon : mainOn r.2 = true) : executeFrame h f s =
      respond [] (frameStatus h r)
        { r.2 with host := { r.2.host with dup := some (dupOf h f.dcrc.toNat (frameStatus h r)) } } := by
  unfold executeFrame
  rw [hr]
  obtain ⟨x, u⟩ := r
  dsimp only at hon
  cases x <;> simp [hon, frameStatus]

/-- RESULT of a frame of at most 256 words. -/
theorem frameStatus_result {h : Header} {ws : List Word} {s : State} (htag : h.tag < 16) (hlen : ws.length ≤ 256) :
    frameStatus h (writeWords h ws 0 s) / 2 ^ 28 = ((writeWords h ws 0 s).1.map (·.1)).getD 0 % 16 := by
  unfold frameStatus
  cases hx : (writeWords h ws 0 s).1 with
  | none => exact statusWord_result _ 0 htag (by decide)
  | some x =>
    obtain ⟨hres, hidx⟩ := writeWords_failure hx
    exact (statusWord_result _ x.1 htag (show x.2 < 512 by omega)).trans (Nat.mod_eq_of_lt hres).symm

/-! ### Posted words (R25) -/

theorem takePosted_none {s : State} {d : Dom} (h : ∀ p ∈ s.host.posted, p.1 ≠ d) : takePosted d s = s := by
  have hdue : s.host.posted.filter (fun p => p.1 == d) = [] := List.filter_eq_nil_iff.2 (by simpa using h)
  have hrest : s.host.posted.filter (fun p => p.1 != d) = s.host.posted := List.filter_eq_self.2 (by simpa using h)
  simp only [takePosted, hdue, hrest, List.foldl_nil]

theorem takePosted_one {s : State} {d : Dom} {addr w i : Nat} {r : RegRow} {rest : List (Dom × Nat × Nat)}
    (hp : s.host.posted = (d, addr, w) :: rest) (hrest : ∀ p ∈ rest, p.1 ≠ d) (hr : regAt addr = some (r, i)) :
    takePosted d s = wordEffect r i addr w { s with host := { s.host with posted := rest } } := by
  have hdue : rest.filter (fun p => p.1 == d) = [] := List.filter_eq_nil_iff.2 (by simpa using hrest)
  have hkeep : rest.filter (fun p => p.1 != d) = rest := List.filter_eq_self.2 (by simpa using hrest)
  simp [takePosted, hp, hdue, hkeep, postedEffect, hr]

theorem exec_postedWrite {s : State} {d : Dom} (hon : mainOn s = true) (hrun : domStopped s d = false) :
    exec (.postedWriteTakesEffect d) s = .next (takePosted d s) :=
  congrArg Host.Outcome.next (if_pos (by rw [hon, hrun]; rfl))

theorem burstBegins_running {s : State} (hrun : running s = true) :
    burstBegins s = hbOver (hrmOver (takePosted .hclk s)) := if_pos hrun

/-- Settles O9: a frame's words are written one by one; what each does is said by its address, its register and its domain. -/
theorem writeFrameExecutesWord : Obligations.WriteFrameExecutesWord := by
  refine ⟨?_, ?_, fun s h w ws k hon => ?_,
    fun s addr w hr => writeWord_unmapped w s hr, fun s addr w r i hr => ⟨fun ha => writeWord_refused hr ha,
      fun ha hp hl => writeWord_live hr ha hp hl, fun hpwr ha hp => writeWord_pwrCtl hr ha hp hpwr⟩,
    fun s d hon => ⟨fun hstop => ?_, fun hrun hnone => ?_⟩, fun s g t0 xs hrun => ?_,
    fun s d addr w r i rest hon hrun hpost hrest hr => ?_⟩
  · intro s f h w r i s1 hon hh hbad hop hlen hall hws hcrc hdup hr ha hpwr hp
    have hexec := exec_hostWriteFrame hon hh hbad hop (by omega) (by rw [hws, hlen]; rfl) hall (by rw [hws]; exact hcrc) hdup
    have hword := writeWord_acts (s := s1) hr ha hp hpwr
    have hwrite := writeWords_one (s := s1) hon hword
    rw [← hws] at hwrite
    refine ⟨fun hrun hu => ?_, fun hstop => ?_⟩
    · rw [show domStopped s1 r.dom = false from hrun] at hwrite
      exact hexec.trans (congrArg Host.Outcome.next (executeFrame_answered hwrite hu))
    · rw [show domStopped s1 r.dom = true from hstop] at hwrite
      exact ⟨_, hexec.trans (congrArg Host.Outcome.next (executeFrame_answered hwrite hon)), rfl, rfl, _, _, rfl,
        statusWord_result (fidx := 0) _ 0 (header_tag_lt hh) (by decide)⟩
  · intro s f h r hon hh hbad hop hlen hwords hall hcrc hdup
    have hexec := exec_hostWriteFrame hon hh hbad hop hlen hwords hall hcrc hdup
    have hmax : f.words.length ≤ 256 := by
      simp only [Header.bad, Bool.or_eq_false_iff, decide_eq_false_iff_not] at hbad
      omega
    refine ⟨fun hoff => hexec.trans (congrArg Host.Outcome.next (executeFrame_lost hoff)), fun hon' => ?_⟩
    exact ⟨_, _, hexec.trans (congrArg Host.Outcome.next (executeFrame_answered rfl hon')), rfl, rfl, rfl, rfl,
      frameStatus_result (header_tag_lt hh) hmax⟩
  · rw [writeWords_cons h w ws k hon]
    exact ⟨rfl, fun hv => if_pos hv, fun hv => if_neg hv, writeWords_nil h k s⟩
  · exact congrArg Host.Outcome.next (if_neg (by simp [hstop]))
  · rw [exec_postedWrite hon hrun, takePosted_none hnone]
  · have hburst := burstBegins_running hrun
    exact ⟨congrArg (fun u => Host.Outcome.next (phasorsPost g xs u)) hburst,
      congrArg (fun u => Host.Outcome.next (windowPost g xs u)) hburst,
      congrArg (fun u => Host.Outcome.next (highBlock xs u)) hburst,
      congrArg (fun u => Host.Outcome.next (lowBandPeriod t0 xs u)) hburst⟩
  · rw [exec_postedWrite hon hrun, takePosted_one hpost hrest hr]

end Sys2Proof.Machine
end

section
/-! Channels take their settings, start and stop at a boundary (R21, R22, R71, R74, R96). -/

namespace Sys2Proof.Machine

/-! ### Writes, read back -/

theorem lift_spares (s : State) (f : Fld) (i : Nat) : Spares [(f, i)] s (s.lift f i) := by
  intro g j hk
  unfold State.lift
  split
  next => rfl
  next => exact put_fld_other s _ _ _ _ _ (hk (f, i) List.mem_cons_self)

/-- Clearing a flag leaves every field of another number alone. -/
theorem lower_fld_field (s : State) (f g : Fld) (i j : Nat) (h : f.id ≠ g.id) : (s.lower f i).fld g j = s.fld g j :=
  lower_spares s f i g j fun p hp => by
    rw [List.mem_singleton.1 hp]
    exact fkey_ne _ _ _ _ h

theorem lower_bit_field (s : State) (f g : Fld) (i j : Nat) (h : f.id ≠ g.id) : (s.lower f i).bit g j = s.bit g j := by
  unfold State.bit
  rw [lower_fld_field s f g i j h]

theorem put_bit_field (s : State) (f g : Fld) (i j v : Nat) (h : f.id ≠ g.id) : (s.put f i v).bit g j = s.bit g j := by
  unfold State.bit
  rw [put_fld_field s f g i j v h]

theorem Spares_mono {l k : List (Fld × Nat)} {s t : State} (hlk : l ⊆ k) (h : Spares l s t) : Spares k s t :=
  fun f i hk => h f i fun p hp => hk p (hlk hp)

theorem Spares_trans {l : List (Fld × Nat)} {s t u : State} (hst : Spares l s t) (htu : Spares l t u) : Spares l s u :=
  fun f i hk => (htu f i hk).trans (hst f i hk)

/-! ### A channel starts -/

/-- An analog channel may come into service uncalibrated: UNCHK, and the note of its rise, are all that shows it. -/
theorem noteIn_eq (n : Nat) (s : State) :
    noteIn n s = { s with flds := (noteIn n s).flds, mtr := { s.mtr with rose := (noteIn n s).mtr.rose } } := by
  unfold noteIn noteFactory
  split
  · split
    · exact lift_eq s _ _
    · rfl
  · rfl

theorem noteIn_spares (n : Nat) (s : State) : Spares [(F.RMT_MST_UNCHK, n)] s (noteIn n s) := by
  unfold noteIn noteFactory
  split
  · split
    · exact lift_spares s _ _
    · exact fun _ _ _ => rfl
  · exact fun _ _ _ => rfl

theorem noteIn_bitstream {n : Nat} (s : State) (hn : 112 ≤ n) : noteIn n s = s := if_neg (by omega)

theorem noteIn_unchk {n : Nat} {s : State} (h : s.bit F.RMT_MST_UNCHK n = true) : noteIn n s = s := by
  unfold noteIn noteFactory
  split
  · split
    · exact if_pos h
    · rfl
  · rfl

theorem noteIn_inp (n : Nat) (s : State) : (noteIn n s).inp = s.inp := by rw [noteIn_eq]

theorem noteIn_clk (n : Nat) (s : State) : (noteIn n s).clk = s.clk := by rw [noteIn_eq]

theorem noteIn_pwr (n : Nat) (s : State) : (noteIn n s).pwr = s.pwr := by rw [noteIn_eq]

theorem noteIn_mtr (n : Nat) (s : State) : (noteIn n s).mtr = { s.mtr with rose := (noteIn n s).mtr.rose } :=
  congrArg State.mtr (noteIn_eq n s)

theorem streamStart_inp (n : Nat) (s : State) : (streamStart n s).inp = s.inp := rfl

theorem streamStart_pwr (n : Nat) (s : State) : (streamStart n s).pwr = s.pwr := rfl

theorem streamStart_mtr (n : Nat) (s : State) : (streamStart n s).mtr = s.mtr := rfl

/-- The fields that the start of a stream writes: those of its fast path. -/
theorem streamStart_fld (n : Nat) (s : State) (f : Fld) (i : Nat) : (streamStart n s).fld f i =
    (((s.put F.FLT_ST_FAST n 0).put F.FLT_ST_OVC n 0).put F.FLT_ST_STEP n 0).fld f i := rfl

theorem streamStart_spares (n : Nat) (s : State) :
    Spares [(F.FLT_ST_FAST, n), (F.FLT_ST_OVC, n), (F.FLT_ST_STEP, n)] s (streamStart n s) := by
  intro f i hk
  rw [streamStart_fld, put_fld_other _ _ _ _ _ _ (hk (F.FLT_ST_STEP, n) (by simp)),
    put_fld_other _ _ _ _ _ _ (hk (F.FLT_ST_OVC, n) (by simp)), put_fld_other _ _ _ _ _ _ (hk (F.FLT_ST_FAST, n) (by simp))]

theorem streamStart_fast_clear (n : Nat) (s : State) : (streamStart n s).fld F.FLT_ST_FAST n = 0 ∧
    (streamStart n s).fld F.FLT_ST_OVC n = 0 ∧ (streamStart n s).fld F.FLT_ST_STEP n = 0 := by
  simp (disch := decide) only [streamStart_fld, put_fld_field, put_fld_same, Nat.zero_mod, and_self]

/-- A stream starts on a cleared path, of which only the saturation latch is kept. -/
theorem streamStart_path (n : Nat) (s : State) :
    getPath (streamStart n s) n = { StreamPath.cleared with sat := (getPath s n).sat } := by
  have hsat : (getPath (fastClear n s) n).sat = (getPath s n).sat :=
    (congrArg StreamPath.sat (getPath_setPath_same n { getPath s n with fz := [], fast := [] } s) :)
  show getPath (pathStart n (fastClear n s)) n = _
  rw [pathStart, getPath_setPath_same, hsat]

theorem streamStart_fresh (n : Nat) (s : State) : mget false (streamStart n s).flt.fresh n = true := by simp [streamStart]

/-- A channel runs, under the settings that its registers hold. -/
def withSettings (n : Nat) (s : State) : State :=
  { takeSettings n s with inp := { (takeSettings n s).inp with en := mput false s.inp.en n true } }

theorem startChannel_eq (n : Nat) (s : State) : startChannel n s = streamStart n (noteIn n (withSettings n s)) := rfl

theorem startChannel_inp (n : Nat) (s : State) : (startChannel n s).inp = (withSettings n s).inp := by
  rw [startChannel_eq, streamStart_inp, noteIn_inp]

theorem startChannel_pwr (n : Nat) (s : State) : (startChannel n s).pwr = s.pwr := by
  rw [startChannel_eq, streamStart_pwr, noteIn_pwr]
  rfl

theorem startChannel_mtr (n : Nat) (s : State) :
    (startChannel n s).mtr = { s.mtr with rose := (startChannel n s).mtr.rose } := by
  rw [startChannel_eq, streamStart_mtr]
  exact noteIn_mtr n (withSettings n s)

theorem startChannel_fresh (n : Nat) (s : State) : mget false (startChannel n s).flt.fresh n = true := streamStart_fresh n _

theorem startChannel_fast_clear (n : Nat) (s : State) : (startChannel n s).fld F.FLT_ST_FAST n = 0 ∧
    (startChannel n s).fld F.FLT_ST_OVC n = 0 ∧ (startChannel n s).fld F.FLT_ST_STEP n = 0 :=
  streamStart_fast_clear n _

theorem startChannel_path (n : Nat) (s : State) :
    getPath (startChannel n s) n = { StreamPath.cleared with sat := (getPath s n).sat } := by
  rw [startChannel_eq, streamStart_path]
  unfold getPath
  rw [noteIn_clk]
  rfl

theorem startChannel_unchk {n : Nat} {s : State} (h : 112 ≤ n ∨ s.bit F.RMT_MST_UNCHK n = true) :
    (startChannel n s).fld F.RMT_MST_UNCHK n = s.fld F.RMT_MST_UNCHK n := by
  have hnote : noteIn n (withSettings n s) = withSettings n s := by
    rcases h with hn | hset
    · exact noteIn_bitstream _ hn
    · exact noteIn_unchk hset
  rw [startChannel_eq, hnote]
  simp (disch := decide) only [streamStart_fld, put_fld_field]
  rfl

theorem startChannel_spares (n : Nat) (s : State) :
    Spares [(F.FLT_ST_FAST, n), (F.FLT_ST_OVC, n), (F.FLT_ST_STEP, n), (F.RMT_MST_UNCHK, n)] s (startChannel n s) :=
  Spares_trans (Spares_mono (by simp) (noteIn_spares n (withSettings n s)))
    (Spares_mono (by simp) (streamStart_spares n (noteIn n (withSettings n s))))

/-! ### A channel stops -/

theorem arcStop_inputsKept (n : Nat) (s : State) : InputsKept s (arcStop n s) := by
  have h := InputsKept.refl s
  unfold arcStop
  exact (h.elsewhere.put.put.put.after_raise.ite h.elsewhere.put.put).ite h

/-- The status flags of a channel fall. -/
def withStatusClear (n : Nat) (s : State) : State :=
  ((((s.lower F.INP_ST_OPEN n).put F.INP_ST_OPENPIN n 0).lower F.INP_ST_OVR n).lower F.INP_ST_STUCK n).lower F.INP_ST_DENS n

theorem stopChannel_flds (n : Nat) (s : State) : (stopChannel n s).flds = (withStatusClear n (arcStop n s)).flds := by
  unfold stopChannel withStatusClear
  rfl

theorem stopChannel_fld (n : Nat) (s : State) (f : Fld) (i : Nat) :
    (stopChannel n s).fld f i = (withStatusClear n (arcStop n s)).fld f i := by
  unfold State.fld
  rw [stopChannel_flds]

theorem stopChannel_bit (n : Nat) (s : State) (f : Fld) (i : Nat) :
    (stopChannel n s).bit f i = (withStatusClear n (arcStop n s)).bit f i := by
  unfold State.bit
  rw [stopChannel_fld]

theorem stopChannel_clears (n : Nat) (s : State) : (stopChannel n s).bit F.INP_ST_OPEN n = false ∧
    (stopChannel n s).fld F.INP_ST_OPENPIN n = 0 ∧ (stopChannel n s).bit F.INP_ST_OVR n = false ∧
    (stopChannel n s).bit F.INP_ST_STUCK n = false ∧ (stopChannel n s).bit F.INP_ST_DENS n = false := by
  simp (disch := decide) only [stopChannel_bit, stopChannel_fld, withStatusClear, lower_bit_field, lower_fld_field,
    put_bit_field, put_fld_same, lower_bit_same, Nat.zero_mod, and_self]

/-- The latches, the peak and the count of a channel that stops. -/
theorem stopChannel_fld_kept (n : Nat) (s : State) {f : Fld} (hf : f ∈ inpFlds := by decide)
    (hne : f.id ∉ [F.INP_ST_OPEN.id, F.INP_ST_OPENPIN.id, F.INP_ST_OVR.id, F.INP_ST_STUCK.id, F.INP_ST_DENS.id] := by decide) :
    (stopChannel n s).fld f n = s.fld f n := by
  simp only [List.mem_cons, List.not_mem_nil, or_false, not_or] at hne
  obtain ⟨hopen, hpin, hovr, hstuck, hdens⟩ := hne
  rw [stopChannel_fld, withStatusClear, lower_fld_field _ _ _ _ _ (Ne.symm hdens), lower_fld_field _ _ _ _ _ (Ne.symm hstuck),
    lower_fld_field _ _ _ _ _ (Ne.symm hovr), put_fld_field _ _ _ _ _ _ (Ne.symm hpin),
    lower_fld_field _ _ _ _ _ (Ne.symm hopen), (arcStop_inputsKept n s).fld n hf]

theorem stopChannel_en (n : Nat) (s : State) : mget false (stopChannel n s).inp.en n = false := by simp [stopChannel]

/-- What a channel that stops gives up beside: its pending changes of settings and of responses. -/
def dropChanges (n : Nat) (s : State) : State := if n < 112 then dropResp n (cancelChange n s) else cancelChange n s

theorem dropChanges_inputsKept (n : Nat) (s : State) : InputsKept s (dropChanges n s) :=
  (InputsKept.refl s).after_cancelChange.after_dropResp.ite (InputsKept.refl s).after_cancelChange

/-! ### At a boundary, and at no other instant -/

theorem not_due {s : State} {n : Nat} (h : updateDue s n = false) :
    enableApply n s = s ∧ disableApply n s = s ∧ timingApply n s = s := by
  simp [enableApply, disableApply, timingApply, h]

theorem enableApply_due {s : State} {n : Nat} (hrun : running s = true) (hdue : updateDue s n = true)
    (hen : s.bit F.INP_CFG_EN n = true) (hoff : mget false s.inp.en n = false) : enableApply n s = startChannel n s :=
  if_pos (by simp [hrun, hdue, hen, hoff])

theorem disableApply_due {s : State} {n : Nat} (hrun : running s = true) (hdue : updateDue s n = true)
    (hen : s.bit F.INP_CFG_EN n = false) (hon : mget false s.inp.en n = true) :
    disableApply n s = dropChanges n (stopChannel n s) :=
  if_pos (by simp [hrun, hdue, hen, hon])

/-- The registers' SDLY, LAT and INV come into force. -/
def withTiming (n : Nat) (s : State) : State :=
  { s with inp := { s.inp with
      sdly := mput 0 s.inp.sdly n (s.fld F.INP_CFG_SDLY n), lat := mput 0 s.inp.lat n (s.fld F.INP_CFG_LAT n)
      inv := mput 0 s.inp.inv n (s.fld F.INP_CFG_INV n) } }

theorem timingApply_due {s : State} {n : Nat} (hrun : running s = true) (hdue : updateDue s n = true) :
    timingApply n s = withTiming n s := if_pos (by simp [hrun, hdue])

/-- Settles O37: a channel that starts or stops is said by its stream's start and its stop; what else gives way to a stop keeps
what the inputs show. -/
theorem channelSettingsApply : Obligations.ChannelSettingsApply := by
  refine ⟨fun s n hno => ?_, fun s n hno => ?_, fun s b hno => ?_, fun s n hrun hdue hen hoff => ?_,
    fun s n hrun hdue hen hon => ?_, fun s n hrun hdue => ?_, fun s b hrun hdue => ?_⟩
  · obtain ⟨henable, hdisable, -⟩ := not_due hno
    exact ⟨congrArg Host.Outcome.next henable, congrArg Host.Outcome.next hdisable⟩
  · exact congrArg Host.Outcome.next (if_neg (by simp [hno]))
  · obtain ⟨-, -, htiming⟩ := not_due hno
    exact congrArg Host.Outcome.next htiming
  · obtain ⟨hfast, hovc, hstep⟩ := startChannel_fast_clear n s
    refine ⟨_, congrArg Host.Outcome.next (enableApply_due hrun hdue hen hoff), ?_, ?_, fun hn => ?_, startChannel_fresh _ _,
      startChannel_path _ _, startChannel_pwr _ _, startChannel_mtr _ _, hfast, hovc, hstep, fun hn => startChannel_unchk (.inl hn),
      fun hset => ?_, startChannel_spares _ _⟩
    · simp [startChannel_inp, withSettings]
    · simp [startChannel_inp, withSettings, takeSettings]
    · simp [startChannel_inp, withSettings, takeSettings, hn]
    · unfold State.bit
      rw [startChannel_unchk (.inr hset)]
      exact hset
  · obtain ⟨hopen, hpin, hovr, hstuck, hdens⟩ := stopChannel_clears n s
    have hkept := dropChanges_inputsKept n (stopChannel n s)
    obtain ⟨hinp, -, -⟩ := id hkept
    refine ⟨_, congrArg Host.Outcome.next (disableApply_due hrun hdue hen hon), ?_⟩
    unfold State.bit at *
    rw [hinp, hkept.fld, hkept.fld, hkept.fld, hkept.fld, hkept.fld, hkept.fld, hkept.fld, hkept.fld]
    exact ⟨stopChannel_en _ _, hopen, hpin, hovr, hstuck, hdens, by rw [stopChannel_fld_kept], stopChannel_fld_kept _ _,
      stopChannel_fld_kept _ _⟩
  · refine ⟨_, congrArg Host.Outcome.next (if_pos (by simp [hrun, hdue])), ?_, rfl⟩
    simp
  · refine ⟨_, congrArg Host.Outcome.next (timingApply_due hrun hdue), ?_, ?_, ?_, rfl⟩
    all_goals exact mget_mput_same _ _ _ _

end Sys2Proof.Machine
end

section
/-! The controller runs (R17, R18, R254): what firmware does once it runs keeps it running, with the hardware event queue empty. -/

namespace Sys2Proof.Machine

/-- The controller runs, and the hardware event queue has been taken over. -/
def CtlRuns (s : State) : Prop := s.ctl = .running ∧ s.ldg.hwq = []

namespace CtlRuns

-- Elaborated side by side, the many short proofs below would each hold a thread, and the threads' stacks are large.
set_option Elab.async false

variable {s : State}

theorem ite {t : State} {c : Prop} [Decidable c] (hs : CtlRuns s) (ht : CtlRuns t) : CtlRuns (if c then s else t) := by
  split
  · exact hs
  · exact ht

theorem foldl {α : Type} {g : State → α → State} (h : CtlRuns s) (l : List α) (hg : ∀ u a, CtlRuns u → CtlRuns (g u a)) :
    CtlRuns (l.foldl g s) :=
  List.foldlRecOn l g h fun u hu a _ => hg u a hu

/-- A change of fields, or of what other units remember. -/
theorem elsewhere {pending : List Instr} {flds : SMap Nat} {clk : ClockSt} {host : HostSt} {pwr : PwrSt} {evt : EvtSt}
    {inp : InpSt} {rmt : RmtSt} {flt : FltSt} {flts : FltsSt} {cal : CalSt} {twn : TwnSt} {mtr : MtrSt} {itn : ItnSt}
    {grd : GrdSt} {hrm : HrmSt} {dst : DstSt} {pls : PlsSt} {way : WaySt} {rng : Nat} {sbx : SbxSt} {cvn : CvnSt} {sar : SarSt}
    {dsp : DspSt} {prt : PrtSt} (h : CtlRuns s) : CtlRuns ⟨pending, flds, clk, s.ctl, host, pwr, s.ldg, evt, inp, rmt, flt, flts,
      cal, twn, mtr, itn, grd, hrm, dst, pls, way, rng, sbx, cvn, sar, dsp, prt⟩ := h

theorem put {g : Fld} {i v : Nat} (h : CtlRuns s) : CtlRuns (s.put g i v) := h

/-- A change of the ledger that leaves the hardware queue empty. -/
theorem ledger {flds : SMap Nat} {l : LdgSt} (h : CtlRuns s) (hl : l.hwq = s.ldg.hwq) :
    CtlRuns { s with flds := flds, ldg := l } := by
  obtain ⟨hctl, hhwq⟩ := h
  exact ⟨hctl, hl.trans hhwq⟩

/-! #### Events -/

/-- Records go to the write queue while the controller runs (R18). -/
theorem after_putRec {x : LdgRec} (h : CtlRuns s) : CtlRuns (putRec s x) := by
  obtain ⟨hctl, -⟩ := id h
  unfold putRec
  refine h.ledger ?_
  unfold queueRec
  rw [if_pos hctl]

theorem after_recordEvt {e : Nat} {x : LdgRec} (h : CtlRuns s) : CtlRuns (recordEvt s e x) := by
  have hwin : CtlRuns { s with ldg := { s.ldg with windows := (rateAdmit s e x.detail).2 } } := h
  exact hwin.after_putRec.ite hwin.elsewhere

theorem after_raise {e d : Nat} (h : CtlRuns s) : CtlRuns (raise e d s) := by
  unfold raise
  have hpend : CtlRuns (if routed s.flds e then { s with flds := setPend s.flds e } else s) := h.elsewhere.ite h
  exact h.ite (hpend.after_recordEvt.ite hpend)

theorem after_raiseIf {b : Bool} {e d : Nat} (h : CtlRuns s) : CtlRuns (raiseIf b e d s) := h.after_raise.ite h

/-! #### The link to the twin -/

theorem after_linkSend {port : Nat} {fs : List OutFrame} (h : CtlRuns s) : CtlRuns (linkSend port fs s) := h.elsewhere

theorem after_countFrame {type : Nat} (h : CtlRuns s) : CtlRuns (countFrame type s) := h.elsewhere

theorem after_tetherSend {type : Nat} {bs : List Nat} (h : CtlRuns s) : CtlRuns (tetherSend type bs s) := by
  unfold tetherSend sendSegments
  exact h.elsewhere.foldl _ fun _ _ hu => hu.after_linkSend.after_countFrame

theorem after_sendMsg {m : TwnMsg} (h : CtlRuns s) : CtlRuns (sendMsg m s) := by
  unfold sendMsg
  exact h.elsewhere.after_tetherSend

/-! #### Faults -/

theorem after_evalDState (h : CtlRuns s) : CtlRuns (evalDState s) := by
  unfold evalDState
  exact (h.put.elsewhere.put.after_raise.elsewhere.after_sendMsg.ite h.put.elsewhere.put.after_raise).ite h.put

theorem after_makeFailed (h : CtlRuns s) : CtlRuns (makeFailed s) := by
  unfold makeFailed
  exact h.elsewhere.after_evalDState

theorem after_latent {scrub : Bool} {cls unit : Nat} (h : CtlRuns s) : CtlRuns (latent scrub cls unit s) :=
  h.put.after_raise.ite h

theorem after_noteFault {cls kind unit detail : Nat} {inj scrub : Bool} (h : CtlRuns s) :
    CtlRuns (noteFault cls kind unit detail inj scrub s) := h.put.put.put.put.put.put.put.put

theorem after_transient {cls unit detail : Nat} {inj scrub : Bool} (h : CtlRuns s) :
    CtlRuns (transient cls unit detail inj scrub s) := by
  unfold transient
  exact h.put.after_noteFault.put.after_raise.after_latent

theorem after_ruleDouble {fs : List FaultRec} {inOne : Bool} (h : CtlRuns s) : CtlRuns (ruleDouble fs inOne s) := by
  unfold ruleDouble
  exact h.elsewhere.put.put.after_raise.after_makeFailed.ite h.elsewhere.put.put.after_raise

theorem after_openWindow {f : FaultRec} (h : CtlRuns s) : CtlRuns (openWindow f s) := by
  unfold openWindow
  dsimp only
  split
  · exact h.elsewhere.after_ruleDouble
  · split
    · exact h.elsewhere.put.put.put.after_ruleDouble
    · exact h.elsewhere.put.put.put

theorem after_permanent {cls unit detail : Nat} {spare scrub : Bool} {chan : Option Nat} (h : CtlRuns s) :
    CtlRuns (permanent cls unit detail spare scrub chan s) := by
  unfold permanent
  extract_lets s1 s2
  have h2 : CtlRuns s2 := h.put.after_noteFault.put.after_raise.after_latent
  exact (h2.after_openWindow.ite h2).after_evalDState

/-! #### The Vault and the calibration sets -/

theorem after_onVault {rank : Nat} {op : FwOp} {f : State → State} (h : CtlRuns s) (hf : CtlRuns (f s)) :
    CtlRuns (onVault rank op f s) := hf.ite h.elsewhere

theorem after_vaultRead {x : VaultRec} (h : CtlRuns s) : CtlRuns (vaultRead x s) := by
  unfold vaultRead takeInjection
  split
  next => exact h.elsewhere.put.after_transient
  next => exact h

theorem after_putCopies {i : Nat} {c : CalCopies} (h : CtlRuns s) : CtlRuns (putCopies i c s) := h.elsewhere

theorem after_touchSets (h : CtlRuns s) : CtlRuns (touchSets s) :=
  h.after_vaultRead.foldl _ fun _ _ hu => (hu.ite hu.after_putCopies).after_raise.ite hu

theorem after_writeSet {i : Nat} {c : CalSet} (h : CtlRuns s) : CtlRuns (writeSet i c s) :=
  h.after_putCopies.put.put.put.put.ite h.after_putCopies.put.put.put.put

/-! #### Spares that a session gives back -/

theorem after_setSp {sp : Nat} {x : SpareSt} (h : CtlRuns s) : CtlRuns (setSp sp x s) := by
  unfold setSp retarget
  exact h.elsewhere.ite h.elsewhere.elsewhere.elsewhere

theorem after_startSlot {k : SlotKind} {sp n : Nat} (h : CtlRuns s) : CtlRuns (startSlot k sp n s) := h.after_setSp

theorem after_serveForce {b : Nat} (h : CtlRuns s) : CtlRuns (serveForce b s) := by
  unfold serveForce refuseForce
  dsimp only
  split
  · split
    · exact h.put.put
    · split
      · exact h.put.after_startSlot.ite h
      · exact h
  · exact h

theorem after_refinDrop (h : CtlRuns s) : CtlRuns (refinDrop s) := by
  unfold refinDrop
  split
  · exact h.after_setSp.after_serveForce
  · exact h

/-! #### Calibration -/

theorem after_trimTrigger (h : CtlRuns s) : CtlRuns (trimTrigger s) := h.elsewhere.ite h.elsewhere.put

theorem after_toutFollow (h : CtlRuns s) : CtlRuns (toutFollow s) := h.foldl _ fun _ _ hu => hu.put.after_raiseIf

theorem after_dieTemperature {ts : List Int} (h : CtlRuns s) : CtlRuns (dieTemperature ts s) := by
  unfold dieTemperature
  extract_lets l span t s1 dt
  have h1 : CtlRuns s1 := h.put.put.after_toutFollow
  exact h.put.after_raiseIf.ite (h1.after_trimTrigger.ite h1)

theorem after_onSess {f : Sess → State → State} (hf : ∀ x, CtlRuns (f x s)) (h : CtlRuns s) : CtlRuns (onSess f s) := by
  unfold onSess
  split
  · exact (hf _).ite h
  · exact h

theorem after_sessAdvance {x : Sess} (h : CtlRuns s) : CtlRuns (sessAdvance x s) :=
  (h.elsewhere.put.ite h.elsewhere).ite ((h.elsewhere.put.ite h.elsewhere).ite h.elsewhere)

theorem after_refinStart (h : CtlRuns s) : CtlRuns (refinStart s) := by
  unfold refinStart
  dsimp only
  split
  · split
    · split
      · exact h.after_sessAdvance
      · exact h.ite h.after_setSp
    · exact h
  · exact h

theorem after_calStart (h : CtlRuns s) : CtlRuns (calStart s) := h.ite (h.put.ite h.elsewhere.put.put.put)

theorem after_calStep {x : Sess} (h : CtlRuns s) : CtlRuns (calStep x s) :=
  h.elsewhere.put.ite (h.elsewhere.put.after_refinStart.ite h)

theorem after_refuseCommit (h : CtlRuns s) : CtlRuns (refuseCommit s) := h.after_sendMsg.elsewhere.put.put.ite h.put

theorem after_calCommit {x : Sess} (h : CtlRuns s) : CtlRuns (calCommit x s) := by
  unfold calCommit
  extract_lets s1
  have h1 : CtlRuns s1 := h.after_touchSets
  split
  · exact h.after_refuseCommit
  · split
    · exact h1.put
    · exact h1.elsewhere.after_sendMsg.ite h1.elsewhere.put.put

theorem after_commitRequest (h : CtlRuns s) : CtlRuns (commitRequest s) :=
  h.after_refuseCommit.ite (h.after_onSess fun _ => h.after_calCommit)

theorem after_sessFail (h : CtlRuns s) : CtlRuns (sessFail s) := by
  unfold sessFail
  exact (h.put.foldl _ fun _ _ hu => hu.put).put.after_raise

theorem after_sessEnd (h : CtlRuns s) : CtlRuns (sessEnd s) := by
  unfold sessEnd
  exact h.elsewhere.after_refinDrop.put

theorem after_calErase {i : Nat} (h : CtlRuns s) : CtlRuns (calErase i s) :=
  (h.after_onVault h.after_writeSet.after_trimTrigger).ite h

theorem after_sessTimeout (h : CtlRuns s) : CtlRuns (sessTimeout s) := h.after_sessFail.ite (h.after_sessEnd.ite h)

theorem after_sessResume (h : CtlRuns s) : CtlRuns (sessResume s) := by
  unfold sessResume
  split
  · exact h.elsewhere.ite h
  · exact h

theorem after_housekeeping {ts : List Int} (h : CtlRuns s) : CtlRuns (housekeeping ts s) :=
  h.after_dieTemperature.put.after_raiseIf

/-! #### The display -/

theorem after_newTarget {t : Nat} (h : CtlRuns s) : CtlRuns (newTarget t s) := h.elsewhere.put.ite h.elsewhere

theorem after_dspNext (h : CtlRuns s) : CtlRuns (dspNext s) := by
  unfold dspNext nextPage
  split
  · split
    · exact h.put.after_newTarget
    · exact h
  · exact h

theorem after_dspShow (h : CtlRuns s) : CtlRuns (dspShow s) := h.after_newTarget.ite h

theorem after_dwellExpire (h : CtlRuns s) : CtlRuns (dwellExpire s) := h.ite h.after_dspNext

/-! #### The strongbox -/

theorem after_keyCheck {n : Nat} (h : CtlRuns s) : CtlRuns (keyCheck n s) := by
  unfold keyCheck
  dsimp only
  split
  · exact h.put
  · split
    · exact h.put.put.put.after_raise
    · exact (h.put.put.put.put.put.ite h.put.put.put.put).elsewhere

theorem after_keySubmit {n : Nat} (h : CtlRuns s) : CtlRuns (keySubmit n s) := by
  unfold keySubmit
  split
  · exact h.after_keyCheck
  · exact h.after_onVault h.after_keyCheck

theorem after_openWriteNow {erase : Bool} {i peer : Nat} (h : CtlRuns s) : CtlRuns (openWriteNow erase i peer s) := by
  unfold openWriteNow
  extract_lets key s1 s2 n
  have h2 : CtlRuns s2 := h.put.put.put.put.foldl _ fun _ _ hu => hu.put
  exact h2.put.ite h2.elsewhere.put.after_raise

theorem after_openWrite {erase : Bool} {i peer : Nat} (h : CtlRuns s) : CtlRuns (openWrite erase i peer s) :=
  h.after_openWriteNow.ite (h.after_onVault h.after_openWriteNow)

theorem after_openPromote (h : CtlRuns s) : CtlRuns (openPromote s) := h.put.put.ite h.put.put.after_raise

theorem after_promoteNow (h : CtlRuns s) : CtlRuns (promoteNow s) := by
  unfold promoteNow
  dsimp only
  split
  · split
    · exact h.put.elsewhere.elsewhere
    · exact h.put
  · exact h

theorem after_passportCount {k : List Nat} (h : CtlRuns s) : CtlRuns (passportCount k s) := by
  unfold passportCount postBytes
  exact h.put.put.elsewhere.foldl _ fun _ _ hu => hu.put

theorem after_passportRequest (h : CtlRuns s) : CtlRuns (passportRequest s) := by
  unfold passportRequest passportRun
  dsimp only
  split
  · exact h.put
  · split
    · exact h.put.put
    · exact h.put.put.ite (h.put.after_onVault h.put.after_passportCount)

/-! #### The itinerary -/

theorem after_showRgn {r : Nat} (h : CtlRuns s) : CtlRuns (showRgn r s) := h.put.put.put.put

theorem after_pkAccept {r : Nat} {u : Update} (h : CtlRuns s) : CtlRuns (pkAccept r u s) := by
  unfold pkAccept
  exact h.after_raise.elsewhere.put.after_showRgn.ite
    (h.after_raise.put.after_raise.ite h.after_raise).elsewhere.after_showRgn

theorem after_pkSubmit (h : CtlRuns s) : CtlRuns (pkSubmit s) := h.elsewhere.put.after_pkAccept.ite h.elsewhere.put.put.after_raise

theorem after_pkDo {op : Nat} (h : CtlRuns s) : CtlRuns (pkDo op s) := by
  unfold pkDo
  split
  · exact h.elsewhere
  · unfold pkAppend
    dsimp only
    split
    · exact h
    · exact h.ite h.elsewhere
  · exact h.after_pkSubmit
  · exact h

theorem after_pkResume (h : CtlRuns s) : CtlRuns (pkResume s) := by
  unfold pkResume
  split
  · exact h
  · exact h.elsewhere.put.after_pkDo

theorem after_setCopy {r : Nat} {b : Bool} {c : RegionCopy} (h : CtlRuns s) : CtlRuns (setCopy r b c s) := h.elsewhere

theorem after_startJob (h : CtlRuns s) : CtlRuns (startJob s) := by
  unfold startJob
  split
  · exact h
  · exact h.after_setCopy

theorem after_pushJob {r : Nat} (h : CtlRuns s) : CtlRuns (pushJob r s) := by
  unfold pushJob
  exact h.elsewhere.after_startJob.ite h.elsewhere

theorem after_updCommit {r : Nat} {u : Update} (h : CtlRuns s) : CtlRuns (updCommit r u s) := by
  unfold updCommit setDirty
  exact h.after_setCopy.elsewhere.put.put.put.put.elsewhere

theorem after_firmwareReady (h : CtlRuns s) : CtlRuns (firmwareReady s) := by
  unfold firmwareReady putForce enterMirror setRgn
  split
  · exact h
  · split
    · exact h
    · exact h.after_updCommit.elsewhere.put.put.elsewhere.put.after_pushJob

theorem after_twinWaitEnd {r : Nat} (h : CtlRuns s) : CtlRuns (twinWaitEnd r s) := h.elsewhere.after_raise.ite h

/-! #### The porter -/

theorem after_fireRecord {x : Nat × Nat} (h : CtlRuns s) : CtlRuns (fireRecord x s) :=
  h.after_recordEvt.put.put.put.put.ite h

theorem after_fireAlert {x : Nat × Nat} (h : CtlRuns s) : CtlRuns (fireAlert x s) := h.elsewhere.ite h

theorem after_firmwareSteps {xs : List (Nat × Nat)} (h : CtlRuns s) : CtlRuns (firmwareSteps xs s) :=
  ((h.foldl _ fun _ _ hu => hu.after_fireRecord).foldl _ fun _ _ hu => hu.after_fireAlert).foldl _
    fun _ _ hu => hu.put.ite hu

theorem after_runDeferred (h : CtlRuns s) : CtlRuns (runDeferred s) := by
  unfold runDeferred
  exact h.elsewhere.after_firmwareSteps

theorem after_profileWrite {i : Nat} (h : CtlRuns s) : CtlRuns (profileWrite i s) := h.foldl _ fun _ _ hu => hu.elsewhere

theorem after_reportLost (h : CtlRuns s) : CtlRuns (reportLost s) := by
  unfold reportLost
  extract_lets _ s1 r
  have h1 : CtlRuns s1 := h.elsewhere.foldl _ fun _ _ hu => hu.put
  exact (h1.after_recordEvt.ite h1).after_fireAlert.ite h

theorem after_markCorrupt {ks : List Nat} (h : CtlRuns s) : CtlRuns (markCorrupt ks s) :=
  h.foldl _ fun _ _ hu => hu.put.ite hu

/-! #### Wayline -/

theorem after_queueTx {x : WayTx} (h : CtlRuns s) : CtlRuns (queueTx x s) := h.elsewhere

theorem after_dropLink {a mode : Nat} (h : CtlRuns s) : CtlRuns (dropLink a mode s) := by
  unfold dropLink
  split
  · exact h.elsewhere
  · exact h

theorem after_txFail (h : CtlRuns s) : CtlRuns (txFail s) := by
  unfold txFail
  split
  · exact h
  · extract_lets n _ s1 t s2 s3
    have h1 : CtlRuns s1 := h.elsewhere
    have ht : CtlRuns t := h1.after_permanent
    have h2 : CtlRuns s2 := (ht.put.put.after_dropLink.after_raise.ite ht).ite (h1.after_dropLink.ite h1)
    have h3 : CtlRuns s3 := h2.put.after_raise
    exact (h3.put.put.ite h3).ite h2.after_queueTx

theorem after_chooseParent (h : CtlRuns s) : CtlRuns (chooseParent s) := by
  unfold chooseParent
  split
  · split
    · exact h.put.elsewhere
    · exact h.ite h.elsewhere.after_raise
  · exact h

theorem after_txSend {pri len dst : Nat} (h : CtlRuns s) : CtlRuns (txSend pri len dst s) := h.put.put.ite h.after_queueTx

theorem after_toneExpire {i : Nat} (h : CtlRuns s) : CtlRuns (toneExpire i s) := by
  unfold toneExpire
  split
  · exact h.elsewhere.ite h
  · exact h

theorem after_removeNbr {i : Nat} (h : CtlRuns s) : CtlRuns (removeNbr i s) := by
  unfold removeNbr
  dsimp only
  split
  · exact h
  · exact h.elsewhere.elsewhere.ite h.elsewhere.elsewhere

/-! #### Requests that waited -/

theorem after_runFw (op : FwOp) (h : CtlRuns s) : CtlRuns (runFw op s) :=
  match op with
  | .profile _ => h.after_onVault h.after_profileWrite
  | .keySubmit _ => h.after_keySubmit
  | .openWrite .. => h.after_openWrite
  | .openPromote => h.after_openPromote
  | .promote => h.after_onVault h.after_promoteNow
  | .passport => h.after_passportRequest
  | .txGo .. => h.after_txSend
  | .calStart => h.after_calStart
  | .calStep => h.after_onSess fun _ => h.after_calStep
  | .calCommit => h.after_commitRequest
  | .calAbort => h.after_sessEnd.ite h
  | .calTrig => h.after_trimTrigger.ite h
  | .calErase _ => h.after_calErase
  | .dspShow => h.after_dspShow
  | .dspNext => h.after_dspNext
  | .housekeeping _ => h.after_housekeeping.ite h
  | .pageDwell => h.after_dwellExpire
  | .nbrAge _ => h.after_removeNbr.ite h
  | .toneAge _ => h.after_toneExpire.ite h
  | .ackTimeout => h.after_txFail.ite h
  | .parent => h.after_chooseParent.ite h
  | .twinWait _ => h.after_twinWaitEnd
  | .sessTimeout => h.after_sessTimeout
  | .trimStart => h.after_trimTrigger

theorem after_runWaiting (h : CtlRuns s) : CtlRuns (runWaiting s) := by
  unfold runWaiting
  exact h.elsewhere.foldl _ fun _ op hu => hu.after_runFw op

/-! #### The controller starts -/

theorem of_controllerRuns (s : State) : CtlRuns (controllerRuns s) := by
  have hstart : CtlRuns { s with ctl := .running, ldg := { s.ldg with hwq := [], excess := ⟨0, 0, 0⟩ } } := ⟨rfl, rfl⟩
  have htaken : CtlRuns (s.ldg.hwq.foldl putRec _) := hstart.foldl _ fun _ _ hu => hu.after_putRec
  exact htaken.ite htaken.after_putRec

theorem of_restartDone (s : State) : CtlRuns (restartDone s) := by
  have hrun := of_controllerRuns s
  exact (hrun.elsewhere.after_transient.ite hrun).after_runDeferred.after_pkResume.after_firmwareReady

theorem after_lossSummary (h : CtlRuns s) : CtlRuns (lossSummary s) := by
  have hsum : CtlRuns (putRec s (mkSummary s 0xFE 6 0xFFFF s.ldg.loss 0 0)) := h.after_putRec
  exact h.ite (hsum.ledger rfl)

theorem after_powerEvents (h : CtlRuns s) : CtlRuns (powerEvents s) :=
  h.after_raise.after_raiseIf.after_raiseIf.after_raiseIf

theorem of_firstRun (corrupt : List Nat) (s : State) : CtlRuns (firstRun corrupt s) := by
  have hready := (of_controllerRuns s).after_lossSummary.after_markCorrupt (ks := corrupt)
  have hevents := hready.after_reportLost.after_runDeferred.after_powerEvents
  have hcal : CtlRuns (takeCalendar _) := hevents.elsewhere.ite hevents
  exact hcal.after_pkResume.after_runWaiting

end CtlRuns

/-! ### Warm restarts (R254) -/

/-- A lockstep mismatch makes the controller restart. -/
def lockstepRestart (s : State) : State :=
  { s with ctl := .restarting, flts := { s.flts with lockstep := true } }.put F.FLTS_ST_RESTL 0 1

theorem warmRestart_first {s : State} (h : ∀ x, s.flts.restartT = some x → x + 60000000000 < s.clk.site) :
    warmRestart s = raise 46 noDetail (lockstepRestart s) := by
  unfold warmRestart
  cases hx : s.flts.restartT with
  | none => rfl
  | some x =>
    have hlate : decide (s.clk.site ≤ x + 60000000000) = false := by simpa using h x hx
    dsimp only
    rw [hlate]
    rfl

/-- A second mismatch within 60 s of the end of the last restart halts the controller, and is a permanent fault. -/
theorem warmRestart_again {s : State} {x : Nat} (hx : s.flts.restartT = some x) (h : s.clk.site ≤ x + 60000000000) :
    warmRestart s = permanent 11 0 0 false false none ({ s with ctl := .halted }.put F.FLTS_ST_CTRLHALT 0 1) := by
  unfold warmRestart
  rw [hx]
  exact if_pos (decide_eq_true h)

/-- Settles O19: what firmware does once the controller runs keeps it running, and the hardware queue empty. -/
theorem controllerRestartsAndRuns : Obligations.ControllerRestartsAndRuns := by
  refine ⟨fun s hon hlate => ?_, fun s x hon hx hsoon => ?_, fun s hon hctl => ?_, fun s corrupt hon hctl hload => ?_,
    fun s bad once hon hready => ?_⟩
  · have hexec : exec .warmRestart s = .next (warmRestart s) := congrArg Host.Outcome.next (if_pos hon)
    rw [hexec, warmRestart_first hlate]
    exact ⟨lockstepRestart s, rfl, Writes_put _ _ _ _ (by decide), rfl⟩
  · have hexec : exec .warmRestart s = .next (warmRestart s) := congrArg Host.Outcome.next (if_pos hon)
    rw [hexec, warmRestart_again hx hsoon]
    have hkept := (LoadKeeps.refl ({ s with ctl := .halted }.put F.FLTS_ST_CTRLHALT 0 1)).after_permanent (cls := 11) (unit := 0)
      (detail := 0) (spare := false) (scrub := false) (chan := none)
    obtain ⟨-, -, hctl, -⟩ := id hkept
    refine ⟨_, rfl, hctl, ?_⟩
    unfold State.bit
    rw [hkept.fld, put_fld_same]
    rfl
  · have hexec : exec .warmRestartComplete s = .next (sessResume (runWaiting (restartDone s))) :=
      congrArg Host.Outcome.next (if_pos (by rw [hon, hctl]; rfl))
    exact ⟨_, hexec, (CtlRuns.of_restartDone s).after_runWaiting.after_sessResume⟩
  · have hexec : exec (.controllerFirstRun corrupt) s = .next (firstRun (corrupt.map fun k => k.toNat) s) :=
      congrArg Host.Outcome.next (if_pos (by rw [hon, hctl, hload]; rfl))
    exact ⟨_, hexec, CtlRuns.of_firstRun _ s⟩
  · have hexec : exec (.ledgerIndexBuilt bad once) s = .next (indexBuilt (bad.map fun x => (x.1.toNat, x.2.map BitVec.toNat))
        (once.map fun p => p.toNat) s) := congrArg Host.Outcome.next (if_pos (by rw [hon, hready]; rfl))
    refine ⟨_, hexec, ?_, rfl⟩
    unfold State.bit indexBuilt
    rw [put_fld_same]
    rfl

end Sys2Proof.Machine
end

section
/-! From power-good to the lock of PLL-M: the release of the main reset, the straps, and the first evaluation of DSTATE (R36 to
R38, R299, R421). -/

namespace Sys2Proof.Machine

/-! ### Fields written one after another -/

/-- A field written after others, of other numbers. -/
theorem Writes_snoc {s t : State} {l : List (Fld × Nat × Nat)} {f : Fld} {i v : Nat} (h : Writes l s t) (hv : v < 2 ^ f.len)
    (hnew : (l.all fun p => p.1.id != f.id) = true := by rfl) : Writes (l ++ [(f, i, v)]) s (t.put f i v) := by
  refine Writes_perm (List.perm_append_singleton _ _).symm (Writes_cons s t l f i v hv h fun p hp => fkey_ne _ _ _ _ ?_)
  simpa using List.all_eq_true.1 hnew p hp

/-- A counter that counts one after other fields are written: it counts on from the value it had before them. -/
theorem Writes_snoc_inc {s t : State} {l : List (Fld × Nat × Nat)} (h : Writes l s t) (f : Fld) (i : Nat)
    (hnew : (l.all fun p => p.1.id != f.id) = true := by rfl) :
    Writes (l ++ [(f, i, min f.top (s.fld f i + 1))]) s (t.inc f i) := by
  have hold : t.fld f i = s.fld f i := h.2 f i fun p hp => fkey_ne _ _ _ _ (by simpa using List.all_eq_true.1 hnew p hp)
  have htop : f.top < 2 ^ f.len := Nat.sub_lt (Nat.two_pow_pos _) Nat.one_pos
  unfold State.inc State.addSat
  rw [hold]
  exact Writes_snoc h (Nat.lt_of_le_of_lt (Nat.min_le_left _ _) htop) hnew

/-- A flag that takes bit k of a word. -/
theorem setBit_testBit (s : State) (f : Fld) (i w k : Nat) : s.setBit f i (w.testBit k) = s.put f i (w / 2 ^ k % 2) := by
  rw [← Nat.toNat_testBit]
  cases w.testBit k <;> rfl

/-! ### The release of the main reset -/

/-- CAUSE has a code for every source (Table 22-5). -/
theorem resetCause_lt (s : State) (src : RstSrc) : resetCause s src < 8 := by
  unfold resetCause
  split
  · split <;> decide
  · decide
  · decide

theorem resetRelease_writes (src : RstSrc) (s : State) :
    Writes [(F.PWR_ST_CAUSE, 0, resetCause s src), (F.PWR_CNT_PUPS, 0, min 65535 (s.fld F.PWR_CNT_PUPS + 1))] s
      (resetRelease src s) :=
  Writes_snoc_inc (Writes_put _ _ _ _ (resetCause_lt s src)) F.PWR_CNT_PUPS 0

theorem exec_mainResetRelease {s : State} {src : RstSrc} (hsrc : s.pwr.reset = some src) (hup : s.pwr.mstate ≠ .backup) :
    exec .mainResetRelease s = .next (resetRelease src s) := by
  show execMainResetRelease s = _
  unfold execMainResetRelease
  rw [hsrc]
  exact congrArg Host.Outcome.next (if_neg hup)

/-! ### The straps -/

theorem strapSample_writes (w : BitVec 4) (s : State) :
    Writes [(F.PWR_ST_PAIRSIDE, 0, w.toNat % 2), (F.PWR_ST_XBYP, 0, w.toNat / 2 % 2), (F.PWR_ST_NVMSLOW, 0, w.toNat / 4 % 2),
      (F.PWR_ST_STRAP3, 0, w.toNat / 8)] s (strapSample w.toNat s) := by
  have hbit : ∀ x : Nat, x % 2 < 2 := fun x => Nat.mod_lt x Nat.two_pos
  have hlow : w.toNat / 2 ^ 0 % 2 = w.toNat % 2 := by rw [pow_zero, Nat.div_one]
  have hhigh : w.toNat / 2 ^ 3 % 2 = w.toNat / 8 := by omega
  simp only [strapSample, setBit_testBit, hlow]
  rw [← hhigh]
  exact Writes_snoc (Writes_snoc (Writes_snoc (Writes_put _ _ _ _ (hbit _)) (hbit _)) (hbit _)) (hbit _)

/-! ### DSTATE -/

theorem dstate_lt (s : State) : dstate s < 4 := by
  unfold dstate
  split
  · decide
  · split <;> decide

/-- Where the device is not FAILED, evaluating DSTATE writes it and nothing else. -/
theorem evalDState_of_ne {s : State} (h : dstate s ≠ 2) : evalDState s = s.put F.FLTS_ST_DSTATE 0 (dstate s) :=
  if_neg fun hfailed => h hfailed.1

/-- PLL-M has locked. -/
def pllMUp (s : State) : State := { s with pwr := { s.pwr with pllLocked := true } }

theorem exec_pllMLocked {s : State} (hon : mainOn s = true) (hfirst : s.pwr.pllLocked = false) :
    exec .pllMLocked s = .next (evalDState (pllMUp s)) :=
  congrArg Host.Outcome.next (if_pos (by rw [hon, hfirst]; rfl))

/-- DSTATE does not depend on the lock of PLL-M. -/
theorem dstate_pllMUp (s : State) : dstate (pllMUp s) = dstate s := rfl

/-- Settles O14: each command's guard is met, and the fields it writes are put one after another. -/
theorem startUpSequence : Obligations.StartUpSequence := by
  refine ⟨fun s hback => ?_, fun s src hsrc hup => ?_, fun s wsel hon hfirst => ?_, fun s hon => ?_,
    fun s hon hfirst hsound => ?_⟩
  · exact congrArg Host.Outcome.next (if_pos hback)
  · refine ⟨_, exec_mainResetRelease hsrc hup, rfl, ?_⟩
    have hwrites := resetRelease_writes src s
    cases src <;> exact hwrites
  · exact ⟨_, congrArg Host.Outcome.next (if_pos (by rw [hon, hfirst]; rfl)), rfl, strapSample_writes wsel s⟩
  · exact congrArg Host.Outcome.next (if_pos hon)
  · rw [exec_pllMLocked hon hfirst, evalDState_of_ne (s := pllMUp s) hsound, dstate_pllMUp]
    exact ⟨_, rfl, rfl, Writes_put _ _ _ _ (dstate_lt s)⟩

end Sys2Proof.Machine
end

section
/-! Overload, open and stuck sensors (R56 to R58, R62, R70): what their commands write, and what an overload restarts and releases
on the spares (R82). -/

namespace Sys2Proof.Machine

/-! ### An estimation restarts, and goes on (R82) -/

/-- An estimation that restarts leaves the target of its spare alone, and with it the spare's fast path. -/
theorem setSlot_restarted {sp : Nat} {s : State} {sl : Slot} (hsl : (getSp s sp).slot = some sl) :
    setSlot sp (some { sl with est := .restarted }) s =
      { s with rmt := (setSlot sp (some { sl with est := .restarted }) s).rmt } := by
  have htarget : setSlot sp (some { sl with est := .restarted }) s = { s with rmt := { s.rmt with
      spares := mput SpareSt.idle s.rmt.spares sp { getSp s sp with slot := some { sl with est := .restarted } } } } := by
    refine if_pos ?_
    unfold spTarget
    rw [hsl]
    simp only [getSp, mget_mput_same]
    rfl
  rw [htarget]

theorem restartEst_eq (n : Nat) (s : State) : restartEst n s = { s with rmt := (restartEst n s).rmt } := by
  unfold restartEst
  refine List.foldlRecOn (motive := fun u : State => u = { s with rmt := u.rmt }) _ _ rfl fun u hu sp _ => ?_
  split
  next sl hsl =>
    split
    · rw [setSlot_restarted hsl, hu]
    · exact hu
  next => exact hu

theorem restartEst_flds (n : Nat) (s : State) : (restartEst n s).flds = s.flds := by rw [restartEst_eq]

theorem InputsKept.after_beginXfade {r s : State} {sp : Nat} {sl : Slot} (h : InputsKept r s) :
    InputsKept r (beginXfade sp sl s) := h.after_setSlot.ite h.after_setSlot

theorem InputsKept.after_releaseHeld {r s : State} {n : Nat} (h : InputsKept r s) : InputsKept r (releaseHeld n s) := by
  refine InputsKept.ite (h.foldl _ fun u sp hu => ?_) h
  split
  · exact hu.after_beginXfade.ite (hu.after_setSlot.ite hu)
  · exact hu

/-! ### Flags -/

/-- Setting a flag leaves every field of another number alone. -/
theorem lift_fld_field (s : State) (f g : Fld) (i j : Nat) (h : f.id ≠ g.id) : (s.lift f i).fld g j = s.fld g j :=
  lift_spares s f i g j fun p hp => by
    rw [List.mem_singleton.1 hp]
    exact fkey_ne _ _ _ _ h

theorem lift_bit_field (s : State) (f g : Fld) (i j : Nat) (h : f.id ≠ g.id) : (s.lift f i).bit g j = s.bit g j := by
  unfold State.bit
  rw [lift_fld_field s f g i j h]

/-- Clearing a flag changes the fields, and the note of its fall. -/
theorem lower_eq (s : State) (f : Fld) (i : Nat) :
    s.lower f i = { s with flds := (s.lower f i).flds, mtr := { s.mtr with fell := (s.lower f i).mtr.fell } } := by
  unfold State.lower
  split <;> rfl

theorem lower_inp (s : State) (f : Fld) (i : Nat) : (s.lower f i).inp = s.inp := by rw [lower_eq]

theorem bit_of_fld_one {s : State} {f : Fld} {i : Nat} (h : s.fld f i = 1) : s.bit f i = true := by
  unfold State.bit
  rw [h]
  rfl

/-- A field that is written is read back. -/
theorem Writes_fld {s t : State} {l : List (Fld × Nat × Nat)} (h : Writes l s t) {f : Fld} {i v : Nat} (hmem : (f, i, v) ∈ l) :
    t.fld f i = v := by
  obtain ⟨hnew, -⟩ := h
  exact hnew _ hmem

theorem Spares_of_Writes {s t : State} {l : List (Fld × Nat × Nat)} (h : Writes l s t) :
    Spares (l.map fun p => (p.1, p.2.1)) s t := by
  obtain ⟨-, hold⟩ := h
  exact fun f i hout => hold f i fun p hp => hout (p.1, p.2.1) (List.mem_map.2 ⟨p, hp, rfl⟩)

/-- Fields written after others, of other numbers. -/
theorem Writes_append {s t u : State} {l k : List (Fld × Nat × Nat)} (hl : Writes l s t) (hk : Writes k t u)
    (hnew : (l.all fun p => k.all fun q => q.1.id != p.1.id) = true := by rfl) : Writes (l ++ k) s u := by
  obtain ⟨hlnew, hlold⟩ := hl
  obtain ⟨hknew, hkold⟩ := hk
  simp only [List.all_eq_true, bne_iff_ne] at hnew
  refine ⟨fun p hp => ?_, fun f i hout => ?_⟩
  · rcases List.mem_append.1 hp with hp | hp
    · rw [hkold _ _ fun q hq => fkey_ne _ _ _ _ (hnew p hp q hq)]
      exact hlnew p hp
    · exact hknew p hp
  · rw [hkold f i fun q hq => hout q (List.mem_append_right _ hq), hlold f i fun p hp => hout p (List.mem_append_left _ hp)]

/-- A status flag of an input is set, and its latch with it (R75). -/
def latched (f g : Fld) (n : Nat) (s : State) : State := (s.lift f n).put g n 1

theorem latched_eq (f g : Fld) (n : Nat) (s : State) : latched f g n s =
    { s with flds := (latched f g n s).flds, mtr := { s.mtr with rose := (latched f g n s).mtr.rose } } := by
  unfold latched
  rw [lift_eq]
  rfl

theorem latched_writes {f g : Fld} (n : Nat) (s : State) (hf : f.len = 1 := by rfl) (hg : g.len = 1 := by rfl)
    (hne : ([(f, n, 1)].all fun p => p.1.id != g.id) = true := by rfl) : Writes [(f, n, 1), (g, n, 1)] s (latched f g n s) :=
  Writes_snoc (Writes_lift s n hf) (by rw [hg]; decide) hne

/-! ### The peak (Table 03-10) -/

/-- 112.5 % of the range, in units of the peak. -/
theorem peakUnits_clip : ((9 / 8 : Rat) * 32768).floor.toNat = 36864 := by decide +kernel

theorem peakUnits_le {mag : Rat} (h : mag ≤ 9 / 8) : (mag * 32768).floor.toNat ≤ 36864 := by
  have hle : mag * 32768 ≤ ((36864 : Nat) : Rat) := by push_cast; linarith
  exact Nat.floor_le_of_le hle

/-- A sample below zero counts as one of zero. -/
theorem peakUnits_rmax (mag : Rat) : (rmax mag 0 * 32768).floor.toNat = (mag * 32768).floor.toNat := by
  unfold rmax
  split
  next hneg =>
    have hle : mag * 32768 ≤ 0 := by linarith
    have hzero : (mag * 32768).floor.toNat = 0 := (Nat.floor_of_nonpos hle :)
    rw [hzero, zero_mul]
    rfl
  next => rfl

theorem clipMag_beyond {mag : Rat} (h : 9 / 8 < mag) : clipMag mag = 9 / 8 := by
  have hpos : ¬ mag < 0 := by linarith
  have hnot : ¬ mag < 9 / 8 := not_lt.2 h.le
  unfold clipMag rmin rmax
  rw [if_neg hpos, if_neg hnot]

theorem raisePeak_fld (n : Nat) (mag : Rat) (s : State) {f : Fld} (i : Nat) (h : F.INP_PEAK_PEAK.id ≠ f.id) :
    (raisePeak n mag s).fld f i = s.fld f i := put_fld_field s _ f n i _ h

theorem raisePeak_bit (n : Nat) (mag : Rat) (s : State) {f : Fld} (i : Nat) (h : F.INP_PEAK_PEAK.id ≠ f.id) :
    (raisePeak n mag s).bit f i = s.bit f i := put_bit_field s _ f n i _ h

/-- Raising the peak writes it alone: its field has room for 112.5 % of the range. -/
theorem raisePeak_writes (n : Nat) {mag : Rat} {p : Nat} (s : State) (hp : (mag * 32768).floor.toNat = p) (hle : p ≤ 36864) :
    Writes [(F.INP_PEAK_PEAK, n, max (s.fld F.INP_PEAK_PEAK n) p)] s (raisePeak n mag s) := by
  have hlt : s.fld F.INP_PEAK_PEAK n < 65536 := fld_lt s F.INP_PEAK_PEAK n
  have hfit : min 0xFFFF p = p := by omega
  unfold raisePeak
  rw [hp, hfit]
  exact Writes_put _ _ _ _ (Nat.max_lt.2 ⟨hlt, Nat.lt_of_le_of_lt hle (by decide)⟩)

/-! ### Overload (R56, R57) -/

/-- An overload episode begins: OVR and OVRL are set and the episode is counted. -/
def episode (n : Nat) (s : State) : State := (latched F.INP_ST_OVR F.INP_ST_OVRL n s).inc F.INP_OVCNT_EPISODES n

theorem episode_eq (n : Nat) (s : State) : episode n s =
    { s with flds := (episode n s).flds, mtr := { s.mtr with rose := (episode n s).mtr.rose } } := by
  unfold episode
  rw [latched_eq]
  rfl

theorem episode_writes (n : Nat) (s : State) :
    Writes [(F.INP_ST_OVR, n, 1), (F.INP_ST_OVRL, n, 1),
      (F.INP_OVCNT_EPISODES, n, min 4294967295 (s.fld F.INP_OVCNT_EPISODES n + 1))] s (episode n s) :=
  Writes_snoc_inc (latched_writes n s) F.INP_OVCNT_EPISODES n

theorem setOvr_again {n e : Nat} {s : State} (h : s.bit F.INP_ST_OVR n = true) : setOvr n e s = s := if_pos h

theorem setOvr_rises {n e : Nat} {s : State} (h : s.bit F.INP_ST_OVR n = false) :
    setOvr n e s = raise e n (if n < 112 then restartEst n (episode n s) else episode n s) := if_neg (by simp [h])

/-- An episode begins on an analog channel: an estimation in progress on it restarts too (R82), on the spares alone. -/
def overloaded (n : Nat) (s : State) : State := restartEst n (episode n s)

theorem overloaded_eq (n : Nat) (s : State) : overloaded n s =
    { s with flds := (overloaded n s).flds, rmt := (overloaded n s).rmt
             mtr := { s.mtr with rose := (overloaded n s).mtr.rose } } := by
  unfold overloaded
  rw [restartEst_eq, episode_eq]

theorem overloaded_inp (n : Nat) (s : State) : (overloaded n s).inp = s.inp := by rw [overloaded_eq]

theorem overloaded_writes (n : Nat) (s : State) :
    Writes [(F.INP_ST_OVR, n, 1), (F.INP_ST_OVRL, n, 1),
      (F.INP_OVCNT_EPISODES, n, min 4294967295 (s.fld F.INP_OVCNT_EPISODES n + 1))] s (overloaded n s) :=
  Writes_append (episode_writes n s) (Writes_nil _ _ (restartEst_flds n (episode n s)))

theorem setOvr_analog {n e : Nat} {s : State} (hn : n < 112) (h : s.bit F.INP_ST_OVR n = false) :
    setOvr n e s = raise e n (overloaded n s) := by
  rw [setOvr_rises h, if_pos hn, overloaded]

theorem setOvr_bitstream {n e : Nat} {s : State} (hn : ¬ n < 112) (h : s.bit F.INP_ST_OVR n = false) :
    setOvr n e s = raise e n (episode n s) := by
  rw [setOvr_rises h, if_neg hn]

theorem setIntDue_intDue (n : Nat) (b : Bool) (s : State) : mget false (setIntDue n b s).inp.intDue n = b :=
  mget_mput_same false s.inp.intDue n b

theorem setClip_clip (n v : Nat) (s : State) : mget 0 (setClip n v s).inp.clip n = v := mget_mput_same 0 s.inp.clip n v

@[simp] theorem setIntDue_bit (n : Nat) (b : Bool) (s : State) (f : Fld) (i : Nat) : (setIntDue n b s).bit f i = s.bit f i := rfl

@[simp] theorem setClip_fld (n v : Nat) (s : State) (f : Fld) (i : Nat) : (setClip n v s).fld f i = s.fld f i := rfl

@[simp] theorem setClip_bit (n v : Nat) (s : State) (f : Fld) (i : Nat) : (setClip n v s).bit f i = s.bit f i := rfl

section Overload

variable {s : State} {n : Fin 112} {mag : Rat}

theorem overload_beyond (hrun : running s = true) (hon : chanOn s n = true) (h : 9 / 8 < mag) :
    inputOverload n (.sample mag) s = setOvr n 0 (raisePeak n (9 / 8) s) := by
  unfold inputOverload
  simp only [hrun, hon, Bool.and_self, if_true, if_pos h, clipMag_beyond h]

theorem overload_within (hrun : running s = true) (hon : chanOn s n = true) (h : mag ≤ 9 / 8) :
    inputOverload n (.sample mag) s = raisePeak n (rmax mag 0) s := by
  unfold inputOverload
  simp only [hrun, hon, Bool.and_self, if_true, if_neg (not_lt.2 h)]

/-- A sample beyond 112.5 % of the range on a channel that is not overloaded (R56, R57). -/
theorem overload_begins (hrun : running s = true) (hon : chanOn s n = true)
    (hbeyond : 9 / 8 < mag) (hclear : s.bit F.INP_ST_OVR n = false) :
    ∃ u, exec (.inputOverload n (.sample mag)) s = .next (raise 0 n u) ∧
      u = { s with flds := u.flds, rmt := u.rmt, clk := u.clk, mtr := { s.mtr with rose := u.mtr.rose } } ∧
      Writes [(F.INP_PEAK_PEAK, n.val, max (s.fld F.INP_PEAK_PEAK n) 36864), (F.INP_ST_OVR, n.val, 1), (F.INP_ST_OVRL, n.val, 1),
        (F.INP_OVCNT_EPISODES, n.val, min 4294967295 (s.fld F.INP_OVCNT_EPISODES n + 1))] s u := by
  have hclear' : (raisePeak n (9 / 8) s).bit F.INP_ST_OVR n = false := (raisePeak_bit _ _ _ _ (by decide)).trans hclear
  have hep := overloaded_writes n (raisePeak n (9 / 8) s)
  rw [raisePeak_fld _ _ _ _ (by decide)] at hep
  refine ⟨_, congrArg Host.Outcome.next ((overload_beyond hrun hon hbeyond).trans (setOvr_analog n.isLt hclear')), ?_,
    Writes_append (raisePeak_writes n s peakUnits_clip le_rfl) hep⟩
  rw [overloaded_eq]
  rfl

/-- The state in which a run of identical bits is counted as an overload: the modulator's integrators are to be reset, and where
the run persists the channel is clipped on the side it shows. -/
def afterRun (n : Nat) (ones persists : Bool) (mag : Rat) (s : State) : State :=
  setIntDue n true (setClip n (if persists then (if ones then 1 else 2) else 0)
    (raisePeak n (if persists then 9 / 8 else clipMag mag) s))

theorem overload_run {ones persists : Bool} (hrun : running s = true) (hon : chanOn s n = true) :
    inputOverload n (.run ones persists mag) s = setOvr n 0 (afterRun n ones persists mag s) := by
  unfold inputOverload
  simp only [hrun, hon, Bool.and_self, if_true]
  rfl

theorem afterRun_ovr (ones persists : Bool) : (afterRun n ones persists mag s).bit F.INP_ST_OVR n = s.bit F.INP_ST_OVR n := by
  rw [afterRun, setIntDue_bit, setClip_bit, raisePeak_bit _ _ _ _ (by decide)]

theorem afterRun_intDue (ones persists : Bool) : mget false (afterRun n ones persists mag s).inp.intDue n = true :=
  setIntDue_intDue _ _ _

theorem afterRun_clip (ones persists : Bool) :
    mget 0 (afterRun n ones persists mag s).inp.clip n = if persists then (if ones then 1 else 2) else 0 :=
  setClip_clip _ _ _

/-- The state in which a run of samples below 100 % of range has ended an overload, before what waited for it goes on (R82). -/
def afterOvr (n : Nat) (mag : Rat) (s : State) : State := setClip n 0 ((raisePeak n (rmax mag 0) s).lower F.INP_ST_OVR n)

theorem ovrClear_below (hrun : running s = true) (hon : chanOn s n = true) (h : mag < 1) :
    ovrClear n mag s = releaseHeld n (afterOvr n mag s) := if_pos (by simp [hrun, hon, h])

theorem afterOvr_fld {f : Fld} (hovr : F.INP_ST_OVR.id ≠ f.id) (hpeak : F.INP_PEAK_PEAK.id ≠ f.id) :
    (afterOvr n mag s).fld f n = s.fld f n := by
  rw [afterOvr, setClip_fld, lower_fld_field _ _ _ _ _ hovr, raisePeak_fld _ _ _ _ hpeak]

theorem afterOvr_ovr : (afterOvr n mag s).bit F.INP_ST_OVR n = false := by
  rw [afterOvr, setClip_bit, lower_bit_same]

theorem afterOvr_clip : mget 0 (afterOvr n mag s).inp.clip n = 0 := setClip_clip _ _ _

end Overload

/-! ### Bitstream channels (R58, R70) -/

theorem densSet_beyond {n ones : Nat} {s : State} (hrun : running s = true) (hon : chanOn s n = true)
    (hlim : s.fld F.INP_BSG_DENSLIM ((n - 112) / 16) ≠ 0) (hdens : s.fld F.INP_BSG_DENSLIM ((n - 112) / 16) < density ones)
    (hclear : s.bit F.INP_ST_DENS n = false) : densSet n ones s = setOvr n 2 (s.lift F.INP_ST_DENS n) :=
  if_pos (by simp [hrun, hon, hlim, hdens, hclear])

/-- Too high a density on a bitstream channel that is not overloaded sets DENS, and begins an overload episode. -/
theorem densityOverload_begins {s : State} {b : Fin 32} {ones : Fin 257} (hrun : running s = true)
    (hon : chanOn s (112 + b.val) = true) (hlim : s.fld F.INP_BSG_DENSLIM (b.val / 16) ≠ 0)
    (hdense : s.fld F.INP_BSG_DENSLIM (b.val / 16) < density ones) (hdens : s.bit F.INP_ST_DENS (112 + b.val) = false)
    (hovr : s.bit F.INP_ST_OVR (112 + b.val) = false) :
    ∃ u, exec (.densSet b ones) s = .next (raise 2 (112 + b.val) u) ∧
      u = { s with flds := u.flds, mtr := { s.mtr with rose := u.mtr.rose } } ∧
      Writes [(F.INP_ST_DENS, 112 + b.val, 1), (F.INP_ST_OVR, 112 + b.val, 1), (F.INP_ST_OVRL, 112 + b.val, 1),
        (F.INP_OVCNT_EPISODES, 112 + b.val, min 4294967295 (s.fld F.INP_OVCNT_EPISODES (112 + b.val) + 1))] s u := by
  have hgrp : 112 + b.val - 112 = b.val := Nat.add_sub_cancel_left ..
  rw [← hgrp] at hlim hdense
  have hovr' := (lift_bit_field s F.INP_ST_DENS F.INP_ST_OVR (112 + b.val) (112 + b.val) (by decide)).trans hovr
  have hep := episode_writes (112 + b.val) (s.lift F.INP_ST_DENS (112 + b.val))
  rw [lift_fld_field _ _ _ _ _ (by decide)] at hep
  refine ⟨_, congrArg Host.Outcome.next ((densSet_beyond hrun hon hlim hdense hdens).trans
    (setOvr_bitstream (by omega) hovr')), ?_, Writes_append (Writes_lift s _ rfl) hep⟩
  rw [episode_eq, lift_eq]

theorem stuckDetect_new {n : Nat} {s : State} (hrun : running s = true) (hon : chanOn s n = true)
    (hclear : s.bit F.INP_ST_STUCK n = false) : stuckDetect n s = raise 2 n (latched F.INP_ST_STUCK F.INP_ST_STUCKL n s) :=
  if_pos (by simp [hrun, hon, hclear])

/-! ### Open sensors (R62) -/

theorem openQualified_new {n : Nat} {s : State} (hrun : running s = true) (hon : chanOn s n = true)
    (hclear : s.bit F.INP_ST_OPEN n = false)
    (hlong : 10 * s.fld F.INP_CFG_OSDT n < mget 0 s.inp.outP n ∨ 10 * s.fld F.INP_CFG_OSDT n < mget 0 s.inp.outN n) :
    openQualified n s = raise 1 n (latched F.INP_ST_OPEN F.INP_ST_OPENL n s) :=
  if_pos (by simp [hrun, hon, hclear, hlong])

/-- A window sample: the runs of samples outside, and OPENPIN. -/
def withPins (n : Nat) (p q : Bool) (s : State) : State :=
  State.put { s with inp := { s.inp with
      outP := mput 0 s.inp.outP n (if p then mget 0 s.inp.outP n + 1 else 0)
      outN := mput 0 s.inp.outN n (if q then mget 0 s.inp.outN n + 1 else 0) } }
    F.INP_ST_OPENPIN n ((if p then 1 else 0) + (if q then 2 else 0))

theorem withPins_outP (n : Nat) (p q : Bool) (s : State) :
    mget 0 (withPins n p q s).inp.outP n = if p then mget 0 s.inp.outP n + 1 else 0 := mget_mput_same 0 s.inp.outP n _

theorem withPins_outN (n : Nat) (p q : Bool) (s : State) :
    mget 0 (withPins n p q s).inp.outN n = if q then mget 0 s.inp.outN n + 1 else 0 := mget_mput_same 0 s.inp.outN n _

theorem withPins_open (n : Nat) (p q : Bool) (s : State) : (withPins n p q s).bit F.INP_ST_OPEN n = s.bit F.INP_ST_OPEN n :=
  put_bit_field _ _ _ _ _ _ (by decide)

theorem withPins_writes (n : Nat) (p q : Bool) (s : State) :
    Writes [(F.INP_ST_OPENPIN, n, (if p then 1 else 0) + (if q then 2 else 0))] s (withPins n p q s) :=
  Writes_put _ _ _ _ (by cases p <;> cases q <;> decide)

section WindowSample

variable {s : State} {n : Nat} (p q : Bool) (hrun : running s = true) (hon : chanOn s n = true)
include hrun hon

theorem openSample_on :
    openSample n p q s = if p || q then withPins n p q s else (withPins n p q s).lower F.INP_ST_OPEN n :=
  if_pos (by simp [hrun, hon])

theorem openSample_inp : (openSample n p q s).inp = (withPins n p q s).inp := by
  rw [openSample_on p q hrun hon, apply_ite State.inp, lower_inp, ite_self]

theorem openSample_outP : mget 0 (openSample n p q s).inp.outP n = if p then mget 0 s.inp.outP n + 1 else 0 := by
  rw [openSample_inp p q hrun hon, withPins_outP]

theorem openSample_outN : mget 0 (openSample n p q s).inp.outN n = if q then mget 0 s.inp.outN n + 1 else 0 := by
  rw [openSample_inp p q hrun hon, withPins_outN]

theorem openSample_openPin :
    (openSample n p q s).fld F.INP_ST_OPENPIN n = (if p then 1 else 0) + (if q then 2 else 0) := by
  rw [← Writes_fld (withPins_writes n p q s) List.mem_cons_self, openSample_on p q hrun hon]
  split
  · rfl
  · exact lower_fld_field _ _ _ _ _ (by decide)

theorem openSample_open : (openSample n p q s).bit F.INP_ST_OPEN n = (s.bit F.INP_ST_OPEN n && (p || q)) := by
  rw [openSample_on p q hrun hon]
  split
  next hout => rw [withPins_open, hout, Bool.and_true]
  next hin => rw [lower_bit_same, Bool.eq_false_of_not_eq_true hin, Bool.and_false]

theorem openSample_spares : Spares [(F.INP_ST_OPENPIN, n), (F.INP_ST_OPEN, n)] s (openSample n p q s) := by
  have hpins := Spares_mono (k := [(F.INP_ST_OPENPIN, n), (F.INP_ST_OPEN, n)]) (by simp)
    (Spares_of_Writes (withPins_writes n p q s))
  rw [openSample_on p q hrun hon]
  split
  · exact hpins
  · exact Spares_trans hpins (Spares_mono (by simp) (lower_spares _ _ _))

end WindowSample

/-! ### The obligation -/

/-- Settles O36: each command's guard is met, and what it writes is read back through the flag with its latch, the peak, and the
episode that begins. -/
theorem sensorFaultsSetAndClear : Obligations.SensorFaultsSetAndClear := by
  refine ⟨⟨fun s n mag hrun hon => ⟨fun hbeyond hclear => ?_, fun hbeyond hset => ?_, fun hwithin => ?_⟩,
    fun s n ones persists mag hrun hon hclear => ?_, fun s n => ?_, fun s n mag hrun hon hbelow => ?_,
    fun s b ones hrun hon hlim hdense hdens hovr => ?_, fun s b hrun => ?_⟩,
    fun s n p q hrun hon => ?_, fun s n hrun hon hclear hlong => ?_, fun s b hrun hon hclear => ?_, fun s b hrun => ?_⟩
  · obtain ⟨u, hexec, hframe, hw⟩ := overload_begins hrun hon hbeyond hclear
    refine ⟨u, hexec, hframe, ?_, ?_, Writes_fld hw (by simp), Writes_fld hw (by simp)⟩
    · exact bit_of_fld_one (Writes_fld hw (by simp))
    · exact bit_of_fld_one (Writes_fld hw (by simp))
  · have hset' : (raisePeak n (9 / 8) s).bit F.INP_ST_OVR n = true := (raisePeak_bit _ _ _ _ (by decide)).trans hset
    exact ⟨_, congrArg Host.Outcome.next ((overload_beyond hrun hon hbeyond).trans (setOvr_again hset')), rfl,
      raisePeak_writes n s peakUnits_clip le_rfl⟩
  · exact ⟨_, congrArg Host.Outcome.next (overload_within hrun hon hwithin), rfl,
      raisePeak_writes n s (peakUnits_rmax mag) (peakUnits_le hwithin)⟩
  · have hep := overloaded_writes n (afterRun n ones persists mag s)
    refine ⟨_, congrArg Host.Outcome.next ((overload_run hrun hon).trans
      (setOvr_analog n.isLt ((afterRun_ovr ones persists).trans hclear))), bit_of_fld_one (Writes_fld hep (by simp)),
      bit_of_fld_one (Writes_fld hep (by simp)), ?_, ?_⟩
    · rw [overloaded_inp, afterRun_intDue]
    · rw [overloaded_inp, afterRun_clip]
  · exact ⟨_, rfl, setIntDue_intDue _ _ _, rfl⟩
  · have hkept := (InputsKept.refl (afterOvr n mag s)).after_releaseHeld (n := n)
    obtain ⟨hinp, -, -⟩ := id hkept
    refine ⟨_, congrArg Host.Outcome.next (ovrClear_below hrun hon hbelow), ?_⟩
    unfold State.bit at *
    rw [hinp, hkept.fld, hkept.fld, hkept.fld]
    refine ⟨afterOvr_ovr, ?_, afterOvr_clip, afterOvr_fld (by decide) (by decide)⟩
    rw [afterOvr_fld (by decide) (by decide)]
  · exact densityOverload_begins hrun hon hlim hdense hdens hovr
  · have hdens : Spares [(F.INP_ST_DENS, 112 + b.val), (F.INP_ST_OVR, 112 + b.val)] s (s.lower F.INP_ST_DENS (112 + b.val)) :=
      Spares_mono (by simp) (lower_spares _ _ _)
    refine ⟨_, congrArg Host.Outcome.next (if_pos hrun), ?_,
      (lower_bit_field _ _ _ _ _ (by decide)).trans (lower_bit_same _ _ _), lower_bit_same _ _ _,
      Spares_trans hdens (Spares_mono (by simp [bStream]) (lower_spares _ _ _))⟩
    rw [lower_eq (s.lower _ _), lower_eq s]
  · exact ⟨_, rfl, openSample_openPin p q hrun hon, openSample_outP p q hrun hon, openSample_outN p q hrun hon,
      openSample_open p q hrun hon, openSample_spares p q hrun hon⟩
  · exact ⟨_, congrArg Host.Outcome.next (openQualified_new hrun hon hclear hlong), latched_eq _ _ _ _, latched_writes _ _⟩
  · exact ⟨_, congrArg Host.Outcome.next (stuckDetect_new hrun hon hclear), latched_eq _ _ _ _, latched_writes _ _⟩
  · exact ⟨_, congrArg Host.Outcome.next (if_pos hrun), lower_bit_same _ _ _, lower_eq _ _ _, lower_spares _ _ _⟩

end Sys2Proof.Machine
end

section
/-! What a spare does, where its target stays: a slot that goes on leaves registers, clock and the other spares alone (R77, R102). -/

namespace Sys2Proof.Machine

/-- A command acts on the slot in progress. -/
theorem onSlot_of_slot {s : State} {sp : Nat} {sl : Slot} {f : Slot → State → State} (hrun : running s = true)
    (hsl : (getSp s sp).slot = some sl) : onSlot sp f s = f sl s := by
  unfold onSlot
  rw [if_pos hrun, hsl]

/-- The state with another record of a spare, its engine slot left as it is. -/
def withSpare (sp : Nat) (x : SpareSt) (s : State) : State :=
  { s with rmt := { s.rmt with spares := mput SpareSt.idle s.rmt.spares sp x } }

theorem withSpare_onlySpare (sp : Nat) (x : SpareSt) (s : State) : OnlySpare sp s (withSpare sp x s) :=
  ⟨rfl, fun _ hq => mget_mput_other _ _ _ _ _ _ hq⟩

/-- The channel that a spare serves by its own record, be it neither retired nor a substitute. -/
def SpareSt.target (x : SpareSt) : Option Nat :=
  x.arbit.orElse fun _ => x.slot.bind fun sl => if sl.st = .leaving then none else some sl.chan

theorem spTarget_of_plain {s : State} {sp : Nat} (hret : spRet s sp = false) (hsub : spSubst s sp = false) :
    spTarget s sp = (getSp s sp).target := by
  unfold spTarget
  rw [hret, hsub]
  rfl

theorem spTarget_withSpare_of_target {sp : Nat} {x : SpareSt} {s : State} (h : x.target = (getSp s sp).target) :
    spTarget (withSpare sp x s) sp = spTarget s sp := by
  have hx : (getSp (withSpare sp x s) sp).target = (getSp s sp).target := by
    rw [← h]
    exact congrArg SpareSt.target (mget_mput_same _ _ _ _)
  show (if spSubst s sp then _ else if spRet s sp then none else (getSp (withSpare sp x s) sp).target) = _
  rw [hx]
  rfl

theorem setSp_of_target {sp : Nat} {x : SpareSt} {s : State} (h : x.target = (getSp s sp).target) :
    setSp sp x s = withSpare sp x s := if_pos (spTarget_withSpare_of_target h)

theorem setSp_onlySpare {sp : Nat} {x : SpareSt} {s : State} (h : x.target = (getSp s sp).target) :
    OnlySpare sp s (setSp sp x s) := by
  rw [setSp_of_target h]
  exact withSpare_onlySpare sp x s

@[simp] theorem getSp_setSlot_slot (sp : Nat) (sl : Option Slot) (s : State) : (getSp (setSlot sp sl s) sp).slot = sl := by
  unfold setSlot
  rw [getSp_setSp_same]

/-- A slot that goes on for its channel keeps the target of its spare. -/
theorem setSlot_onlySpare {sp : Nat} {s : State} {sl new : Slot} (hsl : (getSp s sp).slot = some sl)
    (hchan : new.chan = sl.chan := by rfl) (hold : sl.st ≠ .leaving := by simp_all) (hnew : new.st ≠ .leaving := by simp_all) :
    OnlySpare sp s (setSlot sp (some new) s) := by
  refine setSp_onlySpare ?_
  unfold SpareSt.target
  simp only [hsl, Option.bind_some, if_neg hold, if_neg hnew, hchan]

theorem onlySpare_flds {sp : Nat} {s t : State} (h : OnlySpare sp s t) : t.flds = s.flds := by
  obtain ⟨heq, -⟩ := h
  rw [heq]

theorem onlySpare_rmt {sp : Nat} {s t : State} (h : OnlySpare sp s t) : t.rmt = { s.rmt with spares := t.rmt.spares } := by
  obtain ⟨heq, -⟩ := h
  exact congrArg State.rmt heq

end Sys2Proof.Machine
end

section
/-! A held crossfade restarts its estimation only where the slot has an overlap estimation (R82). -/

namespace Sys2Proof.Machine

/-- Outside OVL_OUT and OVL_RET no crossfade is held back, and 100 ms without one change nothing. -/
theorem exec_crossfadeHoldTimeout_of_not_overlaps {s : State} {sp : Spare} {sl : Slot} (hrun : running s = true)
    (hsl : (getSp s sp).slot = some sl) (hst : sl.overlaps = false) : exec (.crossfadeHoldTimeout sp) s = .next s := by
  refine congrArg Host.Outcome.next ((onSlot_of_slot hrun hsl).trans (if_neg fun h => ?_))
  obtain ⟨hover, -⟩ := h
  rw [hst] at hover
  exact Bool.false_ne_true hover

/-- A slot in SELFCHK with the mark of a crossfade held back: R77 gives no such slot, but the statement takes every state. -/
def heldInSelfCheck : Slot :=
  ⟨.routine, 0, 0, .selfchk, .held, false, none, ⟨0, 1⟩, none, false, false, false, false, 0, 0, []⟩

/-- A device in RUN whose spare 0 has that slot, with OVR set on its channel. -/
def overloadedSelfCheck : State :=
  State.put { State.reset with
    pwr := { State.reset.pwr with mstate := .run }
    rmt := { State.reset.rmt with spares := [(0, { SpareSt.idle with slot := some heldInSelfCheck })] } } F.INP_ST_OVR 0 1

/-- Refutes O40: its last clause asks that every slot with a held crossfade restarts its estimation, and names no step of the slot;
the hold ends so only in OVL_OUT and OVL_RET (R82), and a slot in SELFCHK stays as it is. -/
theorem not_remountSlotReachesHandover : ¬ Obligations.RemountSlotReachesHandover := by
  rintro ⟨-, -, -, -, -, hhold⟩
  have hrun : running overloadedSelfCheck = true := by decide
  have hsl : (getSp overloadedSelfCheck (0 : Spare)).slot = some heldInSelfCheck := by decide
  obtain ⟨hrestarts, -⟩ := hhold overloadedSelfCheck 0 heldInSelfCheck hrun hsl
  obtain ⟨t, hexec, -, ht⟩ := hrestarts rfl (by decide)
  rw [exec_crossfadeHoldTimeout_of_not_overlaps hrun hsl rfl] at hexec
  obtain rfl : overloadedSelfCheck = t := Host.Outcome.next.inj hexec
  rw [hsl] at ht
  exact absurd ht (by decide)

end Sys2Proof.Machine
end

section
/-! The frame of remount's verdicts: the fields by which they show who feeds a channel and who is retired, and what leaves them alone
(R77, R84, R87). -/

namespace Sys2Proof.Machine

/-- Who feeds a channel, who is retired, who substitutes it, and the slots completed. -/
def verdictFlds : List Fld := [F.INP_ST_FEED, F.RMT_BCNT_SLOTS, F.RMT_MST_RET, F.RMT_MST_SUB, F.RMT_SST_RET]

/-- Is a field none of those in which a verdict shows? -/
def notVerdictFld (g : Fld) : Bool := verdictFlds.all fun f => g.id != f.id

theorem ne_of_notVerdictFld {g f : Fld} (hg : notVerdictFld g = true) (hf : f ∈ verdictFlds) : g.id ≠ f.id := by
  simpa using List.all_eq_true.1 hg f hf

theorem evtFlds_notVerdictFld : ∀ p ∈ evtFlds, notVerdictFld p.1 = true := by decide

/-- Going from r to s, the fields in which a verdict shows are kept. -/
def VerdictsKept (r s : State) : Prop := ∀ f ∈ verdictFlds, ∀ i, s.fld f i = r.fld f i

namespace VerdictsKept

-- Elaborated side by side, the many short proofs below would each hold a thread, and the threads' stacks are large.
set_option Elab.async false

variable {r s : State}

theorem refl (s : State) : VerdictsKept s s := fun _ _ _ => rfl

/-- A field of a verdict, read after operations that keep it. -/
theorem fld (h : VerdictsKept r s) {f : Fld} (i : Nat) (hf : f ∈ verdictFlds := by decide) : s.fld f i = r.fld f i := h f hf i

theorem ite {t : State} {c : Prop} [Decidable c] (hs : VerdictsKept r s) (ht : VerdictsKept r t) :
    VerdictsKept r (if c then s else t) := by
  split
  · exact hs
  · exact ht

theorem foldl {α : Type} {g : State → α → State} (h : VerdictsKept r s) (l : List α)
    (hg : ∀ u a, VerdictsKept r u → VerdictsKept r (g u a)) : VerdictsKept r (l.foldl g s) :=
  List.foldlRecOn l g h fun u hu a _ => hg u a hu

/-- A write of another field. -/
theorem put {g : Fld} {i v : Nat} (h : VerdictsKept r s) (hg : notVerdictFld g = true := by rfl) : VerdictsKept r (s.put g i v) :=
  fun f hf j => (put_fld_field s g f i j v (ne_of_notVerdictFld hg hf)).trans (h f hf j)

/-- A change of anything but the register fields. -/
theorem elsewhere {pending : List Instr} {clk : ClockSt} {ctl : CtlRun} {host : HostSt} {pwr : PwrSt} {ldg : LdgSt} {evt : EvtSt}
    {inp : InpSt} {rmt : RmtSt} {flt : FltSt} {flts : FltsSt} {cal : CalSt} {twn : TwnSt} {mtr : MtrSt} {itn : ItnSt} {grd : GrdSt}
    {hrm : HrmSt} {dst : DstSt} {pls : PlsSt} {way : WaySt} {rng : Nat} {sbx : SbxSt} {cvn : CvnSt} {sar : SarSt} {dsp : DspSt}
    {prt : PrtSt} (h : VerdictsKept r s) : VerdictsKept r ⟨pending, s.flds, clk, ctl, host, pwr, ldg, evt, inp, rmt, flt, flts, cal,
      twn, mtr, itn, grd, hrm, dst, pls, way, rng, sbx, cvn, sar, dsp, prt⟩ := h

theorem after_lower {g : Fld} {i : Nat} (h : VerdictsKept r s) (hg : notVerdictFld g = true := by rfl) :
    VerdictsKept r (s.lower g i) := (h.put hg).elsewhere.ite h

theorem after_lift {g : Fld} {i : Nat} (h : VerdictsKept r s) (hg : notVerdictFld g = true := by rfl) :
    VerdictsKept r (s.lift g i) := h.ite (h.put hg).elsewhere

theorem after_inc {g : Fld} {i : Nat} (h : VerdictsKept r s) (hg : notVerdictFld g = true := by rfl) :
    VerdictsKept r (s.inc g i) := h.put hg

/-! #### Events, messages and faults -/

theorem after_raise {e d : Nat} (h : VerdictsKept r s) (he : e < 128 := by decide) : VerdictsKept r (raise e d s) := fun f hf i =>
  (raise_spares e d s he f i fun p hp => fkey_ne _ _ _ _ (ne_of_notVerdictFld (evtFlds_notVerdictFld p hp) hf)).trans (h f hf i)

theorem after_raiseIf {b : Bool} {e d : Nat} (h : VerdictsKept r s) (he : e < 128 := by decide) :
    VerdictsKept r (raiseIf b e d s) := (h.after_raise he).ite h

theorem after_sendMsg {m : TwnMsg} (h : VerdictsKept r s) : VerdictsKept r (sendMsg m s) := by
  unfold sendMsg tetherSend sendSegments
  exact h.elsewhere.foldl _ fun _ _ hu => hu.elsewhere

theorem after_evalDState (h : VerdictsKept r s) : VerdictsKept r (evalDState s) := by
  unfold evalDState
  exact (h.put.elsewhere.put.after_raise.elsewhere.after_sendMsg.ite h.put.elsewhere.put.after_raise).ite h.put

theorem after_ruleDouble {fs : List FaultRec} {inOne : Bool} (h : VerdictsKept r s) : VerdictsKept r (ruleDouble fs inOne s) := by
  unfold ruleDouble makeFailed
  exact h.elsewhere.put.put.after_raise.elsewhere.after_evalDState.ite h.elsewhere.put.put.after_raise

theorem after_openWindow {f : FaultRec} (h : VerdictsKept r s) : VerdictsKept r (openWindow f s) := by
  unfold openWindow
  refine h.elsewhere.after_ruleDouble.ite ?_
  dsimp only
  split
  · exact h.elsewhere.put.put.put.after_ruleDouble
  · exact h.elsewhere.put.put.put

theorem after_permanent {cls unit detail : Nat} {spare scrub : Bool} {chan : Option Nat} (h : VerdictsKept r s) :
    VerdictsKept r (permanent cls unit detail spare scrub chan s) := by
  unfold permanent noteFault latent State.setBit
  extract_lets s1 s2
  have h1 : VerdictsKept r s1 := h.after_inc.put.put.put.put.put.put.put.put.put
  have h2 : VerdictsKept r s2 := h1.after_raise.put.after_raise.ite h1.after_raise
  exact (h2.after_openWindow.ite h2).after_evalDState

/-! #### Spares and their slots -/

/-- A step of the sample path. -/
theorem after_setPath {n : Nat} {p : StreamPath} (h : VerdictsKept r s) : VerdictsKept r (setPath n p s) := h

theorem after_fastClear {n : Nat} (h : VerdictsKept r s) : VerdictsKept r (fastClear n s) := by
  unfold fastClear pathFastClear
  exact h.put.put.put.after_setPath.elsewhere

theorem after_retarget {sp : Nat} {f : State → State} (h : VerdictsKept r (f s)) : VerdictsKept r (retarget sp f s) := by
  unfold retarget
  exact h.ite h.after_fastClear.elsewhere

theorem after_setSp {sp : Nat} {x : SpareSt} (h : VerdictsKept r s) : VerdictsKept r (setSp sp x s) := after_retarget h.elsewhere

theorem after_setSlot {sp : Nat} {x : Option Slot} (h : VerdictsKept r s) : VerdictsKept r (setSlot sp x s) := h.after_setSp

theorem after_startSlot {k : SlotKind} {sp n : Nat} (h : VerdictsKept r s) : VerdictsKept r (startSlot k sp n s) := h.after_setSlot

theorem after_beginXfade {sp : Nat} {sl : Slot} (h : VerdictsKept r s) : VerdictsKept r (beginXfade sp sl s) :=
  h.after_setSlot.ite h.after_setSlot

theorem after_watchFree {b : Nat} {f : State → State} (h : VerdictsKept r (f s)) : VerdictsKept r (watchFree b f s) := by
  unfold watchFree
  dsimp only
  split
  · exact h
  · exact h.after_raise.ite h

theorem after_skipSlot {n : Nat} (h : VerdictsKept r s) : VerdictsKept r (skipSlot n s) := h.after_inc.after_raise

theorem after_serveForce {b : Nat} (h : VerdictsKept r s) : VerdictsKept r (serveForce b s) := by
  unfold serveForce refuseForce
  refine ite (ite h.put.put ?_) h
  split
  · exact h.put.after_startSlot.ite h
  · exact h

theorem after_serveLive {b : Nat} (h : VerdictsKept r s) : VerdictsKept r (serveLive b s) := by
  unfold serveLive startLive
  split
  · exact h
  · split
    · exact h.after_setSp.elsewhere
    · exact h

theorem after_serveResp {b : Nat} (h : VerdictsKept r s) : VerdictsKept r (serveResp b s) := by
  unfold serveResp
  split
  · exact h
  · split
    · exact h.after_lift.elsewhere.after_setSp.elsewhere
    · exact h

theorem after_startRoutine {sp k : Nat} (h : VerdictsKept r s) : VerdictsKept r (startRoutine sp k s) := by
  unfold startRoutine
  refine ite ?_ h
  split
  · exact h.after_startSlot
  · exact h

theorem after_resume {sp : Nat} (h : VerdictsKept r s) : VerdictsKept r (resume sp s) := by
  unfold resume
  dsimp only
  split
  · exact h
  · exact h.after_setSp.after_skipSlot.ite (h.after_setSp.after_setSlot.ite h.after_setSp.after_setSlot)

theorem after_sessAdvance {x : Sess} (h : VerdictsKept r s) : VerdictsKept r (sessAdvance x s) :=
  (h.elsewhere.put.ite h.elsewhere).ite ((h.elsewhere.put.ite h.elsewhere).ite h.elsewhere)

theorem after_refinStart (h : VerdictsKept r s) : VerdictsKept r (refinStart s) := by
  unfold refinStart
  split
  · refine ite ?_ h
    split
    · exact h.after_sessAdvance
    · exact h.ite h.after_setSp
  · exact h

theorem after_settleBank {b : Nat} (h : VerdictsKept r s) : VerdictsKept r (settleBank b s) := h.after_refinStart.after_serveForce

theorem after_takeWork {sp : Nat} (h : VerdictsKept r s) : VerdictsKept r (takeWork sp s) := by
  unfold takeWork
  extract_lets b s1 s2 s3
  have h1 : VerdictsKept r s1 := h.after_serveLive.after_serveResp
  have h2 : VerdictsKept r s2 := h1.after_resume.ite h1
  have h3 : VerdictsKept r s3 := h2.after_refinStart.after_serveForce
  split
  · exact h3.after_setSp.after_startRoutine.ite h3
  · exact h3

theorem after_nextWork {sp : Nat} (h : VerdictsKept r s) : VerdictsKept r (nextWork sp s) := after_watchFree h.after_takeWork

/-! #### Slots that are lost, and claims that end -/

theorem after_trimTrigger (h : VerdictsKept r s) : VerdictsKept r (trimTrigger s) := h.elsewhere.ite h.elsewhere.put

theorem after_liveRequest {n range sensor : Nat} (h : VerdictsKept r s) : VerdictsKept r (liveRequest n range sensor s) := by
  unfold liveRequest
  exact h.elsewhere.ite (after_watchFree h.elsewhere.after_serveLive).after_settleBank

theorem after_dropSlot {k : Slot} (h : VerdictsKept r s) : VerdictsKept r (dropSlot k s) := by
  unfold dropSlot
  cases k.kind with
  | routine => exact h.after_skipSlot
  | forced => exact h.after_skipSlot
  | live range sensor =>
    dsimp only
    split
    · exact h.after_skipSlot.after_liveRequest.after_trimTrigger.ite h.after_skipSlot.after_liveRequest
    · exact h.after_skipSlot
  | third a out =>
    dsimp only
    split
    · exact h.after_setSlot.ite h
    · exact h

theorem after_dropKept {sp : Nat} (h : VerdictsKept r s) : VerdictsKept r (dropKept sp s) := by
  unfold dropKept
  split
  · exact h
  · exact h.after_setSp.after_dropSlot

theorem after_lostSpare {n : Nat} {ph : RespPh} (h : VerdictsKept r s) : VerdictsKept r (lostSpare n ph s) := by
  unfold lostSpare
  dsimp only
  split
  · exact h.after_lower.elsewhere
  · exact h.after_lower

theorem after_unlend {sp : Nat} (h : VerdictsKept r s) : VerdictsKept r (unlend sp s) := by
  unfold unlend
  split
  · exact h
  · exact h.after_setSp.after_lostSpare

theorem after_bankCheck {b : Nat} (h : VerdictsKept r s) : VerdictsKept r (bankCheck b s) := by
  unfold bankCheck
  extract_lets mine _ s1 s2 s3
  have h1 : VerdictsKept r s1 := h.elsewhere
  have h2 : VerdictsKept r s2 := h1.ite h1.after_trimTrigger
  have h3 : VerdictsKept r s3 := by
    refine h2.foldl _ fun u n hu => ?_
    split
    · exact hu.elsewhere.ite hu
    · exact hu
  exact h3.after_serveForce.ite h.after_serveForce

theorem after_driftStep {sl : Slot} (h : VerdictsKept r s) : VerdictsKept r (driftStep sl s) := by
  unfold driftStep State.putI
  split
  · exact h
  · exact h.put.put.after_raiseIf

end VerdictsKept

/-! ### Retirement and substitution (R84, R87) -/

/-- Retiring a spare shows in its own RET alone. -/
theorem retireSpare_verdicts (sp : Nat) (s : State) : VerdictsKept (s.put F.RMT_SST_RET sp 1) (retireSpare sp s) := by
  refine VerdictsKept.after_bankCheck (VerdictsKept.after_dropKept (VerdictsKept.after_watchFree ?_))
  extract_lets k _ s1
  have h1 : VerdictsKept (s.put F.RMT_SST_RET sp 1) s1 :=
    VerdictsKept.after_retarget (VerdictsKept.refl _).put.after_unlend.after_setSp
  exact h1.after_raiseIf.after_permanent

/-- The modulator of channel n is retired, and spare sp its substitute. -/
theorem substitute_verdicts (n sp : Nat) (mtch : Option (Rat × Rat)) (s : State) :
    ∃ u : State, VerdictsKept ((u.put F.RMT_MST_RET n 1).put F.RMT_MST_SUB n (spIdx sp + 1)) (substitute n sp mtch s) := by
  refine ⟨if s.fld F.RMT_MST_SUB n = 0 then s else retireSpare (spareAt (bankOf n) (s.fld F.RMT_MST_SUB n - 1)) s,
    VerdictsKept.after_bankCheck (VerdictsKept.after_dropKept (VerdictsKept.after_watchFree ?_))⟩
  extract_lets k s0 range s1 _ s2
  have h1 : VerdictsKept ((s0.put F.RMT_MST_RET n 1).put F.RMT_MST_SUB n (spIdx sp + 1))
    ((s1.put F.RMT_MST_RET n 1).put F.RMT_MST_SUB n (spIdx sp + 1)) := fun _ _ _ => rfl
  have h2 : VerdictsKept ((s0.put F.RMT_MST_RET n 1).put F.RMT_MST_SUB n (spIdx sp + 1)) s2 :=
    VerdictsKept.after_retarget h1.put.after_setSp
  exact h2.after_raiseIf.after_permanent

end Sys2Proof.Machine
end

section
/-! A slot from its handover to its end: splices, the off-line measurement, the cross-check, and the completed slot (R76, R77, R81,
R83, R84, R209). -/

namespace Sys2Proof.Machine

/-- Nothing further written. -/
theorem Writes_of_flds {l : List (Fld × Nat × Nat)} {s t u : State} (h : Writes l s t) (hflds : u.flds = t.flds) : Writes l s u := by
  unfold Writes State.fld at *
  rw [hflds]
  exact h

/-! ### Splices (R77, R81, R209) -/

theorem spliceMarks_flds (n : Nat) (s : State) : (spliceMarks n s).flds = s.flds := by
  unfold spliceMarks
  split <;> rfl

theorem getSp_spliceMarks (n q : Nat) (s : State) : getSp (spliceMarks n s) q = getSp s q := by
  unfold spliceMarks
  split <;> rfl

theorem spliceMarks_spoiled (n : Nat) (s : State) :
    (spliceMarks n s).cal.spoiled = if s.cal.sel.contains n then n :: s.cal.spoiled else s.cal.spoiled := by
  unfold spliceMarks
  split <;> rfl

theorem kind_of_rotating {sl : Slot} (h : sl.rotating = true) : sl.kind = .routine ∨ sl.kind = .forced := by
  unfold Slot.rotating at h
  cases hkind : sl.kind with
  | routine => exact .inl rfl
  | forced => exact .inr rfl
  | live range sensor => simp [hkind] at h
  | third a out => simp [hkind] at h

/-- A slot of the rotation brings no settings of its own to its splice. -/
theorem liveSettings_rotating {sl : Slot} (s : State) (h : sl.rotating = true) : liveSettings sl s = s := by
  unfold liveSettings
  rcases kind_of_rotating h with hkind | hkind <;> rw [hkind]

theorem spIdx_lt (sp : Nat) : spIdx sp < 2 := by
  unfold spIdx
  split <;> omega

/-- At the out-splice of a slot of the rotation the spare feeds the channel, and the slot is in STANDIN. -/
theorem spliceOut_rotating {sp : Nat} {sl : Slot} {s : State} (hrot : sl.rotating = true) (hback : sl.handback = false)
    (hsub : spSubst s sp = false) (hwith : withdrawn s = false) : spliceOut sp sl s =
      setSlot sp (some { sl with st := .standin, offline := false, failed := false }) (setFeed sl.chan (spIdx sp + 1) s) := by
  have hsub1 : spSubst (setFeed sl.chan (spIdx sp + 1) s) sp = false := (put_bit_field _ _ _ _ _ _ (by decide)).trans hsub
  have hwith1 : withdrawn (setFeed sl.chan (spIdx sp + 1) s) = false := (put_bit_field _ _ _ _ _ _ (by decide)).trans hwith
  unfold spliceOut
  extract_lets s1
  rw [show s1 = setFeed sl.chan (spIdx sp + 1) s from liveSettings_rotating _ hrot, hsub1, hwith1, hback]
  rcases kind_of_rotating hrot with hkind | hkind <;> rw [hkind] <;> rfl

theorem driftStep_cal (sl : Slot) (s : State) : (driftStep sl s).cal = s.cal := by
  unfold driftStep raiseIf
  split
  · rfl
  · dsimp only
    split
    · rw [raise_cal]
      rfl
    · rfl

/-- The return splice hands the channel back, and the spare leaves. -/
theorem spliceRet_of_not_handback {sp : Nat} {sl : Slot} {s : State} (hback : sl.handback = false) :
    spliceRet sp sl s = setSlot sp (some { sl with st := .leaving }) (driftStep sl (feedOwn sl.chan s)) := by
  unfold spliceRet
  rw [hback]
  rfl

/-- At the out-splice the slot of the rotation is in STANDIN, and FEED alone is written. -/
theorem splice_out {sp : Nat} {sl : Slot} {s : State} (hsl : (getSp s sp).slot = some sl) (hrot : sl.rotating = true)
    (hback : sl.handback = false) (hst : sl.st = .xfOut) (hsub : spSubst s sp = false) (hwith : withdrawn s = false) :
    Writes [(F.INP_ST_FEED, sl.chan, spIdx sp + 1)] s (splice sp sl s) ∧
      (splice sp sl s).cal.spoiled = (if s.cal.sel.contains sl.chan then sl.chan :: s.cal.spoiled else s.cal.spoiled) ∧
      (getSp (splice sp sl s) sp).slot = some { sl with st := .standin, offline := false, failed := false } := by
  have hsplice : splice sp sl s = spliceMarks sl.chan
      (setSlot sp (some { sl with st := .standin, offline := false, failed := false }) (setFeed sl.chan (spIdx sp + 1) s)) := by
    unfold splice
    rw [if_pos hst, spliceOut_rotating hrot hback hsub hwith]
  have hfed : (getSp (setFeed sl.chan (spIdx sp + 1) s) sp).slot = some sl := hsl
  rw [hsplice]
  refine ⟨Writes_of_flds (Writes_put s _ _ _ ?_) ?_, ?_, ?_⟩
  · have := spIdx_lt sp
    show _ < 4
    omega
  · rw [spliceMarks_flds, onlySpare_flds (setSlot_onlySpare hfed)]
    rfl
  · rw [spliceMarks_spoiled]
    unfold setSlot
    rw [setSp_cal]
    rfl
  · rw [getSp_spliceMarks, getSp_setSlot_slot]

/-- At the return splice the channel's own modulator, or its substitute, feeds it, and the spare leaves. -/
theorem splice_ret {sp : Nat} {sl : Slot} {s : State} (hback : sl.handback = false) (hst : sl.st = .xfRet) :
    (splice sp sl s).fld F.INP_ST_FEED sl.chan = s.fld F.RMT_MST_SUB sl.chan % 4 ∧
      (splice sp sl s).cal.spoiled = (if s.cal.sel.contains sl.chan then sl.chan :: s.cal.spoiled else s.cal.spoiled) ∧
      (getSp (splice sp sl s) sp).slot = some { sl with st := .leaving } := by
  have hsplice : splice sp sl s = spliceMarks sl.chan
      (setSlot sp (some { sl with st := .leaving }) (driftStep sl (feedOwn sl.chan s))) := by
    unfold splice
    rw [if_neg (by simp [hst]), if_pos hst, spliceRet_of_not_handback hback]
  rw [hsplice]
  refine ⟨?_, ?_, ?_⟩
  · have hkept := (VerdictsKept.refl (feedOwn sl.chan s)).after_driftStep (sl := sl) |>.after_setSlot (sp := sp)
      (x := some { sl with st := .leaving })
    unfold State.fld
    rw [spliceMarks_flds]
    exact (hkept.fld sl.chan).trans (put_fld_same s F.INP_ST_FEED sl.chan _)
  · rw [spliceMarks_spoiled]
    unfold setSlot
    rw [setSp_cal, driftStep_cal]
    rfl
  · rw [getSp_spliceMarks, getSp_setSlot_slot]

/-! ### The off-line measurement (Table 04-3) -/

theorem clampU_lt (n : Nat) (z : Int) : clampU n z < 2 ^ n :=
  Nat.lt_of_le_of_lt (Nat.min_le_left _ _) (Nat.sub_lt (Nat.two_pow_pos _) Nat.one_pos)

/-- The INL of a channel as an off-line measurement shows it. -/
def showInl (n : Nat) (xs : List Rat) (s : State) : State := s.put F.RMT_MLIN_INL n (clampU 16 (nearest (inlOf xs * 1000000)))

theorem showInl_writes (n : Nat) (xs : List Rat) (s : State) :
    Writes [(F.RMT_MLIN_INL, n, clampU 16 (nearest (inlOf xs * 1000000)))] s (showInl n xs s) :=
  Writes_put s _ _ _ (clampU_lt 16 _)

section OfflineMeasurement

variable {s : State} {sp : Nat} {sl : Slot} {short : Rat} {pts : List Rat}

theorem offlineDone_pass (hst : sl.st = .standin) (hoff : sl.offline = true) (hfailed : sl.failed = false)
    (hok : offlineOk sl.oldCorr ((sl.allReadings short pts).headD 0) (sl.allReadings short pts).tail = true) :
    offlineDone sp short pts sl s =
      setSlot sp (some { sl with st := .ovlRet, est := .settling, failed := false, offline := false
                                 newCorr := some ⟨(sl.allReadings short pts).headD 0, (fitLine (sl.allReadings short pts).tail).1⟩ })
        (notePass (ownMod (showInl sl.chan (sl.allReadings short pts).tail s) sl.chan)
          (showInl sl.chan (sl.allReadings short pts).tail s)) := by
  unfold offlineDone
  rw [if_neg (by simp [hst, hoff])]
  extract_lets x xs s0 s1 s2
  rw [if_pos hok, show s2 = s1 from if_neg (by simp [hfailed])]
  rfl

theorem offlineDone_repeat (hst : sl.st = .standin) (hoff : sl.offline = true) (hfailed : sl.failed = false)
    (hok : offlineOk sl.oldCorr ((sl.allReadings short pts).headD 0) (sl.allReadings short pts).tail = false) :
    offlineDone sp short pts sl s =
      setSlot sp (some ({ sl with failed := true, pts := [] }.measure s.clk.now))
        (showInl sl.chan (sl.allReadings short pts).tail s) := by
  unfold offlineDone
  rw [if_neg (by simp [hst, hoff])]
  extract_lets x xs s0 s1 s2
  rw [show offlineOk sl.oldCorr x xs = false from hok, hfailed]
  rfl

/-- A first measurement shows INL, and the slot goes on with its correction or repeats the step. -/
theorem offlineDone_first (hsl : (getSp s sp).slot = some sl) (hst : sl.st = .standin) (hoff : sl.offline = true)
    (hfailed : sl.failed = false) :
    Writes [(F.RMT_MLIN_INL, sl.chan, clampU 16 (nearest (inlOf (sl.allReadings short pts).tail * 1000000)))] s
        (offlineDone sp short pts sl s) ∧
      (getSp (offlineDone sp short pts sl s) sp).slot =
        (if offlineOk sl.oldCorr ((sl.allReadings short pts).headD 0) (sl.allReadings short pts).tail then
          some { sl with
            st := .ovlRet, est := .settling, failed := false, offline := false
            newCorr := some ⟨(sl.allReadings short pts).headD 0, (fitLine (sl.allReadings short pts).tail).1⟩ }
        else some { sl with failed := true, pts := [], offline := true, offT := s.clk.now + 50000000 }) := by
  have hwrites := showInl_writes sl.chan (sl.allReadings short pts).tail s
  cases hok : offlineOk sl.oldCorr ((sl.allReadings short pts).headD 0) (sl.allReadings short pts).tail
  · have hshown : (getSp (showInl sl.chan (sl.allReadings short pts).tail s) sp).slot = some sl := hsl
    rw [offlineDone_repeat hst hoff hfailed hok, getSp_setSlot_slot]
    exact ⟨Writes_of_flds hwrites (onlySpare_flds (setSlot_onlySpare hshown (hnew := by simp [Slot.measure, hst]))), rfl⟩
  · have hnoted (md : Nat) : (getSp (notePass md (showInl sl.chan (sl.allReadings short pts).tail s)) sp).slot = some sl := hsl
    rw [offlineDone_pass hst hoff hfailed hok, getSp_setSlot_slot]
    refine ⟨Writes_of_flds hwrites ?_, rfl⟩
    rw [onlySpare_flds (setSlot_onlySpare (hnoted _))]
    rfl

end OfflineMeasurement

/-! ### The cross-check (R76, R84) -/

/-- Off OVL_OUT no live change waits for its boundary: the crossfade of a passed estimation starts, or is held back. -/
theorem beginXfade_ret {sp : Nat} {sl : Slot} (s : State) (hst : sl.st = .ovlRet) : beginXfade sp sl s =
    setSlot sp (some (if xfadeClear s sl.chan then { sl with st := .xfRet, est := .settling } else { sl with est := .held })) s := by
  unfold beginXfade
  extract_lets wait
  have hwait : wait = false := by
    simp only [wait]
    split
    · rw [hst]
      rfl
    · rfl
    · rfl
    · rfl
  rw [hwait]
  cases xfadeClear s sl.chan
  · rfl
  · simp only [hst]
    rfl

/-- A cross-check has passed: the new correction is stored and in force, UNCHK is clear, and the rotation of the bank goes on. -/
def returnPassed (sp : Nat) (sl : Slot) (c : Corr) (s : State) : State :=
  let s1 := notePass (ownMod s sl.chan) ((storeCorr (ownMod s sl.chan) sl.range c s).lower F.RMT_MST_UNCHK sl.chan)
  { s1 with rmt := { s1.rmt with halted := mput false s1.rmt.halted (spBank sp) false } }

section ReturnPassed

variable (sp : Nat) (sl : Slot) (c : Corr) (s : State)

/-- What of remount a passing cross-check changes. -/
theorem returnPassed_rmt : (returnPassed sp sl c s).rmt = { s.rmt with
    stored := mput none s.rmt.stored (8 * ownMod s sl.chan + sl.range) (some c)
    force := mput none s.rmt.force (8 * ownMod s sl.chan + sl.range) (some c)
    passT := mput none s.rmt.passT (ownMod s sl.chan) (some s.clk.now)
    halted := mput false s.rmt.halted (spBank sp) false } := by
  unfold returnPassed
  rw [lower_eq]
  rfl

theorem getSp_returnPassed (q : Nat) : getSp (returnPassed sp sl c s) q = getSp s q := by
  unfold getSp
  rw [returnPassed_rmt]

theorem returnPassed_unchk : (returnPassed sp sl c s).bit F.RMT_MST_UNCHK sl.chan = false :=
  lower_bit_same (storeCorr (ownMod s sl.chan) sl.range c s) _ _

theorem returnPassed_spares : Spares [(F.RMT_MST_UNCHK, sl.chan)] s (returnPassed sp sl c s) :=
  lower_spares (storeCorr (ownMod s sl.chan) sl.range c s) _ _

theorem xfadeClear_returnPassed (n : Nat) : xfadeClear (returnPassed sp sl c s) n = xfadeClear s n := by
  have hovr : (returnPassed sp sl c s).bit F.INP_ST_OVR n = s.bit F.INP_ST_OVR n :=
    lower_bit_field (storeCorr (ownMod s sl.chan) sl.range c s) F.RMT_MST_UNCHK F.INP_ST_OVR _ _ (by decide)
  unfold xfadeClear
  rw [hovr, returnPassed_rmt]

end ReturnPassed

/-- The slot record that a passing cross-check leaves: its crossfade starts, or is held back (R82). -/
def Slot.checkedNow (s : State) (sl : Slot) : Slot :=
  if xfadeClear s sl.chan then { sl with failed := false, checked := true, st := .xfRet, est := .settling }
  else { sl with failed := false, checked := true, est := .held }

/-- The first cross-check of a return passes: its crossfade follows. -/
theorem crossCheck_pass {s : State} {sp : Nat} {e : EstStats} {sl : Slot} {c : Corr} (hst : sl.st = .ovlRet)
    (hest : sl.est = .window) (hfailed : sl.failed = false) (hcorr : sl.newCorr = some c)
    (hok : checkOk s (estimate e) = true) : crossCheck sp e sl s =
      setSlot sp (some (sl.checkedNow s)) (returnPassed sp sl c s) := by
  have hreturn : returnPass sp sl s =
      beginXfade sp { sl with failed := false, checked := true } (returnPassed sp sl c s) := by
    unfold returnPass
    rw [hcorr, hfailed]
    rfl
  unfold crossCheck
  rw [if_neg (by simp [hst, hest]), if_pos hok, hreturn,
    beginXfade_ret (sl := { sl with failed := false, checked := true }) _ hst, xfadeClear_returnPassed]
  rfl

theorem setSlot_checkedNow {s : State} {sp : Nat} {sl : Slot} (c : Corr) (hsl : (getSp s sp).slot = some sl) (hst : sl.st = .ovlRet) :
    OnlySpare sp (returnPassed sp sl c s) (setSlot sp (some (sl.checkedNow s)) (returnPassed sp sl c s)) := by
  have hsl1 : (getSp (returnPassed sp sl c s) sp).slot = some sl := by rw [getSp_returnPassed, hsl]
  unfold Slot.checkedNow
  cases xfadeClear s sl.chan
  · exact setSlot_onlySpare hsl1
  · exact setSlot_onlySpare hsl1

theorem crossCheck_repeat {s : State} {sp : Nat} {e : EstStats} {sl : Slot} (hst : sl.st = .ovlRet) (hest : sl.est = .window)
    (hfailed : sl.failed = false) (hok : checkOk s (estimate e) = false) : crossCheck sp e sl s =
      setSlot sp (some { sl with failed := true, est := beginEst s sl.chan }) s := by
  unfold crossCheck
  rw [if_neg (by simp [hst, hest]), if_neg (by simp [hok]), if_neg (by simp [hfailed])]

/-! ### The spare leaves (R77) -/

theorem completeSlot_verdicts (sp : Nat) (s : State) : VerdictsKept (s.inc F.RMT_BCNT_SLOTS (spBank sp)) (completeSlot sp s) :=
  (VerdictsKept.refl _).after_setSlot.after_nextWork

/-! ### The obligation -/

/-- Settles O41: each command acts on the slot in progress, whose record is read back; what the splices, the measurement and the check
write is all that they write, and the work that a leaving spare takes up touches neither FEED nor SLOTS. -/
theorem remountSlotReturns : Obligations.RemountSlotReturns := by
  refine ⟨fun s sp sl hrun hsl hrot hback => ⟨fun hst _ hsub hwith => ?_, fun hst => ?_⟩, fun s sp sl hrun hsl hst => ?_,
    fun s sp short pts sl hrun hsl hst hoff hfailed => ?_,
    fun s sp e sl c hrun hsl hst hest hfailed hcorr => ⟨fun hok => ?_, fun hok => ?_⟩, fun s sp sl hrun hsl hst hback => ?_⟩
  · exact ⟨_, congrArg Host.Outcome.next (onSlot_of_slot hrun hsl), splice_out hsl hrot hback hst hsub hwith⟩
  · exact ⟨_, congrArg Host.Outcome.next (onSlot_of_slot hrun hsl), splice_ret hback hst⟩
  · exact ⟨_, congrArg Host.Outcome.next ((onSlot_of_slot hrun hsl).trans (if_pos hst)),
      setSlot_onlySpare hsl (hnew := by simp [Slot.measure, hst]), getSp_setSlot_slot _ _ _⟩
  · exact ⟨_, congrArg Host.Outcome.next (onSlot_of_slot hrun hsl), offlineDone_first hsl hst hoff hfailed⟩
  · have honly := setSlot_checkedNow c hsl hst
    have hrmt := onlySpare_rmt honly
    have hflds := onlySpare_flds honly
    refine ⟨_, congrArg Host.Outcome.next ((onSlot_of_slot hrun hsl).trans (crossCheck_pass hst hest hfailed hcorr hok)),
      ?_, ?_, ?_, ?_, ?_, ?_⟩
    · rw [hrmt, returnPassed_rmt]
      simp only [mget_mput_same]
    · rw [hrmt, returnPassed_rmt]
      simp only [mget_mput_same]
    · unfold State.bit State.fld
      rw [hflds]
      exact returnPassed_unchk sp sl c s
    · rw [hrmt, returnPassed_rmt]
      simp only [mget_mput_same]
    · unfold Spares State.fld
      rw [hflds]
      exact returnPassed_spares sp sl c s
    · rw [getSp_setSlot_slot]
      exact apply_ite some _ _ _
  · exact ⟨_, congrArg Host.Outcome.next ((onSlot_of_slot hrun hsl).trans (crossCheck_repeat hst hest hfailed hok)),
      setSlot_onlySpare hsl, getSp_setSlot_slot _ _ _⟩
  · have hkept := completeSlot_verdicts sp s
    have hleave : leavePins sp sl s = completeSlot sp s := by
      unfold leavePins
      rw [if_pos hst, if_neg (by simp [hback])]
    refine ⟨_, congrArg Host.Outcome.next ((onSlot_of_slot hrun hsl).trans hleave), ?_, ?_⟩
    · rw [hkept.fld (f := F.RMT_BCNT_SLOTS)]
      exact addSat_fld_same _ _ _ _
    · rw [hkept.fld (f := F.INP_ST_FEED)]
      exact addSat_fld_field _ _ _ _ _ _ (by decide)

end Sys2Proof.Machine
end

section
/-! Verdicts and requests: the third opinion, a match removed, a live change that crossfades, and forced slots (R84, R87, R88, R90). -/

namespace Sys2Proof.Machine

/-! ### The third opinion (R84) -/

/-- B's estimation acts on the slots of both spares. -/
theorem thirdOpinion_of_slots {b a : Nat} {out : Bool} {e : EstStats} {sl asl : Slot} {s : State} (hkind : sl.kind = .third a out)
    (hst : sl.st = .ovlOut) (hest : sl.est = .window) (hasl : (getSp s a).slot = some asl) :
    thirdOpinion b e sl s = if out then thirdOut b a (estimate e) sl asl s else thirdRet b a (estimate e) sl asl s := by
  unfold thirdOpinion
  rw [hkind]
  dsimp only
  rw [if_neg (by simp [hst, hest]), hasl]

/-- In a handover whose new match passes, spare A is retired and no modulator is. -/
theorem thirdOut_match {b a : Nat} {m : Rat × Rat} {bsl asl : Slot} {s : State} (hok : matchOk s m = true) :
    (thirdOut b a m bsl asl s).bit F.RMT_SST_RET a = true ∧
      ∀ n, (thirdOut b a m bsl asl s).fld F.RMT_MST_RET n = s.fld F.RMT_MST_RET n := by
  have hkept : VerdictsKept ((setSlot a none s).put F.RMT_SST_RET a 1) (thirdOut b a m bsl asl s) := by
    unfold thirdOut
    exact (if_pos hok).symm ▸ (retireSpare_verdicts a (setSlot a none s)).after_beginXfade
  have hslot : VerdictsKept s (setSlot a none s) := (VerdictsKept.refl s).after_setSlot
  refine ⟨bit_of_fld_one ?_, fun n => ?_⟩
  · exact (hkept.fld a).trans (put_fld_same _ F.RMT_SST_RET a 1)
  · exact (hkept.fld n).trans ((put_fld_field _ F.RMT_SST_RET F.RMT_MST_RET a n 1 (by decide)).trans (hslot.fld n))

/-- In a return whose check passes, the modulator of the channel is retired and spare A substitutes it. -/
theorem thirdRet_check {b a : Nat} {m : Rat × Rat} {bsl asl : Slot} {s : State} (hok : checkOk s m = true) :
    (thirdRet b a m bsl asl s).bit F.RMT_MST_RET asl.chan = true ∧
      (thirdRet b a m bsl asl s).fld F.RMT_MST_SUB asl.chan = spIdx a + 1 := by
  obtain ⟨u, hsub⟩ := substitute_verdicts asl.chan a asl.mtch s
  have hkept : VerdictsKept ((u.put F.RMT_MST_RET asl.chan 1).put F.RMT_MST_SUB asl.chan (spIdx a + 1))
      (thirdRet b a m bsl asl s) := by
    unfold thirdRet
    exact (if_pos hok).symm ▸ hsub.after_setSlot.after_nextWork
  refine ⟨bit_of_fld_one ?_, ?_⟩
  · exact (hkept.fld asl.chan).trans ((put_fld_field _ F.RMT_MST_SUB F.RMT_MST_RET _ _ _ (by decide)).trans
      (put_fld_same u F.RMT_MST_RET _ 1))
  · have := spIdx_lt a
    refine (hkept.fld asl.chan).trans ((put_fld_same _ F.RMT_MST_SUB _ _).trans (Nat.mod_eq_of_lt ?_))
    show _ < 4
    omega

/-! ### Match removal (R87) -/

theorem glide_congr {n : Nat} {f g : State → State} {s : State} (h : f s = g s) : glide n f s = glide n g s := by
  unfold glide glideFrom
  rw [h]

theorem removeMatch_idle {s : State} {n : Nat} (h : boundaryAt s n = false ∨
    (getSp s (spareAt (bankOf n) (s.fld F.RMT_MST_SUB n - 1))).mtch = none) : removeMatch n s = s := by
  refine if_pos (.inr (.inr ?_))
  rcases h with h | h
  · exact .inl (by simp [h])
  · exact .inr (by simp [h])

theorem removeMatch_due {s : State} {n : Nat} (hrun : running s = true) (hsub : s.fld F.RMT_MST_SUB n ≠ 0)
    (hbound : boundaryAt s n = true) (hmatch : (getSp s (spareAt (bankOf n) (s.fld F.RMT_MST_SUB n - 1))).mtch.isSome = true) :
    removeMatch n s = glide n (withSpare (spareAt (bankOf n) (s.fld F.RMT_MST_SUB n - 1))
      { getSp s (spareAt (bankOf n) (s.fld F.RMT_MST_SUB n - 1)) with mtch := none }) s := by
  have hglide : removeMatch n s = glide n (setSp (spareAt (bankOf n) (s.fld F.RMT_MST_SUB n - 1))
      { getSp s (spareAt (bankOf n) (s.fld F.RMT_MST_SUB n - 1)) with mtch := none }) s := by
    refine if_neg ?_
    rw [hrun, hbound, Option.isNone_eq_false_iff.2 hmatch]
    simpa using hsub
  exact hglide.trans (glide_congr (setSp_of_target rfl))

/-! ### Live changes (R88) -/

theorem liveXfade_waits {sp : Nat} {sl : Slot} {s : State} {r k : Nat} (hkind : sl.kind = .live r k)
    (h : xfadeClear s sl.chan = false ∨ updateDue s sl.chan = false) : liveXfade sp sl s = s := by
  unfold liveXfade
  rw [hkind]
  refine if_neg fun hdue => ?_
  obtain ⟨-, -, hclear, hupdate⟩ := hdue
  rcases h with h | h
  · exact Bool.false_ne_true (h.symm.trans hclear)
  · exact Bool.false_ne_true (h.symm.trans hupdate)

theorem liveXfade_due {sp : Nat} {sl : Slot} {s : State} {r k : Nat} (hkind : sl.kind = .live r k) (hst : sl.st = .ovlOut)
    (hest : sl.est = .held) (hclear : xfadeClear s sl.chan = true) (hdue : updateDue s sl.chan = true) :
    liveXfade sp sl s = setSlot sp (some { sl with st := .xfOut, est := .settling }) s := by
  unfold liveXfade
  rw [hkind]
  exact if_pos ⟨hst, hest, hclear, hdue⟩

/-! ### Forced slots (R90) -/

/-- A field that RMT_FORCE does not hold, read after a write to one that it holds. -/
theorem put_force_bit {g f : Fld} (s : State) (i v j : Nat) (hg : g ∈ R.RMT_FORCE.fields)
    (hf : (R.RMT_FORCE.fields.all fun x => x.id != f.id) = true := by rfl) : (s.put g i v).bit f j = s.bit f j :=
  put_bit_field s g f i j v (by simpa using List.all_eq_true.1 hf g hg)

section ForceFields

variable {g : Fld} (s : State) (v : Nat) (hg : g ∈ R.RMT_FORCE.fields)
include hg

theorem noSpare_put_force (b : Nat) : noSpare (s.put g 0 v) b = noSpare s b := by
  unfold noSpare spRet spSubst
  simp only [put_force_bit (f := F.RMT_SST_RET) s 0 v _ hg, put_force_bit (f := F.RMT_SST_SUBST) s 0 v _ hg]

theorem forceSpare_put_force (b : Nat) : forceSpare (s.put g 0 v) b = forceSpare s b := by
  unfold forceSpare spRet spSubst
  simp only [put_force_bit (f := F.RMT_SST_RET) s 0 v _ hg, put_force_bit (f := F.RMT_SST_SUBST) s 0 v _ hg]
  rfl

theorem forceRefused_put_force (n : Nat) : forceRefused (s.put g 0 v) n = forceRefused s n := by
  unfold forceRefused withdrawn
  rw [put_force_bit (f := F.INP_ST_OPEN) s 0 v _ hg, put_force_bit (f := F.FLT_ENG_SHED) s 0 v _ hg, noSpare_put_force s v hg]
  rfl

end ForceFields

/-- A forced slot is asked for: the stream, with GO set and REJ clear. -/
def forceAsked (n : Nat) (s : State) : State := ((s.put F.RMT_FORCE_STREAM 0 n).put F.RMT_FORCE_GO 0 1).put F.RMT_FORCE_REJ 0 0

theorem forceAsked_writes {n : Nat} (s : State) (hn : n < 256) :
    Writes [(F.RMT_FORCE_STREAM, 0, n), (F.RMT_FORCE_GO, 0, 1), (F.RMT_FORCE_REJ, 0, 0)] s (forceAsked n s) :=
  Writes_snoc (Writes_snoc (Writes_put s F.RMT_FORCE_STREAM 0 n hn) (by decide)) (by decide)

theorem forceRefused_forceAsked (n : Nat) (s : State) : forceRefused (forceAsked n s) n = forceRefused s n := by
  unfold forceAsked
  rw [forceRefused_put_force _ _ (by decide), forceRefused_put_force _ _ (by decide), forceRefused_put_force _ _ (by decide)]

theorem forceSpare_forceAsked (n b : Nat) (s : State) : forceSpare (forceAsked n s) b = forceSpare s b := by
  unfold forceAsked
  rw [forceSpare_put_force _ _ (by decide), forceSpare_put_force _ _ (by decide), forceSpare_put_force _ _ (by decide)]

theorem forceSlot_refused {n : Nat} {s : State} (h : forceRefused s n = true) :
    forceSlot n s = refuseForce (s.put F.RMT_FORCE_STREAM 0 n) :=
  if_pos ((forceRefused_put_force s n (by decide) n).trans h)

theorem forceSlot_accepted {n : Nat} {s : State} (hrun : running s = true) (h : forceRefused s n = false) :
    forceSlot n s = serveForce (bankOf n) (forceAsked n s) := by
  unfold forceSlot
  extract_lets s0 s1
  rw [show forceRefused s0 n = false from (forceRefused_put_force s n (by decide) n).trans h, if_neg Bool.false_ne_true]
  exact if_pos hrun

/-- A request that can be served is served, where the spare of the bank is idle. -/
theorem serveForce_forceAsked {n : Nat} {s : State} (hn : n < 256) (hrun : running s = true) (h : forceRefused s n = false) :
    serveForce (bankOf n) (forceAsked n s) = match forceSpare s (bankOf n) with
      | some sp => if (getSp s sp).slot.isNone ∧ (getSp s sp).refin.isNone then
          startSlot .forced sp n ((forceAsked n s).put F.RMT_FORCE_GO 0 0) else forceAsked n s
      | none => forceAsked n s := by
  have hwrites := forceAsked_writes s hn
  have hstream : (forceAsked n s).fld F.RMT_FORCE_STREAM = n := Writes_fld hwrites (by simp)
  have hgo : (forceAsked n s).bit F.RMT_FORCE_GO = true := bit_of_fld_one (Writes_fld hwrites (by simp))
  have hserved : ¬ (n ≥ 112 ∨ !chanOn (forceAsked n s) n ∨ withdrawn (forceAsked n s) ∨ noSpare (forceAsked n s) (bankOf n)) := by
    rw [← forceRefused_forceAsked] at h
    simp only [forceRefused, Bool.or_eq_false_iff, Bool.not_eq_false', Bool.and_eq_true, decide_eq_true_eq] at h
    simp [h]
  unfold serveForce
  rw [hstream]
  dsimp only
  rw [if_pos ⟨hrun, hgo, rfl⟩, if_neg hserved, forceSpare_forceAsked]
  rfl

/-- A field written once more, after others. -/
theorem Writes_again {l k : List (Fld × Nat × Nat)} {s t : State} {f : Fld} {i v w : Nat} (h : Writes (l ++ (f, i, w) :: k) s t)
    (hv : v < 2 ^ f.len) (hnew : ((l ++ k).all fun p => f.id != p.1.id) = true := by rfl) :
    Writes (l ++ (f, i, v) :: k) s (t.put f i v) := by
  obtain ⟨hvals, hold⟩ := h
  simp only [List.all_eq_true, bne_iff_ne, List.mem_append] at hnew
  have hother : ∀ p ∈ l ++ (f, i, w) :: k, p ∈ l ∨ p ∈ k → (t.put f i v).fld p.1 p.2.1 = p.2.2 := fun p hp hlk =>
    (put_fld_field t f p.1 i p.2.1 v (hnew p hlk)).trans (hvals p hp)
  refine ⟨fun p hp => ?_, fun g j hk => ?_⟩
  · simp only [List.mem_append, List.mem_cons] at hp
    rcases hp with hp | rfl | hp
    · exact hother p (by simp [hp]) (.inl hp)
    · exact (put_fld_same t f i v).trans (Nat.mod_eq_of_lt hv)
    · exact hother p (by simp [hp]) (.inr hp)
  · rw [put_fld_other t f g i j v (hk (f, i, v) (by simp))]
    refine hold g j fun p hp => ?_
    simp only [List.mem_append, List.mem_cons] at hp
    rcases hp with hp | rfl | hp
    · exact hk p (by simp [hp])
    · exact hk (f, i, v) (by simp)
    · exact hk p (by simp [hp])

theorem fastClear_writes (n : Nat) (s : State) :
    Writes [(F.FLT_ST_FAST, n, 0), (F.FLT_ST_OVC, n, 0), (F.FLT_ST_STEP, n, 0)] s (fastClear n s) :=
  Writes_snoc (Writes_snoc (Writes_put s F.FLT_ST_FAST n 0 (by decide)) (by decide)) (by decide)

/-- A spare that takes another target starts its engine slot from zero (R102). -/
theorem setSp_writes_of_new_target {sp : Nat} {x : SpareSt} {s : State} (h : spTarget (withSpare sp x s) sp ≠ spTarget s sp) :
    Writes [(F.FLT_ST_FAST, 144 + sp, 0), (F.FLT_ST_OVC, 144 + sp, 0), (F.FLT_ST_STEP, 144 + sp, 0)] s (setSp sp x s) := by
  have hcleared : (setSp sp x s).flds = (fastClear (144 + sp) s).flds := (congrArg State.flds (if_neg h)).trans rfl
  exact Writes_of_flds (fastClear_writes (144 + sp) s) hcleared

/-- The spare that serves a forced slot is in service, and no higher claim holds it. -/
theorem forceSpare_some {s : State} {b sp : Nat} (h : forceSpare s b = some sp) :
    spRet s sp = false ∧ spSubst s sp = false ∧ (getSp s sp).arbit = none := by
  have hserves := List.find?_some h
  simp only [heldHigher, Bool.and_eq_true, Bool.not_eq_true', Bool.or_eq_false_iff] at hserves
  obtain ⟨⟨hret, hsub⟩, ⟨harbit, -⟩, -⟩ := hserves
  exact ⟨hret, hsub, by simpa using harbit⟩

/-- A forced slot that starts on an idle spare gives it a target. -/
theorem startSlot_writes {k : SlotKind} {sp n : Nat} {s : State} (hret : spRet s sp = false) (hsub : spSubst s sp = false)
    (harbit : (getSp s sp).arbit = none) (hidle : (getSp s sp).slot = none) :
    Writes [(F.FLT_ST_FAST, 144 + sp, 0), (F.FLT_ST_OVC, 144 + sp, 0), (F.FLT_ST_STEP, 144 + sp, 0)] s (startSlot k sp n s) := by
  refine setSp_writes_of_new_target ?_
  rw [spTarget_of_plain hret hsub, spTarget_of_plain (s := withSpare sp _ s) hret hsub]
  unfold withSpare getSp at *
  simp [SpareSt.target, harbit, hidle, newSlot]

/-- The state in which a forced slot starts: GO has cleared. -/
def forceStarts (n : Nat) (s : State) : State := (forceAsked n s).put F.RMT_FORCE_GO 0 0

theorem forceStarts_writes {n : Nat} (s : State) (hn : n < 256) :
    Writes [(F.RMT_FORCE_STREAM, 0, n), (F.RMT_FORCE_GO, 0, 0), (F.RMT_FORCE_REJ, 0, 0)] s (forceStarts n s) :=
  Writes_again (l := [(F.RMT_FORCE_STREAM, 0, n)]) (forceAsked_writes s hn) (by decide)

theorem forceSpare_forceStarts (n b : Nat) (s : State) : forceSpare (forceStarts n s) b = forceSpare s b := by
  unfold forceStarts
  rw [forceSpare_put_force _ _ (by decide), forceSpare_forceAsked]

/-- A request that an idle spare serves starts its slot at once. -/
theorem forceSlot_idle {n sp : Nat} {s : State} (hn : n < 256) (hrun : running s = true) (hacc : forceRefused s n = false)
    (hsp : forceSpare s (bankOf n) = some sp) (hidle : (getSp s sp).slot = none) (hfree : (getSp s sp).refin = none) :
    forceSlot n s = startSlot .forced sp n (forceStarts n s) := by
  rw [forceSlot_accepted hrun hacc, serveForce_forceAsked hn hrun hacc, hsp]
  exact if_pos ⟨by rw [hidle]; rfl, by rw [hfree]; rfl⟩

/-- A request that finds no idle spare waits. -/
theorem forceSlot_busy {n : Nat} {s : State} (hn : n < 256) (hrun : running s = true) (hacc : forceRefused s n = false)
    (hbusy : ∀ sp, forceSpare s (bankOf n) = some sp → (getSp s sp).slot ≠ none ∨ (getSp s sp).refin ≠ none) :
    forceSlot n s = forceAsked n s := by
  rw [forceSlot_accepted hrun hacc, serveForce_forceAsked hn hrun hacc]
  cases hsp : forceSpare s (bankOf n) with
  | none => rfl
  | some sp =>
    refine if_neg fun hfree => ?_
    obtain ⟨hslot, hrefin⟩ := hfree
    rcases hbusy sp hsp with h | h
    · exact h (Option.isNone_iff_eq_none.1 hslot)
    · exact h (Option.isNone_iff_eq_none.1 hrefin)

/-! #### The command -/

theorem exec_forceSlot_off {s : State} {n : Fin 256} (hoff : mainOn s = false) : exec (.forceSlot n) s = .next s := by
  show Host.Outcome.next (if privileged s then _ else s) = _
  unfold hostWord
  simp [hoff]

theorem exec_forceSlot_posted {s : State} {n : Fin 256} (hon : mainOn s = true) (hpriv : privileged s = true)
    (hstop : running s = false) : exec (.forceSlot n) s = .next { s with host := { s.host with posted := s.host.posted ++
      [(.fclk, 0x020004, F.RMT_FORCE_GO.word 1 + F.RMT_FORCE_STREAM.word n)] } } := by
  have hclk : domStopped s R.RMT_FORCE.dom = true := by
    show (!running s) = true
    rw [hstop]
    rfl
  refine congrArg Host.Outcome.next ((if_pos hpriv).trans ?_)
  unfold hostWord
  rw [hon, hclk]
  rfl

theorem exec_forceSlot_running {s : State} {n : Fin 256} (hon : mainOn s = true) (hpriv : privileged s = true)
    (hrun : running s = true) : exec (.forceSlot n) s = .next (forceSlot n s) := by
  have hclk : domStopped s R.RMT_FORCE.dom = false := by
    show (!running s) = false
    rw [hrun]
    rfl
  refine congrArg Host.Outcome.next ((if_pos hpriv).trans ?_)
  unfold hostWord
  rw [hon, hclk]
  rfl

theorem refuseForce_writes {n : Nat} (s : State) (hn : n < 256) :
    Writes [(F.RMT_FORCE_STREAM, 0, n), (F.RMT_FORCE_GO, 0, 0), (F.RMT_FORCE_REJ, 0, 1)] s
      (refuseForce (s.put F.RMT_FORCE_STREAM 0 n)) :=
  Writes_snoc (Writes_snoc (Writes_put s F.RMT_FORCE_STREAM 0 n hn) (by decide)) (by decide)

/-! ### The obligation -/

/-- Settles O42: the third opinion's verdict is followed through the work that comes after it by what leaves RET, SUB and FEED alone; a
match goes without a change of target; and a forced slot is told by what R90 refuses, the spare that serves, and whether it is idle. -/
theorem remountVerdictsAndRequests : Obligations.RemountVerdictsAndRequests := by
  refine ⟨fun s b a out e sl asl hrun _ hsl hasl _ _ hkind hst hest => ?_,
    fun s n hrun hsub => ⟨fun hidle => ?_, fun hbound hmatch => ?_⟩,
    fun s sp sl r k hrun hsl hkind hst hest => ⟨fun hwait => ?_, fun hclear hdue => ?_⟩,
    fun s n => ⟨fun hno => ?_, fun hon hpriv hrun => ?_⟩,
    fun s n hon hrun hpriv => ⟨fun href => ?_, fun hacc => ⟨fun sp hsp hidle hfree => ?_, fun hbusy => ?_⟩⟩⟩
  · have hexec := (onSlot_of_slot (f := thirdOpinion b e) hrun hsl).trans (thirdOpinion_of_slots hkind hst hest hasl)
    refine ⟨fun hout hok => ?_, fun hout hok => ?_⟩
    · obtain ⟨hret, hmod⟩ := thirdOut_match (b := b) (a := a) (bsl := sl) (asl := asl) hok
      exact ⟨_, congrArg Host.Outcome.next (hexec.trans (if_pos hout)), hret, hmod _⟩
    · exact ⟨_, congrArg Host.Outcome.next (hexec.trans (if_neg (by simp [hout]))), thirdRet_check hok⟩
  · exact congrArg Host.Outcome.next (removeMatch_idle hidle)
  · refine ⟨_, congrArg Host.Outcome.next (removeMatch_due hrun hsub hbound hmatch), ?_, ?_, rfl, ?_⟩
    · exact congrArg SpareSt.mtch (mget_mput_same SpareSt.idle s.rmt.spares _ _)
    · exact fun q hq => mget_mput_other _ _ _ _ _ _ hq
    · exact congrArg StreamPath.fade (getPath_setPath_same _ _ _)
  · exact congrArg Host.Outcome.next ((onSlot_of_slot hrun hsl).trans (liveXfade_waits hkind hwait))
  · exact ⟨_, congrArg Host.Outcome.next ((onSlot_of_slot hrun hsl).trans (liveXfade_due hkind hst hest hclear hdue)),
      setSlot_onlySpare hsl, getSp_setSlot_slot _ _ _⟩
  · rcases hno with hoff | hpriv
    · exact exec_forceSlot_off hoff
    · exact congrArg Host.Outcome.next (if_neg (by simp [hpriv]))
  · exact ⟨_, exec_forceSlot_posted hon hpriv hrun, rfl, rfl⟩
  · refine ⟨_, (exec_forceSlot_running hon hpriv hrun).trans (congrArg Host.Outcome.next (forceSlot_refused href)), rfl, ?_⟩
    exact refuseForce_writes s n.isLt
  · obtain ⟨hret, hsubst, harbit⟩ := forceSpare_some ((forceSpare_forceStarts n _ s).trans hsp)
    exact ⟨_, _, (exec_forceSlot_running hon hpriv hrun).trans
        (congrArg Host.Outcome.next (forceSlot_idle n.isLt hrun hacc hsp hidle hfree)),
      Writes_append (forceStarts_writes s n.isLt) (startSlot_writes hret hsubst harbit hidle),
      getSp_setSlot_slot _ _ _, rfl, rfl, rfl⟩
  · exact ⟨_, (exec_forceSlot_running hon hpriv hrun).trans
      (congrArg Host.Outcome.next (forceSlot_busy n.isLt hrun hacc hbusy)), rfl, forceAsked_writes s n.isLt⟩

end Sys2Proof.Machine
end

section
/-! The frame of a fault: the register fields in which faults and events show, and what the filter chain remembers (R248, R255,
R256). -/

namespace Sys2Proof.Machine

/-- A field that lies outside those that may have changed. -/
theorem Spares_fld_field {l : List (Fld × Nat)} {s t : State} (h : Spares l s t) {f : Fld} (i : Nat)
    (hf : (l.all fun p => p.1.id != f.id) = true := by rfl) : t.fld f i = s.fld f i :=
  h f i fun p hp => fkey_ne _ _ _ _ (by simpa using List.all_eq_true.1 hf p hp)

theorem Spares_refl (l : List (Fld × Nat)) (s : State) : Spares l s s := fun _ _ _ => rfl

theorem Spares_put (s : State) (f : Fld) (i v : Nat) : Spares [(f, i)] s (s.put f i v) :=
  fun g j hk => put_fld_other s f g i j v (hk (f, i) (List.mem_singleton.2 rfl))

theorem Spares_ite {l : List (Fld × Nat)} {s t u : State} {c : Prop} [Decidable c] (ht : Spares l s t) (hu : Spares l s u) :
    Spares l s (if c then t else u) := by
  split
  · exact ht
  · exact hu

/-- The fields in which a fault shows, its count apart: the latest fault, its window and its ruling, DSTATE, and the event. -/
def faultFlds : List (Fld × Nat) :=
  evtFlds ++
    [(F.FLTS_LAST_CLASS, 0), (F.FLTS_LAST_KIND, 0), (F.FLTS_LAST_INJ, 0), (F.FLTS_LAST_SCRUB, 0), (F.FLTS_LAST_UNIT, 0),
     (F.FLTS_LAST_DETAIL, 0), (F.FLTS_LTIME_LO_LTIME_LO, 0), (F.FLTS_LTIME_HI_LTIME_HI, 0), (F.FLTS_ST_PERML, 0),
     (F.FLTS_ST_LATL, 0), (F.FLTS_ST_WINDOW, 0), (F.FLTS_WIN_CLASS1, 0), (F.FLTS_WIN_UNIT1, 0), (F.FLTS_ST_DOUBLE, 0),
     (F.FLTS_ST_DOUBLEL, 0), (F.FLTS_ST_DSTATE, 0), (F.FLTS_ST_FAILL, 0)]

/-- Going from r to s, a fault may have shown, and the filter chain remembers what it did. -/
def FaultShown (r s : State) : Prop := s.flt = r.flt ∧ Spares faultFlds r s

namespace FaultShown

-- Elaborated side by side, the many short proofs below would each hold a thread, and the threads' stacks are large.
set_option Elab.async false

variable {r s : State}

theorem refl (s : State) : FaultShown s s := ⟨rfl, Spares_refl _ s⟩

theorem ite {t : State} {c : Prop} [Decidable c] (hs : FaultShown r s) (ht : FaultShown r t) :
    FaultShown r (if c then s else t) := by
  split
  · exact hs
  · exact ht

theorem foldl {α : Type} {g : State → α → State} (h : FaultShown r s) (l : List α)
    (hg : ∀ u a, FaultShown r u → FaultShown r (g u a)) : FaultShown r (l.foldl g s) :=
  List.foldlRecOn l g h fun u hu a _ => hg u a hu

/-- What a further operation writes is within the fields of a fault. -/
theorem spares {t : State} {l : List (Fld × Nat)} (h : FaultShown r s) (hflt : t.flt = s.flt) (hst : Spares l s t)
    (hl : l ⊆ faultFlds) : FaultShown r t := by
  obtain ⟨hrflt, hrs⟩ := h
  exact ⟨hflt.trans hrflt, Spares_trans hrs (Spares_mono hl hst)⟩

/-- A write of one of the fields of a fault. -/
theorem put {g : Fld} {i v : Nat} (h : FaultShown r s) (hg : (g, i) ∈ faultFlds := by decide) : FaultShown r (s.put g i v) :=
  h.spares rfl (Spares_put s g i v) (by simpa using hg)

/-- A change of what other units remember. -/
theorem elsewhere {pending : List Instr} {clk : ClockSt} {ctl : CtlRun} {host : HostSt} {pwr : PwrSt} {ldg : LdgSt} {evt : EvtSt}
    {inp : InpSt} {rmt : RmtSt} {flts : FltsSt} {cal : CalSt} {twn : TwnSt} {mtr : MtrSt} {itn : ItnSt} {grd : GrdSt}
    {hrm : HrmSt} {dst : DstSt} {pls : PlsSt} {way : WaySt} {rng : Nat} {sbx : SbxSt} {cvn : CvnSt} {sar : SarSt} {dsp : DspSt}
    {prt : PrtSt} (h : FaultShown r s) : FaultShown r ⟨pending, s.flds, clk, ctl, host, pwr, ldg, evt, inp, rmt, s.flt, flts, cal,
      twn, mtr, itn, grd, hrm, dst, pls, way, rng, sbx, cvn, sar, dsp, prt⟩ := h

theorem after_raise {e d : Nat} (h : FaultShown r s) (he : e < 128 := by decide) : FaultShown r (raise e d s) :=
  h.spares (raise_flt e d s) (raise_spares e d s he) (List.subset_append_left _ _)

theorem after_sendMsg {m : TwnMsg} (h : FaultShown r s) : FaultShown r (sendMsg m s) := by
  unfold sendMsg tetherSend sendSegments
  exact h.elsewhere.foldl _ fun _ _ hu => hu.elsewhere

theorem after_evalDState (h : FaultShown r s) : FaultShown r (evalDState s) := by
  unfold evalDState
  exact (h.put.elsewhere.put.after_raise.elsewhere.after_sendMsg.ite h.put.elsewhere.put.after_raise).ite h.put

theorem after_ruleDouble {fs : List FaultRec} {inOne : Bool} (h : FaultShown r s) : FaultShown r (ruleDouble fs inOne s) := by
  unfold ruleDouble makeFailed
  exact h.elsewhere.put.put.after_raise.elsewhere.after_evalDState.ite h.elsewhere.put.put.after_raise

theorem after_openWindow {f : FaultRec} (h : FaultShown r s) : FaultShown r (openWindow f s) := by
  unfold openWindow
  refine h.elsewhere.after_ruleDouble.ite ?_
  dsimp only
  split
  · exact h.elsewhere.put.put.put.after_ruleDouble
  · exact h.elsewhere.put.put.put

theorem after_noteFault {cls kind unit detail : Nat} {inj scrub : Bool} (h : FaultShown r s) :
    FaultShown r (noteFault cls kind unit detail inj scrub s) := by
  unfold noteFault State.setBit
  exact h.put.put.put.put.put.put.put.put

theorem after_latent {scrub : Bool} {cls unit : Nat} (h : FaultShown r s) : FaultShown r (latent scrub cls unit s) :=
  h.put.after_raise.ite h

/-- A permanent fault is counted; all else that it writes is within the fields of a fault. -/
theorem of_permanent (cls unit detail : Nat) (spare scrub : Bool) (chan : Option Nat) (s : State) :
    FaultShown (s.inc F.FLTS_CNT_PERM cls) (permanent cls unit detail spare scrub chan s) := by
  unfold permanent
  extract_lets s1 s2
  have h2 : FaultShown (s.inc F.FLTS_CNT_PERM cls) s2 := (refl _).after_noteFault.put.after_raise.after_latent
  exact (h2.after_openWindow.ite h2).after_evalDState

end FaultShown

end Sys2Proof.Machine
end

section
/-! Lanes of the filter engine: a residue mismatch, the retry of the lane, its retirement, and the rebuild of the schedule (R20, R100,
R101, R248). -/

namespace Sys2Proof.Machine

/-! ### A residue mismatch (R100, R248) -/

theorem residueMismatch_retired {lane : Nat} {s : State} (hret : (s.fld F.FLT_ENG_LANERET).testBit lane = true) :
    residueMismatch lane s = s := if_neg fun h => by
  obtain ⟨-, hup, -⟩ := h
  exact hup hret

/-- Without an injected corruption a mismatch on a checked lane in service is the lane's own. -/
theorem residueMismatch_up {lane : Nat} {s : State} (hrun : running s = true)
    (hup : (s.fld F.FLT_ENG_LANERET).testBit lane = false) (hchk : checkOff s 0 lane = false)
    (hinj : s.flts.inj ≠ some (0, lane)) : residueMismatch lane s =
      { s.inc F.FLT_ENG_RECOMP with
        flt := { s.flt with retry := s.flt.retry ++ [(lane, false)], recompOn := recompLane s } } := by
  have hown : takeInjection 0 lane s = (false, s) := if_neg hinj
  unfold residueMismatch
  rw [if_pos ⟨hrun, by simp [hup], by simp [hchk]⟩, hown]
  rfl

/-- The spare lane recomputes a section where it is in service and replaces no working lane. -/
theorem recompLane_eq (s : State) : recompLane s =
    if (s.fld F.FLT_ENG_LANERET).testBit 10 = false ∧ s.fld F.FLT_ENG_SPAREFOR = 15 then some 10 else none := by
  unfold recompLane
  split
  next hbusy =>
    refine (if_neg fun hfree => ?_).symm
    obtain ⟨hup, hspare⟩ := hfree
    rcases hbusy with hret | hfor
    · exact Bool.false_ne_true (hup.symm.trans hret)
    · exact hfor hspare
  next hfree =>
    rw [not_or, Bool.not_eq_true, not_not] at hfree
    exact (if_pos hfree).symm

/-! ### The retry of a lane (R248) -/

section Retry

variable {s : State} {lane : Nat} {rest : List (Nat × Bool)} (hretry : s.flt.retry = (lane, false) :: rest)
include hretry

theorem laneRetry_pass : laneRetry lane true s = transient 0 lane 0 false false { s with flt := { s.flt with retry := rest } } := by
  simp [laneRetry, hretry]

theorem laneRetry_fail : laneRetry lane false s =
    retireFltLane lane (State.inc { s with flt := { s.flt with retry := rest } } F.FLT_ENG_RECOMP) := by
  simp [laneRetry, hretry]

end Retry

/-- A bit set in LANERET: the field has one for each lane. -/
theorem put_laneRet_testBit (lane : Fin 11) (s : State) (x : Nat) :
    ((s.put F.FLT_ENG_LANERET 0 (x ||| 2 ^ lane.val)).fld F.FLT_ENG_LANERET).testBit lane = true := by
  rw [put_fld_same, Nat.testBit_mod_two_pow, Nat.testBit_or, Nat.testBit_two_pow_self]
  simp [F.FLT_ENG_LANERET]

/-- Before a lane counts as a permanent fault it is out of service in LANERET, and lane 10 may take its slots. -/
theorem retireFltLane_eq (lane : Nat) (s : State) : ∃ spare u,
    retireFltLane lane s = permanent 0 lane 0 spare false none u ∧ u.flt.retry = s.flt.retry ∧
      Spares [(F.FLT_ENG_SPAREFOR, 0)] (s.put F.FLT_ENG_LANERET 0 (s.fld F.FLT_ENG_LANERET ||| 2 ^ lane)) u := by
  unfold retireFltLane
  extract_lets s1 takes s2 _ s3
  have hretry : s2.flt.retry = s.flt.retry := by
    dsimp only [s2]
    split
    · rfl
    · split <;> rfl
  have hspare : Spares [(F.FLT_ENG_SPAREFOR, 0)] s1 s2 :=
    Spares_ite (Spares_put _ _ _ _) (Spares_ite (Spares_put _ _ _ _) (Spares_refl _ _))
  refine ⟨_, s3, rfl, ?_, Spares_ite hspare hspare⟩
  dsimp only [s3]
  split
  · exact hretry
  · exact hretry

/-- A lane that is retired shows in LANERET and counts as a permanent fault of class 0; the lanes due a retry stay. -/
theorem retireFltLane_spec (lane : Fin 11) (s : State) :
    ((retireFltLane lane s).fld F.FLT_ENG_LANERET).testBit lane = true ∧ (retireFltLane lane s).flt.retry = s.flt.retry ∧
      (retireFltLane lane s).fld F.FLTS_CNT_PERM 0 = min 65535 (s.fld F.FLTS_CNT_PERM 0 + 1) := by
  obtain ⟨spare, u, heq, hretry, hspare⟩ := retireFltLane_eq lane s
  obtain ⟨hflt, hshown⟩ := FaultShown.of_permanent 0 lane 0 spare false none u
  have hret : (permanent 0 lane 0 spare false none u).fld F.FLT_ENG_LANERET =
      (s.put F.FLT_ENG_LANERET 0 (s.fld F.FLT_ENG_LANERET ||| 2 ^ lane.val)).fld F.FLT_ENG_LANERET :=
    (Spares_fld_field hshown 0).trans ((addSat_fld_field u F.FLTS_CNT_PERM F.FLT_ENG_LANERET 0 0 1 (by decide)).trans
      (Spares_fld_field hspare 0))
  have hcount : u.fld F.FLTS_CNT_PERM 0 = s.fld F.FLTS_CNT_PERM 0 :=
    (Spares_fld_field hspare 0).trans (put_fld_field s _ _ _ _ _ (by decide))
  rw [heq]
  refine ⟨?_, (congrArg FltSt.retry hflt).trans hretry, ?_⟩
  · rw [hret]
    exact put_laneRet_testBit lane s _
  · rw [Spares_fld_field hshown 0, ← hcount]
    exact addSat_fld_same u F.FLTS_CNT_PERM 0 1

/-! ### The schedule (R101) -/

theorem fltService_of_lanes {s : State} (h : 9 < lanesUp s) : fltService s = s := by
  unfold fltService
  extract_lets k s1
  have h1 : s1 = s := if_neg fun hshed => absurd hshed.1 (by omega)
  rw [h1]
  exact if_neg fun hoff => absurd hoff.1 (by omega)

theorem scheduleRebuild_idle {s : State} (h : s.flt.rebuild = false) : scheduleRebuild s = s := if_neg (by simp [h])

/-- With more than nine lanes in service, and the device not FAILED, a rebuild evaluates DSTATE and changes no service. -/
theorem scheduleRebuild_due {s : State} (hdue : s.flt.rebuild = true) (hlanes : 9 < lanesUp s) (hsound : dstate s ≠ 2) :
    scheduleRebuild s = State.put { s with flt := { s.flt with rebuild := false } } F.FLTS_ST_DSTATE 0 (dstate s) := by
  refine (if_pos hdue).trans ?_
  rw [fltService_of_lanes (s := { s with flt := { s.flt with rebuild := false } }) hlanes]
  exact evalDState_of_ne (s := { s with flt := { s.flt with rebuild := false } }) hsound

/-! ### The obligation -/

/-- Settles O38: each command's guard is met; a fault writes neither LANERET nor the lanes due a retry, and counts once. -/
theorem filterLanesRetryAndRetire : Obligations.FilterLanesRetryAndRetire := by
  refine ⟨fun s lane _ hret => ?_, fun s lane hrun hup hchk hinj => ?_, fun s lane rest hretry => ?_,
    fun s lane rest hretry => ?_, fun s => ⟨fun hidle => ?_, fun hdue hlanes hsound => ?_⟩⟩
  · exact congrArg Host.Outcome.next (residueMismatch_retired hret)
  · refine ⟨_, congrArg Host.Outcome.next (residueMismatch_up hrun hup hchk hinj), ?_, ?_⟩
    · rw [recompLane_eq]
      rfl
    · exact Writes_snoc_inc (Writes_nil s s rfl) F.FLT_ENG_RECOMP 0
  · exact congrArg Host.Outcome.next (laneRetry_pass hretry)
  · refine ⟨_, congrArg Host.Outcome.next (laneRetry_fail hretry), ?_⟩
    obtain ⟨hret, hrest, hcount⟩ := retireFltLane_spec lane
      (State.inc { s with flt := { s.flt with retry := rest } } F.FLT_ENG_RECOMP)
    refine ⟨hret, hrest, ?_⟩
    rw [hcount]
    exact congrArg (fun x => min 65535 (x + 1)) (addSat_fld_field s F.FLT_ENG_RECOMP F.FLTS_CNT_PERM 0 0 1 (by decide))
  · exact congrArg Host.Outcome.next (scheduleRebuild_idle hidle)
  · exact ⟨_, congrArg Host.Outcome.next (scheduleRebuild_due hdue hlanes hsound), rfl,
      Writes_put s _ _ _ (dstate_lt s)⟩

end Sys2Proof.Machine
end

section
/-! The fast path: the record of its latest results, and the comparators that read it (R108 to R111). -/

namespace Sys2Proof.Machine

/-! ### The record of a stream's results -/

/-- Results that come change the stream's path and nothing else. -/
theorem pathFasts_eq (n : Nat) (fs : List (BitVec 16)) (s : State) :
    pathFasts n fs s = { s with clk := { s.clk with path := (pathFasts n fs s).clk.path } } :=
  List.foldlRecOn (motive := fun u : State => u = { s with clk := { s.clk with path := u.clk.path } }) fs _ rfl
    fun u hu f _ => (congrArg (pathFast n f) hu).trans (by rw [hu]; rfl)

theorem pathFasts_bit (n : Nat) (fs : List (BitVec 16)) (s : State) (f : Fld) (i : Nat) :
    (pathFasts n fs s).bit f i = s.bit f i := by rw [pathFasts_eq]; rfl

theorem pathFasts_flds (n : Nat) (fs : List (BitVec 16)) (s : State) : (pathFasts n fs s).flds = s.flds := by rw [pathFasts_eq]

/-- The record holds the results newest first, as far back as the comparators look. -/
theorem getElem?_pathFasts {i : Nat} (n : Nat) (fs : List (BitVec 16)) (s : State) (hi : i < 512) :
    (getPath (pathFasts n fs s) n).fast[i]? = (fs.reverse ++ (getPath s n).fast)[i]? := by
  induction fs generalizing s with
  | nil => rfl
  | cons f fs ih =>
    have hone : (getPath (pathFast n f s) n).fast = (f :: (getPath s n).fast).take 512 :=
      congrArg StreamPath.fast (getPath_setPath_same _ _ _)
    rw [show pathFasts n (f :: fs) s = pathFasts n fs (pathFast n f s) from rfl, ih, hone, List.reverse_cons,
      List.append_assoc, List.singleton_append, List.getElem?_append, List.getElem?_append]
    split
    · rfl
    · rw [List.getElem?_take, if_pos (by omega)]

/-- As far back as results have come, the record holds one of them. -/
theorem exists_mem_pathFasts {i n : Nat} {fs : List (BitVec 16)} {s : State} (hi : i < 512) (hlen : i < fs.length) :
    ∃ f ∈ fs, (getPath (pathFasts n fs s) n).fast[i]? = some f := by
  have hrev : i < fs.reverse.length := by simpa using hlen
  refine ⟨fs.reverse[i], List.mem_reverse.1 (List.getElem_mem hrev), ?_⟩
  rw [getElem?_pathFasts n fs s hi, List.getElem?_append_left hrev, List.getElem?_eq_getElem hrev]

/-- FAST shows the latest result. -/
theorem fastShown_pathFasts (n : Nat) (fs : List (BitVec 16)) (f : BitVec 16) (s : State) :
    fastShown (pathFasts n (fs ++ [f]) s) n = f := by
  unfold fastShown
  rw [List.headD_eq_head?_getD, List.head?_eq_getElem?, getElem?_pathFasts n _ s (by decide)]
  simp

theorem fastShown_of_clk {s t : State} (h : t.clk = s.clk) (n : Nat) : fastShown t n = fastShown s n := by
  unfold fastShown getPath
  rw [h]

/-! ### What the comparators find in the record (R110) -/

theorem lookBack_le (s : State) (n : Nat) : lookBack s n ≤ 480 := by
  unfold lookBack
  split
  · split <;> decide
  · decide

section Comparators

variable {n : Nat} {s : State} {t : Rat}

theorem reachedTwice_pathFasts (pre : List (BitVec 16)) {f0 f1 : BitVec 16} (h0 : t ≤ |(fastVal f0 : Rat)|)
    (h1 : t ≤ |(fastVal f1 : Rat)|) : reachedTwice t (getPath (pathFasts n (pre ++ [f0, f1]) s) n).fast = true := by
  have hnew := getElem?_pathFasts (i := 0) n (pre ++ [f0, f1]) s (by decide)
  have hold := getElem?_pathFasts (i := 1) n (pre ++ [f0, f1]) s (by decide)
  generalize (getPath (pathFasts n (pre ++ [f0, f1]) s) n).fast = fast at hnew hold ⊢
  match fast with
  | [] => simp at hnew
  | [_] => simp at hold
  | x1 :: x0 :: _ =>
    obtain rfl : x1 = f1 := by simpa using hnew
    obtain rfl : x0 = f0 := by simpa using hold
    simp [reachedTwice, h0, h1]

theorem quietFor_pathFasts {l : Nat} {fs : List (BitVec 16)} (hl : l ≤ 512) (hlen : l ≤ fs.length)
    (hquiet : ∀ f ∈ fs, |(fastVal f : Rat)| < 7 / 8 * t) : quietFor l t (getPath (pathFasts n fs s) n).fast = true := by
  have hin (i : Nat) (hi : i < l) : ∃ f ∈ fs, (getPath (pathFasts n fs s) n).fast[i]? = some f :=
    exists_mem_pathFasts (by omega) (by omega)
  generalize (getPath (pathFasts n fs s) n).fast = fast at hin ⊢
  have hfull : l ≤ fast.length := by
    by_contra hshort
    obtain ⟨f, -, hf⟩ := hin fast.length (by omega)
    simp at hf
  simp only [quietFor, Bool.and_eq_true, decide_eq_true_eq, List.all_eq_true]
  refine ⟨hfull, fun x hx => ?_⟩
  obtain ⟨i, hi, rfl⟩ := List.mem_take_iff_getElem.1 hx
  obtain ⟨f, hf, hget⟩ := hin i (by omega)
  rw [List.getElem?_eq_getElem (by omega), Option.some.injEq] at hget
  rw [hget]
  exact hquiet f hf

/-- The step comparator compares the latest result of a record with the one L earlier. -/
theorem stepAt_of_getElem? {l : Nat} {fs : List (BitVec 16)} {f o : BitVec 16} (hf : fs[0]? = some f) (ho : fs[l]? = some o) :
    stepAt l t fs = decide (t ≤ |(fastVal f - fastVal o : Rat)|) := by
  cases fs with
  | nil => simp at hf
  | cons x xs =>
    obtain rfl : x = f := by simpa using hf
    unfold stepAt
    rw [ho]

theorem stepAt_pathFasts {mid : List (BitVec 16)} {f0 f : BitVec 16} (hlen : mid.length + 1 = lookBack s n)
    (hstep : t ≤ |(fastVal f - fastVal f0 : Rat)|) :
    stepAt (lookBack s n) t (getPath (pathFasts n (f0 :: mid ++ [f]) s) n).fast = true := by
  have hle := lookBack_le s n
  rw [stepAt_of_getElem? (f := f) (o := f0)]
  · exact decide_eq_true hstep
  · rw [getElem?_pathFasts n _ s (by decide)]
    simp
  · rw [getElem?_pathFasts n _ s (by omega), ← hlen]
    simp

/-- No result of the last 24 reaches a threshold that no two results that have come are apart by. -/
theorem stepQuiet_pathFasts {fs : List (BitVec 16)} (hlen : lookBack s n + 24 ≤ fs.length)
    (hquiet : ∀ f ∈ fs, ∀ g ∈ fs, |(fastVal f - fastVal g : Rat)| < t) :
    stepQuiet (lookBack s n) t (getPath (pathFasts n fs s) n).fast = true := by
  have hle := lookBack_le s n
  simp only [stepQuiet, List.all_eq_true, List.mem_range, Bool.not_eq_true']
  intro i hi
  obtain ⟨f, hf, hnew⟩ := exists_mem_pathFasts (i := i) (n := n) (fs := fs) (s := s) (by omega) (by omega)
  obtain ⟨g, hg, hold⟩ := exists_mem_pathFasts (i := i + lookBack s n) (n := n) (fs := fs) (s := s) (by omega) (by omega)
  rw [stepAt_of_getElem? (f := f) (o := g) (by rw [List.getElem?_drop, Nat.add_zero, hnew]) (by rw [List.getElem?_drop, hold])]
  exact decide_eq_false (not_le.2 (hquiet f hf g hg))

end Comparators

/-! ### Held crossfades and restarted estimations go on (R82) -/

theorem st_ne_leaving_of_overlaps {sl : Slot} (h : sl.overlaps = true) : sl.st ≠ .leaving := fun hst => by
  simp [Slot.overlaps, hst] at h

theorem setSlot_of_overlaps {sp : Nat} {s : State} {sl new : Slot} (hsl : (getSp s sp).slot = some sl)
    (hover : sl.overlaps = true) (hchan : new.chan = sl.chan) (hnew : new.st ≠ .leaving) :
    setSlot sp (some new) s = { s with rmt := (setSlot sp (some new) s).rmt } := by
  obtain ⟨heq, -⟩ := setSlot_onlySpare hsl hchan (st_ne_leaving_of_overlaps hover) hnew
  rw [heq]

theorem beginXfade_of_overlaps {sp : Nat} {s : State} {sl : Slot} (hsl : (getSp s sp).slot = some sl)
    (hover : sl.overlaps = true) : beginXfade sp sl s = { s with rmt := (beginXfade sp sl s).rmt } := by
  unfold beginXfade
  extract_lets wait
  split
  · exact setSlot_of_overlaps hsl hover rfl (st_ne_leaving_of_overlaps hover)
  · exact setSlot_of_overlaps hsl hover rfl (by dsimp only; split <;> simp)

/-- What waited on a channel goes on in the spares' slots alone. -/
theorem releaseHeld_eq (n : Nat) (s : State) : releaseHeld n s = { s with rmt := (releaseHeld n s).rmt } := by
  unfold releaseHeld
  split
  · refine List.foldlRecOn (motive := fun u : State => u = { s with rmt := u.rmt }) _ _ rfl fun u hu sp _ => ?_
    split
    next sl hsl =>
      split
      next hheld =>
        obtain ⟨-, hover, -⟩ := hheld
        rw [beginXfade_of_overlaps hsl hover, hu]
      next =>
        split
        next hrestarted =>
          obtain ⟨-, hover, -⟩ := hrestarted
          rw [setSlot_of_overlaps (new := { sl with est := .window }) hsl hover rfl (st_ne_leaving_of_overlaps hover), hu]
        next => exact hu
    next => exact hu
  · rfl

end Sys2Proof.Machine
end

section
/-! The comparators' commands, and changes of response: what each finds and what it leaves (R22, R110 to R113, R116). -/

namespace Sys2Proof.Machine

/-! ### OVC and STEP (R82, R110, R116) -/

theorem fastRuns_of_fastOn {s : State} {n : Nat} (h : fastOn s n = true) : fastRuns s n = true := by
  simp only [fastOn, Bool.and_eq_true] at h
  obtain ⟨hruns, -⟩ := h
  exact hruns

/-- A comparator's flag of a stream is set, and its latch with it. -/
def flagged (f g : Fld) (n : Nat) (s : State) : State := (s.put f n 1).put g n 1

theorem flagged_bit (n : Nat) (s : State) {f g : Fld} (hf : f.len = 1 := by rfl) (hg : g.len = 1 := by rfl)
    (hne : g.id ≠ f.id := by decide) : (flagged f g n s).bit f n = true ∧ (flagged f g n s).bit g n = true := by
  refine ⟨bit_of_fld_one ?_, bit_of_fld_one ?_⟩
  · exact (put_fld_field _ g f n n 1 hne).trans ((put_fld_same s f n 1).trans (by rw [hf]; rfl))
  · exact (put_fld_same _ g n 1).trans (by rw [hg]; rfl)

/-- STEP and STEPL are set; on an analog channel the estimation in progress restarts (R82). -/
def stepRises (n : Nat) (s : State) : State :=
  if n < 112 then restartEst n (setStepNow n true (flagged F.FLT_ST_STEP F.FLT_ST_STEPL n s))
  else flagged F.FLT_ST_STEP F.FLT_ST_STEPL n s

/-- STEP clears; on an analog channel what it held back goes on (R82). -/
def stepFalls (n : Nat) (s : State) : State :=
  if n < 112 then releaseHeld n (setStepNow n false (s.put F.FLT_ST_STEP n 0)) else s.put F.FLT_ST_STEP n 0

/-- Beyond the flags, remount alone learns of a step. -/
theorem stepRises_eq (n : Nat) (s : State) :
    stepRises n s = { flagged F.FLT_ST_STEP F.FLT_ST_STEPL n s with rmt := (stepRises n s).rmt } := by
  unfold stepRises
  split
  · rw [restartEst_eq]
    rfl
  · rfl

theorem stepFalls_eq (n : Nat) (s : State) : stepFalls n s = { s.put F.FLT_ST_STEP n 0 with rmt := (stepFalls n s).rmt } := by
  unfold stepFalls
  split
  · rw [releaseHeld_eq]
    rfl
  · rfl

section Stopped

variable {s : State} {n : Nat} (fs : List (BitVec 16)) (hoff : fastRuns s n = false)
include hoff

theorem ovcSet_stopped : ovcSet n fs s = s := if_neg (by simp [hoff])

theorem ovcClear_stopped : ovcClear n fs s = s := if_neg (by simp [hoff])

theorem stepSet_stopped : stepSet n fs s = s := if_neg (by simp [hoff])

theorem stepClear_stopped : stepClear n fs s = s := if_neg (by simp [hoff])

end Stopped

section Running

variable {s : State} {n : Nat} {fs : List (BitVec 16)} {th : Rat} (hruns : fastRuns s n = true)
include hruns

/-- Without a threshold the results that have come are recorded, and no more. -/
theorem ovcSet_unset (hth : threshold s F.FLT_THR_FTHR n = none) : ovcSet n fs s = pathFasts n fs s := by
  refine (if_pos hruns).trans ?_
  rw [hth]

/-- Where the threshold is reached twice OVC is set, and event 3 is raised on a channel whose OVC was clear. -/
theorem ovcSet_threshold (hth : threshold s F.FLT_THR_FTHR n = some th) : ovcSet n fs s =
    if fastOn s n ∧ reachedTwice th (getPath (pathFasts n fs s) n).fast then
      raiseIf (decide (n < 144) && !s.bit F.FLT_ST_OVC n) 3 n (flagged F.FLT_ST_OVC F.FLT_ST_OVCL n (pathFasts n fs s))
    else pathFasts n fs s := by
  refine (if_pos hruns).trans ?_
  rw [hth, ← pathFasts_bit n fs s]
  unfold raiseIf flagged
  simp only [Bool.and_eq_true, decide_eq_true_eq, Bool.not_eq_true', Bool.not_eq_true]

/-- An OVC that stands while its comparator is off is cleared by the command. -/
theorem ovcClear_unset (hth : threshold s F.FLT_THR_FTHR n = none) :
    ovcClear n fs s = (pathFasts n fs s).put F.FLT_ST_OVC n 0 := by
  refine (if_pos hruns).trans ?_
  rw [hth]

theorem ovcClear_threshold (hth : threshold s F.FLT_THR_FTHR n = some th) : ovcClear n fs s =
    if fastOn s n ∧ quietFor (lookBack s n) th (getPath (pathFasts n fs s) n).fast then
      (pathFasts n fs s).put F.FLT_ST_OVC n 0
    else pathFasts n fs s := by
  refine (if_pos hruns).trans ?_
  rw [hth]

theorem stepSet_unset (hth : threshold s F.FLT_THR_STEPTH n = none) : stepSet n fs s = pathFasts n fs s := by
  refine (if_pos hruns).trans ?_
  rw [hth]

theorem stepSet_threshold (hth : threshold s F.FLT_THR_STEPTH n = some th) : stepSet n fs s =
    if fastOn s n ∧ stepAt (lookBack s n) th (getPath (pathFasts n fs s) n).fast then stepRises n (pathFasts n fs s)
    else pathFasts n fs s := by
  refine (if_pos hruns).trans ?_
  rw [hth]
  rfl

/-- A STEP that stands while its comparator is off is cleared by the command. -/
theorem stepClear_unset (hth : threshold s F.FLT_THR_STEPTH n = none) : stepClear n fs s = stepFalls n (pathFasts n fs s) := by
  refine (if_pos hruns).trans (if_pos ?_)
  rw [hth]

theorem stepClear_threshold (hth : threshold s F.FLT_THR_STEPTH n = some th) : stepClear n fs s =
    if fastOn s n && stepQuiet (lookBack s n) th (getPath (pathFasts n fs s) n).fast then stepFalls n (pathFasts n fs s)
    else pathFasts n fs s := by
  refine (if_pos hruns).trans ?_
  rw [hth]
  rfl

/-- OVC clears where its comparator is off, or the look-back was quiet. -/
theorem ovcClear_quiet (hquiet : threshold s F.FLT_THR_FTHR n = none ∨ (fastOn s n = true ∧ lookBack s n ≤ fs.length ∧
      ∃ th, threshold s F.FLT_THR_FTHR n = some th ∧ ∀ f ∈ fs, |(fastVal f : Rat)| < 7 / 8 * th)) :
    ovcClear n fs s = (pathFasts n fs s).put F.FLT_ST_OVC n 0 := by
  rcases hquiet with hth | ⟨hon, hlen, th, hth, hlow⟩
  · exact ovcClear_unset hruns hth
  · have hle := lookBack_le s n
    exact (ovcClear_threshold hruns hth).trans (if_pos ⟨hon, quietFor_pathFasts (by omega) hlen hlow⟩)

/-- STEP clears where its comparator is off, or no result of the last 24 reached the threshold. -/
theorem stepClear_quiet (hquiet : threshold s F.FLT_THR_STEPTH n = none ∨ (fastOn s n = true ∧ lookBack s n + 24 ≤ fs.length ∧
      ∃ th, threshold s F.FLT_THR_STEPTH n = some th ∧ ∀ f ∈ fs, ∀ g ∈ fs, |(fastVal f - fastVal g : Rat)| < th)) :
    stepClear n fs s = stepFalls n (pathFasts n fs s) := by
  rcases hquiet with hth | ⟨hon, hlen, th, hth, hnear⟩
  · exact stepClear_unset hruns hth
  · rw [stepClear_threshold hruns hth, hon, stepQuiet_pathFasts hlen hnear]
    rfl

end Running

section HeldOff

variable {s : State} {n : Nat} {th : Rat} (fs : List (BitVec 16)) (hruns : fastRuns s n = true) (hoff : fastOn s n = false)
include hruns hoff

/-- In a hold-off the comparator of OVC does not act. -/
theorem ovc_heldOff (hth : threshold s F.FLT_THR_FTHR n = some th) :
    ovcSet n fs s = pathFasts n fs s ∧ ovcClear n fs s = pathFasts n fs s :=
  ⟨(ovcSet_threshold hruns hth).trans (if_neg (by simp [hoff])), (ovcClear_threshold hruns hth).trans (if_neg (by simp [hoff]))⟩

/-- In a hold-off the comparator of STEP does not act. -/
theorem step_heldOff (hth : threshold s F.FLT_THR_STEPTH n = some th) :
    stepSet n fs s = pathFasts n fs s ∧ stepClear n fs s = pathFasts n fs s :=
  ⟨(stepSet_threshold hruns hth).trans (if_neg (by simp [hoff])), (stepClear_threshold hruns hth).trans (if_neg (by simp [hoff]))⟩

end HeldOff

/-! ### The hold-off (R111) -/

theorem mget_foldl_clear (k : Nat) (ks : List Nat) (m : SMap Bool) :
    mget false (ks.foldl (fun m k => mput false m k false) m) k = if k ∈ ks then false else mget false m k := by
  induction ks generalizing m with
  | nil => rfl
  | cons j ks ih =>
    rw [List.foldl_cons, ih]
    by_cases hkj : k = j
    · subst hkj
      simp
    · simp [mget_mput_other _ _ _ _ _ _ hkj, hkj]

/-! ### Changes of response (R22, R112, R113) -/

theorem setChange_change (n : Nat) (c : Option RespChange) (s : State) : mget none (setChange n c s).flt.change n = c :=
  mget_mput_same none s.flt.change n c

theorem takeResp_resp (n : Nat) (resp : List Nat) (s : State) : mget [0, 0, 0, 0] (takeResp n resp s).flt.resp n = resp :=
  mget_mput_same [0, 0, 0, 0] s.flt.resp n resp

theorem reachNow_now (t : Nat) (s : State) : (reachNow t s).clk.now = max s.clk.now t := by
  show s.clk.now + (t - s.clk.now) = _
  omega

section Change

variable {s : State} {n : Nat} {c : RespChange} (hc : mget none s.flt.change n = some c)
include hc

theorem warmUpEnd_warming (hph : c.ph = .warming) : warmUpEnd n s =
    setChange n (some { c with ph := .warmed }) (reachNow (mget 0 s.flt.doneT n) s) := by
  unfold warmUpEnd
  rw [hc]
  exact if_pos hph

theorem warmUpEnd_other (hph : c.ph ≠ .warming) : warmUpEnd n s = s := by
  unfold warmUpEnd
  rw [hc]
  exact if_neg hph

theorem respCrossfade_waits (h : updateDue s n = false ∨ c.ph ≠ .warmed) : respCrossfade n s = s := by
  unfold respCrossfade
  rw [hc]
  refine if_neg fun hdue => ?_
  obtain ⟨hph, hupdate⟩ := hdue
  rcases h with h | h
  · exact Bool.false_ne_true (h.symm.trans hupdate)
  · exact h hph

theorem respCrossfade_due {sp : Nat} (hdue : updateDue s n = true) (hph : c.ph = .warmed)
    (hsp : (sparesOf (bankOf n)).find? (fun k => (getSp s k).lent == some n) = some sp) : respCrossfade n s =
      setChange n (some { c with ph := .fading }) (takeResp n c.resp (pathTake n sp (mget [0, 0, 0, 0] s.flt.resp n) s)) := by
  unfold respCrossfade
  rw [hc]
  refine (if_pos ⟨hph, hdue⟩).trans ?_
  rw [hsp]

theorem presetSwitch_waits (h : updateDue s n = false ∨ c.ph ≠ .preset) : presetSwitch n s = s := by
  unfold presetSwitch
  rw [hc]
  refine if_neg fun hdue => ?_
  obtain ⟨hph, hupdate⟩ := hdue
  rcases h with h | h
  · exact Bool.false_ne_true (h.symm.trans hupdate)
  · exact h hph

end Change

/-- New responses are in force by the preset method: the change is over, and the chain stands preset. -/
def presetTaken (n : Nat) (resp : List Nat) (s : State) : State :=
  pathPreset n resp (setDone n (resp.foldl (fun a r => max a (settleUs r)) 0) (setChange n none (takeResp n resp s)))

theorem presetSwitch_due {s : State} {n : Nat} {c : RespChange} (hc : mget none s.flt.change n = some c)
    (hdue : updateDue s n = true) (hph : c.ph = .preset) :
    presetSwitch n s = (presetTaken n c.resp s).lift F.FLT_ST_SETTLE n := by
  unfold presetSwitch
  rw [hc]
  exact if_pos ⟨hph, hdue⟩

theorem presetTaken_path (n : Nat) (resp : List Nat) (s : State) :
    (getPath (presetTaken n resp s) n).z = presetZ (sectionList resp) (mean192 (getPath s n)) :=
  congrArg StreamPath.z (getPath_setPath_same n _ _)

theorem lower_rmt (s : State) (f : Fld) (i : Nat) : (s.lower f i).rmt = s.rmt := by rw [lower_eq]

/-- The end of a crossfade whose lent spare is gone: the change is over, and SETTLE clears. -/
theorem fadeEnd_without_spare {s : State} {n : Nat} (hph : changePh s n = some .fading) (hold : (getPath s n).old = none)
    (hspare : ∀ sp ∈ sparesOf (bankOf n), (getSp s sp).lent ≠ some n) :
    fadeEnd n s = setChange n none (s.lower F.FLT_ST_SETTLE n) := by
  have hlent : (sparesOf (bankOf n)).find? (fun sp =>
      (getSp (setChange n none (s.lower F.FLT_ST_SETTLE n)) sp).lent == some n) = none := by
    refine List.find?_eq_none.2 fun sp hsp => ?_
    unfold getSp setChange
    rw [lower_rmt]
    simpa [getSp] using hspare sp hsp
  refine (if_pos ⟨hph, by rw [hold]; rfl⟩).trans ?_
  dsimp only
  rw [hlent]

/-- SETTLE stays while a lent slot is in progress. -/
theorem settleEnd_lent {s : State} {n : Nat}
    (h : changePh s n = some .warming ∨ changePh s n = some .warmed ∨ changePh s n = some .fading) : settleEnd n s = s := by
  unfold settleEnd
  rcases h with h | h | h <;> rw [h]

theorem settleEnd_done {s : State} {n : Nat} (hwarming : changePh s n ≠ some .warming) (hwarmed : changePh s n ≠ some .warmed)
    (hfading : changePh s n ≠ some .fading) : settleEnd n s = (reachNow (mget 0 s.flt.doneT n) s).lower F.FLT_ST_SETTLE n := by
  unfold settleEnd
  extract_lets done
  split
  next h => exact absurd h hwarming
  next h => exact absurd h hwarmed
  next h => exact absurd h hfading
  next => rfl
  next => rfl
  next => rfl

/-! ### The obligation -/

/-- Settles O39: the record of a stream holds the results that have come, so that the comparators find what the hypotheses say of
them; a change of response follows its phase and its boundary. -/
theorem fastPathAndResponses : Obligations.FastPathAndResponses := by
  refine ⟨⟨fun s n fs hoff => ⟨?_, ?_, ?_, ?_⟩, fun s n pre f0 f1 th hon hth h0 h1 => ?_,
      fun s n fs hruns => ⟨fun hth => ?_, fun hth => ?_⟩, fun s n fs hruns => ⟨fun hquiet => ?_, fun hoff hset => ?_⟩,
      fun s n mid f0 f th hon hth hlen hstep => ?_, fun s n fs hruns => ⟨fun hquiet => ?_, fun hoff hset => ?_⟩, fun s n => ?_⟩,
    fun s n c hrun hc => ⟨fun hph => ?_, fun hph => ?_⟩,
    fun s n c hrun hc => ⟨fun hwait => ?_, fun sp hdue hph hsp => ?_⟩, fun s n hph hold hspare => ?_,
    fun s n c hrun hc => ⟨fun hwait => ?_, fun hdue hph => ?_⟩,
    fun s n => ⟨fun hlent => ?_, fun hwarming hwarmed hfading => ?_⟩⟩
  · exact congrArg Host.Outcome.next (ovcSet_stopped fs hoff)
  · exact congrArg Host.Outcome.next (ovcClear_stopped fs hoff)
  · exact congrArg Host.Outcome.next (stepSet_stopped fs hoff)
  · exact congrArg Host.Outcome.next (stepClear_stopped fs hoff)
  · refine ⟨_, congrArg Host.Outcome.next ((ovcSet_threshold (fastRuns_of_fastOn hon) hth).trans
      (if_pos ⟨hon, reachedTwice_pathFasts pre h0 h1⟩)), rfl, ?_, ?_⟩
    · refine (fastShown_of_clk (s := pathFasts n (pre ++ [f0, f1]) s) rfl n).trans ?_
      rw [List.append_cons, fastShown_pathFasts]
    · exact Writes_snoc (Writes_snoc (Writes_nil s _ (pathFasts_flds _ _ s)) (by decide)) (by decide)
  · exact congrArg Host.Outcome.next (ovcSet_unset hruns hth)
  · exact congrArg Host.Outcome.next (stepSet_unset hruns hth)
  · exact ⟨_, congrArg Host.Outcome.next (ovcClear_quiet hruns hquiet), rfl,
      Writes_snoc (Writes_nil s _ (pathFasts_flds _ _ s)) (by decide)⟩
  · obtain ⟨th, hth⟩ := Option.ne_none_iff_exists'.1 hset
    obtain ⟨hovcSet, hovcClear⟩ := ovc_heldOff fs hruns hoff hth
    exact ⟨congrArg Host.Outcome.next hovcSet, congrArg Host.Outcome.next hovcClear⟩
  · have heq := ((stepSet_threshold (fastRuns_of_fastOn hon) hth).trans
      (if_pos ⟨hon, stepAt_pathFasts hlen hstep⟩)).trans (stepRises_eq n _)
    obtain ⟨hflag, hlatch⟩ := flagged_bit n (pathFasts n (f0 :: mid ++ [f]) s) (f := F.FLT_ST_STEP) (g := F.FLT_ST_STEPL)
    refine ⟨_, congrArg Host.Outcome.next heq, hflag, hlatch, ?_, ?_, ?_⟩
    · exact (fastShown_of_clk (s := pathFasts n (f0 :: mid ++ [f]) s) rfl n).trans (fastShown_pathFasts n _ f s)
    · exact (congrArg State.pwr (pathFasts_eq n (f0 :: mid ++ [f]) s) :)
    · exact (congrArg State.mtr (pathFasts_eq n (f0 :: mid ++ [f]) s) :)
  · refine ⟨_, congrArg Host.Outcome.next ((stepClear_quiet hruns hquiet).trans (stepFalls_eq n _)), ?_, ?_⟩
    · exact congrArg (· != 0) (put_fld_same (pathFasts n fs s) F.FLT_ST_STEP n 0)
    · exact (put_bit_field (pathFasts n fs s) F.FLT_ST_STEP F.FLT_ST_STEPL n n 0 (by decide)).trans (pathFasts_bit _ _ _ _ _)
  · obtain ⟨th, hth⟩ := Option.ne_none_iff_exists'.1 hset
    obtain ⟨hstepSet, hstepClear⟩ := step_heldOff fs hruns hoff hth
    exact ⟨congrArg Host.Outcome.next hstepSet, congrArg Host.Outcome.next hstepClear⟩
  · exact ⟨_, rfl, fun k hk => (mget_foldl_clear k _ _).trans (if_pos hk), fun k hk => (mget_foldl_clear k _ _).trans (if_neg hk),
      rfl⟩
  · exact ⟨_, congrArg Host.Outcome.next ((if_pos hrun).trans (warmUpEnd_warming hc hph)), setChange_change _ _ _,
      reachNow_now _ s, rfl⟩
  · exact congrArg Host.Outcome.next ((if_pos hrun).trans (warmUpEnd_other hc hph))
  · exact congrArg Host.Outcome.next ((if_pos hrun).trans (respCrossfade_waits hc hwait))
  · have hpath := getPath_setPath_same n { getPath s n with
      z := (getPath s (144 + sp)).z, old := some ⟨0, mget [0, 0, 0, 0] s.flt.resp n, (getPath s n).z⟩ } s
    exact ⟨_, congrArg Host.Outcome.next ((if_pos hrun).trans (respCrossfade_due hc hdue hph hsp)), takeResp_resp _ _ _,
      setChange_change _ _ _, (congrArg StreamPath.z hpath :), (congrArg StreamPath.old hpath :), rfl⟩
  · rw [fadeEnd_without_spare hph hold hspare]
    exact ⟨setChange_change _ _ _, lower_bit_same s _ _⟩
  · exact congrArg Host.Outcome.next ((if_pos hrun).trans (presetSwitch_waits hc hwait))
  · have heq := lift_eq (presetTaken n c.resp s) F.FLT_ST_SETTLE n
    refine ⟨_, congrArg Host.Outcome.next ((if_pos hrun).trans (presetSwitch_due hc hdue hph)), ?_, ?_, ?_,
      Writes_lift (presetTaken n c.resp s) _ rfl, ?_⟩
    · rw [heq]
      exact takeResp_resp n c.resp s
    · rw [heq]
      exact setChange_change n none (takeResp n c.resp s)
    · rw [heq]
      exact presetTaken_path n c.resp s
    · rw [heq]
      rfl
  · exact congrArg Host.Outcome.next (settleEnd_lent hlent)
  · refine ⟨_, congrArg Host.Outcome.next (settleEnd_done hwarming hwarmed hfading), lower_bit_same _ _ _, ?_, ?_,
      lower_spares (reachNow (mget 0 s.flt.doneT n) s) _ _⟩
    · rw [lower_eq]
      rfl
    · rw [lower_clk]
      exact reachNow_now _ s

end Sys2Proof.Machine
end

section
/-! The frame of the entry to RUN: what the units do as they take their settings leaves the power state alone, and the RUN clocks
running (R419, R421). -/

namespace Sys2Proof.Machine

/-- Going from r to s, the power state is kept, and since when the RUN clocks stand still, if they do. -/
def PowerKept (r s : State) : Prop := s.pwr = r.pwr ∧ s.clk.stopped = r.clk.stopped

namespace PowerKept

-- Elaborated side by side, the many short proofs below would each hold a thread, and the threads' stacks are large.
set_option Elab.async false

variable {r s : State}

theorem refl (s : State) : PowerKept s s := ⟨rfl, rfl⟩

theorem ite {t : State} {c : Prop} [Decidable c] (hs : PowerKept r s) (ht : PowerKept r t) :
    PowerKept r (if c then s else t) := by
  split
  · exact hs
  · exact ht

theorem foldl {α : Type} {g : State → α → State} (h : PowerKept r s) (l : List α)
    (hg : ∀ u a, PowerKept r u → PowerKept r (g u a)) : PowerKept r (l.foldl g s) :=
  List.foldlRecOn l g h fun u hu a _ => hg u a hu

/-- A write of a field. -/
theorem put {g : Fld} {i v : Nat} (h : PowerKept r s) : PowerKept r (s.put g i v) := h

/-- A change of what other units remember. -/
theorem elsewhere {pending : List Instr} {flds : SMap Nat} {ctl : CtlRun} {host : HostSt} {ldg : LdgSt} {evt : EvtSt} {inp : InpSt}
    {rmt : RmtSt} {flt : FltSt} {flts : FltsSt} {cal : CalSt} {twn : TwnSt} {mtr : MtrSt} {itn : ItnSt} {grd : GrdSt} {hrm : HrmSt}
    {dst : DstSt} {pls : PlsSt} {way : WaySt} {rng : Nat} {sbx : SbxSt} {cvn : CvnSt} {sar : SarSt} {dsp : DspSt} {prt : PrtSt}
    (h : PowerKept r s) : PowerKept r ⟨pending, flds, s.clk, ctl, host, s.pwr, ldg, evt, inp, rmt, flt, flts, cal, twn, mtr, itn,
      grd, hrm, dst, pls, way, rng, sbx, cvn, sar, dsp, prt⟩ := h

theorem after_lower {g : Fld} {i : Nat} (h : PowerKept r s) : PowerKept r (s.lower g i) := h.elsewhere.ite h

theorem after_lift {g : Fld} {i : Nat} (h : PowerKept r s) : PowerKept r (s.lift g i) := h.ite h.elsewhere

theorem after_raise {e d : Nat} (h : PowerKept r s) : PowerKept r (raise e d s) := by
  unfold PowerKept
  rw [raise_pwr, raise_clk]
  exact h

theorem after_raiseIf {b : Bool} {e d : Nat} (h : PowerKept r s) : PowerKept r (raiseIf b e d s) := h.after_raise.ite h

/-! #### Channels and their streams -/

theorem after_setPath {n : Nat} {p : StreamPath} (h : PowerKept r s) : PowerKept r (setPath n p s) := h

theorem after_fastClear {n : Nat} (h : PowerKept r s) : PowerKept r (fastClear n s) := by
  unfold fastClear pathFastClear
  exact h.put.put.put.after_setPath.elsewhere

theorem after_streamStart {n : Nat} (h : PowerKept r s) : PowerKept r (streamStart n s) := by
  unfold streamStart pathStart
  exact h.after_fastClear.after_setPath.elsewhere

theorem after_noteFactory {n : Nat} (h : PowerKept r s) : PowerKept r (noteFactory n s) := h.after_lift.ite h

theorem after_takeSettings {n : Nat} (h : PowerKept r s) : PowerKept r (takeSettings n s) := h.elsewhere

theorem after_startChannel {n : Nat} (h : PowerKept r s) : PowerKept r (startChannel n s) := by
  unfold startChannel noteIn
  exact (h.after_takeSettings.elsewhere.after_noteFactory.ite h.after_takeSettings.elsewhere).after_streamStart

theorem after_arcStop {n : Nat} (h : PowerKept r s) : PowerKept r (arcStop n s) :=
  (h.elsewhere.put.put.put.after_raise.ite h.elsewhere.put.put).ite h

theorem after_stopChannel {n : Nat} (h : PowerKept r s) : PowerKept r (stopChannel n s) := by
  unfold stopChannel
  exact h.after_arcStop.after_lower.put.after_lower.after_lower.after_lower.elsewhere

theorem after_takeGroups (h : PowerKept r s) : PowerKept r (takeGroups s) := h.foldl _ fun _ _ hu => hu.elsewhere

theorem after_takeStreams (h : PowerKept r s) : PowerKept r (takeStreams s) :=
  h.foldl _ fun _ _ hu => hu.after_startChannel.ite (hu.after_stopChannel.ite hu).after_takeSettings

theorem after_putTrace {n : Nat} {c : Trace} (h : PowerKept r s) : PowerKept r (putTrace n c s) := by
  unfold putTrace State.putI State.setBit
  exact h.elsewhere.put.put.put.put.after_raiseIf.after_raiseIf

theorem after_traceAtSplice {n : Nat} (h : PowerKept r s) : PowerKept r (traceAtSplice n s) := by
  unfold traceAtSplice
  exact h.after_putTrace.elsewhere

theorem after_traceResume {n : Nat} (h : PowerKept r s) : PowerKept r (traceResume n s) := by
  unfold traceResume
  extract_lets _ s1
  have h1 : PowerKept r s1 := h.ite h.elsewhere
  exact h1.ite h1.after_traceAtSplice

theorem after_resumeTraces (h : PowerKept r s) : PowerKept r (resumeTraces s) :=
  h.foldl _ fun _ _ hu => hu.after_traceResume.ite hu

theorem after_setMember {n t code : Nat} (h : PowerKept r s) : PowerKept r (setMember n t code s) := by
  unfold setMember restartY setDst
  exact (h.elsewhere.elsewhere.foldl _ fun _ _ hu => hu.elsewhere).put.put.put.put.put

theorem after_dropFormer (h : PowerKept r s) : PowerKept r (dropFormer s) :=
  h.foldl _ fun _ _ hu => hu.ite (hu.foldl _ fun _ _ hv => hv.after_setMember)

/-! #### Spares and their slots -/

theorem after_setSp {sp : Nat} {x : SpareSt} (h : PowerKept r s) : PowerKept r (setSp sp x s) := by
  unfold setSp retarget
  extract_lets s1 s0 _ s2
  have h1 : PowerKept r s1 := h.elsewhere
  have h2 : PowerKept r s2 := h1.after_fastClear.elsewhere
  exact h1.ite h2.after_setPath

theorem after_setSlot {sp : Nat} {x : Option Slot} (h : PowerKept r s) : PowerKept r (setSlot sp x s) := h.after_setSp

theorem after_startSlot {k : SlotKind} {sp n : Nat} (h : PowerKept r s) : PowerKept r (startSlot k sp n s) := h.after_setSlot

theorem after_watchFree {b : Nat} {f : State → State} (h : PowerKept r (f s)) : PowerKept r (watchFree b f s) := by
  unfold watchFree
  dsimp only
  split
  · exact h
  · exact h.after_raise.ite h

theorem after_skipSlot {n : Nat} (h : PowerKept r s) : PowerKept r (skipSlot n s) := after_raise h

theorem after_serveForce {b : Nat} (h : PowerKept r s) : PowerKept r (serveForce b s) := by
  unfold serveForce refuseForce
  refine ite (ite h.put.put ?_) h
  split
  · exact h.put.after_startSlot.ite h
  · exact h

theorem after_serveLive {b : Nat} (h : PowerKept r s) : PowerKept r (serveLive b s) := by
  unfold serveLive startLive
  split
  · exact h
  · split
    · exact h.after_setSp.elsewhere
    · exact h

theorem after_sessAdvance {x : Sess} (h : PowerKept r s) : PowerKept r (sessAdvance x s) :=
  (h.elsewhere.put.ite h.elsewhere).ite ((h.elsewhere.put.ite h.elsewhere).ite h.elsewhere)

theorem after_refinStart (h : PowerKept r s) : PowerKept r (refinStart s) := by
  unfold refinStart
  split
  · refine ite ?_ h
    split
    · exact h.after_sessAdvance
    · exact h.ite h.after_setSp
  · exact h

theorem after_settleBank {b : Nat} (h : PowerKept r s) : PowerKept r (settleBank b s) := h.after_refinStart.after_serveForce

theorem after_trimTrigger (h : PowerKept r s) : PowerKept r (trimTrigger s) := h.elsewhere.ite h.elsewhere.put

theorem after_liveRequest {n range sensor : Nat} (h : PowerKept r s) : PowerKept r (liveRequest n range sensor s) := by
  unfold liveRequest
  exact h.elsewhere.ite (after_watchFree h.elsewhere.after_serveLive).after_settleBank

theorem after_dropSlot {k : Slot} (h : PowerKept r s) : PowerKept r (dropSlot k s) := by
  unfold dropSlot
  cases k.kind with
  | routine => exact h.after_skipSlot
  | forced => exact h.after_skipSlot
  | live range sensor =>
    dsimp only
    split
    · exact h.after_skipSlot.after_liveRequest.after_trimTrigger.ite h.after_skipSlot.after_liveRequest
    · exact h.after_skipSlot
  | third a out =>
    dsimp only
    split
    · exact h.after_setSlot.ite h
    · exact h

theorem after_dropKept {sp : Nat} (h : PowerKept r s) : PowerKept r (dropKept sp s) := by
  unfold dropKept
  split
  · exact h
  · exact h.after_setSp.after_dropSlot

theorem after_lostSpare {n : Nat} {ph : RespPh} (h : PowerKept r s) : PowerKept r (lostSpare n ph s) := by
  unfold lostSpare
  dsimp only
  split
  · exact h.after_lower.elsewhere
  · exact h.after_lower

theorem after_noWitness {n : Nat} (h : PowerKept r s) : PowerKept r (noWitness n s) := by
  unfold noWitness
  split
  · exact h
  · exact h.elsewhere

theorem after_feedOwn {n : Nat} (h : PowerKept r s) : PowerKept r (feedOwn n s) := h.put

/-- A channel that its witness fed goes back to its own samples. -/
theorem after_glideOwn {n : Nat} (h : PowerKept r s) : PowerKept r (spliceMarks n (glide n (feedOwn n) s)) := by
  unfold spliceMarks glide glideFrom
  exact h.after_feedOwn.after_setPath.elsewhere.ite h.after_feedOwn.after_setPath

theorem after_withdrawOne {sp : Nat} (h : PowerKept r s) : PowerKept r (withdrawOne sp s) := by
  unfold withdrawOne
  extract_lets x s1 s2 _
  have h1 : PowerKept r s1 := by
    unfold s1
    split
    · exact h.after_noWitness.after_glideOwn.ite h.after_noWitness
    · exact h
  have h2 : PowerKept r s2 := by
    unfold s2
    split
    · exact h1.after_lostSpare
    · exact h1
  refine after_dropKept ?_
  split
  · exact h2.after_setSp
  next sl _ =>
    split
    · exact h2.after_setSp.after_dropSlot
    · exact h2.after_setSp.after_dropSlot
    all_goals exact h2.after_setSp

theorem after_withdrawSpares (h : PowerKept r s) : PowerKept r (withdrawSpares s) := by
  unfold withdrawSpares
  extract_lets s2 _ s3 s4 s5 s6
  have h2 : PowerKept r s2 := h.foldl _ fun _ _ hu => hu.after_withdrawOne
  have h3 : PowerKept r s3 := h2.elsewhere
  have h4 : PowerKept r s4 := h3.ite h3.after_trimTrigger
  have h5 : PowerKept r s5 := h4.foldl _ fun u n hu => by
    split
    · exact hu.elsewhere.ite hu
    · exact hu
  have h6 : PowerKept r s6 := h5.foldl _ fun _ _ hu => hu.after_fastClear
  exact h6.put.put.ite h6

theorem after_remountEnterRun (h : PowerKept r s) : PowerKept r (remountEnterRun s) := by
  unfold remountEnterRun
  exact (h.elsewhere.foldl _ fun _ _ hu => hu.after_feedOwn.after_noteFactory).after_serveForce.after_refinStart

/-! #### Lanes, links and display -/

theorem after_fltService (h : PowerKept r s) : PowerKept r (fltService s) := by
  unfold fltService
  extract_lets k s1
  have h1 : PowerKept r s1 := h.put.after_withdrawSpares.ite h
  exact (h1.put.foldl _ fun _ _ hu => hu.after_fastClear).ite h1

theorem after_hrmService (h : PowerKept r s) : PowerKept r (hrmService s) := by
  unfold hrmService State.setBit
  exact (h.put.put.after_raise.foldl _ fun _ _ hu => hu.put.put.after_raise.ite hu.put).elsewhere.ite h.put

theorem after_queueTx {x : WayTx} (h : PowerKept r s) : PowerKept r (queueTx x s) := by
  unfold queueTx draw
  exact h.elsewhere

theorem after_wayStart (h : PowerKept r s) : PowerKept r (wayStart s) := by
  unfold wayStart queueDiscovery
  exact (h.put.put.foldl _ fun _ _ hu => hu.after_queueTx).ite h

theorem after_newTarget {t : Nat} (h : PowerKept r s) : PowerKept r (newTarget t s) := h.elsewhere.ite h.elsewhere

theorem after_displayStart (h : PowerKept r s) : PowerKept r (displayStart s) := by
  unfold displayStart showDsp
  refine ite ?_ h.elsewhere.put
  split
  · exact h.elsewhere.put.put.after_newTarget
  · exact h.elsewhere.put

theorem after_seek (h : PowerKept r s) : PowerKept r (seek s) := h.put.elsewhere

theorem after_cvnTrain (h : PowerKept r s) : PowerKept r (cvnTrain s) := by
  unfold cvnTrain leaveRing syncLost
  exact ((h.put.put.after_raise.ite h).put.elsewhere.put.foldl _ fun _ _ hu => hu.put).ite h

theorem after_seekLinks (h : PowerKept r s) : PowerKept r (seekLinks s) := by
  unfold seekLinks
  have h1 : PowerKept r (if s.bit F.TWN_CFG_EN && tst s == 0 then seek s else s) := h.after_seek.ite h
  exact (h1.after_cvnTrain.ite h1).ite h

theorem after_sessResume (h : PowerKept r s) : PowerKept r (sessResume s) := by
  unfold sessResume setSess
  split
  · exact h.elsewhere.ite h
  · exact h

end PowerKept
end Sys2Proof.Machine
end

section
/-! What an operation shows: the registers it writes, and events. Posting an interval shows in the results, status and qualities of
meters (R129 to R132). -/

namespace Sys2Proof.Machine

/-! ### Writes by the number of a field -/

/-- Going from s to t, no field is written but those with these numbers. -/
def WritesOnly (l : List Fld) (s t : State) : Prop := ∀ f i, (∀ g ∈ l, g.id ≠ f.id) → t.fld f i = s.fld f i

namespace WritesOnly

variable {l : List Fld} {r s t : State}

theorem refl (l : List Fld) (s : State) : WritesOnly l s s := fun _ _ _ => rfl

theorem trans (hrs : WritesOnly l r s) (hst : WritesOnly l s t) : WritesOnly l r t :=
  fun f i hf => (hst f i hf).trans (hrs f i hf)

theorem mono {k : List Fld} (h : WritesOnly l s t) (hlk : l ⊆ k) : WritesOnly k s t :=
  fun f i hf => h f i fun g hg => hf g (hlk hg)

/-- A field of another number, read after the writes. -/
theorem fld (h : WritesOnly l s t) {f : Fld} (i : Nat) (hf : (l.all fun g => g.id != f.id) = true := by decide) :
    t.fld f i = s.fld f i := h f i fun g hg => by simpa using List.all_eq_true.1 hf g hg

theorem bit (h : WritesOnly l s t) {f : Fld} (i : Nat) (hf : (l.all fun g => g.id != f.id) = true := by decide) :
    t.bit f i = s.bit f i := congrArg (· != 0) (h.fld i hf)

theorem of_put {g : Fld} (s : State) (i v : Nat) (hg : g ∈ l) : WritesOnly l s (s.put g i v) :=
  fun f j hf => put_fld_field s g f i j v (hf g hg)

end WritesOnly

/-! ### What an operation shows -/

/-- Going from s to t, fields with these numbers may be written and records of the ledger added, and nothing else is changed. -/
def Shows (l : List Fld) (s t : State) : Prop := t = { s with flds := t.flds, ldg := t.ldg } ∧ WritesOnly l s t

/-- The fields that raising an event may change. -/
def evtNums : List Fld := [F.EVT_PEND_PEND, F.LDG_CNT_DROPPED, F.LDG_ST_DROPL, F.LDG_CNT_SUPPR, F.LDG_ST_SUPPL]

theorem evtFlds_fst : ∀ p ∈ evtFlds, p.1 ∈ evtNums := by decide

theorem recordEvt_eq (s : State) (e : Nat) (x : LdgRec) :
    recordEvt s e x = { s with flds := (recordEvt s e x).flds, ldg := (recordEvt s e x).ldg } := by
  unfold recordEvt
  dsimp only
  split <;> rfl

theorem raise_eq (e d : Nat) (s : State) : raise e d s = { s with flds := (raise e d s).flds, ldg := (raise e d s).ldg } := by
  unfold raise
  split
  · rfl
  · extract_lets s1
    have h1 : s1 = { s with flds := s1.flds, ldg := s1.ldg } := by
      unfold s1
      split <;> rfl
    split
    · rw [recordEvt_eq, h1]
    · exact h1

namespace Shows

variable {l : List Fld} {r s t : State}

theorem refl (l : List Fld) (s : State) : Shows l s s := ⟨rfl, .refl l s⟩

theorem trans (hrs : Shows l r s) (hst : Shows l s t) : Shows l r t := by
  obtain ⟨hs, hrs⟩ := hrs
  obtain ⟨ht, hst⟩ := hst
  exact ⟨by rw [ht, hs], hrs.trans hst⟩

theorem mono {k : List Fld} (h : Shows l s t) (hlk : l ⊆ k) : Shows k s t := ⟨h.1, h.2.mono hlk⟩

theorem only (h : Shows l s t) : WritesOnly l s t := h.2

theorem pwr (h : Shows l s t) : t.pwr = s.pwr := (congrArg State.pwr h.1 :)

theorem mtr (h : Shows l s t) : t.mtr = s.mtr := (congrArg State.mtr h.1 :)

theorem pls (h : Shows l s t) : t.pls = s.pls := (congrArg State.pls h.1 :)

theorem twn (h : Shows l s t) : t.twn = s.twn := (congrArg State.twn h.1 :)

theorem put {g : Fld} {i v : Nat} (h : Shows l r s) (hg : g ∈ l := by decide) : Shows l r (s.put g i v) :=
  h.trans ⟨rfl, .of_put s i v hg⟩

theorem ite {c : Prop} [Decidable c] (hs : Shows l r s) (ht : Shows l r t) : Shows l r (if c then s else t) := by
  split
  · exact hs
  · exact ht

theorem foldl {α : Type} {g : State → α → State} (h : Shows l r s) (as : List α) (hg : ∀ u a, Shows l r u → Shows l r (g u a)) :
    Shows l r (as.foldl g s) := List.foldlRecOn as g h fun u hu a _ => hg u a hu

theorem after_raise {e d : Nat} (h : Shows l r s) (he : e < 128 := by decide) (hl : evtNums ⊆ l := by decide) :
    Shows l r (raise e d s) := by
  refine h.trans ⟨raise_eq e d s, fun f i hf => raise_spares e d s he f i fun p hp => fkey_ne _ _ _ _ ?_⟩
  exact hf p.1 (hl (evtFlds_fst p hp))

theorem after_raiseIf {b : Bool} {e d : Nat} (h : Shows l r s) (he : e < 128 := by decide) (hl : evtNums ⊆ l := by decide) :
    Shows l r (raiseIf b e d s) := (h.after_raise he hl).ite h

theorem after_flagLatch {f g : Fld} {m : Nat} {b : Bool} (h : Shows l r s) (hf : f ∈ l := by decide) (hg : g ∈ l := by decide) :
    Shows l r (flagLatch f g m b s) := by
  unfold flagLatch State.setBit
  exact ((h.put hf).put hg).ite (h.put hf)

end Shows

/-! ### The results and the status of a meter -/

/-- The fields that posting the results and the status of an interval may change. -/
def statusFlds : List Fld := evtNums ++ R.MTR_ST.fields ++ [F.MTR_RES_RES]

/-- The fields that registering increments may change. -/
def qualFlds : List Fld := evtNums ++ [F.MTR_ST_QNOW, F.ACC_QUAL_QNOW, F.ACC_QUAL_QWORST]

theorem postResults_shows (m : Nat) (p : MtrPost) (s : State) : Shows [F.MTR_RES_RES] s (postResults m p s) :=
  (Shows.refl _ s).foldl _ fun _ _ hu => hu.ite hu.put

theorem postStatus_shows (m : Nat) (c : MtrCfg) (p : MtrPost) (s : State) : Shows statusFlds s (postStatus m c p s) := by
  unfold postStatus State.setBit
  extract_lets s1 s2 s3 s4
  have h1 : Shows statusFlds s s1 := (Shows.refl _ s).put.put.put.put
  have h3 : Shows statusFlds s s3 := h1.after_flagLatch.after_flagLatch.put.put
  have h4 : Shows statusFlds s s4 := h3.after_flagLatch.after_raiseIf
  split
  · exact h4
  · exact h4.after_flagLatch.after_raiseIf.foldl _ fun _ _ hu => hu.put

/-- The fields that the status writes after ACTIVE. -/
def laterStatusFlds : List Fld := evtNums ++ (R.MTR_ST.fields.filter (· ≠ F.MTR_ST_ACTIVE)) ++ [F.MTR_RES_RES]

/-- ACTIVE says whether the meter is enabled by the settings in force. -/
theorem postStatus_active (m : Nat) (c : MtrCfg) (p : MtrPost) (s : State) :
    (postStatus m c p s).bit F.MTR_ST_ACTIVE m = (mtrCfg s m).isSome := by
  have hact : ∀ u : State, (u.setBit F.MTR_ST_ACTIVE m (mtrCfg s m).isSome).bit F.MTR_ST_ACTIVE m = (mtrCfg s m).isSome :=
    fun u => setBit_bit_same u _ m _ rfl
  unfold postStatus
  extract_lets s1 s2 s3 s4
  have h2 : Shows laterStatusFlds s1 s2 := (Shows.refl _ s1).after_flagLatch.after_flagLatch
  have h4 : Shows laterStatusFlds s1 s4 := h2.put.put.after_flagLatch.after_raiseIf
  split
  · exact (h4.only.bit m).trans (hact _)
  · exact ((h4.after_flagLatch.after_raiseIf.foldl _ fun _ _ hu => hu.put).only.bit m).trans (hact _)

end Sys2Proof.Machine
end

section
/-! Intervals of the meters, from their end to their posting, as the final checkpoint finds them: all of them are closed and posted
first (R126, R129, R136). -/

namespace Sys2Proof.Machine

/-! ### Accumulators (R129, R130) -/

/-- An accumulator, with its deficit and the positive correction that waits for it. -/
def accAt (st : MtrSt) (a : Nat) : Nat × Nat × Nat := (mget 0 st.acc a, mget 0 st.deficit a, mget 0 st.plus a)

/-- What an increment makes of them: the deficit is spent first. -/
def bumped (x : Nat × Nat × Nat) (inc : Nat) : Nat × Nat × Nat :=
  let total := inc + x.2.2
  ((x.1 + (total - min x.2.1 total)) % 2 ^ 96, x.2.1 - min x.2.1 total, 0)

/-- The increments of a posting reach the accumulators of a meter. -/
@[irreducible] def bumpAccs (m : Nat) (inc : List (List Nat)) (st : MtrSt) : MtrSt :=
  (List.range 64).foldl (fun st j => bumpAcc st (64 * m + j) (incAt inc j)) st

theorem bumpAcc_eq (st : MtrSt) (a inc : Nat) : bumpAcc st a inc =
    { st with acc := (bumpAcc st a inc).acc, deficit := (bumpAcc st a inc).deficit, plus := (bumpAcc st a inc).plus } := rfl

theorem accAt_bumpAcc_same (st : MtrSt) (a inc : Nat) : accAt (bumpAcc st a inc) a = bumped (accAt st a) inc := by
  simp [accAt, bumped, bumpAcc, spendAcc]

theorem accAt_bumpAcc_other (st : MtrSt) {a b : Nat} (inc : Nat) (hab : b ≠ a) : accAt (bumpAcc st a inc) b = accAt st b := by
  simp only [accAt, bumpAcc, spendAcc, mget_mput_other _ _ _ _ _ _ hab]

/-- The first n quantities of a meter take their increments, and no other accumulator is touched. -/
theorem accAt_foldl_bumpAcc (m : Nat) (inc : List (List Nat)) (st : MtrSt) (n a : Nat) :
    accAt ((List.range n).foldl (fun st j => bumpAcc st (64 * m + j) (incAt inc j)) st) a =
      if 64 * m ≤ a ∧ a < 64 * m + n then bumped (accAt st a) (incAt inc (a - 64 * m)) else accAt st a := by
  induction n with
  | zero => rw [if_neg (by omega)]; rfl
  | succ n ih =>
    rw [List.range_succ, List.foldl_append, List.foldl_cons, List.foldl_nil]
    by_cases ha : a = 64 * m + n
    · subst ha
      rw [accAt_bumpAcc_same, ih, if_neg (by omega), if_pos (by omega), Nat.add_sub_cancel_left]
    · rw [accAt_bumpAcc_other _ _ ha, ih]
      exact if_congr (by omega) rfl rfl

theorem accAt_bumpAccs_same (m : Nat) (inc : List (List Nat)) (st : MtrSt) {j : Nat} (hj : j < 64) :
    accAt (bumpAccs m inc st) (64 * m + j) = bumped (accAt st (64 * m + j)) (incAt inc j) := by
  unfold bumpAccs
  rw [accAt_foldl_bumpAcc, if_pos (by omega), Nat.add_sub_cancel_left]

theorem accAt_bumpAccs_other (m : Nat) (inc : List (List Nat)) (st : MtrSt) {a : Nat} (ha : a / 64 ≠ m) :
    accAt (bumpAccs m inc st) a = accAt st a := by
  unfold bumpAccs
  rw [accAt_foldl_bumpAcc, if_neg (by omega)]

/-- Accumulators, deficits and corrections that wait are all that increments change. -/
theorem bumpAccs_eq (m : Nat) (inc : List (List Nat)) (st : MtrSt) : bumpAccs m inc st =
    { st with acc := (bumpAccs m inc st).acc, deficit := (bumpAccs m inc st).deficit, plus := (bumpAccs m inc st).plus } := by
  unfold bumpAccs
  refine List.foldlRecOn (motive := fun x : MtrSt => x = { st with acc := x.acc, deficit := x.deficit, plus := x.plus }) _ _ rfl
    fun x hx j _ => ?_
  rw [bumpAcc_eq, hx]

/-! ### Posting -/

/-- The feed of the pulse outputs changes them alone. -/
theorem pulseFeed_eq (m : Nat) (inc : List (List Nat)) (dur : Rat) (s : State) :
    pulseFeed m inc dur s = { s with pls := (pulseFeed m inc dur s).pls } := by
  refine List.foldlRecOn (motive := fun x : State => x = { s with pls := x.pls }) _ _ rfl fun x hx c _ => ?_
  dsimp only
  split
  · rw [setOut, hx]
  · exact hx

/-- The qualities of a meter's accumulators are set. -/
theorem setQuals_shows (m : Nat) (q : Nat → Nat) (s : State) :
    Shows qualFlds s ((List.range 64).foldl (fun s j => setQual (64 * m + j) (q j) s) s) :=
  (Shows.refl _ s).foldl _ fun _ _ hu => hu.put.put

theorem postWorst_shows (m : Nat) (s : State) : Shows qualFlds s (postWorst m s) :=
  (Shows.refl _ s).put.after_raiseIf

/-- The increments reach the accumulators, the qualities show in registers, and the corrections that they show are done. -/
theorem postIncs_eq (m : Nat) (inc : List (List Nat)) (dur : Rat) (unver subst covered : Bool) (s : State) : ∃ u corr pls, Shows qualFlds { s with mtr := bumpAccs m inc s.mtr } u ∧
    postIncs m inc dur unver subst covered s = { u with mtr := { u.mtr with corr := corr }, pls := pls } := by
  unfold postIncs bumpAccs
  extract_lets s1 s2
  exact ⟨s2, _, _, setQuals_shows m _ s1, pulseFeed_eq m inc dur _⟩

/-- The increments that a posting registers: the twin's, where its item stands for them. -/
def postedIncs (p : MtrPost) (twin : Option MeterItem) : List (List Nat) :=
  match twin with
  | some x => itemSets x
  | none => p.inc

section Register

variable (m : Nat) (p : MtrPost) (twin : Option MeterItem) (s : State)

/-- What a posting changes where it is registered: accumulators, the corrections done, qualities, and the time of the latest one. -/
theorem register_spec : (register m p twin s).pwr = s.pwr ∧ WritesOnly qualFlds s (register m p twin s) ∧
    (∀ a, accAt (register m p twin s).mtr a = accAt (bumpAccs m (postedIncs p twin) s.mtr) a) ∧
    (register m p twin s).mtr.due = s.mtr.due ∧ (register m p twin s).mtr.wait = s.mtr.wait := by
  unfold register
  extract_lets c inc unver s2 s3
  have hworst : Shows qualFlds s2 s3 := postWorst_shows m s2
  obtain ⟨u, corr, pls, hu, hs2⟩ := postIncs_eq m inc p.dur unver (p.subst || twin.isSome) (meterCovered s c p.startT p.endT) s
  change s2 = _ at hs2
  clear_value s3 s2
  have hmtr : s3.mtr = { bumpAccs m inc s.mtr with corr := corr } := by
    rw [hworst.mtr, hs2, hu.mtr]
  refine ⟨hworst.pwr.trans ?_, fun f i hf => (hworst.only f i hf).trans ?_, fun a => ?_, ?_, ?_⟩
  · rw [hs2]
    exact hu.pwr
  · rw [hs2]
    exact hu.only f i hf
  · show accAt s3.mtr a = _
    rw [hmtr]
    rfl
  · show s3.mtr.due = _
    rw [hmtr, bumpAccs_eq]
  · show s3.mtr.wait = _
    rw [hmtr, bumpAccs_eq]

/-- What a registered posting makes of an accumulator of its meter. -/
theorem register_accAt_same {j : Nat} (hj : j < 64) :
    accAt (register m p twin s).mtr (64 * m + j) = bumped (accAt s.mtr (64 * m + j)) (incAt (postedIncs p twin) j) := by
  obtain ⟨-, -, hacc, -⟩ := register_spec m p twin s
  rw [hacc]
  exact accAt_bumpAccs_same m _ s.mtr hj

theorem register_accAt_other {a : Nat} (ha : a / 64 ≠ m) : accAt (register m p twin s).mtr a = accAt s.mtr a := by
  obtain ⟨-, -, hacc, -⟩ := register_spec m p twin s
  rw [hacc]
  exact accAt_bumpAccs_other m _ s.mtr ha

end Register
end Sys2Proof.Machine
end

section
/-! The frame of the intervals' end: peaks, the samples lent to the twin, and the closing of every interval before the final
checkpoint (R126, R136, R241). -/

namespace Sys2Proof.Machine

/-! ### The end of an interval -/

/-- The largest magnitudes of an interval show in registers alone. -/
theorem notePeaks_shows (iv : Interval) (s : State) : Shows [F.INP_PEAK_PEAK, F.FLT_ST_SATL] s (notePeaks iv s) := by
  unfold notePeaks raisePeak
  exact ((Shows.refl _ s).foldl _ fun _ _ hu => hu.put.ite hu).foldl _ fun _ _ hu => hu.put

/-- Going from s to t, messages to the twin were sent, and nothing else is changed. -/
def Sends (s t : State) : Prop := t = { s with twn := { s.twn with mseq := t.twn.mseq, msgs := t.twn.msgs }, cvn := t.cvn }

namespace Sends

variable {r s t : State}

theorem refl (s : State) : Sends s s := rfl

theorem trans (hrs : Sends r s) (hst : Sends s t) : Sends r t := by
  unfold Sends at *
  rw [hst, hrs]

theorem foldl {α : Type} {g : State → α → State} (h : Sends r s) (as : List α) (hg : ∀ u a, Sends u (g u a)) :
    Sends r (as.foldl g s) := List.foldlRecOn as g h fun u hu a _ => hu.trans (hg u a)

theorem pwr (h : Sends s t) : t.pwr = s.pwr := (congrArg State.pwr h :)

theorem mtr (h : Sends s t) : t.mtr = s.mtr := (congrArg State.mtr h :)

theorem ldg (h : Sends s t) : t.ldg = s.ldg := (congrArg State.ldg h :)

theorem pls (h : Sends s t) : t.pls = s.pls := (congrArg State.pls h :)

theorem flds (h : Sends s t) : t.flds = s.flds := (congrArg State.flds h :)

theorem adopts (h : Sends s t) : t.twn.adopts = s.twn.adopts := (congrArg (fun u => u.twn.adopts) h :)

end Sends

theorem sendAdopted_sends (x : ChanRun) (s : State) : Sends s (sendAdopted x s) := by
  unfold sendAdopted tetherSend sendSegments
  extract_lets q _ s1
  have h1 : Sends s s1 := rfl
  exact h1.foldl _ fun _ _ => by exact rfl

theorem lendSamples_sends (c : MtrCfg) (iv : Interval) (s : State) : Sends s (lendSamples c iv s) :=
  (Sends.refl s).foldl _ fun u _ => sendAdopted_sends _ u

/-! ### Closing every interval -/

/-- The fields that closing and posting intervals may change. -/
def meterFlds : List Fld := statusFlds ++ qualFlds ++ [F.INP_PEAK_PEAK, F.FLT_ST_SATL]

/-- Going from r to s, intervals may have been closed and posted: the power state and the fields of other units are kept. -/
def MetersClose (r s : State) : Prop := s.pwr = r.pwr ∧ WritesOnly meterFlds r s

namespace MetersClose

variable {r s : State}

theorem refl (s : State) : MetersClose s s := ⟨rfl, .refl _ s⟩

theorem ite {t : State} {c : Prop} [Decidable c] (hs : MetersClose r s) (ht : MetersClose r t) :
    MetersClose r (if c then s else t) := by
  split
  · exact hs
  · exact ht

theorem foldl {α : Type} {g : State → α → State} (h : MetersClose r s) (as : List α)
    (hg : ∀ u a, MetersClose r u → MetersClose r (g u a)) : MetersClose r (as.foldl g s) :=
  List.foldlRecOn as g h fun u hu a _ => hg u a hu

/-- A change of what units remember. -/
theorem elsewhere {pending : List Instr} {clk : ClockSt} {ctl : CtlRun} {host : HostSt} {ldg : LdgSt} {evt : EvtSt} {inp : InpSt}
    {rmt : RmtSt} {flt : FltSt} {flts : FltsSt} {cal : CalSt} {twn : TwnSt} {mtr : MtrSt} {itn : ItnSt} {grd : GrdSt} {hrm : HrmSt}
    {dst : DstSt} {pls : PlsSt} {way : WaySt} {rng : Nat} {sbx : SbxSt} {cvn : CvnSt} {sar : SarSt} {dsp : DspSt} {prt : PrtSt}
    (h : MetersClose r s) : MetersClose r ⟨pending, s.flds, clk, ctl, host, s.pwr, ldg, evt, inp, rmt, flt, flts, cal, twn, mtr,
      itn, grd, hrm, dst, pls, way, rng, sbx, cvn, sar, dsp, prt⟩ := h

/-- A further operation that keeps the power state, and whose writes are those of a meter. -/
theorem step {t : State} {l : List Fld} (h : MetersClose r s) (hpwr : t.pwr = s.pwr) (hst : WritesOnly l s t)
    (hl : l ⊆ meterFlds := by decide) : MetersClose r t := by
  obtain ⟨hrpwr, hrs⟩ := h
  exact ⟨hpwr.trans hrpwr, hrs.trans (hst.mono hl)⟩

theorem after_shows {t : State} {l : List Fld} (h : MetersClose r s) (hst : Shows l s t) (hl : l ⊆ meterFlds := by decide) :
    MetersClose r t := h.step hst.pwr hst.only hl

theorem after_register {m : Nat} {p : MtrPost} {twin : Option MeterItem} (h : MetersClose r s) :
    MetersClose r (register m p twin s) := by
  obtain ⟨hpwr, honly, -⟩ := register_spec m p twin s
  exact h.step hpwr honly

theorem after_postOne {m : Nat} {p : MtrPost} (h : MetersClose r s) : MetersClose r (postOne m p s) := by
  unfold postOne
  extract_lets s1
  have h1 : MetersClose r s1 := (h.after_shows (postResults_shows m p s)).after_shows (postStatus_shows m p.cfg p _)
  refine ite ?_ h1.after_register
  split
  · exact h1.after_register
  · exact h1.elsewhere

theorem after_postNext {m : Nat} (h : MetersClose r s) : MetersClose r (postNext m s) := by
  unfold postNext
  split
  · exact after_postOne h.elsewhere
  · exact h

theorem after_postDue {m : Nat} (h : MetersClose r s) : MetersClose r (postDue m s) := h.foldl _ fun _ _ hu => hu.after_postNext

theorem after_computeInterval {m : Nat} {c : MtrCfg} {iv : Interval} (h : MetersClose r s) :
    MetersClose r (computeInterval m c iv s) := by
  unfold computeInterval storeRuns
  exact h.elsewhere

theorem after_computeHeld {m : Nat} (h : MetersClose r s) : MetersClose r (computeHeld m s) := by
  unfold computeHeld
  split
  next x _ =>
    have h1 : MetersClose r { s with twn := { s.twn with adopts := heldAdopts x s.twn.adopts } } := h.elsewhere
    exact h1.after_computeInterval.elsewhere
  next => exact h

theorem after_forceHeld {m : Nat} (h : MetersClose r s) : MetersClose r (forceHeld m s) := by
  unfold forceHeld
  split
  · exact h
  · exact after_computeHeld h.elsewhere

theorem after_postAll (h : MetersClose r s) : MetersClose r (postAll s) := by
  unfold postAll registerOwn
  have h1 := h.foldl (List.range 48) (g := fun s m => postDue m (forceHeld m s)) fun _ _ hu => hu.after_forceHeld.after_postDue
  exact h1.elsewhere.foldl _ fun _ _ hu => hu.after_register

theorem after_lendSamples {c : MtrCfg} {iv : Interval} (h : MetersClose r s) : MetersClose r (lendSamples c iv s) := by
  have hsend := lendSamples_sends c iv s
  exact h.step (l := []) hsend.pwr fun f i _ => congrArg (fget · f i) hsend.flds

theorem after_intervalEnd {m : Nat} {iv : Interval} (h : MetersClose r s) : MetersClose r (intervalEnd m iv s) := by
  unfold intervalEnd
  split
  · exact h
  next c _ =>
    refine ite ?_ h
    extract_lets _ s0 s1 ns s2
    have h0 : MetersClose r (reachTime iv.endT s0) := h.elsewhere
    have h1 : MetersClose r s1 := (h0.after_shows (notePeaks_shows iv _)).after_forceHeld.after_lendSamples
    exact h1.elsewhere.ite (h1.after_computeInterval.after_postDue.ite h1.after_computeInterval)

theorem after_closeIntervals {runs : List (Nat × List ChanRun)} (h : MetersClose r s) : MetersClose r (closeIntervals runs s) := by
  unfold closeIntervals
  refine after_postAll (h.foldl _ fun u m hu => ?_)
  split
  · exact hu
  · split
    · exact hu
    · exact hu.after_intervalEnd

end MetersClose
end Sys2Proof.Machine
end

section
/-! Requests of PWR_CTL, and the entry to RUN (R419 to R422). -/

namespace Sys2Proof.Machine

/-! ### The entry to RUN -/

/-- RUN is entered and its clocks run, before the units have taken their settings. -/
def clocksStarted (s : State) : State :=
  { s with clk := { s.clk with stopped := none }, pwr := { s.pwr with mstate := .run, ran := true, req := none } }

theorem enterRun_kept (s : State) : PowerKept (clocksStarted (takeRunPosted s)) (enterRun s) := by
  unfold enterRun
  extract_lets s1 _ _ s2 s3 s4
  have h2 : PowerKept (clocksStarted s1) s2 := .refl _
  have h3 : PowerKept (clocksStarted s1) s3 :=
    (h2.ite h2.after_takeGroups).after_dropFormer.after_takeStreams.after_resumeTraces.after_remountEnterRun
  exact h3.after_fltService.after_hrmService.after_wayStart.after_displayStart.after_seekLinks.after_sessResume

theorem enterRun_runs (s : State) : (enterRun s).pwr.mstate = .run ∧ (enterRun s).pwr.ran = true ∧
    (enterRun s).pwr.req = none ∧ (enterRun s).clk.stopped = none := by
  obtain ⟨hpwr, hclk⟩ := enterRun_kept s
  rw [hpwr, hclk]
  exact ⟨rfl, rfl, rfl, rfl⟩

/-! ### Requests -/

section Requests

variable {s : State}

/-- RUN is not refused in STANDBY where nothing bars it and no request is under way. -/
theorem pwrRun_standby (hst : s.pwr.mstate = .standby) (hbar : runBarred s = false) (hreq : s.pwr.req = none) : pwrRun s =
    if s.fld F.ITN_ST_LOAD = 2 then enterRun (if s.pwr.ran then restoreCkpt (s.put F.PWR_CTL_REJ 0 0) else s.put F.PWR_CTL_REJ 0 0)
    else { s.put F.PWR_CTL_REJ 0 0 with pwr := { s.pwr with req := some .run } } :=
  if_neg (by simp [hst, hbar, hreq])

/-- STBY is taken in RUN where no request is under way and neither an itinerary write nor a key message is in progress. -/
theorem pwrStby_run (hrun : s.pwr.mstate = .run) (hreq : s.pwr.req = none)
    (hitn : ((List.range 11).any fun r => rst s r == 5) = false) (hmsg : s.sbx.msg = none) : pwrStby s = takeRequest .stby s :=
  if_neg (by simp only [hrun, hreq, hitn, hmsg]; decide)

/-- The final checkpoint starts once every interval is closed; until then the power state and the fields of other units stand. -/
theorem startFinal_spec (runs : List (Nat × List ChanRun)) (s : State) :
    (startFinal runs s).pwr = { s.pwr with finalCk := true } ∧ WritesOnly meterFlds s (startFinal runs s) := by
  unfold startFinal
  extract_lets s1
  obtain ⟨hpwr, honly⟩ : MetersClose s s1 := (MetersClose.refl s).after_closeIntervals.ite (.refl s)
  exact ⟨congrArg (fun x : PwrSt => { x with finalCk := true }) hpwr, honly⟩

/-- A request that is taken on a device that is not paired. -/
theorem takeRequest_unpaired {r : PwrReq} (hpair : paired s = false) (hck : s.pwr.finalCk = false) : takeRequest r s =
    startFinal [] ({ s with pwr := { s.pwr with req := some r } }.put F.PWR_CTL_REJ 0 0) := by
  have hpair1 : paired ({ s with pwr := { s.pwr with req := some r } }.put F.PWR_CTL_REJ 0 0) = false := by
    rw [← hpair]
    exact congrArg (· == 6) (put_fld_field s F.PWR_CTL_REJ F.TWN_ST_STATE 0 0 0 (by decide))
  unfold takeRequest
  rw [if_neg (by simp [hpair1]), if_neg (by simp [hck])]

theorem pwrRst_pendingStby (hrun : s.pwr.mstate = .run) (hreq : s.pwr.req = some .stby) :
    pwrRst s = { s with pwr := { s.pwr with req := some .rst } }.put F.PWR_CTL_REJ 0 0 := by
  unfold pwrRst
  rw [hreq]
  exact if_neg (by simp [hrun])

end Requests

/-- A request of PWR_CTL is heard in a privileged session of a device that is on. -/
theorem host_request {s : State} (hon : mainOn s = true) (hpriv : privileged s = true) : (mainOn s && privileged s) = true := by
  rw [hon, hpriv]
  rfl

/-- Settles O17: each request's guards are met; the units that take their settings at the entry to RUN, and the meters that close
their intervals, leave the power state alone. -/
theorem runAndStandbyRequestsAreCarriedOut : Obligations.RunAndStandbyRequestsAreCarriedOut := by
  refine ⟨fun s hon hpriv hst hbar hreq hload => ?_, fun s hon hpriv hst hbar hreq hload => ?_,
    fun s hon hst hload hbar hwant => ?_, fun s hon hpriv hrun hreq hitn hmsg hpair hck => ?_,
    fun s hon hpriv hrun hreq => ?_⟩
  · refine ⟨_, congrArg Host.Outcome.next ((if_pos (host_request hon hpriv)).trans (pwrRun_standby hst hbar hreq)), ?_⟩
    rw [if_pos hload]
    exact enterRun_runs _
  · refine ⟨_, congrArg Host.Outcome.next ((if_pos (host_request hon hpriv)).trans (pwrRun_standby hst hbar hreq)), ?_⟩
    rw [if_neg hload]
    exact ⟨rfl, Writes_put s F.PWR_CTL_REJ 0 0 (by decide)⟩
  · refine ⟨enterRun s, congrArg Host.Outcome.next (if_pos ?_), enterRun_runs s⟩
    rcases hwant with hreq | ⟨hauto, hran⟩
    · simp [hon, hst, hload, hbar, hreq]
    · simp [hon, hst, hload, hbar, hauto, hran]
  · obtain ⟨hpwr, honly⟩ := startFinal_spec [] ({ s with pwr := { s.pwr with req := some .stby } }.put F.PWR_CTL_REJ 0 0)
    refine ⟨_, congrArg Host.Outcome.next ((if_pos (host_request hon hpriv)).trans
      ((pwrStby_run hrun hreq hitn hmsg).trans (takeRequest_unpaired hpair hck))), ?_, ?_, ?_, ?_⟩
    · rw [hpwr]
      rfl
    · rw [hpwr]
    · rw [hpwr]
      exact hrun
    · exact (honly.fld 0).trans (put_fld_same _ _ _ _)
  · exact ⟨_, congrArg Host.Outcome.next ((if_pos (host_request hon hpriv)).trans (pwrRst_pendingStby hrun hreq)), rfl,
      Writes_put _ F.PWR_CTL_REJ 0 0 (by decide)⟩

end Sys2Proof.Machine
end

section
/-! Power-fail, the final checkpoint, and recovery (R415 to R417, R420). -/

namespace Sys2Proof.Machine

/-! ### The display goes dark, and is refreshed -/

/-- The fields that the display's start, its end and its refresh may change. -/
def dspFlds : List Fld := R.DSP_ST.fields ++ [F.DSP_SHD_SHD]

/-- Going from s to t, the display and the fields in which it shows may have changed. -/
def DisplayMoves (s t : State) : Prop := t = { s with flds := t.flds, dsp := t.dsp } ∧ WritesOnly dspFlds s t

namespace DisplayMoves

variable {r s t : State}

theorem refl (s : State) : DisplayMoves s s := ⟨rfl, .refl _ s⟩

theorem trans (hrs : DisplayMoves r s) (hst : DisplayMoves s t) : DisplayMoves r t := by
  obtain ⟨hs, hrs⟩ := hrs
  obtain ⟨ht, hst⟩ := hst
  exact ⟨by rw [ht, hs], hrs.trans hst⟩

theorem ite {c : Prop} [Decidable c] (hs : DisplayMoves r s) (ht : DisplayMoves r t) : DisplayMoves r (if c then s else t) := by
  split
  · exact hs
  · exact ht

theorem foldl {α : Type} {g : State → α → State} (h : DisplayMoves r s) (as : List α)
    (hg : ∀ u a, DisplayMoves r u → DisplayMoves r (g u a)) : DisplayMoves r (as.foldl g s) :=
  List.foldlRecOn as g h fun u hu a _ => hg u a hu

theorem put {g : Fld} {i v : Nat} (h : DisplayMoves r s) (hg : g ∈ dspFlds := by decide) : DisplayMoves r (s.put g i v) :=
  h.trans ⟨rfl, .of_put s i v hg⟩

theorem withDsp (h : DisplayMoves r s) (x : DspSt) : DisplayMoves r { s with dsp := x } :=
  h.trans ⟨rfl, .refl _ s⟩

theorem pwr (h : DisplayMoves s t) : t.pwr = s.pwr := (congrArg State.pwr h.1 :)

theorem mtr (h : DisplayMoves s t) : t.mtr = s.mtr := (congrArg State.mtr h.1 :)

theorem host (h : DisplayMoves s t) : t.host = s.host := (congrArg State.host h.1 :)

theorem only (h : DisplayMoves s t) : WritesOnly dspFlds s t := h.2

end DisplayMoves

theorem displayOff_moves (s : State) : DisplayMoves s (displayOff s) := by
  unfold displayOff showDsp
  exact ((DisplayMoves.refl s).withDsp _).put.ite ((DisplayMoves.refl s).withDsp _).put.put

theorem displayStart_moves (s : State) : DisplayMoves s (displayStart s) := by
  unfold displayStart showDsp showPage newTarget
  extract_lets _ s1
  have h1 : DisplayMoves s s1 := ((DisplayMoves.refl s).withDsp _).put
  refine DisplayMoves.ite ?_ h1
  split
  · exact (h1.put.withDsp _).put.ite (h1.put.withDsp _)
  · exact h1

theorem beginUpdate_moves (image driven : Nat) (why : DspWhy) (s : State) : DisplayMoves s (beginUpdate image driven why s) := by
  unfold beginUpdate showDsp
  extract_lets b s1 u s2
  have h1 : DisplayMoves s s1 := (DisplayMoves.refl s).foldl _ fun _ _ hu => hu.put
  exact (h1.withDsp _).put.put.put

theorem displayResume_moves (s : State) : DisplayMoves s (displayResume s) := by
  unfold displayResume refreshAll
  have h1 := (DisplayMoves.refl s).withDsp { s.dsp with hold := false }
  exact ((h1.trans (beginUpdate_moves _ _ _ _)).ite h1.put).ite (displayStart_moves s)

/-! ### The report -/

/-- The report is counted, and its record waits behind the checkpoint. -/
def powerFailNoted (s : State) : State :=
  let s1 := ((s.put F.PWR_ST_PFAIL 0 1).put F.PWR_ST_PFL 0 1).inc F.PWR_CNT_PFAILS
  raise 109 2 { s1 with pwr := { s1.pwr with pfT := s1.clk.now, recover := false } }

theorem powerFail_eq (runs : List (Nat × List ChanRun)) (s : State) : powerFail runs s =
    if running (powerFailNoted s) then displayOff (startFinal runs ((powerFailNoted s).put F.PWR_PF_TCKPT 0 0xFFFF))
    else powerFailNoted s := rfl

theorem powerFailNoted_pwr (s : State) : (powerFailNoted s).pwr = { s.pwr with pfT := s.clk.now, recover := false } :=
  raise_pwr _ _ _

/-- The fields that a power-fail writes besides PFAIL, PFL and PFAILS. -/
def saveFlds : List Fld := F.PWR_PF_TCKPT :: (meterFlds ++ dspFlds)

/-- PFAIL, PFL and PFAILS are written by the report, and by nothing that follows from it. -/
theorem powerFailNoted_writes (s : State) {t : State} (ht : WritesOnly saveFlds (powerFailNoted s) t) :
    t.fld F.PWR_ST_PFAIL = 1 ∧ t.fld F.PWR_ST_PFL = 1 ∧ t.fld F.PWR_CNT_PFAILS = min 65535 (s.fld F.PWR_CNT_PFAILS + 1) := by
  have hw : Writes [(F.PWR_ST_PFAIL, 0, 1), (F.PWR_ST_PFL, 0, 1), (F.PWR_CNT_PFAILS, 0, min 65535 (s.fld F.PWR_CNT_PFAILS + 1))] s
      (((s.put F.PWR_ST_PFAIL 0 1).put F.PWR_ST_PFL 0 1).inc F.PWR_CNT_PFAILS) :=
    Writes_snoc_inc (Writes_snoc (Writes_put s F.PWR_ST_PFAIL 0 1 (by decide)) (by decide)) F.PWR_CNT_PFAILS 0
  have hraise : ∀ u : State, WritesOnly saveFlds u (raise 109 2 u) := fun u => ((Shows.refl _ u).after_raise).only
  have hall := (hraise _).trans ht
  exact ⟨(hall.fld 0).trans (Writes_fld hw (by simp)), (hall.fld 0).trans (Writes_fld hw (by simp)),
    (hall.fld 0).trans (Writes_fld hw (by simp))⟩

theorem powerFail_spec (runs : List (Nat × List ChanRun)) (s : State) :
    WritesOnly saveFlds (powerFailNoted s) (powerFail runs s) ∧ (powerFail runs s).pwr.mstate = s.pwr.mstate ∧
      (running s = true → (powerFail runs s).pwr.finalCk = true) := by
  have hpwr := powerFailNoted_pwr s
  have hrun : running (powerFailNoted s) = running s := by
    unfold running
    rw [hpwr]
  rw [powerFail_eq, hrun]
  split
  next hr =>
    obtain ⟨hck, honly⟩ := startFinal_spec runs ((powerFailNoted s).put F.PWR_PF_TCKPT 0 0xFFFF)
    have hoff := displayOff_moves (startFinal runs ((powerFailNoted s).put F.PWR_PF_TCKPT 0 0xFFFF))
    rw [hoff.pwr, hck, put_pwr, hpwr]
    exact ⟨((WritesOnly.of_put _ _ _ (by decide)).trans (honly.mono (by decide))).trans (hoff.only.mono (by decide)), rfl,
      fun _ => rfl⟩
  next hr =>
    rw [hpwr]
    exact ⟨.refl _ _, rfl, fun h => absurd h hr⟩

/-! ### The final checkpoint is complete -/

/-- The final checkpoint is saved, and what a request or a recovery makes of that is still to come. -/
def finalSaved (s : State) : State :=
  let ok := (unfenced s s.mtr.nextSeq).isSome
  let s1 := writeCkpt true s
  let s2 := { s1 with pwr := { s1.pwr with finalCk := false, session := s1.pwr.session && !ok } }
  if s2.bit F.PWR_ST_PFAIL then failSaved ok s2 else s2

theorem writeCkpt_pwr (final : Bool) (s : State) : (writeCkpt final s).pwr = s.pwr := by
  unfold writeCkpt
  split <;> rfl

theorem finalSaved_pwr (s : State) : (finalSaved s).pwr =
    { s.pwr with finalCk := false, session := s.pwr.session && !(unfenced s s.mtr.nextSeq).isSome } := by
  rw [← writeCkpt_pwr true s]
  unfold finalSaved
  extract_lets ok s1 _ s2
  split <;> rfl

theorem finalDone_none {s : State} (hreq : s.pwr.req = none) : finalDone s = resumeIf (finalSaved s) := by
  have hsaved : (finalSaved s).pwr.req = none := by rw [finalSaved_pwr, hreq]
  unfold finalDone
  extract_lets ok s1 _ s2 s3
  rw [show s3.pwr.req = _ from hsaved]
  rfl

theorem finalDone_stby {s : State} (hreq : s.pwr.req = some .stby) : finalDone s = enterStandby (finalSaved s) := by
  have hsaved : (finalSaved s).pwr.req = some .stby := by rw [finalSaved_pwr, hreq]
  unfold finalDone
  extract_lets ok s1 _ s2 s3
  rw [show s3.pwr.req = _ from hsaved]
  rfl

theorem resumeIf_of_not_recover {s : State} (h : s.pwr.recover = false) : resumeIf s = s := if_neg (by simp [h])

theorem enterStandby_stands (s : State) : (enterStandby s).pwr.mstate = .standby ∧
    (enterStandby s).bit F.PWR_ST_STBYL = true ∧ (enterStandby s).pwr.metering = false ∧ (enterStandby s).pwr.req = none :=
  ⟨rfl, bit_of_fld_one (put_fld_same _ F.PWR_ST_STBYL 0 1), rfl, rfl⟩

/-! ### Recovery -/

theorem powerResume_spec (s : State) : (powerResume s).bit F.PWR_ST_PFAIL = false ∧ (powerResume s).bit F.PWR_ST_RECL = true ∧
    (powerResume s).pwr.session = (s.pwr.session || s.pwr.metering) ∧ (powerResume s).pwr.recover = false ∧
    (powerResume s).mtr = s.mtr ∧ (powerResume s).host = s.host := by
  have hw : Writes [(F.PWR_ST_PFAIL, 0, 0), (F.PWR_ST_RECL, 0, 1)] s ((s.put F.PWR_ST_PFAIL 0 0).put F.PWR_ST_RECL 0 1) :=
    Writes_snoc (Writes_put s F.PWR_ST_PFAIL 0 0 (by decide)) (by decide)
  unfold powerResume
  extract_lets s1 _ _ s2
  have hmoves : DisplayMoves s2 (if running s2 then displayResume s2 else s2) := (displayResume_moves s2).ite (.refl s2)
  generalize (if running s2 then displayResume s2 else s2) = u at hmoves
  rw [hmoves.pwr, hmoves.mtr, hmoves.host]
  refine ⟨(hmoves.only.bit 0).trans ?_, bit_of_fld_one ((hmoves.only.fld 0).trans ?_), rfl, rfl, rfl, rfl⟩
  · exact congrArg (· != 0) (Writes_fld hw (by simp) : s1.fld F.PWR_ST_PFAIL = 0)
  · exact (Writes_fld hw (by simp) : s1.fld F.PWR_ST_RECL = 1)

/-- Settles O18: the report, the checkpoint's completion and the recovery each change the power state once; the meters, the display
and the ledger that follow leave it and its fields alone. -/
theorem powerFailAndRecovery : Obligations.PowerFailAndRecovery := by
  refine ⟨fun s t0 rs hon hpf => ?_, fun s t0 hrun hck hrec => ⟨fun hreq => ?_, fun hreq => ?_⟩, fun s hon hpf hsave => ?_,
    fun s hon hpf hsave => ?_⟩
  · obtain ⟨honly, hmstate, hfinal⟩ := powerFail_spec (rs.map fun r => (r.1.val, r.2)) (reachTime t0 s)
    obtain ⟨hpfail, hpfl, hcount⟩ := powerFailNoted_writes (reachTime t0 s) honly
    exact ⟨_, congrArg Host.Outcome.next (if_pos (by rw [hon, hpf]; rfl)), bit_of_fld_one hpfail, bit_of_fld_one hpfl, hcount,
      hmstate, hfinal⟩
  · have hdone : finalDone (reachTime t0 s) = finalSaved (reachTime t0 s) :=
      (finalDone_none (s := reachTime t0 s) hreq).trans (resumeIf_of_not_recover (by rw [finalSaved_pwr]; exact hrec))
    refine ⟨_, congrArg Host.Outcome.next ((if_pos (by rw [hrun, hck]; rfl)).trans hdone), ?_⟩
    rw [finalSaved_pwr]
    exact ⟨rfl, eq_of_beq hrun, fun hsome => by
      show (_ && !(unfenced s s.mtr.nextSeq).isSome) = false
      rw [hsome, Bool.not_true, Bool.and_false]⟩
  · exact ⟨_, congrArg Host.Outcome.next ((if_pos (by rw [hrun, hck]; rfl)).trans (finalDone_stby (s := reachTime t0 s) hreq)),
      enterStandby_stands _⟩
  · exact congrArg Host.Outcome.next ((if_pos (by rw [hon, hpf]; rfl)).trans (if_pos hsave))
  · refine ⟨powerResume s, congrArg Host.Outcome.next ((if_pos (by rw [hon, hpf]; rfl)).trans (if_neg (by simp [hsave]))), ?_⟩
    exact powerResume_spec s

end Sys2Proof.Machine
end

section
/-! The end of an interval and its posting, meter by meter (R126, R129, R130, R133, R241). -/

namespace Sys2Proof.Machine

/-! ### The end of an interval -/

/-- Noting the largest magnitudes adds no record. -/
theorem notePeaks_ldg (iv : Interval) (s : State) : (notePeaks iv s).ldg = s.ldg := by
  unfold notePeaks
  have hpeaks : (iv.peaks.foldl (fun s p => if p.1.val < 144 then raisePeak p.1.val (clipMag p.2) s else s) s).ldg = s.ldg :=
    List.foldlRecOn (motive := fun u : State => u.ldg = s.ldg) _ _ rfl fun u hu p _ => by
      split
      · exact hu
      · exact hu
  exact List.foldlRecOn (motive := fun u : State => u.ldg = s.ldg) _ _ hpeaks fun u hu n _ => hu

/-- An interval has ended: the meter's next one begins here, peaks are noted, and lent samples go to the twin. -/
def intervalNoted (m : Nat) (c : MtrCfg) (iv : Interval) (s : State) : State :=
  lendSamples c iv (notePeaks iv (reachTime iv.endT
    { s with mtr := { s.mtr with lastIv := mput 0 s.mtr.lastIv m (iv.endT + 1) } }))

/-- An interval of a meter waits for the twin's samples. -/
def withHeld (m : Nat) (h : HeldInt) (s : State) : State := { s with mtr := { s.mtr with held := mput none s.mtr.held m (some h) } }

theorem withHeld_held (m : Nat) (h : HeldInt) (s : State) : mget none (withHeld m h s).mtr.held m = some h :=
  mget_mput_same none s.mtr.held m (some h)

theorem forceHeld_of_none {m : Nat} {s : State} (h : mget none s.mtr.held m = none) : forceHeld m s = s := by
  unfold forceHeld
  rw [h]

theorem computeHeld_of_none {m : Nat} {s : State} (h : mget none s.mtr.held m = none) : computeHeld m s = s := by
  unfold computeHeld
  rw [h]

theorem adopting_congr {s t : State} (h : t.twn.adopts = s.twn.adopts) : adopting t = adopting s := by
  funext n
  unfold adopting
  rw [h]

/-- What the meters and the pulses remember stands as the interval's end is noted, and so do power state, ledger and adoptions. -/
theorem intervalNoted_keeps (m : Nat) (c : MtrCfg) (iv : Interval) (s : State) :
    (intervalNoted m c iv s).mtr = { s.mtr with lastIv := mput 0 s.mtr.lastIv m (iv.endT + 1) } ∧
    (intervalNoted m c iv s).pwr = s.pwr ∧ (intervalNoted m c iv s).ldg = s.ldg ∧ (intervalNoted m c iv s).pls = s.pls ∧
    (intervalNoted m c iv s).twn.adopts = s.twn.adopts := by
  unfold intervalNoted
  generalize hr : reachTime iv.endT { s with mtr := { s.mtr with lastIv := mput 0 s.mtr.lastIv m (iv.endT + 1) } } = r
  have hpeaks := notePeaks_shows iv r
  have hsend := lendSamples_sends c iv (notePeaks iv r)
  rw [hsend.mtr, hsend.pwr, hsend.ldg, hsend.pls, hsend.adopts, hpeaks.mtr, hpeaks.pwr, notePeaks_ldg, hpeaks.pls, hpeaks.twn, ← hr]
  exact ⟨rfl, rfl, rfl, rfl, rfl⟩

section IntervalEnd

variable {s : State} {m : Nat} {c : MtrCfg} {iv : Interval} (hcfg : mtrCfg s m = some c)

include hcfg

theorem intervalEnd_elsewhere (hstart : startsAt s m c iv.startT = false) : intervalEnd m iv s = s := by
  unfold intervalEnd
  rw [hcfg]
  exact if_neg (by simp [hstart])

variable (hrun : running s = true) (hmet : s.pwr.metering = true) (hck : s.pwr.finalCk = false)
  (hheld : mget none s.mtr.held m = none) (hstart : startsAt s m c iv.startT = true)

include hrun hmet hck hheld hstart

/-- An interval that uses the twin's samples waits for them; any other is computed. -/
theorem intervalEnd_starts : intervalEnd m iv s =
    if (cfgStreams c).filter (adopting s) ≠ [] then
      withHeld m ⟨c, iv, ((cfgStreams c).filter (adopting s)).dedup, []⟩ (intervalNoted m c iv s)
    else computeInterval m c iv (intervalNoted m c iv s) := by
  obtain ⟨-, hpwr, -, -, hadopts⟩ := intervalNoted_keeps m c iv s
  have hforce := forceHeld_of_none (m := m) (s := notePeaks iv (reachTime iv.endT
    { s with mtr := { s.mtr with lastIv := mput 0 s.mtr.lastIv m (iv.endT + 1) } }))
    ((congrArg (fun x : MtrSt => mget none x.held m) (notePeaks_shows iv _).mtr).trans hheld)
  have hdone : (computeInterval m c iv (intervalNoted m c iv s)).pwr.finalCk = false := by
    show (intervalNoted m c iv s).pwr.finalCk = false
    rw [hpwr, hck]
  unfold intervalEnd
  rw [hcfg]
  refine (if_pos (by simp [hrun, hmet, hstart])).trans ?_
  extract_lets _ s0 s1 ns _ s2
  have hs1 : s1 = intervalNoted m c iv s := congrArg (lendSamples c iv) hforce
  have hns : ns = (cfgStreams c).filter (adopting s) := by
    unfold ns
    rw [hs1, adopting_congr hadopts]
  have hs2 : s2 = computeInterval m c iv (intervalNoted m c iv s) := congrArg (computeInterval m c iv) hs1
  clear_value s2 ns s1
  subst hs1 hns hs2
  rw [hdone]
  exact if_congr (by simp [hpwr, hck]) rfl rfl

theorem intervalEnd_adopting (hadopt : (cfgStreams c).any (adopting s) = true) :
    ∃ t h, intervalEnd m iv s = t ∧ mget none t.mtr.held m = some h ∧ h.cfg = c ∧ h.iv = iv ∧ h.got = [] ∧
      (∀ n, n ∈ h.adopted ↔ n ∈ cfgStreams c ∧ adopting s n = true) ∧ t.mtr.due = s.mtr.due ∧ t.mtr.acc = s.mtr.acc ∧
      t.ldg = s.ldg ∧ t.pls = s.pls := by
  obtain ⟨hmtr, -, hldg, hpls, -⟩ := intervalNoted_keeps m c iv s
  have hsome : (cfgStreams c).filter (adopting s) ≠ [] := by
    obtain ⟨n, hn, hadopt⟩ := List.any_eq_true.1 hadopt
    exact List.ne_nil_of_mem (List.mem_filter.2 ⟨hn, hadopt⟩)
  refine ⟨_, _, (intervalEnd_starts hcfg hrun hmet hck hheld hstart).trans (if_pos hsome), withHeld_held _ _ _, rfl, rfl, rfl,
    fun n => ?_, ?_, ?_, hldg, hpls⟩
  · rw [List.mem_dedup, List.mem_filter]
  · exact (congrArg MtrSt.due hmtr :)
  · exact (congrArg MtrSt.acc hmtr :)

theorem intervalEnd_computed (hadopt : (cfgStreams c).any (adopting s) = false) :
    intervalEnd m iv s = computeInterval m c iv (intervalNoted m c iv s) := by
  refine (intervalEnd_starts hcfg hrun hmet hck hheld hstart).trans (if_neg fun hne => hne ?_)
  exact List.filter_eq_nil_iff.2 fun n hn hadopts => by
    rw [List.any_eq_true.2 ⟨n, hn, hadopts⟩] at hadopt
    exact absurd hadopt (by decide)

end IntervalEnd

/-- A computed interval waits behind those that wait for their posting. -/
theorem computeInterval_spec (m : Nat) (c : MtrCfg) (iv : Interval) (s : State) :
    ∃ p, mget [] (computeInterval m c iv s).mtr.due m = mget [] s.mtr.due m ++ [p] ∧ p.startT = iv.startT ∧ p.endT = iv.endT ∧
      p.cfg = c ∧ p.inc = (computePost (storeRuns m c iv.endT (mget [] s.mtr.miss m) iv.runs s) m c iv
        (mget [] s.mtr.miss m)).1.inc ∧
      mget [] (computeInterval m c iv s).mtr.miss m = [] ∧ (computeInterval m c iv s).mtr.acc = s.mtr.acc ∧
      (computeInterval m c iv s).mtr.deficit = s.mtr.deficit ∧ (computeInterval m c iv s).ldg = s.ldg ∧
      (computeInterval m c iv s).pls = s.pls := by
  unfold computeInterval
  extract_lets miss u r cur k idc
  exact ⟨{ r.1 with idc := idc.2 }, mget_mput_same _ _ _ _, rfl, rfl, rfl, rfl,
    mget_mput_same [] u.mtr.miss m [], rfl, rfl, rfl, rfl⟩

/-! ### Posting -/

/-- The results and the status of an interval are posted. -/
def statusPosted (m : Nat) (p : MtrPost) (s : State) : State := postStatus m p.cfg p (postResults m p s)

theorem statusPosted_shows (m : Nat) (p : MtrPost) (s : State) : Shows statusFlds s (statusPosted m p s) :=
  ((postResults_shows m p s).mono (by decide)).trans (postStatus_shows m p.cfg p _)

theorem statusPosted_active (m : Nat) (p : MtrPost) (s : State) :
    (statusPosted m p s).bit F.MTR_ST_ACTIVE m = (mtrCfg s m).isSome := by
  unfold statusPosted
  rw [postStatus_active]
  unfold mtrCfg
  rw [(postResults_shows m p s).mtr]

section Posting

variable {s : State} {m : Nat} {p : MtrPost}

theorem postOne_waits (htakes : takesTwins s p.cfg p.startT p.endT = true) (hitem : twinItem s m p.endT = none) : postOne m p s =
    { statusPosted m p s with mtr := { (statusPosted m p s).mtr with wait := (statusPosted m p s).mtr.wait ++ [(m, p)] } } := by
  unfold postOne
  rw [if_pos htakes, hitem]
  rfl

/-- Increments are registered at once, the device's own or those of the twin's item that has come. -/
theorem postOne_registers {inc : List (List Nat)} (hinc : takesTwins s p.cfg p.startT p.endT = false ∧ inc = p.inc ∨
    takesTwins s p.cfg p.startT p.endT = true ∧ (twinItem s m p.endT).map itemSets = some inc) :
    ∃ twin, postOne m p s = register m p twin (statusPosted m p s) ∧ postedIncs p twin = inc := by
  rcases hinc with ⟨hown, rfl⟩ | ⟨htakes, hitem⟩
  · refine ⟨none, ?_, rfl⟩
    unfold postOne
    rw [if_neg (by simp [hown])]
    rfl
  · obtain ⟨x, hx, hsets⟩ := Option.map_eq_some_iff.1 hitem
    refine ⟨some x, ?_, hsets⟩
    unfold postOne
    rw [if_pos htakes, hx]
    rfl

/-- The oldest interval of a meter leaves those that wait for their posting. -/
def withDue (m : Nat) (r : List MtrPost) (s : State) : State := { s with mtr := { s.mtr with due := mput [] s.mtr.due m r } }

theorem postNext_cons {r : List MtrPost} (hdue : mget [] s.mtr.due m = p :: r) : postNext m s = postOne m p (withDue m r s) := by
  unfold postNext
  rw [hdue]
  rfl

theorem postNext_nil (hdue : mget [] s.mtr.due m = []) : postNext m s = s := by
  unfold postNext
  rw [hdue]

theorem postDue_nil (hdue : mget [] s.mtr.due m = []) : postDue m s = s := by
  unfold postDue
  rw [hdue]
  rfl

/-- A posting whose increments are to be the twin's waits for its item. -/
theorem postNext_waits {r : List MtrPost} (hdue : mget [] s.mtr.due m = p :: r)
    (htakes : takesTwins s p.cfg p.startT p.endT = true) (hitem : twinItem s m p.endT = none) :
    mget [] (postNext m s).mtr.due m = r ∧ (postNext m s).mtr.wait = s.mtr.wait ++ [(m, p)] ∧
      (postNext m s).mtr.acc = s.mtr.acc ∧ (postNext m s).mtr.deficit = s.mtr.deficit ∧ (postNext m s).pls = s.pls ∧
      ∀ a, (postNext m s).fld F.ACC_QUAL_QNOW a = s.fld F.ACC_QUAL_QNOW a := by
  have hst := statusPosted_shows m p (withDue m r s)
  rw [postNext_cons hdue, postOne_waits (s := withDue m r s) htakes hitem]
  dsimp only
  rw [hst.mtr]
  exact ⟨mget_mput_same _ _ _ _, rfl, rfl, rfl, hst.pls, fun a => hst.only.fld a⟩

/-- A posting that is registered shows ACTIVE, and its increments reach the accumulators of its meter and no others. -/
theorem postNext_registers {r : List MtrPost} {inc : List (List Nat)} (hdue : mget [] s.mtr.due m = p :: r)
    (hinc : takesTwins s p.cfg p.startT p.endT = false ∧ inc = p.inc ∨
      takesTwins s p.cfg p.startT p.endT = true ∧ (twinItem s m p.endT).map itemSets = some inc) :
    mget [] (postNext m s).mtr.due m = r ∧ (postNext m s).bit F.MTR_ST_ACTIVE m = (mtrCfg s m).isSome ∧
      (postNext m s).mtr.wait = s.mtr.wait ∧
      (∀ j < 64, accAt (postNext m s).mtr (64 * m + j) = bumped (accAt s.mtr (64 * m + j)) (incAt inc j)) ∧
      ∀ a, a / 64 ≠ m → accAt (postNext m s).mtr a = accAt s.mtr a := by
  have hst := (statusPosted_shows m p (withDue m r s)).mtr
  obtain ⟨twin, hpost, rfl⟩ := postOne_registers (s := withDue m r s) hinc
  obtain ⟨-, honly, -, hd, hw⟩ := register_spec m p twin (statusPosted m p (withDue m r s))
  rw [postNext_cons hdue, hpost]
  refine ⟨?_, (honly.bit m).trans (statusPosted_active m p _), ?_, fun j hj => ?_, fun a ha => ?_⟩
  · rw [hd, hst]
    exact mget_mput_same _ _ _ _
  · rw [hw, hst]
    rfl
  · rw [register_accAt_same m p twin _ hj, hst]
    rfl
  · rw [register_accAt_other m p twin _ ha, hst]
    rfl

end Posting

/-! ### Remote samples that are missing -/

section RemoteDeadline

variable {s : State} {m : Nat} {miss : List MissedSample} (hheld : mget none s.mtr.held m = none)

include hheld

theorem remoteDeadline_disabled (hcfg : mtrCfg s m = none) : remoteDeadline m miss s = s :=
  if_neg (by simp [hcfg, hheld])

/-- Missing samples are noted, and RLOSS is set. -/
def missNoted (m : Nat) (miss : List MissedSample) (s : State) : State :=
  ({ s with mtr := { s.mtr with miss := mput [] s.mtr.miss m (mget [] s.mtr.miss m ++ miss) } }.put F.MTR_ST_RLOSS m 1).put
    F.MTR_ST_RLOSSL m 1

theorem remoteDeadline_missing (hrun : running s = true) (hcfg : (mtrCfg s m).isSome = true) (hmiss : miss ≠ []) :
    remoteDeadline m miss s = raiseIf (!s.bit F.MTR_ST_RLOSS m) 7 m (missNoted m miss s) := by
  refine (if_pos (by simp [hrun, hcfg, hmiss])).trans (computeHeld_of_none ?_)
  have hraise : ∀ b, (raiseIf b 7 m (missNoted m miss s)).mtr = (missNoted m miss s).mtr := fun b =>
    ((Shows.refl evtNums _).after_raiseIf).mtr
  exact (congrArg (fun x : MtrSt => mget none x.held m) (hraise _)).trans hheld

end RemoteDeadline

theorem missNoted_writes {m : Nat} (miss : List MissedSample) (s : State) :
    Writes [(F.MTR_ST_RLOSS, m, 1), (F.MTR_ST_RLOSSL, m, 1)] s (missNoted m miss s) :=
  Writes_snoc (Writes_put _ F.MTR_ST_RLOSS m 1 (by decide)) (by decide)

end Sys2Proof.Machine
end

section
/-! Holds, qualities, settings and checkpoints of the meters (R131, R132, R134, R136). -/

namespace Sys2Proof.Machine

/-! ### Words of the host -/

section HostWord

variable {r : RegRow} {i w : Nat} {act : State → State} {s : State} (hon : mainOn s = true)

include hon

theorem hostWord_acts (hrun : domStopped s r.dom = false) : hostWord r i w act s = act s := by
  unfold hostWord
  rw [hon, hrun]
  rfl

theorem hostWord_posted (hstop : domStopped s r.dom = true) : hostWord r i w act s =
    { s with host := { s.host with posted := s.host.posted ++ [(r.dom, r.base + r.stride * i, w)] } } := by
  unfold hostWord
  rw [hon, hstop]
  rfl

end HostWord

/-- ACLK, on which the registers of holds and accumulators are written, runs in RUN. -/
theorem domStopped_aclk (s : State) {r : RegRow} (hr : r.dom = .aclk := by rfl) : domStopped s r.dom = !running s := by
  rw [hr]
  rfl

/-! ### Holds (R132) -/

/-- EXP is cleared, and METER names the meter written. -/
def meterNamed (m : Nat) (s : State) : State := (s.put F.MTR_HOLD_EXP 0 0).put F.MTR_HOLD_METER 0 m

/-- HOLD 0, or a meter that does not exist, ends any hold. -/
theorem mtrHoldWrite_ends {hold : Bool} {m : Nat} (s : State) (h : hold = false ∨ ¬ m < 48) :
    mtrHoldWrite hold m s = endHold (meterNamed m s) := by
  refine if_neg ?_
  rcases h with h | h <;> simp [h]

theorem mtrHoldWrite_holds {m : Nat} {s : State} (hm : m < 48) (hnone : heldMeter s m = none) :
    mtrHoldWrite true m s = startHold m (endHold (meterNamed m s)) := by
  have hnamed : heldMeter (meterNamed m s) m = none := hnone
  refine (if_pos (by simp [hm])).trans (if_neg ?_)
  show ¬ (heldMeter (meterNamed m s) m).isSome = true
  rw [hnamed]
  decide

theorem endHold_writes {m : Nat} (s : State) (hm : m < 64) :
    Writes [(F.MTR_HOLD_EXP, 0, 0), (F.MTR_HOLD_METER, 0, m), (F.MTR_HOLD_HOLD, 0, 0)] s (endHold (meterNamed m s)) :=
  Writes_snoc (Writes_of_flds (Writes_snoc (Writes_put s F.MTR_HOLD_EXP 0 0 (by decide)) hm) rfl) (by decide)

theorem startHold_writes {m : Nat} (s : State) (hm : m < 64) :
    Writes [(F.MTR_HOLD_EXP, 0, 0), (F.MTR_HOLD_METER, 0, m), (F.MTR_HOLD_HOLD, 0, 1)] s
      (startHold m (endHold (meterNamed m s))) :=
  Writes_again (l := [(F.MTR_HOLD_EXP, 0, 0), (F.MTR_HOLD_METER, 0, m)]) (k := []) (Writes_of_flds (endHold_writes s hm) rfl)
    (by decide)

/-- A write of MTR_HOLD leaves the results as they are shown. -/
theorem resOf_meterNamed (m n : Nat) (s : State) : resOf (endHold (meterNamed m s)) n = resOf s n := by
  have hres : ∀ i, (endHold (meterNamed m s)).fld F.MTR_RES_RES i = s.fld F.MTR_RES_RES i := fun i =>
    (put_fld_field _ F.MTR_HOLD_HOLD F.MTR_RES_RES 0 i 0 (by decide)).trans
      ((put_fld_field _ F.MTR_HOLD_METER F.MTR_RES_RES 0 i m (by decide)).trans
        (put_fld_field s F.MTR_HOLD_EXP F.MTR_RES_RES 0 i 0 (by decide)))
  unfold resOf
  simp only [hres]

/-- The hold keeps what the meter showed before the write. -/
theorem startHold_hold (m : Nat) (s : State) : (startHold m (endHold (meterNamed m s))).mtr.hold =
    some ⟨m, resOf s m, (List.range 64).map fun j => viewAcc s (64 * m + j)⟩ := by
  rw [← resOf_meterNamed m m s]
  rfl

/-- The fields of MTR_HOLD in the order of the register. -/
theorem holdFlds_perm (x y z : Fld × Nat × Nat) : [x, y, z].Perm [z, x, y] :=
  (List.perm_append_comm (l₁ := [x, y]) (l₂ := [z]))

theorem mtrHoldExpire_held {s : State} (h : s.mtr.hold.isSome = true) :
    mtrHoldExpire s = (endHold s).put F.MTR_HOLD_EXP 0 1 := if_pos h

/-! ### Settings (R134) -/

/-- The first n results of a meter have been looked at: those that its type leaves undefined read zero. -/
theorem clearUnused_fold (type m : Nat) {c n : Nat} (s : State) (hc : c < 32) (hn : n ≤ 32) :
    ((List.range n).foldl (fun s c => if usesRes type c then s else s.put F.MTR_RES_RES (32 * m + c) 0) s).fld F.MTR_RES_RES
      (32 * m + c) = if c < n ∧ usesRes type c = false then 0 else s.fld F.MTR_RES_RES (32 * m + c) := by
  induction n with
  | zero => rw [if_neg (by omega)]; rfl
  | succ n ih =>
    rw [List.range_succ, List.foldl_append, List.foldl_cons, List.foldl_nil]
    specialize ih (by omega)
    by_cases hcn : c = n
    · subst hcn
      rw [if_neg (by omega)] at ih
      cases hused : usesRes type c with
      | true => rw [if_pos rfl, if_neg (by simp), ih]
      | false => rw [if_neg (by simp), if_pos ⟨by omega, rfl⟩, put_fld_same, Nat.zero_mod]
    · have hother : ∀ u : State, (u.put F.MTR_RES_RES (32 * m + n) 0).fld F.MTR_RES_RES (32 * m + c) =
          u.fld F.MTR_RES_RES (32 * m + c) := fun u => put_fld_other u _ _ _ _ _ (by unfold fkey; omega)
      have hlast : (c < n + 1 ∧ usesRes type c = false) ↔ (c < n ∧ usesRes type c = false) := by
        constructor <;> rintro ⟨hlt, hused⟩ <;> exact ⟨by omega, hused⟩
      rw [if_congr hlast rfl rfl, ← ih]
      split
      · rfl
      · exact hother _

theorem clearUnused_fld (type m : Nat) {c : Nat} (s : State) (hc : c < 32) :
    (clearUnused m type s).fld F.MTR_RES_RES (32 * m + c) =
      if usesRes type c then s.fld F.MTR_RES_RES (32 * m + c) else 0 := by
  refine (clearUnused_fold type m s hc (Nat.le_refl 32)).trans ?_
  cases usesRes type c with
  | true => rw [if_neg (by simp), if_pos rfl]
  | false => rw [if_pos ⟨hc, rfl⟩, if_neg (by simp)]

theorem clearUnused_spares (m type : Nat) (s : State) :
    Spares ((List.range 32).map fun c => (F.MTR_RES_RES, 32 * m + c)) s (clearUnused m type s) := by
  refine List.foldlRecOn (motive := fun u => Spares _ s u) _ _ (Spares_refl _ s) fun u hu c hc => ?_
  refine Spares_ite hu (Spares_trans hu (Spares_mono ?_ (Spares_put u F.MTR_RES_RES (32 * m + c) 0)))
  exact fun p hp => List.mem_singleton.1 hp ▸ List.mem_map_of_mem hc

/-- Clearing results changes registers alone. -/
theorem clearUnused_eq (m type : Nat) (s : State) : clearUnused m type s = { s with flds := (clearUnused m type s).flds } := by
  refine List.foldlRecOn (motive := fun u : State => u = { s with flds := u.flds }) _ _ rfl fun u hu c _ => ?_
  split
  · exact hu
  · rw [State.put, hu]

/-- The settings that a meter's registers hold come into force. -/
def settingsTaken (m : Nat) (s : State) : State :=
  { s with mtr := { s.mtr with
      cfg := mput none s.mtr.cfg m (some (mtrRegs s.flds m))
      lastIv := if (mtrCfg s m).isNone then mput 0 s.mtr.lastIv m 0 else s.mtr.lastIv } }

theorem settingsTaken_cfg (m : Nat) (s : State) : mtrCfg (settingsTaken m s) m = some (mtrRegs s.flds m) :=
  mget_mput_same none s.mtr.cfg m (some (mtrRegs s.flds m))

/-- The first interval of a meter that was not enabled starts at this boundary. -/
theorem settingsTaken_lastIv (m : Nat) (s : State) : mget 0 (settingsTaken m s).mtr.lastIv m =
    if (mtrCfg s m).isSome then mget 0 s.mtr.lastIv m else 0 := by
  show mget 0 (if (mtrCfg s m).isNone then _ else _) m = _
  cases mtrCfg s m with
  | none => exact mget_mput_same 0 s.mtr.lastIv m 0
  | some c => rfl

theorem takeMeter_enabled {m : Nat} {s : State} (hen : s.bit F.MTR_CFG_EN m = true) :
    takeMeter m s = clearUnused m (mtrRegs s.flds m).type (settingsTaken m s) := if_pos hen

theorem takeMeter_disabled {m : Nat} {s : State} (hen : s.bit F.MTR_CFG_EN m = false) : takeMeter m s =
    { s with mtr := { s.mtr with cfg := mput none s.mtr.cfg m none } }.put F.MTR_ST_ACTIVE m 0 := if_neg (by simp [hen])

section Apply

variable {m : Nat} {s : State}

theorem metersApply_waits (h : meterAtBoundary s m = false ∨ meterTrimDue s m = true) : metersApply m s = s := by
  refine if_neg ?_
  rcases h with h | h <;> simp [h]

theorem metersApply_due (hrun : running s = true) (hat : meterAtBoundary s m = true) (htrim : meterTrimDue s m = false)
    (hdue : mget [] s.mtr.due m = []) : metersApply m s = takeMeter m s := by
  refine (if_pos (by simp [hrun, hat, htrim])).trans ?_
  rw [postDue_nil hdue]

variable {c : MtrCfg} (hcfg : mtrCfg s m = some c)

include hcfg

theorem paceApply_waits (h : meterBoundary s c = false ∨ (cfgStreams c).any (trimDue s) = true) : paceApply m s = s := by
  unfold paceApply
  rw [hcfg]
  refine if_neg ?_
  rcases h with h | h <;> simp [h]

theorem paceApply_due (hrun : running s = true) (hat : meterBoundary s c = true)
    (htrim : (cfgStreams c).any (trimDue s) = false) : paceApply m s = { s with mtr := { s.mtr with
      cfg := mput none s.mtr.cfg m (some { c with pace := s.fld F.MTR_CFG_PACE m }) } } := by
  unfold paceApply
  rw [hcfg]
  exact if_pos (by simp only [hrun, hat, htrim]; decide)

end Apply

/-! ### Checkpoints (R136) -/

/-- A slot is written at its position of the ring. -/
def slotWritten (q : Nat) (k : Ckpt) (s : State) : State :=
  { s with mtr := { s.mtr with ring := mput .empty s.mtr.ring (q % 64) (.held k), nextSeq := q + 1 } }

theorem slotWritten_ring (q : Nat) (k : Ckpt) (s : State) :
    mget CkPos.empty (slotWritten q k s).mtr.ring (q % 64) = .held k :=
  mget_mput_same CkPos.empty s.mtr.ring (q % 64) (.held k)

theorem writeCkpt_some {s : State} {q : Nat} (final : Bool) (h : unfenced s s.mtr.nextSeq = some q) :
    writeCkpt final s = slotWritten q (makeCkpt s q final) s := by
  unfold writeCkpt
  rw [h]
  rfl

/-- A device outside any caravan sends no summary. -/
theorem sendSummary_alone {s : State} (h : s.cvn.cfg.en = false) : sendSummary s = s := if_pos (by simp [h])

theorem exec_periodicCheckpoint {s : State} {q : Nat} (t0 : Nat) (hrun : running s = true) (hmet : s.pwr.metering = true)
    (hck : s.pwr.finalCk = false) (hcvn : s.cvn.cfg.en = false) (hq : unfenced s s.mtr.nextSeq = some q) :
    exec (.periodicCheckpoint t0) s = .next (slotWritten q (makeCkpt (reachTime t0 s) q false) (reachTime t0 s)) := by
  refine congrArg Host.Outcome.next ((if_pos (by simp [hrun, hmet, hck])).trans ?_)
  rw [writeCkpt_some (s := reachTime t0 s) false hq]
  exact sendSummary_alone hcvn

end Sys2Proof.Machine
end

section
/-! Meters: what their commands do, read off the lemmas about intervals, posting, holds, settings and checkpoints (R118 to R135). -/

namespace Sys2Proof.Machine

/-! ### Intervals and postings -/

theorem accAt_eq_iff {st : MtrSt} {a : Nat} {x : Nat × Nat × Nat} :
    accAt st a = x ↔ mget 0 st.acc a = x.1 ∧ mget 0 st.deficit a = x.2.1 ∧ mget 0 st.plus a = x.2.2 := by
  simp [accAt, Prod.ext_iff]

/-- An interval without adopted samples adds one posting to those that wait, and touches no accumulator. -/
theorem intervalEnd_waits_for_posting {s : State} {m : Nat} {c : MtrCfg} {iv : Interval} (hcfg : mtrCfg s m = some c)
    (hrun : running s = true) (hmet : s.pwr.metering = true) (hck : s.pwr.finalCk = false)
    (hheld : mget none s.mtr.held m = none) (hstart : startsAt s m c iv.startT = true)
    (hadopt : (cfgStreams c).any (adopting s) = false) :
    ∃ t p, intervalEnd m iv s = t ∧ mget [] t.mtr.due m = mget [] s.mtr.due m ++ [p] ∧ p.startT = iv.startT ∧ p.endT = iv.endT ∧
      p.cfg = c ∧ p.inc = (computePost (storeRuns m c iv.endT (mget [] s.mtr.miss m) iv.runs (intervalNoted m c iv s)) m c iv
        (mget [] s.mtr.miss m)).1.inc ∧
      mget [] t.mtr.miss m = [] ∧ t.mtr.acc = s.mtr.acc ∧ t.mtr.deficit = s.mtr.deficit ∧ t.ldg = s.ldg ∧ t.pls = s.pls := by
  obtain ⟨p, hdue, hst, het, hpc, hinc, hmiss, hacc, hdef, hldg, hpls⟩ := computeInterval_spec m c iv (intervalNoted m c iv s)
  obtain ⟨hmtr, -, hnldg, hnpls, -⟩ := intervalNoted_keeps m c iv s
  rw [hmtr] at hdue hinc hacc hdef
  exact ⟨_, p, intervalEnd_computed hcfg hrun hmet hck hheld hstart hadopt, hdue, hst, het, hpc, hinc, hmiss, hacc, hdef,
    hldg.trans hnldg, hpls.trans hnpls⟩

/-! ### Holds -/

/-- A write of HOLD 1 starts the hold of a meter that exists and is not held; of any other it ends the hold in progress. -/
theorem mtrHoldWrite_spec {m : Nat} {s : State} (hm : m < 64) (hnone : heldMeter s m = none) :
    mtrHoldWrite true m s = { s with flds := (mtrHoldWrite true m s).flds
                                     mtr := { s.mtr with hold := (mtrHoldWrite true m s).mtr.hold } } ∧
    (mtrHoldWrite true m s).mtr.hold = (if m < 48 then
      some ⟨m, resOf s m, (List.range 64).map fun j => viewAcc s (64 * m + j)⟩ else none) ∧
    Writes [(F.MTR_HOLD_HOLD, 0, if m < 48 then 1 else 0), (F.MTR_HOLD_EXP, 0, 0), (F.MTR_HOLD_METER, 0, m)] s
      (mtrHoldWrite true m s) := by
  by_cases h48 : m < 48
  · rw [mtrHoldWrite_holds h48 hnone, if_pos h48, if_pos h48]
    exact ⟨rfl, startHold_hold m s, Writes_perm (holdFlds_perm _ _ _) (startHold_writes s hm)⟩
  · rw [mtrHoldWrite_ends s (.inr h48), if_neg h48, if_neg h48]
    exact ⟨rfl, rfl, Writes_perm (holdFlds_perm _ _ _) (endHold_writes s hm)⟩

/-- What the settings of an enabled meter change as they come into force. -/
theorem takeMeter_spec {m : Nat} {s : State} (hen : s.bit F.MTR_CFG_EN m = true) :
    mtrCfg (takeMeter m s) m = some (mtrRegs s.flds m) ∧ (takeMeter m s).mtr.acc = s.mtr.acc ∧
    (∀ c < 32, (takeMeter m s).fld F.MTR_RES_RES (32 * m + c) =
      if usesRes (mtrRegs s.flds m).type c then s.fld F.MTR_RES_RES (32 * m + c) else 0) ∧
    Spares ((List.range 32).map fun c => (F.MTR_RES_RES, 32 * m + c)) s (takeMeter m s) ∧
    mget 0 (takeMeter m s).mtr.lastIv m = (if (mtrCfg s m).isSome then mget 0 s.mtr.lastIv m else 0) ∧
    takeMeter m s = { s with flds := (takeMeter m s).flds, mtr := { s.mtr with
      cfg := (takeMeter m s).mtr.cfg, lastIv := (takeMeter m s).mtr.lastIv } } := by
  rw [takeMeter_enabled hen]
  have hmtr : (clearUnused m (mtrRegs s.flds m).type (settingsTaken m s)).mtr = (settingsTaken m s).mtr :=
    (congrArg State.mtr (clearUnused_eq _ _ _) :)
  refine ⟨?_, ?_, fun c hc => clearUnused_fld _ m (settingsTaken m s) hc, clearUnused_spares m _ (settingsTaken m s), ?_, ?_⟩
  · unfold mtrCfg
    rw [hmtr]
    exact settingsTaken_cfg m s
  · rw [hmtr]
    rfl
  · rw [hmtr]
    exact settingsTaken_lastIv m s
  · rw [hmtr]
    exact clearUnused_eq _ _ _

/-- Settles O28: each command's guards are met, and what it does to registers, accumulators and settings is read off the lemmas
about posting, holds, settings and checkpoints. -/
theorem meterIntervalsHoldsAndSettings : Obligations.MeterIntervalsHoldsAndSettings := by
  refine ⟨⟨fun s m iv c hrun hmet hck hcfg hheld => ⟨fun hstart => ?_, fun hstart hadopt => ?_, fun hstart hadopt => ?_⟩,
      fun s m p r hrun hdue htakes hitem => ?_, fun s m p r inc hrun hdue hinc => ?_, fun s m hdue => ?_,
      fun s m miss hrun hheld => ⟨fun hcfg => ?_, fun hcfg hmiss => ?_⟩⟩,
    fun s m hon hrun hnone => ?_, fun s m hon hrun => ?_, fun s hheld => ?_, fun s a hon hrun hq => ?_,
    fun s hold m a hon hstop => ?_,
    fun s m hrun => ⟨fun hwait => ?_, fun hat htrim hdue => ⟨fun hen => ?_, fun hen => ?_⟩⟩,
    fun s m c hrun hcfg => ⟨fun hwait => ?_, fun hat htrim => ?_⟩, fun s t0 q hrun hmet hck hcvn hq => ?_⟩
  · exact congrArg Host.Outcome.next (intervalEnd_elsewhere hcfg hstart)
  · obtain ⟨t, h, heq, hspec⟩ := intervalEnd_adopting (iv := iv) hcfg hrun hmet hck hheld hstart hadopt
    exact ⟨t, h, congrArg Host.Outcome.next heq, hspec⟩
  · obtain ⟨t, p, heq, hspec⟩ := intervalEnd_waits_for_posting hcfg hrun hmet hck hheld hstart hadopt
    exact ⟨t, p, congrArg Host.Outcome.next heq, hspec⟩
  · exact ⟨_, congrArg Host.Outcome.next (if_pos hrun), postNext_waits hdue htakes hitem⟩
  · obtain ⟨hleft, hactive, hwait, hsame, hother⟩ := postNext_registers hdue hinc
    refine ⟨_, congrArg Host.Outcome.next (if_pos hrun), hleft, hactive, hwait, fun j hj => accAt_eq_iff.1 (hsame j hj),
      fun a ha => ?_⟩
    obtain ⟨hacc, hdef, -⟩ := accAt_eq_iff.1 (hother a ha)
    exact ⟨hacc, hdef⟩
  · refine congrArg Host.Outcome.next ?_
    rw [postNext_nil hdue, ite_self]
  · exact congrArg Host.Outcome.next (remoteDeadline_disabled hheld hcfg)
  · exact ⟨_, congrArg Host.Outcome.next (remoteDeadline_missing hheld hrun hcfg hmiss), missNoted_writes miss s,
      mget_mput_same [] s.mtr.miss m _, rfl⟩
  · exact ⟨_, congrArg Host.Outcome.next (hostWord_acts hon (by rw [domStopped_aclk, hrun]; rfl)), mtrHoldWrite_spec m.isLt hnone⟩
  · exact ⟨_, congrArg Host.Outcome.next ((hostWord_acts hon (by rw [domStopped_aclk, hrun]; rfl)).trans
      (mtrHoldWrite_ends s (.inl rfl))), rfl, Writes_perm (holdFlds_perm _ _ _) (endHold_writes s m.isLt)⟩
  · exact ⟨_, congrArg Host.Outcome.next (mtrHoldExpire_held hheld), rfl,
      Writes_snoc (Writes_of_flds (Writes_put s F.MTR_HOLD_HOLD 0 0 (by decide)) rfl) (by decide)⟩
  · exact ⟨_, congrArg Host.Outcome.next (hostWord_acts hon (by rw [domStopped_aclk, hrun]; rfl)), rfl, Writes_put s _ _ _ hq⟩
  · exact ⟨⟨_, congrArg Host.Outcome.next (hostWord_posted hon (by rw [domStopped_aclk, hstop]; rfl)), rfl, rfl⟩,
      ⟨_, congrArg Host.Outcome.next (hostWord_posted hon (by rw [domStopped_aclk, hstop]; rfl)), rfl, rfl⟩⟩
  · exact congrArg Host.Outcome.next (metersApply_waits hwait)
  · exact ⟨_, congrArg Host.Outcome.next (metersApply_due hrun hat htrim hdue), takeMeter_spec hen⟩
  · exact ⟨_, congrArg Host.Outcome.next ((metersApply_due hrun hat htrim hdue).trans (takeMeter_disabled hen)),
      mget_mput_same none s.mtr.cfg m none, Writes_put _ F.MTR_ST_ACTIVE m 0 (by decide), rfl⟩
  · exact congrArg Host.Outcome.next (paceApply_waits hcfg hwait)
  · exact ⟨_, congrArg Host.Outcome.next (paceApply_due hcfg hrun hat htrim),
      mget_mput_same none s.mtr.cfg m (some { c with pace := s.fld F.MTR_CFG_PACE m }), rfl⟩
  · exact ⟨_, _, exec_periodicCheckpoint t0 hrun hmet hck hcvn hq, slotWritten_ring _ _ _, rfl, rfl, rfl, rfl, rfl⟩

end Sys2Proof.Machine
end

section
/-! The pulse outputs tick by tick: the share of the increment, the start of a pulse, its debit and its end, and what disabled outputs do
(R142 to R148, R154). -/

namespace Sys2Proof.Machine

/-! ### The share of a tick (R143) -/

/-- The increment posted since the last tick. -/
def PlsOut.posted (o : PlsOut) : Nat := o.fresh.elim 0 Prod.fst

theorem takeShare_fresh (o : PlsOut) : (takeShare o).fresh = none := by
  obtain ⟨en, src, width, pconst, res, left, share, ticks, fresh⟩ := o
  cases fresh with
  | none => rcases ticks with _ | _ | n <;> rfl
  | some p => obtain ⟨d, _ | _ | n⟩ := p <;> rfl

/-- The net, and how long a pulse has run, play no part in the share. -/
theorem takeShare_readNet (low : Bool) (b : Option Nat) (o : PlsOut) :
    takeShare (readNet low { o with busy := b }) = readNet low { takeShare o with busy := b } := by
  obtain ⟨en, src, width, pconst, res, left, share, ticks, fresh⟩ := o
  cases fresh with
  | none => rcases ticks with _ | _ | n <;> cases low <;> rfl
  | some p => obtain ⟨d, _ | _ | n⟩ := p <;> cases low <;> rfl

/-- A share moves from what is left of the increment to the residue, and nothing is lost. -/
theorem takeShare_conserves {o : PlsOut} (hshare : o.share ≤ o.left) (hfresh : ∀ p, o.fresh = some p → p.2 ≠ 0) :
    (takeShare o).res + (takeShare o).left = o.res + o.left + o.posted := by
  unfold takeShare PlsOut.posted
  cases hf : o.fresh with
  | none =>
    dsimp only [Option.elim]
    split
    · simp
    · split
      · simp
      · dsimp only
        omega
  | some p =>
    have hle : (o.left + p.1) / p.2 ≤ o.left + p.1 := Nat.div_le_self _ _
    dsimp only [Option.elim]
    rw [if_neg (hfresh p hf)]
    split
    · simp [add_assoc]
    · dsimp only
      omega

/-- The settings of an output, and the debit that they make, are not touched by a share. -/
theorem takeShare_settings (o : PlsOut) : (takeShare o).live = o.live ∧ (takeShare o).unit = o.unit ∧
    (takeShare o).width = o.width ∧ (takeShare o).high = o.high := by
  obtain ⟨en, src, width, pconst, res, left, share, ticks, fresh⟩ := o
  cases fresh with
  | none => rcases ticks with _ | _ | n <;> exact ⟨rfl, rfl, rfl, rfl⟩
  | some p => obtain ⟨d, _ | _ | n⟩ := p <;> exact ⟨rfl, rfl, rfl, rfl⟩

/-! ### A tick of one output (R144) -/

/-- An output that has read its net and taken its share, before a pulse may start. -/
def sharedTick (low : Bool) (o : PlsOut) : PlsOut := readNet low { takeShare o with busy := o.busy.map (· + 1) }

theorem readNet_keeps (low : Bool) (o : PlsOut) : (readNet low o).live = o.live ∧ (readNet low o).unit = o.unit ∧
    (readNet low o).width = o.width ∧ (readNet low o).res = o.res ∧ (readNet low o).left = o.left ∧
    (readNet low o).ticks = o.ticks ∧ (readNet low o).fresh = o.fresh ∧ (readNet low o).busy = o.busy ∧
    (readNet low o).driving = o.driving ∧ (readNet low o).high = if low then 0 else o.high + 1 := by
  cases low <;> exact ⟨rfl, rfl, rfl, rfl, rfl, rfl, rfl, rfl, rfl, rfl⟩

/-- A tick is the shared part, then a pulse where one is due, then the count of agreeing ticks. -/
theorem outTick_eq (role low : Bool) (o : PlsOut) : ∃ n, outTick role low o =
    { if pulseDue (sharedTick low o) then startPulse role (sharedTick low o) else sharedTick low o with agree := n } := by
  unfold outTick sharedTick
  rw [← takeShare_readNet]
  exact ⟨_, rfl⟩

/-- When a pulse is due. -/
theorem pulseDue_sharedTick (low : Bool) (o : PlsOut) : pulseDue (sharedTick low o) = true ↔
    o.live = true ∧ o.unit ≤ (takeShare o).res ∧ o.busy = none ∧ o.width ≤ if low then 0 else o.high + 1 := by
  obtain ⟨hlive, hunit, hwidth, hhigh⟩ := takeShare_settings o
  obtain ⟨rlive, runit, rwidth, rres, -, -, -, rbusy, -, rhigh⟩ :=
    readNet_keeps low { takeShare o with busy := o.busy.map (· + 1) }
  unfold pulseDue sharedTick
  rw [rlive, runit, rwidth, rres, rbusy, rhigh]
  change ((takeShare o).live && decide ((takeShare o).unit ≤ (takeShare o).res) && (o.busy.map (· + 1)).isNone &&
    decide ((takeShare o).width ≤ if low then 0 else (takeShare o).high + 1)) = true ↔ _
  rw [hlive, hunit, hwidth, hhigh]
  simp [and_assoc]

/-- A pulse that began earlier is not one that begins now. -/
theorem sharedTick_not_begun (low : Bool) (o : PlsOut) : (sharedTick low o).busy ≠ some 0 := by
  obtain ⟨-, -, -, -, -, -, -, rbusy, -⟩ := readNet_keeps low { takeShare o with busy := o.busy.map (· + 1) }
  unfold sharedTick
  rw [rbusy]
  cases o.busy <;> simp

/-- A pulse starts at a tick exactly where one is due. -/
theorem outTick_begins (role low : Bool) (o : PlsOut) :
    (outTick role low o).busy = some 0 ↔ pulseDue (sharedTick low o) = true := by
  obtain ⟨n, h⟩ := outTick_eq role low o
  rw [h]
  split
  next hdue => exact iff_of_true rfl hdue
  next hdue => exact iff_of_false (sharedTick_not_begun low o) hdue

/-- The residue falls by one PCONST where a pulse starts, and the holder of the driver role drives it. -/
theorem outTick_spec (role low : Bool) (o : PlsOut) :
    (outTick role low o).res = (takeShare o).res - (if (outTick role low o).busy = some 0 then o.unit else 0) ∧
      (outTick role low o).left = (takeShare o).left ∧ (outTick role low o).fresh = none ∧
      ((outTick role low o).busy = some 0 → (outTick role low o).driving = role) := by
  obtain ⟨-, hunit, -⟩ := takeShare_settings o
  obtain ⟨-, runit, -, rres, rleft, -, rfresh, -⟩ := readNet_keeps low { takeShare o with busy := o.busy.map (· + 1) }
  have hbegin := outTick_begins role low o
  obtain ⟨n, h⟩ := outTick_eq role low o
  by_cases hdue : pulseDue (sharedTick low o) = true
  · rw [if_pos (hbegin.2 hdue), h, if_pos hdue]
    refine ⟨?_, rleft, rfresh.trans (takeShare_fresh o), fun _ => rfl⟩
    change (sharedTick low o).res - (sharedTick low o).unit = _
    rw [← hunit]
    exact congrArg₂ (· - ·) rres runit
  · rw [if_neg fun hb => hdue (hbegin.1 hb), h, if_neg hdue]
    refine ⟨rres.trans (sub_zero _).symm, rleft, rfresh.trans (takeShare_fresh o), fun hb => ?_⟩
    exact absurd hb (sharedTick_not_begun low o)

/-! ### A tick of every output (R144, R145) -/

/-- The fields that the RATEX test of an output may change. -/
def rateFlds : List Fld := evtNums ++ [F.PLS_ST_RATEX, F.PLS_ST_RATEXL]

/-- The fields that a tick may change beside LOW. -/
def tickFlds : List Fld := rateFlds ++ [F.PLS_ST_PINERR, F.PLS_ST_PINERRL, F.PLS_CNT_CNT]

theorem rateCheck_shows (c : Nat) (s : State) : Shows rateFlds s (rateCheck c s) := by
  unfold rateCheck
  have h := Shows.refl rateFlds s
  exact h.put.put.after_raiseIf.ite (h.put.ite h)

theorem pinCheck_shows (c : Nat) (s : State) : Shows tickFlds s (pinCheck c s) := by
  unfold pinCheck
  have h := Shows.refl tickFlds s
  exact h.put.put.after_raiseIf.ite h

/-- The output of a tick and its net's level in LOW; all else that a tick does shows in events, flags and the pulse count. -/
theorem tickOut_shows (low : Bool) (c : Nat) (s : State) :
    Shows tickFlds ((setOut c (outTick (drives s) low (getOut s c)) s).setBit F.PLS_ST_LOW c low) (tickOut low c s) := by
  unfold tickOut
  extract_lets o o1 started s1 s2
  have h2 : Shows tickFlds s1 s2 := (Shows.refl _ s1).put.ite (Shows.refl _ s1)
  exact (h2.trans ((rateCheck_shows c s2).mono (by decide))).trans (pinCheck_shows c _)

theorem Shows.drives {l : List Fld} {s t : State} (h : Shows l s t)
    (hl : (l.all fun g => g.id != F.TWN_CFG_EN.id) = true := by decide) : drives t = drives s := by
  have hitn : t.itn = s.itn := (congrArg State.itn h.1 :)
  unfold Machine.drives
  rw [h.pls, h.only.bit 0 hl, hitn]

/-- The bits of a flag of the outputs are separate. -/
theorem setBit_bit_index {f : Fld} {c d : Nat} (s : State) (b : Bool) (hne : d ≠ c) (hc : c < 65536 := by omega)
    (hd : d < 65536 := by omega) : (s.setBit f c b).bit f d = s.bit f d :=
  congrArg (· != 0) (put_fld_other s f f c d _ fun h => hne (by
    have := (fkey_eq_iff.1 h).2
    omega))

/-- What a tick of output c does to the outputs, the driver role and LOW. -/
theorem tickOut_spec (low : Bool) {c : Nat} (s : State) (hc : c < 16) : (tickOut low c s).pls.role = s.pls.role ∧
    drives (tickOut low c s) = drives s ∧ getOut (tickOut low c s) c = outTick (drives s) low (getOut s c) ∧
    (tickOut low c s).bit F.PLS_ST_LOW c = low ∧
    ∀ d < 16, d ≠ c → getOut (tickOut low c s) d = getOut s d ∧ (tickOut low c s).bit F.PLS_ST_LOW d = s.bit F.PLS_ST_LOW d := by
  have h := tickOut_shows low c s
  have hout : ∀ d, getOut (tickOut low c s) d = getOut (setOut c (outTick (drives s) low (getOut s c)) s) d := fun d =>
    congrArg (fun p : PlsSt => mget PlsOut.blank p.outs d) h.pls
  refine ⟨(congrArg PlsSt.role h.pls :), ?_, (hout c).trans (getOut_setOut_same c _ s), ?_, fun d hd hne => ⟨?_, ?_⟩⟩
  · have hlow : Shows (F.PLS_ST_LOW :: tickFlds) (setOut c (outTick (drives s) low (getOut s c)) s) (tickOut low c s) :=
      (Shows.refl _ _).put.trans (h.mono (by decide))
    exact hlow.drives
  · exact (h.only.bit c).trans (setBit_bit_same _ _ _ _ rfl)
  · exact (hout d).trans (getOut_setOut_other c d _ s hne)
  · exact (h.only.bit d).trans (setBit_bit_index _ low hne)

/-- After the ticks of the first n outputs those have moved by one tick, and the others have not. -/
theorem foldl_tickOut (net : BitVec 16) (s : State) {n : Nat} (hn : n ≤ 16) :
    let t := (List.range n).foldl (fun s c => tickOut (net.getLsbD c) c s) s
    t.pls.role = s.pls.role ∧ drives t = drives s ∧
      (∀ c < n, getOut t c = outTick (drives s) (net.getLsbD c) (getOut s c) ∧ t.bit F.PLS_ST_LOW c = net.getLsbD c) ∧
      ∀ c < 16, n ≤ c → getOut t c = getOut s c := by
  induction n with
  | zero => exact ⟨rfl, rfl, fun c hc => absurd hc (by omega), fun _ _ _ => rfl⟩
  | succ n ih =>
    rw [List.range_succ, List.foldl_append, List.foldl_cons, List.foldl_nil]
    obtain ⟨hrole, hdrives, hdone, hrest⟩ := ih (by omega)
    revert hrole hdrives hdone hrest
    generalize (List.range n).foldl (fun s c => tickOut (net.getLsbD c) c s) s = u
    intro hrole hdrives hdone hrest
    obtain ⟨trole, tdrives, tout, tlow, tother⟩ := tickOut_spec (net.getLsbD n) u (show n < 16 by omega)
    refine ⟨trole.trans hrole, tdrives.trans hdrives, fun c hc => ?_, fun c hc hnc => ?_⟩
    · by_cases hcn : c = n
      · subst hcn
        exact ⟨by rw [tout, hdrives, hrest c (by omega) le_rfl], tlow⟩
      · obtain ⟨hout, hlow⟩ := hdone c (by omega)
        obtain ⟨oout, olow⟩ := tother c (by omega) hcn
        exact ⟨oout.trans hout, olow.trans hlow⟩
    · exact (tother c hc (by omega)).1.trans (hrest c hc (by omega))

/-! ### The end of a pulse, and PINERR (R144, R147) -/

theorem pulseEnd_due {s : State} {c k : Nat} (hbusy : (getOut s c).busy = some k) (hk : (getOut s c).pw ≤ k) :
    pulseEnd c s = setOut c { getOut s c with busy := none, driving := false } s := by
  unfold pulseEnd
  dsimp only
  rw [hbusy]
  exact if_pos hk

theorem pulseEnd_early {s : State} {c k : Nat} (hbusy : (getOut s c).busy = some k) (hk : k < (getOut s c).pw) :
    pulseEnd c s = s := by
  unfold pulseEnd
  dsimp only
  rw [hbusy]
  exact if_neg (Nat.not_le.2 hk)

/-- Settles O29: a tick of an output is a tick of its share, its net and its debit; the end of a pulse and PINERR follow their
commands' conditions. -/
theorem pulsesStartAndEnd : Obligations.PulsesStartAndEnd := by
  refine ⟨fun s net hrun => ?_, fun role low o hshare => ⟨?_, fun hfresh => ?_, ?_⟩, fun s c k hbusy => ⟨fun hk => ?_, fun hk => ?_⟩,
    fun s c => ⟨fun hagree => ?_, fun hagree => ?_⟩⟩
  · obtain ⟨hrole, -, hdone, -⟩ := foldl_tickOut net s le_rfl
    exact ⟨_, congrArg Host.Outcome.next (if_pos hrun), hrole, hdone⟩
  · rw [outTick_begins, pulseDue_sharedTick]
    cases low <;> simp
  · obtain ⟨hres, hleft, -⟩ := outTick_spec role low o
    have hsum := takeShare_conserves hshare hfresh
    rw [hleft, hres]
    refine (sub_add_eq_add_sub _ _ _).trans (congrArg (· - _) (hsum.trans (congrArg (o.res + (o.left : Int) + ·) ?_)))
    unfold PlsOut.posted
    cases o.fresh <;> rfl
  · obtain ⟨-, -, hfresh, hdriving⟩ := outTick_spec role low o
    exact ⟨hfresh, hdriving⟩
  · exact ⟨_, congrArg Host.Outcome.next (pulseEnd_due hbusy hk), rfl, getOut_setOut_same _ _ _,
      fun d hd => getOut_setOut_other _ _ _ _ hd⟩
  · exact congrArg Host.Outcome.next (pulseEnd_early hbusy hk)
  · exact ⟨_, congrArg Host.Outcome.next (if_pos hagree), rfl, Writes_put s _ _ _ (by decide)⟩
  · exact congrArg Host.Outcome.next (if_neg (Nat.not_le.2 hagree))

end Sys2Proof.Machine
end

section
/-! Settings of the pulse outputs as they take effect, exchange instants, and the change of roles (R142, R149, R151, R154, R230). -/

namespace Sys2Proof.Machine

/-! ### Settings (R142, R154) -/

/-- An output under the settings that its registers hold, before R142 and R154 say what becomes of its residue. -/
def outConfigured (s : State) (c : Nat) : PlsOut :=
  { getOut s c with
    en := s.bit F.PLS_CFG_EN c, src := s.fld F.PLS_CFG_SRC c, width := s.fld F.PLS_CFG_WIDTH c
    pconst := s.fld F.PLS_CONST_PCONST c }

/-- Nothing is left of what an output was to emit (R142, R154). -/
def PlsOut.cleared (o : PlsOut) : PlsOut := { o with res := 0, left := 0, ticks := 0, share := 0, fresh := none }

/-- An output that is released (R142). -/
def PlsOut.released (o : PlsOut) : PlsOut := { o.cleared with busy := none, driving := false }

/-- An output as its new settings leave it: a new source clears it, and one that is disabled is released. -/
def outApplied (s : State) (c : Nat) : PlsOut :=
  let o := outConfigured s c
  let o2 := if o.src ≠ (getOut s c).src then o.cleared else o
  if o2.live then o2 else o2.released

/-- The output takes its settings, and the RATEX test follows. -/
theorem pulsesApply_shows (c : Nat) (s : State) : Shows rateFlds (setOut c (outApplied s c) s) (pulsesApply c s) :=
  rateCheck_shows c _

theorem pulsesApply_out (c : Nat) (s : State) : getOut (pulsesApply c s) c = outApplied s c :=
  (congrArg (fun p : PlsSt => mget PlsOut.blank p.outs c) (pulsesApply_shows c s).pls).trans (getOut_setOut_same c _ s)

theorem pulsesApply_out_other {c d : Nat} (s : State) (hd : d ≠ c) : getOut (pulsesApply c s) d = getOut s d :=
  (congrArg (fun p : PlsSt => mget PlsOut.blank p.outs d) (pulsesApply_shows c s).pls).trans (getOut_setOut_other c d _ s hd)

/-- The registers decide whether an output pulses; clearing its residue does not. -/
theorem outApplied_eq (s : State) (c : Nat) : outApplied s c =
    let o2 := if s.fld F.PLS_CFG_SRC c ≠ (getOut s c).src then (outConfigured s c).cleared else outConfigured s c
    if plsRegsLive s c then o2 else o2.released := by
  unfold outApplied
  extract_lets o o2
  have hlive : o2.live = plsRegsLive s c := by
    unfold o2
    split <;> rfl
  rw [hlive]
  rfl

/-- An output with EN 0 or PCONST 0 is released, with nothing left to emit (R142). -/
theorem outApplied_released {s : State} {c : Nat} (h : plsRegsLive s c = false) :
    let o := outApplied s c
    o.live = false ∧ o.res = 0 ∧ o.left = 0 ∧ o.ticks = 0 ∧ o.fresh = none ∧ o.busy = none ∧ o.driving = false := by
  rw [outApplied_eq]
  extract_lets o2 o
  have ho : o = o2.released := if_neg (by simp [h])
  have hlive : o2.live = plsRegsLive s c := by
    unfold o2
    split <;> rfl
  rw [ho]
  exact ⟨hlive.trans h, rfl, rfl, rfl, rfl, rfl, rfl⟩

/-- An output that pulses takes its settings; the residue is kept where the source is (R154). -/
theorem outApplied_running {s : State} {c : Nat} (h : plsRegsLive s c = true) :
    let o := outApplied s c
    o.en = s.bit F.PLS_CFG_EN c ∧ o.src = s.fld F.PLS_CFG_SRC c ∧ o.width = s.fld F.PLS_CFG_WIDTH c ∧
      o.pconst = s.fld F.PLS_CONST_PCONST c ∧ o.busy = (getOut s c).busy ∧ o.pw = (getOut s c).pw ∧
      o.res = if s.fld F.PLS_CFG_SRC c = (getOut s c).src then (getOut s c).res else 0 := by
  rw [outApplied_eq]
  extract_lets o2 o
  have ho : o = o2 := if_pos h
  rw [ho]
  unfold o2
  by_cases hsrc : s.fld F.PLS_CFG_SRC c = (getOut s c).src
  · rw [if_neg (not_not.2 hsrc), if_pos hsrc]
    exact ⟨rfl, rfl, rfl, rfl, rfl, rfl, rfl⟩
  · rw [if_pos hsrc, if_neg hsrc]
    exact ⟨rfl, rfl, rfl, rfl, rfl, rfl, rfl⟩

theorem plsRegsLive_eq_false {s : State} {c : Nat} (h : s.bit F.PLS_CFG_EN c = false ∨ s.fld F.PLS_CONST_PCONST c = 0) :
    plsRegsLive s c = false := by
  unfold plsRegsLive
  rcases h with h | h <;> simp [h]

theorem plsRegsLive_eq_true {s : State} {c : Nat} (hen : s.bit F.PLS_CFG_EN c = true) (hconst : s.fld F.PLS_CONST_PCONST c ≠ 0) :
    plsRegsLive s c = true := by
  unfold plsRegsLive
  simp [hen, hconst]

theorem pulsesApplyAt_due {s : State} {c : Nat} (hrun : running s = true)
    (h : plsIdle s c = true ∨ meterAtBoundary s (pulseMeter s c) = true) : pulsesApplyAt c s = pulsesApply c s :=
  if_pos (by rcases h with h | h <;> simp [hrun, h])

theorem pulsesApplyAt_waits {s : State} {c : Nat} (hidle : plsIdle s c = false)
    (hat : meterAtBoundary s (pulseMeter s c) = false) : pulsesApplyAt c s = s := if_neg (by simp [hidle, hat])

/-- With nothing posted and nothing left to spread there is no share. -/
theorem takeShare_nothing {o : PlsOut} (hticks : o.ticks = 0) (hfresh : o.fresh = none) : takeShare o = o := by
  unfold takeShare
  rw [hfresh]
  exact if_pos hticks

/-- An output that does not pulse stays as it is at a tick, but for the net that it reads. -/
theorem outTick_released (role low : Bool) {o : PlsOut} (hlive : o.live = false) (hticks : o.ticks = 0) (hfresh : o.fresh = none)
    (hbusy : o.busy = none) : ∃ n, outTick role low o = { readNet low o with agree := n } := by
  have hshared : sharedTick low o = readNet low o := by
    unfold sharedTick
    rw [takeShare_nothing hticks hfresh, hbusy]
    exact congrArg (readNet low) (by cases o; cases hbusy; rfl)
  have hdue : pulseDue (readNet low o) ≠ true := by
    rw [← hshared, Ne, pulseDue_sharedTick, hlive]
    simp
  obtain ⟨n, h⟩ := outTick_eq role low o
  rw [hshared, if_neg hdue] at h
  exact ⟨n, h⟩

/-- Settles O30: settings with EN 0 or PCONST 0 release the output and clear it, and no tick changes that. -/
theorem disabledOutputIsReleased : Obligations.DisabledOutputIsReleased := by
  refine ⟨fun s c hrun hdue hoff => ?_, fun role low o hlive hres hticks hleft hfresh hbusy hdriving => ?_⟩
  · have hreleased := outApplied_released (plsRegsLive_eq_false hoff)
    rw [← pulsesApply_out] at hreleased
    obtain ⟨hlive, hres, hleft, hticks, hfresh, hbusy, hdriving⟩ := hreleased
    exact ⟨_, congrArg Host.Outcome.next (pulsesApplyAt_due hrun hdue), hlive, hres, hleft, hticks, hfresh, hbusy, hdriving,
      fun d hd => pulsesApply_out_other s hd⟩
  · obtain ⟨n, h⟩ := outTick_released role low hlive hticks hfresh hbusy
    obtain ⟨rlive, -, -, rres, rleft, rticks, -, rbusy, rdriving, -⟩ := readNet_keeps low o
    rw [h]
    exact ⟨rres.trans hres, rleft.trans hleft, rticks.trans hticks, rbusy.trans hbusy, rdriving.trans hdriving, rlive.trans hlive⟩

/-! ### Exchange instants (R149) -/

/-- What output c records at an exchange instant. -/
def outRecorded (s : State) (c : Nat) : PlsOut :=
  { getOut s c with
    exRes := (getOut s c).res, exCnt := s.fld F.PLS_CNT_CNT c, exNet := (getOut s c).net
    prev := if s.fld F.TWN_ST_ROLE = 1 then some (s.fld F.PLS_CNT_CNT c, (getOut s c).net) else (getOut s c).prev }

/-- The outputs have changed, and nothing else. -/
def withOuts (outs : SMap PlsOut) (s : State) : State := { s with pls := { s.pls with outs := outs } }

/-- After the first n outputs those have recorded, and the others are as before. -/
theorem foldl_record (s : State) (n : Nat) :
    ∃ outs, (List.range n).foldl (fun s c => setOut c (outRecorded s c) s) s = withOuts outs s ∧
      ∀ c, mget PlsOut.blank outs c = if c < n then outRecorded s c else getOut s c := by
  induction n with
  | zero => exact ⟨s.pls.outs, rfl, fun c => rfl⟩
  | succ n ih =>
    obtain ⟨outs, hfold, hout⟩ := ih
    have hsame : getOut (withOuts outs s) n = getOut s n := (hout n).trans (if_neg (Nat.lt_irrefl n))
    have hnext : outRecorded (withOuts outs s) n = outRecorded s n := by
      unfold outRecorded
      rw [hsame]
      rfl
    refine ⟨mput PlsOut.blank outs n (outRecorded s n), ?_, fun c => ?_⟩
    · rw [List.range_succ, List.foldl_append, hfold, List.foldl_cons, List.foldl_nil, hnext]
      rfl
    · by_cases hc : c = n
      · rw [hc, mget_mput_same, if_pos (Nat.lt_succ_self n)]
      · rw [mget_mput_other _ _ _ _ _ _ hc, hout]
        exact if_congr (by omega) rfl rfl

/-- The outputs record, and all else is as before. -/
theorem recordOuts_spec (s : State) : ∃ outs, recordOuts s = withOuts outs s ∧
    ∀ c < 16, mget PlsOut.blank outs c = outRecorded s c := by
  obtain ⟨outs, hfold, hout⟩ := foldl_record s 16
  refine ⟨outs, ?_, fun c hc => (hout c).trans (if_pos hc)⟩
  rw [← hfold]
  unfold recordOuts outRecorded
  simp only [beq_iff_eq]

theorem startMetering_again {s : State} (h : s.pwr.metering = true) : startMetering s = s := if_pos h

theorem offerTransfer_unready {s : State} (h : transferReady s = false) : offerTransfer s = s := if_neg (by simp [h])

section Alone

variable {t : Nat} {runs : List ChanRun} {s : State} {outs : SMap PlsOut} (hrun : running s = true)
  (hmet : s.pwr.metering = true) (hpair : s.fld F.TWN_ST_STATE ≠ 6) (hready : transferReady s = false)
  (hrec : recordOuts (reachTime t s) = withOuts outs (reachTime t s))

include hrun hmet hpair hready hrec

/-- A device that meters and is neither paired nor ready for a transfer does no more at an exchange instant than record. -/
theorem exchangeInstant_alone : exchangeInstant t runs s = withOuts outs (reachTime t s) := by
  unfold exchangeInstant
  rw [if_pos hrun]
  extract_lets s0 s1 s2
  have h1 : s1 = s0 := by
    unfold s1
    rw [startMetering_again (s := s0) hmet]
    exact ite_self _
  have h2 : s2 = withOuts outs (reachTime t s) := by
    unfold s2
    rw [h1, hrec]
    exact offerTransfer_unready hready
  rw [h2]
  exact if_neg hpair

/-- Without samples to send, a start of metering or a power request there is nothing to report or to start. -/
theorem exchangeStep_alone (hsends : sendsSamples s = false) (hreq : s.pwr.req = none) :
    exchangeStep t runs s = withOuts outs (reachTime t s) := by
  have hsends' : sendsSamples (withOuts outs (reachTime t s)) = false := hsends
  have hreport : reportUncovered t (withOuts outs (reachTime t s)) = withOuts outs (reachTime t s) := if_neg (by simp [hsends'])
  unfold exchangeStep
  rw [exchangeInstant_alone hrun hmet hpair hready hrec, hreport]
  extract_lets s1 s2
  have h2 : s2 = s1 := if_neg (by simp [hmet])
  have hreq1 : s1.pwr.req = none := hreq
  rw [h2, hreq1]
  exact if_neg (by simp)

end Alone

/-! ### The change of roles (R151, R230) -/

/-- The Lead role has passed. -/
def leadPassed (s : State) : State :=
  { s with twn := { s.twn with lead := !s.twn.lead, roleT := s.clk.site + 1, swapReq := false, homing := false } }

/-- The new role shows, and a new Lead has no phase error. -/
def roleShown (lead : Bool) (s : State) : State :=
  let u := (s.put F.TWN_ST_ROLE 0 (if lead then 1 else 2)).put F.TWN_ST_PHLOCK 0 1
  if lead then u.put F.TWN_PHASE_PHERR 0 0 else u

/-- The Lead role and the driver role have passed, before event 37. -/
def rolesPassed (s : State) : State := (setRole (!s.twn.lead) (roleShown (!s.twn.lead) (leadPassed s))).put F.TWN_ST_ROLEL 0 1

theorem roleChange_eq (s : State) : roleChange s = raise 37 0xFFFF (rolesPassed s) := rfl

theorem roleShown_keeps (lead : Bool) (s : State) : (roleShown lead s).twn = s.twn ∧ (roleShown lead s).pls = s.pls := by
  cases lead <;> exact ⟨rfl, rfl⟩

theorem rolesPassed_state (s : State) : (rolesPassed s).twn.lead = !s.twn.lead ∧ (rolesPassed s).twn.swapReq = false ∧
    (rolesPassed s).pls = { s.pls with role := !s.twn.lead } := by
  obtain ⟨htwn, hpls⟩ := roleShown_keeps (!s.twn.lead) (leadPassed s)
  exact ⟨congrArg TwnSt.lead htwn, congrArg TwnSt.swapReq htwn, congrArg (fun p : PlsSt => { p with role := !s.twn.lead }) hpls⟩

theorem roleShown_fld (lead : Bool) (s : State) : (roleShown lead s).fld F.TWN_ST_ROLE = (if lead then 1 else 2) ∧
    (roleShown lead s).fld F.TWN_ST_PHLOCK = 1 := by
  cases lead with
  | true =>
    exact ⟨(put_fld_field _ _ _ _ _ _ (by decide)).trans ((put_fld_field _ _ _ _ _ _ (by decide)).trans (put_fld_same _ _ _ _)),
      (put_fld_field _ _ _ _ _ _ (by decide)).trans (put_fld_same _ _ _ _)⟩
  | false => exact ⟨(put_fld_field _ _ _ _ _ _ (by decide)).trans (put_fld_same _ _ _ _), put_fld_same _ _ _ _⟩

theorem rolesPassed_shows (s : State) : (rolesPassed s).fld F.TWN_ST_ROLE = (if s.twn.lead then 2 else 1) ∧
    (rolesPassed s).bit F.TWN_ST_ROLEL = true ∧ (rolesPassed s).bit F.TWN_ST_PHLOCK = true := by
  obtain ⟨hrole, hphlock⟩ := roleShown_fld (!s.twn.lead) (leadPassed s)
  have hput : ∀ f : Fld, F.TWN_ST_ROLEL.id ≠ f.id → (rolesPassed s).fld f = (roleShown (!s.twn.lead) (leadPassed s)).fld f :=
    fun f hf => put_fld_field _ _ _ _ _ _ hf
  refine ⟨(hput _ (by decide)).trans (hrole.trans ?_), bit_of_fld_one (put_fld_same _ _ _ _),
    bit_of_fld_one ((hput _ (by decide)).trans hphlock)⟩
  cases s.twn.lead <;> rfl

/-- Settles O31: an exchange instant records; a role change passes both roles; a PULSES update waits for the meter's boundary and
keeps the residue of a source that stays. -/
theorem exchangeAndRoleChange : Obligations.ExchangeAndRoleChange := by
  refine ⟨fun s t0 rs hrun hmet hpair hready hsends hreq => ?_, fun s hpair hswap => ?_, fun s c hidle hat => ?_,
    fun s c hrun hen hconst hat => ?_⟩
  · obtain ⟨outs, hrec, hout⟩ := recordOuts_spec (reachTime t0 s)
    exact ⟨_, congrArg Host.Outcome.next (exchangeStep_alone hrun hmet hpair hready hrec hsends hreq), rfl, hout⟩
  · obtain ⟨hlead, hreq, hpls⟩ := rolesPassed_state s
    obtain ⟨hrole, hrolel, hphlock⟩ := rolesPassed_shows s
    exact ⟨_, congrArg Host.Outcome.next ((if_pos ⟨hpair, hswap⟩).trans (roleChange_eq s)), hlead, hreq, hpls, hrole, hrolel, hphlock⟩
  · exact congrArg Host.Outcome.next (pulsesApplyAt_waits hidle hat)
  · have h := outApplied_running (plsRegsLive_eq_true hen hconst)
    rw [← pulsesApply_out, hen] at h
    exact ⟨_, congrArg Host.Outcome.next (pulsesApplyAt_due hrun (.inr hat)), h⟩

end Sys2Proof.Machine
end


section
/-! The frame of arbitration: what claims, verdicts, corrections and postings leave of the compare records, of the channel items that
wait for a match, and of the fields in which records show (R233, R234, R237 to R242). -/

namespace Sys2Proof.Machine

/-- The state of the pair, the count of records lost, and what a record shows. -/
def recordFlds : List Fld := [F.TWN_ST_STATE, F.TWN_CNT_LOSTREC, F.TWN_ST_DIGOK, F.TWN_ST_PEERFAIL]

/-- Is a field none of those in which records show? -/
def notRecordFld (g : Fld) : Bool := recordFlds.all fun f => g.id != f.id

theorem ne_of_notRecordFld {g f : Fld} (hg : notRecordFld g = true) (hf : f ∈ recordFlds) : g.id ≠ f.id := by
  simpa using List.all_eq_true.1 hg f hf

theorem evtFlds_notRecordFld : ∀ p ∈ evtFlds, notRecordFld p.1 = true := by decide

/-- Going from r to s, the twin's records, the items that wait and the fields in which records show are kept. -/
def RecordsKept (r s : State) : Prop :=
  s.twn.ownCh = r.twn.ownCh ∧ s.twn.peer = r.twn.peer ∧ ∀ f ∈ recordFlds, ∀ i, s.fld f i = r.fld f i

namespace RecordsKept

-- Elaborated side by side, the many short proofs below would each hold a thread, and the threads' stacks are large.
set_option Elab.async false

variable {r s t : State}

theorem refl (s : State) : RecordsKept s s := ⟨rfl, rfl, fun _ _ _ => rfl⟩

theorem trans (hrs : RecordsKept r s) (hst : RecordsKept s t) : RecordsKept r t := by
  obtain ⟨hown, hpeer, hfld⟩ := hrs
  obtain ⟨hown', hpeer', hfld'⟩ := hst
  exact ⟨hown'.trans hown, hpeer'.trans hpeer, fun f hf i => (hfld' f hf i).trans (hfld f hf i)⟩

theorem ownCh (h : RecordsKept r s) : s.twn.ownCh = r.twn.ownCh := h.1

theorem peer (h : RecordsKept r s) : s.twn.peer = r.twn.peer := h.2.1

/-- A field in which records show, read after operations that keep it. -/
theorem fld (h : RecordsKept r s) {f : Fld} (i : Nat) (hf : f ∈ recordFlds := by decide) : s.fld f i = r.fld f i := h.2.2 f hf i

theorem bit (h : RecordsKept r s) {f : Fld} (i : Nat) (hf : f ∈ recordFlds := by decide) : s.bit f i = r.bit f i :=
  congrArg (· != 0) (h.fld i hf)

theorem ite {c : Prop} [Decidable c] (hs : RecordsKept r s) (ht : RecordsKept r t) : RecordsKept r (if c then s else t) := by
  split
  · exact hs
  · exact ht

theorem foldl {α : Type} {g : State → α → State} (h : RecordsKept r s) (l : List α)
    (hg : ∀ u a, RecordsKept r u → RecordsKept r (g u a)) : RecordsKept r (l.foldl g s) :=
  List.foldlRecOn l g h fun u hu a _ => hg u a hu

/-- A write of another field. -/
theorem put {g : Fld} {i v : Nat} (h : RecordsKept r s) (hg : notRecordFld g = true := by rfl) : RecordsKept r (s.put g i v) :=
  ⟨h.ownCh, h.peer, fun _ hf j => (put_fld_field s g _ i j v (ne_of_notRecordFld hg hf)).trans (h.fld j hf)⟩

/-- A change of anything but the register fields and the state of the pair. -/
theorem elsewhere {pending : List Instr} {clk : ClockSt} {ctl : CtlRun} {host : HostSt} {pwr : PwrSt} {ldg : LdgSt} {evt : EvtSt}
    {inp : InpSt} {rmt : RmtSt} {flt : FltSt} {flts : FltsSt} {cal : CalSt} {mtr : MtrSt} {itn : ItnSt} {grd : GrdSt}
    {hrm : HrmSt} {dst : DstSt} {pls : PlsSt} {way : WaySt} {rng : Nat} {sbx : SbxSt} {cvn : CvnSt} {sar : SarSt} {dsp : DspSt}
    {prt : PrtSt} (h : RecordsKept r s) : RecordsKept r ⟨pending, s.flds, clk, ctl, host, pwr, ldg, evt, inp, rmt, flt, flts, cal,
      s.twn, mtr, itn, grd, hrm, dst, pls, way, rng, sbx, cvn, sar, dsp, prt⟩ := h

/-- A change of the state of the pair, but for the records and the items that wait. -/
theorem pair {w : TwnSt} (h : RecordsKept r s) (hown : w.ownCh = s.twn.ownCh := by rfl) (hpeer : w.peer = s.twn.peer := by rfl) :
    RecordsKept r { s with twn := w } := ⟨hown.trans h.ownCh, hpeer.trans h.peer, h.2.2⟩

theorem after_lower {g : Fld} {i : Nat} (h : RecordsKept r s) (hg : notRecordFld g = true := by rfl) :
    RecordsKept r (s.lower g i) := (h.put hg).elsewhere.ite h

theorem after_lift {g : Fld} {i : Nat} (h : RecordsKept r s) (hg : notRecordFld g = true := by rfl) :
    RecordsKept r (s.lift g i) := h.ite (h.put hg).elsewhere

theorem after_inc {g : Fld} {i : Nat} (h : RecordsKept r s) (hg : notRecordFld g = true := by rfl) :
    RecordsKept r (s.inc g i) := h.put hg

/-- An operation that shows in fields of its own. -/
theorem after_shows {l : List Fld} (h : RecordsKept r s) (hst : Shows l s t) (hl : l.all notRecordFld = true := by decide) :
    RecordsKept r t := by
  refine h.trans ⟨congrArg TwnSt.ownCh hst.twn, congrArg TwnSt.peer hst.twn, fun f hf i => hst.only f i fun g hg => ?_⟩
  exact ne_of_notRecordFld (List.all_eq_true.1 hl g hg) hf

/-! #### Events, messages and faults -/

theorem after_raise {e d : Nat} (h : RecordsKept r s) (he : e < 128 := by decide) : RecordsKept r (raise e d s) :=
  h.after_shows (l := evtNums) ((Shows.refl _ s).after_raise he)

theorem after_raiseIf {b : Bool} {e d : Nat} (h : RecordsKept r s) (he : e < 128 := by decide) :
    RecordsKept r (raiseIf b e d s) := (h.after_raise he).ite h

theorem after_sendMsg {m : TwnMsg} (h : RecordsKept r s) : RecordsKept r (sendMsg m s) := by
  unfold sendMsg tetherSend sendSegments
  exact h.pair.pair.foldl _ fun _ _ hu => hu.elsewhere

theorem after_sendHead {b : LinkBody} (h : RecordsKept r s) : RecordsKept r (sendHead b s) := h.elsewhere

theorem after_evalDState (h : RecordsKept r s) : RecordsKept r (evalDState s) := by
  unfold evalDState
  exact (h.put.elsewhere.put.after_raise.pair.after_sendMsg.ite h.put.elsewhere.put.after_raise).ite h.put

theorem after_ruleDouble {fs : List FaultRec} {inOne : Bool} (h : RecordsKept r s) : RecordsKept r (ruleDouble fs inOne s) := by
  unfold ruleDouble makeFailed
  exact h.elsewhere.put.put.after_raise.elsewhere.after_evalDState.ite h.elsewhere.put.put.after_raise

theorem after_openWindow {f : FaultRec} (h : RecordsKept r s) : RecordsKept r (openWindow f s) := by
  unfold openWindow
  refine h.elsewhere.after_ruleDouble.ite ?_
  dsimp only
  split
  · exact h.elsewhere.put.put.put.after_ruleDouble
  · exact h.elsewhere.put.put.put

theorem after_permanent {cls unit detail : Nat} {spare scrub : Bool} {chan : Option Nat} (h : RecordsKept r s) :
    RecordsKept r (permanent cls unit detail spare scrub chan s) := by
  unfold permanent noteFault latent State.setBit
  extract_lets s1 s2
  have h1 : RecordsKept r s1 := h.after_inc.put.put.put.put.put.put.put.put.put
  have h2 : RecordsKept r s2 := h1.after_raise.put.after_raise.ite h1.after_raise
  exact (h2.after_openWindow.ite h2).after_evalDState

/-! #### Spares and their slots -/

theorem after_setPath {n : Nat} {p : StreamPath} (h : RecordsKept r s) : RecordsKept r (setPath n p s) := h

theorem after_fastClear {n : Nat} (h : RecordsKept r s) : RecordsKept r (fastClear n s) := by
  unfold fastClear pathFastClear
  exact h.put.put.put.after_setPath.elsewhere

theorem after_retarget {sp : Nat} {f : State → State} (h : RecordsKept r (f s)) : RecordsKept r (retarget sp f s) := by
  unfold retarget
  exact h.ite h.after_fastClear.elsewhere

theorem after_setSp {sp : Nat} {x : SpareSt} (h : RecordsKept r s) : RecordsKept r (setSp sp x s) := after_retarget h.elsewhere

theorem after_setSlot {sp : Nat} {x : Option Slot} (h : RecordsKept r s) : RecordsKept r (setSlot sp x s) := h.after_setSp

theorem after_watchFree {b : Nat} {f : State → State} (h : RecordsKept r (f s)) : RecordsKept r (watchFree b f s) := by
  unfold watchFree
  dsimp only
  split
  · exact h
  · exact h.after_raise.ite h

theorem after_skipSlot {n : Nat} (h : RecordsKept r s) : RecordsKept r (skipSlot n s) := h.after_inc.after_raise

theorem after_serveForce {b : Nat} (h : RecordsKept r s) : RecordsKept r (serveForce b s) := by
  unfold serveForce refuseForce startSlot
  refine ite (ite h.put.put ?_) h
  split
  · exact h.put.after_setSlot.ite h
  · exact h

theorem after_serveLive {b : Nat} (h : RecordsKept r s) : RecordsKept r (serveLive b s) := by
  unfold serveLive startLive
  split
  · exact h
  · split
    · exact h.after_setSp.elsewhere
    · exact h

theorem after_serveResp {b : Nat} (h : RecordsKept r s) : RecordsKept r (serveResp b s) := by
  unfold serveResp
  split
  · exact h
  · split
    · exact h.after_lift.elsewhere.after_setSp.elsewhere
    · exact h

theorem after_startRoutine {sp k : Nat} (h : RecordsKept r s) : RecordsKept r (startRoutine sp k s) := by
  unfold startRoutine startSlot
  refine ite ?_ h
  split
  · exact h.after_setSlot
  · exact h

theorem after_resume {sp : Nat} (h : RecordsKept r s) : RecordsKept r (resume sp s) := by
  unfold resume
  dsimp only
  split
  · exact h
  · exact h.after_setSp.after_skipSlot.ite (h.after_setSp.after_setSlot.ite h.after_setSp.after_setSlot)

theorem after_sessAdvance {x : Sess} (h : RecordsKept r s) : RecordsKept r (sessAdvance x s) :=
  (h.elsewhere.put.ite h.elsewhere).ite ((h.elsewhere.put.ite h.elsewhere).ite h.elsewhere)

theorem after_refinStart (h : RecordsKept r s) : RecordsKept r (refinStart s) := by
  unfold refinStart
  split
  · refine ite ?_ h
    split
    · exact h.after_sessAdvance
    · exact h.ite h.after_setSp
  · exact h

theorem after_settleBank {b : Nat} (h : RecordsKept r s) : RecordsKept r (settleBank b s) := h.after_refinStart.after_serveForce

theorem after_nextWork {sp : Nat} (h : RecordsKept r s) : RecordsKept r (nextWork sp s) := by
  refine after_watchFree ?_
  unfold takeWork
  extract_lets b s1 s2 s3
  have h1 : RecordsKept r s1 := h.after_serveLive.after_serveResp
  have h3 : RecordsKept r s3 := (h1.after_resume.ite h1).after_refinStart.after_serveForce
  split
  · exact h3.after_setSp.after_startRoutine.ite h3
  · exact h3

/-! #### Slots that are lost -/

theorem after_trimTrigger (h : RecordsKept r s) : RecordsKept r (trimTrigger s) := h.elsewhere.ite h.elsewhere.put

theorem after_liveRequest {n range sensor : Nat} (h : RecordsKept r s) : RecordsKept r (liveRequest n range sensor s) := by
  unfold liveRequest
  exact h.elsewhere.ite (after_watchFree h.elsewhere.after_serveLive).after_settleBank

theorem after_dropSlot {k : Slot} (h : RecordsKept r s) : RecordsKept r (dropSlot k s) := by
  unfold dropSlot
  cases k.kind with
  | routine => exact h.after_skipSlot
  | forced => exact h.after_skipSlot
  | live range sensor =>
    dsimp only
    split
    · exact h.after_skipSlot.after_liveRequest.after_trimTrigger.ite h.after_skipSlot.after_liveRequest
    · exact h.after_skipSlot
  | third a out =>
    dsimp only
    split
    · exact h.after_setSlot.ite h
    · exact h

theorem after_dropKept {sp : Nat} (h : RecordsKept r s) : RecordsKept r (dropKept sp s) := by
  unfold dropKept
  split
  · exact h
  · exact h.after_setSp.after_dropSlot

theorem after_unlend {sp : Nat} (h : RecordsKept r s) : RecordsKept r (unlend sp s) := by
  unfold unlend lostSpare
  split
  · exact h
  · dsimp only
    split
    · exact h.after_setSp.after_lower.elsewhere
    · exact h.after_setSp.after_lower

theorem after_bankCheck {b : Nat} (h : RecordsKept r s) : RecordsKept r (bankCheck b s) := by
  unfold bankCheck
  extract_lets mine _ s1 s2 s3
  have h1 : RecordsKept r s1 := h.elsewhere
  have h2 : RecordsKept r s2 := h1.ite h1.after_trimTrigger
  have h3 : RecordsKept r s3 := by
    refine h2.foldl _ fun u n hu => ?_
    split
    · exact hu.elsewhere.ite hu
    · exact hu
  exact h3.after_serveForce.ite h.after_serveForce

/-! #### Streams that change hands -/

theorem after_spliceMarks {n : Nat} (h : RecordsKept r s) : RecordsKept r (spliceMarks n s) := h.elsewhere.ite h

theorem after_setFeed {n k : Nat} (h : RecordsKept r s) : RecordsKept r (setFeed n k s) := h.put

theorem after_feedOwn {n : Nat} (h : RecordsKept r s) : RecordsKept r (feedOwn n s) := h.after_setFeed

theorem after_glideFrom {k n : Nat} {f : State → State} (h : RecordsKept r (f s)) : RecordsKept r (glideFrom k n f s) :=
  h.after_setPath

theorem after_glide {n : Nat} {f : State → State} (h : RecordsKept r (f s)) : RecordsKept r (glide n f s) := after_glideFrom h

theorem after_traceAtSplice {n : Nat} (h : RecordsKept r s) : RecordsKept r (traceAtSplice n s) := by
  unfold traceAtSplice putTrace State.putI State.setBit
  exact h.elsewhere.put.put.put.put.after_raiseIf.after_raiseIf.elsewhere

theorem after_liveSettings {sl : Slot} (h : RecordsKept r s) : RecordsKept r (liveSettings sl s) := by
  unfold liveSettings
  cases sl.kind with
  | live range sensor => exact h.elsewhere.after_traceAtSplice
  | routine => exact h
  | forced => exact h
  | third a out => exact h

theorem after_driftStep {sl : Slot} (h : RecordsKept r s) : RecordsKept r (driftStep sl s) := by
  unfold driftStep State.putI
  split
  · exact h
  · exact h.put.put.after_raiseIf

theorem after_finishReturn {sp : Nat} {sl : Slot} (h : RecordsKept r s) : RecordsKept r (finishReturn sp sl s) := by
  refine after_setSlot (after_inc (h.ite (after_spliceMarks (after_glideFrom (after_feedOwn ?_)))))
  exact h.ite h.after_driftStep

theorem after_preempt {sp : Nat} (h : RecordsKept r s) : RecordsKept r (preempt sp s) := by
  unfold preempt
  dsimp only
  split
  · exact h.after_setSp.ite h.after_unlend
  · refine h.after_finishReturn.ite (h.after_dropKept.after_setSp.ite (ite ?_ (after_spliceMarks (after_glide ?_))))
    · exact h.after_dropKept.after_setSp.after_liveSettings.after_feedOwn.after_spliceMarks
    · exact h.after_dropKept.after_setSp.after_feedOwn

theorem after_yieldTo {n sp : Nat} (h : RecordsKept r s) : RecordsKept r (yieldTo n sp s) := by
  unfold yieldTo
  split
  · refine ite (after_spliceMarks (after_liveSettings (after_glideFrom ?_))) h.after_dropKept.after_setSp
    exact h.after_dropKept.after_setSp.after_setFeed
  · exact h.after_preempt.after_setSp

theorem after_claimSpare {n : Nat} (h : RecordsKept r s) : RecordsKept r (claimSpare n s).2 := by
  unfold claimSpare
  split
  · exact h
  · split
    · exact h
    · exact (after_watchFree h.after_yieldTo).after_settleBank.after_raise

theorem after_releaseSpare {n : Nat} (h : RecordsKept r s) : RecordsKept r (releaseSpare n s) := by
  unfold releaseSpare
  split
  · exact h
  · exact after_nextWork (after_setSp (ite (after_spliceMarks (after_glide h.after_feedOwn)) h))

theorem after_retireSpare {sp : Nat} (h : RecordsKept r s) : RecordsKept r (retireSpare sp s) := by
  refine after_bankCheck (after_dropKept (after_watchFree ?_))
  extract_lets k _ s1
  have h1 : RecordsKept r s1 := after_retarget h.put.put.after_unlend.after_setSp
  exact h1.after_raiseIf.after_permanent

theorem after_substitute {n sp : Nat} {mtch : Option (Rat × Rat)} (h : RecordsKept r s) :
    RecordsKept r (substitute n sp mtch s) := by
  refine after_bankCheck (after_dropKept (elsewhere (after_watchFree ?_)))
  extract_lets k s0 range s1 _ s2
  have h1 : RecordsKept r s1 := (h.ite h.after_retireSpare).elsewhere
  have h2 : RecordsKept r s2 := after_retarget h1.put.put.put.after_setSp
  exact h2.after_raiseIf.after_permanent

/-! #### Disputes and verdicts -/

theorem after_setDispute {n : Nat} {d : Option Dispute} (h : RecordsKept r s) : RecordsKept r (setDispute n d s) := h.pair

theorem after_mapBit {f : Fld} {n : Nat} {b : Bool} (h : RecordsKept r s) (hf : notRecordFld f = true := by rfl) :
    RecordsKept r (mapBit f n b s) := h.ite (h.put hf)

theorem after_setCstate {n k : Nat} (h : RecordsKept r s) : RecordsKept r (setCstate n k s) := h.put

theorem after_claimWitness {n : Nat} (h : RecordsKept r s) : RecordsKept r (claimWitness n s) := by
  unfold claimWitness
  split
  · exact h
  · have h1 : RecordsKept r (if n < 112 then claimSpare n s else (none, s)).2 := by
      split
      · exact h.after_claimSpare
      · exact h
    exact h1.after_setCstate.after_setDispute

theorem after_declare {n t0 start : Nat} {branch : Option Bool} (h : RecordsKept r s) :
    RecordsKept r (declare n t0 start branch s) := by
  unfold declare
  exact h.ite h.elsewhere.after_setDispute.after_mapBit.after_inc.after_inc.after_setCstate.put.after_raise

theorem after_showVerdict {n v side : Nat} (h : RecordsKept r s) : RecordsKept r (showVerdict n v side s) := h.put.put.put

theorem after_closeDispute {n : Nat} (h : RecordsKept r s) : RecordsKept r (closeDispute n s) :=
  h.put.pair.after_setDispute.after_mapBit.elsewhere.after_setCstate

theorem after_retireFeeding {n : Nat} (h : RecordsKept r s) : RecordsKept r (retireFeeding n s) := by
  unfold retireFeeding
  split
  · exact after_releaseSpare (after_spliceMarks (after_glide h.after_retireSpare.after_feedOwn))
  · split
    · exact after_spliceMarks (after_glide h.after_substitute.after_feedOwn)
    · exact h

theorem after_rmtVerdict {n : Nat} {unres : Bool} (h : RecordsKept r s) : RecordsKept r (rmtVerdict n unres s) := by
  unfold rmtVerdict
  extract_lets s1
  have h1 : RecordsKept r s1 := by
    refine h.foldl _ fun u sp hu => ?_
    split
    · exact (hu.after_setSlot.after_skipSlot.after_nextWork.ite hu.after_setSlot).ite hu
    · exact hu
  exact h1.ite h1.after_lower

theorem after_addSpan {n start : Nat} (h : RecordsKept r s) : RecordsKept r (addSpan n start s) := h.pair

theorem after_settle {n : Nat} {d : Dispute} {me : Bool} (h : RecordsKept r s) : RecordsKept r (settle n d me s) := by
  have h1 : ∀ v, RecordsKept r (noteVerdict v s) := fun _ => h.pair
  unfold settle
  refine ite (after_ruleDouble (ite ?_ (foldl ?_ _ fun _ _ hu => hu.after_addSpan))) ((h1 _).after_addSpan.ite (h1 _))
  · exact (h1 _).pair
  · exact (h1 _).pair

/-- A verdict against one side: the modulator, or the branch. -/
theorem after_verdictMod {n : Nat} {d : Dispute} {me : Bool} (h : RecordsKept r s) : RecordsKept r (verdictMod n d me s) := by
  have h1 : RecordsKept r (showVerdict n 1 (if me then 1 else 2) (raise 39 n s)) := h.after_raise.after_showVerdict
  exact after_settle (after_rmtVerdict (after_closeDispute (h1.after_retireFeeding.ite h1.after_releaseSpare)))

theorem after_verdictBranch {n : Nat} {d : Dispute} {me : Bool} (h : RecordsKept r s) :
    RecordsKept r (verdictBranch n d me s) := by
  have h1 : RecordsKept r (showVerdict n 2 (if me then 1 else 2) (raise 39 n s)) := h.after_raise.after_showVerdict
  exact after_setCstate (after_mapBit (pair (after_settle (after_rmtVerdict (after_closeDispute h1.after_releaseSpare)))))

theorem after_verdictBoth {n : Nat} {d : Dispute} (h : RecordsKept r s) : RecordsKept r (verdictBoth n d s) := by
  have h1 : RecordsKept r (showVerdict n 3 3 (raise 39 n s)) := h.after_raise.after_showVerdict
  have h2 := (h1.after_retireFeeding (n := n)).after_closeDispute (n := n)
  unfold verdictBoth doubleOneEach
  exact h2.after_ruleDouble.after_rmtVerdict.ite h2.after_ruleDouble.after_rmtVerdict.after_addSpan

theorem after_verdictNone {n : Nat} {d : Dispute} (h : RecordsKept r s) : RecordsKept r (verdictNone n d s) := by
  have h1 : RecordsKept r (raise 40 n ((showVerdict n 4 0 (raise 39 n s)).put F.TWN_ST_UNRESL 0 1)) :=
    h.after_raise.after_showVerdict.put.after_raise
  have h2 := (h1.after_releaseSpare (n := n)).after_rmtVerdict (n := n) (unres := true)
  exact h2.after_setDispute.after_setCstate.ite h2.after_setDispute.after_setCstate.after_addSpan

theorem after_verdict {n : Nat} {d : Dispute} (h : RecordsKept r s) : RecordsKept r (verdict n d s) := by
  unfold verdict
  refine h.after_verdictBoth.ite (h.after_verdictMod.ite (h.after_verdictMod.ite ?_))
  split
  · exact h.after_verdictBranch
  · exact h.after_verdictNone

theorem after_arbitration {t0 n : Nat} (h : RecordsKept r s) : RecordsKept r (arbitration t0 n s) := by
  unfold arbitration
  split
  · exact h
  · exact h.ite (h.after_verdict.ite h)

theorem after_uncover {x : OwnChan} (h : RecordsKept r s) : RecordsKept r (uncover x s) := h.elsewhere

theorem after_reportEvaluated (h : RecordsKept r s) : RecordsKept r (reportEvaluated s) := by
  unfold reportEvaluated
  exact (h.foldl _ fun _ _ hu => hu.foldl _ fun _ _ hv => hv.after_sendHead).ite h

end RecordsKept
end Sys2Proof.Machine
end


section
/-! The twins compare and arbitrate: records that arrive, their evaluation, witnesses, corrections and adopted samples (R149, R233 to
R242). -/

namespace Sys2Proof.Machine

/-! ### A record arrives (R149, R232, R233) -/

namespace RecordsKept

variable {r s : State}

/-- The shadow of an output follows the Lead's values. -/
theorem after_adoptOut {c : Nat} {v : Int × Nat} (h : RecordsKept r s) : RecordsKept r (adoptOut c v s) := by
  unfold adoptOut
  exact h.elsewhere.put.put.after_raise.ite h.elsewhere.put

theorem after_adoptOuts {vs : List (Int × Nat)} (h : RecordsKept r s) : RecordsKept r (adoptOuts vs s) :=
  h.foldl _ fun _ _ hu => hu.after_adoptOut.ite hu

theorem after_postIncs {m : Nat} {inc : List (List Nat)} {dur : Rat} {unver subst covered : Bool} (h : RecordsKept r s) :
    RecordsKept r (postIncs m inc dur unver subst covered s) := by
  obtain ⟨u, corr, pls, hu, hpost⟩ := postIncs_eq m inc dur unver subst covered s
  have hmtr : RecordsKept r { s with mtr := bumpAccs m inc s.mtr } := h.elsewhere
  rw [hpost]
  exact (hmtr.after_shows hu).elsewhere

theorem after_register {m : Nat} {p : MtrPost} {twin : Option MeterItem} (h : RecordsKept r s) :
    RecordsKept r (register m p twin s) := by
  unfold register
  extract_lets c inc unver s2 s3
  have h3 : RecordsKept r s3 := h.after_postIncs.after_shows (postWorst_shows m s2)
  clear_value s3 s2
  exact ⟨h3.ownCh, h3.peer, h3.2.2⟩

theorem after_registerWaits {t0 : Nat} (h : RecordsKept r s) : RecordsKept r (registerWaits t0 s) := by
  unfold registerWaits
  refine h.elsewhere.foldl _ fun u w hu => ?_
  split
  · exact hu.after_register
  · exact hu.after_register.ite hu.elsewhere

end RecordsKept

theorem registerWaits_nil {s : State} (t0 : Nat) (h : s.mtr.wait = []) :
    registerWaits t0 s = { s with mtr := { s.mtr with wait := [] } } := by
  unfold registerWaits
  rw [h]
  rfl

/-- A record is kept, and those older than 400 ms are given up. -/
def recordTaken (x : CmpRec) (s : State) : State :=
  takeWhole 1 { s with twn := { s.twn with
    peer := (s.twn.peer.filter fun (y : CmpRec) => decide (x.time < y.time + 400000000)) ++ [x] } }

/-- Do the digests of a record agree, with nothing DIRTY on either side (R234)? -/
def digestsAgree (x : CmpRec) (s : State) : Bool := x.digest == digestCrc s && !dirtyFive s && !x.flags.testBit 2

/-- A record that is kept shows in PEERFAIL and DIGOK. -/
def recordShown (x : CmpRec) (s : State) : State :=
  (if x.flags.testBit 1 then (recordTaken x s).put F.TWN_ST_PEERFAIL 0 1 else recordTaken x s).setBit F.TWN_ST_DIGOK 0
    (digestsAgree x s)

theorem recordReceive_eq {x : CmpRec} {s : State} (hpair : tst s = 6) : recordReceive x s =
    registerWaits x.time (if escortAt s x.time then adoptOuts x.pulse (recordShown x s) else recordShown x s) :=
  if_neg (not_not.2 hpair)

theorem recordShown_twn (x : CmpRec) (s : State) : (recordShown x s).twn = (recordTaken x s).twn := by
  unfold recordShown
  split <;> rfl

theorem recordShown_peerfail (x : CmpRec) (s : State) :
    (recordShown x s).bit F.TWN_ST_PEERFAIL = (s.bit F.TWN_ST_PEERFAIL || x.flags.testBit 1) := by
  unfold recordShown State.setBit
  rw [put_bit_field _ _ _ _ _ _ (by decide)]
  split
  next h =>
    rw [h, Bool.or_true]
    exact bit_of_fld_one (put_fld_same _ _ _ _)
  next h =>
    rw [Bool.eq_false_of_not_eq_true h, Bool.or_false]
    rfl

/-- What follows a record leaves what it shows. -/
theorem recordReceive_kept {x : CmpRec} {s : State} (hpair : tst s = 6) : RecordsKept (recordShown x s) (recordReceive x s) := by
  have h := RecordsKept.refl (recordShown x s)
  rw [recordReceive_eq hpair]
  exact (h.after_adoptOuts.ite h).after_registerWaits

/-- Without postings that wait a record changes the pulse outputs of an Escort alone. -/
theorem recordReceive_pls {x : CmpRec} {s : State} (hpair : tst s = 6) (hlead : escortAt s x.time = false)
    (hwait : s.mtr.wait = []) : (recordReceive x s).pls = s.pls := by
  have hkept : (recordShown x s).mtr = s.mtr ∧ (recordShown x s).pls = s.pls := by
    unfold recordShown
    split <;> exact ⟨rfl, rfl⟩
  rw [recordReceive_eq hpair, if_neg (by simp [hlead]), registerWaits_nil _ (by rw [hkept.1, hwait])]
  exact hkept.2

/-! ### The evaluation (R234, R237, R239) -/

/-- An evaluation begins at instant u, and no item waits any more. -/
def evalStarted (u : Nat) (s : State) : State := { reachTime u s with twn := { s.twn with ownCh := [] } }

section Started

/-! What an evaluation reads is as it was before the instant was reached. -/

variable (u : Nat) (s : State)

theorem evalStarted_fld (f : Fld) (i : Nat) : (evalStarted u s).fld f i = s.fld f i := rfl

theorem evalStarted_matching (x : OwnChan) : matching (evalStarted u s) x = matching s x := rfl

theorem evalStarted_itemFails (n : Nat) (nc : Rat) (x y : ChanItem) : itemFails (evalStarted u s) n nc x y = itemFails s n nc x y :=
  rfl

end Started

/-- The items are compared at u where the twin's record of t has come and the digests agree; a record that did not come is counted. -/
def itemsCompared (t u : Nat) (s : State) : State :=
  let r := { s with twn := { s.twn with ownCh := [] } }
  if !s.twn.peer.any (·.time == t) then s.twn.ownCh.foldl (fun s x => uncover x s) (r.inc F.TWN_CNT_LOSTREC)
  else if !s.bit F.TWN_ST_DIGOK then s.twn.ownCh.foldl (fun s x => uncover x s) r
  else s.twn.ownCh.foldl (fun s x => evalItem u x s) r

theorem itemsCompared_lost {t : Nat} (u : Nat) {s : State} (hlost : ∀ x ∈ s.twn.peer, x.time ≠ t) :
    itemsCompared t u (reachTime u s) = s.twn.ownCh.foldl (fun s x => uncover x s) ((evalStarted u s).inc F.TWN_CNT_LOSTREC) :=
  if_pos (by simpa [reachTime] using hlost)

theorem itemsCompared_came {t : Nat} (u : Nat) {s : State} (hcame : ∃ x ∈ s.twn.peer, x.time = t)
    (hdig : s.bit F.TWN_ST_DIGOK = true) :
    itemsCompared t u (reachTime u s) = s.twn.ownCh.foldl (fun s x => evalItem u x s) (evalStarted u s) := by
  have hdig' : (reachTime u s).bit F.TWN_ST_DIGOK = true := hdig
  exact (if_neg (by simpa [reachTime] using hcame)).trans (if_neg (by simp [hdig']))

/-- The disputes that either side asks for are declared. -/
def disputesAsked (t u : Nat) (s : State) : State :=
  (s.twn.arbSent ++ s.twn.peerArb).dedup.foldl (fun s n =>
    if (mget none s.twn.disputes n).isSome then s
    else claimWitness n (declare n u (spanStart s n (t - 20000000)) none s)) s

/-- No request for arbitration is left. -/
def requestsServed (s : State) : State := { s with twn := { s.twn with peerArb := [], arbSent := [] } }

/-- The verdicts that are due fall. -/
def verdictsDue (t : Nat) (s : State) : State := (List.range 144).foldl (fun s n => arbitration t n s) s

/-- What follows the comparison of items. -/
def arbitrated (t u : Nat) (s : State) : State := verdictsDue t (requestsServed (disputesAsked t u s))

theorem evaluate_eq {t : Nat} {s : State} (hpair : tst s = 6) (heval : s.twn.evalT = t) : evaluate t s =
    arbitrated t (t + 2000000) (itemsCompared t (t + 2000000) (reachTime (t + 2000000) s)) := if_neg (by simp [hpair, heval])

namespace RecordsKept

variable {r s : State} {t u : Nat}

theorem after_disputesAsked (h : RecordsKept r s) : RecordsKept r (disputesAsked t u s) :=
  h.foldl _ fun _ _ hu => hu.ite hu.after_declare.after_claimWitness

theorem after_verdictsDue (h : RecordsKept r s) : RecordsKept r (verdictsDue t s) := h.foldl _ fun _ _ hu => hu.after_arbitration

theorem after_arbitrated (h : RecordsKept r s) : RecordsKept r (arbitrated t u s) := by
  have h1 : RecordsKept r (requestsServed (disputesAsked t u s)) := h.after_disputesAsked.pair
  exact h1.after_verdictsDue

end RecordsKept

theorem evaluateReport_eq {t : Nat} {s : State} (hpair : tst s = 6) (heval : s.twn.evalT = t) :
    evaluateReport t s = reportEvaluated (evaluate t s) := if_pos ⟨hpair, heval⟩

/-- A record that did not come is counted, and no item waits. -/
theorem evaluateReport_lost {t : Nat} {s : State} (hpair : tst s = 6) (heval : s.twn.evalT = t)
    (hlost : ∀ x ∈ s.twn.peer, x.time ≠ t) :
    RecordsKept ((evalStarted (t + 2000000) s).inc F.TWN_CNT_LOSTREC) (evaluateReport t s) := by
  rw [evaluateReport_eq hpair heval, evaluate_eq hpair heval, itemsCompared_lost _ hlost]
  exact ((RecordsKept.refl _).foldl _ fun _ _ hu => hu.after_uncover).after_arbitrated.after_reportEvaluated

/-! ### A pair without a dispute (R235, R237) -/

/-- No channel is disputed or adopted, and no arbitration is asked for. -/
def Undisputed (s : State) : Prop := s.twn.disputes = [] ∧ s.twn.adopts = [] ∧ s.twn.arbSent = [] ∧ s.twn.peerArb = []

theorem arbitration_undisputed {t n : Nat} {s : State} (h : s.twn.disputes = []) : arbitration t n s = s := by
  unfold arbitration
  rw [h]
  rfl

theorem arbitrated_undisputed {t u : Nat} {s : State} (h : Undisputed s) : arbitrated t u s = requestsServed s := by
  obtain ⟨hdisp, -, hsent, hasked⟩ := h
  have hask : disputesAsked t u s = s := by
    unfold disputesAsked
    rw [hsent, hasked]
    rfl
  have hdisp' : (requestsServed s).twn.disputes = [] := hdisp
  unfold arbitrated
  rw [hask]
  exact List.foldl_fixed' (fun n => arbitration_undisputed hdisp') _

theorem showCompare_undisputed {n k : Nat} {s : State} (h : Undisputed s) : showCompare n k s = setCstate n k s := by
  obtain ⟨hdisp, hadopt, -⟩ := h
  unfold showCompare
  rw [hdisp, hadopt]
  rfl

theorem evalStarted_undisputed (u : Nat) {s : State} (h : Undisputed s) : Undisputed (evalStarted u s) := h

/-- The cycle before which the pairs of a channel began to fail. -/
def firstFailed (n t : Nat) (s : State) : State := { s with twn := { s.twn with first := mput 0 s.twn.first n t } }

/-- A pair has passed. -/
def passShown (n : Nat) (s : State) : State := firstFailed n 0 ((setCstate n 1 s).put F.TWN_CHST_FAILS n 0)

theorem passShown_keeps (n : Nat) (s : State) : (passShown n s).flds = ((setCstate n 1 s).put F.TWN_CHST_FAILS n 0).flds ∧
    (Undisputed s → Undisputed (passShown n s)) := ⟨rfl, id⟩

theorem passShown_fld (n : Nat) (s : State) : (passShown n s).fld F.TWN_CHST_FAILS n = 0 ∧
    (passShown n s).fld F.TWN_CHST_CSTATE n = 1 := by
  obtain ⟨hflds, -⟩ := passShown_keeps n s
  have hset : ∀ f, (passShown n s).fld f n = ((setCstate n 1 s).put F.TWN_CHST_FAILS n 0).fld f n :=
    fun f => congrArg (fget · f n) hflds
  rw [hset, hset]
  exact ⟨put_fld_same _ _ _ _, (put_fld_field _ _ _ _ _ _ (by decide)).trans (put_fld_same _ _ _ _)⟩

theorem pairPasses_undisputed {n : Nat} {s : State} (h : Undisputed s) :
    pairPasses n s = passShown n s := by
  have hnone : mget none (passShown n s).twn.disputes n = none := congrArg (mget none · n) h.1
  unfold pairPasses
  rw [showCompare_undisputed h]
  extract_lets s1 s2
  split
  next d hd => exact absurd (hd.symm.trans hnone) (by simp)
  next => rfl

/-- A pair has failed, and it is counted. -/
def failCounted (n before : Nat) (s : State) : State :=
  let u := (setCstate n 1 s).addSat F.TWN_CHST_FAILS n 1
  if s.fld F.TWN_CHST_FAILS n = 0 then firstFailed n before u else u

theorem failCounted_keeps (n before : Nat) (s : State) :
    (failCounted n before s).flds = ((setCstate n 1 s).addSat F.TWN_CHST_FAILS n 1).flds ∧
      (Undisputed s → Undisputed (failCounted n before s)) := by
  unfold failCounted
  dsimp only
  split <;> exact ⟨rfl, id⟩

/-- Below CPERS failing pairs in a row are counted, and no dispute is declared. -/
theorem pairFails_undisputed {n t before : Nat} {s : State} (h : Undisputed s)
    (hpers : s.fld F.TWN_CHST_FAILS n + 1 < s.fld F.TWN_CMP_CPERS) : pairFails n t before s = failCounted n before s := by
  obtain ⟨hflds, hund⟩ := failCounted_keeps n before s
  have hcpers : (failCounted n before s).fld F.TWN_CMP_CPERS = s.fld F.TWN_CMP_CPERS := by
    refine (congrArg (fget · F.TWN_CMP_CPERS 0) hflds).trans ?_
    exact (addSat_fld_field _ _ _ _ _ _ (by decide)).trans (put_fld_field _ _ _ _ _ _ (by decide))
  have hnone : mget none (failCounted n before s).twn.disputes n = none := congrArg (mget none · n) (hund h).1
  unfold pairFails
  rw [showCompare_undisputed h]
  extract_lets k s1 s2
  split
  next d hd => exact absurd (hd.symm.trans hnone) (by simp)
  next => exact if_neg (Nat.not_le.2 (hcpers ▸ hpers))

section Pair

variable {t : Nat} {s : State} {x : OwnChan} {y : ChanItem} (hund : Undisputed s) (hx : x.item.cflags = 0) (hy : y.cflags = 0)

include hund hx hy

/-- A pair that nothing excludes passes or fails, and its cycle is covered where it passes. -/
theorem evalPair_plain (ok : Bool) (hok : itemFails s x.item.stream x.nc x.item y = !ok) : ∃ c before, evalPair t x y s =
    addCov x.item.stream c (if ok then pairPasses x.item.stream s else pairFails x.item.stream t before s) := by
  obtain ⟨-, hadopt, -⟩ := hund
  unfold evalPair
  dsimp only
  rw [hx, hy, hadopt, hok]
  cases ok with
  | true => exact ⟨_, 0, rfl⟩
  | false => exact ⟨_, _, rfl⟩

/-- A pair that passes clears FAILS and shows PASS. -/
theorem evalPair_passes (hok : itemFails s x.item.stream x.nc x.item y = false) : ∃ v, evalPair t x y s = v ∧ Undisputed v ∧
    v.fld F.TWN_CHST_FAILS x.item.stream = 0 ∧ v.fld F.TWN_CHST_CSTATE x.item.stream = 1 := by
  obtain ⟨c, _, hv⟩ := evalPair_plain hund hx hy (t := t) true hok
  rw [if_pos rfl, pairPasses_undisputed hund] at hv
  obtain ⟨-, hkeeps⟩ := passShown_keeps x.item.stream s
  obtain ⟨hfails, hcstate⟩ := passShown_fld x.item.stream s
  exact ⟨_, hv, hkeeps hund, hfails, hcstate⟩

end Pair

theorem reportEvaluated_eq (s : State) : reportEvaluated s = { s with cvn := (reportEvaluated s).cvn } := by
  unfold reportEvaluated
  split
  · refine List.foldlRecOn (motive := fun u : State => u = { s with cvn := u.cvn }) _ _ rfl fun u hu n _ => ?_
    refine List.foldlRecOn (motive := fun v : State => v = { s with cvn := v.cvn }) _ _ hu fun v hv c _ => ?_
    have hsend : ∀ b, sendHead b v = { v with cvn := (sendHead b v).cvn } := fun _ => rfl
    unfold reportCov
    rw [hsend, hv]
  · rfl

section OnlyPair

variable {t : Nat} {s : State} {x : OwnChan} {y : ChanItem} (hpair : tst s = 6) (heval : s.twn.evalT = t)
  (hcame : ∃ x ∈ s.twn.peer, x.time = t) (hdig : s.bit F.TWN_ST_DIGOK = true) (hown : s.twn.ownCh = [x])
  (hmatch : matching s x = some y) (hund : Undisputed s)

include hpair heval hcame hdig hown hmatch

/-- What the evaluation of the only pair leaves, where nothing is disputed. -/
theorem evaluateReport_pair {v : State} (hv : evalPair (t + 2000000) x y (evalStarted (t + 2000000) s) = v) (hund : Undisputed v) :
    (evaluateReport t s).flds = v.flds ∧ (evaluateReport t s).twn.disputes = [] := by
  have hitem : evalItem (t + 2000000) x (evalStarted (t + 2000000) s) = v := by
    unfold evalItem
    rw [evalStarted_matching, hmatch]
    exact hv
  rw [evaluateReport_eq hpair heval, evaluate_eq hpair heval, itemsCompared_came _ hcame hdig, hown, List.foldl_cons,
    List.foldl_nil, hitem, arbitrated_undisputed hund, reportEvaluated_eq]
  exact ⟨rfl, hund.1⟩

variable (hx : x.item.cflags = 0) (hy : y.cflags = 0)

include hund hx hy

/-- A pair that passes clears FAILS and shows PASS. -/
theorem evaluateReport_passes (hok : itemFails s x.item.stream x.nc x.item y = false) :
    (evaluateReport t s).fld F.TWN_CHST_FAILS x.item.stream = 0 ∧
      (evaluateReport t s).fld F.TWN_CHST_CSTATE x.item.stream = 1 ∧ (evaluateReport t s).twn.disputes = [] := by
  have hund' := evalStarted_undisputed (t + 2000000) hund
  obtain ⟨v, hv, hundv, hfails, hcstate⟩ := evalPair_passes (t := t + 2000000) hund' hx hy
    ((evalStarted_itemFails _ s _ _ _ _).trans hok)
  obtain ⟨hflds, hnone⟩ := evaluateReport_pair hpair heval hcame hdig hown hmatch hv hundv
  exact ⟨(congrArg (fget · _ _) hflds).trans hfails, (congrArg (fget · _ _) hflds).trans hcstate, hnone⟩

/-- A pair that fails below CPERS counts in FAILS, and no dispute is declared. -/
theorem evaluateReport_fails (hfails : itemFails s x.item.stream x.nc x.item y = true)
    (hpers : s.fld F.TWN_CHST_FAILS x.item.stream + 1 < s.fld F.TWN_CMP_CPERS) :
    (evaluateReport t s).fld F.TWN_CHST_FAILS x.item.stream =
      min F.TWN_CHST_FAILS.top (s.fld F.TWN_CHST_FAILS x.item.stream + 1) ∧ (evaluateReport t s).twn.disputes = [] := by
  have hund' := evalStarted_undisputed (t + 2000000) hund
  have hpers' : (evalStarted (t + 2000000) s).fld F.TWN_CHST_FAILS x.item.stream + 1 <
      (evalStarted (t + 2000000) s).fld F.TWN_CMP_CPERS := by
    rw [evalStarted_fld, evalStarted_fld]
    exact hpers
  obtain ⟨c, before, hv⟩ := evalPair_plain (t := t + 2000000) hund' hx hy false ((evalStarted_itemFails _ s _ _ _ _).trans hfails)
  rw [if_neg (by simp), pairFails_undisputed hund' hpers'] at hv
  obtain ⟨hcount, hkeeps⟩ := failCounted_keeps x.item.stream before (evalStarted (t + 2000000) s)
  obtain ⟨hflds, hnone⟩ := evaluateReport_pair hpair heval hcame hdig hown hmatch hv (hkeeps hund')
  refine ⟨?_, hnone⟩
  have hset : (evaluateReport t s).flds =
      ((setCstate x.item.stream 1 (evalStarted (t + 2000000) s)).addSat F.TWN_CHST_FAILS x.item.stream 1).flds :=
    hflds.trans hcount
  refine (congrArg (fget · F.TWN_CHST_FAILS x.item.stream) hset).trans ((addSat_fld_same _ _ _ _).trans ?_)
  unfold setCstate
  rw [put_fld_field _ _ _ _ _ _ (by decide), evalStarted_fld]

end OnlyPair

/-! ### Witnesses and disputes that go on (R238, R242) -/

theorem witnessConnected_due {n : Nat} {d : Dispute} {s : State} (hd : mget none s.twn.disputes n = some d) (hmine : d.mine = 0) :
    witnessConnected n s = setDispute n (some { d with wit := some s.clk.site, cycles := [] }) (setCstate n 5 s) := by
  unfold witnessConnected
  rw [hd]
  exact if_pos hmine

theorem setDispute_same (n : Nat) (d : Option Dispute) (s : State) : mget none (setDispute n d s).twn.disputes n = d :=
  mget_mput_same none s.twn.disputes n d

/-- A claim opens the arbitration of a dispute anew, from its instant. -/
theorem claimWitness_dispute {n : Nat} {d : Dispute} {s : State} (hd : mget none s.twn.disputes n = some d) :
    ∃ x, mget none (claimWitness n s).twn.disputes n = some x ∧ x.t = d.t ∧ x.unres = d.unres ∧ x.wit = none ∧ x.cycles = [] ∧
      (claimWitness n s).fld F.TWN_CHST_CSTATE n = 5 := by
  unfold claimWitness
  rw [hd]
  dsimp only
  refine ⟨_, setDispute_same _ _ _, rfl, rfl, rfl, rfl, ?_⟩
  exact put_fld_same (if n < 112 then claimSpare n s else (none, s)).2 F.TWN_CHST_CSTATE n 5

theorem rearbitrate_due {n : Nat} {d : Dispute} {s : State} (hd : mget none s.twn.disputes n = some d) (hunres : d.unres = true)
    (hpair : tst s = 6) : rearbitrate n s = claimWitness n (setDispute n (some { d with t := s.clk.site }) s) := by
  unfold rearbitrate
  rw [hd]
  exact if_pos ⟨hunres, hpair⟩

/-! ### Corrections (R240) -/

/-- Going from s to t, accumulators and pulse outputs were corrected, and nothing else is changed. -/
def Corrects (s t : State) : Prop := t = { s with mtr := t.mtr, pls := t.pls }

namespace Corrects

variable {r s t : State}

theorem refl (s : State) : Corrects s s := rfl

theorem trans (hrs : Corrects r s) (hst : Corrects s t) : Corrects r t := by
  unfold Corrects at *
  rw [hst, hrs]

theorem ite {c : Prop} [Decidable c] (hs : Corrects r s) (ht : Corrects r t) : Corrects r (if c then s else t) := by
  split
  · exact hs
  · exact ht

theorem foldl {α : Type} {g : State → α → State} (h : Corrects r s) (as : List α) (hg : ∀ u a, Corrects u (g u a)) :
    Corrects r (as.foldl g s) := List.foldlRecOn as g h fun u hu a _ => hu.trans (hg u a)

theorem twn (h : Corrects s t) : t.twn = s.twn := (congrArg State.twn h :)

end Corrects

theorem correctAcc_corrects (now : Bool) (a : Nat) (d : Int) (s : State) : Corrects s (correctAcc now a d s) := by
  unfold correctAcc pulseCorrect
  extract_lets m m1
  have h : Corrects s { s with mtr := { m1 with corr := if m1.corr.contains a then m1.corr else a :: m1.corr } } := rfl
  exact h.foldl _ fun u c => Corrects.ite (by exact rfl) (.refl u)

theorem correctInterval_corrects (x : OwnItem) (p : MeterItem) (s : State) : Corrects s (correctInterval x p s) := by
  unfold correctInterval
  exact (Corrects.refl s).foldl _ fun u j => (Corrects.refl u).ite (correctAcc_corrects _ _ _ u)

theorem correctSpan_corrects (sp : Span) (s : State) : Corrects s (correctSpan sp s) := by
  unfold correctSpan
  refine (Corrects.refl s).foldl _ fun u m => Corrects.ite ((Corrects.refl u).foldl _ fun v x => ?_) (.refl u)
  split
  · exact correctInterval_corrects _ _ v
  · exact .refl v

/-- The spans of the corrected channel are gone, and the others wait. -/
theorem applySpans_spans (n : Nat) (s : State) : (applySpans n s).twn.spans = s.twn.spans.filter (·.n != n) := by
  have h : Corrects s ((s.twn.spans.filter (·.n == n)).foldl (fun s sp => correctSpan sp s) s) :=
    (Corrects.refl s).foldl _ fun u sp => correctSpan_corrects sp u
  exact congrArg (fun w : TwnSt => w.spans.filter (·.n != n)) h.twn

theorem applySpans_none {n : Nat} {s : State} (h : ∀ x ∈ s.twn.spans, x.n ≠ n) : applySpans n s = s := by
  have hmine : s.twn.spans.filter (·.n == n) = [] := List.filter_eq_nil_iff.2 fun x hx => by simpa using h x hx
  have hrest : s.twn.spans.filter (·.n != n) = s.twn.spans := List.filter_eq_self.2 fun x hx => by simpa using h x hx
  unfold applySpans
  rw [hmine]
  dsimp only [List.foldl_nil]
  rw [hrest]

/-! ### Adopted samples (R241) -/

theorem adoptedSamples_unheld {m n : Nat} {run : ChanRun} {s : State} (h : mget none s.mtr.held m = none) :
    adoptedSamples m n run s = takeWhole 4 s := by
  unfold adoptedSamples
  dsimp only
  rw [show (takeWhole 4 s).mtr.held = s.mtr.held from rfl, h]

theorem adoptedSamples_other {m n : Nat} {run : ChanRun} {s : State} {h : HeldInt} (hh : mget none s.mtr.held m = some h)
    (hn : n ∉ h.adopted) : adoptedSamples m n run s = takeWhole 4 s := by
  unfold adoptedSamples
  dsimp only
  rw [show (takeWhole 4 s).mtr.held = s.mtr.held from rfl, hh]
  exact if_neg (by simpa using hn)

/-- A held interval with the samples of one more channel. -/
def withSamples (n : Nat) (run : ChanRun) (h : HeldInt) : HeldInt := { h with got := { run with ref := BitVec.ofNat 16 n } :: h.got }

/-- Samples of one channel leave the others awaited. -/
theorem mem_awaited_withSamples {n k : Nat} {run : ChanRun} {h : HeldInt} (hn : n < 65536) (hk : k ∈ awaited h) (hne : k ≠ n) :
    k ∈ awaited (withSamples n run h) := by
  obtain ⟨hadopted, hgot⟩ := List.mem_filter.1 hk
  refine List.mem_filter.2 ⟨hadopted, ?_⟩
  have hother : ¬ n % 65536 = k := by
    rw [Nat.mod_eq_of_lt hn]
    exact hne.symm
  simpa [withSamples, hother] using hgot

/-- The samples are kept with the interval that still waits for another channel's. -/
theorem adoptedSamples_waits {m n k : Nat} {run : ChanRun} {s : State} {h : HeldInt} (hh : mget none s.mtr.held m = some h)
    (hn : n ∈ h.adopted) (hlt : n < 65536) (hk : k ∈ awaited h) (hne : k ≠ n) :
    adoptedSamples m n run s = withHeld m (withSamples n run h) (takeWhole 4 s) := by
  unfold adoptedSamples
  dsimp only
  rw [show (takeWhole 4 s).mtr.held = s.mtr.held from rfl, hh]
  dsimp only
  rw [if_pos (by simpa using hn)]
  exact if_neg (List.ne_nil_of_mem (mem_awaited_withSamples hlt hk hne))

/-! ### The obligation -/

/-- Settles O50: what a record and its evaluation show, and that witnesses, corrections, adoptions and unresolved disputes go on. -/
theorem twinsCompareAndArbitrate : Obligations.TwinsCompareAndArbitrate := by
  refine ⟨fun s x hpair => ?_, fun s t0 hpair heval hlost => ?_,
    fun s t0 x y hpair heval hcame hdig hown hmatch hdisp hadopt hsent hasked _ hx hy => ?_, fun s n d hd hmine => ?_,
    fun s n hrun => ⟨fun hnone => ?_, ?_⟩, fun s m n run hrun => ⟨fun hh => ?_, fun h hh hn => ?_, fun h k hn hh hk hne => ?_⟩,
    fun s n d hd hunres hpair => ?_⟩
  · have hkept := recordReceive_kept (x := x) hpair
    have hpeer : (recordReceive x s).twn.peer = (recordTaken x s).twn.peer :=
      hkept.peer.trans (congrArg TwnSt.peer (recordShown_twn x s))
    refine ⟨_, rfl, ?_, fun z hz => ?_, (hkept.bit 0).trans (setBit_bit_same _ _ _ _ rfl),
      (hkept.bit 0).trans (recordShown_peerfail x s), recordReceive_pls hpair⟩
    · rw [hpeer]
      exact List.mem_append_right _ (List.mem_singleton_self x)
    · rw [hpeer] at hz
      rcases List.mem_append.1 hz with hz | hz
      · obtain ⟨hmem, htime⟩ := List.mem_filter.1 hz
        exact .inr ⟨hmem, of_decide_eq_true htime⟩
      · exact .inl (List.mem_singleton.1 hz)
  · have hkept := evaluateReport_lost hpair heval hlost
    refine ⟨_, rfl, (hkept.fld 0).trans ((addSat_fld_same _ _ _ _).trans ?_), hkept.ownCh⟩
    rw [evalStarted_fld]
  · have hund : Undisputed s := ⟨hdisp, hadopt, hsent, hasked⟩
    exact ⟨fun hok => ⟨_, rfl, evaluateReport_passes hpair heval hcame hdig hown hmatch hund hx hy hok⟩,
      fun hfails hpers => ⟨_, rfl, evaluateReport_fails hpair heval hcame hdig hown hmatch hund hx hy hfails hpers⟩⟩
  · exact ⟨_, congrArg Host.Outcome.next (witnessConnected_due hd hmine), setDispute_same _ _ _,
      Writes_of_flds (Writes_put s F.TWN_CHST_CSTATE n 5 (by decide)) rfl⟩
  · exact congrArg Host.Outcome.next ((if_pos hrun).trans (applySpans_none hnone))
  · exact ⟨_, congrArg Host.Outcome.next (if_pos hrun), applySpans_spans n s⟩
  · exact congrArg Host.Outcome.next ((if_pos hrun).trans (adoptedSamples_unheld hh))
  · exact congrArg Host.Outcome.next ((if_pos hrun).trans (adoptedSamples_other hh hn))
  · exact ⟨_, congrArg Host.Outcome.next ((if_pos hrun).trans (adoptedSamples_waits hh hn (by omega) hk hne)),
      withHeld_held _ _ _, rfl⟩
  · obtain ⟨x, hx, ht, hx_unres, hwit, hcycles, hcstate⟩ :=
      claimWitness_dispute (setDispute_same n (some { d with t := s.clk.site }) s)
    exact ⟨_, x, congrArg Host.Outcome.next (rearbitrate_due hd hunres hpair), hx, ht, hx_unres.trans hunres, hwit, hcycles, hcstate⟩

end Sys2Proof.Machine
end

section
/-! The frame of a grid group: what windows, their members and disturbances leave of the trackers, and the fields that they write (R159
to R183). -/

namespace Sys2Proof.Machine

/-- The fields that tests of disturbances and changes of membership may change. -/
def dstNums : List Fld := evtNums ++ R.DST_GST.fields ++ R.DST_CST.fields ++ R.DST_ROCOF.fields

/-- Going from s to t, every tracker stays: nothing is changed but the fields of disturbances, the ledger, sessions, members, harmonic
filters and disturbances. -/
def TrackersStay (s t : State) : Prop :=
  t = { s with flds := t.flds, ldg := t.ldg, cal := t.cal, hrm := t.hrm, dst := t.dst, grd := { t.grd with trk := s.grd.trk } } ∧
    WritesOnly dstNums s t

namespace TrackersStay

variable {r s t : State}

theorem refl (s : State) : TrackersStay s s := ⟨rfl, .refl _ s⟩

theorem trans (hrs : TrackersStay r s) (hst : TrackersStay s t) : TrackersStay r t := by
  obtain ⟨hs, hrs⟩ := hrs
  obtain ⟨ht, hst⟩ := hst
  exact ⟨by rw [ht, hs], hrs.trans hst⟩

theorem only (h : TrackersStay s t) : WritesOnly dstNums s t := h.2

theorem pwr (h : TrackersStay s t) : t.pwr = s.pwr := (congrArg State.pwr h.1 :)

theorem mtr (h : TrackersStay s t) : t.mtr = s.mtr := (congrArg State.mtr h.1 :)

theorem getTrk_eq (h : TrackersStay s t) (g : Nat) : getTrk t g = getTrk s g :=
  (congrArg (fun u : State => mget GrdTrk.blank u.grd.trk g) h.1 :)

theorem trkState_eq (h : TrackersStay s t) (g : Nat) : trkState t g = trkState s g := h.only.fld g (by decide)

theorem of_shows (h : Shows dstNums s t) : TrackersStay s t := ⟨by rw [h.1], h.only⟩

theorem ite {c : Prop} [Decidable c] (hs : TrackersStay r s) (ht : TrackersStay r t) : TrackersStay r (if c then s else t) := by
  split
  · exact hs
  · exact ht

theorem foldl {α : Type} {f : State → α → State} (h : TrackersStay r s) (as : List α)
    (hf : ∀ u a, TrackersStay r u → TrackersStay r (f u a)) : TrackersStay r (as.foldl f s) :=
  List.foldlRecOn as f h fun u hu a _ => hf u a hu

theorem put {f : Fld} {i v : Nat} (h : TrackersStay r s) (hf : f ∈ dstNums) : TrackersStay r (s.put f i v) :=
  h.trans ⟨rfl, .of_put s i v hf⟩

/-- A change of sessions, members, harmonic filters and disturbances. -/
theorem elsewhere {cal : CalSt} {hrm : HrmSt} {dst : DstSt} {mem idmd joinT : SMap Nat} (h : TrackersStay r s) :
    TrackersStay r ⟨s.pending, s.flds, s.clk, s.ctl, s.host, s.pwr, s.ldg, s.evt, s.inp, s.rmt, s.flt, s.flts, cal, s.twn, s.mtr,
      s.itn, ⟨s.grd.trk, mem, idmd, joinT⟩, hrm, dst, s.pls, s.way, s.rng, s.sbx, s.cvn, s.sar, s.dsp, s.prt⟩ :=
  h.trans ⟨rfl, fun _ _ _ => rfl⟩

theorem after_raise {e d : Nat} (h : TrackersStay r s) (he : e < 128) : TrackersStay r (raise e d s) :=
  h.trans (of_shows ((Shows.refl dstNums s).after_raise he (by decide)))

theorem after_setDst {g : Nat} {d : DstGrp} (h : TrackersStay r s) : TrackersStay r (setDst g d s) := h.elsewhere

theorem after_sessBoundary {g x : Nat} {kept : Bool} (h : TrackersStay r s) : TrackersStay r (sessBoundary g x kept s) := by
  unfold sessBoundary
  split
  · exact h
  · refine h.ite ?_
    split
    · exact h.elsewhere
    · exact h.elsewhere

/-! #### Disturbances (R182, R183) -/

theorem after_fexTest {g start endT : Nat} {lock : Bool} {freq nom : Rat} (h : TrackersStay r s) :
    TrackersStay r (fexTest g lock start endT freq nom s) := by
  unfold fexTest gstStart gst State.setBit
  extract_lets d dev
  refine ite ?_ h.after_setDst
  split
  · refine h.after_setDst.ite (h.after_setDst.ite (ite ?_ h.after_setDst))
    exact ((h.after_setDst.put (by decide)).put (by decide)).after_raise (by decide)
  · exact h.after_setDst.ite (((h.after_setDst.put (by decide)).ite h.after_setDst).ite h.after_setDst)

theorem after_rocofTest {g : Nat} {prev : Option (Rat × Rat × Bool)} {f dur : Rat} {unlk : Bool} (h : TrackersStay r s) :
    TrackersStay r (rocofTest g prev f dur unlk s) := by
  unfold rocofTest gstStart State.putI
  extract_lets d ok q s1 on
  have h1 : TrackersStay r s1 := h.after_setDst.put (by decide)
  exact (h1.ite (((h1.put (by decide)).put (by decide)).after_raise (by decide))).ite (h1.put (by decide))

theorem after_flagTest {g : Nat} (h : TrackersStay r s) : TrackersStay r (flagTest g s) := by
  unfold flagTest State.setBit
  exact h.put (by decide)

theorem after_cutDst {g x : Nat} (h : TrackersStay r s) : TrackersStay r (cutDst g x s) := by
  unfold cutDst
  extract_lets d add d1 d2 d3 _ d4 s1 s2
  have h2 : TrackersStay r s2 :=
    (((((h.after_setDst.put (by decide)).put (by decide)).put (by decide)).put (by decide)).put (by decide)).put (by decide)
  exact h2.foldl _ fun _ _ hu => ((((hu.put (by decide)).put (by decide)).put (by decide)).put (by decide)).ite hu

/-! #### Members (R168) -/

theorem after_restartY {n x : Nat} (h : TrackersStay r s) : TrackersStay r (restartY n x s) := h.elsewhere

theorem after_setMember {n x code : Nat} (h : TrackersStay r s) : TrackersStay r (setMember n x code s) := by
  unfold setMember
  extract_lets _ s1 s2
  have h2 : TrackersStay r s2 := h.elsewhere.after_restartY.foldl _ fun _ _ hu => hu.after_setDst
  exact ((((h2.put (by decide)).put (by decide)).put (by decide)).put (by decide)).put (by decide)

theorem after_restartSmooth {g x : Nat} (h : TrackersStay r s) : TrackersStay r (restartSmooth g x s) :=
  h.foldl _ fun _ _ hu => hu.after_restartY

theorem after_takeMembers {g x : Nat} (h : TrackersStay r s) : TrackersStay r (takeMembers g x s) := by
  refine h.foldl _ fun u n hu => ?_
  extract_lets old new joins leaves code _ s1
  have h1 : TrackersStay r s1 := hu.elsewhere.ite hu
  exact h1.ite h1.after_setMember

end TrackersStay

end Sys2Proof.Machine
end

section
/-! The tracker of a grid group at its boundaries: stamps, the tests of Table 08-1, the aligning boundary, and a hold that runs out
(R159 to R162). -/

namespace Sys2Proof.Machine

/-! ### What the tests of Table 08-1 write -/

/-- The fields that a change of a tracker's state may change. -/
def trkNums : List Fld := evtNums ++ [F.GRD_ST_STATE, F.GRD_ST_LOSSL, F.GRD_ST_SEEKL]

theorem noteLoss_shows (g : Nat) (s : State) : Shows trkNums s (noteLoss g s) :=
  ((Shows.refl trkNums s).put (by decide)).after_raise (by decide) (by decide)

theorem putState_only (g k : Nat) (s : State) : WritesOnly trkNums s (s.put F.GRD_ST_STATE g k) := .of_put s g k (by decide)

theorem toSeek_only (g : Nat) (s : State) : WritesOnly trkNums s (toSeek g s) := putState_only g 1 s

theorem toAcq_only (g : Nat) (s : State) : WritesOnly trkNums s (toAcq g s) := putState_only g 2 s

theorem lose_only (g : Nat) (s : State) : WritesOnly trkNums s (lose g s) := by
  unfold lose
  extract_lets s1 k
  refine (noteLoss_shows g s).only.trans ?_
  split
  · exact toSeek_only g s1
  · exact putState_only g 4 s1

theorem markTest_only (g : Nat) (rms : Rat) (s : State) : WritesOnly trkNums s (markTest g rms s) := by
  have hrefl := WritesOnly.refl trkNums s
  unfold markTest
  extract_lets k hi k1 drop ref
  split
  · split
    · exact toAcq_only g (setTrk g k1 s)
    · exact hrefl
  · split
    · exact hrefl
    · exact toSeek_only g s
  · split
    · exact lose_only g s
    · exact hrefl
  · split
    · exact toAcq_only g (setTrk g k1 s)
    · exact hrefl
  · exact hrefl

theorem boundaryTest_only (g : Nat) (e freq : Rat) (meas : Option Rat) (s : State) :
    WritesOnly trkNums s (boundaryTest g e freq meas s) := by
  have hrefl := WritesOnly.refl trkNums s
  unfold boundaryTest
  extract_lets k k1
  split
  · split
    · split
      · exact toSeek_only g s
      · split
        · split
          · exact putState_only g 3 s
          · exact hrefl
        · exact hrefl
    · split
      · split
        · exact toSeek_only g s
        · exact hrefl
      · exact hrefl
  · split
    · exact lose_only g s
    · exact hrefl
  · exact hrefl

theorem holdPassed_only (g : Nat) (s : State) : WritesOnly trkNums s (holdPassed g s) := by
  unfold holdPassed
  extract_lets k
  split <;> exact .refl trkNums s

/-! ### In ACQ, above ULOCK -/

section Acquiring

variable {g : Nat} {rms e : Rat} {s : State} (hacq : trkState s g = 2)
include hacq

theorem markTest_acq (hi : atLeast s g (s.fld F.GRD_LIM_ULOCK g) rms = true) : markTest g rms s = s := by
  unfold markTest
  rw [hacq]
  exact if_pos hi

theorem holdPassed_acq : holdPassed g s = s := if_neg (by omega)

/-- An error of at most 1° after two such is the third in a row: LOCKED (R161). -/
theorem boundaryTest_locks (freq : Rat) (meas : Option Rat) (haligned : (getTrk s g).aligned = true)
    (hsmall : (getTrk s g).small = 2) (he : rabs e ≤ 1) : trkState (boundaryTest g e freq meas s) g = 3 := by
  have hnear : ¬ 10 < rabs e := not_lt.2 (he.trans (by norm_num))
  unfold boundaryTest
  rw [hacq]
  dsimp only
  rw [if_pos haligned, if_neg hnear, if_pos he, if_pos (by omega)]
  exact put_fld_same s F.GRD_ST_STATE g 3

end Acquiring

/-! ### Stamps, and the end of a cycle (R160, R162) -/

/-- The fields that a stamp may change. -/
def stampNums : List Fld := [F.GRD_TB_LO_TB_LO, F.GRD_TB_HI_TB_HI, F.GRD_ST_CSEQ]

theorem stampBoundary_only (g t : Nat) (s : State) : WritesOnly stampNums s (stampBoundary g t s) :=
  ((WritesOnly.of_put s g t (by decide)).trans (.of_put _ g _ (by decide))).trans (.of_put _ g _ (by decide))

/-- A stamped boundary: its site time, and CSEQ one on. -/
def Stamped (g t cseq : Nat) (s : State) : Prop :=
  s.fld F.GRD_TB_LO_TB_LO g = t % 2 ^ 32 ∧ s.fld F.GRD_TB_HI_TB_HI g = t / 2 ^ 32 % 2 ^ 32 ∧
    s.fld F.GRD_ST_CSEQ g = (cseq + 1) % 2 ^ 16

theorem stampBoundary_stamped (g t : Nat) (s : State) : Stamped g t (s.fld F.GRD_ST_CSEQ g) (stampBoundary g t s) := by
  refine ⟨?_, ?_, put_fld_same _ _ _ _⟩
  · exact (put_fld_field _ _ _ _ _ _ (by decide)).trans ((put_fld_field _ _ _ _ _ _ (by decide)).trans (put_fld_same _ _ _ _))
  · exact (put_fld_field _ _ _ _ _ _ (by decide)).trans (put_fld_same _ _ _ _)

/-- A stamp stands through what writes none of its fields. -/
theorem Stamped.after {g t cseq : Nat} {s u : State} {l : List Fld} (h : Stamped g t cseq s) (hsu : WritesOnly l s u)
    (hl : (stampNums.all fun f => l.all fun x => x.id != f.id) = true) : Stamped g t cseq u := by
  obtain ⟨hlo, hhi, hseq⟩ := h
  simp only [stampNums, List.all_cons, List.all_nil, Bool.and_true, Bool.and_eq_true] at hl
  obtain ⟨hllo, hlhi, hlseq⟩ := hl
  exact ⟨(hsu.fld g hllo).trans hlo, (hsu.fld g hlhi).trans hhi, (hsu.fld g hlseq).trans hseq⟩

/-- A cycle that closes is its tracker's latest, and in LOCKED FREQ shows the reciprocal of its length; the tracker's state stays. -/
theorem closeCycle_spec (g t : Nat) (old : GrdTrk) (align : Bool) (s : State) : ∃ k v,
    TrackersStay ((setTrk g k s).put F.GRD_FREQ_FREQ g v) (closeCycle g t old align s) ∧ k.lastT = t ∧
      k.aligned = (getTrk s g).aligned ∧ k.nco = (getTrk s g).nco ∧
      (trkState s g = 3 → v = (nearest (hzOf (t - old.lastT) * 1000000)).toNat) := by
  unfold closeCycle
  extract_lets k lock freq whole unlk full w k1
  refine ⟨_, _, (TrackersStay.refl _).after_fexTest.after_sessBoundary, rfl, rfl, rfl, fun h => ?_⟩
  have hlock : lock = true := beq_iff_eq.2 h
  simp only [freq, hlock, if_true]

/-! ### Windows that begin (R165, R168) -/

theorem takeSmooth_spec (g t : Nat) (s : State) : WritesOnly dstNums s (takeSmooth g t s) ∧
    getTrk (takeSmooth g t s) g = { getTrk s g with smooth := s.bit F.GRD_CFG_SMOOTH g } := by
  unfold takeSmooth
  extract_lets k b
  split
  next hsame => exact ⟨.refl _ s, by rw [show s.bit F.GRD_CFG_SMOOTH g = k.smooth from hsame]⟩
  next =>
    have hstay : TrackersStay (setTrk g { k with smooth := b } s) (restartSmooth g t (setTrk g { k with smooth := b } s)) :=
      (TrackersStay.refl _).after_restartSmooth
    exact ⟨hstay.only, (hstay.getTrk_eq g).trans (getTrk_setTrk_same g _ s)⟩

theorem windowStart_spec (g t : Nat) (s : State) : WritesOnly dstNums s (windowStart g t s) ∧
    getTrk (windowStart g t s) g = { getTrk s g with smooth := s.bit F.GRD_CFG_SMOOTH g } := by
  have hstay : TrackersStay s (takeMembers g t s) := (TrackersStay.refl s).after_takeMembers
  obtain ⟨honly, htrk⟩ := takeSmooth_spec g t (takeMembers g t s)
  refine ⟨hstay.only.trans honly, htrk.trans ?_⟩
  rw [hstay.getTrk_eq g, hstay.only.bit g (by decide)]

/-- A tracker whose window begins anew at t. -/
def GrdTrk.anew (k : GrdTrk) (t : Nat) : GrdTrk :=
  { k with bounds := [t], winUnlk := false, winGap := false, prevWin := none
           marks := if k.bounds = [t] then k.marks else ((t, false) :: k.marks).take 8 }

theorem abandonWindow_spec (g t : Nat) (s : State) : WritesOnly dstNums s (abandonWindow g t s) ∧
    getTrk (abandonWindow g t s) g = { (getTrk s g).anew t with smooth := s.bit F.GRD_CFG_SMOOTH g } := by
  obtain ⟨honly, htrk⟩ := windowStart_spec g t (setTrk g ((getTrk s g).anew t) s)
  rw [getTrk_setTrk_same] at htrk
  have hstay : TrackersStay (windowStart g t (setTrk g ((getTrk s g).anew t) s)) (abandonWindow g t s) :=
    (TrackersStay.refl _).after_restartSmooth
  exact ⟨honly.trans hstay.only, (hstay.getTrk_eq g).trans htrk⟩

/-! ### A boundary of an enabled group (R160 to R162) -/

theorem cycleBoundary_waits {g t : Nat} {rms e nco : Rat} {meas : Option Rat} {s : State} (h : boundaryDue s g t = false) :
    cycleBoundary g t rms e nco meas s = s := if_neg (by simp [h])

/-- The boundary at t is stamped, and the NCO has rolled over it. -/
def rolledOver (g t : Nat) (nco : Rat) (s : State) : State :=
  setTrk g ((getTrk s g).roll (trkState (stampBoundary g t (reachTime t s)) g == 3) t nco) (stampBoundary g t (reachTime t s))

theorem rolledOver_only (g t : Nat) (nco : Rat) (s : State) : WritesOnly stampNums s (rolledOver g t nco s) :=
  stampBoundary_only g t (reachTime t s)

theorem rolledOver_stamped (g t : Nat) (nco : Rat) (s : State) : Stamped g t (s.fld F.GRD_ST_CSEQ g) (rolledOver g t nco s) :=
  stampBoundary_stamped g t (reachTime t s)

theorem getTrk_rolledOver (g t : Nat) (nco : Rat) (s : State) :
    ∃ locked, getTrk (rolledOver g t nco s) g = (getTrk s g).roll locked t nco :=
  ⟨_, getTrk_setTrk_same g _ _⟩

theorem roll_keeps (k : GrdTrk) (locked : Bool) (t : Nat) (f : Rat) :
    (k.roll locked t f).aligned = k.aligned ∧ (k.roll locked t f).small = k.small := by
  unfold GrdTrk.roll
  cases locked <;> exact ⟨rfl, rfl⟩

section Due

variable {g t : Nat} {rms e nco : Rat} {meas : Option Rat} {s : State} (hrun : running s = true) (hon : trkState s g ≠ 0)
  (hdue : boundaryDue s g t = true)
include hrun hon hdue

/-- The tracker's state is tested between the stamp and the end of the cycle. -/
theorem cycleBoundary_due : ∃ freq : Rat, cycleBoundary g t rms e nco meas s =
    closeCycle g t (getTrk s g) false (boundaryTest g e freq meas (markTest g rms (holdPassed g (rolledOver g t nco s)))) :=
  ⟨_, if_pos (by simp [hrun, hon, hdue])⟩

theorem cycleBoundary_spec : Stamped g t (s.fld F.GRD_ST_CSEQ g) (cycleBoundary g t rms e nco meas s) ∧
    (getTrk (cycleBoundary g t rms e nco meas s) g).lastT = t ∧
    (trkState (cycleBoundary g t rms e nco meas s) g = 3 → (cycleBoundary g t rms e nco meas s).fld F.GRD_FREQ_FREQ g =
      (nearest (hzOf (t - (getTrk s g).lastT) * 1000000)).toNat % 2 ^ 32) := by
  obtain ⟨freq, heq⟩ := cycleBoundary_due (rms := rms) (e := e) (nco := nco) (meas := meas) hrun hon hdue
  rw [heq]
  have htest : WritesOnly trkNums (rolledOver g t nco s)
      (boundaryTest g e freq meas (markTest g rms (holdPassed g (rolledOver g t nco s)))) :=
    (holdPassed_only g _).trans ((markTest_only g rms _).trans (boundaryTest_only g e freq meas _))
  generalize boundaryTest g e freq meas (markTest g rms (holdPassed g (rolledOver g t nco s))) = u at htest ⊢
  obtain ⟨k, v, hstay, hlast, -, -, hfreq⟩ := closeCycle_spec g t (getTrk s g) false u
  have hclose : WritesOnly [F.GRD_FREQ_FREQ] u ((setTrk g k u).put F.GRD_FREQ_FREQ g v) :=
    .of_put (setTrk g k u) g v (List.mem_singleton_self _)
  have hstamp := ((rolledOver_stamped g t nco s).after htest (by decide)).after hclose (by decide)
  refine ⟨hstamp.after hstay.only (by decide), ?_, fun h => ?_⟩
  · rw [hstay.getTrk_eq g]
    exact (congrArg GrdTrk.lastT (getTrk_setTrk_same g k u)).trans hlast
  · have hlock : trkState u g = 3 := (hclose.fld g (by decide)).symm.trans ((hstay.trkState_eq g).symm.trans h)
    rw [hstay.only.fld g (by decide), put_fld_same, hfreq hlock]
    rfl

/-- In an aligned ACQ the third error in a row of at most 1°, with the reference above ULOCK, locks the tracker (R161). -/
theorem cycleBoundary_locks (hacq : trkState s g = 2) (haligned : (getTrk s g).aligned = true) (hsmall : (getTrk s g).small = 2)
    (he : rabs e ≤ 1) (hi : atLeast s g (s.fld F.GRD_LIM_ULOCK g) rms = true) :
    trkState (cycleBoundary g t rms e nco meas s) g = 3 := by
  obtain ⟨freq, heq⟩ := cycleBoundary_due (rms := rms) (e := e) (nco := nco) (meas := meas) hrun hon hdue
  have honly := rolledOver_only g t nco s
  obtain ⟨locked, htrk⟩ := getTrk_rolledOver g t nco s
  obtain ⟨hkal, hksm⟩ := roll_keeps (getTrk s g) locked t nco
  have hst : trkState (rolledOver g t nco s) g = 2 := (honly.fld g (by decide)).trans hacq
  have hhi : atLeast (rolledOver g t nco s) g ((rolledOver g t nco s).fld F.GRD_LIM_ULOCK g) rms = true := by
    unfold atLeast at hi ⊢
    rwa [honly.fld g (by decide), honly.fld g (by decide)]
  have hlocks : trkState (boundaryTest g e freq meas (rolledOver g t nco s)) g = 3 :=
    boundaryTest_locks hst freq meas (by rw [htrk, hkal, haligned]) (by rw [htrk, hksm, hsmall]) he
  rw [heq, holdPassed_acq hst, markTest_acq hst hhi]
  obtain ⟨k, v, hstay, -⟩ := closeCycle_spec g t (getTrk s g) false (boundaryTest g e freq meas (rolledOver g t nco s))
  exact (hstay.trkState_eq g).trans ((put_fld_field _ _ _ _ _ _ (by decide)).trans hlocks)

end Due

/-! ### The aligning boundary (R161) -/

/-- The boundary is stamped, and the NCO takes the frequency measured and the reference's phase. -/
def realigned (g t : Nat) (f : Rat) (s : State) : State :=
  setTrk g { getTrk s g with measured := some f, nco := f, next := t + 1000000000 / f, aligned := true, small := 0 }
    (stampBoundary g t (reachTime t s))

theorem realigned_only (g t : Nat) (f : Rat) (s : State) : WritesOnly stampNums s (realigned g t f s) :=
  stampBoundary_only g t (reachTime t s)

theorem realigned_stamped (g t : Nat) (f : Rat) (s : State) : Stamped g t (s.fld F.GRD_ST_CSEQ g) (realigned g t f s) :=
  stampBoundary_stamped g t (reachTime t s)

/-- Where the last cycle of a window has closed, its window has begun at the boundary; any other window is abandoned. -/
def windowFrom (g t : Nat) (s : State) : State := if (getTrk s g).bounds = [t] then s else abandonWindow g t s

theorem windowFrom_spec (g t : Nat) (s : State) : WritesOnly dstNums s (windowFrom g t s) ∧
    (getTrk (windowFrom g t s) g).bounds = [t] ∧ (getTrk (windowFrom g t s) g).aligned = (getTrk s g).aligned ∧
    (getTrk (windowFrom g t s) g).nco = (getTrk s g).nco ∧ (getTrk (windowFrom g t s) g).lastT = (getTrk s g).lastT := by
  unfold windowFrom
  split
  next hbegun => exact ⟨.refl _ s, hbegun, rfl, rfl, rfl⟩
  next =>
    obtain ⟨honly, htrk⟩ := abandonWindow_spec g t s
    rw [htrk]
    exact ⟨honly, rfl, rfl, rfl, rfl⟩

section Aligning

variable {g t : Nat} {rms f : Rat} {s : State} (hrun : running s = true) (hacq : trkState s g = 2)
  (hfresh : (getTrk s g).aligned = false)
include hrun hacq hfresh

theorem aligningBoundary_seeks (hout : outsideBand ((getTrk s g).acqFreq f) = true) :
    aligningBoundary g t rms f s = toSeek g (reachTime t s) :=
  (if_pos (by simp [hrun, hacq, hfresh])).trans (if_pos hout)

variable (hin : outsideBand ((getTrk s g).acqFreq f) = false)
include hin

theorem aligningBoundary_waits (hwait : (getTrk s g).alignDue ((getTrk s g).acqFreq f) t = false) :
    aligningBoundary g t rms f s = s :=
  (if_pos (by simp [hrun, hacq, hfresh])).trans ((if_neg (by simp [hin])).trans (if_neg (by simp [hwait])))

theorem aligningBoundary_aligns (hdue : (getTrk s g).alignDue ((getTrk s g).acqFreq f) t = true)
    (hi : atLeast s g (s.fld F.GRD_LIM_ULOCK g) rms = true) : aligningBoundary g t rms f s =
      windowFrom g t (closeCycle g t (getTrk s g) true (realigned g t ((getTrk s g).acqFreq f) s)) := by
  have honly := realigned_only g t ((getTrk s g).acqFreq f) s
  have hhi : atLeast (realigned g t ((getTrk s g).acqFreq f) s) g
      ((realigned g t ((getTrk s g).acqFreq f) s).fld F.GRD_LIM_ULOCK g) rms = true := by
    unfold atLeast at hi ⊢
    rwa [honly.fld g (by decide), honly.fld g (by decide)]
  have hmark := markTest_acq ((honly.fld g (by decide)).trans hacq : trkState _ g = 2) hhi
  refine (if_pos (by simp [hrun, hacq, hfresh])).trans ((if_neg (by simp [hin])).trans ((if_pos hdue).trans ?_))
  exact congrArg (fun u => windowFrom g t (closeCycle g t (getTrk s g) true u)) hmark

theorem aligningBoundary_spec (hdue : (getTrk s g).alignDue ((getTrk s g).acqFreq f) t = true)
    (hi : atLeast s g (s.fld F.GRD_LIM_ULOCK g) rms = true) :
    Stamped g t (s.fld F.GRD_ST_CSEQ g) (aligningBoundary g t rms f s) ∧ trkState (aligningBoundary g t rms f s) g = 2 ∧
      (getTrk (aligningBoundary g t rms f s) g).aligned = true ∧
      (getTrk (aligningBoundary g t rms f s) g).nco = (getTrk s g).acqFreq f ∧
      (getTrk (aligningBoundary g t rms f s) g).bounds = [t] ∧ (getTrk (aligningBoundary g t rms f s) g).lastT = t := by
  rw [aligningBoundary_aligns hrun hacq hfresh hin hdue hi]
  have hst : trkState (realigned g t ((getTrk s g).acqFreq f) s) g = 2 := ((realigned_only g t _ s).fld g (by decide)).trans hacq
  obtain ⟨k, v, hstay, hlast, hal, hnco, -⟩ := closeCycle_spec g t (getTrk s g) true (realigned g t ((getTrk s g).acqFreq f) s)
  have hnew : getTrk (realigned g t ((getTrk s g).acqFreq f) s) g = _ := getTrk_setTrk_same g _ _
  rw [hnew] at hal hnco
  have hclose : WritesOnly [F.GRD_FREQ_FREQ] (realigned g t ((getTrk s g).acqFreq f) s)
      ((setTrk g k (realigned g t ((getTrk s g).acqFreq f) s)).put F.GRD_FREQ_FREQ g v) :=
    .of_put (setTrk g k _) g v (List.mem_singleton_self _)
  have hk : getTrk (closeCycle g t (getTrk s g) true (realigned g t ((getTrk s g).acqFreq f) s)) g = k :=
    (hstay.getTrk_eq g).trans (getTrk_setTrk_same g k _)
  generalize closeCycle g t (getTrk s g) true (realigned g t ((getTrk s g).acqFreq f) s) = u at hstay hk ⊢
  obtain ⟨honly, hbounds, halw, hncow, hlastw⟩ := windowFrom_spec g t u
  have hstamp := ((realigned_stamped g t _ s).after hclose (by decide)).after hstay.only (by decide)
  refine ⟨hstamp.after honly (by decide), ?_, ?_, ?_, hbounds, ?_⟩
  · exact (honly.fld g (by decide)).trans ((hstay.trkState_eq g).trans ((hclose.fld g (by decide)).trans hst))
  · rw [halw, hk, hal]
  · rw [hncow, hk, hnco]
  · rw [hlastw, hk, hlast]

end Aligning

/-! ### A hold that runs out (R159) -/

theorem trackerHoldExpire_waits {g : Nat} {s : State} (h : (getTrk s g).holdN < s.fld F.GRD_LIM_HOLDT g) :
    trackerHoldExpire g s = s := if_neg fun hover => absurd hover.2 (by omega)

/-- HOLD that has run out is left for SEEK, its NCO at FNOM. -/
def holdEnded (g : Nat) (s : State) : State := toSeek g (s.put F.GRD_ST_SEEKL g 1)

theorem trackerHoldExpire_over {g : Nat} {s : State} (hhold : trkState s g = 4) (h : s.fld F.GRD_LIM_HOLDT g ≤ (getTrk s g).holdN) :
    trackerHoldExpire g s = raise 13 g (holdEnded g s) := if_pos ⟨hhold, h⟩

theorem holdEnded_writes (g : Nat) (s : State) : Writes [(F.GRD_ST_STATE, g, 1), (F.GRD_ST_SEEKL, g, 1)] s (holdEnded g s) :=
  Writes_of_flds (Writes_perm (List.Perm.swap _ _ _)
    (Writes_snoc (Writes_put s F.GRD_ST_SEEKL g 1 (by decide)) (f := F.GRD_ST_STATE) (i := g) (v := 1) (by decide) rfl)) rfl

/-! ### The obligation -/

/-- Settles O32: the stamp stands through the tests and the end of the cycle, which leaves the state that they gave; the aligning boundary
begins a window, and HOLD past HOLDT goes to SEEK. -/
theorem trackerStampsAndLocks : Obligations.TrackerStampsAndLocks := by
  refine ⟨fun s g t0 rms e nco meas hrun hon => ⟨fun hwait => ?_, fun hdue => ?_⟩,
    fun s g t0 rms f hrun hacq hfresh => ⟨fun hout => ?_, fun hin => ⟨fun hwait => ?_, fun hdue hi => ?_⟩⟩,
    fun s g hrun hhold => ⟨fun hwait => ?_, fun hover => ?_⟩⟩
  · exact congrArg Host.Outcome.next (cycleBoundary_waits hwait)
  · obtain ⟨⟨hlo, hhi, hseq⟩, hlast, hfreq⟩ := cycleBoundary_spec (rms := rms) (e := e) (nco := nco) (meas := meas) hrun hon hdue
    exact ⟨_, rfl, hlo, hhi, hseq, hlast, hfreq, fun hacq hal hsmall he hi => cycleBoundary_locks hrun hon hdue hacq hal hsmall he hi⟩
  · exact congrArg Host.Outcome.next (aligningBoundary_seeks hrun hacq hfresh hout)
  · exact congrArg Host.Outcome.next (aligningBoundary_waits hrun hacq hfresh hin hwait)
  · obtain ⟨⟨hlo, -, -⟩, hst, hal, hnco, hbounds, hlast⟩ := aligningBoundary_spec hrun hacq hfresh hin hdue hi
    exact ⟨_, rfl, hst, hal, hnco, hbounds, hlast, hlo⟩
  · refine congrArg Host.Outcome.next ((if_pos hrun).trans (trackerHoldExpire_waits hwait))
  · exact ⟨holdEnded g s, congrArg Host.Outcome.next ((if_pos hrun).trans (trackerHoldExpire_over hhold hover)), rfl,
      holdEnded_writes g s, congrArg GrdTrk.nco (getTrk_setTrk_same g.val _ _)⟩

end Sys2Proof.Machine
end

section
/-! Grid settings as they take effect: groups enabled and disabled, changes of FNOM and REF, and the frequency of 10 s (R159, R162,
R173, R183). -/

namespace Sys2Proof.Machine

/-! ### A group is enabled (R159, R173) -/

/-- The tracker of a newly enabled group at its first boundary, with the settings of its registers. -/
def firstTrk (g t : Nat) (s : State) : GrdTrk :=
  let k := getTrk s g
  let f60 := s.bit F.GRD_CFG_FNOM g
  { GrdTrk.blank with
    n10 := k.n10, d10 := k.d10, t10 := k.t10, f60 := f60, ref := s.fld F.GRD_CFG_REF g, smooth := s.bit F.GRD_CFG_SMOOTH g
    nco := if f60 then 60 else 50, next := t + 1000000000 / (if f60 then 60 else 50), lastT := t, bounds := [t], marks := [(t, false)] }

/-- The group has its tracker, and its first boundary is stamped. -/
def enabledAt (g t : Nat) (s : State) : State := stampBoundary g t (setTrk g (firstTrk g t s) (reachTime t s))

section Enabled

variable {g t : Nat} {s : State}

theorem gridEnable_waits (h : t % 20000000 ≠ 0) : gridEnable g t s = s := if_neg (by simp [h])

variable (hrun : running s = true) (hen : s.bit F.GRD_CFG_EN g = true) (hoff : trkState s g = 0) (hdue : t % 20000000 = 0)
include hrun hen hoff hdue

/-- Before its state is SEEK the group has its first members and its first half-cycle mark. -/
theorem gridEnable_stays : ∃ u, TrackersStay (enabledAt g t s) u ∧ TrackersStay (u.put F.GRD_ST_STATE g 1) (gridEnable g t s) := by
  unfold gridEnable
  rw [if_pos (by simp [hrun, hen, hoff, hdue])]
  exact ⟨_, (TrackersStay.refl _).after_setDst.after_takeMembers.after_restartSmooth, (TrackersStay.refl _).after_sessBoundary⟩

theorem gridEnable_spec : Stamped g t (s.fld F.GRD_ST_CSEQ g) (gridEnable g t s) ∧ trkState (gridEnable g t s) g = 1 ∧
    getTrk (gridEnable g t s) g = firstTrk g t s ∧ (gridEnable g t s).pwr = s.pwr ∧ (gridEnable g t s).mtr = s.mtr := by
  obtain ⟨u, hu, hstay⟩ := gridEnable_stays hrun hen hoff hdue
  have hstamp : Stamped g t (s.fld F.GRD_ST_CSEQ g) (enabledAt g t s) :=
    stampBoundary_stamped g t (setTrk g (firstTrk g t s) (reachTime t s))
  have hseek := (hstamp.after hu.only (by decide)).after (putState_only g 1 u) (by decide)
  refine ⟨hseek.after hstay.only (by decide), ?_, ?_, hstay.pwr.trans hu.pwr, hstay.mtr.trans hu.mtr⟩
  · exact (hstay.trkState_eq g).trans (put_fld_same u F.GRD_ST_STATE g 1)
  · exact (hstay.getTrk_eq g).trans ((hu.getTrk_eq g).trans (getTrk_setTrk_same g _ (reachTime t s)))

end Enabled

/-! ### A group is disabled (R173, R183) -/

theorem setMember_grd (n t code : Nat) (s : State) : (setMember n t code s).grd =
    { s.grd with mem := mput 0 s.grd.mem n code, joinT := mput 0 s.grd.joinT n (t + 1) } :=
  List.foldlRecOn (motive := fun u : State => u.grd =
      { s.grd with mem := mput 0 s.grd.mem n code, joinT := mput 0 s.grd.joinT n (t + 1) }) (List.range 4) _ rfl fun _ hu _ _ => hu

/-- A stream that leaves its group is in none; every other stream stays as it is. -/
theorem groupOf_setMember_zero (n t : Nat) (s : State) (m : Nat) :
    groupOf (setMember n t 0 s) m = if m = n then none else groupOf s m := by
  unfold groupOf
  rw [setMember_grd]
  split
  next h => rw [h, mget_mput_same]; rfl
  next h => rw [mget_mput_other 0 0 _ _ _ _ h]

/-- Streams that leave a group one after another. -/
theorem groupOf_leave (t m : Nat) (ms : List WinMem) (s : State) :
    groupOf (ms.foldl (fun s x => setMember x.n t 0 s) s) m = if m ∈ ms.map WinMem.n then none else groupOf s m := by
  induction ms generalizing s with
  | nil => simp
  | cons x ms ih =>
    rw [List.foldl_cons, ih, groupOf_setMember_zero, List.map_cons]
    simp only [List.mem_cons]
    split_ifs <;> tauto

theorem mem_windowMembers {s : State} {g n : Nat} (hn : n < 144) (hg : groupOf s n = some g) : n ∈ (windowMembers s g).map WinMem.n := by
  unfold windowMembers
  simp [hn, hg]

theorem cutDst_stays (g t : Nat) (s : State) : TrackersStay s (cutDst g t s) := (TrackersStay.refl s).after_cutDst

theorem cutDst_grd (g t : Nat) (s : State) : (cutDst g t s).grd = s.grd := by
  unfold cutDst
  extract_lets
  exact List.foldlRecOn (motive := fun u : State => u.grd = s.grd) (List.range 144) _ rfl fun u hu n _ => by
    split
    · exact hu
    · exact hu

/-- A tracker in OFF keeps the cycles of the 10 s in progress. -/
def offTrk (k : GrdTrk) : GrdTrk := { GrdTrk.blank with n10 := k.n10, d10 := k.d10, t10 := k.t10 }

theorem trkState_setTrk (g h : Nat) (k : GrdTrk) (s : State) : trkState (setTrk g k s) h = trkState s h := rfl

theorem setTrk_mem (g : Nat) (k : GrdTrk) (s : State) : (setTrk g k s).grd.mem = s.grd.mem := rfl

/-- A tracker that leaves LOCKED notes it (R176). -/
def lossNoted (g : Nat) (s : State) : State := if trkState s g = 3 then noteLoss g s else s

theorem lossNoted_shows (g : Nat) (s : State) : Shows trkNums s (lossNoted g s) := (noteLoss_shows g s).ite (.refl trkNums s)

theorem Shows.grd {l : List Fld} {s t : State} (h : Shows l s t) : t.grd = s.grd := (congrArg State.grd h.1 :)

theorem Shows.getTrk_eq {l : List Fld} {s t : State} (h : Shows l s t) (g : Nat) : getTrk t g = getTrk s g :=
  congrArg (fun x : GrdSt => mget GrdTrk.blank x.trk g) h.grd

theorem trackerOff_on {g t : Nat} {s : State} (hon : trkState s g ≠ 0) : trackerOff g t s =
    setTrk g (offTrk (getTrk s g)) (cutDst g t ((lossNoted g s).put F.GRD_ST_STATE g 0)) := if_neg hon

/-- A tracker that enters OFF leaves the members of every group alone. -/
theorem trackerOff_spec {g t : Nat} {s : State} (hon : trkState s g ≠ 0) : trkState (trackerOff g t s) g = 0 ∧
    getTrk (trackerOff g t s) g = offTrk (getTrk s g) ∧ (trackerOff g t s).grd.mem = s.grd.mem := by
  have hst := ((cutDst_stays g t ((lossNoted g s).put F.GRD_ST_STATE g 0)).trkState_eq g).trans
    (put_fld_same (lossNoted g s) F.GRD_ST_STATE g 0)
  have hgrd := (cutDst_grd g t ((lossNoted g s).put F.GRD_ST_STATE g 0)).trans (lossNoted_shows g s).grd
  rw [trackerOff_on hon]
  exact ⟨(trkState_setTrk g g _ _).trans hst, getTrk_setTrk_same g _ _, (setTrk_mem g _ _).trans (congrArg GrdSt.mem hgrd)⟩

section Disabled

variable {g t : Nat} {s : State}

theorem gridDisable_waits (h : atGroupBoundary s g t = false) : gridDisable g t s = s := if_neg (by simp [h])

theorem gridDisable_spec (hrun : running s = true) (hdis : s.bit F.GRD_CFG_EN g = false) (hat : atGroupBoundary s g t = true) :
    trkState (gridDisable g t s) g = 0 ∧ getTrk (gridDisable g t s) g = offTrk (getTrk s g) ∧
      ∀ n < 144, groupOf (gridDisable g t s) n ≠ some g := by
  have hon : trkState s g ≠ 0 := by
    simp only [atGroupBoundary, Bool.and_eq_true, bne_iff_ne] at hat
    obtain ⟨⟨hon, -⟩, -⟩ := hat
    exact hon
  have heq : gridDisable g t s = (windowMembers s g).foldl (fun s x => setMember x.n t 0 s) (trackerOff g t s) :=
    if_pos (by simp [hrun, hdis, hat])
  obtain ⟨hst, htrk, hmem⟩ := trackerOff_spec (t := t) hon
  have hstay : TrackersStay (trackerOff g t s) (gridDisable g t s) := by
    rw [heq]
    exact (TrackersStay.refl _).foldl _ fun _ _ hu => hu.after_setMember
  refine ⟨(hstay.trkState_eq g).trans hst, (hstay.getTrk_eq g).trans htrk, fun n hn hin => ?_⟩
  rw [heq, groupOf_leave] at hin
  split at hin
  · cases hin
  next hout =>
    refine hout (mem_windowMembers hn ?_)
    rwa [groupOf, hmem] at hin

end Disabled

/-! ### Another FNOM or REF (R159, R173) -/

/-- A tracker with the FNOM and REF of its registers. -/
def rereferenced (g : Nat) (s : State) (k : GrdTrk) : GrdTrk :=
  { k with f60 := s.bit F.GRD_CFG_FNOM g, ref := s.fld F.GRD_CFG_REF g, above := 0, holdN := 0 }

/-- HOLD, or where HOLDT is 0 SEEK, with event 13 out of HOLD. -/
def heldOrSeeking (g : Nat) (s : State) : State :=
  if s.fld F.GRD_LIM_HOLDT g ≠ 0 then s.put F.GRD_ST_STATE g 4 else if trkState s g = 4 then holdToSeek g s else toSeek g s

theorem toSeek_spec (g : Nat) (s : State) : trkState (toSeek g s) g = 1 ∧ (getTrk (toSeek g s) g).f60 = (getTrk s g).f60 ∧
    (getTrk (toSeek g s) g).ref = (getTrk s g).ref := by
  rw [show getTrk (toSeek g s) g = _ from getTrk_setTrk_same g _ _]
  exact ⟨put_fld_same s F.GRD_ST_STATE g 1, rfl, rfl⟩

theorem holdToSeek_spec (g : Nat) (s : State) : trkState (holdToSeek g s) g = 1 ∧
    (getTrk (holdToSeek g s) g).f60 = (getTrk s g).f60 ∧ (getTrk (holdToSeek g s) g).ref = (getTrk s g).ref := by
  have hraise : Shows evtNums (holdEnded g s) (holdToSeek g s) := (Shows.refl evtNums _).after_raise (by decide) (List.Subset.refl _)
  obtain ⟨hst, hf60, href⟩ := toSeek_spec g (s.put F.GRD_ST_SEEKL g 1)
  rw [hraise.getTrk_eq g]
  exact ⟨(hraise.only.fld g (by decide)).trans hst, hf60, href⟩

/-- HOLD or SEEK keeps the reference of a tracker. -/
theorem heldOrSeeking_spec (g : Nat) (s : State) : trkState (heldOrSeeking g s) g = (if s.fld F.GRD_LIM_HOLDT g = 0 then 1 else 4) ∧
    (getTrk (heldOrSeeking g s) g).f60 = (getTrk s g).f60 ∧ (getTrk (heldOrSeeking g s) g).ref = (getTrk s g).ref := by
  unfold heldOrSeeking
  by_cases hzero : s.fld F.GRD_LIM_HOLDT g = 0
  · rw [if_neg (not_not.2 hzero), if_pos hzero]
    split
    · exact holdToSeek_spec g s
    · exact toSeek_spec g s
  · rw [if_pos hzero, if_neg hzero]
    exact ⟨put_fld_same s F.GRD_ST_STATE g 4, rfl, rfl⟩

section Changed

variable {g t : Nat} {s : State}

theorem gridRefChange_waits (h : atGroupBoundary s g t = false ∨ refChanged s g = false) : gridRefChange g t s = s :=
  if_neg (by rcases h with h | h <;> simp [h])

variable (hrun : running s = true) (hat : atGroupBoundary s g t = true) (hch : refChanged s g = true)
include hrun hat hch

theorem gridRefChange_due : gridRefChange g t s =
    abandonWindow g t (heldOrSeeking g (setTrk g (rereferenced g s (getTrk (lossNoted g s) g)) (lossNoted g s))) :=
  if_pos (by simp [hrun, hat, hch])

theorem gridRefChange_spec : trkState (gridRefChange g t s) g = (if s.fld F.GRD_LIM_HOLDT g = 0 then 1 else 4) ∧
    (getTrk (gridRefChange g t s) g).f60 = s.bit F.GRD_CFG_FNOM g ∧ (getTrk (gridRefChange g t s) g).ref = s.fld F.GRD_CFG_REF g ∧
    (getTrk (gridRefChange g t s) g).bounds = [t] := by
  rw [gridRefChange_due hrun hat hch]
  have hholdt : (lossNoted g s).fld F.GRD_LIM_HOLDT g = s.fld F.GRD_LIM_HOLDT g := (lossNoted_shows g s).only.fld g (by decide)
  obtain ⟨hst, hf60, href⟩ := heldOrSeeking_spec g (setTrk g (rereferenced g s (getTrk (lossNoted g s) g)) (lossNoted g s))
  rw [getTrk_setTrk_same] at hf60 href
  obtain ⟨honly, htrk⟩ := abandonWindow_spec g t
    (heldOrSeeking g (setTrk g (rereferenced g s (getTrk (lossNoted g s) g)) (lossNoted g s)))
  rw [htrk]
  refine ⟨(honly.fld g (by decide)).trans (hst.trans ?_), hf60, href, rfl⟩
  rw [← hholdt]
  rfl

end Changed

/-! ### The frequency of 10 s (R162) -/

/-- GRD_F10S of a tracker's LOCKED cycles: 0 without any. -/
def f10sWord (k : GrdTrk) : Nat := (nearest ((if k.n10 = 0 then 0 else (k.n10 * 1000000000 / k.d10 : Rat)) * 1000000)).toNat

/-- The 10 s of one group end. -/
def f10sGroup (t : Nat) (s : State) (g : Nat) : State :=
  setTrk g { getTrk s g with n10 := 0, d10 := 0, t10 := t } (s.put F.GRD_F10S_F10S g (f10sWord (getTrk s g)))

theorem f10sPost_waits {t : Nat} {s : State} (h : t % 10000000000 ≠ 0) : f10sPost t s = s := if_neg (by simp [h])

theorem f10sPost_due {t : Nat} {s : State} (hrun : running s = true) (h : t % 10000000000 = 0) :
    f10sPost t s = (List.range 4).foldl (f10sGroup t) (reachTime t s) := if_pos (by simp [hrun, h])

theorem f10sWord_none {k : GrdTrk} (h : k.n10 = 0) : f10sWord k = 0 := by
  unfold f10sWord
  rw [if_pos h, zero_mul]
  have hfloor : Rat.floor 0 = 0 := Rat.floor_intCast 0
  simp [nearest, hfloor]

theorem f10sWord_some {k : GrdTrk} (h : k.n10 ≠ 0) :
    f10sWord k = (nearest ((k.n10 * 1000000000 / k.d10 : Rat) * 1000000)).toNat := by
  unfold f10sWord
  rw [if_neg h]

/-- Elements of other indices share no place, of whatever fields. -/
theorem fkey_index_ne (f g : Fld) {i j : Nat} (hi : i < 65536) (hj : j < 65536) (h : i ≠ j) : fkey f i ≠ fkey g j := by
  unfold fkey
  omega

/-- A write leaves every element of another index alone. -/
theorem put_fld_index (s : State) (f g : Fld) {i j : Nat} (v : Nat) (hi : i < 65536) (hj : j < 65536) (h : i ≠ j) :
    (s.put f i v).fld g j = s.fld g j := put_fld_other s f g i j v (fkey_index_ne f g hi hj h)

theorem f10sGroup_same (t : Nat) (s : State) (g : Nat) :
    getTrk (f10sGroup t s g) g = { getTrk s g with n10 := 0, d10 := 0, t10 := t } ∧
      (f10sGroup t s g).fld F.GRD_F10S_F10S g = f10sWord (getTrk s g) % 2 ^ 32 :=
  ⟨getTrk_setTrk_same g _ _, put_fld_same s _ _ _⟩

theorem f10sGroup_other (t : Nat) (s : State) {g h : Nat} (hg : g < 65536) (hh : h < 65536) (hne : h ≠ g) :
    getTrk (f10sGroup t s g) h = getTrk s h ∧ (f10sGroup t s g).fld F.GRD_F10S_F10S h = s.fld F.GRD_F10S_F10S h :=
  ⟨getTrk_setTrk_other g h _ _ hne, put_fld_index s _ _ _ hg hh hne.symm⟩

theorem f10sGroup_spares (t : Nat) (s : State) (g : Nat) : Spares [(F.GRD_F10S_F10S, g)] s (f10sGroup t s g) :=
  Spares_put s _ _ _

/-- A fold comes to each entry of its list once: what holds up to an entry, and what the entry makes of it, which the others keep. -/
theorem foldl_once {α : Type} {f : State → α → State} {a : α} (P Q : State → Prop) {l : List α} (hnd : l.Nodup) (ha : a ∈ l)
    (hP : ∀ u, ∀ b ∈ l, b ≠ a → P u → P (f u b)) (hPQ : ∀ u, P u → Q (f u a)) (hQ : ∀ u, ∀ b ∈ l, b ≠ a → Q u → Q (f u b))
    {s : State} (hs : P s) : Q (l.foldl f s) := by
  obtain ⟨l₁, l₂, rfl⟩ := List.append_of_mem ha
  obtain ⟨-, hnd₂, hapart⟩ := List.nodup_append.1 hnd
  obtain ⟨hout, -⟩ := List.nodup_cons.1 hnd₂
  rw [List.foldl_append, List.foldl_cons]
  have hbefore : P (l₁.foldl f s) := List.foldlRecOn l₁ f hs fun u hu b hb =>
    hP u b (List.mem_append_left _ hb) (hapart b hb a List.mem_cons_self) hu
  exact List.foldlRecOn l₂ f (hPQ _ hbefore) fun u hu b hb =>
    hQ u b (List.mem_append_right _ (List.mem_cons_of_mem a hb)) (fun he => hout (he ▸ hb)) hu

/-- Each group ends its 10 s once. -/
theorem foldl_f10sGroup_mem (t : Nat) {h : Nat} (gs : List Nat) (hgs : ∀ g ∈ gs, g < 65536) (hnd : gs.Nodup) (hmem : h ∈ gs)
    (s : State) : getTrk (gs.foldl (f10sGroup t) s) h = { getTrk s h with n10 := 0, d10 := 0, t10 := t } ∧
      (gs.foldl (f10sGroup t) s).fld F.GRD_F10S_F10S h = f10sWord (getTrk s h) % 2 ^ 32 := by
  refine foldl_once (fun u => getTrk u h = getTrk s h) (fun u => getTrk u h = { getTrk s h with n10 := 0, d10 := 0, t10 := t } ∧
      u.fld F.GRD_F10S_F10S h = f10sWord (getTrk s h) % 2 ^ 32) hnd hmem (fun u g hg hne hu => ?_) (fun u hu => ?_)
    (fun u g hg hne hu => ?_) rfl
  · obtain ⟨htrk, -⟩ := f10sGroup_other t u (hgs g hg) (hgs h hmem) hne.symm
    exact htrk.trans hu
  · rw [← hu]
    exact f10sGroup_same t u h
  · obtain ⟨htrk, hfld⟩ := f10sGroup_other t u (hgs g hg) (hgs h hmem) hne.symm
    rw [htrk, hfld]
    exact hu

theorem foldl_f10sGroup_spares (t : Nat) (gs : List Nat) (s : State) :
    Spares (gs.map fun g => (F.GRD_F10S_F10S, g)) s (gs.foldl (f10sGroup t) s) :=
  List.foldlRecOn (motive := fun u => Spares (gs.map fun g => (F.GRD_F10S_F10S, g)) s u) gs _ (Spares_refl _ s) fun u hu g hg =>
    Spares_trans hu (Spares_mono (by simpa using hg) (f10sGroup_spares t u g))

/-! ### The obligation -/

/-- Settles O33: each command's guard is met; membership and windows leave trackers and their states alone, and every group ends its 10 s
by itself. -/
theorem gridSettingsApply : Obligations.GridSettingsApply := by
  refine ⟨fun s g t0 hrun hen hoff => ⟨fun hwait => ?_, fun hdue => ?_⟩, fun s g t0 hrun hdis => ⟨fun hwait => ?_, fun hat => ?_⟩,
    fun s g t0 hrun => ⟨fun hwait => ?_, fun hat hch => ?_⟩, fun s t0 hrun => ⟨fun hwait => ?_, fun hdue => ?_⟩⟩
  · exact congrArg Host.Outcome.next (gridEnable_waits hwait)
  · obtain ⟨⟨hlo, hhi, hseq⟩, hst, htrk, hpwr, hmtr⟩ := gridEnable_spec hrun hen hoff hdue
    refine ⟨_, rfl, hst, hlo, hhi, hseq, ?_, ?_, ?_, ?_, ?_, hpwr, hmtr⟩ <;> rw [htrk] <;> rfl
  · exact congrArg Host.Outcome.next (gridDisable_waits hwait)
  · exact ⟨_, rfl, gridDisable_spec hrun hdis hat⟩
  · exact congrArg Host.Outcome.next (gridRefChange_waits hwait)
  · exact ⟨_, rfl, gridRefChange_spec hrun hat hch⟩
  · exact congrArg Host.Outcome.next (f10sPost_waits hwait)
  · refine ⟨_, congrArg Host.Outcome.next (f10sPost_due hrun hdue), foldl_f10sGroup_spares t0 _ (reachTime t0 s), fun g hg => ?_⟩
    obtain ⟨htrk, hfld⟩ := foldl_f10sGroup_mem t0 (List.range 4) (fun x hx => by have := List.mem_range.1 hx; omega)
      List.nodup_range (List.mem_range.2 hg) (reachTime t0 s)
    rw [htrk, hfld]
    refine ⟨rfl, rfl, rfl, fun hnone => ?_, fun hsome => ?_⟩
    · rw [show f10sWord (getTrk (reachTime t0 s) g) = 0 from f10sWord_none hnone]
      rfl
    · rw [show f10sWord (getTrk (reachTime t0 s) g) = _ from f10sWord_some hsome]
      rfl

end Sys2Proof.Machine
end

section
/-! Holds of the harmonic results and of the high-band page: what a write starts and ends, and what stands still with HCLK (R25, R172,
R189). -/

namespace Sys2Proof.Machine

theorem domStopped_hclk (s : State) {r : RegRow} (hr : r.dom = .hclk) : domStopped s r.dom = !clkOn s .hclk := by
  rw [hr]
  rfl

/-- HOLD follows EXP and STREAM in the order in which a write of a hold sets them. -/
theorem holdLast_perm {f e n : Fld} {v w x : Nat} : [(e, 0, w), (n, 0, x), (f, 0, v)].Perm [(f, 0, v), (e, 0, w), (n, 0, x)] :=
  (List.perm_append_comm (l₁ := [(e, 0, w), (n, 0, x)]) (l₂ := [(f, 0, v)]))

/-! ### Harmonic results (R172) -/

/-- EXP is cleared, and STREAM names the stream written. -/
def hrmNamed (n : Nat) (s : State) : State :=
  (State.put { s with hrm := { s.hrm with expired := false } } F.HRM_HOLD_EXP 0 0).put F.HRM_HOLD_STREAM 0 n

theorem hrmHoldWrite_ends {hold : Bool} {n : Nat} (s : State) (h : hold = false ∨ 144 ≤ n) :
    hrmHoldWrite hold n s = endHrmHold (hrmNamed n s) :=
  if_neg (by rcases h with h | h <;> simp [h])

theorem hrmHoldWrite_holds {n : Nat} {s : State} (hn : n < 144) (hnone : hrmHeld s n = none) :
    hrmHoldWrite true n s = startHrmHold n (endHrmHold (hrmNamed n s)) :=
  (if_pos (by simp [hn])).trans (if_neg (by simp [hnone]))

theorem endHrmHold_writes {n : Nat} (s : State) (hn : n < 256) :
    Writes [(F.HRM_HOLD_EXP, 0, 0), (F.HRM_HOLD_STREAM, 0, n), (F.HRM_HOLD_HOLD, 0, 0)] s (endHrmHold (hrmNamed n s)) :=
  Writes_snoc (Writes_of_flds (Writes_snoc (Writes_of_flds (Writes_put s F.HRM_HOLD_EXP 0 0 (by decide)) rfl) hn rfl) rfl) (by decide) rfl

theorem startHrmHold_writes {n : Nat} (s : State) (hn : n < 256) :
    Writes [(F.HRM_HOLD_EXP, 0, 0), (F.HRM_HOLD_STREAM, 0, n), (F.HRM_HOLD_HOLD, 0, 1)] s
      (startHrmHold n (endHrmHold (hrmNamed n s))) :=
  Writes_again (l := [(F.HRM_HOLD_EXP, 0, 0), (F.HRM_HOLD_STREAM, 0, n)]) (k := []) (Writes_of_flds (endHrmHold_writes s hn) rfl)
    (by decide) rfl

/-- The results that a hold of stream n keeps. -/
def hrmResults (n : Nat) (s : State) : HrmHold :=
  { n := n, dc := s.fld F.HRM_DC_DC n
    cyc := [s.fld F.HRM_CYC_CSEQ n, s.fld F.HRM_CYC_UNLK n, s.fld F.HRM_CYC_OVR n, s.fld F.HRM_CYC_OPEN n]
    mag := (List.range 32).map fun i => s.fld F.HRM_PHM_MAG (32 * n + i)
    pha := (List.range 32).map fun i => s.fld F.HRM_PHA_PHASE (32 * n + i)
    win := (List.range 192).map fun i => s.fld F.HRM_W_WORD (192 * n + i) }

/-- The hold keeps the results that stood before the write. -/
theorem startHrmHold_hold {n : Nat} (s : State) (hn : n < 256) :
    (startHrmHold n (endHrmHold (hrmNamed n s))).hrm.hold = some (hrmResults n s) := by
  have hspares := Spares_of_Writes (endHrmHold_writes s hn)
  have hfld : ∀ {f : Fld} (i : Nat), ([F.HRM_HOLD_EXP, F.HRM_HOLD_STREAM, F.HRM_HOLD_HOLD].all fun g => g.id != f.id) = true →
      (endHrmHold (hrmNamed n s)).fld f i = s.fld f i := fun i hf => Spares_fld_field hspares i hf
  have hsame : hrmResults n (endHrmHold (hrmNamed n s)) = hrmResults n s := by
    simp (disch := decide) only [hrmResults, hfld]
  exact congrArg some hsame

theorem hrmHoldWrite_spec {hold : Bool} {n : Nat} {s : State} (hn : n < 256) (hnone : hrmHeld s n = none) :
    hrmHoldWrite hold n s = { s with flds := (hrmHoldWrite hold n s).flds
                                     hrm := { s.hrm with hold := (hrmHoldWrite hold n s).hrm.hold, expired := false } } ∧
    Writes [(F.HRM_HOLD_HOLD, 0, if hold = true ∧ n < 144 then 1 else 0), (F.HRM_HOLD_EXP, 0, 0), (F.HRM_HOLD_STREAM, 0, n)] s
      (hrmHoldWrite hold n s) ∧
    (hold = true → n < 144 → (hrmHoldWrite hold n s).hrm.hold = some (hrmResults n s)) ∧
    (hold = false ∨ 144 ≤ n → (hrmHoldWrite hold n s).hrm.hold = none) := by
  by_cases hends : hold = false ∨ 144 ≤ n
  · rw [hrmHoldWrite_ends s hends, if_neg (by rintro ⟨rfl, _⟩; simp at hends; omega)]
    exact ⟨rfl, Writes_perm holdLast_perm (endHrmHold_writes s hn), fun ht hlt => by subst ht; simp at hends; omega, fun _ => rfl⟩
  · rw [not_or, Bool.not_eq_false, not_le] at hends
    obtain ⟨rfl, h144⟩ := hends
    rw [hrmHoldWrite_holds h144 hnone, if_pos ⟨rfl, h144⟩]
    exact ⟨rfl, Writes_perm holdLast_perm (startHrmHold_writes s hn), fun _ _ => startHrmHold_hold s hn, fun h => by simp at h; omega⟩

theorem hrmHoldExpire_held {s : State} (h : s.hrm.hold.isSome = true) :
    hrmHoldExpire s = (endHrmHold s).put F.HRM_HOLD_EXP 0 1 := if_pos h

/-! ### The high-band page (R189) -/

/-- EXP is cleared, and STREAM names the stream written. -/
def hbNamed (n : Nat) (s : State) : State :=
  (State.put { s with dst := { s.dst with expired := false } } F.DST_HBSEL_EXP 0 0).put F.DST_HBSEL_STREAM 0 n

theorem hbSelect_ends {hold : Bool} {n : Nat} (s : State) (h : hold = false ∨ 144 ≤ n) :
    hbSelect hold n s = endHbHold (hbNamed n s) :=
  if_neg (by rcases h with h | h <;> simp [h])

theorem hbSelect_holds {n : Nat} {s : State} (hn : n < 144) (hother : ∀ h, s.dst.hold = some h → h.n ≠ n) :
    hbSelect true n s = startHbHold n (endHbHold (hbNamed n s)) := by
  refine (if_pos (by simp [hn])).trans (if_neg ?_)
  split
  next h hh => simpa using hother h hh
  next => decide

theorem endHbHold_writes {n : Nat} (s : State) (hn : n < 256) :
    Writes [(F.DST_HBSEL_EXP, 0, 0), (F.DST_HBSEL_STREAM, 0, n), (F.DST_HBSEL_HOLD, 0, 0)] s (endHbHold (hbNamed n s)) :=
  Writes_snoc (Writes_of_flds (Writes_snoc (Writes_of_flds (Writes_put s F.DST_HBSEL_EXP 0 0 (by decide)) rfl) hn rfl) rfl) (by decide) rfl

theorem startHbHold_writes {n : Nat} (s : State) (hn : n < 256) :
    Writes [(F.DST_HBSEL_EXP, 0, 0), (F.DST_HBSEL_STREAM, 0, n), (F.DST_HBSEL_HOLD, 0, 1)] s
      (startHbHold n (endHbHold (hbNamed n s))) :=
  Writes_again (l := [(F.DST_HBSEL_EXP, 0, 0), (F.DST_HBSEL_STREAM, 0, n)]) (k := []) (Writes_of_flds (endHbHold_writes s hn) rfl)
    (by decide) rfl

/-- The posting and the sums that a hold of stream n's page keeps. -/
def pageResults (n : Nat) (s : State) : HbHold :=
  { n := n, post := mget HbPost.blank s.dst.post n, total := s.fld F.DST_HBSUM_TOTAL n, gap := s.fld F.DST_HBSUM_GAP n
    hbx := s.fld F.DST_HBSUM_HBX n, hbxl := s.fld F.DST_HBSUM_HBXL n, peak := s.fld F.DST_HBSUM_PEAK n }

theorem startHbHold_hold {n : Nat} (s : State) (hn : n < 256) :
    (startHbHold n (endHbHold (hbNamed n s))).dst.hold = some (pageResults n s) := by
  have hspares := Spares_of_Writes (endHbHold_writes s hn)
  have hfld : ∀ {f : Fld} (i : Nat), ([F.DST_HBSEL_EXP, F.DST_HBSEL_STREAM, F.DST_HBSEL_HOLD].all fun g => g.id != f.id) = true →
      (endHbHold (hbNamed n s)).fld f i = s.fld f i := fun i hf => Spares_fld_field hspares i hf
  have hsame : pageResults n (endHbHold (hbNamed n s)) = pageResults n s := by
    simp (disch := decide) only [pageResults, hfld]
    rfl
  exact congrArg some hsame

theorem hbSelect_spec {hold : Bool} {n : Nat} {s : State} (hn : n < 256) (hother : ∀ h, s.dst.hold = some h → h.n ≠ n) :
    hbSelect hold n s = { s with flds := (hbSelect hold n s).flds
                                 dst := { s.dst with hold := (hbSelect hold n s).dst.hold, expired := false } } ∧
    Writes [(F.DST_HBSEL_HOLD, 0, if hold = true ∧ n < 144 then 1 else 0), (F.DST_HBSEL_EXP, 0, 0), (F.DST_HBSEL_STREAM, 0, n)] s
      (hbSelect hold n s) ∧
    (hold = true → n < 144 → (hbSelect hold n s).dst.hold = some (pageResults n s)) ∧
    (hold = false ∨ 144 ≤ n → (hbSelect hold n s).dst.hold = none) := by
  by_cases hends : hold = false ∨ 144 ≤ n
  · rw [hbSelect_ends s hends, if_neg (by rintro ⟨rfl, _⟩; simp at hends; omega)]
    exact ⟨rfl, Writes_perm holdLast_perm (endHbHold_writes s hn), fun ht hlt => by subst ht; simp at hends; omega, fun _ => rfl⟩
  · rw [not_or, Bool.not_eq_false, not_le] at hends
    obtain ⟨rfl, h144⟩ := hends
    rw [hbSelect_holds h144 hother, if_pos ⟨rfl, h144⟩]
    exact ⟨rfl, Writes_perm holdLast_perm (startHbHold_writes s hn), fun _ _ => startHbHold_hold s hn, fun h => by simp at h; omega⟩

theorem hbHoldExpire_held {s : State} (h : s.dst.hold.isSome = true) :
    hbHoldExpire s = (endHbHold s).put F.DST_HBSEL_EXP 0 1 := if_pos h

/-! ### The ends of holds, with HCLK running and standing (R25) -/

theorem execHrmHoldExpire_runs {s : State} (hheld : s.hrm.hold.isSome = true) (hclk : clkOn s .hclk = true) :
    exec .hrmHoldExpire s = .next ((endHrmHold s).put F.HRM_HOLD_EXP 0 1) :=
  congrArg Host.Outcome.next ((if_neg (by simp [Option.isSome_iff_ne_none.1 hheld])).trans
    ((if_pos hclk).trans (hrmHoldExpire_held hheld)))

theorem execHrmHoldExpire_stands {s : State} (hheld : s.hrm.hold.isSome = true) (hclk : clkOn s .hclk = false) :
    exec .hrmHoldExpire s = .next { s with hrm := { s.hrm with expired := true } } :=
  congrArg Host.Outcome.next ((if_neg (by simp [Option.isSome_iff_ne_none.1 hheld])).trans (if_neg (by simp [hclk])))

theorem execHbPageHoldExpire_runs {s : State} (hheld : s.dst.hold.isSome = true) (hclk : clkOn s .hclk = true) :
    exec .hbPageHoldExpire s = .next ((endHbHold s).put F.DST_HBSEL_EXP 0 1) :=
  congrArg Host.Outcome.next ((if_neg (by simp [Option.isSome_iff_ne_none.1 hheld])).trans
    ((if_pos hclk).trans (hbHoldExpire_held hheld)))

theorem execHbPageHoldExpire_stands {s : State} (hheld : s.dst.hold.isSome = true) (hclk : clkOn s .hclk = false) :
    exec .hbPageHoldExpire s = .next { s with dst := { s.dst with expired := true } } :=
  congrArg Host.Outcome.next ((if_neg (by simp [Option.isSome_iff_ne_none.1 hheld])).trans (if_neg (by simp [hclk])))

end Sys2Proof.Machine
end

section
/-! Lanes of the harmonic engine and bursts that overrun: mismatches, retirement, and what an overrun leaves out (R170, R171, R193). -/

namespace Sys2Proof.Machine

/-! ### A mismatch of a harmonic lane (R171) -/

/-- The fields that the service by lanes in service may change. -/
def serviceNums : List Fld := evtNums ++ [F.HRM_ENG_HOFF, F.HRM_ENG_HBOFF, F.DST_HBSUM_HBX, F.DST_ARCST_ARCIND]

theorem hrmService_only (s : State) : WritesOnly serviceNums s (hrmService s) := by
  unfold hrmService State.setBit
  extract_lets ret up off s1 s2 s3
  have h1 : Shows serviceNums s s1 := (Shows.refl _ s).put (by decide)
  split
  · have h2 : Shows serviceNums s s2 := (h1.put (by decide)).after_raise (by decide) (by decide)
    have h3 : Shows serviceNums s s3 := h2.foldl _ fun _ _ hu =>
      (((hu.put (by decide)).put (by decide)).after_raise (by decide) (by decide)).ite (hu.put (by decide))
    clear_value s3
    exact h3.only
  · exact h1.only

/-- Before a harmonic lane counts as a permanent fault it is out of service in LANERET, and lane 16 may take its slots. -/
theorem retireHrmLane_eq {lane : Nat} {s : State} (hup : (s.fld F.HRM_ENG_LANERET).testBit lane = false) : ∃ spare u,
    retireHrmLane lane s = hrmService (permanent 1 lane 0 spare false none u) ∧
      WritesOnly [F.HRM_ENG_SPAREFOR] (s.put F.HRM_ENG_LANERET 0 (s.fld F.HRM_ENG_LANERET + 2 ^ lane)) u := by
  unfold retireHrmLane
  extract_lets ret s1 s2
  rw [if_neg (by simp [ret, hup])]
  refine ⟨_, s2, rfl, ?_⟩
  have hput : ∀ v, WritesOnly [F.HRM_ENG_SPAREFOR] s1 (s1.put F.HRM_ENG_SPAREFOR 0 v) := fun v =>
    .of_put s1 0 v (List.mem_singleton_self _)
  unfold s2
  split
  · exact hput _
  · split
    · exact hput _
    · exact .refl _ s1

/-- A bit added to LANERET: the field has one for each lane. -/
theorem add_laneRet_testBit {lane : Nat} (hlane : lane < 17) {s : State} (hup : (s.fld F.HRM_ENG_LANERET).testBit lane = false) :
    ((s.put F.HRM_ENG_LANERET 0 (s.fld F.HRM_ENG_LANERET + 2 ^ lane)).fld F.HRM_ENG_LANERET).testBit lane = true := by
  rw [put_fld_same, Nat.testBit_mod_two_pow, Nat.add_comm, Nat.testBit_two_pow_add_eq, hup]
  simp [F.HRM_ENG_LANERET, hlane]

theorem WritesOnly.of_spares {l : List (Fld × Nat)} {s t : State} (h : Spares l s t) : WritesOnly (l.map Prod.fst) s t :=
  fun f i hf => h f i fun p hp => fkey_ne _ _ _ _ (hf p.1 (List.mem_map_of_mem hp))

/-- The fields that a permanent fault and the service by the lanes left may change. -/
def faultNums : List Fld := F.FLTS_CNT_PERM :: faultFlds.map Prod.fst ++ serviceNums

theorem permanent_only (cls unit detail : Nat) (spare scrub : Bool) (chan : Option Nat) (s : State) :
    WritesOnly faultNums s (permanent cls unit detail spare scrub chan s) := by
  obtain ⟨-, hshown⟩ := FaultShown.of_permanent cls unit detail spare scrub chan s
  have hcount : WritesOnly faultNums s (s.inc F.FLTS_CNT_PERM cls) := .of_put s cls _ List.mem_cons_self
  exact hcount.trans ((WritesOnly.of_spares hshown).mono
    (List.Subset.trans (List.subset_append_left _ _) (List.subset_cons_self _ _)))

/-- A lane that is retired shows in LANERET. -/
theorem retireHrmLane_spec {lane : Nat} (hlane : lane < 17) {s : State} (hup : (s.fld F.HRM_ENG_LANERET).testBit lane = false) :
    ((retireHrmLane lane s).fld F.HRM_ENG_LANERET).testBit lane = true ∧
      (retireHrmLane lane s).fld F.HRM_CNT_RECOMP = s.fld F.HRM_CNT_RECOMP := by
  obtain ⟨spare, u, heq, hspare⟩ := retireHrmLane_eq hup
  have hserve : WritesOnly faultNums u (hrmService (permanent 1 lane 0 spare false none u)) :=
    (permanent_only _ _ _ _ _ _ u).trans
      ((hrmService_only _).mono (List.Subset.trans (List.subset_append_right _ _) (List.subset_cons_self _ _)))
  rw [heq, hserve.fld 0 (by decide), hserve.fld 0 (by decide), hspare.fld 0 (by decide), hspare.fld 0 (by decide)]
  exact ⟨add_laneRet_testBit hlane hup, put_fld_field s _ _ _ _ _ (by decide)⟩

section Mismatch

variable {lane : Nat} {s : State} (hrun : running s = true) (hup : (s.fld F.HRM_ENG_LANERET).testBit lane = false)
  (hchk : checkOff s 1 lane = false) (hinj : s.flts.inj ≠ some (1, lane))
include hrun hup hchk hinj

/-- Without an injected corruption a mismatch on a checked lane in service is the lane's own. -/
theorem hrmMismatch_up (pass : Bool) : hrmMismatch lane pass s = if pass then transient 1 lane 0 false false (s.inc F.HRM_CNT_RECOMP)
    else retireHrmLane lane ((s.inc F.HRM_CNT_RECOMP).inc F.HRM_CNT_RECOMP) := by
  have hown : takeInjection 1 lane s = (false, s) := if_neg hinj
  unfold hrmMismatch
  rw [if_pos (by simp [hrun, hup, hchk]), hown]
  simp

theorem hrmMismatch_retires (hlane : lane < 17) : ((hrmMismatch lane false s).fld F.HRM_ENG_LANERET).testBit lane = true ∧
    (hrmMismatch lane false s).fld F.HRM_CNT_RECOMP = min 65535 (s.fld F.HRM_CNT_RECOMP + 2) := by
  rw [hrmMismatch_up hrun hup hchk hinj]
  have hret : ((s.inc F.HRM_CNT_RECOMP).inc F.HRM_CNT_RECOMP).fld F.HRM_ENG_LANERET = s.fld F.HRM_ENG_LANERET :=
    (addSat_fld_field _ _ _ _ _ _ (by decide)).trans (addSat_fld_field s _ _ _ _ _ (by decide))
  obtain ⟨hbit, hcount⟩ := retireHrmLane_spec hlane (s := (s.inc F.HRM_CNT_RECOMP).inc F.HRM_CNT_RECOMP) (by rwa [hret])
  refine ⟨hbit, hcount.trans ?_⟩
  unfold State.inc
  rw [addSat_fld_same, addSat_fld_same]
  show min 65535 (min 65535 (s.fld F.HRM_CNT_RECOMP + 1) + 1) = _
  omega

end Mismatch

/-! ### Bursts that overrun (R170, R193) -/

theorem dropBurst_phasors {s : State} {g : Grp} (h : (getTrk s g).lastT ≠ s.clk.site) :
    dropBurst (.phasors g) s = setTrk g { getTrk s g with phasDue := false } s := if_neg h

/-- The gap of a stream in the block that is discarded. -/
def gapOf (s : State) (n : Nat) : State :=
  if chanOn s n then
    { s with dst := { s.dst with hb := mput HbAcc.blank s.dst.hb n { mget HbAcc.blank s.dst.hb n with gap := true } } }
  else s

theorem gapOf_eq (s : State) (n : Nat) : gapOf s n = { s with dst := { s.dst with hb := (gapOf s n).dst.hb } } := by
  unfold gapOf
  split <;> rfl

theorem gapOf_same {s : State} {n : Nat} (h : chanOn s n = true) : (mget HbAcc.blank (gapOf s n).dst.hb n).gap = true := by
  unfold gapOf
  rw [if_pos h]
  dsimp only
  rw [mget_mput_same]

theorem gapOf_other {s : State} {n m : Nat} (h : m ≠ n) : mget HbAcc.blank (gapOf s m).dst.hb n = mget HbAcc.blank s.dst.hb n := by
  unfold gapOf
  split
  · exact mget_mput_other _ _ _ _ _ _ h.symm
  · rfl

theorem hbGap_eq (s : State) : hbGap s = arcRestart ((List.range 144).foldl gapOf s) := rfl

theorem arcRestart_hb (s : State) : (arcRestart s).dst.hb = s.dst.hb := rfl

/-- Every running stream has its gap in a discarded block. -/
theorem hbGap_gap {s : State} {n : Nat} (hn : n < 144) (hon : chanOn s n = true) :
    (mget HbAcc.blank (hbGap s).dst.hb n).gap = true := by
  rw [hbGap_eq, arcRestart_hb]
  refine foldl_once (f := gapOf) (fun u => chanOn u n = true) (fun u => (mget HbAcc.blank u.dst.hb n).gap = true) List.nodup_range
    (List.mem_range.2 hn) (fun u m _ _ hu => ?_) (fun _ hu => gapOf_same hu) (fun u m _ hne hu => ?_) hon
  · rw [gapOf_eq]
    exact hu
  · rwa [gapOf_other hne]

end Sys2Proof.Machine
end

section
/-! Harmonic results as they are posted: the phasors of a cycle and the results of a window (R164 to R169). -/

namespace Sys2Proof.Machine

/-! ### What posting leaves alone -/

/-- The fields of the harmonic results. -/
def postNums : List Fld := R.HRM_CYC.fields ++ [F.HRM_DC_DC, F.HRM_PHM_MAG, F.HRM_PHA_PHASE, F.HRM_W_WORD]

/-- Going from s to t, harmonic results are posted: nothing is changed but their fields and the smoothing filters. -/
def Posts (s t : State) : Prop := t = { s with flds := t.flds, hrm := t.hrm } ∧ WritesOnly postNums s t

namespace Posts

variable {r s t : State}

theorem refl (s : State) : Posts s s := ⟨rfl, .refl _ s⟩

theorem trans (hrs : Posts r s) (hst : Posts s t) : Posts r t := by
  obtain ⟨hs, hrs⟩ := hrs
  obtain ⟨ht, hst⟩ := hst
  exact ⟨by rw [ht, hs], hrs.trans hst⟩

theorem only (h : Posts s t) : WritesOnly postNums s t := h.2

theorem getTrk_eq (h : Posts s t) (g : Nat) : getTrk t g = getTrk s g :=
  (congrArg (fun u : State => mget GrdTrk.blank u.grd.trk g) h.1 :)

theorem foldl {α : Type} {f : State → α → State} (h : Posts r s) (as : List α) (hf : ∀ u a, Posts r u → Posts r (f u a)) :
    Posts r (as.foldl f s) := List.foldlRecOn as f h fun u hu a _ => hf u a hu

theorem put {f : Fld} {i v : Nat} (h : Posts r s) (hf : f ∈ postNums) : Posts r (s.put f i v) :=
  h.trans ⟨rfl, .of_put s i v hf⟩

/-- A change of the smoothing filters. -/
theorem elsewhere {hrm : HrmSt} (h : Posts r s) : Posts r { s with hrm := hrm } := h.trans ⟨rfl, fun _ _ _ => rfl⟩

/-- Samples do not depend on the harmonic results. -/
theorem streamSample_eq (h : Posts s t) (runs : List StreamRun) (n k : Nat) : streamSample t runs n k = streamSample s runs n k := by
  obtain ⟨heq, honly⟩ := h
  have hon : chanOn t n = chanOn s n := (congrArg (chanOn · n) heq :)
  have hlanes : lanesUp t = lanesUp s := by
    unfold lanesUp
    rw [honly.fld 0 (by decide)]
  have hpath : pathOut t n 3 k = pathOut s n 3 k := (congrArg (pathOut · n 3 k) heq :)
  have hoffset : chanOffset t n = chanOffset s n := (congrArg (chanOffset · n) heq :)
  have htrace : traceOf t n = traceOf s n := (congrArg (traceOf · n) heq :)
  have hsar : t.sar = s.sar := (congrArg State.sar heq :)
  have hshunt : shuntF t n = shuntF s n := by
    unfold shuntF
    simp only [fun i => honly.bit (f := F.SAR_SHC_EN) i (by decide), fun i => honly.fld (f := F.SAR_SHC_STREAM) i (by decide), hsar]
  unfold streamSample streamLive
  rw [hon, hlanes, hpath, hoffset, htrace, hshunt, honly.fld n (by decide)]

theorem resampleCycle_eq (h : Posts s t) (runs : List StreamRun) (n t0 t1 : Nat) :
    resampleCycle t runs n t0 t1 = resampleCycle s runs n t0 t1 := by
  unfold resampleCycle resampleAt
  simp only [h.streamSample_eq]

end Posts

/-! ### The phasors of one stream (R164) -/

/-- CSEQ, the flags and DC of a cycle of stream n. -/
def cycleHead (g n : Nat) (c : CycRec) (dc : Rat) (s : State) : State :=
  ((((s.put F.HRM_CYC_CSEQ n (s.fld F.GRD_ST_CSEQ g + 2 ^ 16 - 1)).setBit F.HRM_CYC_UNLK n (!c.lock)).setBit
    F.HRM_CYC_OVR n (ovrIn s n c.start c.tend)).setBit F.HRM_CYC_OPEN n (openIn s n c.start c.tend)).putI
    F.HRM_DC_DC n (clampS 32 (nearest (dc * 1000000)))

/-- Harmonic h + 1 of a cycle of stream n. -/
def phasorBin (n : Nat) (xs : List Rat) (s : State) (h : Nat) : State :=
  (s.put F.HRM_PHM_MAG (32 * n + h + 1) (micro (phasorMag (dft 256 (h + 1) xs)))).put F.HRM_PHA_PHASE (32 * n + h + 1)
    (phaseWord (argDeg (dft 256 (h + 1) xs)))

theorem postPhasors_eq (g n : Nat) (c : CycRec) (xs : List Rat) (s : State) : postPhasors g n c xs s =
    (List.range 31).foldl (phasorBin n xs) (cycleHead g n c (if dcRemoved s n then 0 else xs.sum / 256) s) := rfl

/-- The phasors of a cycle of stream n as they are shown, after a boundary with this CSEQ. -/
def PhasorsShown (cseq n : Nat) (c : CycRec) (xs : List Rat) (s : State) : Prop :=
  s.fld F.HRM_CYC_CSEQ n = (cseq + 2 ^ 16 - 1) % 2 ^ 16 ∧ s.bit F.HRM_CYC_UNLK n = !c.lock ∧
    ∀ h < 31, s.fld F.HRM_PHM_MAG (32 * n + h + 1) = micro (phasorMag (dft 256 (h + 1) xs)) % 2 ^ 32 ∧
      s.fld F.HRM_PHA_PHASE (32 * n + h + 1) = phaseWord (argDeg (dft 256 (h + 1) xs)) % 2 ^ 32

section Stream

variable {g n : Nat} {c : CycRec} {dc : Rat} {xs : List Rat} {s : State}

theorem cycleHead_only : WritesOnly (R.HRM_CYC.fields ++ [F.HRM_DC_DC]) s (cycleHead g n c dc s) :=
  ((((WritesOnly.of_put s n _ (by decide)).trans (.of_put _ n _ (by decide))).trans (.of_put _ n _ (by decide))).trans
    (.of_put _ n _ (by decide))).trans (.of_put _ n _ (by decide))

theorem cycleHead_same : (cycleHead g n c dc s).fld F.HRM_CYC_CSEQ n = (s.fld F.GRD_ST_CSEQ g + 2 ^ 16 - 1) % 2 ^ 16 ∧
    (cycleHead g n c dc s).bit F.HRM_CYC_UNLK n = !c.lock := by
  unfold cycleHead State.putI State.setBit
  refine ⟨?_, ?_⟩
  · rw [put_fld_field _ _ _ _ _ _ (by decide), put_fld_field _ _ _ _ _ _ (by decide), put_fld_field _ _ _ _ _ _ (by decide),
      put_fld_field _ _ _ _ _ _ (by decide), put_fld_same]
    rfl
  · rw [put_bit_field _ _ _ _ _ _ (by decide), put_bit_field _ _ _ _ _ _ (by decide), put_bit_field _ _ _ _ _ _ (by decide)]
    exact setBit_bit_same _ F.HRM_CYC_UNLK n (!c.lock) rfl

theorem cycleHead_other {m : Nat} (hm : m < 65536) (hn : n < 65536) (hne : m ≠ n) (f : Fld) :
    (cycleHead g m c dc s).fld f n = s.fld f n := by
  unfold cycleHead State.putI State.setBit
  rw [put_fld_index _ _ _ _ hm hn hne, put_fld_index _ _ _ _ hm hn hne, put_fld_index _ _ _ _ hm hn hne,
    put_fld_index _ _ _ _ hm hn hne, put_fld_index _ _ _ _ hm hn hne]

theorem phasorBin_only (h : Nat) : WritesOnly [F.HRM_PHM_MAG, F.HRM_PHA_PHASE] s (phasorBin n xs s h) :=
  (WritesOnly.of_put s _ _ (by decide)).trans (.of_put _ _ _ (by decide))

theorem phasorBin_other {h i : Nat} (hh : 32 * n + h + 1 < 65536) (hi : i < 65536) (hne : 32 * n + h + 1 ≠ i) (f : Fld) :
    (phasorBin n xs s h).fld f i = s.fld f i :=
  (put_fld_index _ _ _ _ hh hi hne).trans (put_fld_index _ _ _ _ hh hi hne)

theorem phasorBin_same (h : Nat) :
    (phasorBin n xs s h).fld F.HRM_PHM_MAG (32 * n + h + 1) = micro (phasorMag (dft 256 (h + 1) xs)) % 2 ^ 32 ∧
      (phasorBin n xs s h).fld F.HRM_PHA_PHASE (32 * n + h + 1) = phaseWord (argDeg (dft 256 (h + 1) xs)) % 2 ^ 32 :=
  ⟨(put_fld_field _ _ _ _ _ _ (by decide)).trans (put_fld_same _ _ _ _), put_fld_same _ _ _ _⟩

theorem phasorBins_only : WritesOnly [F.HRM_PHM_MAG, F.HRM_PHA_PHASE] s ((List.range 31).foldl (phasorBin n xs) s) :=
  List.foldlRecOn (motive := fun u => WritesOnly _ s u) (List.range 31) _ (.refl _ s) fun _ hu h _ => hu.trans (phasorBin_only h)

/-- The harmonics of a stream are each posted once. -/
theorem phasorBins_same (hn : n < 144) {h : Nat} (hh : h < 31) :
    ((List.range 31).foldl (phasorBin n xs) s).fld F.HRM_PHM_MAG (32 * n + h + 1) = micro (phasorMag (dft 256 (h + 1) xs)) % 2 ^ 32 ∧
      ((List.range 31).foldl (phasorBin n xs) s).fld F.HRM_PHA_PHASE (32 * n + h + 1) =
        phaseWord (argDeg (dft 256 (h + 1) xs)) % 2 ^ 32 :=
  foldl_once (fun _ => True) (fun u => u.fld F.HRM_PHM_MAG (32 * n + h + 1) = micro (phasorMag (dft 256 (h + 1) xs)) % 2 ^ 32 ∧
      u.fld F.HRM_PHA_PHASE (32 * n + h + 1) = phaseWord (argDeg (dft 256 (h + 1) xs)) % 2 ^ 32) List.nodup_range (List.mem_range.2 hh)
    (fun _ _ _ _ _ => trivial) (fun _ _ => phasorBin_same h) (fun u j hj hne hu => by
      have hj := List.mem_range.1 hj
      rwa [phasorBin_other (by omega) (by omega) (by omega), phasorBin_other (by omega) (by omega) (by omega)]) trivial

/-- The harmonics of one stream leave those of another alone. -/
theorem phasorBins_other {m : Nat} (hm : m < 144) (hn : n < 144) (hne : m ≠ n) {h : Nat} (hh : h < 31) (f : Fld) :
    ((List.range 31).foldl (phasorBin m xs) s).fld f (32 * n + h + 1) = s.fld f (32 * n + h + 1) :=
  List.foldlRecOn (motive := fun u : State => u.fld f (32 * n + h + 1) = s.fld f (32 * n + h + 1)) (List.range 31) _ rfl
    fun u hu j hj => by
      have hj := List.mem_range.1 hj
      rw [phasorBin_other (by omega) (by omega) (by omega), hu]

theorem cycleHead_posts : Posts s (cycleHead g n c dc s) := by
  unfold cycleHead State.putI State.setBit
  exact (((((Posts.refl s).put (by decide)).put (by decide)).put (by decide)).put (by decide)).put (by decide)

theorem phasorBin_posts (h : Nat) : Posts s (phasorBin n xs s h) := by
  unfold phasorBin
  exact ((Posts.refl s).put (by decide)).put (by decide)

theorem postPhasors_posts : Posts s (postPhasors g n c xs s) := by
  rw [postPhasors_eq]
  exact cycleHead_posts.foldl _ fun _ h hu => hu.trans (phasorBin_posts h)

theorem cycleHead_hrm : (cycleHead g n c dc s).hrm = s.hrm := by
  simp only [cycleHead, putI_hrm, setBit_hrm, put_hrm]

theorem phasorBin_hrm (h : Nat) : (phasorBin n xs s h).hrm = s.hrm := rfl

theorem postPhasors_hrm : (postPhasors g n c xs s).hrm = s.hrm := by
  rw [postPhasors_eq]
  exact List.foldlRecOn (motive := fun u : State => u.hrm = s.hrm) (List.range 31) _ cycleHead_hrm fun _ hu h _ =>
    (phasorBin_hrm h).trans hu

theorem postPhasors_shows (hn : n < 144) : PhasorsShown (s.fld F.GRD_ST_CSEQ g) n c xs (postPhasors g n c xs s) := by
  obtain ⟨hseq, hunlk⟩ := cycleHead_same (g := g) (n := n) (c := c) (dc := if dcRemoved s n then 0 else xs.sum / 256) (s := s)
  rw [postPhasors_eq]
  exact ⟨(phasorBins_only.fld n (by decide)).trans hseq, (phasorBins_only.bit n (by decide)).trans hunlk,
    fun h hh => phasorBins_same hn hh⟩

/-- The phasors of one stream leave those of another as they are shown. -/
theorem postPhasors_other {cseq m : Nat} {d : CycRec} {ys : List Rat} (hm : m < 144) (hn : n < 144) (hne : m ≠ n)
    (h : PhasorsShown cseq n d ys s) : PhasorsShown cseq n d ys (postPhasors g m c xs s) := by
  obtain ⟨hseq, hunlk, hbins⟩ := h
  have hhead := cycleHead_other (g := g) (c := c) (dc := if dcRemoved s m then 0 else xs.sum / 256) (s := s)
    (by omega : m < 65536) (by omega : n < 65536) hne
  rw [postPhasors_eq]
  refine ⟨(phasorBins_only.fld n (by decide)).trans ((hhead _).trans hseq), ?_, fun h hh => ?_⟩
  · exact (phasorBins_only.bit n (by decide)).trans ((congrArg (· != 0) (hhead F.HRM_CYC_UNLK)).trans hunlk)
  · obtain ⟨hmag, hpha⟩ := hbins h hh
    rw [phasorBins_other hm hn hne hh, phasorBins_other hm hn hne hh, cycleHead_only.fld _ (by decide), cycleHead_only.fld _ (by decide)]
    exact ⟨hmag, hpha⟩

end Stream

/-! ### The phasors of a group's latest cycle (R164) -/

theorem burstBegins_idle {s : State} (hrun : running s = true) (hposted : ∀ p ∈ s.host.posted, p.1 ≠ .hclk)
    (hhrm : s.hrm.expired = false) (hdst : s.dst.expired = false) : burstBegins s = s := by
  have hrmStays : hrmOver s = s := if_neg (by simp [hhrm])
  have hbStays : hbOver s = s := if_neg (by simp [hdst])
  rw [burstBegins_running hrun, takePosted_none hposted, hrmStays, hbStays]

/-- The phasors of a member are posted from the samples of its cycle. -/
def memberPost (g : Nat) (c : CycRec) (ps : List StreamRun) (s : State) (n : Nat) : State :=
  postPhasors g n c (resampleCycle s ps n c.start c.tend) s

section Cycle

variable {g : Nat} {ps : List StreamRun} {c : CycRec} {cs : List CycRec} {s : State} (hcycs : (getTrk s g).cycs = c :: cs)
include hcycs

theorem phasorsPost_waits (h : s.bit F.HRM_ENG_HOFF = true ∨ (getTrk s g).phasDue = false) : phasorsPost g ps s = s := by
  unfold phasorsPost
  dsimp only
  rw [hcycs]
  exact if_neg (by rcases h with h | h <;> simp [h])

variable (hrun : running s = true) (hon : trkState s g ≠ 0) (hoff : s.bit F.HRM_ENG_HOFF = false)
  (hdue : (getTrk s g).phasDue = true)
include hrun hon hoff hdue

theorem phasorsPost_due : phasorsPost g ps s =
    (phasorMembers s g c ps).foldl (memberPost g c ps) (setTrk g { getTrk s g with phasDue := false } s) := by
  unfold phasorsPost
  dsimp only
  rw [hcycs]
  exact if_pos (by simp [hrun, hon, hoff, hdue])

theorem phasorsPost_posts : Posts (setTrk g { getTrk s g with phasDue := false } s) (phasorsPost g ps s) ∧
    (phasorsPost g ps s).hrm = s.hrm := by
  rw [phasorsPost_due hcycs hrun hon hoff hdue]
  exact ⟨(Posts.refl _).foldl _ fun _ _ hu => hu.trans postPhasors_posts,
    List.foldlRecOn (motive := fun u : State => u.hrm = s.hrm) _ _ rfl fun _ hu _ _ => postPhasors_hrm.trans hu⟩

theorem phasorsPost_shows {n : Nat} (hn : n ∈ phasorMembers s g c ps) :
    PhasorsShown (s.fld F.GRD_ST_CSEQ g) n c (resampleCycle s ps n c.start c.tend) (phasorsPost g ps s) := by
  have hlt : ∀ m ∈ phasorMembers s g c ps, m < 144 := fun m hm => List.mem_range.1 (List.mem_of_mem_filter hm)
  rw [phasorsPost_due hcycs hrun hon hoff hdue]
  refine foldl_once (Posts (setTrk g { getTrk s g with phasDue := false } s)) _ (List.nodup_range.filter _) hn
    (fun u m _ _ hu => hu.trans postPhasors_posts) (fun u hu => ?_)
    (fun u m hm hne hu => postPhasors_other (hlt m hm) (hlt n hn) hne hu) (.refl _)
  have hshown := postPhasors_shows (g := g) (c := c) (xs := resampleCycle u ps n c.start c.tend) (s := u) (hlt n hn)
  rw [hu.only.fld g (by decide)] at hshown
  have hsame : resampleCycle u ps n c.start c.tend = resampleCycle s ps n c.start c.tend := hu.resampleCycle_eq ps n c.start c.tend
  rw [hsame] at hshown ⊢
  exact hshown

end Cycle

/-! ### The end of a window (R165) -/

/-- RoCoF has been tested, and the end of the window is served. -/
def windowServed (g : Nat) (w : WinDone) (s : State) : State :=
  let dur : Rat := (w.tend - w.start : Nat) / (1000000000 : Rat)
  let f := rdiv w.cyc dur
  let s1 := rocofTest g (getTrk s g).prevWin f dur w.unlk s
  setTrk g { getTrk s1 g with ended := true, prevWin := some (f, dur, w.unlk) } s1

theorem windowServed_spec (g : Nat) (w : WinDone) (s : State) : (getTrk (windowServed g w s) g).ended = true ∧
    (getTrk (windowServed g w s) g).done = (getTrk s g).done ∧
    (windowServed g w s).bit F.GRD_CFG_SMOOTH g = s.bit F.GRD_CFG_SMOOTH g := by
  unfold windowServed
  extract_lets dur f s1
  have h1 : TrackersStay s s1 := (TrackersStay.refl s).after_rocofTest
  rw [getTrk_setTrk_same]
  exact ⟨rfl, (congrArg GrdTrk.done (h1.getTrk_eq g) :), h1.only.bit g (by decide)⟩

section WindowEnd

variable {g : Nat} {w : WinDone} {s : State} (hdone : (getTrk s g).done = some w)
include hdone

theorem windowClose_ended (hended : (getTrk s g).ended = true) : windowClose g s = s := by
  unfold windowClose
  dsimp only
  rw [hdone]
  exact if_neg (by simp [hended])

theorem windowClose_open (hrun : running s = true) (hopen : (getTrk s g).ended = false) :
    windowClose g s = windowStart g w.tend (flagTest g (windowServed g w s)) := by
  unfold windowClose
  dsimp only
  rw [hdone]
  exact if_pos (by simp [hrun, hopen])

theorem windowClose_spec (hrun : running s = true) (hopen : (getTrk s g).ended = false) :
    (getTrk (windowClose g s) g).ended = true ∧ (getTrk (windowClose g s) g).done = some w ∧
      (getTrk (windowClose g s) g).smooth = s.bit F.GRD_CFG_SMOOTH g := by
  obtain ⟨hended, hkept, hsmooth⟩ := windowServed_spec g w s
  have hflag : TrackersStay (windowServed g w s) (flagTest g (windowServed g w s)) := (TrackersStay.refl _).after_flagTest
  obtain ⟨-, htrk⟩ := windowStart_spec g w.tend (flagTest g (windowServed g w s))
  rw [windowClose_open hdone hrun hopen, htrk, hflag.getTrk_eq, hflag.only.bit g (by decide)]
  exact ⟨hended, hkept.trans hdone, hsmooth⟩

end WindowEnd

/-! ### The results of a window (R165 to R169) -/

section Window

variable {w : WinDone} {x : WinMem} {xs : List Rat} {s : State}

theorem postWindow_posts : Posts s (postWindow w x xs s) := by
  unfold postWindow
  extract_lets n y at_ sumSg sumG idmd b w0 w1 w2 s1 s2
  have h1 : Posts s s1 := (((Posts.refl s).put (by decide)).put (by decide)).put (by decide)
  have h2 : Posts s s2 := h1.foldl _ fun _ _ hu => hu.put (by decide)
  clear_value s2
  split
  · exact h2.elsewhere
  · exact h2

theorem fld_of_flds {s t : State} (h : t.flds = s.flds) (f : Fld) (i : Nat) : t.fld f i = s.fld f i := congrArg (fget · f i) h

/-- The 192 words of a window of stream n: the first three, and the rest. -/
def windowWords (n v0 v1 v2 : Nat) (vs : Nat → Nat) (s : State) : State :=
  (List.range 189).foldl (fun s j => s.put F.HRM_W_WORD (192 * n + 3 + j) (vs j))
    (((s.put F.HRM_W_WORD (192 * n) v0).put F.HRM_W_WORD (192 * n + 1) v1).put F.HRM_W_WORD (192 * n + 2) v2)

theorem windowWords_first {n : Nat} (hn : n < 144) (v0 v1 v2 : Nat) (vs : Nat → Nat) (s : State) :
    (windowWords n v0 v1 v2 vs s).fld F.HRM_W_WORD (192 * n) = v0 % 2 ^ 32 := by
  refine List.foldlRecOn (motive := fun u : State => u.fld F.HRM_W_WORD (192 * n) = v0 % 2 ^ 32) (List.range 189) _ ?_
    fun u hu j hj => ?_
  · rw [put_fld_index _ _ _ _ (by omega) (by omega) (by omega), put_fld_index _ _ _ _ (by omega) (by omega) (by omega), put_fld_same]
    rfl
  · have hj := List.mem_range.1 hj
    rw [put_fld_index _ _ _ _ (by omega) (by omega) (by omega), hu]

/-- The words of one stream leave those of another alone. -/
theorem windowWords_other {m n : Nat} (hm : m < 144) (hn : n < 144) (hne : m ≠ n) (v0 v1 v2 : Nat) (vs : Nat → Nat) (s : State) :
    (windowWords m v0 v1 v2 vs s).fld F.HRM_W_WORD (192 * n) = s.fld F.HRM_W_WORD (192 * n) := by
  refine List.foldlRecOn (motive := fun u : State => u.fld F.HRM_W_WORD (192 * n) = s.fld F.HRM_W_WORD (192 * n)) (List.range 189) _ ?_
    fun u hu j hj => ?_
  · rw [put_fld_index _ _ _ _ (by omega) (by omega) (by omega), put_fld_index _ _ _ _ (by omega) (by omega) (by omega),
      put_fld_index _ _ _ _ (by omega) (by omega) (by omega)]
  · have hj := List.mem_range.1 hj
    rw [put_fld_index _ _ _ _ (by omega) (by omega) (by omega), hu]

/-- The flags of a window's first word stand between its number and its cycles. -/
theorem windowHead_split (num cyc : Nat) (hcyc : cyc < 4096) (unlk ovr opened smooth : Bool) {v : Nat}
    (hv : v = (num + 1) % 2 ^ 16 * 2 ^ 16 + (if unlk then 2 ^ 15 else 0) + (if ovr then 2 ^ 14 else 0) + (if opened then 2 ^ 13 else 0)
      + (if smooth then 2 ^ 12 else 0) + cyc) : v % 2 ^ 32 / 2 ^ 16 = (num + 1) % 2 ^ 16 ∧ v % 2 ^ 32 % 2 ^ 12 = cyc := by
  have hflag : ∀ (b : Bool) (p : Nat), (if b then p else 0) = b.toNat * p := fun b p => by cases b <;> simp
  have hbit : ∀ b : Bool, b.toNat ≤ 1 := Bool.toNat_le
  have h1 := hbit unlk
  have h2 := hbit ovr
  have h3 := hbit opened
  have h4 := hbit smooth
  simp only [hflag] at hv
  omega

/-- The window number and the cycles of a window, as a stream shows them. -/
def WindowShown (num cyc n : Nat) (s : State) : Prop :=
  s.fld F.HRM_W_WORD (192 * n) / 2 ^ 16 = (num + 1) % 2 ^ 16 ∧ s.fld F.HRM_W_WORD (192 * n) % 2 ^ 12 = cyc

/-- The fields that posting a window leaves are its words; the first holds the number, the flags and the cycles. -/
theorem postWindow_flds : ∃ v0 v1 v2 vs, (postWindow w x xs s).flds = (windowWords x.n v0 v1 v2 vs s).flds ∧
    (w.cyc < 4096 → v0 % 2 ^ 32 / 2 ^ 16 = (s.fld F.HRM_W_WORD (192 * x.n) / 2 ^ 16 + 1) % 2 ^ 16 ∧ v0 % 2 ^ 32 % 2 ^ 12 = w.cyc) := by
  unfold postWindow
  extract_lets n y at_ sumSg sumG idmd b w0 w1 w2 s1 s2
  have hhead := fun hcyc => windowHead_split (s.fld F.HRM_W_WORD (192 * x.n) / 2 ^ 16) w.cyc hcyc w.unlk (ovrIn s n w.start w.tend)
    (openIn s n w.start w.tend) w.smooth (v := w0) rfl
  clear_value w0 w1 w2 at_
  refine ⟨w0, w1, w2, fun j => micro (rsqrt (at_ (3 + j))), ?_, hhead⟩
  rw [apply_ite State.flds]
  exact ite_self _

theorem postWindow_shows (hn : x.n < 144) (hcyc : w.cyc < 4096) :
    WindowShown (s.fld F.HRM_W_WORD (192 * x.n) / 2 ^ 16) w.cyc x.n (postWindow w x xs s) := by
  obtain ⟨v0, v1, v2, vs, hflds, hhead⟩ := postWindow_flds (w := w) (x := x) (xs := xs) (s := s)
  unfold WindowShown
  rw [fld_of_flds hflds, windowWords_first hn]
  exact hhead hcyc

theorem postWindow_other {n : Nat} (hx : x.n < 144) (hn : n < 144) (hne : x.n ≠ n) :
    (postWindow w x xs s).fld F.HRM_W_WORD (192 * n) = s.fld F.HRM_W_WORD (192 * n) := by
  obtain ⟨v0, v1, v2, vs, hflds, -⟩ := postWindow_flds (w := w) (x := x) (xs := xs) (s := s)
  rw [fld_of_flds hflds, windowWords_other hx hn hne]

end Window

/-- The results of a member are posted from the samples of its window. -/
def memberResults (w : WinDone) (ws : List StreamRun) (s : State) (x : WinMem) : State :=
  postWindow w x (resampleWindow s ws x.n w.bounds) s

/-- The results of the members whose samples came. -/
def resultsPosted (w : WinDone) (ws : List StreamRun) (s : State) : State :=
  (w.mem.filter fun x => brings ws x.n).foldl (memberResults w ws) s

theorem resultsPosted_posts (w : WinDone) (ws : List StreamRun) (s : State) : Posts s (resultsPosted w ws s) :=
  (Posts.refl s).foldl _ fun _ _ hu => hu.trans postWindow_posts

theorem lt_of_brings {ws : List StreamRun} {n : Nat} (h : brings ws n = true) : n < 144 := by
  obtain ⟨c, -, hc⟩ := List.any_eq_true.1 h
  rw [← beq_iff_eq.1 hc]
  exact c.n.isLt

/-- Each member whose samples came shows its results once. -/
theorem resultsPosted_shows {w : WinDone} {ws : List StreamRun} {s : State} (hcyc : w.cyc < 4096) (hnd : (w.mem.map (·.n)).Nodup)
    {x : WinMem} (hx : x ∈ w.mem) (hb : brings ws x.n = true) :
    WindowShown (s.fld F.HRM_W_WORD (192 * x.n) / 2 ^ 16) w.cyc x.n (resultsPosted w ws s) := by
  have hn := lt_of_brings hb
  have hother : ∀ u, ∀ y ∈ w.mem.filter fun x => brings ws x.n, y ≠ x →
      (memberResults w ws u y).fld F.HRM_W_WORD (192 * x.n) = u.fld F.HRM_W_WORD (192 * x.n) := fun u y hy hne => by
    obtain ⟨hy, hyb⟩ := List.mem_filter.1 hy
    exact postWindow_other (lt_of_brings hyb) hn fun he => hne (List.inj_on_of_nodup_map hnd hy hx he)
  refine foldl_once (fun u => u.fld F.HRM_W_WORD (192 * x.n) = s.fld F.HRM_W_WORD (192 * x.n)) _ ((List.Nodup.of_map _ hnd).filter _)
    (List.mem_filter.2 ⟨hx, hb⟩) (fun u y hy hne hu => (hother u y hy hne).trans hu) (fun u hu => ?_) (fun u y hy hne hu => ?_) rfl
  · rw [← hu]
    exact postWindow_shows hn hcyc
  · unfold WindowShown
    rw [hother u y hy hne]
    exact hu

section Results

variable {g : Nat} {w : WinDone} {ws : List StreamRun} {s : State} (hdone : (getTrk s g).done = some w)
include hdone

theorem windowPost_waits (h : s.bit F.HRM_ENG_HOFF = true ∨ phasorsWait s = true) : windowPost g ws s = s := by
  unfold windowPost
  rw [hdone]
  exact if_neg (by rcases h with h | h <;> simp [h])

variable (hrun : running s = true) (hoff : s.bit F.HRM_ENG_HOFF = false) (hwait : phasorsWait s = false)
include hrun hoff hwait

/-- A window whose end is served is done with; any other waits for its end without members. -/
theorem windowPost_due : ∃ k : GrdTrk, windowPost g ws s = setTrk g k (resultsPosted w ws s) ∧
    k.done = if (getTrk s g).ended then none else some { w with mem := [] } := by
  have htrk := (resultsPosted_posts w ws s).getTrk_eq g
  rw [← htrk]
  unfold windowPost
  rw [hdone]
  dsimp only
  rw [if_pos (by simp [hrun, hoff, hwait])]
  change ∃ k, (if (getTrk (resultsPosted w ws s) g).ended then _ else _) = _ ∧ _
  split
  · exact ⟨_, rfl, rfl⟩
  · exact ⟨_, rfl, rfl⟩

end Results

/-! ### The obligation -/

/-- Settles O34: with no word posted a burst begins with the phasors or results due, each posted once; a lane retired stays so through
what a fault writes; and holds are written as they are. -/
theorem harmonicResultsAndHolds : Obligations.HarmonicResultsAndHolds := by
  refine ⟨⟨fun s g ps c cs hrun hposted hhrm hdst hcycs => ⟨fun h => ?_, fun hon hoff hdue => ?_⟩,
      fun s g w hrun hdone => ⟨fun hended => ?_, fun hopen => ?_⟩,
      fun s g w ws hrun hposted hhrm hdst hdone => ⟨fun h => ?_, fun hoff hwait hcyc hnd => ?_⟩,
      fun s k hrun => ?_, fun s g hlast => ?_, fun s => ⟨rfl, fun n hn hon => hbGap_gap hn hon⟩,
      fun s lane hrun hup hchk hinj => ⟨?_, _, rfl, hrmMismatch_retires hrun hup hchk hinj lane.isLt⟩⟩,
    fun s hold n hon hclk hnone => ?_, fun s hheld hclk => ?_,
    fun s hold n hon hclk => ⟨?_, ?_, fun hheld => execHrmHoldExpire_stands hheld hclk,
      fun hheld => execHbPageHoldExpire_stands hheld hclk⟩,
    fun s hold n hon hclk hother => ?_, fun s hheld hclk => ?_⟩
  · refine congrArg Host.Outcome.next ?_
    rw [burstBegins_idle hrun hposted hhrm hdst, phasorsPost_waits hcycs h]
  · obtain ⟨hposts, hhrm'⟩ := phasorsPost_posts (ps := ps) hcycs hrun hon hoff hdue
    refine ⟨phasorsPost g ps s, ?_, ?_, (hposts.getTrk_eq g).trans (getTrk_setTrk_same g.val _ _), fun n hn => ?_⟩
    · exact congrArg (fun u => Host.Outcome.next (phasorsPost g ps u)) (burstBegins_idle hrun hposted hhrm hdst)
    · obtain ⟨heq, -⟩ := hposts
      rw [heq, hhrm']
      rfl
    · exact phasorsPost_shows hcycs hrun hon hoff hdue hn
  · exact congrArg Host.Outcome.next (windowClose_ended hdone hended)
  · exact ⟨_, rfl, windowClose_spec hdone hrun hopen⟩
  · refine congrArg Host.Outcome.next ?_
    rw [burstBegins_idle hrun hposted hhrm hdst, windowPost_waits hdone h]
  · obtain ⟨k, heq, hk⟩ := windowPost_due (ws := ws) hdone hrun hoff hwait
    refine ⟨windowPost g ws s, ?_, ?_, fun x hx hb => ?_⟩
    · exact congrArg (fun u => Host.Outcome.next (windowPost g ws u)) (burstBegins_idle hrun hposted hhrm hdst)
    · rw [heq, getTrk_setTrk_same, hk]
    · rw [heq]
      exact resultsPosted_shows hcyc hnd hx hb
  · exact ⟨_, congrArg Host.Outcome.next (if_pos hrun), rfl, Writes_snoc_inc (Writes_nil s s rfl) F.HRM_CNT_MISS 0 rfl⟩
  · rw [dropBurst_phasors hlast, getTrk_setTrk_same]
  · exact ⟨_, congrArg Host.Outcome.next (hrmMismatch_up hrun hup hchk hinj true), rfl,
      Writes_snoc_inc (Writes_nil s s rfl) F.HRM_CNT_RECOMP 0 rfl⟩
  · obtain ⟨heq, hwrites, hstarts, hends⟩ := hrmHoldWrite_spec (hold := hold) n.isLt hnone
    exact ⟨_, congrArg Host.Outcome.next (hostWord_acts hon (by rw [domStopped_hclk _ rfl, hclk]; rfl)), heq, hwrites,
      fun hh hn => ⟨_, hstarts hh hn, rfl, rfl, rfl, rfl⟩, hends⟩
  · exact ⟨_, execHrmHoldExpire_runs hheld hclk, rfl,
      Writes_snoc (Writes_of_flds (Writes_put s F.HRM_HOLD_HOLD 0 0 (by decide)) rfl) (by decide) rfl⟩
  · exact ⟨_, congrArg Host.Outcome.next (hostWord_posted hon (by rw [domStopped_hclk _ rfl, hclk]; rfl)), rfl, rfl⟩
  · exact ⟨_, congrArg Host.Outcome.next (hostWord_posted hon (by rw [domStopped_hclk _ rfl, hclk]; rfl)), rfl, rfl⟩
  · obtain ⟨heq, hwrites, hstarts, hends⟩ := hbSelect_spec (hold := hold) n.isLt hother
    exact ⟨_, congrArg Host.Outcome.next (hostWord_acts hon (by rw [domStopped_hclk _ rfl, hclk]; rfl)), heq, hwrites,
      fun hh hn => ⟨_, hstarts hh hn, rfl, rfl, rfl, rfl⟩, hends⟩
  · exact ⟨_, execHbPageHoldExpire_runs hheld hclk, rfl,
      Writes_snoc (Writes_of_flds (Writes_put s F.DST_HBSEL_HOLD 0 0 (by decide)) rfl) (by decide) rfl⟩

end Sys2Proof.Machine
end


section
/-! O55: what Wayline receives (R289, R293, R298), and the neighbour table, the parent and the neighbour page (R172, R294 to R296). -/

namespace Sys2Proof.Machine

/-! ### When the node works -/

theorem up_of_on {s : State} (h : wayOn s = true) : wayUp s = true := (Bool.and_eq_true_iff.1 h).1

theorem on_of_send {s : State} (h : waySend s = true) : wayOn s = true := (Bool.and_eq_true_iff.1 h).1

/-- Firmware's work on Wayline is done at once where the node takes part. -/
theorem wayOn_onCtlOnce {s : State} (h : wayOn s = true) (op : FwOp) (f : State → State) : onCtlOnce op f s = f s :=
  if_pos (Bool.and_eq_true_iff.1 h).2

theorem execWaylineFrameReceive_on {s : State} (h : wayOn s = true) (f : WayFrame) :
    execWaylineFrameReceive f s = .next (wayReceive f (takeSymbols f.rx s)) := by
  rw [execWaylineFrameReceive, if_pos h]

theorem execWaylineFrameReceive_off {s : State} (h : wayOn s = false) (f : WayFrame) : execWaylineFrameReceive f s = .next s := by
  rw [execWaylineFrameReceive, h]
  rfl

/-! ### A frame that is received -/

/-- Is a frame one of this network that the receiver works on (R289)? -/
def WayTaken (f : WayFrame) (s : State) : Prop := f.fcOk = true ∧ f.netid.toNat = s.fld F.WAY_NET_NETID ∧ f.nsym ≤ 82

/-- Does a frame have a MAC header (R290)? -/
def HasMac (f : WayFrame) : Prop := f.ftype.val < 2 ∨ (5 ≤ f.ftype.val ∧ f.ftype.val ≤ 8)

section Receive

variable {f : WayFrame} {s : State}

theorem wayReceive_ignored (h : f.fcOk = false ∨ f.netid.toNat ≠ s.fld F.WAY_NET_NETID ∨ 9 ≤ f.ftype.val ∨ 82 < f.nsym) :
    wayReceive f s = s :=
  if_pos (by simpa using h)

theorem WayTaken.not_ignored (h : WayTaken f s) (htype : f.ftype.val < 9) :
    ¬(!f.fcOk ∨ f.netid.toNat ≠ s.fld F.WAY_NET_NETID ∨ 9 ≤ f.ftype.val ∨ 82 < f.nsym) := by
  obtain ⟨hcrc, hnet, hlen⟩ := h
  simp [hcrc, hnet, hlen, htype]

theorem wayReceive_ack (h : WayTaken f s) (htype : f.ftype = 2) (hmine : f.ra.toNat = naddr s) (hans : answers s f = true) :
    wayReceive f s = txDone (s.inc F.WAY_CNT_RXFR) := by
  have hval : f.ftype.val = 2 := congrArg Fin.val htype
  unfold wayReceive
  rw [if_neg (h.not_ignored (by omega))]
  simp only [hval]
  exact if_pos ⟨hmine, hans⟩

theorem wayReceive_mac (h : WayTaken f s) (htype : HasMac f) : wayReceive f s = macFrame f s := by
  unfold HasMac at htype
  unfold wayReceive
  rw [if_neg (h.not_ignored (by omega))]
  dsimp only
  split
  iterate 3 omega
  rfl

/-- Without a decoded payload the addressed receiver answers NAK. -/
theorem macFrame_erased (h : allErased s = true) : macFrame f s = answer 3 f s := by
  unfold macFrame
  rw [if_pos h]

/-- A frame for another node that fails authentication is discarded, and counted. -/
theorem macFrame_unauthentic {osa oda fcnt : Nat} {body mic : List Nat} (hkept : allErased s = false) (hother : f.ra.toNat ≠ naddr s)
    (hparse : parsePayload f.kidx (f.payload.map BitVec.toNat) = some (osa, oda, fcnt, body, mic))
    (hauth : authenticate (s.inc F.WAY_CNT_RXFR) f.netid.toNat f.ftype f.kidx osa oda fcnt body mic = none) :
    macFrame f s = authFails f.ta.toNat (s.inc F.WAY_CNT_RXFR) := by
  unfold macFrame
  rw [hkept, if_neg Bool.false_ne_true, hparse]
  simp [hother, hauth]

/-- The frame in the air ends at its first try, and nothing else follows where the host did not ask for it. -/
theorem txDone_first {x : WayTx} (hair : s.way.air = some x) (htries : x.tries = 0) (hhost : x.host = false) :
    txDone s = { s with way := { s.way with air := none } } := by
  unfold txDone
  rw [hair]
  simp [htries, hhost]

theorem answer_mine (ftype : Nat) (h : f.ra.toNat = naddr s) :
    answer ftype f s = emit f.dcSide ftype f.ta.toNat 0 f.seq.toNat 0 [] s := if_pos h

end Receive

/-! ### What checking and sending depend on -/

/-- Keys and counters are neither fields nor what the receiver last heard. -/
theorem authenticate_heard (s : State) (soft : List (List SymSoft)) (fl : SMap Nat) (netid ftype kidx osa oda fcnt : Nat)
    (body mic : List Nat) :
    authenticate { s with flds := fl, way := { s.way with soft := soft } } netid ftype kidx osa oda fcnt body mic =
      authenticate s netid ftype kidx osa oda fcnt body mic := rfl

/-- A frame that leaves counts in TXFR. -/
theorem emit_counts {s u : State} (h : u.flds = s.flds) (dc : Bool) (ftype ra pri seq kidx : Nat) (payload : List Nat) :
    Writes [(F.WAY_CNT_TXFR, 0, min 65535 (s.fld F.WAY_CNT_TXFR + 1))] s (emit dc ftype ra pri seq kidx payload u) :=
  Writes_snoc_inc (t := { u with way := (emit dc ftype ra pri seq kidx payload u).way }) (Writes_nil _ _ h) F.WAY_CNT_TXFR 0 rfl

/-- FCNT is no field, and counting in it keeps SEQ and the delays. -/
theorem countFcnt_keeps_seqs (s : State) :
    (countFcnt s).flds = s.flds ∧ (countFcnt s).way.seqs = s.way.seqs ∧ (countFcnt s).way.delays = s.way.delays := by
  unfold countFcnt
  split <;> exact ⟨rfl, rfl, rfl⟩

/-- A frame of this node's own counts in TXFR, and keeps SEQ and the delays. -/
theorem emitOwn_spec (dc : Bool) (ftype ra pri seq kidx : Nat) (body : List Nat) (s : State) :
    (emitOwn dc ftype ra pri seq kidx body s).way.seqs = s.way.seqs ∧ (emitOwn dc ftype ra pri seq kidx body s).way.delays = s.way.delays ∧
      Writes [(F.WAY_CNT_TXFR, 0, min 65535 (s.fld F.WAY_CNT_TXFR + 1))] s (emitOwn dc ftype ra pri seq kidx body s) := by
  unfold emitOwn
  extract_lets s1
  obtain ⟨hflds, hseqs, hdelays⟩ : s1.flds = s.flds ∧ s1.way.seqs = s.way.seqs ∧ s1.way.delays = s.way.delays := by
    unfold s1
    split
    · exact ⟨rfl, rfl, rfl⟩
    · exact countFcnt_keeps_seqs s
  exact ⟨hseqs, hdelays, emit_counts hflds ..⟩

/-! ### Receiving, as the receiver finds the symbols -/

section Clauses

variable {f : WayFrame} {s : State} (hon : wayOn s = true)
include hon

theorem frame_ignored (h : f.fcOk = false ∨ f.netid.toNat ≠ s.fld F.WAY_NET_NETID ∨ 9 ≤ f.ftype.val ∨ 82 < f.nsym) :
    execWaylineFrameReceive f s = .next (takeSymbols f.rx s) := by
  rw [execWaylineFrameReceive_on hon, wayReceive_ignored (s := takeSymbols f.rx s) h]

/-- The frame in the air ends at its ACK (R293). -/
theorem frame_acked {x : WayTx} (htaken : WayTaken f s) (htype : f.ftype = 2) (hmine : f.ra.toNat = naddr s)
    (hair : s.way.air = some x) (hdst : x.dst = f.ta.toNat) (hseq : x.seq = f.seq.toNat) (htries : x.tries = 0) (hhost : x.host = false) :
    ∃ t, execWaylineFrameReceive f s = .next t ∧
      t = { s with flds := t.flds, way := { s.way with air := none, soft := t.way.soft } } ∧
      Writes [(F.WAY_CNT_RXFR, 0, min 65535 (s.fld F.WAY_CNT_RXFR + 1))] s t := by
  have hans : answers (takeSymbols f.rx s) f = true := (congrArg (Option.any _) hair).trans (by simp [hdst, hseq])
  have hflds := Writes_nil s { s with way := { (takeSymbols f.rx s).way with air := none } } rfl
  refine ⟨_, ?_, rfl, Writes_snoc_inc hflds F.WAY_CNT_RXFR 0 rfl⟩
  rw [execWaylineFrameReceive_on hon, wayReceive_ack (s := takeSymbols f.rx s) htaken htype hmine hans,
    txDone_first (s := (takeSymbols f.rx s).inc F.WAY_CNT_RXFR) hair htries hhost]
  rfl

/-- A frame for another node that fails authentication raises event 61 (R298). -/
theorem frame_unauthentic {osa oda fcnt : Nat} {body mic : List Nat} (htaken : WayTaken f s) (htype : HasMac f)
    (hother : f.ra.toNat ≠ naddr s) (hkept : allErased (takeSymbols f.rx s) = false)
    (hparse : parsePayload f.kidx (f.payload.map BitVec.toNat) = some (osa, oda, fcnt, body, mic))
    (hauth : authenticate s f.netid.toNat f.ftype f.kidx osa oda fcnt body mic = none) :
    ∃ u, execWaylineFrameReceive f s = .next (raise 61 f.ta.toNat u) ∧
      u = { s with flds := u.flds, way := (takeSymbols f.rx s).way } ∧
      Writes [(F.WAY_CNT_RXFR, 0, min 65535 (s.fld F.WAY_CNT_RXFR + 1)),
        (F.WAY_CNT2_AUTHF, 0, min 255 (s.fld F.WAY_CNT2_AUTHF + 1)), (F.WAY_ST_AUTHL, 0, 1)] s u := by
  have hrx := Writes_snoc_inc (Writes_nil s (takeSymbols f.rx s) rfl) F.WAY_CNT_RXFR 0 rfl
  refine ⟨_, ?_, rfl, Writes_snoc (Writes_snoc_inc hrx F.WAY_CNT2_AUTHF 0 rfl) (by decide) rfl⟩
  rw [execWaylineFrameReceive_on hon, wayReceive_mac (s := takeSymbols f.rx s) htaken htype,
    macFrame_unauthentic (s := takeSymbols f.rx s) hkept hother hparse ((authenticate_heard ..).trans hauth)]
  rfl

/-- A frame for this node of which nothing was decoded is answered NAK. -/
theorem frame_erased (htaken : WayTaken f s) (htype : HasMac f) (hmine : f.ra.toNat = naddr s)
    (herased : allErased (takeSymbols f.rx s) = true) :
    ∃ t, execWaylineFrameReceive f s = .next t ∧
      t = { s with flds := t.flds, way := { (takeSymbols f.rx s).way with sent := t.way.sent } } ∧
      Writes [(F.WAY_CNT_TXFR, 0, min 65535 (s.fld F.WAY_CNT_TXFR + 1))] s t := by
  refine ⟨emit f.dcSide 3 f.ta.toNat 0 f.seq.toNat 0 [] (takeSymbols f.rx s), ?_, rfl, emit_counts (u := takeSymbols f.rx s) rfl ..⟩
  rw [execWaylineFrameReceive_on hon, wayReceive_mac (s := takeSymbols f.rx s) htaken htype, macFrame_erased herased, answer_mine 3]
  exact hmine

/-! ### Neighbours and tone maps -/

theorem nbr_agesOut {i : Fin 512} {x : Nbr} (hx : mget none s.way.nbr i = some x) :
    ∃ t, execNeighbourAgeOut i s = .next t ∧ mget none t.way.nbr i = none ∧
      t.way.parent = (if s.way.parent = some x.naddr then none else s.way.parent) ∧
      (∀ j, j ≠ i.val → mget none t.way.nbr j = mget none s.way.nbr j) ∧ t = { s with way := t.way } := by
  refine ⟨removeNbr i s, ?_, ?_⟩
  · rw [execNeighbourAgeOut, if_pos (up_of_on hon), wayOn_onCtlOnce hon]
  · unfold removeNbr
    rw [hx]
    dsimp only
    have hother : ∀ j, j ≠ i.val → mget none (mput none s.way.nbr i none) j = mget none s.way.nbr j :=
      fun j hj => mget_mput_other _ _ _ _ _ _ hj
    split
    all_goals exact ⟨mget_mput_same none s.way.nbr i.val none, rfl, hother, rfl⟩

theorem toneMap_expires {i : Fin 512} : execToneMapExpire i s = .next (toneExpire i s) := by
  rw [execToneMapExpire, if_pos (up_of_on hon), wayOn_onCtlOnce hon]

theorem parent_chosen : execParentChange s = .next (chooseParent s) := by
  rw [execParentChange, if_pos (up_of_on hon), wayOn_onCtlOnce hon]

end Clauses

theorem setNbr_shows (i : Nat) (x : Option Nbr) (s : State) : mget none (setNbr i x s).way.nbr i = x := mget_mput_same ..

section Tone

variable {i : Nat} {x : Nbr} {s : State} (hx : mget none s.way.nbr i = some x)
include hx

theorem toneExpire_mapped (hmode : x.mode = 0) :
    toneExpire i s = setNbr i (some { x with mode := 1, tmi := 0, bits := 304, sound := true }) s := by
  unfold toneExpire
  rw [hx]
  exact if_pos hmode

theorem toneExpire_robust (hmode : x.mode ≠ 0) : toneExpire i s = s := by
  unfold toneExpire
  rw [hx]
  exact if_neg hmode

end Tone

/-! ### The parent -/

/-- A DREQ to the parent takes the next SEQ; half of the round trip less the turnaround joins the delays (R296). -/
theorem delayExchange_spec {rtt turn a : Nat} {s : State} (hsend : waySend s = true) (hhead : isHead s = true)
    (hsite : s.cvn.cfg.siteEn = true) (hparent : s.way.parent = some a) :
    (delayExchange rtt turn s).way.delays = (((rtt - turn) / 2) :: s.way.delays).take 8 ∧
      mget 0 (delayExchange rtt turn s).way.seqs a = nextSeq s a ∧
      Writes [(F.WAY_CNT_TXFR, 0, min 65535 (s.fld F.WAY_CNT_TXFR + 1))] s (delayExchange rtt turn s) := by
  unfold delayExchange
  rw [hparent]
  dsimp only
  rw [if_pos (by simp [hhead, hsite, hsend])]
  obtain ⟨hseqs, hdelays, hcount⟩ := emitOwn_spec ((findNbr s a).elim false fun e => e.2.dcSide) 7 a 3 (nextSeq s a)
    (if keyed s then 1 else 0) [] s
  exact ⟨by rw [hdelays], mget_mput_same .., Writes_of_flds hcount rfl⟩

section Parent

variable {s : State} (hhead : isHead s = true) (hsite : s.cvn.cfg.siteEn = true) (hslave : s.cvn.cfg.master = false)
include hhead hsite hslave

theorem chooseParent_none (hbest : bestParent s = none) :
    chooseParent s = { s.put F.CVN_SITE_LEVEL 0 0xF with way := { s.way with parent := none } } := by
  unfold chooseParent
  rw [if_pos (by simp [hhead, hsite, hslave]), hbest]

theorem chooseParent_some {x : Nbr} (hbest : bestParent s = some x) :
    chooseParent s = if s.way.parent = some x.naddr then s
      else raise 60 x.naddr { s with way := { s.way with parent := some x.naddr, delays := [] } } := by
  unfold chooseParent
  rw [if_pos (by simp [hhead, hsite, hslave]), hbest]

end Parent

/-! ### The neighbour page -/

theorem Writes_nselEnd (s : State) {i : Nat} (hi : i < 512) :
    Writes [(F.WAY_NSEL_EXP, 0, 0), (F.WAY_NSEL_INDEX, 0, i), (F.WAY_NSEL_HOLD, 0, 0)] s
      (endNbrHold ((s.put F.WAY_NSEL_EXP 0 0).put F.WAY_NSEL_INDEX 0 i)) := by
  have hput : Writes [(F.WAY_NSEL_EXP, 0, 0), (F.WAY_NSEL_INDEX, 0, i)] s ((s.put F.WAY_NSEL_EXP 0 0).put F.WAY_NSEL_INDEX 0 i) :=
    Writes_snoc (Writes_put s F.WAY_NSEL_EXP 0 0 (by decide)) hi rfl
  exact Writes_snoc (t := { (s.put F.WAY_NSEL_EXP 0 0).put F.WAY_NSEL_INDEX 0 i with way := { s.way with hold := none } })
    (Writes_of_flds hput rfl) (by decide) rfl

theorem nselWrite_ends {i : Nat} (s : State) (hi : i < 512) :
    Writes [(F.WAY_NSEL_INDEX, 0, i), (F.WAY_NSEL_HOLD, 0, 0), (F.WAY_NSEL_EXP, 0, 0)] s (nselWrite false i s) :=
  Writes_perm (List.perm_append_comm (l₁ := [(F.WAY_NSEL_EXP, 0, 0)])) (Writes_nselEnd s hi)

theorem nselWrite_new {i : Nat} {s : State} (hother : ∀ h, s.way.hold = some h → h.1 ≠ i) :
    nselWrite true i s = { endNbrHold ((s.put F.WAY_NSEL_EXP 0 0).put F.WAY_NSEL_INDEX 0 i) with
      way := { s.way with hold := some (i, mget none s.way.nbr i) } }.put F.WAY_NSEL_HOLD 0 1 := by
  refine if_neg ?_
  cases hhold : s.way.hold with
  | none => simp
  | some h => simp [hother h hhold]

theorem nselWrite_holds {i : Nat} {s : State} (hi : i < 512) (hother : ∀ h, s.way.hold = some h → h.1 ≠ i) :
    Writes [(F.WAY_NSEL_INDEX, 0, i), (F.WAY_NSEL_HOLD, 0, 1), (F.WAY_NSEL_EXP, 0, 0)] s (nselWrite true i s) := by
  rw [nselWrite_new hother]
  exact Writes_perm (List.perm_append_comm (l₁ := [(F.WAY_NSEL_EXP, 0, 0)]))
    (Writes_again (l := [_, _]) (k := []) (w := 0) (Writes_of_flds (Writes_nselEnd s hi) rfl) (by decide) rfl)

theorem execWayNselWrite_on {s : State} (hmain : mainOn s = true) (hold : Bool) (i : Fin 512) :
    execWayNselWrite hold i s = .next (nselWrite hold i s) := by
  rw [execWayNselWrite, if_pos hmain]

theorem nselHold_expires {s : State} (hheld : s.way.hold ≠ none) :
    ∃ t, execWayNselHoldExpire s = .next t ∧ t = { s with flds := t.flds, way := { s.way with hold := none } } ∧
      Writes [(F.WAY_NSEL_HOLD, 0, 0), (F.WAY_NSEL_EXP, 0, 1)] s t := by
  refine ⟨(endNbrHold s).put F.WAY_NSEL_EXP 0 1, ?_, rfl, ?_⟩
  · rw [execWayNselHoldExpire, if_pos (Option.isSome_iff_ne_none.2 hheld)]
  · exact Writes_snoc (Writes_of_flds (Writes_put s F.WAY_NSEL_HOLD 0 0 (by decide)) rfl) (by decide) rfl

/-- Settles O55: each clause is what the receiver, the neighbour table, the parent or the neighbour page does in its case. -/
theorem waylineReceivesAndKeepsNeighbours : Obligations.WaylineReceivesAndKeepsNeighbours := by
  unfold Obligations.WaylineReceivesAndKeepsNeighbours
  refine ⟨fun s f hon => ⟨?_, ?_, ?_, ?_⟩, ?_, fun s i x hon hx => ⟨?_, ?_, ?_⟩, ?_, fun s hon hhead hsite hslave => ⟨?_, ?_⟩,
    fun s i hmain => ⟨?_, fun hother => ?_⟩, ?_⟩
  · exact frame_ignored hon
  · exact fun x hcrc hnet hlen htype hmine => frame_acked hon ⟨hcrc, hnet, hlen⟩ htype hmine
  · exact fun osa oda fcnt body mic hcrc hnet hlen => frame_unauthentic hon ⟨hcrc, hnet, hlen⟩
  · exact fun hcrc hnet hlen => frame_erased hon ⟨hcrc, hnet, hlen⟩
  · exact fun s f hoff => execWaylineFrameReceive_off hoff f
  · exact nbr_agesOut hon hx
  · exact fun hmode => ⟨_, (toneMap_expires hon).trans (by rw [toneExpire_mapped hx hmode]), rfl, setNbr_shows ..⟩
  · exact fun hmode => (toneMap_expires hon).trans (by rw [toneExpire_robust hx hmode])
  · exact fun s rtt turn a hsend hhead hsite hparent =>
      ⟨_, congrArg Host.Outcome.next (if_pos (on_of_send hsend)), delayExchange_spec hsend hhead hsite hparent⟩
  · exact fun hbest => (parent_chosen hon).trans (by rw [chooseParent_none hhead hsite hslave hbest])
  · refine fun x hbest => ⟨fun hsame => (parent_chosen hon).trans ?_, fun hnew => (parent_chosen hon).trans ?_⟩
    · rw [chooseParent_some hhead hsite hslave hbest, if_pos hsame]
    · rw [chooseParent_some hhead hsite hslave hbest, if_neg hnew]
  · exact ⟨_, execWayNselWrite_on hmain false i, rfl, nselWrite_ends s i.isLt⟩
  · exact ⟨_, execWayNselWrite_on hmain true i, by rw [nselWrite_new hother]; rfl, nselWrite_holds i.isLt hother⟩
  · exact fun s => nselHold_expires

end Sys2Proof.Machine
end


section
/-! O35: half-cycle marks with the dips they start and end, the records that are posted, and the blocks and periods of the high band
(R177 to R195). -/

namespace Sys2Proof.Machine

/-! ### What leaves a dip alone -/

theorem fld_one_of_bit {s : State} {f : Fld} {i : Nat} (hlen : f.len = 1) (h : s.bit f i = true) : s.fld f i = 1 := by
  have hlt : s.fld f i < 2 ^ 1 := hlen ▸ fld_lt s f i
  have hne : s.fld f i ≠ 0 := by simpa [State.bit] using h
  omega

/-- Going from s to t, the dip of group g stays in progress or absent as its mark found it: its records still wait, DIP keeps its
value, and FLAG is not cleared. -/
def DipStays (g : Nat) (s t : State) : Prop :=
  (getDst t g).dip = (getDst s g).dip ∧ (getDst s g).queue ⊆ (getDst t g).queue ∧
    t.bit F.DST_GST_DIP g = s.bit F.DST_GST_DIP g ∧ (s.bit F.DST_GST_FLAG g = true → t.bit F.DST_GST_FLAG g = true)

namespace DipStays

variable {g : Nat} {r s t : State}

theorem refl (g : Nat) (s : State) : DipStays g s s := ⟨rfl, List.Subset.refl _, rfl, id⟩

theorem trans (hrs : DipStays g r s) (hst : DipStays g s t) : DipStays g r t := by
  obtain ⟨hdip, hqueue, hbit, hflag⟩ := hrs
  obtain ⟨hdip', hqueue', hbit', hflag'⟩ := hst
  exact ⟨hdip'.trans hdip, List.Subset.trans hqueue hqueue', hbit'.trans hbit, hflag' ∘ hflag⟩

theorem ite {c : Prop} [Decidable c] (hs : DipStays g r s) (ht : DipStays g r t) : DipStays g r (if c then s else t) := by
  split
  · exact hs
  · exact ht

theorem foldl {α : Type} {f : State → α → State} (h : DipStays g r s) (as : List α)
    (hf : ∀ u a, DipStays g r u → DipStays g r (f u a)) : DipStays g r (as.foldl f s) :=
  List.foldlRecOn as f h fun u hu a _ => hf u a hu

/-- Other fields are written, and the disturbances stay. -/
theorem of_writesOnly {l : List Fld} (h : WritesOnly l s t) (hdst : t.dst = s.dst)
    (hdip : (l.all fun f => f.id != F.DST_GST_DIP.id) = true) (hflag : (l.all fun f => f.id != F.DST_GST_FLAG.id) = true) :
    DipStays g s t := by
  have hgrp : getDst t g = getDst s g := congrArg (fun d : DstSt => mget DstGrp.blank d.grp g) hdst
  rw [DipStays, hgrp, h.bit g hdip, h.bit g hflag]
  exact ⟨rfl, List.Subset.refl _, rfl, id⟩

theorem put {f : Fld} {i v : Nat} (h : DipStays g r s) (hdip : f.id ≠ F.DST_GST_DIP.id := by decide)
    (hflag : f.id ≠ F.DST_GST_FLAG.id := by decide) : DipStays g r (s.put f i v) :=
  h.trans (of_writesOnly (.of_put s i v (List.mem_singleton_self f)) rfl (by simpa using hdip) (by simpa using hflag))

/-- FLAG is set, in this group or in another. -/
theorem after_flag {i : Nat} (h : DipStays g r s) : DipStays g r (s.put F.DST_GST_FLAG i 1) :=
  h.trans ⟨rfl, List.Subset.refl _, put_bit_field _ _ _ _ _ _ (by decide), fun hset =>
    bit_of_fld_one (put_fld_stays i (fld_one_of_bit rfl hset))⟩

theorem after_raise {e d : Nat} (h : DipStays g r s) (he : e < 128 := by decide) : DipStays g r (raise e d s) :=
  h.trans (of_writesOnly ((Shows.refl evtNums s).after_raise he).only (raise_dst e d s) (by decide) (by decide))

theorem after_setDst {d : DstGrp} (h : DipStays g r s) (hdip : d.dip = (getDst s g).dip := by rfl)
    (hqueue : (getDst s g).queue ⊆ d.queue := by exact List.Subset.refl _) : DipStays g r (setDst g d s) := by
  refine h.trans ⟨?_, ?_, rfl, id⟩
  · rw [getDst_setDst_same, hdip]
  · rwa [getDst_setDst_same]

theorem after_setBit {f : Fld} {i : Nat} {b : Bool} (h : DipStays g r s) (hdip : f.id ≠ F.DST_GST_DIP.id := by decide)
    (hflag : f.id ≠ F.DST_GST_FLAG.id := by decide) : DipStays g r (s.setBit f i b) := h.put hdip hflag

theorem after_rvcBits {vs : List (Nat × Rat)} {p : Nat × Rat → Bool} (h : DipStays g r s) : DipStays g r (rvcBits vs p s) :=
  h.foldl _ fun _ _ hu => hu.after_setBit

/-- The conditions of the members stand in DST_CST (Table 09-8). -/
theorem after_memberBits {th : DstThr} {x : MarkIn} (h : DipStays g r s) : DipStays g r (memberBits th x s) := by
  refine h.foldl _ fun u v hu => ?_
  extract_lets set s1 s2 s3
  have hset : ∀ (f : Fld) (on off : Bool) (w : State), f.id ≠ F.DST_GST_DIP.id → f.id ≠ F.DST_GST_FLAG.id → DipStays g r w →
      DipStays g r (set f on off w) := fun f on off w hdip hflag hw => (hw.put hdip hflag).ite ((hw.put hdip hflag).ite hw)
  exact hset _ _ _ _ (by decide) (by decide) (hset _ _ _ _ (by decide) (by decide) (hset _ _ _ _ (by decide) (by decide) hu.put))

/-- A rapid voltage change starts, goes on, ends or is cancelled beside the dip (R181). -/
theorem after_rvcStep {x : MarkIn} {before : SMap (List Rat)} : DipStays x.g s (rvcStep x before s) := by
  have hs := DipStays.refl x.g s
  unfold rvcStep
  extract_lets d n th sag volt allSteady
  split
  · refine ite hs.after_setDst.put.after_rvcBits ?_
    extract_lets
    exact ite (after_rvcBits (put (after_setDst hs rfl (List.subset_append_left _ _)))) hs.after_setDst.after_rvcBits
  · exact ite hs.after_setDst.put.put.after_flag.after_rvcBits hs.after_setDst

end DipStays

/-! ### Dips at a mark (R178, R180) -/

/-- The condition on which a dip starts (Table 09-1). -/
def dipBegins (x : MarkIn) (th : DstThr) : Bool := th.dipth != 0 && x.vs.any fun v => decide (v.2 < 10 * th.dipth)

/-- The condition on which a dip ends (Table 09-1). -/
def dipEnds (x : MarkIn) (th : DstThr) : Bool :=
  th.dipth == 0 || (x.vs != [] && x.vs.all fun v => decide (((10 * (th.dipth + th.hyst) : Nat) : Rat) ≤ v.2))

/-- The dip in progress after a mark, and the dip that the mark ends. -/
def dipStep (x : MarkIn) (d : DstGrp) : Option DstEv × Option DstEv :=
  stateStep true x (dipBegins x d.thr) (dipEnds x d.thr) d.dip

/-- A state of a group shows in DST_GST as it starts and as it ends. -/
def stateShown (f l : Fld) (ev g : Nat) (was now : Bool) (s : State) : State :=
  if !was && now then (gstStart f l (some ev) g s).put F.DST_GST_FLAG g 1
  else if was && !now then s.put f g 0 else s

theorem DipStays.after_stateShown {f l : Fld} {ev g : Nat} {was now : Bool} {r s : State} (h : DipStays g r s)
    (hdip : f.id ≠ F.DST_GST_DIP.id := by decide) (hflag : f.id ≠ F.DST_GST_FLAG.id := by decide)
    (hdipl : l.id ≠ F.DST_GST_DIP.id := by decide) (hflagl : l.id ≠ F.DST_GST_FLAG.id := by decide)
    (hev : ev < 128 := by decide) : DipStays g r (stateShown f l ev g was now s) :=
  ((((h.put hdip hflag).put hdipl hflagl).after_raise hev).after_flag).ite ((h.put hdip hflag).ite h)

/-- A dip starts or ends by its conditions, the ended one has its record in the queue, and DST_GST shows it; swells, interruptions
and the flags that an interruption leaves on a dip do not change that. -/
theorem voltageStates_dip (x : MarkIn) (s : State) : ∃ (mark : DstEv → DstEv) (u : State),
    (getDst u x.g).dip = (dipStep x (getDst s x.g)).1.map mark ∧
    (∀ e, (dipStep x (getDst s x.g)).2 = some e → evRec 1 x.t false (mark e) ∈ (getDst u x.g).queue) ∧
    DipStays x.g (stateShown F.DST_GST_DIP F.DST_GST_DIPL 16 x.g (getDst s x.g).dip.isSome
      (dipStep x (getDst s x.g)).1.isSome u) (voltageStates x s) := by
  unfold voltageStates
  extract_lets d th any all int dip0 mark dip swl recs s1 go
  refine ⟨mark, s1, ?_, fun e he => ?_, ?_⟩
  · exact congrArg DstGrp.dip (getDst_setDst_same x.g _ s)
  · have hrec : evRec 1 x.t false (mark e) ∈ recs :=
      List.mem_filterMap.2 ⟨(1, dip.2), by simp, congrArg (Option.map _) (congrArg (Option.map mark) he)⟩
    rw [getDst_setDst_same]
    exact List.mem_append_right _ hrec
  · have hnow : dip.1.isSome = (dipStep x (getDst s x.g)).1.isSome := Option.isSome_map
    rw [← hnow]
    exact ((DipStays.refl x.g _).after_stateShown (f := F.DST_GST_SWL)).after_stateShown

section Step

variable {x : MarkIn} {d : DstGrp}

theorem dipStep_begins (hnone : d.dip = none) (h : dipBegins x d.thr = true) :
    dipStep x d = (some (newEv true x.vs x.start x.unlk x.ovr x.opn), none) := by
  rw [dipStep, hnone, h]
  rfl

theorem dipStep_ends {e : DstEv} (hdip : d.dip = some e) (h : dipEnds x d.thr = true) :
    dipStep x d = (none, some (feedEv true x.vs x.unlk x.ovr x.opn e)) := by
  rw [dipStep, hdip, h]
  rfl

end Step

theorem stateShown_starts (f l : Fld) (ev g : Nat) (s : State) :
    stateShown f l ev g false true s = (raise ev g ((s.put f g 1).put l g 1)).put F.DST_GST_FLAG g 1 := rfl

theorem stateShown_ends (f l : Fld) (ev g : Nat) (s : State) : stateShown f l ev g true false s = s.put f g 0 := rfl

/-- A mark at which a dip starts. -/
theorem voltageStates_starts {x : MarkIn} {s : State} (hnone : (getDst s x.g).dip = none)
    (h : dipBegins x (getDst s x.g).thr = true) : (getDst (voltageStates x s) x.g).dip.isSome = true ∧
    (voltageStates x s).bit F.DST_GST_DIP x.g = true ∧ (voltageStates x s).bit F.DST_GST_FLAG x.g = true := by
  obtain ⟨mark, u, hdip, -, hstays⟩ := voltageStates_dip x s
  rw [dipStep_begins hnone h] at hdip hstays
  rw [hnone, Option.isSome_none, Option.isSome_some, stateShown_starts] at hstays
  have hshown : DipStays x.g (u.put F.DST_GST_DIP x.g 1)
      ((raise 16 x.g ((u.put F.DST_GST_DIP x.g 1).put F.DST_GST_DIPL x.g 1)).put F.DST_GST_FLAG x.g 1) :=
    (DipStays.refl x.g _).put.after_raise.after_flag
  obtain ⟨hkept, -, hbit, -⟩ := hshown.trans hstays
  obtain ⟨-, -, -, hflag⟩ := hstays
  refine ⟨?_, hbit.trans (bit_of_fld_one (put_fld_same _ _ _ _)), hflag (bit_of_fld_one (put_fld_same _ _ _ _))⟩
  have hnew : (getDst u x.g).dip.isSome = true := by rw [hdip]; rfl
  exact (congrArg Option.isSome hkept).trans hnew

/-- A mark at which a dip ends: its record waits. -/
theorem voltageStates_ends {x : MarkIn} {s : State} (hsome : (getDst s x.g).dip.isSome = true)
    (h : dipEnds x (getDst s x.g).thr = true) : (getDst (voltageStates x s) x.g).dip = none ∧
    (voltageStates x s).bit F.DST_GST_DIP x.g = false ∧
    ∃ r ∈ (getDst (voltageStates x s) x.g).queue, r.type = 1 ∧ r.endT = x.t := by
  obtain ⟨e, he⟩ := Option.isSome_iff_exists.1 hsome
  obtain ⟨mark, u, hdip, hrec, hstays⟩ := voltageStates_dip x s
  rw [dipStep_ends he h] at hdip hrec hstays
  rw [he, Option.isSome_some, Option.isSome_none, stateShown_ends] at hstays
  obtain ⟨hdip', hqueue, hbit, -⟩ := hstays
  refine ⟨hdip'.trans hdip, hbit.trans ?_, _, hqueue (hrec _ rfl), rfl, rfl⟩
  exact congrArg (· != 0) (put_fld_same u F.DST_GST_DIP x.g 0)

/-! ### A half-cycle mark (R177, R183) -/

section Thresholds

variable {s : State} {g : Nat} {d : DstGrp}

theorem takeThr_idle (h : d.busy = false) : takeThr s g d = { d with thr := thrRegs s.flds g } := by
  rw [takeThr, h]
  rfl

theorem takeThr_busy (h : d.busy = true) : takeThr s g d = d := if_pos h

theorem takeThr_frame (s : State) (g : Nat) (d : DstGrp) : takeThr s g d = { d with thr := (takeThr s g d).thr } := by
  unfold takeThr
  split <;> rfl

theorem dip_none_of_idle (h : d.busy = false) : d.dip = none := by
  unfold DstGrp.busy at h
  simp only [Bool.or_eq_false_iff, Option.isSome_eq_false_iff, Option.isNone_iff_eq_none] at h
  obtain ⟨⟨⟨⟨hdip, -⟩, -⟩, -⟩, -⟩ := h
  exact hdip

theorem busy_of_dip (h : d.dip.isSome = true) : d.busy = true := by
  unfold DstGrp.busy
  simp [h]

end Thresholds

/-- The values at a mark do not depend on the time that has been reached. -/
theorem markVals_reachTime (s : State) (g start t u : Nat) (us : List StreamRun) :
    markVals (reachTime u s) g start t us = markVals s g start t us := rfl

/-- What a mark with two earlier ones is tested on: the values since the mark two earlier, and their flags. -/
def markIn (g t : Nat) (us : List StreamRun) (s : State) : MarkIn :=
  let start := (getDst s g).marks.getD 1 t
  let vs := markVals s g start t us
  { g := g, t := t, start := start, vs := vs, unlk := trkState s g != 3
    ovr := vs.any (fun v => ovrIn (reachTime t s) v.1 start t), opn := vs.any (fun v => openIn (reachTime t s) v.1 start t) }

/-- The group as a mark finds it, with the thresholds in force and the mark and its values on their lists. -/
def markedGrp (g t : Nat) (us : List StreamRun) (s : State) : DstGrp :=
  let d := takeThr s g (getDst s g)
  let n := rvcS s g
  { d with marks := (t :: d.marks).take (n + 1), hist := pushVals n (markIn g t us s) d.hist }

section Mark

variable {g t : Nat} {us : List StreamRun} {s : State}

theorem halfMark_again (h : (getDst s g).marks.head? = some t) : halfMark g t none us s = s :=
  if_neg (by simp [h])

/-- What a mark finds as the group's states are tested. -/
def markFound (g t : Nat) (us : List StreamRun) (s : State) : State := setDst g (markedGrp g t us s) (reachTime t s)

theorem markFound_keeps : (getDst (markFound g t us s) g).dip = (getDst s g).dip ∧
    (getDst (markFound g t us s) g).thr = (takeThr s g (getDst s g)).thr := by
  rw [markFound, getDst_setDst_same, markedGrp, takeThr_frame]
  exact ⟨rfl, rfl⟩

variable (hrun : running s = true) (htrk : trkState s g ≠ 0) (hnew : (getDst s g).marks.head? ≠ some t)
  (hmarks : 2 ≤ (getDst s g).marks.length) (hen : (takeThr s g (getDst s g)).thr.en = true)
include hrun htrk hnew hmarks hen

/-- At a mark of an enabled group dips, swells and interruptions are tested, then the members' own conditions and rapid voltage
changes. -/
theorem halfMark_tests : halfMark g t none us s =
    rvcStep (markIn g t us s) (takeThr s g (getDst s g)).hist (memberBits (takeThr s g (getDst s g)).thr (markIn g t us s)
      (voltageStates (markIn g t us s) (markFound g t us s))) := by
  have hmarks' : (takeThr s g (getDst s g)).marks = (getDst s g).marks := by rw [takeThr_frame]
  have htwo : ¬ (takeThr s g (getDst s g)).marks.length < 2 := by rw [hmarks']; omega
  unfold halfMark
  rw [if_pos (by simp [hrun, htrk, hnew])]
  extract_lets s0 s1 d0 n start vs x d1
  have hstart : start = (getDst s g).marks.getD 1 t := congrArg (fun l : List Nat => l.getD 1 t) hmarks'
  have hvs : vs = markVals s g ((getDst s g).marks.getD 1 t) t us := by
    rw [← hstart]
    exact (if_neg htwo).trans (markVals_reachTime s g start t t us)
  have hx : x = markIn g t us s := by
    unfold x markIn
    rw [hvs, hstart]
    rfl
  clear_value x
  subst hx
  exact if_pos hen

/-- The dip stays as the tests of the mark leave it. -/
theorem halfMark_dip : DipStays g (voltageStates (markIn g t us s) (markFound g t us s)) (halfMark g t none us s) := by
  rw [halfMark_tests hrun htrk hnew hmarks hen]
  have hbits : DipStays g (voltageStates (markIn g t us s) (markFound g t us s)) (memberBits (takeThr s g (getDst s g)).thr
    (markIn g t us s) (voltageStates (markIn g t us s) (markFound g t us s))) := (DipStays.refl _ _).after_memberBits
  exact hbits.trans DipStays.after_rvcStep

end Mark

section Voltage

variable {g t : Nat} {us : List StreamRun} {s : State} (hrun : running s = true) (htrk : trkState s g ≠ 0)
  (hnew : (getDst s g).marks.head? ≠ some t) (hmarks : 2 ≤ (getDst s g).marks.length)
include hrun htrk hnew hmarks

/-- A member below DIPTH starts a dip in a group at rest. -/
theorem halfMark_starts (hidle : (getDst s g).busy = false) (hen : (thrRegs s.flds g).en = true)
    (hth : (thrRegs s.flds g).dipth ≠ 0)
    (hlow : ∃ v ∈ markVals s g ((getDst s g).marks.getD 1 t) t us, v.2 < 10 * (thrRegs s.flds g).dipth) :
    (getDst (halfMark g t none us s) g).dip.isSome = true ∧ (halfMark g t none us s).bit F.DST_GST_DIP g = true ∧
      (halfMark g t none us s).bit F.DST_GST_FLAG g = true := by
  have hthr : (takeThr s g (getDst s g)).thr = thrRegs s.flds g := by rw [takeThr_idle hidle]
  obtain ⟨hdip, hth'⟩ := markFound_keeps (g := g) (t := t) (us := us) (s := s)
  have hbegins : dipBegins (markIn g t us s) (getDst (markFound g t us s) g).thr = true := by
    rw [hth', hthr, dipBegins, Bool.and_eq_true, List.any_eq_true]
    obtain ⟨v, hv, hlt⟩ := hlow
    exact ⟨bne_iff_ne.2 hth, v, hv, decide_eq_true hlt⟩
  obtain ⟨hsome, hbit, hflag⟩ := voltageStates_starts (x := markIn g t us s) (s := markFound g t us s)
    (hdip.trans (dip_none_of_idle hidle)) hbegins
  obtain ⟨hdip', -, hbit', hflag'⟩ := halfMark_dip hrun htrk hnew hmarks (us := us) (by rw [hthr]; exact hen)
  exact ⟨(congrArg Option.isSome hdip').trans hsome, hbit'.trans hbit, hflag' hflag⟩

/-- Every member back above DIPTH and its hysteresis ends the dip in progress. -/
theorem halfMark_ends (hsome : (getDst s g).dip.isSome = true) (hen : (getDst s g).thr.en = true)
    (hvals : markVals s g ((getDst s g).marks.getD 1 t) t us ≠ [])
    (hback : ∀ v ∈ markVals s g ((getDst s g).marks.getD 1 t) t us,
      ((10 * ((getDst s g).thr.dipth + (getDst s g).thr.hyst) : Nat) : Rat) ≤ v.2) :
    (getDst (halfMark g t none us s) g).dip = none ∧ (halfMark g t none us s).bit F.DST_GST_DIP g = false ∧
      ∃ r ∈ (getDst (halfMark g t none us s) g).queue, r.type = 1 ∧ r.endT = t := by
  have hthr : (takeThr s g (getDst s g)).thr = (getDst s g).thr := by rw [takeThr_busy (busy_of_dip hsome)]
  obtain ⟨hdip, hth'⟩ := markFound_keeps (g := g) (t := t) (us := us) (s := s)
  have hends : dipEnds (markIn g t us s) (getDst (markFound g t us s) g).thr = true := by
    rw [hth', hthr, dipEnds, Bool.or_eq_true, Bool.and_eq_true, List.all_eq_true]
    exact .inr ⟨bne_iff_ne.2 hvals, fun v hv => decide_eq_true (hback v hv)⟩
  obtain ⟨hnone, hbit, r, hr, htype, hend⟩ := voltageStates_ends (x := markIn g t us s) (s := markFound g t us s)
    ((congrArg Option.isSome hdip).trans hsome) hends
  obtain ⟨hdip', hqueue, hbit', -⟩ := halfMark_dip hrun htrk hnew hmarks (us := us) (by rw [hthr]; exact hen)
  exact ⟨hdip'.trans hnone, hbit'.trans hbit, r, hqueue hr, htype, hend⟩

end Voltage

/-! ### The oldest waiting record (R180, R195) -/

/-- The registers of a group hold a record. -/
def RecordShown (g : Nat) (r : DstRec) (u : State) : Prop :=
  u.fld F.DST_LREC_TYPE g = r.type % 2 ^ F.DST_LREC_TYPE.len ∧ u.fld F.DST_LSTART_LO_START_LO g = r.ev.start % 2 ^ 32 ∧
    u.fld F.DST_LSTART_HI_START_HI g = r.ev.start / 2 ^ 32 % 2 ^ 32 ∧
    u.fld F.DST_LDUR_DUR g = min 0xFFFFFFFF ((r.endT - r.ev.start) / 1000) ∧ u.bit F.DST_LREC_CUT g = r.cut

/-- A record is written to the registers of its group. -/
def recordWritten (g : Nat) (r : DstRec) (s : State) : State :=
  let s2 := ((((((s.put F.DST_LREC_TYPE g r.type).setBit F.DST_LREC_INTR g r.ev.intr).setBit F.DST_LREC_UNLK g
    r.ev.unlk).setBit F.DST_LREC_OVR g r.ev.ovr).setBit F.DST_LREC_OPEN g r.ev.opened).setBit F.DST_LREC_CUT g r.cut).put
    F.DST_LREC_STREAM g r.ev.chan
  ((((s2.put F.DST_LSTART_LO_START_LO g r.ev.start).put F.DST_LSTART_HI_START_HI g (r.ev.start / 2 ^ 32)).put
    F.DST_LDUR_DUR g (min 0xFFFFFFFF ((r.endT - r.ev.start) / 1000))).put F.DST_LVAL_VAL1 g r.val1).put F.DST_LVAL_VAL2 g r.val2

theorem recordPost_first {g : Nat} {r : DstRec} {rest : List DstRec} {s : State} (h : (getDst s g).queue = r :: rest) :
    recordPost g s = raise (if r.type = 4 then 20 else if r.type = 5 then 22 else 19) g
      (recordWritten g r (setDst g { getDst s g with queue := rest } s)) := by
  unfold recordPost
  dsimp only
  rw [h]
  rfl

/-- The fields of a record. -/
def recordNums : List Fld :=
  R.DST_LREC.fields ++ R.DST_LSTART_LO.fields ++ R.DST_LSTART_HI.fields ++ R.DST_LDUR.fields ++ R.DST_LVAL.fields

theorem recordWritten_eq (g : Nat) (r : DstRec) (s : State) :
    recordWritten g r s = { s with flds := (recordWritten g r s).flds } := by
  have hshows : Shows recordNums s (recordWritten g r s) := by
    unfold recordWritten State.setBit
    exact (Shows.refl _ s).put.put.put.put.put.put.put.put.put.put.put.put
  have hldg : (recordWritten g r s).ldg = s.ldg := by simp only [recordWritten, put_ldg, setBit_ldg]
  obtain ⟨heq, -⟩ := hshows
  rwa [hldg] at heq

theorem recordWritten_getDst (g h : Nat) (r : DstRec) (s : State) : getDst (recordWritten g r s) h = getDst s h := by
  rw [recordWritten_eq]
  rfl

theorem recordWritten_shows (g : Nat) (r : DstRec) (s : State) : RecordShown g r (recordWritten g r s) := by
  have hdur : min 0xFFFFFFFF ((r.endT - r.ev.start) / 1000) < 2 ^ 32 := by omega
  unfold RecordShown recordWritten State.setBit State.bit
  simp (disch := decide) only [put_fld_field, put_fld_same]
  refine ⟨trivial, rfl, rfl, Nat.mod_eq_of_lt hdur, ?_⟩
  cases r.cut <;> rfl

/-! ### Blocks of the high band (R187) -/

/-- Going from s to t, the arc statistic goes on: nothing is changed but fields, the ledger and the statistics. -/
def ArcOnly (s t : State) : Prop := t = { s with flds := t.flds, ldg := t.ldg, dst := { s.dst with arc := t.dst.arc } }

namespace ArcOnly

variable {r s t : State}

theorem refl (s : State) : ArcOnly s s := rfl

theorem trans (hrs : ArcOnly r s) (hst : ArcOnly s t) : ArcOnly r t := by
  unfold ArcOnly at hrs hst ⊢
  rw [hst, hrs]

theorem ite {c : Prop} [Decidable c] (hs : ArcOnly r s) (ht : ArcOnly r t) : ArcOnly r (if c then s else t) := by
  split
  · exact hs
  · exact ht

theorem put {f : Fld} {i v : Nat} (h : ArcOnly r s) : ArcOnly r (s.put f i v) := h.trans rfl

theorem after_raise {e d : Nat} (h : ArcOnly r s) : ArcOnly r (raise e d s) := by
  refine h.trans ?_
  unfold ArcOnly
  rw [raise_eq]

/-- A change of the statistics. -/
theorem elsewhere {arc : SMap (Option ArcSt)} (h : ArcOnly r s) : ArcOnly r { s with dst := { s.dst with arc := arc } } := h.trans rfl

theorem after_arcBlock {n : Nat} {m : Rat} (h : ArcOnly r s) : ArcOnly r (arcBlock n m s) := by
  unfold arcBlock State.putI
  extract_lets a warm base wcnt stillWarm q A th hit last cnt base1 _ s1 s2 arcn
  have h2 : ArcOnly r s2 := h.elsewhere.put.put
  exact ite (h2.ite h2.put.put.after_raise) (ite (h2.put.after_raise.ite h2) h2)

theorem after_arcStop {n : Nat} (h : ArcOnly r s) : ArcOnly r (arcStop n s) := by
  unfold arcStop
  extract_lets _ s1 s2
  have h2 : ArcOnly r s2 := h.elsewhere.put.put
  exact ite (h2.put.after_raise.ite h2) h

end ArcOnly

/-- One block of a stream adds one to the blocks of its period. -/
theorem joinBlock_counts (n : Nat) (power : List Rat) (s : State) :
    (mget HbAcc.blank (joinBlock n power s).dst.hb n).n = (mget HbAcc.blank s.dst.hb n).n + 1 ∧
      (joinBlock n power s).pwr = s.pwr ∧ (joinBlock n power s).mtr = s.mtr := by
  unfold joinBlock
  extract_lets a pad a1 _ s1
  have harc : ArcOnly s1 (if arcOn s1 n then arcBlock n (arcMedian power) s1 else arcStop n s1) :=
    (ArcOnly.refl s1).after_arcBlock.ite (ArcOnly.refl s1).after_arcStop
  rw [harc]
  refine ⟨?_, rfl, rfl⟩
  exact congrArg HbAcc.n (mget_mput_same HbAcc.blank s.dst.hb n a1)

section Block

variable {b : StreamRun} {s : State}

theorem highBlock_running (hrun : running s = true) (hoff : hbOff s = false) (hwait : windowsWait s = false)
    (hon : chanOn s b.n.val = true) : highBlock [b] s = joinBlock b.n.val (highBands s b) s := by
  unfold highBlock
  rw [if_pos (by simp [hrun, hoff, hwait]), List.filter_cons_of_pos (p := fun b : StreamRun => chanOn s b.n.val) hon]
  rfl

theorem highBlock_stopped (hon : chanOn s b.n.val = false) : highBlock [b] s = s := by
  unfold highBlock
  rw [List.filter_cons_of_neg (p := fun b : StreamRun => chanOn s b.n.val) (by simp [hon])]
  exact ite_self _

end Block

/-! ### Periods of 200 ms (R186, R188, R193) -/

/-- The fields of a period besides PSEQ. -/
def periodNums : List Fld :=
  evtNums ++ [F.DST_LBH_GAP, F.DST_LBH_OVR, F.DST_LBH_OPEN, F.DST_LB_BAND] ++ R.DST_HBSUM.fields

/-- A period of a stream counts PSEQ and begins its sums anew; what else is posted are fields of its results and the page. -/
theorem postPeriod_spec (bands : Option (List Rat)) (n : Nat) (s : State) : ∃ u post,
    Shows periodNums (s.put F.DST_LBH_PSEQ n ((s.fld F.DST_LBH_PSEQ n + 1) % 2 ^ 16)) u ∧
    Shows periodNums { u with dst := { u.dst with hb := mput HbAcc.blank u.dst.hb n HbAcc.blank, post := post } }
      (postPeriod bands n s) := by
  unfold postPeriod State.setBit
  extract_lets a gap pseq s1 s2 avgs page total lim x post _ s3 s4
  have h1 : Shows periodNums (s.put F.DST_LBH_PSEQ n pseq) s1 := (Shows.refl _ _).put.put.put
  have h2 : Shows periodNums (s.put F.DST_LBH_PSEQ n pseq) s2 := by
    unfold s2
    split
    · exact h1.foldl _ fun _ _ hu => hu.put
    · exact h1
  have h4 : Shows periodNums s3 s4 := (Shows.refl _ _).put.put.put.put
  exact ⟨s2, _, h2, (h4.put.after_raise).ite h4⟩

section Period

variable {bands : Option (List Rat)} {n m : Nat} {s : State}

theorem postPeriod_chanOn (m : Nat) : chanOn (postPeriod bands n s) m = chanOn s m := by
  obtain ⟨u, post, ⟨hu, -⟩, ⟨ht, -⟩⟩ := postPeriod_spec bands n s
  rw [ht, hu]
  rfl

theorem postPeriod_hb : (postPeriod bands n s).dst.hb = mput HbAcc.blank s.dst.hb n HbAcc.blank := by
  obtain ⟨u, post, ⟨hu, -⟩, ⟨ht, -⟩⟩ := postPeriod_spec bands n s
  rw [ht, hu]
  rfl

theorem postPeriod_pseq (m : Nat) : (postPeriod bands n s).fld F.DST_LBH_PSEQ m =
    (s.put F.DST_LBH_PSEQ n ((s.fld F.DST_LBH_PSEQ n + 1) % 2 ^ 16)).fld F.DST_LBH_PSEQ m := by
  obtain ⟨u, post, hu, ht⟩ := postPeriod_spec bands n s
  exact (ht.only.fld m).trans (hu.only.fld m)

theorem postPeriod_same : (postPeriod bands n s).fld F.DST_LBH_PSEQ n = (s.fld F.DST_LBH_PSEQ n + 1) % 2 ^ 16 ∧
    mget HbAcc.blank (postPeriod bands n s).dst.hb n = HbAcc.blank := by
  rw [postPeriod_pseq, put_fld_same, postPeriod_hb, mget_mput_same]
  exact ⟨Nat.mod_mod _ _, rfl⟩

theorem postPeriod_other (hm : m < 144) (hn : n < 144) (hne : n ≠ m) :
    (postPeriod bands n s).fld F.DST_LBH_PSEQ m = s.fld F.DST_LBH_PSEQ m ∧
      mget HbAcc.blank (postPeriod bands n s).dst.hb m = mget HbAcc.blank s.dst.hb m := by
  rw [postPeriod_pseq, put_fld_index _ _ _ _ (by omega) (by omega) hne, postPeriod_hb, mget_mput_other _ _ _ _ _ _ hne.symm]
  exact ⟨rfl, rfl⟩

end Period

/-- The period of a stream that ends at t is posted where the stream runs. -/
def streamPeriod (t : Nat) (ls : List StreamRun) (s : State) (n : Nat) : State :=
  if chanOn s n then postPeriod (if brings ls n then some (lowBands s ls n t) else none) n s else s

/-- The periods of all streams that run are posted. -/
def periodsPosted (t : Nat) (ls : List StreamRun) (s : State) : State := (List.range 144).foldl (streamPeriod t ls) s

section Streams

variable {t n m : Nat} {ls : List StreamRun} {s : State}

theorem streamPeriod_chanOn (m : Nat) : chanOn (streamPeriod t ls s n) m = chanOn s m := by
  unfold streamPeriod
  split
  · exact postPeriod_chanOn m
  · rfl

theorem streamPeriod_stopped (h : chanOn s n = false) : streamPeriod t ls s n = s := if_neg (by simp [h])

theorem streamPeriod_same (h : chanOn s n = true) : (streamPeriod t ls s n).fld F.DST_LBH_PSEQ n = (s.fld F.DST_LBH_PSEQ n + 1) % 2 ^ 16 ∧
    mget HbAcc.blank (streamPeriod t ls s n).dst.hb n = HbAcc.blank := by
  unfold streamPeriod
  rw [if_pos h]
  exact postPeriod_same

theorem streamPeriod_other (hm : m < 144) (hn : n < 144) (hne : n ≠ m) :
    (streamPeriod t ls s n).fld F.DST_LBH_PSEQ m = s.fld F.DST_LBH_PSEQ m ∧
      mget HbAcc.blank (streamPeriod t ls s n).dst.hb m = mget HbAcc.blank s.dst.hb m := by
  unfold streamPeriod
  split
  · exact postPeriod_other hm hn hne
  · exact ⟨rfl, rfl⟩

/-- Each running stream has its period posted once. -/
theorem periodsPosted_running (hn : n < 144) (hon : chanOn s n = true) :
    (periodsPosted t ls s).fld F.DST_LBH_PSEQ n = (s.fld F.DST_LBH_PSEQ n + 1) % 2 ^ 16 ∧
      mget HbAcc.blank (periodsPosted t ls s).dst.hb n = HbAcc.blank := by
  unfold periodsPosted
  refine foldl_once (fun u => chanOn u n = true ∧ u.fld F.DST_LBH_PSEQ n = s.fld F.DST_LBH_PSEQ n)
    (fun u => u.fld F.DST_LBH_PSEQ n = (s.fld F.DST_LBH_PSEQ n + 1) % 2 ^ 16 ∧ mget HbAcc.blank u.dst.hb n = HbAcc.blank)
    List.nodup_range (List.mem_range.2 hn) (fun u m hm hne hu => ?_) (fun u hu => ?_) (fun u m hm hne hu => ?_) ⟨hon, rfl⟩
  · obtain ⟨hseq, -⟩ := streamPeriod_other (t := t) (ls := ls) (s := u) hn (List.mem_range.1 hm) hne
    rwa [streamPeriod_chanOn, hseq]
  · obtain ⟨hon', hseq⟩ := hu
    rw [← hseq]
    exact streamPeriod_same hon'
  · obtain ⟨hseq, hhb⟩ := streamPeriod_other (t := t) (ls := ls) (s := u) hn (List.mem_range.1 hm) hne
    rwa [hseq, hhb]

theorem periodsPosted_stopped (hn : n < 144) (hon : chanOn s n = false) :
    (periodsPosted t ls s).fld F.DST_LBH_PSEQ n = s.fld F.DST_LBH_PSEQ n := by
  have hkept : chanOn (periodsPosted t ls s) n = false ∧ (periodsPosted t ls s).fld F.DST_LBH_PSEQ n = s.fld F.DST_LBH_PSEQ n := by
    refine List.foldlRecOn (motive := fun u : State => chanOn u n = false ∧ u.fld F.DST_LBH_PSEQ n = s.fld F.DST_LBH_PSEQ n)
      (List.range 144) _ ⟨hon, rfl⟩ fun u hu m hm => ?_
    obtain ⟨hon', hseq⟩ := hu
    refine ⟨(streamPeriod_chanOn n).trans hon', ?_⟩
    by_cases hne : m = n
    · rw [hne, streamPeriod_stopped hon', hseq]
    · obtain ⟨hseq', -⟩ := streamPeriod_other (t := t) (ls := ls) (s := u) hn (List.mem_range.1 hm) hne
      exact hseq'.trans hseq
  obtain ⟨-, hseq⟩ := hkept
  exact hseq

/-- The next period starts at t. -/
def nextPeriod (t : Nat) (s : State) : State := { s with dst := { s.dst with perT := t, lowGap := false } }

theorem nextPeriod_fld (t : Nat) (s : State) (f : Fld) (i : Nat) : (nextPeriod t s).fld f i = s.fld f i := rfl

theorem nextPeriod_hb (t : Nat) (s : State) : (nextPeriod t s).dst.hb = s.dst.hb := rfl

/-- The periods are posted, and the next one starts at t. -/
def periodEnded (t : Nat) (ls : List StreamRun) (s : State) : State := nextPeriod t (periodsPosted t ls (reachTime t s))

theorem lowBandPeriod_between (h : t % 200000000 ≠ 0) : lowBandPeriod t ls s = s := if_neg (by simp [h])

theorem lowBandPeriod_ends (hrun : running s = true) (hoff : hbOff s = false) (hwait : windowsWait s = false)
    (h : t % 200000000 = 0) : lowBandPeriod t ls s = periodEnded t ls s := by
  unfold lowBandPeriod periodEnded nextPeriod periodsPosted
  rw [if_pos (by simp [hrun, hoff, hwait, h])]
  delta streamPeriod
  dsimp only

theorem periodEnded_shows (hn : n < 144) : (periodEnded t ls s).fld F.DST_LBH_PSEQ n =
      (if chanOn s n then (s.fld F.DST_LBH_PSEQ n + 1) % 2 ^ 16 else s.fld F.DST_LBH_PSEQ n) ∧
    (chanOn s n = true → mget HbAcc.blank (periodEnded t ls s).dst.hb n = HbAcc.blank) := by
  unfold periodEnded
  rw [nextPeriod_fld, nextPeriod_hb]
  cases hon : chanOn s n with
  | true =>
    obtain ⟨hseq, hhb⟩ := periodsPosted_running (t := t) (ls := ls) (s := reachTime t s) hn hon
    exact ⟨hseq, fun _ => hhb⟩
  | false => exact ⟨periodsPosted_stopped (t := t) (ls := ls) (s := reachTime t s) hn hon, nofun⟩

end Streams

/-! ### The obligation -/

/-- Settles O35: a mark starts or ends a dip by its own conditions, which the later tests of the mark leave alone; the oldest record is
written and its event raised; blocks count up, and each stream that runs has its period posted once. -/
theorem disturbancesAndHighBand : Obligations.DisturbancesAndHighBand := by
  refine ⟨⟨fun s g t0 us _ hagain => ?_, fun s g t0 us hrun htrk hnew hmarks hidle hen hth hlow => ?_,
      fun s g t0 us hrun htrk hnew hmarks hsome hen hvals hback => ?_, fun s g r rest hrun hqueue => ?_⟩,
    fun s b hrun hposted hhrm hdst hoff hwait => ⟨fun hon => ?_, fun hstopped => ?_⟩,
    fun s t0 ls hrun hposted hhrm hdst hoff hwait => ⟨fun hbetween => ?_, fun hend => ?_⟩⟩
  · exact congrArg Host.Outcome.next (halfMark_again hagain)
  · exact ⟨_, rfl, halfMark_starts hrun htrk hnew hmarks hidle hen hth hlow⟩
  · exact ⟨_, rfl, fun _ => halfMark_ends hrun htrk hnew hmarks hsome hen hvals hback⟩
  · refine ⟨recordWritten g r (setDst g { getDst s g with queue := rest } s), ?_, ?_, ?_, recordWritten_shows _ _ _⟩
    · exact congrArg Host.Outcome.next ((if_pos hrun).trans (recordPost_first hqueue))
    · rw [recordWritten_eq]
      rfl
    · rw [recordWritten_getDst, getDst_setDst_same]
  · refine ⟨joinBlock b.n.val (highBands s b) s, congrArg Host.Outcome.next ?_, joinBlock_counts _ _ _⟩
    rw [burstBegins_idle hrun hposted hhrm hdst, highBlock_running hrun hoff hwait hon]
  · refine congrArg Host.Outcome.next ?_
    rw [burstBegins_idle hrun hposted hhrm hdst, highBlock_stopped hstopped]
  · refine congrArg Host.Outcome.next ?_
    rw [burstBegins_idle hrun hposted hhrm hdst, lowBandPeriod_between hbetween]
  · refine ⟨periodEnded t0 ls s, congrArg Host.Outcome.next ?_, rfl, rfl, fun n hn => periodEnded_shows hn⟩
    rw [burstBegins_idle hrun hposted hhrm hdst, lowBandPeriod_ends hrun hoff hwait hend]

end Sys2Proof.Machine
end

section
/-! Reads of the calibration sets, and messages to the twin: what each leaves alone (R199, R200, R226, R251). -/

namespace Sys2Proof.Machine

/-! ### Messages to the twin (R226) -/

/-- Frames that leave on a link show in the links alone. -/
theorem sendSegments_eq (type mseq : Nat) (bs : List Nat) (s : State) :
    sendSegments type mseq bs s = { s with cvn := (sendSegments type mseq bs s).cvn } := by
  unfold sendSegments
  exact List.foldlRecOn (motive := fun u : State => u = { s with cvn := u.cvn }) _ _ rfl fun u hu x _ => by
    rw [hu]
    rfl

/-- A control message is kept with those sent, and its frames leave on the link. -/
theorem sendMsg_eq (m : TwnMsg) (s : State) : ∃ cvn mseq msgs, sendMsg m s =
    { s with cvn := cvn, twn := { s.twn with out := s.twn.out ++ [m], mseq := mseq, msgs := msgs } } := by
  unfold sendMsg tetherSend
  exact ⟨_, _, _, sendSegments_eq _ _ _ _⟩

theorem sendMsg_flds (m : TwnMsg) (s : State) : (sendMsg m s).flds = s.flds := by
  obtain ⟨_, _, _, h⟩ := sendMsg_eq m s
  rw [h]

theorem sendMsg_fld (m : TwnMsg) (s : State) (f : Fld) (i : Nat) : (sendMsg m s).fld f i = s.fld f i := by
  unfold State.fld
  rw [sendMsg_flds]

theorem sendMsg_cal (m : TwnMsg) (s : State) : (sendMsg m s).cal = s.cal := by
  obtain ⟨_, _, _, h⟩ := sendMsg_eq m s
  rw [h]

theorem sendMsg_out (m : TwnMsg) (s : State) : (sendMsg m s).twn.out = s.twn.out ++ [m] := by
  obtain ⟨_, _, _, h⟩ := sendMsg_eq m s
  rw [h]

/-! ### Reads of the sets (R200) -/

/-- The fields in which a fault of the Vault, found or injected, shows. -/
def vaultNums : List Fld :=
  [F.FLTS_INJ_GO, F.FLTS_CNT_TRANS, F.FLTS_ST_TRANSL, F.FLTS_SPARES_VLTUSED, F.FLTS_CNT_PERM] ++ faultFlds.map Prod.fst

/-- Going from r to s, sets were read: copies may have been found bad or rewritten, and faults have shown. -/
def SetsRead (r s : State) : Prop :=
  s = { r with flds := s.flds, ldg := s.ldg, flts := s.flts, twn := s.twn, cvn := s.cvn
               cal := { r.cal with sets := s.cal.sets } } ∧ WritesOnly vaultNums r s

namespace SetsRead

-- Elaborated side by side, the many short proofs below would each hold a thread, and the threads' stacks are large.
set_option Elab.async false

variable {r s t : State}

theorem refl (s : State) : SetsRead s s := ⟨rfl, .refl _ s⟩

theorem trans (hrs : SetsRead r s) (hst : SetsRead s t) : SetsRead r t := by
  obtain ⟨hs, hrs⟩ := hrs
  obtain ⟨ht, hst⟩ := hst
  exact ⟨by rw [ht, hs], hrs.trans hst⟩

theorem only (h : SetsRead r s) : WritesOnly vaultNums r s := h.2

theorem cal (h : SetsRead r s) : s.cal = { r.cal with sets := s.cal.sets } := (congrArg State.cal h.1 :)

theorem inp (h : SetsRead r s) : s.inp = r.inp := (congrArg State.inp h.1 :)

theorem rmt (h : SetsRead r s) : s.rmt = r.rmt := (congrArg State.rmt h.1 :)

theorem clk (h : SetsRead r s) : s.clk = r.clk := (congrArg State.clk h.1 :)

theorem calState (h : SetsRead r s) : calState s = calState r := h.only.fld (f := F.CAL_ST_STATE) 0

theorem sess (h : SetsRead r s) : s.cal.sess = r.cal.sess := (congrArg CalSt.sess h.cal :)

theorem sel (h : SetsRead r s) : s.cal.sel = r.cal.sel := (congrArg CalSt.sel h.cal :)

theorem commit (h : SetsRead r s) : s.cal.commit = r.cal.commit := (congrArg CalSt.commit h.cal :)

theorem jointT (h : SetsRead r s) : s.cal.jointT = r.cal.jointT := (congrArg CalSt.jointT h.cal :)

theorem ite {c : Prop} [Decidable c] (hs : SetsRead r s) (ht : SetsRead r t) : SetsRead r (if c then s else t) := by
  split
  · exact hs
  · exact ht

theorem foldl {α : Type} {g : State → α → State} (h : SetsRead r s) (as : List α)
    (hg : ∀ u a, SetsRead r u → SetsRead r (g u a)) : SetsRead r (as.foldl g s) :=
  List.foldlRecOn as g h fun u hu a _ => hg u a hu

theorem after_shows (h : SetsRead r s) (hst : Shows vaultNums s t) : SetsRead r t := by
  obtain ⟨ht, hst⟩ := hst
  exact h.trans ⟨by rw [ht], hst⟩

theorem put {g : Fld} {i v : Nat} (h : SetsRead r s) (hg : g ∈ vaultNums := by decide) : SetsRead r (s.put g i v) :=
  h.after_shows ((Shows.refl _ s).put hg)

theorem after_raise {e d : Nat} (h : SetsRead r s) (he : e < 128 := by decide) : SetsRead r (raise e d s) :=
  h.after_shows ((Shows.refl _ s).after_raise he)

/-- A change of what fault supervision, the pair and the links remember. -/
theorem elsewhere {flts : FltsSt} {twn : TwnSt} {cvn : CvnSt} (h : SetsRead r s) :
    SetsRead r { s with flts := flts, twn := twn, cvn := cvn } := h.trans ⟨rfl, .refl _ s⟩

theorem after_putCopies {i : Nat} {c : CalCopies} (h : SetsRead r s) : SetsRead r (putCopies i c s) := h.trans ⟨rfl, .refl _ s⟩

theorem after_sendMsg {m : TwnMsg} (h : SetsRead r s) : SetsRead r (sendMsg m s) := by
  obtain ⟨_, _, _, heq⟩ := sendMsg_eq m s
  rw [heq]
  exact h.elsewhere

theorem after_evalDState (h : SetsRead r s) : SetsRead r (evalDState s) := by
  unfold evalDState
  exact (h.put.elsewhere.put.after_raise.elsewhere.after_sendMsg.ite h.put.elsewhere.put.after_raise).ite h.put

theorem after_ruleDouble {fs : List FaultRec} {inOne : Bool} (h : SetsRead r s) : SetsRead r (ruleDouble fs inOne s) := by
  unfold ruleDouble makeFailed
  exact h.elsewhere.put.put.after_raise.elsewhere.after_evalDState.ite h.elsewhere.put.put.after_raise

theorem after_openWindow {f : FaultRec} (h : SetsRead r s) : SetsRead r (openWindow f s) := by
  unfold openWindow
  refine h.elsewhere.after_ruleDouble.ite ?_
  dsimp only
  split
  · exact h.elsewhere.put.put.put.after_ruleDouble
  · exact h.elsewhere.put.put.put

theorem after_latent {scrub : Bool} {cls unit : Nat} (h : SetsRead r s) : SetsRead r (latent scrub cls unit s) :=
  h.put.after_raise.ite h

theorem after_noteFault {cls kind unit detail : Nat} {inj scrub : Bool} (h : SetsRead r s) :
    SetsRead r (noteFault cls kind unit detail inj scrub s) := by
  unfold noteFault State.setBit
  exact h.put.put.put.put.put.put.put.put

theorem after_permanent {cls unit detail : Nat} {spare scrub : Bool} {chan : Option Nat} (h : SetsRead r s) :
    SetsRead r (permanent cls unit detail spare scrub chan s) := by
  unfold permanent State.inc State.addSat
  extract_lets s1 s2
  have h2 : SetsRead r s2 := h.put.after_noteFault.put.after_raise.after_latent
  exact (h2.after_openWindow.ite h2).after_evalDState

theorem after_retireBlock {b : Nat} {scrub : Bool} (h : SetsRead r s) : SetsRead r (retireBlock b scrub s) := by
  unfold retireBlock State.inc State.addSat
  exact after_permanent (h.elsewhere.ite (h.elsewhere.ite h.elsewhere.put))

end SetsRead

theorem latent_shows {r s : State} (scrub : Bool) (cls unit : Nat) (h : Shows vaultNums r s) :
    Shows vaultNums r (latent scrub cls unit s) := h.put.after_raise.ite h

/-- A transient shows in the fields of a fault, and as an event. -/
theorem transient_shows (cls unit detail : Nat) (inj scrub : Bool) (s : State) :
    Shows vaultNums s (transient cls unit detail inj scrub s) := by
  have hnote : Shows vaultNums s (noteFault cls 0 unit detail inj scrub (s.inc F.FLTS_CNT_TRANS cls)) := by
    unfold noteFault State.inc State.addSat State.setBit
    exact (Shows.refl _ s).put.put.put.put.put.put.put.put.put
  exact latent_shows scrub cls unit hnote.put.after_raise

theorem takeFails_reads (fs : List SetFail) (s : State) : SetsRead s (takeFails fs s) := by
  have hreread : ∀ (u : State) (x : VaultRec), SetsRead s u → SetsRead s (vaultReread x u) :=
    fun u x hu => hu.after_shows (transient_shows _ _ _ _ _ u)
  unfold takeFails takeFail setRetry
  refine SetsRead.foldl (SetsRead.foldl (.refl s) _ fun u f hu => ?_) _ fun u f hu => ?_
  · exact hu.after_putCopies.ite (hu.after_putCopies.ite (hreread u _ hu))
  · exact hu.ite (hu.after_retireBlock.ite (hreread u _ hu))

/-- Reading every set once leaves the pair alone: a transient is no notice to the twin. -/
theorem touchSets_reads (s : State) : SetsRead s (touchSets s) ∧ (touchSets s).twn = s.twn := by
  have hvault : SetsRead s (vaultRead (.calSet 0 false 0) s) ∧ (vaultRead (.calSet 0 false 0) s).twn = s.twn := by
    unfold vaultRead takeInjection
    split
    next =>
      have hshows := transient_shows 4 0 (vaultBlock (.calSet 0 false 0)) true false
        ({ s with flts := { s.flts with inj := none } }.put F.FLTS_INJ_GO 0 0)
      exact ⟨(SetsRead.refl s).elsewhere.put.after_shows hshows, hshows.twn⟩
    next => exact ⟨.refl s, rfl⟩
  unfold touchSets touchSet
  refine List.foldlRecOn (motive := fun u : State => SetsRead s u ∧ u.twn = s.twn) _ _ hvault fun u hu i _ => ?_
  obtain ⟨hreads, htwn⟩ := hu
  dsimp only
  split
  next =>
    refine ⟨(hreads.ite hreads.after_putCopies).after_raise, (raise_twn _ _ _).trans ?_⟩
    split <;> exact htwn
  next => exact ⟨hreads, htwn⟩

/-- Reads that failed, and then every set read once. -/
theorem setsTaken_reads (fs : List SetFail) (s : State) : SetsRead s (touchSets (takeFails fs s)) :=
  (takeFails_reads fs s).trans (touchSets_reads _).1

end Sys2Proof.Machine
end

section
/-! O49: requests of TWN_CTL, the twin's control messages, and its digests (R215, R221, R222, R225, R229, R230, R232, R234). -/

namespace Sys2Proof.Machine

/-! ### Requests (R221, R222, R229, R230) -/

theorem twnSwap_refused {s : State} (h : tst s ≠ 6 ∨ anyDispute s = true ∨ anyWarm s = true ∨ peerWarm s = true) :
    twnSwap s = s.put F.TWN_CTL_REJ 0 1 := if_pos h

/-- The exchange of roles is asked for: it waits for the next exchange instant. -/
def swapAsked (s : State) : State := { s with twn := { s.twn with swapReq := true } }.put F.TWN_CTL_REJ 0 0

/-- The end of the pair is asked for: it waits for the next exchange instant. -/
def detachAsked (s : State) : State := { s with twn := { s.twn with detReq := true } }.put F.TWN_CTL_REJ 0 0

/-- SOLO is left: sets are exchanged from the first on. -/
def attachAsked (s : State) : State :=
  { s with twn := { s.twn with noCheck := false, sets := 0, acked := false } }.put F.TWN_CTL_REJ 0 0

/-- Fields written once other units have changed what they remember. -/
theorem Writes_from_flds {l : List (Fld × Nat × Nat)} {s t u : State} (hflds : u.flds = s.flds) (h : Writes l u t) :
    Writes l s t := by
  unfold Writes State.fld at *
  rw [← hflds]
  exact h

theorem Writes_put_of_flds {s u : State} (f : Fld) (i v : Nat) (hflds : u.flds = s.flds) (hv : v < 2 ^ f.len) :
    Writes [(f, i, v)] s (u.put f i v) := Writes_from_flds hflds (Writes_put u f i v hv)

theorem swapAsked_writes (s : State) : Writes [(F.TWN_CTL_REJ, 0, 0)] s (swapAsked s) :=
  Writes_put_of_flds _ _ _ rfl (by decide)

theorem detachAsked_writes (s : State) : Writes [(F.TWN_CTL_REJ, 0, 0)] s (detachAsked s) :=
  Writes_put_of_flds _ _ _ rfl (by decide)

theorem twnSwap_accepted {s : State} (hpair : tst s = 6) (hdispute : anyDispute s = false) (hwarm : anyWarm s = false)
    (hpeer : peerWarm s = false) : twnSwap s = sendMsg .swap (swapAsked s) :=
  if_neg (by simp [hpair, hdispute, hwarm, hpeer])

theorem twnDetach_paired {s : State} (hpair : tst s = 6) : twnDetach s = sendMsg .detach (detachAsked s) := if_pos hpair

theorem twnAttach_solo {s : State} (hsolo : tst s = 7) : twnAttach s = seek (attachAsked s) := if_pos hsolo

/-- A message that is sent after a field was written leaves that write as it is. -/
theorem Writes_sendMsg {s t : State} {l : List (Fld × Nat × Nat)} (h : Writes l s t) (m : TwnMsg) : Writes l s (sendMsg m t) :=
  Writes_of_flds h (sendMsg_flds m t)

theorem attachAsked_writes (s : State) :
    Writes [(F.TWN_CTL_REJ, 0, 0), (F.TWN_ST_STATE, 0, 1)] s (seek (attachAsked s)) :=
  Writes_of_flds (t := (attachAsked s).put F.TWN_ST_STATE 0 1)
    (Writes_snoc (Writes_put_of_flds _ _ _ rfl (by decide)) (by decide)) rfl

/-- A request without a privileged session is not heard. -/
theorem request_unprivileged {s : State} (hpriv : privileged s = false) (t : State) :
    Host.Outcome.next (if mainOn s && privileged s then t else s) = (.next s : Res) :=
  congrArg Host.Outcome.next (if_neg (by simp [hpriv]))

/-! ### Control messages (R215, R225, R232) -/

section Received

variable {s : State} (hpair : tst s = 6)
include hpair

theorem controlReceive_commit (sel pass : List Nat) (t : Nat) :
    controlReceive (.commit sel pass t) s = peerCommit sel pass t (takeWhole 2 s) := if_neg (not_not.2 hpair)

theorem controlReceive_failed : controlReceive .failed s =
    { takeWhole 2 s with
      flds := fput s.flds F.TWN_ST_PEERFAIL 0 1
      twn := { (takeWhole 2 s).twn with swapReq := s.twn.swapReq || !s.twn.lead } } := by
  refine (if_neg (not_not.2 hpair)).trans ?_
  show (if s.twn.lead = true then (takeWhole 2 s).put F.TWN_ST_PEERFAIL 0 1 else _) = _
  cases hlead : s.twn.lead with
  | true =>
    rw [if_pos rfl, Bool.not_true, Bool.or_false]
    rfl
  | false =>
    rw [if_neg (by decide), Bool.not_false, Bool.or_true]
    rfl

end Received

/-- REJ and CONFLICT show a conflict, and the session stays as it is. -/
theorem commitConflict_writes (s : State) :
    Writes [(F.CAL_ST_REJ, 0, 1), (F.CAL_ST_CONFLICT, 0, 1)] s (commitConflict s) :=
  Writes_snoc (Writes_put_of_flds _ _ _ rfl (by decide)) (by decide)

theorem beginCommit_writes (i : Nat) (s : State) :
    Writes [(F.CAL_ST_STATE, 0, 9), (F.CAL_ST_REJ, 0, 0)] s (beginCommit i s) :=
  Writes_snoc (Writes_put_of_flds _ _ _ rfl (by decide)) (by decide)

/-- The answer to a COMMIT that does not agree with this device. -/
def commitDenied (s : State) : State := sendMsg (.commitAck false) (commitConflict s)

/-- The instant of a joint commit is agreed on. -/
def agreedFrom (t : Nat) (s : State) : State := { s with cal := { s.cal with jointT := jointFrom t s } }

/-- The answer to a COMMIT that agrees with this device, which commits too. -/
def commitAgreed (i t : Nat) (s : State) : State := sendMsg (.commitAck true) (beginCommit i (agreedFrom t s))

theorem peerCommit_disagrees {s : State} {sel pass : List Nat} {t : Nat} (h : calState s ≠ 7 ∨ s.cal.sel ≠ sel) :
    peerCommit sel pass t s = commitDenied (touchSets s) := by
  obtain ⟨hreads, -⟩ := touchSets_reads s
  rw [← hreads.calState, ← hreads.sel] at h
  unfold peerCommit
  dsimp only
  split
  next => rfl
  next x _ =>
    refine if_neg fun hagree => ?_
    obtain ⟨hstate, hsel, -⟩ := hagree
    exact h.elim (fun hne => hne hstate) fun hne => hne hsel

theorem peerCommit_agrees {s : State} {x : Sess} {i t : Nat} (hsess : s.cal.sess = some x) (hstate : calState s = 7)
    (hset : commitSet (touchSets s) x = some i) :
    peerCommit s.cal.sel (x.cands.map (·.1)) t s = commitAgreed i t (touchSets s) := by
  obtain ⟨hreads, -⟩ := touchSets_reads s
  rw [← hreads.sess] at hsess
  rw [← hreads.calState] at hstate
  have hsel := hreads.sel
  unfold peerCommit commitAgreed agreedFrom
  generalize touchSets s = u at *
  dsimp only
  rw [hsess]
  dsimp only
  rw [if_pos ⟨hstate, hsel, rfl⟩, hset]

theorem commitDenied_spec (s : State) : (commitDenied s).bit F.CAL_ST_CONFLICT = true ∧ (commitDenied s).bit F.CAL_ST_REJ = true ∧
    (commitDenied s).fld F.CAL_ST_STATE = s.fld F.CAL_ST_STATE ∧ (commitDenied s).cal.commit = s.cal.commit ∧
    (commitDenied s).twn.out = s.twn.out ++ [.commitAck false] := by
  have hwrites := Writes_sendMsg (commitConflict_writes s) (.commitAck false)
  unfold commitDenied
  rw [sendMsg_cal, sendMsg_out]
  exact ⟨bit_of_fld_one (Writes_fld hwrites (by simp)), bit_of_fld_one (Writes_fld hwrites (by simp)),
    Spares_fld_field (Spares_of_Writes hwrites) 0, rfl, rfl⟩

theorem commitAgreed_spec (i t : Nat) (s : State) : (commitAgreed i t s).fld F.CAL_ST_STATE = 9 ∧
    (commitAgreed i t s).cal.commit = some i ∧ (commitAgreed i t s).cal.jointT = jointFrom t s ∧
    (commitAgreed i t s).twn.out = s.twn.out ++ [.commitAck true] := by
  have hwrites := Writes_sendMsg (beginCommit_writes i (agreedFrom t s)) (.commitAck true)
  unfold commitAgreed
  rw [sendMsg_cal, sendMsg_out]
  exact ⟨Writes_fld hwrites (by simp), rfl, rfl, rfl⟩

/-- The instant of a joint commit is counted from the clock and the instant already agreed on, which reading the sets keeps. -/
theorem jointFrom_touchSets (t : Nat) (s : State) : jointFrom t (touchSets s) = jointFrom t s := by
  obtain ⟨hreads, -⟩ := touchSets_reads s
  unfold jointFrom
  rw [hreads.clk, hreads.jointT]

/-- Settles O49: each request and each message has an equation; a COMMIT is compared with this device's own session, which reading
the sets leaves as it is. -/
theorem twinRequestsAndMessages : Obligations.TwinRequestsAndMessages := by
  refine ⟨fun s hon hpriv => ?_, fun s hpriv => ?_, fun s m hpair => ?_, fun s hpair => ?_, fun s hpair hdig => ?_⟩
  · have hheard := host_request hon hpriv
    refine ⟨fun hrefused => ?_, fun hpair hdispute hwarm hpeer => ?_, fun hpair => ?_, fun hsolo => ?_, fun hpair => ?_,
      fun hpair => ?_⟩
    · exact ⟨_, congrArg Host.Outcome.next ((if_pos hheard).trans (twnSwap_refused hrefused)), rfl,
        Writes_put s _ _ _ (by decide)⟩
    · refine ⟨_, congrArg Host.Outcome.next ((if_pos hheard).trans (twnSwap_accepted hpair hdispute hwarm hpeer)), ?_,
        Writes_sendMsg (swapAsked_writes s) _⟩
      obtain ⟨_, _, _, hsent⟩ := sendMsg_eq .swap (swapAsked s)
      rw [hsent]
      rfl
    · refine ⟨_, congrArg Host.Outcome.next ((if_pos hheard).trans (twnDetach_paired hpair)), ?_,
        Writes_sendMsg (detachAsked_writes s) _⟩
      obtain ⟨_, _, _, hsent⟩ := sendMsg_eq .detach (detachAsked s)
      rw [hsent]
      rfl
    · exact ⟨_, congrArg Host.Outcome.next ((if_pos hheard).trans (twnAttach_solo hsolo)), attachAsked_writes s, rfl, rfl⟩
    · exact ⟨_, congrArg Host.Outcome.next ((if_pos hheard).trans (if_pos hpair)), rfl, Writes_put s _ _ _ (by decide)⟩
    · exact ⟨_, congrArg Host.Outcome.next ((if_pos hheard).trans (if_neg hpair)), rfl,
        Writes_put_of_flds _ _ _ rfl (by decide)⟩
  · exact ⟨request_unprivileged hpriv _, request_unprivileged hpriv _, request_unprivileged hpriv _, request_unprivileged hpriv _⟩
  · exact congrArg Host.Outcome.next (if_pos hpair)
  · have hhere : ¬ tst (takeWhole 2 s) ≠ 6 := not_not.2 hpair
    refine ⟨congrArg Host.Outcome.next (if_neg hhere), congrArg Host.Outcome.next (if_neg hhere),
      fun n => congrArg Host.Outcome.next (if_neg hhere), ?_, congrArg Host.Outcome.next (if_neg hhere),
      fun sel pass t0 hdiffers => ?_, fun sel t0 x i hsess hstate hsel hset => ?_⟩
    · exact ⟨_, congrArg Host.Outcome.next (controlReceive_failed hpair), Writes_put s F.TWN_ST_PEERFAIL 0 1 (by decide), rfl⟩
    · obtain ⟨hreads, htwn⟩ := touchSets_reads (takeWhole 2 s)
      obtain ⟨hconflict, hrej, hstate, hcommit, hout⟩ := commitDenied_spec (touchSets (takeWhole 2 s))
      refine ⟨_, congrArg Host.Outcome.next ((controlReceive_commit hpair sel pass t0).trans (peerCommit_disagrees hdiffers)),
        hconflict, hrej, hstate.trans hreads.calState, hcommit.trans hreads.commit, ?_⟩
      rw [hout, htwn]
      rfl
    · obtain rfl := hsel
      obtain ⟨-, htwn⟩ := touchSets_reads (takeWhole 2 s)
      obtain ⟨hcommitting, hcommit, hjoint, hout⟩ := commitAgreed_spec i t0 (touchSets (takeWhole 2 s))
      refine ⟨_, congrArg Host.Outcome.next ((controlReceive_commit hpair _ _ t0).trans
        (peerCommit_agrees (s := takeWhole 2 s) hsess hstate hset)), hcommitting, hcommit,
        hjoint.trans (jointFrom_touchSets t0 (takeWhole 2 s)), ?_⟩
      rw [hout, htwn]
      rfl
  · exact ⟨_, congrArg Host.Outcome.next (if_pos ⟨hpair, by simp [hdig]⟩), rfl, Writes_put s _ _ _ (by decide)⟩

end Sys2Proof.Machine
end

section
/-! Requests to the controller, triggers of trim runs, and the ends of a reference session: what each changes (R17, R202, R207, R209,
R218). -/

namespace Sys2Proof.Machine

/-! ### Requests to the controller (R17) -/

theorem onCtl_on {s : State} (h : ctlOn s = true) (op : FwOp) (f : State → State) : onCtl op f s = f s := if_pos h

theorem onCtlOnce_on {s : State} (h : ctlOn s = true) (op : FwOp) (f : State → State) : onCtlOnce op f s = f s := if_pos h

theorem onCtl_waits {s : State} (hmain : mainOn s = true) (h : ctlOn s = false) (op : FwOp) (f : State → State) :
    onCtl op f s = { s with host := { s.host with waiting := s.host.waiting ++ [op] } } :=
  (if_neg (by simp [h])).trans (if_pos hmain)

theorem onCtlOnce_waits {s : State} (hmain : mainOn s = true) (h : ctlOn s = false) (op : FwOp) (f : State → State) :
    onCtlOnce op f s = { s with host := { s.host with waiting := (s.host.waiting.filter fun o => !op.same o) ++ [op] } } :=
  (if_neg (by simp [h])).trans (if_pos hmain)

/-- A command acts on the session in progress. -/
theorem onSess_of_sess {s : State} {x : Sess} (h : ctlOn s = true) (hsess : s.cal.sess = some x) (f : Sess → State → State) :
    onSess f s = f x s := by
  unfold onSess
  rw [hsess]
  exact if_pos h

theorem onSess_none {s : State} {f : Sess → State → State} (h : ∀ x, f x s = s) : onSess f s = s := by
  unfold onSess
  split
  · split
    · exact h _
    · rfl
  · rfl

/-! ### Triggers of trim runs (R202) -/

theorem trimTrigger_during {s : State} (h : s.bit F.CAL_ST_TRIMRUN = true) :
    trimTrigger s = { s with cal := { s.cal with again := true } } := if_pos h

theorem trimTrigger_between {s : State} (h : s.bit F.CAL_ST_TRIMRUN = false) : trimTrigger s = trimBegin s := if_neg (by simp [h])

theorem trimBegin_writes (s : State) : Writes [(F.CAL_ST_TRIMRUN, 0, 1)] s (trimBegin s) :=
  Writes_put_of_flds _ _ _ rfl (by decide)

/-- After a trigger a run is in progress, and no other field has changed. -/
theorem trimTrigger_shows (s : State) :
    (trimTrigger s).bit F.CAL_ST_TRIMRUN = true ∧ Spares [(F.CAL_ST_TRIMRUN, 0)] s (trimTrigger s) := by
  cases h : s.bit F.CAL_ST_TRIMRUN with
  | true =>
    rw [trimTrigger_during h]
    exact ⟨h, Spares_refl _ s⟩
  | false =>
    rw [trimTrigger_between h]
    exact ⟨bit_of_fld_one (Writes_fld (trimBegin_writes s) (by simp)), Spares_of_Writes (trimBegin_writes s)⟩

/-- A trigger notes the runs to come, and nothing of results and sets. -/
theorem trimTrigger_cal (s : State) : ∃ again failed1, (trimTrigger s).cal = { s.cal with again := again, failed1 := failed1 } := by
  cases h : s.bit F.CAL_ST_TRIMRUN with
  | true =>
    rw [trimTrigger_during h]
    exact ⟨_, _, rfl⟩
  | false =>
    rw [trimTrigger_between h]
    exact ⟨_, _, rfl⟩

/-! ### Fields of a session -/

theorem putMap_only (f : Fld) (l : List Nat) (s : State) : WritesOnly [f] s (putMap f l s) :=
  List.foldlRecOn (motive := fun u : State => WritesOnly [f] s u) _ _ (.refl _ s) fun u hu k _ =>
    hu.trans (.of_put u k _ List.mem_cons_self)

/-- The first n elements of a field are cleared. -/
theorem Writes_clear (f : Fld) (s : State) {n : Nat} (hn : n ≤ 65536) :
    Writes ((List.range n).map fun k => (f, k, 0)) s ((List.range n).foldl (fun s k => s.put f k 0) s) := by
  induction n with
  | zero => exact Writes_nil s s rfl
  | succ n ih =>
    rw [List.range_succ, List.map_append, List.foldl_append]
    refine Writes_perm (List.perm_append_singleton _ _).symm
      (Writes_cons s _ _ f n 0 (Nat.two_pow_pos _) (ih (by omega)) fun p hp => ?_)
    obtain ⟨k, hk, rfl⟩ := List.mem_map.1 hp
    have hlt := List.mem_range.1 hk
    intro hkey
    have hmod : k % 65536 = n % 65536 := (fkey_eq_iff.1 hkey).2
    omega

/-- A session that fails, before event 120: no stream has passed, and there is no REFK. -/
def sessFailed (s : State) : State :=
  ((List.range 5).foldl (fun s k => s.put F.CAL_RES_PASS k 0) (setCalState 8 s)).put F.CAL_ST_REFOK 0 0

theorem sessFail_eq (s : State) : sessFail s = raise 120 0xFFFF (sessFailed s) := rfl

theorem sessFailed_writes (s : State) :
    Writes [(F.CAL_ST_STATE, 0, 8), (F.CAL_RES_PASS, 0, 0), (F.CAL_RES_PASS, 1, 0), (F.CAL_RES_PASS, 2, 0),
      (F.CAL_RES_PASS, 3, 0), (F.CAL_RES_PASS, 4, 0), (F.CAL_ST_REFOK, 0, 0)] s (sessFailed s) :=
  Writes_snoc (Writes_append (Writes_put s F.CAL_ST_STATE 0 8 (by decide))
    (Writes_clear F.CAL_RES_PASS (setCalState 8 s) (n := 5) (by decide))) (by decide)

theorem sessFailed_eq (s : State) : sessFailed s = { s with flds := (sessFailed s).flds } := rfl

/-! ### The end of a session (R207, R211) -/

theorem serveForce_cal (b : Nat) (s : State) : (serveForce b s).cal = s.cal := by
  unfold serveForce refuseForce startSlot setSlot
  dsimp only
  split
  · split
    · rfl
    · split
      · split
        · exact setSp_cal _ _ _
        · rfl
      · rfl
  · rfl

theorem refinDrop_cal (s : State) : (refinDrop s).cal = s.cal := by
  unfold refinDrop
  split
  · rw [serveForce_cal, setSp_cal]
  · rfl

/-- The results of a session are discarded. -/
def sessDropped (s : State) : State := { s with cal := { s.cal with sess := none, sel := [], commit := none } }

theorem sessEnd_cal (s : State) : (sessEnd s).cal = { s.cal with sess := none, sel := [], commit := none } :=
  refinDrop_cal (sessDropped s)

theorem sessEnd_state (s : State) : (sessEnd s).fld F.CAL_ST_STATE = 0 := put_fld_same (refinDrop (sessDropped s)) _ _ _

/-- Where no spare measures REFIN, the end of a session shows in STATE alone. -/
theorem sessEnd_writes {s : State} (hrefin : refinBusy s = none) : Writes [(F.CAL_ST_STATE, 0, 0)] s (sessEnd s) := by
  have hdrop : refinDrop (sessDropped s) = sessDropped s := by
    unfold refinDrop
    rw [show refinBusy (sessDropped s) = none from hrefin]
  have hend : sessEnd s = setCalState 0 (sessDropped s) := congrArg (setCalState 0) hdrop
  rw [hend]
  exact Writes_put_of_flds _ _ _ rfl (by decide)

end Sys2Proof.Machine
end

section
/-! O47: the result of a reference session, COMMIT, ABORT, ERASE and the time-out (R20, R207, R212 to R216, R218). -/

namespace Sys2Proof.Machine

/-! ### RESULT (R212, R213) -/

/-- Does a session pass (R213)? -/
def sessPasses (s : State) (x : Sess) : Bool :=
  (sessAlive s x).any (chanPasses s x (refkResult s x)) && !x.lost && (!x.refen || (refkResult s x).isSome)
    && decide (|dieTemp s - x.temp| ≤ 100)

theorem filter_bne_nil {α : Type} [DecidableEq α] (p : α → Bool) (l : List α) : (l.filter p != []) = l.any p := by
  rw [Bool.eq_iff_iff]
  simp [List.filter_eq_nil_iff]

/-- What RESULT shows at its end: where the session goes, and the streams that passed. -/
theorem resultShown (k : Nat) (ps : List Nat) {b : Bool} {v w : State} (hk : k < 16)
    (hw : w.flds = (v.setBit F.CAL_ST_REFOK 0 b).flds) :
    (putMap F.CAL_RES_PASS ps (setCalState k w)).bit F.CAL_ST_REFOK = b ∧
      (putMap F.CAL_RES_PASS ps (setCalState k w)).fld F.CAL_ST_STATE = k := by
  have hmap := putMap_only F.CAL_RES_PASS ps (setCalState k w)
  rw [hmap.bit 0, hmap.fld 0]
  refine ⟨(put_bit_field _ _ _ _ _ _ (by decide)).trans ?_, (put_fld_same _ _ _ _).trans (Nat.mod_eq_of_lt hk)⟩
  unfold State.bit State.fld
  rw [hw]
  exact setBit_bit_same v _ 0 _ rfl

/-- A session leaves RESULT with event 120, PASSED or FAILED, and shows whether it has a new REFK. -/
theorem calResult_spec {s : State} (fs : List SetFail) (x : Sess) (hstate : calState s = 6) :
    ∃ u, calResult fs x s = raise 120 0xFFFF u ∧
      u.bit F.CAL_ST_REFOK = (refkResult (touchSets (takeFails fs s)) x).isSome ∧
      u.fld F.CAL_ST_STATE = if sessPasses (touchSets (takeFails fs s)) x then 7 else 8 := by
  unfold calResult
  rw [if_pos hstate]
  generalize touchSets (takeFails fs s) = v
  extract_lets u k pass ok s1
  have hok : ok = sessPasses v x := congrArg (· && _ && _ && _) (filter_bne_nil _ _)
  split
  next hpass =>
    rw [← hok, if_pos hpass]
    exact ⟨_, rfl, resultShown 7 pass (by decide) rfl⟩
  next hfail =>
    rw [← hok, if_neg hfail]
    exact ⟨_, rfl, resultShown 8 _ (by decide) rfl⟩

/-! ### COMMIT (R214, R215) -/

section Commit

variable {s : State} {x : Sess} (hon : ctlOn s = true) (hpriv : privileged s = true) (hsess : s.cal.sess = some x)
include hon hpriv hsess

theorem exec_calCommit : exec .calCommit s = .next (calCommit x s) := by
  refine congrArg Host.Outcome.next ((if_pos hpriv).trans ((onCtl_on hon _ _).trans ?_))
  unfold commitRequest
  rw [if_neg (by simp [hsess]), onSess_of_sess hon hsess]

end Commit

theorem paired_touchSets (s : State) : paired (touchSets s) = paired s := by
  obtain ⟨hreads, -⟩ := touchSets_reads s
  unfold paired
  rw [hreads.only.fld 0]

theorem calCommit_refused {s : State} (x : Sess) (hstate : calState s ≠ 7) : calCommit x s = refuseCommit s := by
  obtain ⟨hreads, -⟩ := touchSets_reads s
  rw [← hreads.calState] at hstate
  unfold calCommit
  generalize touchSets s = v at *
  exact if_pos hstate

theorem refuseCommit_alone {s : State} (hpair : paired s = false) : refuseCommit s = s.put F.CAL_ST_REJ 0 1 :=
  if_neg (by simp [hpair])

theorem refuseCommit_paired {s : State} (hpair : paired s = true) :
    refuseCommit s = commitConflict (sendMsg (.commitAck false) s) := if_pos hpair

/-- A commit is offered to the twin. -/
def commitOffered (sel pass : List Nat) (t : Nat) (s : State) : State := sendMsg (.commit sel pass t) (agreedFrom t s)

theorem commitOffered_spec (sel pass : List Nat) (t : Nat) (s : State) :
    calState (commitOffered sel pass t s) = calState s ∧ (commitOffered sel pass t s).cal.jointT = jointFrom t s ∧
      (commitOffered sel pass t s).twn.out = s.twn.out ++ [.commit sel pass t] := by
  unfold commitOffered calState
  rw [sendMsg_fld, sendMsg_cal, sendMsg_out]
  exact ⟨rfl, rfl, rfl⟩

section Passed

variable {s : State} {x : Sess} {i : Nat} (hstate : calState s = 7) (hset : commitSet (touchSets s) x = some i)
include hstate hset

theorem calCommit_alone (hpair : paired s = false) : calCommit x s = beginCommit i (touchSets s) := by
  obtain ⟨hreads, -⟩ := touchSets_reads s
  rw [← hreads.calState] at hstate
  rw [← paired_touchSets] at hpair
  unfold calCommit
  generalize touchSets s = v at *
  dsimp only
  rw [if_neg (not_not.2 hstate), hset]
  exact if_neg (by simp [hpair])

/-- In a pair a commit is offered to the twin, from an instant that both agree on. -/
theorem calCommit_paired (hpair : paired s = true) : calCommit x s =
    commitOffered s.cal.sel (x.cands.map (·.1)) (s.clk.site + jointDelay) (touchSets s) := by
  obtain ⟨hreads, -⟩ := touchSets_reads s
  rw [← hreads.calState] at hstate
  rw [← paired_touchSets] at hpair
  unfold calCommit commitOffered agreedFrom
  generalize touchSets s = v at *
  rw [← hreads.sel, ← hreads.clk]
  dsimp only
  rw [if_neg (not_not.2 hstate), hset]
  exact if_pos hpair

end Passed

/-! ### The sets (R199, R200) -/

theorem showSet_cal (i : Nat) (s : State) : (showSet i s).cal = s.cal := by
  unfold showSet
  dsimp only
  split <;> rfl

/-- Both copies of a set are written, and those of no other. -/
theorem writeSet_copies (i : Nat) (c : CalSet) (s : State) :
    (copiesOf (writeSet i c s) i).a = c ∧ (copiesOf (writeSet i c s) i).b = c ∧
      ∀ j, j ≠ i → copiesOf (writeSet i c s) j = copiesOf s j := by
  unfold copiesOf writeSet
  rw [showSet_cal]
  unfold putCopies
  dsimp only
  rw [mget_mput_same]
  exact ⟨rfl, rfl, fun j hj => mget_mput_other _ _ _ _ _ _ hj⟩

theorem copiesOf_of_sets {s t : State} (h : t.cal.sets = s.cal.sets) (i : Nat) : copiesOf t i = copiesOf s i :=
  congrArg (mget CalCopies.blank · i) h

theorem trimTrigger_copies (s : State) (i : Nat) : copiesOf (trimTrigger s) i = copiesOf s i := by
  obtain ⟨_, _, hcal⟩ := trimTrigger_cal s
  exact copiesOf_of_sets (congrArg CalSt.sets hcal :) i

/-- What a commit leaves before its event and its trim run: both copies written, and no session. -/
def setCommitted (i : Nat) (x : Sess) (s : State) : State :=
  let u := writeSet i (committed s x (readSet s i)) s
  setCalState 0 { u with cal := { u.cal with commit := none, sess := none, sel := [] } }

theorem commitComplete_eq {s : State} {i : Nat} (fs : List SetFail) (x : Sess) (hcommit : s.cal.commit = some i) :
    commitComplete fs x s = trimTrigger (raise 121 i (setCommitted i x (touchSets (takeFails fs s)))) := by
  unfold commitComplete
  rw [hcommit]
  rfl

theorem setCommitted_spec (i : Nat) (x : Sess) (s : State) :
    let t := trimTrigger (raise 121 i (setCommitted i x s))
    t.cal.sess = none ∧ t.cal.commit = none ∧ t.fld F.CAL_ST_STATE = 0 ∧
      (copiesOf t i).a = committed s x (readSet s i) ∧ (copiesOf t i).b = committed s x (readSet s i) ∧
      t.bit F.CAL_ST_TRIMRUN = true ∧ ∀ j, j ≠ i → copiesOf t j = copiesOf s j := by
  obtain ⟨hrun, hspares⟩ := trimTrigger_shows (raise 121 i (setCommitted i x s))
  obtain ⟨_, _, hcal⟩ := trimTrigger_cal (raise 121 i (setCommitted i x s))
  rw [raise_cal] at hcal
  obtain ⟨ha, hb, hother⟩ := writeSet_copies i (committed s x (readSet s i)) s
  have hcopies : ∀ j, copiesOf (trimTrigger (raise 121 i (setCommitted i x s))) j =
      copiesOf (writeSet i (committed s x (readSet s i)) s) j := fun j => copiesOf_of_sets (congrArg CalSt.sets hcal :) j
  have hstate : (trimTrigger (raise 121 i (setCommitted i x s))).fld F.CAL_ST_STATE = 0 :=
    (Spares_fld_field hspares 0).trans
      ((Spares_fld_field (raise_spares 121 i _ (by decide)) 0).trans (put_fld_same _ _ _ _))
  dsimp only
  rw [hcopies i]
  exact ⟨(congrArg CalSt.sess hcal :), (congrArg CalSt.commit hcal :), hstate, ha, hb, hrun,
    fun j hj => (hcopies j).trans (hother j hj)⟩

/-! ### ERASE (R216) -/

theorem calErase_waits {s : State} {i : Nat} (hon : ctlOn s = true) (hstate : calState s = 0) (hvault : vaultFree s 4 = false) :
    calErase i s = { s with host := { s.host with waiting := s.host.waiting ++ [.calErase i] } } :=
  (if_pos (by simp [hon, hstate])).trans (if_neg (by simp [hvault]))

theorem calErase_erases {s : State} {i : Nat} (hon : ctlOn s = true) (hstate : calState s = 0) (hvault : vaultFree s 4 = true) :
    calErase i s = trimTrigger (writeSet i CalSet.empty s) := (if_pos (by simp [hon, hstate])).trans (if_pos hvault)

/-! ### The obligation -/

/-- A command of CAL_CTL in a privileged session, with the controller running. -/
theorem exec_calAbort {s : State} (hon : ctlOn s = true) (hpriv : privileged s = true) : exec .calAbort s = .next (calAbort s) :=
  congrArg Host.Outcome.next ((if_pos hpriv).trans (onCtl_on hon _ _))

theorem exec_calErase {s : State} (i : Fin 8) (hon : ctlOn s = true) (hpriv : privileged s = true) :
    exec (.calErase i) s = .next (calErase i s) :=
  congrArg Host.Outcome.next ((if_pos hpriv).trans (onCtl_on hon _ _))

theorem exec_calSessionTimeout {s : State} (hon : ctlOn s = true) : exec .calSessionTimeout s = .next (sessTimeout s) :=
  congrArg Host.Outcome.next (onCtlOnce_on hon _ _)

/-- Settles O47: each command has an equation for each state of the session; the commit and the erasure write their set alone. -/
theorem referenceSessionCommits : Obligations.ReferenceSessionCommits := by
  refine ⟨fun s x fs hon hsess hstate => ?_,
    fun s x hon hpriv hsess => ⟨fun hstate hpair => ?_, fun hstate hpair => ?_,
      fun hstate i hset => ⟨fun hpair => ?_, fun hpair => ?_⟩⟩,
    fun s fs hvault => ?_, fun s x i fs hon hvault hsess hcommit => ?_,
    fun s hon hpriv => ⟨fun hstate => ?_, fun hstate => ?_⟩,
    fun s i hon hpriv => ⟨fun hstate => ?_, fun hstate hvault => ?_, fun hstate hvault => ?_⟩,
    fun s hpriv => ⟨?_, ?_, fun i => ?_⟩, fun s hon => ⟨fun hstate => ?_, fun hstate => ?_⟩⟩
  · obtain ⟨u, heq, hrefok, hst⟩ := calResult_spec fs x hstate
    exact ⟨u, congrArg Host.Outcome.next ((onSess_of_sess hon hsess _).trans heq), hrefok, hst⟩
  · rw [exec_calCommit hon hpriv hsess, calCommit_refused x hstate, refuseCommit_alone hpair]
    exact ⟨_, rfl, rfl, Writes_put s _ _ _ (by decide)⟩
  · rw [exec_calCommit hon hpriv hsess, calCommit_refused x hstate, refuseCommit_paired hpair]
    refine ⟨_, rfl, ?_, ?_⟩
    · obtain ⟨_, _, _, hsent⟩ := sendMsg_eq (.commitAck false) s
      rw [hsent]
      rfl
    · exact Writes_from_flds (sendMsg_flds _ s) (commitConflict_writes _)
  · rw [exec_calCommit hon hpriv hsess, calCommit_alone hstate hset hpair]
    have hwrites := beginCommit_writes i (touchSets s)
    exact ⟨_, rfl, rfl, Writes_fld hwrites (by simp), Writes_fld hwrites (by simp)⟩
  · rw [exec_calCommit hon hpriv hsess, calCommit_paired hstate hset hpair]
    obtain ⟨hreads, htwn⟩ := touchSets_reads s
    obtain ⟨hst, hjoint, hout⟩ := commitOffered_spec s.cal.sel (x.cands.map (·.1)) (s.clk.site + jointDelay) (touchSets s)
    rw [htwn] at hout
    exact ⟨_, rfl, hst.trans (hreads.calState.trans hstate), hjoint.trans (jointFrom_touchSets _ s), hout⟩
  · exact congrArg Host.Outcome.next (if_neg (by simp [hvault]))
  · refine ⟨_, congrArg Host.Outcome.next ((if_pos hvault).trans ?_), setCommitted_spec i x _⟩
    rw [onSess_of_sess hon hsess, commitComplete_eq fs x hcommit]
  · rw [exec_calAbort hon hpriv]
    exact congrArg Host.Outcome.next (if_neg (by simp [calState, hstate]))
  · have habort : calAbort s = sessEnd s := if_pos (by simp [hon, calState, hstate])
    rw [exec_calAbort hon hpriv, habort]
    have hcal := sessEnd_cal s
    exact ⟨_, rfl, sessEnd_state s, (congrArg CalSt.sess hcal :), sessEnd_writes, (congrArg CalSt.sets hcal :),
      (congrArg CalSt.trace hcal :)⟩
  · rw [exec_calErase i hon hpriv]
    exact congrArg Host.Outcome.next (if_neg (by simp [calState, hstate]))
  · rw [exec_calErase i hon hpriv, calErase_waits hon hstate hvault]
  · rw [exec_calErase i hon hpriv, calErase_erases hon hstate hvault]
    obtain ⟨ha, hb, hother⟩ := writeSet_copies i CalSet.empty s
    obtain ⟨hrun, -⟩ := trimTrigger_shows (writeSet i CalSet.empty s)
    refine ⟨_, rfl, ?_, ?_, hrun, fun j hj => (trimTrigger_copies _ j).trans (hother j hj)⟩
    · rw [trimTrigger_copies, ha]
    · rw [trimTrigger_copies, hb]
  · exact congrArg Host.Outcome.next (if_neg (by simp [hpriv]))
  · exact congrArg Host.Outcome.next (if_neg (by simp [hpriv]))
  · exact congrArg Host.Outcome.next (if_neg (by simp [hpriv]))
  · have htimeout : sessTimeout s = sessFail s := if_pos hstate
    rw [exec_calSessionTimeout hon, htimeout]
    exact ⟨_, rfl, Writes_fld (sessFailed_writes s) (by simp), rfl⟩
  · have hwaits : ¬ (calState s = 2 ∨ calState s = 4) := by
      unfold calState
      omega
    have htimeout : sessTimeout s = sessEnd s := (if_neg hwaits).trans (if_pos hstate)
    rw [exec_calSessionTimeout hon, htimeout]
    exact ⟨_, rfl, sessEnd_state s, (congrArg CalSt.sess (sessEnd_cal s) :), sessEnd_writes⟩

end Sys2Proof.Machine
end

section
/-! O46: a reference session from START to its result: CHECK, the waits, the windows, and the REFIN measurement (R17, R207 to R211). -/

namespace Sys2Proof.Machine

/-! ### START and CHECK (R207, R208) -/

theorem exec_calStart {s : State} (hon : ctlOn s = true) (hpriv : privileged s = true) : exec .calStart s = .next (calStart s) :=
  congrArg Host.Outcome.next ((if_pos hpriv).trans (onCtl_on hon _ _))

theorem calStart_refused {s : State} (hon : ctlOn s = true) (h : startRefused s = true) : calStart s = s.put F.CAL_ST_REJ 0 1 :=
  (if_neg (by simp [hon])).trans (if_pos h)

/-- A session has begun, with the settings of its registers. -/
def sessStarted (s : State) : State :=
  { s with cal := { s.cal with sess := some (newSess s), sel := calSelected s, spoiled := [], commit := none } }

theorem calStart_accepted {s : State} (hon : ctlOn s = true) (h : startRefused s = false) :
    calStart s = ((setCalState 1 (sessStarted s)).put F.CAL_ST_REJ 0 0).put F.CAL_ST_CONFLICT 0 0 :=
  (if_neg (by simp [hon])).trans (if_neg (by simp [h]))

theorem sessStarted_writes (s : State) :
    Writes [(F.CAL_ST_STATE, 0, 1), (F.CAL_ST_REJ, 0, 0), (F.CAL_ST_CONFLICT, 0, 0)] s
      (((setCalState 1 (sessStarted s)).put F.CAL_ST_REJ 0 0).put F.CAL_ST_CONFLICT 0 0) :=
  Writes_from_flds (u := sessStarted s) rfl
    (Writes_snoc (Writes_snoc (Writes_put _ F.CAL_ST_STATE 0 1 (by decide)) (by decide)) (by decide))

theorem setCalState_writes {s u : State} (hflds : u.flds = s.flds) {k : Nat} (hk : k < 16) :
    Writes [(F.CAL_ST_STATE, 0, k)] s (setCalState k u) := Writes_put_of_flds _ _ _ hflds hk

theorem checkComplete_alive {s : State} {x : Sess} (hstate : calState s = 1) (h : sessAlive s x ≠ []) :
    checkComplete x s = setCalState (if x.dc then 2 else 4) s := (if_pos hstate).trans (if_neg h)

theorem checkComplete_failed {s : State} {x : Sess} (hstate : calState s = 1) (h : sessAlive s x = []) :
    checkComplete x s = sessFail s := (if_pos hstate).trans (if_pos h)

/-! ### STEP and the REFIN measurement (R207, R211) -/

theorem exec_calStep {s : State} {x : Sess} (hon : ctlOn s = true) (hpriv : privileged s = true) (hsess : s.cal.sess = some x) :
    exec .calStep s = .next (calStep x s) :=
  congrArg Host.Outcome.next ((if_pos hpriv).trans ((onCtl_on hon _ _).trans (onSess_of_sess hon hsess _)))

theorem calStep_zeroWait {s : State} (x : Sess) (hstate : calState s = 2) :
    calStep x s = setCalState 3 (setSess (beginWindows x s) { s with cal := { s.cal with spoiled := [] } }) := if_pos hstate

theorem calStep_applyWait {s : State} (x : Sess) (hstate : calState s = 4) :
    calStep x s = refinStart (setCalState 5 (setSess { x with windows := false, again := false } s)) :=
  (if_neg (by simp [hstate])).trans (if_pos hstate)

/-- In MEAS, before its windows, a session that is not lost stays as it is given. -/
theorem sessAdvance_settling {s : State} {x : Sess} (hstate : calState s = 5) (hlost : x.lost = false) (hwin : x.windows = false) :
    sessAdvance x s = setSess x s := by
  unfold sessAdvance
  rw [if_neg (by simp [hstate]), if_pos hstate, if_neg (by simp [hlost, hwin])]

/-- What a spare does for REFIN leaves its target as it is. -/
theorem setSp_refin (sp : Nat) (r : Option RefinPh) (s : State) :
    setSp sp { getSp s sp with refin := r } s = withSpare sp { getSp s sp with refin := r } s := setSp_of_target rfl

/-- The start of the REFIN measurement changes nothing of a session that settles but where that measurement stands. -/
theorem refinStart_settling {s : State} {x : Sess} (hsess : s.cal.sess = some x) (hlost : x.lost = false)
    (hwin : x.windows = false) : ∃ r, (refinStart s).cal.sess = some { x with refin := r } ∧ (x.refin ≠ .waiting → r = x.refin) ∧
      (refinStart s).flds = s.flds := by
  unfold refinStart
  rw [hsess]
  dsimp only
  split
  next hwaits =>
    obtain ⟨hrefin, hstate, -⟩ := hwaits
    have hother : ∀ r, x.refin ≠ .waiting → r = x.refin := fun r hne => absurd hrefin hne
    split
    · rw [sessAdvance_settling (x := { x with refin := .failed }) hstate hlost hwin]
      exact ⟨_, rfl, hother _, rfl⟩
    · split
      · exact ⟨_, hsess, hother _, rfl⟩
      · rw [setSp_refin]
        exact ⟨_, hsess, hother _, rfl⟩
  next => exact ⟨_, hsess, fun _ => rfl, rfl⟩

/-! ### Windows (R210) -/

/-- A window goes to one channel's record, and reads no other. -/
theorem winChan_other (x : Sess) (zero : Bool) (bad spoiled : List Nat) (refk : Nat → Rat) (m : SMap SessChan) (w : CalWindow)
    {n : Nat} (hn : n ≠ w.n) :
    mget SessChan.blank (winChan x zero bad spoiled refk m w) n = mget SessChan.blank m n := mget_mput_other _ _ _ _ _ _ hn

section Windows

variable {x : Sess} {zero : Bool} {bad spoiled : List Nat} {refk : Nat → Rat}

theorem winChan_fold_other {ws : List CalWindow} (m : SMap SessChan) {n : Nat} (hn : ∀ w ∈ ws, n ≠ w.n) :
    mget SessChan.blank (ws.foldl (winChan x zero bad spoiled refk) m) n = mget SessChan.blank m n :=
  List.foldlRecOn (motive := fun u => mget SessChan.blank u n = mget SessChan.blank m n) _ _ rfl fun u hu w hw =>
    (winChan_other _ _ _ _ _ u w (hn w hw)).trans hu

/-- A window with sound status that the channel still needs is added to its measurements. -/
theorem winChan_adds {m : SMap SessChan} {w : CalWindow} (hfail : (mget SessChan.blank m w.n).fail = false)
    (hlen : (mget SessChan.blank m w.n).meas.length < x.rpt) (hbad : w.n ∉ bad) (hspoiled : w.n ∉ spoiled) :
    (mget SessChan.blank (winChan x false bad spoiled refk m w) w.n).meas =
      (mget SessChan.blank m w.n).meas ++ [⟨w.v, w.ph, w.frac, refk w.n⟩] := by
  unfold winChan
  rw [mget_mput_same]
  simp [hfail, Nat.not_le.2 hlen, hbad, hspoiled]

/-- Of windows of different channels each adds to its own. -/
theorem winChan_fold_adds {ws : List CalWindow} (hnodup : (ws.map CalWindow.n).Nodup) {m : SMap SessChan} {w : CalWindow}
    (hw : w ∈ ws) (hfail : (mget SessChan.blank m w.n).fail = false) (hlen : (mget SessChan.blank m w.n).meas.length < x.rpt)
    (hbad : w.n ∉ bad) (hspoiled : w.n ∉ spoiled) :
    (mget SessChan.blank (ws.foldl (winChan x false bad spoiled refk) m) w.n).meas =
      (mget SessChan.blank m w.n).meas ++ [⟨w.v, w.ph, w.frac, refk w.n⟩] := by
  induction ws generalizing m with
  | nil => cases hw
  | cons a ws ih =>
    rw [List.map_cons, List.nodup_cons] at hnodup
    obtain ⟨ha, hrest⟩ := hnodup
    rw [List.foldl_cons]
    rcases List.mem_cons.1 hw with rfl | hw
    · rw [winChan_fold_other (n := w.n) _ fun v hv hne => ha (hne ▸ List.mem_map_of_mem hv)]
      exact winChan_adds hfail hlen hbad hspoiled
    · have hne : w.n ≠ a.n := fun heq => ha (heq ▸ List.mem_map_of_mem hw)
      have hkept := winChan_other x false bad spoiled refk m a hne
      rw [← hkept] at hfail hlen ⊢
      exact ih hrest hw hfail hlen

end Windows

/-- The windows that end now on the selected channels. -/
def windowsNow (s : State) (rs : List ChanRun) (x : Sess) (t : Nat) : List CalWindow :=
  s.cal.sel.map (calWindow s rs x t s.clk.site)

theorem windowsNow_chans (s : State) (rs : List ChanRun) (x : Sess) (t : Nat) :
    (windowsNow s rs x t).map CalWindow.n = s.cal.sel := by
  unfold windowsNow
  rw [List.map_map]
  exact List.map_id _

/-- A session whose window has ended and is kept: its frequency, and a value of each channel (R210). -/
def windowKept (s : State) (rs : List ChanRun) (x : Sess) (t : Nat) : Sess :=
  { x with
    winT := some s.clk.site, cyc := 0, unlk := false, again := false
    freqs := x.freqs ++ [rdiv (x.ncyc * 1000000000) (s.clk.site - t : Nat)]
    chans := (windowsNow s rs x t).foldl
      (winChan x false (s.cal.sel.filter (winBad s t)) s.cal.spoiled fun n => (traceOf s n).refk) x.chans }

/-- No splice has fallen in the window that begins. -/
def unspoiled (s : State) : State := { s with cal := { s.cal with spoiled := [] } }

section WindowEnd

variable {s : State} {x : Sess} {t : Nat} (rs : List ChanRun) (hon : ctlOn s = true) (hsess : s.cal.sess = some x)
  (hstate : calState s = 5) (hwin : x.windows = true) (hwinT : x.winT = some t)
include hon hsess hwinT

theorem exec_calWindowEnd : exec (.calWindowEnd rs) s = .next (windowEnd (windowsNow s rs x t) x s) := by
  refine congrArg Host.Outcome.next ((onSess_of_sess hon hsess _).trans ?_)
  unfold sessWindow
  rw [hwinT]
  rfl

theorem windowEnd_waits (hover : winOver s x t = false) : exec (.calWindowEnd rs) s = .next s := by
  rw [exec_calWindowEnd rs hon hsess hwinT]
  unfold windowEnd
  rw [hwinT]
  exact congrArg Host.Outcome.next (if_neg (by simp [hover]))

include hstate hwin

/-- Without lock the window is repeated for every channel, once. -/
theorem windowEnd_repeats (hover : winOver s x t = true) (hdc : x.dc = false) (hunlk : x.unlk = true) (hagain : x.again = false) :
    exec (.calWindowEnd rs) s =
      .next (setSess { x with winT := some s.clk.site, cyc := 0, unlk := false, again := true } (unspoiled s)) := by
  rw [exec_calWindowEnd rs hon hsess hwinT]
  unfold windowEnd
  rw [hwinT]
  refine congrArg Host.Outcome.next ((if_pos ⟨.inr hstate, hwin, hover⟩).trans ?_)
  rw [if_pos (by simp [hdc, hunlk]), if_neg (by simp [hagain])]
  rfl

theorem windowEnd_kept (hover : winOver s x t = true) (hlocked : x.dc = true ∨ x.unlk = false) :
    exec (.calWindowEnd rs) s = .next (sessAdvance (windowKept s rs x t) (unspoiled s)) := by
  have hzero : decide (calState s = 3) = false := by simp [hstate]
  have hsel : (windowsNow s rs x t).filter (fun w => s.cal.sel.contains w.n) = windowsNow s rs x t := by
    refine List.filter_eq_self.2 fun w hw => ?_
    obtain ⟨n, hn, rfl⟩ := List.mem_map.1 hw
    exact List.contains_iff_mem.2 hn
  rw [exec_calWindowEnd rs hon hsess hwinT]
  unfold windowEnd
  rw [hwinT]
  refine congrArg Host.Outcome.next ((if_pos ⟨.inr hstate, hwin, hover⟩).trans ?_)
  rw [if_neg (by rcases hlocked with h | h <;> simp [h])]
  dsimp only
  rw [hsel, windowsNow_chans, hzero]
  rfl

end WindowEnd

/-- In MEAS, with its windows running, a session goes to RESULT when every part is complete, or when it is lost. -/
theorem sessAdvance_measuring {s : State} {x : Sess} (hstate : calState s = 5) (hwin : x.windows = true) :
    (sessAdvance x s).cal = { s.cal with sess := some x } ∧ (sessAdvance x s).fld F.CAL_ST_STATE =
      if x.lost || (windowsDone (sessAdvance x s) x false && refinDone x) then 6 else 5 := by
  have hdone : windowsDone (sessAdvance x s) x false = windowsDone (setSess x s) x false := by
    unfold sessAdvance
    rw [if_neg (by simp [hstate]), if_pos hstate]
    split <;> rfl
  rw [hdone]
  unfold sessAdvance
  rw [if_neg (by simp [hstate]), if_pos hstate, hwin, Bool.true_and]
  split
  · exact ⟨rfl, put_fld_same _ _ _ _⟩
  · exact ⟨rfl, hstate⟩

theorem windowKept_adds {s : State} {rs : List ChanRun} {x : Sess} {t n : Nat} (hnodup : s.cal.sel.Nodup) (hn : n ∈ s.cal.sel)
    (hbad : winBad s t n = false) (hspoiled : n ∉ s.cal.spoiled) (hfail : (mget SessChan.blank x.chans n).fail = false)
    (hlen : (mget SessChan.blank x.chans n).meas.length < x.rpt) :
    let w := calWindow s rs x t s.clk.site n
    (mget SessChan.blank (windowKept s rs x t).chans n).meas =
      (mget SessChan.blank x.chans n).meas ++ [⟨w.v, w.ph, w.frac, (traceOf s n).refk⟩] := by
  have hw : calWindow s rs x t s.clk.site n ∈ windowsNow s rs x t := List.mem_map_of_mem hn
  exact winChan_fold_adds (w := calWindow s rs x t s.clk.site n) (windowsNow_chans s rs x t ▸ hnodup) hw hfail hlen
    (by simp [List.mem_filter, show (calWindow s rs x t s.clk.site n).n = n from rfl, hbad]) hspoiled

/-! ### The REFIN measurement is complete (R211) -/

theorem startRoutine_cal (sp k : Nat) (s : State) : (startRoutine sp k s).cal = s.cal := by
  unfold startRoutine startSlot setSlot
  split
  · split
    · exact setSp_cal _ _ _
    · rfl
  · rfl

theorem serveLive_cal (b : Nat) (s : State) : (serveLive b s).cal = s.cal := by
  unfold serveLive startLive
  split
  · rfl
  · split
    · exact setSp_cal _ _ _
    · rfl

theorem lift_cal (s : State) (f : Fld) (i : Nat) : (s.lift f i).cal = s.cal := by rw [lift_eq]

theorem serveResp_cal (b : Nat) (s : State) : (serveResp b s).cal = s.cal := by
  unfold serveResp
  split
  · rfl
  · split
    · exact (setSp_cal _ _ _).trans (lift_cal _ _ _)
    · rfl

theorem resume_cal (sp : Nat) (s : State) : (resume sp s).cal = s.cal := by
  unfold resume skipSlot setSlot
  dsimp only
  split
  · rfl
  · split
    · rw [raise_cal, inc_cal, setSp_cal]
    · split <;> rw [setSp_cal, setSp_cal]

/-- With no REFIN measurement waited for, none starts. -/
theorem refinStart_idle {s : State} (h : ∀ x, s.cal.sess = some x → x.refin ≠ .waiting) : refinStart s = s := by
  unfold refinStart
  split
  next x hsess => exact if_neg fun hwaits => h x hsess hwaits.1
  next => rfl

/-- The work that a spare takes leaves a session alone that waits for no REFIN measurement. -/
theorem nextWork_cal (sp : Nat) {s : State} (h : ∀ x, s.cal.sess = some x → x.refin ≠ .waiting) : (nextWork sp s).cal = s.cal := by
  have htake : (takeWork sp s).cal = s.cal := by
    unfold takeWork
    extract_lets b s1 s2 s3
    have h1 : s1.cal = s.cal := (serveResp_cal _ _).trans (serveLive_cal _ _)
    have h2 : s2.cal = s.cal := by
      unfold s2
      split
      · exact (resume_cal _ _).trans h1
      · exact h1
    have h3 : s3.cal = s.cal := by
      unfold s3
      rw [serveForce_cal, refinStart_idle (by rw [h2]; exact h)]
      exact h2
    split
    · split
      · rw [startRoutine_cal, setSp_cal]
        exact h3
      · exact h3
    · exact h3
  unfold nextWork watchFree
  dsimp only
  split
  · exact htake
  · split
    · rw [raise_cal]
      exact htake
    · exact htake

theorem sessAdvance_sess {s : State} (x : Sess) (hstate : calState s ≠ 3) : (sessAdvance x s).cal.sess = some x := by
  unfold sessAdvance
  rw [if_neg hstate]
  split
  · split <;> rfl
  · rfl

theorem refinMeasured_sess {s : State} {x : Sess} {sp : Nat} (vm spread : Rat) (hstate : calState s = 5)
    (hrefin : x.refin = .waiting) (hbusy : refinBusy s = some sp) (hwork : (getSp s sp).refin = some .measure) :
    (refinMeasured vm spread x s).cal.sess = some { x with refin := .measured vm spread } := by
  unfold refinMeasured
  rw [hbusy]
  dsimp only
  rw [if_pos ⟨hstate, hrefin, hwork⟩, setSp_refin]
  have hne : calState (withSpare sp { getSp s sp with refin := none } s) ≠ 3 := by
    show calState s ≠ 3
    omega
  have hsess := sessAdvance_sess { x with refin := .measured vm spread } hne
  rw [nextWork_cal sp fun y hy => ?_]
  · exact hsess
  · obtain rfl : _ = y := Option.some.inj (hsess.symm.trans hy)
    exact nofun

/-! ### The obligation -/

/-- Settles O46: each command has an equation in the state of the session in which it acts; a window that is kept adds to each channel
that it is sound for. -/
theorem referenceSessionMeasures : Obligations.ReferenceSessionMeasures := by
  refine ⟨fun s hon hpriv => ⟨fun hrefused => ?_, fun haccepted => ?_⟩, fun s hpriv => ⟨?_, ?_⟩,
    fun s x hon hsess hstate => ⟨fun halive => ?_, fun hnone => ?_⟩,
    fun s x hon hpriv hsess => ⟨fun hstate => ?_, fun hstate hlost => ?_⟩, fun s x hon hsess hstate => ?_,
    fun s x rs t0 hon hsess hstate hwin hwinT => ⟨fun hover => ?_, fun hover hdc hunlk hagain => ?_, fun hover hlocked => ?_⟩,
    fun s vm spread hidle => ?_, fun s x vm spread sp hon hsess hstate hrefin hbusy hwork => ?_⟩
  · rw [exec_calStart hon hpriv, calStart_refused hon hrefused]
    exact ⟨_, rfl, rfl, Writes_put s _ _ _ (by decide)⟩
  · rw [exec_calStart hon hpriv, calStart_accepted hon haccepted]
    exact ⟨_, rfl, sessStarted_writes s, rfl, rfl, rfl⟩
  · exact congrArg Host.Outcome.next (if_neg (by simp [hpriv]))
  · exact congrArg Host.Outcome.next (if_neg (by simp [hpriv]))
  · refine ⟨_, congrArg Host.Outcome.next ((onSess_of_sess hon hsess _).trans (checkComplete_alive hstate halive)), rfl,
      setCalState_writes rfl ?_⟩
    split <;> decide
  · exact ⟨_, congrArg Host.Outcome.next ((onSess_of_sess hon hsess _).trans (checkComplete_failed hstate hnone)),
      sessFailed_eq s, sessFailed_writes s⟩
  · rw [exec_calStep hon hpriv hsess, calStep_zeroWait x hstate]
    exact ⟨_, rfl, setCalState_writes rfl (by decide), rfl, rfl⟩
  · rw [exec_calStep hon hpriv hsess, calStep_applyWait x hstate]
    obtain ⟨r, hsettling, hrefin, hflds⟩ := refinStart_settling
      (s := setCalState 5 (setSess { x with windows := false, again := false } s)) rfl hlost rfl
    exact ⟨_, _, rfl, Writes_of_flds (setCalState_writes rfl (by decide)) hflds, hsettling, rfl, hrefin⟩
  · exact ⟨_, congrArg Host.Outcome.next ((onSess_of_sess hon hsess _).trans (if_pos hstate)), rfl, rfl, rfl⟩
  · exact windowEnd_waits rs hon hsess hwinT hover
  · exact ⟨_, windowEnd_repeats rs hon hsess hstate hwin hwinT hover hdc hunlk hagain, rfl, rfl⟩
  · obtain ⟨hcal, hst⟩ := sessAdvance_measuring (s := unspoiled s) (x := windowKept s rs x t0) hstate hwin
    exact ⟨_, windowKept s rs x t0, windowEnd_kept rs hon hsess hstate hwin hwinT hover hlocked, (congrArg CalSt.sess hcal :),
      rfl, rfl, rfl, (congrArg CalSt.spoiled hcal :), hst,
      fun hnodup n hn hbad hspoiled hfail hlen => windowKept_adds hnodup hn hbad hspoiled hfail hlen⟩
  · refine congrArg Host.Outcome.next (onSess_none fun x => ?_)
    unfold refinMeasured
    rw [hidle]
  · exact ⟨_, congrArg Host.Outcome.next (onSess_of_sess hon hsess _), refinMeasured_sess vm spread hstate hrefin hbusy hwork⟩

end Sys2Proof.Machine
end

section
/-! O45: trim runs: their triggers, what an attempt leaves, and results as they come into force (R21, R71, R200, R202 to R206, R451). -/

namespace Sys2Proof.Machine

/-! ### Attempts that end (R200, R203) -/

theorem chanOn_of_inp {s t : State} (h : t.inp = s.inp) (n : Nat) : chanOn t n = chanOn s n := by
  unfold chanOn
  rw [h]

theorem raiseIf_spares (b : Bool) (e d : Nat) (s : State) (he : e < 128 := by decide) : Spares evtFlds s (raiseIf b e d s) :=
  Spares_ite (raise_spares e d s he) (Spares_refl _ s)

theorem raiseIf_cal (b : Bool) (e d : Nat) (s : State) : (raiseIf b e d s).cal = s.cal := by
  unfold raiseIf
  split
  · exact raise_cal _ _ _
  · rfl

/-- The bits of a signed value are those it was read from. -/
theorem signed_emod (n v : Nat) : signed n v % 2 ^ n = ((v % 2 ^ n : Nat) : Int) := by
  have hcast : ((2 ^ n : Nat) : Int) = 2 ^ n := by push_cast; rfl
  have hmod : ((v % 2 ^ n : Nat) : Int) % 2 ^ n = ((v % 2 ^ n : Nat) : Int) := by
    rw [← hcast, ← Int.natCast_emod, Nat.mod_mod]
  unfold signed
  dsimp only
  split
  · exact hmod
  · rw [Int.sub_emod_right, hmod]

/-- A signed field copied to another of its length. -/
theorem putI_sfld_fld (s : State) {u : State} {f g : Fld} (i j : Nat) (hlen : f.len = g.len) :
    (u.putI f i (s.sfld g j)).fld f i = s.fld g j := by
  have hlt := fld_lt s g j
  unfold State.putI State.sfld
  rw [put_fld_same, hlen, signed_emod, Int.toNat_natCast, Nat.mod_mod, Nat.mod_eq_of_lt hlt]

theorem trimBit_put_zero (s : State) : (s.put F.CAL_ST_TRIMRUN 0 0).bit F.CAL_ST_TRIMRUN = false := by
  unfold State.bit
  rw [put_fld_same]
  rfl

/-- A run is over: it was the last of those asked for, until a queued one starts. -/
def runOver (s : State) : State :=
  trimOver ({ s with cal := { s.cal with failed1 := false, powerUp := false, again := false, anyRun := true } }.put
    F.CAL_ST_TRIMRUN 0 0)

theorem trimNext_eq (s : State) : trimNext s = if s.cal.again then trimTrigger (runOver s) else runOver s := rfl

/-- The end of a run shows in TRIMRUN alone, which stays where a further run is queued. -/
theorem trimNext_shows (s : State) :
    (trimNext s).bit F.CAL_ST_TRIMRUN = s.cal.again ∧ Spares [(F.CAL_ST_TRIMRUN, 0)] s (trimNext s) := by
  have hover : Spares [(F.CAL_ST_TRIMRUN, 0)] s (runOver s) := fun f i hk => Spares_put s F.CAL_ST_TRIMRUN 0 0 f i hk
  obtain ⟨hrun, hspares⟩ := trimTrigger_shows (runOver s)
  rw [trimNext_eq]
  cases s.cal.again with
  | true => exact ⟨hrun, Spares_trans hover hspares⟩
  | false => exact ⟨trimBit_put_zero _, hover⟩

theorem trimNext_cal (s : State) : ∃ again failed1, (trimNext s).cal =
    { s.cal with failed1 := failed1, powerUp := false, again := again, anyRun := true } := by
  rw [trimNext_eq]
  split
  · obtain ⟨again, failed1, hcal⟩ := trimTrigger_cal (runOver s)
    exact ⟨again, failed1, hcal⟩
  · exact ⟨false, false, rfl⟩

/-! ### A run that passes -/

/-- Results that wait, one for each of these channels. -/
def putResults (rs : List (Nat × Trace)) (m : SMap (Option Trace)) : SMap (Option Trace) :=
  rs.foldl (fun m (p : Nat × Trace) => mput none m p.1 (some p.2)) m

theorem mget_putResults (f : Nat → Trace) (ns : List Nat) (m : SMap (Option Trace)) (n : Nat) :
    mget none (putResults (ns.map fun n => (n, f n)) m) n = if n ∈ ns then some (f n) else mget none m n := by
  induction ns generalizing m with
  | nil => rfl
  | cons a ns ih =>
    refine (ih _).trans ?_
    by_cases hn : n = a
    · subst hn
      simp
    · simp [hn, mget_mput_other _ _ _ _ _ _ hn]

/-- The results of a passing run wait for their channels' boundaries. -/
def resultsWait (s : State) : State :=
  { s with cal := { s.cal with
    pend := putResults ((enabledChans s).map fun n => (n, trimOf s n)) s.cal.pend
    pendNew := putResults ((liveChanges s).map fun q => (q.chan, traceAt s q.chan q.range q.sensor (dieTemp s))) s.cal.pendNew
    anyPass := true } }

/-- A passing run shows. -/
def runPassed (s : State) : State :=
  raiseIf s.cal.failed1 122 noDetail
    (((((resultsWait s).putI F.CAL_TEMP_TTRIM 0 (dieTemp s)).put F.CAL_ST_TRIMOK 0 1).lower F.CAL_ST_UNCAL 0).inc F.CAL_ST_RUNS)

theorem trimPass_eq {s : State} (hup : s.cal.powerUp = false) : trimPass s = trimNext (runPassed s) :=
  congrArg trimNext (if_neg (by simp [hup]))

theorem runPassed_cal (s : State) : (runPassed s).cal = (resultsWait s).cal := by
  unfold runPassed
  rw [raiseIf_cal, inc_cal, lower_eq]
  rfl

theorem runPassed_shows (s : State) : (runPassed s).bit F.CAL_ST_TRIMOK = true ∧ (runPassed s).bit F.CAL_ST_UNCAL = false ∧
    (runPassed s).fld F.CAL_ST_RUNS = min 65535 (s.fld F.CAL_ST_RUNS + 1) ∧
    (runPassed s).fld F.CAL_TEMP_TTRIM = s.fld F.CAL_TEMP_TDIE := by
  have hevt : ∀ f : Fld, (evtFlds.all fun p => p.1.id != f.id) = true → (runPassed s).fld f = _ :=
    fun f hf => Spares_fld_field (raiseIf_spares _ 122 _ _) 0 hf
  refine ⟨bit_of_fld_one ?_, ?_, ?_, ?_⟩
  · rw [hevt _ rfl]
    simp (disch := decide) only [State.inc, addSat_fld_field, lower_fld_field, put_fld_same]
    rfl
  · unfold State.bit
    rw [hevt _ rfl]
    simp (disch := decide) only [State.inc, addSat_fld_field]
    exact lower_bit_same _ _ _
  · rw [hevt _ rfl, State.inc, addSat_fld_same]
    simp (disch := decide) only [lower_fld_field, put_fld_field, State.putI]
    rfl
  · rw [hevt _ rfl]
    simp (disch := decide) only [State.inc, addSat_fld_field, lower_fld_field, put_fld_field]
    exact putI_sfld_fld s 0 0 rfl

theorem trimPass_spec {s : State} (hup : s.cal.powerUp = false) :
    (trimPass s).bit F.CAL_ST_TRIMOK = true ∧ (trimPass s).bit F.CAL_ST_UNCAL = false ∧
      (trimPass s).fld F.CAL_ST_RUNS = min 65535 (s.fld F.CAL_ST_RUNS + 1) ∧
      (trimPass s).fld F.CAL_TEMP_TTRIM = s.fld F.CAL_TEMP_TDIE ∧ (trimPass s).bit F.CAL_ST_TRIMRUN = s.cal.again ∧
      (trimPass s).cal.anyPass = true ∧
      ∀ n < 144, chanOn s n = true → mget none (trimPass s).cal.pend n = some (trimOf s n) := by
  obtain ⟨hok, huncal, hruns, httrim⟩ := runPassed_shows s
  obtain ⟨hrun, hspares⟩ := trimNext_shows (runPassed s)
  obtain ⟨_, _, hcal⟩ := trimNext_cal (runPassed s)
  rw [runPassed_cal] at hrun hcal
  have hfld : ∀ f : Fld, (([(F.CAL_ST_TRIMRUN, 0)] : List (Fld × Nat)).all fun p => p.1.id != f.id) = true →
      (trimNext (runPassed s)).fld f = (runPassed s).fld f := fun f hf => Spares_fld_field hspares 0 hf
  rw [trimPass_eq hup]
  unfold State.bit at *
  rw [hfld _ rfl, hfld _ rfl, hfld _ rfl, hfld _ rfl]
  refine ⟨hok, huncal, hruns, httrim, hrun, (congrArg CalSt.anyPass hcal :), fun n hn hon => ?_⟩
  refine (congrArg (fun c : CalSt => mget none c.pend n) hcal).trans ((mget_putResults _ _ _ _).trans (if_pos ?_))
  exact List.mem_filter.2 ⟨List.mem_range.2 hn, hon⟩

/-! ### A run that fails -/

/-- The results of a failing run's own changes are dropped: they wait for a run that passes. -/
def dropRun (m : SMap (Option Trace)) (q : LiveReq) : SMap (Option Trace) :=
  if q.trim = .running then mput none m q.chan none else m

/-- A failing run counts. -/
def runCounted (s : State) : State :=
  (({ s with cal := { s.cal with pendNew := s.rmt.bare.foldl dropRun s.cal.pendNew } }).put F.CAL_ST_TRIMOK 0 0).inc F.CAL_ST_RUNS

/-- A run that failed shows; without any run that passed TTRIM follows all the same. -/
def runFailed (s : State) : State :=
  raise 123 noDetail (if s.cal.anyPass then runCounted s else (runCounted s).putI F.CAL_TEMP_TTRIM 0 (dieTemp s))

theorem trimFail_eq {s : State} (hup : s.cal.powerUp = false) : trimFail s = trimNext (runFailed s) := by
  have hlate : ¬ s.cal.powerUp = true := by simp [hup]
  exact congrArg trimNext (if_neg hlate)

theorem runFailed_cal (s : State) : ∃ pendNew, (runFailed s).cal = { s.cal with pendNew := pendNew } := by
  unfold runFailed
  rw [raise_cal]
  split
  · exact ⟨_, rfl⟩
  · exact ⟨_, rfl⟩

theorem runCounted_shows (s : State) : (runCounted s).fld F.CAL_ST_TRIMOK = 0 ∧
    (runCounted s).fld F.CAL_ST_RUNS = min 65535 (s.fld F.CAL_ST_RUNS + 1) := by
  unfold runCounted State.inc
  constructor
  · rw [addSat_fld_field _ _ _ _ _ _ (by decide), put_fld_same]
    rfl
  · rw [addSat_fld_same, put_fld_field _ _ _ _ _ _ (by decide)]
    rfl

theorem runFailed_spares (s : State) : Spares ((F.CAL_TEMP_TTRIM, 0) :: evtFlds) (runCounted s) (runFailed s) := by
  have htemp : Spares [(F.CAL_TEMP_TTRIM, 0)] (runCounted s)
      (if s.cal.anyPass then runCounted s else (runCounted s).putI F.CAL_TEMP_TTRIM 0 (dieTemp s)) :=
    Spares_ite (Spares_refl _ _) (Spares_put _ _ _ _)
  exact Spares_trans (Spares_mono (List.cons_subset_cons _ (List.nil_subset _)) htemp)
    (Spares_mono (List.subset_cons_self _ _) (raise_spares 123 noDetail _ (by decide)))

theorem runFailed_shows (s : State) : (runFailed s).bit F.CAL_ST_TRIMOK = false ∧
    (runFailed s).fld F.CAL_ST_RUNS = min 65535 (s.fld F.CAL_ST_RUNS + 1) := by
  obtain ⟨hok, hruns⟩ := runCounted_shows s
  have hspares := runFailed_spares s
  unfold State.bit
  rw [Spares_fld_field hspares 0, Spares_fld_field hspares 0, hok]
  exact ⟨rfl, hruns⟩

theorem trimFail_spec {s : State} (hup : s.cal.powerUp = false) :
    (trimFail s).bit F.CAL_ST_TRIMOK = false ∧ (trimFail s).fld F.CAL_ST_RUNS = min 65535 (s.fld F.CAL_ST_RUNS + 1) ∧
      (trimFail s).bit F.CAL_ST_TRIMRUN = s.cal.again ∧ (trimFail s).cal.pend = s.cal.pend ∧
      (trimFail s).cal.trace = s.cal.trace := by
  obtain ⟨hok, hruns⟩ := runFailed_shows s
  obtain ⟨hrun, hspares⟩ := trimNext_shows (runFailed s)
  obtain ⟨_, _, hcal⟩ := trimNext_cal (runFailed s)
  obtain ⟨_, hfail⟩ := runFailed_cal s
  rw [hfail] at hrun hcal
  rw [trimFail_eq hup]
  unfold State.bit at *
  rw [Spares_fld_field hspares 0, Spares_fld_field hspares 0]
  exact ⟨hok, hruns, hrun, (congrArg CalSt.pend hcal :), (congrArg CalSt.trace hcal :)⟩

/-! ### An attempt -/

section Attempt

variable {s : State} (bad : Bool) (fs : List SetFail) (hon : ctlOn s = true) (hrun : s.bit F.CAL_ST_TRIMRUN = true)
include hon hrun

theorem exec_trimRunComplete : exec (.trimRunComplete bad fs) s = .next
    (if trimPasses (touchSets (takeFails fs s)) && !bad then trimPass (touchSets (takeFails fs s))
    else if (touchSets (takeFails fs s)).cal.failed1 then trimFail (touchSets (takeFails fs s))
    else { touchSets (takeFails fs s) with cal := { (touchSets (takeFails fs s)).cal with failed1 := true } }) := by
  refine congrArg Host.Outcome.next ?_
  unfold trimComplete
  rw [hon, hrun]
  exact if_pos rfl

end Attempt

/-! ### Results come into force (R205, R206) -/

/-- The taps and flags of a channel show trace values. -/
def traceShown (n : Nat) (c : Trace) (s : State) : State :=
  (((s.put F.CAL_CTAP_DTAP n (dtapOf c)).putI F.CAL_CTAP_THTAP n (thtapOf n c)).setBit F.CAL_CTAP_NOCAL n c.nocal).setBit
    F.CAL_CTAP_TOUT n c.tout

/-- Trace values are in force on a channel, and the interval is marked. -/
def traceHeld (n : Nat) (c : Trace) (s : State) : State :=
  { s.stamp F.CAL_CTAP_DTAP n with cal := { s.cal with trace := mput none s.cal.trace n (some c) } }

theorem putTrace_eq (n : Nat) (c : Trace) (s : State) : putTrace n c s =
    raiseIf (chanOn s n && c.tout && !s.bit F.CAL_CTAP_TOUT n) 126 n
      (raiseIf (chanOn s n && c.nocal && !s.bit F.CAL_CTAP_NOCAL n) 124 n (traceShown n c (traceHeld n c s))) := rfl

theorem putTrace_spares (n : Nat) (c : Trace) (s : State) :
    Spares evtFlds (traceShown n c (traceHeld n c s)) (putTrace n c s) := by
  rw [putTrace_eq]
  exact Spares_trans (raiseIf_spares _ 124 n _) (raiseIf_spares _ 126 n _)

theorem raiseIf_rest (b : Bool) (e d : Nat) (s : State) : (raiseIf b e d s).inp = s.inp ∧ (raiseIf b e d s).rmt = s.rmt := by
  unfold raiseIf
  split
  · exact ⟨raise_inp _ _ _, raise_rmt _ _ _⟩
  · exact ⟨rfl, rfl⟩

theorem putTrace_cal (n : Nat) (c : Trace) (s : State) :
    (putTrace n c s).cal = { s.cal with trace := mput none s.cal.trace n (some c) } := by
  rw [putTrace_eq, raiseIf_cal, raiseIf_cal]
  rfl

theorem putTrace_rest (n : Nat) (c : Trace) (s : State) : (putTrace n c s).inp = s.inp ∧ (putTrace n c s).rmt = s.rmt := by
  obtain ⟨hinp, hrmt⟩ := raiseIf_rest (chanOn s n && c.tout && !s.bit F.CAL_CTAP_TOUT n) 126 n
    (raiseIf (chanOn s n && c.nocal && !s.bit F.CAL_CTAP_NOCAL n) 124 n (traceShown n c (traceHeld n c s)))
  obtain ⟨hinp', hrmt'⟩ := raiseIf_rest (chanOn s n && c.nocal && !s.bit F.CAL_CTAP_NOCAL n) 124 n
    (traceShown n c (traceHeld n c s))
  exact ⟨hinp.trans hinp', hrmt.trans hrmt'⟩

theorem dtapOf_lt (c : Trace) : dtapOf c < 256 := Nat.lt_of_le_of_lt (Nat.min_le_left _ _) (by decide)

theorem traceShown_shows (n : Nat) (c : Trace) (s : State) : (traceShown n c s).fld F.CAL_CTAP_DTAP n = dtapOf c ∧
    (traceShown n c s).sfld F.CAL_CTAP_THTAP n = thtapOf n c ∧ (traceShown n c s).bit F.CAL_CTAP_NOCAL n = c.nocal ∧
    (traceShown n c s).bit F.CAL_CTAP_TOUT n = c.tout := by
  have hlow : -127 ≤ thtapOf n c := le_max_left _ _
  have hhigh : thtapOf n c ≤ 127 := max_le (by decide) (min_le_left _ _)
  unfold traceShown
  refine ⟨?_, ?_, ?_, setBit_bit_same _ _ _ _ rfl⟩
  · simp (disch := decide) only [setBit_fld_field, State.putI, put_fld_field, put_fld_same]
    exact Nat.mod_eq_of_lt (dtapOf_lt c)
  · unfold State.sfld
    rw [setBit_fld_field _ _ _ _ _ _ (by decide), setBit_fld_field _ _ _ _ _ _ (by decide)]
    exact putI_sfld_same _ _ n _ 7 rfl (by omega) (by omega)
  · exact (congrArg (· != 0) (setBit_fld_field _ _ _ _ _ _ (by decide))).trans (setBit_bit_same _ _ _ _ rfl)

theorem putTrace_shows (n : Nat) (c : Trace) (s : State) : (putTrace n c s).fld F.CAL_CTAP_DTAP n = dtapOf c ∧
    (putTrace n c s).sfld F.CAL_CTAP_THTAP n = thtapOf n c ∧ (putTrace n c s).bit F.CAL_CTAP_NOCAL n = c.nocal ∧
    (putTrace n c s).bit F.CAL_CTAP_TOUT n = c.tout := by
  have hspares := putTrace_spares n c s
  unfold State.sfld State.bit
  rw [Spares_fld_field hspares n, Spares_fld_field hspares n, Spares_fld_field hspares n, Spares_fld_field hspares n]
  exact traceShown_shows n c (traceHeld n c s)

/-- A result that waited is in force. -/
theorem applyPend_waiting {n : Nat} {s : State} {c : Trace} (h : mget none s.cal.pend n = some c) : applyPend n s =
    { putTrace n c s with cal := { (putTrace n c s).cal with
      pend := mput none (putTrace n c s).cal.pend n none
      applied := mput 0 (putTrace n c s).cal.applied n (s.clk.site + 1) } } := by
  unfold applyPend
  rw [h]

theorem applyPend_spec {n : Nat} {s : State} {c : Trace} (h : mget none s.cal.pend n = some c) :
    traceOf (applyPend n s) n = c ∧ mget none (applyPend n s).cal.pend n = none ∧
      (applyPend n s).fld F.CAL_CTAP_DTAP n = dtapOf c ∧ (applyPend n s).sfld F.CAL_CTAP_THTAP n = thtapOf n c ∧
      (applyPend n s).bit F.CAL_CTAP_NOCAL n = c.nocal ∧ (applyPend n s).bit F.CAL_CTAP_TOUT n = c.tout := by
  rw [applyPend_waiting h]
  refine ⟨?_, by dsimp only; rw [mget_mput_same], putTrace_shows n c s⟩
  unfold traceOf
  dsimp only
  rw [putTrace_cal]
  dsimp only
  rw [mget_mput_same]
  rfl

theorem applyPend_rmt {n : Nat} {s : State} {c : Trace} (h : mget none s.cal.pend n = some c) : (applyPend n s).rmt = s.rmt := by
  rw [applyPend_waiting h]
  exact (putTrace_rest n c s).2

/-! ### Changes without a splice (R71, R205, R451) -/

theorem bareApply_none {n : Nat} {s : State} (h : ∀ q ∈ s.rmt.bare, q.chan ≠ n) : bareApply n s = s := by
  have hnone : s.rmt.bare.find? (·.chan == n) = none := List.find?_eq_none.2 fun q hq => by simpa using h q hq
  unfold bareApply
  rw [hnone]

theorem bareApply_waits {n : Nat} {s : State} {q : LiveReq} (hfind : s.rmt.bare.find? (·.chan == n) = some q)
    (h : q.trim ≠ .over) : bareApply n s = s := by
  unfold bareApply
  rw [hfind]
  exact if_neg h

/-- A change without a splice has its RANGE and SENSOR in force. -/
def bareTaken (n : Nat) (q : LiveReq) (s : State) : State :=
  { s with
    rmt := { s.rmt with bare := s.rmt.bare.filter (· ≠ q) }
    inp := { s.inp with range := mput 0 s.inp.range n q.range, sensor := mput 0 s.inp.sensor n q.sensor } }

theorem bareApply_bitstream {n : Nat} {s : State} {q : LiveReq} (hn : 112 ≤ n)
    (hfind : s.rmt.bare.find? (·.chan == n) = some q) (h : q.trim = .over) :
    bareApply n s = traceAtSplice n (bareTaken n q s) := by
  unfold bareApply
  rw [hfind]
  exact (if_pos h).trans (if_neg (by omega))

theorem traceAtSplice_spec (n : Nat) (s : State) : (traceAtSplice n s).inp = s.inp ∧ (traceAtSplice n s).rmt = s.rmt ∧
    mget none (traceAtSplice n s).cal.pend n = none := by
  obtain ⟨hinp, hrmt⟩ := putTrace_rest n ((mget none s.cal.pendNew n).getD (bareTrace s n)) s
  exact ⟨hinp, hrmt, by unfold traceAtSplice; dsimp only; rw [mget_mput_same]⟩

/-! ### The obligation -/

/-- A trigger, or a privileged TRIG, with the controller running (R202). -/
theorem exec_trimTrigger {s : State} {c : Instr} (hon : ctlOn s = true)
    (hc : c = .trimRunStart ∨ (c = .calTrig ∧ privileged s = true)) : exec c s = .next (trimTrigger s) := by
  rcases hc with rfl | ⟨rfl, hpriv⟩
  · exact congrArg Host.Outcome.next (onCtlOnce_on hon _ _)
  · exact congrArg Host.Outcome.next ((if_pos hpriv).trans ((onCtl_on hon _ _).trans (if_pos hon)))

/-- Settles O45: a trigger has an equation with and without a run; an attempt is judged on the sets as read, which leaves the run's
own state alone; a result that comes into force shows in CAL_CTAP. -/
theorem trimRunsFormAndApplyResults : Obligations.TrimRunsFormAndApplyResults := by
  refine ⟨fun s c hon hc => ⟨fun hrun => ?_, fun hidle => ?_⟩, fun s hmain hoff => ⟨?_, fun hpriv => ?_⟩, fun s hpriv => ?_,
    fun s bad fs hon hrun hup => ?_, fun s n hwait => ?_, fun s n c hrun hpend hat hjoint hbare => ?_,
    fun s b q hrun hfind => ⟨fun hwait => ?_, fun hover hat => ?_⟩⟩
  · rw [exec_trimTrigger hon hc, trimTrigger_during hrun]
  · rw [exec_trimTrigger hon hc, trimTrigger_between hidle]
    exact ⟨_, rfl, trimBegin_writes s, rfl⟩
  · exact ⟨_, congrArg Host.Outcome.next (onCtlOnce_waits hmain hoff _ _), rfl, by simp⟩
  · exact congrArg Host.Outcome.next ((if_pos hpriv).trans (onCtl_waits hmain hoff _ _))
  · exact congrArg Host.Outcome.next (if_neg (by simp [hpriv]))
  · have hreads := setsTaken_reads fs s
    have hexec := exec_trimRunComplete bad fs hon hrun
    generalize touchSets (takeFails fs s) = v at *
    have hcal := hreads.cal
    have hup' : v.cal.powerUp = false := (congrArg CalSt.powerUp hcal :).trans hup
    have hagain : v.cal.again = s.cal.again := (congrArg CalSt.again hcal :)
    have hfailed1 : v.cal.failed1 = s.cal.failed1 := (congrArg CalSt.failed1 hcal :)
    refine ⟨fun hpass => ?_, fun hfail hfirst => ?_, fun hfail hsecond => ?_⟩
    · rw [hexec, if_pos hpass]
      obtain ⟨hok, huncal, hruns, httrim, hnext, hany, hpend⟩ := trimPass_spec hup'
      rw [hreads.only.fld 0] at hruns httrim
      exact ⟨_, rfl, hok, huncal, hruns, httrim, hnext.trans hagain, hany,
        fun n hn hon => hpend n hn ((chanOn_of_inp hreads.inp n).trans hon)⟩
    · rw [hexec, if_neg (by simp [hfail]), if_neg (by simp [hfailed1, hfirst])]
    · rw [hexec, if_neg (by simp [hfail]), if_pos (hfailed1.trans hsecond)]
      obtain ⟨hok, hruns, hnext, hpend, htrace⟩ := trimFail_spec hup'
      rw [hreads.only.fld 0] at hruns
      exact ⟨_, rfl, hok, hruns, hnext.trans hagain, hpend.trans (congrArg CalSt.pend hcal :),
        htrace.trans (congrArg CalSt.trace hcal :)⟩
  · refine congrArg Host.Outcome.next (if_neg ?_)
    rcases hwait with hat | hjoint
    · simp [hat]
    · simp [Nat.not_le.2 hjoint]
  · have hbare' : bareApply n (applyPend n s) = applyPend n s := bareApply_none (by rw [applyPend_rmt hpend]; exact hbare)
    have happly : trimApply n s = applyPend n s := by
      refine (if_pos (by simp [hrun, hat, hjoint])).trans ?_
      rw [hbare']
      exact ite_self _
    exact ⟨_, congrArg Host.Outcome.next happly, applyPend_spec hpend⟩
  · refine congrArg Host.Outcome.next ?_
    rcases hwait with hover | hat
    · rw [show bareApply (bStream b) s = s from bareApply_waits hfind hover]
      exact ite_self _
    · exact if_neg (by simp [show boundaryAt s (bStream b) = false from hat])
  · obtain ⟨hinp, hrmt, hpend⟩ := traceAtSplice_spec (112 + b.val) (bareTaken (112 + b.val) q s)
    refine ⟨traceAtSplice (112 + b.val) (bareTaken (112 + b.val) q s), congrArg Host.Outcome.next ?_, ?_, ?_,
      congrArg RmtSt.bare hrmt, hpend⟩
    · refine (if_pos ?_).trans (bareApply_bitstream (Nat.le_add_right 112 b.val) hfind hover)
      rw [hrun, show boundaryAt s (bStream b) = true from hat]
      rfl
    · rw [hinp]
      exact mget_mput_same _ _ _ _
    · rw [hinp]
      exact mget_mput_same _ _ _ _

end Sys2Proof.Machine
end

section
/-! O44: the settled reference, and the start of metering (R197, R204, R227, R268, R313). -/

namespace Sys2Proof.Machine

/-! ### The power state and site time -/

/-- Going from r to s, the power state and the clocks are kept. -/
def NowKept (r s : State) : Prop := s.pwr = r.pwr ∧ s.clk = r.clk

namespace NowKept

variable {r s : State}

theorem refl (s : State) : NowKept s s := ⟨rfl, rfl⟩

theorem ite {t : State} {c : Prop} [Decidable c] (hs : NowKept r s) (ht : NowKept r t) : NowKept r (if c then s else t) := by
  split
  · exact hs
  · exact ht

theorem foldl {α : Type} {g : State → α → State} (h : NowKept r s) (l : List α) (hg : ∀ u a, NowKept r u → NowKept r (g u a)) :
    NowKept r (l.foldl g s) := List.foldlRecOn l g h fun u hu a _ => hg u a hu

theorem put {g : Fld} {i v : Nat} (h : NowKept r s) : NowKept r (s.put g i v) := h

theorem after_raiseIf {b : Bool} {e d : Nat} (h : NowKept r s) : NowKept r (raiseIf b e d s) := by
  refine ite ?_ h
  unfold NowKept
  rw [raise_pwr, raise_clk]
  exact h

theorem after_setOut {c : Nat} {o : PlsOut} (h : NowKept r s) : NowKept r (setOut c o s) := h

theorem after_clearUnused {m type : Nat} (h : NowKept r s) : NowKept r (clearUnused m type s) :=
  h.foldl _ fun _ _ hu => hu.ite hu.put

theorem after_takeMeter {m : Nat} (h : NowKept r s) : NowKept r (takeMeter m s) := by
  cases hen : s.bit F.MTR_CFG_EN m with
  | true =>
    rw [takeMeter_enabled hen]
    exact after_clearUnused h
  | false =>
    rw [takeMeter_disabled hen]
    exact h

theorem after_rateCheck {c : Nat} (h : NowKept r s) : NowKept r (rateCheck c s) :=
  h.put.put.after_raiseIf.ite (h.put.ite h)

theorem after_pulsesApply {c : Nat} (h : NowKept r s) : NowKept r (pulsesApply c s) := h.after_setOut.after_rateCheck

theorem after_loadHeld (h : NowKept r s) : NowKept r (loadHeld s) :=
  foldl (s := { s with pls := { s.pls with load := [] } }) h _ fun _ _ hu => hu.after_setOut.put.ite hu

theorem after_setRole {b : Bool} (h : NowKept r s) : NowKept r (setRole b s) := h

theorem after_startJob (h : NowKept r s) : NowKept r (startJob s) := by
  unfold startJob
  split
  · exact h
  · exact h

theorem after_enterMirror {n : Nat} (h : NowKept r s) : NowKept r (enterMirror n s) := by
  unfold enterMirror pushJob
  exact ite (after_startJob h) h

theorem after_startMirrors (h : NowKept r s) : NowKept r (startMirrors s) :=
  (h.foldl _ fun _ _ hu => hu.after_enterMirror.ite hu).ite h

end NowKept

/-- Metering is marked as started, before the units take their settings. -/
def meteringMarked (s : State) : State :=
  { s with pwr := { s.pwr with metering := true, session := true, meterT := s.clk.site }, mtr := { s.mtr with lastIv := [] } }

theorem startMetering_now {s : State} (h : s.pwr.metering = false) : NowKept (meteringMarked s) (startMetering s) := by
  have hoff : ¬ s.pwr.metering = true := by simp [h]
  have hmeters := (NowKept.refl (meteringMarked s)).foldl (List.range 48) (g := fun s m => takeMeter m s)
    fun _ _ hu => hu.after_takeMeter
  have houts := (hmeters.foldl (List.range 16) (g := fun s c => pulsesApply c s) fun _ _ hu => hu.after_pulsesApply).after_loadHeld
  unfold startMetering
  rw [if_neg hoff]
  exact houts.ite (houts.after_setRole.ite houts)

/-! ### Without a trim run (R197, R313) -/

/-- A channel has the values of R197. -/
def chanQuiet (m : Nat) (s : State) : State :=
  { ((s.put F.CAL_CTAP_DTAP m 128).put F.CAL_CTAP_THTAP m 0).put F.CAL_CTAP_NOCAL m 1 with
    cal := { s.cal with trace := mput none s.cal.trace m none } }

/-- Channel n has the values of R197 in this state. -/
structure QuietAt (n : Nat) (s : State) : Prop where
  dtap : s.fld F.CAL_CTAP_DTAP n = 128
  thtap : s.fld F.CAL_CTAP_THTAP n = 0
  nocal : s.fld F.CAL_CTAP_NOCAL n = 1
  trace : mget none s.cal.trace n = none

theorem chanQuiet_same (n : Nat) (s : State) : QuietAt n (chanQuiet n s) := by
  unfold chanQuiet
  constructor
  case trace => exact mget_mput_same none s.cal.trace n none
  case nocal => exact put_fld_same _ F.CAL_CTAP_NOCAL n 1
  case thtap => exact (put_fld_field _ F.CAL_CTAP_NOCAL F.CAL_CTAP_THTAP n n 1 (by decide)).trans (put_fld_same _ _ _ _)
  case dtap =>
    refine (put_fld_field _ F.CAL_CTAP_NOCAL F.CAL_CTAP_DTAP n n 1 (by decide)).trans ?_
    exact (put_fld_field _ F.CAL_CTAP_THTAP F.CAL_CTAP_DTAP n n 0 (by decide)).trans (put_fld_same _ _ _ _)

/-- Each channel is given the same values, so those of another leave a channel that has them with them. -/
theorem QuietAt.after_chanQuiet {n : Nat} {s : State} (m : Nat) (h : QuietAt n s) : QuietAt n (chanQuiet m s) := by
  obtain ⟨hdtap, hthtap, hnocal, htrace⟩ := h
  unfold chanQuiet
  constructor
  case trace =>
    by_cases hm : n = m
    · subst hm
      exact mget_mput_same none s.cal.trace n none
    · exact (mget_mput_other none none s.cal.trace m n none hm).trans htrace
  case nocal =>
    refine put_fld_stays (f := F.CAL_CTAP_NOCAL) (v := 1) m ?_
    rw [put_fld_field _ _ _ _ _ _ (by decide), put_fld_field _ _ _ _ _ _ (by decide)]
    exact hnocal
  case thtap =>
    refine (put_fld_field _ F.CAL_CTAP_NOCAL F.CAL_CTAP_THTAP m n 1 (by decide)).trans ?_
    exact put_fld_stays (v := 0) m ((put_fld_field _ F.CAL_CTAP_DTAP F.CAL_CTAP_THTAP m n 128 (by decide)).trans hthtap)
  case dtap =>
    refine (put_fld_field _ F.CAL_CTAP_NOCAL F.CAL_CTAP_DTAP m n 1 (by decide)).trans ?_
    exact (put_fld_field _ F.CAL_CTAP_THTAP F.CAL_CTAP_DTAP m n 0 (by decide)).trans (put_fld_stays (v := 128) m hdtap)

/-- Each of these channels has the values of R197. -/
def chansQuiet (ns : List Nat) (s : State) : State := ns.foldl (fun s m => chanQuiet m s) s

theorem QuietAt.after_chansQuiet {n : Nat} {s : State} (ns : List Nat) (h : QuietAt n s) : QuietAt n (chansQuiet ns s) :=
  List.foldlRecOn ns _ h fun _ hu m _ => hu.after_chanQuiet m

theorem chansQuiet_mem {n : Nat} {ns : List Nat} (s : State) (hn : n ∈ ns) : QuietAt n (chansQuiet ns s) := by
  induction ns generalizing s with
  | nil => cases hn
  | cons m ns ih =>
    rcases List.mem_cons.1 hn with rfl | hn
    · exact (chanQuiet_same n s).after_chansQuiet ns
    · exact ih (chanQuiet m s) hn

/-- What the channels are given is neither their settings nor a flag of the unit. -/
theorem chansQuiet_rest (ns : List Nat) (s : State) :
    (chansQuiet ns s).inp = s.inp ∧ (chansQuiet ns s).fld F.CAL_ST_UNCAL = s.fld F.CAL_ST_UNCAL := by
  refine List.foldlRecOn (motive := fun u : State => u.inp = s.inp ∧ u.fld F.CAL_ST_UNCAL = s.fld F.CAL_ST_UNCAL) ns _ ⟨rfl, rfl⟩ ?_
  rintro u ⟨hinp, huncal⟩ m -
  refine ⟨hinp, Eq.trans ?_ huncal⟩
  refine (put_fld_field _ F.CAL_CTAP_NOCAL F.CAL_ST_UNCAL m 0 1 (by decide)).trans ?_
  exact (put_fld_field _ F.CAL_CTAP_THTAP _ m 0 0 (by decide)).trans (put_fld_field u F.CAL_CTAP_DTAP _ m 0 128 (by decide))

theorem uncalibrate_eq (s : State) :
    ∃ d, uncalibrate s = raise 124 d (chansQuiet (enabledChans s) (s.lift F.CAL_ST_UNCAL 0)) := by
  unfold uncalibrate
  split
  next hnone =>
    rw [hnone]
    exact ⟨_, rfl⟩
  next n ns hsome =>
    rw [hsome]
    exact ⟨_, rfl⟩

theorem QuietAt.after_raise {n e d : Nat} {s : State} (he : e < 128) (h : QuietAt n s) : QuietAt n (raise e d s) := by
  have hspares := raise_spares e d s he
  obtain ⟨hdtap, hthtap, hnocal, htrace⟩ := h
  constructor
  case dtap => rwa [Spares_fld_field hspares n]
  case thtap => rwa [Spares_fld_field hspares n]
  case nocal => rwa [Spares_fld_field hspares n]
  case trace => rwa [raise_cal]

theorem uncalibrate_spec (s : State) : (uncalibrate s).bit F.CAL_ST_UNCAL = true ∧ (uncalibrate s).inp = s.inp ∧
    ∀ n < 144, chanOn s n = true → QuietAt n (uncalibrate s) := by
  obtain ⟨d, heq⟩ := uncalibrate_eq s
  obtain ⟨hinp, huncal⟩ := chansQuiet_rest (enabledChans s) (s.lift F.CAL_ST_UNCAL 0)
  have hlift : (s.lift F.CAL_ST_UNCAL 0).fld F.CAL_ST_UNCAL = 1 := (Writes_lift s 0 rfl).1 _ List.mem_cons_self
  rw [heq]
  refine ⟨bit_of_fld_one ?_, ?_, fun n hn hon => ?_⟩
  · rw [Spares_fld_field (raise_spares 124 d _ (by decide)) 0, huncal, hlift]
  · rw [raise_inp, hinp, lift_eq]
  · exact (chansQuiet_mem _ (List.mem_filter.2 ⟨List.mem_range.2 hn, hon⟩)).after_raise (by decide)

/-- A channel without values of its own has those of R197 for its settings. -/
theorem QuietAt.traceOf_eq {n : Nat} {s t : State} (h : QuietAt n t) (hinp : t.inp = s.inp) :
    traceOf t n = Trace.none_ (mget 0 s.inp.range n) (mget 0 s.inp.sensor n) := by
  unfold traceOf
  rw [h.trace, hinp]
  rfl

/-! ### The obligation -/

theorem exec_referenceSettled {s : State} (hrun : running s = true) (hoff : s.pwr.metering = false) :
    exec .referenceSettled s = .next (referenceSettled s) := congrArg Host.Outcome.next (if_pos (by simp [hrun, hoff]))

/-- Settles O44: the settled reference is a trigger of a trim run, or gives each enabled channel the values of R197; metering starts
behind its guard, and what the units then take leaves the power state and site time alone. -/
theorem meteringStartsAfterTrim : Obligations.MeteringStartsAfterTrim := by
  refine ⟨fun s hrun hoff hctl => ?_, fun s hrun hoff hctl => ?_, fun s t0 hrun hoff hwhole ht => ⟨fun hwait => ?_, fun hready => ?_⟩,
    fun s t0 hon => ?_⟩
  · obtain ⟨htrim, hspares⟩ := trimTrigger_shows { s with cal := { s.cal with powerUp := !s.cal.upRun, upRun := true } }
    obtain ⟨_, _, hcal⟩ := trimTrigger_cal { s with cal := { s.cal with powerUp := !s.cal.upRun, upRun := true } }
    refine ⟨_, (exec_referenceSettled hrun hoff).trans (congrArg Host.Outcome.next (if_neg hctl)), htrim,
      (congrArg CalSt.powerUp hcal :), (congrArg CalSt.upRun hcal :), hspares⟩
  · obtain ⟨huncal, hinp, hquiet⟩ := uncalibrate_spec s
    refine ⟨_, (exec_referenceSettled hrun hoff).trans (congrArg Host.Outcome.next (if_pos hctl)), huncal, fun n hn hon => ?_⟩
    have hchan := hquiet n hn hon
    exact ⟨hchan.dtap, hchan.thtap, bit_of_fld_one hchan.nocal, hchan.traceOf_eq hinp⟩
  · exact congrArg Host.Outcome.next (if_neg (by simp [hwait]))
  · obtain ⟨hpwr, hclk⟩ := (startMetering_now (s := reachTime t0 s) hoff).after_startMirrors
    refine ⟨_, congrArg Host.Outcome.next (if_pos (by simp [hrun, hoff, hwhole, hready])),
      (congrArg PwrSt.metering hpwr :), (congrArg PwrSt.session hpwr :), (congrArg PwrSt.mstate hpwr :).trans (eq_of_beq hrun),
      (congrArg (fun c => c.site) hclk :).trans (reachTime_site ht)⟩
  · exact congrArg Host.Outcome.next (if_neg (by simp [hon]))

end Sys2Proof.Machine
end

section
/-! The queue of waiting commands, requests of PWR_CTL that are refused, and frames that execute nothing (R403, R408, R428). -/

namespace Sys2Proof.Machine

/-! ### The queue -/

/-- Settles O1: a step looks at the front of the queue. -/
theorem stepRunsFrontCommand : Obligations.StepRunsFrontCommand := fun _ _ _ => rfl

/-- The queue after a step is the queue without its front. -/
theorem step_pending {s t : State} (h : step s = .next t) : t.pending = s.pending.tail := by
  obtain ⟨u, hu, hpend, -⟩ := step_keeps s
  cases h.symm.trans hu
  exact hpend

/-- Settles O3: the operations of every command, and those of an idle step, leave the waiting commands alone. -/
theorem stepKeepsQueueOrder : Obligations.StepKeepsQueueOrder :=
  ⟨fun _ _ _ _ hq h => (step_pending h).trans (congrArg List.tail hq), fun _ _ hq h => (step_pending h).trans (congrArg List.tail hq)⟩

/-! ### Refused requests of PWR_CTL (R428) -/

theorem pwrRun_in_run {s : State} (h : s.pwr.mstate = .run) : pwrRun s = rejectPwr s := if_pos (.inl h)

theorem pwrStby_in_standby {s : State} (h : s.pwr.mstate = .standby) : pwrStby s = rejectPwr s := if_pos (.inl h)

theorem rejectPwr_writes (s : State) : Writes [(F.PWR_CTL_REJ, 0, 1)] s (rejectPwr s) := Writes_put s _ _ _ (by decide)

/-- Settles O16: both requests are refused by their own guard. -/
theorem powerRequestRefused : Obligations.PowerRequestRefused := by
  rintro s c hon hpriv (⟨rfl, hst⟩ | ⟨rfl, hst⟩)
  · exact ⟨_, congrArg Host.Outcome.next ((if_pos (host_request hon hpriv)).trans (pwrRun_in_run hst)), rfl, rejectPwr_writes s⟩
  · exact ⟨_, congrArg Host.Outcome.next ((if_pos (host_request hon hpriv)).trans (pwrStby_in_standby hst)), rfl, rejectPwr_writes s⟩

/-! ### Frames that execute nothing -/

section Unexecuted

variable {s : State} {f : WriteFrame} {h : Header}

theorem exec_hostWriteFrame_on (hon : mainOn s = true) : exec (.hostWriteFrame f) s = .next (hostWrite f s) :=
  congrArg Host.Outcome.next (if_pos hon)

theorem hostWrite_unaccepted (hh : header f.hdr = none) : hostWrite f s = weakFrame s := by
  simp [hostWrite, hh]

theorem hostWrite_bad (hh : header f.hdr = some h) (hbad : h.bad = true) : hostWrite f s = formatError h (hostFrame s) := by
  simp [hostWrite, hh, hbad]

/-- A whole write frame is answered by the checks of its data. -/
theorem hostWrite_whole (hh : header f.hdr = some h) (hbad : h.bad = false) (hop : h.op = 1) (hlen : 1 ≤ h.len)
    (hall : f.complete = true) (hwords : f.words.length = h.len) : hostWrite f s =
      if dataCrc f.words ≠ f.dcrc.toNat then respond [] (statusWord (hostFrame s) h 1 0 false) (hostFrame s)
      else (isDup h f.dcrc.toNat (hostFrame s)).elim (executeFrame h f (hostFrame s))
        fun d => respond [] (dupStatus (hostFrame s) d.status) (hostFrame s) := by
  have hne : h.len ≠ 0 := by omega
  have hcut : ¬ ((!f.complete) = true ∨ f.words.length ≠ h.len) := by simp [hall, hwords]
  unfold hostWrite
  rw [hh]
  dsimp only
  rw [if_neg (by simp [hbad]), if_neg hne, if_neg (by simp [hop]), if_neg hcut]
  cases isDup h f.dcrc.toNat (hostFrame s) <;> rfl

end Unexecuted

/-- The record of the frame executed last makes a frame with a tag a duplicate, where it is what would be kept of it. -/
theorem isDup_of_kept {s : State} {h : Header} {crc : Nat} {d : DupRec} (htag : h.tag ≠ 0) (hd : s.host.dup = some d)
    (hsame : d = dupOf h crc d.status) : isDup h crc s = some d := by
  unfold isDup
  rw [hd, Option.filter_some, if_pos]
  rw [bne_iff_ne.2 htag, ← hsame]
  exact beq_self_eq_true d

/-- The answer to a duplicate is the kept RESULT, with DUP set. -/
theorem dupStatus_fields (s : State) (st : Nat) : dupStatus s st / 2 ^ 28 = st / 2 ^ 28 ∧ dupStatus s st / 2 ^ 27 % 2 = 1 := by
  have hms := mstateCode_lt s
  have hev : viewReg s R.EVT_STAT 0 % 2 ^ 11 < 2 ^ 11 := Nat.mod_lt _ (by decide)
  simp only [dupStatus]
  omega

/-- Settles O10: each check that fails answers before anything is executed. -/
theorem duplicateFrameIsNotExecuted : Obligations.DuplicateFrameIsNotExecuted := by
  refine fun s f hon => ⟨fun hh => ?_, fun h hh => ⟨fun hbad => ?_, fun hbad hop hlen hall hwords hcrc => ?_,
    fun d hbad hop hlen hall hwords hcrc htag hd hsame _ => ?_⟩⟩
  · exact ⟨_, (exec_hostWriteFrame_on hon).trans (congrArg Host.Outcome.next (hostWrite_unaccepted hh)), rfl⟩
  · exact ⟨_, _, _, _, (exec_hostWriteFrame_on hon).trans (congrArg Host.Outcome.next (hostWrite_bad hh hbad)), rfl, rfl, rfl, rfl,
      statusWord_result (hostFrame s) 4 (header_tag_lt hh) (by decide)⟩
  · have hwhole := (hostWrite_whole (s := s) hh hbad hop hlen hall hwords).trans (if_pos hcrc)
    exact ⟨_, _, _, (exec_hostWriteFrame_on hon).trans (congrArg Host.Outcome.next hwhole), rfl, rfl, rfl, rfl,
      statusWord_result (hostFrame s) 1 (header_tag_lt hh) (by decide)⟩
  · have hdup := isDup_of_kept (s := hostFrame s) htag hd hsame
    have hwhole := (hostWrite_whole (s := s) hh hbad hop hlen hall hwords).trans (if_neg (not_not_intro hcrc))
    rw [hdup] at hwhole
    exact ⟨_, _, _, (exec_hostWriteFrame_on hon).trans (congrArg Host.Outcome.next hwhole), rfl, rfl, rfl, rfl,
      dupStatus_fields (hostFrame s) d.status⟩

end Sys2Proof.Machine
end

section
/-! The holdover of a site rewrites SITESYNC with the value it has (R279). -/

namespace Sys2Proof.Machine

/-- SITESYNC read with a bit more than it has. -/
def wideSiteSync : Fld := { F.CVN_SITE_SITESYNC with len := 2 }

/-- A head below the master whose SITESYNC reads 0, and is held as 2: no write stores such a value, but the statement takes every
state. -/
def headWithWideSiteSync : State :=
  { State.reset with
    flds := [(fkey F.CVN_SITE_SITESYNC 0, 2)]
    pwr := { State.reset.pwr with mstate := .run }
    cvn := { State.reset.cvn with cfg := { CvnCfg.off with en := true, siteEn := true } }
    pls := { State.reset.pls with role := true } }

/-- A head that SITESYNC reads 0 at goes to holdover by a write of HOLD, and one of the 0 in SITESYNC. -/
theorem exec_siteHoldover_unsynced {s : State} (hrun : running s = true) (hhead : isHead s = true) (hsite : s.cvn.cfg.siteEn = true)
    (hlow : s.cvn.cfg.master = false) (hsync : s.bit F.CVN_SITE_SITESYNC = false) :
    exec .siteHoldover s = .next ((s.put F.CVN_SITE_HOLD 0 1).put F.CVN_SITE_SITESYNC 0 0) := by
  have hkept : (s.put F.CVN_SITE_HOLD 0 1).bit F.CVN_SITE_SITESYNC = false :=
    (put_bit_field s F.CVN_SITE_HOLD F.CVN_SITE_SITESYNC 0 0 1 (by decide)).trans hsync
  have hset : setSiteSync false (s.put F.CVN_SITE_HOLD 0 1) = (s.put F.CVN_SITE_HOLD 0 1).put F.CVN_SITE_SITESYNC 0 0 :=
    if_neg (by simp [hkept])
  have hheld : siteHoldover s = setSiteSync false (s.put F.CVN_SITE_HOLD 0 1) := if_pos (by simp [hhead, hsite, hlow])
  exact congrArg Host.Outcome.next ((if_pos hrun).trans (hheld.trans hset))

/-- Refutes O53: its last clause asks that a head without site time changes HOLD and no other element of any field; the write of the
value that SITESYNC has drops what its place held beside that bit, which a wider field of the same number reads. -/
theorem not_siteTimeIsAdjusted : ¬ Obligations.SiteTimeIsAdjusted := by
  rintro ⟨-, -, -, -, -, -, hholdover⟩
  have hrun : running headWithWideSiteSync = true := by decide
  have hhead : isHead headWithWideSiteSync = true := by decide
  have hsync : headWithWideSiteSync.bit F.CVN_SITE_SITESYNC = false := by decide
  obtain ⟨-, hunsynced⟩ := hholdover headWithWideSiteSync hrun hhead rfl rfl
  obtain ⟨t, hexec, ⟨-, hother⟩, -⟩ := hunsynced hsync
  rw [exec_siteHoldover_unsynced hrun hhead rfl rfl hsync] at hexec
  cases hexec
  exact absurd (hother wideSiteSync 0 (by decide)) (by decide)

end Sys2Proof.Machine
end

section
/-! Transients and permanent faults: what is counted and shown, the recovery window, and what a ruling leaves alone (R248 to R256,
R258, R259). -/

namespace Sys2Proof.Machine

/-! ### Reading back what was written -/

/-- Only the bits that a field has are stored. -/
theorem put_mod (s : State) (f : Fld) (i v : Nat) : s.put f i (v % 2 ^ f.len) = s.put f i v := by
  simp [State.put, fput]

theorem inc_fld_same (s : State) (f : Fld) (i : Nat) : (s.inc f i).fld f i = min f.top (s.fld f i + 1) := addSat_fld_same s f i 1

theorem Writes_inc (s : State) (f : Fld) (i : Nat) : Writes [(f, i, min f.top (s.fld f i + 1))] s (s.inc f i) :=
  Writes_put s f i _ (Nat.lt_of_le_of_lt (Nat.min_le_left _ _) (Nat.sub_lt (Nat.two_pow_pos _) Nat.one_pos))

theorem Writes_bit {s t : State} {l : List (Fld × Nat × Nat)} (h : Writes l s t) {f : Fld} {i : Nat} (hmem : (f, i, 1) ∈ l) :
    t.bit f i = true := bit_of_fld_one (Writes_fld h hmem)

/-- Going from s to t, only register fields have changed. -/
def FldsOnly (s t : State) : Prop := t = { s with flds := t.flds }

namespace FldsOnly

variable {r s t : State}

theorem refl (s : State) : FldsOnly s s := rfl

theorem trans (hrs : FldsOnly r s) (hst : FldsOnly s t) : FldsOnly r t := by
  unfold FldsOnly at *
  rw [hst, hrs]

theorem put {f : Fld} {i v : Nat} (h : FldsOnly r s) : FldsOnly r (s.put f i v) := h.trans rfl

theorem setBit {f : Fld} {i : Nat} {b : Bool} (h : FldsOnly r s) : FldsOnly r (s.setBit f i b) := h.trans rfl

theorem inc {f : Fld} {i : Nat} (h : FldsOnly r s) : FldsOnly r (s.inc f i) := h.trans rfl

theorem foldl {α : Type} {g : State → α → State} (h : FldsOnly r s) (as : List α)
    (hg : ∀ u a, FldsOnly r u → FldsOnly r (g u a)) : FldsOnly r (as.foldl g s) :=
  List.foldlRecOn as g h fun u hu a _ => hg u a hu

theorem ite {c : Prop} [Decidable c] (hs : FldsOnly r s) (ht : FldsOnly r t) : FldsOnly r (if c then s else t) := by
  split
  · exact hs
  · exact ht

end FldsOnly

/-! ### What a ruling leaves alone (R255, R256) -/

/-- The fields that a ruling and the evaluation of DSTATE may write. -/
def rulingNums : List Fld := evtNums ++ [F.FLTS_ST_DOUBLE, F.FLTS_ST_DOUBLEL, F.FLTS_ST_DSTATE, F.FLTS_ST_FAILL]

/-- Going from r to s, no field is written but those with these numbers, and of fault supervision nothing changes but the ruling and
the latch of FAILED. -/
def RulesOnly (l : List Fld) (r s : State) : Prop :=
  s.flts = { r.flts with ruling := s.flts.ruling, failed := s.flts.failed } ∧ WritesOnly l r s

namespace RulesOnly

variable {l : List Fld} {r s t : State}

theorem refl (l : List Fld) (s : State) : RulesOnly l s s := ⟨rfl, .refl l s⟩

theorem trans (hrs : RulesOnly l r s) (hst : RulesOnly l s t) : RulesOnly l r t := by
  obtain ⟨hs, hrs⟩ := hrs
  obtain ⟨ht, hst⟩ := hst
  exact ⟨by rw [ht, hs], hrs.trans hst⟩

theorem mono {k : List Fld} (h : RulesOnly l s t) (hlk : l ⊆ k) : RulesOnly k s t := ⟨h.1, h.2.mono hlk⟩

theorem flts (h : RulesOnly l s t) : t.flts = { s.flts with ruling := t.flts.ruling, failed := t.flts.failed } := h.1

theorem only (h : RulesOnly l s t) : WritesOnly l s t := h.2

theorem wins (h : RulesOnly l s t) : t.flts.wins = s.flts.wins := (congrArg FltsSt.wins h.flts :)

theorem rowsMap (h : RulesOnly l s t) : t.flts.rowsMap = s.flts.rowsMap := (congrArg FltsSt.rowsMap h.flts :)

theorem blksMap (h : RulesOnly l s t) : t.flts.blksMap = s.flts.blksMap := (congrArg FltsSt.blksMap h.flts :)

theorem chkLost (h : RulesOnly l s t) : t.flts.chkLost = s.flts.chkLost := (congrArg FltsSt.chkLost h.flts :)

theorem pllLost (h : RulesOnly l s t) : t.flts.pllLost = s.flts.pllLost := (congrArg FltsSt.pllLost h.flts :)

theorem ite {c : Prop} [Decidable c] (hs : RulesOnly l r s) (ht : RulesOnly l r t) : RulesOnly l r (if c then s else t) := by
  split
  · exact hs
  · exact ht

theorem put {g : Fld} {i v : Nat} (h : RulesOnly l r s) (hg : g ∈ l := by decide) : RulesOnly l r (s.put g i v) :=
  h.trans ⟨rfl, .of_put s i v hg⟩

/-- A new ruling, or FAILED latched. -/
theorem withRuling {x : Option Ruling} {b : Bool} (h : RulesOnly l r s) :
    RulesOnly l r { s with flts := { s.flts with ruling := x, failed := b } } := h.trans ⟨rfl, .refl l s⟩

/-- A change of what the twin remembers. -/
theorem withTwin {x : TwnSt} (h : RulesOnly l r s) : RulesOnly l r { s with twn := x } := h

theorem of_shows (h : Shows l s t) : RulesOnly l s t := ⟨by rw [h.1], h.only⟩

theorem after_raise {e d : Nat} (h : RulesOnly l r s) (he : e < 128 := by decide) (hl : evtNums ⊆ l := by decide) :
    RulesOnly l r (raise e d s) := h.trans (of_shows ((Shows.refl l s).after_raise he hl))

theorem after_sendMsg {m : TwnMsg} (h : RulesOnly l r s) : RulesOnly l r (sendMsg m s) := by
  obtain ⟨cvn, mseq, msgs, heq⟩ := sendMsg_eq m s
  rw [heq]
  exact h

end RulesOnly

/-- FAILED is entered: it is latched and shown, with event 44. -/
def failedShown (s : State) : State :=
  raise 44 noDetail ({ s.put F.FLTS_ST_DSTATE 0 (dstate s) with flts := { s.flts with failed := true } }.put F.FLTS_ST_FAILL 0 1)

theorem evalDState_eq (s : State) : evalDState s =
    if dstate s = 2 ∧ s.fld F.FLTS_ST_DSTATE ≠ 2 then
      (if paired (failedShown s) then
        sendMsg .failed { failedShown s with twn := { (failedShown s).twn with
          swapReq := (failedShown s).twn.swapReq || (failedShown s).twn.lead } }
      else failedShown s)
    else s.put F.FLTS_ST_DSTATE 0 (dstate s) := rfl

theorem failedShown_rules (s : State) : RulesOnly rulingNums s (failedShown s) :=
  ((((RulesOnly.refl rulingNums s).put (g := F.FLTS_ST_DSTATE)).withRuling).put (g := F.FLTS_ST_FAILL)).after_raise

theorem evalDState_rules (s : State) : RulesOnly rulingNums s (evalDState s) := by
  rw [evalDState_eq]
  exact ((failedShown_rules s).withTwin.after_sendMsg.ite (failedShown_rules s)).ite ((RulesOnly.refl rulingNums s).put)

/-- A double fault is ruled on so, and event 43 raised. -/
def doubleRuled (x : Ruling) (s : State) : State :=
  raise 43 noDetail (({ s with flts := { s.flts with ruling := some x } }.put F.FLTS_ST_DOUBLE 0 1).put F.FLTS_ST_DOUBLEL 0 1)

theorem ruleDouble_eq (fs : List FaultRec) (inOne : Bool) (s : State) :
    ∃ x, ruleDouble fs inOne s = if x.kind = .masked then makeFailed (doubleRuled x s) else doubleRuled x s := ⟨_, rfl⟩

theorem makeFailed_rules (s : State) : RulesOnly rulingNums s (makeFailed s) :=
  ((RulesOnly.refl rulingNums s).withRuling).trans (evalDState_rules _)

theorem ruleDouble_rules (fs : List FaultRec) (inOne : Bool) (s : State) : RulesOnly rulingNums s (ruleDouble fs inOne s) := by
  obtain ⟨x, heq⟩ := ruleDouble_eq fs inOne s
  have hruled : RulesOnly rulingNums s (doubleRuled x s) :=
    ((((RulesOnly.refl rulingNums s).withRuling).put (g := F.FLTS_ST_DOUBLE)).put (g := F.FLTS_ST_DOUBLEL)).after_raise
  rw [heq]
  exact (hruled.trans (makeFailed_rules _)).ite hruled



/-! ### The recovery window (R256) -/

/-- A recovery window is open for this fault, and shown. -/
def windowOpened (f : FaultRec) (s : State) : State :=
  ((({ s with flts := { s.flts with wins := s.flts.wins ++ [f] } }.put F.FLTS_ST_WINDOW 0 1).put F.FLTS_WIN_CLASS1 0 f.cls).put
    F.FLTS_WIN_UNIT1 0 f.unit)

/-- A window with none open before it shows; a ruling in force rules on its fault. -/
theorem openWindow_first (f : FaultRec) {s : State} (hnone : s.flts.wins = []) :
    RulesOnly rulingNums (windowOpened f s) (openWindow f s) := by
  unfold openWindow
  dsimp only
  rw [if_neg (not_not_intro hnone)]
  cases rulingNow s with
  | none => exact .refl _ _
  | some x => exact ruleDouble_rules _ _ _

/-- The fields that a recovery window may write. -/
def windowNums : List Fld := rulingNums ++ [F.FLTS_ST_WINDOW, F.FLTS_WIN_CLASS1, F.FLTS_WIN_UNIT1]

/-- Whatever is open, the fault joins the windows. -/
theorem openWindow_joins (f : FaultRec) (s : State) :
    RulesOnly windowNums { s with flts := { s.flts with wins := s.flts.wins ++ [f] } } (openWindow f s) := by
  by_cases hnone : s.flts.wins = []
  · have hshown : RulesOnly windowNums { s with flts := { s.flts with wins := s.flts.wins ++ [f] } } (windowOpened f s) :=
      (((RulesOnly.refl _ _).put).put).put
    exact hshown.trans ((openWindow_first f hnone).mono (by decide))
  · unfold openWindow
    dsimp only
    rw [if_pos hnone]
    exact (ruleDouble_rules _ _ _).mono (by decide)

/-! ### Permanent faults (R248) -/

/-- A permanent fault is counted and shown, before its window is opened. -/
def permanentShown (cls unit detail : Nat) (spare scrub : Bool) (s : State) : State :=
  latent scrub cls unit (raise 42 (cls * 256 + unit)
    ((noteFault cls (if spare then 1 else 2) unit detail false scrub (s.inc F.FLTS_CNT_PERM cls)).put F.FLTS_ST_PERML 0 1))

section Permanent

variable (cls unit detail : Nat) (spare scrub : Bool) (chan : Option Nat) (s : State)

/-- Noting a fault shows in the registers of the latest fault alone. -/
theorem noteFault_flts (kind : Nat) (inj : Bool) : (noteFault cls kind unit detail inj scrub s).flts = s.flts := rfl

theorem noteFault_clk (kind : Nat) (inj : Bool) : (noteFault cls kind unit detail inj scrub s).clk = s.clk := rfl

theorem latent_flts : (latent scrub cls unit s).flts = s.flts := by
  cases scrub
  · rfl
  · exact raise_flts _ _ _

theorem latent_clk : (latent scrub cls unit s).clk = s.clk := by
  cases scrub
  · rfl
  · exact raise_clk _ _ _

theorem permanentShown_flts : (permanentShown cls unit detail spare scrub s).flts = s.flts :=
  (latent_flts _ _ _ _).trans (raise_flts _ _ _)

theorem permanentShown_clk : (permanentShown cls unit detail spare scrub s).clk = s.clk :=
  (latent_clk _ _ _ _).trans (raise_clk _ _ _)

theorem latent_writes_only : WritesOnly (F.FLTS_ST_LATL :: evtNums) s (latent scrub cls unit s) := by
  cases scrub
  · exact .refl _ s
  · exact ((Shows.refl _ s).put.after_raise : Shows _ s (raise 47 (cls * 256 + unit) (s.put F.FLTS_ST_LATL 0 1))).only

/-- PERML is set with the fault. -/
theorem permanentShown_perml : (permanentShown cls unit detail spare scrub s).bit F.FLTS_ST_PERML = true := by
  unfold permanentShown
  rw [(latent_writes_only _ _ _ _).bit 0, ((Shows.refl evtNums _).after_raise).only.bit 0]
  exact bit_of_fld_one (put_fld_same _ _ _ _)

theorem permanent_device (hdev : deviceClass cls = true) : permanent cls unit detail spare scrub chan s =
    evalDState (openWindow ⟨cls, unit, s.clk.site, chan⟩ (permanentShown cls unit detail spare scrub s)) :=
  congrArg evalDState (if_pos hdev)

/-- The count of a permanent fault. -/
theorem permanent_counts : (permanent cls unit detail spare scrub chan s).fld F.FLTS_CNT_PERM cls =
    min 65535 (s.fld F.FLTS_CNT_PERM cls + 1) :=
  (Spares_fld_field (FaultShown.of_permanent cls unit detail spare scrub chan s).2 cls).trans (inc_fld_same s F.FLTS_CNT_PERM cls)

/-- A permanent fault of a device class joins the windows; the rest of fault supervision is left to the ruling. -/
theorem permanent_joins (hdev : deviceClass cls = true) :
    RulesOnly windowNums { permanentShown cls unit detail spare scrub s with
      flts := { s.flts with wins := s.flts.wins ++ [⟨cls, unit, s.clk.site, chan⟩] } }
      (permanent cls unit detail spare scrub chan s) := by
  rw [permanent_device _ _ _ _ _ _ _ hdev, ← permanentShown_flts cls unit detail spare scrub s]
  exact (openWindow_joins _ _).trans ((evalDState_rules _).mono (by decide))

/-- The first permanent fault of a device class opens its window. -/
theorem permanent_opens (hdev : deviceClass cls = true) (hnone : s.flts.wins = []) :
    (permanent cls unit detail spare scrub chan s).flts.wins = [⟨cls, unit, s.clk.site, chan⟩] ∧
      (permanent cls unit detail spare scrub chan s).bit F.FLTS_ST_WINDOW = true ∧
      (permanent cls unit detail spare scrub chan s).bit F.FLTS_ST_PERML = true := by
  have hjoin := permanent_joins cls unit detail spare scrub chan s hdev
  have hopen := (openWindow_first ⟨cls, unit, s.clk.site, chan⟩ (s := permanentShown cls unit detail spare scrub s)
    (by rw [permanentShown_flts]; exact hnone)).trans (evalDState_rules _)
  refine ⟨?_, ?_, ?_⟩
  · rw [hjoin.wins]
    exact congrArg (· ++ _) hnone
  · rw [permanent_device _ _ _ _ _ _ _ hdev, hopen.only.bit 0]
    unfold windowOpened
    rw [put_bit_field _ _ _ _ _ _ (by decide), put_bit_field _ _ _ _ _ _ (by decide)]
    exact bit_of_fld_one (put_fld_same _ _ _ _)
  · rw [hjoin.only.bit 0]
    exact permanentShown_perml _ _ _ _ _ _

end Permanent

/-! ### FAILED (R255) -/

/-- A device that is made FAILED shows so. -/
theorem makeFailed_shows (s : State) : (makeFailed s).fld F.FLTS_ST_DSTATE = 2 ∧ (makeFailed s).flts.failed = true := by
  generalize hu : ({ s with flts := { s.flts with failed := true } } : State) = u
  have hlatched : u.flts.failed = true := by rw [← hu]
  have hd : dstate u = 2 := if_pos (by simp [hlatched])
  have hput : (u.put F.FLTS_ST_DSTATE 0 (dstate u)).fld F.FLTS_ST_DSTATE = 2 := by
    rw [put_fld_same, hd]
    rfl
  have hshown : (failedShown u).fld F.FLTS_ST_DSTATE = 2 ∧ (failedShown u).flts.failed = true := by
    unfold failedShown
    rw [raise_flts, ((Shows.refl evtNums _).after_raise).only.fld 0, put_fld_field _ _ _ _ _ _ (by decide)]
    exact ⟨hput, rfl⟩
  have heq : makeFailed s = evalDState u := congrArg evalDState hu
  rw [heq, evalDState_eq]
  split
  · split
    · obtain ⟨_, _, _, hsent⟩ := sendMsg_eq .failed { failedShown u with twn := { (failedShown u).twn with
        swapReq := (failedShown u).twn.swapReq || (failedShown u).twn.lead } }
      rw [hsent]
      exact hshown
    · exact hshown
  · exact ⟨hput, hlatched⟩

end Sys2Proof.Machine
end

section
/-! The faults of SRAM, Vault, metering core and PLL-M, scrubbing, self-tests and injection (R248 to R259). -/

namespace Sys2Proof.Machine

/-! ### Transients (R248) -/

/-- A transient is counted and shown, before its event. -/
def transientShown (cls unit detail : Nat) (inj scrub : Bool) (s : State) : State :=
  (noteFault cls 0 unit detail inj scrub (s.inc F.FLTS_CNT_TRANS cls)).put F.FLTS_ST_TRANSL 0 1

theorem transientShown_eq (cls unit detail : Nat) (inj scrub : Bool) (s : State) :
    FldsOnly s (transientShown cls unit detail inj scrub s) :=
  (FldsOnly.refl s).inc.put.put.setBit.setBit.put.put.put.put.put

theorem transientShown_writes {cls unit detail : Nat} (s : State) (hcls : cls < 16) (hunit : unit < 256) (hdet : detail < 65536) :
    Writes [(F.FLTS_CNT_TRANS, cls, min 65535 (s.fld F.FLTS_CNT_TRANS cls + 1)), (F.FLTS_LAST_CLASS, 0, cls),
      (F.FLTS_LAST_KIND, 0, 0), (F.FLTS_LAST_INJ, 0, 0), (F.FLTS_LAST_SCRUB, 0, 0), (F.FLTS_LAST_UNIT, 0, unit),
      (F.FLTS_LAST_DETAIL, 0, detail), (F.FLTS_LTIME_LO_LTIME_LO, 0, s.clk.site % 2 ^ 32),
      (F.FLTS_LTIME_HI_LTIME_HI, 0, s.clk.site / 2 ^ 32 % 2 ^ 32), (F.FLTS_ST_TRANSL, 0, 1)] s
      (transientShown cls unit detail false false s) := by
  have hcount := Writes_inc s F.FLTS_CNT_TRANS cls
  have hclass := Writes_snoc (f := F.FLTS_LAST_CLASS) (i := 0) (v := cls) hcount hcls
  have hinj := Writes_snoc (f := F.FLTS_LAST_INJ) (i := 0) (v := 0)
    (Writes_snoc (f := F.FLTS_LAST_KIND) (i := 0) (v := 0) hclass (by decide)) (by decide)
  have hunit' := Writes_snoc (f := F.FLTS_LAST_UNIT) (i := 0) (v := unit)
    (Writes_snoc (f := F.FLTS_LAST_SCRUB) (i := 0) (v := 0) hinj (by decide)) hunit
  have hdet' := Writes_snoc (f := F.FLTS_LAST_DETAIL) (i := 0) (v := detail) hunit' hdet
  have hlow := Writes_snoc (f := F.FLTS_LTIME_LO_LTIME_LO) (i := 0) hdet' (Nat.mod_lt s.clk.site (Nat.two_pow_pos 32))
  have hhigh := Writes_snoc (f := F.FLTS_LTIME_HI_LTIME_HI) (i := 0) hlow (Nat.mod_lt (s.clk.site / 2 ^ 32) (Nat.two_pow_pos 32))
  rw [show 2 ^ 32 = 2 ^ F.FLTS_LTIME_HI_LTIME_HI.len from rfl, put_mod,
    show 2 ^ F.FLTS_LTIME_HI_LTIME_HI.len = 2 ^ F.FLTS_LTIME_LO_LTIME_LO.len from rfl, put_mod] at hhigh
  exact Writes_snoc (f := F.FLTS_ST_TRANSL) (i := 0) (v := 1) hhigh (by decide)

theorem takeInjection_none {tgt unit : Nat} {s : State} (h : s.flts.inj ≠ some (tgt, unit)) : takeInjection tgt unit s = (false, s) :=
  if_neg h

/-! ### SRAM (R250) -/

section Sram

variable {bank row : Nat} {scrub : Bool} {s : State}

theorem sramError_passes (d : SramData) (hchk : checkOff s 3 bank = false) (hinj : s.flts.inj ≠ some (3, bank)) :
    sramError bank row d true scrub s = transient 3 bank row false scrub (sramLost d s) := by
  unfold sramError
  rw [if_neg (by simp [hchk]), takeInjection_none hinj]
  rfl

theorem sramError_fails (d : SramData) (hchk : checkOff s 3 bank = false) (hinj : s.flts.inj ≠ some (3, bank)) :
    sramError bank row d false scrub s = sramRetire bank row d scrub (sramLost d s) := by
  unfold sramError
  rw [if_neg (by simp [hchk]), takeInjection_none hinj]
  rfl

/-- Data that are lost leave the repairs, the windows and the time as they are, and of the registers RESTL alone may change. -/
theorem sramLost_leaves (d : SramData) (s : State) : (sramLost d s).flts.rowsMap = s.flts.rowsMap ∧
    (sramLost d s).flts.wins = s.flts.wins ∧ (sramLost d s).clk = s.clk ∧ WritesOnly [F.FLTS_ST_RESTL] s (sramLost d s) := by
  unfold sramLost
  cases d with
  | retained m => exact ⟨rfl, rfl, rfl, .refl _ _⟩
  | results => exact ⟨rfl, rfl, rfl, .refl _ _⟩
  | queue p l sent => cases sent <;> exact ⟨rfl, rfl, rfl, .refl _ _⟩
  | capture => exact ⟨rfl, rfl, rfl, .refl _ _⟩
  | program =>
    dsimp only
    split
    · exact ⟨rfl, rfl, rfl, .of_put { s with ctl := .restarting } 0 1 (by decide)⟩
    · exact ⟨rfl, rfl, rfl, .refl _ _⟩

/-- A row is replaced by a spare row of its bank. -/
def rowReplaced (bank row : Nat) (s : State) : State :=
  { s with flts := { s.flts with rowsMap := s.flts.rowsMap ++ [514 * bank + row] } }.inc F.FLTS_SPARES_SRAMUSED

theorem sramRetire_spare (d : SramData) (hspare : (s.flts.rowsMap.filter fun x => x / 514 = bank).length < 2) :
    sramRetire bank row d scrub s = permanent 3 bank row true scrub none (rowReplaced bank row s) := by
  have hsp : decide ((s.flts.rowsMap.filter fun x => x / 514 = bank).length < 2) = true := decide_eq_true hspare
  unfold sramRetire
  rw [hsp]
  rfl

end Sram

/-! ### The Vault (R251) -/

/-- A block of the main array is replaced by a spare block. -/
def blockReplaced (b : Nat) (s : State) : State :=
  { s with flts := { s.flts with blksMap := s.flts.blksMap ++ [b] } }.inc F.FLTS_SPARES_VLTUSED

theorem vaultRetire_spare {x : VaultRec} {s : State} (hmain : vaultBlock x < 4096) (hspare : s.flts.blksMap.length < 64) :
    vaultRetire x s = permanent 4 0 (vaultBlock x) true false none (blockReplaced (vaultBlock x) s) := by
  have hlow : ¬ 4096 ≤ vaultBlock x := by omega
  have hsp : blockSpare s (vaultBlock x) = true := (if_neg hlow).trans (decide_eq_true hspare)
  have hsaved : vaultRetire x s = retireBlock (vaultBlock x) false s := congrArg (retireBlock (vaultBlock x) false) (if_pos hsp)
  rw [hsaved]
  unfold retireBlock
  rw [hsp]
  exact congrArg (permanent 4 0 (vaultBlock x) true false none) (if_neg hlow)

theorem exec_vaultReadback {x : VaultRec} {s : State} (pass : Bool) (hon : mainOn s = true)
    (hsound : s.flts.blksFen.contains (vaultBlock x) = false) :
    exec (.vaultWriteReadback x pass) s = .next (vaultReadback x pass s) :=
  congrArg Host.Outcome.next (if_pos (by rw [hon, hsound]; rfl))

/-! ### The metering core and PLL-M (R252, R253) -/

theorem coreMismatch_watched {s : State} (pass : Bool) (hchk : checkOff s 2 0 = false) (hinj : s.flts.inj ≠ some (2, 0)) :
    coreMismatch pass s = if pass then transient 2 0 0 false false s else makeFailed (permanent 2 0 0 false false none s) := by
  unfold coreMismatch
  rw [takeInjection_none hinj]
  dsimp only
  rw [if_neg (by simp [hchk]), Bool.false_or]

/-- PLL-M is locked again: the second that follows is UNVERIFIED. -/
def relocked (s : State) : State :=
  { s.lower F.FLTS_ST_PLLHOLD 0 with flts := { s.flts with pllUntil := s.clk.site + 1000000000 } }

theorem pllRelock_eq (s : State) : pllRelock s = transient 10 0 0 false false (relocked s) := by
  unfold pllRelock relocked
  rw [lower_eq]

theorem relocked_eq (s : State) : relocked s =
    { s with flds := (relocked s).flds, flts := (relocked s).flts, mtr := (relocked s).mtr } := by
  unfold relocked
  rw [lower_eq]

theorem relocked_writes {s : State} (hhold : s.bit F.FLTS_ST_PLLHOLD = true) : Writes [(F.FLTS_ST_PLLHOLD, 0, 0)] s (relocked s) := by
  unfold relocked State.lower
  rw [if_pos hhold]
  exact Writes_of_flds (Writes_put s F.FLTS_ST_PLLHOLD 0 0 (by decide)) rfl

/-- The lock of PLL-M is lost, before its event. -/
def lockLost (s : State) : State := (s.lift F.FLTS_ST_PLLHOLD 0).put F.FLTS_ST_CLKL 0 1

/-! ### A device made FAILED by a permanent fault -/

/-- The fault is counted, and the device shows FAILED. -/
theorem failed_permanent (cls : Nat) (s : State) :
    (makeFailed (permanent cls 0 0 false false none s)).fld F.FLTS_ST_DSTATE = 2 ∧
      (makeFailed (permanent cls 0 0 false false none s)).flts.failed = true ∧
      (makeFailed (permanent cls 0 0 false false none s)).fld F.FLTS_CNT_PERM cls = min 65535 (s.fld F.FLTS_CNT_PERM cls + 1) := by
  obtain ⟨hstate, hfailed⟩ := makeFailed_shows (permanent cls 0 0 false false none s)
  exact ⟨hstate, hfailed, ((makeFailed_rules _).only.fld cls).trans (permanent_counts _ _ _ _ _ _ _)⟩

/-- What a fault does not show in, and a ruling does not change. -/
theorem failed_permanent_keeps (cls : Nat) (hdev : deviceClass cls = true) (s : State) :
    (makeFailed (permanent cls 0 0 false false none s)).flts.pllLost = s.flts.pllLost ∧
      (makeFailed (permanent cls 0 0 false false none s)).bit F.FLTS_ST_PLLHOLD = s.bit F.FLTS_ST_PLLHOLD := by
  have hjoin := permanent_joins cls 0 0 false false none s hdev
  have hmade := makeFailed_rules (permanent cls 0 0 false false none s)
  refine ⟨hmade.pllLost.trans hjoin.pllLost, ?_⟩
  rw [hmade.only.bit 0]
  exact congrArg (· != 0) ((permanent_only cls 0 0 false false none s).fld 0)

/-- Settles O25: a retry that passes is a transient by the branch of its unit; one that fails a permanent fault, whose window and count
the ruling leaves alone. -/
theorem faultsAreShownAndRetired : Obligations.FaultsAreShownAndRetired := by
  refine ⟨⟨fun s cls unit detail hcls hunit hdet => ?_, fun s bank row d hon hchk hinj => ?_, fun s x hon hsound => ?_,
    fun s hrun hchk hinj => ?_, fun s hon hhold hlost => ?_⟩, fun s bank row d hon hchk hinj hspare hnone => ?_,
    fun s x hon hsound hmain hspare hnone => ?_, fun s hrun hchk hinj => ?_, fun s hon hhold hlost => ?_,
    fun s hon hlock hhold => ?_⟩
  · exact ⟨transientShown cls unit detail false false s, rfl, transientShown_eq _ _ _ _ _ s, transientShown_writes s hcls hunit hdet⟩
  · exact congrArg Host.Outcome.next ((if_pos hon).trans (sramError_passes d hchk hinj))
  · exact exec_vaultReadback true hon hsound
  · exact congrArg Host.Outcome.next ((if_pos hrun).trans (coreMismatch_watched true hchk hinj))
  · exact ⟨relocked s, congrArg Host.Outcome.next ((if_pos (by simp [hon, hhold, hlost])).trans (pllRelock_eq s)),
      relocked_writes hhold, rfl, relocked_eq s⟩
  · obtain ⟨hrows, hwins, hclk, hother⟩ := sramLost_leaves d s
    have hretire := sramRetire_spare (row := row) (scrub := false) d (s := sramLost d s) (by rw [hrows]; exact hspare)
    obtain ⟨hopen, hwindow, hperml⟩ :=
      permanent_opens 3 bank row true false none (rowReplaced bank row (sramLost d s)) rfl (hwins.trans hnone)
    have hjoin := permanent_joins 3 bank row true false none (rowReplaced bank row (sramLost d s)) rfl
    refine ⟨_, congrArg Host.Outcome.next ((if_pos hon).trans ((sramError_fails d hchk hinj).trans hretire)), ?_, ?_, hperml, hwindow, ?_⟩
    · exact hjoin.rowsMap.trans (congrArg (· ++ [514 * bank.val + row.val]) hrows)
    · have hcount : (rowReplaced bank row (sramLost d s)).fld F.FLTS_CNT_PERM 3 = s.fld F.FLTS_CNT_PERM 3 :=
        (addSat_fld_field _ F.FLTS_SPARES_SRAMUSED F.FLTS_CNT_PERM 0 3 1 (by decide)).trans (hother.fld 3)
      rw [permanent_counts, hcount]
    · rw [hopen]
      exact congrArg (fun c => [FaultRec.mk 3 bank.val c none]) (congrArg ClockSt.site hclk)
  · have hretire := vaultRetire_spare hmain hspare
    obtain ⟨hopen, hwindow, hperml⟩ := permanent_opens 4 0 (vaultBlock x) true false none (blockReplaced (vaultBlock x) s) rfl hnone
    have hjoin := permanent_joins 4 0 (vaultBlock x) true false none (blockReplaced (vaultBlock x) s) rfl
    refine ⟨_, (exec_vaultReadback false hon hsound).trans (congrArg Host.Outcome.next hretire),
      hjoin.blksMap, ?_, hperml, hwindow, hopen⟩
    rw [permanent_counts]
    exact congrArg (fun n => min 65535 (n + 1)) (addSat_fld_field _ F.FLTS_SPARES_VLTUSED F.FLTS_CNT_PERM 0 4 1 (by decide))
  · exact ⟨_, congrArg Host.Outcome.next ((if_pos hrun).trans (coreMismatch_watched false hchk hinj)), failed_permanent 2 s⟩
  · obtain ⟨hstate, hfailed, hcount⟩ := failed_permanent 10 { s with flts := { s.flts with pllLost := true } }
    obtain ⟨hpll, hbit⟩ := failed_permanent_keeps 10 rfl { s with flts := { s.flts with pllLost := true } }
    exact ⟨_, congrArg Host.Outcome.next (if_pos (by simp [hon, hhold, hlost])), hstate, hfailed, hpll, hbit.trans hhold, hcount⟩
  · have hlift : s.lift F.FLTS_ST_PLLHOLD 0 = _ := if_neg (by simp [hhold])
    refine ⟨lockLost s, congrArg Host.Outcome.next (if_pos (by simp [hon, hlock, hhold])), ?_, ?_⟩
    · unfold lockLost
      rw [lift_eq]
      rfl
    · exact Writes_snoc (Writes_lift s 0 rfl) (by decide)

end Sys2Proof.Machine
end

section
/-! Recovery windows that close, scrubbing, self-tests of checkers, and injection (R256, R258, R259). -/

namespace Sys2Proof.Machine

theorem closeWindow_last {s : State} {f : FaultRec} (hone : s.flts.wins = [f]) : closeWindow s =
    (({ s with flts := { s.flts with wins := [] } }.put F.FLTS_ST_WINDOW 0 0).put F.FLTS_WIN_CLASS1 0 0).put F.FLTS_WIN_UNIT1 0 0 := by
  unfold closeWindow
  rw [hone]

/-- A sound row of a bank without an injection is left as it is; the last one of a pass counts the pass. -/
theorem scrubStep_sram {s : State} {bank : Fin 48} {row : Fin 514} {d : SramData} (hinj : s.flts.inj ≠ some (3, bank.val)) :
    scrubStep (.sram bank row d none true) s = s.inc F.FLTS_SCRUB_SRAMPASS :=
  congrArg (fun u : State => u.inc F.FLTS_SCRUB_SRAMPASS) (if_neg hinj)

section SelfTest

variable {chk guards : Nat} {s : State}

theorem selfTest_passes (again : Bool) : selfTest chk guards true again s = s := by simp [selfTest]

theorem selfTest_again (hkept : s.flts.chkLost.contains (256 * guards + chk) = false) :
    selfTest chk guards false true s = transient 13 chk 0 false true s := by
  unfold selfTest
  dsimp only
  rw [hkept]
  rfl

/-- A checker is lost. -/
def checkerGone (chk guards : Nat) (s : State) : State :=
  { s with flts := { s.flts with chkLost := s.flts.chkLost ++ [256 * guards + chk] } }.put F.FLTS_ST_CHKLOST 0 1

theorem selfTest_lost (hkept : s.flts.chkLost.contains (256 * guards + chk) = false) :
    selfTest chk guards false false s = permanent 13 chk 0 false true none (checkerGone chk guards s) := by
  unfold selfTest
  dsimp only
  rw [hkept]
  rfl

end SelfTest

section Inject

variable {tgt unit : Nat} {s : State}

/-- TGT and UNIT take what was written. -/
def injectNamed (tgt unit : Nat) (s : State) : State := (s.put F.FLTS_INJ_TGT 0 tgt).put F.FLTS_INJ_UNIT 0 unit

theorem injectNamed_writes (s : State) (htgt : tgt < 16) (hunit : unit < 256) :
    Writes [(F.FLTS_INJ_TGT, 0, tgt), (F.FLTS_INJ_UNIT, 0, unit)] s (injectNamed tgt unit s) :=
  Writes_snoc (Writes_put s F.FLTS_INJ_TGT 0 tgt htgt) hunit

theorem faultInject_arms (hnone : s.flts.inj = none) (hok : injectOk s tgt unit = true) : faultInject tgt unit s =
    ({ injectNamed tgt unit s with flts := { s.flts with inj := some (tgt, unit) } }.put F.FLTS_INJ_GO 0 1).put F.FLTS_INJ_REJ 0 0 :=
  if_neg (by simp [hnone, hok])

theorem faultInject_refuses (h : s.flts.inj ≠ none ∨ injectOk s tgt unit = false) :
    faultInject tgt unit s = (injectNamed tgt unit s).put F.FLTS_INJ_REJ 0 1 := by
  refine if_pos ?_
  rcases h with harmed | hbad
  · simp [Option.isSome_iff_ne_none.2 harmed]
  · simp [hbad]

end Inject

/-- Settles O26: each command's guard is met; a checker that is lost is noted before its fault, whose ruling leaves the note. -/
theorem windowsScrubsAndInjection : Obligations.WindowsScrubsAndInjection := by
  refine ⟨fun s f hon hone => ?_, fun s bank row d hon hinj => ?_, fun s hon => ?_, fun s chk g hon hkept => ⟨?_, ?_, ?_⟩,
    fun s tgt unit hon hpriv => ⟨fun hnone hok => ?_, fun hbad => ?_⟩⟩
  · refine ⟨_, congrArg Host.Outcome.next ((if_pos hon).trans (closeWindow_last hone)), rfl, rfl, ?_⟩
    exact Writes_snoc (Writes_snoc (Writes_put_of_flds _ 0 0 rfl (by decide)) (by decide)) (by decide)
  · exact ⟨_, congrArg Host.Outcome.next ((if_pos hon).trans (scrubStep_sram hinj)), rfl, Writes_inc s F.FLTS_SCRUB_SRAMPASS 0⟩
  · exact ⟨s.put F.FLTS_ST_LATL 0 1, _, congrArg Host.Outcome.next (if_pos hon), rfl, Writes_put s F.FLTS_ST_LATL 0 1 (by decide)⟩
  · exact congrArg Host.Outcome.next ((if_pos hon).trans (selfTest_passes true))
  · exact congrArg Host.Outcome.next ((if_pos hon).trans (selfTest_again hkept))
  · have hjoin := permanent_joins 13 chk 0 false true none (checkerGone chk g s) rfl
    refine ⟨_, congrArg Host.Outcome.next ((if_pos hon).trans (selfTest_lost hkept)), ?_, hjoin.chkLost⟩
    refine (congrArg (· != 0) ((permanent_only 13 chk 0 false true none (checkerGone chk g s)).fld 0)).trans ?_
    exact bit_of_fld_one (put_fld_same _ _ _ _)
  · refine ⟨_, congrArg Host.Outcome.next ((if_pos (host_request hon hpriv)).trans (faultInject_arms hnone hok)), rfl, ?_⟩
    exact Writes_snoc (Writes_snoc (Writes_of_flds (injectNamed_writes s tgt.isLt unit.isLt) rfl) (by decide)) (by decide)
  · refine ⟨_, congrArg Host.Outcome.next ((if_pos (host_request hon hpriv)).trans (faultInject_refuses hbad)), rfl, ?_⟩
    exact Writes_snoc (injectNamed_writes s tgt.isLt unit.isLt) (by decide)

end Sys2Proof.Machine
end

section
/-! Package delivery: BEGIN, APPEND and SUBMIT, and what a SUBMIT answers (R314, R315, R318). -/

namespace Sys2Proof.Machine

theorem mainOn_of_ctlOn {s : State} (h : ctlOn s = true) : mainOn s = true := (Bool.and_eq_true_iff.1 h).1

/-! ### Fields that an event leaves alone -/

theorem raise_fld_kept (e d : Nat) (s : State) {f : Fld} (i : Nat) (he : e < 128 := by decide)
    (hf : (evtNums.all fun g => g.id != f.id) = true := by decide) : (raise e d s).fld f i = s.fld f i :=
  ((Shows.refl evtNums s).after_raise he).only.fld i hf

theorem raise_bit_kept (e d : Nat) (s : State) {f : Fld} (i : Nat) (he : e < 128 := by decide)
    (hf : (evtNums.all fun g => g.id != f.id) = true := by decide) : (raise e d s).bit f i = s.bit f i :=
  congrArg (· != 0) (raise_fld_kept e d s i he hf)

/-! ### The packages of a region -/

theorem setRgn_get (r : Nat) (x : ItnRgn) (s : State) : getRgn (setRgn r x s) r = x := mget_mput_same ..

/-- The fields by which a region shows its packages. -/
def rgnFlds : List Fld := [F.ITN_RST_QUEUED, F.ITN_RPEND_PGEN, F.ITN_RQUE_QGEN, F.ITN_ST_POOLFREE]

theorem showRgn_shows (r : Nat) (s : State) : Shows rgnFlds s (showRgn r s) := by
  unfold showRgn State.setBit
  exact ((((Shows.refl rgnFlds s).put).put).put).put

theorem showRgn_itn (r : Nat) (s : State) : (showRgn r s).itn = s.itn := rfl

theorem showRgn_get (r q : Nat) (s : State) : getRgn (showRgn r s) q = getRgn s q := rfl

theorem showRgn_rst (r q : Nat) (s : State) : rst (showRgn r s) q = rst s q := (showRgn_shows r s).only.fld q

/-! ### An operation on the package buffer -/

section Ops

variable {s : State}

theorem pkOp_does {op : Nat} (hon : ctlOn s = true) (hfree : s.bit F.ITN_PKCTL_BUSY = false) (hop : op ≠ 0) :
    pkOp op s = pkDo op s := by
  refine (if_neg ?_).trans (if_pos hon)
  simp [hop, hfree]

theorem pkOp_waits {op : Nat} (hoff : ctlOn s = false) (hfree : s.bit F.ITN_PKCTL_BUSY = false) (hop : op ≠ 0) :
    pkOp op s = { s with itn := { s.itn with op := some op } }.put F.ITN_PKCTL_BUSY 0 1 := by
  refine (if_neg ?_).trans (if_neg (by simp [hoff]))
  simp [hop, hfree]

theorem pkAppend_takes {total : Nat} {b : List Nat} (hbuf : s.itn.buf = some (total, b))
    (hlen : s.fld F.ITN_PKCTL_CHUNK ≤ 1024) : pkAppend s = { s with itn := { s.itn with
      buf := some (total, b ++ (windowBytes s F.ITN_PKWIN_DATA 256).take (s.fld F.ITN_PKCTL_CHUNK)) } } := by
  unfold pkAppend
  rw [hbuf]
  exact if_neg (Nat.not_lt.2 hlen)

/-- The window is no part of the register that names an operation. -/
theorem windowBytes_after_chunk (n : Nat) (s : State) :
    windowBytes (s.put F.ITN_PKCTL_CHUNK 0 n) F.ITN_PKWIN_DATA 256 = windowBytes s F.ITN_PKWIN_DATA 256 := by
  unfold windowBytes
  simp only [put_fld_field s F.ITN_PKCTL_CHUNK F.ITN_PKWIN_DATA 0 _ n (by decide)]

/-- What a SUBMIT leaves of the buffer, and its answer. -/
def submitted (c : Nat) (s : State) : State := { s with itn := { s.itn with buf := none } }.put F.ITN_PKCTL_RESULT 0 c

theorem pkSubmit_eq {total : Nat} {b : List Nat} (hbuf : s.itn.buf = some (total, b)) : pkSubmit s =
    if pkCheck s total b = 0 then pkAccept (pkRegion b) (pkUpdate b) (submitted 0 s)
    else raise 67 (pkRegion b) ((submitted (pkCheck s total b) s).put F.ITN_ST_REFL 0 1) := by
  unfold pkSubmit
  rw [hbuf]
  dsimp only [Option.getD_some]
  split
  next h => rw [h]; rfl
  next => rfl

theorem pkCheck_le (s : State) (total : Nat) (b : List Nat) : pkCheck s total b ≤ 7 := by
  unfold pkCheck
  dsimp only
  split
  · decide
  · split
    · decide
    · split
      · decide
      · split
        · decide
        · repeat' split
          all_goals decide

/-- An accepted package of an idle region is its running update. -/
theorem pkAccept_idle {r : Nat} (u : Update) (hidle : rst s r = 0) : pkAccept r u s =
    showRgn r ((setRgn r { getRgn s r with run := some u } (raise 66 r s)).put F.ITN_RST_STATE r 1) :=
  if_pos ((raise_fld_kept 66 r s r).trans hidle)

end Ops

/-- Settles O23: with the controller running and no operation waiting, each operation is done at once; the checks of Table 15-4 give
codes up to 7, which RESULT holds. -/
theorem packagesAreDelivered : Obligations.PackagesAreDelivered := by
  refine ⟨fun s hon hfree => ?_, fun s n total b hon hfree hbuf hlen => ?_, fun s total c b hon hfree hbuf hcheck hc => ?_,
    fun s total b hon hfree hbuf hcheck hidle => ?_, fun s c op hon hoff hfree hc => ?_⟩
  · exact congrArg Host.Outcome.next ((if_pos (mainOn_of_ctlOn hon)).trans (pkOp_does hon hfree (by decide)))
  · have hput : (s.put F.ITN_PKCTL_CHUNK 0 n).fld F.ITN_PKCTL_CHUNK = n.val :=
      (put_fld_same s F.ITN_PKCTL_CHUNK 0 n).trans (Nat.mod_eq_of_lt n.isLt)
    have hbusy : (s.put F.ITN_PKCTL_CHUNK 0 n).bit F.ITN_PKCTL_BUSY = false :=
      (put_bit_field s F.ITN_PKCTL_CHUNK F.ITN_PKCTL_BUSY 0 0 n (by decide)).trans hfree
    have hdo := (pkOp_does (s := s.put F.ITN_PKCTL_CHUNK 0 n) (op := 2) hon hbusy (by decide)).trans
      (pkAppend_takes (s := s.put F.ITN_PKCTL_CHUNK 0 n) hbuf (hput.trans_le hlen))
    rw [hput, windowBytes_after_chunk] at hdo
    exact ⟨_, congrArg Host.Outcome.next ((if_pos (mainOn_of_ctlOn hon)).trans hdo),
      Writes_put_of_flds F.ITN_PKCTL_CHUNK 0 n rfl n.isLt, rfl⟩
  · have hlt : c < 2 ^ F.ITN_PKCTL_RESULT.len := (hcheck.symm.trans_le (pkCheck_le s total b)).trans_lt (by decide)
    have hdo := (pkSubmit_eq hbuf).trans (if_neg (hcheck.trans_ne hc))
    rw [hcheck] at hdo
    exact ⟨_, congrArg Host.Outcome.next ((if_pos (mainOn_of_ctlOn hon)).trans ((pkOp_does hon hfree (by decide)).trans hdo)),
      rfl, Writes_snoc (Writes_put_of_flds F.ITN_PKCTL_RESULT 0 c rfl hlt) (by decide)⟩
  · have hkept : rst (submitted 0 s) (pkRegion b) = 0 := (put_fld_field _ _ _ _ _ _ (by decide)).trans hidle
    have hdo := ((pkSubmit_eq hbuf).trans (if_pos hcheck)).trans (pkAccept_idle (pkUpdate b) hkept)
    refine ⟨_, congrArg Host.Outcome.next ((if_pos (mainOn_of_ctlOn hon)).trans ((pkOp_does hon hfree (by decide)).trans hdo)),
      ?_, ?_, ?_, ?_⟩
    · exact (congrArg ItnSt.buf (raise_itn 66 (pkRegion b) (submitted 0 s)) :)
    · refine ((showRgn_shows _ _).only.fld 0).trans ((put_fld_field _ _ _ _ _ _ (by decide)).trans ?_)
      exact (raise_fld_kept 66 (pkRegion b) (submitted 0 s) 0).trans (put_fld_same ..)
    · exact (showRgn_rst _ _ _).trans (put_fld_same ..)
    · exact congrArg ItnRgn.run (setRgn_get (pkRegion b) _ _)
  · have hop : op ≠ 0 := by rcases hc with ⟨-, rfl⟩ | ⟨-, rfl⟩ <;> decide
    have hexec : exec c s = .next (pkOp op s) := by
      rcases hc with ⟨rfl, rfl⟩ | ⟨rfl, rfl⟩
      · exact congrArg Host.Outcome.next (if_pos hon)
      · exact congrArg Host.Outcome.next (if_pos hon)
    exact ⟨_, hexec.trans (congrArg Host.Outcome.next (pkOp_waits hoff hfree hop)), rfl,
      Writes_put_of_flds F.ITN_PKCTL_BUSY 0 1 rfl (by decide)⟩

end Sys2Proof.Machine
end

section
/-! The itinerary's own state is kept while a region's new fields take effect (Table 15-2). -/

namespace Sys2Proof.Machine

/-- Going from r to s, the itinerary's own state is kept. -/
def ItnKept (r s : State) : Prop := s.itn = r.itn

namespace ItnKept

-- Elaborated side by side, the many short proofs below would each hold a thread, and the threads' stacks are large.
set_option Elab.async false

variable {r s : State}

theorem refl (s : State) : ItnKept s s := rfl

theorem ite {t : State} {c : Prop} [Decidable c] (hs : ItnKept r s) (ht : ItnKept r t) : ItnKept r (if c then s else t) := by
  split
  · exact hs
  · exact ht

theorem foldl {α : Type} {g : State → α → State} (h : ItnKept r s) (l : List α) (hg : ∀ u a, ItnKept r u → ItnKept r (g u a)) :
    ItnKept r (l.foldl g s) := List.foldlRecOn l g h fun u hu a _ => hg u a hu

theorem put {g : Fld} {i v : Nat} (h : ItnKept r s) : ItnKept r (s.put g i v) := h

/-- A change of what other units remember. -/
theorem elsewhere {pending : List Instr} {flds : SMap Nat} {clk : ClockSt} {ctl : CtlRun} {host : HostSt} {pwr : PwrSt} {ldg : LdgSt}
    {evt : EvtSt} {inp : InpSt} {rmt : RmtSt} {flt : FltSt} {flts : FltsSt} {cal : CalSt} {twn : TwnSt} {mtr : MtrSt} {grd : GrdSt}
    {hrm : HrmSt} {dst : DstSt} {pls : PlsSt} {way : WaySt} {rng : Nat} {sbx : SbxSt} {cvn : CvnSt} {sar : SarSt} {dsp : DspSt}
    {prt : PrtSt} (h : ItnKept r s) : ItnKept r ⟨pending, flds, clk, ctl, host, pwr, ldg, evt, inp, rmt, flt, flts, cal, twn, mtr,
      s.itn, grd, hrm, dst, pls, way, rng, sbx, cvn, sar, dsp, prt⟩ := h

theorem after_lower {g : Fld} {i : Nat} (h : ItnKept r s) : ItnKept r (s.lower g i) := h.elsewhere.ite h

theorem after_lift {g : Fld} {i : Nat} (h : ItnKept r s) : ItnKept r (s.lift g i) := h.ite h.elsewhere

theorem after_raise {e d : Nat} (h : ItnKept r s) : ItnKept r (raise e d s) := (raise_itn e d s).trans h

theorem after_raiseIf {b : Bool} {e d : Nat} (h : ItnKept r s) : ItnKept r (raiseIf b e d s) := h.after_raise.ite h

/-! #### Spares and their slots -/

theorem after_setPath {n : Nat} {p : StreamPath} (h : ItnKept r s) : ItnKept r (setPath n p s) := h

theorem after_fastClear {n : Nat} (h : ItnKept r s) : ItnKept r (fastClear n s) := h

theorem after_setSp {sp : Nat} {x : SpareSt} (h : ItnKept r s) : ItnKept r (setSp sp x s) := by
  unfold setSp retarget
  exact ite h h

theorem after_setSlot {sp : Nat} {x : Option Slot} (h : ItnKept r s) : ItnKept r (setSlot sp x s) := h.after_setSp

theorem after_startSlot {k : SlotKind} {sp n : Nat} (h : ItnKept r s) : ItnKept r (startSlot k sp n s) := h.after_setSlot

theorem after_watchFree {b : Nat} {f : State → State} (h : ItnKept r (f s)) : ItnKept r (watchFree b f s) := by
  unfold watchFree
  dsimp only
  split
  · exact h
  · exact h.after_raise.ite h

theorem after_skipSlot {n : Nat} (h : ItnKept r s) : ItnKept r (skipSlot n s) := after_raise h

theorem after_serveForce {b : Nat} (h : ItnKept r s) : ItnKept r (serveForce b s) := by
  unfold serveForce
  refine ite (ite h ?_) h
  split
  · exact h.put.after_startSlot.ite h
  · exact h

theorem after_serveLive {b : Nat} (h : ItnKept r s) : ItnKept r (serveLive b s) := by
  unfold serveLive startLive
  split
  · exact h
  · split
    · exact h.after_setSp.elsewhere
    · exact h

theorem after_serveResp {b : Nat} (h : ItnKept r s) : ItnKept r (serveResp b s) := by
  unfold serveResp setChange pathLend setDone setPath
  split
  · exact h
  · split
    · exact h.after_lift.elsewhere.after_setSp.elsewhere.elsewhere
    · exact h

theorem after_startRoutine {sp k : Nat} (h : ItnKept r s) : ItnKept r (startRoutine sp k s) := by
  unfold startRoutine
  refine ite ?_ h
  split
  · exact h.after_startSlot
  · exact h

theorem after_resume {sp : Nat} (h : ItnKept r s) : ItnKept r (resume sp s) := by
  unfold resume
  dsimp only
  split
  · exact h
  · exact h.after_setSp.after_skipSlot.ite (h.after_setSp.after_setSlot.ite h.after_setSp.after_setSlot)

theorem after_sessAdvance {x : Sess} (h : ItnKept r s) : ItnKept r (sessAdvance x s) :=
  (h.elsewhere.put.ite h.elsewhere).ite ((h.elsewhere.put.ite h.elsewhere).ite h.elsewhere)

theorem after_refinStart (h : ItnKept r s) : ItnKept r (refinStart s) := by
  unfold refinStart
  split
  · refine ite ?_ h
    split
    · exact h.after_sessAdvance
    · exact h.ite h.after_setSp
  · exact h

theorem after_settleBank {b : Nat} (h : ItnKept r s) : ItnKept r (settleBank b s) := h.after_refinStart.after_serveForce

theorem after_takeWork {sp : Nat} (h : ItnKept r s) : ItnKept r (takeWork sp s) := by
  unfold takeWork
  extract_lets b s1 s2 s3
  have h1 : ItnKept r s1 := h.after_serveLive.after_serveResp
  have h3 : ItnKept r s3 := (h1.after_resume.ite h1).after_settleBank
  split
  · exact h3.after_setSp.after_startRoutine.ite h3
  · exact h3

theorem after_nextWork {sp : Nat} (h : ItnKept r s) : ItnKept r (nextWork sp s) := after_watchFree h.after_takeWork

/-! #### New INPUTS and FILTERS fields -/

theorem after_trimTrigger (h : ItnKept r s) : ItnKept r (trimTrigger s) := h.elsewhere.ite h.elsewhere.put

theorem after_liveRequest {n range sensor : Nat} (h : ItnKept r s) : ItnKept r (liveRequest n range sensor s) := by
  unfold liveRequest
  exact h.elsewhere.ite (after_watchFree h.elsewhere.after_serveLive).after_settleBank

theorem after_cancelChange {n : Nat} (h : ItnKept r s) : ItnKept r (cancelChange n s) := by
  unfold cancelChange
  refine (h.elsewhere.foldl _ fun u sp hu => ?_).ite h.elsewhere
  extract_lets x s1
  have h1 : ItnKept r s1 := hu.after_setSp.after_skipSlot.ite hu
  exact h1.after_setSlot.after_skipSlot.after_nextWork.ite h1

theorem after_rangeSensorChanged {n : Nat} (h : ItnKept r s) : ItnKept r (rangeSensorChanged n s) := by
  unfold rangeSensorChanged
  extract_lets rg k s1
  have h1 : ItnKept r s1 := h.ite h.after_cancelChange
  exact h1.ite (h1.ite ((h1.after_liveRequest.ite h1.elsewhere).ite h1.elsewhere))

theorem after_noteFree {was : State} (h : ItnKept r s) : ItnKept r (noteFree was s) :=
  h.foldl _ fun u b hu => by
    split
    · exact hu
    · exact hu.after_raiseIf

theorem after_inputsChanged {was : State} (h : ItnKept r s) : ItnKept r (inputsChanged was s) := by
  unfold inputsChanged
  extract_lets ns s1
  have h1 : ItnKept r s1 := h.foldl _ fun _ _ hu => hu.after_rangeSensorChanged
  exact after_noteFree (h1.after_trimTrigger.ite h1)

theorem after_releaseHeld {n : Nat} (h : ItnKept r s) : ItnKept r (releaseHeld n s) := by
  refine ite (h.foldl _ fun u sp hu => ?_) h
  split
  · exact (hu.after_setSlot.ite hu.after_setSlot).ite (hu.after_setSlot.ite hu)
  · exact hu

theorem after_fprChange {n : Nat} (h : ItnKept r s) : ItnKept r (fprChange n s) := by
  unfold fprChange
  exact (h.foldl _ fun _ _ hu => hu.after_fastClear.elsewhere).elsewhere.after_releaseHeld

theorem after_respRequest {n : Nat} {resp : List Nat} (h : ItnKept r s) : ItnKept r (respRequest n resp s) := by
  unfold respRequest
  extract_lets ask free wait again
  have hask : ∀ ph, ItnKept r (ask ph) := fun _ => h
  have hfree : ItnKept r free := (hask .waitSpare).foldl _ fun _ _ hu => hu.after_lower.after_setSp.ite hu
  have hwait : ItnKept r wait := after_settleBank (after_watchFree hfree.after_serveResp)
  have hagain : ItnKept r again := by
    unfold again
    split
    · exact h
    · exact h
  refine ite ?_ ?_
  · split
    · exact hagain
    · exact hagain
    all_goals exact hwait
  · exact h

theorem after_fltCfgChanged {n : Nat} (h : ItnKept r s) : ItnKept r (fltCfgChanged n s) := by
  unfold fltCfgChanged
  extract_lets s1 cur
  have h1 : ItnKept r s1 := h.ite h.after_fprChange
  exact (h1.ite h1.after_respRequest).ite h

/-! #### New fields of the other regions -/

theorem after_linkSend {p : Nat} {fs : List OutFrame} (h : ItnKept r s) : ItnKept r (linkSend p fs s) := by
  unfold linkSend setPort
  exact h.elsewhere

theorem after_countFrame {type : Nat} (h : ItnKept r s) : ItnKept r (countFrame type s) := h.elsewhere

theorem after_renewSubs (h : ItnKept r s) : ItnKept r (renewSubs s) := by
  unfold renewSubs sendSubs portSend
  exact (h.foldl _ fun _ _ hu => hu.after_linkSend.after_countFrame).ite h

theorem after_rateCheck {c : Nat} (h : ItnKept r s) : ItnKept r (rateCheck c s) := h.put.put.after_raiseIf.ite (h.put.ite h)

theorem after_pulsesApply {c : Nat} (h : ItnKept r s) : ItnKept r (pulsesApply c s) := by
  unfold pulsesApply setOut
  exact h.elsewhere.after_rateCheck

theorem after_arcStop {n : Nat} (h : ItnKept r s) : ItnKept r (arcStop n s) :=
  (h.elsewhere.put.put.put.after_raise.ite h.elsewhere.put.put).ite h

theorem after_showDsp (h : ItnKept r s) : ItnKept r (showDsp s) := h.put

theorem after_newTarget {t : Nat} (h : ItnKept r s) : ItnKept r (newTarget t s) := h.elsewhere.ite h.elsewhere

theorem after_displayStart (h : ItnKept r s) : ItnKept r (displayStart s) := by
  unfold displayStart
  refine ite ?_ h.elsewhere.after_showDsp
  split
  · exact h.elsewhere.after_showDsp.put.after_newTarget
  · exact h.elsewhere.after_showDsp

theorem after_displayChanged {was : State} (h : ItnKept r s) : ItnKept r (displayChanged was s) := by
  unfold displayChanged
  exact h.ite (h.elsewhere.after_displayStart.ite h.elsewhere.after_showDsp)

theorem after_regionChanged {n : Nat} {was : State} (h : ItnKept r s) : ItnKept r (regionChanged n was s) := by
  unfold regionChanged filtersChanged pulsesChanged arcsChanged
  split
  · exact h.after_inputsChanged
  · exact h.foldl _ fun _ _ hu => hu.after_fltCfgChanged
  · exact h.after_renewSubs
  · exact h.foldl _ fun _ _ hu => hu.after_pulsesApply.ite hu
  · exact h.foldl _ fun _ _ hu => hu.ite hu.after_arcStop
  · exact h.after_displayChanged
  · exact h

theorem after_rateCloseAll (h : ItnKept r s) : ItnKept r (rateCloseAll s) := by
  unfold rateCloseAll rateClose putRec
  exact h.foldl _ fun _ _ hu => hu.elsewhere.ite hu.elsewhere

end ItnKept
end Sys2Proof.Machine
end

section
/-! Updates: validation, the flash operations, the apply and the mirror (R307, R315 to R319). -/

namespace Sys2Proof.Machine

/-! ### Flash operations -/

theorem copiesAt_setCopy_other {r q : Nat} (b : Bool) (c : RegionCopy) (s : State) (hne : q ≠ r) :
    copiesAt (setCopy r b c s) q = copiesAt s q := by
  show (s.itn.flash.copies.set r _).getD q _ = _
  rw [List.getD_eq_getElem?_getD, List.getElem?_set_ne hne.symm, ← List.getD_eq_getElem?_getD]
  rfl

theorem copiesAt_setCopy_same {r : Nat} (b : Bool) (c : RegionCopy) (s : State) (hr : r < s.itn.flash.copies.length) :
    copiesAt (setCopy r b c s) r = if b then ((copiesAt s r).1, c) else (c, (copiesAt s r).2) := by
  show (s.itn.flash.copies.set r _).getD r _ = _
  rw [List.getD_eq_getElem?_getD, List.getElem?_set_self hr]
  rfl

/-- A flash operation that begins changes the flash alone. -/
theorem startJob_eq (s : State) : startJob s = { s with itn := { s.itn with flash := (startJob s).itn.flash } } := by
  unfold startJob
  split
  · rfl
  · rfl

theorem pushJob_eq (r : Nat) (s : State) : pushJob r s =
    { s with itn := { s.itn with jobs := s.itn.jobs ++ [r], flash := (pushJob r s).itn.flash } } := by
  unfold pushJob
  dsimp only
  split
  · rw [startJob_eq]
  · rfl

theorem popJob_eq (s : State) : popJob s =
    { s with itn := { s.itn with jobs := s.itn.jobs.tail, flash := (popJob s).itn.flash } } := startJob_eq _

theorem startJob_flds (s : State) : (startJob s).flds = s.flds := by rw [startJob_eq]
theorem startJob_jobs (s : State) : (startJob s).itn.jobs = s.itn.jobs := by rw [startJob_eq]
theorem startJob_rst (s : State) (q : Nat) : rst (startJob s) q = rst s q := by rw [startJob_eq]; rfl
theorem startJob_get (s : State) (q : Nat) : getRgn (startJob s) q = getRgn s q := by rw [startJob_eq]; rfl
theorem pushJob_flds (r : Nat) (s : State) : (pushJob r s).flds = s.flds := by rw [pushJob_eq]
theorem pushJob_jobs (r : Nat) (s : State) : (pushJob r s).itn.jobs = s.itn.jobs ++ [r] := by rw [pushJob_eq]
theorem pushJob_rst (r : Nat) (s : State) (q : Nat) : rst (pushJob r s) q = rst s q := by rw [pushJob_eq]; rfl
theorem popJob_jobs (s : State) : (popJob s).itn.jobs = s.itn.jobs.tail := by rw [popJob_eq]
theorem popJob_flds (s : State) : (popJob s).flds = s.flds := by rw [popJob_eq]
theorem popJob_get (s : State) (q : Nat) : getRgn (popJob s) q = getRgn s q := by rw [popJob_eq]; rfl

/-! ### The end of an update -/

section Ends

variable {s : State} {r : Nat}

/-- The fields that the end of an update may write. -/
def finishFlds : List Fld := F.ITN_RST_STATE :: rgnFlds

theorem updFinish_only (r : Nat) (s : State) : WritesOnly finishFlds s (updFinish r s) := by
  have hput := WritesOnly.of_put (l := finishFlds) (setRgn r { ItnRgn.idle with run := (getRgn s r).que } s) (g := F.ITN_RST_STATE) r
    (if (getRgn s r).que.isSome then 1 else 0) (by decide)
  exact hput.trans ((showRgn_shows r _).only.mono (by decide))

theorem updFinish_jobs (r : Nat) (s : State) : (updFinish r s).itn.jobs = s.itn.jobs := rfl

theorem updFinish_ctl (r : Nat) (s : State) : (updFinish r s).ctl = s.ctl := rfl

theorem updFinish_rst (r : Nat) (s : State) : rst (updFinish r s) r = if (getRgn s r).que.isSome then 1 else 0 := by
  refine (showRgn_rst r r _).trans ((put_fld_same ..).trans ?_)
  split
  · rfl
  · rfl

/-- A failure shows its code; the queued package, or none, is the region's next. -/
theorem updFail_spec {code : Nat} (r : Nat) (s : State) (hcode : code < 32) :
    (updFail r code s).fld F.ITN_RST_REASON r = code ∧ (updFail r code s).bit F.ITN_ST_FAILL = true ∧
    rst (updFail r code s) r = (if (getRgn s r).que.isSome then 1 else 0) ∧ (updFail r code s).itn.jobs = s.itn.jobs ∧
    (updFail r code s).ctl = s.ctl := by
  have honly := updFinish_only r (raise 70 r ((s.put F.ITN_RST_REASON r code).put F.ITN_ST_FAILL 0 1))
  refine ⟨(honly.fld r).trans ((raise_fld_kept 70 r _ r).trans ?_), (honly.bit 0).trans ((raise_bit_kept 70 r _ 0).trans ?_), ?_,
    ?_, ?_⟩
  · rw [put_fld_field _ _ _ _ _ _ (by decide), put_fld_same]
    exact Nat.mod_eq_of_lt hcode
  · exact bit_of_fld_one (put_fld_same ..)
  · refine (updFinish_rst r _).trans ?_
    unfold getRgn
    rw [raise_itn]
    rfl
  · exact (updFinish_jobs r _).trans (congrArg ItnSt.jobs (raise_itn 70 r _) :)
  · exact (updFinish_ctl r _).trans (raise_ctl 70 r _)

end Ends

/-! ### Validation, programming and the read-back -/

section Staging

variable {s : State} {r : Nat} {u : Update}

/-- The codes of a body that is refused. -/
theorem bodyWrites_code {body : List Nat} {c : Nat} (h : bodyWrites r body = .inl c) : c ≤ 10 := by
  unfold bodyWrites at h
  dsimp only at h
  split at h
  · cases h
    decide
  · split at h
    · cases h
      decide
    · split at h
      · cases h
        decide
      · cases h

/-- The codes of Table 15-4 after SUBMIT. -/
theorem updCheck_lt (s : State) (r : Nat) (u : Update) : updCheck s r u < 32 := by
  unfold updCheck
  split
  · decide
  · split
    · decide
    · split
      next hcode => exact (bodyWrites_code hcode).trans_lt (by decide)
      next => split <;> decide

theorem updValidate_writes (hrun : (getRgn s r).run = some u) (hpass : updCheck s r u = 0)
    (hmirr : s.bit F.ITN_RST_MIRRFAIL r = false) : updValidate r s = enterWrite r s := by
  unfold updValidate
  dsimp only
  rw [hrun]
  exact (if_neg (not_not.2 hpass)).trans (if_neg (by simp [hmirr]))

theorem updValidate_fails (hrun : (getRgn s r).run = some u) (hfail : updCheck s r u ≠ 0) :
    updValidate r s = updFail r (updCheck s r u) s := by
  unfold updValidate
  dsimp only
  rw [hrun]
  exact if_pos hfail

theorem enterWrite_spec (r : Nat) (s : State) : rst (enterWrite r s) r = 2 ∧ (enterWrite r s).itn.jobs = s.itn.jobs ++ [r] ∧
    Spares [(F.ITN_RST_STATE, r)] s (enterWrite r s) := by
  unfold enterWrite
  refine ⟨(pushJob_rst ..).trans (put_fld_same ..), pushJob_jobs _ _, fun f i hf => ?_⟩
  unfold State.fld
  rw [pushJob_flds]
  exact Spares_put s F.ITN_RST_STATE r 2 f i hf

theorem enterMirror_spec (r : Nat) (s : State) :
    rst (enterMirror r s) r = 6 ∧ (enterMirror r s).itn.jobs = s.itn.jobs ++ [r] :=
  ⟨(pushJob_rst ..).trans (put_fld_same ..), pushJob_jobs _ _⟩

theorem updWritten_programs (hrun : (getRgn s r).run = some u) :
    updWritten r s = (setCopy r true (newCopy r u .written) s).put F.ITN_RST_STATE r 3 := by
  unfold updWritten
  rw [hrun]

theorem sendMsg_itn (m : TwnMsg) (s : State) : (sendMsg m s).itn = s.itn := by
  obtain ⟨_, _, _, h⟩ := sendMsg_eq m s
  rw [h]

theorem waitExpire_rst (r q : Nat) (s : State) : rst (waitExpire r s) q = rst s q := raise_fld_kept 71 r _ q

theorem waitExpire_jobs (r : Nat) (s : State) : (waitExpire r s).itn.jobs = s.itn.jobs :=
  (congrArg ItnSt.jobs (raise_itn 71 r _) :)

/-- A region in WAIT announces its new digest. -/
def digestSent (r : Fin 11) (u : Update) (s : State) : State :=
  sendMsg (.digest r u.digest) (setRgn r { getRgn s r with annT := s.clk.now } s)

theorem enterWait_eq (r : Fin 11) (u : Update) (s : State) : enterWait r u s =
    if waitsTwin (s.put F.ITN_RST_STATE r 4) r then
      (if (digestSent r u (s.put F.ITN_RST_STATE r 4)).fld F.ITN_CFG_TWINWAIT = 0 then
        waitExpire r (digestSent r u (s.put F.ITN_RST_STATE r 4)) else digestSent r u (s.put F.ITN_RST_STATE r 4))
    else s.put F.ITN_RST_STATE r 4 := rfl

/-- A region that enters WAIT, whether it announces its digest or not. -/
theorem enterWait_spec (r : Fin 11) (u : Update) (s : State) :
    rst (enterWait r u s) r = 4 ∧ (enterWait r u s).itn.jobs = s.itn.jobs := by
  have hput : rst (s.put F.ITN_RST_STATE r 4) r = 4 := put_fld_same ..
  have hrst : rst (digestSent r u (s.put F.ITN_RST_STATE r 4)) r = 4 :=
    (congrArg (fun m => fget m F.ITN_RST_STATE r) (sendMsg_flds _ _)).trans hput
  have hjobs : (digestSent r u (s.put F.ITN_RST_STATE r 4)).itn.jobs = s.itn.jobs := (congrArg ItnSt.jobs (sendMsg_itn _ _) :)
  rw [enterWait_eq]
  split
  · split
    · exact ⟨(waitExpire_rst r r _).trans hrst, (waitExpire_jobs r _).trans hjobs⟩
    · exact ⟨hrst, hjobs⟩
  · exact ⟨hput, rfl⟩

end Staging

section Readback

variable {s : State} {r : Fin 11} {u : Update}

theorem updReadback_agrees (hrun : (getRgn s r).run = some u) : updReadback r true s = enterWait r u (popJob s) := by
  unfold updReadback
  dsimp only
  rw [hrun]
  rfl

theorem updReadback_again (hrun : (getRgn s r).run = some u) (hfirst : (getRgn s r).tries = 0) :
    updReadback r false s = startJob ((setRgn r { getRgn s r with tries := 1 } s).put F.ITN_RST_STATE r 2) := by
  unfold updReadback
  dsimp only
  rw [hrun]
  exact if_pos hfirst

theorem updReadback_fails (hrun : (getRgn s r).run = some u) (hsecond : (getRgn s r).tries ≠ 0) :
    updReadback r false s = updFail r 12 (popJob (spoilCopy r true s)) := by
  unfold updReadback
  dsimp only
  rw [hrun]
  exact if_neg hsecond

end Readback

/-! ### The apply -/

section Apply

variable {s : State} {r : Nat} {u : Update}

/-- What has been announced 20 ms ago stays so. -/
theorem twinReady_later (t : Nat) (h : twinReady s r u = true) : twinReady (reachTime t s) r u = true := by
  unfold twinReady at *
  simp only [Bool.or_eq_true, Bool.and_eq_true, decide_eq_true_eq] at h ⊢
  rcases h with h | ⟨hdig, hage⟩
  · exact .inl h
  · exact .inr ⟨hdig, hage.trans (Nat.le_add_right ..)⟩

theorem updApply_does (t : Nat) (hrun : (getRgn s r).run = some u) (hready : twinReady s r u = true) :
    updApply r (reachTime t s) = if r = 10 then applyFirmware ((reachTime t s).put F.ITN_RST_STATE r 5)
      else applyFields r u ((reachTime t s).put F.ITN_RST_STATE r 5) := by
  unfold updApply
  rw [show (getRgn (reachTime t s) r).run = some u from hrun]
  exact if_neg (by simp [twinReady_later t hready])

theorem updLoad_jobs (r : Nat) (u : Update) (m : SMap Nat) (s : State) : (updLoad r u m s).itn.jobs = s.itn.jobs := by
  unfold updLoad
  split
  · rfl
  · exact (congrArg ItnSt.jobs (ItnKept.after_regionChanged (ItnKept.refl _)) :)

theorem updCommit_jobs (r : Nat) (u : Update) (s : State) : (updCommit r u s).itn.jobs = s.itn.jobs := rfl

theorem applyFields_refused {ws : List (Nat × Nat)} (hbody : bodyWrites r u.body = .inr ws)
    (hrule : regionRule r (loadWrites r ws s.flds) = false) : applyFields r u s = updFail r 14 s := by
  unfold applyFields
  dsimp only
  rw [hbody]
  exact if_pos (by simp [hrule])

theorem applyFields_mirrors {ws : List (Nat × Nat)} (hbody : bodyWrites r u.body = .inr ws)
    (hrule : regionRule r (loadWrites r ws s.flds) = true) :
    rst (applyFields r u s) r = 6 ∧ (applyFields r u s).itn.jobs = s.itn.jobs ++ [r] := by
  unfold applyFields
  dsimp only
  rw [hbody, if_neg (by simp [hrule])]
  obtain ⟨hrst, hjobs⟩ := enterMirror_spec r (updLoad r u (loadWrites r ws (updCommit r u (if r = 6 then rateCloseAll s else s)).flds)
    (updCommit r u (if r = 6 then rateCloseAll s else s)))
  refine ⟨hrst, hjobs.trans (congrArg (· ++ [r]) ((updLoad_jobs ..).trans ((updCommit_jobs ..).trans ?_)))⟩
  have hkept : ItnKept s (if r = 6 then rateCloseAll s else s) :=
    (ItnKept.refl s).after_rateCloseAll.ite (ItnKept.refl s)
  exact congrArg ItnSt.jobs hkept

end Apply

/-! ### The mirror -/

section Mirror

variable {s : State} {r : Nat}

/-- Copy A is committed, and the flash operation is over. -/
def mirrored (r : Nat) (s : State) : State :=
  popJob ((setCopy r false { (copiesAt s r).2 with state := .committed } s).put F.ITN_RST_MIRRFAIL r 0)

theorem updMirror_agrees (hpre : (getRgn s r).pre = false) : updMirror r true s = updFinish r (raise 69 r (mirrored r s)) := by
  unfold updMirror
  dsimp only
  rw [if_pos rfl, hpre]
  rfl

theorem updMirror_again (hfirst : (getRgn s r).tries = 0) :
    updMirror r false s = startJob (setRgn r { getRgn s r with tries := 1 } s) := by
  unfold updMirror
  dsimp only
  rw [if_neg (by decide), if_pos hfirst]

theorem mirror_ends (r : Nat) (s : State) :
    (updFinish r (raise 69 r (mirrored r s))).bit F.ITN_RST_MIRRFAIL r = false ∧
    rst (updFinish r (raise 69 r (mirrored r s))) r = (if (getRgn s r).que.isSome then 1 else 0) ∧
    (updFinish r (raise 69 r (mirrored r s))).itn.jobs = s.itn.jobs.tail := by
  refine ⟨?_, (updFinish_rst r _).trans ?_, (updFinish_jobs r _).trans ?_⟩
  · have hzero : (mirrored r s).fld F.ITN_RST_MIRRFAIL r = 0 :=
      (congrArg (fun m => fget m F.ITN_RST_MIRRFAIL r) (popJob_flds _)).trans (put_fld_same ..)
    refine ((updFinish_only r _).bit r).trans ((raise_bit_kept 69 r _ r).trans ?_)
    exact bne_eq_false_iff_eq.2 hzero
  · have hget : getRgn (raise 69 r (mirrored r s)) r = getRgn s r := by
      unfold getRgn
      rw [raise_itn]
      exact popJob_get _ r
    rw [hget]
  · exact (congrArg ItnSt.jobs (raise_itn 69 r _)).trans (popJob_jobs _)

end Mirror

/-- Settles O24: each command's guard is met, and its operation, taken by cases, ends in the end of an update, the next state of the
region, or a flash operation that joins or leaves the order. -/
theorem updatesAreStagedAndApplied : Obligations.UpdatesAreStagedAndApplied := by
  refine ⟨⟨fun s r u hon hrst hpre hrun => ?_, fun s r u hjob hrst hrun hlen => ?_, fun s r u hjob hrst hrun => ?_,
    fun s r hon hrst hwaits halone => ?_⟩, fun s r u ws t0 hon hrst ht0 hrun hready hr hbody => ?_,
    fun s u t0 hon hrst ht0 hrun hready => ?_, fun s hon hctl hrst => ?_, fun s r hjob hrst hpre => ?_⟩
  · have hexec : exec (.updateValidateComplete r) s = .next (updValidate r s) :=
      congrArg Host.Outcome.next (if_pos (by simp [hon, hrst, hpre]))
    refine ⟨fun hpass hmirr => ?_, fun hfail => ?_⟩
    · rw [hexec, updValidate_writes hrun hpass hmirr]
      exact ⟨_, rfl, enterWrite_spec r s⟩
    · rw [hexec, updValidate_fails hrun hfail]
      obtain ⟨hreason, hlatch, hnext, -, -⟩ := updFail_spec r s (updCheck_lt s r u)
      exact ⟨_, rfl, hreason, hlatch, hnext⟩
  · have hlt : r.val < s.itn.flash.copies.length := r.isLt.trans_eq hlen.symm
    have hsame := copiesAt_setCopy_same true (newCopy r u .written) s hlt
    refine ⟨_, congrArg Host.Outcome.next ((if_pos (by simp [hjob, hrst])).trans (updWritten_programs hrun)), rfl,
      Writes_put_of_flds F.ITN_RST_STATE r 3 rfl (by decide), ?_, ?_, fun q hq => ?_⟩
    · exact (congrArg Prod.snd hsame :)
    · exact (congrArg Prod.fst hsame :)
    · exact copiesAt_setCopy_other true _ s hq
  · have hexec : ∀ same, exec (.updateReadbackCheck r same) s = .next (updReadback r same s) :=
      fun same => congrArg Host.Outcome.next (if_pos (by simp [hjob, hrst]))
    refine ⟨?_, fun hfirst => ?_, fun hsecond => ?_⟩
    · rw [hexec, updReadback_agrees hrun]
      obtain ⟨hnext, hjobs⟩ := enterWait_spec r u (popJob s)
      exact ⟨_, rfl, hnext, hjobs.trans (popJob_jobs s)⟩
    · rw [hexec, updReadback_again hrun hfirst]
      refine ⟨_, rfl, (startJob_rst _ _).trans (put_fld_same ..), ?_, startJob_jobs _⟩
      rw [startJob_get]
      exact congrArg ItnRgn.tries (setRgn_get r _ s)
    · rw [hexec, updReadback_fails hrun hsecond]
      obtain ⟨hreason, -, -, hjobs, -⟩ := updFail_spec r (popJob (spoilCopy r true s)) (code := 12) (by decide)
      exact ⟨_, rfl, hreason, hjobs.trans (popJob_jobs _)⟩
  · have hexec : exec (.twinUpdateWaitExpire r) s = .next (waitExpire r s) := by
      refine congrArg Host.Outcome.next ((if_pos (mainOn_of_ctlOn hon)).trans ((onCtlOnce_on hon _ _).trans (if_pos ?_)))
      simp [hrst, hwaits, halone]
    refine ⟨_, hexec, rfl, ?_, ?_⟩
    · rw [setRgn_get]
    · rw [setRgn_get]
  · have hexec : exec (.updateApplyInstant r t0) s = .next (applyFields r u ((reachTime t0 s).put F.ITN_RST_STATE r 5)) := by
      refine congrArg Host.Outcome.next ((if_pos (by simp [hon, hrst, ht0])).trans ((updApply_does t0 hrun hready).trans ?_))
      exact if_neg hr
    refine ⟨fun hrule => ?_, fun hrule => ?_⟩
    · rw [hexec, applyFields_refused (s := (reachTime t0 s).put F.ITN_RST_STATE r 5) hbody hrule]
      obtain ⟨hreason, hlatch, -, -, -⟩ := updFail_spec r ((reachTime t0 s).put F.ITN_RST_STATE r 5) (code := 14) (by decide)
      exact ⟨_, rfl, hreason, hlatch⟩
    · exact ⟨_, hexec, applyFields_mirrors (s := (reachTime t0 s).put F.ITN_RST_STATE r 5) hbody hrule⟩
  · have hexec : exec (.updateApplyInstant 10 t0) s = .next (applyFirmware ((reachTime t0 s).put F.ITN_RST_STATE 10 5)) := by
      refine congrArg Host.Outcome.next ((if_pos ?_).trans (updApply_does (r := 10) t0 hrun hready))
      rw [hon, show rst s (10 : Fin 11) = 4 from hrst, ht0]
      rfl
    refine ⟨_, hexec, rfl, ?_, bit_of_fld_one (put_fld_same _ F.FLTS_ST_RESTL 0 1), rfl⟩
    exact (put_fld_field _ F.FLTS_ST_RESTL _ 0 10 1 (by decide)).trans (put_fld_same (reachTime t0 s) F.ITN_RST_STATE 10 5)
  · obtain ⟨hreason, hlatch, hnext, -, hkept⟩ := updFail_spec 10 (s.put F.FLTS_ST_RESTL 0 1) (code := 13) (by decide)
    exact ⟨_, congrArg Host.Outcome.next (if_pos (by simp [hon, hctl, hrst])), hreason, hlatch, hkept.trans hctl, hnext⟩
  · have hexec : ∀ same, exec (.updateMirrorComplete r same) s = .next (updMirror r same s) :=
      fun same => congrArg Host.Outcome.next (if_pos (by simp [hjob, hrst]))
    refine ⟨?_, fun hfirst => ?_⟩
    · rw [hexec, updMirror_agrees hpre]
      exact ⟨_, rfl, mirror_ends r s⟩
    · rw [hexec, updMirror_again hfirst]
      refine ⟨_, rfl, (startJob_rst _ _).trans hrst, ?_⟩
      rw [startJob_get]
      exact congrArg ItnRgn.tries (setRgn_get r _ s)

end Sys2Proof.Machine
end

section
/-! What Wayline sends: beacons, contention, failures, discovery frames and datagrams (R291 to R295, R300, R334). -/

namespace Sys2Proof.Machine

/-! ### Frames that leave -/

/-- Going from r to s, so many frames have left: TXFR has counted them, and of Wayline only FCNT and what was sent last has changed. -/
structure FramesSent (k : Nat) (r s : State) : Prop where
  way : s.way = { r.way with sent := s.way.sent, fcntHi := s.way.fcntHi, fcntLo := s.way.fcntLo }
  only : WritesOnly [F.WAY_CNT_TXFR] r s
  counted : s.fld F.WAY_CNT_TXFR = min 65535 (r.fld F.WAY_CNT_TXFR + k)

namespace FramesSent

variable {j k : Nat} {r s t : State}

theorem refl (s : State) : FramesSent 0 s s :=
  ⟨rfl, .refl _ s, (Nat.min_eq_right (Nat.lt_succ_iff.1 (fld_lt s F.WAY_CNT_TXFR 0))).symm⟩

theorem trans (hrs : FramesSent j r s) (hst : FramesSent k s t) : FramesSent (j + k) r t := by
  obtain ⟨hways, honlys, hs⟩ := hrs
  obtain ⟨hwayt, honlyt, ht⟩ := hst
  refine ⟨by rw [hwayt, hways], honlys.trans honlyt, ?_⟩
  rw [ht, hs]
  omega

/-- One frame to each of some sides. -/
theorem foldl {g : State → Bool → State} (hg : ∀ u dc, FramesSent 1 u (g u dc)) (l : List Bool) (s : State) :
    FramesSent l.length s (l.foldl g s) := by
  induction l generalizing s with
  | nil => exact refl s
  | cons dc l ih =>
    rw [List.length_cons, Nat.add_comm]
    exact (hg s dc).trans (ih (g s dc))

theorem txq (h : FramesSent k r s) : s.way.txq = r.way.txq := (congrArg WaySt.txq h.way :)
theorem air (h : FramesSent k r s) : s.way.air = r.way.air := (congrArg WaySt.air h.way :)
theorem seqs (h : FramesSent k r s) : s.way.seqs = r.way.seqs := (congrArg WaySt.seqs h.way :)
theorem move (h : FramesSent k r s) : s.way.move = r.way.move := (congrArg WaySt.move h.way :)

end FramesSent

theorem emit_sends (dc : Bool) (ftype ra pri seq kidx : Nat) (payload : List Nat) (s : State) :
    FramesSent 1 s (emit dc ftype ra pri seq kidx payload s) :=
  ⟨rfl, fun _ _ hf => put_fld_field _ _ _ _ _ _ (hf _ (List.mem_singleton.2 rfl)), addSat_fld_same _ F.WAY_CNT_TXFR 0 1⟩

/-- Counting a protected frame is no frame yet. -/
theorem countFcnt_sends (s : State) : FramesSent 0 s (countFcnt s) := by
  unfold countFcnt
  split
  · exact ⟨rfl, (FramesSent.refl s).only, (FramesSent.refl s).counted⟩
  · exact ⟨rfl, (FramesSent.refl s).only, (FramesSent.refl s).counted⟩

theorem emitOwn_sends (dc : Bool) (ftype ra pri seq kidx : Nat) (body : List Nat) (s : State) :
    FramesSent 1 s (emitOwn dc ftype ra pri seq kidx body s) := by
  unfold emitOwn
  extract_lets s1
  have h1 : FramesSent 0 s s1 := by
    unfold s1
    split
    · exact .refl s
    · exact countFcnt_sends s
  exact h1.trans (emit_sends ..)

theorem sendTx_sends (x : WayTx) (dc : Bool) (s : State) : FramesSent 1 s (sendTx x dc s) := by
  unfold sendTx
  split
  · exact emit_sends ..
  · exact emitOwn_sends ..

theorem length_ownSides (s : State) : (ownSides s).length = if s.fld F.WAY_CFG_CPL = 3 then 2 else 1 := by
  unfold ownSides
  split <;> rfl

/-! ### Beacons -/

/-- A slot to move to is taken. -/
def slotTaken (s : State) : State :=
  match s.way.move with
  | some k => { s with way := { s.way with move := none } }.put F.WAY_ST_BSLOTNOW 0 k
  | none => s

/-- CLASH clears, and beacons are for every period again, where no neighbour beacons in this node's slot. -/
def clashFollowed (s : State) : State :=
  if s.way.nbr.any fun e => e.2.elim false fun x => x.bslot == ownSlot s x.dcSide then s
  else { s with way := { s.way with even := false } }.put F.WAY_ST_CLASH 0 0

section Beacon

variable {s : State}

theorem beaconPeriod_eq (t : Nat) (hsend : waySend s = true) (hpromote : s.bit F.SBX_OPCTL_PROMOTE = false) :
    beaconPeriod t s = if (clashFollowed (slotTaken (reachTime t s))).way.even && t / 40000000 % 2 == 1 then
        clashFollowed (slotTaken (reachTime t s))
      else (ownSides (clashFollowed (slotTaken (reachTime t s)))).foldl (fun s dc => sendBeacon t dc s)
        (clashFollowed (slotTaken (reachTime t s))) := by
  have hnone : promoteDue (reachTime t s) = reachTime t s := if_neg (by rw [show (reachTime t s).bit _ = false from hpromote]; decide)
  unfold beaconPeriod
  rw [hnone]
  exact if_neg (by rw [show waySend (reachTime t s) = true from hsend]; decide)

theorem slotTaken_spec (s : State) : (slotTaken s).way.move = none ∧ (slotTaken s).way.even = s.way.even ∧
    WritesOnly [F.WAY_ST_BSLOTNOW] s (slotTaken s) ∧
    (slotTaken s).fld F.WAY_ST_BSLOTNOW = s.way.move.elim (s.fld F.WAY_ST_BSLOTNOW) (· % 16) := by
  unfold slotTaken
  split
  next k hmove =>
    rw [hmove]
    exact ⟨rfl, rfl, .of_put { s with way := { s.way with move := none } } 0 k (by decide), put_fld_same _ F.WAY_ST_BSLOTNOW 0 k⟩
  next hmove => exact ⟨hmove, rfl, .refl _ s, by rw [hmove]; rfl⟩

theorem clashFollowed_spec (s : State) : (clashFollowed s).way.move = s.way.move ∧ (s.way.even = false → (clashFollowed s).way.even = false) ∧
    WritesOnly [F.WAY_ST_CLASH] s (clashFollowed s) := by
  unfold clashFollowed
  split
  · exact ⟨rfl, id, .refl _ s⟩
  · exact ⟨rfl, fun _ => rfl, .of_put { s with way := { s.way with even := false } } 0 0 (by decide)⟩

theorem sendBeacons_sends (t : Nat) (s : State) : FramesSent (if s.fld F.WAY_CFG_CPL = 3 then 2 else 1) s
    ((ownSides s).foldl (fun s dc => sendBeacon t dc s) s) :=
  length_ownSides s ▸ FramesSent.foldl (fun _ _ => emitOwn_sends ..) _ _

end Beacon

/-! ### Contention and failures -/

section Contention

variable {s : State} {x : WayTx}

/-- The frame leaves the queue, under the next SEQ of its receiver. -/
def frameTaken (s : State) (x : WayTx) : State :=
  { s with way := { s.way with txq := [], seqs := mput 0 s.way.seqs x.dst (nextSeq s x.dst) } }

/-- The only frame that waits, sent to each of its sides. -/
def contended (s : State) (x : WayTx) : State :=
  (sidesFor s x).foldl (fun u dc => sendTx { x with count := 0, seq := nextSeq s x.dst } dc u) (frameTaken s x)

/-- Where a frame goes depends neither on the queue nor on its SEQ. -/
theorem sidesFor_taken (s : State) (x : WayTx) (q : List WayTx) (n : Nat) :
    sidesFor { s with way := { s.way with txq := q } } { x with count := 0, seq := n } = sidesFor s x := by
  unfold sidesFor
  rfl

theorem contentionSend_eq (hq : s.way.txq = [x]) (hsound : soundDue s x = false) : contentionSend s =
    if x.dst = 0xFFFF then (if x.host then endDatagram 0 (contended s x) else contended s x)
    else { contended s x with way := { (contended s x).way with air := some { x with count := 0, seq := nextSeq s x.dst } } } := by
  have herase : s.way.txq.erase x = [] := by rw [hq]; simp
  unfold contentionSend
  rw [show nextTx s.way.txq = some x by rw [hq]; rfl]
  dsimp only
  rw [hsound, herase, if_neg Bool.false_ne_true, sidesFor_taken]
  rfl

theorem contended_sends (s : State) (x : WayTx) : FramesSent (sidesFor s x).length (frameTaken s x) (contended s x) :=
  FramesSent.foldl (fun _ _ => sendTx_sends ..) _ _

/-- The end of the host's datagram is no frame. -/
theorem endDatagram_fld (result : Nat) (s : State) {f : Fld} (i : Nat)
    (hf : ([F.WAY_TXCTL_GO, F.WAY_TXCTL_RESULT].all fun g => g.id != f.id) = true := by decide) :
    (endDatagram result s).fld f i = s.fld f i :=
  ((WritesOnly.of_put (l := [F.WAY_TXCTL_GO, F.WAY_TXCTL_RESULT]) s 0 0 (by decide)).trans
    (.of_put _ 0 result (by decide))).fld i hf

theorem endDatagram_ends (result : Nat) (s : State) : (endDatagram result s).fld F.WAY_TXCTL_GO = 0 :=
  (put_fld_field _ F.WAY_TXCTL_RESULT _ 0 0 result (by decide)).trans (put_fld_same _ F.WAY_TXCTL_GO 0 0)

theorem length_sidesFor_one (hdst : x.dst ≠ 0xFFFF) : (sidesFor s x).length = 1 := by
  unfold sidesFor
  rw [if_neg hdst]
  rfl

/-- The first failure: the frame contends again. -/
theorem txFail_first (hair : s.way.air = some x) (hfirst : x.tries = 0) : txFail s =
    queueTx { x with tries := 1, cw := min (4 * baseCw x.pri) (2 * x.cw) } { s with way := { s.way with air := none } } := by
  unfold txFail
  rw [hair]
  dsimp only
  rw [hfirst]
  rfl

/-- The frame that failed for the fourth time is discarded, and counted. -/
def frameLost (s : State) (x : WayTx) : State := raise 57 x.dst ({ s with way := { s.way with air := none } }.inc F.WAY_CNT2_LOST)

theorem txFail_fourth (hair : s.way.air = some x) (hfourth : x.tries = 3) : txFail s =
    if x.host then endDatagram 1 (frameLost s x) else frameLost s x := by
  unfold txFail
  rw [hair]
  dsimp only
  rw [hfourth]
  rfl

theorem frameLost_way (s : State) (x : WayTx) : (frameLost s x).way = { s.way with air := none } := raise_way ..

theorem frameLost_counts (s : State) (x : WayTx) :
    (frameLost s x).fld F.WAY_CNT2_LOST = min 255 (s.fld F.WAY_CNT2_LOST + 1) :=
  (raise_fld_kept 57 x.dst _ 0).trans (inc_fld_same _ F.WAY_CNT2_LOST 0)

end Contention

/-! ### Discovery -/

section Discovery

/-- The discovery frame for a side, as it waits with its backoff count. -/
def discoveryTx (s : State) (dc : Bool) (count : Nat) : WayTx :=
  { mgmtTx s 6 0xFFFF 2 with dc := dc, info := discoveryInfo dc s, count := count }

/-- Queueing frames changes the queue and the random source alone. -/
def QueuesOnly (s t : State) : Prop := t = { s with rng := t.rng, way := { s.way with txq := t.way.txq } }

theorem discoveryTx_queued {s u : State} (h : QueuesOnly s u) (dc : Bool) (count : Nat) :
    discoveryTx u dc count = discoveryTx s dc count := by
  rw [h]
  rfl

theorem queueDiscovery_fold {s u : State} (h : QueuesOnly s u) (l : List Bool) :
    ∃ xs, QueuesOnly s (l.foldl (fun s dc => queueTx { mgmtTx s 6 0xFFFF 2 with dc := dc, info := discoveryInfo dc s } s) u) ∧
      (l.foldl (fun s dc => queueTx { mgmtTx s 6 0xFFFF 2 with dc := dc, info := discoveryInfo dc s } s) u).way.txq = u.way.txq ++ xs ∧
      xs.map WayTx.dc = l ∧ ∀ x ∈ xs, ∃ dc count, x = discoveryTx s dc count := by
  induction l generalizing u with
  | nil => exact ⟨[], h, (List.append_nil _).symm, rfl, by simp⟩
  | cons dc l ih =>
    have hnext : QueuesOnly s (queueTx { mgmtTx u 6 0xFFFF 2 with dc := dc, info := discoveryInfo dc u } u) := by
      unfold QueuesOnly
      rw [h]
      rfl
    obtain ⟨xs, honly, hq, hdcs, hall⟩ := ih hnext
    have hone := discoveryTx_queued h dc ((draw u).1 % baseCw 2)
    refine ⟨discoveryTx u dc ((draw u).1 % baseCw 2) :: xs, honly, ?_, congrArg (dc :: ·) hdcs, ?_⟩
    · exact hq.trans (List.append_assoc _ [_] xs)
    · rintro x (_ | ⟨_, hx⟩)
      · exact ⟨dc, _, hone⟩
      · exact hall x hx

theorem queueDiscovery_spec (s : State) : ∃ xs, (queueDiscovery s).way.txq = s.way.txq ++ xs ∧ (queueDiscovery s).flds = s.flds ∧
    xs.map WayTx.dc = ownSides s ∧ ∀ x ∈ xs, ∃ dc count, x = discoveryTx s dc count := by
  obtain ⟨xs, honly, hq, hdcs, hall⟩ := queueDiscovery_fold (s := s) (u := s) rfl (ownSides s)
  exact ⟨xs, hq, (congrArg State.flds honly :), hdcs, hall⟩

end Discovery

/-! ### Datagrams -/

section Datagram

variable {s : State} {pri len dst : Nat}

/-- WAY_TXCTL reads as written. -/
def txNamed (pri len dst : Nat) (s : State) : State :=
  ((s.put F.WAY_TXCTL_PRI 0 pri).put F.WAY_TXCTL_LEN 0 len).put F.WAY_TXCTL_DST 0 dst

theorem txNamed_writes (s : State) (hpri : pri < 4) (hlen : len < 2048) (hdst : dst < 65536) :
    Writes [(F.WAY_TXCTL_PRI, 0, pri), (F.WAY_TXCTL_LEN, 0, len), (F.WAY_TXCTL_DST, 0, dst)] s (txNamed pri len dst s) :=
  Writes_snoc (Writes_snoc (Writes_put s F.WAY_TXCTL_PRI 0 pri hpri) hlen) hdst

/-- The state in which a datagram is asked for. -/
def txAsked (pri len dst : Nat) (s : State) : State := (txNamed pri len dst s).put F.WAY_TXCTL_GO 0 1

theorem txGo_pending (hgo : s.bit F.WAY_TXCTL_GO = true) : txGo pri len dst s = txNamed pri len dst s := if_pos hgo

theorem txGo_asks (hgo : s.bit F.WAY_TXCTL_GO = false) :
    txGo pri len dst s = onCtl (.txGo pri len dst) (txSend pri len dst) (txAsked pri len dst s) := if_neg (by simp [hgo])

theorem txSend_refused (h : len = 0 ∨ 1024 < len ∨ keyed s = false ∨ (dst ≠ 0xFFFF ∧ findNbr s dst = none)) :
    txSend pri len dst s = endDatagram 2 s := by
  refine if_pos ?_
  rcases h with h | h | h | ⟨hone, hnone⟩
  · exact .inl h
  · exact .inr (.inl h)
  · exact .inr (.inr (.inr (by simp [h])))
  · exact .inr (.inr (.inl (by simp [hone, hnone])))

/-- The window is no part of WAY_TXCTL. -/
theorem windowBytes_asked (pri len dst : Nat) (s : State) :
    windowBytes (txAsked pri len dst s) F.WAY_TXBUF_DATA 256 = windowBytes s F.WAY_TXBUF_DATA 256 := by
  have honly : WritesOnly [F.WAY_TXCTL_PRI, F.WAY_TXCTL_LEN, F.WAY_TXCTL_DST, F.WAY_TXCTL_GO] s (txAsked pri len dst s) :=
    (((WritesOnly.of_put s 0 pri (by decide)).trans (.of_put _ 0 len (by decide))).trans (.of_put _ 0 dst (by decide))).trans
      (.of_put _ 0 1 (by decide))
  exact congrArg wordsToLe (List.map_congr_left fun i _ => honly.fld i)

theorem txSend_queues (hlo : 0 < len) (hhi : len ≤ 1024) (hkey : keyed s = true) (hknown : dst = 0xFFFF ∨ findNbr s dst ≠ none) :
    ∃ x, (txSend pri len dst s).way.txq = s.way.txq ++ [x] ∧ x.host = true ∧ x.ftype = 1 ∧ x.dst = dst ∧ x.pri = min 1 pri ∧
      x.data = (windowBytes s F.WAY_TXBUF_DATA 256).take len ∧ (txSend pri len dst s).flds = s.flds := by
  have hok : ¬(len = 0 ∨ 1024 < len ∨ ¬(dst == 0xFFFF || (findNbr s dst).isSome) = true ∨ ¬keyed s = true) := by
    rcases hknown with rfl | hsome
    · simp [hkey]
      omega
    · simp [hkey, Option.isSome_iff_ne_none.2 hsome]
      omega
  unfold txSend
  rw [if_neg hok]
  exact ⟨_, rfl, rfl, rfl, rfl, rfl, rfl, rfl⟩

/-- Bytes posted in a window change its field alone. -/
theorem postBytes_only (f : Fld) (l : List Nat) (s : State) : FldsOnly s (postBytes f l s) ∧ WritesOnly [f] s (postBytes f l s) := by
  refine List.foldlRecOn (motive := fun u => FldsOnly s u ∧ WritesOnly [f] s u) _ _ ⟨.refl s, .refl _ s⟩ fun u hu p _ => ?_
  obtain ⟨hflds, honly⟩ := hu
  exact ⟨hflds.put, honly.trans (.of_put u p.2 p.1 (List.mem_singleton.2 rfl))⟩

/-- WAY_RXST shows a datagram. -/
def rxShown (avail depth len src : Nat) (s : State) : State :=
  (((s.put F.WAY_RXST_AVAIL 0 avail).put F.WAY_RXST_DEPTH 0 depth).put F.WAY_RXST_LEN 0 len).put F.WAY_RXST_SRC 0 src

theorem rxShown_spec (avail depth len src : Nat) (s : State) : FldsOnly s (rxShown avail depth len src s) ∧
    (rxShown avail depth len src s).fld F.WAY_RXST_AVAIL = avail % 2 ∧ (rxShown avail depth len src s).fld F.WAY_RXST_DEPTH = depth % 8 := by
  have honly : WritesOnly [F.WAY_RXST_LEN, F.WAY_RXST_SRC] ((s.put F.WAY_RXST_AVAIL 0 avail).put F.WAY_RXST_DEPTH 0 depth)
      (rxShown avail depth len src s) := (WritesOnly.of_put _ 0 len (by decide)).trans (.of_put _ 0 src (by decide))
  refine ⟨(((FldsOnly.refl s).put).put).put.put, (honly.fld 0).trans ?_, (honly.fld 0).trans (put_fld_same ..)⟩
  exact (put_fld_field _ F.WAY_RXST_DEPTH _ 0 0 depth (by decide)).trans (put_fld_same ..)

/-- The datagram shown next, or none. -/
theorem showRx_spec (s : State) : FldsOnly s (showRx s) ∧ (showRx s).bit F.WAY_RXST_AVAIL = !s.way.rxq.isEmpty ∧
    (showRx s).fld F.WAY_RXST_DEPTH = s.way.rxq.length % 8 := by
  unfold showRx
  split
  next hq =>
    obtain ⟨hflds, havail, hdepth⟩ := rxShown_spec 0 0 0 0 s
    rw [hq]
    exact ⟨hflds, congrArg (· != 0) havail, hdepth⟩
  next d rest hq =>
    obtain ⟨hflds, havail, hdepth⟩ := rxShown_spec 1 s.way.rxq.length d.data.length d.src s
    obtain ⟨hpost, honly⟩ := postBytes_only F.WAY_RXBUF_DATA d.data (rxShown 1 s.way.rxq.length d.data.length d.src s)
    refine ⟨hflds.trans hpost, (honly.bit 0).trans ?_, (honly.fld 0).trans hdepth⟩
    exact (bit_of_fld_one havail).trans (by rw [hq]; rfl)

end Datagram

/-- Settles O54: each command's guard is met; what a frame that leaves changes, and what the end of a datagram does, is stated once
for each. -/
theorem waylineSendsFrames : Obligations.WaylineSendsFrames := by
  refine ⟨fun s t0 hrun ht0 hsend hpromote => ?_, fun s x hsend hair hq hsound => ⟨fun hall => ?_, fun hone => ?_⟩,
    fun s x hon hair => ⟨fun hfirst => ?_, fun hfourth => ?_⟩, fun s hsend => ⟨fun hoff => ?_, fun hdisc => ?_⟩,
    fun s pri len dst hon => ⟨fun hgo => ?_, fun hgo hoff => ?_⟩,
    fun s pri len dst hon => ⟨fun hgo hbad => ?_, fun hgo hlo hhi hkey hknown => ?_⟩, fun s hon => ?_⟩
  · obtain ⟨hmove, heven, honly, hslot⟩ := slotTaken_spec (reachTime t0 s)
    obtain ⟨hmove', heven', honly'⟩ := clashFollowed_spec (slotTaken (reachTime t0 s))
    have hexec : exec (.beaconPeriodStart t0) s = .next (beaconPeriod t0 s) :=
      congrArg Host.Outcome.next (if_pos (by simp [hrun, ht0]))
    have hsent := sendBeacons_sends t0 (clashFollowed (slotTaken (reachTime t0 s)))
    have hcpl : (clashFollowed (slotTaken (reachTime t0 s))).fld F.WAY_CFG_CPL = s.fld F.WAY_CFG_CPL :=
      (honly'.fld 0).trans (honly.fld 0)
    have hcnt : (clashFollowed (slotTaken (reachTime t0 s))).fld F.WAY_CNT_TXFR = s.fld F.WAY_CNT_TXFR :=
      (honly'.fld 0).trans (honly.fld 0)
    have hnow : (clashFollowed (slotTaken (reachTime t0 s))).fld F.WAY_ST_BSLOTNOW = (match s.way.move with
        | some k => k % 16
        | none => s.fld F.WAY_ST_BSLOTNOW) := by
      refine (honly'.fld 0).trans (hslot.trans ?_)
      rw [show (reachTime t0 s).way.move = s.way.move from rfl]
      cases s.way.move <;> rfl
    rw [hexec, beaconPeriod_eq t0 hsend hpromote]
    refine ⟨_, rfl, ?_, ?_, fun hall => ?_⟩
    · split
      · exact hmove'.trans hmove
      · exact hsent.move.trans (hmove'.trans hmove)
    · split
      · exact hnow
      · exact (hsent.only.fld 0).trans hnow
    · rw [if_neg (by simp [heven' (heven.trans hall)]), hsent.counted, hcpl, hcnt]
  · have hsent := contended_sends s x
    have hexec : exec .contentionSend s = .next (if x.host then endDatagram 0 (contended s x) else contended s x) :=
      congrArg Host.Outcome.next ((if_pos (by simp [hsend, hair])).trans ((contentionSend_eq hq hsound).trans (if_pos hall)))
    rw [hexec]
    refine ⟨_, rfl, ?_, ?_, ?_⟩
    · split
      · exact hsent.txq
      · exact hsent.txq
    · split
      · exact hsent.air.trans hair
      · exact hsent.air.trans hair
    · split
      · exact (endDatagram_fld 0 _ 0).trans hsent.counted
      · exact hsent.counted
  · have hsent := contended_sends s x
    rw [length_sidesFor_one hone] at hsent
    refine ⟨_, congrArg Host.Outcome.next ((if_pos (by simp [hsend, hair])).trans ((contentionSend_eq hq hsound).trans (if_neg hone))),
      hsent.txq, rfl, hsent.counted, ?_⟩
    exact (congrArg (fun m => mget 0 m x.dst) hsent.seqs).trans (mget_mput_same ..)
  · have hexec : exec .waylineAckTimeout s = .next (txFail s) :=
      congrArg Host.Outcome.next ((if_pos (up_of_on hon)).trans (wayOn_onCtlOnce hon _ _))
    exact ⟨_, _, hexec.trans (congrArg Host.Outcome.next (txFail_first hair hfirst)), rfl, rfl, rfl⟩
  · have hexec : exec .waylineAckTimeout s = .next (if x.host then endDatagram 1 (frameLost s x) else frameLost s x) :=
      congrArg Host.Outcome.next ((if_pos (up_of_on hon)).trans ((wayOn_onCtlOnce hon _ _).trans (txFail_fourth hair hfourth)))
    have hway : (if x.host then endDatagram 1 (frameLost s x) else frameLost s x).way = { s.way with air := none } := by
      split
      · exact frameLost_way s x
      · exact frameLost_way s x
    rw [hexec]
    refine ⟨_, rfl, (congrArg WaySt.air hway :), (congrArg WaySt.txq hway :), ?_, fun hhost => ?_⟩
    · split
      · exact (endDatagram_fld 1 _ 0).trans (frameLost_counts s x)
      · exact frameLost_counts s x
    · rw [if_pos hhost]
      exact ⟨put_fld_same _ F.WAY_TXCTL_RESULT 0 1, bne_eq_false_iff_eq.2 (endDatagram_ends 1 _)⟩
  · exact congrArg Host.Outcome.next ((if_pos hsend).trans (if_pos hoff))
  · obtain ⟨xs, hq, hflds, hdcs, hall⟩ := queueDiscovery_spec s
    refine ⟨_, xs, congrArg Host.Outcome.next ((if_pos hsend).trans (if_neg hdisc)), hq, hflds, hdcs, fun x hx => ?_⟩
    obtain ⟨dc, count, rfl⟩ := hall x hx
    exact ⟨rfl, rfl, rfl, rfl⟩
  · exact ⟨_, congrArg Host.Outcome.next ((if_pos hon).trans (txGo_pending hgo)), rfl,
      txNamed_writes s pri.isLt len.isLt dst.isLt⟩
  · refine ⟨_, congrArg Host.Outcome.next ((if_pos hon).trans ((txGo_asks hgo).trans
      (onCtl_waits (s := txAsked pri len dst.toNat s) hon hoff _ _))), rfl, ?_⟩
    exact Writes_of_flds (Writes_snoc (txNamed_writes s pri.isLt len.isLt dst.isLt) (by decide : 1 < 2 ^ F.WAY_TXCTL_GO.len)) rfl
  · have hrefused := txSend_refused (s := txAsked pri len dst.toNat s) (pri := pri) (len := len) (dst := dst.toNat) (by
      rcases hbad with h | h | h | ⟨hone, hnone⟩
      · exact .inl h
      · exact .inr (.inl h)
      · exact .inr (.inr (.inl h))
      · exact .inr (.inr (.inr ⟨fun heq => hone (BitVec.eq_of_toNat_eq heq), hnone⟩)))
    refine ⟨_, congrArg Host.Outcome.next ((if_pos (mainOn_of_ctlOn hon)).trans ((txGo_asks hgo).trans
      ((onCtl_on (s := txAsked pri len dst.toNat s) hon _ _).trans hrefused))), rfl, ?_⟩
    have hasked : Writes _ s (txAsked pri len dst.toNat s) := Writes_snoc (txNamed_writes s pri.isLt len.isLt dst.isLt) (by decide)
    have hends := Writes_again (v := 0) (k := []) hasked (by decide)
    exact Writes_snoc (v := 2) hends (by decide)
  · obtain ⟨x, hq, hhost, htype, hdst, hpri, hdata, hflds⟩ := txSend_queues (s := txAsked pri len dst.toNat s) (pri := pri) hlo hhi hkey
      (hknown.imp (congrArg BitVec.toNat) id)
    refine ⟨_, x, congrArg Host.Outcome.next ((if_pos (mainOn_of_ctlOn hon)).trans ((txGo_asks hgo).trans
      (onCtl_on (s := txAsked pri len dst.toNat s) hon _ _))), hq, hhost, htype, hdst, hpri, ?_, ?_⟩
    · rw [hdata, windowBytes_asked]
    · exact Writes_of_flds (Writes_snoc (txNamed_writes s pri.isLt len.isLt dst.isLt) (by decide : 1 < 2 ^ F.WAY_TXCTL_GO.len)) hflds
  · obtain ⟨hflds, havail, hdepth⟩ := showRx_spec { s with way := { s.way with rxq := s.way.rxq.drop 1 } }
    have hrxq : (rxNext s).way.rxq = s.way.rxq.drop 1 := (congrArg (fun u : State => u.way.rxq) hflds :)
    refine ⟨rxNext s, congrArg Host.Outcome.next (if_pos hon), hrxq, havail, ?_, ?_⟩
    · exact hdepth.trans (congrArg (· % 8) (List.length_drop ..))
    · rw [hrxq]
      exact hflds

end Sys2Proof.Machine
end

section
/-! Key messages: the checks of a submitted one, and the application of an accepted one (R327 to R331, R20). -/

namespace Sys2Proof.Machine

/-! ### The Vault's write port -/

theorem onVault_free {rank : Nat} {s : State} (h : vaultFree s rank = true) (op : FwOp) (f : State → State) :
    onVault rank op f s = f s := if_pos h

theorem onVault_waits {rank : Nat} {s : State} (h : vaultFree s rank = false) (op : FwOp) (f : State → State) :
    onVault rank op f s = { s with host := { s.host with waiting := s.host.waiting ++ [op] } } := if_neg (by simp [h])

/-- A claim of the strongbox waits for a final checkpoint alone. -/
theorem vaultFree_strongbox (s : State) : vaultFree s 3 = !s.pwr.finalCk := by simp [vaultFree]

/-! ### Byte windows -/

/-- A byte window that no write has touched. -/
theorem windowBytes_kept {s t : State} {l : List Fld} (h : WritesOnly l s t) (f : Fld) (n : Nat)
    (hf : (l.all fun g => g.id != f.id) = true := by decide) : windowBytes t f n = windowBytes s f n :=
  congrArg wordsToLe (List.map_congr_left fun i _ => h.fld i hf)

theorem ofLe_lt (l : List Nat) : ofLe l < 256 ^ l.length := by
  induction l with
  | nil => decide
  | cons b l ih =>
    have hbyte : b % 256 < 256 := Nat.mod_lt _ (by decide)
    show b % 256 + 256 * ofLe l < 256 ^ (l.length + 1)
    rw [Nat.pow_succ]
    omega

/-! ### The checks -/

section Checks

variable {s : State} {n : Nat}

/-- The message that SBX_MWIN holds. -/
def messageIn (s : State) (n : Nat) : List Nat := (windowBytes s F.SBX_MWIN_DATA 64).take n

/-- The counter of a message. -/
def messageCount (m : List Nat) : Nat := ofLe ((m.drop 0x10).take 4)

theorem messageCount_lt (m : List Nat) : messageCount m < 2 ^ 32 :=
  (ofLe_lt _).trans_le ((Nat.pow_le_pow_right (by decide) (List.length_take_le 4 _)).trans (by decide))

/-- The counter stands in the first bytes of a message that is long enough. -/
theorem messageCount_take (m : List Nat) (hn : 20 ≤ n) : messageCount (m.take n) = messageCount m := by
  unfold messageCount
  rw [List.drop_take, List.take_take, Nat.min_eq_left (by omega)]

/-- The checks read neither MLEN nor what they write. -/
theorem checkMessage_put (s : State) (n v : Nat) : checkMessage (s.put F.SBX_MCTL_MLEN 0 v) n = checkMessage s n := by
  have honly : WritesOnly [F.SBX_MCTL_MLEN] s (s.put F.SBX_MCTL_MLEN 0 v) := .of_put s 0 v (by decide)
  unfold checkMessage authorityKey lcs
  rw [windowBytes_kept honly F.SBX_MWIN_DATA, honly.bit 0, honly.fld 0, honly.fld 0, honly.bit 0]
  rfl

/-- The codes of Table 16-5. -/
theorem checkMessage_code {c : Nat} (h : checkMessage s n = .inl c) : c ≤ 8 := by
  unfold checkMessage at h
  dsimp only at h
  split at h
  · cases h
    decide
  split at h
  · cases h
    decide
  split at h
  · cases h
    decide
  split at h
  · cases h
    decide
  split at h
  · cases h
    decide
  split at h
  · cases h
    decide
  split at h
  · cases h
    decide
  split at h
  · cases h
    decide
  · cases h

/-- An accepted message is well formed, and its counter is above the last. -/
theorem checkMessage_accepts {x : KeyMsg} (h : checkMessage s n = .inr x) :
    messageOk (messageIn s n) n = true ∧ s.fld F.SBX_SCNT_DATA < messageCount (messageIn s n) := by
  unfold checkMessage at h
  dsimp only at h
  split at h
  · cases h
  split at h
  · cases h
  next hform =>
    split at h
    · cases h
    split at h
    · cases h
    split at h
    · cases h
    split at h
    · cases h
    next hnew => exact ⟨by simpa [messageIn] using hform, Nat.not_le.1 hnew⟩

/-- A well-formed message has its header and its tag. -/
theorem messageOk_length {m : List Nat} (h : messageOk m n = true) : 56 ≤ n := by
  unfold messageOk at h
  simp only [Bool.and_eq_true, beq_iff_eq] at h
  omega

end Checks

/-! ### SUBMIT -/

section Submit

variable {s : State} {n : Nat}

theorem keyCheck_none (s : State) : keyCheck 0 s = s.put F.SBX_MCTL_MLEN 0 0 := rfl

theorem keyCheck_refuses {c : Nat} (hn : n ≠ 0) (h : checkMessage s n = .inl c) :
    keyCheck n s = raise 74 noDetail (((s.put F.SBX_MCTL_MLEN 0 n).put F.SBX_MCTL_RESULT 0 c).put F.SBX_ST_REFL 0 1) := by
  refine (if_neg hn).trans ?_
  rw [checkMessage_put, h]

/-- An accepted message is BUSY and takes its counter. -/
def keyCounted (n : Nat) (s : State) : State :=
  (((s.put F.SBX_MCTL_MLEN 0 n).put F.SBX_MCTL_RESULT 0 0).put F.SBX_MCTL_BUSY 0 1).put F.SBX_SCNT_DATA 0
    (messageCount (windowBytes (s.put F.SBX_MCTL_MLEN 0 n) F.SBX_MWIN_DATA 64))

theorem keyCheck_accepts {x : KeyMsg} (hn : n ≠ 0) (h : checkMessage s n = .inr x) : ∃ b : Bool,
    keyCheck n s = { (if b then (keyCounted n s).put F.SBX_ST_ULOCK 0 0 else keyCounted n s) with
      sbx := { s.sbx with msg := some x, pending := x.bundle.orElse fun _ => s.sbx.pending } } := by
  refine ⟨decide ((windowBytes (s.put F.SBX_MCTL_MLEN 0 n) F.SBX_MWIN_DATA 64).getD 6 0 = 0), (if_neg hn).trans ?_⟩
  rw [checkMessage_put, h]
  dsimp only
  by_cases hzero : (windowBytes (s.put F.SBX_MCTL_MLEN 0 n) F.SBX_MWIN_DATA 64).getD 6 0 = 0
  · rw [if_pos hzero, if_pos (by simpa using hzero)]
    rfl
  · rw [if_neg hzero, if_neg (by simpa using hzero)]
    rfl

theorem keySubmit_refuses {c : Nat} (hn : n ≠ 0) (h : checkMessage s n = .inl c) : keySubmit n s = keyCheck n s := by
  unfold keySubmit
  rw [if_neg hn, h]

theorem keySubmit_asks {x : KeyMsg} (hn : n ≠ 0) (h : checkMessage s n = .inr x) :
    keySubmit n s = onVault 3 (.keySubmit n) (keyCheck n) s := by
  unfold keySubmit
  rw [if_neg hn, h]

theorem keyCounted_spec {x : KeyMsg} (h : checkMessage s n = .inr x) :
    (keyCounted n s).bit F.SBX_MCTL_BUSY = true ∧ (keyCounted n s).fld F.SBX_MCTL_RESULT = 0 ∧
    s.fld F.SBX_SCNT_DATA < (keyCounted n s).fld F.SBX_SCNT_DATA := by
  have honly : WritesOnly [F.SBX_MCTL_MLEN] s (s.put F.SBX_MCTL_MLEN 0 n) := .of_put s 0 n (by decide)
  have hlast : WritesOnly [F.SBX_SCNT_DATA] (((s.put F.SBX_MCTL_MLEN 0 n).put F.SBX_MCTL_RESULT 0 0).put F.SBX_MCTL_BUSY 0 1)
      (keyCounted n s) := .of_put _ 0 _ (by decide)
  obtain ⟨hform, hnew⟩ := checkMessage_accepts h
  refine ⟨(hlast.bit 0).trans (bit_of_fld_one (put_fld_same ..)), (hlast.fld 0).trans ?_, ?_⟩
  · exact (put_fld_field _ F.SBX_MCTL_BUSY _ 0 0 1 (by decide)).trans (put_fld_same ..)
  · have hcount : (keyCounted n s).fld F.SBX_SCNT_DATA = messageCount (messageIn s n) := by
      refine (put_fld_same ..).trans ((Nat.mod_eq_of_lt (messageCount_lt _)).trans ?_)
      rw [windowBytes_kept honly F.SBX_MWIN_DATA]
      exact (messageCount_take _ (by have := messageOk_length hform; omega)).symm
    exact hnew.trans_eq hcount.symm

end Submit

/-! ### Application -/

section Apply

variable {s : State}

/-- The slot that an entry makes. -/
def entrySlot (s : State) (e : KeyEntry) : Option KeySlot :=
  e.key.map fun k => ⟨k, 0, s.fld F.SBX_SCNT_DATA, slotFenced s e.slot false, slotFenced s e.slot true⟩

theorem setSlotKey_flds (i : Nat) (k : Option KeySlot) (s : State) : (setSlotKey i k s).flds = s.flds := rfl

theorem setSlotKey_other {i j : Nat} (k : Option KeySlot) (s : State) (hne : j ≠ i) :
    mget none (setSlotKey i k s).sbx.slots j = mget none s.sbx.slots j := mget_mput_other _ _ _ _ _ _ hne

theorem writeEntries_one (e : KeyEntry) (s : State) : mget none (writeEntries [e] s).sbx.slots e.slot = entrySlot s e := by
  refine (mget_mput_same ..).trans ?_
  unfold entrySlot
  cases e.key with
  | none => rfl
  | some k => simp

/-- Entries are written in the slots alone. -/
theorem writeEntries_eq (es : List KeyEntry) (s : State) :
    writeEntries es s = { s with sbx := { s.sbx with slots := (writeEntries es s).sbx.slots } } :=
  List.foldlRecOn (motive := fun u : State => u = { s with sbx := { s.sbx with slots := u.sbx.slots } }) es _ rfl fun u hu e _ => by
    unfold setSlotKey
    rw [hu]

theorem keyApplied_none (h : s.sbx.msg = none) : keyApplied s = s := by
  unfold keyApplied
  rw [h]

/-- The message is taken, and no longer BUSY. -/
def keyTaken (s : State) : State := { s with sbx := { s.sbx with msg := none } }.put F.SBX_MCTL_BUSY 0 0

theorem keyApplied_keys {es : List KeyEntry} (h : s.sbx.msg = some ⟨none, es⟩) :
    keyApplied s = raise 73 noDetail (writeEntries es (keyTaken s)) := by
  unfold keyApplied
  rw [h]
  rfl

theorem keyApplied_bundle {b : Nat × Nat} {es : List KeyEntry} (h : s.sbx.msg = some ⟨some b, es⟩) :
    keyApplied s = applyBundle b.1 b.2 es (keyTaken s) := by
  unfold keyApplied
  rw [h]
  rfl

/-- The strongbox as a bundle makes it, before its entries. -/
def bundleTaken (target : Nat) (s : State) : State :=
  let p := if target = 4 then (0, s) else draw s
  { p.2 with sbx := { p.2.sbx with slots := [], kb := if target = 4 then none else some p.1
                                   fuse := s.sbx.fuse || target == 4, pending := none, wipe := 0, reported := false } }

/-- The new life-cycle state and mode are shown, and the wipe has ended. -/
def bundleShown (target mode : Nat) (s : State) : State :=
  (((((bundleTaken target s).put F.SBX_ST_LCS 0 target).put F.SBX_ST_MODE 0 mode).put F.SBX_ST_WIPED 0 0).put F.SBX_ST_WCAUSE 0 0).put
    F.PRT_ST_WLINE 0 0

/-- Its entries follow, but for RETIRED. -/
def bundleWritten (target mode : Nat) (es : List KeyEntry) (s : State) : State :=
  if target = 4 then bundleShown target mode s else writeEntries es (bundleShown target mode s)

theorem applyBundle_eq (target mode : Nat) (es : List KeyEntry) (s : State) : applyBundle target mode es s =
    if decide (lcs s ≠ target) then
      raise 75 target ((raise 73 noDetail (bundleWritten target mode es s)).put F.SBX_ST_LCL 0 1)
    else raise 73 noDetail (bundleWritten target mode es s) := rfl

theorem bundleTaken_flds (target : Nat) (s : State) : (bundleTaken target s).flds = s.flds := by
  unfold bundleTaken
  dsimp only
  split <;> rfl

theorem bundleTaken_sbx (target : Nat) (s : State) : (bundleTaken target s).sbx = { s.sbx with
    slots := [], kb := if target = 4 then none else some (Config.random s.rng).toNat, fuse := s.sbx.fuse || target == 4
    pending := none, wipe := 0, reported := false } := by
  unfold bundleTaken
  dsimp only
  split <;> rfl

theorem bundleWritten_flds (target mode : Nat) (es : List KeyEntry) (s : State) :
    (bundleWritten target mode es s).flds = (bundleShown target mode s).flds := by
  unfold bundleWritten
  split
  · rfl
  · rw [writeEntries_eq]

theorem bundleWritten_sbx (target mode : Nat) (es : List KeyEntry) (s : State) : (bundleWritten target mode es s).sbx =
    { (bundleTaken target s).sbx with slots := (bundleWritten target mode es s).sbx.slots } ∧
    (target = 4 → (bundleWritten target mode es s).sbx.slots = []) := by
  unfold bundleWritten
  split
  next h => exact ⟨rfl, fun _ => congrArg SbxSt.slots (bundleTaken_sbx target s)⟩
  next h => exact ⟨(congrArg State.sbx (writeEntries_eq es (bundleShown target mode s)) :), fun h4 => absurd h4 h⟩

theorem bundleShown_fld (target mode : Nat) (s : State) : (bundleShown target mode s).fld F.SBX_ST_LCS = target % 8 ∧
    (bundleShown target mode s).fld F.SBX_ST_MODE = mode % 2 ∧ (bundleShown target mode s).bit F.SBX_ST_WIPED = false ∧
    (bundleShown target mode s).fld F.SBX_MCTL_BUSY = s.fld F.SBX_MCTL_BUSY := by
  have hlast : WritesOnly [F.SBX_ST_WCAUSE, F.PRT_ST_WLINE]
      ((((bundleTaken target s).put F.SBX_ST_LCS 0 target).put F.SBX_ST_MODE 0 mode).put F.SBX_ST_WIPED 0 0)
      (bundleShown target mode s) := (WritesOnly.of_put _ 0 0 (by decide)).trans (.of_put _ 0 0 (by decide))
  have hmode : WritesOnly [F.SBX_ST_WIPED, F.SBX_ST_WCAUSE, F.PRT_ST_WLINE]
      (((bundleTaken target s).put F.SBX_ST_LCS 0 target).put F.SBX_ST_MODE 0 mode) (bundleShown target mode s) :=
    (WritesOnly.of_put _ 0 0 (by decide)).trans (hlast.mono (by decide))
  have hlcs : WritesOnly [F.SBX_ST_MODE, F.SBX_ST_WIPED, F.SBX_ST_WCAUSE, F.PRT_ST_WLINE]
      ((bundleTaken target s).put F.SBX_ST_LCS 0 target) (bundleShown target mode s) :=
    (WritesOnly.of_put _ 0 mode (by decide)).trans (hmode.mono (by decide))
  have hall : WritesOnly [F.SBX_ST_LCS, F.SBX_ST_MODE, F.SBX_ST_WIPED, F.SBX_ST_WCAUSE, F.PRT_ST_WLINE]
      (bundleTaken target s) (bundleShown target mode s) := (WritesOnly.of_put _ 0 target (by decide)).trans (hlcs.mono (by decide))
  refine ⟨(hlcs.fld 0).trans (put_fld_same ..), (hmode.fld 0).trans (put_fld_same ..), ?_, (hall.fld 0).trans ?_⟩
  · exact bne_eq_false_iff_eq.2 ((hlast.fld 0).trans (put_fld_same ..))
  · exact congrArg (fun m => fget m F.SBX_MCTL_BUSY 0) (bundleTaken_flds target s)

/-- What follows the entries shows in events and LCL alone. -/
theorem applyBundle_shows (target mode : Nat) (es : List KeyEntry) (s : State) :
    Shows (F.SBX_ST_LCL :: evtNums) (bundleWritten target mode es s) (applyBundle target mode es s) := by
  rw [applyBundle_eq]
  have h73 := (Shows.refl (F.SBX_ST_LCL :: evtNums) (bundleWritten target mode es s)).after_raise (e := 73) (d := noDetail)
  exact (h73.put (g := F.SBX_ST_LCL)).after_raise.ite h73

theorem applyBundle_latches {target : Nat} (mode : Nat) (es : List KeyEntry) (hchange : lcs s ≠ target) :
    (applyBundle target mode es s).bit F.SBX_ST_LCL = true := by
  rw [applyBundle_eq, if_pos (decide_eq_true hchange)]
  exact (raise_bit_kept 75 target _ 0).trans (bit_of_fld_one (put_fld_same ..))

end Apply

/-- Settles O56: the checks read nothing that the answer writes; an accepted message was well formed and newer; a bundle makes the
strongbox anew and only then writes its entries. -/
theorem keyMessagesAreCheckedAndApplied : Obligations.KeyMessagesAreCheckedAndApplied := by
  refine ⟨fun s n hon => ?_, fun s hoff => ?_, fun s hon hck hnone => ?_, fun s e hon hck hmsg => ?_,
    fun s target mode es hon hck htarget hmode hmsg => ?_⟩
  · have hexec : exec (.keyMessageSubmit n) s = .next (keySubmit n s) := congrArg Host.Outcome.next (onCtl_on hon _ _)
    refine ⟨fun hzero => ?_, fun c hn hcheck => ?_, fun x hn hcheck hbusy => ?_, fun x hn hcheck hfree => ?_⟩
    · rw [hexec, hzero]
      exact ⟨_, rfl, rfl, Writes_put s F.SBX_MCTL_MLEN 0 0 (by decide)⟩
    · rw [hexec, keySubmit_refuses hn hcheck, keyCheck_refuses hn hcheck]
      refine ⟨_, rfl, rfl, Writes_snoc (Writes_snoc (Writes_put s F.SBX_MCTL_MLEN 0 n n.isLt) ?_) (by decide)⟩
      exact (checkMessage_code hcheck).trans_lt (by decide)
    · rw [hexec, keySubmit_asks hn hcheck, onVault_waits hbusy]
    · obtain ⟨b, heq⟩ := keyCheck_accepts hn hcheck
      obtain ⟨hbusy, hresult, hcount⟩ := keyCounted_spec hcheck
      have hulock : WritesOnly [F.SBX_ST_ULOCK] (keyCounted n s)
          (if b then (keyCounted n s).put F.SBX_ST_ULOCK 0 0 else keyCounted n s) := by
        split
        · exact .of_put _ 0 0 (by decide)
        · exact .refl _ _
      rw [hexec, keySubmit_asks hn hcheck, onVault_free hfree, heq]
      refine ⟨_, rfl, rfl, (hulock.bit 0).trans hbusy, (hulock.fld 0).trans hresult, hcount.trans_eq (hulock.fld 0).symm, rfl,
        fun hsome => ?_, fun hkeys => ?_⟩
      · obtain ⟨p, hp⟩ := Option.ne_none_iff_exists'.1 hsome
        show x.bundle.orElse _ = x.bundle
        rw [hp]
        rfl
      · show x.bundle.orElse _ = s.sbx.pending
        rw [hkeys]
        rfl
  · refine congrArg Host.Outcome.next (if_neg ?_)
    rw [vaultFree_strongbox]
    rcases hoff with hoff | hck
    · simp [hoff]
    · simp [hck]
  · refine congrArg Host.Outcome.next ((if_pos ?_).trans (congrArg vaultFreed (keyApplied_none hnone)))
    rw [vaultFree_strongbox, hon, hck]
    rfl
  · have hexec : exec .keyMessageApplied s = .next (vaultFreed (keyApplied s)) :=
      congrArg Host.Outcome.next (if_pos (by rw [vaultFree_strongbox, hon, hck]; rfl))
    have hslot := writeEntries_one e (keyTaken s)
    rw [hexec, keyApplied_keys hmsg]
    refine ⟨_, rfl, ?_, ?_, ?_, fun x hx => ?_, fun j hj => setSlotKey_other _ _ hj⟩
    · exact Writes_put_of_flds F.SBX_MCTL_BUSY 0 0 rfl (by decide)
    · exact (congrArg (fun u : State => u.sbx.msg) (writeEntries_eq [e] (keyTaken s)) :)
    · rw [hslot]
      unfold entrySlot
      cases e.key <;> rfl
    · obtain ⟨k, -, rfl⟩ := Option.map_eq_some_iff.1 (hslot.symm.trans hx)
      rfl
  · have hexec : exec .keyMessageApplied s = .next (vaultFreed (keyApplied s)) :=
      congrArg Host.Outcome.next (if_pos (by rw [vaultFree_strongbox, hon, hck]; rfl))
    obtain ⟨hlcs, hmd, hwiped, hbusy⟩ := bundleShown_fld target mode (keyTaken s)
    obtain ⟨hsbx, hslots⟩ := bundleWritten_sbx target mode es (keyTaken s)
    rw [bundleTaken_sbx] at hsbx
    have hshows := applyBundle_shows target mode es (keyTaken s)
    have hbox : (applyBundle target mode es (keyTaken s)).sbx = (bundleWritten target mode es (keyTaken s)).sbx :=
      (congrArg State.sbx hshows.1 :)
    have hfld : ∀ f : Fld, (((F.SBX_ST_LCL :: evtNums).all fun g => g.id != f.id) = true) →
        (applyBundle target mode es (keyTaken s)).fld f = (bundleShown target mode (keyTaken s)).fld f := fun f hf =>
      (hshows.only.fld 0 hf).trans (congrArg (fun m => fget m f 0) (bundleWritten_flds ..))
    rw [hexec, keyApplied_bundle hmsg]
    refine ⟨_, rfl, ?_, ?_, ?_, ?_, ?_, ?_, ?_, ?_, fun h4 => ?_, fun hchange => ?_⟩
    · exact (hfld _ (by decide)).trans (hlcs.trans (Nat.mod_eq_of_lt (by omega)))
    · exact (hfld _ (by decide)).trans (hmd.trans (Nat.mod_eq_of_lt hmode))
    · exact (congrArg (· != 0) (hfld F.SBX_ST_WIPED (by decide))).trans hwiped
    · exact bne_eq_false_iff_eq.2 ((hfld _ (by decide)).trans (hbusy.trans (put_fld_same ..)))
    · rw [hbox, hsbx]
    · rw [hbox, hsbx]
    · rw [hbox, hsbx]
      rfl
    · rw [hbox, hsbx]
      rfl
    · rw [hbox, hslots h4]
    · refine applyBundle_latches mode es fun heq => hchange (heq.symm.trans ?_)
      exact put_fld_field _ F.SBX_MCTL_BUSY _ 0 0 0 (by decide)

end Sys2Proof.Machine
end

section
/-! Privileged sessions, the Open keys and the passport (R334, R336 to R338). -/

namespace Sys2Proof.Machine

/-! ### Sessions -/

section Sessions

variable {s : State}

theorem leBytes_length (n v : Nat) : (leBytes n v).length = n := by
  induction n generalizing v with
  | zero => rfl
  | succ n ih => exact congrArg (· + 1) (ih _)

theorem leToWords_length (n : Nat) (l : List Nat) : (leToWords n l).length = n := by
  induction n generalizing l with
  | zero => rfl
  | succ n ih => exact congrArg (· + 1) (ih _)

/-- Bytes posted in a window write its first words. -/
theorem postBytes_spares (f : Fld) (l : List Nat) (s : State) :
    Spares ((List.range ((l.length + 3) / 4)).map fun k => (f, k)) s (postBytes f l s) := by
  refine List.foldlRecOn (motive := fun u => Spares _ s u) _ _ (Spares_refl _ s) fun u hu p hp => ?_
  refine Spares_trans hu (Spares_mono (List.cons_subset.2 ⟨List.mem_map.2 ⟨p.2, List.mem_range.2 ?_, rfl⟩, List.nil_subset _⟩) (Spares_put u f p.2 p.1))
  exact (List.snd_lt_of_mem_zipIdx hp).trans_eq (by rw [leToWords_length, Nat.add_zero])

theorem newNonce_only (s : State) : WritesOnly [F.SBX_NONCE_DATA] s (newNonce s) :=
  (postBytes_only F.SBX_NONCE_DATA (leBytes 16 (draw s).1) (draw s).2).2

theorem newNonce_spares (s : State) : Spares ((List.range 4).map fun k => (F.SBX_NONCE_DATA, k)) s (newNonce s) := by
  have h := postBytes_spares F.SBX_NONCE_DATA (leBytes 16 (draw s).1) (draw s).2
  rw [leBytes_length] at h
  exact h

theorem newNonce_rng (s : State) : (newNonce s).rng = s.rng + 1 :=
  (congrArg State.rng (postBytes_only F.SBX_NONCE_DATA (leBytes 16 (draw s).1) (draw s).2).1 :)

theorem privOpen_locked (h : s.bit F.SBX_PRIV_LOCK = true) : privOpen s = newNonce s := if_pos h

theorem privOpen_grants (hfree : s.bit F.SBX_PRIV_LOCK = false) (h : lcs s = 0 ∨ lcs s = 3 ∨ tagOk s = true) :
    privOpen s = newNonce ((s.put F.SBX_PRIV_PRIV 0 1).put F.SBX_PRIV_FAILS 0 0) := (if_neg (by simp [hfree])).trans (if_pos h)

/-- A wrong tag is counted, and the third one locks. -/
def tagFailed (s : State) : State :=
  (s.put F.SBX_PRIV_FAILS 0 (min 3 (s.fld F.SBX_PRIV_FAILS + 1))).setBit F.SBX_PRIV_LOCK 0 (decide (3 ≤ s.fld F.SBX_PRIV_FAILS + 1))

theorem privOpen_fails (hfree : s.bit F.SBX_PRIV_LOCK = false) (h : ¬(lcs s = 0 ∨ lcs s = 3 ∨ tagOk s = true)) :
    privOpen s = newNonce (raise 76 noDetail (tagFailed s)) := (if_neg (by simp [hfree])).trans (if_neg h)

end Sessions

/-! ### Open keys -/

section OpenKeys

variable {erase : Bool} {i peer : Nat} {s : State}

/-- SBX_OPCTL reads as written. -/
def openNamed (erase : Bool) (i peer write : Nat) (s : State) : State :=
  (((s.setBit F.SBX_OPCTL_ERASE 0 erase).put F.SBX_OPCTL_SLOT 0 i).put F.SBX_OPCTL_PEER 0 peer).put F.SBX_OPCTL_WRITE 0 write

/-- The fields of SBX_OPCTL that name an operation. -/
def openFlds : List Fld := [F.SBX_OPCTL_ERASE, F.SBX_OPCTL_SLOT, F.SBX_OPCTL_PEER, F.SBX_OPCTL_WRITE]

theorem openNamed_only (erase : Bool) (i peer write : Nat) (s : State) : WritesOnly openFlds s (openNamed erase i peer write s) :=
  (((WritesOnly.of_put s 0 _ (by decide)).trans (.of_put _ 0 i (by decide))).trans (.of_put _ 0 peer (by decide))).trans
    (.of_put _ 0 write (by decide))

/-- What R337 refuses does not depend on what SBX_OPCTL reads. -/
theorem openBad_named (erase' : Bool) (i' peer' write : Nat) :
    openBad erase i peer (openNamed erase' i' peer' write s) = openBad erase i peer s := by
  have honly := openNamed_only erase' i' peer' write s
  unfold openBad openSlot openRefused lcs
  rw [honly.bit 0, honly.fld 0]
  rfl

/-- The key window is cleared. -/
def kwinCleared (s : State) : State := (List.range 4).foldl (fun s j => s.put F.SBX_KWIN_DATA j 0) s

theorem kwinCleared_zero (s : State) {k : Nat} (hk : k < 4) : (kwinCleared s).fld F.SBX_KWIN_DATA k = 0 :=
  foldl_put_fld_mem _ _ _ _ (List.mem_range.2 hk)

theorem kwinCleared_fld (s : State) {f : Fld} (j : Nat) (h : F.SBX_KWIN_DATA.id ≠ f.id) : (kwinCleared s).fld f j = s.fld f j :=
  foldl_put_fld_field _ _ _ _ _ _ h

theorem openWriteNow_refuses (hbad : openBad erase i peer s = true) :
    openWriteNow erase i peer s = (kwinCleared (openNamed erase i peer 0 s)).put F.SBX_OPCTL_REJ 0 1 := if_pos hbad

/-- The slot as it is written, with the key of the window. -/
def openSlotKey (erase : Bool) (i peer : Nat) (s : State) : Option KeySlot :=
  if erase then none
  else some ⟨windowBytes s F.SBX_KWIN_DATA 4, if 10 ≤ i then peer else 0, (mget none s.sbx.slots i).elim 0 (·.ver) + 1, false, false⟩

theorem openWriteNow_writes (hok : openBad erase i peer s = false) : openWriteNow erase i peer s =
    raise 78 i ((setSlotKey i (openSlotKey erase i peer s) (kwinCleared (openNamed erase i peer 0 s))).put F.SBX_OPCTL_REJ 0 0) :=
  if_neg (by simp [hok])

theorem kwinCleared_sbx (s : State) : (kwinCleared s).sbx = s.sbx :=
  (congrArg State.sbx ((FldsOnly.refl s).foldl (List.range 4) (g := fun s j => s.put F.SBX_KWIN_DATA j 0) fun _ _ hu => hu.put) :)

theorem exec_openKeyWrite {n : Fin 256} {p : BitVec 16} (hon : ctlOn s = true) (hpriv : privileged s = true) :
    exec (.openKeyWrite erase n p) s = .next (openWrite erase n p.toNat (openNamed erase n p.toNat 1 s)) :=
  congrArg Host.Outcome.next ((if_pos (host_request (mainOn_of_ctlOn hon) hpriv)).trans
    (onCtl_on (s := openNamed erase n p.toNat 1 s) hon _ _))

theorem openWrite_refused (hbad : openBad erase i peer s = true) : openWrite erase i peer s = openWriteNow erase i peer s :=
  if_pos hbad

theorem openWrite_asks (hok : openBad erase i peer s = false) :
    openWrite erase i peer s = onVault 3 (.openWrite erase i peer) (openWriteNow erase i peer) s := if_neg (by simp [hok])

/-- The slot that is written, and the others. -/
theorem setSlotKey_open (u : State) (hsbx : u.sbx = s.sbx) :
    (erase = true → mget none (setSlotKey i (openSlotKey erase i peer s) u).sbx.slots i = none) ∧
    (erase = false → ∃ x, mget none (setSlotKey i (openSlotKey erase i peer s) u).sbx.slots i = some x ∧
      x.key = windowBytes s F.SBX_KWIN_DATA 4 ∧ x.peer = if 10 ≤ i then peer else 0) ∧
    ∀ j, j ≠ i → mget none (setSlotKey i (openSlotKey erase i peer s) u).sbx.slots j = mget none s.sbx.slots j := by
  refine ⟨fun herase => ?_, fun hkeep => ?_, fun j hj => ?_⟩
  · refine (mget_mput_same ..).trans ?_
    rw [openSlotKey, if_pos herase]
    rfl
  · have hslot := mget_mput_same (none : Option KeySlot) u.sbx.slots i ((openSlotKey erase i peer s).map fun x : KeySlot =>
      { x with aBad := x.aBad || slotFenced u i false, bBad := x.bBad || slotFenced u i true })
    rw [openSlotKey, if_neg (by simp [hkeep])] at hslot ⊢
    exact ⟨_, hslot, rfl, rfl⟩
  · rw [setSlotKey_other _ _ hj, hsbx]

end OpenKeys

/-! ### The passport -/

section Passport

variable {s : State} {k : List Nat}

theorem passportRun_serves (hkey : slotKey s 1 = some k) (hblank : lcs s ≠ 0) (hretired : lcs s ≠ 4) :
    passportRun s = onVault 3 .passport (passportCount k) (s.put F.SBX_PCTL_PEND 0 0) := by
  unfold passportRun
  rw [hkey]
  exact if_neg (by simp [hblank, hretired])

theorem passportRun_refuses (h : slotKey s 1 = none ∨ lcs s = 0 ∨ lcs s = 4) :
    passportRun s = (s.put F.SBX_PCTL_PEND 0 0).put F.SBX_PCTL_PRES 0 1 := by
  unfold passportRun
  dsimp only
  split
  · rfl
  next hkey =>
    refine if_pos (h.resolve_left ?_)
    simp [hkey]

/-- The count is raised, before the response is posted. -/
def passportCounted (s : State) : State :=
  { (s.put F.SBX_PCNT_DATA 0 ((s.fld F.SBX_PCNT_DATA + 1) % 2 ^ 32)).put F.SBX_PCTL_PRES 0 0 with
    sbx := { s.sbx with respT := some s.clk.now } }

theorem passportCount_posts (k : List Nat) (s : State) : FldsOnly (passportCounted s) (passportCount k s) ∧
    WritesOnly [F.SBX_PRESP_DATA] (passportCounted s) (passportCount k s) := postBytes_only ..

theorem passportCount_spec (k : List Nat) (s : State) :
    (passportCount k s).fld F.SBX_PCNT_DATA = (s.fld F.SBX_PCNT_DATA + 1) % 2 ^ 32 ∧ (passportCount k s).fld F.SBX_PCTL_PRES = 0 ∧
    (passportCount k s).fld F.SBX_PCTL_PEND = s.fld F.SBX_PCTL_PEND ∧ (passportCount k s).sbx.respT = some s.clk.now := by
  obtain ⟨hflds, honly⟩ := passportCount_posts k s
  refine ⟨(honly.fld 0).trans ?_, (honly.fld 0).trans (put_fld_same _ F.SBX_PCTL_PRES 0 0), (honly.fld 0).trans ?_,
    (congrArg (fun u : State => u.sbx.respT) hflds :)⟩
  · refine (put_fld_field _ F.SBX_PCTL_PRES F.SBX_PCNT_DATA 0 0 0 (by decide)).trans ((put_fld_same s F.SBX_PCNT_DATA 0 _).trans ?_)
    exact Nat.mod_mod _ _
  · refine (put_fld_field _ F.SBX_PCTL_PRES F.SBX_PCTL_PEND 0 0 0 (by decide)).trans ?_
    exact put_fld_field _ F.SBX_PCNT_DATA _ 0 0 _ (by decide)

theorem passportRequest_held (hkey : slotKey s 1 = some k) (hblank : lcs s ≠ 0) (hretired : lcs s ≠ 4)
    (hsoon : passportSoon s = true) : passportRequest s = s.put F.SBX_PCTL_PEND 0 1 :=
  if_pos (by simp [hkey, hblank, hretired, hsoon])

theorem passportRequest_runs (h : slotKey s 1 = none ∨ lcs s = 0 ∨ lcs s = 4 ∨ passportSoon s = false) :
    passportRequest s = passportRun s := by
  refine if_neg ?_
  rcases h with h | h | h | h <;> simp [h]

end Passport

/-- Settles O57: an operation on Open keys is judged alike before and after SBX_OPCTL takes what was written; a passport that is
served answers alike whether it was held or not. -/
theorem privilegeOpenKeysAndPassport : Obligations.PrivilegeOpenKeysAndPassport := by
  refine ⟨fun s hon => ⟨fun hlock => ?_, fun hfree hok => ?_, fun hfree hblank hservice htag => ?_, ?_⟩,
    fun s => ⟨⟨_, rfl, rfl, Writes_put s F.SBX_PRIV_PRIV 0 0 (by decide)⟩, fun hlock => ?_⟩,
    fun s hpriv => ⟨congrArg Host.Outcome.next (if_neg (by simp [hpriv])), fun _ _ _ => congrArg Host.Outcome.next (if_neg (by simp [hpriv]))⟩,
    fun s erase i peer hon hpriv => ⟨fun hbad => ?_, fun hok hbusy => ?_, fun hok hvault => ?_⟩,
    fun s hon hpriv => ⟨fun hbad => ?_, fun hok hnext => ?_⟩, fun s k hon hkey hblank hretired => ⟨fun hsoon => ?_,
      fun hlate hbusy => ?_, fun hvault => ?_⟩, fun s hon hbad => ?_⟩
  · refine ⟨_, congrArg Host.Outcome.next ((if_pos hon).trans (privOpen_locked hlock)), (newNonce_only s).fld 0, newNonce_rng s,
      newNonce_spares s⟩
  · refine ⟨_, congrArg Host.Outcome.next ((if_pos hon).trans (privOpen_grants hfree hok)), ?_, ?_, newNonce_rng _⟩
    · refine ((newNonce_only _).bit 0).trans (bit_of_fld_one ?_)
      exact (put_fld_field _ _ _ _ _ _ (by decide)).trans (put_fld_same ..)
    · exact ((newNonce_only _).fld 0).trans (put_fld_same ..)
  · have hfails : ¬(lcs s = 0 ∨ lcs s = 3 ∨ tagOk s = true) := by simp [hblank, hservice, htag]
    refine ⟨_, congrArg Host.Outcome.next ((if_pos hon).trans (privOpen_fails hfree hfails)), ?_, ?_, ?_, ?_⟩
    · refine ((newNonce_only _).fld 0).trans ((raise_fld_kept 76 noDetail _ 0).trans ?_)
      exact (put_fld_field _ F.SBX_PRIV_LOCK _ 0 0 _ (by decide)).trans (put_fld_field _ _ _ _ _ _ (by decide))
    · refine ((newNonce_only _).fld 0).trans ((raise_fld_kept 76 noDetail _ 0).trans ?_)
      refine (put_fld_field _ F.SBX_PRIV_LOCK _ 0 0 _ (by decide)).trans ((put_fld_same ..).trans (Nat.mod_eq_of_lt ?_))
      exact (Nat.min_le_left ..).trans_lt (by decide)
    · refine ((newNonce_only _).bit 0).trans ((raise_bit_kept 76 noDetail _ 0).trans ((setBit_bit_same _ F.SBX_PRIV_LOCK 0 _ rfl).trans ?_))
      exact decide_eq_decide.2 (by omega)
    · exact (newNonce_rng _).trans (congrArg (· + 1) ((congrArg State.rng (raise_eq 76 noDetail (tagFailed s)) :)))
  · exact ⟨_, congrArg Host.Outcome.next (if_pos hon), rfl, Writes_put s F.SBX_PRIV_PRIV 0 0 (by decide)⟩
  · exact ⟨_, congrArg Host.Outcome.next (if_pos hlock), rfl,
      Writes_snoc (Writes_put s F.SBX_PRIV_LOCK 0 0 (by decide)) (by decide)⟩
  · have hbad' := (openBad_named (erase := erase) (i := i) (peer := peer.toNat) (s := s) erase i peer.toNat 1).trans hbad
    refine ⟨_, (exec_openKeyWrite hon hpriv).trans (congrArg Host.Outcome.next
      ((openWrite_refused hbad').trans (openWriteNow_refuses hbad'))), bit_of_fld_one (put_fld_same ..), ?_, fun k hk => ?_⟩
    · exact kwinCleared_sbx _
    · exact (put_fld_field _ _ _ _ _ _ (by decide)).trans (kwinCleared_zero _ hk)
  · have hok' := (openBad_named (erase := erase) (i := i) (peer := peer.toNat) (s := s) erase i peer.toNat 1).trans hok
    refine ⟨_, (exec_openKeyWrite hon hpriv).trans (congrArg Host.Outcome.next
      ((openWrite_asks hok').trans (onVault_waits (s := openNamed erase i peer.toNat 1 s) hbusy _ _))), rfl, ?_⟩
    exact bit_of_fld_one (put_fld_same _ F.SBX_OPCTL_WRITE 0 1)
  · have hok' := (openBad_named (erase := erase) (i := i) (peer := peer.toNat) (s := s) erase i peer.toNat 1).trans hok
    have hwin : windowBytes (openNamed erase i peer.toNat 1 s) F.SBX_KWIN_DATA 4 = windowBytes s F.SBX_KWIN_DATA 4 :=
      windowBytes_kept (openNamed_only erase i peer.toNat 1 s) F.SBX_KWIN_DATA 4
    obtain ⟨hgone, hkey, hother⟩ := setSlotKey_open (erase := erase) (i := i) (peer := peer.toNat) (s := openNamed erase i peer.toNat 1 s)
      (kwinCleared (openNamed erase i peer.toNat 0 (openNamed erase i peer.toNat 1 s))) (kwinCleared_sbx _)
    rw [hwin] at hkey
    refine ⟨_, (exec_openKeyWrite hon hpriv).trans (congrArg Host.Outcome.next ((openWrite_asks hok').trans
      ((onVault_free (s := openNamed erase i peer.toNat 1 s) hvault _ _).trans (openWriteNow_writes hok')))),
      bne_eq_false_iff_eq.2 (put_fld_same ..), bne_eq_false_iff_eq.2 ?_, fun k hk => ?_, hgone, hkey, hother⟩
    · refine (put_fld_field _ F.SBX_OPCTL_REJ _ 0 0 0 (by decide)).trans ((kwinCleared_fld _ 0 (by decide)).trans ?_)
      exact put_fld_same _ F.SBX_OPCTL_WRITE 0 0
    · exact (put_fld_field _ F.SBX_OPCTL_REJ _ 0 k 0 (by decide)).trans (kwinCleared_zero _ hk)
  · have hrefused : openPromote s = (s.put F.SBX_OPCTL_PROMOTE 0 0).put F.SBX_OPCTL_REJ 0 1 := if_pos (by
      rcases hbad with h | h <;> simp [h])
    exact ⟨_, congrArg Host.Outcome.next ((if_pos hpriv).trans ((onCtl_on hon _ _).trans hrefused)), rfl,
      Writes_snoc (Writes_put s F.SBX_OPCTL_PROMOTE 0 0 (by decide)) (by decide)⟩
  · have hwaits : openPromote s = raise 78 8 ((s.put F.SBX_OPCTL_PROMOTE 0 1).put F.SBX_OPCTL_REJ 0 0) := if_neg (by
      simp [hok, hnext])
    exact ⟨_, congrArg Host.Outcome.next ((if_pos hpriv).trans ((onCtl_on hon _ _).trans hwaits)), rfl,
      Writes_snoc (Writes_put s F.SBX_OPCTL_PROMOTE 0 1 (by decide)) (by decide)⟩
  · exact ⟨_, congrArg Host.Outcome.next ((onCtl_on hon _ _).trans (passportRequest_held hkey hblank hretired hsoon)), rfl,
      Writes_put s F.SBX_PCTL_PEND 0 1 (by decide)⟩
  · refine ⟨_, congrArg Host.Outcome.next ((onCtl_on hon _ _).trans ((passportRequest_runs (.inr (.inr (.inr hlate)))).trans
      ((passportRun_serves hkey hblank hretired).trans (onVault_waits (s := s.put F.SBX_PCTL_PEND 0 0) hbusy _ _)))), rfl, ?_⟩
    exact Writes_put_of_flds F.SBX_PCTL_PEND 0 0 rfl (by decide)
  · have hrun : passportRun s = passportCount k (s.put F.SBX_PCTL_PEND 0 0) :=
      (passportRun_serves hkey hblank hretired).trans (onVault_free (s := s.put F.SBX_PCTL_PEND 0 0) hvault _ _)
    obtain ⟨hcount, hpres, hpend, hresp⟩ := passportCount_spec k (s.put F.SBX_PCTL_PEND 0 0)
    refine ⟨_, fun hlate => ?_, fun hheld => ?_, hcount.trans ?_, hpres, bne_eq_false_iff_eq.2 (hpend.trans (put_fld_same ..)), hresp⟩
    · exact congrArg Host.Outcome.next ((onCtl_on hon _ _).trans ((passportRequest_runs (.inr (.inr (.inr hlate)))).trans hrun))
    · exact congrArg Host.Outcome.next ((if_pos hheld).trans ((onCtlOnce_on hon _ _).trans hrun))
    · rw [put_fld_field _ _ _ _ _ _ (by decide)]
  · refine ⟨_, congrArg Host.Outcome.next ((onCtl_on hon _ _).trans ((passportRequest_runs ?_).trans (passportRun_refuses hbad))), rfl,
      Writes_snoc (Writes_put s F.SBX_PCTL_PEND 0 0 (by decide)) (by decide)⟩
    exact hbad.imp_right fun h => h.imp_right .inl

end Sys2Proof.Machine
end

section
/-! What the porter's sources may change when they fire (R357 to R361), and what a lost KB shows (R325, R333). -/

namespace Sys2Proof.Machine

/-- The fields that a firing of the porter's sources, or a lost KB, may write. -/
def fireFlds : List Fld := evtNums ++ [F.PRT_SLT_TIME_TIME, F.PRT_SLT_DATE_DATE, F.PRT_SLT_INFO_SUBSEC, F.PRT_SLT_INFO_ONCELL,
  F.PRT_SLT_INFO_COUNT, F.PRT_SLT_INFO_FULL, F.PRT_SLT_INFO_CORRUPT, F.SBX_ST_ULOCK, F.PRT_ST_WLINE, F.SBX_ST_WIPED, F.SBX_ST_WCAUSE,
  F.SBX_ST_WIPEL, F.PRT_ST_PWRON]

/-- A record shows where it, or an earlier one, is dropped or suppressed. -/
theorem recordEvt_shows (s : State) (e : Nat) (x : LdgRec) : Shows evtNums s (recordEvt s e x) := by
  refine ⟨recordEvt_eq s e x, fun f i hf => ?_⟩
  unfold recordEvt putRec countDrop
  dsimp only
  split
  · split
    · exact (put_fld_field (s.inc F.LDG_CNT_DROPPED 0) F.LDG_ST_DROPL f 0 i 1 (hf _ (by decide))).trans
        (put_fld_field s F.LDG_CNT_DROPPED f 0 i _ (hf _ (by decide)))
    · rfl
  · exact (put_fld_field (s.inc F.LDG_CNT_SUPPR 0) F.LDG_ST_SUPPL f 0 i 1 (hf _ (by decide))).trans
      (put_fld_field s F.LDG_CNT_SUPPR f 0 i _ (hf _ (by decide)))

/-- Going from r to s, no field is written but those with these numbers, of the porter's own state nothing changes but the firings
that wait for the controller, and an absent KB stays absent. -/
structure FiresOnly (l : List Fld) (r s : State) : Prop where
  only : WritesOnly l r s
  prt : s.prt = { r.prt with todo := s.prt.todo }
  kb : r.sbx.kb = none → s.sbx.kb = none

namespace FiresOnly

variable {l : List Fld} {r s t : State}

theorem refl (l : List Fld) (s : State) : FiresOnly l s s := ⟨.refl l s, rfl, id⟩

theorem trans (hrs : FiresOnly l r s) (hst : FiresOnly l s t) : FiresOnly l r t :=
  ⟨hrs.only.trans hst.only, by rw [hst.prt, hrs.prt], hst.kb ∘ hrs.kb⟩

theorem ite {c : Prop} [Decidable c] (hs : FiresOnly l r s) (ht : FiresOnly l r t) : FiresOnly l r (if c then s else t) := by
  split
  · exact hs
  · exact ht

theorem foldl {α : Type} {g : State → α → State} (h : FiresOnly l r s) (as : List α)
    (hg : ∀ u a, FiresOnly l r u → FiresOnly l r (g u a)) : FiresOnly l r (as.foldl g s) :=
  List.foldlRecOn as g h fun u hu a _ => hg u a hu

theorem put {g : Fld} {i v : Nat} (h : FiresOnly l r s) (hg : g ∈ l := by decide) : FiresOnly l r (s.put g i v) :=
  h.trans ⟨.of_put s i v hg, rfl, id⟩

/-- KB is lost, or what the strongbox reports of it changes. -/
theorem withSbx {x : SbxSt} (h : FiresOnly l r s) (hx : s.sbx.kb = none → x.kb = none) : FiresOnly l r { s with sbx := x } :=
  h.trans ⟨.refl l s, rfl, hx⟩

/-- Firings that wait for the controller. -/
theorem withTodo {x : List (Nat × Nat)} (h : FiresOnly l r s) : FiresOnly l r { s with prt := { s.prt with todo := x } } :=
  h.trans ⟨.refl l s, rfl, id⟩

theorem of_shows (h : Shows l s t) : FiresOnly l s t :=
  ⟨h.only, by rw [h.1], fun hkb => (congrArg (fun u : State => u.sbx.kb) h.1).trans hkb⟩

theorem after_raise {e d : Nat} (h : FiresOnly l r s) (he : e < 128 := by decide) (hl : evtNums ⊆ l := by decide) :
    FiresOnly l r (raise e d s) := h.trans (of_shows ((Shows.refl l s).after_raise he hl))

theorem after_recordEvt {e : Nat} {x : LdgRec} (h : FiresOnly fireFlds r s) : FiresOnly fireFlds r (recordEvt s e x) :=
  h.trans (of_shows ((recordEvt_shows s e x).mono (by decide)))

theorem after_setPend (e : Nat) (h : FiresOnly fireFlds r s) : FiresOnly fireFlds r { s with flds := setPend s.flds e } :=
  h.put (g := F.EVT_PEND_PEND)

theorem after_capture {k : Nat} (h : FiresOnly fireFlds r s) : FiresOnly fireFlds r (capture k s) := by
  unfold capture State.inc State.addSat State.setBit
  exact h.put.ite h.put.put.put.put.put.put

theorem after_fireRecord {x : Nat × Nat} (h : FiresOnly fireFlds r s) : FiresOnly fireFlds r (fireRecord x s) := by
  unfold fireRecord releaseSlot
  exact h.after_recordEvt.put.put.put.put.ite h

theorem after_firmwareSteps {xs : List (Nat × Nat)} (h : FiresOnly fireFlds r s) : FiresOnly fireFlds r (firmwareSteps xs s) := by
  unfold firmwareSteps fireAlert fireLock
  exact ((h.foldl _ fun _ _ hu => hu.after_fireRecord).foldl _ fun _ _ hu => (hu.after_setPend _).ite hu).foldl _
    fun _ _ hu => hu.put.ite hu

theorem after_showWipe (h : FiresOnly fireFlds r s) : FiresOnly fireFlds r (showWipe s) := by
  unfold showWipe
  have hshown := (h.put (g := F.SBX_ST_WIPED) (i := 0) (v := 1)).put (g := F.SBX_ST_WCAUSE) (i := 0) (v := s.sbx.wipe)
  have hlatched := (hshown.withSbx (x := { s.sbx with reported := true }) id).put (g := F.SBX_ST_WIPEL) (i := 0) (v := 1)
  exact h.ite (hshown.ite (hlatched.after_raise (e := 72)))

theorem after_loseKb {cause : Nat} (h : FiresOnly fireFlds r s) : FiresOnly fireFlds r (loseKb cause s) := by
  unfold loseKb
  have hlost : FiresOnly fireFlds r { s with sbx := { s.sbx with kb := none, wipe := cause, reported := false } } := h.withSbx fun _ => rfl
  exact (hlost.after_showWipe.ite hlost).ite h

theorem after_fire {xs : List (Nat × Nat)} (h : FiresOnly fireFlds r s) : FiresOnly fireFlds r (fire xs s) := by
  unfold fire
  extract_lets s1 _ s2 s3
  have h1 : FiresOnly fireFlds r s1 := h.foldl _ fun _ _ hu => hu.after_capture.ite hu
  have h2 : FiresOnly fireFlds r s2 := h1.after_firmwareSteps.ite h1.withTodo
  have h3 : FiresOnly fireFlds r s3 := by
    unfold s3 tamperWipe
    exact (h2.put.after_loseKb.ite h2).ite h2
  exact h3.put.ite h3

end FiresOnly

/-- KB is absent once it is lost. -/
theorem loseKb_kb (cause : Nat) (s : State) : (loseKb cause s).sbx.kb = none := by
  unfold loseKb
  dsimp only
  split
  · have hlost := FiresOnly.refl fireFlds { s with sbx := { s.sbx with kb := none, wipe := cause, reported := false } }
    exact (hlost.after_showWipe.ite hlost).kb rfl
  next h => exact Option.not_isSome_iff_eq_none.1 h

/-- The latch of a cause of source 15. -/
def causeLatch (cause : Nat) (s : State) : State :=
  match cause with
  | 1 => s.put F.PRT_ST_OSCL 0 1
  | 2 => s.put F.PRT_ST_SHADL 0 1
  | 3 => s.put F.PRT_ST_BATL 0 1
  | 4 => s.put F.PRT_ST_WRAPL 0 1
  | _ => s

/-- Source 15 fires with the latch of its cause set. -/
theorem integrity_fires (cause : Nat) (s : State) : FiresOnly fireFlds (causeLatch cause s) (integrity cause s) := by
  unfold integrity causeLatch
  exact (FiresOnly.refl _ _).after_fire

end Sys2Proof.Machine
end

section
/-! The porter's supply, calendar and checks (R325, R341 to R348, R355). -/

namespace Sys2Proof.Machine

/-! ### Configuration latches -/

/-- Fields written one by one. -/
theorem foldl_put_all (v : Fld × Nat → Nat) (l : List (Fld × Nat)) (s : State) :
    Spares l s (l.foldl (fun s x => s.put x.1 x.2 (v x)) s) ∧ ((l.map fun x => x.1.id).Nodup →
      ∀ x ∈ l, (l.foldl (fun s x => s.put x.1 x.2 (v x)) s).fld x.1 x.2 = v x % 2 ^ x.1.len) := by
  induction l generalizing s with
  | nil => exact ⟨Spares_refl _ s, fun _ _ hx => absurd hx List.not_mem_nil⟩
  | cons y l ih =>
    obtain ⟨hspares, hvals⟩ := ih (s.put y.1 y.2 (v y))
    refine ⟨Spares_trans (Spares_mono (List.cons_subset_cons y (List.nil_subset l)) (Spares_put s y.1 y.2 (v y)))
      (Spares_mono (List.subset_cons_self y l) hspares), fun hnodup x hx => ?_⟩
    obtain ⟨hnew, hnodup⟩ := List.nodup_cons.1 hnodup
    rcases List.mem_cons.1 hx with rfl | hx
    · refine (hspares x.1 x.2 fun p hp => fkey_ne _ _ _ _ fun hid => hnew ?_).trans (put_fld_same ..)
      exact List.mem_map.2 ⟨p, hp, hid⟩
    · exact hvals hnodup x hx

theorem porterFlds_nodup : ∀ i : Fin 22, ((porterFlds i).map fun x => x.1.id).Nodup := by decide

theorem prtReset_lt : ∀ i : Fin 22, ∀ x ∈ porterFlds i, prtReset x.1 x.2 < 2 ^ x.1.len := by decide

/-- A field of a configuration register is one of its register's. -/
theorem porterFlds_mem {i : Nat} {x : Fld × Nat} (hx : x ∈ porterFlds i) : ∃ r ∈ porterRegs, x.1 ∈ r.fields := by
  obtain ⟨hcal, hway, -⟩ := porterRegs_fields _ (porterReg_mem i)
  obtain ⟨g, hg, rfl⟩ := List.mem_map.1 hx
  exact ⟨_, porterReg_mem i, fieldsAt_subset hcal hway _ (List.mem_filter.1 hg).1⟩

theorem porterRegs_kept : ∀ r ∈ porterRegs, ∀ f ∈ r.fields, f ∈ allFields ∧ f.cls = .V := by decide +kernel

/-- A latch is no field that a check, or a firing, shows. -/
theorem porterRegs_spared : ∀ r ∈ porterRegs, ∀ f ∈ r.fields, ∀ g ∈ F.PRT_ST_SHADL :: F.PRT_ST_OSF :: fireFlds, g.id ≠ f.id := by decide

theorem resetLatch_spec (i : Fin 22) (s : State) : ∀ x ∈ porterFlds i, (resetLatch i s).fld x.1 x.2 = prtReset x.1 x.2 := fun x hx =>
  ((foldl_put_all (fun x => prtReset x.1 x.2) (porterFlds i) s).2 (porterFlds_nodup i) x hx).trans
    (Nat.mod_eq_of_lt (prtReset_lt i x hx))

/-- A latch that is reset leaves the fields of the other classes. -/
theorem resetLatch_fld (i : Nat) (s : State) {f : Fld} (hf : f ∈ allFields) (hcls : f.cls ≠ .V) (j : Nat) :
    (resetLatch i s).fld f j = s.fld f j := by
  refine (foldl_put_all (fun x => prtReset x.1 x.2) (porterFlds i) s).1 f j fun x hx => fkey_ne _ _ _ _ fun hid => hcls ?_
  obtain ⟨r, hr, hmem⟩ := porterFlds_mem hx
  obtain ⟨hall, hv⟩ := porterRegs_kept r hr x.1 hmem
  rw [← field_eq_of_id hall hf hid]
  exact hv

/-! ### Supply -/

theorem porterClear_fld (s : State) {f : Fld} (hf : f ∈ allFields) (hcls : f.cls ≠ .V) (j : Nat) :
    (porterClear s).fld f j = if f.cls != .P then s.fld f j else f.reset := by
  refine Eq.trans ?_ (fget_keepCls hf (fun c => c != .P) s.flds j)
  exact List.foldlRecOn (motive := fun u : State => u.fld f j = fget (keepCls (fun c => c != .P) s.flds) f j) _ _ rfl
    fun u hu i _ => (resetLatch_fld i u hf hcls j).trans hu

theorem resetLatch_sbx (i : Nat) (s : State) : (resetLatch i s).sbx = s.sbx :=
  List.foldlRecOn (motive := fun u : State => u.sbx = s.sbx) (porterFlds i) (fun u x => u.put x.1 x.2 (prtReset x.1 x.2)) rfl
    fun _ hu _ _ => hu

theorem porterClear_sbx (s : State) : (porterClear s).sbx = s.sbx :=
  List.foldlRecOn (motive := fun u : State => u.sbx = s.sbx) _ _ rfl fun u hu i _ => (resetLatch_sbx i u).trans hu

theorem fireFlds_kept : ∀ g ∈ fireFlds, g ∈ allFields ∧ g.cls ≠ .I := by decide +kernel

theorem loseKb_configuration (cause : Nat) (s : State) {f : Fld} (hf : f ∈ allFields) (hcls : f.cls = .I) (j : Nat) :
    (loseKb cause s).fld f j = s.fld f j := by
  refine ((FiresOnly.refl fireFlds s).after_loseKb).only f j fun g hg hid => ?_
  obtain ⟨hall, hother⟩ := fireFlds_kept g hg
  exact hother (field_eq_of_id hall hf hid ▸ hcls)

/-! ### The calendar -/

theorem unbcd_bcd (n : Nat) : unbcd (bcd n) = n := by
  unfold unbcd bcd
  omega

theorem bcd_unbcd {n : Nat} (h : bcdOk n = true) : bcd (unbcd n) = n := by
  simp only [bcdOk, Bool.and_eq_true, decide_eq_true_eq] at h
  unfold unbcd bcd
  omega

theorem unbcd_lt {n : Nat} (h : bcdOk n = true) : unbcd n < 100 := by
  simp only [bcdOk, Bool.and_eq_true, decide_eq_true_eq] at h
  unfold unbcd
  omega

/-- A reading that the registers can hold. -/
structure Cal.Fits (c : Cal) : Prop where
  cent : c.cent < 2
  year : c.year < 100
  mon : c.mon < 13
  day : c.day < 32
  hour : c.hour < 24
  min : c.min < 60
  sec : c.sec < 60

theorem monthDays_le (cent year mon : Nat) : monthDays cent year mon ≤ 31 := by
  unfold monthDays
  repeat' split
  all_goals decide

theorem Cal.Fits.nextDay {c : Cal} (h : c.Fits) : (nextDay c).Fits := by
  obtain ⟨hcent, hyear, hmon, hday, hhour, hmin, hsec⟩ := h
  have hlen := monthDays_le c.cent c.year c.mon
  unfold Machine.nextDay
  split
  · exact ⟨hcent, hyear, hmon, by dsimp only; omega, hhour, hmin, hsec⟩
  · split
    · exact ⟨hcent, hyear, by dsimp only; omega, (by decide : 1 < 32), hhour, hmin, hsec⟩
    · split
      · exact ⟨hcent, by dsimp only; omega, (by decide : 1 < 13), (by decide : 1 < 32), hhour, hmin, hsec⟩
      · exact ⟨by dsimp only; omega, (by decide : 0 < 100), (by decide : 1 < 13), (by decide : 1 < 32), hhour, hmin, hsec⟩

theorem Cal.Fits.nextSecond {c : Cal} (h : c.Fits) : (nextSecond c).Fits := by
  have hzero : 0 < 60 := by decide
  unfold Machine.nextSecond
  split
  · exact { h with sec := by dsimp only; omega }
  · split
    · exact { h with min := by dsimp only; omega, sec := hzero }
    · split
      · exact { h with hour := by dsimp only; omega, min := hzero, sec := hzero }
      · exact { h.nextDay with hour := (by decide : 0 < 24), min := hzero, sec := hzero }

theorem dowOf_lt (c : Cal) : dowOf c < 8 := by
  unfold dowOf
  omega

/-- The fields that the calendar shows. -/
def calShown (c : Cal) : List (Fld × Nat × Nat) :=
  [(F.PRT_TIME_HOUR, 0, bcd c.hour), (F.PRT_TIME_MIN, 0, bcd c.min), (F.PRT_TIME_SEC, 0, bcd c.sec), (F.PRT_DATE_CENT, 0, c.cent),
    (F.PRT_DATE_YEAR, 0, bcd c.year), (F.PRT_DATE_MONTH, 0, bcd c.mon), (F.PRT_DATE_DAY, 0, bcd c.day), (F.PRT_DATE_DOW, 0, dowOf c)]

theorem bcd_lt {n a b : Nat} (h : n < a) (hb : bcd a ≤ b) : bcd n < b := by
  unfold bcd at *
  omega

theorem putCal_writes {c : Cal} (h : c.Fits) (s : State) : Writes (calShown c) s (putCal c s) := by
  have hhour := Writes_put s F.PRT_TIME_HOUR 0 (bcd c.hour) (bcd_lt h.hour (by decide))
  have hmin := Writes_snoc hhour (f := F.PRT_TIME_MIN) (i := 0) (bcd_lt h.min (by decide))
  have hsec := Writes_snoc hmin (f := F.PRT_TIME_SEC) (i := 0) (bcd_lt h.sec (by decide))
  have hcent := Writes_snoc hsec (f := F.PRT_DATE_CENT) (i := 0) h.cent
  have hyear : bcd c.year < 256 := by
    have := h.year
    unfold bcd
    omega
  have hdate := Writes_snoc (Writes_snoc (Writes_snoc hcent (f := F.PRT_DATE_YEAR) (i := 0) hyear) (f := F.PRT_DATE_MONTH) (i := 0)
    (bcd_lt h.mon (by decide))) (f := F.PRT_DATE_DAY) (i := 0) (bcd_lt h.day (by decide))
  exact Writes_of_flds (Writes_snoc hdate (f := F.PRT_DATE_DOW) (i := 0) (dowOf_lt c)) rfl

/-- The calendar as its registers show it, after it was set. -/
theorem getCal_of_writes {c : Cal} {s t : State} (hw : Writes (calShown c) s t) :
    getCal t = c ∧ t.fld F.PRT_DATE_DOW = dowOf c := by
  have hfld : ∀ {f : Fld} {v : Nat}, (f, 0, v) ∈ calShown c → t.fld f = v := fun hmem => Writes_fld hw hmem
  refine ⟨?_, hfld (by simp [calShown])⟩
  unfold getCal
  rw [hfld (f := F.PRT_DATE_CENT) (v := c.cent) (by simp [calShown]), hfld (f := F.PRT_DATE_YEAR) (v := bcd c.year) (by simp [calShown]),
    hfld (f := F.PRT_DATE_MONTH) (v := bcd c.mon) (by simp [calShown]), hfld (f := F.PRT_DATE_DAY) (v := bcd c.day) (by simp [calShown]),
    hfld (f := F.PRT_TIME_HOUR) (v := bcd c.hour) (by simp [calShown]), hfld (f := F.PRT_TIME_MIN) (v := bcd c.min) (by simp [calShown]),
    hfld (f := F.PRT_TIME_SEC) (v := bcd c.sec) (by simp [calShown]), unbcd_bcd, unbcd_bcd, unbcd_bcd,
    unbcd_bcd, unbcd_bcd, unbcd_bcd]

/-- Operations that leave the calendar's fields leave its reading. -/
theorem getCal_kept {l : List Fld} {s t : State} (h : WritesOnly l s t)
    (hl : ([F.PRT_TIME_HOUR, F.PRT_TIME_MIN, F.PRT_TIME_SEC, F.PRT_DATE_CENT, F.PRT_DATE_YEAR, F.PRT_DATE_MONTH, F.PRT_DATE_DAY].all
      fun f => l.all fun g => g.id != f.id) = true := by decide) : getCal t = getCal s := by
  have hfld : ∀ f ∈ [F.PRT_TIME_HOUR, F.PRT_TIME_MIN, F.PRT_TIME_SEC, F.PRT_DATE_CENT, F.PRT_DATE_YEAR, F.PRT_DATE_MONTH,
      F.PRT_DATE_DAY], t.fld f = s.fld f := fun f hf => h.fld 0 (List.all_eq_true.1 hl f hf)
  unfold getCal
  rw [hfld F.PRT_DATE_CENT (by decide), hfld F.PRT_DATE_YEAR (by decide), hfld F.PRT_DATE_MONTH (by decide),
    hfld F.PRT_DATE_DAY (by decide), hfld F.PRT_TIME_HOUR (by decide), hfld F.PRT_TIME_MIN (by decide), hfld F.PRT_TIME_SEC (by decide)]

/-- The reading that the holding set asks for. -/
def heldCal (s : State) : Cal :=
  ⟨s.fld F.PRT_HDATE_CENT, unbcd (s.fld F.PRT_HDATE_YEAR), unbcd (s.fld F.PRT_HDATE_MONTH), unbcd (s.fld F.PRT_HDATE_DAY),
    unbcd (s.fld F.PRT_HTIME_HOUR), unbcd (s.fld F.PRT_HTIME_MIN), unbcd (s.fld F.PRT_HTIME_SEC)⟩

theorem holdingOk_spec {s : State} (h : holdingOk s = true) : (heldCal s).Fits ∧
    ∀ f ∈ [F.PRT_HTIME_SEC, F.PRT_HTIME_MIN, F.PRT_HTIME_HOUR, F.PRT_HDATE_YEAR, F.PRT_HDATE_MONTH, F.PRT_HDATE_DAY],
      bcdOk (s.fld f) = true := by
  unfold holdingOk at h
  rw [Bool.and_eq_true, Bool.and_eq_true, Bool.and_eq_true, Bool.and_eq_true, Bool.and_eq_true, Bool.and_eq_true, Bool.and_eq_true] at h
  simp only [decide_eq_true_eq] at h
  obtain ⟨⟨⟨⟨⟨⟨⟨hbcd, hsec⟩, hmin⟩, hhour⟩, -⟩, hmon⟩, -⟩, hday⟩ := h
  have hall := List.all_eq_true.1 hbcd
  refine ⟨⟨fld_lt s F.PRT_HDATE_CENT 0, unbcd_lt (hall F.PRT_HDATE_YEAR (by decide)), Nat.lt_succ_of_le hmon, ?_,
    Nat.lt_succ_of_le hhour, Nat.lt_succ_of_le hmin, Nat.lt_succ_of_le hsec⟩, hall⟩
  exact Nat.lt_succ_of_le (hday.trans (monthDays_le ..))

/-- What a second of the calendar writes besides it: the wrap, and what a firing shows. -/
theorem calendarSecond_only (s : State) : WritesOnly (F.PRT_ST_OSF :: F.PRT_ST_WRAPL :: fireFlds)
    (putCal (nextSecond (getCal s)) { s with prt := spendCorr s.prt }) (calendarSecond s) := by
  unfold calendarSecond
  extract_lets c n s1 wrap s2 xs
  have h2 : FiresOnly (F.PRT_ST_OSF :: F.PRT_ST_WRAPL :: fireFlds) s1 s2 := ((FiresOnly.refl _ s1).put.put).ite (.refl _ s1)
  have hfire : FiresOnly fireFlds s2 (fire xs s2) := (FiresOnly.refl _ s2).after_fire
  split
  · exact h2.only
  · exact h2.only.trans (hfire.only.mono (by decide))

/-! ### Checks -/

theorem pclkStop_fires (s : State) : FiresOnly fireFlds
    ({ s.put F.PRT_ST_OSF 0 1 with prt := { s.prt with stopT := some (s.prt.stopT.getD s.clk.now) } }.put F.PRT_ST_OSCL 0 1)
    (pclkStop s) := integrity_fires 1 _

theorem batteryCheck_spec (v : Rat) (s : State) : (batteryCheck v s).bit F.PRT_ST_BATLOW = decide (v < 22 / 10) ∧
    (batteryCheck v s).bit F.PRT_ST_BATL = (s.bit F.PRT_ST_BATL || (decide (v < 22 / 10) && !s.bit F.PRT_ST_BATLOW)) := by
  have hlow := setBit_bit_same s F.PRT_ST_BATLOW 0 (decide (v < 22 / 10)) rfl
  unfold batteryCheck
  dsimp only
  split
  next hfall =>
    have hfires := integrity_fires 3 (s.setBit F.PRT_ST_BATLOW 0 (decide (v < 22 / 10)))
    rw [hfall, Bool.or_true]
    refine ⟨(hfires.only.bit 0).trans ?_, (hfires.only.bit 0).trans (bit_of_fld_one (put_fld_same ..))⟩
    exact (put_bit_field _ _ _ _ _ _ (by decide)).trans hlow
  next hstays =>
    rw [Bool.eq_false_iff.2 hstays, Bool.or_false]
    exact ⟨hlow, put_bit_field _ _ _ _ _ _ (by decide)⟩

section Shadow

variable {i : Fin 22} {cal kb : Bool} {s : State}

/-- The latches in disagreement, and the calendar's flag. -/
def shadowReset (i : Fin 22) (cal : Bool) (s : State) : State :=
  if cal then (resetLatch i s).put F.PRT_ST_OSF 0 1 else resetLatch i s

/-- KB, where it disagrees. -/
def shadowKb (i : Fin 22) (cal kb : Bool) (s : State) : State :=
  if kb then loseKb 3 (shadowReset i cal s) else shadowReset i cal s

theorem shadowCheck_eq (i : Fin 22) (cal kb : Bool) (s : State) :
    shadowCheck [i.val] cal kb s = integrity causeShadow (shadowKb i cal kb s) := by
  unfold shadowCheck
  rw [if_pos (.inl (List.cons_ne_nil _ _))]
  rfl

theorem shadowCheck_spec (i : Fin 22) (cal kb : Bool) (s : State) :
    (∀ x ∈ porterFlds i, (shadowCheck [i.val] cal kb s).fld x.1 x.2 = prtReset x.1 x.2) ∧
    (shadowCheck [i.val] cal kb s).bit F.PRT_ST_SHADL = true ∧ (kb = true → (shadowCheck [i.val] cal kb s).sbx.kb = none) ∧
    (cal = true → (shadowCheck [i.val] cal kb s).bit F.PRT_ST_OSF = true) := by
  have hfires : FiresOnly fireFlds ((shadowKb i cal kb s).put F.PRT_ST_SHADL 0 1) (shadowCheck [i.val] cal kb s) :=
    shadowCheck_eq i cal kb s ▸ integrity_fires causeShadow (shadowKb i cal kb s)
  have hkb : FiresOnly fireFlds (shadowReset i cal s) (shadowKb i cal kb s) := (FiresOnly.refl _ _).after_loseKb.ite (.refl _ _)
  have hreset : WritesOnly [F.PRT_ST_OSF] (resetLatch i s) (shadowReset i cal s) := by
    unfold shadowReset
    split
    · exact .of_put _ 0 1 (by decide)
    · exact .refl _ _
  have hall : WritesOnly (F.PRT_ST_SHADL :: F.PRT_ST_OSF :: fireFlds) (resetLatch i s) (shadowCheck [i.val] cal kb s) :=
    ((hreset.mono (by decide)).trans (hkb.only.mono (by decide))).trans ((WritesOnly.of_put _ 0 1 (by decide)).trans
      (hfires.only.mono (by decide)))
  refine ⟨fun x hx => (hall x.1 x.2 ?_).trans (resetLatch_spec i s x hx), (hfires.only.bit 0).trans (bit_of_fld_one (put_fld_same ..)),
    fun hlost => hfires.kb ?_, fun hcal => ?_⟩
  · obtain ⟨r, hr, hmem⟩ := porterFlds_mem hx
    exact porterRegs_spared r hr x.1 hmem
  · show (shadowKb i cal kb s).sbx.kb = none
    rw [shadowKb, if_pos hlost]
    exact loseKb_kb 3 _
  · refine (hfires.only.bit 0).trans ((put_bit_field _ _ _ _ _ _ (by decide)).trans ((hkb.only.bit 0).trans ?_))
    rw [shadowReset, if_pos hcal]
    exact bit_of_fld_one (put_fld_same ..)

end Shadow

/-- The lost KB of a brown-out. -/
def brownLost (s : State) : State :=
  let s1 := loseKb 2 s
  { s1 with sbx := { s1.sbx with wipe := if s1.sbx.wipe = 1 ∨ s1.sbx.wipe = 3 then 2 else s1.sbx.wipe } }

/-- The fields and KB after a brown-out are those of the cleared porter. -/
theorem brownOut_clears (s : State) :
    (brownOut s).flds = (porterClear (brownLost s)).flds ∧ (brownOut s).sbx = (porterClear (brownLost s)).sbx := by
  unfold brownOut brownLost
  dsimp only
  generalize porterClear _ = t
  exact ⟨rfl, rfl⟩

theorem brownOut_kb (s : State) : (brownOut s).sbx.kb = none := by
  rw [(brownOut_clears s).2, porterClear_sbx]
  exact loseKb_kb 2 s

section Brownout

variable {f : Fld} (s : State) (hf : f ∈ allFields) (j : Nat)
include hf

theorem brownOut_kept (hcls : f.cls ≠ .V) (hP : f.cls ≠ .P) : (brownOut s).fld f j = (loseKb 2 s).fld f j := by
  rw [State.fld, (brownOut_clears s).1]
  exact (porterClear_fld _ hf hcls j).trans (if_pos (bne_iff_ne.2 hP))

theorem brownOut_reset (hP : f.cls = .P) : (brownOut s).fld f j = f.reset := by
  rw [State.fld, (brownOut_clears s).1]
  exact (porterClear_fld _ hf (by rw [hP]; decide) j).trans (if_neg (by rw [hP]; decide))

end Brownout

/-- Settles O58: a brown-out clears by class; the calendar is set by one operation, whose registers read back; a check shows its latch,
and the firing that follows leaves it. -/
theorem porterKeepsTimeAndSupply : Obligations.PorterKeepsTimeAndSupply := by
  refine ⟨fun s main => rfl, fun s => ⟨brownOut s, rfl, rfl, rfl, ?_, fun f hf i hi hcls => ?_, fun f hf i hi hcls => ?_⟩,
    fun s hbrown => ?_, fun s hbrown hok hon hpriv => ?_, fun s hbrown hbad hon hpriv => ?_,
    fun s hpriv => ⟨congrArg Host.Outcome.next (if_neg (by simp [hpriv])), congrArg Host.Outcome.next (if_neg (by simp [hpriv]))⟩,
    fun s c hbrown hcal hcent hyear hmon hmon' hday hday' hhour hmin hsec => ?_, fun s tp hbrown => ?_, fun s hbrown => ?_,
    fun s v hbrown => ?_, fun s i cal kb hbrown => ?_, fun s hon hpriv => ?_, fun s => ⟨fun hzero => ?_, fun hto => ?_⟩⟩
  · exact brownOut_kb s
  · exact brownOut_reset s hf i hcls
  · exact (brownOut_kept s hf i (by rw [hcls]; decide) (by rw [hcls]; decide)).trans (loseKb_configuration 2 s hf hcls i)
  · have hfits : (⟨0, 0, 1, 1, 0, 0, 0⟩ : Cal).Fits := by constructor <;> decide
    have hw := Writes_of_flds (u := brownRelease s) (putCal_writes hfits (draw s).2) rfl
    obtain ⟨hcal, hdow⟩ := getCal_of_writes hw
    exact ⟨_, congrArg Host.Outcome.next (if_pos hbrown), rfl, hcal, hdow⟩
  · obtain ⟨hfits, hbcd⟩ := holdingOk_spec hok
    have hw := Writes_snoc (putCal_writes hfits s) (f := F.PRT_COMMIT_REJ) (i := 0) (v := 0) (by decide)
    obtain ⟨hcal, hdow⟩ := getCal_of_writes (putCal_writes hfits s)
    have hread : getCal (((putCal (heldCal s) s)).put F.PRT_COMMIT_REJ 0 0) = heldCal s :=
      (getCal_kept (WritesOnly.of_put (l := [F.PRT_COMMIT_REJ]) _ 0 0 (by decide))).trans hcal
    refine ⟨((putCal (heldCal s) s)).put F.PRT_COMMIT_REJ 0 0, congrArg Host.Outcome.next ((if_pos (by simp [hon, hpriv, hbrown])).trans (if_pos hok)),
      ?_, ?_, ?_, ?_, ?_, ?_, ?_, ?_, bne_eq_false_iff_eq.2 (put_fld_same ..)⟩
    · exact (Writes_fld hw (v := bcd (heldCal s).sec) (by simp [calShown])).trans (bcd_unbcd (hbcd F.PRT_HTIME_SEC (by decide)))
    · exact (Writes_fld hw (v := bcd (heldCal s).min) (by simp [calShown])).trans (bcd_unbcd (hbcd F.PRT_HTIME_MIN (by decide)))
    · exact (Writes_fld hw (v := bcd (heldCal s).hour) (by simp [calShown])).trans (bcd_unbcd (hbcd F.PRT_HTIME_HOUR (by decide)))
    · exact (Writes_fld hw (v := bcd (heldCal s).day) (by simp [calShown])).trans (bcd_unbcd (hbcd F.PRT_HDATE_DAY (by decide)))
    · exact (Writes_fld hw (v := bcd (heldCal s).mon) (by simp [calShown])).trans (bcd_unbcd (hbcd F.PRT_HDATE_MONTH (by decide)))
    · exact (Writes_fld hw (v := bcd (heldCal s).year) (by simp [calShown])).trans (bcd_unbcd (hbcd F.PRT_HDATE_YEAR (by decide)))
    · exact Writes_fld hw (by simp [calShown, heldCal])
    · rw [hread]
      exact Writes_fld hw (by simp [calShown])
  · exact ⟨_, congrArg Host.Outcome.next ((if_pos (by simp [hon, hpriv, hbrown])).trans (if_neg (by simp [hbad]))), rfl,
      Writes_put s F.PRT_COMMIT_REJ 0 1 (by decide)⟩
  · have hfits : c.Fits := ⟨hcent, hyear, Nat.lt_succ_of_le hmon', Nat.lt_succ_of_le (hday'.trans (monthDays_le ..)), hhour, hmin, hsec⟩
    have honly := calendarSecond_only s
    rw [hcal] at honly
    obtain ⟨hread, hdow⟩ := getCal_of_writes (putCal_writes hfits.nextSecond { s with prt := spendCorr s.prt })
    refine ⟨calendarSecond s, congrArg Host.Outcome.next (if_neg (by simp [hbrown])), (getCal_kept honly).trans ?_, (honly.fld 0).trans ?_⟩
    · exact hread
    · exact hdow
  · refine ⟨crystalComp tp s, congrArg Host.Outcome.next (if_neg (by simp [hbrown])), rfl, Nat.min_le_left .., ?_⟩
    refine congrArg (fun q => s.prt.corr + nearest q) ?_
    ring
  · have hfires := pclkStop_fires s
    refine ⟨pclkStop s, congrArg Host.Outcome.next (if_neg (by simp [hbrown])), (hfires.only.bit 0).trans ?_,
      (hfires.only.bit 0).trans (bit_of_fld_one (put_fld_same ..)), (congrArg PrtSt.stopT hfires.prt :)⟩
    exact (put_bit_field _ _ _ _ _ _ (by decide)).trans (bit_of_fld_one (put_fld_same s F.PRT_ST_OSF 0 1))
  · exact ⟨_, congrArg Host.Outcome.next (if_neg (by simp [hbrown])), batteryCheck_spec v s⟩
  · exact ⟨_, congrArg Host.Outcome.next (if_neg (by simp [hbrown])), shadowCheck_spec i cal kb s⟩
  · exact ⟨_, congrArg Host.Outcome.next (if_pos (host_request hon hpriv)), rfl, Writes_put s F.PRT_ST_PWRON 0 0 (by decide)⟩
  · exact congrArg Host.Outcome.next (if_pos hzero)
  · exact ⟨_, congrArg Host.Outcome.next (if_neg hto), rfl, Writes_put s F.PRT_ST_PWRON 0 0 (by decide)⟩

end Sys2Proof.Machine
end

section
/-! The porter's configuration writes, its sources and its slots (R349, R350, R356 to R361). -/

namespace Sys2Proof.Machine

/-! ### A configuration register and its profile (R349) -/

/-- The profile takes one field. -/
def takeField (s : State) (x : Fld × Nat) : State :=
  { s with prt := { s.prt with prof := mput (prtReset x.1 x.2) s.prt.prof (fkey x.1 x.2) (s.fld x.1 x.2) } }

theorem takeFields_spec (l : List (Fld × Nat)) (s : State) :
    l.foldl takeField s = { s with prt := { s.prt with prof := (l.foldl takeField s).prt.prof } } ∧
    (∀ d k, (∀ x ∈ l, k ≠ fkey x.1 x.2) → mget d (l.foldl takeField s).prt.prof k = mget d s.prt.prof k) ∧
    ((l.map fun x => x.1.id).Nodup →
      ∀ x ∈ l, mget (prtReset x.1 x.2) (l.foldl takeField s).prt.prof (fkey x.1 x.2) = s.fld x.1 x.2) := by
  induction l generalizing s with
  | nil => exact ⟨rfl, fun _ _ _ => rfl, fun _ _ hx => absurd hx List.not_mem_nil⟩
  | cons y l ih =>
    obtain ⟨hframe, hother, hvals⟩ := ih (takeField s y)
    refine ⟨hframe, fun d k hk => ?_, fun hnodup x hx => ?_⟩
    · exact (hother d k fun x hx => hk x (List.mem_cons_of_mem _ hx)).trans (mget_mput_other _ _ _ _ _ _ (hk y List.mem_cons_self))
    · obtain ⟨hnew, hnodup⟩ := List.nodup_cons.1 hnodup
      rcases List.mem_cons.1 hx with rfl | hx
      · refine (hother _ _ fun p hp => fkey_ne _ _ _ _ fun hid => hnew ?_).trans (mget_mput_same ..)
        exact List.mem_map.2 ⟨p, hp, hid.symm⟩
      · exact hvals hnodup x hx

theorem profileWrite_frame (i : Nat) (s : State) :
    profileWrite i s = { s with prt := { s.prt with prof := (profileWrite i s).prt.prof } } := (takeFields_spec (porterFlds i) s).1

theorem profileWrite_prof (i : Fin 22) (s : State) :
    ∀ x ∈ porterFlds i, mget (prtReset x.1 x.2) (profileWrite i s).prt.prof (fkey x.1 x.2) = s.fld x.1 x.2 :=
  (takeFields_spec (porterFlds i) s).2.2 (porterFlds_nodup i)

/-- The latch of a configuration register takes a word. -/
def latchWrite (i w : Nat) (s : State) : State := (porterFlds i).foldl (fun s x => s.put x.1 x.2 (x.1.slice w)) s

theorem latchWrite_only (i w : Nat) (s : State) : FldsOnly s (latchWrite i w s) :=
  List.foldlRecOn (motive := FldsOnly s) (porterFlds i) _ (.refl s) fun _ h _ _ => h.put

theorem latchWrite_spec (i : Fin 22) (w : Nat) (s : State) : Spares (porterFlds i) s (latchWrite i w s) ∧
    ∀ x ∈ porterFlds i, (latchWrite i w s).fld x.1 x.2 = x.1.slice w := by
  obtain ⟨hspares, hvals⟩ := foldl_put_all (fun x => x.1.slice w) (porterFlds i) s
  exact ⟨hspares, fun x hx => (hvals (porterFlds_nodup i) x hx).trans (Nat.mod_eq_of_lt (Nat.mod_lt _ (Nat.two_pow_pos _)))⟩

/-! ### A sample of a static input (R350, R356) -/

section Static

variable (n : Fin 8) (act : Bool) (s : State)

/-- ACTIVE without the bit of source n. -/
def othersActive : Nat := s.fld F.PRT_ST_ACTIVE &&& (2 ^ n.val ^^^ 0xFFFF)

/-- The sample is shown. -/
def sampleShown : State := s.put F.PRT_ST_ACTIVE 0 (if act then othersActive n s + 2 ^ n.val else othersActive n s)

theorem othersActive_testBit : (othersActive n s).testBit n = false := by
  have hoff : ∀ n : Fin 8, (2 ^ n.val ^^^ 0xFFFF).testBit n.val = false := by decide
  rw [othersActive, Nat.testBit_and, hoff, Bool.and_false]

theorem sampleShown_testBit : ((sampleShown n act s).fld F.PRT_ST_ACTIVE).testBit n = act := by
  have hlow : n.val < 16 := n.isLt.trans (by decide)
  refine (congrArg (Nat.testBit · n.val) (put_fld_same ..)).trans ((Nat.testBit_mod_two_pow ..).trans ?_)
  rw [decide_eq_true (show n.val < F.PRT_ST_ACTIVE.len from hlow), Bool.true_and]
  cases act
  · exact othersActive_testBit n s
  · refine (congrArg (Nat.testBit · n.val) (Nat.add_comm ..)).trans ((Nat.testBit_two_pow_add_eq ..).trans ?_)
    rw [othersActive_testBit n s]
    rfl

end Static

section StaticSample

variable {n : Fin 8} {level act : Bool} {s : State}

/-- A sample of a static input changes ACTIVE, and what its filter holds. -/
theorem filterSample_static (hsample : sampleOf s (.static n level) = some (n.val, act)) : ∃ hist fired,
    (filterSample (.static n level) s).2 = { sampleShown n act s with prt := { s.prt with hist := hist, fired := fired } } := by
  unfold filterSample
  simp only [hsample]
  exact ⟨_, _, rfl⟩

/-- The first active sample of FCNT 1 fires the source. -/
theorem filterSample_fires (hsample : sampleOf s (.static n level) = some (n.val, true)) (hcnt : s.fld F.PRT_SRC_FCNT n = 1)
    (hwin : 1 ≤ s.fld F.PRT_SRC_FWIN n) (hnew : n.val ∉ s.prt.fired) : ∃ hist, filterSample (.static n level) s =
      (some n.val, { sampleShown n true s with prt := { s.prt with hist := hist, fired := n.val :: s.prt.fired } }) := by
  have hfires : s.fld F.PRT_SRC_FCNT n ≤
      (((true :: mget [] s.prt.hist n.val).take (s.fld F.PRT_SRC_FWIN n)).filter id).length := by
    obtain ⟨w, hw⟩ := Nat.exists_eq_add_of_le' hwin
    rw [hcnt, hw, List.take_succ_cons, List.filter_cons_of_pos rfl]
    exact Nat.le_add_left ..
  have hgo : s.fld F.PRT_SRC_FCNT n ≠ 0 ∧ (!s.prt.fired.contains n.val) = true ∧
      s.fld F.PRT_SRC_FCNT n ≤ (((true :: mget [] s.prt.hist n.val).take (s.fld F.PRT_SRC_FWIN n)).filter id).length :=
    ⟨by rw [hcnt]; decide, by simpa using hnew, hfires⟩
  unfold filterSample
  dsimp only
  rw [hsample]
  dsimp only
  rw [if_pos hgo, if_pos hgo]
  exact ⟨_, rfl⟩

theorem sourceSample_quiet {u : State} (h : filterSample (.static n level) s = (none, u)) :
    sourceSample [.static n level] s = u := by
  simp [sourceSample, h]

theorem sourceSample_fires {u : State} {k : Nat} (h : filterSample (.static n level) s = (some k, u)) :
    sourceSample [.static n level] s = fire [(k, 0)] u := by
  simp [sourceSample, h]

/-- After a sample of a static input, ACTIVE shows it. -/
theorem sourceSample_active (hsample : sampleOf s (.static n level) = some (n.val, act)) :
    ((sourceSample [.static n level] s).fld F.PRT_ST_ACTIVE).testBit n = act := by
  obtain ⟨hist, fired, hstate⟩ := filterSample_static hsample
  have hshown : ((filterSample (.static n level) s).2.fld F.PRT_ST_ACTIVE).testBit n = act := by
    rw [hstate]
    exact sampleShown_testBit n act s
  rcases hf : filterSample (.static n level) s with ⟨_ | k, u⟩
  · rw [hf] at hshown
    rw [sourceSample_quiet hf]
    exact hshown
  · rw [hf] at hshown
    rw [sourceSample_fires hf, ((FiresOnly.refl fireFlds u).after_fire (xs := [(k, 0)])).only.fld 0]
    exact hshown

end StaticSample

/-! ### A firing that only captures (R357, R359) -/

section Capture

variable (k : Nat) (s : State)

/-- What a capture writes. -/
def captureFlds : List Fld :=
  [F.PRT_SLT_INFO_COUNT, F.PRT_SLT_TIME_TIME, F.PRT_SLT_DATE_DATE, F.PRT_SLT_INFO_SUBSEC, F.PRT_SLT_INFO_ONCELL, F.PRT_SLT_INFO_FULL]

theorem capture_only : FldsOnly s (capture k s) ∧ WritesOnly captureFlds s (capture k s) := by
  unfold capture State.setBit
  split
  · exact ⟨.inc (.refl s), .of_put s k _ (by decide)⟩
  · refine ⟨FldsOnly.put (.put (.put (.put (.put (.put (.refl s)))))), ?_⟩
    exact (((((WritesOnly.of_put s k _ (by decide)).trans (.of_put _ k _ (by decide))).trans (.of_put _ k _ (by decide))).trans
      (.of_put _ k _ (by decide))).trans (.of_put _ k _ (by decide))).trans (.of_put _ k _ (by decide))

/-- A full slot counts the capture. -/
theorem capture_full (h : s.bit F.PRT_SLT_INFO_FULL k = true) : (capture k s).bit F.PRT_SLT_INFO_FULL k = true ∧
    (capture k s).fld F.PRT_SLT_INFO_COUNT k = min 255 (s.fld F.PRT_SLT_INFO_COUNT k + 1) := by
  rw [capture, if_pos h]
  exact ⟨(put_bit_field _ _ _ _ _ _ (by decide)).trans h, inc_fld_same s F.PRT_SLT_INFO_COUNT k⟩

/-- An empty slot takes the time, and whether the porter lives on its cell. -/
theorem capture_empty (h : s.bit F.PRT_SLT_INFO_FULL k = false) : (capture k s).bit F.PRT_SLT_INFO_FULL k = true ∧
    (capture k s).fld F.PRT_SLT_INFO_COUNT k = 1 ∧ (capture k s).fld F.PRT_SLT_TIME_TIME k = viewReg s R.PRT_TIME 0 % 2 ^ 32 ∧
    (capture k s).bit F.PRT_SLT_INFO_ONCELL k = s.prt.cell := by
  rw [capture, if_neg (by simp [h])]
  refine ⟨bit_of_fld_one (put_fld_same ..), ?_, ?_, ?_⟩
  · exact (put_fld_field _ _ _ _ _ _ (by decide)).trans (put_fld_same ..)
  · exact (put_fld_field _ _ _ _ _ _ (by decide)).trans ((put_fld_field _ _ _ _ _ _ (by decide)).trans ((put_fld_field _ _ _ _ _ _ (by decide)).trans
      ((put_fld_field _ _ _ _ _ _ (by decide)).trans ((put_fld_field _ _ _ _ _ _ (by decide)).trans (put_fld_same ..)))))
  · exact (put_bit_field _ _ _ _ _ _ (by decide)).trans ((put_bit_field _ _ _ _ _ _ (by decide)).trans (setBit_bit_same _ _ k _ rfl))

/-- Source k has CAP alone. -/
structure CapturesOnly : Prop where
  cap : s.bit F.PRT_SRC_CAP k = true
  record : s.bit F.PRT_SRC_REC k = false
  alert : s.bit F.PRT_SRC_ALERT k = false
  lock : s.bit F.PRT_SRC_LOCK k = false
  wipe : s.bit F.PRT_SRC_WIPE k = false
  pwr : s.bit F.PRT_SRC_PWR k = false

end Capture

section Firing

variable {k : Nat} {s : State}

theorem CapturesOnly.of_only {l : List Fld} {t : State} (h : CapturesOnly k s) (ho : WritesOnly l s t)
    (hl : ([F.PRT_SRC_CAP, F.PRT_SRC_REC, F.PRT_SRC_ALERT, F.PRT_SRC_LOCK, F.PRT_SRC_WIPE, F.PRT_SRC_PWR].all fun f =>
      l.all fun g => g.id != f.id) = true := by decide) : CapturesOnly k t := by
  have hbit : ∀ f ∈ [F.PRT_SRC_CAP, F.PRT_SRC_REC, F.PRT_SRC_ALERT, F.PRT_SRC_LOCK, F.PRT_SRC_WIPE, F.PRT_SRC_PWR],
      t.bit f k = s.bit f k := fun f hf => ho.bit k (List.all_eq_true.1 hl f hf)
  exact ⟨(hbit _ (by decide)).trans h.cap, (hbit _ (by decide)).trans h.record, (hbit _ (by decide)).trans h.alert,
    (hbit _ (by decide)).trans h.lock, (hbit _ (by decide)).trans h.wipe, (hbit _ (by decide)).trans h.pwr⟩

theorem firmwareSteps_idle (h : CapturesOnly k s) : firmwareSteps [(k, 0)] s = s := by
  simp [firmwareSteps, fireRecord, fireAlert, fireLock, h.record, h.alert, h.lock]

/-- A source with CAP alone is captured; its firing does no more, now or when the controller runs. -/
theorem fire_captures (h : CapturesOnly k s) : ∃ todo,
    fire [(k, 0)] s = { capture k s with prt := { (capture k s).prt with todo := todo } } := by
  have hafter := h.of_only (capture_only k s).2
  have hcap : captures s k = true := by simp [captures, h.cap]
  have hs1 : [(k, 0)].foldl (fun s x => if captures s x.1 then capture x.1 s else s) s = capture k s := if_pos hcap
  unfold fire
  rw [hs1]
  by_cases hon : ctlOn (capture k s) = true
  · refine ⟨(capture k s).prt.todo, ?_⟩
    simp [hon, firmwareSteps_idle hafter, hafter.wipe, hafter.pwr]
  · refine ⟨(capture k s).prt.todo ++ [(k, 0)], ?_⟩
    have hbits : ∀ f, ({ capture k s with prt := { (capture k s).prt with todo := (capture k s).prt.todo ++ [(k, 0)] } } : State).bit f k =
        (capture k s).bit f k := fun _ => rfl
    simp [hon, hbits, hafter.wipe, hafter.pwr]

end Firing

/-- A register whose fields are stored shows what it showed, where they keep their values. -/
theorem viewReg_porterTime {s t : State} {l : List Fld} (h : WritesOnly l s t)
    (hl : (R.PRT_TIME.fields.all fun f => l.all fun g => g.id != f.id) = true := by decide) :
    viewReg t R.PRT_TIME 0 = viewReg s R.PRT_TIME 0 := by
  have hfields : ∀ f ∈ R.PRT_TIME.fields, (∀ e ∈ computed, e.1.id ≠ f.id) ∧ f.acc ≠ .wo := by decide
  have hview : ∀ f ∈ R.PRT_TIME.fields, viewF t f 0 = viewF s f 0 := fun f hf => by
    obtain ⟨hstored, hread⟩ := hfields f hf
    rw [viewF_stored t 0 hstored hread, viewF_stored s 0 hstored hread]
    exact h.fld 0 (List.all_eq_true.1 hl f hf)
  rw [viewReg_eq_packed, viewReg_eq_packed]
  show packed _ R.PRT_TIME.fields = packed _ R.PRT_TIME.fields
  simp only [R.PRT_TIME, packed, hview F.PRT_TIME_HOUR (by decide), hview F.PRT_TIME_MIN (by decide), hview F.PRT_TIME_SEC (by decide)]

/-! ### Slots (R359) -/

theorem releaseSlot_spec (k : Nat) (s : State) : Writes [(F.PRT_SLT_INFO_FULL, k, 0), (F.PRT_SLT_INFO_COUNT, k, 0),
    (F.PRT_SLT_INFO_ONCELL, k, 0), (F.PRT_SLT_INFO_CORRUPT, k, 0)] s (releaseSlot k s) := by
  have hempty := Writes_snoc (Writes_put s F.PRT_SLT_INFO_FULL k 0 (by decide)) (f := F.PRT_SLT_INFO_COUNT) (i := k) (v := 0) (by decide)
  exact Writes_snoc (Writes_snoc hempty (f := F.PRT_SLT_INFO_ONCELL) (i := k) (v := 0) (by decide)) (f := F.PRT_SLT_INFO_CORRUPT) (i := k)
    (v := 0) (by decide)

theorem releaseSlot_only (k : Nat) (s : State) : FldsOnly s (releaseSlot k s) :=
  FldsOnly.put (.put (.put (.put (.refl s))))

/-- A released slot leaves the other slots. -/
theorem releaseSlot_fld {f : Fld} (hf : f = F.PRT_SLT_INFO_FULL ∨ f = F.PRT_SLT_INFO_COUNT) {j k : Nat} (hj : j < 16) (hk : k < 16)
    (s : State) : (releaseSlot j s).fld f k = if k = j then 0 else s.fld f k := by
  split
  next h =>
    subst h
    rcases hf with rfl | rfl
    · exact Writes_fld (releaseSlot_spec k s) (by simp)
    · exact Writes_fld (releaseSlot_spec k s) (by simp)
  next h =>
    refine (releaseSlot_spec j s).2 f k fun p hp => ?_
    have hslot : p.2.1 = j := by
      simp only [List.mem_cons, List.not_mem_nil, or_false] at hp
      rcases hp with rfl | rfl | rfl | rfl <;> rfl
    rw [Ne, fkey_eq_iff, hslot]
    omega

section SlotClear

variable (mask : Nat)

/-- One slot of SLTCLR. -/
def clearSlot (s : State) (k : Nat) : State := if mask.testBit k then releaseSlot k s else s

theorem slotClear_eq (s : State) : slotClear mask s = (List.range 16).foldl (clearSlot mask) s := rfl

theorem clearSlots_fld {f : Fld} (hf : f = F.PRT_SLT_INFO_FULL ∨ f = F.PRT_SLT_INFO_COUNT) {k : Nat} (hk : k < 16) {ks : List Nat}
    (hks : ∀ j ∈ ks, j < 16) (s : State) :
    (ks.foldl (clearSlot mask) s).fld f k = if k ∈ ks ∧ mask.testBit k = true then 0 else s.fld f k := by
  induction ks generalizing s with
  | nil => simp
  | cons j ks ih =>
    have hone : (clearSlot mask s j).fld f k = if k = j ∧ mask.testBit k = true then 0 else s.fld f k := by
      unfold clearSlot
      by_cases hbit : mask.testBit j = true
      · rw [if_pos hbit, releaseSlot_fld hf (hks j List.mem_cons_self) hk]
        refine ite_congr (propext ⟨fun h => ⟨h, h ▸ hbit⟩, And.left⟩) (fun _ => rfl) fun _ => rfl
      · rw [if_neg hbit, if_neg fun ⟨hkj, hset⟩ => hbit (hkj ▸ hset)]
    rw [List.foldl_cons, ih (fun i hi => hks i (List.mem_cons_of_mem _ hi)), hone, ← ite_or]
    refine ite_congr (propext ?_) (fun _ => rfl) fun _ => rfl
    rw [List.mem_cons]
    tauto

theorem slotClear_fld {f : Fld} (hf : f = F.PRT_SLT_INFO_FULL ∨ f = F.PRT_SLT_INFO_COUNT) {k : Nat} (hk : k < 16) (s : State) :
    (slotClear mask s).fld f k = if mask.testBit k then 0 else s.fld f k := by
  rw [slotClear_eq, clearSlots_fld mask hf hk (fun j hj => List.mem_range.1 hj)]
  simp [hk]

theorem slotClear_only (s : State) : FldsOnly s (slotClear mask s) ∧
    ∀ j, (slotClear mask s).fld F.PRT_SLT_INFO_LOST j = s.fld F.PRT_SLT_INFO_LOST j := by
  refine List.foldlRecOn (motive := fun u => FldsOnly s u ∧ ∀ j, u.fld F.PRT_SLT_INFO_LOST j = s.fld F.PRT_SLT_INFO_LOST j) _ _
    ⟨.refl s, fun _ => rfl⟩ fun u ⟨honly, hlost⟩ k _ => ?_
  split
  · refine ⟨honly.trans (releaseSlot_only k u), fun j => Eq.trans ?_ (hlost j)⟩
    exact Spares_fld_field (Spares_of_Writes (releaseSlot_spec k u)) j
  · exact ⟨honly, hlost⟩

end SlotClear

/-- Settles O59: a configuration register's fields are written one by one, to the latch and then to the profile; a sample of a static
input that fires with CAP alone is captured and no more. -/
theorem porterSourcesFireTheirResponses : Obligations.PorterSourcesFireTheirResponses := by
  refine ⟨fun s i w hon hpriv hbrown => ⟨fun hrefused => ?_, fun haccepted => ?_⟩, fun s hpriv => ⟨fun i w => ?_, fun mask => ?_⟩,
    fun s n level hbrown hloop => ?_, fun s mask hon hpriv => ?_⟩
  · exact congrArg Host.Outcome.next ((if_pos (host_request hon hpriv)).trans (if_pos (.inr hrefused)))
  · have hrun : exec (.porterConfigWrite i w) s = .next (onVault 4 (.profile i) (profileWrite i) (latchWrite i w.toNat s)) :=
      congrArg Host.Outcome.next ((if_pos (host_request hon hpriv)).trans (if_neg (by simpa [hbrown] using haccepted)))
    obtain ⟨hspares, hvals⟩ := latchWrite_spec i w.toNat s
    have hlatch := latchWrite_only i w.toNat s
    have hvault : vaultFree (latchWrite i w.toNat s) 4 = vaultFree s 4 := by rw [hlatch]; rfl
    have hframe := profileWrite_frame i (latchWrite i w.toNat s)
    refine ⟨_, hrun, ?_⟩
    cases hfree : vaultFree s 4 with
    | false =>
      rw [onVault_waits (hvault.trans hfree)]
      refine ⟨hvals, hspares, fun h => (Bool.false_ne_true h).elim, fun _ => ?_⟩
      rw [hlatch]
    | true =>
      rw [onVault_free (hvault.trans hfree)]
      have hflds : (profileWrite i (latchWrite i w.toNat s)).flds = (latchWrite i w.toNat s).flds := (congrArg State.flds hframe :)
      refine ⟨fun x hx => ?_, fun f j hf => ?_, fun _ => ⟨?_, fun x hx => ?_⟩, fun h => (Bool.false_ne_true h.symm).elim⟩
      · rw [State.fld, hflds]
        exact hvals x hx
      · rw [State.fld, hflds]
        exact hspares f j hf
      · rw [hflds]
        exact hframe.trans (congrArg (fun u : State => { u with prt := { u.prt with prof :=
          (profileWrite i (latchWrite i w.toNat s)).prt.prof } }) hlatch)
      · exact (profileWrite_prof i _ x hx).trans (hvals x hx)
  · exact congrArg Host.Outcome.next (if_neg (by simp [hpriv]))
  · exact congrArg Host.Outcome.next (if_neg (by simp [hpriv]))
  · have hrun : exec (.porterSourceSample [.static n level]) s = .next (sourceSample [.static n level] s) :=
      congrArg Host.Outcome.next (if_neg (by simp [hbrown]))
    have hsample : sampleOf s (.static n level) =
        some (n.val, xor (level == (s.fld F.PRT_PINS_PULL).testBit n) ((s.fld F.PRT_PINS_INV).testBit n)) := if_neg (by simp [hloop])
    refine ⟨⟨_, hrun, sourceSample_active hsample⟩, fun hact hcnt hwin hnew hcap hrec halert hlock hwipe hpwr => ⟨_, hrun, ?_⟩⟩
    rw [hact] at hsample
    obtain ⟨hist, hfilter⟩ := filterSample_fires hsample hcnt hwin hnew
    rw [sourceSample_fires hfilter]
    generalize hu : ({ sampleShown n true s with prt := { s.prt with hist := hist, fired := n.val :: s.prt.fired } } : State) = u
    have honly : WritesOnly [F.PRT_ST_ACTIVE] s u := hu ▸ .of_put s 0 _ (by decide)
    have hprt : n.val ∈ u.prt.fired ∧ u.prt.cell = s.prt.cell := hu ▸ ⟨List.mem_cons_self, rfl⟩
    obtain ⟨todo, hfire⟩ := fire_captures (CapturesOnly.of_only ⟨hcap, hrec, halert, hlock, hwipe, hpwr⟩ honly)
    have hfull : u.bit F.PRT_SLT_INFO_FULL n = s.bit F.PRT_SLT_INFO_FULL n := honly.bit _
    rw [hfire]
    refine ⟨(congrArg (fun t : State => n.val ∈ t.prt.fired) (capture_only n u).1).mpr hprt.1, ?_⟩
    cases hslot : s.bit F.PRT_SLT_INFO_FULL n with
    | true =>
      obtain ⟨hset, hcount⟩ := capture_full n u (hfull.trans hslot)
      exact ⟨hset, hcount.trans (by rw [honly.fld _]; rfl), fun h => (Bool.false_ne_true h.symm).elim⟩
    | false =>
      obtain ⟨hset, hcount, htime, hcell⟩ := capture_empty n u (hfull.trans hslot)
      exact ⟨hset, hcount, fun _ => ⟨htime.trans (by rw [viewReg_porterTime honly]), hcell.trans hprt.2⟩⟩
  · obtain ⟨honly, hlost⟩ := slotClear_only mask.toNat s
    refine ⟨_, congrArg Host.Outcome.next (if_pos (host_request hon hpriv)), honly, fun k hk => ⟨?_, ?_, hlost k⟩⟩
    · have hfull := slotClear_fld mask.toNat (.inl rfl) hk s
      cases hbit : mask.toNat.testBit k with
      | true =>
        rw [hbit, if_pos rfl] at hfull
        exact (bne_eq_false_iff_eq.2 hfull).trans (by simp)
      | false =>
        rw [hbit, if_neg Bool.false_ne_true] at hfull
        exact (congrArg (· != 0) hfull).trans (by simp [State.bit])
    · exact slotClear_fld mask.toNat (.inr rfl) hk s

end Sys2Proof.Machine
end

section
/-! The auxiliary converter: its triggers, its conversions and its bursts (R376 to R383). -/

namespace Sys2Proof.Machine

/-! ### What leaves the sequencer alone -/

/-- Going from r to s, no field is written but those with these numbers, and the sequencer's own state is kept. -/
structure SeqKept (l : List Fld) (r s : State) : Prop where
  only : WritesOnly l r s
  sar : s.sar = r.sar

namespace SeqKept

variable {l : List Fld} {r s t : State}

theorem refl (l : List Fld) (s : State) : SeqKept l s s := ⟨.refl l s, rfl⟩

theorem trans (hrs : SeqKept l r s) (hst : SeqKept l s t) : SeqKept l r t := ⟨hrs.only.trans hst.only, hst.sar.trans hrs.sar⟩

theorem ite {c : Prop} [Decidable c] (hs : SeqKept l r s) (ht : SeqKept l r t) : SeqKept l r (if c then s else t) := by
  split
  · exact hs
  · exact ht

theorem put {g : Fld} {i v : Nat} (h : SeqKept l r s) (hg : g ∈ l := by decide) : SeqKept l r (s.put g i v) :=
  h.trans ⟨.of_put s i v hg, rfl⟩

theorem of_shows (h : Shows l s t) : SeqKept l s t := ⟨h.only, (congrArg State.sar h.1 :)⟩

theorem after_raise {e d : Nat} (h : SeqKept l r s) (he : e < 128 := by decide) (hl : evtNums ⊆ l := by decide) :
    SeqKept l r (raise e d s) := h.trans (of_shows ((Shows.refl l s).after_raise he hl))

end SeqKept

/-- The fields that the evaluation of the die temperature may write. -/
def dieFlds : List Fld := evtNums ++ [F.CAL_ST_TBAD, F.CAL_TEMP_TDIE, F.CAL_CTAP_TOUT, F.CAL_ST_TRIMRUN]

theorem trimTrigger_seq (s : State) : SeqKept dieFlds s (trimTrigger s) := by
  unfold trimTrigger trimBegin
  split
  · exact ⟨.refl _ s, rfl⟩
  · exact ⟨.of_put s 0 1 (by decide), rfl⟩

theorem toutFollow_seq (s : State) : SeqKept dieFlds s (toutFollow s) := by
  refine List.foldlRecOn (motive := SeqKept dieFlds s) _ _ (.refl _ s) fun u hu n _ => ?_
  unfold toutOf raiseIf State.setBit
  exact hu.put.after_raise.ite hu.put

theorem dieTemperature_seq (ts : List Int) (s : State) : SeqKept dieFlds s (dieTemperature ts s) := by
  unfold dieTemperature raiseIf State.putI
  dsimp only
  have hbad := (SeqKept.refl dieFlds s).put (g := F.CAL_ST_TBAD) (i := 0) (v := 1)
  have hfollow : ∀ v, SeqKept dieFlds s (toutFollow ((s.put F.CAL_TEMP_TDIE 0 v).put F.CAL_ST_TBAD 0 0)) := fun v =>
    ((SeqKept.refl dieFlds s).put.put).trans (toutFollow_seq _)
  exact (hbad.after_raise.ite hbad).ite (((hfollow _).trans (trimTrigger_seq _)).ite (hfollow _))

theorem evalDState_sar (s : State) : (evalDState s).sar = s.sar := by
  have hfailed : (failedShown s).sar = s.sar := raise_sar _ _ _
  rw [evalDState_eq]
  split
  · split
    · obtain ⟨cvn, mseq, msgs, heq⟩ := sendMsg_eq .failed { failedShown s with twn := { (failedShown s).twn with
        swapReq := (failedShown s).twn.swapReq || (failedShown s).twn.lead } }
      rw [heq]
      exact hfailed
    · exact hfailed
  · rfl

/-- A permanent fault of the converter is no device fault, and leaves the sequencer alone. -/
theorem permanent_seq (unit : Nat) (s : State) : SeqKept faultNums s (permanent 9 unit 0 false false none s) :=
  ⟨permanent_only 9 unit 0 false false none s, (evalDState_sar _).trans (raise_sar ..)⟩

/-! ### BUSY, ENTRY and triggers (R376 to R378) -/

theorem showSar_only (s : State) : FldsOnly s (showSar s) ∧ WritesOnly [F.SAR_ST_BUSY, F.SAR_ST_ENTRY] s (showSar s) :=
  ⟨FldsOnly.put (.setBit (.refl s)), (WritesOnly.of_put s 0 _ (by decide)).trans (.of_put _ 0 _ (by decide))⟩

theorem showSar_starts {s : State} {es : List (Nat × Nat)} (h : s.sar.run = some (es, 0)) :
    Writes [(F.SAR_ST_BUSY, 0, 1), (F.SAR_ST_ENTRY, 0, 0)] s (showSar s) := by
  unfold showSar
  rw [h]
  exact Writes_snoc (Writes_put s F.SAR_ST_BUSY 0 1 (by decide)) (f := F.SAR_ST_ENTRY) (i := 0) (v := 0) (by decide)

theorem showSar_busy {s : State} (h : s.sar.burst.isSome = true) : (showSar s).bit F.SAR_ST_BUSY = true := by
  refine (put_bit_field _ _ _ _ _ _ (by decide)).trans ((setBit_bit_same _ _ _ _ rfl).trans ?_)
  rw [h, Bool.or_true]

theorem startBurst_sar (s : State) : (startBurst s).sar = { s.sar with burst := some 0, due := none, got := [], again := false } := rfl

theorem startBurst_only (s : State) : WritesOnly [F.SAR_ST_BUSY, F.SAR_ST_ENTRY] s (startBurst s) := (showSar_only _).2

theorem sarSource_idle {s : State} (hrun : s.sar.run = none) (hdelay : s.sar.delay = none) :
    sarSource s = (s.bit F.SAR_CFG_TRIG, s.bit F.SAR_CFG_EDGE) := if_neg (by simp [hrun, hdelay])

section Trigger

variable {s : State} {pwm : Bool} (hlen : s.fld F.SAR_CFG_LEN ≠ 0)
include hlen

/-- A trigger before READY. -/
theorem sarTrigger_early (h : s.bit F.SAR_ST_READY = false) : sarTrigger pwm s = notReady s :=
  (if_neg (by simp [hlen])).trans (if_pos (by simp [h]))

/-- A trigger while a sequence is under way. -/
theorem sarTrigger_overrun (h : s.bit F.SAR_ST_READY = true) (hrun : s.sar.run ≠ none) :
    sarTrigger pwm s = raise 97 (s.fld F.SAR_ST_ENTRY) (s.put F.SAR_ST_OVRL 0 1) :=
  (if_neg (by simp [hlen])).trans ((if_neg (by simp [h])).trans (if_pos (by simp [Option.isSome_iff_ne_none, hrun])))

variable (h : s.bit F.SAR_ST_READY = true) (hrun : s.sar.run = none) (hdelay : s.sar.delay = none) (hburst : s.sar.burst = none)
include h hrun hdelay hburst

/-- A trigger of an idle converter takes the entries as they stand. -/
theorem sarTrigger_takes : sarTrigger pwm s =
    if pwm then { s with sar := { s.sar with src := (s.bit F.SAR_CFG_TRIG, s.bit F.SAR_CFG_EDGE), delay := some (seqEntries s) } }
    else showSar { s with sar := { s.sar with src := (s.bit F.SAR_CFG_TRIG, s.bit F.SAR_CFG_EDGE), run := some (seqEntries s, 0) } } :=
  (if_neg (by simp [hlen])).trans ((if_neg (by simp [h])).trans (if_neg (by simp [hrun, hdelay, hburst])))

end Trigger

/-- The commands that trigger a sequence come to this. -/
theorem exec_trigger {s : State} {c : Instr} (hrun : running s = true)
    (hc : (c = .sarTimerTrigger ∧ (sarSource s).1 = false) ∨ (c = .pwmsyncEdge (!(sarSource s).2) ∧ (sarSource s).1 = true)) :
    ∃ pwm, exec c s = .next (sarTrigger pwm s) := by
  rcases hc with ⟨rfl, hsrc⟩ | ⟨rfl, hsrc⟩
  · exact ⟨false, congrArg Host.Outcome.next (if_pos (by simp [hrun, hsrc]))⟩
  · exact ⟨true, congrArg Host.Outcome.next (if_pos (by simp [hrun, hsrc]))⟩

/-! ### Bursts (R380, R381) -/

theorem housekeepingDue_starts {s : State} (h : s.bit F.SAR_ST_READY = true) (hrun : s.sar.run = none) (hdelay : s.sar.delay = none)
    (hburst : s.sar.burst = none) : housekeepingDue s = startBurst { s with sar := { s.sar with due := some s.clk.now } } := by
  have hidle : (s.bit F.SAR_ST_READY && s.sar.run.isNone && s.sar.delay.isNone && s.sar.burst.isNone) = true := by
    simp [h, hrun, hdelay, hburst]
  exact if_pos hidle

theorem housekeepingDue_waits {s : State} (hrun : s.sar.run ≠ none) :
    housekeepingDue s = { s with sar := { s.sar with due := some s.clk.now } } := by
  unfold housekeepingDue
  exact if_neg (by simp [Option.isNone_iff_eq_none, hrun])

theorem housekeepingDue_only (s : State) : WritesOnly [F.SAR_ST_BUSY, F.SAR_ST_ENTRY] s (housekeepingDue s) := by
  unfold housekeepingDue
  dsimp only
  split
  · exact startBurst_only _
  · exact .refl _ s

theorem supplyOut_congr {s t : State} (h : t.sar.last = s.sar.last) : supplyOut t = supplyOut s := by
  unfold supplyOut lastCode
  rw [h]

/-- The means of a burst are shown. -/
def burstShown (s : State) : State := [8, 9, 10, 11].foldl (fun u i => u.put F.SAR_RES_CODE i (nearest (burstMean s i)).toNat) s

theorem burstMean_put (s : State) (f : Fld) (i v j : Nat) : burstMean (s.put f i v) j = burstMean s j := rfl

theorem burstShown_eq (s : State) :
    [8, 9, 10, 11].foldl (fun u i => u.put F.SAR_RES_CODE i (nearest (burstMean u i)).toNat) s = burstShown s := by
  simp only [burstShown, List.foldl_cons, List.foldl_nil, burstMean_put]

theorem burstDone_eq (s : State) : burstDone s =
    onCtlOnce (.housekeeping ([8, 9, 10, 11].map fun i => nearest (sarCenti (burstMean s i))))
      (housekeeping ([8, 9, 10, 11].map fun i => nearest (sarCenti (burstMean s i))))
      (showSar { burstShown s with sar := { (burstShown s).sar with burst := none, got := [] } }) := by
  rw [← burstShown_eq]
  rfl

/-- Elements of a field, each written its own value. -/
theorem foldl_put_values (f : Fld) (v : Nat → Nat) {l : List Nat} (hl : ∀ j ∈ l, j < 65536) (s : State) {i : Nat} (hi : i < 65536) :
    (l.foldl (fun u j => u.put f j (v j)) s).fld f i = if i ∈ l then v i % 2 ^ f.len else s.fld f i := by
  induction l generalizing s with
  | nil => rfl
  | cons j l ih =>
    rw [List.foldl_cons, ih fun m hm => hl m (List.mem_cons_of_mem _ hm)]
    have hj := hl j List.mem_cons_self
    by_cases hij : i = j
    · subst hij
      rw [put_fld_same, if_pos List.mem_cons_self, ite_self]
    · rw [put_fld_other _ _ _ _ _ _ (by rw [Ne, fkey_eq_iff]; omega)]
      simp [hij]

theorem burstShown_code (s : State) {i : Nat} (hlow : 8 ≤ i) (hhigh : i < 12) :
    (burstShown s).fld F.SAR_RES_CODE i = (nearest (burstMean s i)).toNat % 2 ^ 12 := by
  have hmem : i ∈ [8, 9, 10, 11] := by
    simp only [List.mem_cons, List.not_mem_nil, or_false]
    omega
  exact (foldl_put_values F.SAR_RES_CODE (fun i => (nearest (burstMean s i)).toNat) (by decide) s (hhigh.trans (by decide))).trans
    (if_pos hmem)

theorem burstShown_only (s : State) : FldsOnly s (burstShown s) ∧ WritesOnly [F.SAR_RES_CODE] s (burstShown s) :=
  ⟨List.foldlRecOn (motive := FldsOnly s) _ _ (.refl s) fun _ h _ _ => h.put,
    List.foldlRecOn (motive := WritesOnly [F.SAR_RES_CODE] s) _ _ (.refl _ s) fun _ h i _ => h.trans (.of_put _ i _ (by decide))⟩

/-- What firmware decides on a burst. -/
theorem housekeeping_shows (ts : List Int) (s : State) : SeqKept (F.SAR_ST_SUPX :: dieFlds) s (housekeeping ts s) ∧
    (housekeeping ts s).bit F.SAR_ST_SUPX = supplyOut s := by
  have hdie := dieTemperature_seq ts s
  have hbit := setBit_bit_same (dieTemperature ts s) F.SAR_ST_SUPX 0 (supplyOut (dieTemperature ts s)) rfl
  rw [supplyOut_congr (congrArg SarSt.last hdie.sar)] at hbit
  have hset : SeqKept (F.SAR_ST_SUPX :: dieFlds) s ((dieTemperature ts s).setBit F.SAR_ST_SUPX 0 (supplyOut s)) :=
    SeqKept.put ⟨hdie.only.mono (by decide), hdie.sar⟩
  unfold housekeeping raiseIf
  dsimp only
  rw [supplyOut_congr (congrArg SarSt.last hdie.sar)]
  split
  · exact ⟨hset.after_raise, (raise_bit_kept 99 _ _ 0).trans hbit⟩
  · exact ⟨hset, hbit⟩

/-- At the end of a burst its inputs show, and SUPX follows the supplies where firmware runs. -/
theorem burstDone_shows (s : State) : (burstDone s).sar.burst = none ∧
    (burstDone s).bit F.SAR_ST_SUPX = (if ctlOn s then supplyOut s else s.bit F.SAR_ST_SUPX) ∧
    ∀ i, 8 ≤ i → i < 12 → (burstDone s).fld F.SAR_RES_CODE i = (nearest (burstMean s i)).toNat % 2 ^ 12 := by
  rw [burstDone_eq]
  obtain ⟨hframe, hcodes⟩ := burstShown_only s
  generalize hu : showSar { burstShown s with sar := { (burstShown s).sar with burst := none, got := [] } } = u
  have honly : WritesOnly [F.SAR_ST_BUSY, F.SAR_ST_ENTRY] (burstShown s) u := hu ▸ (showSar_only _).2
  have hsar : u.sar.burst = none ∧ u.sar.last = s.sar.last ∧ ctlOn u = ctlOn s := by
    rw [← hu, hframe]
    exact ⟨rfl, rfl, rfl⟩
  obtain ⟨hburst, hlast, hctl⟩ := hsar
  have hcode : ∀ i, 8 ≤ i → i < 12 → u.fld F.SAR_RES_CODE i = (nearest (burstMean s i)).toNat % 2 ^ 12 := fun i hlow hhigh =>
    (honly.fld i).trans (burstShown_code s hlow hhigh)
  rw [← hctl]
  cases hon : ctlOn u with
  | true =>
    rw [onCtlOnce_on hon]
    obtain ⟨hkept, hsupx⟩ := housekeeping_shows ([8, 9, 10, 11].map fun i => nearest (sarCenti (burstMean s i))) u
    exact ⟨(congrArg SarSt.burst hkept.sar).trans hburst, hsupx.trans (supplyOut_congr hlast), fun i hlow hhigh =>
      (hkept.only.fld i).trans (hcode i hlow hhigh)⟩
  | false =>
    have hbit : u.bit F.SAR_ST_SUPX = s.bit F.SAR_ST_SUPX := (honly.bit 0).trans (hcodes.bit 0)
    unfold onCtlOnce
    rw [if_neg (by simp [hon])]
    split
    · exact ⟨hburst, hbit, hcode⟩
    · exact ⟨hburst, hbit, hcode⟩

/-- At a boundary of its stream a new factor is used up, and taken where it differs enough. -/
theorem shuntApply_spec {s : State} {k : Nat} {f : Rat} (hnew : mget none s.sar.fNew k = some f)
    (hbound : boundaryAt s (s.fld F.SAR_SHC_STREAM k) = true) : mget none (shuntApply k s).sar.fNew k = none ∧
    mget 1 (shuntApply k s).sar.f k = (if 10 / 1000000 < rabs (f - mget 1 s.sar.f k) then f else mget 1 s.sar.f k) ∧
    Spares [(F.SAR_SHR_FPPM, k)] s (shuntApply k s) := by
  unfold shuntApply
  rw [hnew]
  dsimp only
  rw [if_neg (by simp [hbound])]
  split
  · exact ⟨mget_mput_same none s.sar.fNew k none, mget_mput_same 1 s.sar.f k f, Spares_put s F.SAR_SHR_FPPM k _⟩
  · exact ⟨mget_mput_same none s.sar.fNew k none, rfl, Spares_refl _ s⟩

/-! ### Conversions (R382) -/

theorem reformFactors_eq (i : Nat) (s : State) : ∃ fNew, reformFactors i s = { s with sar := { s.sar with fNew := fNew } } := by
  refine List.foldlRecOn (motive := fun u : State => ∃ fNew, u = { s with sar := { s.sar with fNew := fNew } }) _ _ ⟨_, rfl⟩
    fun u ⟨fNew, hu⟩ k _ => ?_
  split
  · exact ⟨_, by rw [hu]⟩
  · exact ⟨fNew, hu⟩

section Conversion

variable (i : Nat) (s : State)

/-- CODE of a die sensor is that of the burst; that of any other input shows its conversion. -/
def codeShown (code : Nat) : State := if i < 8 ∨ 12 ≤ i then s.put F.SAR_RES_CODE i code else s

theorem codeShown_kept (code : Nat) {f : Fld} (j : Nat) (hf : F.SAR_RES_CODE.id ≠ f.id) : (codeShown i s code).fld f j = s.fld f j := by
  unfold codeShown
  split
  · exact put_fld_field _ _ _ _ _ _ hf
  · rfl

/-- A first pass of an input that is not marked: its code is its last good one. -/
theorem convPass_unmarked (code : Nat) (h : s.bit F.SAR_RES_FAULT i = false) : ∃ fNew, convPass i code false s =
    { codeShown i s code with sar := { s.sar with last := mput 0 s.sar.last i code, fNew := fNew } } := by
  have hmark := (congrArg (· != 0) (codeShown_kept i { s with sar := { s.sar with last := mput 0 s.sar.last i code } } code i
    (f := F.SAR_RES_FAULT) (by decide))).trans h
  obtain ⟨fNew, hreform⟩ := reformFactors_eq i (codeShown i { s with sar := { s.sar with last := mput 0 s.sar.last i code } } code)
  have hpass : convPass i code false s = reformFactors i (codeShown i { s with sar := { s.sar with last := mput 0 s.sar.last i code } } code) := by
    unfold convPass codeShown at *
    dsimp only at *
    rw [if_neg (by decide : ¬ false = true), State.bit, hmark]
    rfl
  refine ⟨fNew, (hpass.trans hreform).trans ?_⟩
  unfold codeShown
  split <;> rfl

/-- A conversion that fails again: the input is marked, and keeps its last good value. -/
theorem convFail_marks : (convFail i s).sar = { s.sar with good := mput 0 s.sar.good i 0 } ∧
    (convFail i s).bit F.SAR_RES_FAULT i = true ∧ (convFail i s).fld F.FLTS_CNT_PERM 9 = min 65535 (s.fld F.FLTS_CNT_PERM 9 + 1) := by
  have hfault := permanent_seq i s
  have hcount := permanent_counts 9 i 0 false false none s
  unfold convFail raiseIf
  dsimp only
  generalize permanent 9 i 0 false false none s = u at hfault hcount
  have hmarked : ∀ v, (({ u with sar := { u.sar with good := mput 0 u.sar.good i 0 } } : State).put F.SAR_RES_FAULT i 1).put
      F.SAR_ST_FLT 0 v |>.bit F.SAR_RES_FAULT i := fun v => (put_bit_field _ _ _ _ _ _ (by decide)).trans (bit_of_fld_one (put_fld_same ..))
  have hperm : ∀ v, ((({ u with sar := { u.sar with good := mput 0 u.sar.good i 0 } } : State).put F.SAR_RES_FAULT i 1).put
      F.SAR_ST_FLT 0 v).fld F.FLTS_CNT_PERM 9 = min 65535 (s.fld F.FLTS_CNT_PERM 9 + 1) := fun v =>
    (put_fld_field _ _ _ _ _ _ (by decide)).trans ((put_fld_field _ _ _ _ _ _ (by decide)).trans hcount)
  have hsar : ({ u.sar with good := mput 0 u.sar.good i 0 } : SarSt) = { s.sar with good := mput 0 s.sar.good i 0 } := by rw [hfault.sar]
  split
  · exact ⟨(raise_sar ..).trans hsar, (raise_bit_kept 96 _ _ i).trans (hmarked _), (raise_fld_kept 96 _ _ 9).trans (hperm _)⟩
  · exact ⟨hsar, hmarked _, hperm _⟩

/-- After an entry of a sequence the next one follows, or the sequence has ended. -/
def entryOver (es : List (Nat × Nat)) (k : Nat) : State :=
  showSar { s with sar := { s.sar with run := if decide (es.length ≤ k + 1) then none else some (es, k + 1), again := false } }

section Entry

variable {es : List (Nat × Nat)} {k : Nat}

theorem entryOver_run (h : k + 1 < es.length) : (entryOver s es k).sar.run = some (es, k + 1) := if_neg (by simpa using h)

theorem entryOver_ends (h : es.length = k + 1) : (entryOver s es k).sar.run = none := if_pos (by simp [h])

theorem entryOver_only : WritesOnly [F.SAR_ST_BUSY, F.SAR_ST_ENTRY] s (entryOver s es k) := (showSar_only _).2

variable (hburst : s.sar.burst = none) (hrun : s.sar.run = some (es, k))
include hburst hrun

theorem convNext_eq : convNext i false s = match s.sar.due with
    | none => entryOver s es k
    | some t => if decide (es.length ≤ k + 1) || decide (t + 10000000 ≤ s.clk.now) then startBurst (entryOver s es k) else entryOver s es k := by
  unfold convNext
  rw [hburst, hrun]
  rfl

/-- A burst that is due may follow at once. -/
theorem convNext_entry : convNext i false s = entryOver s es k ∨
    (s.sar.due ≠ none ∧ convNext i false s = startBurst (entryOver s es k)) := by
  rw [convNext_eq i s hburst hrun]
  split
  · exact .inl rfl
  next t hdue =>
    split
    · exact .inr ⟨by simp [hdue], rfl⟩
    · exact .inl rfl

/-- What follows a conversion leaves its result. -/
theorem convNext_shows : WritesOnly [F.SAR_ST_BUSY, F.SAR_ST_ENTRY] s (convNext i false s) ∧
    (convNext i false s).sar.last = s.sar.last ∧
    (k + 1 < es.length → s.sar.due = none → (convNext i false s).sar.run = some (es, k + 1)) ∧
    (es.length = k + 1 → (convNext i false s).sar.run = none) := by
  have honly := entryOver_only s (es := es) (k := k)
  rcases convNext_entry i s hburst hrun with h | ⟨hdue, h⟩ <;> rw [h]
  · exact ⟨honly, rfl, fun hmore _ => entryOver_run s hmore, entryOver_ends s⟩
  · exact ⟨honly.trans (startBurst_only _), rfl, fun _ hnone => (hdue hnone).elim, entryOver_ends s⟩

end Entry

/-- A conversion of a sequence's entry is counted, and passes, is repeated, or fails. -/
theorem conversion_entry {es : List (Nat × Nat)} {k : Nat} (hinj : s.sar.inj = []) (hburst : s.sar.burst = none)
    (hrun : s.sar.run = some (es, k)) {smp : Nat} (hentry : es[k]? = some (i, smp)) (code : Nat) (eoc : Bool) :
    conversion code eoc s =
      if eoc && plausible s i code then
        convNext i false (convPass i code s.sar.again (s.put F.SAR_RES_CNT i (s.fld F.SAR_RES_CNT i + 1)))
      else if s.sar.again then convNext i false (convFail i (s.put F.SAR_RES_CNT i (s.fld F.SAR_RES_CNT i + 1)))
      else { s.put F.SAR_RES_CNT i (s.fld F.SAR_RES_CNT i + 1) with
        sar := { s.sar with good := mput 0 s.sar.good i 0, again := true } } := by
  have hcur : curInput s = some (i, false) := by simp [curInput, hinj, hburst, hrun, hentry]
  unfold conversion
  rw [hcur]
  rfl

/-- After a first pass the last good code, the count and CODE of the input are its own, and the sequence goes on. -/
theorem entry_passes {es : List (Nat × Nat)} {k code : Nat} (hburst : s.sar.burst = none) (hrun : s.sar.run = some (es, k))
    (hcode : code < 4096) (hmark : s.bit F.SAR_RES_FAULT i = false) {t : State}
    (ht : t = convNext i false (convPass i code false (s.put F.SAR_RES_CNT i (s.fld F.SAR_RES_CNT i + 1)))) :
    lastCode t i = code ∧ t.fld F.SAR_RES_CNT i = (s.fld F.SAR_RES_CNT i + 1) % 2 ^ 14 ∧
    (i < 8 ∨ 12 ≤ i → t.fld F.SAR_RES_CODE i = code) ∧
    (k + 1 < es.length → s.sar.due = none → t.sar.run = some (es, k + 1)) ∧ (es.length = k + 1 → t.sar.run = none) := by
  obtain ⟨fNew, hconv⟩ := convPass_unmarked i (s.put F.SAR_RES_CNT i (s.fld F.SAR_RES_CNT i + 1)) code
    ((put_bit_field _ _ _ _ _ _ (by decide)).trans hmark)
  rw [hconv] at ht
  obtain ⟨honly, hlast, hmore, hend⟩ := convNext_shows i ({ codeShown i
    (s.put F.SAR_RES_CNT i (s.fld F.SAR_RES_CNT i + 1)) code with sar := { s.sar with last := mput 0 s.sar.last i code, fNew := fNew } } : State) hburst hrun
  have hcnt := (codeShown_kept i (s.put F.SAR_RES_CNT i (s.fld F.SAR_RES_CNT i + 1)) code i (f := F.SAR_RES_CNT) (by decide)).trans
    (put_fld_same ..)
  subst ht
  refine ⟨(congrArg (mget 0 · i) hlast).trans (mget_mput_same 0 s.sar.last i code), (honly.fld i).trans hcnt, fun hside => ?_, hmore, hend⟩
  refine (honly.fld i).trans ((congrArg (fun u : State => u.fld F.SAR_RES_CODE i) (if_pos hside)).trans ?_)
  exact (put_fld_same ..).trans (Nat.mod_eq_of_lt hcode)

end Conversion

/-- Settles O60: a conversion changes the sequencer's own state and the fields of its input; the burst's results and what firmware
decides on them write apart. -/
theorem converterRunsSequencesAndBursts : Obligations.ConverterRunsSequencesAndBursts := by
  refine ⟨fun s hrun hlen hready hidle hdelay hburst => ⟨fun htrig => ?_, fun htrig => ?_⟩,
    fun s c hrun hlen hc => ⟨fun hready => ?_, fun hready hbusy => ?_⟩, fun s es hrun hdelay => ?_,
    fun s smp input hon hready => ⟨fun hroom => ?_, fun hfull => ?_⟩,
    fun s hrun => ⟨⟨_, congrArg Host.Outcome.next (if_pos hrun), ?_, fun hidle hdelay hburst => ?_⟩,
      fun hready hidle hdelay hburst => ⟨_, congrArg Host.Outcome.next (if_pos hrun), ?_⟩, fun hbusy => ?_⟩,
    fun s code eoc i es k smp hrun hready hinj hburst hseq hentry hi => ?_, fun s hrun hburst => ?_,
    fun s k f hrun => ⟨fun hwait => ?_, fun hnew hbound => ?_⟩⟩
  · have hsrc := sarSource_idle hidle hdelay
    refine ⟨_, congrArg Host.Outcome.next ((if_pos (by simp [hrun, hsrc, htrig])).trans
      (sarTrigger_takes hlen hready hidle hdelay hburst)), ?_⟩
    rw [if_neg Bool.false_ne_true, htrig]
    exact ⟨rfl, Writes_of_flds (showSar_starts (s := { s with sar := { s.sar with src := _, run := some (seqEntries s, 0) } }) rfl) rfl⟩
  · have hsrc := sarSource_idle hidle hdelay
    refine congrArg Host.Outcome.next ((if_pos (by simp [hrun, hsrc, htrig])).trans
      ((sarTrigger_takes hlen hready hidle hdelay hburst).trans ?_))
    rw [if_pos rfl, htrig]
  · obtain ⟨pwm, hexec⟩ := exec_trigger hrun hc
    exact ⟨_, hexec.trans (congrArg Host.Outcome.next (sarTrigger_early hlen hready)), rfl, Writes_put s F.SAR_ST_NRDYL 0 1 (by decide)⟩
  · obtain ⟨pwm, hexec⟩ := exec_trigger hrun hc
    exact ⟨_, hexec.trans (congrArg Host.Outcome.next (sarTrigger_overrun hlen hready hbusy)), rfl,
      Writes_put s F.SAR_ST_OVRL 0 1 (by decide)⟩
  · have hexpire : delayExpire s = showSar { s with sar := { s.sar with delay := none, run := some (es, 0) } } := by
      unfold delayExpire
      rw [hdelay]
    exact ⟨_, congrArg Host.Outcome.next ((if_pos hrun).trans hexpire), rfl,
      showSar_starts (s := { s with sar := { s.sar with delay := none, run := some (es, 0) } }) rfl⟩
  · have hready' : ((s.put F.SAR_INJ_SMP 0 smp).put F.SAR_INJ_INPUT 0 input).bit F.SAR_ST_READY = true :=
      (put_bit_field _ _ _ _ _ _ (by decide)).trans ((put_bit_field _ _ _ _ _ _ (by decide)).trans hready)
    refine ⟨_, congrArg Host.Outcome.next ((if_pos hon).trans ((if_neg (by simp [hready'])).trans (if_neg (Nat.not_le.2 hroom)))), rfl, ?_⟩
    exact (put_fld_same ..).trans (Nat.mod_eq_of_lt (by omega : s.sar.inj.length + 1 < 8))
  · have hready' : ((s.put F.SAR_INJ_SMP 0 smp).put F.SAR_INJ_INPUT 0 input).bit F.SAR_ST_READY = true :=
      (put_bit_field _ _ _ _ _ _ (by decide)).trans ((put_bit_field _ _ _ _ _ _ (by decide)).trans hready)
    exact ⟨_, congrArg Host.Outcome.next ((if_pos hon).trans ((if_neg (by simp [hready'])).trans (if_pos hfull))), rfl,
      bit_of_fld_one (put_fld_same ..)⟩
  · exact ((housekeepingDue_only _).bit 0).trans (bit_of_fld_one (put_fld_same ..))
  · exact congrArg (fun u : State => u.sar.burst) (housekeepingDue_starts (s := s.put F.SAR_ST_READY 0 1)
      (bit_of_fld_one (put_fld_same ..)) hidle hdelay hburst)
  · rw [housekeepingDue_starts hready hidle hdelay hburst]
    exact ⟨rfl, rfl, showSar_busy rfl⟩
  · exact congrArg Host.Outcome.next ((if_pos hrun).trans (housekeepingDue_waits hbusy))
  · have hexec : exec (.sarConversionComplete code eoc) s = .next (conversion code eoc s) :=
      congrArg Host.Outcome.next (if_pos (by simp [hrun, hready]))
    rw [conversion_entry i s hinj hburst hseq hentry] at hexec
    have hcnt : Writes [(F.SAR_RES_CNT, i, (s.fld F.SAR_RES_CNT i + 1) % 2 ^ 14)] s (s.put F.SAR_RES_CNT i (s.fld F.SAR_RES_CNT i + 1)) :=
      put_mod s F.SAR_RES_CNT i (s.fld F.SAR_RES_CNT i + 1) ▸ Writes_put s F.SAR_RES_CNT i _ (Nat.mod_lt _ (by decide))
    refine ⟨fun hpass hagain hmark => ?_, fun hpass hagain => ?_, fun hpass hagain => ?_⟩
    · rw [if_pos hpass, hagain] at hexec
      exact ⟨_, hexec, entry_passes i s hburst hseq code.isLt hmark rfl⟩
    · rw [if_neg (by simp [hpass]), if_neg (by simp [hagain])] at hexec
      exact ⟨_, hexec, rfl, mget_mput_same 0 s.sar.good i 0, Writes_of_flds hcnt rfl⟩
    · rw [if_neg (by simp [hpass]), if_pos hagain] at hexec
      obtain ⟨hsar, hmarked, hperm⟩ := convFail_marks i (s.put F.SAR_RES_CNT i (s.fld F.SAR_RES_CNT i + 1))
      obtain ⟨honly, hlast, -, -⟩ := convNext_shows i _ ((congrArg SarSt.burst hsar).trans hburst) ((congrArg SarSt.run hsar).trans hseq)
      refine ⟨_, hexec, congrArg (mget 0 · i) (hlast.trans (congrArg SarSt.last hsar :)), (honly.bit i).trans hmarked, (honly.fld 9).trans ?_⟩
      exact hperm.trans (congrArg (fun n => min 65535 (n + 1)) (put_fld_field _ _ _ _ _ _ (by decide)))
  · refine ⟨_, congrArg Host.Outcome.next (if_pos (by simp [hrun, hburst])), ?_⟩
    exact burstDone_shows s
  · rcases hwait with hnone | hbound
    · refine congrArg Host.Outcome.next ((if_pos hrun).trans ?_)
      unfold shuntApply
      rw [hnone]
    · refine congrArg Host.Outcome.next ((if_pos hrun).trans ?_)
      unfold shuntApply
      rw [hbound]
      split <;> rfl
  · obtain ⟨hused, hfactor, hspares⟩ := shuntApply_spec hnew hbound
    exact ⟨_, congrArg Host.Outcome.next (if_pos hrun), hused, hfactor, hspares⟩

end Sys2Proof.Machine
end

section
/-! The register display: its drive voltage, its content, and the updates of a bistable panel (R386 to R396). -/

namespace Sys2Proof.Machine

/-! ### Drive voltage (R388) -/

theorem vlcdTarget_bounds (s : State) : 2400 ≤ vlcdTarget s ∧ vlcdTarget s ≤ 3300 :=
  ⟨le_max_left .., max_le (by decide) (min_le_left ..)⟩

/-- VLCD one second on. -/
def vlcdNext (v t : Nat) : Nat := if v < t then min t (v + 10) else max t (v - 10)

theorem vlcdUpdate_only (s : State) : FldsOnly s (vlcdUpdate s) ∧ Spares [(F.DSP_ST_VLCD, 0)] s (vlcdUpdate s) := by
  unfold vlcdUpdate
  dsimp only
  split
  · exact ⟨.refl s, Spares_refl _ s⟩
  · split
    · exact ⟨.put (.refl s), Spares_put s F.DSP_ST_VLCD 0 _⟩
    · exact ⟨.put (.refl s), Spares_put s F.DSP_ST_VLCD 0 _⟩

theorem vlcdUpdate_steps {s : State} (hv : s.fld F.DSP_ST_VLCD < 4096) (htemp : s.bit F.CAL_ST_TBAD = false)
    (hset : s.fld F.DSP_ST_VLCD ≠ 0) :
    (vlcdUpdate s).fld F.DSP_ST_VLCD = vlcdNext (s.fld F.DSP_ST_VLCD) (vlcdTarget s).toNat := by
  obtain ⟨-, hhigh⟩ := vlcdTarget_bounds s
  have hupdate : vlcdUpdate s = s.put F.DSP_ST_VLCD 0 (vlcdNext (s.fld F.DSP_ST_VLCD) (vlcdTarget s).toNat) :=
    (if_neg (by simp [htemp])).trans (if_neg hset)
  rw [hupdate, put_fld_same]
  refine Nat.mod_eq_of_lt (b := 4096) ?_
  unfold vlcdNext
  split <;> omega

/-! ### Content (R392) -/

section Content

variable (v : Nat) (s : State)

/-- An LCD shows its target at once. -/
theorem newTarget_lcd (h : bistable s = false) : newTarget v s = { s with dsp := { s.dsp with img := v } } := if_neg (by simp [h])

/-- On a bistable panel the target waits. -/
theorem newTarget_panel (h : bistable s = true) : newTarget v s =
    { s with dsp := { s.dsp with queued := some (v &&& segMask s) } }.put F.DSP_ST_QUEUED 0 1 := if_pos h

end Content

theorem pageAfter_lt {s : State} {p q : Nat} (h : pageAfter s p = some q) : q < 16 := by
  obtain ⟨k, -, rfl⟩ := List.mem_map.1 (List.mem_of_find?_eq_some h)
  exact Nat.mod_lt _ (by decide)

/-- A page that is shown. -/
theorem showPage_shows (p : Nat) (hp : p < 16) (s : State) : (showPage p s).fld F.DSP_ST_PAGE = p ∧
    Spares [(F.DSP_ST_PAGE, 0), (F.DSP_ST_QUEUED, 0)] s (showPage p s) ∧
    (bistable s = false → showPage p s = { s with flds := (showPage p s).flds, dsp := { s.dsp with img := pageImage s p } }) ∧
    (bistable s = true → showPage p s =
        { s with flds := (showPage p s).flds, dsp := { s.dsp with queued := some (pageImage s p &&& segMask s) } } ∧
      (showPage p s).bit F.DSP_ST_QUEUED = true) := by
  have hpage : (s.put F.DSP_ST_PAGE 0 p).fld F.DSP_ST_PAGE = p :=
    (put_fld_same ..).trans (Nat.mod_eq_of_lt (hp.trans (by decide)))
  have hspares : Spares [(F.DSP_ST_PAGE, 0), (F.DSP_ST_QUEUED, 0)] s (s.put F.DSP_ST_PAGE 0 p) :=
    Spares_mono (by simp) (Spares_put s F.DSP_ST_PAGE 0 p)
  have hmode : bistable (s.put F.DSP_ST_PAGE 0 p) = bistable s := put_bit_field _ _ _ _ _ _ (by decide)
  have hmask : segMask (s.put F.DSP_ST_PAGE 0 p) = segMask s :=
    congrArg (fun n => 2 ^ n - 1) (put_fld_field s F.DSP_ST_PAGE F.DSP_CFG_NSEG 0 0 p (by decide))
  unfold showPage
  cases hb : bistable s with
  | false =>
    rw [newTarget_lcd _ _ (hmode.trans hb)]
    exact ⟨hpage, hspares, fun _ => rfl, fun h => (Bool.false_ne_true h).elim⟩
  | true =>
    rw [newTarget_panel _ _ (hmode.trans hb), hmask]
    refine ⟨(put_fld_field _ _ _ _ _ _ (by decide)).trans hpage, Spares_trans hspares (Spares_mono (by simp) (Spares_put _ F.DSP_ST_QUEUED 0 1)),
      fun h => (Bool.false_ne_true h.symm).elim, fun _ => ⟨rfl, bit_of_fld_one (put_fld_same ..)⟩⟩

/-! ### Updates of a bistable panel (R389 to R393) -/

theorem showDsp_only (s : State) : FldsOnly s (showDsp s) ∧ Spares [(F.DSP_ST_STATE, 0)] s (showDsp s) :=
  ⟨.put (.refl s), Spares_put s F.DSP_ST_STATE 0 _⟩

/-- The shadow takes a target. -/
def shadowTakes (v : Nat) (s : State) : State := (List.range 6).foldl (fun s k => s.put F.DSP_SHD_SHD k (v / 2 ^ (32 * k))) s

theorem shadowTakes_only (v : Nat) (s : State) : FldsOnly s (shadowTakes v s) ∧ WritesOnly [F.DSP_SHD_SHD] s (shadowTakes v s) :=
  ⟨List.foldlRecOn (motive := FldsOnly s) _ _ (.refl s) fun _ h _ _ => h.put,
    List.foldlRecOn (motive := WritesOnly [F.DSP_SHD_SHD] s) _ _ (.refl _ s) fun _ h k _ => h.trans (.of_put _ k _ (by decide))⟩

theorem shadowTakes_fld (v : Nat) (s : State) {k : Nat} (hk : k < 6) :
    (shadowTakes v s).fld F.DSP_SHD_SHD k = v / 2 ^ (32 * k) % 2 ^ 32 :=
  (foldl_put_values F.DSP_SHD_SHD (fun k => v / 2 ^ (32 * k)) (fun j hj => (List.mem_range.1 hj).trans (by decide)) s
    (hk.trans (by decide))).trans (if_pos (List.mem_range.2 hk))

section Update

variable (v driven : Nat) (why : DspWhy) (s : State)

/-- The update that begins. -/
def updBegun : DspUpd := ⟨v, driven, if s.fld F.DSP_ETIME_TPRE (dspBand s) = 0 then DspPhase.drive else DspPhase.pre, why⟩

/-- The display with an update that begins. -/
def dspBegun : DspSt := { s.dsp with upd := some (updBegun v driven why s), start := some s.clk.now, inprog := true, ncom := true }

theorem beginUpdate_spec : beginUpdate v driven why s =
      { s with flds := (beginUpdate v driven why s).flds, dsp := dspBegun v driven why s } ∧
    WritesOnly [F.DSP_SHD_SHD, F.DSP_ST_BAND, F.DSP_ST_PUMPOK, F.DSP_ST_STATE] s (beginUpdate v driven why s) ∧
    ∀ k < 6, (beginUpdate v driven why s).fld F.DSP_SHD_SHD k = v / 2 ^ (32 * k) % 2 ^ 32 := by
  obtain ⟨hframe, hshadow⟩ := shadowTakes_only v s
  have hbegin : beginUpdate v driven why s = showDsp ((({ shadowTakes v s with dsp := { (shadowTakes v s).dsp with
      upd := some (updBegun v driven why s), start := some s.clk.now, inprog := true, ncom := true } } : State).put
      F.DSP_ST_BAND 0 (dspBand s)).put F.DSP_ST_PUMPOK 0 1) := rfl
  have hlater : WritesOnly [F.DSP_ST_BAND, F.DSP_ST_PUMPOK, F.DSP_ST_STATE] (shadowTakes v s) (beginUpdate v driven why s) := by
    rw [hbegin]
    exact ((WritesOnly.of_put _ 0 _ (by decide)).trans (.of_put _ 0 _ (by decide))).trans (.of_put _ 0 _ (by decide))
  refine ⟨?_, (hshadow.mono (by decide)).trans (hlater.mono (by decide)), fun k hk => (hlater.fld k).trans (shadowTakes_fld v s hk)⟩
  rw [hbegin, hframe]
  rfl

/-- No target waits any more. -/
def targetTaken (s : State) : State := { s with dsp := { s.dsp with queued := none } }.put F.DSP_ST_QUEUED 0 0

theorem targetTaken_phase (s : State) : (if (targetTaken s).fld F.DSP_ETIME_TPRE (dspBand (targetTaken s)) = 0 then DspPhase.drive
    else DspPhase.pre) = if s.fld F.DSP_ETIME_TPRE (dspBand s) = 0 then DspPhase.drive else DspPhase.pre := by
  have hkept : ∀ {f : Fld} (i : Nat), F.DSP_ST_QUEUED.id ≠ f.id → (targetTaken s).fld f i = s.fld f i := fun i hf =>
    put_fld_field _ _ _ _ _ _ hf
  have hband : dspBand (targetTaken s) = dspBand s := by
    unfold dspBand State.sfld
    rw [hkept 0 (by decide)]
  rw [hband, hkept _ (by decide)]

/-- The target that waits is taken up where no update runs and none ran before. -/
theorem updateStart_begins {s : State} {v : Nat} (hqueued : s.dsp.queued = some v) (hidle : s.dsp.upd = none)
    (hfresh : s.dsp.fresh = true) (hfirst : s.dsp.start = none) : updateStart s =
      beginUpdate v (v ^^^ s.dsp.img) .content (targetTaken s) := by
  unfold updateStart
  rw [hqueued, hfirst]
  exact if_pos (by simp [hidle, hfresh])

end Update

theorem imageOf_kept {s t : State} {f : Fld} (h : ∀ k, t.fld f k = s.fld f k) : imageOf t f = imageOf s f := by
  simp only [imageOf, h]

/-- The driven segments take the other image; the others keep theirs. -/
theorem mixImage_testBit (u : DspUpd) (a c : Nat) {b : Nat} (hb : b < 192) :
    (mixImage u a c).testBit b = if u.driven.testBit b then c.testBit b else a.testBit b := by
  have hones : (2 ^ 192 - 1).testBit b = true := by
    rw [Nat.testBit_two_pow_sub_one]
    exact decide_eq_true hb
  rw [mixImage, Nat.testBit_or, Nat.testBit_and, Nat.testBit_and, Nat.testBit_xor, hones]
  cases u.driven.testBit b <;> simp

/-- An update that is abandoned: what it does not drive keeps its image. -/
theorem abandonUpdate_spec {s : State} {u : DspUpd} (hupd : s.dsp.upd = some u) :
    (abandonUpdate s).dsp = { s.dsp with upd := none, ncom := false, img := (abandonUpdate s).dsp.img } ∧
    (abandonUpdate s).bit F.DSP_ST_PUMPOK = false ∧ FldsOnly { s with dsp := (abandonUpdate s).dsp } (abandonUpdate s) ∧
    ∀ b < 192, u.driven.testBit b = false → (abandonUpdate s).dsp.img.testBit b = s.dsp.img.testBit b := by
  have himg : (abandonUpdate s).dsp.img = mixImage u s.dsp.img (Config.panelMix s.dsp.img u.target) := by
    unfold abandonUpdate
    rw [hupd]
    rfl
  refine ⟨rfl, ?_, rfl, fun b hb hkeeps => ?_⟩
  · exact (put_bit_field _ _ _ _ _ _ (by decide)).trans (bne_eq_false_iff_eq.2 (put_fld_same ..))
  · rw [himg, mixImage_testBit u _ _ hb, hkeeps, if_neg Bool.false_ne_true]

/-! ### Phases (R389, R391) -/

section Phase

variable {s : State} {u : DspUpd} (hupd : s.dsp.upd = some u) (hhold : s.dsp.hold = false)
include hupd hhold

theorem phaseEnd_pre (h : u.phase = .pre) : phaseEnd s = showDsp { s with dsp := { s.dsp with upd := some { u with phase := .drive } } } := by
  unfold phaseEnd
  rw [hupd, hhold]
  dsimp only
  rw [h]
  rfl

theorem phaseEnd_drive (h : u.phase = .drive) : phaseEnd s = showDsp { s with dsp := { s.dsp with
    upd := some { u with phase := .common }, img := mixImage u s.dsp.img u.target, inprog := false } } := by
  unfold phaseEnd
  rw [hupd, hhold]
  dsimp only
  rw [h]
  rfl

theorem phaseEnd_common (h : u.phase = .common) : phaseEnd s = updateEnd u s := by
  unfold phaseEnd
  rw [hupd, hhold]
  dsimp only
  rw [h]
  rfl

end Phase

theorem updateEnd_dsp (u : DspUpd) (s : State) : (updateEnd u s).dsp = { s.dsp with upd := none } := by
  unfold updateEnd raiseIf
  split
  · exact raise_dsp ..
  · rfl

/-- At power-up the shadow image is driven on every segment. -/
theorem powerUpRefresh_drives (s : State) : (powerUpRefresh s).dsp.inprog = true ∧ ∃ u, (powerUpRefresh s).dsp.upd = some u ∧
    u.target = imageOf s F.DSP_SHD_SHD ∧ u.driven = segMask s ∧ u.why = .powerUp := by
  have hcut : ∀ {f : Fld} (i : Nat), (evtNums.all fun g => g.id != f.id) = true →
      (raiseIf s.dsp.inprog 104 noDetail s).fld f i = s.fld f i := fun i hf => by
    unfold raiseIf
    split
    · exact raise_fld_kept 104 _ s i (by decide) hf
    · rfl
  unfold powerUpRefresh refreshAll
  generalize hw : ({ raiseIf s.dsp.inprog 104 noDetail s with dsp := { s.dsp with fresh := true } } : State) = w
  have himage : imageOf w F.DSP_SHD_SHD = imageOf s F.DSP_SHD_SHD := imageOf_kept fun k => hw ▸ hcut k (by decide)
  have hmask : segMask w = segMask s := congrArg (fun n => 2 ^ n - 1) (hw ▸ hcut 0 (by decide) : w.fld F.DSP_CFG_NSEG = _)
  obtain ⟨hbegun, -, -⟩ := beginUpdate_spec (imageOf w F.DSP_SHD_SHD) (segMask w) .powerUp w
  have hdsp := congrArg State.dsp hbegun
  rw [hdsp]
  exact ⟨rfl, _, rfl, himage, hmask, rfl⟩

/-- Settles O27: content goes by its target, an update by its phases; what shows in the registers is written apart from the display's
own state. -/
theorem displayIsDriven : Obligations.DisplayIsDriven := by
  refine ⟨fun s hon hlcd hv => ?_, ⟨fun s hpriv hctl hon hsrc => ⟨fun hlcd => ?_, fun hpanel => ?_⟩, fun s p hctl hon hsrc hpage => ?_⟩,
    fun s v hon hpanel hqueued hidle hfresh hfirst => ?_,
    fun s u hupd hhold => ⟨fun hphase => ?_, fun hphase => ?_, fun hphase => ?_⟩,
    fun s u hupd => ⟨fun hon hpanel => ?_, fun hhold => ?_⟩, fun s hon hpanel hidle hfresh => ?_⟩
  · obtain ⟨hlow, hhigh⟩ := vlcdTarget_bounds s
    obtain ⟨hframe, hspares⟩ := vlcdUpdate_only s
    refine ⟨hlow, hhigh, _, congrArg Host.Outcome.next (if_pos (by simp [hon, hlcd])), hframe, hspares, fun hbad => if_pos hbad,
      fun htemp hset => ?_⟩
    rw [vlcdUpdate_steps hv htemp hset]
    unfold vlcdNext
    split <;> omega
  · have hshow : dspShow s = newTarget (imageOf s F.DSP_IMG_IMG) s := if_pos (by simp [hon, hsrc])
    exact congrArg Host.Outcome.next ((if_pos hpriv).trans ((onCtl_on hctl _ _).trans (hshow.trans (newTarget_lcd _ s hlcd))))
  · have hshow : dspShow s = newTarget (imageOf s F.DSP_IMG_IMG) s := if_pos (by simp [hon, hsrc])
    exact ⟨_, congrArg Host.Outcome.next ((if_pos hpriv).trans ((onCtl_on hctl _ _).trans (hshow.trans (newTarget_panel _ s hpanel)))),
      Writes_put_of_flds F.DSP_ST_QUEUED 0 1 rfl (by decide), rfl⟩
  · have hp := pageAfter_lt hpage
    have hnext : dspNext s = showPage p s := by
      refine (if_pos (by simp [hon, hsrc])).trans ?_
      unfold nextPage
      rw [hpage]
    obtain ⟨hshown, hspares, hlcd, hpanel⟩ := showPage_shows p hp s
    refine ⟨showPage p s, pageImage s p, fun hpriv => ?_, fun hdwell => ?_, fun hheld => ?_, rfl, hp, hshown, hspares, hlcd, hpanel⟩
    · exact congrArg Host.Outcome.next ((if_pos hpriv).trans ((onCtl_on hctl _ _).trans hnext))
    · exact congrArg Host.Outcome.next ((onCtlOnce_on hctl _ _).trans ((if_neg hdwell).trans hnext))
    · exact congrArg Host.Outcome.next ((onCtlOnce_on hctl _ _).trans (if_pos hheld))
  · have hstart := updateStart_begins hqueued hidle hfresh hfirst
    obtain ⟨hframe, honly, hshadow⟩ := beginUpdate_spec v (v ^^^ s.dsp.img) .content (targetTaken s)
    have hdsp := congrArg State.dsp hframe
    refine ⟨_, updBegun v (v ^^^ s.dsp.img) .content (targetTaken s), congrArg Host.Outcome.next ((if_pos (by simp [hon, hpanel])).trans hstart),
      (congrArg DspSt.upd hdsp :), rfl, rfl,
      targetTaken_phase s, (congrArg DspSt.queued hdsp :), (congrArg DspSt.inprog hdsp :), (congrArg DspSt.ncom hdsp :),
      (congrArg DspSt.img hdsp :), hshadow, ?_, ?_⟩
    · exact (honly.bit 0).trans (bne_eq_false_iff_eq.2 (put_fld_same ..))
    · rw [hdsp]
      exact hframe
  · exact ⟨_, congrArg Host.Outcome.next (phaseEnd_pre hupd hhold hphase), rfl, (showDsp_only _).2⟩
  · exact ⟨_, congrArg Host.Outcome.next (phaseEnd_drive hupd hhold hphase), rfl, rfl, fun b hb => mixImage_testBit u _ _ hb,
      (showDsp_only _).2⟩
  · exact ⟨_, congrArg Host.Outcome.next (phaseEnd_common hupd hhold hphase), updateEnd_dsp u s⟩
  · obtain ⟨hdsp, hpump, -, hkept⟩ := abandonUpdate_spec hupd
    have htimeout : pumpTimeout s = raise 105 noDetail (abandonUpdate s) := if_pos (by simp [hupd])
    exact ⟨_, congrArg Host.Outcome.next ((if_pos (by simp [hon, hpanel])).trans htimeout), hdsp, hpump, hkept⟩
  · obtain ⟨hdsp, hpump, hframe, hkept⟩ := abandonUpdate_spec hupd
    exact ⟨_, congrArg Host.Outcome.next (if_pos (by simp [hhold, hupd])), hdsp, hkept, hpump, hframe⟩
  · obtain ⟨hprog, u, hupd, htarget, hdriven, hwhy⟩ := powerUpRefresh_drives s
    exact ⟨_, u, congrArg Host.Outcome.next (if_pos (by simp [hon, hpanel, hidle, hfresh])), hupd, htarget, hdriven, hwhy, hprog⟩

end Sys2Proof.Machine
end

section
/-! An overwritten position of the ledger need not hold what the statement asks, where a position stands twice in the map (R369). -/

namespace Sys2Proof.Machine

/-- A record of severity 0 with this RSEQ. -/
def plainRec (rseq : Nat) : LdgRec := ⟨rseq, 0, 0, false, false, false, false, false, 0, 0, 0, 0, 0, [], 0⟩

/-- Every position of the ledger is fenced, and position 0 stands once more, behind, with a record: no operation makes such a map, but
the statement takes every state. -/
def doubledLedger : SMap LdgPos := (List.range 2048).map (fun p => (p, LdgPos.fenced)) ++ [(0, .held (plainRec 1))]

/-- A running device with that ledger and a record that waits to be written. -/
def deviceWithDoubledLedger : State :=
  { State.reset with
    pwr := { State.reset.pwr with mstate := .run, reset := none }
    ctl := .running
    ldg := { State.reset.ldg with queue := [plainRec 0], pos := doubledLedger, bucket := 250000000 } }

/-- The first entry of a key is the one that is read. -/
theorem mget_map_append {α : Type} (d v : α) {l : List Nat} {r : SMap α} {k : Nat} (hk : k ∈ l) :
    mget d (l.map (fun j => (j, v)) ++ r) k = v := by
  induction l with
  | nil => cases hk
  | cons j l ih =>
    simp only [List.map_cons, List.cons_append, mget]
    split
    · rfl
    next hj => exact ih ((List.mem_cons.1 hk).resolve_left (Ne.symm hj))

theorem doubledLedger_fenced {p : Nat} (hp : p < 2048) : ldgAt deviceWithDoubledLedger p = .fenced :=
  mget_map_append _ _ (List.mem_range.2 hp)

theorem doubledLedger_records : heldRecs doubledLedger = [(0, plainRec 1)] := by
  have hfenced : ((List.range 2048).map fun p => (p, LdgPos.fenced)).filterMap (fun e => e.2.rec?.map fun r => (e.1, r)) = [] := by
    refine List.filterMap_eq_nil_iff.2 fun e he => ?_
    obtain ⟨p, -, rfl⟩ := List.mem_map.1 he
    rfl
  rw [heldRecs, doubledLedger, List.filterMap_append, hfenced]
  rfl

/-- The record of the second entry is the one that is chosen to be overwritten. -/
theorem doubledLedger_choice : choosePos deviceWithDoubledLedger 0 = some (0, true) := by
  have hfull : (List.range 2048).filter (posFree deviceWithDoubledLedger) = [] := by
    refine List.filter_eq_nil_iff.2 fun p hp => ?_
    rw [posFree, doubledLedger_fenced (List.mem_range.1 hp)]
    decide
  have hrecs : heldRecs deviceWithDoubledLedger.ldg.pos = [(0, plainRec 1)] := doubledLedger_records
  unfold choosePos oldest
  rw [hfull, hrecs]
  rfl

/-- Refutes O22: where a record overwrites another one its position is to read as held; with the map that has position 0 twice the choice
falls on the second entry, and the position reads as fenced, as its first entry says. -/
theorem not_ledgerWritesLooksUpAndAcknowledges : ¬ Obligations.LedgerWritesLooksUpAndAcknowledges := by
  rintro ⟨hwrite, -⟩
  obtain ⟨t, x, -, -, -, -, -, -, -, -, -, -, -, -, -, hheld⟩ := hwrite deviceWithDoubledLedger (plainRec 0) [] 0 true (by decide) rfl rfl
    rfl rfl rfl
    (by decide) (by decide) rfl doubledLedger_choice
  obtain ⟨y, hy, -⟩ := hheld rfl
  rw [doubledLedger_fenced (by decide)] at hy
  cases hy

end Sys2Proof.Machine
end

section
/-! Link ports: the frames that wait on them and that are in the air, and what sends frames (R264, R265). -/

namespace Sys2Proof.Machine

/-! ### Frames on a port -/

/-- Some frame with this property waits on a port, or is in the air. -/
def LinkPort.Holds (p : LinkPort) (P : OutFrame → Prop) : Prop := ∃ g ∈ p.wait ++ p.air, P g

/-- A property that a frame keeps as its port gives it an LSEQ. -/
def OfFrame (P : OutFrame → Prop) : Prop := ∀ g l, P g → P { g with lseq := some (g.lseq.getD l) }

section Holds

variable {P : OutFrame → Prop} (hP : OfFrame P) (now : Nat)
include hP

theorem LinkPort.pump_holds (k : Nat) {p : LinkPort} (h : p.Holds P) : (p.pump now k).Holds P := by
  induction k generalizing p with
  | zero => exact h
  | succ k ih =>
    unfold LinkPort.pump
    split
    · exact h
    · split
      · exact h
      next f hf =>
        refine ih ?_
        obtain ⟨g, hg, hpg⟩ := h
        rcases List.mem_append.1 hg with hwait | hair
        · by_cases hgf : g = f
          · subst hgf
            exact ⟨_, List.mem_append_right _ (List.mem_append_right _ (List.mem_singleton.2 rfl)), hP g p.lseq hpg⟩
          · exact ⟨g, List.mem_append_left _ ((List.mem_erase_of_ne hgf).2 hwait), hpg⟩
        · exact ⟨g, List.mem_append_right _ (List.mem_append_left _ hair), hpg⟩

theorem LinkPort.take_holds (fs : List OutFrame) {p : LinkPort} (h : p.Holds P) : (p.take now fs).Holds P := by
  obtain ⟨g, hg, hpg⟩ := LinkPort.pump_holds hP now p.wait.length h
  refine LinkPort.pump_holds hP now _ ⟨g, ?_, hpg⟩
  rcases List.mem_append.1 hg with hwait | hair
  · exact List.mem_append_left _ (List.mem_append_left _ hwait)
  · exact List.mem_append_right _ hair

theorem LinkPort.take_new {fs : List OutFrame} {f : OutFrame} (hf : f ∈ fs) (hpf : P f) (p : LinkPort) : (p.take now fs).Holds P :=
  LinkPort.pump_holds hP now _ ⟨f, List.mem_append_left _ (List.mem_append_right _ hf), hpf⟩

end Holds

/-- A frame apart from its LSEQ. -/
theorem ofFrame_queued (f : OutFrame) : OfFrame fun g => { g with lseq := none } = f := fun _ _ h => h

/-- A frame that has its LSEQ. -/
theorem ofFrame_eq {f : OutFrame} (h : f.lseq.isSome = true) : OfFrame (· = f) := by
  rintro g l rfl
  obtain ⟨n, hn⟩ := Option.isSome_iff_exists.1 h
  have hkept : some (g.lseq.getD l) = g.lseq := by rw [hn, Option.getD_some]
  exact congrArg (fun x => ({ g with lseq := x } : OutFrame)) hkept

theorem getPort_setPort_same (p : Nat) (x : LinkPort) (s : State) : getPort (setPort p x s) p = x := mget_mput_same ..

theorem getPort_setPort_other {p q : Nat} (h : q ≠ p) (x : LinkPort) (s : State) : getPort (setPort p x s) q = getPort s q :=
  mget_mput_other _ _ _ _ _ _ h

section Send

variable {P : OutFrame → Prop} {s : State}

/-- Frames that wait go on waiting, or into the air, as further frames are sent. -/
theorem linkSend_holds (hP : OfFrame P) (q : Nat) (fs : List OutFrame) {p : Nat} (h : (getPort s p).Holds P) :
    (getPort (linkSend q fs s) p).Holds P := by
  unfold linkSend
  by_cases hpq : p = q
  · subst hpq
    rw [getPort_setPort_same]
    exact LinkPort.take_holds hP _ _ h
  · rw [getPort_setPort_other hpq]
    exact h

theorem linkSend_new (hP : OfFrame P) (q : Nat) {f : OutFrame} (hf : P f) : (getPort (linkSend q [f] s) q).Holds P := by
  unfold linkSend
  rw [getPort_setPort_same]
  exact LinkPort.take_new hP _ (List.mem_singleton.2 rfl) hf _

end Send

/-! ### Sending leaves the rest of the state -/

/-- Going from r to s, only what the ports hold and the next ESEQ of a type has changed. -/
def PortsSent (r s : State) : Prop := s = { r with cvn := { r.cvn with ports := s.cvn.ports, eseq := s.cvn.eseq } }

namespace PortsSent

-- Elaborated side by side, the many short proofs below would each hold a thread, and the threads' stacks are large.
set_option Elab.async false

variable {r s t : State}

theorem refl (s : State) : PortsSent s s := rfl

theorem trans (hrs : PortsSent r s) (hst : PortsSent s t) : PortsSent r t := by
  unfold PortsSent at *
  rw [hst, hrs]

theorem ite {c : Prop} [Decidable c] (hs : PortsSent r s) (ht : PortsSent r t) : PortsSent r (if c then s else t) := by
  split
  · exact hs
  · exact ht

theorem foldl {α : Type} {g : State → α → State} (h : PortsSent r s) (as : List α) (hg : ∀ u a, PortsSent r u → PortsSent r (g u a)) :
    PortsSent r (as.foldl g s) := List.foldlRecOn as g h fun u hu a _ => hg u a hu

theorem after_setPort {p : Nat} {x : LinkPort} (h : PortsSent r s) : PortsSent r (setPort p x s) := h.trans rfl

theorem after_linkSend {p : Nat} {fs : List OutFrame} (h : PortsSent r s) : PortsSent r (linkSend p fs s) := h.after_setPort

theorem after_portSend {p : Nat} {f : OutFrame} (h : PortsSent r s) : PortsSent r (portSend p f s) := h.after_linkSend

theorem after_countFrame {type : Nat} (h : PortsSent r s) : PortsSent r (countFrame type s) := h.trans rfl

theorem after_sendWhere {go : State → Nat → Bool} {but : Nat} {f : OutFrame} (h : PortsSent r s) : PortsSent r (sendWhere go but f s) := by
  unfold sendWhere
  exact h.foldl _ fun _ _ hu => hu.after_portSend.ite hu

theorem after_sendUp {but : Nat} {f : OutFrame} (h : PortsSent r s) : PortsSent r (sendUp but f s) := h.after_sendWhere

theorem after_sendOthers {but : Nat} {f : OutFrame} (h : PortsSent r s) : PortsSent r (sendOthers but f s) := h.after_sendWhere

theorem after_sendHead {b : LinkBody} (h : PortsSent r s) : PortsSent r (sendHead b s) := h.after_portSend.after_countFrame

theorem after_sendSubs (h : PortsSent r s) : PortsSent r (sendSubs s) := by
  unfold sendSubs
  exact h.foldl _ fun _ _ hu => hu.after_portSend.after_countFrame

theorem after_sendBreak {p a b : Nat} (h : PortsSent r s) : PortsSent r (sendBreak p a b s) := h.after_sendUp.after_countFrame

theorem after_sendSegments {type mseq : Nat} {bs : List Nat} (h : PortsSent r s) : PortsSent r (sendSegments type mseq bs s) := by
  unfold sendSegments
  exact h.foldl _ fun _ _ hu => hu.after_linkSend.after_countFrame

theorem flds (h : PortsSent r s) : s.flds = r.flds := (congrArg State.flds h :)

theorem fld (h : PortsSent r s) (f : Fld) (i : Nat) : s.fld f i = r.fld f i := congrArg (fget · f i) h.flds

theorem clk (h : PortsSent r s) : s.clk = r.clk := (congrArg State.clk h :)

end PortsSent

section Where

variable {go : State → Nat → Bool} {but : Nat} {f : OutFrame} {s : State} {k : Nat}

/-- One port of those that a frame may leave. -/
def sendOne (go : State → Nat → Bool) (but : Nat) (f : OutFrame) (s : State) (p : Nat) : State :=
  if p ≠ but ∧ go s p then portSend p f s else s

/-- A port that the frame does not leave is left alone. -/
theorem sendWhere_other (hgo : ∀ {u}, PortsSent s u → go u k = go s k) (h : k = but ∨ go s k = false) :
    getPort (sendWhere go but f s) (k + 1) = getPort s (k + 1) := by
  refine (List.foldlRecOn (motive := fun u => PortsSent s u ∧ getPort u (k + 1) = getPort s (k + 1)) (List.range 3) (sendOne go but f)
    ⟨.refl s, rfl⟩ fun u ⟨hsent, hport⟩ p _ => ?_).2
  unfold sendOne
  split
  next hp =>
    refine ⟨hsent.after_portSend, (getPort_setPort_other (fun hkp => ?_) _ _).trans hport⟩
    obtain rfl : k = p := Nat.succ.inj hkp
    rcases h with rfl | h
    · exact hp.1 rfl
    · exact Bool.false_ne_true (h.symm.trans ((hgo hsent).symm.trans hp.2))
  · exact ⟨hsent, hport⟩

/-- A port that the frame leaves has it. -/
theorem sendWhere_queued (hgo : ∀ {u}, PortsSent s u → go u k = go s k) (hk : k < 3) (hbut : k ≠ but) (h : go s k = true)
    (hf : f.lseq = none) : Queued (sendWhere go but f s) (k + 1) (onPort k f) := by
  have hnone : { onPort k f with lseq := none } = onPort k f := by
    unfold onPort
    split <;> simp [← hf]
  have hall : ∀ l : List Nat, ∀ u, PortsSent s u → (k ∈ l ∨ Queued u (k + 1) (onPort k f)) →
      Queued (l.foldl (sendOne go but f) u) (k + 1) (onPort k f) := by
    intro l
    induction l with
    | nil => exact fun u _ hu => hu.resolve_left List.not_mem_nil
    | cons p l ih =>
      intro u hsent hu
      refine ih _ (hsent.after_portSend.ite hsent) ?_
      unfold sendOne
      split
      · rcases hu with hmem | hq
        · rcases List.mem_cons.1 hmem with rfl | hmem
          · exact .inr (linkSend_new (ofFrame_queued _) _ hnone)
          · exact .inl hmem
        · exact .inr (linkSend_holds (ofFrame_queued _) _ _ hq)
      next hp =>
        refine hu.imp_left fun hmem => (List.mem_cons.1 hmem).resolve_left fun hkp => hp ?_
        subst hkp
        exact ⟨hbut, (hgo hsent).trans h⟩
  exact hall (List.range 3) s (.refl s) (.inl (List.mem_range.2 hk))

theorem portUp_sent {s u : State} (h : PortsSent s u) (k : Nat) : portUp u k = portUp s k := by
  unfold portUp lstate
  rw [h.fld]

theorem portActive_sent {s u : State} (h : PortsSent s u) (k : Nat) : portActive u k = portActive s k := by
  unfold portActive lstate
  rw [h.fld]

end Where

end Sys2Proof.Machine
end

section
/-! The ring of a caravan: what discovery, breaks and training change, and what they leave (R266, R267, R270, R271). -/

namespace Sys2Proof.Machine

/-- The fields in which the ring, its links and its members show. -/
def ringNums : List Fld := evtNums ++ [F.CVN_PST_LSTATE, F.CVN_ST_LINKL, F.CVN_ST_RING, F.CVN_ST_FORML, F.CVN_ST_SPLITL, F.CVN_ST_MISSL,
  F.CVN_ST_STATE, F.CVN_SYNC_HOPS]

/-- What the caravan keeps besides its ports, its ring and the way to the head. -/
def ringFree (x : CvnSt) : CvnSt := { x with ports := [], eseq := [], absent := [], broken := [], src := none, routeT := 0 }

/-- Going from r to s, no field is written but those with these numbers, and nothing else has changed but the ports, the ring, the way
to the head, and the ledger's queues. -/
structure RingOps (l : List Fld) (r s : State) : Prop where
  only : WritesOnly l r s
  frame : s = { r with flds := s.flds, ldg := s.ldg, cvn := s.cvn }
  cvn : ringFree s.cvn = ringFree r.cvn

namespace RingOps

-- Elaborated side by side, the many short proofs below would each hold a thread, and the threads' stacks are large.
set_option Elab.async false

variable {l k : List Fld} {r s t : State}

theorem refl (l : List Fld) (s : State) : RingOps l s s := ⟨.refl l s, rfl, rfl⟩

theorem trans (hrs : RingOps l r s) (hst : RingOps l s t) : RingOps l r t :=
  ⟨hrs.only.trans hst.only, by rw [hst.frame, hrs.frame], hst.cvn.trans hrs.cvn⟩

theorem mono (h : RingOps l r s) (hl : l ⊆ k) : RingOps k r s := ⟨h.only.mono hl, h.frame, h.cvn⟩

theorem ite {c : Prop} [Decidable c] (hs : RingOps l r s) (ht : RingOps l r t) : RingOps l r (if c then s else t) := by
  split
  · exact hs
  · exact ht

theorem foldl {α : Type} {g : State → α → State} (h : RingOps l r s) (as : List α) (hg : ∀ u a, RingOps l r u → RingOps l r (g u a)) :
    RingOps l r (as.foldl g s) := List.foldlRecOn as g h fun u hu a _ => hg u a hu

theorem put {g : Fld} {i v : Nat} (h : RingOps l r s) (hg : g ∈ l := by decide) : RingOps l r (s.put g i v) :=
  h.trans ⟨.of_put s i v hg, rfl, rfl⟩

theorem withCvn {x : CvnSt} (h : RingOps l r s) (hx : ringFree x = ringFree s.cvn := by rfl) : RingOps l r { s with cvn := x } :=
  h.trans ⟨.refl l s, rfl, hx⟩

theorem after_raise {e d : Nat} (h : RingOps l r s) (he : e < 128 := by decide) (hl : evtNums ⊆ l := by decide) :
    RingOps l r (raise e d s) := by
  have hshows := (Shows.refl l s).after_raise (e := e) (d := d) he hl
  exact h.trans ⟨hshows.only, by rw [hshows.1], (congrArg (fun u : State => ringFree u.cvn) hshows.1 :)⟩

theorem after_sent (h : RingOps l r s) (hst : PortsSent s t) : RingOps l r t :=
  h.trans ⟨fun _ _ _ => hst.fld _ _, by rw [hst], (congrArg (fun u : State => ringFree u.cvn) hst :)⟩

theorem fld (h : RingOps l r s) {f : Fld} (i : Nat) (hf : (l.all fun g => g.id != f.id) = true := by decide) :
    s.fld f i = r.fld f i := h.only.fld i hf

theorem locked (h : RingOps l r s) : s.cvn.locked = r.cvn.locked := (congrArg CvnSt.locked h.cvn :)

theorem cfg (h : RingOps l r s) : s.cvn.cfg = r.cvn.cfg := (congrArg CvnSt.cfg h.cvn :)

/-- The head stays the head. -/
theorem isHead (h : RingOps l r s) (hl : (l.all fun g => g.id != F.TWN_CFG_EN.id) = true := by decide) : isHead s = isHead r := by
  unfold Machine.isHead drives
  rw [h.cfg, (congrArg State.pls h.frame :), (congrArg State.itn h.frame :), h.only.bit 0 hl]

end RingOps

/-- The fields in which RING, its forming and its splitting show. -/
def formNums : List Fld := evtNums ++ [F.CVN_ST_RING, F.CVN_ST_FORML, F.CVN_ST_SPLITL]

section Ring

variable (s : State)

theorem setRing_ring {n : Nat} (hn : n < 4) : (setRing n s).fld F.CVN_ST_RING = n := by
  have hput : (s.put F.CVN_ST_RING 0 n).fld F.CVN_ST_RING = n := (put_fld_same ..).trans (Nat.mod_eq_of_lt hn)
  unfold setRing
  dsimp only
  split
  · assumption
  · split
    · exact (raise_fld_kept 50 _ _ 0).trans ((put_fld_field _ _ _ _ _ _ (by decide)).trans hput)
    · split
      · exact hput
      · exact (raise_fld_kept 48 _ _ 0).trans ((put_fld_field _ _ _ _ _ _ (by decide)).trans hput)

theorem setRing_ops (n : Nat) : RingOps formNums s (setRing n s) := by
  have hring : RingOps formNums s (s.put F.CVN_ST_RING 0 n) := (RingOps.refl _ s).put
  unfold setRing
  dsimp only
  exact (RingOps.refl _ s).ite (hring.put.after_raise.ite (hring.ite hring.put.after_raise))

theorem closureIn_ops : RingOps [F.CVN_PST_LSTATE] s (closureIn s) := (RingOps.refl _ s).put.ite (.refl _ s)

theorem closureOut_ops : RingOps [F.CVN_PST_LSTATE] s (closureOut s) := (RingOps.refl _ s).put.ite (.refl _ s)

/-- The chain is whole again. -/
theorem closureOut_whole_ops : RingOps [F.CVN_PST_LSTATE] s (closureOut { s with cvn := { s.cvn with broken := [] } }) :=
  (RingOps.refl _ s).withCvn.trans (closureOut_ops _)

theorem checkMissing_ops (present : Nat) : RingOps (evtNums ++ [F.CVN_ST_MISSL]) s (checkMissing present s) := by
  unfold checkMissing
  exact (RingOps.refl _ s).foldl _ fun _ _ hu => (hu.withCvn.put.after_raise.ite hu.withCvn).ite hu.withCvn

theorem cutOff_ops : RingOps ringNums s (cutOff s) := by
  unfold cutOff
  exact (RingOps.refl _ s).withCvn.put.ite (RingOps.refl _ s).withCvn

theorem reroute_ops : RingOps [F.CVN_ST_STATE, F.CVN_ST_FORML, F.CVN_SYNC_HOPS] s (reroute s) ∧
    (reroute s).cvn.broken = s.cvn.broken := by
  unfold reroute cutOff
  have hself := RingOps.refl [F.CVN_ST_STATE, F.CVN_ST_FORML, F.CVN_SYNC_HOPS] s
  split
  · exact ⟨hself.withCvn, rfl⟩
  · split
    · exact ⟨hself, rfl⟩
    · dsimp only
      split
      · split
        · exact ⟨hself.withCvn.put, rfl⟩
        · exact ⟨hself.withCvn, rfl⟩
      · exact ⟨hself.withCvn.put.put, rfl⟩

theorem setRing_cvn (n : Nat) : (setRing n s).cvn = s.cvn := by
  unfold setRing
  dsimp only
  split
  · rfl
  · split
    · exact raise_cvn ..
    · split
      · rfl
      · exact raise_cvn ..

theorem closureIn_cvn : (closureIn s).cvn = s.cvn := by
  unfold closureIn
  split <;> rfl

/-- A link known to be broken changes nothing; another one joins them, and RING follows. -/
theorem ringBroken_known {a b : Nat} (h : linkOf a b ∈ s.cvn.broken) : ringBroken a b s = s := if_pos (by simpa using h)

/-- The ring with a further broken link. -/
def linkBroken (a b : Nat) : State :=
  setRing (ringAfter s) (closureIn { s with cvn := { s.cvn with broken := linkOf a b :: s.cvn.broken } })

theorem ringBroken_new {a b : Nat} (h : linkOf a b ∉ s.cvn.broken) : ringBroken a b s = reroute (linkBroken s a b) := if_neg (by simpa using h)

theorem linkBroken_ops (a b : Nat) : RingOps ringNums s (linkBroken s a b) :=
  ((((RingOps.refl _ s).withCvn).trans ((closureIn_ops _).mono (by decide)))).trans ((setRing_ops _ _).mono (by decide))

theorem ringAfter_lt : ringAfter s < 4 := by
  unfold ringAfter
  split <;> decide

theorem ringBroken_breaks {a b : Nat} (h : linkOf a b ∉ s.cvn.broken) :
    (ringBroken a b s).cvn.broken = linkOf a b :: s.cvn.broken ∧ (ringBroken a b s).fld F.CVN_ST_RING = ringAfter s := by
  rw [ringBroken_new s h]
  obtain ⟨hops, hbroken⟩ := reroute_ops (linkBroken s a b)
  refine ⟨hbroken.trans ?_, (hops.fld 0).trans (setRing_ring _ (ringAfter_lt s))⟩
  unfold linkBroken
  rw [setRing_cvn, closureIn_cvn]

theorem ringBroken_ops (a b : Nat) : RingOps ringNums s (ringBroken a b s) := by
  unfold ringBroken
  exact (RingOps.refl _ s).ite ((linkBroken_ops s a b).trans ((reroute_ops _).1.mono (by decide)))

/-! ### Member states (R267) -/

theorem enterLocked_writes : Writes [(F.CVN_ST_STATE, 0, 4), (F.CVN_ST_SYNC, 0, 1)] s (enterLocked s) :=
  Writes_of_flds (Writes_snoc (Writes_put s F.CVN_ST_STATE 0 4 (by decide)) (f := F.CVN_ST_SYNC) (i := 0) (v := 1) (by decide)) rfl

theorem enterLocked_only : WritesOnly [F.CVN_ST_STATE, F.CVN_ST_SYNC] s (enterLocked s) := by
  have hstate : WritesOnly [F.CVN_ST_STATE, F.CVN_ST_SYNC] s (s.put F.CVN_ST_STATE 0 4) := .of_put s 0 4 (by decide)
  have hsync : WritesOnly [F.CVN_ST_STATE, F.CVN_ST_SYNC] (s.put F.CVN_ST_STATE 0 4) ((s.put F.CVN_ST_STATE 0 4).put F.CVN_ST_SYNC 0 1) :=
    .of_put _ 0 1 (by decide)
  exact hstate.trans hsync

/-- A head that has been LOCKED is LOCKED at once. -/
theorem headLocks_eq (hhead : isHead s = true) : headLocks s =
    if s.cvn.locked = true ∧ (s.fld F.CVN_ST_STATE = 3 ∨ s.fld F.CVN_ST_STATE = 5) then enterLocked s else s := by
  unfold headLocks
  refine ite_congr (propext ?_) (fun _ => rfl) fun _ => rfl
  simp [hhead]

/-- The state of a head after a discovery. -/
theorem headState_shows (ringTime : Bool) (hhead : isHead s = true) :
    WritesOnly [F.CVN_ST_STATE, F.CVN_ST_SYNC] s (headState ringTime s) ∧
    (headState ringTime s).fld F.CVN_ST_STATE = (if s.fld F.CVN_ST_STATE = 1 ∨ s.fld F.CVN_ST_STATE = 2 then
        if s.cvn.locked || !ringTime then 4 else 2
      else if s.cvn.locked = true ∧ (s.fld F.CVN_ST_STATE = 3 ∨ s.fld F.CVN_ST_STATE = 5) then 4 else s.fld F.CVN_ST_STATE) ∧
    (s.fld F.CVN_ST_STATE = 1 ∨ s.fld F.CVN_ST_STATE = 2 → ringTime = false → (headState ringTime s).bit F.CVN_ST_SYNC = true) := by
  have hlocked := enterLocked_writes s
  have honly := enterLocked_only s
  have hstate := Writes_fld hlocked (f := F.CVN_ST_STATE) (i := 0) (v := 4) (by simp)
  unfold headState
  dsimp only
  by_cases hstart : s.fld F.CVN_ST_STATE = 1 ∨ s.fld F.CVN_ST_STATE = 2
  · rw [if_pos hstart, if_pos hstart]
    by_cases htime : (s.cvn.locked || !ringTime) = true
    · rw [if_pos htime, if_pos htime]
      exact ⟨honly, hstate, fun _ _ => Writes_bit hlocked (by simp)⟩
    · rw [if_neg htime, if_neg htime]
      exact ⟨.of_put s 0 2 (by decide), put_fld_same .., fun _ hring => (htime (by simp [hring])).elim⟩
  · rw [if_neg hstart, if_neg hstart]
    rw [headLocks_eq s hhead]
    split
    · exact ⟨honly, hstate, fun h => (hstart h).elim⟩
    · exact ⟨.refl _ s, rfl, fun h => (hstart h).elim⟩

end Ring

/-! ### Discovery (R266) -/

section Discovery

variable (present : Nat) (chainUp closure reached ringTime : Bool) (s : State)

/-- The positions that are present, with the head's own. -/
def discHere : Nat := present ||| 2 ^ position s

/-- RING by what a discovery reached. -/
def discRing : Nat := if !reached then 3 else if chainUp && closure then 1 else 2

/-- The present map is shown. -/
def discShown : State :=
  (s.put F.CVN_PRES_LO_PRES_LO 0 (discHere present s)).put F.CVN_PRES_HI_PRES_HI 0 (discHere present s / 2 ^ 32)

/-- The ring is announced, and its state shown. -/
def discFormed : State :=
  let s1 := discShown present s
  let ring := discRing chainUp closure reached
  setRing ring (countFrame 0x13 (sendUp 3 (memberFrame s1 0xFF (.discover (Fin.ofNat 4 ring) [ownReach s1])) s1))

/-- A closed ring knows no broken link, and its closure link stands by. -/
def discWhole : State :=
  let s2 := discFormed present chainUp closure reached s
  if discRing chainUp closure reached = 1 then closureOut { s2 with cvn := { s2.cvn with broken := [] } } else s2

theorem discovery_eq : discovery present chainUp closure reached ringTime s =
    headState ringTime (sendSubs (checkMissing (discHere present s) (discWhole present chainUp closure reached s))) := by
  unfold discovery discWhole discFormed discShown discRing discHere
  congr 1

theorem discFormed_ops : RingOps formNums (discShown present s) (discFormed present chainUp closure reached s) :=
  ((RingOps.refl _ _).after_sent (PortsSent.refl _).after_sendUp.after_countFrame).trans (setRing_ops _ _)

theorem discRing_lt : discRing chainUp closure reached < 4 := by
  unfold discRing
  split
  · decide
  · split <;> decide

/-- What follows leaves RING. -/
theorem discWhole_ops : RingOps (evtNums ++ [F.CVN_PST_LSTATE, F.CVN_ST_MISSL]) (discFormed present chainUp closure reached s)
    (sendSubs (checkMissing (discHere present s) (discWhole present chainUp closure reached s))) := by
  have hwhole : RingOps [F.CVN_PST_LSTATE] (discFormed present chainUp closure reached s) (discWhole present chainUp closure reached s) :=
    (closureOut_whole_ops _).ite (.refl _ _)
  exact ((hwhole.mono (by decide)).trans ((checkMissing_ops _ _).mono (by decide))).after_sent (PortsSent.refl _).after_sendSubs

theorem discovery_shows (hhead : isHead s = true) :
    (discovery present chainUp closure reached ringTime s).fld F.CVN_PRES_LO_PRES_LO = discHere present s % 2 ^ 32 ∧
    (discovery present chainUp closure reached ringTime s).fld F.CVN_PRES_HI_PRES_HI = discHere present s / 2 ^ 32 % 2 ^ 32 ∧
    (discovery present chainUp closure reached ringTime s).fld F.CVN_ST_RING = discRing chainUp closure reached ∧
    (discovery present chainUp closure reached ringTime s).fld F.CVN_ST_STATE =
      (if s.fld F.CVN_ST_STATE = 1 ∨ s.fld F.CVN_ST_STATE = 2 then if s.cvn.locked || !ringTime then 4 else 2
      else if s.cvn.locked = true ∧ (s.fld F.CVN_ST_STATE = 3 ∨ s.fld F.CVN_ST_STATE = 5) then 4 else s.fld F.CVN_ST_STATE) ∧
    (s.fld F.CVN_ST_STATE = 1 ∨ s.fld F.CVN_ST_STATE = 2 → ringTime = false →
      (discovery present chainUp closure reached ringTime s).bit F.CVN_ST_SYNC = true) := by
  have hshown : RingOps [F.CVN_PRES_LO_PRES_LO, F.CVN_PRES_HI_PRES_HI] s (discShown present s) := (RingOps.refl _ s).put.put
  have hring : (discFormed present chainUp closure reached s).fld F.CVN_ST_RING = discRing chainUp closure reached :=
    setRing_ring _ (discRing_lt chainUp closure reached)
  have hformed := discFormed_ops present chainUp closure reached s
  have hwhole := discWhole_ops present chainUp closure reached s
  rw [discovery_eq]
  generalize sendSubs (checkMissing (discHere present s) (discWhole present chainUp closure reached s)) = v at hwhole
  have hstate : v.fld F.CVN_ST_STATE = s.fld F.CVN_ST_STATE := (hwhole.fld 0).trans ((hformed.fld 0).trans (hshown.fld 0))
  have hlocked : v.cvn.locked = s.cvn.locked := hwhole.locked.trans (hformed.locked.trans hshown.locked)
  obtain ⟨honly, hnext, hsync⟩ := headState_shows v ringTime (hwhole.isHead.trans (hformed.isHead.trans (hshown.isHead.trans hhead)))
  rw [hstate, hlocked] at hnext
  rw [hstate] at hsync
  refine ⟨(honly.fld 0).trans ((hwhole.fld 0).trans ((hformed.fld 0).trans ?_)), (honly.fld 0).trans ((hwhole.fld 0).trans
    ((hformed.fld 0).trans ?_)), (honly.fld 0).trans ((hwhole.fld 0).trans hring), hnext, hsync⟩
  · exact (put_fld_field _ _ _ _ _ _ (by decide)).trans (put_fld_same ..)
  · exact put_fld_same ..

end Discovery

end Sys2Proof.Machine
end

section
/-! Timing marks, the loss of them, and the summary page (R267, R268, R271, R272, R276). -/

namespace Sys2Proof.Machine

/-! ### Site time set, and steered -/

theorem moveT_to (t site : Nat) : moveT ((t : Int) - site) site = t := by
  unfold moveT
  omega

/-- Site time is set: no register field changes, nor what the caravan keeps. -/
theorem jumpTo_sets (t : Nat) (s : State) : (jumpTo t s).clk.site = t % 2 ^ 64 ∧ (jumpTo t s).flds = s.flds ∧ (jumpTo t s).cvn = s.cvn := by
  refine ⟨?_, rfl, rfl⟩
  show moveT ((t : Int) - s.clk.site) s.clk.site % 2 ^ 64 = _
  rw [moveT_to]

theorem steerMark_clk (here : Nat) (s : State) : (steerMark here s).clk =
    if followsLead s then s.clk else { s.clk with slew := (here : Int) - s.clk.site, ppm := 50, slewT := 0 } := by
  unfold steerMark
  split <;> rfl

theorem steerMark_kept (here : Nat) (s : State) : (steerMark here s).flds = s.flds ∧ (steerMark here s).cvn = s.cvn := by
  unfold steerMark
  split <;> exact ⟨rfl, rfl⟩

theorem followsLead_kept {l : List Fld} {s t : State} (h : WritesOnly l s t) (htwn : t.twn = s.twn)
    (hl : (l.all fun g => g.id != F.TWN_ST_STATE.id) = true := by decide) : followsLead t = followsLead s := by
  unfold followsLead paired
  rw [h.fld 0 hl, htwn]

/-! ### A mark arrives (R268) -/

section Mark

variable (p : Nat) (m : TimingMark) (s : State)

/-- A mark is noted, before it goes on. -/
def markSeen : State :=
  let s1 := { s with cvn := { s.cvn with
    lastSeq := some m.body.seq.toNat, src := some p
    step := if isHead s then s.cvn.step else m.body.step.orElse fun _ => s.cvn.step } }
  if s.cvn.src.isSome ∧ s.cvn.src ≠ some p then { s1.put F.CVN_ST_FORML 0 1 with cvn := { s1.cvn with routeT := s1.clk.now + 1 } } else s1

/-- A mark goes on, and its hops show. -/
def markPassed : State := (passMark p m (markSeen p m s)).put F.CVN_SYNC_HOPS 0 (min 255 (m.body.hops + 1))

/-- Only the way that the mark came is noted. -/
structure MarkNoted (v : State) : Prop where
  frame : v = { s with flds := v.flds, cvn := v.cvn }
  only : WritesOnly [F.CVN_ST_FORML, F.CVN_SYNC_HOPS] s v
  src : v.cvn.src = some p
  good : v.cvn.good = s.cvn.good

theorem markSeen_noted : MarkNoted p s (markSeen p m s) := by
  unfold markSeen
  dsimp only
  split
  · exact ⟨rfl, WritesOnly.of_put (l := [F.CVN_ST_FORML, F.CVN_SYNC_HOPS]) (g := F.CVN_ST_FORML) s 0 1 (by decide), rfl, rfl⟩
  · exact ⟨rfl, .refl _ s, rfl, rfl⟩

theorem markPassed_noted : MarkNoted p s (markPassed p m s) ∧
    (markPassed p m s).fld F.CVN_SYNC_HOPS = min 255 (m.body.hops + 1) := by
  obtain ⟨hframe, honly, hsrc, hgood⟩ := markSeen_noted p m s
  have hsent : PortsSent (markSeen p m s) (passMark p m (markSeen p m s)) := (PortsSent.refl _).after_sendUp
  refine ⟨⟨?_, honly.trans ?_, ?_, ?_⟩, (put_fld_same ..).trans (Nat.mod_eq_of_lt (Nat.lt_succ_of_le (min_le_left ..)))⟩
  · unfold markPassed State.put
    rw [hsent, hframe]
  · exact WritesOnly.trans (fun _ _ _ => hsent.fld _ _) (WritesOnly.of_put (l := [F.CVN_ST_FORML, F.CVN_SYNC_HOPS])
      (g := F.CVN_SYNC_HOPS) (passMark p m (markSeen p m s)) 0 (min 255 (m.body.hops + 1)) (by decide))
  · exact (congrArg (fun u : State => u.cvn.src) hsent :).trans hsrc
  · exact (congrArg (fun u : State => u.cvn.good) hsent :).trans hgood

theorem markReceive_seen (h : s.cvn.lastSeq = some m.body.seq.toNat) : markReceive p m s = s := if_pos (.inr h)

theorem markReceive_member (hup : portUp s p = true) (hnew : s.cvn.lastSeq ≠ some m.body.seq.toNat) (hhead : isHead s = false) :
    markReceive p m s = applyMark p m (markPassed p m s) :=
  (if_neg (by simp [hup, hnew])).trans (if_neg (by simp [hhead]))

/-- The phase of a mark is shown. -/
def phaseShown : State := s.putI F.CVN_SYNC_PHERR 0 (clampS 16 m.phase)

theorem phaseShown_sfld : (phaseShown m s).sfld F.CVN_SYNC_PHERR = clampS 16 m.phase := by
  refine putI_sfld_same s F.CVN_SYNC_PHERR 0 (clampS 16 m.phase) 15 rfl ?_ ?_
  · exact le_max_left ..
  · exact max_lt (by decide) (lt_of_le_of_lt (min_le_left ..) (by decide))

/-- A member that joins takes the time of its first mark at once. -/
theorem applyMark_joins (hstate : s.fld F.CVN_ST_STATE = 1 ∨ s.fld F.CVN_ST_STATE = 2) (hmet : s.pwr.metering = false)
    (hlead : followsLead s = false) : applyMark p m s =
      (jumpTo (markTime p m s) ({ phaseShown m s with cvn := { s.cvn with good := 0 } }.put F.CVN_ST_STATE 0 3)).put F.CVN_SYNC_PHERR 0 0 := by
  have hstep : (s.pwr.metering || followsLead s) = false := by simp [hmet, hlead]
  unfold applyMark
  rcases hstate with h | h
  · rw [h]
    exact if_neg (by simp [hstep])
  · rw [h]
    exact if_neg (by simp [hstep])

theorem applyMark_syncing (hstate : s.fld F.CVN_ST_STATE = 3) : applyMark p m s =
    if (if |m.phase| ≤ 100 then min 8 (s.cvn.good + 1) else 0) = 8 then
      enterLocked (steerMark (markTime p m s) { phaseShown m s with cvn := { s.cvn with
        good := if |m.phase| ≤ 100 then min 8 (s.cvn.good + 1) else 0 } })
    else steerMark (markTime p m s) { phaseShown m s with cvn := { s.cvn with
      good := if |m.phase| ≤ 100 then min 8 (s.cvn.good + 1) else 0 } } := by
  unfold applyMark
  rw [hstate]
  simp only [decide_eq_true_eq]
  rfl

theorem applyMark_locked (hstate : s.fld F.CVN_ST_STATE = 4) : applyMark p m s = steerMark (markTime p m s) (phaseShown m s) := by
  unfold applyMark
  rw [hstate]
  rfl

theorem applyMark_held (hstate : s.fld F.CVN_ST_STATE = 5) : applyMark p m s =
    steerMark (markTime p m s) ({ phaseShown m s with cvn := { s.cvn with good := 0 } }.put F.CVN_ST_STATE 0 3) := by
  unfold applyMark
  rw [hstate]
  rfl

end Mark

/-- The first mark of a member that joins sets its site time. -/
theorem applyMark_joins_shows (p : Nat) (m : TimingMark) {s : State} (hstate : s.fld F.CVN_ST_STATE = 1 ∨ s.fld F.CVN_ST_STATE = 2)
    (hmet : s.pwr.metering = false) (hlead : followsLead s = false) : (applyMark p m s).fld F.CVN_ST_STATE = 3 ∧
    (applyMark p m s).cvn.src = s.cvn.src ∧ (applyMark p m s).clk.site = markTime p m s % 2 ^ 64 ∧
    (applyMark p m s).fld F.CVN_SYNC_HOPS = s.fld F.CVN_SYNC_HOPS := by
  rw [applyMark_joins p m s hstate hmet hlead]
  obtain ⟨hsite, hflds, hcvn⟩ := jumpTo_sets (markTime p m s) ({ phaseShown m s with cvn := { s.cvn with good := 0 } }.put F.CVN_ST_STATE 0 3)
  refine ⟨(put_fld_field _ _ _ _ _ _ (by decide)).trans ?_, (congrArg CvnSt.src hcvn :), hsite, (put_fld_field _ _ _ _ _ _ (by decide)).trans ?_⟩
  · rw [State.fld, hflds]
    exact put_fld_same ..
  · rw [State.fld, hflds]
    exact (put_fld_field _ _ _ _ _ _ (by decide)).trans (put_fld_field _ _ _ _ _ _ (by decide))

section Steered

variable (p : Nat) (m : TimingMark) (s : State)

/-- The clock steered to a mark. -/
def markClk : ClockSt :=
  if followsLead s then s.clk else { s.clk with slew := (markTime p m s : Int) - s.clk.site, ppm := 50, slewT := 0 }

theorem steerMark_markClk {u : State} {l : List Fld} (h : WritesOnly l s u) (htwn : u.twn = s.twn) (hclk : u.clk = s.clk)
    (hl : (l.all fun g => g.id != F.TWN_ST_STATE.id) = true := by decide) : (steerMark (markTime p m s) u).clk = markClk p m s := by
  rw [steerMark_clk, followsLead_kept h htwn hl, hclk]
  rfl

theorem phaseShown_only : WritesOnly [F.CVN_SYNC_PHERR] s (phaseShown m s) := .of_put s 0 _ (by decide)

/-- In SYNCING a mark is steered to, and the ones in a row are counted. -/
theorem applyMark_syncing_shows (hstate : s.fld F.CVN_ST_STATE = 3) : (applyMark p m s).clk = markClk p m s ∧
    (applyMark p m s).cvn.good = (if |m.phase| ≤ 100 then min 8 (s.cvn.good + 1) else 0) ∧
    (applyMark p m s).fld F.CVN_ST_STATE = (if |m.phase| ≤ 100 ∧ 7 ≤ s.cvn.good then 4 else 3) ∧
    (applyMark p m s).sfld F.CVN_SYNC_PHERR = clampS 16 m.phase := by
  have hiff : (if |m.phase| ≤ 100 then min 8 (s.cvn.good + 1) else 0) = 8 ↔ |m.phase| ≤ 100 ∧ 7 ≤ s.cvn.good := by
    split <;> simp_all
  rw [applyMark_syncing p m s hstate]
  generalize hg : (if |m.phase| ≤ 100 then min 8 (s.cvn.good + 1) else 0) = g at hiff
  have hclk := steerMark_markClk p m s (u := { phaseShown m s with cvn := { s.cvn with good := g } }) (phaseShown_only m s) rfl rfl
  obtain ⟨hflds, hcvn⟩ := steerMark_kept (markTime p m s) { phaseShown m s with cvn := { s.cvn with good := g } }
  generalize steerMark (markTime p m s) { phaseShown m s with cvn := { s.cvn with good := g } } = u at hclk hflds hcvn
  have hsfld : u.sfld F.CVN_SYNC_PHERR = clampS 16 m.phase := by
    unfold State.sfld State.fld
    rw [hflds]
    exact phaseShown_sfld m s
  by_cases hlock : g = 8
  · rw [if_pos hlock, if_pos (hiff.1 hlock)]
    refine ⟨hclk, (congrArg CvnSt.good hcvn :), Writes_fld (enterLocked_writes u) (by simp), ?_⟩
    unfold State.sfld
    rw [(enterLocked_only u).fld 0]
    exact hsfld
  · rw [if_neg hlock, if_neg (hlock ∘ hiff.2)]
    refine ⟨hclk, (congrArg CvnSt.good hcvn :), ?_, hsfld⟩
    rw [State.fld, hflds]
    exact ((phaseShown_only m s).fld 0).trans hstate

theorem applyMark_held_shows (hstate : s.fld F.CVN_ST_STATE = 5) : (applyMark p m s).clk = markClk p m s ∧
    (applyMark p m s).cvn.good = 0 ∧ (applyMark p m s).fld F.CVN_ST_STATE = 3 := by
  have honly : WritesOnly [F.CVN_SYNC_PHERR, F.CVN_ST_STATE] s ({ phaseShown m s with cvn := { s.cvn with good := 0 } }.put F.CVN_ST_STATE 0 3) := by
    have hput : WritesOnly [F.CVN_SYNC_PHERR, F.CVN_ST_STATE] (phaseShown m s)
      ({ phaseShown m s with cvn := { s.cvn with good := 0 } }.put F.CVN_ST_STATE 0 3) := .of_put _ 0 3 (by decide)
    exact ((phaseShown_only m s).mono (by decide)).trans hput
  rw [applyMark_held p m s hstate]
  obtain ⟨hflds, hcvn⟩ := steerMark_kept (markTime p m s) ({ phaseShown m s with cvn := { s.cvn with good := 0 } }.put F.CVN_ST_STATE 0 3)
  refine ⟨steerMark_markClk p m s honly rfl rfl, (congrArg CvnSt.good hcvn :), ?_⟩
  rw [State.fld, hflds]
  exact put_fld_same ..

end Steered

/-! ### Marks of the head (R268) -/

/-- The frame of the head's mark at this instant. -/
def headMarkFrame (s : State) : OutFrame := memberFrame s 0xFF (.mark (markNow s))

/-- One more mark of the head. -/
def markCounted (s : State) : State := { s with cvn := { s.cvn with marks := (s.cvn.marks + 1) % 65536 } }

theorem markOriginate_eq (t : Nat) (s : State) : markOriginate t s =
    markCounted (countFrame 0x11 (sendUp 3 (headMarkFrame (reachTime t s)) (reachTime t s))) := by
  unfold markOriginate markCounted headMarkFrame
  rfl

theorem Queued_congr {s t : State} (h : t.cvn.ports = s.cvn.ports) {p : Nat} {f : OutFrame} (hq : Queued s p f) : Queued t p f := by
  unfold Queued getPort at *
  rw [h]
  exact hq

/-- The head's marks are counted, and leave every port that is up. -/
theorem markOriginate_sends {t : Nat} {s : State} (ht : t < 2 ^ 64) : (markOriginate t s).cvn.marks = (s.cvn.marks + 1) % 65536 ∧
    (markOriginate t s).clk.site = max s.clk.site t ∧ (markOriginate t s).flds = s.flds ∧
    ∀ k < 3, portUp s k = true → Queued (markOriginate t s) (k + 1) (onPort k (headMarkFrame (reachTime t s))) := by
  rw [markOriginate_eq]
  have hup : PortsSent (reachTime t s) (sendUp 3 (headMarkFrame (reachTime t s)) (reachTime t s)) := (PortsSent.refl _).after_sendUp
  have hqueued : ∀ k < 3, portUp s k = true → Queued (sendUp 3 (headMarkFrame (reachTime t s)) (reachTime t s)) (k + 1)
      (onPort k (headMarkFrame (reachTime t s))) := fun k hk hup =>
    sendWhere_queued (fun h => portUp_sent h k) hk (by omega) hup rfl
  generalize sendUp 3 (headMarkFrame (reachTime t s)) (reachTime t s) = u at hup hqueued
  have hsent : PortsSent (reachTime t s) (countFrame 0x11 u) := hup.after_countFrame
  have hports : (countFrame 0x11 u).cvn.ports = u.cvn.ports := rfl
  generalize countFrame 0x11 u = v at hsent hports
  refine ⟨?_, (congrArg ClockSt.site hsent.clk).trans (reachTime_site ht), hsent.flds, fun k hk hup => Queued_congr hports (hqueued k hk hup)⟩
  exact (congrArg (fun u : State => (u.cvn.marks + 1) % 65536) (show v = _ from hsent) :)

/-! ### No marks (R267, R271) -/

theorem syncLost_shows (s : State) : WritesOnly (evtNums ++ [F.CVN_ST_SYNC, F.CVN_ST_SYNCL]) s (syncLost s) ∧
    (syncLost s).bit F.CVN_ST_SYNC = false ∧ (s.bit F.CVN_ST_SYNC = true → (syncLost s).bit F.CVN_ST_SYNCL = true) := by
  unfold syncLost
  split
  · have hshows := ((Shows.refl (evtNums ++ [F.CVN_ST_SYNC, F.CVN_ST_SYNCL]) s).put (g := F.CVN_ST_SYNC) (i := 0) (v := 0)).put
      (g := F.CVN_ST_SYNCL) (i := 0) (v := 1)
    refine ⟨(hshows.after_raise (e := 52)).only, (raise_bit_kept 52 _ _ 0).trans ?_, fun _ => (raise_bit_kept 52 _ _ 0).trans
      (bit_of_fld_one (put_fld_same ..))⟩
    exact (put_bit_field _ _ _ _ _ _ (by decide)).trans (bne_eq_false_iff_eq.2 (put_fld_same ..))
  next h => exact ⟨.refl _ s, Bool.eq_false_iff.2 h, fun hset => (h hset).elim⟩

theorem markTimeout_shows (sync : Bool) {s : State} (hhead : isHead s = false) :
    (markTimeout sync s).fld F.CVN_ST_STATE = (if s.fld F.CVN_ST_STATE = 4 then 5 else s.fld F.CVN_ST_STATE) ∧
    (markTimeout sync s).bit F.CVN_ST_SYNC = (s.bit F.CVN_ST_SYNC && !sync) ∧
    (sync = true → s.bit F.CVN_ST_SYNC = true → (markTimeout sync s).bit F.CVN_ST_SYNCL = true) := by
  generalize hu : (if s.fld F.CVN_ST_STATE = 4 then s.put F.CVN_ST_STATE 0 5 else s) = u
  have heq : markTimeout sync s = if sync then syncLost u else u := by
    rw [← hu]
    exact if_neg (by simp [hhead])
  have hstate : u.fld F.CVN_ST_STATE = (if s.fld F.CVN_ST_STATE = 4 then 5 else s.fld F.CVN_ST_STATE) := by
    rw [← hu]
    split
    · exact put_fld_same ..
    · rfl
  have hsync : u.bit F.CVN_ST_SYNC = s.bit F.CVN_ST_SYNC := by
    rw [← hu]
    split
    · exact put_bit_field _ _ _ _ _ _ (by decide)
    · rfl
  rw [heq]
  cases sync with
  | false => exact ⟨hstate, hsync.trans (by simp), fun h => (Bool.false_ne_true h).elim⟩
  | true =>
    obtain ⟨honly, hlost, hlatched⟩ := syncLost_shows u
    exact ⟨(honly.fld 0).trans hstate, hlost.trans (by simp), fun _ hset => hlatched (hsync.trans hset)⟩

/-! ### The summary page (R276) -/

section Page

variable {p : Nat} (hp : p < 64) (s : State)
include hp

/-- The page names a member, and no expired hold. -/
theorem pageNamed_writes : Writes [(F.CVN_MSEL_EXP, 0, 0), (F.CVN_MSEL_MEMBER, 0, p)] s ((s.put F.CVN_MSEL_EXP 0 0).put F.CVN_MSEL_MEMBER 0 p) :=
  Writes_snoc (Writes_put s F.CVN_MSEL_EXP 0 0 (by decide)) (f := F.CVN_MSEL_MEMBER) (i := 0) hp

theorem mselWrite_releases : Writes [(F.CVN_MSEL_MEMBER, 0, p), (F.CVN_MSEL_HOLD, 0, 0), (F.CVN_MSEL_EXP, 0, 0)] s (mselWrite false p s) := by
  refine Writes_perm (List.perm_append_comm (l₁ := [(F.CVN_MSEL_EXP, 0, 0)]) (l₂ := [(F.CVN_MSEL_MEMBER, 0, p), (F.CVN_MSEL_HOLD, 0, 0)])) ?_
  exact Writes_of_flds (Writes_snoc (pageNamed_writes hp s) (f := F.CVN_MSEL_HOLD) (i := 0) (v := 0) (by decide)) rfl

/-- A page of another member than the held one, or where none is, is held. -/
theorem mselWrite_holds (h : ∀ x, s.cvn.hold = some x → x.1 ≠ p) :
    mselWrite true p s = { s with flds := (mselWrite true p s).flds, cvn := { s.cvn with hold := some (p, mget none s.cvn.sums p) } } ∧
    Writes [(F.CVN_MSEL_MEMBER, 0, p), (F.CVN_MSEL_HOLD, 0, 1), (F.CVN_MSEL_EXP, 0, 0)] s (mselWrite true p s) := by
  have heq : mselWrite true p s = { endSumHold ((s.put F.CVN_MSEL_EXP 0 0).put F.CVN_MSEL_MEMBER 0 p) with
      cvn := { s.cvn with hold := some (p, mget none s.cvn.sums p) } }.put F.CVN_MSEL_HOLD 0 1 := by
    unfold mselWrite
    rcases hheld : s.cvn.hold with - | x
    · rfl
    · exact if_neg (fun hsame => h x hheld (beq_iff_eq.1 hsame))
  rw [heq]
  refine ⟨rfl, Writes_perm (List.perm_append_comm (l₁ := [(F.CVN_MSEL_EXP, 0, 0)])
    (l₂ := [(F.CVN_MSEL_MEMBER, 0, p), (F.CVN_MSEL_HOLD, 0, 1)])) ?_⟩
  have hreleased := Writes_snoc (pageNamed_writes hp s) (f := F.CVN_MSEL_HOLD) (i := 0) (v := 0) (by decide)
  exact Writes_again (l := [(F.CVN_MSEL_EXP, 0, 0), (F.CVN_MSEL_MEMBER, 0, p)]) (k := []) (Writes_of_flds hreleased rfl) (by decide)

/-- A further write that holds the page of the member held leaves the hold. -/
theorem mselWrite_held {x : Option Summary} (h : s.cvn.hold = some (p, x)) : FldsOnly s (mselWrite true p s) ∧
    Writes [(F.CVN_MSEL_MEMBER, 0, p), (F.CVN_MSEL_EXP, 0, 0)] s (mselWrite true p s) := by
  have heq : mselWrite true p s = (s.put F.CVN_MSEL_EXP 0 0).put F.CVN_MSEL_MEMBER 0 p := by
    unfold mselWrite
    rw [h]
    exact if_pos (beq_self_eq_true p)
  rw [heq]
  exact ⟨.put (.put (.refl s)), Writes_perm (List.Perm.swap ..) (pageNamed_writes hp s)⟩

end Page

/-- Settles O52: each command of the ring, of a mark and of the summary page by what it changes; frames that go out change the ports
alone. -/
theorem ringAndTimingMarks : Obligations.RingAndTimingMarks := by
  refine ⟨fun s present chainUp closure reached ringTime hrun hhead => ?_, fun s a b hrun hen => ⟨fun hknown => ?_, fun hnew => ?_⟩,
    fun s t0 hrun hhead htime => ⟨fun hstate ht => ?_, fun hstate hlocked => ?_⟩,
    fun s p m hrun hen hup => ⟨fun hseen => ?_, fun hnew hhead => ?_⟩, fun s sync hrun hen hhead => ?_, fun s hrun hen hhead hports => ?_,
    fun s hrun hen hhead hlead hstate => ?_, fun s p hon => ⟨?_, fun hother => ?_, fun x hheld => ?_⟩, fun s hheld => ?_⟩
  · obtain ⟨hlo, hhi, hring, hstate, hsync⟩ := discovery_shows present.toNat chainUp closure reached ringTime s hhead
    refine ⟨_, congrArg Host.Outcome.next (if_pos (by simp [hrun, hhead])), hlo, hhi, hring.trans ?_, hstate, hsync⟩
    unfold discRing
    cases reached <;> rfl
  · exact congrArg Host.Outcome.next ((if_pos (by simp [hrun, hen])).trans (ringBroken_known s hknown))
  · exact ⟨_, congrArg Host.Outcome.next (if_pos (by simp [hrun, hen])), ringBroken_breaks s hnew⟩
  · have hmark : headMark t0 s = markOriginate t0 s := by
      have hlocks : headLocks s = s := (headLocks_eq s hhead).trans (if_neg fun ⟨_, hwait⟩ => by omega)
      unfold headMark
      dsimp only
      rw [hlocks, if_pos hstate]
    obtain ⟨hmarks, hsite, hflds, hqueued⟩ := markOriginate_sends (s := s) ht
    exact ⟨_, congrArg Host.Outcome.next ((if_pos (by simp [hrun, hhead, htime])).trans hmark), hmarks, hsite, hflds, hqueued⟩
  · have hmark : headMark t0 s = s := by
      have hlocks : headLocks s = s := (headLocks_eq s hhead).trans (if_neg (by simp [hlocked]))
      unfold headMark
      dsimp only
      rw [hlocks, if_neg hstate]
    exact congrArg Host.Outcome.next ((if_pos (by simp [hrun, hhead, htime])).trans hmark)
  · exact congrArg Host.Outcome.next ((if_pos (by simp [hrun, hen])).trans (markReceive_seen p m s hseen))
  · obtain ⟨⟨hframe, honly, hsrc, hgood⟩, hhops⟩ := markPassed_noted p.val m s
    have hexec : exec (.timingMarkReceive p m) s = .next (applyMark p m (markPassed p m s)) :=
      congrArg Host.Outcome.next ((if_pos (by simp [hrun, hen])).trans (markReceive_member p m s hup hnew hhead))
    generalize markPassed p.val m s = v at hframe honly hsrc hgood hhops hexec
    have hpwr : v.pwr = s.pwr := (congrArg State.pwr hframe :)
    have htwn : v.twn = s.twn := (congrArg State.twn hframe :)
    have hclk : v.clk = s.clk := (congrArg State.clk hframe :)
    have hfollows := followsLead_kept honly htwn
    have hkept : v.fld F.CVN_ST_STATE = s.fld F.CVN_ST_STATE := honly.fld 0
    have htime : markTime p.val m v = markTime p.val m s := by
      unfold markTime
      rw [honly.fld p.val]
    have hsteer : markClk p.val m v = markClk p.val m s := by
      unfold markClk
      rw [hfollows, hclk, htime]
    refine ⟨fun hstate hmet hlead => ?_, fun hstate => ?_, fun hstate => ?_, fun hstate => ?_⟩
    · obtain ⟨hshown, hsrc', hsite, hhops'⟩ := applyMark_joins_shows p.val m (hkept ▸ hstate) (hpwr ▸ hmet) (hfollows.trans hlead)
      exact ⟨_, hexec, hshown, hsrc'.trans hsrc, hsite.trans (congrArg (· % 2 ^ 64) htime), hhops'.trans hhops⟩
    · refine ⟨_, hexec, Eq.trans ?_ hsteer⟩
      rcases hstate with hstate | hstate | hstate
      · exact (applyMark_syncing_shows p.val m v (hkept.trans hstate)).1
      · exact (congrArg State.clk (applyMark_locked p.val m v (hkept.trans hstate))).trans
          (steerMark_markClk p.val m v (phaseShown_only m v) rfl rfl)
      · exact (applyMark_held_shows p.val m v (hkept.trans hstate)).1
    · obtain ⟨-, hcount, hshown, hphase⟩ := applyMark_syncing_shows p.val m v (hkept.trans hstate)
      rw [hgood] at hcount hshown
      exact ⟨_, hexec, hcount, hshown, hphase⟩
    · obtain ⟨-, hcount, hshown⟩ := applyMark_held_shows p.val m v (hkept.trans hstate)
      exact ⟨_, hexec, hshown, hcount⟩
  · exact ⟨_, congrArg Host.Outcome.next (if_pos (by simp [hrun, hen])), markTimeout_shows sync hhead⟩
  · obtain ⟨q, hq, hqup⟩ := hports
    have hlost : marksLost s = raise 53 noDetail (s.put F.CVN_ST_HEADL 0 1) :=
      if_pos (by simpa [hhead] using ⟨q, hq, hqup⟩)
    exact ⟨_, congrArg Host.Outcome.next ((if_pos (by simp [hrun, hen])).trans hlost), rfl, Writes_put s F.CVN_ST_HEADL 0 1 (by decide)⟩
  · exact congrArg Host.Outcome.next ((if_pos hrun).trans (if_pos (by simpa [hen, hhead, hlead] using hstate)))
  · exact ⟨_, congrArg Host.Outcome.next (if_pos hon), rfl, mselWrite_releases p.isLt s⟩
  · exact ⟨_, congrArg Host.Outcome.next (if_pos hon), mselWrite_holds p.isLt s hother⟩
  · exact ⟨_, congrArg Host.Outcome.next (if_pos hon), mselWrite_held p.isLt s hheld⟩
  · have hexpired := Writes_snoc (Writes_put s F.CVN_MSEL_HOLD 0 0 (by decide)) (f := F.CVN_MSEL_EXP) (i := 0) (v := 1) (by decide)
    exact ⟨_, congrArg Host.Outcome.next (if_pos (Option.isSome_iff_ne_none.2 hheld)), rfl, Writes_of_flds hexpired rfl⟩

end Sys2Proof.Machine
end

section
/-! Frames that arrive, are acknowledged, fail, and are sent; links that go out and are trained again (R248, R264, R266, R268, R273). -/

namespace Sys2Proof.Machine

/-! ### A frame arrives (R264, R265) -/

section Receive

variable {p q : Nat} {f : LinkFrame} {s : State}

theorem frameReceive_down (hq : q = p + 1) (hup : portUp s p = false) : frameReceive q f s = s := by
  subst hq
  exact if_pos (by rw [Nat.add_sub_cancel, hup]; rfl)

/-- On a port that is up a frame is answered and acted on. -/
theorem frameReceive_up (hq : q = p + 1) (hup : portUp s p = true) : frameReceive q f s =
    if frameOk q f s then goodFrame p f (linkAnswer q f.lseq.toNat true s)
    else closureCheck p f (badFrame p f (linkAnswer q f.lseq.toNat false s)) := by
  subst hq
  have hport : ¬ (!portUp s p) = true := by simp [hup]
  unfold frameReceive
  dsimp only
  rw [if_neg (Nat.succ_ne_zero p), Nat.add_sub_cancel, if_neg hport]
  cases frameOk (p + 1) f s <;> rfl

theorem frameReceive_good (hq : q = p + 1) (hup : portUp s p = true) (hok : frameOk q f s = true) :
    frameReceive q f s = goodFrame p f (linkAnswer q f.lseq.toNat true s) := (frameReceive_up hq hup).trans (if_pos hok)

theorem frameReceive_bad (hq : q = p + 1) (hup : portUp s p = true) (hok : frameOk q f s = false) :
    frameReceive q f s = closureCheck p f (badFrame p f (linkAnswer q f.lseq.toNat false s)) :=
  (frameReceive_up hq hup).trans (if_neg (by rw [hok]; decide))

theorem linkAnswer_sent (l : Nat) (ack : Bool) : PortsSent s (linkAnswer q l ack s) := (PortsSent.refl s).after_setPort

theorem linkAnswer_answer (l : Nat) (ack : Bool) : (getPort (linkAnswer q l ack s) q).answer = some (l, ack) :=
  congrArg LinkPort.answer (getPort_setPort_same ..)

/-- A bad frame that goes no further is counted alone. -/
theorem badFrame_stops (h : transit f s = false ∨ passing f.body = .link) : badFrame p f s = s.inc F.CVN_PCNT_CRCERR p := by
  unfold badFrame
  rcases h with htransit | hlink
  · exact if_pos (by simp [htransit])
  · dsimp only
    rw [hlink]
    exact ite_self _

theorem closureCheck_none (h : ¬ (p = 2 ∧ lstate s 2 = 3 ∧ f.body = .idle)) : closureCheck p f s = s := if_neg h

theorem transit_own (hdst : f.dst.toNat = position s) : transit f s = false := by simp [transit, hdst]

/-- A frame for this position alone is consumed. -/
theorem goodFrame_consumed (hpass : passing f.body = .dst) (hdst : f.dst.toNat = position s) : goodFrame p f s = consume p f s := by
  unfold goodFrame
  rw [hpass]
  dsimp only
  rw [transit_own hdst, if_neg Bool.false_ne_true, if_pos (.inl hdst)]

/-- A frame for another position goes on. -/
theorem goodFrame_passed (hpass : passing f.body = .dst) (htransit : transit f s = true) (hall : f.dst ≠ 0xFF) :
    goodFrame p f s = sendOthers p (onward f) s := by
  have hdst : ¬ (f.dst.toNat = position s ∨ f.dst.toNat = 0xFF) := by
    rintro (h | h)
    · rw [transit_own h] at htransit
      exact Bool.false_ne_true htransit
    · exact hall (BitVec.toNat_inj.1 h)
  unfold goodFrame
  rw [hpass]
  dsimp only
  rw [if_pos htransit, if_neg hdst]

theorem sendWhere_eseq (go : State → Nat → Bool) (but : Nat) (g : OutFrame) : (sendWhere go but g s).cvn.eseq = s.cvn.eseq := by
  unfold sendWhere
  refine List.foldlRecOn (motive := fun u : State => u.cvn.eseq = s.cvn.eseq) _ _ rfl fun u hu k _ => ?_
  split
  · exact hu
  · exact hu

/-! ### Sample blocks at the head (R273) -/

/-- The samples of a remote channel change its histories alone. -/
theorem takeSamples_hist (src : Nat) (b : SampleBlock) :
    takeSamples src b s = { s with mtr := { s.mtr with hist := (takeSamples src b s).mtr.hist } } := by
  unfold takeSamples
  refine List.foldlRecOn (motive := fun u : State => u = { s with mtr := { s.mtr with hist := u.mtr.hist } }) _ _ rfl fun u hu m _ => ?_
  dsimp only
  cases mtrCfg u m with
  | none => exact hu
  | some c =>
    refine List.foldlRecOn (motive := fun v : State => v = { s with mtr := { s.mtr with hist := v.mtr.hist } }) _ _ hu fun v hv r _ => ?_
    rw [hv]

/-- A frame of samples that has come to the head changes the caravan alone. -/
theorem trackFrame_cvn : trackFrame f s = { s with cvn := (trackFrame f s).cvn } := by
  unfold trackFrame
  dsimp only
  split
  · rfl
  · split
    · rfl
    · rfl

/-- The flags of a block of samples, noted for its channel. -/
def blockNoted (src : Nat) (b : SampleBlock) (s : State) : State :=
  let old := mget RemFlags.none_ s.mtr.rem (remKey src b.stream)
  let t1 := b.time + (nearest (b.xs.length * periodNs b.preset)).toNat
  { s with mtr := { s.mtr with rem := mput RemFlags.none_ s.mtr.rem (remKey src b.stream) ⟨noteSpan b.ovr b.time t1 old.ovr,
    noteSpan b.opened b.time t1 old.opened, noteSpan b.settle b.time t1 old.settle, noteSpan b.nosync b.time t1 old.nosync, b.preset⟩ } }

theorem noteBlock_frame (src : Nat) (b : SampleBlock) (s : State) :
    noteBlock src s b = { s with mtr := { s.mtr with rem := (blockNoted src b s).mtr.rem, hist := (noteBlock src s b).mtr.hist } } := by
  have heq : noteBlock src s b = takeSamples src b (blockNoted src b s) := by
    unfold noteBlock blockNoted
    rfl
  have hhist := takeSamples_hist (s := blockNoted src b s) src b
  rw [heq]
  generalize takeSamples src b (blockNoted src b s) = u at hhist
  rw [hhist]
  rfl

/-- A block of samples is noted for its channel. -/
theorem noteBlock_notes (src : Nat) (b : SampleBlock) (s : State) :
    (noteBlock src s b).mtr.rem = (blockNoted src b s).mtr.rem := (congrArg (fun v : State => v.mtr.rem) (noteBlock_frame src b s) :)

theorem paired_congr {s t : State} (h : t.flds = s.flds) : paired t = paired s := by
  unfold paired State.fld
  rw [h]

theorem noteBlock_paired (src : Nat) (b : SampleBlock) (s : State) : paired (noteBlock src s b) = paired s :=
  paired_congr (congrArg State.flds (noteBlock_frame src b s) :)

theorem trackFrame_paired : paired (trackFrame f s) = paired s := paired_congr (congrArg State.flds trackFrame_cvn :)

end Receive

/-! ### Links that go out, and are trained again (R264, R270) -/

section Links

variable (s : State)

/-- The closure link comes in from standby; a link that is out stays out. -/
theorem ringBroken_out (a b : Nat) {p : Nat} (hp : p < 3) (h : lstate s p = 4) : lstate (ringBroken a b s) p = 4 ∧
    (ringBroken a b s).bit F.CVN_ST_LINKL = s.bit F.CVN_ST_LINKL := by
  by_cases hknown : linkOf a b ∈ s.cvn.broken
  · rw [ringBroken_known s hknown]
    exact ⟨h, rfl⟩
  · rw [ringBroken_new s hknown]
    obtain ⟨hroute, -⟩ := reroute_ops (linkBroken s a b)
    have hform := setRing_ops (closureIn { s with cvn := { s.cvn with broken := linkOf a b :: s.cvn.broken } }) (ringAfter s)
    have hclosure : lstate (closureIn { s with cvn := { s.cvn with broken := linkOf a b :: s.cvn.broken } }) p = 4 := by
      unfold closureIn
      split
      next hby =>
        have hne : p ≠ 2 := by
          rintro rfl
          exact absurd (h.symm.trans hby) (by decide)
        exact (put_fld_other _ _ _ _ _ _ (fkey_index_ne _ _ (by omega) (by omega) hne.symm)).trans h
      · exact h
    refine ⟨(hroute.fld p).trans ((hform.fld p).trans hclosure), (hroute.only.bit 0).trans ((hform.only.bit 0).trans ?_)⟩
    exact (closureIn_ops _).only.bit 0

/-- The port of a link that goes out, before the ring is told. -/
def portOut (p : Nat) : State := linkQuiet (portCode p) 100000 (raise 49 p ((s.put F.CVN_PST_LSTATE p 4).put F.CVN_ST_LINKL 0 1))

theorem linkOut_eq (p : Nat) : linkOut p s = if portUp s p then
    ringBroken (position s) (s.fld F.CVN_PST_NPOS p) (sendBreak p (position s) (s.fld F.CVN_PST_NPOS p) (portOut s p)) else portOut s p := rfl

theorem portOut_ops (p : Nat) : RingOps ringNums s (portOut s p) :=
  ((RingOps.refl _ s).put (g := F.CVN_PST_LSTATE)).put (g := F.CVN_ST_LINKL) |>.after_raise |>.after_sent rfl

theorem portOut_shows (p : Nat) : lstate (portOut s p) p = 4 ∧ (portOut s p).bit F.CVN_ST_LINKL = true :=
  ⟨(raise_fld_kept 49 _ _ p).trans ((put_fld_field _ _ _ _ _ _ (by decide)).trans (put_fld_same ..)),
    (raise_bit_kept 49 _ _ 0).trans (bit_of_fld_one (put_fld_same ..))⟩

theorem linkOut_shows {p : Nat} (hp : p < 3) : lstate (linkOut p s) p = 4 ∧ (linkOut p s).bit F.CVN_ST_LINKL = true := by
  rw [linkOut_eq]
  obtain ⟨hout, hlatch⟩ := portOut_shows s p
  split
  · have hsent : PortsSent (portOut s p) (sendBreak p (position s) (s.fld F.CVN_PST_NPOS p) (portOut s p)) := (PortsSent.refl _).after_sendBreak
    obtain ⟨hstate, hbit⟩ := ringBroken_out _ (position s) (s.fld F.CVN_PST_NPOS p) hp ((hsent.fld _ _).trans hout)
    exact ⟨hstate, hbit.trans ((congrArg (· != 0) (hsent.fld _ _)).trans hlatch)⟩
  · exact ⟨hout, hlatch⟩

theorem linkOut_ops (p : Nat) : RingOps ringNums s (linkOut p s) := by
  rw [linkOut_eq]
  exact ((((portOut_ops s p).after_sent ((PortsSent.refl _).after_sendBreak)).trans (ringBroken_ops _ _ _))).ite (portOut_ops s p)

end Links

end Sys2Proof.Machine
end

section
/-! Frames acknowledged, failed and sent: the links of caravan and Tether (R248, R264, R273). -/

namespace Sys2Proof.Machine

/-! ### Faults leave the links alone (R248) -/

/-- Going from r to s, the caravan has changed only as frames leave. -/
def LinksKept (r s : State) : Prop := s.cvn = { r.cvn with ports := s.cvn.ports, eseq := s.cvn.eseq }

namespace LinksKept

variable {r s t : State}

theorem refl (s : State) : LinksKept s s := rfl

theorem of_eq (h : s.cvn = r.cvn) : LinksKept r s := by
  unfold LinksKept
  rw [h]

theorem trans (hrs : LinksKept r s) (hst : LinksKept s t) : LinksKept r t := by
  unfold LinksKept at *
  rw [hst, hrs]

theorem ite {c : Prop} [Decidable c] (hs : LinksKept r s) (ht : LinksKept r t) : LinksKept r (if c then s else t) := by
  split
  · exact hs
  · exact ht

theorem same (h : LinksKept r s) (hcvn : t.cvn = s.cvn) : LinksKept r t := h.trans (.of_eq hcvn)

theorem after_sendMsg {m : TwnMsg} (h : LinksKept r s) : LinksKept r (sendMsg m s) := by
  unfold sendMsg tetherSend
  exact h.trans (congrArg State.cvn (PortsSent.refl _).after_sendSegments :)

/-- A change of what the twin remembers. -/
theorem withTwin {x : TwnSt} (h : LinksKept r s) : LinksKept r { s with twn := x } := h

theorem put {f : Fld} {i v : Nat} (h : LinksKept r s) : LinksKept r (s.put f i v) := h

theorem withFlts {x : FltsSt} (h : LinksKept r s) : LinksKept r { s with flts := x } := h

theorem after_raise {e d : Nat} (h : LinksKept r s) : LinksKept r (raise e d s) := h.same (raise_cvn ..)

theorem retried (h : LinksKept r s) : s.cvn.retried = r.cvn.retried := (congrArg CvnSt.retried h :)

end LinksKept

variable {s : State}

theorem evalDState_links : LinksKept s (evalDState s) := by
  have hshown : LinksKept s (failedShown s) := ((LinksKept.refl s).put.withFlts.put (f := F.FLTS_ST_FAILL)).after_raise
  rw [evalDState_eq]
  exact (hshown.withTwin.after_sendMsg.ite hshown).ite (LinksKept.refl s).put

theorem ruleDouble_links (fs : List FaultRec) (inOne : Bool) : LinksKept s (ruleDouble fs inOne s) := by
  obtain ⟨x, heq⟩ := ruleDouble_eq fs inOne s
  have hruled : LinksKept s (doubleRuled x s) := ((LinksKept.refl s).withFlts.put (f := F.FLTS_ST_DOUBLE)).put.after_raise
  rw [heq]
  exact (hruled.withFlts.trans evalDState_links).ite hruled

theorem openWindow_links (f : FaultRec) : LinksKept s (openWindow f s) := by
  unfold openWindow
  dsimp only
  split
  · exact (LinksKept.refl s).withFlts.trans (ruleDouble_links _ _)
  · split
    · exact (LinksKept.refl s).withFlts.put.put.put.trans (ruleDouble_links _ _)
    · exact (LinksKept.refl s).withFlts.put.put.put

theorem latent_cvn (scrub : Bool) (cls unit : Nat) : (latent scrub cls unit s).cvn = s.cvn := by
  cases scrub
  · rfl
  · exact raise_cvn ..

theorem permanent_links (cls unit detail : Nat) (spare scrub : Bool) (chan : Option Nat) :
    LinksKept s (permanent cls unit detail spare scrub chan s) := by
  have hshown : LinksKept s (permanentShown cls unit detail spare scrub s) := .of_eq ((latent_cvn ..).trans (raise_cvn ..))
  have heq : permanent cls unit detail spare scrub chan s = evalDState (if deviceClass cls then
    openWindow ⟨cls, unit, s.clk.site, chan⟩ (permanentShown cls unit detail spare scrub s) else permanentShown cls unit detail spare scrub s) := rfl
  rw [heq]
  exact ((hshown.trans (openWindow_links _)).ite hshown).trans evalDState_links

/-- The count of a transient. -/
theorem transient_counts (cls unit detail : Nat) (inj scrub : Bool) : (transient cls unit detail inj scrub s).fld F.FLTS_CNT_TRANS cls =
    min 65535 (s.fld F.FLTS_CNT_TRANS cls + 1) := by
  have hnote : FaultShown (s.inc F.FLTS_CNT_TRANS cls) (noteFault cls 0 unit detail inj scrub (s.inc F.FLTS_CNT_TRANS cls)) :=
    (FaultShown.refl _).after_noteFault
  refine ((latent_writes_only _ _ _ _).fld cls).trans ((raise_fld_kept 41 _ _ cls).trans ?_)
  exact (put_fld_field _ _ _ _ _ _ (by decide)).trans ((Spares_fld_field hnote.2 cls).trans (inc_fld_same ..))

theorem transient_cvn (cls unit detail : Nat) (inj scrub : Bool) : (transient cls unit detail inj scrub s).cvn = s.cvn :=
  (congrArg State.cvn (transient_shows cls unit detail inj scrub s).1 :)

/-! ### Frames acknowledged, and not (R264) -/

section Acked

variable {p l : Nat} {f : OutFrame}

theorem inAir_lseq (h : inAir s p l = some f) : f.lseq = some l := by simpa using List.find?_some h

theorem inAir_linkDone : inAir (linkDone p l s) p l = none := by
  unfold inAir linkDone
  rw [getPort_setPort_same]
  exact List.find?_eq_none.2 fun g hg => by simpa using (List.mem_filter.1 hg).2

/-- A frame that has its LSEQ keeps it as it is sent. -/
theorem linkSend_numbered {g : OutFrame} (h : g.lseq.isSome = true) (u : State) :
    g ∈ (getPort (linkSend p [g] u) p).wait ++ (getPort (linkSend p [g] u) p).air := by
  obtain ⟨_, hg, rfl⟩ := linkSend_new (s := u) (ofFrame_eq h) p rfl
  exact hg

/-- A frame as it goes out once more (R264). -/
def repeated (f : OutFrame) : OutFrame := { f with flags := f.flags ||| 1 }

/-- A frame goes out again: it waits on its port, or is in the air. -/
theorem linkRepeat_again (h : inAir s p l = some f) (u : State) :
    repeated f ∈ (getPort (linkRepeat p f u) p).wait ++ (getPort (linkRepeat p f u) p).air ∧ PortsSent u (linkRepeat p f u) := by
  have hlseq : (repeated f).lseq.isSome = true := Option.isSome_iff_exists.2 ⟨l, (inAir_lseq h :)⟩
  have heq : linkRepeat p f u = linkSend p [repeated f] (linkDone p (f.lseq.getD 0) u) := rfl
  rw [heq]
  exact ⟨linkSend_numbered hlseq _, (PortsSent.refl u).after_setPort.after_linkSend⟩

/-- No retransmission of this frame is in progress. -/
theorem notRetried (h : ∀ x ∈ s.cvn.retried, ¬ (x.1 = p ∧ x.2.1 = l)) :
    (s.cvn.retried.find? fun x => x.1 == p && x.2.1 == l) = none :=
  List.find?_eq_none.2 fun x hx => by simpa using h x hx

theorem onlyRetried (h : s.cvn.retried = [(p, l, false)]) : (s.cvn.retried.find? fun x => x.1 == p && x.2.1 == l) = some (p, l, false) ∧
    s.cvn.retried.erase (p, l, false) = [] := by
  rw [h]
  exact ⟨List.find?_cons_of_pos (by simp), List.erase_cons_head ..⟩

theorem frameAcked_first (h : inAir s p l = some f) (hfirst : ∀ x ∈ s.cvn.retried, ¬ (x.1 = p ∧ x.2.1 = l)) :
    frameAcked p l s = linkDone p l s := by
  unfold frameAcked
  rw [h]
  dsimp only
  rw [notRetried hfirst]

/-- The state in which the retransmission of a frame has ended. -/
def retryEnded (p l : Nat) (s : State) : State := linkDone p l { s with cvn := { s.cvn with retried := [] } }

theorem frameAcked_again (h : inAir s p l = some f) (hagain : s.cvn.retried = [(p, l, false)]) :
    frameAcked p l s = transient (linkClass p).1 (linkClass p).2 f.type false false (retryEnded p l s) := by
  obtain ⟨hfind, herase⟩ := onlyRetried hagain
  unfold frameAcked
  rw [h]
  dsimp only
  rw [hfind]
  dsimp only
  rw [herase]
  rfl

/-- The retransmission is counted, and takes an armed corruption. -/
def retxCounted (p : Nat) (s : State) : Bool × State :=
  let i := takeInjection (if p = 0 then 5 else 6) (linkClass p).2 s
  (i.1, countRetx p i.2)

/-- A retransmission is in progress, and this is what corrupts it. -/
def repeatNoted (p l : Nat) (b : Bool) (s : State) : State := { s with cvn := { s.cvn with retried := (p, l, b) :: s.cvn.retried } }

theorem frameFails_first (h : inAir s p l = some f) (hfirst : ∀ x ∈ s.cvn.retried, ¬ (x.1 = p ∧ x.2.1 = l)) :
    frameFails p l s = repeatNoted p l (retxCounted p s).1 (linkRepeat p f (retxCounted p s).2) := by
  unfold frameFails
  rw [h]
  dsimp only
  rw [notRetried hfirst]
  rfl

theorem takeInjection_fld (tgt unit i : Nat) {g : Fld} (hg : F.FLTS_INJ_GO.id ≠ g.id) :
    (takeInjection tgt unit s).2.fld g i = s.fld g i ∧ (takeInjection tgt unit s).2.cvn = s.cvn := by
  unfold takeInjection
  split
  · exact ⟨put_fld_field _ _ _ _ _ _ hg, rfl⟩
  · exact ⟨rfl, rfl⟩

theorem retxCounted_counts : (retxCounted p s).2.cvn = s.cvn ∧
    (p = 0 → (retxCounted p s).2.fld F.TWN_CNT_RETX = min 65535 (s.fld F.TWN_CNT_RETX + 1)) ∧
    (p ≠ 0 → (retxCounted p s).2.fld F.CVN_PCNT_RETX (p - 1) = min 65535 (s.fld F.CVN_PCNT_RETX (p - 1) + 1)) := by
  unfold retxCounted countRetx
  generalize hi : takeInjection (if p = 0 then 5 else 6) (linkClass p).2 s = i
  have htwn : i.2.fld F.TWN_CNT_RETX = s.fld F.TWN_CNT_RETX := hi ▸ (takeInjection_fld _ _ 0 (by decide)).1
  have hport : i.2.fld F.CVN_PCNT_RETX (p - 1) = s.fld F.CVN_PCNT_RETX (p - 1) := hi ▸ (takeInjection_fld _ _ _ (by decide)).1
  have hcvn : i.2.cvn = s.cvn := hi ▸ (takeInjection_fld (g := F.TWN_CNT_RETX) _ _ 0 (by decide)).2
  dsimp only
  refine ⟨?_, fun hp => ?_, fun hp => ?_⟩
  · split <;> exact hcvn
  · rw [if_pos hp, inc_fld_same, htwn]
    rfl
  · rw [if_neg hp, inc_fld_same, hport]
    rfl

/-- A frame that was not acknowledged is counted, and goes out once more. -/
theorem frameFails_first_shows (h : inAir s p l = some f) (hfirst : ∀ x ∈ s.cvn.retried, ¬ (x.1 = p ∧ x.2.1 = l)) :
    (frameFails p l s).cvn.retried = (p, l, (retxCounted p s).1) :: s.cvn.retried ∧
    repeated f ∈ (getPort (frameFails p l s) p).wait ++ (getPort (frameFails p l s) p).air ∧
    (p = 0 → (frameFails p l s).fld F.TWN_CNT_RETX = min 65535 (s.fld F.TWN_CNT_RETX + 1)) ∧
    (p ≠ 0 → (frameFails p l s).fld F.CVN_PCNT_RETX (p - 1) = min 65535 (s.fld F.CVN_PCNT_RETX (p - 1) + 1)) := by
  obtain ⟨hcvn, htwn, hport⟩ := retxCounted_counts (p := p) (s := s)
  obtain ⟨hmem, hsent⟩ := linkRepeat_again h (retxCounted p s).2
  have hretried : (linkRepeat p f (retxCounted p s).2).cvn.retried = s.cvn.retried := by
    rw [LinksKept.retried (congrArg State.cvn hsent :), hcvn]
  rw [frameFails_first h hfirst]
  generalize linkRepeat p f (retxCounted p s).2 = u at hmem hsent hretried
  exact ⟨congrArg (_ :: ·) hretried, hmem, fun hp => (hsent.fld _ _).trans (htwn hp), fun hp => (hsent.fld _ _).trans (hport hp)⟩

theorem frameFails_again (h : inAir s p l = some f) (hagain : s.cvn.retried = [(p, l, false)]) :
    frameFails p l s = if p = 0 then permanent (linkClass p).1 (linkClass p).2 f.type false false none (retryEnded p l s)
      else linkOut (p - 1) (permanent (linkClass p).1 (linkClass p).2 f.type false false none (retryEnded p l s)) := by
  obtain ⟨hfind, herase⟩ := onlyRetried hagain
  unfold frameFails
  rw [h]
  dsimp only
  rw [hfind]
  dsimp only
  rw [herase]
  rfl

theorem linkClass_fst : (linkClass p).1 = if p = 0 then 5 else 6 := by
  unfold linkClass
  split <;> rfl

theorem retryEnded_kept : (retryEnded p l s).cvn.retried = [] ∧ (retryEnded p l s).flds = s.flds ∧
    inAir (retryEnded p l s) p l = none := ⟨rfl, rfl, inAir_linkDone⟩

/-- The acknowledgement of a retransmitted frame is a transient. -/
theorem frameAcked_again_shows (h : inAir s p l = some f) (hagain : s.cvn.retried = [(p, l, false)]) :
    (frameAcked p l s).cvn.retried = [] ∧ inAir (frameAcked p l s) p l = none ∧
      (frameAcked p l s).fld F.FLTS_CNT_TRANS (if p = 0 then 5 else 6) =
        min 65535 (s.fld F.FLTS_CNT_TRANS (if p = 0 then 5 else 6) + 1) := by
  rw [frameAcked_again h hagain, ← linkClass_fst, transient_counts]
  obtain ⟨hretried, hflds, hair⟩ := retryEnded_kept (p := p) (l := l) (s := s)
  refine ⟨(congrArg CvnSt.retried (transient_cvn ..)).trans hretried, ?_, by rw [State.fld, hflds]; rfl⟩
  unfold inAir getPort at *
  rw [transient_cvn]
  exact hair

/-- A retransmission that fails too is a permanent fault; a caravan link goes out. -/
theorem frameFails_again_shows (hp : p < 4) (h : inAir s p l = some f) (hagain : s.cvn.retried = [(p, l, false)]) :
    (frameFails p l s).cvn.retried = [] ∧ (frameFails p l s).fld F.FLTS_CNT_PERM (if p = 0 then 5 else 6) =
        min 65535 (s.fld F.FLTS_CNT_PERM (if p = 0 then 5 else 6) + 1) ∧
      (p ≠ 0 → lstate (frameFails p l s) (p - 1) = 4 ∧ (frameFails p l s).bit F.CVN_ST_LINKL = true) := by
  obtain ⟨hretried, hflds, -⟩ := retryEnded_kept (p := p) (l := l) (s := s)
  have hlinks := (permanent_links (s := retryEnded p l s) (linkClass p).1 (linkClass p).2 f.type false false none).retried
  have hcount := permanent_counts (linkClass p).1 (linkClass p).2 f.type false false none (retryEnded p l s)
  rw [frameFails_again h hagain]
  rw [show (retryEnded p l s).fld F.FLTS_CNT_PERM (linkClass p).1 = s.fld F.FLTS_CNT_PERM (linkClass p).1 by rw [State.fld, hflds]; rfl] at hcount
  generalize permanent (linkClass p).1 (linkClass p).2 f.type false false none (retryEnded p l s) = u at hlinks hcount
  rw [linkClass_fst] at hcount
  by_cases hzero : p = 0
  · rw [if_pos hzero]
    exact ⟨hlinks.trans hretried, hcount, fun hne => (hne hzero).elim⟩
  · rw [if_neg hzero]
    have hout := linkOut_ops u (p - 1)
    exact ⟨((congrArg CvnSt.retried hout.cvn :).trans hlinks).trans hretried, (hout.fld _).trans hcount, fun _ => linkOut_shows u (by omega)⟩

end Acked

/-! ### Idle frames, and the samples of a member (R264, R273) -/

/-- An idle frame takes the next ESEQ of its type. -/
theorem sendIdle_sends (p : Nat) : PortsSent s (sendIdle p s) ∧ mget 0 (sendIdle p s).cvn.eseq 0 = (mget 0 s.cvn.eseq 0 + 1) % 65536 ∧
    ∃ g ∈ (getPort (sendIdle p s) p).wait ++ (getPort (sendIdle p s) p).air, g.type = 0 ∧ g.payload = [] ∧ g.eseq = mget 0 s.cvn.eseq 0 := by
  have hkept : OfFrame fun g => g.type = 0 ∧ g.payload = [] ∧ g.eseq = mget 0 s.cvn.eseq 0 := fun _ _ h => h
  generalize hu : (if p = 0 then linkSend 0 [ownFrame s 0 (ownSide s) (farSide s) []] s
    else portSend (p - 1) (ownFrame s 0 (position s) 0xFF []) s) = u
  have heq : sendIdle p s = countFrame 0 u := congrArg (countFrame 0) hu
  have hsent : PortsSent s u := hu ▸ (PortsSent.refl s).after_linkSend.ite (PortsSent.refl s).after_portSend
  have heseq : u.cvn.eseq = s.cvn.eseq := by
    rw [← hu]
    split <;> rfl
  have hholds : (getPort u p).Holds fun g => g.type = 0 ∧ g.payload = [] ∧ g.eseq = mget 0 s.cvn.eseq 0 := by
    rw [← hu]
    by_cases hp : p = 0
    · rw [if_pos hp, hp]
      exact linkSend_new hkept 0 ⟨rfl, rfl, rfl⟩
    · rw [if_neg hp]
      unfold portSend portCode
      rw [Nat.sub_add_cancel (Nat.one_le_iff_ne_zero.2 hp)]
      refine linkSend_new hkept p ?_
      split <;> exact ⟨rfl, rfl, rfl⟩
  rw [heq]
  refine ⟨hsent.after_countFrame, (mget_mput_same ..).trans (by rw [heseq]), hholds⟩

/-- A frame of samples leaves for the head, and is kept. -/
theorem sampleSend_sends {t : Nat} (ht : t < 2 ^ 64) (runs : List ChanRun) :
    ⟨mget 0 s.cvn.eseq 0x15, t, s.cvn.sub.filterMap (sampleBlock (reachTime t s) runs)⟩ ∈ (sampleSend t runs s).cvn.kept ∧
    mget 0 (sampleSend t runs s).cvn.eseq 0x15 = (mget 0 s.cvn.eseq 0x15 + 1) % 65536 ∧
    (sampleSend t runs s).clk.site = max s.clk.site t ∧ (sampleSend t runs s).flds = s.flds := by
  have hsent : PortsSent (reachTime t s) (sendHead (.samples (s.cvn.sub.filterMap (sampleBlock (reachTime t s) runs))) (reachTime t s)) :=
    (PortsSent.refl _).after_sendHead
  refine ⟨List.mem_append_right _ (List.mem_singleton.2 rfl), mget_mput_same .., ?_, ?_⟩
  · exact (congrArg ClockSt.site hsent.clk :).trans (reachTime_site ht)
  · exact hsent.flds

end Sys2Proof.Machine
end

section
/-! What a frame does that arrives at a port that is up, and the settlement of the links (R264 to R268, R273 to R276). -/

namespace Sys2Proof.Machine

section Received

variable {p q : Nat} {f : LinkFrame} {s : State}

/-- A bad frame for this device is counted, and answered so. -/
theorem frameReceive_counts (hq : q = p + 1) (hup : portUp s p = true) (hbad : frameOk q f s = false) (htransit : transit f s = false)
    (hcheck : ¬ (p = 2 ∧ lstate s 2 = 3 ∧ f.body = .idle)) :
    frameReceive q f s = (linkAnswer q f.lseq.toNat false s).inc F.CVN_PCNT_CRCERR p := by
  have hstops : badFrame p f (linkAnswer q f.lseq.toNat false s) = (linkAnswer q f.lseq.toNat false s).inc F.CVN_PCNT_CRCERR p :=
    badFrame_stops (.inl htransit)
  have hstate : lstate ((linkAnswer q f.lseq.toNat false s).inc F.CVN_PCNT_CRCERR p) 2 = lstate s 2 := put_fld_field _ _ _ _ _ _ (by decide)
  rw [frameReceive_bad hq hup hbad, hstops]
  exact closureCheck_none (hstate ▸ hcheck)

/-- A bad idle frame on the closure link in standby is an error that scrubbing finds. -/
theorem frameReceive_scrubs (hq : q = 3) (hup : portUp s 2 = true) (hbad : frameOk q f s = false) (hclosure : lstate s 2 = 3)
    (hidle : f.body = .idle) :
    frameReceive q f s = transient 6 3 0 false true ((linkAnswer q f.lseq.toNat false s).inc F.CVN_PCNT_CRCERR 2) := by
  have hlink : passing f.body = .link := by rw [hidle]; rfl
  have hstate : lstate ((linkAnswer q f.lseq.toNat false s).inc F.CVN_PCNT_CRCERR 2) 2 = lstate s 2 := put_fld_field _ _ _ _ _ _ (by decide)
  rw [frameReceive_bad hq hup hbad, badFrame_stops (.inr hlink)]
  exact if_pos ⟨rfl, hstate.trans hclosure, hidle⟩

theorem countedBad_writes (q p l : Nat) : Writes [(F.CVN_PCNT_CRCERR, p, min 65535 (s.fld F.CVN_PCNT_CRCERR p + 1))] s
    ((linkAnswer q l false s).inc F.CVN_PCNT_CRCERR p) := Writes_inc (linkAnswer q l false s) F.CVN_PCNT_CRCERR p

theorem goodFrame_idle (hidle : f.body = .idle) : goodFrame p f s = s := by
  unfold goodFrame
  rw [hidle]
  rfl

/-- A frame for another position goes on, on every other port in service, and on no port else. -/
theorem frameReceive_passes (hq : q = p + 1) (hup : portUp s p = true) (hok : frameOk q f s = true) (hpass : passing f.body = .dst)
    (htransit : transit f s = true) (hall : f.dst ≠ 0xFF) :
    frameReceive q f s = { s with cvn := { s.cvn with ports := (frameReceive q f s).cvn.ports } } ∧
    (getPort (frameReceive q f s) q).answer = some (f.lseq.toNat, true) ∧
    ∀ k < 3, k ≠ p → (portActive s k = true → Queued (frameReceive q f s) (k + 1) (onPort k (onward f))) ∧
      (portActive s k = false → getPort (frameReceive q f s) (k + 1) = getPort s (k + 1)) := by
  have hgo : ∀ k, ∀ {u}, PortsSent (linkAnswer q f.lseq.toNat true s) u → portActive u k = portActive (linkAnswer q f.lseq.toNat true s) k :=
    fun k _ hu => portActive_sent hu k
  have heq : frameReceive q f s = sendOthers p (onward f) (linkAnswer q f.lseq.toNat true s) :=
    (frameReceive_good hq hup hok).trans (goodFrame_passed hpass htransit hall)
  rw [heq]
  refine ⟨?_, ?_, fun k hk hkp => ⟨fun hactive => sendWhere_queued (hgo k) hk hkp hactive rfl, fun hactive => ?_⟩⟩
  · have hsent : PortsSent s (sendOthers p (onward f) (linkAnswer q f.lseq.toNat true s)) := (linkAnswer_sent ..).after_sendOthers
    have heseq := sendWhere_eseq (s := linkAnswer q f.lseq.toNat true s) portActive p (onward f)
    unfold sendOthers at *
    generalize sendWhere portActive p (onward f) (linkAnswer q f.lseq.toNat true s) = u at hsent heseq
    have hkept : u.cvn.eseq = s.cvn.eseq := heseq
    unfold PortsSent at hsent
    rwa [hkept] at hsent
  · subst hq
    exact (congrArg LinkPort.answer (sendWhere_other (hgo p) (.inl rfl))).trans (linkAnswer_answer ..)
  · exact (sendWhere_other (hgo k) (.inr hactive)).trans (getPort_setPort_other (by omega) _ _)

/-- A frame for this position is consumed. -/
theorem frameReceive_consumed (hq : q = p + 1) (hup : portUp s p = true) (hok : frameOk q f s = true) (hpass : passing f.body = .dst)
    (hdst : f.dst.toNat = position s) : frameReceive q f s = consume p f (linkAnswer q f.lseq.toNat true s) :=
  (frameReceive_good hq hup hok).trans (goodFrame_consumed hpass hdst)

/-- A block of samples that reaches an unpaired head is noted. -/
theorem consume_samples {b : SampleBlock} (hbody : f.body = .samples [b]) (hhead : isHead s = true) (hsolo : paired s = false) :
    consume p f s = noteBlock f.src.toNat (trackFrame f s) b := by
  have hnoted : ¬ paired (noteBlock f.src.toNat (trackFrame f s) b) = true := by simp [noteBlock_paired, trackFrame_paired, hsolo]
  unfold consume
  rw [hbody]
  dsimp only
  rw [if_pos hhead, List.foldl_cons, List.foldl_nil]
  exact if_neg hnoted

end Received

/-- Settles O51: a frame that arrives by what its port and its contents say; one sent by whether it was sent once more already. -/
theorem linksCarryFrames : Obligations.LinksCarryFrames := by
  refine ⟨fun s p q f hq hrun => ⟨fun hdown => ?_, fun hup hbad htransit hcheck => ?_, fun hup hbad hp hclosure hidle => ?_,
    fun hup hok hidle => ?_, fun xs hup hok hbody hdst => ?_, fun hup hok hpass htransit hall => ?_,
    fun b hup hok hbody hdst hhead hsolo => ?_, fun n t0 t1 ok hup hok hbody hdst hhead hsolo => ?_,
    fun seq count keys vals hup hok hbody hdst hhead => ?_⟩,
    fun s p l hrun hup => ⟨rfl, fun hnone => ⟨?_, ?_⟩, fun f hair hfirst => ⟨?_, ?_⟩, fun f hair hagain => ⟨?_, ?_⟩⟩,
    fun s p hrun hup => ?_, fun s p hrun => ⟨fun hup => ?_, fun hout => ?_, fun rtt turn hup => ?_⟩,
    fun s t0 runs => ⟨fun hrun hen hhead hsub hdrive hcut ht hlt => ?_, fun h => ?_⟩⟩
  · exact congrArg Host.Outcome.next ((if_pos hrun).trans (frameReceive_down hq hdown))
  · exact ⟨_, congrArg Host.Outcome.next ((if_pos hrun).trans (frameReceive_counts hq hup hbad htransit hcheck)), rfl,
      countedBad_writes .., linkAnswer_answer ..⟩
  · rw [hp] at hq hup
    exact ⟨_, congrArg Host.Outcome.next ((if_pos hrun).trans (frameReceive_scrubs hq hup hbad hclosure hidle)), countedBad_writes ..,
      linkAnswer_answer ..⟩
  · exact congrArg Host.Outcome.next ((if_pos hrun).trans ((frameReceive_good hq hup hok).trans (goodFrame_idle hidle)))
  · have hconsumed := frameReceive_consumed hq hup hok (by rw [hbody]; rfl) hdst
    unfold consume at hconsumed
    rw [hbody] at hconsumed
    exact congrArg Host.Outcome.next ((if_pos hrun).trans hconsumed)
  · exact ⟨_, congrArg Host.Outcome.next (if_pos hrun), frameReceive_passes hq hup hok hpass htransit hall⟩
  · have hconsumed := (frameReceive_consumed hq hup hok (by rw [hbody]; rfl) hdst).trans (consume_samples hbody hhead hsolo)
    have htrack : trackFrame f (linkAnswer q f.lseq.toNat true s) = { s with cvn := (trackFrame f (linkAnswer q f.lseq.toNat true s)).cvn } :=
      trackFrame_cvn
    have hnoted := noteBlock_notes f.src.toNat b (trackFrame f (linkAnswer q f.lseq.toNat true s))
    have hframe := noteBlock_frame f.src.toNat b (trackFrame f (linkAnswer q f.lseq.toNat true s))
    generalize trackFrame f (linkAnswer q f.lseq.toNat true s) = u at htrack hnoted hframe hconsumed
    generalize noteBlock f.src.toNat u b = t at hnoted hframe hconsumed
    refine ⟨t, congrArg Host.Outcome.next ((if_pos hrun).trans hconsumed), ?_, ?_⟩
    · rw [hnoted, htrack]
      exact mget_mput_same ..
    · rw [hframe, htrack]
  · have hconsumed := frameReceive_consumed hq hup hok (by rw [hbody]; rfl) hdst
    unfold consume at hconsumed
    rw [hbody] at hconsumed
    exact congrArg Host.Outcome.next ((if_pos hrun).trans (hconsumed.trans ((if_pos hhead).trans (if_neg (Bool.eq_false_iff.1 hsolo)))))
  · have hconsumed := frameReceive_consumed hq hup hok (by rw [hbody]; rfl) hdst
    unfold consume at hconsumed
    rw [hbody] at hconsumed
    refine ⟨_, congrArg Host.Outcome.next ((if_pos hrun).trans (hconsumed.trans (if_pos hhead))), ?_, rfl⟩
    dsimp only
    exact mget_mput_same ..
  · have hnothing : frameAcked p l.toNat s = s := by
      unfold frameAcked
      rw [hnone]
    exact congrArg Host.Outcome.next ((if_pos (by simp [hrun, hup])).trans hnothing)
  · have hnothing : frameFails p l.toNat s = s := by
      unfold frameFails
      rw [hnone]
    exact congrArg Host.Outcome.next ((if_pos (by simp [hrun, hup])).trans hnothing)
  · exact congrArg Host.Outcome.next ((if_pos (by simp [hrun, hup])).trans (frameAcked_first hair hfirst))
  · obtain ⟨hretried, hmem, htwn, hport⟩ := frameFails_first_shows hair hfirst
    exact ⟨_, _, congrArg Host.Outcome.next (if_pos (by simp [hrun, hup])), hretried, hmem, htwn, hport⟩
  · exact ⟨_, congrArg Host.Outcome.next (if_pos (by simp [hrun, hup])), frameAcked_again_shows hair hagain⟩
  · exact ⟨_, congrArg Host.Outcome.next (if_pos (by simp [hrun, hup])), frameFails_again_shows p.isLt hair hagain⟩
  · exact ⟨_, congrArg Host.Outcome.next (if_pos (by simp [hrun, hup])), sendIdle_sends p.val⟩
  · exact ⟨_, congrArg Host.Outcome.next (if_pos (by simp [hrun, hup])), linkOut_shows s p.isLt⟩
  · exact ⟨_, congrArg Host.Outcome.next ((if_pos hrun).trans (if_pos hout)), Writes_put s F.CVN_PST_LSTATE p 1 (by decide),
      mget_mput_same 0 s.cvn.sets p.val 0, mget_mput_same false s.cvn.acked p.val false⟩
  · have hdelay : min (2 ^ 32 - 1) ((rtt - turn) / 2) < 2 ^ 32 := by omega
    exact ⟨_, congrArg Host.Outcome.next (if_pos (by simp [hrun, hup])), Writes_of_flds (Writes_put s F.CVN_PDLY_DELAY p _ hdelay) rfl⟩
  · have hsends : sendsSamples s = true := by
      rcases hdrive with hsolo | hrole <;> simp [sendsSamples, *]
    exact ⟨_, congrArg Host.Outcome.next (if_pos (by simp [hsends, ht])), sampleSend_sends hlt runs⟩
  · exact congrArg Host.Outcome.next (if_neg (by rcases h with h | h <;> simp [h]))

end Sys2Proof.Machine
end

section
/-! The frame of leaving the pair and of the start of metering: what they keep of the Tether's latches, of what the pair remembers of
CHECK, of ATTWAIT and of the Lead, and of the driver role (R222 to R231). -/

namespace Sys2Proof.Machine

/-- The latches of the Tether. -/
def latchFlds : List Fld := [F.TWN_ST_TRAINL, F.TWN_ST_DIGL, F.TWN_ST_LOSSL]

/-- Is a field none of the latches of the Tether? -/
def notLatch (g : Fld) : Bool := latchFlds.all fun f => g.id != f.id

theorem ne_of_notLatch {g f : Fld} (hg : notLatch g = true) (hf : f ∈ latchFlds) : g.id ≠ f.id := by
  simpa using List.all_eq_true.1 hg f hf

/-- What the pair remembers of CHECK, of ATTWAIT and of the Lead. -/
def pairHeld (w : TwnSt) : Bool × Bool × Bool := (w.noCheck, w.waited, w.lead)

/-- Going from r to s, the latches of the Tether are kept, what the pair remembers of CHECK, ATTWAIT and the Lead, and the driver role. -/
structure PairHeld (r s : State) : Prop where
  role : s.pls.role = r.pls.role
  pair : pairHeld s.twn = pairHeld r.twn
  latches : ∀ f ∈ latchFlds, ∀ i, s.fld f i = r.fld f i

namespace PairHeld

-- Elaborated side by side, the many short proofs below would each hold a thread, and the threads' stacks are large.
set_option Elab.async false

variable {r s t : State}

theorem refl (s : State) : PairHeld s s := ⟨rfl, rfl, fun _ _ _ => rfl⟩

theorem trans (hrs : PairHeld r s) (hst : PairHeld s t) : PairHeld r t :=
  ⟨hst.role.trans hrs.role, hst.pair.trans hrs.pair, fun f hf i => (hst.latches f hf i).trans (hrs.latches f hf i)⟩

theorem noCheck (h : PairHeld r s) : s.twn.noCheck = r.twn.noCheck := congrArg Prod.fst h.pair

theorem waited (h : PairHeld r s) : s.twn.waited = r.twn.waited := congrArg (fun x => x.2.1) h.pair

theorem lead (h : PairHeld r s) : s.twn.lead = r.twn.lead := congrArg (fun x => x.2.2) h.pair

theorem bit (h : PairHeld r s) {f : Fld} (i : Nat) (hf : f ∈ latchFlds := by decide) : s.bit f i = r.bit f i :=
  congrArg (· != 0) (h.latches f hf i)

theorem ite {c : Prop} [Decidable c] (hs : PairHeld r s) (ht : PairHeld r t) : PairHeld r (if c then s else t) := by
  split
  · exact hs
  · exact ht

theorem foldl {α : Type} {g : State → α → State} (h : PairHeld r s) (l : List α) (hg : ∀ u a, PairHeld r u → PairHeld r (g u a)) :
    PairHeld r (l.foldl g s) := List.foldlRecOn l g h fun u hu a _ => hg u a hu

/-- A write of another field. -/
theorem put {g : Fld} {i v : Nat} (h : PairHeld r s) (hg : notLatch g = true := by rfl) : PairHeld r (s.put g i v) :=
  ⟨h.role, h.pair, fun _ hf j => (put_fld_field s g _ i j v (ne_of_notLatch hg hf)).trans (h.latches _ hf j)⟩

/-- A change of anything but the register fields, the state of the pair and the outputs. -/
theorem elsewhere {pending : List Instr} {clk : ClockSt} {ctl : CtlRun} {host : HostSt} {pwr : PwrSt} {ldg : LdgSt} {evt : EvtSt}
    {inp : InpSt} {rmt : RmtSt} {flt : FltSt} {flts : FltsSt} {cal : CalSt} {mtr : MtrSt} {itn : ItnSt} {grd : GrdSt}
    {hrm : HrmSt} {dst : DstSt} {way : WaySt} {rng : Nat} {sbx : SbxSt} {cvn : CvnSt} {sar : SarSt} {dsp : DspSt}
    {prt : PrtSt} (h : PairHeld r s) : PairHeld r ⟨pending, s.flds, clk, ctl, host, pwr, ldg, evt, inp, rmt, flt, flts, cal,
      s.twn, mtr, itn, grd, hrm, dst, s.pls, way, rng, sbx, cvn, sar, dsp, prt⟩ := ⟨h.role, h.pair, h.latches⟩

/-- A change of the state of the pair, but for what is held. -/
theorem twin {w : TwnSt} (h : PairHeld r s) (hw : pairHeld w = pairHeld s.twn := by rfl) : PairHeld r { s with twn := w } :=
  ⟨h.role, hw.trans h.pair, h.latches⟩

/-- A change of the outputs, but for the driver role. -/
theorem outs {x : PlsSt} (h : PairHeld r s) (hx : x.role = s.pls.role := by rfl) : PairHeld r { s with pls := x } :=
  ⟨hx.trans h.role, h.pair, h.latches⟩

theorem after_lower {g : Fld} {i : Nat} (h : PairHeld r s) (hg : notLatch g = true := by rfl) : PairHeld r (s.lower g i) :=
  (h.put hg).elsewhere.ite h

theorem after_lift {g : Fld} {i : Nat} (h : PairHeld r s) (hg : notLatch g = true := by rfl) : PairHeld r (s.lift g i) :=
  h.ite (h.put hg).elsewhere

theorem after_raise {e d : Nat} (h : PairHeld r s) (he : e < 128 := by decide) : PairHeld r (raise e d s) := by
  have hshows := (Shows.refl evtNums s).after_raise (e := e) (d := d) he
  have hevt : evtNums.all notLatch = true := by decide
  refine h.trans ⟨(congrArg (fun u : State => u.pls.role) hshows.1 :), congrArg pairHeld hshows.twn, fun f hf i => hshows.only f i fun g hg => ?_⟩
  exact ne_of_notLatch (List.all_eq_true.1 hevt g hg) hf

theorem after_raiseIf {b : Bool} {e d : Nat} (h : PairHeld r s) (he : e < 128 := by decide) : PairHeld r (raiseIf b e d s) :=
  (h.after_raise he).ite h

theorem after_sent (h : PairHeld r s) (hst : PortsSent s t) : PairHeld r t := by
  rw [hst]
  exact h.elsewhere

theorem after_tetherSend {type : Nat} {bs : List Nat} (h : PairHeld r s) : PairHeld r (tetherSend type bs s) :=
  h.twin.after_sent (PortsSent.refl _).after_sendSegments

/-! #### Spares and their slots -/

theorem after_setPath {n : Nat} {p : StreamPath} (h : PairHeld r s) : PairHeld r (setPath n p s) := h.elsewhere

theorem after_fastClear {n : Nat} (h : PairHeld r s) : PairHeld r (fastClear n s) := by
  unfold fastClear pathFastClear
  exact h.put.put.put.after_setPath.elsewhere

theorem after_retarget {sp : Nat} {f : State → State} (h : PairHeld r (f s)) : PairHeld r (retarget sp f s) :=
  h.ite h.after_fastClear.elsewhere.after_setPath

theorem after_setSp {sp : Nat} {x : SpareSt} (h : PairHeld r s) : PairHeld r (setSp sp x s) := after_retarget h.elsewhere

theorem after_setSlot {sp : Nat} {x : Option Slot} (h : PairHeld r s) : PairHeld r (setSlot sp x s) := h.after_setSp

theorem after_watchFree {b : Nat} {f : State → State} (h : PairHeld r (f s)) : PairHeld r (watchFree b f s) := by
  unfold watchFree
  dsimp only
  split
  · exact h
  · exact h.after_raise.ite h

theorem after_skipSlot {n : Nat} (h : PairHeld r s) : PairHeld r (skipSlot n s) :=
  after_raise (s := s.inc F.RMT_BCNT_SKIPS (bankOf n)) h.put

theorem after_serveForce {b : Nat} (h : PairHeld r s) : PairHeld r (serveForce b s) := by
  unfold serveForce refuseForce startSlot
  refine ite (ite h.put.put ?_) h
  split
  · exact h.put.after_setSlot.ite h
  · exact h

theorem after_serveLive {b : Nat} (h : PairHeld r s) : PairHeld r (serveLive b s) := by
  unfold serveLive startLive
  split
  · exact h
  · split
    · exact h.after_setSp.elsewhere
    · exact h

theorem after_serveResp {b : Nat} (h : PairHeld r s) : PairHeld r (serveResp b s) := by
  unfold serveResp
  split
  · exact h
  · split
    · exact h.after_lift.elsewhere.after_setSp.elsewhere
    · exact h

theorem after_startRoutine {sp k : Nat} (h : PairHeld r s) : PairHeld r (startRoutine sp k s) := by
  unfold startRoutine startSlot
  refine ite ?_ h
  split
  · exact h.after_setSlot
  · exact h

theorem after_resume {sp : Nat} (h : PairHeld r s) : PairHeld r (resume sp s) := by
  unfold resume
  dsimp only
  split
  · exact h
  · exact h.after_setSp.after_skipSlot.ite (h.after_setSp.after_setSlot.ite h.after_setSp.after_setSlot)

theorem after_sessAdvance {x : Sess} (h : PairHeld r s) : PairHeld r (sessAdvance x s) :=
  (h.elsewhere.elsewhere.put.ite h.elsewhere).ite ((h.elsewhere.put.ite h.elsewhere).ite h.elsewhere)

theorem after_refinStart (h : PairHeld r s) : PairHeld r (refinStart s) := by
  unfold refinStart
  split
  · refine ite ?_ h
    split
    · exact h.after_sessAdvance
    · exact h.ite h.after_setSp
  · exact h

theorem after_nextWork {sp : Nat} (h : PairHeld r s) : PairHeld r (nextWork sp s) := by
  refine after_watchFree ?_
  unfold takeWork
  extract_lets b s1 s2 s3
  have h1 : PairHeld r s1 := h.after_serveLive.after_serveResp
  have h3 : PairHeld r s3 := (h1.after_resume.ite h1).after_refinStart.after_serveForce
  split
  · exact h3.after_setSp.after_startRoutine.ite h3
  · exact h3

theorem after_spliceMarks {n : Nat} (h : PairHeld r s) : PairHeld r (spliceMarks n s) := h.elsewhere.ite h

theorem after_glide {n : Nat} {f : State → State} (h : PairHeld r (f s)) : PairHeld r (glide n f s) := h.after_setPath

theorem after_releaseSpare {n : Nat} (h : PairHeld r s) : PairHeld r (releaseSpare n s) := by
  unfold releaseSpare
  split
  · exact h
  · exact after_nextWork (after_setSp (ite (after_spliceMarks (after_glide (f := feedOwn n) h.put)) h))

/-! #### Disputes -/

theorem after_mapBit {f : Fld} {n : Nat} {b : Bool} (h : PairHeld r s) (hf : notLatch f = true := by rfl) :
    PairHeld r (mapBit f n b s) := h.ite (h.put hf)

theorem after_setCstate {n k : Nat} (h : PairHeld r s) : PairHeld r (setCstate n k s) := h.put

theorem after_closeDispute {n : Nat} (h : PairHeld r s) : PairHeld r (closeDispute n s) := by
  have hclosed : PairHeld r (setDispute n none { s.put F.TWN_CHST_FAILS n 0 with
      twn := { s.twn with first := mput 0 s.twn.first n 0 } }) := (h.put (g := F.TWN_CHST_FAILS)).twin.twin
  exact (hclosed.after_mapBit (f := F.TWN_DISPMAP_DISP)).elsewhere.after_setCstate

theorem after_showVerdict {n v side : Nat} (h : PairHeld r s) : PairHeld r (showVerdict n v side s) := h.put.put.put

theorem after_rmtVerdict {n : Nat} {unres : Bool} (h : PairHeld r s) : PairHeld r (rmtVerdict n unres s) := by
  unfold rmtVerdict
  extract_lets s1
  have h1 : PairHeld r s1 := by
    refine h.foldl _ fun u sp hu => ?_
    split
    · exact (hu.after_setSlot.after_skipSlot.after_nextWork.ite hu.after_setSlot).ite hu
    · exact hu
  exact h1.ite h1.after_lower

theorem after_endAdoption {n : Nat} (h : PairHeld r s) : PairHeld r (endAdoption n s) :=
  ((h.twin : PairHeld r (setAdoption n none s)).after_mapBit (f := F.TWN_ADOPTMAP_ADOPT)).after_setCstate

theorem after_endDisputes (h : PairHeld r s) : PairHeld r (endDisputes s) := by
  unfold endDisputes verdictGone
  refine h.twin.foldl _ fun u n hu => ?_
  extract_lets s1 s2
  have h1 : PairHeld r s1 := hu.after_closeDispute.after_releaseSpare.after_showVerdict.ite hu
  have h2 : PairHeld r s2 := h1.after_endAdoption.ite h1
  exact (h2.ite h2.after_rmtVerdict).after_setCstate.put

/-! #### Intervals that wait for the twin -/

theorem after_setOut {c : Nat} {o : PlsOut} (h : PairHeld r s) : PairHeld r (setOut c o s) := h.outs

theorem after_forgetPrev (h : PairHeld r s) : PairHeld r (forgetPrev s) := h.foldl _ fun _ _ hu => hu.after_setOut

theorem after_computeHeld {m : Nat} (h : PairHeld r s) : PairHeld r (computeHeld m s) := by
  unfold computeHeld computeInterval storeRuns
  split
  · exact (h.twin.elsewhere).twin
  · exact h

theorem after_forceAllHeld (h : PairHeld r s) : PairHeld r (forceAllHeld s) := by
  unfold forceAllHeld forceHeld
  refine h.foldl _ fun u m hu => ?_
  split
  · exact hu
  · exact after_computeHeld hu.elsewhere

theorem after_postIncs {m : Nat} {inc : List (List Nat)} {dur : Rat} {unver subst covered : Bool} (h : PairHeld r s) :
    PairHeld r (postIncs m inc dur unver subst covered s) := by
  unfold postIncs pulseFeed setQual
  extract_lets s1 s2
  have h2 : PairHeld r s2 := h.elsewhere.foldl _ fun _ _ hu => hu.put.put
  exact h2.elsewhere.foldl _ fun _ _ hu => hu.after_setOut.ite hu

theorem after_register {m : Nat} {p : MtrPost} {x : Option MeterItem} (h : PairHeld r s) : PairHeld r (register m p x s) := by
  unfold register
  extract_lets c inc unver s2 s3
  have h2 : PairHeld r s2 := h.after_postIncs
  have h3 : PairHeld r s3 := h2.put.after_raiseIf
  clear_value s3 s2
  exact ⟨h3.role, h3.pair, h3.latches⟩

theorem after_registerOwn (h : PairHeld r s) : PairHeld r (registerOwn s) := h.elsewhere.foldl _ fun _ _ hu => hu.after_register

/-! #### Metering starts -/

theorem after_takeMeter {m : Nat} (h : PairHeld r s) : PairHeld r (takeMeter m s) := by
  cases hen : s.bit F.MTR_CFG_EN m with
  | true =>
    rw [takeMeter_enabled hen]
    exact foldl (s := settingsTaken m s) h.elsewhere _ fun _ _ hu => hu.ite hu.put
  | false =>
    rw [takeMeter_disabled hen]
    exact h.elsewhere.put

theorem after_pulsesApply {c : Nat} (h : PairHeld r s) : PairHeld r (pulsesApply c s) := by
  unfold pulsesApply rateCheck
  exact h.after_setOut.put.put.after_raiseIf.ite (h.after_setOut.put.ite h.after_setOut)

theorem after_loadOuts {vs : List (Int × Nat)} (h : PairHeld r s) : PairHeld r (loadOuts vs s) :=
  h.foldl _ fun _ _ hu => hu.after_setOut.put.ite hu

theorem after_loadHeld (h : PairHeld r s) : PairHeld r (loadHeld s) := after_loadOuts h.outs

theorem after_takeTwinSlot {time : Nat} {vals : List (Nat × Nat)} (h : PairHeld r s) : PairHeld r (takeTwinSlot time vals s) := by
  unfold takeTwinSlot
  extract_lets keys s1
  have h1 : PairHeld r s1 := h.foldl _ fun _ _ hu => hu.elsewhere.elsewhere
  exact h1.elsewhere.put

theorem after_leadPulse {pulse : List (Int × Nat)} (h : PairHeld r s) : PairHeld r (leadPulse pulse s) :=
  (h.after_loadOuts.ite h.outs).ite h

end PairHeld

/-- Metering starts by what the registers hold, and the driver role may be taken. -/
theorem startMetering_held (s : State) : ∃ u, PairHeld s u ∧ (startMetering s = u ∨ startMetering s = setRole true u) := by
  by_cases hmet : s.pwr.metering = true
  · exact ⟨s, .refl s, .inl (if_pos hmet)⟩
  · have hmeters : PairHeld s ((List.range 48).foldl (fun s m => takeMeter m s) (meteringMarked s)) :=
      (PairHeld.refl s).elsewhere.foldl _ fun _ _ hu => hu.after_takeMeter
    have houts := (hmeters.foldl (List.range 16) (g := fun s c => pulsesApply c s) fun _ _ hu => hu.after_pulsesApply).after_loadHeld
    refine ⟨_, houts, ?_⟩
    unfold startMetering
    rw [if_neg hmet]
    dsimp only
    split
    · exact .inl rfl
    · split
      · exact .inr rfl
      · exact .inl rfl

theorem startMetering_lead (s : State) : (startMetering s).twn.lead = s.twn.lead := by
  obtain ⟨u, hu, h | h⟩ := startMetering_held s <;> rw [h]
  · exact hu.lead
  · exact hu.lead

/-! ### Leaving the pair (R222, R225, R231) -/

/-- The state in which nothing of the pair is open any more. -/
def pairEnded (s : State) : State := endDisputes (registerOwn (forceAllHeld (forgetPrev s)))

theorem pairEnded_held (s : State) : PairHeld s (pairEnded s) :=
  (PairHeld.refl s).after_forgetPrev.after_forceAllHeld.after_registerOwn.after_endDisputes

/-- A device that leaves the pair is in SOLO, and remembers why. -/
structure SoloShown (r s : State) : Prop where
  state : tst s = 7
  noRole : s.fld F.TWN_ST_ROLE = 0
  noCheck : s.twn.noCheck = r.twn.noCheck
  waited : s.twn.waited = r.twn.waited
  drives : s.pls.role = r.pls.role
  latches : ∀ f ∈ latchFlds, s.bit f = r.bit f

theorem toSolo_shows (s : State) : SoloShown s (toSolo s) := by
  have hheld := pairEnded_held s
  unfold pairEnded at hheld
  unfold toSolo
  generalize endDisputes (registerOwn (forceAllHeld (forgetPrev s))) = u at hheld
  extract_lets s0 s1
  have hstate : s1.fld F.TWN_ST_STATE = 7 := by
    simp only [s1, s0, setTst]
    rw [put_fld_field _ _ _ _ _ _ (by decide), put_fld_field _ _ _ _ _ _ (by decide), put_fld_field _ _ _ _ _ _ (by decide),
      put_fld_field _ _ _ _ _ _ (by decide), put_fld_field _ _ _ _ _ _ (by decide)]
    exact put_fld_same ..
  have hrole : s1.fld F.TWN_ST_ROLE = 0 := by
    simp only [s1]
    rw [put_fld_field _ _ _ _ _ _ (by decide), put_fld_field _ _ _ _ _ _ (by decide), put_fld_field _ _ _ _ _ _ (by decide),
      put_fld_field _ _ _ _ _ _ (by decide)]
    exact put_fld_same ..
  have h1 : PairHeld s s1 := hheld.put.put.put.put.put.put
  clear_value s1
  exact ⟨hstate, hrole, h1.noCheck, h1.waited, h1.role, fun f hf => h1.bit 0 hf⟩

end Sys2Proof.Machine
end

section
/-! The Tether: training, CHECK, marks, the state transfer, and its loss (R222 to R228). -/

namespace Sys2Proof.Machine

/-! ### Training and CHECK (R222 to R224) -/

section Training

variable {s : State}

theorem tetherComma_trains (h : tst s = 1 ∨ tst s = 7) : Writes [(F.TWN_ST_STATE, 0, 2)] s (tetherComma s) ∧
    (tetherComma s).twn.sets = 0 ∧ (tetherComma s).twn.acked = false := by
  have heq : tetherComma s = sendSet (setTst 2 { s with twn := { s.twn with sets := 0, acked := false } }) := if_pos h
  rw [heq]
  exact ⟨Writes_of_flds (Writes_put s F.TWN_ST_STATE 0 2 (by decide)) rfl, rfl, rfl⟩

theorem trainFailed_shows (s : State) : tst (trainFailed s) = 7 ∧ (trainFailed s).bit F.TWN_ST_TRAINL = true ∧
    (trainFailed s).twn.waited = s.twn.waited := by
  have hsolo := toSolo_shows (raise 35 noDetail (s.put F.TWN_ST_TRAINL 0 1))
  refine ⟨hsolo.state, (hsolo.latches F.TWN_ST_TRAINL (by decide)).trans ?_, hsolo.waited.trans (congrArg TwnSt.waited (raise_twn ..))⟩
  exact (raise_bit_kept 35 _ _ 0).trans (bit_of_fld_one (put_fld_same ..))

/-- A good training set names the twin, and is counted. -/
def twinNamed (ts : TrainSet) (s : State) : State :=
  ({ s with twn := { s.twn with sets := min 8 (s.twn.sets + 1), acked := s.twn.acked || ts.acked, peerMet := ts.metering } }.put
    F.TWN_PEER_LO_PEER_LO 0 ts.uid.toNat).put F.TWN_PEER_HI_PEER_HI 0 (ts.uid.toNat / 2 ^ 32)

theorem twinNamed_writes (ts : TrainSet) (s : State) : Writes [(F.TWN_PEER_LO_PEER_LO, 0, ts.uid.toNat % 2 ^ 32),
    (F.TWN_PEER_HI_PEER_HI, 0, ts.uid.toNat / 2 ^ 32)] s (twinNamed ts s) := by
  have huid : ts.uid.toNat < 2 ^ 64 := ts.uid.isLt
  have hlow := Writes_put s F.TWN_PEER_LO_PEER_LO 0 (ts.uid.toNat % 2 ^ 32) (Nat.mod_lt _ (Nat.two_pow_pos 32))
  have hboth := Writes_snoc hlow (f := F.TWN_PEER_HI_PEER_HI) (i := 0) (v := ts.uid.toNat / 2 ^ 32) (show _ < 2 ^ 32 by omega)
  rw [show 2 ^ 32 = 2 ^ F.TWN_PEER_LO_PEER_LO.len from rfl, put_mod] at hboth
  exact Writes_of_flds hboth rfl

variable {ts : TrainSet} (hstate : tst s = 2)
include hstate

theorem tetherSet_bad (hbad : ts.good = false) : tetherSet ts s = { s with twn := { s.twn with sets := 0 } } :=
  (if_neg (not_not.2 hstate)).trans (if_pos (by simp [hbad]))

theorem tetherSet_good (hgood : ts.good = true) (hver : ts.version = 1#8) : tetherSet ts s =
    if ts.side.toNat = s.fld F.PWR_ST_PAIRSIDE ∨ ts.leadSide.toNat ≠ s.fld F.TWN_CFG_LEADSIDE then trainFailed s else
      sendSet (if 8 ≤ s.twn.sets + 1 ∧ (s.twn.acked || ts.acked) = true ∧ ¬ s.twn.noCheck = true then
        setTst 3 (twinNamed ts s) else twinNamed ts s) := (if_neg (not_not.2 hstate)).trans (if_neg (by simp [hgood, hver]))

/-- The eighth good set in a row, acknowledged, enters CHECK. -/
theorem tetherSet_eighth (hgood : ts.good = true) (hver : ts.version = 1#8) (hside : ts.side.toNat ≠ s.fld F.PWR_ST_PAIRSIDE)
    (hlead : ts.leadSide.toNat = s.fld F.TWN_CFG_LEADSIDE) (hsets : s.twn.sets = 7) (hack : ts.acked = true)
    (hcheck : s.twn.noCheck = false) : Writes [(F.TWN_ST_STATE, 0, 3), (F.TWN_PEER_LO_PEER_LO, 0, ts.uid.toNat % 2 ^ 32),
      (F.TWN_PEER_HI_PEER_HI, 0, ts.uid.toNat / 2 ^ 32)] s (tetherSet ts s) := by
  rw [tetherSet_good hstate hgood hver, if_neg (by simp [hside, hlead]), if_pos (by simp [hsets, hack, hcheck])]
  refine Writes_perm (List.perm_append_comm (l₁ := [(F.TWN_PEER_LO_PEER_LO, 0, ts.uid.toNat % 2 ^ 32),
    (F.TWN_PEER_HI_PEER_HI, 0, ts.uid.toNat / 2 ^ 32)]) (l₂ := [(F.TWN_ST_STATE, 0, 3)])) ?_
  exact Writes_of_flds (Writes_snoc (twinNamed_writes ts s) (f := F.TWN_ST_STATE) (i := 0) (v := 3) (by decide)) rfl

omit hstate

variable {peer : List Nat} {role : Bool} (hcheck : tst s = 3)
include hcheck

/-- Matching digests enter SYNC. -/
theorem digestCompare_syncs (h : (digestsMatch s peer && !dirtyFive s) = true) :
    Writes [(F.TWN_ST_STATE, 0, 4)] s (digestCompare peer role s) ∧ (digestCompare peer role s).twn.marks = 0 ∧
      (digestCompare peer role s).twn.lead = becomesLead role s := by
  unfold digestCompare
  rw [if_neg (not_not.2 hcheck), if_pos h]
  exact ⟨Writes_of_flds (Writes_put s F.TWN_ST_STATE 0 4 (by decide)) rfl, rfl, rfl⟩

/-- Others set DIGL, bar CHECK, and go to SOLO. -/
theorem digestCompare_fails (h : (digestsMatch s peer && !dirtyFive s) = false) :
    tst (digestCompare peer role s) = 7 ∧ (digestCompare peer role s).bit F.TWN_ST_DIGL = true ∧
      (digestCompare peer role s).twn.noCheck = true := by
  have heq : digestCompare peer role s = toSolo (raise 36 noDetail
      ({ s with twn := { s.twn with noCheck := true, digests := peer } }.put F.TWN_ST_DIGL 0 1)) :=
    (if_neg (not_not.2 hcheck)).trans (if_neg (Bool.eq_false_iff.1 h))
  have hsolo := toSolo_shows (raise 36 noDetail ({ s with twn := { s.twn with noCheck := true, digests := peer } }.put F.TWN_ST_DIGL 0 1))
  rw [heq]
  refine ⟨hsolo.state, (hsolo.latches F.TWN_ST_DIGL (by decide)).trans ?_, hsolo.noCheck.trans (congrArg TwnSt.noCheck (raise_twn ..))⟩
  exact (raise_bit_kept 36 _ _ 0).trans (bit_of_fld_one (put_fld_same ..))

end Training

/-! ### Marks of the Tether (R224) -/

section Marks

variable (phase : Int) (site : Nat) (s : State)

/-- The good marks in a row, with this one. -/
def marksInRow : Nat := if |phase| ≤ 100 then min 8 (s.twn.marks + 1) else 0

theorem marksInRow_eight : marksInRow phase s = 8 ↔ |phase| ≤ 100 ∧ 7 ≤ s.twn.marks := by
  unfold marksInRow
  split <;> simp_all

/-- A mark is counted. -/
def rowCounted : State := { s with twn := { s.twn with marks := marksInRow phase s } }

/-- A mark shows at the Escort. -/
def escortShown : State :=
  (if tst s = 6 then (rowCounted phase s).putI F.TWN_PHASE_PHERR 0 (clampS 16 phase) else rowCounted phase s).setBit F.TWN_ST_PHLOCK 0
    (decide (|phase| ≤ 100) && (s.bit F.TWN_ST_PHLOCK || marksInRow phase s == 8))

theorem escortShown_only : WritesOnly [F.TWN_PHASE_PHERR, F.TWN_ST_PHLOCK] s (escortShown phase s) := by
  have hphase : WritesOnly [F.TWN_PHASE_PHERR, F.TWN_ST_PHLOCK] s (if tst s = 6 then
      (rowCounted phase s).putI F.TWN_PHASE_PHERR 0 (clampS 16 phase) else rowCounted phase s) := by
    split
    · exact WritesOnly.of_put (l := [F.TWN_PHASE_PHERR, F.TWN_ST_PHLOCK]) (g := F.TWN_PHASE_PHERR) (rowCounted phase s) 0 _ (by decide)
    · exact .refl _ s
  exact hphase.trans (WritesOnly.of_put (l := [F.TWN_PHASE_PHERR, F.TWN_ST_PHLOCK]) (g := F.TWN_ST_PHLOCK) _ 0 _ (by decide))

theorem escortShown_kept : (escortShown phase s).clk = s.clk ∧ (escortShown phase s).pwr = s.pwr ∧
    (escortShown phase s).twn.marks = marksInRow phase s := by
  unfold escortShown
  split <;> exact ⟨rfl, rfl, rfl⟩

theorem escortShown_phase (h : tst s = 6) : (escortShown phase s).sfld F.TWN_PHASE_PHERR = clampS 16 phase := by
  unfold escortShown State.sfld
  rw [if_pos h]
  refine (congrArg (signed 16) (put_fld_field _ _ _ _ _ _ (by decide))).trans
    (putI_sfld_same (rowCounted phase s) F.TWN_PHASE_PHERR 0 (clampS 16 phase) 15 rfl (le_max_left ..) ?_)
  exact max_lt (by decide) (lt_of_le_of_lt (min_le_left ..) (by decide))

/-- Where the Escort's site time goes. -/
theorem followLead_shows (u : State) : (followLead site u).flds = u.flds ∧ (followLead site u).twn.marks = u.twn.marks ∧
    (u.pwr.metering = false → (followLead site u).clk.site = site % 2 ^ 64) ∧
    (u.pwr.metering = true → (followLead site u).clk.site = u.clk.site ∧ (followLead site u).clk.slew = (site : Int) - u.clk.site ∧
      (followLead site u).clk.ppm = 50) := by
  unfold followLead
  split
  next hmet => exact ⟨rfl, rfl, fun hoff => absurd (hmet.symm.trans hoff) (by decide), fun _ => ⟨rfl, rfl, rfl⟩⟩
  next hmet =>
    obtain ⟨hsite, hflds, -⟩ := jumpTo_sets site u
    exact ⟨hflds, rfl, fun _ => hsite, fun hon => absurd hon hmet⟩

/-- The Lead counts a mark; the Escort follows it too. -/
def markFollowed : State := if s.twn.lead then rowCounted phase s else followLead site (escortShown phase s)

theorem tetherMark_eq (h : tst s = 4 ∨ tst s = 5 ∨ tst s = 6) : tetherMark phase site s =
    if tst s = 4 ∧ marksInRow phase s = 8 then setTst 5 (markFollowed phase site s) else markFollowed phase site s := by
  refine (if_pos h).trans ?_
  dsimp only
  simp only [decide_eq_true_eq]
  rfl

/-- What a mark shows, and where site time goes with it. -/
structure MarkShown (t : State) : Prop where
  marks : t.twn.marks = marksInRow phase s
  escort : s.twn.lead = false → (tst s = 6 → t.sfld F.TWN_PHASE_PHERR = clampS 16 phase) ∧
    (s.pwr.metering = false → t.clk.site = site % 2 ^ 64) ∧
    (s.pwr.metering = true → t.clk.site = s.clk.site ∧ t.clk.slew = (site : Int) - s.clk.site ∧ t.clk.ppm = 50)
  lead : s.twn.lead = true → t.fld F.TWN_PHASE_PHERR = s.fld F.TWN_PHASE_PHERR ∧ t.clk = s.clk

theorem markFollowed_shows : MarkShown phase site s (markFollowed phase site s) ∧ tst (markFollowed phase site s) = tst s := by
  unfold markFollowed
  cases hlead : s.twn.lead with
  | true => exact ⟨⟨rfl, fun hno => absurd (hlead.symm.trans hno) (by decide), fun _ => ⟨rfl, rfl⟩⟩, rfl⟩
  | false =>
    obtain ⟨hclk, hpwr, hmarks⟩ := escortShown_kept phase s
    obtain ⟨hflds, hkept, hjump, hsteer⟩ := followLead_shows site (escortShown phase s)
    have hphase := escortShown_phase phase s
    have honly := escortShown_only phase s
    rw [hclk] at hsteer
    rw [hpwr] at hjump hsteer
    rw [if_neg Bool.false_ne_true]
    generalize escortShown phase s = u at *
    generalize followLead site u = t at *
    have hfld : ∀ f i, t.fld f i = u.fld f i := fun f i => congrArg (fget · f i) hflds
    refine ⟨⟨hkept.trans hmarks, fun _ => ⟨fun hsix => ?_, hjump, hsteer⟩, fun hyes => absurd (hlead.symm.trans hyes) (by decide)⟩,
      (hfld _ _).trans (honly.fld 0)⟩
    unfold State.sfld at *
    rw [hfld]
    exact hphase hsix

theorem MarkShown.setTst {t : State} (h : MarkShown phase site s t) (k : Nat) : MarkShown phase site s (setTst k t) := by
  have hkept : (Machine.setTst k t).fld F.TWN_PHASE_PHERR = t.fld F.TWN_PHASE_PHERR := put_fld_field _ _ _ _ _ _ (by decide)
  refine ⟨h.marks, fun hlead => ⟨fun hsix => ?_, (h.escort hlead).2⟩, fun hlead => ⟨hkept.trans (h.lead hlead).1, (h.lead hlead).2⟩⟩
  have hphase := (h.escort hlead).1 hsix
  unfold State.sfld at *
  rw [hkept]
  exact hphase

/-- A mark is counted, shown and followed; the eighth in a row enters TRANSFER. -/
theorem tetherMark_shows (h : tst s = 4 ∨ tst s = 5 ∨ tst s = 6) : MarkShown phase site s (tetherMark phase site s) ∧
    tst (tetherMark phase site s) = if tst s = 4 ∧ |phase| ≤ 100 ∧ 7 ≤ s.twn.marks then 5 else tst s := by
  obtain ⟨hshown, hstate⟩ := markFollowed_shows phase site s
  rw [tetherMark_eq phase site s h]
  simp only [marksInRow_eight]
  split
  · exact ⟨hshown.setTst _ _ _ _, put_fld_same ..⟩
  · exact ⟨hshown, hstate⟩

end Marks

/-! ### The state transfer (R227, R228) -/

/-- PAIRED in the registers. -/
def pairRegs (s : State) : State :=
  ((((setTst 6 s).put F.TWN_ST_ROLE 0 (if s.twn.lead then 1 else 2)).put F.TWN_ST_ATTL 0 1).put F.TWN_ST_PHLOCK 0 1).put F.TWN_ST_DIGOK 0 1

/-- PAIRED, with what the pair starts from. -/
def pairFormed (s : State) : State :=
  { pairRegs s with twn := { s.twn with seq := 0, loaded := true, waited := false, homing := s.twn.hot && (pairRegs s).bit F.TWN_CFG_HOMING } }

theorem enterPaired_eq (s : State) : enterPaired s =
    raise 32 noDetail (setRole s.twn.lead (if s.twn.lead then (pairFormed s).put F.TWN_PHASE_PHERR 0 0 else pairFormed s)) := by
  unfold enterPaired pairFormed pairRegs
  rfl

theorem pairRegs_writes (s : State) : Writes [(F.TWN_ST_STATE, 0, 6), (F.TWN_ST_ROLE, 0, if s.twn.lead then 1 else 2),
    (F.TWN_ST_ATTL, 0, 1), (F.TWN_ST_PHLOCK, 0, 1), (F.TWN_ST_DIGOK, 0, 1)] s (pairRegs s) := by
  have hrole := Writes_snoc (Writes_put s F.TWN_ST_STATE 0 6 (by decide)) (f := F.TWN_ST_ROLE) (i := 0)
    (v := if s.twn.lead then 1 else 2) (by split <;> decide)
  have hattl := Writes_snoc hrole (f := F.TWN_ST_ATTL) (i := 0) (v := 1) (by decide)
  exact Writes_snoc (Writes_snoc hattl (f := F.TWN_ST_PHLOCK) (i := 0) (v := 1) (by decide)) (f := F.TWN_ST_DIGOK) (i := 0) (v := 1) (by decide)

/-- PAIRED shows: the role, ATTL, and the driver role of the Lead. -/
theorem enterPaired_shows (s : State) : tst (enterPaired s) = 6 ∧ (enterPaired s).fld F.TWN_ST_ROLE = (if s.twn.lead then 1 else 2) ∧
    (enterPaired s).bit F.TWN_ST_ATTL = true ∧ (enterPaired s).pls.role = s.twn.lead ∧ (enterPaired s).twn.loaded = true := by
  have hwrites := pairRegs_writes s
  have hformed : ∃ u, enterPaired s = raise 32 noDetail (setRole s.twn.lead u) ∧ u.twn.loaded = true ∧
      WritesOnly [F.TWN_PHASE_PHERR] (pairRegs s) u := by
    refine ⟨_, enterPaired_eq s, ?_⟩
    split
    · exact ⟨rfl, WritesOnly.of_put (l := [F.TWN_PHASE_PHERR]) (g := F.TWN_PHASE_PHERR) (pairFormed s) 0 0 (by decide)⟩
    · exact ⟨rfl, .refl _ (pairRegs s)⟩
  generalize pairRegs s = v at hwrites hformed
  obtain ⟨u, heq, hloaded, honly⟩ := hformed
  rw [heq]
  refine ⟨(raise_fld_kept 32 _ _ 0).trans ((honly.fld 0).trans (Writes_fld hwrites (by simp))),
    (raise_fld_kept 32 _ _ 0).trans ((honly.fld 0).trans (Writes_fld hwrites (by simp))),
    (raise_bit_kept 32 _ _ 0).trans ((honly.bit 0).trans (Writes_bit hwrites (by simp))),
    congrArg PlsSt.role (raise_pls ..), (congrArg TwnSt.loaded (raise_twn ..)).trans hloaded⟩

section Transfer

variable {s : State}

theorem answerTransfer_held (s : State) : PairHeld s (answerTransfer (takeWhole 3 s)) :=
  (PairHeld.refl s).twin.ite (PairHeld.refl s).twin.after_tetherSend

/-- A state transfer that is ready to be loaded enters PAIRED, under the role agreed. -/
theorem stateTransfer_pairs (x : Transfer) (h : transferReady s = true) : ∃ u, stateTransfer x s = enterPaired u ∧
    u.twn.lead = s.twn.lead := by
  have hanswer := answerTransfer_held s
  unfold stateTransfer
  rw [if_pos h]
  dsimp only
  generalize answerTransfer (takeWhole 3 s) = u at hanswer
  cases x with
  | checkpoint time vals pulse => exact ⟨_, rfl, ((hanswer.after_takeTwinSlot.ite hanswer).after_leadPulse).lead⟩
  | running time accs pulse =>
    dsimp only
    split
    · exact ⟨_, rfl, hanswer.after_leadPulse.lead⟩
    · refine ⟨_, rfl, ?_⟩
      unfold takeRunning
      extract_lets s1
      have h1 : PairHeld s s1 := hanswer.foldl _ fun _ _ hu => hu.elsewhere
      exact ((PairHeld.refl _).after_loadOuts.lead.trans (startMetering_lead _)).trans h1.lead

end Transfer

/-! ### The loss of the Tether (R221, R225, R226) -/

section Lost

variable {s : State}

/-- The loss of the Tether is latched and raised. -/
def lossShown (s : State) : State := raise 34 noDetail (s.put F.TWN_ST_LOSSL 0 1)

/-- The driver role passes with the loss of a PAIRED twin. -/
def lossRoled (s : State) : State :=
  if tst s = 6 then (if s.twn.lead then setRole false (lossShown s) else takeOver (lossShown s)) else lossShown s

theorem takeOver_held (s : State) : PairHeld (setRole true s) (takeOver s) :=
  (PairHeld.refl _).foldl _ fun _ _ hu => hu.put.after_raise.ite hu

theorem lossRoled_shows (s : State) : (lossRoled s).bit F.TWN_ST_LOSSL = true ∧
    (lossRoled s).pls.role = if tst s = 6 then !s.twn.lead else s.pls.role := by
  have hlatch : (lossShown s).bit F.TWN_ST_LOSSL = true := (raise_bit_kept 34 _ _ 0).trans (bit_of_fld_one (put_fld_same ..))
  have hrole : (lossShown s).pls.role = s.pls.role := congrArg PlsSt.role (raise_pls ..)
  unfold lossRoled
  split
  · by_cases hlead : s.twn.lead = true
    · rw [if_pos hlead, hlead]
      exact ⟨hlatch, rfl⟩
    · rw [if_neg hlead, Bool.eq_false_iff.2 hlead]
      have hheld := takeOver_held (lossShown s)
      exact ⟨(hheld.bit 0 (f := F.TWN_ST_LOSSL)).trans hlatch, hheld.role⟩
  · exact ⟨hlatch, hrole⟩

/-- A lost Tether goes to SOLO with its latch; the driver role passes where the pair was PAIRED. -/
theorem tetherLost_shows (hlo : 3 ≤ tst s) (hhi : tst s ≤ 6) : tst (tetherLost s) = 7 ∧ (tetherLost s).bit F.TWN_ST_LOSSL = true ∧
    (tetherLost s).fld F.TWN_ST_ROLE = 0 ∧ (tetherLost s).pls.role = if tst s = 6 then !s.twn.lead else s.pls.role := by
  have heq : tetherLost s = linkQuiet 0 1000000 (toSolo (lossRoled s)) := by
    have hlinked : tst s = 3 ∨ tst s = 4 ∨ tst s = 5 ∨ tst s = 6 := by omega
    unfold tetherLost
    rw [if_pos hlinked]
    rfl
  obtain ⟨hlatch, hrole⟩ := lossRoled_shows s
  have hsolo := toSolo_shows (lossRoled s)
  rw [heq]
  generalize toSolo (lossRoled s) = u at hsolo
  have hquiet : PortsSent u (linkQuiet 0 1000000 u) := (PortsSent.refl u).after_setPort
  exact ⟨(hquiet.fld _ _).trans hsolo.state, (congrArg (· != 0) (hquiet.fld _ _)).trans ((hsolo.latches F.TWN_ST_LOSSL (by decide)).trans
    hlatch), (hquiet.fld _ _).trans hsolo.noRole, hsolo.drives.trans hrole⟩

end Lost

/-! ### Messages that are missing (R226) -/

section Late

variable {s : State} (type mseq : Nat)

/-- Is this the message of a type and MSEQ? -/
def namedMsg (x : TwnSent) : Bool := x.type == type && x.mseq == mseq

/-- A message is sent again, and marked so. -/
theorem sentTimeout_again {m : TwnSent} (h : s.twn.msgs.find? (namedMsg type mseq) = some m) (hfirst : m.again = false) :
    sentTimeout type mseq s = { s with cvn := (sentTimeout type mseq s).cvn, twn := { s.twn with
      msgs := s.twn.msgs.map fun x => if namedMsg type mseq x then { x with again := true } else x } } := by
  have hmark : (fun x : TwnSent => if x.type = type ∧ x.mseq = mseq then { x with again := true } else x) =
      fun x => if namedMsg type mseq x then { x with again := true } else x := by
    funext x
    simp [namedMsg]
  have heq : sentTimeout type mseq s = sendSegments type mseq m.bytes { s with twn := { s.twn with
      msgs := s.twn.msgs.map fun x => if namedMsg type mseq x then { x with again := true } else x } } := by
    unfold sentTimeout
    rw [show (s.twn.msgs.find? fun m => m.type == type && m.mseq == mseq) = some m from h]
    dsimp only
    rw [if_neg (by simp [hfirst]), hmark]
  rw [heq, sendSegments_eq]

theorem sentTimeout_lost {m : TwnSent} (h : s.twn.msgs.find? (namedMsg type mseq) = some m) (hagain : m.again = true) :
    sentTimeout type mseq s = tetherLost s := by
  unfold sentTimeout
  rw [show (s.twn.msgs.find? fun m => m.type == type && m.mseq == mseq) = some m from h]
  exact if_pos hagain

theorem sentTimeout_none (h : s.twn.msgs.find? (namedMsg type mseq) = none) : sentTimeout type mseq s = s := by
  unfold sentTimeout
  rw [show (s.twn.msgs.find? fun m => m.type == type && m.mseq == mseq) = none from h]

end Late

/-- ATTWAIT is over. -/
def waitOver (s : State) : State := { s with twn := { s.twn with waited := true } }

/-- Settles O48: each command of the Tether by the state that it finds it in; leaving the pair keeps the latches and the driver role. -/
theorem tetherTrainsAndAttaches : Obligations.TetherTrainsAndAttaches := by
  refine ⟨fun s hon hstate => ?_, fun s ts hon hstate => ⟨fun hbad => ?_, fun hgood hver hside hlead hsets hack hcheck => ?_,
    fun hgood hver hside => ?_⟩, fun s => ⟨fun hstate => ?_, fun hsolo => ?_⟩, fun s peer role hcheck => ⟨fun hmatch => ?_, fun hdiffer => ?_⟩,
    fun s phase site hstate => ?_, fun s x hstate => ⟨fun hready => ?_, fun hpass hmet => ?_⟩, fun s hrun hen hmet hany hstate => ?_,
    fun s n => ?_, fun s hlo hhi => ⟨_, rfl, tetherLost_shows hlo hhi⟩, fun s type mseq hlo hhi => ⟨fun hnone => ?_, fun m hsent hagain => ?_,
    fun m hsent hfirst => ?_, fun htype => ?_, fun htype hrep => ?_, fun htype hrep => ?_⟩⟩
  · exact ⟨_, congrArg Host.Outcome.next (if_pos hon), tetherComma_trains hstate⟩
  · exact congrArg Host.Outcome.next ((if_pos hon).trans (tetherSet_bad hstate hbad))
  · exact ⟨_, congrArg Host.Outcome.next (if_pos hon), tetherSet_eighth hstate hgood hver hside hlead hsets hack hcheck⟩
  · have hfailed := (tetherSet_good hstate hgood hver).trans (if_pos (.inl hside))
    obtain ⟨hsolo, hlatch, -⟩ := trainFailed_shows s
    exact ⟨_, congrArg Host.Outcome.next ((if_pos hon).trans hfailed), hsolo, hlatch⟩
  · obtain ⟨hsolo, hlatch, -⟩ := trainFailed_shows s
    rcases hstate with hseek | htrain
    · have hnot : ¬ tst s = 2 := by omega
      exact ⟨_, congrArg Host.Outcome.next ((if_neg hnot).trans (if_pos hseek)), (toSolo_shows s).state, fun h => (hnot h).elim⟩
    · exact ⟨_, congrArg Host.Outcome.next (if_pos htrain), hsolo, fun _ => hlatch⟩
  · exact congrArg Host.Outcome.next (if_pos hsolo)
  · exact ⟨_, rfl, digestCompare_syncs hcheck hmatch⟩
  · exact ⟨_, rfl, digestCompare_fails hcheck hdiffer⟩
  · obtain ⟨⟨hmarks, hescort, hlead⟩, hnext⟩ := tetherMark_shows phase site s hstate
    exact ⟨_, rfl, hmarks, hnext, hescort, hlead⟩
  · have htransfer : transferReady s = true := by
      rcases hready with h | h <;> simp [transferReady, hstate, h]
    obtain ⟨u, heq, hlead⟩ := stateTransfer_pairs x htransfer
    have hpaired := enterPaired_shows u
    rw [hlead] at hpaired
    exact ⟨_, congrArg Host.Outcome.next heq, hpaired⟩
  · exact congrArg Host.Outcome.next (if_neg (by simp [transferReady, hpass, hmet]))
  · have hwait : (running s && s.bit F.TWN_CFG_EN && !s.pwr.metering && s.cal.anyRun && tst s != 6) = true := by
      simp [hrun, hen, hmet, hany, hstate]
    by_cases htrain : tst s = 2
    · obtain ⟨hsolo, -, hkept⟩ := trainFailed_shows (waitOver s)
      have heq : attachWaitExpire s = trainFailed (waitOver s) := (if_pos hwait).trans (if_pos htrain)
      exact ⟨_, congrArg Host.Outcome.next heq, hsolo, hkept⟩
    · have hsolo := toSolo_shows (waitOver s)
      have heq : attachWaitExpire s = toSolo (waitOver s) := (if_pos hwait).trans (if_neg htrain)
      exact ⟨_, congrArg Host.Outcome.next heq, hsolo.state, hsolo.waited⟩
  · exact ⟨_, rfl, mget_mput_same false s.twn.warm n.val false, rfl, fun m hm => mget_mput_other false false s.twn.warm n.val m false hm⟩
  all_goals have hlinked : 4 ≤ tst s ∧ tst s ≤ 6 := ⟨hlo, hhi⟩
  · exact congrArg Host.Outcome.next ((if_pos hlinked).trans (sentTimeout_none _ _ hnone))
  · exact congrArg Host.Outcome.next ((if_pos hlinked).trans (sentTimeout_lost _ _ hsent hagain))
  · exact ⟨_, congrArg Host.Outcome.next (if_pos hlinked), sentTimeout_again _ _ hsent hfirst⟩
  · have hrecord : type.val + 1 = 1 := by simp [htype]
    exact congrArg Host.Outcome.next ((if_pos hlinked).trans ((if_neg Bool.false_ne_true).trans (if_pos hrecord)))
  · have hrecord : ¬ type.val + 1 = 1 := fun h => htype (Fin.ext (Nat.succ.inj h))
    exact congrArg Host.Outcome.next ((if_pos hlinked).trans
      ((if_neg Bool.false_ne_true).trans ((if_neg hrecord).trans (if_pos (by simpa using hrep)))))
  · have hrecord : ¬ type.val + 1 = 1 := fun h => htype (Fin.ext (Nat.succ.inj h))
    exact congrArg Host.Outcome.next ((if_pos hlinked).trans
      ((if_neg Bool.false_ne_true).trans ((if_neg hrecord).trans (if_neg (by simpa using hrep)))))

end Sys2Proof.Machine
end
